-- ==== Sys2Proof/Word.lean ====
section
/-! DEFINITION. The word types of the model and their plainest arithmetic.

Dictionary data, ring entries and DRAM hold bytes (R272, R250); everything the manual counts, compares or
schedules by (Stamp time, sublines, counters) is a natural number kept modulo its width where it is written. -/

namespace Sys2Proof

/-- One byte of dictionary data, of a ring entry or of a memory. -/
abbrev Byte := BitVec 8

/-- A string of bytes, first byte first. -/
abbrev Bytes := List Byte

end Sys2Proof
end

