-- ==== Sys2Proof/Syntax.lean ====
section
/-! DEFINITION. The commands of the block: one constructor per row of the manual's table of operations and events,
with the values that come with it from outside: from a host, from a network, from a pin or from a sensor.
What a row leaves to the module's own state is no operand of it. -/

namespace Sys2Proof

/-- The two paths of the dictionary (R270). -/
inductive Path where
  | ethercat | mailbox
  deriving DecidableEq, Repr

/-- A 64-byte ring entry as the module copies it from host memory: eight little-endian words (R250); `none` where the
read of the entry fails. -/
abbrev Entry := Option (List Nat)

/-- One filtered quadrature transition (R25). -/
inductive Edge where
  /-- channel A leads -/
  | forward
  /-- channel B leads -/
  | backward
  /-- A and B change within one filter window -/
  | illegal
  deriving DecidableEq, Repr

/-- The phase error the tracking loop measures at an edge (R27). -/
inductive PhaseError where
  /-- below half an edge -/
  | small
  /-- half an edge to 2 edges -/
  | medium
  /-- above 2 edges -/
  | large
  deriving DecidableEq, Repr

/-- One message on a lane of the fault network (R398, R399): the lane, the 64 bits, and the CRC-8 that travels with them. -/
structure Message where
  lane : Nat
  word : Nat
  crc : Nat
  deriving DecidableEq, Repr

/-- The ports J4 and J5 (R289): bit 0 and bit 1 of the links that are up, and the receive errors of both ports since the last
report. -/
structure Ports where
  links : Nat
  errors : Nat
  deriving DecidableEq, Repr

/-- What the ECC of DRAM meets in a transaction (R215): 0 no error, 1 a correctable one, 2 an uncorrectable one, and the byte address at
which it stands. -/
structure Ecc where
  kind : Nat
  address : Nat
  deriving DecidableEq, Repr

/-- A trained link (R246, R247, R256, R264): its width, the correctable errors reported since it was trained last, and Bus Master
Enable. -/
structure Trained where
  width : Nat
  errors : Nat
  master : Bool
  deriving DecidableEq, Repr

/-- A write to BAR0 (R248): 0 a 64-bit write, 1 and 2 a 32-bit write of the low and of the high half; and its value. -/
structure BarWrite where
  part : Nat
  value : Nat
  deriving DecidableEq, Repr

/-- An entry of the MSI-X table as the host writes it (R248): its vector, message address and data, and the control word with the mask
in bit 0. -/
structure VectorEntry where
  vector : Nat
  address : Nat
  data : Nat
  control : Nat
  deriving DecidableEq, Repr

/-- What a drive senses of its motor at a zero crossing or a zero-vector pulse (R292, R302): the back-EMF in mV, and the sector, 0 to 5,
in which its vector stands. -/
structure BackEmf where
  emf : Nat
  sector : Nat
  deriving DecidableEq, Repr

/-- A NAND block (R448, R449), and the pages of it that are programmed into a fresh block. -/
structure NandBlock where
  block : Nat
  pages : Nat
  deriving DecidableEq, Repr

/-- One answer frame of a beam driver as the module receives it (R130): 32 bits, or `none` where nothing came. -/
abbrev Frame := Option Nat

/-- One SOS or EOS crossing of a beam as the time-to-digital converter gives it (R63, R119): the Stamp time of the crossing
and the width of its pulse, in 1/64 ns, the converter's resolution of 15.625 ps. -/
structure Crossing where
  beam : Nat
  time : Nat
  width : Nat
  deriving DecidableEq, Repr

/-- What host memory answers a command's accesses with: the parts that can be read, as address and bytes; whether a read
outside them times out or is answered with an error; whether writes succeed. -/
structure HostMem where
  parts : List (Nat × Bytes)
  timeout : Bool
  writable : Bool
  deriving DecidableEq, Repr

/-- How a start of the module goes (R450, R467, R468, R489): whether Alinagrim comes to set DICTIONARY_UP, whether the Crock
mounts, whether the MRAM copy of the stored record passes its check (R280), the firmware partitions whose image fails its CRC-32 at the
read, and the units that fail their self-test. -/
structure Boot where
  runs : Bool
  mounts : Bool
  mram : Bool
  bad : List Nat
  failing : List Nat
  deriving DecidableEq, Repr


/-- The commands: one constructor per row of the operation table. A field is what the row leaves to its sender: the
unit it acts on, the values a host or a bus brings, and what the module senses of its surroundings at that moment. -/
inductive Instr where
  /-- COLD_POWER_UP (R467): Mains reaches its operating range on J1, and the module runs the power-up sequence from
  Trivet release to DICTIONARY_UP. -/
  | coldPowerUp (boot : Boot)
  /-- TRIVET_RAIL_LOST (R376): The Trivet rail fails, so the next start is a cold power-up and the trace, sticky bits
  and Checkpoint SRAM are lost. -/
  | trivetRailLost
  /-- DICTIONARY_WRITE (R270): A write to a dictionary object that has no row of its own is checked atomically and is
  either applied or rejected with an abort and a detail code. `answers`: the frames beam drivers answer with where
  the write re-initialises a station. -/
  | dictionaryWrite (path : Path) (index : Nat) (sub : Nat) (data : Bytes) (answers : List Frame)
  /-- SDO_DOWNLOAD (R270): An EtherCAT SDO download request is served as one atomic dictionary write on the EtherCAT
  path. `answers` as for DICTIONARY_WRITE. -/
  | sdoDownload (index : Nat) (sub : Nat) (data : Bytes) (answers : List Frame)
  /-- SDO_UPLOAD (R270): An EtherCAT SDO upload request returns the value of one object. -/
  | sdoUpload (index : Nat) (sub : Nat)
  /-- SDO_COMPLETE_ACCESS (R276): An SDO complete access reads a whole record in one sample, or checks every subindex
  of a record and then writes them all in one step. `data` is empty on a read. -/
  | sdoCompleteAccess (write : Bool) (index : Nat) (start : Nat) (data : Bytes)
  /-- GET_OD_LIST (R271): An SDO Information Get OD List request returns every object present on the variant. -/
  | getOdList
  /-- GET_OBJECT_DESCRIPTION (R268): An SDO Information request returns the description of one object. -/
  | getObjectDescription (index : Nat)
  /-- GET_ENTRY_DESCRIPTION (R268): An SDO Information request returns the description of one object entry. -/
  | getEntryDescription (index : Nat) (sub : Nat)
  /-- MAILBOX_READ (R285): A READ request taken from ring 60 reads one object and is answered on ring 61. `hostOk`: a
  write of the data to BUFFER succeeds. -/
  | mailboxRead (entry : Entry) (hostOk : Bool)
  /-- MAILBOX_WRITE (R285): A WRITE request taken from ring 60 writes one object on the mailbox path and is answered
  on ring 61. `host`: the data at BUFFER, `none` where the host read fails. `answers` as for DICTIONARY_WRITE. -/
  | mailboxWrite (entry : Entry) (host : Option Bytes) (answers : List Frame)
  /-- MAILBOX_READ_COMPLETE (R276): A READ_COMPLETE request on ring 60 reads a whole record in one sample. `hostOk` as
  for MAILBOX_READ. -/
  | mailboxReadComplete (entry : Entry) (hostOk : Bool)
  /-- MAILBOX_WRITE_COMPLETE (R276): A WRITE_COMPLETE request on ring 60 checks every subindex of a record and then
  writes them all in one step. `host` as for MAILBOX_WRITE. -/
  | mailboxWriteComplete (entry : Entry) (host : Option Bytes)
  /-- ESM_STATE_REQUEST (R269): The EtherCAT master requests a state of the state machine, and the module takes the
  transition, leaves it pending, or refuses it with an AL status code. `managers`: the lengths the master has set
  for the mailbox sync managers SM0 and SM1; `sync0Active`: SYNC0 runs. -/
  | esmStateRequest (state : Nat) (managers : List Nat) (sync0Active : Bool)
  /-- PDO_CYCLE (R283): At each process-data event the module samples the TxPDO in one grid step and applies the
  changed RxPDO entries in mapping order. `rx`: the RxPDO frame received for the cycle, with a valid working
  counter. -/
  | pdoCycle (rx : Option Bytes)
  /-- SM2_WATCHDOG_EXPIRED (R284): The SM2 watchdog expires, the module falls from OP to SAFEOP, stops applying RxPDO
  values and carries out Watchdog action. -/
  | sm2WatchdogExpired
  /-- PORT_LINK_CHANGE (R289): The physical 100BASE-TX link of J4 or J5 changes, which updates Port links and writes
  EV102. -/
  | portLinkChange (ports : Ports)
  /-- STORE_PARAMETERS (R278): Writing "save" to 0x1010 stores the selected part of the stored set to the Crock and to
  MRAM as a double-buffered record. -/
  | storeParameters (path : Path) (sub : Nat) (value : Nat)
  /-- RESTORE_DEFAULT_PARAMETERS (R279): Writing "load" to 0x1011 marks the selected part of the stored record as
  defaults, which take effect at the next start. -/
  | restoreDefaultParameters (path : Path) (sub : Nat) (value : Nat)
  /-- ENCODER_EDGE (R25): A filtered quadrature transition on an enabled encoder updates the edge count and the
  tracking loop, or counts as illegal and raises loss of sync. -/
  | encoderEdge (n : Nat) (edge : Edge) (err : PhaseError)
  /-- ENCODER_STANDSTILL_TIMEOUT (R27): No edge arrives for Standstill time, and the tracking loop enters STANDSTILL. -/
  | encoderStandstillTimeout (n : Nat)
  /-- ENCODER_SIGNAL_INVALID (R503): An encoder differential input is open or shorted, or lies outside its voltage
  limits, and the loop enters FAULT. -/
  | encoderSignalInvalid (n : Nat)
  /-- ENCODER_ENABLE_WRITE (R27): A write of Encoder enable starts the decoder in ACQUIRING or takes the loop to
  DISABLED. -/
  | encoderEnableWrite (path : Path) (n : Nat) (data : Bytes)
  /-- AXIS_PRESET (R30): An Axis preset written while the axis is idle sets the axis position in the next grid step
  and writes EV039. -/
  | axisPreset (path : Path) (n : Nat) (data : Bytes)
  /-- CAPTURE (R32): The chosen edge on a capture channel's input holds for the filter time, so the channel stores the
  edge time and axis value, writes EV040 and resolves every slot PENDING on it. `ns`: how far into the grid step
  of 4 ns the filter was satisfied. -/
  | capture (ch : Nat) (rising : Bool) (ns : Nat)
  /-- CAPTURE_CONFIG_WRITE (R33): A write of a capture configuration word, which is accepted only while the channel is
  disabled or is being disabled with no slot pending on it. -/
  | captureConfigWrite (path : Path) (ch : Nat) (data : Bytes)
  /-- MAINS_ZERO_CROSSING (R36): The detector sees a mains zero crossing, which aligns the phase and drives the mains
  time base state table. -/
  | mainsZeroCrossing (positive : Bool)
  /-- MAINS_CROSSING_MISSING (R36): No positive-going crossing arrives for 1.5 periods, and the mains time base enters
  HOLDOVER. -/
  | mainsCrossingMissing
  /-- MAINS_HOLDOVER_EXPIRED (R518): Holdover cycles pass without a qualifying crossing, and the mains time base
  becomes INVALID. -/
  | mainsHoldoverExpired
  /-- SET_OUTPUT (R143): A schedule slot falls due with action SET_OUTPUT, turns OUTn on and writes EV041. -/
  | setOutput (slot : Nat)
  /-- CLEAR_OUTPUT (R143): A schedule slot falls due with action CLEAR_OUTPUT and turns OUTn off. -/
  | clearOutput (slot : Nat)
  /-- DIVERT (R166): A schedule slot falls due with action DIVERT and turns OUTn on if the page's spoil flag is set in
  that grid step. -/
  | divert (slot : Nat)
  /-- START_IMAGE (R90): A schedule slot falls due with action START_IMAGE and latches the image frame, with origin O,
  extent margin E and tables, on the station. -/
  | startImage (slot : Nat)
  /-- STOP_IMAGE (R95): A schedule slot falls due with action STOP_IMAGE, which truncates an incomplete image and
  spoils its page. -/
  | stopImage (slot : Nat)
  /-- RELEASE_BANDS (R157): A schedule slot falls due with action RELEASE_BANDS and releases the page's queued decodes
  for the station. -/
  | releaseBands (slot : Nat)
  /-- HV_ON (R361): A schedule slot falls due with action HV_ON, and the HV channel enters ON at the mapped set-point. -/
  | hvOn (slot : Nat)
  /-- HV_RAMP (R361): A schedule slot falls due with action HV_RAMP, and the channel ramps linearly to the mapped set-
  point in 2^k ms. -/
  | hvRamp (slot : Nat)
  /-- HV_OFF (R361): A schedule slot falls due with action HV_OFF, the PWM goes to 0 and the channel enters IDLE. -/
  | hvOff (slot : Nat)
  /-- STEP_MOVE (R328): A schedule slot falls due with action STEP_MOVE, which starts a stepper move from the move
  table or refuses it. -/
  | stepMove (slot : Nat)
  /-- DRIVE_PROFILE (R306): A schedule slot falls due with action DRIVE_PROFILE and loads a profile entry into a drive
  channel's speed command and profile generator. -/
  | driveProfile (slot : Nat)
  /-- RAISE_EVENT (R143): A schedule slot falls due with action RAISE_EVENT and writes EV085. -/
  | raiseEvent (slot : Nat)
  /-- CHECK_INPUT (R162): A schedule slot falls due with action CHECK_INPUT, samples an input and may spoil the page
  or end it as a jam. `level`: the level of the input the step names. -/
  | checkInput (slot : Nat) (level : Bool)
  /-- DELIVERY_CHECK (R162): A schedule slot falls due with action DELIVERY_CHECK and opens the delivery window on an
  input. -/
  | deliveryCheck (slot : Nat)
  /-- PAGE_STATE (R151): A schedule slot falls due with action PAGE_STATE, and the page takes TRANSFERRED, FUSED or
  DELIVERED. -/
  | pageState (slot : Nat)
  /-- OUTPUT_OVERCURRENT (R45): A general output carries 0.75 A or more for 100 µs, switches off and latches, and
  fault 0x74 is raised. `mask`: the outputs that have carried 0.75 A or more for 100 µs. -/
  | outputOvercurrent (mask : Nat)
  /-- OVERCURRENT_CLEAR (R46): A write to Overcurrent clear clears the overcurrent latch bits written as 1. -/
  | overcurrentClear (path : Path) (data : Bytes)
  /-- STAMP_SYNC_EDGE (R50): A STAMP_SYNC edge on J31 is captured and, in source 2, steers the rate of the Stamp
  Clock. `ns`: nanoseconds of the edge at the pin beyond the present grid step; the capture's fixed delay of 6 ns
  is subtracted already (R502). -/
  | stampSyncEdge (rising : Bool) (ns : Nat)
  /-- DC_SYNC_CYCLE (R48): A distributed-clocks sync cycle gives a DC system time against which the Stamp Clock is
  frequency-locked and DC offset is kept. `time`: the DC system time of the cycle. -/
  | dcSyncCycle (time : Nat)
  /-- ALIGNMENT_SYNC_LOST (R49): Three expected sync cycles or pulses are missing, and alignment enters HOLDOVER. -/
  | alignmentSyncLost
  /-- ALIGNMENT_SOURCE_WRITE (R49): A write of Alignment source moves alignment to ACQUIRING or to FREE. -/
  | alignmentSourceWrite (path : Path) (data : Bytes)
  /-- HOST_MARKER (R51): A write to Host marker makes the active sequencer raise EV031 with the written value. -/
  | hostMarker (path : Path) (data : Bytes)
  /-- TRACE_ENTRY (R53): 64 ns after its Stamp time a held record enters the trace in order, and is discarded under
  Trace policy when the trace is full. -/
  | traceEntry
  /-- DRAIN_HOLDOFF_EXPIRED (R56): One record has waited Drain holdoff, and the module writes it to its ring with a
  padding record. -/
  | drainHoldoffExpired (ring : Nat)
  /-- SOS_WINDOW_OPEN (R91): A facet's SOS window opens, a(f) is sampled, band residency is checked, and line
  assignment forms the firing beams, the deficit and the frontier. -/
  | sosWindowOpen (n : Nat)
  /-- FACET_SOS (R63): The corrected SOS time of a facet is formed or predicted, beam health is evaluated, and the
  facet clock is loaded. `crossings`: the SOS crossings since the last facet. -/
  | facetSos (n : Nat) (crossings : List Crossing)
  /-- EOS_MEASURED (R72): A facet's EOS window closes, the corrected EOS time is formed, and T(f) and Tmean are
  learned, or a missing EOS is counted. `crossings`: the EOS crossings of the facet. -/
  | eosMeasured (n : Nat) (crossings : List Crossing)
  /-- LOCK_ENABLE_WRITE (R67): A write of a polygon's Lock enable starts lock from IDLE, returns the polygon to IDLE,
  or clears SYNC LOSS. -/
  | lockEnableWrite (path : Path) (p : Nat) (data : Bytes)
  /-- SEEK_TIMEOUT (R67): Seek timeout elapses in SEEKING, the polygon returns to IDLE and a fault is raised. -/
  | seekTimeout (p : Nat)
  /-- RELEARN (R77): A Relearn command clears the signature and the learned intervals, and facet identity passes
  through UNRESOLVED to LEARNING. -/
  | relearn (path : Path) (p : Nat) (data : Bytes)
  /-- FACET_SIGNATURE_WRITE (R71): A write of Facet signature replaces the stored signature and moves a FLAT identity
  to UNRESOLVED. -/
  | facetSignatureWrite (path : Path) (p : Nat) (data : Bytes)
  /-- ENGAGE_REQUEST_WRITE (R84): A write of Engage request is kept until the page-boundary condition holds. -/
  | engageRequestWrite (path : Path) (n : Nat) (data : Bytes)
  /-- STATION_ENGAGE_CHANGE (R84): The page-boundary condition holds with a pending Engage request, and the station
  moves between RETRACTED and ENGAGED. -/
  | stationEngageChange (n : Nat)
  /-- LASER_ENABLE_WRITE (R86): A write of Laser enable drives LASER_EN_n within 100 ns, and TRUE is rejected while a
  Lid reaction holds the pin. -/
  | laserEnableWrite (path : Path) (n : Nat) (data : Bytes)
  /-- APC_SEQUENCE (R113): 10.0 µs after the corrected or predicted EOS the station runs the back-porch APC sequence,
  lighting beams slot by slot and exchanging frames with each driver. `answers`: the frame received with each
  frame sent, in order. -/
  | apcSequence (n : Nat) (answers : List Frame)
  /-- READ_CURRENT (R131): Beam driver command READ_CURRENT returns the current code a beam holds. `answers` as for
  APC_SEQUENCE: READ_CURRENT and the NOP that collects it. -/
  | readCurrent (n : Nat) (beam : Nat) (answers : List Frame)
  /-- DRIVER_STATUS_POLL (R135): Status poll interval elapses for a driver, and the module polls it with READ_STATUS,
  READ_TEMP and NOP. `answers` as for APC_SEQUENCE. -/
  | driverStatusPoll (n : Nat) (driver : Nat) (answers : List Frame)
  /-- BEAM_RESTORE (R124): A write to Beam restore returns DEAD beams to GOOD when no page naming the station is
  COMMITTED or IMAGING. -/
  | beamRestore (path : Path) (n : Nat) (data : Bytes)
  /-- RETIRED_BEAMS_WRITE (R124): A write of Retired beams moves beams between RETIRED and GOOD, unless it would leave
  an adjacent pair. -/
  | retiredBeamsWrite (path : Path) (n : Nat) (data : Bytes)
  /-- VCSEL_THERMISTOR_SAMPLE (R125): Every 1.0 ms the station's VCSEL thermistor is sampled, which updates the broken
  mark, the temperature state and the temperature band. `ohms`: the resistance of the thermistor. -/
  | vcselThermistorSample (n : Nat) (ohms : Nat)
  /-- LASER_OFF_END_OF_LINE (R127): At the end of the scan line in progress after a temperature SHUTDOWN, the module
  drives LASER_EN_n low. -/
  | laserOffEndOfLine (n : Nat)
  /-- PAGE_PLAN_SUBMIT (R146): A page plan taken from ring 56 enters QUEUED or is answered with an error status on
  ring 58. -/
  | pagePlanSubmit (entry : Entry)
  /-- RELEASE (R147): Page command RELEASE frees the DRAM copy of a DELIVERED or SPOILED page and makes it PURGED. -/
  | release (entry : Entry)
  /-- CANCEL (R147): Page command CANCEL frees the stored bands of a QUEUED, RESIDENT or ADMITTED page and makes it
  PURGED. -/
  | cancel (entry : Entry)
  /-- REPRINT (R168): Page command REPRINT makes a new RESIDENT page at the head of the admission order from a
  DELIVERED or SPOILED page. -/
  | reprint (entry : Entry)
  /-- MARK_SPOILED (R147): Page command MARK_SPOILED sets the spoil flag of a committed page with cause 14. -/
  | markSpoiled (entry : Entry)
  /-- RECIPE_WRITE (R144): A recipe DOMAIN write is checked whole for format and structure and is then accepted or
  rejected. -/
  | recipeWrite (path : Path) (r : Nat) (data : Bytes)
  /-- ADMISSION_TEST (R153): Every 1.0 ms, and at each change of a tested quantity, the active sequencer tests the
  head page and admits it, refuses it, or returns an ADMITTED page to RESIDENT. `inputs`: the levels of IN1 to
  IN48, bit k - 1. -/
  | admissionTest (inputs : Nat)
  /-- COMMIT (R157): When A1 reaches the commit gate, or at a retry 1.0 ms later, the module arms the page and issues
  the commit strobe, or undoes the arming. -/
  | commit
  /-- GATE_SKIP (R160): A1 reaches the commit gate while a throttle condition holds, so the gate moves one pitch later
  and EV084 is written. -/
  | gateSkip
  /-- DELIVERY_EDGE (R162): The first edge of the chosen sense within an open delivery window ends the page DELIVERED
  or SPOILED. -/
  | deliveryEdge (input : Nat) (rising : Bool)
  /-- DELIVERY_WINDOW_EXPIRED (R162): A delivery window closes without its edge, and the page ends SPOILED with cause
  10. -/
  | deliveryWindowExpired (tag : Nat)
  /-- PAGE_DEADLINE_EXPIRED (R163): DEADLINE elapses before the page has ended, and the page ends SPOILED with cause
  11. -/
  | pageDeadlineExpired (tag : Nat)
  /-- WEB_BREAK (R170): Web break input becomes active, every page in flight takes the spoil flag with cause 12, and
  EV087 is written. -/
  | webBreak
  /-- SPLICE (R170): Splice input becomes active, the splice becomes pending, and committed and imaging pages are
  spoiled with cause 13. -/
  | splice
  /-- SPLICE_CLEARED (R170): A1 advances Splice clearance lines past the deactivation of Splice input, and the splice
  is no longer pending. -/
  | spliceCleared
  /-- CHECK_LANE_COMPLETE (R185): A check lane finishes or fails a block, and the block is accepted into its band or
  freed, with its ingest completion written. `lane`: 1 to 8. `poison`: the first byte of the block that came
  poisoned. -/
  | checkLaneComplete (lane : Nat) (poison : Option Nat)
  /-- DECODE_BLOCK_COMPLETE (R189): A decode lane ends a block, and the block either completes its band or is reissued
  under R190. `lane`: 1 to 24. `good`: the output had the CRC-32 of the header. `stalls`: cycles that the lane
  stood still. -/
  | decodeBlockComplete (lane : Nat) (good : Bool) (stalls : Nat)
  /-- LANE_FAULT (R207): An uncorrectable error, parity error or timeout inside a Press lane takes it OUT OF SERVICE,
  and its block or job is returned for reissue. `code`: the lane code of R208. `kind`: 2, 3 or 4. -/
  | laneFault (code : Nat) (kind : Nat)
  /-- LANE_SELF_TEST_DONE (R207): A Press lane's self-test ends, and the lane enters IN SERVICE or OUT OF SERVICE.
  `code`: the lane code of R208. `result`: 0 pass, else the failing test. -/
  | laneSelfTestDone (code : Nat) (result : Nat)
  /-- TAKE_OUT_OF_SERVICE (R212): A write to Take out of service takes a named Press lane OUT OF SERVICE, unless the
  lane state or the station's lane count forbids it. -/
  | takeOutOfService (path : Path) (data : Bytes)
  /-- ENCODE_BUFFER (R199): An ENCODE_BUFFER job taken from an encode job ring compresses its source into a Press
  block written across an output chain. `lane`: 1 to 8, on ring 27 + lane. `poison`: a read of DRAM finds an
  uncorrectable error. -/
  | encodeBuffer (lane : Nat) (entry : Entry) (host : HostMem) (poison : Bool)
  /-- ENCODE_BAND (R202): An ENCODE_BAND job taken from an encode job ring compresses a raw band into the page store
  as an accepted band block. as for ENCODE_BUFFER. -/
  | encodeBand (lane : Nat) (entry : Entry) (host : HostMem) (poison : Bool)
  /-- ENCODE_JOB_COMPLETE (R197): An encode job ends after verification, is reissued on a mismatch, and its completion
  is written to its ring in submission order. `verified`: the verify decoder found no mismatch. `writeOk`: the
  writes to host memory succeed. `stalls`: cycles that the verify decoder stood still. -/
  | encodeJobComplete (lane : Nat) (verified : Bool) (writeOk : Bool) (stalls : Nat)
  /-- STREAM_INPUT (R205): Alinagrim feeds archive input to a streaming lane, which closes the Press block when it
  reaches 1 MiB. `k`: 1 checkpoint archive, 2 event archive. -/
  | streamInput (k : Nat)
  /-- STREAM_FLUSH (R205): A flush command ends the current DEFLATE block early and appends an empty stored block. -/
  | streamFlush (k : Nat)
  /-- STREAM_CLOSE (R205): A close command closes the streaming lane's open Press block with BFINAL and its header. -/
  | streamClose (k : Nat)
  /-- FABRIC_TRANSACTION_COMPLETE (R222): A granted fabric transaction finishes its occupancy and delivers or
  acknowledges its last byte 60 ns later. `revokers`: the inputs whose requests revoked its grant, in order. -/
  | fabricTransactionComplete (input : Nat) (address : Nat) (length : Nat) (write : Bool) (revokers : List Nat) (ecc : Ecc)
  /-- SCRUB_READ (R216): In an idle fabric cycle the scrubber reads one granule and corrects any single-bit error.
  `ecc`: 0 no error, 1 correctable, 2 uncorrectable. -/
  | scrubRead (address : Nat) (ecc : Nat)
  /-- LOCK_ACQUIRE (R226): A host write to Lock acquire takes a free hardware lock, or is rejected if another owner
  holds it. -/
  | lockAcquire (path : Path) (data : Bytes)
  /-- LOCK_RELEASE (R226): A host write to Lock release releases a lock held on the writing path and clears HELD and
  BROKEN. -/
  | lockRelease (path : Path) (data : Bytes)
  /-- FENCE_ONLY (R234): A FENCE_ONLY Ladle job moves nothing and completes once every earlier write of its channel is
  acknowledged. `ch`: 1 to 16, on ring `ch` - 1. -/
  | fenceOnly (ch : Nat) (entry : Entry) (host : HostMem)
  /-- COPY_LIST (R230): A COPY_LIST Ladle job copies the source and destination element pairs of a list, with optional
  swap, lock, fence and pacing. -/
  | copyList (ch : Nat) (entry : Entry) (host : HostMem)
  /-- COPY_INDEX (R231): A COPY_INDEX Ladle job copies INDEX_LENGTH bytes for each offset read from an index table. -/
  | copyIndex (ch : Nat) (entry : Entry) (host : HostMem)
  /-- LADLE_JOB_COMPLETE (R234): A Ladle job's last write leaves the engine, its completion is written into words 6
  and 7 of its entry, and any lock is released. -/
  | ladleJobComplete (ch : Nat)
  /-- LADLE_PACE_REQUEST (R237): A pacing timer period or a high paced input gives a PACED job one burst. -/
  | ladlePaceRequest (ch : Nat)
  /-- LADLE_LOCK_WAIT_EXPIRED (R236): A Ladle job waits Lock wait limit for its lock and completes with status 0x06. -/
  | ladleLockWaitExpired (ch : Nat)
  /-- LADLE_BUS_ERROR (R238): A bus error stops every Ladle channel, completes jobs in progress with 0x0A and sets
  Ladle state STOPPED. `kind`: 2 uncorrectable read, 4 timeout, 5 error response. -/
  | ladleBusError (kind : Nat) (address : Nat)
  /-- CHANNEL_INPUT_WRITE (R221): A write of Channel input moves an idle Ladle channel between fabric inputs 7 and 8. -/
  | channelInputWrite (path : Path) (ch : Nat) (data : Bytes)
  /-- LINK_TRAINED (R247): The PCI Express link trains or retrains, and its speed and width are reported and recorded
  in EV100. -/
  | linkTrained (speed : Nat) (link : Trained)
  /-- LINK_LOSS (R258): Link down, a conventional or hot reset, FLR or entry to D3hot drains every ring, discards
  unfinished ingest entries and breaks the host's PCI Express locks. -/
  | linkLoss (cause : Nat)
  /-- RING_DESCRIPTOR_WRITE (R251): A BAR0 write to a ring descriptor field is applied while the ring is DISABLED and
  discarded otherwise. -/
  | ringDescriptorWrite (ring : Nat) (word : Nat) (data : BarWrite)
  /-- RING_ENABLE (R251): A write of a ring's ENABLE bit enables the ring, refuses the enable, or starts DRAINING. -/
  | ringEnable (ring : Nat) (data : BarWrite)
  /-- RING_DRAINED (R251): The last entry already taken by a DRAINING ring finishes, and the ring becomes DISABLED. -/
  | ringDrained (ring : Nat)
  /-- DOORBELL_WRITE (R253): A HOST_POINTER write advances TAIL or HEAD of a ring, or is invalid and puts the ring in
  ERROR. -/
  | doorbellWrite (ring : Nat) (value : Nat)
  /-- MSIX_HOLDOFF_EXPIRED (R256): HOLDOFF passes since the first advance not yet signalled, and the ring's MSI-X
  message is sent. -/
  | msixHoldoffExpired (ring : Nat)
  /-- VECTOR_UNMASK (R256): Unmasking an MSI-X vector whose pending bit is set sends its message. -/
  | vectorUnmask (entry : VectorEntry)
  /-- INGEST_BLOCK (R260): An INGEST_BLOCK entry is taken from a band ingest ring, and its entry, header, page, ring
  and space tests are made. -/
  | ingestBlock (ring : Nat) (entry : Entry) (host : HostMem)
  /-- INGEST_DATA_READ (R260): The rest of an ingest block arrives from host memory into its reservation and waits for
  a check lane. `parity`: the ingest buffer meets a parity error. -/
  | ingestDataRead (ring : Nat) (host : HostMem) (parity : Bool)
  /-- DRAIN_BOUND_EXPIRED (R262): An entry of a full module-to-host ring stays unconsumed beyond Drain bound, and a
  drain overrun is counted. -/
  | drainBoundExpired (ring : Nat)
  /-- DRIVE_ENABLE_WRITE (R297): A write of Drive enable starts a drive channel through ALIGN or CATCH, or stops it. -/
  | driveEnableWrite (path : Path) (c : Nat) (data : Bytes)
  /-- ALIGN_TIME_ELAPSED (R300): Align time elapses, and the channel begins the open-loop ramp. -/
  | alignTimeElapsed (c : Nat)
  /-- RAMP_STEP (R300): An open-loop ramp step is taken, and valid crossings are counted toward handover into RUN. -/
  | rampStep (c : Nat)
  /-- ZERO_CROSSING (R292): A detected back-EMF or observer zero crossing times the next sector advance of a running
  channel. A channel in CATCH takes the sector it senses. -/
  | zeroCrossing (c : Nat) (forward : Bool) (sensed : BackEmf)
  /-- RAMP_HANDOVER_TIMEOUT (R297): There is no handover 200 ms after the ramp reaches Ramp end speed, and the channel
  enters RETRY WAIT. -/
  | rampHandoverTimeout (c : Nat)
  /-- OBSERVER_LOSS (R302): No valid zero crossing arrives for 2 electrical periods in RUN, so the gates go off and
  the channel enters CATCH. -/
  | observerLoss (c : Nat)
  /-- CATCH_PULSE (R302): Every 200 µs in CATCH an M channel applies a zero-vector pulse and estimates the back-EMF
  vector, and may resynchronise into RUN. `speed`: the estimate in rpm, 0 where the pulse gives none. -/
  | catchPulse (c : Nat) (speed : Int) (sensed : BackEmf)
  /-- CATCH_TIMEOUT (R302): The channel is not resynchronised within 20 ms, writes EV110 subcode 3 and enters RETRY
  WAIT. -/
  | catchTimeout (c : Nat)
  /-- RETRY_INTERVAL_ELAPSED (R297): Retry interval elapses in RETRY WAIT, and the channel makes another start attempt
  or enters FAULT. -/
  | retryIntervalElapsed (c : Nat)
  /-- CURRENT_LIMIT_EXCEEDED (R296): The sensed current exceeds Current limit, and the present PWM on-time ends. -/
  | currentLimitExceeded (c : Nat)
  /-- TRIP_CURRENT (R296): The current reaches Trip current, and the channel raises fault kind 0x9, wired to the Lid
  on P channels. -/
  | tripCurrent (c : Nat)
  /-- SD_INPUT_INVALID (R295): A sigma-delta input shows 64 identical consecutive bits, is marked invalid and raises
  fault kind 0x7. `input`: 1 IA, 2 IB. -/
  | sdInputInvalid (c : Nat) (input : Nat)
  /-- START_PROFILE (R306): A write to Start profile loads a profile entry's target and limits into a drive channel. -/
  | startProfile (path : Path) (c : Nat) (data : Bytes)
  /-- COMMAND_PIN_LOST (R305): A frequency or duty command pin shows no edge for Command timeout, and the commanded
  speed of every channel reading it becomes 0. -/
  | commandPinLost (k : Nat)
  /-- COMMAND_PIN_RETURN (R305): The first edge after a loss returns the pin command and writes EV111 subcode 4. -/
  | commandPinReturn (k : Nat)
  /-- BRAKE_TIME_ELAPSED (R308): Brake time ends under the safe action brake, and every gate of the channel goes off. -/
  | brakeTimeElapsed (c : Nat)
  /-- BUS_SAMPLE (R309): Every 1 µs the motor bus is compared against the chopper thresholds, and the brake chopper
  switches on or off. `bus`: on the module's side, in mV. -/
  | busSample (bus : Nat)
  /-- CHOPPER_CHECK (R310): 20 µs after a chopper command the chopper current is tested, and an open or shorted
  chopper puts the drives in no-regeneration mode. `current`: in the chopper switch, in mA. -/
  | chopperCheck (current : Nat)
  /-- CHOPPER_TEST (R310): A Chopper test command pulses the chopper and, on success, ends no-regeneration mode. -/
  | chopperTest (path : Path) (data : Bytes)
  /-- BUS_OVERVOLTAGE_TRIP (R311): The motor bus reaches 58 V, a wired Class C cause is raised and the bus input
  switch opens. -/
  | busOvervoltageTrip
  /-- BUS_RECONNECT (R311): A Bus reconnect command closes the bus input switch after a trip. -/
  | busReconnect (path : Path) (data : Bytes)
  /-- AXIS_ENABLE_WRITE (R323): A write of Axis enable takes a stepper axis between DISABLED and STANDSTILL. -/
  | axisEnableWrite (path : Path) (n : Nat) (data : Bytes)
  /-- START_MOVE (R328): A write to Start move starts, replaces or refuses a move from a move table entry. -/
  | startMove (path : Path) (n : Nat) (data : Bytes)
  /-- TARGET_POSITION_WRITE (R328): A write of Target position starts an absolute move under the follow limits. -/
  | targetPositionWrite (path : Path) (n : Nat) (data : Bytes)
  /-- STOP (R331): A Stop command brings the axis to rest under the limits in force, or as a quick stop. -/
  | stop (path : Path) (n : Nat) (data : Bytes)
  /-- POSITION_PRESET (R325): A Position preset sets Commanded position and makes Position valid TRUE. -/
  | positionPreset (path : Path) (n : Nat) (data : Bytes)
  /-- START_HOMING (R336): A Start homing command begins the search for the home input. -/
  | startHoming (path : Path) (n : Nat) (data : Bytes)
  /-- STANDSTILL_RELEASE_ELAPSED (R323): Standstill release elapses, and the axis enters POWERED DOWN. -/
  | standstillReleaseElapsed (n : Nat)
  /-- RE_ENERGISE_DONE (R324): Re-energise time ends, and the pending move or homing starts. -/
  | reEnergiseDone (n : Nat)
  /-- MOVE_COMPLETE (R323): The profile reaches its target with velocity 0, and the axis enters STANDSTILL. -/
  | moveComplete (n : Nat)
  /-- LOAD_ANGLE_ESTIMATE (R333): Once per full step the load angle is estimated, which detects stall, lost step and
  open coil, advances homing distance and changes the drive mode. lag is how far the rotor lags the commanded
  current vector, in degrees electrical; coil is the lower of the two coil currents, in percent of its set value. -/
  | loadAngleEstimate (n : Nat) (lag : Int) (coil : Nat)
  /-- LIMIT_INPUT_ACTIVE (R334): A limit input becomes active while the axis moves toward it, which quick-stops it
  into FAULT or reverses the homing search. The positive or the negative limit input of the axis takes a level,
  active or not. -/
  | limitInputActive (n : Nat) (positive : Bool) (active : Bool)
  /-- HOME_INPUT_EDGE (R336): A change of the home input during homing starts or restarts its debounce filter and
  counts chatter. The home input of the axis takes a level, active or not. -/
  | homeInputEdge (n : Nat) (active : Bool)
  /-- HOME_DEBOUNCE_ELAPSED (R336): The active home level holds for Home debounce, and the edge position is taken and
  homing completes. -/
  | homeDebounceElapsed (n : Nat)
  /-- BRIDGE_OVERCURRENT (R335): A stepper bridge detects overcurrent, switches off its coil drive within 1 µs and
  raises kind 0x9. -/
  | bridgeOvercurrent (n : Nat)
  /-- BRIDGE_THERMAL_SHUTDOWN (R344): A bridge group shuts down on temperature, and its moving axes fault. -/
  | bridgeThermalShutdown (g : Nat)
  /-- LOOP_TRIGGER (R346): A loop slot's trigger source fires, and the slot joins the evaluation queue or counts an
  overrun. `pin`: what the command pin of the slot's drive reads, in Hz, 1/65,536 of duty or mV; `feedback`: the
  code at HV_FB. -/
  | loopTrigger (slot : Nat) (pin : Nat) (feedback : Nat)
  /-- LOOP_EVALUATION (R352): The pipeline evaluates a slot's control law, with notches, gain region and profile, and
  sets its output. -/
  | loopEvaluation (slot : Nat)
  /-- SLOT_ENABLE_WRITE (R351): A write of Slot enable of a free slot moves it into or out of DISABLED. -/
  | slotEnableWrite (path : Path) (slot : Nat) (data : Bytes)
  /-- MODE_WRITE (R351): A write of Mode moves a free slot between MANUAL and AUTOMATIC, bumplessly. -/
  | modeWrite (path : Path) (slot : Nat) (data : Bytes)
  /-- LOOP_TARGET_WRITE (R357): A host write of Target sets a new profile target, or is refused under Reject behind. -/
  | loopTargetWrite (path : Path) (slot : Nat) (data : Bytes)
  /-- HV_ENABLE_WRITE (R360): A write of HV enable takes an HV channel between DISABLED and IDLE. -/
  | hvEnableWrite (path : Path) (h : Nat) (data : Bytes)
  /-- HOST_SWITCH (R361): A Host switch command switches an HV channel between ON and IDLE. -/
  | hostSwitch (path : Path) (h : Nat) (data : Bytes)
  /-- HV_OPEN_LOAD (R360): The duty stays at or above Open-load duty for 10 ms with low feedback, and the channel
  enters FAULT. -/
  | hvOpenLoad (h : Nat)
  /-- HV_RAMP_COMPLETE (R361): An HV_RAMP reaches its set-point after 2^k ms, writes EV123 subcode 3 and restores the
  slot limits. -/
  | hvRampComplete (h : Nat)
  /-- ZONE_ENABLE_WRITE (R365): A write of Zone enable starts a Kettle zone in START, REGULATING or WAIT MAINS, or
  takes it OFF. -/
  | zoneEnableWrite (path : Path) (z : Nat) (data : Bytes)
  /-- KETTLE_GATE_EDGE (R367): Gate lead before a predicted crossing, the zone's gate goes high or low. -/
  | kettleGateEdge (z : Nat)
  /-- KETTLE_PHASE_FIRE (R368): In START a half-cycle fires at its phase angle, and the soft start hands over to
  REGULATING at its end. -/
  | kettlePhaseFire (z : Nat)
  /-- BULK_SAMPLE (R376): Every 10 µs the bulk voltage is sampled, and the supply enters WARNING or RESET. `volts`:
  the bulk voltage in V. -/
  | bulkSample (volts : Nat)
  /-- SUPPLY_RECOVERY_ELAPSED (R376): The bulk stays at or above the threshold plus 5 V for 10 ms in WARNING, or 100
  ms in RESET, and the supply returns to NORMAL or performs a module reset. -/
  | supplyRecoveryElapsed (boot : Boot)
  /-- LOGIC_RAIL_FAULT (R375): A logic rail stays outside tolerance for 1 µs and raises wired fault 0x11. `persists`:
  the rail stays outside its tolerance until a CLEARED message follows. -/
  | logicRailFault (rail : Nat) (above : Bool) (persists : Bool)
  /-- MOTOR_BUS_SAMPLE (R380): Every 10 µs the motor bus is sampled and the bus state moves between NORMAL,
  UNDERVOLTAGE and OVERVOLTAGE. `bus`, `j2`: the voltages on the two sides of the bus input switch, in mV. -/
  | motorBusSample (bus : Nat) (j2 : Nat)
  /-- DOMAIN_REQUEST_WRITE (R383): A write of Domain request is checked whole, and switches domains on 100 µs apart
  and takes released domains into STOPPING. -/
  | domainRequestWrite (path : Path) (data : Bytes)
  /-- DOMAIN_READY (R384): A RAMPING domain reports ready, enters ON, and its functions start from their power-up
  states. `answers`: by station of the domain, the frames the beam drivers answer their start-up with (R133). -/
  | domainReady (pd : Nat) (answers : List (Nat × List Frame))
  /-- DOMAIN_RAMP_TIMEOUT (R384): A domain is not ready in time, enters FAILED and raises fault 0x13. -/
  | domainRampTimeout (pd : Nat)
  /-- DOMAIN_STOPPED (R384): A STOPPING domain has its pins inert and its rails off, and enters OFF. -/
  | domainStopped (pd : Nat)
  /-- TEMPERATURE_SAMPLE (R387): Every 1.0 ms each temperature channel is read, which updates the broken mark, partner
  takeover, state, band and Thermal throttle. `sample`: the resistance of an NTC channel (1 to 24) in Ω, or the
  reading of another channel in 0.1 °C. -/
  | temperatureSample (t : Nat) (sample : Int)
  /-- CHANNEL_ENABLE_WRITE (R387): A write of an NTC channel's Channel enable starts the channel, or clears its state
  and band. -/
  | channelEnableWrite (path : Path) (t : Nat) (data : Bytes)
  /-- FAULT_MESSAGE (R399): A fault message reaches the Supervisor 24 ns after detection, sets sticky bits, writes its
  record and applies its reaction or marks it consequential. `messages`: those the lanes deliver in one grid step. -/
  | faultMessage (messages : List Message)
  /-- WIRED_FAULT_CAUSE (R401): A cause wired directly to the Lid is asserted, and the reaction is applied within 32
  ns. -/
  | wiredFaultCause (source : Nat) (kind : Nat) (address : Nat)
  /-- QUIET_PERIOD_EXPIRED (R410): The quiet period runs out, and the fault state releases every reaction or goes to
  LATCHED at the recovery limit. -/
  | quietPeriodExpired
  /-- CONSEQUENCE_LIMIT_EXPIRED (R407): Consequence limit passes after a release, and open consequence windows close. -/
  | consequenceLimitExpired
  /-- FAULT_CLEAR (R412): A Fault clear command releases a LATCHED fault state when no persistent condition stands. -/
  | faultClear (path : Path) (data : Bytes)
  /-- STICKY_CLEAR (R402): A write to Sticky clear clears the masked primary and consequential sticky bits and writes
  EV017. -/
  | stickyClear (path : Path) (data : Bytes)
  /-- REACTION_MAP_WRITE (R406): A write of Reaction map is checked whole against the defaults and applies to later
  messages. -/
  | reactionMapWrite (path : Path) (data : Bytes)
  /-- INTERLOCK_TEST_PULSE (R413): Every 1.0 ms each interlock drive is pulsed low and its sense is tested for a
  short. `ch`: 0 A, 1 B; `low`: the sense goes low within the test window. -/
  | interlockTestPulse (ch : Nat) (low : Bool)
  /-- INTERLOCK_SENSE_CHANGE (R413): An interlock sense changes outside its test window, and the channel opens or
  closes. `ch`: 0 A, 1 B. -/
  | interlockSenseChange (ch : Nat) (level : Bool)
  /-- DISCREPANCY_TIMEOUT (R414): One interlock channel stays open and the other closed for longer than Discrepancy
  time, which raises source 0x01 and latches the fault state. -/
  | discrepancyTimeout
  /-- INJECT (R415): An Inject command arms inverted check bits on the target checker for its next Injection count
  operations. -/
  | inject (path : Path) (data : Bytes)
  /-- HEARTBEAT_WIRE_BEAT (R423): The active unit toggles its heartbeat wire into the Supervisor. -/
  | heartbeatWireBeat
  /-- HEARTBEAT_WORD (R424): The active unit writes its heartbeat word, which may declare it failed or signal a
  planned handover as ready. -/
  | heartbeatWord (word : Nat)
  /-- HEARTBEAT_PERIOD_END (R423): A Supervisor heartbeat period ends, missed periods are counted, and a path fault or
  takeover may follow. -/
  | heartbeatPeriodEnd
  /-- SEQUENCER_HW_FAILURE (R425): Hardware finds an uncorrectable local SRAM error or a core parity error in the
  active unit and declares it failed. u: 1 Sequencer A, 2 Sequencer B; kind: 2 uncorrectable local SRAM, 3 core
  parity, 0xF internal. -/
  | sequencerHwFailure (u : Nat) (kind : Nat) (address : Nat)
  /-- OWNERSHIP_TAKEN (R429): The new active unit completes its checkpoint restore and owns outputs, which ends the
  switch-over gap. -/
  | ownershipTaken
  /-- GAP_WATCHDOG_EXPIRED (R429): Ownership is not reached within 65,536 cycles, the unit goes to FAILED and source
  0x27 is raised. -/
  | gapWatchdogExpired
  /-- CHECKPOINT_DELTA (R430): Every 1.0 ms the active unit writes a periodic checkpoint delta, or a new base into the
  other bank. -/
  | checkpointDelta
  /-- HEALTH_REPORT (R435): Every 10.0 ms the standby completes a health report, which sets its eligibility or
  DEGRADED state. passed: bit t - 1 for each of the tests 1 to 4 that passes; link: the kind of a failed read over
  the link, 4 or 5; parity: test 4 met a parity error of the Checkpoint SRAM. -/
  | healthReport (passed : Nat) (link : Nat) (parity : Bool)
  /-- STANDBY_RELOAD (R438): A Standby reload command takes the standby to RELOADING from the named firmware slot. -/
  | standbyReload (path : Path) (data : Bytes)
  /-- UNIT_LOAD_COMPLETE (R420): A sequencer unit finishes loading, measuring and self-testing in STARTING or
  RELOADING, and becomes ACTIVE, STANDBY or FAILED. tested: the ROM self-test passes; bad: the partitions whose
  image fails its CRC-32 at the read. -/
  | unitLoadComplete (u : Nat) (tested : Bool) (bad : List Nat)
  /-- PLANNED_SWITCH_OVER (R439): A Planned switch-over command makes the active unit stop admission, write a handover
  entry and signal handover ready. -/
  | plannedSwitchOver (path : Path) (data : Bytes)
  /-- PLANNED_WAIT_EXPIRED (R439): After 1,000 ms of waiting at a page boundary the planned switch-over acts as
  immediate. -/
  | plannedWaitExpired
  /-- CROCK_MOUNT (R450): Mounting of the Crock ends, and it enters READY, READ-ONLY or FAILED. valid: a journal copy
  or the NAND metadata is valid. -/
  | crockMount (valid : Bool)
  /-- CROCK_READ (R455): Crock command READ reads units of a partition to a buffer. -/
  | crockRead (ring : Nat) (entry : Entry) (host : HostMem)
  /-- CROCK_WRITE (R455): Crock command WRITE programs and journals units of a partition from a buffer. -/
  | crockWrite (ring : Nat) (entry : Entry) (host : HostMem)
  /-- TRIM (R455): Crock command TRIM makes units unwritten. -/
  | trim (ring : Nat) (entry : Entry) (host : HostMem)
  /-- SPOOL_PAGE (R457): Crock command SPOOL_PAGE copies a page from the page store into one spool object. -/
  | spoolPage (ring : Nat) (entry : Entry) (host : HostMem)
  /-- SPOOL_LOAD (R458): Crock command SPOOL_LOAD reads a spool object into the page store as a new QUEUED page. -/
  | spoolLoad (ring : Nat) (entry : Entry) (host : HostMem)
  /-- SPOOL_DELETE (R455): Crock command SPOOL_DELETE frees a spool object. -/
  | spoolDelete (ring : Nat) (entry : Entry) (host : HostMem)
  /-- SPOOL_LIST (R455): Crock command SPOOL_LIST writes the spool directory to a buffer. -/
  | spoolList (ring : Nat) (entry : Entry) (host : HostMem)
  /-- SLOT_COMMIT (R459): Crock command SLOT_COMMIT checks a firmware slot's container and marks the slot VALID or
  INVALID. -/
  | slotCommit (ring : Nat) (entry : Entry) (host : HostMem)
  /-- SLOT_ERASE (R459): Crock command SLOT_ERASE makes a firmware slot empty. -/
  | slotErase (ring : Nat) (entry : Entry) (host : HostMem)
  /-- CROCK_COMMAND_COMPLETE (R456): A Crock command finishes, and its completion is written to its completion ring in
  command order. units is how many units were moved before quiesce cut a write; retried counts the codewords read
  by soft retry; bad is the first unit of the command that cannot be read, with its LUN × 2^24 + page. -/
  | crockCommandComplete (ring : Nat) (units : Nat) (retried : Nat) (bad : Option (Nat × Nat))
  /-- NAND_PROGRAM_FAIL (R448): A NAND program or erase fails, the block is marked grown-bad, and the spare-pool rules
  apply. -/
  | nandProgramFail (lun : Nat) (block : NandBlock)
  /-- CROCK_SCRUB_PASS (R449): A retention scrub or wear-levelling step reads and refreshes blocks in the background.
  what: 2 a block refreshed, 3 the pass complete, 4 a static levelling move; bad is the LUN × 2^24 + page of a
  codeword that cannot be read. -/
  | crockScrubPass (what : Nat) (lun : Nat) (block : NandBlock) (bad : Option Nat)
  /-- HEALTH_RUN (R461): A Health run command, or 24 h of Stamp time, completes a Crock health report. The write of
  Health run, or none at the end of 24 h. -/
  | healthRun (request : Option (Path × Bytes))
  /-- ATTEST (R478): An ATTEST request on ring 62 makes the Trust Anchor sign a 584-byte report over the supplied
  nonce. `hostOk`: the write of the report to BUFFER succeeds. -/
  | attest (entry : Entry) (hostOk : Bool)
  /-- ATTEST_OBJECT (R478): A 32-byte write to Attest makes the Trust Anchor sign a report into the attestation result
  object. -/
  | attestObject (path : Path) (data : Bytes)
  /-- CERTIFICATES (R479): A CERTIFICATES request on ring 62 writes the certificate chain to the host buffer.
  `hostOk`: the write of the chain to BUFFER succeeds. -/
  | certificates (entry : Entry) (hostOk : Bool)
  /-- MODULE_RESET (R480): A confirmed MODULE_RESET request on ring 62 is answered and then starts a module reset 1.0
  ms later. -/
  | moduleReset (entry : Entry)
  /-- POWER_CYCLE (R480): A confirmed POWER_CYCLE request on ring 62 is answered and then requests a power cycle 1.0
  ms later. -/
  | powerCycle (entry : Entry)
  /-- MODULE_RESET_OBJECT (R485): A write of the confirm value to 0x2011:01 starts a module reset 1.0 ms after its
  response. -/
  | moduleResetObject (path : Path) (data : Bytes)
  /-- POWER_CYCLE_REQUEST (R490): A write of the confirm value to 0x2011:02 requests a power cycle. -/
  | powerCycleRequest (path : Path) (data : Bytes)
  /-- MODULE_RESET_ACT (R485): A module reset forces every output inert, stops the domains, holds the sequencers and
  restarts from step 3 of power-up. -/
  | moduleResetAct (boot : Boot)
  /-- RESET_N_LOW (R487): RESET_N is held low for 10 µs or longer and starts a module reset, or a shorter low level is
  ignored. `ns`: how long the level has lasted, counted at 10 µs or at its end. -/
  | resetNLow (ns : Nat)
  /-- RESET_N_RELEASE (R487): A rising edge of RESET_N ends the module reset. -/
  | resetNRelease (boot : Boot)
  /-- BOOT_WATCHDOG_EXPIRED (R489): DICTIONARY_UP is not set within Boot watchdog, and the module resets with the next
  boot candidate or requests a power cycle. -/
  | bootWatchdogExpired (boot : Boot)
  /-- POWER_CYCLE_PULSE_EXPIRED (R490): Power cycle pulse ends with mains still present, the pin is released and the
  module restarts as after a module reset. -/
  | powerCyclePulseExpired (boot : Boot)
  /-- EXPECTED_MEASUREMENTS_WRITE (R473): A write of 0x2420 sets expected measurements, which re-evaluates mismatches
  and the gate and clears acknowledgements. -/
  | expectedMeasurementsWrite (path : Path) (sub : Nat) (data : Bytes)
  /-- MISMATCH_ACKNOWLEDGE (R476): A write equal to Mismatch acknowledges the present mismatches and may open the
  gate. -/
  | mismatchAcknowledge (path : Path) (data : Bytes)
  /-- REINIT_SEQUENCER_UNIT (R421): Function re-initialisation class 0x01 restarts a non-active sequencer unit through
  STARTING to STANDBY. -/
  | reinitSequencerUnit (path : Path) (k : Nat)
  /-- REINIT_PRESS_LANE (R207): Function re-initialisation class 0x02 takes an OUT OF SERVICE Press lane to TESTING. -/
  | reinitPressLane (path : Path) (k : Nat)
  /-- REINIT_STATION (R484): Function re-initialisation class 0x03 takes LASER_EN_n low and repeats the beam driver
  start-up of a station. `answers`: the frames the beam drivers answer their start-up with (R133). -/
  | reinitStation (path : Path) (k : Nat) (answers : List Frame)
  /-- REINIT_POLYGON_TIMING (R484): Function re-initialisation class 0x04 returns a polygon's lock to IDLE and its
  stations to NOT IN USE. -/
  | reinitPolygonTiming (path : Path) (k : Nat)
  /-- REINIT_ENCODER (R484): Function re-initialisation class 0x05 returns an encoder's tracking loop to ACQUIRING. -/
  | reinitEncoder (path : Path) (k : Nat)
  /-- REINIT_POSITION_BASE (R165): Function re-initialisation class 0x06 frees every schedule slot and spoils pages
  holding closed gates with cause 16. -/
  | reinitPositionBase (path : Path)
  /-- REINIT_LADLE (R238): Function re-initialisation class 0x07 restarts the Ladle and completes jobs in progress
  with status 0x0B. -/
  | reinitLadle (path : Path)
  /-- REINIT_CROCK (R484): Function re-initialisation class 0x08 completes Crock commands in progress with 0x0E and
  remounts the Crock. -/
  | reinitCrock (path : Path)
  /-- REINIT_DRIVE_CHANNEL (R299): Function re-initialisation class 0x09 clears a drive channel's enable and start
  attempts and reloads its hardware. -/
  | reinitDriveChannel (path : Path) (k : Nat)
  /-- REINIT_STEPPER_AXIS (R341): Function re-initialisation class 0x0A switches an axis's bridges off and clears its
  enable and Position valid. -/
  | reinitStepperAxis (path : Path) (k : Nat)
  /-- REINIT_LOOP_SLOT (R484): Function re-initialisation class 0x0B clears a disabled loop slot's integrator,
  derivative, notch states and counters. -/
  | reinitLoopSlot (path : Path) (k : Nat)
  /-- REINIT_HV_CHANNEL (R484): Function re-initialisation class 0x0C returns an HV channel to DISABLED. -/
  | reinitHvChannel (path : Path) (k : Nat)
  /-- REINIT_KETTLE_ZONE (R484): Function re-initialisation class 0x0D returns a Kettle zone to OFF. -/
  | reinitKettleZone (path : Path) (k : Nat)
  /-- PWM_PERIOD (R294): Each PWM period of a P channel the shunt is sampled or the period counted in Sample skips,
  with EV113 subcode 1 at the first skip after 1,024, and loop outputs take effect. `ia`: the shunt of a P channel
  in mA, or the ones density of Mm_IA_SD in 1/65,536, and `ib` that of Mm_IB_SD. -/
  | pwmPeriod (c : Nat) (ia : Int) (ib : Int)
  /-- SEEKING_BLANKING_ELAPSED (R68): In SEEKING, 80 % of the last SOS interval after an SOS runs out, and the usable
  beams are lit again. -/
  | seekingBlankingElapsed (n : Nat)
  /-- EOS_WINDOW_OPEN (R63): A facet's EOS window opens and the usable beams are lit for the EOS crossings. -/
  | eosWindowOpen (n : Nat)
  /-- SPLICE_DEACTIVATION (R170): Splice input goes inactive, and the module notes the A1 value from which Splice
  clearance is counted. -/
  | spliceDeactivation
  /-- SCRUB_PERIOD_EXPIRED (R216): A scrub period ends, and an unfinished pass is counted late with EV099 subcode 2. -/
  | scrubPeriodExpired
  /-- ATTESTATION_SIGNED (R478): The Trust Anchor finishes signing a report, which updates the attestation result
  object or answers on ring 63 and lets the next queued attestation begin. -/
  | attestationSigned
  /-- AUTOMATIC_SPOOL_DONE (R457): An automatic spool copy ends, and the object is added to the spool directory or is
  discarded with EV106 subcode 4. -/
  | automaticSpoolDone
  deriving DecidableEq, Repr

end Sys2Proof
end

