-- ==== Sys2Proof/Decode.lean ====
section
/-! DEFINITION. The words of the operation table: none of its rows gives bits, so no word spells a command. -/

namespace Sys2Proof

/-- The command a word of the operation table spells. -/
def decodeTableWord (_nbits _w : Nat) : Option Instr := none

end Sys2Proof
end

