-- ==== Sys2Proof/Config.lean ====
section
/-! DEFINITION. The free values: what the manual leaves open and the module nevertheless has. None has a body, so no
proof can rest on one. Those that may differ each time take the count of values drawn so far (`State.drawn`); a
function of the operands takes those. Each names its entry of the assumption log. -/

namespace Sys2Proof

/-- Whether Alinagrim or the hardware raises an event source, where the manual does not say (R52; log entry 8). -/
opaque Config.firmwareRaised : Nat → Bool

/-- Whether an uncorrectable error hits a record in the trace (R51, R52; log entry 165): its place by sequence number, the Stamp time of its
entry. -/
opaque Config.recordDamaged : Nat → Nat → Bool

/-- The speed a tracking loop measures after an edge, in 1/65,536 subline per grid step (R26; log entry 9):
encoder, count of values drawn. -/
opaque Config.trackedSpeed : Nat → Nat → Int

/-- The rate correction the Stamp Clock takes from an alignment error, in ppb, before its limit (R48; log entry 10):
error, count of values drawn. -/
opaque Config.rateCorrection : Int → Nat → Int

/-- The DEFLATE stream an encode lane makes of an input at a level (R194, R195; log entry 13). -/
opaque Config.compressed : Bytes → Nat → Bytes

/-- The stagger of a beam after one more crossing in LOCKED, in 1/16 ns (R63; log entry 14): station and beam, its crossing
time less the station mean in 1/64 ns, count of values drawn. -/
opaque Config.learnedStagger : Nat → Int → Nat → Int

/-- The old state that a record and a status entry give for a page new to the table (R150; log entry 15). -/
opaque Config.stateBeforeNew : Nat

/-- The cause of the refusal of a page of which a band is not in DRAM, for which R155 lists none (log entry 170). -/
opaque Config.missingBandCause : Nat

/-- What shows the setting of a DIVERT in its EV041 (R58, R166; log entry 61). -/
opaque Config.diverterMark : Bool → Nat

/-- The DRAM address the module gives a block in the page store (R211, R214; log entry 16): count of values drawn. -/
opaque Config.blockAddress : Nat → Nat

/-- The bits of a REAL32 that is not a number (R272; log entry 17). -/
opaque Config.notANumber : Nat

/-- Δ of the first facet a station samples, which has no facet before it (R91; log entry 20): count of values drawn. -/
opaque Config.firstAdvance : Nat → Int

/-- The body length of a checkpoint entry, before its limit (R431, R432; log entry 21): type, count of values drawn. -/
opaque Config.checkpointLength : Nat → Nat → Nat

/-- A byte of a checkpoint entry's body (R433; log entry 22): sequence number of the entry, offset. -/
opaque Config.checkpointByte : Nat → Nat → BitVec 8

/-- The kind that EV088 and `Lane fault cause` give a decode lane whose block another lane decoded well (R190; log
entry 24). -/
opaque Config.retryCause : Nat

/-- The cycles for which the verify decoder of a streaming lane has stalled over a block (R192; log entry 187): count of values
drawn. -/
opaque Config.verifyStalls : Nat → Nat

/-- The subcode of EV101 for a change of a ring's state that R265 lists none for (R251; log entry 192): the new state. -/
opaque Config.ringSubcode : Nat → Nat

/-- The DRAM transactions of the jobs that Alinagrim submits to channel 16 to rebuild page plans (R228; log entry 194): count of values
drawn. -/
opaque Config.rebuildTransactions : Nat → Nat

/-- The locks that Alinagrim holds for the active sequencer, bit n for lock n (R226; log entry 175): count of values drawn. -/
opaque Config.sequencerLocks : Nat → Nat

/-- The raw bytes an encode lane has consumed when its chain is full (R200; log entry 25): source, level, room. -/
opaque Config.rawConsumed : Bytes → Nat → Nat → Nat

/-- The level Alinagrim opens an archive stream with (R205; log entry 26). -/
opaque Config.streamLevel : Nat → Nat

/-- The DEFLATE stream of a streaming block (R205; log entry 13): the input cut at its flushes, level. -/
opaque Config.streamed : List Bytes → Nat → Bytes

/-- A byte of a firmware partition as it was delivered (R454, R459; log entry 30): partition, byte address. -/
opaque Config.deliveredByte : Nat → Nat → BitVec 8

/-- A byte of the spool directory as SPOOL_LIST writes it (R455; log entry 31): SPOOL_ID, offset in its 32 bytes. -/
opaque Config.directoryByte : Nat → Nat → BitVec 8

/-- The erase counts of a Crock health report (R461, R463; log entry 32): item 0 to 4, count of values drawn. -/
opaque Config.eraseCount : Nat → Nat → Nat

/-- `Write amplification` where the host has written nothing in 30 days (R461; log entry 33). -/
opaque Config.idleAmplification : Nat

/-- Whether an image's signature verifies against Voistelo's firmware key (R470, R471; log entry 36): header and image,
signature. -/
opaque Config.signatureGood : Bytes → Bytes → Bool

/-- A byte of a report's signature (R477; log entry 37): the signed bytes, count of values drawn, offset. -/
opaque Config.signatureByte : Bytes → Nat → Nat → BitVec 8

/-- Measurement slot 0: the digest of the Trust Anchor's ROM, fuses, variant and revision (R472; log entry 38). -/
opaque Config.anchorDigest : Nat → BitVec 8

/-- The bytes of the stored record as it is measured (R280, R472; log entry 39): keys and values of what differs from the
defaults. -/
opaque Config.recordForm : List (Nat × Bytes) → Bytes

/-- The certificate chain and the public key of the device (R477, R478; log entry 40). -/
opaque Config.certificateByte : Nat → BitVec 8
opaque Config.certificateLength : Nat
opaque Config.publicKeyByte : Nat → BitVec 8

/-- Whether a NAND erase is in progress, and is suspended, when the stores enter or leave quiesce (R392; log entry 41). -/
opaque Config.eraseSuspended : Nat → BitVec 1

/-- The Band SRAM address of a line of a station's image (R111; log entry 42). -/
opaque Config.bandAddress : Nat → Nat → BitVec 32

/-- What makes this module this one: its revision's letter and digit and its serial number (R4, R281; log entry 43). -/
opaque Config.revisionLetter : Nat
opaque Config.revisionDigit : Nat
opaque Config.serialNumber : Nat

/-- The temperature of a VCSEL thermistor in 0.1 °C by its law (R125; log entry 185): its resistance, its resistance at 25 °C, its
B. -/
opaque Config.ntcTemperature : Nat → Nat → Nat → Int

/-- What no command samples: `Mains voltage` and `Logic power` (R374; log entry 44), by subindex and Stamp time. -/
opaque Config.measured : Nat → Nat → Nat

/-- Whether a low level of `RESET_N` that lasts from 9.96 µs to 10 µs starts a module reset (R487; log entry 195), by its length in ns and
the Stamp time. -/
opaque Config.resetFilter : Nat → Nat → Bool

/-- What the TxPDO carries for an entry that cannot be read, and the AL status code of a request for a state that R269 has no
transition to (R269, R283; log entry 45). -/
opaque Config.unreadableEntry : Nat → Nat
opaque Config.alUnlisted : Nat

end Sys2Proof
end

