-- ==== Sys2Proof/Machine/Bits.lean ====
section
/-! DEFINITION. Bit fields, byte order and two's complement: the helpers every register layout of the manual uses.
The manual's multi-byte values are little-endian (R52, R250, R272). -/

namespace Sys2Proof.Machine

/-- Bits [hi:lo] of a word. -/
def field (w hi lo : Nat) : Nat := (w / 2 ^ lo) % 2 ^ (hi + 1 - lo)

/-- Bit i of a mask. -/
def bitOf (w i : Nat) : Bool := w.testBit i

/-- A mask with bit i set. -/
def withBit (w i : Nat) : Nat := w ||| 2 ^ i

/-- A mask with bit i clear. -/
def withoutBit (w i : Nat) : Nat := if w.testBit i then w - 2 ^ i else w

/-- A mask with bit i set to b. -/
def putBit (w i : Nat) (b : Bool) : Nat := if b then withBit w i else withoutBit w i

/-- 1 for true, 0 for false. -/
def b2n (b : Bool) : Nat := if b then 1 else 0

/-- The bits of a that are not in m. -/
def maskOff (a m : Nat) : Nat := a - (a &&& m)

/-- The number of bits set among the lowest k. -/
def popCount : Nat → Nat → Nat
  | 0, _ => 0
  | k + 1, w => b2n (w.testBit k) + popCount k w

/-- The bit numbers set among the lowest k, ascending. -/
def bitsSet : Nat → Nat → List Nat
  | 0, _ => []
  | k + 1, w => bitsSet k w ++ (if w.testBit k then [k] else [])

/-- The mask of a list of bit numbers. -/
def maskOf : List Nat → Nat
  | [] => 0
  | i :: l => withBit (maskOf l) i

/-- The low k bytes of n, little-endian. -/
def leBytes : Nat → Nat → Bytes
  | 0, _ => []
  | k + 1, n => BitVec.ofNat 8 n :: leBytes k (n / 256)

/-- The number a little-endian byte string spells. -/
def ofLe : Bytes → Nat
  | [] => 0
  | b :: l => b.toNat + 256 * ofLe l

/-- The low w bits of an integer: its two's complement form. -/
def unsigned (w : Nat) (i : Int) : Nat := (i % (2 : Int) ^ w).toNat

/-- The integer that w bits of two's complement spell. -/
def signed (w n : Nat) : Int :=
  if n % 2 ^ w < 2 ^ (w - 1) then ((n % 2 ^ w : Nat) : Int) else ((n % 2 ^ w : Nat) : Int) - 2 ^ w

/-- n bytes of one value. -/
def fill (n : Nat) (b : Byte) : Bytes := List.replicate n b

/-- k bytes from offset o. -/
def slice (o k : Nat) (b : Bytes) : Bytes := (b.drop o).take k

/-- The little-endian number of k bytes at offset o. -/
def leAt (o k : Nat) (b : Bytes) : Nat := ofLe (slice o k b)

/-- A byte string with the bytes at offset o replaced. -/
def patch (o : Nat) (new b : Bytes) : Bytes := b.take o ++ new ++ b.drop (o + new.length)

/-- A byte string cut into little-endian words of k bytes, n of them. -/
def leWords : (n k : Nat) → Bytes → List Nat
  | 0, _, _ => []
  | n + 1, k, b => ofLe (b.take k) :: leWords n k (b.drop k)

/-- The bytes of a list of words of k bytes each. -/
def wordsLe (k : Nat) : List Nat → Bytes
  | [] => []
  | w :: l => leBytes k w ++ wordsLe k l

/-- Word i of an entry, 0 beyond its end. -/
def wordAt (ws : List Nat) (i : Nat) : Nat := ws.getD i 0

/-- The natural number an integer is, clamped at 0. -/
def clampInt (lo hi x : Int) : Int := if x < lo then lo else if hi < x then hi else x

/-- Rounding of a quotient to the nearest whole number, halves up. -/
def divRound (a b : Nat) : Nat := if b = 0 then 0 else (2 * a + b) / (2 * b)

/-- Rounding of a quotient up. -/
def divCeil (a b : Nat) : Nat := if b = 0 then 0 else (a + b - 1) / b

/-- R11: on a coordinate of w bits, the present value p has reached the target t. -/
def reached (w p t : Nat) : Bool := decide ((p + 2 ^ w - t % 2 ^ w) % 2 ^ w < 2 ^ (w - 1))

/-- The signed distance from b to a on a coordinate of w bits. -/
def distance (w a b : Nat) : Int := signed w (a + 2 ^ w - b % 2 ^ w)

/-- The sum of a list of naturals. -/
def total (l : List Nat) : Nat := l.foldr (· + ·) 0

/-- The numbers from lo up, k of them. -/
def upFrom (lo : Nat) : Nat → List Nat
  | 0 => []
  | k + 1 => lo :: upFrom (lo + 1) k

end Sys2Proof.Machine
end

