-- ==== Sys2Proof/Machine/ObjectTable.lean ====
section
/-! DEFINITION. The object dictionary's table: every object the chapters list (R5, R28, R31, R33, R34, R38, R42, R46, R51,
R78, R79, R109, R136, R174, R175, R209, R240 to R242, R264, R281, R289, R313 to R316, R342, R358, R363, R370, R383,
R393, R394, R416, R441, R442, R462, R463, R491, R492 and the Trust Anchor's), each row with its type, access class,
default and range. A row stands for count indices, stride apart, and for subs consecutive subindexes.
Sections named after the rules; the columns are the manual's. -/

namespace Sys2Proof.Machine

/-- The CiA 301 types the module uses (R272). -/
inductive Ty where
  | bool | i16 | i32 | u8 | u16 | u32 | real | str | dom | u64
  deriving DecidableEq, Repr

/-- The access classes of R273. -/
inductive Acc where
  | ro | rw | idle | cmd
  deriving DecidableEq, Repr

/-- A default: a number, so many zero bytes, or one of the default tables the chapters give. -/
inductive Dflt where
  | num (n : Int) | zeros (n : Nat) | pulse | apc | bands | reactions
  deriving DecidableEq, Repr

/-- A range as the Range/units column gives it. -/
inductive Rng where
  /-- every value of the type -/
  | any
  | btw (lo hi : Int)
  | oneOf (l : List Int)
  /-- lo to hi in steps -/
  | step (lo hi d : Int)
  /-- 0, or lo to hi -/
  | zeroOr (lo hi : Int)
  /-- lo to hi, or the value that means off -/
  | orOff (lo hi off : Int)
  /-- an input code: [5:0] 0 to top, [6] 0, [7] active low -/
  | input (top : Nat)
  /-- a DOMAIN length -/
  | len (lo hi : Nat)
  /-- the lengths of a recipe: 0, or 32 to 1,040 in steps of 16 -/
  | recipe
  deriving DecidableEq, Repr

/-- One row of an object table. -/
structure Row where
  index : Nat
  stride : Nat
  count : Nat
  sub : Nat
  subs : Nat
  name : String
  ty : Ty
  acc : Acc
  dflt : Dflt
  rng : Rng
  deriving DecidableEq, Repr

/-- Objects 0x1000 to 0x1FFF, communication objects (R281), part 1. -/
def commObjectsA : List Row := [
  ⟨0x1000, 0x1, 1, 0, 1, "Device type", .u32, .ro, .num 0, .any⟩,
  ⟨0x1008, 0x1, 1, 0, 1, "Device name", .str, .ro, .zeros 0, .any⟩,
  ⟨0x1009, 0x1, 1, 0, 1, "Hardware version", .str, .ro, .zeros 0, .any⟩,
  ⟨0x100A, 0x1, 1, 0, 1, "Software version", .str, .ro, .zeros 0, .any⟩,
  ⟨0x1010, 0x1, 1, 0, 1, "Store parameters", .u8, .ro, .num 3, .any⟩,
  ⟨0x1010, 0x1, 1, 1, 3, "Store parameters", .u32, .rw, .num 1, .any⟩,
  ⟨0x1011, 0x1, 1, 0, 1, "Restore default parameters", .u8, .ro, .num 3, .any⟩,
  ⟨0x1011, 0x1, 1, 1, 3, "Restore default parameters", .u32, .rw, .num 1, .any⟩,
  ⟨0x1018, 0x1, 1, 0, 1, "Identity", .u8, .ro, .num 4, .any⟩,
  ⟨0x1018, 0x1, 1, 1, 1, "Vendor ID", .u32, .ro, .num 3159, .any⟩,
  ⟨0x1018, 0x1, 1, 2, 1, "Product code", .u32, .ro, .num 34368, .any⟩,
  ⟨0x1018, 0x1, 1, 3, 1, "Revision number", .u32, .ro, .num 0, .any⟩,
  ⟨0x1018, 0x1, 1, 4, 1, "Serial number", .u32, .ro, .num 0, .any⟩,
  ⟨0x1600, 0x1, 1, 0, 1, "RxPDO mapping", .u8, .rw, .num 0, .btw 0 32⟩,
  ⟨0x1600, 0x1, 1, 1, 32, "RxPDO entry", .u32, .rw, .num 0, .any⟩,
  ⟨0x1A00, 0x1, 1, 0, 1, "TxPDO mapping", .u8, .rw, .num 0, .btw 0 32⟩,
  ⟨0x1A00, 0x1, 1, 1, 32, "TxPDO entry", .u32, .rw, .num 0, .any⟩,
  ⟨0x1C00, 0x1, 1, 0, 1, "Sync manager type", .u8, .ro, .num 4, .any⟩,
  ⟨0x1C00, 0x1, 1, 1, 4, "Sync manager type", .u8, .ro, .num 1, .any⟩,
  ⟨0x1C12, 0x1, 1, 0, 1, "RxPDO assign", .u8, .ro, .num 1, .any⟩,
  ⟨0x1C12, 0x1, 1, 1, 1, "RxPDO assign", .u16, .ro, .num 5632, .any⟩,
  ⟨0x1C13, 0x1, 1, 0, 1, "TxPDO assign", .u8, .ro, .num 1, .any⟩,
  ⟨0x1C13, 0x1, 1, 1, 1, "TxPDO assign", .u16, .ro, .num 6656, .any⟩,
  ⟨0x1C32, 0x1, 1, 0, 1, "SM output parameter", .u8, .ro, .num 12, .any⟩,
  ⟨0x1C32, 0x1, 1, 1, 1, "Sync mode", .u16, .rw, .num 0, .oneOf [0, 1, 2]⟩,
  ⟨0x1C32, 0x1, 1, 2, 1, "Cycle time", .u32, .rw, .num 1000000, .btw 125000 10000000⟩,
  ⟨0x1C32, 0x1, 1, 5, 1, "Minimum cycle time", .u32, .ro, .num 125000, .any⟩,
  ⟨0x1C32, 0x1, 1, 12, 1, "Cycle time too small", .u16, .ro, .num 0, .any⟩,
  ⟨0x1C33, 0x1, 1, 0, 1, "SM input parameter", .u8, .ro, .num 12, .any⟩,
  ⟨0x1C33, 0x1, 1, 1, 1, "Sync mode", .u16, .rw, .num 0, .oneOf [0, 1, 2]⟩]

/-- Objects 0x1000 to 0x1FFF, communication objects (R281), part 2. -/
def commObjectsB : List Row := [
  ⟨0x1C33, 0x1, 1, 2, 1, "Cycle time", .u32, .rw, .num 1000000, .btw 125000 10000000⟩,
  ⟨0x1C33, 0x1, 1, 5, 1, "Minimum cycle time", .u32, .ro, .num 125000, .any⟩,
  ⟨0x1C33, 0x1, 1, 12, 1, "Cycle time too small", .u16, .ro, .num 0, .any⟩]

/-- Objects 0x1000 to 0x1FFF, communication objects (R281). -/
def commObjects : List Row := commObjectsA ++ commObjectsB

/-- Objects 0x2000 to 0x20FF: module, variant, re-initialisation, domains, field network, part 1. -/
def moduleObjectsA : List Row := [
  ⟨0x2000, 0x1, 1, 0, 1, "Module status", .u8, .ro, .num 1, .any⟩,
  ⟨0x2000, 0x1, 1, 1, 1, "Status word", .u32, .ro, .num 0, .any⟩,
  ⟨0x2001, 0x1, 1, 0, 1, "Last abort detail", .u16, .ro, .num 0, .any⟩,
  ⟨0x2002, 0x1, 1, 0, 1, "Variant identity", .u8, .ro, .num 3, .any⟩,
  ⟨0x2002, 0x1, 1, 1, 1, "Stations fitted", .u8, .ro, .num 6, .any⟩,
  ⟨0x2002, 0x1, 1, 2, 1, "Polygons fitted", .u8, .ro, .num 3, .any⟩,
  ⟨0x2002, 0x1, 1, 3, 1, "Variant name", .str, .ro, .zeros 0, .any⟩,
  ⟨0x2010, 0x1, 1, 0, 1, "Function re-initialisation", .u8, .ro, .num 3, .any⟩,
  ⟨0x2010, 0x1, 1, 1, 1, "Reinitialise function", .u16, .cmd, .num 0, .any⟩,
  ⟨0x2010, 0x1, 1, 2, 1, "Re-initialisations", .u32, .ro, .num 0, .any⟩,
  ⟨0x2010, 0x1, 1, 3, 1, "Last function", .u16, .ro, .num 0, .any⟩,
  ⟨0x2011, 0x1, 1, 0, 1, "Recovery", .u8, .ro, .num 8, .any⟩,
  ⟨0x2011, 0x1, 1, 1, 1, "Module reset", .u32, .cmd, .num 0, .oneOf [0x74657372]⟩,
  ⟨0x2011, 0x1, 1, 2, 1, "Power cycle request", .u32, .cmd, .num 0, .oneOf [0x63796370]⟩,
  ⟨0x2011, 0x1, 1, 3, 1, "Power cycle pulse", .u16, .rw, .num 1000, .btw 200 5000⟩,
  ⟨0x2011, 0x1, 1, 4, 1, "Boot watchdog", .u16, .rw, .num 5000, .btw 2000 60000⟩,
  ⟨0x2011, 0x1, 1, 5, 1, "Boot retries", .u8, .rw, .num 2, .btw 0 8⟩,
  ⟨0x2011, 0x1, 1, 6, 1, "Last reset causes", .u8, .ro, .num 0, .any⟩,
  ⟨0x2011, 0x1, 1, 7, 1, "Module resets", .u32, .ro, .num 0, .any⟩,
  ⟨0x2011, 0x1, 1, 8, 1, "Watchdog resets", .u8, .ro, .num 0, .any⟩,
  ⟨0x2040, 0x1, 1, 0, 1, "Domain control", .u8, .ro, .num 3, .any⟩,
  ⟨0x2040, 0x1, 1, 1, 1, "Domain request", .u16, .rw, .num 231, .any⟩,
  ⟨0x2040, 0x1, 1, 2, 1, "Domain state", .u16, .ro, .num 231, .any⟩,
  ⟨0x2040, 0x1, 1, 3, 1, "Domain failed", .u16, .ro, .num 0, .any⟩,
  ⟨0x2060, 0x1, 1, 0, 1, "Field network", .u8, .ro, .num 10, .any⟩,
  ⟨0x2060, 0x1, 1, 1, 1, "ESM state", .u8, .ro, .num 1, .any⟩,
  ⟨0x2060, 0x1, 1, 2, 1, "Watchdog action", .u8, .rw, .num 0, .oneOf [0, 1]⟩,
  ⟨0x2060, 0x1, 1, 3, 1, "RxPDO rejections", .u32, .ro, .num 0, .any⟩,
  ⟨0x2060, 0x1, 1, 4, 1, "SDO requests", .u32, .ro, .num 0, .any⟩,
  ⟨0x2060, 0x1, 1, 5, 1, "SDO aborts", .u32, .ro, .num 0, .any⟩]

/-- Objects 0x2000 to 0x20FF: module, variant, re-initialisation, domains, field network, part 2. -/
def moduleObjectsB : List Row := [
  ⟨0x2060, 0x1, 1, 6, 1, "Mailbox requests", .u32, .ro, .num 0, .any⟩,
  ⟨0x2060, 0x1, 1, 7, 1, "Mailbox aborts", .u32, .ro, .num 0, .any⟩,
  ⟨0x2060, 0x1, 1, 8, 1, "Port links", .u8, .ro, .num 0, .any⟩,
  ⟨0x2060, 0x1, 1, 9, 1, "Frame errors", .u32, .ro, .num 0, .any⟩,
  ⟨0x2060, 0x1, 1, 10, 1, "Switch-over stalls", .u32, .ro, .num 0, .any⟩]

/-- Objects 0x2000 to 0x20FF: module, variant, re-initialisation, domains, field network. -/
def moduleObjects : List Row := moduleObjectsA ++ moduleObjectsB

/-- Objects 0x2100 to 0x2133: power and thermal. -/
def powerObjects : List Row := [
  ⟨0x2100, 0x1, 1, 0, 1, "Power and thermal", .u8, .ro, .num 14, .any⟩,
  ⟨0x2100, 0x1, 1, 1, 1, "Mains voltage", .u16, .ro, .num 0, .any⟩,
  ⟨0x2100, 0x1, 1, 2, 1, "Bulk voltage", .u16, .ro, .num 0, .any⟩,
  ⟨0x2100, 0x1, 1, 3, 1, "Brownout warning threshold", .u16, .rw, .num 100, .btw 90 340⟩,
  ⟨0x2100, 0x1, 1, 4, 1, "Supply state", .u8, .ro, .num 0, .any⟩,
  ⟨0x2100, 0x1, 1, 5, 1, "Brownout warnings", .u32, .ro, .num 0, .any⟩,
  ⟨0x2100, 0x1, 1, 6, 1, "Brownout resets", .u32, .ro, .num 0, .any⟩,
  ⟨0x2100, 0x1, 1, 7, 1, "Logic power", .u16, .ro, .num 0, .any⟩,
  ⟨0x2100, 0x1, 1, 8, 1, "Motor bus undervoltage", .u16, .rw, .num 20000, .btw 16000 40000⟩,
  ⟨0x2100, 0x1, 1, 9, 1, "Motor bus overvoltage", .u16, .rw, .num 56000, .btw 40000 57500⟩,
  ⟨0x2100, 0x1, 1, 10, 1, "Motor bus hysteresis", .u16, .rw, .num 1000, .btw 200 5000⟩,
  ⟨0x2100, 0x1, 1, 11, 1, "Motor bus state", .u8, .ro, .num 0, .any⟩,
  ⟨0x2100, 0x1, 1, 12, 1, "J2 voltage", .u16, .ro, .num 0, .any⟩,
  ⟨0x2100, 0x1, 1, 13, 1, "Thermal throttle", .bool, .ro, .num 0, .any⟩,
  ⟨0x2100, 0x1, 1, 14, 1, "Crock band sensor", .u8, .rw, .num 32, .btw 1 36⟩,
  ⟨0x2110, 0x1, 36, 0, 1, "Temperature channel #", .u8, .ro, .num 12, .any⟩,
  ⟨0x2110, 0x1, 36, 1, 1, "Channel enable", .bool, .rw, .num 0, .any⟩,
  ⟨0x2110, 0x1, 36, 2, 1, "Temperature", .i16, .ro, .num 0, .any⟩,
  ⟨0x2110, 0x1, 36, 3, 1, "Temperature state", .u8, .ro, .num 0, .any⟩,
  ⟨0x2110, 0x1, 36, 4, 1, "Band", .u8, .ro, .num 0, .any⟩,
  ⟨0x2110, 0x1, 36, 5, 1, "Sensor broken", .bool, .ro, .num 0, .any⟩,
  ⟨0x2110, 0x1, 36, 6, 1, "Warning threshold", .i16, .rw, .num 32767, .orOff (-400) 3000 32767⟩,
  ⟨0x2110, 0x1, 36, 7, 1, "Throttle threshold", .i16, .rw, .num 32767, .orOff (-400) 3000 32767⟩,
  ⟨0x2110, 0x1, 36, 8, 1, "Shutdown threshold", .i16, .rw, .num 32767, .orOff (-400) 3000 32767⟩,
  ⟨0x2110, 0x1, 36, 9, 1, "Hysteresis", .u16, .rw, .num 20, .btw 5 100⟩,
  ⟨0x2110, 0x1, 36, 10, 1, "Partner channel", .u8, .rw, .num 0, .zeroOr 1 36⟩,
  ⟨0x2110, 0x1, 36, 11, 1, "Thermistor R25", .u32, .idle, .num 10000, .btw 1000 100000⟩,
  ⟨0x2110, 0x1, 36, 12, 1, "Thermistor B", .u16, .idle, .num 3435, .btw 2000 5000⟩]

/-- Objects 0x2200 to 0x2220: fault handling. -/
def faultObjects : List Row := [
  ⟨0x2200, 0x1, 1, 0, 1, "Fault handling", .u8, .ro, .num 12, .any⟩,
  ⟨0x2200, 0x1, 1, 1, 1, "Fault state", .u8, .ro, .num 0, .any⟩,
  ⟨0x2200, 0x1, 1, 2, 1, "Applied class", .u8, .ro, .num 0, .any⟩,
  ⟨0x2200, 0x1, 1, 3, 1, "Class A stations", .u8, .ro, .num 0, .any⟩,
  ⟨0x2200, 0x1, 1, 4, 1, "Quiet period", .u32, .rw, .num 250, .btw 10 60000⟩,
  ⟨0x2200, 0x1, 1, 5, 1, "Quiet remaining", .u32, .ro, .num 0, .any⟩,
  ⟨0x2200, 0x1, 1, 6, 1, "Recovery counter", .u16, .ro, .num 0, .any⟩,
  ⟨0x2200, 0x1, 1, 7, 1, "Recovery limit", .u8, .rw, .num 8, .btw 1 255⟩,
  ⟨0x2200, 0x1, 1, 8, 1, "Recoveries last hour", .u8, .ro, .num 0, .any⟩,
  ⟨0x2200, 0x1, 1, 9, 1, "Fault clear", .bool, .cmd, .num 0, .oneOf [1]⟩,
  ⟨0x2200, 0x1, 1, 10, 1, "Consequence limit", .u16, .rw, .num 10, .btw 1 1000⟩,
  ⟨0x2200, 0x1, 1, 11, 1, "Interlock state", .u8, .ro, .num 0, .any⟩,
  ⟨0x2200, 0x1, 1, 12, 1, "Discrepancy time", .u16, .rw, .num 50, .btw 5 500⟩,
  ⟨0x2201, 0x1, 1, 0, 1, "Sticky bits", .u8, .ro, .num 6, .any⟩,
  ⟨0x2201, 0x1, 1, 1, 1, "Primary sticky", .dom, .ro, .zeros 20, .any⟩,
  ⟨0x2201, 0x1, 1, 2, 1, "Consequential sticky", .dom, .ro, .zeros 20, .any⟩,
  ⟨0x2201, 0x1, 1, 3, 1, "Sticky clear", .dom, .cmd, .zeros 0, .len 40 40⟩,
  ⟨0x2201, 0x1, 1, 4, 1, "First fault time", .u64, .ro, .num 0, .any⟩,
  ⟨0x2201, 0x1, 1, 5, 1, "First fault count", .u8, .ro, .num 0, .any⟩,
  ⟨0x2201, 0x1, 1, 6, 1, "First faults", .dom, .ro, .zeros 64, .any⟩,
  ⟨0x2210, 0x1, 1, 0, 1, "Reactions", .u8, .ro, .num 2, .any⟩,
  ⟨0x2210, 0x1, 1, 1, 1, "Reaction map", .dom, .rw, .reactions, .len 2560 2560⟩,
  ⟨0x2210, 0x1, 1, 2, 1, "Default reaction map", .dom, .ro, .zeros 0, .any⟩,
  ⟨0x2220, 0x1, 1, 0, 1, "Fault injection", .u8, .ro, .num 5, .any⟩,
  ⟨0x2220, 0x1, 1, 1, 1, "Injection target", .u16, .rw, .num 257, .any⟩,
  ⟨0x2220, 0x1, 1, 2, 1, "Injection count", .u16, .rw, .num 1, .btw 1 65535⟩,
  ⟨0x2220, 0x1, 1, 3, 1, "Injection reaction", .u8, .rw, .num 0, .oneOf [0, 1]⟩,
  ⟨0x2220, 0x1, 1, 4, 1, "Inject", .bool, .cmd, .num 0, .oneOf [1]⟩,
  ⟨0x2220, 0x1, 1, 5, 1, "Injections remaining", .u16, .ro, .num 0, .any⟩]

/-- Objects 0x2300 and 0x2310: twin sequencer. -/
def sequencerObjects : List Row := [
  ⟨0x2300, 0x1, 1, 0, 1, "Twin Sequencer", .u8, .ro, .num 13, .any⟩,
  ⟨0x2300, 0x1, 1, 1, 1, "Active unit", .u8, .ro, .num 1, .any⟩,
  ⟨0x2300, 0x1, 1, 2, 1, "Unit A role", .u8, .ro, .num 0, .any⟩,
  ⟨0x2300, 0x1, 1, 3, 1, "Unit B role", .u8, .ro, .num 0, .any⟩,
  ⟨0x2300, 0x1, 1, 4, 1, "Heartbeat period", .u16, .rw, .num 100, .btw 20 10000⟩,
  ⟨0x2300, 0x1, 1, 5, 1, "Heartbeat paths", .u8, .ro, .num 3, .any⟩,
  ⟨0x2300, 0x1, 1, 6, 1, "Path faults", .u32, .ro, .num 0, .any⟩,
  ⟨0x2300, 0x1, 1, 7, 1, "Checkpoint sequence", .u32, .ro, .num 0, .any⟩,
  ⟨0x2300, 0x1, 1, 8, 1, "Checkpoint time", .u64, .ro, .num 0, .any⟩,
  ⟨0x2300, 0x1, 1, 9, 1, "Switch-overs", .u32, .ro, .num 0, .any⟩,
  ⟨0x2300, 0x1, 1, 10, 1, "Last gap", .u32, .ro, .num 0, .any⟩,
  ⟨0x2300, 0x1, 1, 11, 1, "Planned switch-over", .u8, .cmd, .num 0, .oneOf [1, 2]⟩,
  ⟨0x2300, 0x1, 1, 12, 1, "Standby reload", .u8, .cmd, .num 0, .oneOf [1, 2]⟩,
  ⟨0x2300, 0x1, 1, 13, 1, "Preferred active", .u8, .rw, .num 1, .oneOf [1, 2]⟩,
  ⟨0x2310, 0x1, 1, 0, 1, "Standby health", .u8, .ro, .num 7, .any⟩,
  ⟨0x2310, 0x1, 1, 1, 1, "Result sequence", .u32, .ro, .num 0, .any⟩,
  ⟨0x2310, 0x1, 1, 2, 1, "Reporting unit", .u8, .ro, .num 0, .any⟩,
  ⟨0x2310, 0x1, 1, 3, 1, "Report time", .u64, .ro, .num 0, .any⟩,
  ⟨0x2310, 0x1, 1, 4, 1, "Tests passed", .u8, .ro, .num 0, .any⟩,
  ⟨0x2310, 0x1, 1, 5, 1, "LBIST slice", .u8, .ro, .num 0, .any⟩,
  ⟨0x2310, 0x1, 1, 6, 1, "MBIST slice", .u8, .ro, .num 0, .any⟩,
  ⟨0x2310, 0x1, 1, 7, 1, "Eligible", .bool, .ro, .num 0, .any⟩]

/-- Objects 0x2400 to 0x24FF: Stamp Clock, Event Recorder, Trust Anchor, part 1. -/
def recorderObjectsA : List Row := [
  ⟨0x2400, 0x1, 1, 0, 1, "Stamp Clock", .u8, .ro, .num 9, .any⟩,
  ⟨0x2400, 0x1, 1, 1, 1, "Stamp time", .u64, .ro, .num 0, .any⟩,
  ⟨0x2400, 0x1, 1, 2, 1, "Alignment source", .u8, .rw, .num 0, .btw 0 2⟩,
  ⟨0x2400, 0x1, 1, 3, 1, "Alignment state", .u8, .ro, .num 0, .any⟩,
  ⟨0x2400, 0x1, 1, 4, 1, "DC offset", .u64, .ro, .num 0, .any⟩,
  ⟨0x2400, 0x1, 1, 5, 1, "Alignment error", .i32, .ro, .num 0, .any⟩,
  ⟨0x2400, 0x1, 1, 6, 1, "Rate correction", .i32, .ro, .num 0, .any⟩,
  ⟨0x2400, 0x1, 1, 7, 1, "STAMP_SYNC period", .u32, .rw, .num 1000000000, .btw 1000 1000000000⟩,
  ⟨0x2400, 0x1, 1, 8, 1, "STAMP_SYNC capture", .u64, .ro, .num 0, .any⟩,
  ⟨0x2400, 0x1, 1, 9, 1, "STAMP_SYNC edge", .u8, .rw, .num 0, .oneOf [0, 1]⟩,
  ⟨0x2401, 0x1, 1, 0, 1, "Event Recorder", .u8, .ro, .num 7, .any⟩,
  ⟨0x2401, 0x1, 1, 1, 1, "Trace policy", .u8, .rw, .num 0, .oneOf [0, 1]⟩,
  ⟨0x2401, 0x1, 1, 2, 1, "Drain holdoff", .u16, .rw, .num 50, .btw 1 10000⟩,
  ⟨0x2401, 0x1, 1, 3, 1, "Records held", .u16, .ro, .num 0, .any⟩,
  ⟨0x2401, 0x1, 1, 4, 1, "Records lost", .u32, .ro, .num 0, .any⟩,
  ⟨0x2401, 0x1, 1, 5, 1, "Records damaged", .u32, .ro, .num 0, .any⟩,
  ⟨0x2401, 0x1, 1, 6, 1, "Power-up count", .u32, .ro, .num 0, .any⟩,
  ⟨0x2401, 0x1, 1, 7, 1, "Host marker", .u32, .cmd, .num 0, .any⟩,
  ⟨0x2410, 0x1, 1, 0, 1, "Measurements", .u8, .ro, .num 6, .any⟩,
  ⟨0x2410, 0x1, 1, 1, 1, "Result sequence", .u32, .ro, .num 0, .any⟩,
  ⟨0x2410, 0x1, 1, 2, 1, "Slot values", .dom, .ro, .zeros 0, .any⟩,
  ⟨0x2410, 0x1, 1, 3, 1, "Extend counts", .dom, .ro, .zeros 0, .any⟩,
  ⟨0x2410, 0x1, 1, 4, 1, "Signature valid", .u8, .ro, .num 0, .any⟩,
  ⟨0x2410, 0x1, 1, 5, 1, "Boot source", .u16, .ro, .num 0, .any⟩,
  ⟨0x2410, 0x1, 1, 6, 1, "Loaded release", .dom, .ro, .zeros 0, .any⟩,
  ⟨0x2420, 0x1, 1, 0, 1, "Expected measurements", .u8, .ro, .num 5, .any⟩,
  ⟨0x2420, 0x1, 1, 1, 1, "Expected mask", .u8, .rw, .num 0, .btw 0 15⟩,
  ⟨0x2420, 0x1, 1, 2, 1, "Expected values", .dom, .rw, .zeros 192, .len 192 192⟩,
  ⟨0x2420, 0x1, 1, 3, 1, "Mismatch", .u8, .ro, .num 0, .any⟩,
  ⟨0x2420, 0x1, 1, 4, 1, "Mismatch acknowledge", .u8, .cmd, .num 0, .any⟩]

/-- Objects 0x2400 to 0x24FF: Stamp Clock, Event Recorder, Trust Anchor, part 2. -/
def recorderObjectsB : List Row := [
  ⟨0x2420, 0x1, 1, 5, 1, "Gate closed", .bool, .ro, .num 0, .any⟩,
  ⟨0x2430, 0x1, 1, 0, 1, "Certificates", .u8, .ro, .num 2, .any⟩,
  ⟨0x2430, 0x1, 1, 1, 1, "Certificate chain", .dom, .ro, .zeros 0, .any⟩,
  ⟨0x2430, 0x1, 1, 2, 1, "Public key", .dom, .ro, .zeros 0, .any⟩,
  ⟨0x2440, 0x1, 1, 0, 1, "Attestation", .u8, .ro, .num 3, .any⟩,
  ⟨0x2440, 0x1, 1, 1, 1, "Result sequence", .u32, .ro, .num 0, .any⟩,
  ⟨0x2440, 0x1, 1, 2, 1, "Attest", .dom, .cmd, .zeros 0, .len 32 32⟩,
  ⟨0x2440, 0x1, 1, 3, 1, "Report", .dom, .ro, .zeros 0, .any⟩]

/-- Objects 0x2400 to 0x24FF: Stamp Clock, Event Recorder, Trust Anchor. -/
def recorderObjects : List Row := recorderObjectsA ++ recorderObjectsB

/-- Objects 0x3000 to 0x3050: position base, part 1. -/
def positionObjectsA : List Row := [
  ⟨0x3001, 0x1, 8, 0, 1, "Encoder E#", .u8, .ro, .num 8, .any⟩,
  ⟨0x3001, 0x1, 8, 1, 1, "Encoder enable", .bool, .rw, .num 0, .any⟩,
  ⟨0x3001, 0x1, 8, 2, 1, "Sublines per edge", .u32, .idle, .num 4194304, .btw 256 16777216⟩,
  ⟨0x3001, 0x1, 8, 3, 1, "Direction", .u8, .idle, .num 0, .oneOf [0, 1]⟩,
  ⟨0x3001, 0x1, 8, 4, 1, "Loop bandwidth", .u16, .idle, .num 500, .btw 50 2000⟩,
  ⟨0x3001, 0x1, 8, 5, 1, "Edge filter", .u8, .idle, .num 12, .step 0 40 4⟩,
  ⟨0x3001, 0x1, 8, 6, 1, "Standstill time", .u16, .idle, .num 10000, .btw 100 60000⟩,
  ⟨0x3001, 0x1, 8, 7, 1, "Loop state", .u8, .ro, .num 0, .any⟩,
  ⟨0x3001, 0x1, 8, 8, 1, "Edge count", .u32, .ro, .num 0, .any⟩,
  ⟨0x3010, 0x1, 8, 0, 1, "Axis A#", .u8, .ro, .num 6, .any⟩,
  ⟨0x3010, 0x1, 8, 1, 1, "Axis source", .u8, .idle, .num 0, .oneOf [1, 2, 3, 4, 5, 6, 7, 8, 0x11, 0x12, 0x13, 0x14, 0x15, 0x16, 0x17, 0x18, 0x19, 0x1A, 0x1B, 0x1C]⟩,
  ⟨0x3010, 0x1, 8, 2, 1, "Axis position", .u64, .ro, .num 0, .any⟩,
  ⟨0x3010, 0x1, 8, 3, 1, "Axis preset", .u64, .idle, .num 0, .btw 0 0xFFFFFFFFFFFF⟩,
  ⟨0x3010, 0x1, 8, 4, 1, "Axis velocity", .i32, .ro, .num 0, .any⟩,
  ⟨0x3010, 0x1, 8, 5, 1, "Sublines per microstep", .u32, .idle, .num 65536, .btw 256 16777216⟩,
  ⟨0x3010, 0x1, 8, 6, 1, "Wrap count", .u16, .ro, .num 0, .any⟩,
  ⟨0x3020, 0x1, 1, 0, 1, "Mains time base", .u8, .ro, .num 6, .any⟩,
  ⟨0x3020, 0x1, 1, 1, 1, "Mains state", .u8, .ro, .num 0, .any⟩,
  ⟨0x3020, 0x1, 1, 2, 1, "Mains cycle", .u32, .ro, .num 0, .any⟩,
  ⟨0x3020, 0x1, 1, 3, 1, "Mains phase", .u16, .ro, .num 0, .any⟩,
  ⟨0x3020, 0x1, 1, 4, 1, "Mains frequency", .u32, .ro, .num 0, .any⟩,
  ⟨0x3020, 0x1, 1, 5, 1, "Phase offset", .i16, .idle, .num 0, .btw (-32768) 32767⟩,
  ⟨0x3020, 0x1, 1, 6, 1, "Holdover cycles", .u8, .rw, .num 8, .btw 1 32⟩,
  ⟨0x3030, 0x1, 1, 0, 1, "Capture", .u8, .ro, .num 48, .any⟩,
  ⟨0x3030, 0x1, 1, 1, 16, "Capture configuration", .u32, .rw, .num 0, .any⟩,
  ⟨0x3030, 0x1, 1, 17, 16, "Capture position", .u64, .ro, .num 0, .any⟩,
  ⟨0x3030, 0x1, 1, 33, 16, "Capture time", .u64, .ro, .num 0, .any⟩,
  ⟨0x3040, 0x1, 1, 0, 1, "Schedule slots", .u8, .ro, .num 7, .any⟩,
  ⟨0x3040, 0x1, 1, 1, 1, "Free slots", .u16, .ro, .num 256, .any⟩,
  ⟨0x3040, 0x1, 1, 2, 1, "Slots armed", .u16, .ro, .num 0, .any⟩]

/-- Objects 0x3000 to 0x3050: position base, part 2. -/
def positionObjectsB : List Row := [
  ⟨0x3040, 0x1, 1, 3, 1, "Slots pending", .u16, .ro, .num 0, .any⟩,
  ⟨0x3040, 0x1, 1, 4, 1, "Slot firings", .u32, .ro, .num 0, .any⟩,
  ⟨0x3040, 0x1, 1, 5, 1, "Slots freed unfired", .u32, .ro, .num 0, .any⟩,
  ⟨0x3040, 0x1, 1, 6, 1, "Slot select", .u8, .rw, .num 0, .btw 0 255⟩,
  ⟨0x3040, 0x1, 1, 7, 1, "Slot descriptor", .dom, .ro, .zeros 0, .any⟩,
  ⟨0x3050, 0x1, 1, 0, 1, "General outputs", .u8, .ro, .num 6, .any⟩,
  ⟨0x3050, 0x1, 1, 1, 1, "Output enable", .u32, .rw, .num 0, .any⟩,
  ⟨0x3050, 0x1, 1, 2, 1, "Output owner", .u32, .idle, .num 0, .any⟩,
  ⟨0x3050, 0x1, 1, 3, 1, "Host output state", .u32, .rw, .num 0, .any⟩,
  ⟨0x3050, 0x1, 1, 4, 1, "Output pin state", .u32, .ro, .num 0, .any⟩,
  ⟨0x3050, 0x1, 1, 5, 1, "Overcurrent latch", .u32, .ro, .num 0, .any⟩,
  ⟨0x3050, 0x1, 1, 6, 1, "Overcurrent clear", .u32, .cmd, .num 0, .any⟩]

/-- Objects 0x3000 to 0x3050: position base. -/
def positionObjects : List Row := positionObjectsA ++ positionObjectsB

/-- Objects 0x3100 to 0x3200: scan timing, stations in common, part 1. -/
def scanObjectsA : List Row := [
  ⟨0x3101, 0x1, 3, 0, 1, "Polygon P# timing", .u8, .ro, .num 15, .any⟩,
  ⟨0x3101, 0x1, 3, 1, 1, "Lock enable", .bool, .rw, .num 0, .any⟩,
  ⟨0x3101, 0x1, 3, 2, 1, "Target facet rate", .u32, .ro, .num 0, .any⟩,
  ⟨0x3101, 0x1, 3, 3, 1, "Lock window", .u16, .rw, .num 100, .btw 10 1000⟩,
  ⟨0x3101, 0x1, 3, 4, 1, "Unlock window", .u16, .rw, .num 500, .btw 20 5000⟩,
  ⟨0x3101, 0x1, 3, 5, 1, "Lock revolutions", .u16, .rw, .num 256, .btw 16 4096⟩,
  ⟨0x3101, 0x1, 3, 6, 1, "Seek timeout", .u16, .rw, .num 500, .btw 50 5000⟩,
  ⟨0x3101, 0x1, 3, 7, 1, "Lock state", .u8, .ro, .num 0, .any⟩,
  ⟨0x3101, 0x1, 3, 8, 1, "Facet identity state", .u8, .ro, .num 0, .any⟩,
  ⟨0x3101, 0x1, 3, 9, 1, "Facet period", .u32, .ro, .num 0, .any⟩,
  ⟨0x3101, 0x1, 3, 10, 1, "Timing reference", .u8, .ro, .num 0, .any⟩,
  ⟨0x3101, 0x1, 3, 11, 1, "Partner offset", .u8, .idle, .num 4, .btw 0 7⟩,
  ⟨0x3101, 0x1, 3, 12, 1, "Minimum signature", .u16, .idle, .num 20, .btw 5 500⟩,
  ⟨0x3101, 0x1, 3, 13, 1, "Facet signature", .dom, .idle, .zeros 32, .len 32 32⟩,
  ⟨0x3101, 0x1, 3, 14, 1, "Relearn", .bool, .cmd, .num 0, .oneOf [1]⟩,
  ⟨0x3101, 0x1, 3, 15, 1, "Current facet", .u8, .ro, .num 255, .any⟩,
  ⟨0x3111, 0x1, 6, 0, 1, "Station # scan timing", .u8, .ro, .num 11, .any⟩,
  ⟨0x3111, 0x1, 6, 1, 1, "SOS-EOS distance", .u32, .idle, .num 2084044800, .btw 0x3E80000 0x9C400000⟩,
  ⟨0x3111, 0x1, 6, 2, 1, "SOS window", .u16, .rw, .num 200, .btw 20 2000⟩,
  ⟨0x3111, 0x1, 6, 3, 1, "EOS window", .u16, .rw, .num 200, .btw 20 2000⟩,
  ⟨0x3111, 0x1, 6, 4, 1, "Learning shift", .u8, .rw, .num 4, .btw 0 8⟩,
  ⟨0x3111, 0x1, 6, 5, 1, "Minimum SOS crossings", .u8, .rw, .num 4, .btw 1 32⟩,
  ⟨0x3111, 0x1, 6, 6, 1, "Scan sync state", .u8, .ro, .num 0, .any⟩,
  ⟨0x3111, 0x1, 6, 7, 1, "Missed facets", .u32, .ro, .num 0, .any⟩,
  ⟨0x3111, 0x1, 6, 8, 1, "EOS missing", .u32, .ro, .num 0, .any⟩,
  ⟨0x3111, 0x1, 6, 9, 1, "Mean SOS-EOS interval", .u32, .ro, .num 0, .any⟩,
  ⟨0x3111, 0x1, 6, 10, 1, "Mean pixel clock", .u32, .ro, .num 0, .any⟩,
  ⟨0x3111, 0x1, 6, 11, 1, "Correction mode", .u8, .ro, .num 0, .any⟩,
  ⟨0x3121, 0x1, 6, 0, 1, "Station # facet table", .u8, .ro, .num 17, .any⟩,
  ⟨0x3121, 0x1, 6, 1, 8, "Facet interval", .u32, .ro, .num 0, .any⟩]

/-- Objects 0x3100 to 0x3200: scan timing, stations in common, part 2. -/
def scanObjectsB : List Row := [
  ⟨0x3121, 0x1, 6, 9, 8, "Facet pixel clock", .u32, .ro, .num 0, .any⟩,
  ⟨0x3121, 0x1, 6, 17, 1, "Facets learned", .u8, .ro, .num 0, .any⟩,
  ⟨0x3200, 0x1, 1, 0, 1, "Station common", .u8, .ro, .num 3, .any⟩,
  ⟨0x3200, 0x1, 1, 1, 1, "Stations engaged", .u8, .ro, .num 0, .any⟩,
  ⟨0x3200, 0x1, 1, 2, 1, "Lasers on", .u8, .ro, .num 0, .any⟩,
  ⟨0x3200, 0x1, 1, 3, 1, "Speed margin warnings", .u8, .ro, .num 0, .any⟩]

/-- Objects 0x3100 to 0x3200: scan timing, stations in common. -/
def scanObjects : List Row := scanObjectsA ++ scanObjectsB

/-- Objects 0x3310 to 0x3461: stations and beam tables, part 1. -/
def stationObjectsA : List Row := [
  ⟨0x3310, 0x10, 6, 0, 1, "Station # control", .u8, .ro, .num 7, .any⟩,
  ⟨0x3310, 0x10, 6, 1, 1, "Engage request", .bool, .rw, .num 0, .any⟩,
  ⟨0x3310, 0x10, 6, 2, 1, "Station state", .u8, .ro, .num 1, .any⟩,
  ⟨0x3310, 0x10, 6, 3, 1, "Laser enable", .bool, .rw, .num 0, .any⟩,
  ⟨0x3310, 0x10, 6, 4, 1, "Laser pin state", .bool, .ro, .num 0, .any⟩,
  ⟨0x3310, 0x10, 6, 5, 1, "Laser hold cause", .u8, .ro, .num 3, .any⟩,
  ⟨0x3310, 0x10, 6, 6, 1, "Imaging ready", .bool, .ro, .num 0, .any⟩,
  ⟨0x3310, 0x10, 6, 7, 1, "Page imaging", .u16, .ro, .num 0, .any⟩,
  ⟨0x3311, 0x10, 6, 0, 1, "Station # geometry", .u8, .ro, .num 4, .any⟩,
  ⟨0x3311, 0x10, 6, 1, 1, "Image start pixel", .u16, .idle, .num 400, .btw 0 8192⟩,
  ⟨0x3311, 0x10, 6, 2, 1, "Image width", .u16, .idle, .num 31200, .step 64 31200 16⟩,
  ⟨0x3311, 0x10, 6, 3, 1, "Pulse justification", .u8, .idle, .num 1, .btw 0 3⟩,
  ⟨0x3311, 0x10, 6, 4, 1, "Pulse table", .dom, .idle, .pulse, .len 32 32⟩,
  ⟨0x3312, 0x10, 6, 0, 1, "Station # line assignment", .u8, .ro, .num 9, .any⟩,
  ⟨0x3312, 0x10, 6, 1, 1, "Frontier line", .i32, .ro, .num 0, .any⟩,
  ⟨0x3312, 0x10, 6, 2, 1, "Lines last facet", .u8, .ro, .num 0, .any⟩,
  ⟨0x3312, 0x10, 6, 3, 1, "First firing beam", .u8, .ro, .num 0, .any⟩,
  ⟨0x3312, 0x10, 6, 4, 1, "Mean advance", .u32, .ro, .num 0, .any⟩,
  ⟨0x3312, 0x10, 6, 5, 1, "Speed margin", .i16, .ro, .num 0, .any⟩,
  ⟨0x3312, 0x10, 6, 6, 1, "Deficit lines", .u32, .ro, .num 0, .any⟩,
  ⟨0x3312, 0x10, 6, 7, 1, "Deficit facets", .u32, .ro, .num 0, .any⟩,
  ⟨0x3312, 0x10, 6, 8, 1, "Extent margin", .u8, .ro, .num 0, .any⟩,
  ⟨0x3312, 0x10, 6, 9, 1, "Underruns", .u32, .ro, .num 0, .any⟩,
  ⟨0x3313, 0x10, 6, 0, 1, "Station # bow and skew", .u8, .ro, .num 4, .any⟩,
  ⟨0x3313, 0x10, 6, 1, 1, "Bow table A", .dom, .rw, .zeros 1024, .len 1024 1024⟩,
  ⟨0x3313, 0x10, 6, 2, 1, "Bow table B", .dom, .rw, .zeros 1024, .len 1024 1024⟩,
  ⟨0x3313, 0x10, 6, 3, 1, "Bow bank select", .u8, .rw, .num 0, .oneOf [0, 1]⟩,
  ⟨0x3313, 0x10, 6, 4, 1, "Bow banks in use", .u8, .ro, .num 0, .any⟩,
  ⟨0x3314, 0x10, 6, 0, 1, "Station # beam health", .u8, .ro, .num 9, .any⟩,
  ⟨0x3314, 0x10, 6, 1, 1, "Suspect beams", .u32, .ro, .num 0, .any⟩]

/-- Objects 0x3310 to 0x3461: stations and beam tables, part 2. -/
def stationObjectsB : List Row := [
  ⟨0x3314, 0x10, 6, 2, 1, "Dead beams", .u32, .ro, .num 0, .any⟩,
  ⟨0x3314, 0x10, 6, 3, 1, "Retired beams", .u32, .idle, .num 0, .any⟩,
  ⟨0x3314, 0x10, 6, 4, 1, "Beam restore", .u32, .cmd, .num 0, .any⟩,
  ⟨0x3314, 0x10, 6, 5, 1, "Weak crossing", .u8, .rw, .num 50, .btw 10 90⟩,
  ⟨0x3314, 0x10, 6, 6, 1, "Failed crossings", .dom, .ro, .zeros 128, .any⟩,
  ⟨0x3314, 0x10, 6, 7, 1, "Substitution clamps", .u32, .ro, .num 0, .any⟩,
  ⟨0x3314, 0x10, 6, 8, 1, "Substitution losses", .u32, .ro, .num 0, .any⟩,
  ⟨0x3314, 0x10, 6, 9, 1, "Health summary", .u8, .ro, .num 0, .any⟩,
  ⟨0x3315, 0x10, 6, 0, 1, "Station # APC", .u8, .ro, .num 9, .any⟩,
  ⟨0x3315, 0x10, 6, 1, 1, "APC gain", .u16, .rw, .num 1024, .btw 1 4096⟩,
  ⟨0x3315, 0x10, 6, 2, 1, "Current limit", .u16, .idle, .num 3500, .btw 0 4095⟩,
  ⟨0x3315, 0x10, 6, 3, 1, "Acquisition current", .u16, .idle, .num 1200, .btw 0 4095⟩,
  ⟨0x3315, 0x10, 6, 4, 1, "APC tolerance", .u16, .rw, .num 40, .btw 1 1000⟩,
  ⟨0x3315, 0x10, 6, 5, 1, "Beam current", .dom, .ro, .zeros 0, .any⟩,
  ⟨0x3315, 0x10, 6, 6, 1, "Beam sample", .dom, .ro, .zeros 64, .any⟩,
  ⟨0x3315, 0x10, 6, 7, 1, "APC saturated", .u32, .ro, .num 0, .any⟩,
  ⟨0x3315, 0x10, 6, 8, 1, "APC overruns", .u32, .ro, .num 0, .any⟩,
  ⟨0x3315, 0x10, 6, 9, 1, "SPI errors", .u32, .ro, .num 0, .any⟩,
  ⟨0x3316, 0x10, 6, 0, 1, "Station # beam drivers", .u8, .ro, .num 6, .any⟩,
  ⟨0x3316, 0x10, 6, 1, 1, "Drivers fitted", .u8, .idle, .num 4, .oneOf [1, 2, 4]⟩,
  ⟨0x3316, 0x10, 6, 2, 1, "Driver identity", .dom, .ro, .zeros 8, .any⟩,
  ⟨0x3316, 0x10, 6, 3, 1, "Driver status", .dom, .ro, .zeros 8, .any⟩,
  ⟨0x3316, 0x10, 6, 4, 1, "Driver temperature", .dom, .ro, .zeros 8, .any⟩,
  ⟨0x3316, 0x10, 6, 5, 1, "Driver state", .u8, .ro, .num 0, .any⟩,
  ⟨0x3316, 0x10, 6, 6, 1, "Status poll interval", .u16, .rw, .num 10, .btw 1 1000⟩,
  ⟨0x3317, 0x10, 6, 0, 1, "Station # VCSEL temperature", .u8, .ro, .num 9, .any⟩,
  ⟨0x3317, 0x10, 6, 1, 1, "VCSEL temperature", .i16, .ro, .num 0, .any⟩,
  ⟨0x3317, 0x10, 6, 2, 1, "Temperature state", .u8, .ro, .num 0, .any⟩,
  ⟨0x3317, 0x10, 6, 3, 1, "Warning threshold", .i16, .rw, .num 600, .btw 0 1000⟩,
  ⟨0x3317, 0x10, 6, 4, 1, "Throttle threshold", .i16, .rw, .num 650, .btw 0 1000⟩]

/-- Objects 0x3310 to 0x3461: stations and beam tables, part 3. -/
def stationObjectsC : List Row := [
  ⟨0x3317, 0x10, 6, 5, 1, "Shutdown threshold", .i16, .rw, .num 720, .btw 0 1000⟩,
  ⟨0x3317, 0x10, 6, 6, 1, "Hysteresis", .u16, .rw, .num 20, .btw 5 100⟩,
  ⟨0x3317, 0x10, 6, 7, 1, "Thermistor broken", .bool, .ro, .num 0, .any⟩,
  ⟨0x3317, 0x10, 6, 8, 1, "Thermistor R25", .u32, .idle, .num 10000, .btw 1000 100000⟩,
  ⟨0x3317, 0x10, 6, 9, 1, "Thermistor B", .u16, .idle, .num 3435, .btw 2000 5000⟩,
  ⟨0x3410, 0x10, 6, 0, 1, "Station # delay trim", .u8, .ro, .num 8, .any⟩,
  ⟨0x3410, 0x10, 6, 1, 6, "Trim table", .dom, .rw, .zeros 64, .len 64 64⟩,
  ⟨0x3410, 0x10, 6, 7, 1, "Active band", .u8, .ro, .num 0, .any⟩,
  ⟨0x3410, 0x10, 6, 8, 1, "Stagger", .dom, .ro, .zeros 64, .any⟩,
  ⟨0x3411, 0x10, 6, 0, 1, "Station # APC curves", .u8, .ro, .num 6, .any⟩,
  ⟨0x3411, 0x10, 6, 1, 6, "APC curve", .dom, .rw, .apc, .len 64 64⟩]

/-- Objects 0x3310 to 0x3461: stations and beam tables. -/
def stationObjects : List Row := stationObjectsA ++ stationObjectsB ++ stationObjectsC

/-- Objects 0x3500 to 0x352F: pages and recipes. -/
def pageObjects : List Row := [
  ⟨0x3500, 0x1, 1, 0, 1, "Page execution", .u8, .ro, .num 23, .any⟩,
  ⟨0x3500, 0x1, 1, 1, 1, "Commit enable", .bool, .rw, .num 0, .any⟩,
  ⟨0x3500, 0x1, 1, 2, 1, "Page pitch", .u32, .rw, .num 31181, .btw 1000 1000000⟩,
  ⟨0x3500, 0x1, 1, 3, 1, "Admission speed", .u16, .rw, .num 1280, .btw 100 1280⟩,
  ⟨0x3500, 0x1, 1, 4, 1, "Admission lead", .u16, .rw, .num 40, .btw 1 1000⟩,
  ⟨0x3500, 0x1, 1, 5, 1, "Automatic reprint", .bool, .rw, .num 0, .any⟩,
  ⟨0x3500, 0x1, 1, 6, 1, "Reprint limit", .u8, .rw, .num 2, .btw 1 8⟩,
  ⟨0x3500, 0x1, 1, 7, 1, "Paper present input", .u8, .idle, .num 0, .input 48⟩,
  ⟨0x3500, 0x1, 1, 8, 1, "Web mode", .bool, .idle, .num 0, .any⟩,
  ⟨0x3500, 0x1, 1, 9, 1, "Web break input", .u8, .idle, .num 0, .input 48⟩,
  ⟨0x3500, 0x1, 1, 10, 1, "Splice input", .u8, .idle, .num 0, .input 48⟩,
  ⟨0x3500, 0x1, 1, 11, 1, "Splice clearance", .u32, .rw, .num 10000, .btw 0 1000000⟩,
  ⟨0x3500, 0x1, 1, 12, 1, "Pages queued", .u8, .ro, .num 0, .any⟩,
  ⟨0x3500, 0x1, 1, 13, 1, "Pages in flight", .u8, .ro, .num 0, .any⟩,
  ⟨0x3500, 0x1, 1, 14, 1, "Pages held", .u8, .ro, .num 0, .any⟩,
  ⟨0x3500, 0x1, 1, 15, 1, "Next gate", .u64, .ro, .num 0, .any⟩,
  ⟨0x3500, 0x1, 1, 16, 1, "Throttle pitches", .u8, .ro, .num 0, .any⟩,
  ⟨0x3500, 0x1, 1, 17, 1, "Last refusal", .u16, .ro, .num 0, .any⟩,
  ⟨0x3500, 0x1, 1, 18, 1, "Page select", .u16, .rw, .num 0, .any⟩,
  ⟨0x3500, 0x1, 1, 19, 1, "Selected page state", .u8, .ro, .num 255, .any⟩,
  ⟨0x3500, 0x1, 1, 20, 1, "Selected spoil cause", .u8, .ro, .num 0, .any⟩,
  ⟨0x3500, 0x1, 1, 21, 1, "Deadline expiries", .u32, .ro, .num 0, .any⟩,
  ⟨0x3500, 0x1, 1, 22, 1, "Pages delivered", .u32, .ro, .num 0, .any⟩,
  ⟨0x3500, 0x1, 1, 23, 1, "Pages spoiled", .u32, .ro, .num 0, .any⟩,
  ⟨0x3510, 0x1, 32, 0, 1, "Recipe #", .u8, .ro, .num 2, .any⟩,
  ⟨0x3510, 0x1, 32, 1, 1, "Recipe", .dom, .rw, .zeros 0, .recipe⟩,
  ⟨0x3510, 0x1, 32, 2, 1, "Recipe users", .u8, .ro, .num 0, .any⟩]

/-- Objects 0x3600: the Press. -/
def pressObjects : List Row := [
  ⟨0x3600, 0x1, 1, 0, 1, "Press", .u8, .ro, .num 17, .any⟩,
  ⟨0x3600, 0x1, 1, 1, 1, "Decode lanes in service", .u32, .ro, .num 0, .any⟩,
  ⟨0x3600, 0x1, 1, 2, 1, "Check lanes in service", .u8, .ro, .num 0, .any⟩,
  ⟨0x3600, 0x1, 1, 3, 1, "Encode lanes in service", .u8, .ro, .num 0, .any⟩,
  ⟨0x3600, 0x1, 1, 4, 1, "Streaming lanes", .u8, .ro, .num 0, .any⟩,
  ⟨0x3600, 0x1, 1, 5, 1, "Lane select", .u8, .rw, .num 1, .any⟩,
  ⟨0x3600, 0x1, 1, 6, 1, "Lane state", .u8, .ro, .num 0, .any⟩,
  ⟨0x3600, 0x1, 1, 7, 1, "Lane blocks", .u32, .ro, .num 0, .any⟩,
  ⟨0x3600, 0x1, 1, 8, 1, "Lane bytes out", .u64, .ro, .num 0, .any⟩,
  ⟨0x3600, 0x1, 1, 9, 1, "Lane stall cycles", .u64, .ro, .num 0, .any⟩,
  ⟨0x3600, 0x1, 1, 10, 1, "Lane fault cause", .u8, .ro, .num 0, .any⟩,
  ⟨0x3600, 0x1, 1, 11, 1, "Take out of service", .u8, .cmd, .num 0, .any⟩,
  ⟨0x3600, 0x1, 1, 12, 1, "Blocks checked", .u32, .ro, .num 0, .any⟩,
  ⟨0x3600, 0x1, 1, 13, 1, "Check rejections", .u32, .ro, .num 0, .any⟩,
  ⟨0x3600, 0x1, 1, 14, 1, "Reissues", .u32, .ro, .num 0, .any⟩,
  ⟨0x3600, 0x1, 1, 15, 1, "Verify mismatches", .u32, .ro, .num 0, .any⟩,
  ⟨0x3600, 0x1, 1, 16, 1, "Bad blocks", .u32, .ro, .num 0, .any⟩,
  ⟨0x3600, 0x1, 1, 17, 1, "Spool level", .u8, .rw, .num 6, .btw 1 9⟩]

/-- Objects 0x3700 to 0x3710: the Crock. -/
def crockObjects : List Row := [
  ⟨0x3700, 0x1, 1, 0, 1, "Crock", .u8, .ro, .num 12, .any⟩,
  ⟨0x3700, 0x1, 1, 1, 1, "Crock state", .u8, .ro, .num 0, .any⟩,
  ⟨0x3700, 0x1, 1, 2, 1, "Automatic spool", .bool, .rw, .num 0, .any⟩,
  ⟨0x3700, 0x1, 1, 3, 1, "Event archive enable", .bool, .rw, .num 0, .any⟩,
  ⟨0x3700, 0x1, 1, 4, 1, "Checkpoint archive enable", .bool, .rw, .num 0, .any⟩,
  ⟨0x3700, 0x1, 1, 5, 1, "Archive base interval", .u16, .rw, .num 60, .btw 10 3600⟩,
  ⟨0x3700, 0x1, 1, 6, 1, "Spare warning", .u16, .rw, .num 1024, .btw 256 2048⟩,
  ⟨0x3700, 0x1, 1, 7, 1, "Spare blocks", .u16, .ro, .num 0, .any⟩,
  ⟨0x3700, 0x1, 1, 8, 1, "Program volume", .u64, .ro, .num 0, .any⟩,
  ⟨0x3700, 0x1, 1, 9, 1, "Host write volume", .u64, .ro, .num 0, .any⟩,
  ⟨0x3700, 0x1, 1, 10, 1, "Uncorrectable reads", .u32, .ro, .num 0, .any⟩,
  ⟨0x3700, 0x1, 1, 11, 1, "Soft retries", .u32, .ro, .num 0, .any⟩,
  ⟨0x3700, 0x1, 1, 12, 1, "Health run", .bool, .cmd, .num 0, .oneOf [1]⟩,
  ⟨0x3701, 0x1, 1, 0, 1, "Firmware slots", .u8, .ro, .num 7, .any⟩,
  ⟨0x3701, 0x1, 1, 1, 5, "Slot state", .u8, .ro, .num 0, .any⟩,
  ⟨0x3701, 0x1, 1, 6, 1, "Boot slot Sequencer A", .u8, .rw, .num 1, .oneOf [1, 2]⟩,
  ⟨0x3701, 0x1, 1, 7, 1, "Boot slot Sequencer B", .u8, .rw, .num 1, .oneOf [1, 2]⟩,
  ⟨0x3702, 0x1, 1, 0, 1, "Spool", .u8, .ro, .num 3, .any⟩,
  ⟨0x3702, 0x1, 1, 1, 1, "Spool objects", .u16, .ro, .num 0, .any⟩,
  ⟨0x3702, 0x1, 1, 2, 1, "Spool free", .u32, .ro, .num 0, .any⟩,
  ⟨0x3702, 0x1, 1, 3, 1, "Archive positions", .dom, .ro, .zeros 0, .any⟩,
  ⟨0x3710, 0x1, 1, 0, 1, "Crock health", .u8, .ro, .num 8, .any⟩,
  ⟨0x3710, 0x1, 1, 1, 1, "Result sequence", .u32, .ro, .num 0, .any⟩,
  ⟨0x3710, 0x1, 1, 2, 1, "Report time", .u64, .ro, .num 0, .any⟩,
  ⟨0x3710, 0x1, 1, 3, 1, "Spare blocks", .u16, .ro, .num 0, .any⟩,
  ⟨0x3710, 0x1, 1, 4, 1, "Bad blocks", .u16, .ro, .num 0, .any⟩,
  ⟨0x3710, 0x1, 1, 5, 1, "Erase counts", .dom, .ro, .zeros 0, .any⟩,
  ⟨0x3710, 0x1, 1, 6, 1, "Write amplification", .u16, .ro, .num 0, .any⟩,
  ⟨0x3710, 0x1, 1, 7, 1, "Budget used", .u16, .ro, .num 0, .any⟩,
  ⟨0x3710, 0x1, 1, 8, 1, "Remaining life", .u32, .ro, .num 0, .any⟩]

/-- Objects 0x3800 to 0x3830: fabric, Ladle, locks, host link, part 1. -/
def fabricObjectsA : List Row := [
  ⟨0x3800, 0x1, 1, 0, 1, "Memory Fabric", .u8, .ro, .num 9, .any⟩,
  ⟨0x3800, 0x1, 1, 1, 1, "DRAM size", .u32, .ro, .num 32768, .any⟩,
  ⟨0x3800, 0x1, 1, 2, 1, "Correctable errors", .u32, .ro, .num 0, .any⟩,
  ⟨0x3800, 0x1, 1, 3, 1, "Uncorrectable errors", .u32, .ro, .num 0, .any⟩,
  ⟨0x3800, 0x1, 1, 4, 1, "Last error address", .u64, .ro, .num 0, .any⟩,
  ⟨0x3800, 0x1, 1, 5, 1, "Scrub period", .u32, .rw, .num 3600, .btw 60 86400⟩,
  ⟨0x3800, 0x1, 1, 6, 1, "Scrub passes", .u32, .ro, .num 0, .any⟩,
  ⟨0x3800, 0x1, 1, 7, 1, "Statistics input", .u8, .rw, .num 15, .btw 4 15⟩,
  ⟨0x3800, 0x1, 1, 8, 1, "Grants", .u64, .ro, .num 0, .any⟩,
  ⟨0x3800, 0x1, 1, 9, 1, "Preemptions", .u64, .ro, .num 0, .any⟩,
  ⟨0x3801, 0x1, 1, 0, 1, "Burst limits", .u8, .ro, .num 16, .any⟩,
  ⟨0x3801, 0x1, 1, 1, 4, "Burst limit", .u16, .ro, .num 0, .any⟩,
  ⟨0x3801, 0x1, 1, 5, 12, "Burst limit", .u16, .rw, .num 0, .step 64 4096 64⟩,
  ⟨0x3810, 0x1, 1, 0, 1, "Ladle", .u8, .ro, .num 19, .any⟩,
  ⟨0x3810, 0x1, 1, 1, 16, "Channel input", .u8, .rw, .num 7, .oneOf [7, 8]⟩,
  ⟨0x3810, 0x1, 1, 17, 1, "Ladle state", .u8, .ro, .num 0, .any⟩,
  ⟨0x3810, 0x1, 1, 18, 1, "Stop address", .u64, .ro, .num 0, .any⟩,
  ⟨0x3810, 0x1, 1, 19, 1, "Lock wait limit", .u16, .rw, .num 10, .btw 1 1000⟩,
  ⟨0x3820, 0x1, 1, 0, 1, "Locks", .u8, .ro, .num 6, .any⟩,
  ⟨0x3820, 0x1, 1, 1, 1, "Lock acquire", .u8, .cmd, .num 0, .btw 0 31⟩,
  ⟨0x3820, 0x1, 1, 2, 1, "Lock release", .u8, .cmd, .num 0, .btw 0 31⟩,
  ⟨0x3820, 0x1, 1, 3, 1, "Lock select", .u8, .rw, .num 0, .btw 0 31⟩,
  ⟨0x3820, 0x1, 1, 4, 1, "Lock word", .u32, .ro, .num 0, .any⟩,
  ⟨0x3820, 0x1, 1, 5, 1, "Locks held", .u32, .ro, .num 0, .any⟩,
  ⟨0x3820, 0x1, 1, 6, 1, "Locks broken", .u32, .ro, .num 0, .any⟩,
  ⟨0x3830, 0x1, 1, 0, 1, "Host Image Link", .u8, .ro, .num 14, .any⟩,
  ⟨0x3830, 0x1, 1, 1, 1, "Link state", .u8, .ro, .num 0, .any⟩,
  ⟨0x3830, 0x1, 1, 2, 1, "Link speed", .u8, .ro, .num 0, .any⟩,
  ⟨0x3830, 0x1, 1, 3, 1, "Link width", .u8, .ro, .num 0, .any⟩,
  ⟨0x3830, 0x1, 1, 4, 1, "Rings enabled", .u64, .ro, .num 0, .any⟩]

/-- Objects 0x3800 to 0x3830: fabric, Ladle, locks, host link, part 2. -/
def fabricObjectsB : List Row := [
  ⟨0x3830, 0x1, 1, 5, 1, "Rings in error", .u64, .ro, .num 0, .any⟩,
  ⟨0x3830, 0x1, 1, 6, 1, "Drain bound", .u32, .rw, .num 1000, .btw 100 100000⟩,
  ⟨0x3830, 0x1, 1, 7, 1, "Drain overruns", .u32, .ro, .num 0, .any⟩,
  ⟨0x3830, 0x1, 1, 8, 1, "Status entries lost", .u32, .ro, .num 0, .any⟩,
  ⟨0x3830, 0x1, 1, 9, 1, "Ingest accepted", .u32, .ro, .num 0, .any⟩,
  ⟨0x3830, 0x1, 1, 10, 1, "Ingest refused", .u32, .ro, .num 0, .any⟩,
  ⟨0x3830, 0x1, 1, 11, 1, "Link errors", .u32, .ro, .num 0, .any⟩,
  ⟨0x3830, 0x1, 1, 12, 1, "Link downs", .u32, .ro, .num 0, .any⟩,
  ⟨0x3830, 0x1, 1, 13, 1, "Ring select", .u8, .rw, .num 0, .btw 0 63⟩,
  ⟨0x3830, 0x1, 1, 14, 1, "Ring descriptor", .dom, .ro, .zeros 0, .any⟩]

/-- Objects 0x3800 to 0x3830: fabric, Ladle, locks, host link. -/
def fabricObjects : List Row := fabricObjectsA ++ fabricObjectsB

/-- Objects 0x4100 to 0x41AF: drives, part 1. -/
def driveObjectsA : List Row := [
  ⟨0x4100, 0x10, 11, 0, 1, "Drive #", .u8, .ro, .num 20, .any⟩,
  ⟨0x4100, 0x10, 11, 1, 1, "Drive enable", .bool, .rw, .num 0, .any⟩,
  ⟨0x4100, 0x10, 11, 2, 1, "Command source", .u8, .idle, .num 0, .btw 0 4⟩,
  ⟨0x4100, 0x10, 11, 3, 1, "Speed command", .i32, .rw, .num 0, .any⟩,
  ⟨0x4100, 0x10, 11, 4, 1, "Command slot", .u8, .idle, .num 0, .btw 0 63⟩,
  ⟨0x4100, 0x10, 11, 5, 1, "Command pin", .u8, .idle, .num 1, .btw 1 4⟩,
  ⟨0x4100, 0x10, 11, 6, 1, "Command full scale", .i32, .idle, .num 30000, .any⟩,
  ⟨0x4100, 0x10, 11, 7, 1, "Full-scale frequency", .u32, .idle, .num 10000, .btw 100 100000⟩,
  ⟨0x4100, 0x10, 11, 8, 1, "Command timeout", .u16, .rw, .num 100, .btw 10 10000⟩,
  ⟨0x4100, 0x10, 11, 9, 1, "Speed loop slot", .u8, .idle, .num 0, .btw 0 63⟩,
  ⟨0x4100, 0x10, 11, 10, 1, "Safe action", .u8, .rw, .num 0, .oneOf [0, 1]⟩,
  ⟨0x4100, 0x10, 11, 11, 1, "Brake time", .u16, .rw, .num 2000, .btw 10 60000⟩,
  ⟨0x4100, 0x10, 11, 12, 1, "Drive state", .u8, .ro, .num 0, .any⟩,
  ⟨0x4100, 0x10, 11, 13, 1, "Observed speed", .i32, .ro, .num 0, .any⟩,
  ⟨0x4100, 0x10, 11, 14, 1, "At speed", .bool, .ro, .num 0, .any⟩,
  ⟨0x4100, 0x10, 11, 15, 1, "Duty", .u16, .ro, .num 0, .any⟩,
  ⟨0x4100, 0x10, 11, 16, 1, "Phase current", .dom, .ro, .zeros 6, .any⟩,
  ⟨0x4100, 0x10, 11, 17, 1, "Start attempts", .u8, .ro, .num 0, .any⟩,
  ⟨0x4100, 0x10, 11, 18, 1, "Observer losses", .u32, .ro, .num 0, .any⟩,
  ⟨0x4100, 0x10, 11, 19, 1, "Catches", .u32, .ro, .num 0, .any⟩,
  ⟨0x4100, 0x10, 11, 20, 1, "Start profile", .u8, .cmd, .num 0, .btw 0 15⟩,
  ⟨0x4101, 0x10, 11, 0, 1, "Drive # motor", .u8, .ro, .num 11, .any⟩,
  ⟨0x4101, 0x10, 11, 1, 1, "Pole pairs", .u8, .idle, .num 2, .btw 1 8⟩,
  ⟨0x4101, 0x10, 11, 2, 1, "PWM frequency", .u32, .idle, .num 20000, .btw 10000 100000⟩,
  ⟨0x4101, 0x10, 11, 3, 1, "Align time", .u16, .idle, .num 200, .btw 50 2000⟩,
  ⟨0x4101, 0x10, 11, 4, 1, "Align duty", .u16, .idle, .num 410, .btw 1 2048⟩,
  ⟨0x4101, 0x10, 11, 5, 1, "Ramp end speed", .u16, .idle, .num 300, .btw 60 6000⟩,
  ⟨0x4101, 0x10, 11, 6, 1, "Ramp time", .u16, .idle, .num 1000, .btw 100 10000⟩,
  ⟨0x4101, 0x10, 11, 7, 1, "Handover crossings", .u8, .idle, .num 12, .btw 6 64⟩,
  ⟨0x4101, 0x10, 11, 8, 1, "Start retries", .u8, .idle, .num 3, .btw 0 10⟩]

/-- Objects 0x4100 to 0x41AF: drives, part 2. -/
def driveObjectsB : List Row := [
  ⟨0x4101, 0x10, 11, 9, 1, "Retry interval", .u16, .idle, .num 500, .btw 100 10000⟩,
  ⟨0x4101, 0x10, 11, 10, 1, "Current limit", .u16, .idle, .num 10000, .btw 100 60000⟩,
  ⟨0x4101, 0x10, 11, 11, 1, "Trip current", .u16, .idle, .num 15000, .any⟩,
  ⟨0x4102, 0x10, 3, 0, 1, "Drive # sensing", .u8, .ro, .num 3, .any⟩,
  ⟨0x4102, 0x10, 3, 1, 1, "Sample point", .u8, .idle, .num 50, .btw 10 90⟩,
  ⟨0x4102, 0x10, 3, 2, 1, "Minimum sample window", .u16, .idle, .num 1000, .btw 500 5000⟩,
  ⟨0x4102, 0x10, 3, 3, 1, "Sample skips", .u32, .ro, .num 0, .any⟩,
  ⟨0x4103, 0x10, 11, 0, 1, "Drive # profiles", .u8, .ro, .num 1, .any⟩,
  ⟨0x4103, 0x10, 11, 1, 1, "Profile table", .dom, .rw, .zeros 256, .len 256 256⟩,
  ⟨0x410F, 0x1, 1, 0, 1, "Drive common", .u8, .ro, .num 11, .any⟩,
  ⟨0x410F, 0x1, 1, 1, 1, "Chopper on threshold", .u16, .rw, .num 52000, .btw 30000 56000⟩,
  ⟨0x410F, 0x1, 1, 2, 1, "Chopper hysteresis", .u16, .rw, .num 1000, .btw 200 5000⟩,
  ⟨0x410F, 0x1, 1, 3, 1, "Chopper state", .u8, .ro, .num 0, .any⟩,
  ⟨0x410F, 0x1, 1, 4, 1, "No-regeneration mode", .bool, .ro, .num 0, .any⟩,
  ⟨0x410F, 0x1, 1, 5, 1, "Chopper test", .bool, .cmd, .num 0, .oneOf [1]⟩,
  ⟨0x410F, 0x1, 1, 6, 1, "Chopper on time", .u32, .ro, .num 0, .any⟩,
  ⟨0x410F, 0x1, 1, 7, 1, "Bus voltage", .u16, .ro, .num 0, .any⟩,
  ⟨0x410F, 0x1, 1, 8, 1, "Bus input switch", .u8, .ro, .num 0, .any⟩,
  ⟨0x410F, 0x1, 1, 9, 1, "Bus reconnect", .bool, .cmd, .num 0, .oneOf [1]⟩,
  ⟨0x410F, 0x1, 1, 10, 1, "SD clock", .u8, .idle, .num 20, .oneOf [5, 10, 20]⟩,
  ⟨0x410F, 0x1, 1, 11, 1, "Chopper trips", .u32, .ro, .num 0, .any⟩,
  ⟨0x4132, 0x10, 8, 0, 1, "Drive # sensing", .u8, .ro, .num 5, .any⟩,
  ⟨0x4132, 0x10, 8, 1, 1, "Current full scale", .u16, .idle, .num 20000, .btw 1000 60000⟩,
  ⟨0x4132, 0x10, 8, 2, 1, "Winding resistance", .u32, .idle, .num 500, .btw 1 100000⟩,
  ⟨0x4132, 0x10, 8, 3, 1, "Winding inductance", .u32, .idle, .num 1000, .btw 1 100000⟩,
  ⟨0x4132, 0x10, 8, 4, 1, "Dead time", .u16, .idle, .num 200, .btw 50 2000⟩,
  ⟨0x4132, 0x10, 8, 5, 1, "Catch pulse", .u16, .idle, .num 20, .btw 5 100⟩]

/-- Objects 0x4100 to 0x41AF: drives. -/
def driveObjects : List Row := driveObjectsA ++ driveObjectsB

/-- Objects 0x4400 to 0x44B4: steppers, part 1. -/
def stepperObjectsA : List Row := [
  ⟨0x4400, 0x10, 12, 0, 1, "Axis S#", .u8, .ro, .num 15, .any⟩,
  ⟨0x4400, 0x10, 12, 1, 1, "Axis enable", .bool, .rw, .num 0, .any⟩,
  ⟨0x4400, 0x10, 12, 2, 1, "Axis state", .u8, .ro, .num 0, .any⟩,
  ⟨0x4400, 0x10, 12, 3, 1, "Position valid", .bool, .ro, .num 0, .any⟩,
  ⟨0x4400, 0x10, 12, 4, 1, "Commanded position", .i32, .ro, .num 0, .any⟩,
  ⟨0x4400, 0x10, 12, 5, 1, "Commanded velocity", .i32, .ro, .num 0, .any⟩,
  ⟨0x4400, 0x10, 12, 6, 1, "Target position", .i32, .rw, .num 0, .any⟩,
  ⟨0x4400, 0x10, 12, 7, 1, "Start move", .u8, .cmd, .num 0, .btw 0 63⟩,
  ⟨0x4400, 0x10, 12, 8, 1, "Stop", .u8, .cmd, .num 0, .oneOf [0, 1]⟩,
  ⟨0x4400, 0x10, 12, 9, 1, "Position preset", .i32, .cmd, .num 0, .any⟩,
  ⟨0x4400, 0x10, 12, 10, 1, "Start homing", .bool, .cmd, .num 0, .oneOf [1]⟩,
  ⟨0x4400, 0x10, 12, 11, 1, "Load angle", .i16, .ro, .num 0, .any⟩,
  ⟨0x4400, 0x10, 12, 12, 1, "Drive mode", .u8, .ro, .num 0, .any⟩,
  ⟨0x4400, 0x10, 12, 13, 1, "Safe action", .u8, .rw, .num 0, .oneOf [0, 1]⟩,
  ⟨0x4400, 0x10, 12, 14, 1, "Fault cause", .u8, .ro, .num 0, .any⟩,
  ⟨0x4400, 0x10, 12, 15, 1, "Moves completed", .u32, .ro, .num 0, .any⟩,
  ⟨0x4401, 0x10, 12, 0, 1, "Axis S# motor", .u8, .ro, .num 12, .any⟩,
  ⟨0x4401, 0x10, 12, 1, 1, "Run current", .u16, .idle, .num 1000, .btw 100 1500⟩,
  ⟨0x4401, 0x10, 12, 2, 1, "Hold current", .u16, .rw, .num 500, .btw 0 1500⟩,
  ⟨0x4401, 0x10, 12, 3, 1, "Standstill release", .u16, .rw, .num 0, .zeroOr 10 60000⟩,
  ⟨0x4401, 0x10, 12, 4, 1, "Re-energise time", .u8, .rw, .num 5, .btw 1 100⟩,
  ⟨0x4401, 0x10, 12, 5, 1, "Mode threshold", .u16, .rw, .num 300, .btw 10 3000⟩,
  ⟨0x4401, 0x10, 12, 6, 1, "Mode hysteresis", .u16, .rw, .num 30, .btw 1 500⟩,
  ⟨0x4401, 0x10, 12, 7, 1, "Mode select", .u8, .idle, .num 0, .oneOf [0, 1, 2]⟩,
  ⟨0x4401, 0x10, 12, 8, 1, "Direction", .u8, .idle, .num 0, .oneOf [0, 1]⟩,
  ⟨0x4401, 0x10, 12, 9, 1, "Follow velocity", .u16, .rw, .num 1000, .btw 1 6000⟩,
  ⟨0x4401, 0x10, 12, 10, 1, "Follow acceleration", .u16, .rw, .num 1000, .btw 1 65535⟩,
  ⟨0x4401, 0x10, 12, 11, 1, "Follow jerk", .u16, .rw, .num 100, .btw 1 65535⟩,
  ⟨0x4401, 0x10, 12, 12, 1, "Quick-stop acceleration", .u16, .rw, .num 10000, .btw 1 65535⟩,
  ⟨0x4402, 0x10, 12, 0, 1, "Axis S# stall", .u8, .ro, .num 6, .any⟩]

/-- Objects 0x4400 to 0x44B4: steppers, part 2. -/
def stepperObjectsB : List Row := [
  ⟨0x4402, 0x10, 12, 1, 1, "Stall threshold", .u8, .rw, .num 120, .btw 30 170⟩,
  ⟨0x4402, 0x10, 12, 2, 1, "Stall filter", .u8, .rw, .num 4, .btw 1 64⟩,
  ⟨0x4402, 0x10, 12, 3, 1, "Stall minimum speed", .u16, .rw, .num 100, .btw 20 3000⟩,
  ⟨0x4402, 0x10, 12, 4, 1, "Stall action", .u8, .rw, .num 1, .oneOf [0, 1]⟩,
  ⟨0x4402, 0x10, 12, 5, 1, "Stalls", .u32, .ro, .num 0, .any⟩,
  ⟨0x4402, 0x10, 12, 6, 1, "Lost steps", .u32, .ro, .num 0, .any⟩,
  ⟨0x4403, 0x10, 12, 0, 1, "Axis S# homing", .u8, .ro, .num 11, .any⟩,
  ⟨0x4403, 0x10, 12, 1, 1, "Home input", .u8, .idle, .num 0, .input 56⟩,
  ⟨0x4403, 0x10, 12, 2, 1, "Negative limit input", .u8, .idle, .num 0, .input 56⟩,
  ⟨0x4403, 0x10, 12, 3, 1, "Positive limit input", .u8, .idle, .num 0, .input 56⟩,
  ⟨0x4403, 0x10, 12, 4, 1, "Homing direction", .u8, .idle, .num 0, .oneOf [0, 1]⟩,
  ⟨0x4403, 0x10, 12, 5, 1, "Homing speed", .u16, .idle, .num 200, .btw 1 2000⟩,
  ⟨0x4403, 0x10, 12, 6, 1, "Home debounce", .u16, .idle, .num 1000, .btw 0 10000⟩,
  ⟨0x4403, 0x10, 12, 7, 1, "Chatter limit", .u8, .idle, .num 8, .btw 1 255⟩,
  ⟨0x4403, 0x10, 12, 8, 1, "Home position", .i32, .idle, .num 0, .any⟩,
  ⟨0x4403, 0x10, 12, 9, 1, "Homing distance", .u32, .idle, .num 100000, .btw 1 10000000⟩,
  ⟨0x4403, 0x10, 12, 10, 1, "Homing state", .u8, .ro, .num 0, .any⟩,
  ⟨0x4403, 0x10, 12, 11, 1, "Chatter count", .u8, .ro, .num 0, .any⟩,
  ⟨0x4404, 0x10, 12, 0, 1, "Axis S# move table", .u8, .ro, .num 1, .any⟩,
  ⟨0x4404, 0x10, 12, 1, 1, "Move table", .dom, .rw, .zeros 1024, .len 1024 1024⟩]

/-- Objects 0x4400 to 0x44B4: steppers. -/
def stepperObjects : List Row := stepperObjectsA ++ stepperObjectsB

/-- Objects 0x4800 to 0x483F: loop slots, part 1. -/
def loopObjectsA : List Row := [
  ⟨0x4800, 0x1, 64, 0, 1, "Loop slot #", .u8, .ro, .num 30, .any⟩,
  ⟨0x4800, 0x1, 64, 1, 1, "Slot enable", .bool, .rw, .num 0, .any⟩,
  ⟨0x4800, 0x1, 64, 2, 1, "Slot state", .u8, .ro, .num 0, .any⟩,
  ⟨0x4800, 0x1, 64, 3, 1, "Output target", .u16, .idle, .num 0, .any⟩,
  ⟨0x4800, 0x1, 64, 4, 1, "Process variable", .u16, .idle, .num 0, .any⟩,
  ⟨0x4800, 0x1, 64, 5, 1, "Trigger source", .u8, .idle, .num 0, .btw 0 3⟩,
  ⟨0x4800, 0x1, 64, 6, 1, "Trigger parameter", .u32, .idle, .num 0, .any⟩,
  ⟨0x4800, 0x1, 64, 7, 1, "Mode", .u8, .rw, .num 1, .oneOf [0, 1]⟩,
  ⟨0x4800, 0x1, 64, 8, 1, "Target", .real, .rw, .num 0x0, .any⟩,
  ⟨0x4800, 0x1, 64, 9, 1, "Set-point", .real, .ro, .num 0x0, .any⟩,
  ⟨0x4800, 0x1, 64, 10, 1, "Process value", .real, .ro, .num 0x0, .any⟩,
  ⟨0x4800, 0x1, 64, 11, 1, "Output", .real, .ro, .num 0x0, .any⟩,
  ⟨0x4800, 0x1, 64, 12, 1, "Manual output", .real, .rw, .num 0x0, .any⟩,
  ⟨0x4800, 0x1, 64, 13, 1, "Output minimum", .real, .idle, .num 0, .any⟩,
  ⟨0x4800, 0x1, 64, 14, 1, "Output maximum", .real, .idle, .num 0, .any⟩,
  ⟨0x4800, 0x1, 64, 15, 1, "Set-point minimum", .real, .idle, .num 0, .any⟩,
  ⟨0x4800, 0x1, 64, 16, 1, "Set-point maximum", .real, .idle, .num 0, .any⟩,
  ⟨0x4800, 0x1, 64, 17, 1, "Rate limit", .real, .rw, .num 0x447A0000, .any⟩,
  ⟨0x4800, 0x1, 64, 18, 1, "Rate-change limit", .real, .rw, .num 0x461C4000, .any⟩,
  ⟨0x4800, 0x1, 64, 19, 1, "Reject behind", .bool, .rw, .num 0, .any⟩,
  ⟨0x4800, 0x1, 64, 20, 1, "Schedule variable", .u8, .idle, .num 0, .btw 0 3⟩,
  ⟨0x4800, 0x1, 64, 21, 1, "Schedule channel", .u8, .idle, .num 1, .btw 1 36⟩,
  ⟨0x4800, 0x1, 64, 22, 1, "Region hysteresis", .real, .idle, .num 0x0, .any⟩,
  ⟨0x4800, 0x1, 64, 23, 1, "Region count", .u8, .idle, .num 1, .btw 1 8⟩,
  ⟨0x4800, 0x1, 64, 24, 1, "Gain regions", .dom, .idle, .zeros 160, .len 160 160⟩,
  ⟨0x4800, 0x1, 64, 25, 1, "Notches", .dom, .idle, .zeros 24, .len 24 24⟩,
  ⟨0x4800, 0x1, 64, 26, 1, "Derivative filter", .real, .idle, .num 0x38D1B717, .any⟩,
  ⟨0x4800, 0x1, 64, 27, 1, "Active region", .u8, .ro, .num 0, .any⟩,
  ⟨0x4800, 0x1, 64, 28, 1, "Evaluations", .u32, .ro, .num 0, .any⟩,
  ⟨0x4800, 0x1, 64, 29, 1, "Overruns", .u32, .ro, .num 0, .any⟩]

/-- Objects 0x4800 to 0x483F: loop slots, part 2. -/
def loopObjectsB : List Row := [
  ⟨0x4800, 0x1, 64, 30, 1, "Saturations", .u32, .ro, .num 0, .any⟩]

/-- Objects 0x4800 to 0x483F: loop slots. -/
def loopObjects : List Row := loopObjectsA ++ loopObjectsB

/-- Objects 0x4C00 to 0x4D14: Kettle and HV, part 1. -/
def kettleObjectsA : List Row := [
  ⟨0x4C00, 0x1, 1, 0, 1, "Kettle", .u8, .ro, .num 2, .any⟩,
  ⟨0x4C00, 0x1, 1, 1, 1, "Gate lead", .u16, .rw, .num 200, .btw 50 1000⟩,
  ⟨0x4C00, 0x1, 1, 2, 1, "Gates", .u8, .ro, .num 0, .any⟩,
  ⟨0x4C01, 0x1, 3, 0, 1, "Kettle zone #", .u8, .ro, .num 16, .any⟩,
  ⟨0x4C01, 0x1, 3, 1, 1, "Zone enable", .bool, .rw, .num 0, .any⟩,
  ⟨0x4C01, 0x1, 3, 2, 1, "Zone state", .u8, .ro, .num 0, .any⟩,
  ⟨0x4C01, 0x1, 3, 3, 1, "Start mode", .u8, .idle, .num 0, .oneOf [0, 1]⟩,
  ⟨0x4C01, 0x1, 3, 4, 1, "Start angle", .u8, .idle, .num 140, .btw 30 170⟩,
  ⟨0x4C01, 0x1, 3, 5, 1, "Soft-start time", .u16, .idle, .num 2000, .btw 100 10000⟩,
  ⟨0x4C01, 0x1, 3, 6, 1, "Handover power", .u16, .idle, .num 2048, .btw 0 4096⟩,
  ⟨0x4C01, 0x1, 3, 7, 1, "Primary sensor", .u8, .idle, .num 2, .btw 1 24⟩,
  ⟨0x4C01, 0x1, 3, 8, 1, "Partner sensor", .u8, .idle, .num 2, .btw 1 24⟩,
  ⟨0x4C01, 0x1, 3, 9, 1, "Zone temperature", .i16, .ro, .num 0, .any⟩,
  ⟨0x4C01, 0x1, 3, 10, 1, "Sensor in use", .u8, .ro, .num 0, .any⟩,
  ⟨0x4C01, 0x1, 3, 11, 1, "Ready band", .u16, .rw, .num 50, .btw 5 500⟩,
  ⟨0x4C01, 0x1, 3, 12, 1, "In band", .bool, .ro, .num 0, .any⟩,
  ⟨0x4C01, 0x1, 3, 13, 1, "Overtemperature limit", .i16, .rw, .num 2400, .btw 500 3000⟩,
  ⟨0x4C01, 0x1, 3, 14, 1, "Power", .u16, .ro, .num 0, .any⟩,
  ⟨0x4C01, 0x1, 3, 15, 1, "Regulating slot", .u8, .ro, .num 255, .any⟩,
  ⟨0x4C01, 0x1, 3, 16, 1, "Half-cycles on", .u32, .ro, .num 0, .any⟩,
  ⟨0x4D00, 0x1, 1, 0, 1, "HV common", .u8, .ro, .num 2, .any⟩,
  ⟨0x4D00, 0x1, 1, 1, 1, "HV band sensor", .u8, .rw, .num 34, .btw 1 36⟩,
  ⟨0x4D00, 0x1, 1, 2, 1, "Group pins", .u8, .ro, .num 0, .any⟩,
  ⟨0x4D01, 0x1, 20, 0, 1, "HV#", .u8, .ro, .num 11, .any⟩,
  ⟨0x4D01, 0x1, 20, 1, 1, "HV enable", .bool, .rw, .num 0, .any⟩,
  ⟨0x4D01, 0x1, 20, 2, 1, "HV state", .u8, .ro, .num 0, .any⟩,
  ⟨0x4D01, 0x1, 20, 3, 1, "PWM frequency", .u32, .idle, .num 100000, .btw 50000 400000⟩,
  ⟨0x4D01, 0x1, 20, 4, 1, "Host set-point", .u16, .rw, .num 0, .btw 0 4095⟩,
  ⟨0x4D01, 0x1, 20, 5, 1, "Host switch", .u8, .cmd, .num 0, .oneOf [0, 1]⟩,
  ⟨0x4D01, 0x1, 20, 6, 1, "Feedback", .u16, .ro, .num 0, .any⟩]

/-- Objects 0x4C00 to 0x4D14: Kettle and HV, part 2. -/
def kettleObjectsB : List Row := [
  ⟨0x4D01, 0x1, 20, 7, 1, "PWM duty", .u16, .ro, .num 0, .any⟩,
  ⟨0x4D01, 0x1, 20, 8, 1, "Feedback limit", .u16, .idle, .num 3900, .btw 100 4095⟩,
  ⟨0x4D01, 0x1, 20, 9, 1, "Open-load duty", .u16, .idle, .num 2048, .btw 410 4095⟩,
  ⟨0x4D01, 0x1, 20, 10, 1, "Band table", .dom, .rw, .bands, .len 24 24⟩,
  ⟨0x4D01, 0x1, 20, 11, 1, "HV ready", .bool, .ro, .num 0, .any⟩]

/-- Objects 0x4C00 to 0x4D14: Kettle and HV. -/
def kettleObjects : List Row := kettleObjectsA ++ kettleObjectsB

/-- The rows of the part of the dictionary an index lies in (R271). -/
def objectsNear (index : Nat) : List Row :=
  if index ≤ 0x1FFF then commObjects
  else if index ≤ 0x20FF then moduleObjects
  else if index ≤ 0x21FF then powerObjects
  else if index ≤ 0x22FF then faultObjects
  else if index ≤ 0x23FF then sequencerObjects
  else if index ≤ 0x24FF then recorderObjects
  else if index ≤ 0x30FF then positionObjects
  else if index ≤ 0x32FF then scanObjects
  else if index ≤ 0x34FF then stationObjects
  else if index ≤ 0x35FF then pageObjects
  else if index ≤ 0x36FF then pressObjects
  else if index ≤ 0x37FF then crockObjects
  else if index ≤ 0x38FF then fabricObjects
  else if index ≤ 0x41FF then driveObjects
  else if index ≤ 0x44FF then stepperObjects
  else if index ≤ 0x48FF then loopObjects
  else if index ≤ 0x4DFF then kettleObjects
  else []

/-- The whole dictionary, in ascending order (R271). -/
def allObjects : List Row :=
  commObjects ++ moduleObjects ++ powerObjects ++ faultObjects ++ sequencerObjects ++ recorderObjects ++ positionObjects ++ scanObjects ++ stationObjects ++ pageObjects ++ pressObjects ++ crockObjects ++ fabricObjects ++ driveObjects ++ stepperObjects ++ loopObjects ++ kettleObjects

/-- The row stands for this index and subindex. -/
def Row.covers (r : Row) (index sub : Nat) : Bool :=
  decide (r.index ≤ index) && (decide ((index - r.index) % r.stride = 0) &&
    (decide ((index - r.index) / r.stride < r.count) && (decide (r.sub ≤ sub) && decide (sub < r.sub + r.subs))))

/-- The row of an object: none where the dictionary has no such object. -/
def rowOf (index sub : Nat) : Option Row := (objectsNear index).find? (fun r => r.covers index sub)

/-- Some row has this index. -/
def hasIndex (index : Nat) : Bool :=
  (objectsNear index).any (fun r => decide (r.index ≤ index) &&
    (decide ((index - r.index) % r.stride = 0) && decide ((index - r.index) / r.stride < r.count)))

end Sys2Proof.Machine
end

