-- ==== Sys2Proof/Machine/Defaults.lean ====
section
/-! DEFINITION. What every dictionary object reads as before anything has written it: the Default columns of the object
tables, the defaults that differ between the units of one table, and the default reaction map. -/

namespace Sys2Proof.Machine

/-- What an object holds: a number, or the bytes of a DOMAIN or a VISIBLE_STRING. -/
inductive Val where
  | num (n : Int)
  | dom (b : Bytes)
  deriving DecidableEq, Repr

/-- The key of an object in the store: its index and its subindex. -/
abbrev K (index sub : Nat) : Nat := index * 256 + sub

/-- The default pulse table (R102). -/
def pulseDefault : List Nat :=
  [0, 17, 34, 51, 68, 85, 102, 119, 137, 154, 171, 188, 205, 222, 239, 256]

/-- Class B with ALL_STATIONS; Class A of the source's own stations; Class A of all stations: the bytes of R406. -/
def reactB : Nat := 0x82
def reactA : Nat := 0x01
def reactAll : Nat := 0x81
def reactC : Nat := 0x03
def reactD : Nat := 0x04

/-- The default reaction of the Supervisor, power, sequencer and fabric sources (R244, R396, R418, R444). -/
def reactLow (source kind : Nat) : Nat :=
  match source with
  | 0x00 => if kind = 0xE then reactAll else 0
  | 0x01 => if kind = 0xE then reactB else 0
  | 0x02 => if kind = 0x5 then reactC else 0
  | 0x03 => if kind = 0x3 then reactD else 0
  | 0x04 => if kind = 0xF then reactD else 0
  | 0x0F => if kind = 0xF then reactD else 0
  | 0x11 => if kind = 0xA ∨ kind = 0xB then reactD else 0
  | 0x14 => if kind = 0xC then reactC else 0
  | 0x15 => if kind = 0xC then reactC else 0
  | 0x16 => if kind = 0xC then reactC else 0
  | 0x1F => if kind = 0x3 ∨ kind = 0xF then reactD else 0
  | 0x27 => if kind = 0x4 then reactD else 0
  | 0x2F => if kind = 0xF then reactD else 0
  | 0x32 => if kind = 0x4 ∨ kind = 0xF then reactB else 0
  | 0x33 => if kind = 0x3 ∨ kind = 0xF then reactB else 0
  | 0x3F => if kind = 0xF then reactB else 0
  | 0x48 => if kind = 0x3 then reactA else 0
  | 0x4F => if kind = 0xF then reactAll else 0
  | _ => 0

/-- The default reaction of the scan timing, position, drive, stepper and loop sources (R59, R82, R318, R344, R372). -/
def reactHigh (source kind : Nat) : Nat :=
  if source ≤ 0x6A ∧ 0x68 ≤ source then (if kind = 0x8 then reactA else 0)
  else if source = 0x6B then (if kind = 0x8 then reactA else 0)
  else if source = 0x6F then (if kind = 0x3 ∨ kind = 0xF then reactB else 0)
  else if source = 0x70 then (if kind = 0x7 ∨ kind = 0x8 then reactB else 0)
  else if source = 0x73 then (if kind = 0x3 ∨ kind = 0xF then reactC else 0)
  else if source = 0x77 then (if kind = 0x4 ∨ kind = 0xF then reactC else 0)
  else if source ≤ 0x8A ∧ 0x88 ≤ source then
    (if kind = 0x8 ∨ kind = 0x4 ∨ kind = 0x7 then reactA else if kind = 0x9 then reactC else 0)
  else if source = 0x8B ∨ source = 0x8C then
    (if kind = 0x4 then reactB else if kind = 0x9 ∨ kind = 0x7 then reactC else 0)
  else if source = 0x8E then (if kind = 0xA then reactC else 0)
  else if source = 0x8F then (if kind = 0x3 ∨ kind = 0xF then reactC else 0)
  else if source = 0x97 then (if kind = 0xF then reactC else 0)
  else if source = 0x98 then (if kind = 0x3 then reactC else 0)
  else if source = 0x99 ∨ source = 0x9A then (if kind = 0xA ∨ kind = 0x7 then reactB else 0)
  else if source = 0x9B then (if kind = 0xC then reactC else 0)
  else if source = 0x9C then (if kind = 0x7 then reactC else 0)
  else if source = 0x9F then (if kind = 0xF then reactC else 0)
  else 0

/-- The default reaction of the four sources of a station (R111, R138). -/
def reactStation (source kind : Nat) : Nat :=
  match (source - 0x50) % 4 with
  | 0 => if kind = 0x3 ∨ kind = 0x2 then reactA else if kind = 0xF then reactB else 0
  | 1 => if kind = 0xF then reactB else if kind = 0x7 then reactA else 0
  | 2 => if kind = 0x3 then reactA else 0
  | _ => if kind = 0x5 then reactA else 0

/-- The default reaction of a source and a kind, as the byte of R406. -/
def defaultReaction (source kind : Nat) : Nat :=
  if source < 0x50 then reactLow source kind
  else if source < 0x68 then reactStation source kind
  else reactHigh source kind

/-- The default reaction map: source s and kind k at byte 16 s + k (R406). -/
def reactionRow (source : Nat) : Bytes := (upFrom 0 16).map (fun k => BitVec.ofNat 8 (defaultReaction source k))

/-- The 2,560 bytes of the default reaction map. -/
def defaultReactionMap : Bytes := (upFrom 0 160).flatMap reactionRow

/-- The value a default names. -/
def Dflt.val : Dflt → Ty → Val
  | .num n, _ => .num n
  | .zeros n, _ => .dom (fill n 0)
  | .pulse, _ => .dom (wordsLe 2 pulseDefault)
  | .apc, _ => .dom (wordsLe 2 (List.replicate 32 2048))
  | .bands, _ => .dom (wordsLe 4 (List.replicate 6 4096))
  | .reactions, _ => .dom defaultReactionMap

/-- A character string as bytes. -/
def chars (l : List Nat) : Val := .dom (l.map (BitVec.ofNat 8))

/-- The default burst limits of inputs 4 to 15 (R241). -/
def burstDefault (input : Nat) : Int :=
  match input with
  | 4 => 256 | 5 => 256 | 14 => 256
  | 6 => 1024 | 7 => 1024 | 8 => 1024 | 15 => 1024
  | 9 => 512 | 10 => 512 | 11 => 512
  | _ => 128

/-- Where loop slot s starts: the code of its owner's target (R358); 0 for a free slot, and for a slot whose default
owner is absent on a THR-8640-S4. -/
def ownerDefault (s6 : Bool) (s : Nat) : Nat :=
  if s6 = false ∧ (s = 2 ∨ s = 28 ∨ s = 29 ∨ s = 34 ∨ s = 35 ∨ s = 40 ∨ s = 41) then 0
  else if s ≤ 10 then 0x100 + s
  else if 24 ≤ s ∧ s ≤ 43 then 0x200 + (s - 23)
  else if 48 ≤ s ∧ s ≤ 50 then 0x300 + (s - 47)
  else 0

/-- The REAL32 forms of the bounds of R349. -/
def real1e6 : Int := 0x49742400
def realM1e6 : Int := 0xC9742400
def real30000 : Int := 0x46EA6000
def real20000 : Int := 0x469C4000
def realM20000 : Int := 0xC69C4000
def real4095 : Int := 0x457FF000
def real4096 : Int := 0x45800000
def real250 : Int := 0x437A0000

/-- The subindexes of a loop slot whose default follows its owner (R349, R358). The output range of a free slot is the
range of its set-point (log entry 12). -/
def loopDefault (owner sub : Nat) : Option Int :=
  match sub with
  | 0x03 => some owner
  | 0x04 => some owner
  | 0x05 => some (if 0x300 ≤ owner then 3 else 0)
  | 0x06 => some (if owner = 0 then 1000000 else if owner < 0x200 then 50000 else if owner < 0x300 then 100000 else 0)
  | 0x0D => some (if owner = 0 then realM1e6 else 0)
  | 0x0E => some (if owner = 0 then real1e6 else if owner < 0x300 then real4095 else real4096)
  | 0x0F => some (if owner = 0 then realM1e6 else if 0x103 ≤ owner ∧ owner < 0x200 then realM20000 else 0)
  | 0x10 => some (if owner = 0 then real1e6 else if owner < 0x103 then real30000 else if owner < 0x200 then real20000
      else if owner < 0x300 then real4095 else real250)
  | _ => none

/-- The subindexes of a drive channel's motor object that differ on P channels (R314). -/
def polygonDriveDefault (sub : Nat) : Option Int :=
  match sub with
  | 0x02 => some 40000 | 0x05 => some 1200 | 0x0A => some 2000 | 0x0B => some 3500
  | _ => none

/-- The thresholds of the on-die and board channels, and what their NTC subindexes read (R394). -/
def temperatureDefault (t sub : Nat) : Option Int :=
  if t < 25 then none
  else match sub with
  | 0x01 => some 1
  | 0x06 => some (if t < 34 then 1000 else 850)
  | 0x07 => some (if t < 34 then 1100 else 950)
  | 0x08 => some (if t < 34 then 1250 else 1050)
  | 0x0B => some 0
  | 0x0C => some 0
  | _ => none

/-- The defaults that the rows of the tables do not give by themselves: those that differ between units, and the
identity strings. -/
def unitDefault (s6 : Bool) (index sub : Nat) : Option Val :=
  if index = 0x1008 then some (chars [84, 72, 82, 45, 56, 54, 52, 48])
  else if index = 0x1C00 ∧ sub ≠ 0 then some (.num sub)
  else if index = 0x2002 ∧ sub = 1 then some (.num (if s6 then 6 else 4))
  else if index = 0x2002 ∧ sub = 2 then some (.num (if s6 then 3 else 2))
  else if index = 0x2002 ∧ sub = 3 then
    some (chars ([84, 72, 82, 45, 56, 54, 52, 48, 45, 83] ++ [if s6 then 54 else 52]))
  else if 0x2110 ≤ index ∧ index ≤ 0x2133 then (temperatureDefault (index - 0x210F) sub).map .num
  else if index = 0x2210 ∧ sub = 2 then some (.dom defaultReactionMap)
  else if 0x3010 ≤ index ∧ index ≤ 0x3017 ∧ sub = 1 then some (.num (index - 0x300F : Nat))
  else if index = 0x3801 ∧ 5 ≤ sub ∧ sub ≤ 16 then some (.num (burstDefault (sub - 1)))
  else if 0x4100 ≤ index ∧ index ≤ 0x41A0 ∧ index % 16 = 0 ∧ sub = 9 then some (.num ((index - 0x4100) / 16 : Nat))
  else if index = 0x4101 ∨ index = 0x4111 ∨ index = 0x4121 then (polygonDriveDefault sub).map .num
  else if 0x4800 ≤ index ∧ index ≤ 0x483F then (loopDefault (ownerDefault s6 (index - 0x4800)) sub).map .num
  else if 0x4C01 ≤ index ∧ index ≤ 0x4C03 ∧ sub = 7 then some (.num (2 * (index - 0x4C00) - 1 : Nat))
  else if 0x4C01 ≤ index ∧ index ≤ 0x4C03 ∧ sub = 8 then some (.num (2 * (index - 0x4C00) : Nat))
  else none

/-- What an object reads as while nothing has been written to it. -/
def objectDefault (s6 : Bool) (key : Nat) : Val :=
  match unitDefault s6 (key / 256) (key % 256) with
  | some v => v
  | none =>
    match rowOf (key / 256) (key % 256) with
    | some r => r.dflt.val r.ty
    | none => .num 0

end Sys2Proof.Machine
end

