-- ==== Sys2Proof/Machine/Real32.lean ====
section
/-! DEFINITION. REAL32, the IEEE 754 binary32 numbers of the dictionary (R272) and of the Loop Engine (R352): each
operation exact, then rounded to nearest, ties to even. A zero result is +0, and the bits of a NaN are free (log
entry 17). -/

namespace Sys2Proof.Machine

/-- A REAL32 by value: m × 2^e, an infinity, or not a number. -/
inductive Real32 where
  | fin (m e : Int)
  | inf (neg : Bool)
  | nan
  deriving DecidableEq, Repr

/-- 2^e for e ≥ 0. -/
def pow2 (e : Int) : Int := (2 : Int) ^ e.toNat

/-- n / 2^k rounded to nearest, ties to even. -/
def shiftRound (n k : Nat) : Nat :=
  let q := n / 2 ^ k
  let r := n % 2 ^ k
  if 2 ^ k < 2 * r ∨ (2 * r = 2 ^ k ∧ q % 2 = 1) then q + 1 else q

/-- The binary32 bits of n × 2^e, without the sign. -/
def roundBits (n : Nat) (e : Int) : Nat :=
  if n = 0 then 0
  else
    let x : Int := (Nat.log2 n : Nat) + e
    let quantum : Int := if x < -126 then -149 else x - 23
    let k := quantum - e
    let mant := if k ≤ 0 then n * 2 ^ (-k).toNat else shiftRound n k.toNat
    let bits := if x < -126 then mant else (x + 127).toNat * 2 ^ 23 + mant - 2 ^ 23
    if 255 * 2 ^ 23 ≤ bits then 255 * 2 ^ 23 else bits

/-- The bits of a REAL32. -/
def Real32.bits : Real32 → Nat
  | .fin m e => (if m < 0 then 2 ^ 31 else 0) + roundBits m.natAbs e
  | .inf neg => (if neg then 2 ^ 31 else 0) + 255 * 2 ^ 23
  | .nan => Config.notANumber

/-- The REAL32 of 32 bits. -/
def Real32.ofBits (w : Nat) : Real32 :=
  let neg := bitOf w 31
  let x := field w 30 23
  let f := field w 22 0
  if x = 255 then (if f = 0 then .inf neg else .nan)
  else
    let m : Int := if x = 0 then f else f + 2 ^ 23
    .fin (if neg then -m else m) (if x = 0 then -149 else (x : Int) - 150)

/-- A value rounded to REAL32. -/
def Real32.round (x : Real32) : Real32 :=
  match x with
  | .fin m e => Real32.ofBits (Real32.bits (.fin m e))
  | y => y

def Real32.ofInt (n : Int) : Real32 := Real32.round (.fin n 0)

/-- A decimal fraction n / d as a REAL32. -/
def Real32.ofRatio (n : Int) (d : Nat) : Real32 :=
  if d = 0 then .nan
  else
    let q : Nat := n.natAbs * 2 ^ 200 / d
    let m : Nat := if n.natAbs * 2 ^ 200 % d = 0 then 2 * q else 2 * q + 1
    Real32.round (.fin (if n < 0 then -(m : Int) else m) (-201))

def Real32.neg : Real32 → Real32
  | .fin m e => .fin (-m) e
  | .inf b => .inf (!b)
  | .nan => .nan

def Real32.add (a b : Real32) : Real32 :=
  match a, b with
  | .fin m e, .fin n f =>
    let g := min e f
    Real32.round (.fin (m * pow2 (e - g) + n * pow2 (f - g)) g)
  | .fin _ _, .inf x => .inf x
  | .inf x, .fin _ _ => .inf x
  | .inf x, .inf y => if x = y then .inf x else .nan
  | .nan, _ => .nan
  | _, .nan => .nan

def Real32.sub (a b : Real32) : Real32 := a.add b.neg

def Real32.negative : Real32 → Bool
  | .fin m _ => decide (m < 0)
  | .inf b => b
  | .nan => false

def Real32.isZero : Real32 → Bool
  | .fin m _ => decide (m = 0)
  | _ => false

def Real32.mul (a b : Real32) : Real32 :=
  match a, b with
  | .fin m e, .fin n f => Real32.round (.fin (m * n) (e + f))
  | .nan, _ => .nan
  | _, .nan => .nan
  | x, y => if x.isZero || y.isZero then .nan else .inf (x.negative != y.negative)

def Real32.div (a b : Real32) : Real32 :=
  match a, b with
  | .fin m e, .fin n f =>
    if n = 0 then (if m = 0 then .nan else .inf (decide (m < 0)))
    else
      let q : Nat := m.natAbs * 2 ^ 64 / n.natAbs
      let r : Nat := if m.natAbs * 2 ^ 64 % n.natAbs = 0 then 2 * q else 2 * q + 1
      Real32.round (.fin (if decide (m < 0) = decide (n < 0) then r else -(r : Int)) (e - f - 65))
  | .fin _ _, .inf _ => .fin 0 0
  | .inf x, .fin n _ => .inf (x != decide (n < 0))
  | .inf _, .inf _ => .nan
  | .nan, _ => .nan
  | _, .nan => .nan

/-- a < b; false where either is not a number. -/
def Real32.lt (a b : Real32) : Bool :=
  match a, b with
  | .fin m e, .fin n f =>
    let g := min e f
    decide (m * pow2 (e - g) < n * pow2 (f - g))
  | .fin _ _, .inf x => !x
  | .inf x, .fin _ _ => x
  | .inf x, .inf y => x && !y
  | .nan, _ => false
  | _, .nan => false

def Real32.abs : Real32 → Real32
  | .fin m e => .fin m.natAbs e
  | .inf _ => .inf false
  | .nan => .nan

/-- The lesser bound, then the greater, applied to a value. -/
def Real32.clamp (lo hi x : Real32) : Real32 := if x.lt lo then lo else if hi.lt x then hi else x

/-- The greatest integer not above a value; 0 for what is not finite. -/
def Real32.floor : Real32 → Int
  | .fin m e => if 0 ≤ e then m * pow2 e else Int.fdiv m (pow2 (-e))
  | _ => 0

/-- The nearest integer, halves up. -/
def Real32.toInt (x : Real32) : Int :=
  match x with
  | .fin m e => if 0 ≤ e then m * pow2 e else Int.fdiv (2 * m + pow2 (-e)) (2 * pow2 (-e))
  | _ => 0

/-- A finite REAL32. -/
def Real32.finite : Real32 → Bool
  | .fin _ _ => true
  | _ => false

/-! ## Roots and the functions the notches need -/

/-- The integer square root, bit by bit from bit k down. -/
def isqrtFrom : Nat → Nat → Nat → Nat
  | 0, _, r => r
  | k + 1, n, r => isqrtFrom k n (if (r + 2 ^ k) * (r + 2 ^ k) ≤ n then r + 2 ^ k else r)

/-- The square root of a value that is not negative. -/
def Real32.sqrt : Real32 → Real32
  | .fin m e =>
    if m < 0 then .nan
    else
      let h := Int.fdiv e 2 - 40
      let n := m.toNat * 2 ^ (e - 2 * h).toNat
      let r := isqrtFrom (Nat.log2 n / 2 + 1) n 0
      Real32.round (.fin (if r * r = n then 2 * r else 2 * r + 1 : Nat) (h - 1))
  | .inf false => .inf false
  | _ => .nan

/-- The fixed-point scale of the series below, and π, ln 2 and log2(10) / 20 in it. -/
def fixScale : Int := 2 ^ 128
def fixPi : Int := 1069028584064966747859680373161870783301
def fixLn2 : Int := 235865763225513294137944142764154484399
def fixDecibel : Int := 56519677743471775933700506114958817449

/-- A power series in fixed point: the term, and what each further term is multiplied by. -/
def fixSeries (next : Int → Nat → Int) : Nat → Int → Nat → Int
  | 0, _, _ => 0
  | k + 1, term, j => term + fixSeries next k (next term j) (j + 1)

def fixSin (x : Int) : Int :=
  fixSeries (fun t j => -(t * x / fixScale * x / fixScale) / ((2 * j + 2) * (2 * j + 3) : Nat)) 40 x 0

def fixCos (x : Int) : Int :=
  fixSeries (fun t j => -(t * x / fixScale * x / fixScale) / ((2 * j + 1) * (2 * j + 2) : Nat)) 40 fixScale 0

def fixExp (x : Int) : Int := fixSeries (fun t j => t * x / fixScale / ((j + 1 : Nat) : Int)) 60 fixScale 0

/-- A finite value in fixed point. -/
def Real32.fix : Real32 → Int
  | .fin m e => if 0 ≤ e + 128 then m * pow2 (e + 128) else m / pow2 (-(e + 128))
  | _ => 0

/-- tan(π x) for 0 ≤ x < 1/2. -/
def Real32.tanPi (x : Real32) : Real32 :=
  let a := x.fix * fixPi / fixScale
  Real32.ofRatio (fixSin a) (fixCos a).toNat

/-- 10^(-d / 20). -/
def Real32.fromDecibel (d : Real32) : Real32 :=
  if (Real32.ofInt 10000).lt d.abs then (if d.negative then .inf false else .fin 0 0)
  else
    let y := -(d.fix * fixDecibel / fixScale)
    let k := Int.fdiv y fixScale
    Real32.round (.fin (fixExp ((y - k * fixScale) * fixLn2 / fixScale)) (k - 128))

/-- a ≤ b. -/
def Real32.le (a b : Real32) : Bool := a.lt b || (a.sub b).isZero

/-- The least of two values. -/
def Real32.min (a b : Real32) : Real32 := if b.lt a then b else a

/-- Not a number. -/
def Real32.isNan : Real32 → Bool
  | .nan => true
  | _ => false

end Sys2Proof.Machine
end

