-- ==== Sys2Proof/Machine/Motion.lean ====
section
/-! DEFINITION. The profile generator of the Step Motion Unit (R327, R329 to R331): the path of shortest time under limits of
velocity, acceleration and jerk, as constant-jerk segments. Positions are in 2^-32 microstep, velocities and accelerations
in 2^-32 microstep/s and microstep/s², jerks in microsteps/s³, durations in whole ns (log entry 29). -/

namespace Sys2Proof.Machine

/-- A state of motion. -/
structure Motion where
  p : Int := 0
  v : Int := 0
  a : Int := 0
  deriving DecidableEq, Repr

/-- The limits of a move, in microsteps/s, microsteps/s² and microsteps/s³ (R326). -/
structure Limits where
  v : Nat := 0
  a : Nat := 0
  j : Nat := 0
  deriving DecidableEq, Repr

/-- A segment of a plan: its length in ns, the motion it begins with and its jerk. -/
structure Segment where
  time : Nat := 0
  start : Motion := {}
  jerk : Int := 0
  deriving DecidableEq, Repr

/-- One in the fixed-point form. -/
def micro : Int := 2 ^ 32

/-- The motion after t ns of a constant jerk. -/
def Motion.after (m : Motion) (jerk : Int) (t : Nat) : Motion :=
  let t1 : Int := t
  let j := jerk * micro
  { p := m.p + Int.fdiv (6 * 10 ^ 18 * m.v * t1 + 3 * 10 ^ 9 * m.a * t1 * t1 + j * t1 * t1 * t1) (6 * 10 ^ 27),
    v := m.v + Int.fdiv (2 * 10 ^ 9 * m.a * t1 + j * t1 * t1) (2 * 10 ^ 18),
    a := m.a + Int.fdiv (j * t1) (10 ^ 9) }

/-- The time a change takes at a rate, in ns: d in 2^-32, rate a whole number per s. -/
def timeFor (d : Int) (rate : Nat) : Nat := divRound (d.toNat * 10 ^ 9) (rate * 2 ^ 32)

/-- The segments of given lengths and jerks from a motion, and the motion they end in. -/
def runSegments : List (Nat × Int) → Motion → List Segment × Motion
  | [], m => ([], m)
  | (t, j) :: l, m =>
    let (segs, last) := runSegments l (m.after j t)
    ({ time := t, start := m, jerk := j } :: segs, last)

/-- The path of shortest time to a velocity with acceleration 0, from any motion: the acceleration is led to its peak, held
there and led to 0. An acceleration beyond the limit is first brought to it under the new jerk limit (R329). -/
def toVelocity (lim : Limits) (target : Int) (m : Motion) : List Segment × Motion :=
  let j2 : Int := 2 * lim.j * micro
  let free := m.v + Int.fdiv (m.a * m.a.natAbs) j2
  let up := decide (free ≤ target)
  let sgn : Int := if up then 1 else -1
  let a := sgn * m.a
  let d := sgn * (target - m.v)
  let square := (lim.j * micro * d + Int.fdiv (a * a) 2).toNat
  let peak : Int := isqrtFrom (Nat.log2 square / 2 + 1) square 0
  let limit : Int := lim.a * micro
  let (top, hold) :=
    if peak ≤ limit then (peak, 0)
    else if a ≤ limit then (limit, timeFor (d - Int.fdiv (2 * limit * limit - a * a) j2) lim.a)
    else (limit, timeFor (d - Int.fdiv (a * a) j2) lim.a)
  let first := if a ≤ top then (timeFor (top - a) lim.j, sgn * lim.j) else (timeFor (a - top) lim.j, -(sgn * lim.j))
  let (segs, last) := runSegments [first, (hold, 0), (timeFor top lim.j, -(sgn * lim.j))] m
  (segs, { last with v := target, a := 0 })

/-- The length of a plan in ns. -/
def planTime (l : List Segment) : Nat := total (l.map Segment.time)

/-- The motion of a plan at t ns; after its end it is at rest where the plan ends. -/
def planAt : List Segment → Int → Nat → Motion
  | [], p, _ => { p := p }
  | g :: l, p, t => if t < g.time then g.start.after g.jerk t else planAt l p (t - g.time)

/-- A plan's first t ns. -/
def planPart : List Segment → Nat → List Segment
  | [], _ => []
  | g :: l, t => if t < g.time then [{ g with time := t }] else g :: planPart l (t - g.time)

/-- The plan that comes to rest in the shortest time, and where. -/
def stopPlan (lim : Limits) (m : Motion) : List Segment × Int :=
  let (segs, last) := toVelocity lim 0 m
  (segs, last.p)

/-- A stop at a constant deceleration, without a jerk limit (R331). -/
def quickStop (decel : Nat) (m : Motion) : List Segment × Int :=
  let sgn : Int := if 0 ≤ m.v then 1 else -1
  let start : Motion := { m with a := -(sgn * decel * micro) }
  let t := timeFor (m.v.natAbs : Int) decel
  ([{ time := t, start := start, jerk := 0 }], (start.after 0 t).p)

/-- The last of 2^k instants, from t on, at which a plan that has run so far can still stop short of the target: bit by bit.
`run` is the plan with its motion at its end, `d` the direction of the target. -/
def lastInstant (lim : Limits) (run : List Segment) (done : Motion) (d target : Int) : Nat → Nat → Nat
  | 0, t => t
  | k + 1, t =>
    let u := t + 2 ^ k
    let m := if planTime run ≤ u then done else planAt run done.p u
    let ok := decide (u ≤ planTime run) && decide (0 ≤ d * (target - (stopPlan lim m).2))
    lastInstant lim run done d target k (if ok then u else t)

/-- The path of shortest time to a target, with velocity and acceleration 0 there, that needs no reversal (R327): towards the limit of velocity for as
long as the axis can still stop at the target, then the stop. -/
def directPlan (lim : Limits) (target : Int) (m : Motion) : List Segment :=
  let halt := stopPlan lim m
  if halt.2 = target then halt.1
  else
    let d : Int := if halt.2 < target then 1 else -1
    let (run, done) := toVelocity lim (d * lim.v * micro) m
    let gap := d * (target - (stopPlan lim done).2)
    if 0 ≤ gap then
      let cruise := timeFor gap lim.v
      run ++ { time := cruise, start := done, jerk := 0 } :: (stopPlan lim (done.after 0 cruise)).1
    else
      let t := lastInstant lim run done d target (Nat.log2 (planTime run + 1) + 1) 0
      planPart run t ++ (stopPlan lim (planAt run done.p t)).1

/-- A move to a target needs a reversal: the target lies behind in the direction of motion, or within the stopping distance
(R330). -/
def moveReverses (lim : Limits) (target : Int) (m : Motion) : Bool :=
  if 0 < m.v then decide (target < (stopPlan lim m).2) else decide (m.v < 0 ∧ (stopPlan lim m).2 < target)

/-- The path to a target (R327). Where it needs a reversal the axis comes to rest first and then returns (R330, and the worked
example of its chapter). -/
def movePlan (lim : Limits) (target : Int) (m : Motion) : List Segment :=
  if moveReverses lim target m then
    let halt := stopPlan lim m
    halt.1 ++ directPlan lim target { p := halt.2 }
  else directPlan lim target m

/-- The path to a velocity that is then held, for 2^60 ns (R336). -/
def searchPlan (lim : Limits) (up : Bool) (m : Motion) : List Segment :=
  let (run, done) := toVelocity lim ((if up then 1 else -1) * lim.v * micro) m
  run ++ [{ time := 2 ^ 60, start := done, jerk := 0 }]

/-- The microstep commanded in a motion: the next one in the direction of motion (log entry 29). -/
def Motion.microstep (m : Motion) : Int :=
  if 0 < m.v then -(Int.fdiv (-m.p) micro) else if m.v < 0 then Int.fdiv m.p micro else Int.fdiv (m.p + 2 ^ 31) micro

/-- The commanded velocity in microsteps/s. -/
def Motion.speed (m : Motion) : Int := Int.tdiv m.v micro

end Sys2Proof.Machine
end

