-- ==== Sys2Proof/Machine/Sha.lean ====
section
/-! DEFINITION. SHA-384 (R472, R477): the manual names the function, and its definition is that of FIPS 180-4 (log entry
35). Words are 64 bits, big-endian. -/

namespace Sys2Proof.Machine

/-- A 64-bit word. -/
abbrev Word64 := BitVec 64

/-- Round constants 0 to 19. -/
def shaRound0 : List Nat :=
  [0x428A2F98D728AE22, 0x7137449123EF65CD, 0xB5C0FBCFEC4D3B2F, 0xE9B5DBA58189DBBC, 0x3956C25BF348B538,
   0x59F111F1B605D019, 0x923F82A4AF194F9B, 0xAB1C5ED5DA6D8118, 0xD807AA98A3030242, 0x12835B0145706FBE,
   0x243185BE4EE4B28C, 0x550C7DC3D5FFB4E2, 0x72BE5D74F27B896F, 0x80DEB1FE3B1696B1, 0x9BDC06A725C71235,
   0xC19BF174CF692694, 0xE49B69C19EF14AD2, 0xEFBE4786384F25E3, 0x0FC19DC68B8CD5B5, 0x240CA1CC77AC9C65]

/-- Round constants 20 to 39. -/
def shaRound1 : List Nat :=
  [0x2DE92C6F592B0275, 0x4A7484AA6EA6E483, 0x5CB0A9DCBD41FBD4, 0x76F988DA831153B5, 0x983E5152EE66DFAB,
   0xA831C66D2DB43210, 0xB00327C898FB213F, 0xBF597FC7BEEF0EE4, 0xC6E00BF33DA88FC2, 0xD5A79147930AA725,
   0x06CA6351E003826F, 0x142929670A0E6E70, 0x27B70A8546D22FFC, 0x2E1B21385C26C926, 0x4D2C6DFC5AC42AED,
   0x53380D139D95B3DF, 0x650A73548BAF63DE, 0x766A0ABB3C77B2A8, 0x81C2C92E47EDAEE6, 0x92722C851482353B]

/-- Round constants 40 to 59. -/
def shaRound2 : List Nat :=
  [0xA2BFE8A14CF10364, 0xA81A664BBC423001, 0xC24B8B70D0F89791, 0xC76C51A30654BE30, 0xD192E819D6EF5218,
   0xD69906245565A910, 0xF40E35855771202A, 0x106AA07032BBD1B8, 0x19A4C116B8D2D0C8, 0x1E376C085141AB53,
   0x2748774CDF8EEB99, 0x34B0BCB5E19B48A8, 0x391C0CB3C5C95A63, 0x4ED8AA4AE3418ACB, 0x5B9CCA4F7763E373,
   0x682E6FF3D6B2B8A3, 0x748F82EE5DEFB2FC, 0x78A5636F43172F60, 0x84C87814A1F0AB72, 0x8CC702081A6439EC]

/-- Round constants 60 to 79. -/
def shaRound3 : List Nat :=
  [0x90BEFFFA23631E28, 0xA4506CEBDE82BDE9, 0xBEF9A3F7B2C67915, 0xC67178F2E372532B, 0xCA273ECEEA26619C,
   0xD186B8C721C0C207, 0xEADA7DD6CDE0EB1E, 0xF57D4F7FEE6ED178, 0x06F067AA72176FBA, 0x0A637DC5A2C898A6,
   0x113F9804BEF90DAE, 0x1B710B35131C471B, 0x28DB77F523047D84, 0x32CAAB7B40C72493, 0x3C9EBE0A15C9BEBC,
   0x431D67C49C100D4C, 0x4CC5D4BECB3E42B6, 0x597F299CFC657E2A, 0x5FCB6FAB3AD6FAEC, 0x6C44198C4A475817]

/-- The round constants. -/
def shaConstants : List Word64 := (shaRound0 ++ (shaRound1 ++ (shaRound2 ++ shaRound3))).map (BitVec.ofNat 64)

/-- The initial hash value. -/
def shaInitial : List Nat :=
  [0xCBBB9D5DC1059ED8, 0x629A292A367CD507, 0x9159015A3070DD17, 0x152FECD8F70E5939, 0x67332667FFC00B31,
   0x8EB44A8768581511, 0xDB0C2E0D64F98FA7, 0x47B5481DBEFA4FA4]

/-- The big-endian number of a byte string. -/
def ofBe (b : Bytes) : Nat := ofLe b.reverse

/-- The low k bytes of n, big-endian. -/
def beBytes (k n : Nat) : Bytes := (leBytes k n).reverse

def shaSmall0 (x : Word64) : Word64 := x.rotateRight 1 ^^^ (x.rotateRight 8 ^^^ (x >>> 7))
def shaSmall1 (x : Word64) : Word64 := x.rotateRight 19 ^^^ (x.rotateRight 61 ^^^ (x >>> 6))
def shaBig0 (x : Word64) : Word64 := x.rotateRight 28 ^^^ (x.rotateRight 34 ^^^ x.rotateRight 39)
def shaBig1 (x : Word64) : Word64 := x.rotateRight 14 ^^^ (x.rotateRight 18 ^^^ x.rotateRight 41)

/-- The eight working variables. -/
structure ShaState where
  a : Word64
  b : Word64
  c : Word64
  d : Word64
  e : Word64
  f : Word64
  g : Word64
  h : Word64
  deriving DecidableEq, Repr

/-- One round. -/
def ShaState.round (s : ShaState) (k w : Word64) : ShaState :=
  let t1 := s.h + shaBig1 s.e + ((s.e &&& s.f) ^^^ (~~~s.e &&& s.g)) + k + w
  let t2 := shaBig0 s.a + ((s.a &&& s.b) ^^^ ((s.a &&& s.c) ^^^ (s.b &&& s.c)))
  { a := t1 + t2, b := s.a, c := s.b, d := s.c, e := s.d + t1, f := s.e, g := s.f, h := s.g }

/-- The rounds over a sliding window of sixteen message words. -/
def shaRounds : List Word64 → List Word64 → ShaState → ShaState
  | [], _, s => s
  | k :: ks, w, s =>
    let next := shaSmall1 (w.getD 14 0) + w.getD 9 0 + shaSmall0 (w.getD 1 0) + w.getD 0 0
    shaRounds ks (w.drop 1 ++ [next]) (s.round k (w.getD 0 0))

/-- One block of 128 bytes. -/
def shaBlock (s : ShaState) (b : Bytes) : ShaState :=
  let w := (upFrom 0 16).map (fun i => BitVec.ofNat 64 (ofBe (slice (8 * i) 8 b)))
  let t := shaRounds shaConstants w s
  { a := s.a + t.a, b := s.b + t.b, c := s.c + t.c, d := s.d + t.d, e := s.e + t.e, f := s.f + t.f, g := s.g + t.g, h := s.h + t.h }

/-- n blocks. -/
def shaBlocks : Nat → ShaState → Bytes → ShaState
  | 0, s, _ => s
  | n + 1, s, b => shaBlocks n (shaBlock s (b.take 128)) (b.drop 128)

/-- SHA-384 of a byte string. -/
def sha384 (b : Bytes) : Bytes :=
  let zeros := (239 - b.length % 128) % 128
  let m := b ++ (0x80 :: List.replicate zeros 0) ++ beBytes 16 (8 * b.length)
  let i := fun k => BitVec.ofNat 64 (shaInitial.getD k 0)
  let s := shaBlocks (m.length / 128) { a := i 0, b := i 1, c := i 2, d := i 3, e := i 4, f := i 5, g := i 6, h := i 7 } m
  [s.a, s.b, s.c, s.d, s.e, s.f].flatMap (fun w => beBytes 8 w.toNat)

end Sys2Proof.Machine
end

