-- ==== Sys2Proof/Machine/Store.lean ====
section
/-! DEFINITION. Sparse tables in one canonical form: a list of (key, value) pairs, keys strictly rising, no entry equal
to what an unlisted key reads as. The object dictionary, the units of each subsystem and the memories are tables, so
that equal contents are equal data. -/

namespace Sys2Proof.Machine

/-- A table of values by number. -/
abbrev Tab (α : Type) := List (Nat × α)

/-- The value at a key: the listed one, or the default of that key. -/
def Tab.get {α : Type} (d : Nat → α) : Tab α → Nat → α
  | [], k => d k
  | (a, v) :: t, k => if a = k then v else Tab.get d t k

/-- A table without a key. -/
def Tab.erase {α : Type} : Tab α → Nat → Tab α
  | [], _ => []
  | (a, v) :: t, k => if a = k then Tab.erase t k else (a, v) :: Tab.erase t k

/-- A table with one more entry, put in its place by key. -/
def Tab.insert {α : Type} : Tab α → Nat → α → Tab α
  | [], k, v => [(k, v)]
  | (a, w) :: t, k, v =>
    if k < a then (k, v) :: (a, w) :: t
    else if k = a then (k, v) :: t
    else (a, w) :: Tab.insert t k v

/-- The table with key k reading v: writing what an unlisted key reads as removes the entry. -/
def Tab.put {α : Type} [DecidableEq α] (d : Nat → α) (t : Tab α) (k : Nat) (v : α) : Tab α :=
  if v = d k then Tab.erase t k else Tab.insert t k v

/-- The table without the keys of lo to hi: they read as their defaults again. -/
def Tab.eraseRange {α : Type} : Tab α → Nat → Nat → Tab α
  | [], _, _ => []
  | (a, v) :: t, lo, hi =>
    if lo ≤ a ∧ a ≤ hi then Tab.eraseRange t lo hi else (a, v) :: Tab.eraseRange t lo hi

/-- The canonical form: keys strictly rising from lo, no entry at its default. -/
def Tab.okFrom {α : Type} [DecidableEq α] (d : Nat → α) : Nat → Tab α → Bool
  | _, [] => true
  | lo, (a, v) :: t => decide (lo ≤ a) && (decide (v ≠ d a) && Tab.okFrom d (a + 1) t)

/-- The canonical form of a whole table. -/
def Tab.ok {α : Type} [DecidableEq α] (d : Nat → α) (t : Tab α) : Bool := Tab.okFrom d 0 t

/-- Reads k keys from key a on. -/
def Tab.read {α : Type} (d : Nat → α) (t : Tab α) (a : Nat) : Nat → List α
  | 0 => []
  | k + 1 => Tab.get d t a :: Tab.read d t (a + 1) k

/-- Writes a list of values from key a on. -/
def Tab.write {α : Type} [DecidableEq α] (d : Nat → α) : Tab α → Nat → List α → Tab α
  | t, _, [] => t
  | t, a, v :: l => Tab.write d (Tab.put d t a v) (a + 1) l

end Sys2Proof.Machine
end

