-- ==== Sys2Proof/Machine/State.lean ====
section
/-! DEFINITION. The state of the block, as plain data, and the state after reset.

Every object of the dictionary has its home in `State.od`, whether the host writes it or the module does. What a
subsystem holds beside its objects (a latch, a queue, a position inside a sequence) is in the structure named after
it. Units are tables by number; a unit that is at its power-up state is not listed. -/

namespace Sys2Proof.Machine

/-- Why the machine stops with a fault. -/
inductive Fault where
  /-- A sampled supply quantity lies beyond the absolute maximum ratings (R507): the manual makes no statement about the
  module there. Raised by MOTOR_BUS_SAMPLE above 60 V at J2. Safe: the machine stops where nothing is promised. -/
  | absoluteMaximum
  deriving DecidableEq, Repr

/-- Why a command has no meaning. -/
inductive Refusal where
  /-- The command has no meaning in this model yet. Raised by its arm of `exec`, and by nothing else. Safe. -/
  | notModelled (mnemonic : String)
  deriving DecidableEq, Repr

/-! ## Position, Stamp time and the Event Record -/

/-- What a tracking loop holds beside its objects (R26, R27). -/
structure Encoder where
  /-- how far the interpolated position lies beyond the last edge, in 1/65,536 subline -/
  ahead : Nat := 0
  /-- the measured speed, in 1/65,536 subline per grid step -/
  speed : Int := 0
  /-- consecutive edges with a phase error below half an edge -/
  good : Nat := 0
  deriving DecidableEq, Repr

/-- The mains time base beside its objects (R35, R36, R518). -/
structure Mains where
  /-- the phase, in 1/10^12 cycle -/
  acc : Nat := 0
  cycle : Nat := 0
  /-- Stamp time of the last positive-going crossing -/
  last : Option Nat := none
  /-- the periods of the consecutive crossings that have met the test of ACQUIRING, newest first -/
  periods : List Nat := []
  /-- cycle increments since the entry to HOLDOVER -/
  held : Nat := 0
  deriving DecidableEq, Repr

/-- A schedule slot (R39, R40, R43). -/
structure Slot where
  /-- 0 FREE, 1 ARMED, 2 PENDING -/
  state : Nat := 0
  base : Nat := 0
  axis : Nat := 0
  channel : Nat := 0
  action : Nat := 0
  target : Nat := 0
  arg : Nat := 0
  /-- the target; the offset while PENDING -/
  aim : Nat := 0
  /-- the page tag; 0 for a firmware service slot -/
  tag : Nat := 0
  /-- the page's place in the page table, plus 1; 0 for a firmware service slot -/
  page : Nat := 0
  /-- the index of its step in the recipe -/
  step : Nat := 0
  late : Bool := false
  /-- the slot's page gate is closed: the slot is not evaluated (R157, R164) -/
  shut : Bool := false
  deriving DecidableEq, Repr

/-- The Process Position Base, the mains time base and the general outputs. -/
structure Position where
  enc : Tab Encoder := []
  /-- the value of each axis, 1 to 8, in 1/65,536 subline, modulo 2^64 -/
  axes : Tab Nat := []
  /-- the changes of the axes in the last 255 µs, newest first: when, which axis, and what it read before (R32) -/
  past : List (Nat × Nat × Nat) := []
  mains : Mains := {}
  /-- the last valid value of A1 (R52) -/
  a1Held : Nat := 0
  slots : Tab Slot := []
  /-- the state the slots have given each output -/
  slotOut : Nat := 0
  /-- the levels of IN1 to IN48 (bits 0 to 47) and HL1 to HL8 (bits 48 to 55) as last sampled -/
  inputs : Nat := 0
  deriving DecidableEq, Repr

/-- An event record as its source delivers it (R52). -/
structure Rec where
  stamp : Nat := 0
  a1 : Nat := 0
  phase : Nat := 0
  cycle : Nat := 0
  aligned : Bool := false
  mainsInvalid : Bool := false
  a1Invalid : Bool := false
  firmware : Bool := false
  seqB : Bool := false
  /-- 1 event, 2 fault, 3 consequential fault, 4 loss marker, 5 epoch marker -/
  type : Nat := 1
  source : Nat := 0
  payload : Nat := 0
  deriving DecidableEq, Repr

/-- A record in its place of the trace, with what the recorder sets (R52, R55). -/
structure Placed where
  record : Rec := {}
  damaged : Bool := false
  lossBefore : Bool := false
  sameCycle : Bool := false
  sequence : Nat := 0
  /-- the event-stream ring it is drained to -/
  ring : Nat := 55
  /-- Stamp time from which it waits to be drained (R56) -/
  since : Nat := 0
  drained : Bool := false
  deriving DecidableEq, Repr

/-- The Event Recorder and the alignment of the Stamp Clock. -/
structure Recorder where
  /-- records that have not yet entered the trace -/
  held : List Rec := []
  /-- the occupied places of the trace, oldest first -/
  trace : List Placed := []
  sequence : Nat := 0
  /-- the Stamp time of the record that reached the trace last (R52, R53) -/
  newest : Option Nat := none
  /-- what a record of each of the last six grid steps would carry, newest first (R52, R399) -/
  samples : List Rec := []
  /-- records lost since the last loss marker -/
  lost : Nat := 0
  /-- EV030 has been written since the trace was last below half full -/
  warned : Bool := false
  /-- the grid step of the newest entries, and how many entered in it -/
  step : Nat := 0
  entered : Nat := 0
  /-- Stamp time of the last `STAMP_SYNC` edge or sync cycle -/
  syncLast : Option Nat := none
  /-- consecutive sync cycles or pulses within 50 ns -/
  syncGood : Nat := 0
  deriving DecidableEq, Repr

/-! ## Rings -/

/-- A hardware ring (R250 to R256, R262, R263). -/
structure Ring where
  /-- 0 DISABLED, 1 ENABLED, 2 DRAINING, 3 ERROR -/
  state : Nat := 0
  base : Nat := 0
  shadow : Nat := 0
  holdoff : Nat := 0
  log2 : Nat := 0
  head : Nat := 0
  tail : Nat := 0
  /-- the entries between HEAD and TAIL of a module-to-host ring, oldest first -/
  entries : List (List Nat) := []
  /-- entries waiting for room (R263), oldest first -/
  waiting : List (List Nat) := []
  /-- entries taken and not yet finished -/
  open_ : Nat := 0
  /-- completions of in-place entries finished ahead of earlier ones: entry number, words 6 and 7 -/
  done : List (Nat × Nat × Nat) := []
  /-- words 6 and 7 written into each slot of an in-place ring -/
  inPlace : Tab (Nat × Nat) := []
  /-- Stamp times at which the entries still unconsumed were announced, oldest first (R262) -/
  told : List Nat := []
  /-- the pointer copied to SHADOW -/
  shadowed : Nat := 0
  /-- an advance has not yet been signalled -/
  unsignalled : Bool := false
  /-- MSI-X: the vector is masked, its pending bit, messages sent -/
  masked : Bool := true
  msixPending : Bool := false
  messages : Nat := 0
  /-- the present drain overrun has been counted -/
  overrun : Bool := false
  deriving DecidableEq, Repr

/-! ## Scan timing -/

/-- A polygon beside its objects (R61 to R71, R512). Intervals are in 1/64 ns, the resolution of R63. -/
structure Polygon where
  /-- the last SOS intervals of the timing reference, newest first, at most 16 -/
  intervals : List Nat := []
  /-- the reference's present facet: its number while RESOLVED, provisional otherwise -/
  facet : Nat := 0
  /-- facets are counted: the polygon has entered ACQUIRING since it left IDLE -/
  counting : Bool := false
  /-- the stations whose SOS of the facet counted last is still to come -/
  unseen : List Nat := []
  /-- a revolution has been measured since the polygon left IDLE -/
  measured : Bool := false
  /-- consecutive revolutions inside the lock window, and outside the unlock window -/
  good : Nat := 0
  bad : Nat := 0
  /-- the rotation last matched, and how many revolutions in a row -/
  rotation : Nat := 0
  run : Nat := 0
  /-- consecutive revolutions that failed to match -/
  misses : Nat := 0
  /-- the sums of the deviations learned so far, and of how many revolutions -/
  sums : List Int := []
  learned : Nat := 0
  /-- facets formed at the timing reference, the triggers of the loop slots (R346) -/
  formed : Nat := 0
  deriving DecidableEq, Repr

/-! ## Stations -/

/-- The image in progress on a station (R90 to R95). -/
structure Image where
  /-- the page's place in the page table, plus 1; 0 for none -/
  page : Nat := 0
  /-- lines are still assigned to the page -/
  going : Bool := false
  /-- the image has ended and its buffers are released at the end of the line in progress -/
  closing : Bool := false
  origin : Nat := 0
  extent : Nat := 0
  bank : Nat := 0
  frontier : Int := 0
  /-- y0 of the present facet, and its firing beams: the first, and how many -/
  y0 : Int := 0
  first : Nat := 0
  count : Nat := 0
  /-- facets of the present deficit run; the page has had a deficit -/
  run : Nat := 0
  deficit : Bool := false
  /-- bands whose underrun has been reported -/
  missing : List Nat := []
  deriving DecidableEq, Repr

/-- A beam driver as the module's serial bus sees it (R130, R134, R135). -/
structure Driver where
  /-- frames sent, modulo 8 -/
  seq : Nat := 0
  /-- the frame whose answer the next exchange returns -/
  last : Option Nat := none
  /-- consecutive errors -/
  errors : Nat := 0
  /-- Stamp time of the last poll -/
  polled : Nat := 0
  deriving DecidableEq, Repr

/-- A station beside its objects. -/
structure Station where
  /-- facets measured since the entry to SYNCED, up to 2 (R515) -/
  measured : Nat := 0
  /-- the SOS window is open; the EOS window is open -/
  sosOpen : Bool := false
  eosOpen : Bool := false
  /-- the predicted SOS time of the next facet, the corrected SOS times of this and the previous facet, and the corrected
  or predicted EOS time, in 1/64 ns -/
  predicted : Nat := 0
  sos : Option Nat := none
  eos : Nat := 0
  /-- the present facet was measured -/
  facetMeasured : Bool := false
  /-- the EOS of the present facet has not been formed -/
  awaitEos : Bool := false
  /-- consecutive facets without a valid EOS -/
  eosRun : Nat := 0
  /-- the facet seen at the last SOS while identity was RESOLVED -/
  sosFacet : Option Nat := none
  /-- T(f) and Tmean in 1/256 ps, the updates of each T(f), and whether Tmean has been updated -/
  facetT : List Nat := []
  updates : List Nat := []
  meanT : Nat := 0
  meanSeen : Bool := false
  /-- the interval the facet's clock was made of, in 1/256 ps, and the clock loaded at its SOS in Hz; 0 for none (R73) -/
  interval : Nat := 0
  clock : Nat := 0
  /-- the clock loaded last was clamped -/
  clamped : Bool := false
  /-- the beams lit for SOS, EOS or seeking -/
  lit : Nat := 0
  /-- facets since the domain was switched on, modulo 2^16 (R137) -/
  facets : Nat := 0
  /-- SUSPECT beams with count 2 -/
  second : Nat := 0
  /-- beams restored in the present facet: they take part from the next (R124) -/
  returning : Nat := 0
  /-- the last pulse widths of each beam in GOOD, at most 64, in 1/64 ns -/
  widths : Tab (List Nat) := []
  /-- the beams treated as DEAD or RETIRED in the present facet (R122) -/
  substituted : Nat := 0
  drivers : Tab Driver := []
  /-- the back porch has not yet had its sequence; the slot it starts at; consecutive saturated samples of each beam -/
  porch : Bool := false
  slot : Nat := 0
  saturating : Tab Nat := []
  /-- the frames of the last exchange, and the code READ_CURRENT returned -/
  sent : List Nat := []
  readBack : Nat := 0
  image : Image := {}
  /-- a(f) of the previous facet, and the last advances, newest first, at most 8 -/
  lastA : Option Nat := none
  advances : List Int := []
  /-- image lines of the present facet are still being written -/
  writing : Bool := false
  /-- `LASER_EN_n` goes low at the end of the scan line in progress (R127, R390) -/
  lineEnd : Bool := false
  /-- the VCSEL thermistor: its band, nothing read yet, consecutive readings in range while broken -/
  band : Nat := 0
  fresh : Bool := true
  inRange : Nat := 0
  deriving DecidableEq, Repr

/-! ## Pages and the Press -/

/-- A Press block in the page store (R179, R185, R259). -/
structure Block where
  /-- its place in the order of arrival -/
  id : Nat := 0
  /-- the four header words -/
  head : List Nat := []
  /-- the DEFLATE stream -/
  body : Bytes := []
  /-- 0 being fetched, 1 waiting for its check, 2 being checked, 3 accepted -/
  state : Nat := 0
  /-- bytes reserved, and the DRAM address -/
  length : Nat := 0
  address : Nat := 0
  /-- the ingest ring and the entry its completion goes to; 64 for none -/
  ring : Nat := 64
  entry : Nat := 0
  deriving DecidableEq, Repr

/-- A block on its way into the page store (R185, R260): its page's place in the page table, plus 1, 0 once that page has left
the table. -/
structure Inbound where
  page : Nat := 0
  block : Block := {}
  deriving DecidableEq, Repr

/-- A page of the page table (R146 to R152). -/
structure Page where
  tag : Nat := 0
  /-- the code of R151; 9 for a place that holds no page -/
  state : Nat := 9
  recipe : Nat := 0
  lines : Nat := 0
  flags : Nat := 0
  partner : Nat := 0
  job : Nat := 0
  notBefore : Nat := 0
  spoil : Nat := 0
  refusal : Nat := 0
  /-- 0 no tracker entry, 1 gate closed before the commit strobe, 2 gate open, 3 gate closed at the page's end -/
  gate : Nat := 0
  /-- the commit reference A1 -/
  reference : Nat := 0
  reprints : Nat := 0
  /-- the recipe as it stood when the page was admitted -/
  steps : Bytes := []
  /-- bit n - 1: the bow bank of station n -/
  banks : Nat := 0
  /-- bit n - 1: the image of station n is complete -/
  images : Nat := 0
  /-- the open delivery window: input and sense -/
  window : Option (Nat × Bool) := none
  blocks : List Block := []
  deriving DecidableEq, Repr

/-- Page execution beside its objects. -/
structure Pages where
  table : Tab Page := []
  /-- the places of the QUEUED, RESIDENT and ADMITTED pages in admission order -/
  order : List Nat := []
  /-- the commit reference of the last committed page -/
  previous : Option Nat := none
  /-- Alinagrim has stopped admission for a planned switch-over (R439) -/
  stopped : Bool := false
  /-- the table has gone with PD03 and has not been restored from the checkpoint (R386, R486) -/
  lost : Bool := false
  /-- what the grid step found in which A1 reached `Next gate` (R160): 0 not yet reached, 1 no throttle, 2 a throttle condition -/
  gateFound : Nat := 0
  /-- A1 at the deactivation of `Splice input`, while the splice is pending -/
  splicePending : Bool := false
  spliceFrom : Option Nat := none
  /-- entries of rings 56 and 57 taken inside a switch-over gap (R257), oldest first: ring, slot, words -/
  gapTaken : List (Nat × Nat × List Nat) := []
  /-- entries of rings 58 and 59 of changes inside a switch-over gap (R172, R257), oldest first -/
  gapEntries : List (Nat × List Nat) := []
  deriving DecidableEq, Repr

/-- One entry of a station's decode queue: the page, whether it is released, and the blocks not yet taken (R188). -/
structure Queued where
  page : Nat := 0
  released : Bool := false
  blocks : List Nat := []
  deriving DecidableEq, Repr

/-- A band buffer of a station's Band SRAM (R99, R189). -/
structure Buffer where
  /-- the page's place, plus 1; 0 while the buffer is free -/
  page : Nat := 0
  band : Nat := 0
  /-- the lines written: line number within the band, and its bytes -/
  rows : Tab Bytes := []
  /-- the blocks completed with a matching CRC; the lines written with an inverted parity bit (R415) -/
  blocks : List Nat := []
  bad : List Nat := []
  deriving DecidableEq, Repr

/-- A Press lane (R207 to R209), by lane code. -/
structure Lane where
  /-- 0 OFF, 1 TESTING, 2 IN SERVICE, 3 OUT OF SERVICE -/
  state : Nat := 0
  /-- the block it works on: page's place, plus 1, and block; 0 for none. A check lane at work has 1 for the place. -/
  page : Nat := 0
  block : Nat := 0
  blocks : Nat := 0
  bytes : Nat := 0
  stalls : Nat := 0
  cause : Nat := 0
  deriving DecidableEq, Repr

/-- An encode job taken from its ring (R197 to R203). -/
structure Job where
  id : Nat := 0
  words : List Nat := []
  source : Bytes := []
  /-- the output chain: address, length, in host memory -/
  chain : List (Nat × Nat × Bool) := []
  reissues : Nat := 0
  /-- of an ENCODE_BAND job: the page's place, plus 1, and the bytes reserved in the page store -/
  page : Nat := 0
  reserved : Nat := 0
  /-- its completion entry, once it has one -/
  result : Option (List Nat) := none
  deriving DecidableEq, Repr

/-- An archive stream (R204 to R206, R460): 1 checkpoint, 2 event archive. -/
structure Stream where
  /-- its archive has been enabled -/
  on : Bool := false
  /-- the encode lane, 7 or 8; 0 while closed -/
  lane : Nat := 0
  level : Nat := 0
  /-- the encode job that was in work on the lane when it began to stream, by its number plus 1; 0 for none -/
  busy : Nat := 0
  /-- the input of the open block, cut at each flush, oldest first -/
  parts : List Bytes := []
  /-- checkpoint entries that Alinagrim has not fed yet, as bytes -/
  waiting : Bytes := []
  /-- the sequence number of the next record to feed -/
  next : Nat := 0
  /-- Stamp time of the last base archived -/
  baseAt : Option Nat := none
  deriving DecidableEq, Repr

/-- The Press beside its objects. -/
structure Press where
  lanes : Tab Lane := []
  queues : Tab (List Queued) := []
  buffers : Tab Buffer := []
  /-- the blocks being fetched or waiting for their check or in it, oldest first -/
  inbound : List Inbound := []
  /-- blocks that the second lane must decode: block, lane that failed (R190) -/
  retries : List (Nat × Nat) := []
  /-- the encode jobs taken from each ring and not yet answered, oldest first -/
  jobs : Tab (List Job) := []
  /-- the jobs of each encode lane, the one in work first -/
  turns : Tab (List Nat) := []
  streams : Tab Stream := []
  /-- the ingest ring whose entry was taken last -/
  ingestLast : Nat := 27
  /-- blocks and jobs numbered so far -/
  nextBlock : Nat := 0
  nextJob : Nat := 0
  deriving DecidableEq, Repr

/-! ## Memory Fabric, locks and the Ladle -/

/-- A hardware lock (R225). -/
structure Lock where
  /-- 0 for not HELD -/
  owner : Nat := 0
  /-- the last owner -/
  lastOwner : Nat := 0
  broken : Bool := false
  acquires : Nat := 0
  deriving DecidableEq, Repr

/-- A Ladle job taken from its ring and not yet completed (R229 to R238). -/
structure LadleJob where
  words : List Nat := []
  entry : Nat := 0
  /-- what answers its accesses to host memory -/
  host : HostMem := ⟨[], false, true⟩
  /-- transfers begun -/
  next : Nat := 0
  /-- the present transfer: bytes not yet written, its destination, its length, written from the top down -/
  left : Bytes := []
  dest : Nat := 0
  destHost : Bool := false
  size : Nat := 0
  down : Bool := false
  /-- bytes written by completed transfers -/
  done : Nat := 0
  status : Nat := 0
  brokenSeen : Bool := false
  /-- the job waits for its lock; nothing is left to move -/
  waiting : Bool := false
  finished : Bool := false
  deriving DecidableEq, Repr

/-- The Memory Fabric and the Ladle beside their objects. -/
structure Fabric where
  /-- grants and preemptions of each input -/
  grants : Tab Nat := []
  preemptions : Tab Nat := []
  /-- granules the present scrub pass has read; the pass has been counted late -/
  scrubbed : Nat := 0
  late : Bool := false
  locks : Tab Lock := []
  /-- Ladle channels waiting for a lock, in the order in which they began to wait -/
  lockQueue : List Nat := []
  /-- the job of each Ladle channel -/
  jobs : Tab (Option LadleJob) := []
  /-- the host window of DRAM (R214), and its granules with inverted check bits: 1 one, 2 two (R415) -/
  window : Tab Byte := []
  marks : Tab Nat := []
  /-- what the module has written to host memory -/
  host : Tab Byte := []
  deriving DecidableEq, Repr

/-! ## Drives, the Loop Engine, HV channels and the Kettle -/

/-- A drive channel beside its objects (R292 to R308). -/
structure Drive where
  /-- Stamp time of the last zero crossing; the interval between the last two, in ns, 0 for none; backward rotation -/
  last : Option Nat := none
  interval : Nat := 0
  backward : Bool := false
  /-- the sector left at the last zero crossing, and the Stamp time at which the next one is taken; none once the channel steps
  open-loop or rests (R292) -/
  sector : Nat := 0
  advance : Option Nat := none
  /-- consecutive crossings with the observed speed within 2 % of the commanded speed -/
  inBand : Nat := 0
  /-- the open-loop ramp: Stamp time of the entry to RAMP and of the last step, the steps taken, a valid crossing has been
  seen in the present step, consecutive steps with one -/
  rampAt : Nat := 0
  stepAt : Nat := 0
  steps : Nat := 0
  seen : Bool := false
  good : Nat := 0
  /-- in CATCH: speeds of the consistent estimates, newest first; no crossing has come since its entry; Stamp time of the last
  zero-vector pulse -/
  estimates : List Int := []
  firstCrossing : Bool := false
  pulsed : Option Nat := none
  /-- the commanded speed last read from the pin, in rpm -/
  pin : Int := 0
  /-- Stamp time at which a host wrote `Speed command` last -/
  written : Option Nat := none
  /-- acceleration and jerk of the last profile started, as REAL32 -/
  limits : Option (Nat × Nat) := none
  /-- the speed loop slot runs at facet rate (R293) -/
  byFacet : Bool := false
  /-- the present PWM on-time has been ended (R296) -/
  cut : Bool := false
  /-- no-regeneration mode holds the gates off (R310) -/
  coasting : Bool := false
  /-- the low-side switches brake (R308) -/
  braking : Bool := false
  /-- PWM periods since the last skip, up to 1,024 -/
  unskipped : Nat := 0
  deriving DecidableEq, Repr

/-- What the drives share (R305, R309 to R311). -/
structure Drives where
  units : Tab Drive := []
  /-- lost command pins: bit k - 1; Stamp times of the last known edge of each -/
  lost : Nat := 0
  edges : List Nat := [0, 0, 0, 0]
  /-- the chopper is commanded on; since when -/
  chopper : Bool := false
  chopperAt : Nat := 0
  /-- ns of chopper on time not yet in `Chopper on time` -/
  chopperNs : Nat := 0
  /-- the test pulse is on: 1, or the 20 µs after it: 2 -/
  testing : Nat := 0
  /-- the bus input switch has opened by the 58 V trip -/
  tripped : Bool := false
  deriving DecidableEq, Repr

/-! ## Steppers -/

/-- A stepper axis beside its objects (R321 to R340). -/
structure StepAxis where
  /-- the profile in progress, the Stamp time it began at, and the position it ends at, in 2^-32 microstep -/
  plan : List Segment := []
  begun : Nat := 0
  goal : Int := 0
  /-- what the profile is for: 0 none, 1 a move, 2 a stop, 3 the search for home, 4 the stop after home was found, 5 the stop before
  the search reverses, 6 a limit trip of a move, 7 the second limit trip of a search -/
  purpose : Nat := 0
  /-- the limits in force, and the entry (0xFF for `Target position`) and page tag of the move -/
  limits : Limits := {}
  entry : Nat := 0xFF
  tag : Nat := 0
  /-- the sign of the velocity that a reversal will take through zero; 0 for none -/
  reversing : Int := 0
  /-- what waits for the coils to be re-energised: 0 nothing, 1 a move of `Start move` or `Target position`, 2 a move of a slot,
  3 homing -/
  waiting : Nat := 0
  /-- the target of a waiting `Target position` move -/
  target : Int := 0
  /-- Stamp times of the entry to STANDSTILL and of the start of re-energising -/
  stillAt : Nat := 0
  energisedAt : Nat := 0
  /-- consecutive full steps at or above `Stall threshold`, below it since a stall, and with a coil below 25 % -/
  above : Nat := 0
  under : Nat := 0
  open_ : Nat := 0
  /-- a stall under `Stall action` 0 has not cleared -/
  stalled : Bool := false
  /-- homing: the search direction, the reversal has been used, the position the leg began at, the microsteps of earlier
  legs, and the position at the start of the active run of the home input -/
  up : Bool := false
  reversed : Bool := false
  legFrom : Int := 0
  travelled : Nat := 0
  edge : Int := 0
  /-- POWERED DOWN by the motor bus -/
  busDown : Bool := false
  /-- the bridges were switched off while the state would energise them -/
  dark : Bool := false
  /-- `Position valid` when PD14 was switched off -/
  hadPosition : Bool := false
  /-- `Commanded position` less the microstep of the coils: presets and homing move the count alone -/
  shift : Int := 0
  /-- the levels of the limit inputs as this axis saw them last: bit 0 negative, bit 1 positive -/
  levels : Nat := 0
  /-- Stamp time of the last move or stop that a host wrote, and which: the entry, 0xFF for `Target position`, 0x100 and 0x101 for
  `Stop` -/
  hostAt : Option Nat := none
  hostWrote : Nat := 0
  deriving DecidableEq, Repr

/-! ## The Loop Engine -/

/-- The history of a notch: x and y of the last two evaluations, as REAL32 (R353). -/
structure Notch where
  x1 : Nat := 0
  x2 : Nat := 0
  y1 : Nat := 0
  y2 : Nat := 0
  /-- the nominal trigger rate its coefficients were made for; it is bypassed -/
  rate : Nat := 0
  bypassed : Bool := false
  deriving DecidableEq, Repr

/-- A loop slot beside its objects; values are REAL32 (R346 to R357). -/
structure LoopSlot where
  /-- the state HOLD goes back to -/
  held : Nat := 2
  /-- a trigger waits for its evaluation; the Stamp time at which it joined the queue -/
  queued : Bool := false
  joined : Option Nat := none
  /-- the last trigger: its whole multiple, axis position, facet count or half-cycle -/
  mark : Nat := 0
  /-- Stamp times of the last axis triggers, newest first, at most 65 -/
  triggers : List Nat := []
  /-- Stamp time of the previous evaluation -/
  last : Option Nat := none
  integral : Nat := 0
  derivative : Nat := 0
  y : Nat := 0
  /-- the output before its clamp lay outside: 0 no, 1 above, 2 below -/
  clamped : Nat := 0
  notch1 : Notch := {}
  notch2 : Notch := {}
  /-- the rate of the set-point -/
  rate : Nat := 0
  /-- the initial output of a bumpless transfer that the next evaluation makes -/
  transfer : Option Nat := none
  /-- an HV_RAMP: from, to, Stamp time of its start, its length in ns, the page tag -/
  ramp : Option (Nat × Nat × Nat × Nat × Nat) := none
  /-- evaluations since the last overrun, and since the last clamped one, up to 1,024 -/
  sinceOverrun : Nat := 0
  sinceClamp : Nat := 0
  deriving DecidableEq, Repr

/-- An HV channel beside its objects (R360 to R362). -/
structure Hv where
  /-- s of R362, the band it was mapped in, and the tag of the page that gave it -/
  code : Nat := 0
  band : Nat := 0
  tag : Nat := 0
  /-- consecutive evaluations above `Feedback limit`; Stamp time since which the load has looked open -/
  above : Nat := 0
  openSince : Option Nat := none
  /-- Stamp time and value of the last `Host switch` -/
  hostAt : Option Nat := none
  hostSwitch : Nat := 0
  deriving DecidableEq, Repr

/-- A Kettle zone beside its objects (R364 to R368). -/
structure Zone where
  /-- A of R366 -/
  acc : Int := 0
  /-- on half-cycles, positive and negative -/
  positive : Nat := 0
  negative : Nat := 0
  /-- the decision of R366, and the half-cycle it is for -/
  next : Bool := false
  decided : Nat := 0
  /-- the gate is high -/
  gate : Bool := false
  /-- the half-cycle of the mains at which START's half-cycle 0 opens, how many it fires, and how many have fired -/
  first : Nat := 0
  count : Nat := 0
  fired : Nat := 0
  /-- the slot has been started -/
  running : Bool := false
  /-- the half-cycle whose gate edge has been made -/
  edge : Nat := 0
  deriving DecidableEq, Repr

/-- The Loop Engine beside its objects. -/
structure Loops where
  slots : Tab LoopSlot := []
  /-- the evaluation queue, oldest first -/
  queue : List Nat := []
  hv : Tab Hv := []
  zones : Tab Zone := []
  deriving DecidableEq, Repr

/-! ## The Crock -/

/-- An object of the spool (R457): the page as it was copied, its blocks among it. -/
structure SpoolObject where
  id : Nat := 0
  page : Page := {}
  /-- of an automatic object: the page's place in the page table, plus 1, while that page is there -/
  link : Nat := 0
  deriving DecidableEq, Repr

/-- A Crock command in progress (R455): its ring, words and status so far, and the page a SPOOL_PAGE copies. -/
structure CrockCommand where
  ring : Nat := 44
  words : List Nat := []
  host : HostMem := ⟨[], false, true⟩
  status : Nat := 0
  page : Page := {}
  deriving DecidableEq, Repr

/-- An automatic spool copy in progress (R457), with the status it has failed with. -/
structure SpoolCopy where
  page : Page := {}
  link : Nat := 0
  status : Nat := 0
  deriving DecidableEq, Repr

/-- The newer copy of an MRAM region (R453): which copy, its generation, and the Stamp time and length of its write. -/
structure Region where
  copy : Nat := 0
  generation : Nat := 0
  stamp : Nat := 0
  length : Nat := 0
  deriving DecidableEq, Repr

/-- The Crock beside its objects (R446 to R463). -/
structure Crock where
  /-- the written 4 KiB units of the NAND partitions, by partition × 2^28 + unit; the checkpoint archive and the event
  archive among them -/
  units : Tab Bytes := []
  /-- the firmware slots that have been erased since delivery -/
  blank : List Nat := []
  /-- the blocks of each archive stream: first unit and units, oldest first -/
  logs : Tab (List (Nat × Nat)) := []
  /-- the unit the next block of each archive stream starts at -/
  heads : Tab Nat := []
  /-- the spool directory, oldest first, and the last SPOOL_ID given -/
  objects : List SpoolObject := []
  lastId : Nat := 0
  /-- the commands in progress of all rings, and the automatic copies in progress, oldest first -/
  commands : List CrockCommand := []
  copies : List SpoolCopy := []
  /-- the state that the end of quiesce returns to -/
  before : Nat := 2
  /-- grown bad blocks; the spare warning has been given; spare blocks have been found below 128 -/
  bad : Nat := 0
  warned : Bool := false
  low : Bool := false
  /-- Stamp time, `Program volume` and `Host write volume` at the health reports of the 24 h rhythm, newest first -/
  history : List (Nat × Nat × Nat) := []
  /-- Stamp time at which the last pass of the retention scrub ended (R449) -/
  scrubbed : Nat := 0
  /-- the MRAM regions by REGION -/
  regions : Tab Region := []
  deriving DecidableEq, Repr

/-! ## Supplies, power domains and temperature -/

/-- A power domain (R384, R513). -/
structure Domain where
  /-- 0 OFF, 1 RAMPING, 2 ON, 3 STOPPING, 4 FAILED -/
  state : Nat := 0
  /-- the cause EV002 gives the present request -/
  cause : Nat := 0
  /-- the switch-on waits for the supply to return to NORMAL -/
  deferred : Bool := false
  deriving DecidableEq, Repr

/-- A temperature channel or VCSEL thermistor beside its objects (R126, R388, R391). -/
structure Thermometer where
  /-- no reading has been taken since the channel started -/
  fresh : Bool := true
  /-- consecutive readings inside the range while broken -/
  good : Nat := 0
  /-- the partner's reading stands for this channel's -/
  partner : Bool := false
  deriving DecidableEq, Repr

/-- The Power and Thermal Manager beside its objects. -/
structure Power where
  /-- the Trivet rail is in tolerance: the module has power -/
  trivet : Bool := true
  domains : Tab Domain := []
  /-- 0 NORMAL, 1 WARNING, 2 RESET -/
  supply : Nat := 0
  /-- consecutive bulk samples below the warning threshold and below 80 V -/
  belowWarning : Nat := 0
  belowReset : Nat := 0
  /-- consecutive bulk samples at or above the recovery level, and below it -/
  aboveRecovery : Nat := 0
  belowRecovery : Nat := 0
  /-- Stamp time of the entry to RESET; the µs in RESET at which the Trivet rail was lost -/
  resetAt : Nat := 0
  lostAfter : Option Nat := none
  thermo : Tab Thermometer := []
  /-- the quiesce causes that stand: bit 0 brownout, 1 temperature, 2 PD06 stopping (R392) -/
  quiesce : Nat := 0
  deriving DecidableEq, Repr

/-! ## Fault collection and the Lid -/

/-- A fault detected and not yet delivered to the Supervisor (R399): its message, the record of its detection step, its lane, whether its
CRC was inverted on the way, and whether the Lid has acted on its wire (R401). -/
structure Detected where
  word : Nat := 0
  record : Rec := {}
  lane : Nat := 0
  crcBad : Bool := false
  acted : Bool := false
  deriving DecidableEq, Repr

/-- The Safety Supervisor beside its objects. -/
structure Supervisor where
  /-- messages on the lanes -/
  net : List Detected := []
  /-- persistent conditions that stand: source, kind and whether it has a reaction -/
  standing : List (Nat × Nat × Bool) := []
  /-- the sources whose consequence windows a reaction in force holds open, and those that close after a release (R407) -/
  windows : List Nat := []
  closing : List Nat := []
  /-- Stamp times of the releases of the preceding hour, newest first -/
  releases : List Nat := []
  /-- every cause of the Class C in force is a temperature SHUTDOWN (R390) -/
  thermalOnly : Bool := false
  /-- injection in progress: its target, 0 for none, and its N; the reaction chosen for injected faults -/
  target : Nat := 0
  injected : Nat := 0
  recordOnly : Bool := false
  /-- the heartbeat path that was injected last: 1 wire, 2 word -/
  pathInjected : Nat := 0
  /-- interlock sense levels: bit 0 A, bit 1 B -/
  sense : Nat := 0
  /-- channels that are open, and channels marked shorted: bit 0 A, bit 1 B -/
  ilkOpen : Nat := 3
  ilkShort : Nat := 0
  /-- the opening of a channel has been reported and not yet its end; the discrepancy stands -/
  ilkSent : Bool := false
  discrepant : Bool := false
  deriving DecidableEq, Repr

/-! ## Twin Sequencer -/

/-- A sequencer unit beside its role (R420 to R438, R468 to R472). -/
structure Unit where
  /-- the firmware slot the present image came from: 1, 2, 3 golden, 0 none -/
  bootSlot : Nat := 0
  /-- the slot a load in progress takes the image from; 0 for none -/
  loading : Nat := 0
  /-- the last health report is eligible; test 6 alone took the unit to DEGRADED; Stamp time of the last report -/
  healthy : Bool := false
  onlySix : Bool := false
  lastReport : Option Nat := none
  /-- FORMAT, FORMAT_PREVIOUS and RELEASE of the image; its signature is valid -/
  format : Nat := 1
  formatOld : Nat := 1
  release : Nat := 0
  signed : Bool := true
  deriving DecidableEq, Repr

/-- A checkpoint entry: its header (R432) and what the restore takes from its body (R433). -/
structure Checkpoint where
  type : Nat := 0
  format : Nat := 0
  length : Nat := 0
  stamp : Nat := 0
  sequence : Nat := 0
  page : Nat := 0
  valid : Bool := true
  /-- the page table as the entry leaves it, without the pages' blocks; what the objects of a dictionary write held before it -/
  pages : List Page := []
  before : List (Nat × Val) := []
  deriving DecidableEq, Repr

/-- The Twin Sequencer beside its objects. -/
structure Twin where
  units : Tab Unit := []
  /-- the switch-over gap: the Supervisor holds the output-ownership token -/
  switching : Bool := false
  grantAt : Nat := 0
  /-- causes of the grant, as EV022 lists them; the unit that loses activity -/
  causes : Nat := 0
  leaving : Nat := 0
  /-- the units that were eligible at the end of the previous grid step: bit u - 1 (R426) -/
  eligible : Nat := 0
  /-- mode of the planned switch-over that is pending; 0 for none -/
  planned : Nat := 0
  /-- beats of the present period: wire, valid word -/
  wireBeat : Bool := false
  wordBeat : Bool := false
  /-- consecutive periods missed, and carried, by each path -/
  wireMisses : Nat := 0
  wordMisses : Nat := 0
  wireGood : Nat := 0
  wordGood : Nat := 0
  /-- the last valid BEAT of the active unit -/
  lastBeat : Option Nat := none
  /-- `Heartbeat period` in force -/
  period : Nat := 100
  /-- the entries of the bank in use, oldest first, its base first; bytes used; which bank -/
  entries : List Checkpoint := []
  used : Nat := 0
  bank : Nat := 0
  sequence : Nat := 0
  /-- the copies in MRAM: the newest base, and the final delta (R377, R431) -/
  mramBase : Option Checkpoint := none
  mramFinal : Option Checkpoint := none
  /-- the dictionary service is up (R467 step 10) -/
  dictionaryUp : Bool := true
  /-- both units are held in reset, a module reset or power cycle being in progress -/
  held : Bool := false
  deriving DecidableEq, Repr

/-! ## Trust Anchor and recovery -/

/-- A request of ring 62 that has not been answered (R479, R480): its words 0 and 1, and its answer once there is one. -/
structure TrustRequest where
  w0 : Nat := 0
  w1 : Nat := 0
  hostOk : Bool := true
  answer : Option (List Nat) := none
  deriving DecidableEq, Repr

/-- A report that is to be signed (R478): its nonce, and whether a ring request asked for it. -/
structure Attestation where
  nonce : Bytes := []
  ring : Bool := false
  deriving DecidableEq, Repr

/-- The Trust Anchor and the recovery functions beside their objects. -/
structure Trust where
  /-- mismatches acknowledged -/
  acked : Nat := 0
  /-- the eight measurement slots and their extend counts (R472) -/
  slots : List Bytes := List.replicate 8 (List.replicate 48 0)
  extended : List Nat := List.replicate 8 0
  /-- reports waiting to be signed, the one being signed first -/
  queue : List Attestation := []
  /-- the report being signed -/
  signing : Option Bytes := none
  /-- the unit released as active at start-up: 1 A, 2 B; DICTIONARY_UP has been set since the start -/
  released : Nat := 1
  started : Bool := true
  /-- the requests of ring 62 that have not been answered, oldest first -/
  requests : List TrustRequest := []
  /-- answers on ring 63 whose MSI-X message has not been sent: bit 0 of a MODULE_RESET, bit 1 of a POWER_CYCLE -/
  awaiting : Nat := 0
  /-- Stamp time of the last module reset -/
  resetAt : Option Nat := none
  /-- `RESET_N` is low, and since when -/
  resetLow : Bool := false
  /-- `POWER_CYCLE_REQ` is active; the REQUEST_ID of the last POWER_CYCLE answered, 0 where the request came otherwise -/
  cyclePin : Bool := false
  cycleId : Nat := 0
  /-- candidate of R468 the next load of the preferred unit starts at -/
  candidate : Nat := 0
  /-- no further automatic action until a cold power-up or a host reset (R490) -/
  automatic : Bool := true
  deriving DecidableEq, Repr

/-! ## The dictionary -/

/-- What the dictionary answers a request with. -/
structure Reply where
  /-- 0 done, 1 aborted, 2 malformed -/
  status : Nat := 0
  abort : Nat := 0
  detail : Nat := 0
  data : Bytes := []
  deriving DecidableEq, Repr

/-- The dictionary service and the field network beside their objects. -/
structure Service where
  /-- the last detail code of each path -/
  detailEthercat : Nat := 0
  detailMailbox : Nat := 0
  /-- the last answer given on each path -/
  ethercat : Reply := {}
  mailbox : Reply := {}
  alStatus : Nat := 0
  /-- a state request waits for DICTIONARY_UP -/
  esmWaiting : Nat := 0
  rxSeen : Bool := false
  /-- the RxPDO values last received, and those received in the gap and not yet applied -/
  rxLast : Option Bytes := none
  rxGap : Option Bytes := none
  /-- the TxPDO image of the last cycle -/
  txLast : Bytes := []
  /-- requests that wait for the dictionary service (R288), oldest first -/
  stalled : List Instr := []
  /-- the last restart left a stored value at its default (R280) -/
  partly : Bool := false
  /-- the stored record (R278): what is stored, by key, in the Crock; and its copy in MRAM, while that passes its check -/
  stored : Tab Val := []
  mirror : Option (Tab Val) := some []
  /-- accepted writes of this grid step, whose responses it issues: path, 1 EtherCAT or 2 mailbox, index and subindex (R288) -/
  unissued : List (Nat × Nat × Nat) := []
  deriving DecidableEq, Repr

/-- What the host sets in the link's configuration and MSI-X table, and the power state (R246, R248, R256). -/
structure Pcie where
  /-- Bus Master Enable -/
  busMaster : Bool := false
  /-- the function is in D3hot, else in D0 -/
  d3hot : Bool := false
  /-- message address and data of each vector -/
  table : Tab (Nat × Nat) := []
  deriving DecidableEq, Repr

/-! ## The whole machine -/

/-- The state of the module. -/
structure State where
  /-- the variant: TRUE for a THR-8640-S6 (R1) -/
  s6 : Bool := true
  /-- Stamp time in ns (R47) -/
  stamp : Nat := 0
  /-- the object dictionary, by index × 256 + subindex -/
  od : Tab Val := []
  /-- deadlines by timer number: one more than the Stamp time they fall at; 0 for none -/
  timers : Tab Nat := []
  pos : Position := {}
  ev : Recorder := {}
  rings : Tab Ring := []
  pcie : Pcie := {}
  polygons : Tab Polygon := []
  stations : Tab Station := []
  pages : Pages := {}
  press : Press := {}
  fabric : Fabric := {}
  drives : Drives := {}
  steppers : Tab StepAxis := []
  loops : Loops := {}
  crock : Crock := {}
  power : Power := {}
  lid : Supervisor := {}
  twin : Twin := {}
  trust : Trust := {}
  svc : Service := {}
  /-- the model's own: how many free values have been drawn -/
  drawn : Nat := 0
  /-- the commands that wait, first in, first out -/
  pending : List Instr := []
  deriving DecidableEq, Repr

/-! ## Reset -/

/-- A word of the header of a container as it was delivered (R470; log entry 30). -/
def deliveredWord (p i : Nat) : Nat := ofLe ((upFrom (8 * i) 8).map (Config.deliveredByte p))

/-- Header and image of a container as it was delivered, and its signature. -/
def deliveredImage (p : Nat) : Bytes := (upFrom 0 (64 + field (deliveredWord p 0) 31 0)).map (Config.deliveredByte p)
def deliveredSignature (p : Nat) : Bytes := (upFrom (64 + field (deliveredWord p 0) 31 0) 96).map (Config.deliveredByte p)

/-- The digest a container as delivered is measured to (R472). -/
def deliveredDigest (p : Nat) : Bytes := sha384 (deliveredImage p)

/-- A unit that has loaded slot 1 of partition p as it was delivered (R468, R470). -/
def deliveredUnitState (p : Nat) : Unit :=
  { bootSlot := 1, format := field (deliveredWord p 1) 31 16, formatOld := field (deliveredWord p 1) 15 0,
    release := deliveredWord p 2, signed := Config.signatureGood (deliveredImage p) (deliveredSignature p) }

/-- The measurement slots after the first start: the Trust Anchor, both images, and an empty stored record (R472). -/
def resetSlots : List Bytes :=
  [(upFrom 0 48).map Config.anchorDigest, deliveredDigest 0x11, deliveredDigest 0x21, sha384 (Config.recordForm [])] ++
    List.replicate 4 (List.replicate 48 0)

/-- A record of the first start: the mains time base has not locked, and PD16 is off (R52). -/
def startRecord (source payload : Nat) : Rec :=
  { mainsInvalid := true, a1Invalid := true, firmware := Config.firmwareRaised source, source := source, payload := payload % 2 ^ 64 }

/-- EV002 of a domain that is switched on at the start: RAMPING, then ON (R395). -/
def startDomain (pd : Nat) : List Rec := [startRecord 2 (pd + 256 + 6 * 2 ^ 24), startRecord 2 (pd + 512 + 65536 + 6 * 2 ^ 24)]

/-- EV033 of a slot that is set (R492). -/
def startMeasured (k : Nat) : Rec := startRecord 33 (k + 256 + ofLe ((resetSlots.getD k []).take 4) * 2 ^ 32)

/-- EV032 of a unit whose slot 1 has been loaded (R492). -/
def startLoaded (u p : Nat) : Rec :=
  startRecord 32 (u + 256 + (if (deliveredUnitState p).signed then 65536 else 0) + field (deliveredWord p 1) 63 32 * 2 ^ 32)

/-- The records of the first start, in the order of R467: the reset itself, the Trust Anchor's slot, the domains, the Crock mounted,
the units started, loaded and released, and the stored record measured. -/
def startRecords : List Rec :=
  [startRecord 34 257, startMeasured 0] ++ startDomain 3 ++ startDomain 6 ++ [startRecord 104 1, startRecord 104 258] ++
    startDomain 1 ++ [startRecord 20 (1 + 256 + 2 ^ 24)] ++ startDomain 2 ++ [startRecord 20 (2 + 256 + 2 ^ 24)] ++
    [startLoaded 1 0x11, startMeasured 1, startRecord 20 (1 + 512 + 65536 + 2 ^ 24)] ++
    [startLoaded 2 0x21, startMeasured 2, startRecord 20 (2 + 768 + 65536 + 2 ^ 24)] ++
    startDomain 7 ++ startDomain 8 ++ [startMeasured 3]

/-- The epoch marker of the first power-up (R54). -/
def epochMarker : Rec := { mainsInvalid := true, a1Invalid := true, type := 5, payload := 1 }

/-- The objects that differ from their defaults after the first start: the cause of the reset, the roles, the
power-up count, the slots measured, the Crock READY with its spare blocks, and its VALID firmware slots. -/
def resetObjects : Tab Val :=
  [(K 0x2011 6, .num 1), (K 0x2300 2, .num 2), (K 0x2300 3, .num 3), (K 0x2401 6, .num 1), (K 0x2410 1, .num 4),
   (K 0x3700 1, .num 2), (K 0x3700 7, .num 2752), (K 0x3701 1, .num 2), (K 0x3701 3, .num 2), (K 0x3701 5, .num 2)]

/-- Deadlines after the start: the scrub period, the 24 h of the health reports, the first report of the standby, the first checkpoint
delta, the end of the first heartbeat period. -/
def resetTimers : Tab Nat :=
  [(13 * 65536, 3600000000001), (24 * 65536, 86400000000001), (27 * 65536, 10000001), (28 * 65536, 1000001), (29 * 65536, 100001)]

/-- The base domains ON, as the start switched them on (R382, R467). -/
def baseOn : Tab Domain := [1, 2, 3, 6, 7, 8].map (fun pd => (pd, ({ state := 2, cause := 6 } : Domain)))

/-- The state after reset: the first power-up of a module as it was delivered has run the steps of R467, and DICTIONARY_UP is set
(log entries 6 and 7). -/
def State.reset : State :=
  { od := resetObjects,
    timers := resetTimers,
    ev := { held := startRecords, trace := [{ record := epochMarker }], sequence := 1, newest := some 0 },
    power := { domains := baseOn },
    twin := { units := [(1, deliveredUnitState 0x11), (2, deliveredUnitState 0x21)] },
    trust := { slots := resetSlots, resetAt := some 0 } }

end Sys2Proof.Machine
end

