-- ==== Sys2Proof/Machine/Ops.lean ====
section
/-! DEFINITION. The named operations on the state: reading and writing objects, deadlines, event records, faults and
free values. -/

namespace Sys2Proof.Machine

/-! ## Objects -/

/-- What an object holds. -/
def State.val (s : State) (k : Nat) : Val := Tab.get (objectDefault s.s6) s.od k

/-- The number an object holds. -/
def State.i (s : State) (k : Nat) : Int :=
  match s.val k with
  | .num n => n
  | .dom _ => 0

/-- The number of an object that is never negative. -/
def State.n (s : State) (k : Nat) : Nat := (s.i k).toNat

/-- A BOOLEAN object. -/
def State.flag (s : State) (k : Nat) : Bool := decide (s.i k ≠ 0)

/-- The bytes of a DOMAIN or VISIBLE_STRING object. -/
def State.bytes (s : State) (k : Nat) : Bytes :=
  match s.val k with
  | .num _ => []
  | .dom b => b

/-- An object takes a value. -/
def State.put (s : State) (k : Nat) (v : Val) : State := { s with od := Tab.put (objectDefault s.s6) s.od k v }

def State.seti (s : State) (k : Nat) (v : Int) : State := s.put k (.num v)
def State.setn (s : State) (k : Nat) (v : Nat) : State := s.put k (.num v)
def State.setb (s : State) (k : Nat) (v : Bool) : State := s.put k (.num (b2n v))
def State.setBytes (s : State) (k : Nat) (v : Bytes) : State := s.put k (.dom v)

/-- A 32-bit count goes up by one and wraps. -/
def State.bump (s : State) (k : Nat) : State := s.setn k ((s.n k + 1) % 2 ^ 32)

/-- A 32-bit count goes up by a number and wraps. -/
def State.bumpBy (s : State) (k d : Nat) : State := s.setn k ((s.n k + d) % 2 ^ 32)

/-- A 16-bit count goes up by one and wraps. -/
def State.bump16 (s : State) (k : Nat) : State := s.setn k ((s.n k + 1) % 2 ^ 16)

/-- The objects of the indices lo to hi read as their defaults again. -/
def State.forget (s : State) (lo hi : Nat) : State := { s with od := Tab.eraseRange s.od (lo * 256) (hi * 256 + 255) }

/-- One object reads as its default again. -/
def State.forgetOne (s : State) (k : Nat) : State := { s with od := Tab.erase s.od k }

/-! ## Deadlines -/

/-- Timer u of a kind. -/
def timer (kind u : Nat) : Nat := kind * 65536 + u

/-- The deadline of a timer is set, in ns of Stamp time. -/
def State.arm (s : State) (t deadline : Nat) : State :=
  { s with timers := Tab.put (fun _ => 0) s.timers t (deadline + 1) }

/-- The deadline of a timer is d ns from now. -/
def State.after (s : State) (t d : Nat) : State := s.arm t (s.stamp + d)

/-- A timer runs no more. -/
def State.disarm (s : State) (t : Nat) : State := { s with timers := Tab.put (fun _ => 0) s.timers t 0 }

/-- A timer runs. -/
def State.armed (s : State) (t : Nat) : Bool := decide (Tab.get (fun _ => 0) s.timers t ≠ 0)

/-- The deadline of a timer that runs, in ns of Stamp time. -/
def State.deadline (s : State) (t : Nat) : Nat := Tab.get (fun _ => 0) s.timers t - 1

/-- A timer runs and its deadline has come. -/
def State.due (s : State) (t : Nat) : Bool :=
  s.armed t && decide (Tab.get (fun _ => 0) s.timers t ≤ s.stamp + 1)

/-- The time left on a timer, 0 when it has run out or does not run. -/
def State.left (s : State) (t : Nat) : Nat := Tab.get (fun _ => 0) s.timers t - 1 - s.stamp

/-! ## Units -/

def State.enc (s : State) (n : Nat) : Encoder := Tab.get (fun _ => {}) s.pos.enc n
def State.setEnc (s : State) (n : Nat) (e : Encoder) : State :=
  { s with pos := { s.pos with enc := Tab.put (fun _ => {}) s.pos.enc n e } }

def State.slot (s : State) (n : Nat) : Slot := Tab.get (fun _ => {}) s.pos.slots n
def State.setSlot (s : State) (n : Nat) (x : Slot) : State :=
  { s with pos := { s.pos with slots := Tab.put (fun _ => {}) s.pos.slots n x } }

def State.ring (s : State) (n : Nat) : Ring := Tab.get (fun _ => {}) s.rings n
def State.setRing (s : State) (n : Nat) (x : Ring) : State :=
  { s with rings := Tab.put (fun _ => {}) s.rings n x }

def State.domain (s : State) (n : Nat) : Domain := Tab.get (fun _ => {}) s.power.domains n
def State.setDomain (s : State) (n : Nat) (x : Domain) : State :=
  { s with power := { s.power with domains := Tab.put (fun _ => {}) s.power.domains n x } }

def State.thermo (s : State) (n : Nat) : Thermometer := Tab.get (fun _ => {}) s.power.thermo n
def State.setThermo (s : State) (n : Nat) (x : Thermometer) : State :=
  { s with power := { s.power with thermo := Tab.put (fun _ => {}) s.power.thermo n x } }

def State.unit (s : State) (n : Nat) : Unit := Tab.get (fun _ => {}) s.twin.units n
def State.setUnit (s : State) (n : Nat) (x : Unit) : State :=
  { s with twin := { s.twin with units := Tab.put (fun _ => {}) s.twin.units n x } }

def State.polygon (s : State) (n : Nat) : Polygon := Tab.get (fun _ => {}) s.polygons n
def State.setPolygon (s : State) (n : Nat) (x : Polygon) : State :=
  { s with polygons := Tab.put (fun _ => {}) s.polygons n x }

def State.station (s : State) (n : Nat) : Station := Tab.get (fun _ => {}) s.stations n
def State.setStation (s : State) (n : Nat) (x : Station) : State :=
  { s with stations := Tab.put (fun _ => {}) s.stations n x }

def State.page (s : State) (n : Nat) : Page := Tab.get (fun _ => {}) s.pages.table n
def State.setPage (s : State) (n : Nat) (x : Page) : State :=
  { s with pages := { s.pages with table := Tab.put (fun _ => {}) s.pages.table n x } }

def State.lane (s : State) (n : Nat) : Lane := Tab.get (fun _ => {}) s.press.lanes n
def State.setLane (s : State) (n : Nat) (x : Lane) : State :=
  { s with press := { s.press with lanes := Tab.put (fun _ => {}) s.press.lanes n x } }

def State.queue (s : State) (n : Nat) : List Queued := Tab.get (fun _ => []) s.press.queues n
def State.setQueue (s : State) (n : Nat) (x : List Queued) : State :=
  { s with press := { s.press with queues := Tab.put (fun _ => []) s.press.queues n x } }

def State.buffer (s : State) (n : Nat) : Buffer := Tab.get (fun _ => {}) s.press.buffers n
def State.setBuffer (s : State) (n : Nat) (x : Buffer) : State :=
  { s with press := { s.press with buffers := Tab.put (fun _ => {}) s.press.buffers n x } }

def State.jobsOf (s : State) (r : Nat) : List Job := Tab.get (fun _ => []) s.press.jobs r
def State.setJobs (s : State) (r : Nat) (x : List Job) : State :=
  { s with press := { s.press with jobs := Tab.put (fun _ => []) s.press.jobs r x } }

def State.turns (s : State) (l : Nat) : List Nat := Tab.get (fun _ => []) s.press.turns l
def State.setTurns (s : State) (l : Nat) (x : List Nat) : State :=
  { s with press := { s.press with turns := Tab.put (fun _ => []) s.press.turns l x } }

def State.stream (s : State) (k : Nat) : Stream := Tab.get (fun _ => {}) s.press.streams k
def State.setStream (s : State) (k : Nat) (x : Stream) : State :=
  { s with press := { s.press with streams := Tab.put (fun _ => {}) s.press.streams k x } }

def State.lock (s : State) (n : Nat) : Lock := Tab.get (fun _ => {}) s.fabric.locks n
def State.setLock (s : State) (n : Nat) (x : Lock) : State :=
  { s with fabric := { s.fabric with locks := Tab.put (fun _ => {}) s.fabric.locks n x } }

def State.ladleJob (s : State) (ch : Nat) : Option LadleJob := Tab.get (fun _ => none) s.fabric.jobs ch
def State.setLadleJob (s : State) (ch : Nat) (x : Option LadleJob) : State :=
  { s with fabric := { s.fabric with jobs := Tab.put (fun _ => none) s.fabric.jobs ch x } }

def State.drive (s : State) (c : Nat) : Drive := Tab.get (fun _ => {}) s.drives.units c
def State.setDrive (s : State) (c : Nat) (x : Drive) : State :=
  { s with drives := { s.drives with units := Tab.put (fun _ => {}) s.drives.units c x } }

def State.stepper (s : State) (n : Nat) : StepAxis := Tab.get (fun _ => {}) s.steppers n
def State.setStepper (s : State) (n : Nat) (x : StepAxis) : State :=
  { s with steppers := Tab.put (fun _ => {}) s.steppers n x }

def State.loop (s : State) (n : Nat) : LoopSlot := Tab.get (fun _ => {}) s.loops.slots n
def State.setLoopSlot (s : State) (n : Nat) (x : LoopSlot) : State :=
  { s with loops := { s.loops with slots := Tab.put (fun _ => {}) s.loops.slots n x } }

def State.hv (s : State) (h : Nat) : Hv := Tab.get (fun _ => {}) s.loops.hv h
def State.setHv (s : State) (h : Nat) (x : Hv) : State :=
  { s with loops := { s.loops with hv := Tab.put (fun _ => {}) s.loops.hv h x } }

def State.zone (s : State) (z : Nat) : Zone := Tab.get (fun _ => {}) s.loops.zones z
def State.setZone (s : State) (z : Nat) (x : Zone) : State :=
  { s with loops := { s.loops with zones := Tab.put (fun _ => {}) s.loops.zones z x } }

/-- Domain pd is ON. -/
def State.on (s : State) (pd : Nat) : Bool := decide ((s.domain pd).state = 2)

/-! ## Free values -/

/-- One more free value has been drawn. -/
def State.draw (s : State) : State := { s with drawn := s.drawn + 1 }

/-! ## Coordinates -/

/-- The value of a position axis in sublines (R29). -/
def State.axisPos (s : State) (n : Nat) : Nat := Tab.get (fun _ => 0) s.pos.axes n / 65536

/-- The mains phase, 1/65,536 cycle (R35). -/
def State.mainsPhase (s : State) : Nat := s.pos.mains.acc * 65536 / 10 ^ 12 % 65536

/-- A1 is invalid: the E1 loop is DISABLED or FAULT, or PD16 is off (R52). -/
def State.a1Invalid (s : State) : Bool :=
  decide (s.n (K 0x3001 7) = 0) || (decide (s.n (K 0x3001 7) = 4) || !s.on 16)

/-- The value a record carries as A1: the last valid one while A1 is invalid (R52). -/
def State.a1 (s : State) : Nat := if s.a1Invalid then s.pos.a1Held else s.axisPos 1

/-- The active sequencer is Sequencer B. -/
def State.seqB (s : State) : Bool := decide (s.n (K 0x2300 1) = 2)

/-! ## Event records -/

/-- A record of this grid step (R23, R52). -/
def State.record (s : State) (type source payload : Nat) (firmware : Bool) : Rec :=
  { stamp := s.stamp, a1 := s.a1, phase := s.mainsPhase, cycle := s.pos.mains.cycle,
    aligned := decide (s.n (K 0x2400 3) = 2),
    mainsInvalid := decide (s.n (K 0x3020 1) = 0 ∨ s.n (K 0x3020 1) = 3),
    a1Invalid := s.a1Invalid, firmware := firmware, seqB := firmware && s.seqB,
    type := type, source := source, payload := payload % 2 ^ 64 }

/-- A source delivers a record to the recorder, which holds it (R53). -/
def State.deliver (s : State) (r : Rec) : State := { s with ev := { s.ev with held := s.ev.held ++ [r] } }

/-- An event record is written (R57); whether Alinagrim raises it is open where the manual does not say. -/
def State.event (s : State) (ev payload : Nat) : State :=
  s.deliver (s.record 1 ev payload (Config.firmwareRaised ev))

/-- An event record that the hardware writes. -/
def State.eventHw (s : State) (ev payload : Nat) : State := s.deliver (s.record 1 ev payload false)

/-- An event record that Alinagrim on the active sequencer raises. -/
def State.eventFw (s : State) (ev payload : Nat) : State := s.deliver (s.record 1 ev payload true)

/-! ## Faults -/

/-- A fault message (R398). -/
def faultWord (source kind address : Nat) (persistent cleared injected : Bool) : Nat :=
  source * 2 ^ 56 + kind * 2 ^ 52 + b2n cleared * 2 ^ 51 + b2n injected * 2 ^ 50 + b2n persistent * 2 ^ 49 +
    address % 2 ^ 32

/-- The causes wired directly to the Lid (R401). -/
def wiredCause (source kind : Nat) : Bool :=
  (source == 0x00 && kind == 0xE) || ((source == 0x88 || source == 0x89 || source == 0x8A) && kind == 0x9) ||
    (source == 0x8E && kind == 0xA) || (source == 0x11 && (kind == 0xA || kind == 0xB)) ||
    (source == 0x04 && kind == 0xF)

/-- N operations of the injection in progress have been carried out: EV018 subcode 2 at its end (R415). -/
def State.spendInjection (s : State) (n : Nat) : State :=
  let left := s.n (K 0x2220 5)
  if n < left then s.setn (K 0x2220 5) (left - n)
  else
    ({ s with lid := { s.lid with target := 0 } }.setn (K 0x2220 5) 0).eventHw 18
      (2 + s.lid.target * 65536 + s.lid.injected * 2 ^ 48)

/-- The operation of an injection target is being injected. -/
def State.injects (s : State) (target : Nat) : Bool := decide (s.lid.target = target ∧ target ≠ 0)

/-- A detected fault goes onto its lane (R399); an injection on the lane inverts its CRC (R415). -/
def State.detect (s : State) (word : Nat) : State :=
  let source := word / 2 ^ 56
  let bad := s.injects (0x400 + source)
  let d : Detected := { word := word, record := s.record 2 source word false, lane := source, crcBad := bad }
  let s1 := { s with lid := { s.lid with net := s.lid.net ++ [d] } }
  if bad then s1.spendInjection 1 else s1

/-- A fault is detected in this grid step. -/
def State.fault (s : State) (source kind address : Nat) : State := s.detect (faultWord source kind address false false false)

/-- A fault that an injection caused. -/
def State.faultInjected (s : State) (source kind address : Nat) (injected : Bool) : State :=
  s.detect (faultWord source kind address false false injected)

/-- A persistent fault is detected in this grid step. -/
def State.faultOn (s : State) (source kind address : Nat) : State := s.detect (faultWord source kind address true false false)

/-- A persistent condition ends in this grid step: the message with CLEARED. -/
def State.faultOff (s : State) (source kind address : Nat) : State := s.detect (faultWord source kind address false true false)

/-! ## Control -/

/-- Alinagrim serves rings and objects: the dictionary is up, and no switch-over gap is open (R21). -/
def State.served (s : State) : Bool := s.twin.dictionaryUp && !s.twin.switching

/-- The effect holds where the condition does, and nothing happens otherwise. -/
def State.when (s : State) (c : Bool) (f : State → State) : State := if c then f s else s

/-- One operation for each number of a list, in order. -/
def State.each {α : Type} (s : State) (l : List α) (f : State → α → State) : State := l.foldl f s

end Sys2Proof.Machine
end

