-- ==== Sys2Proof/Machine/Memory.lean ====
section
/-! DEFINITION. The memories a command reaches by address: the host window of DRAM, and host memory as the module sees it
(R214, R229, R259). -/

namespace Sys2Proof.Machine

/-- What an unlisted byte of DRAM reads as (log entry 27). -/
def dramDefault : Nat → Byte := fun _ => 0

/-- The canonical form of a memory: addresses strictly rising, and no byte listed that reads as an unlisted one does. -/
def Memory.wf (m : Tab Byte) : Bool := Tab.ok dramDefault m

/-- A range lies in the host window (R214). -/
def inWindow (address length : Nat) : Bool := decide (0x7C0000000 ≤ address) && decide (address + length ≤ 0x800000000)

/-- n bytes of DRAM. -/
def State.dram (s : State) (address n : Nat) : Bytes := Tab.read dramDefault s.fabric.window address n

/-- Bytes are written to DRAM. -/
def State.dramWrite (s : State) (address : Nat) (b : Bytes) : State :=
  { s with fabric := { s.fabric with window := Tab.write dramDefault s.fabric.window address b } }

/-- Bytes are written to host memory. -/
def State.hostWrite (s : State) (address : Nat) (b : Bytes) : State :=
  { s with fabric := { s.fabric with host := Tab.write dramDefault s.fabric.host address b } }

/-- The first part that holds a whole range. -/
def partRead : List (Nat × Bytes) → Nat → Nat → Option Bytes
  | [], _, _ => none
  | (base, b) :: m, address, n =>
    if base ≤ address ∧ address + n ≤ base + b.length then some (slice (address - base) n b) else partRead m address n

/-- What the link returns for a read of host memory; none where the read fails. -/
def hostRead (m : HostMem) (address n : Nat) : Option Bytes := partRead m.parts address n

/-- A read of host memory has failed: source 0x7B with a completion timeout or an error response (R266). -/
def State.linkFault (s : State) (m : HostMem) (address : Nat) : State := s.fault 0x7B (if m.timeout then 0x4 else 0x5) address

/-! ## ECC -/

/-- An object of the Memory Fabric (R240). -/
def fk (sub : Nat) : Nat := K 0x3800 sub

/-- An ECC error found in a granule by a read: the count, the address, the fault and EV096 (R215). -/
def State.eccError (s : State) (input g ecc : Nat) (injected : Bool) : State :=
  if ecc = 1 ∨ ecc = 2 then
    (((s.bump (fk (1 + ecc))).setn (fk 4) (64 * g)).faultInjected (0x2F + ecc) ecc g injected).event 96
      (ecc + input * 256 + 64 * g % 2 ^ 40 * 2 ^ 24)
  else s

/-- The inverted check bits of a granule: 0 none, 1 one, 2 two (R415). -/
def State.mark (s : State) (g : Nat) : Nat := Tab.get (fun _ => 0) s.fabric.marks g
def State.setMark (s : State) (g m : Nat) : State :=
  { s with fabric := { s.fabric with marks := Tab.put (fun _ => 0) s.fabric.marks g m } }

/-- A granule is read: inverted check bits are found, and one of them is corrected (R215). -/
def State.readGranule (s : State) (input g : Nat) : State :=
  match s.mark g with
  | 0 => s
  | 1 => (s.eccError input g 1 true).setMark g 0
  | _ => s.eccError input g 2 true

/-- A granule is written: in the host window under the injection in progress (R415). -/
def State.writeGranule (s : State) (g : Nat) : State :=
  if s.injects 0x101 && inWindow (64 * g) 64 then (s.setMark g 1).spendInjection 1
  else if s.injects 0x102 && inWindow (64 * g) 64 then (s.setMark g 2).spendInjection 1
  else s.setMark g 0

/-- A granule lies whole in a range. -/
def wholeGranule (address length g : Nat) : Bool := decide (address ≤ 64 * g) && decide (64 * g + 64 ≤ address + length)

/-- A transaction touches a granule: a partial write reads it first, and is not made where that read is uncorrectable (R215). -/
def State.touchGranule (s : State) (input address length : Nat) (write : Bool) (g : Nat) : State :=
  if write = false then s.readGranule input g
  else if wholeGranule address length g then s.writeGranule g
  else
    let s1 := s.readGranule input g
    if s1.mark g = 2 then s1 else s1.writeGranule g

/-- The granules of a range. -/
def granulesOf (address length : Nat) : List Nat :=
  if length = 0 then [] else upFrom (address / 64) ((address + length - 1) / 64 + 1 - address / 64)

/-- The marked granules of a range, in rising order. -/
def State.markedIn (s : State) (address length : Nat) : List Nat :=
  (s.fabric.marks.map Prod.fst).filter (fun g => decide (length ≠ 0) && (decide (address / 64 ≤ g) && decide (g ≤ (address + length - 1) / 64)))

/-- The first granule of a range whose read is uncorrectable; of those that a write makes only in part (R215). -/
def State.poisoned (s : State) (address length : Nat) : Option Nat :=
  (s.markedIn address length).find? (fun g => s.mark g == 2)
def State.writeBlocked (s : State) (address length : Nat) : Option Nat :=
  (s.markedIn address length).find? (fun g => s.mark g == 2 && !wholeGranule address length g)

/-- A range of DRAM is read through an input of the fabric. -/
def State.readRange (s : State) (input address length : Nat) : State :=
  s.each (s.markedIn address length) (fun t g => t.readGranule input g)

/-- A range of DRAM is written through an input of the fabric. Granules without a mark change only under an injection. -/
def State.touchRange (s : State) (input address length : Nat) : State :=
  if s.injects 0x101 || s.injects 0x102 then
    s.each (granulesOf address length) (fun t g => t.touchGranule input address length true g)
  else s.each (s.markedIn address length) (fun t g => t.touchGranule input address length true g)

/-! ## Accesses of jobs -/

/-- A read of n bytes by a host-submitted job: from host memory, or from the host window, where an uncorrectable granule fails it
(R214, R215). -/
def State.fetch (s : State) (m : HostMem) (host : Bool) (address n : Nat) : Option Bytes :=
  if host then hostRead m address n
  else if inWindow address n && s.poisoned address n == none then some (s.dram address n)
  else none

/-- A write of a host-submitted job through an input of the fabric: a granule written in part whose read is uncorrectable keeps its
bytes (R215). -/
def State.store (s : State) (input : Nat) (host : Bool) (address : Nat) (b : Bytes) : State :=
  if host then s.hostWrite address b
  else
    match s.writeBlocked address b.length with
    | none => (s.dramWrite address b).touchRange input address b.length
    | some _ => s.touchRange input address b.length

end Sys2Proof.Machine
end

