-- ==== Sys2Proof/Machine/Flash.lean ====
section
/-! DEFINITION. The NAND array as the Crock's commands and the archives use it: units, volumes and the wear budget, and the
circular logs of the archives (R446, R454, R460, R461). -/

namespace Sys2Proof.Machine

/-- An object of the Crock (R462). -/
def ck (sub : Nat) : Nat := K 0x3700 sub

/-- `Crock state`. -/
def State.crockState (s : State) : Nat := s.n (ck 1)

/-- The Crock takes reads: READY, READ-ONLY or QUIESCED. -/
def State.crockUp (s : State) : Bool := decide (2 ≤ s.crockState) && decide (s.crockState ≤ 4)

/-- Sizes of the partitions in 4 KiB units (R454). -/
def partitionUnits (p : Nat) : Nat :=
  256 * (match p with
  | 0x01 => 256 | 0x11 => 128 | 0x12 => 128 | 0x21 => 128 | 0x22 => 128 | 0x30 => 128
  | 0x40 => 4096 | 0x50 => 289920 | 0x60 => 16384 | 0x70 => 16384
  | _ => 0)

/-- The bytes a unit that holds no data reads as (R455). -/
def zeroUnit : Bytes := List.replicate 4096 0

/-- 4 KiB units that a number of bytes takes. -/
def unitsOf (bytes : Nat) : Nat := divCeil bytes 4096

/-- The firmware slots and the golden image: delivered with content. -/
def firmwareSlot (p : Nat) : Bool := p == 0x11 || p == 0x12 || p == 0x21 || p == 0x22 || p == 0x30

/-- A unit as it was delivered (log entry 30). -/
def deliveredUnit (p u : Nat) : Bytes := (upFrom (4096 * u) 4096).map (Config.deliveredByte p)

/-- A unit of a partition. -/
def State.flashUnit (s : State) (p u : Nat) : Bytes :=
  match Tab.get (fun _ => []) s.crock.units (p * 2 ^ 28 + u) with
  | [] => if firmwareSlot p && !s.crock.blank.contains p then deliveredUnit p u else zeroUnit
  | b => b

/-- A unit takes new data; the empty string makes it unwritten. -/
def State.setFlashUnit (s : State) (p u : Nat) (b : Bytes) : State :=
  { s with crock := { s.crock with units := Tab.put (fun _ => []) s.crock.units (p * 2 ^ 28 + u) b } }

/-- A unit becomes unwritten and reads as 0 (R455). -/
def State.trimUnit (s : State) (p u : Nat) : State :=
  s.setFlashUnit p u (if firmwareSlot p && !s.crock.blank.contains p then zeroUnit else [])

/-- Every unit of a slot becomes unwritten. -/
def State.eraseSlot (s : State) (p : Nat) : State :=
  { s with crock := { s.crock with units := Tab.eraseRange s.crock.units (p * 2 ^ 28) (p * 2 ^ 28 + (2 ^ 28 - 1)),
                                   blank := p :: s.crock.blank.filter (fun q => q != p) } }

/-- n bytes of a partition from a byte address on. -/
def State.flashBytes (s : State) (p a n : Nat) : Bytes :=
  slice (a % 4096) n ((upFrom (a / 4096) (unitsOf (a % 4096 + n))).flatMap (s.flashUnit p))

/-- Unit j of a byte string, padded with zeros. -/
def unitAt (b : Bytes) (j : Nat) : Bytes := let d := slice (4096 * j) 4096 b; d ++ List.replicate (4096 - d.length) 0

/-- `Budget used` in 0.01 % of 10 PB (R461). -/
def State.budgetUsed (s : State) : Nat := s.n (ck 8) / 1000000000000

/-- Bytes are programmed (R461): `Program volume`, `Host write volume` where they are the host's, and the events of the
budget as it is crossed (log entry 28). -/
def State.program (s : State) (bytes : Nat) (hosts : Bool) : State :=
  let old := s.n (ck 8)
  let new := (old + bytes) % 2 ^ 64
  let s1 := s.setn (ck 8) new
  let s2 := if hosts then s1.setn (ck 9) ((s1.n (ck 9) + bytes) % 2 ^ 64) else s1
  let s3 := if old < 9000000000000000 ∧ 9000000000000000 ≤ new then s2.event 107 (2 + s2.n (ck 7) * 2 ^ 32) else s2
  if old < 10000000000000000 ∧ 10000000000000000 ≤ new then
    (s3.event 107 (3 + s3.n (ck 7) * 2 ^ 32)).fault 0x85 0x6 s3.budgetUsed
  else s3

/-- The partition of an archive stream: 1 checkpoint, 2 event archive (R454). -/
def archivePartition (k : Nat) : Nat := if k = 1 then 0x70 else 0x60

/-- The oldest blocks of a log are overwritten until the log fits its partition (R460). -/
def trimLog (size : Nat) : List (Nat × Nat) → List (Nat × Nat)
  | [] => []
  | b :: l => if total ((b :: l).map Prod.snd) ≤ size then b :: l else trimLog size l

/-- A closed block of a stream goes into its archive, at the next unit of the circular log (R460). -/
def State.archiveBlock (s : State) (k : Nat) (b : Bytes) : State :=
  if s.crockState = 2 then
    let p := archivePartition k
    let size := partitionUnits p
    let n := unitsOf b.length
    let head := Tab.get (fun _ => 0) s.crock.heads k
    let s1 := s.each (upFrom 0 n) (fun t j => t.setFlashUnit p ((head + j) % size) (unitAt b j))
    let log := trimLog size (Tab.get (fun _ => []) s1.crock.logs k ++ [(head, n)])
    { s1 with crock := { s1.crock with logs := Tab.put (fun _ => []) s1.crock.logs k log,
                                       heads := Tab.put (fun _ => 0) s1.crock.heads k ((head + n) % size) } }.program
      (n * 4096) true
  else s

/-- `Archive positions` (R460, R462): the first units of the oldest and newest blocks of the event and the checkpoint archive. -/
def State.archivePositions (s : State) : Bytes :=
  let oldest := fun k => ((Tab.get (fun _ => []) s.crock.logs k).head?.getD (0, 0)).1
  let newest := fun k => ((Tab.get (fun _ => []) s.crock.logs k).getLast?.getD (0, 0)).1
  leBytes 8 (oldest 2) ++ leBytes 8 (newest 2) ++ leBytes 8 (oldest 1) ++ leBytes 8 (newest 1)

/-! ## MRAM and the spool -/

/-- A region of the MRAM is written: the older copy, which becomes the newer (R452, R453). -/
def State.mramWrite (s : State) (region length : Nat) : State :=
  let g := Tab.get (fun _ => {}) s.crock.regions region
  let h : Region := { copy := 1 - g.copy, generation := (g.generation + 1) % 2 ^ 64, stamp := s.stamp, length := length }
  { s with crock := { s.crock with regions := Tab.put (fun _ => {}) s.crock.regions region h } }

/-- Units an object takes in the spool: its blocks, rounded up (log entry 34). -/
def spoolUnits (p : Page) : Nat := unitsOf (total (p.blocks.map (fun b => b.length)))

/-- Units that the spool's objects and the copies in progress hold. -/
def State.spoolUsed (s : State) : Nat :=
  total (s.crock.objects.map (fun o => spoolUnits o.page)) + total (s.crock.copies.map (fun c => spoolUnits c.page)) +
    total (s.crock.commands.map (fun c => spoolUnits c.page))

/-- `Spool free` in MiB (R462). -/
def State.spoolFree (s : State) : Nat := (partitionUnits 0x50 - s.spoolUsed) / 256

/-- The spool does not take one more object (R456, R462). -/
def State.spoolFull (s : State) (p : Page) : Bool :=
  decide (4096 ≤ s.crock.objects.length + s.crock.copies.length) ||
    decide (partitionUnits 0x50 < s.spoolUsed + spoolUnits p)

/-- EV106 (R464). -/
def State.spoolEvent (s : State) (sub status tag id : Nat) : State :=
  s.event 106 (sub + status * 256 + tag * 65536 + id % 2 ^ 32 * 2 ^ 32)

/-- The status with which the Crock's state refuses a command, 0 for none: not up, and for writes QUIESCED, and READ-ONLY
where that counts (R450, R451, R456). -/
def State.crockRefuses (s : State) (writes readOnlyToo : Bool) : Nat :=
  match s.crockState with
  | 2 => 0
  | 3 => if writes && readOnlyToo then 5 else 0
  | 4 => if writes then 4 else 0
  | _ => 0xE

/-- A page has become RESIDENT: with `Automatic spool` it is copied (R457). -/
def State.autoSpool (s : State) (i : Nat) (p : Page) : State :=
  if s.flag (ck 2) then
    let st := if s.crockRefuses true true ≠ 0 then s.crockRefuses true true else if s.spoolFull p then 8 else 0
    if st ≠ 0 then s.spoolEvent 4 st p.tag 0
    else { s with crock := { s.crock with copies := s.crock.copies ++ [{ page := p, link := i + 1 }] } }
  else s

/-- The page at a place leaves the page table: its automatic object stays, on its own (R457). -/
def State.unlinkSpool (s : State) (i : Nat) : State :=
  { s with crock := { s.crock with
      objects := s.crock.objects.map (fun o => if o.link = i + 1 then { o with link := 0 } else o),
      copies := s.crock.copies.map (fun c => if c.link = i + 1 then { c with link := 0 } else c) } }

/-- The automatic object of a page is deleted: RELEASE after DELIVERED, or CANCEL (R457). A copy still in progress fails with
the status of a page that is gone. -/
def State.deleteAutomatic (s : State) (i : Nat) : State :=
  let gone := s.crock.objects.filter (fun o => o.link == i + 1)
  let s1 := { s with crock := { s.crock with
      objects := s.crock.objects.filter (fun o => o.link != i + 1),
      copies := s.crock.copies.map (fun c => if c.link = i + 1 then { c with status := 9, link := 0 } else c) } }
  if gone.isEmpty then s1 else (s1.each gone (fun t o => t.spoolEvent 3 0 o.page.tag o.id)).mramWrite 4 (32 * s1.crock.objects.length)

/-- The page store still holds a block: it is a page's (R457). -/
def State.blockHeld (s : State) (id : Nat) : Bool := s.pages.table.any (fun x => x.2.blocks.any (fun b => b.id == id))

/-- Bytes of the page store that copies in progress keep although their page has left (R457). -/
def State.spoolHolds (s : State) : Nat :=
  total ((s.crock.copies.map (fun c => c.page) ++ s.crock.commands.map (fun c => c.page)).map (fun p =>
    total ((p.blocks.filter (fun b => !s.blockHeld b.id)).map (fun b => b.length))))

end Sys2Proof.Machine
end

