-- ==== Sys2Proof/Machine/Codec.lean ====
section
/-! DEFINITION. CRC-8 and CRC-32, and the DEFLATE decoder of the Press lanes with its exact cycle cost
(R130, R179, R181, R182, R183, R194, R196). -/

namespace Sys2Proof.Machine

/-! ## Cyclic redundancy checks -/

/-- k steps of CRC-8 with polynomial 0x07, most significant bit first (R130). -/
def crc8Bits : Nat → Nat → Nat
  | 0, c => c
  | k + 1, c => crc8Bits k (if 128 ≤ c then ((c * 2) ^^^ 0x107) % 256 else c * 2)

/-- CRC-8 of k bytes of a word, most significant byte first. -/
def crc8 : Nat → Nat → Nat → Nat
  | 0, _, c => c
  | k + 1, w, c => crc8 k w (crc8Bits 8 (c ^^^ (w / 256 ^ k % 256)))

/-- k steps of the reflected CRC-32 with polynomial 0x04C11DB7 (R179). -/
def crc32Bits : Nat → Nat → Nat
  | 0, c => c
  | k + 1, c => crc32Bits k (if c % 2 = 1 then (c / 2) ^^^ 0xEDB88320 else c / 2)

/-- The CRC-32 register after a byte string. -/
def crc32From : Nat → Bytes → Nat
  | c, [] => c
  | c, b :: l => crc32From (crc32Bits 8 (c ^^^ b.toNat)) l

/-- CRC-32 as used by IEEE 802.3 (R179). -/
def crc32 (b : Bytes) : Nat := crc32From 0xFFFFFFFF b ^^^ 0xFFFFFFFF

/-! ## Bits of a stream -/

/-- The bits of a byte string, least significant bit of each byte first. -/
def streamBits : Bytes → List Bool
  | [] => []
  | b :: l => (upFrom 0 8).map (fun i => b.toNat.testBit i) ++ streamBits l

/-- The number k bits spell, first bit least significant; none where the stream ends first. -/
def takeBits : Nat → List Bool → Option (Nat × List Bool)
  | 0, s => some (0, s)
  | _ + 1, [] => none
  | k + 1, b :: s =>
    match takeBits k s with
    | none => none
    | some (n, rest) => some (b2n b + 2 * n, rest)

/-! ## Huffman codes -/

/-- A canonical code: how many codes there are of each length 1 to 15, and the symbols in code order. -/
structure Huffman where
  counts : List Nat
  symbols : List Nat
  deriving DecidableEq, Repr

/-- The code that a list of lengths gives. -/
def huffman (lens : List Nat) : Huffman :=
  { counts := (upFrom 1 15).map (fun l => (lens.filter (fun x => x == l)).length),
    symbols := (upFrom 1 15).flatMap (fun l =>
      ((upFrom 0 lens.length).filter (fun i => lens.getD i 0 == l))) }

/-- What is left of the code space: none where the code is over-subscribed. -/
def codeSpace : Nat → List Nat → Option Nat
  | left, [] => some left
  | left, c :: l => if c ≤ 2 * left then codeSpace (2 * left - c) l else none

/-- The completeness rule of R181: complete, or exactly one symbol of length 1, or (for distances) no code at all. -/
def codeValid (lens : List Nat) (emptyOk : Bool) : Bool :=
  match codeSpace 1 (huffman lens).counts with
  | none => false
  | some 0 => true
  | some _ =>
    let used := lens.filter (fun x => x != 0)
    used == [1] || (emptyOk && used.isEmpty)

/-- Reads one symbol: code so far, first code and first place of the present length. -/
def readSymbol (symbols : List Nat) : List Nat → (code first index : Nat) → List Bool → Option (Option Nat × List Bool)
  | [], _, _, _, s => some (none, s)
  | _ :: _, _, _, _, [] => none
  | c :: l, code, first, index, b :: s =>
    let v := 2 * code + b2n b
    let f := 2 * first
    if v < f + c then some (some (symbols.getD (index + (v - f)) 0), s)
    else readSymbol symbols l v (f + c) (index + c) s

/-- A symbol of a code; `some none` where the bits are no code word. -/
def Huffman.read (h : Huffman) (s : List Bool) : Option (Option Nat × List Bool) := readSymbol h.symbols h.counts 0 0 0 s

/-! ## The decoder -/

/-- A DEFLATE block as it was read: its type, its raw bytes, its bits, and the bits of its bytes stored and in the fixed codes. -/
structure Shape where
  type : Nat := 0
  raw : Nat := 0
  bits : Nat := 0
  stored : Nat := 0
  fixed : Nat := 0
  deriving DecidableEq, Repr

/-- What a decoder has put out: bytes, newest first, their number, the cycles spent, and whether every DEFLATE block so
far was stored. -/
structure Decoded where
  rev : Bytes := []
  len : Nat := 0
  cost : Nat := 32
  stored : Bool := true
  /-- the bits that the symbols of the present block would take in the fixed codes -/
  fixed : Nat := 0
  /-- the DEFLATE blocks so far, newest first -/
  shapes : List Shape := []
  deriving DecidableEq, Repr

/-- How a stream ends: decoded; invalid under R181 (0x06); a distance before the first byte (0x07); or the data ends
inside the stream. Each says what was put out. -/
inductive Inflated where
  | done (d : Decoded) (rest : List Bool)
  | invalid (d : Decoded)
  | before (d : Decoded)
  | short (d : Decoded)
  deriving DecidableEq, Repr

def Decoded.put (d : Decoded) (b : Byte) : Decoded := { d with rev := b :: d.rev, len := d.len + 1 }
def Decoded.spend (d : Decoded) (c : Nat) : Decoded := { d with cost := d.cost + c }

/-- Symbols that would take a number of bits in the fixed codes. -/
def Decoded.fix (d : Decoded) (bits : Nat) : Decoded := { d with fixed := d.fixed + bits }

/-- A DEFLATE block of a type ends: the bytes there were before it, its bits, and those of a stored block's header up to the byte. -/
def Decoded.close (d : Decoded) (type before bits head : Nat) : Decoded :=
  { d with fixed := 0, shapes := { type := type, raw := d.len - before, bits := bits, stored := head + 32 + 8 * (d.len - before),
                                   fixed := 3 + d.fixed } :: d.shapes }

/-- Copies n bytes from a distance back. -/
def Decoded.copy : Nat → Decoded → Nat → Decoded
  | 0, d, _ => d
  | n + 1, d, dist => Decoded.copy n (d.put (d.rev.getD (dist - 1) 0)) dist

/-- Base and extra bits of length codes 257 to 285. -/
def lengthBase : List Nat :=
  [3, 4, 5, 6, 7, 8, 9, 10, 11, 13, 15, 17, 19, 23, 27, 31, 35, 43, 51, 59, 67, 83, 99, 115, 131, 163, 195, 227, 258]
def lengthExtra : List Nat :=
  [0, 0, 0, 0, 0, 0, 0, 0, 1, 1, 1, 1, 2, 2, 2, 2, 3, 3, 3, 3, 4, 4, 4, 4, 5, 5, 5, 5, 0]

/-- Base and extra bits of distance codes 0 to 29. -/
def distBase : List Nat :=
  [1, 2, 3, 4, 5, 7, 9, 13, 17, 25, 33, 49, 65, 97, 129, 193, 257, 385, 513, 769, 1025, 1537, 2049, 3073, 4097, 6145,
   8193, 12289, 16385, 24577]
def distExtra : List Nat :=
  [0, 0, 0, 0, 1, 1, 2, 2, 3, 3, 4, 4, 5, 5, 6, 6, 7, 7, 8, 8, 9, 9, 10, 10, 11, 11, 12, 12, 13, 13]

/-- A match: length symbol, then distance, then the copy (R181, R182). -/
def inflateMatch (dist : Huffman) (sym : Nat) (d : Decoded) (s : List Bool) : Inflated :=
  if 286 ≤ sym then .invalid d
  else
    match takeBits (lengthExtra.getD (sym - 257) 0) s with
    | none => .short d
    | some (e, s1) =>
      let n := lengthBase.getD (sym - 257) 0 + e
      match dist.read s1 with
      | none => .short d
      | some (none, _) => .invalid d
      | some (some ds, s2) =>
        if 30 ≤ ds then .invalid d
        else
          match takeBits (distExtra.getD ds 0) s2 with
          | none => .short d
          | some (de, s3) =>
            let dd := distBase.getD ds 0 + de
            if d.len < dd then .before d
            else
              .done (((Decoded.copy n d dd).spend (divCeil n (min dd 8))).fix
                ((if sym < 280 then 7 else 8) + lengthExtra.getD (sym - 257) 0 + 5 + distExtra.getD ds 0)) s3

/-- The symbols of one block, up to its end. -/
def inflateSymbols (lit dist : Huffman) : Nat → Decoded → List Bool → Inflated
  | 0, d, _ => .short d
  | k + 1, d, s =>
    match lit.read s with
    | none => .short d
    | some (none, _) => .invalid d
    | some (some sym, s1) =>
      if sym < 256 then inflateSymbols lit dist k (((d.put (BitVec.ofNat 8 sym)).spend 1).fix (if sym < 144 then 8 else 9)) s1
      else if sym = 256 then .done ((d.spend 1).fix 7) s1
      else
        match inflateMatch dist sym d s1 with
        | .done d2 s2 => inflateSymbols lit dist k d2 s2
        | r => r

/-- The code lengths of a dynamic header, newest first, until there are n of them. -/
def readLengths (cl : Huffman) (n : Nat) : Nat → List Nat → List Bool → Option (Option (List Nat) × List Bool)
  | 0, _, _ => none
  | k + 1, rev, s =>
    if n ≤ rev.length then some (if rev.length = n then some rev.reverse else none, s)
    else
      match cl.read s with
      | none => none
      | some (none, s1) => some (none, s1)
      | some (some sym, s1) =>
        if sym < 16 then readLengths cl n k (sym :: rev) s1
        else
          let extra := if sym = 16 then 2 else if sym = 17 then 3 else 7
          let least := if sym = 18 then 11 else 3
          match takeBits extra s1 with
          | none => none
          | some (e, s2) =>
            if sym = 16 then
              match rev with
              | [] => some (none, s2)
              | p :: _ => readLengths cl n k (List.replicate (least + e) p ++ rev) s2
            else readLengths cl n k (List.replicate (least + e) 0 ++ rev) s2

/-- The order in which code-length code lengths are sent. -/
def clOrder : List Nat := [16, 17, 18, 0, 8, 7, 9, 6, 10, 5, 11, 4, 12, 3, 13, 2, 14, 1, 15]

/-- The code-length code lengths as sent. -/
def readClens : Nat → List Bool → Option (List Nat × List Bool)
  | 0, s => some ([], s)
  | k + 1, s =>
    match takeBits 3 s with
    | none => none
    | some (v, s1) =>
      match readClens k s1 with
      | none => none
      | some (l, s2) => some (v :: l, s2)

/-- The code-length code lengths by symbol. -/
def placeClens (sent : List Nat) : List Nat :=
  (upFrom 0 19).map (fun sym => sent.getD (clOrder.idxOf sym) 0)

/-- A dynamic block (R181, R182). -/
def inflateDynamic (fuel : Nat) (d : Decoded) (s : List Bool) : Inflated :=
  match takeBits 5 s with
  | none => .short d
  | some (hlit, s1) =>
    match takeBits 5 s1 with
    | none => .short d
    | some (hdist, s2) =>
      match takeBits 4 s2 with
      | none => .short d
      | some (hclen, s3) =>
        match readClens (hclen + 4) s3 with
        | none => .short d
        | some (sent, s4) =>
          let cl := placeClens sent
          if codeValid cl false then
            match readLengths (huffman cl) (hlit + 257 + (hdist + 1)) (hlit + hdist + 260) [] s4 with
            | none => .short d
            | some (none, _) => .invalid d
            | some (some lens, s5) =>
              let lit := lens.take (hlit + 257)
              let dist := lens.drop (hlit + 257)
              if codeValid lit false && codeValid dist true then
                inflateSymbols (huffman lit) (huffman dist) fuel
                  ({ d with stored := false }.spend (24 + (hlit + 257) + (hdist + 1))) s5
              else .invalid d
          else .invalid d

/-- The fixed code lengths of RFC 1951. -/
def fixedLit : List Nat :=
  List.replicate 144 8 ++ List.replicate 112 9 ++ List.replicate 24 7 ++ List.replicate 8 8
def fixedDist : List Nat := List.replicate 32 5

/-- n stored bytes. -/
def inflateCopy : Nat → Decoded → List Bool → Inflated
  | 0, d, s => .done d s
  | n + 1, d, s =>
    match takeBits 8 s with
    | none => .short d
    | some (b, s1) => inflateCopy n (d.put (BitVec.ofNat 8 b)) s1

/-- A stored block: the rest of the byte is skipped, then LEN, NLEN and the bytes. -/
def inflateStored (d : Decoded) (s : List Bool) : Inflated :=
  match takeBits 16 (s.drop (s.length % 8)) with
  | none => .short d
  | some (n, s1) =>
    match takeBits 16 s1 with
    | none => .short d
    | some (m, s2) => if n + m = 65535 then inflateCopy n (d.spend (2 + divCeil n 16)) s2 else .invalid d

/-- The DEFLATE blocks up to the one with BFINAL. -/
def inflateBlocks : Nat → Nat → Decoded → List Bool → Inflated
  | 0, _, d, _ => .short d
  | k + 1, fuel, d, s =>
    match takeBits 1 s with
    | none => .short d
    | some (final, s1) =>
      match takeBits 2 s1 with
      | none => .short d
      | some (type, s2) =>
        let r :=
          if type = 0 then inflateStored d s2
          else if type = 1 then
            inflateSymbols (huffman fixedLit) (huffman fixedDist) fuel ({ d with stored := false }.spend 4) s2
          else if type = 2 then inflateDynamic fuel d s2
          else .invalid d
        match r with
        | .done d2 s3 =>
          let d3 := d2.close type d.len (s.length - s3.length) (3 + s2.length % 8)
          if final = 1 then .done d3 s3 else inflateBlocks k fuel d3 s3
        | x => x

/-- Decodes a raw DEFLATE stream: its last byte is padded with zeros, and no byte follows (R181). -/
def inflate (b : Bytes) : Inflated :=
  let s := streamBits b
  match inflateBlocks (s.length + 1) (s.length + 1) {} s with
  | .done d rest => if rest.length < 8 ∧ rest.all (fun x => !x) = true then .done d rest else .invalid d
  | r => r

/-- The bytes a stream decodes to. -/
def inflated (b : Bytes) : Option Bytes :=
  match inflate b with
  | .done d _ => some d.rev.reverse
  | _ => none

/-- The ceiling of the decode cost of R raw bytes (R183). -/
def costCeiling (r : Nat) : Nat := r + 32 + 343 * divCeil r 65535

/-- The bytes of one stored DEFLATE block. -/
def storedBlock (final : Bool) (b : Bytes) : Bytes :=
  BitVec.ofNat 8 (b2n final) :: (leBytes 2 b.length ++ leBytes 2 (65535 - b.length) ++ b)

/-- The stored form of a byte string: blocks of at most 65,535 bytes, BFINAL in the last where it is asked for. -/
def storedForm (final : Bool) : Nat → Bytes → Bytes
  | 0, _ => []
  | k + 1, b =>
    if b.length ≤ 65535 then storedBlock final b
    else storedBlock false (b.take 65535) ++ storedForm final k (b.drop 65535)

/-- A DEFLATE block is no longer in bits than the same bytes stored, nor than its symbols in the fixed codes (R194). -/
def Shape.shortest (x : Shape) : Bool := decide (x.bits ≤ x.stored) && (x.type == 0 || decide (x.bits ≤ x.fixed))

/-- The raw bytes of each DEFLATE block of n input bytes, cut at every 65,535 and at the end (R194). -/
def rawCuts : Nat → Nat → List Nat
  | 0, _ => []
  | k + 1, n => if n = 0 then [] else if n ≤ 65535 then [n] else 65535 :: rawCuts k (n - 65535)

/-- The DEFLATE blocks of a stream, oldest first. -/
def shapesOf (b : Bytes) : List Shape :=
  match inflate b with
  | .done d _ => d.shapes.reverse
  | _ => []

/-- A stream that an encode lane may make of an input (R194, R196, R197): it decodes to the input, keeps to the bound, and each of
its DEFLATE blocks holds what its cut asks for, in the shortest form. -/
def encodes (z b : Bytes) (bound : Nat) : Bool :=
  inflated z == some b && decide (z.length ≤ bound) &&
    ((shapesOf z).map Shape.raw == rawCuts (b.length + 1) b.length && (shapesOf z).all Shape.shortest)

/-- An encoder's stream for a byte string: stored blocks at level 0 or with FORCE_STORED. At the other levels the manual
fixes neither the matches found nor the codes, so the bytes are free (log entry 13), within what it does promise. -/
def encodeStream (level : Nat) (stored : Bool) (b : Bytes) : Bytes :=
  let plain := storedForm true (b.length + 1) b
  if stored || level == 0 then plain
  else
    let z := Config.compressed b level
    if encodes z b plain.length then z else plain

end Sys2Proof.Machine
end

