-- ==== Sys2Proof/Machine/Rings.lean ====
section
/-! DEFINITION. The 64 rings: pointers, announcement, taking an entry, answering one (R250 to R257, R262, R263). -/

namespace Sys2Proof.Machine

/-- Timers of the host link: MSI-X holdoff and drain holdoff, by ring. -/
def tmMsix (r : Nat) : Nat := timer 1 r
def tmDrain (r : Nat) : Nat := timer 2 r

/-- The rings the module produces (R254). -/
def moduleToHost (r : Nat) : Bool :=
  (decide (36 ≤ r) && decide (r ≤ 43)) || (decide (48 ≤ r) && decide (r ≤ 55)) || r == 58 || r == 59 || r == 61 || r == 63

/-- The rings whose completions are written into the entry itself (R254). -/
def inPlaceRing (r : Nat) : Bool := decide (r ≤ 27)

/-- The ring is present on the variant: rings 24 to 27 serve stations 5 and 6 (R2). -/
def State.ringPresent (s : State) (r : Nat) : Bool := decide (r < 64) && (s.s6 || !(decide (24 ≤ r) && decide (r ≤ 27)))

/-- Entries a ring holds for its consumer (R252). -/
def Ring.used (g : Ring) : Nat := (g.tail + 2 ^ 32 - g.head) % 2 ^ 32

/-- The ring size in entries. -/
def Ring.size (g : Ring) : Nat := 2 ^ g.log2

/-- The ring takes another entry of the module. -/
def Ring.room (g : Ring) : Bool := decide (g.state = 1) && decide (g.used < g.size)

/-- The host link is up, its domain on and the function in D0: the host reaches the module, and the module host memory (R246, R258). -/
def State.linkUp (s : State) : Bool := s.on 7 && s.flag (K 0x3830 1) && !s.pcie.d3hot

/-- The module writes to host memory and sends messages: Bus Master Enable is set (R256). -/
def State.masters (s : State) : Bool := s.pcie.busMaster && !s.pcie.d3hot

/-- A module-to-host ring takes another entry now. -/
def State.ringRoom (s : State) (r : Nat) : Bool := s.masters && (s.ring r).room

/-- A failed access to host memory that a command reports without saying how: an error response (R266, log entry 191). -/
def State.hostFault (s : State) (address : Nat) : State := s.fault 0x7B 0x5 address

/-- EV101 (R265). -/
def State.ringEvent (s : State) (sub r value : Nat) : State := s.event 101 (sub + r * 2 ^ 8 + value % 2 ^ 32 * 2 ^ 32)

/-- Timers of a module reset and of a power cycle that are to act: 0 asked for through the dictionary, 1 on ring 62 (R480, R488). -/
def tmReset (via : Nat) : Nat := timer 33 via
def tmCycle (via : Nat) : Nat := timer 34 via

/-- What an answer on ring 63 starts: bit 0 a module reset, bit 1 a power cycle (R480). -/
def actOf (e : List Nat) : Nat :=
  if field (wordAt e 0) 63 56 ≠ 0 then 0
  else if field (wordAt e 0) 47 40 = 3 then 1
  else if field (wordAt e 0) 47 40 = 4 then 2
  else 0

/-- A timer that does not run is set 1.0 ms ahead. -/
def State.oneMs (s : State) (t : Nat) : State := if s.armed t then s else s.after t 1000000

/-- What the answers m start acts 1.0 ms from now. -/
def State.startActs (s : State) (m : Nat) : State :=
  (s.when (bitOf m 0) (fun t => t.oneMs (tmReset 1))).when (bitOf m 1) (fun t => t.oneMs (tmCycle 1))

/-- The message of ring 63 has been sent: what its answers start is now timed (R480). -/
def State.answersSent (s : State) : State :=
  { s with trust := { s.trust with awaiting := 0 } }.startActs s.trust.awaiting

/-- An answer is written on ring 63: under a masked vector it is timed from now, else from its message (R480). -/
def State.noteAnswer (s : State) (e : List Nat) (masked : Bool) : State :=
  let s1 := if actOf e = 2 then { s with trust := { s.trust with cycleId := field (wordAt e 0) 15 0 } } else s
  if masked then s1.startActs (actOf e) else { s1 with trust := { s1.trust with awaiting := s1.trust.awaiting ||| actOf e } }

/-- The ring's MSI-X message is sent, or left pending under a masked vector (R256). One message covers every advance up
to its sending; the entries it announces are those not announced before (R262). -/
def State.sendMessage (s : State) (r : Nat) : State :=
  let g := s.ring r
  let told := g.told ++ List.replicate (g.entries.length - g.told.length) s.stamp
  let s1 := (s.setRing r (if g.masked then { g with msixPending := true, unsignalled := false, told := told }
    else { g with messages := g.messages + 1, unsignalled := false, told := told })).disarm (tmMsix r)
  if r = 63 ∧ g.masked = false then s1.answersSent else s1

/-- The module's pointer of a ring has advanced: the SHADOW copy, then the message, at once or after HOLDOFF (R256). Under a masked
vector the entry counts as announced by the SHADOW copy (R262). While the module may not write, both wait. -/
def State.announce (s : State) (r : Nat) : State :=
  let g := s.ring r
  let ptr := if moduleToHost r then g.tail else g.head
  let told := if g.masked then g.told ++ List.replicate (g.entries.length - g.told.length) s.stamp else g.told
  if s.masters then
    let s1 := s.setRing r { g with shadowed := if g.shadow = 0 then g.shadowed else ptr, unsignalled := true, told := told }
    if g.holdoff = 0 then s1.sendMessage r
    else if s.armed (tmMsix r) then s1
    else s1.after (tmMsix r) (g.holdoff * 1000)
  else s.setRing r { g with unsignalled := true }

/-- An entry is written into a module-to-host ring that has room. -/
def State.writeEntry (s : State) (r : Nat) (e : List Nat) : State :=
  let g := s.ring r
  let s1 := if r = 63 then s.noteAnswer e g.masked else s
  (s1.setRing r { g with tail := (g.tail + 1) % 2 ^ 32, entries := g.entries ++ [e] }).announce r

/-- The hold buffers of rings 58 and 59 hold 512 entries: when they overflow, the oldest is discarded and counted
(R263). -/
def State.hold (s : State) (r : Nat) (e : List Nat) : State :=
  let g := s.ring r
  if g.waiting.length < 512 ∨ (r ≠ 58 ∧ r ≠ 59) then s.setRing r { g with waiting := g.waiting ++ [e] }
  else
    let s1 := (s.setRing r { g with waiting := g.waiting.drop 1 ++ [e] }).bump (K 0x3830 8)
    s1.ringEvent 7 r (s1.n (K 0x3830 8))

/-- The module produces an entry: written where the ring has room and nothing waits ahead of it, held otherwise. -/
def State.produce (s : State) (r : Nat) (e : List Nat) : State :=
  if s.ringRoom r && (s.ring r).waiting.isEmpty then s.writeEntry r e else s.hold r e

/-- Waiting entries go into the ring while it has room, oldest first. -/
def State.flushWaiting : Nat → State → Nat → State
  | 0, s, _ => s
  | k + 1, s, r =>
    match (s.ring r).waiting with
    | [] => s
    | e :: rest =>
      if s.ringRoom r then State.flushWaiting k ((s.setRing r { s.ring r with waiting := rest }).writeEntry r e) r
      else s

/-- The ring's held entries follow as far as there is room. -/
def State.flush (s : State) (r : Nat) : State := State.flushWaiting (s.ring r).waiting.length s r

/-- The ring goes to ERROR (R251). -/
def State.ringError (s : State) (r : Nat) : State := s.setRing r { s.ring r with state := 3 }

/-- A ring takes no new entry after a failed read of one: ERROR, with the link fault and that of the ring (R251, R266). -/
def State.entryFails (s : State) (r slot : Nat) : State :=
  (((s.ringError r).fault 0x7A 0x5 r).hostFault ((s.ring r).base + 64 * (slot % (s.ring r).size))).ringEvent 8 r (s.ring r).head

/-- An entry is waiting on an ENABLED host-to-module ring. -/
def State.hasEntry (s : State) (r : Nat) : Bool := decide ((s.ring r).state = 1) && decide ((s.ring r).used ≠ 0)

/-- The next entry of a host-to-module ring has been copied: HEAD has advanced past it (R255). -/
def State.consumed (s : State) (r : Nat) : State :=
  (s.setRing r { s.ring r with head := ((s.ring r).head + 1) % 2 ^ 32, open_ := (s.ring r).open_ + 1 }).announce r

/-- The module copies the next entry of a host-to-module ring that is not in place: HEAD advances once it is copied
(R255). A failed read takes the ring to ERROR and raises source 0x7A (R251, R266). -/
def State.takeEntry (s : State) (r : Nat) (e : Entry) (k : State → List Nat → State) : State :=
  if s.hasEntry r && s.linkUp then
    match e with
    | none => s.entryFails r (s.ring r).head
    | some ws => k (s.consumed r) ws
  else s

/-- An entry taken from a ring that is not in place has finished. -/
def State.finishEntry (s : State) (r : Nat) : State := s.setRing r { s.ring r with open_ := (s.ring r).open_ - 1 }

/-- The number of the next entry of an in-place ring that has not been taken. -/
def Ring.nextTaken (g : Ring) : Nat := (g.head + g.open_) % 2 ^ 32

/-- The module reads the next untaken entry of an in-place ring, which stays in its slot: HEAD does not move. -/
def State.readInPlace (s : State) (r : Nat) (e : Entry) (k : State → Nat → List Nat → State) : State :=
  if decide ((s.ring r).state = 1) && decide ((s.ring r).open_ < (s.ring r).used) && s.linkUp then
    match e with
    | none => s.entryFails r (s.ring r).nextTaken
    | some ws =>
      let g := s.ring r
      k (s.setRing r { g with open_ := g.open_ + 1 }) g.nextTaken ws
  else s

/-- HEAD passes every entry at it whose completion has been written (R255). -/
def Ring.passDone : Nat → Ring → Ring
  | 0, g => g
  | k + 1, g =>
    match g.done.find? (fun d => d.1 == g.head) with
    | none => g
    | some d =>
      Ring.passDone k { g with head := (g.head + 1) % 2 ^ 32, open_ := g.open_ - 1,
                               done := g.done.filter (fun x => x.1 != d.1) }

/-- The completions of an in-place ring are written, and HEAD passes them in ring order (R255); while the module may not write, they
wait (R256). -/
def State.settleInPlace (s : State) (r : Nat) : State :=
  let g := s.ring r
  if s.masters then
    let g1 := { g with inPlace := g.done.foldl (fun t d => Tab.put (fun _ => (0, 0)) t (d.1 % g.size) d.2) g.inPlace }
    let g2 := Ring.passDone g1.done.length g1
    let s1 := s.setRing r g2
    if g2.head = g.head then s1 else s1.announce r
  else s

/-- An in-place entry is completed: words 6 and 7 are written into its slot, and HEAD advances in ring order (R255). -/
def State.completeInPlace (s : State) (r entry w6 w7 : Nat) : State :=
  (s.setRing r { s.ring r with done := (s.ring r).done ++ [(entry, w6, w7)] }).settleInPlace r

/-- The descriptor of a ring (R250), as eight words. ENABLE stands in ENABLED and, until the host writes it 0, in ERROR (R251). -/
def Ring.descriptor (g : Ring) (r : Nat) : List Nat :=
  [g.base, g.shadow,
   b2n (g.state == 1 || g.state == 3) * 2 ^ 63 + g.state * 2 ^ 61 + b2n (moduleToHost r) * 2 ^ 60 + b2n (inPlaceRing r) * 2 ^ 59 +
     r * 2 ^ 48 + g.holdoff * 2 ^ 32 + g.log2,
   g.head * 2 ^ 32 + g.tail, 0, 0, 0, 0]

end Sys2Proof.Machine
end

