-- ==== Sys2Proof/Machine/Recorder.lean ====
section
/-! DEFINITION. The Event Recorder: the order in which records enter the trace, what happens when it is full, and the
draining to rings 52 to 55 (R52 to R57). -/

namespace Sys2Proof.Machine

/-- The ring an event source is drained to (R57). -/
def eventRing (ev : Nat) : Nat :=
  if 12 ≤ ev ∧ ev ≤ 19 then 52
  else if 36 ≤ ev ∧ ev ≤ 47 then 54
  else if 48 ≤ ev ∧ ev ≤ 95 then 53
  else if 108 ≤ ev then 54
  else 55

/-- The ring a record is drained to: fault records to ring 52, the epoch marker to ring 55 (R54, R56). -/
def Rec.ring (r : Rec) : Nat :=
  match r.type with
  | 1 => eventRing r.source
  | 2 => 52
  | 3 => 52
  | _ => 55

/-- Among records with one Stamp time, fault records come first in ascending source, then event records (R53). -/
def Rec.rank (r : Rec) : Nat := (if r.type = 1 then 256 else 0) + r.source

/-- Record a enters the trace before record b, both being held. -/
def Rec.before (a b : Rec) : Bool :=
  decide (a.stamp < b.stamp) || (decide (a.stamp = b.stamp) && decide (a.rank < b.rank))

/-- The held record that enters next, and the others in their order of arrival. -/
def nextHeld : List Rec → Option (Rec × List Rec)
  | [] => none
  | r :: l =>
    match nextHeld l with
    | none => some (r, [])
    | some (m, rest) => if m.before r then some (m, r :: rest) else some (r, l)

/-- The places of the trace. -/
def tracePlaces : Nat := 32768

/-- Space is freed from the oldest record forward, once it is drained (R56). -/
def freeDrained (l : List Placed) : List Placed := l.dropWhile (fun p => p.drained)

/-- Records in the trace not yet drained: `Records held`. -/
def State.recordsHeld (s : State) : Nat := (s.ev.trace.filter (fun p => !p.drained)).length

/-- One record is lost (R55). -/
def State.lose (s : State) : State :=
  { s with ev := { s.ev with lost := s.ev.lost + 1 } }.bump (K 0x2401 4)

/-- The oldest undrained record is discarded (R55, policy 0). -/
def State.discardOldest (s : State) : State :=
  { s with ev := { s.ev with trace := freeDrained (s.ev.trace.drop 1) } }.lose

/-- Places that the next record needs: its own, and one for a loss marker before it. -/
def State.placesNeeded (s : State) : Nat := if s.ev.lost = 0 then 1 else 2

/-- The trace cannot take the next record (R55). While a loss marker is due, one free place does not do: the model's choice (log entry
177). -/
def State.traceFull (s : State) : Bool := decide (tracePlaces < s.ev.trace.length + s.placesNeeded)

/-- A record is put into the next place, with its sequence number. -/
def State.place (s : State) (r : Rec) (ring : Nat) (loss same : Bool) : State :=
  { s with ev := { s.ev with
      trace := s.ev.trace ++ [{ record := r, lossBefore := loss, sameCycle := same, sequence := s.ev.sequence,
                                ring := ring, since := s.stamp }],
      sequence := (s.ev.sequence + 1) % 65536 } }

/-- Another record carries this Stamp time (R52): one that is held, or the one that reached the trace last. Records reach the
trace in nondecreasing order of Stamp time (R53), so no earlier one can carry it if that one does not. -/
def State.sharesStamp (s : State) (stamp : Nat) : Bool :=
  s.ev.held.any (fun r => r.stamp == stamp) || s.ev.newest == some stamp

/-- An uncorrectable error hits the newest record of the trace (R52): it is marked, and `Records damaged` counts it. -/
def State.damageNewest (s : State) : State :=
  { s with ev := { s.ev with trace := s.ev.trace.dropLast ++
      (s.ev.trace.getLast?.toList.map (fun (p : Placed) => { p with damaged := true })) } }.bump (K 0x2401 5)

/-- EV030: written once at three-quarters full, and again only after the trace has fallen below half full (R55). -/
def State.traceLevel (s : State) : State :=
  if s.ev.trace.length < 16384 then { s with ev := { s.ev with warned := false } }
  else if 24576 ≤ s.ev.trace.length ∧ s.ev.warned = false then
    { s with ev := { s.ev with warned := true } }.event 30 (s.recordsHeld % 65536)
  else s

/-- A record enters the trace, after the loss marker that its predecessors' loss calls for (R55). The loss marker takes
the record's Stamp time, so the two share it (log entry 11). -/
def State.enterTrace (s : State) (r : Rec) : State :=
  if s.ev.lost = 0 then s.place r r.ring false (s.sharesStamp r.stamp)
  else
    let m := { r with type := 4, source := 0, payload := s.ev.lost % 2 ^ 32 * 2 ^ 32, firmware := false, seqB := false }
    let s1 := ({ s with ev := { s.ev with lost := 0 } }.place m r.ring false true)
    s1.place r r.ring true true

/-- A record arrives at the trace, which acts on `Trace policy` when it is full (R55). Under policy 0 a second record is discarded where
the loss marker has no place: the model's choice (log entry 176). -/
def State.arrive (s : State) (r : Rec) : State :=
  if s.n (K 0x2401 1) = 0 then
    let s1 := if s.traceFull then s.discardOldest else s
    let s2 := if s1.traceFull then s1.discardOldest else s1
    (s2.enterTrace r).traceLevel
  else if s.traceFull then s.lose
  else (s.enterTrace r).traceLevel

/-- The four words of a record in a ring entry (R52). -/
def Placed.words (p : Placed) : List Nat :=
  let r := p.record
  [r.stamp, r.a1 % 2 ^ 48 * 2 ^ 16 + r.phase,
   r.cycle % 2 ^ 24 * 2 ^ 40 + b2n p.damaged * 2 ^ 39 + b2n p.lossBefore * 2 ^ 38 + b2n r.aligned * 2 ^ 37 +
     b2n r.mainsInvalid * 2 ^ 36 + b2n r.a1Invalid * 2 ^ 35 + b2n r.firmware * 2 ^ 34 + b2n r.seqB * 2 ^ 33 +
     b2n p.sameCycle * 2 ^ 32 + r.type * 2 ^ 24 + r.source * 2 ^ 16 + p.sequence,
   r.payload]

/-- The first k records of the trace that wait for a ring. -/
def waitingFor (ring : Nat) : Nat → List Placed → List Placed
  | 0, _ => []
  | _, [] => []
  | k + 1, p :: l => if p.drained = false ∧ p.ring = ring then p :: waitingFor ring k l else waitingFor ring (k + 1) l

/-- The trace with its first k records waiting for a ring marked as drained. -/
def markDrained (ring : Nat) : Nat → List Placed → List Placed
  | 0, l => l
  | _, [] => []
  | k + 1, p :: l =>
    if p.drained = false ∧ p.ring = ring then { p with drained := true } :: markDrained ring k l
    else p :: markDrained ring (k + 1) l

/-- One ring entry of k records, 1 or 2, the second slot padded with zeros (R56). -/
def State.drainEntry (s : State) (ring k : Nat) : State :=
  let ps := waitingFor ring k s.ev.trace
  let words := (ps.flatMap Placed.words ++ List.replicate 8 0).take 8
  let s1 := { s with ev := { s.ev with trace := freeDrained (markDrained ring k s.ev.trace) } }
  s1.writeEntry ring words

/-- Entries are written while two records wait and the ring has room (R56). -/
def State.drainPairs : Nat → State → Nat → State
  | 0, s, _ => s
  | k + 1, s, ring =>
    if (waitingFor ring 2 s.ev.trace).length = 2 ∧ s.ringRoom ring = true then
      State.drainPairs k (s.drainEntry ring 2) ring
    else s

/-- The drain holdoff runs from the entry of the oldest record that waits for the ring (R56). -/
def State.drainTimer (s : State) (ring : Nat) : State :=
  match waitingFor ring 1 s.ev.trace with
  | [] => s.disarm (tmDrain ring)
  | p :: _ => s.arm (tmDrain ring) (p.since + s.n (K 0x2401 2) * 1000)

/-- The module drains what it can to an event-stream ring. -/
def State.drainRing (s : State) (ring : Nat) : State :=
  ((State.drainPairs s.ev.trace.length s ring).drainTimer ring).traceLevel

/-- TRACE_ENTRY (R53): the next held record enters the trace 64 ns after its Stamp time, at most four in a grid step,
and its ring is drained. Whether an uncorrectable error hits it in its place is a free value (R52; log entry 165). -/
def execTraceEntry (s : State) : Host.Outcome State Fault Refusal :=
  match nextHeld s.ev.held with
  | none => .next s
  | some (r, rest) =>
    let n := if s.ev.step = s.stamp then s.ev.entered else 0
    if r.stamp + 64 ≤ s.stamp ∧ n < 4 then
      let s1 := { s with ev := { s.ev with held := rest, step := s.stamp, entered := n + 1 } }
      let s2 := s1.arrive r
      let s3 := if s2.ev.sequence ≠ s1.ev.sequence ∧ Config.recordDamaged s2.ev.sequence s.stamp = true then s2.damageNewest else s2
      .next ({ s3 with ev := { s3.ev with newest := some r.stamp } }.drainRing r.ring)
    else .next s

/-- DRAIN_HOLDOFF_EXPIRED (R56): one record has waited for `Drain holdoff`, and it is written with a padding record. -/
def execDrainHoldoffExpired (ring : Nat) (s : State) : Host.Outcome State Fault Refusal :=
  if s.due (tmDrain ring) && s.ringRoom ring && !(waitingFor ring 1 s.ev.trace).isEmpty then
    .next (((s.drainEntry ring 1).disarm (tmDrain ring)).drainRing ring)
  else .next s

end Sys2Proof.Machine
end

