-- ==== Sys2Proof/Machine/Position.lean ====
section
/-! DEFINITION. Encoders and axes, captures, the mains time base, the alignment of the Stamp Clock, and one grid step of
time (R25 to R37, R45 to R51, R517, R518). -/

namespace Sys2Proof.Machine

def tmStandstill (n : Nat) : Nat := timer 3 n
def tmSync : Nat := timer 4 0

/-! ## Axes -/

/-- The loop state of an encoder (R27). -/
def State.loopState (s : State) (n : Nat) : Nat := s.n (K (0x3000 + n) 7)

/-- The feeding source of an axis (R29). -/
def State.axisSource (s : State) (a : Nat) : Nat := s.n (K (0x300F + a) 1)

/-- What an axis reads now is noted before it changes; nothing older than the longest capture filter is kept (R32). -/
def State.noteAxis (s : State) (a : Nat) : State :=
  { s with pos := { s.pos with past := (s.stamp, a, s.axisPos a) :: s.pos.past.takeWhile (fun x => decide (s.stamp ≤ x.1 + 255000)) } }

/-- What an axis read at a Stamp time of the last 255 µs (R32): what it read before its first change after that time. -/
def State.axisAt (s : State) (a t : Nat) : Nat :=
  match (s.pos.past.filter (fun x => x.2.1 == a && decide (t < x.1))).getLast? with
  | some x => x.2.2
  | none => s.axisPos a

/-- An axis moves by a signed distance in 1/65,536 subline. Passing 2^48 sublines in either direction counts a wrap and
writes EV038 (R31). -/
def State.moveAxis (s : State) (a : Nat) (d : Int) : State :=
  let x : Int := (Tab.get (fun _ => 0) s.pos.axes a : Nat) + d
  let s0 := s.noteAxis a
  let s1 := { s0 with pos := { s0.pos with axes := Tab.put (fun _ => 0) s0.pos.axes a (unsigned 64 x) } }
  if 0 ≤ x ∧ x < 2 ^ 64 then s1
  else (s1.bump16 (K (0x300F + a) 6)).eventHw 38 (a + (if x < 0 then 256 else 0))

/-- An axis takes a value: EV039 with the value it had (R30). -/
def State.presetPosition (s : State) (a v : Nat) : State :=
  let s0 := s.noteAxis a
  { s0 with pos := { s0.pos with axes := Tab.put (fun _ => 0) s0.pos.axes a (v % 2 ^ 48 * 65536) } }.event 39 (a + s.axisPos a * 65536)

/-- Every axis fed by a source moves with it (R29). -/
def State.feed (s : State) (source : Nat) (d : Int) : State :=
  s.each (upFrom 1 8) (fun t a => if t.axisSource a = source then t.moveAxis a d else t)

/-- A speed in 1/65,536 subline per 4 ns as the µm/s of `Axis velocity` (R31). -/
def axisVelocity (speed : Int) : Int :=
  clampInt (-(2 ^ 31)) (2 ^ 31 - 1) (Int.tdiv (speed * 25400 * 250000000) (614400 * 65536))

/-- The speed of every axis fed by an encoder (R31). -/
def State.setVelocity (s : State) (n : Nat) (speed : Int) : State :=
  s.each (upFrom 1 8) (fun t a => if t.axisSource a = n then t.seti (K (0x300F + a) 4) (axisVelocity speed) else t)

/-- A1 keeps its last valid value for the records from here on (R52). -/
def State.holdA1 (s : State) : State := { s with pos := { s.pos with a1Held := s.a1 } }

/-- A tracking loop changes state: EV036 for E1, EV037 for E2 to E8 (R27, R58). -/
def State.setLoop (s : State) (n new : Nat) : State :=
  let old := s.loopState n
  if old = new then s
  else
    let s1 := if n = 1 then s.holdA1 else s
    let s2 := s1.setn (K (0x3000 + n) 7) new
    if n = 1 then s2.eventHw 36 (new + old * 256) else s2.eventHw 37 (new + old * 256 + n * 65536)

/-- The fault source of an encoder (R59). -/
def encSource (n : Nat) : Nat := if n = 1 then 0x70 else 0x71

/-- The interpolated part of a position is given up: it reads the value of the last edge (R27). -/
def State.dropAhead (s : State) (n : Nat) : State :=
  let e := s.enc n
  (s.setEnc n { e with ahead := 0 }).feed n (-(e.ahead : Int))

/-- The loop loses its edges or its signal: it enters FAULT, where the position is edge count × scale (R27). -/
def State.loopFault (s : State) (n : Nat) : State :=
  let s1 := s.setLoop n 4
  ((s1.dropAhead n).setEnc n { (s1.dropAhead n).enc n with speed := 0, good := 0 }).setVelocity n 0

/-- A decoded edge moves the position by `Sublines per edge`, takes up the interpolation, and starts the standstill time
again (R26, R27). -/
def State.countEdge (s : State) (n : Nat) (up : Bool) : State :=
  let scale : Int := s.n (K (0x3000 + n) 2)
  let e := s.enc n
  let m := (Config.trackedSpeed n s.drawn).natAbs
  let speed : Int := if up then m else -(m : Int)
  let s1 := (s.setEnc n { e with ahead := 0, speed := speed }).draw
  let s2 := s1.feed n ((if up then scale else -scale) - e.ahead)
  let s3 := s2.setn (K (0x3000 + n) 8) (if up then (s.n (K (0x3000 + n) 8) + 1) % 2 ^ 32
    else (s.n (K (0x3000 + n) 8) + 2 ^ 32 - 1) % 2 ^ 32)
  (s3.setVelocity n speed).after (tmStandstill n) (s.n (K (0x3000 + n) 6) * 1000)

/-- What an edge does to the loop's state (R27). An edge whose phase error is not below half an edge starts the run of 256 again. -/
def State.loopEdge (s : State) (n : Nat) (err : PhaseError) : State :=
  match s.loopState n with
  | 1 =>
    let good := if err = .small then (s.enc n).good + 1 else 0
    let s1 := s.setEnc n { s.enc n with good := good }
    if 256 ≤ good then s1.setLoop n 2 else s1
  | 2 => if err = .large then ((s.fault (encSource n) 0x8 n).loopFault n) else s
  | 3 => (s.setEnc n { s.enc n with good := 0 }).setLoop n 1
  | _ => s

/-- The encoder is decoded: it exists, its domain is on, and it is enabled (R25). -/
def State.encoderRuns (s : State) (n : Nat) : Bool :=
  decide (1 ≤ n) && decide (n ≤ 8) && s.on 16 && s.flag (K (0x3000 + n) 1)

/-- ENCODER_EDGE (R25, R26, R27). An illegal transition in ACQUIRING starts the run of 256 consecutive edges again: the model's choice
(log entry 168). -/
def execEncoderEdge (n : Nat) (edge : Edge) (err : PhaseError) (s : State) : Host.Outcome State Fault Refusal :=
  if s.encoderRuns n then
    match edge with
    | .illegal =>
      let s1 := (s.fault (encSource n) 0x8 n).setEnc n { s.enc n with good := 0 }
      .next (if s.loopState n = 2 then s1.loopFault n else s1)
    | .forward => .next ((s.countEdge n (decide (s.n (K (0x3000 + n) 3) = 0))).loopEdge n err)
    | .backward => .next ((s.countEdge n (decide (s.n (K (0x3000 + n) 3) ≠ 0))).loopEdge n err)
  else .next s

/-- ENCODER_STANDSTILL_TIMEOUT (R27): no edge for `Standstill time` in ACQUIRING or LOCKED. -/
def execEncoderStandstillTimeout (n : Nat) (s : State) : Host.Outcome State Fault Refusal :=
  if s.encoderRuns n && s.due (tmStandstill n) && (s.loopState n == 1 || s.loopState n == 2) then
    let s1 := ((s.setLoop n 3).dropAhead n).disarm (tmStandstill n)
    .next ((s1.setEnc n { s1.enc n with speed := 0, good := 0 }).setVelocity n 0)
  else .next s

/-- ENCODER_SIGNAL_INVALID (R27, R503): from any state the loop enters FAULT. -/
def execEncoderSignalInvalid (n : Nat) (s : State) : Host.Outcome State Fault Refusal :=
  if decide (1 ≤ n) && decide (n ≤ 8) && s.on 16 then .next ((s.fault (encSource n) 0x7 n).loopFault n) else .next s

/-- What an accepted write of `Encoder enable` does (R27). -/
def State.encoderEnable (s : State) (n : Nat) (old new : Bool) : State :=
  if new && !old then
    (((s.setn (K (0x3000 + n) 8) 0).setEnc n {}).setLoop n 1).after (tmStandstill n) (s.n (K (0x3000 + n) 6) * 1000)
  else if new then s
  else
    let s1 := (s.setLoop n 0).disarm (tmStandstill n)
    (s1.setEnc n { s1.enc n with ahead := 0, speed := 0, good := 0 }).setVelocity n 0

/-! ## Slots on coordinates -/

/-- The configuration word of a capture channel (R33). -/
def State.captureWord (s : State) (ch : Nat) : Nat := s.n (K 0x3030 (ch + 1))

/-- The axis a capture channel stores, 1 to 8. -/
def State.captureAxis (s : State) (ch : Nat) : Nat := field (s.captureWord ch) 23 20 + 1

/-- The mains time base is LOCKED or in HOLDOVER: slots on it can fall due (R37). -/
def State.mainsRuns (s : State) : Bool := s.n (K 0x3020 1) == 1 || s.n (K 0x3020 1) == 2

/-- A slot's target has been reached (R11, R39). A mains slot waits for its phase in its own cycle; once the cycle count has passed
that cycle it is due whatever the phase: the model's choice (log entry 169). -/
def State.slotReached (s : State) (x : Slot) : Bool :=
  match x.base with
  | 0 => decide (x.aim ≤ s.stamp)
  | 1 => reached 48 (s.axisPos (x.axis + 1)) x.aim
  | 2 =>
    let c := x.aim / 65536 % 2 ^ 24
    s.mainsRuns && reached 24 s.pos.mains.cycle c &&
      (decide (s.pos.mains.cycle ≠ c) || decide (x.aim % 65536 ≤ s.mainsPhase))
  | 3 => reached 48 (s.axisPos (x.axis + 1)) x.aim
  | _ => decide (x.aim ≤ s.stamp)

/-- Some slot that satisfies the condition is ARMED or PENDING. -/
def State.anySlot (s : State) (p : Slot → Bool) : Bool := s.pos.slots.any (fun x => decide (x.2.state ≠ 0) && p x.2)

/-- An axis is idle: no slot is ARMED or PENDING on it (R30). -/
def State.axisIdle (s : State) (a : Nat) : Bool :=
  !s.anySlot (fun x => (x.base == 1 && x.axis + 1 == a) ||
    (x.base == 3 && (if x.state = 2 then s.captureAxis x.channel else x.axis + 1) == a))

/-- No slot is ARMED or PENDING on the mains base (R38). -/
def State.mainsIdle (s : State) : Bool := !s.anySlot (fun x => x.base == 2)

/-- A slot is PENDING on a capture channel. -/
def State.capturePending (s : State) (ch : Nat) : Bool :=
  s.anySlot (fun x => x.state == 2 && (x.base == 3 || x.base == 4) && x.channel == ch)

/-- A slot PENDING on a channel that has captured is resolved: ARMED with its target fixed, LATE if it is already due
(R40, R517). -/
def State.resolveSlot (s : State) (ch position time : Nat) (x : Slot) : Slot :=
  if x.state = 2 ∧ x.channel = ch then
    if x.base = 3 then
      let y := { x with state := 1, aim := (position + x.aim) % 2 ^ 48, axis := s.captureAxis ch - 1 }
      { y with late := s.slotReached y }
    else if x.base = 4 then
      let y := { x with state := 1, aim := (time + x.aim) % 2 ^ 64 }
      { y with late := s.slotReached y }
    else x
  else x

/-- The Stamp time of the edge a channel captures: the time the filter was satisfied, to 1 ns, less the filter time (R32, R47). -/
def State.edgeTime (s : State) (ch ns : Nat) : Nat := s.stamp + ns % 4 - field (s.captureWord ch) 15 8 * 1000

/-- The value the channel's axis had at that time (R32). -/
def State.edgePosition (s : State) (ch ns : Nat) : Nat := s.axisAt (s.captureAxis ch) (s.edgeTime ch ns) % 2 ^ 48

/-- CAPTURE (R32): the chosen edge has held for the filter time. `ns`: how far into the grid step the filter was satisfied. -/
def execCapture (ch : Nat) (rising : Bool) (ns : Nat) (s : State) : Host.Outcome State Fault Refusal :=
  let w := s.captureWord ch
  if decide (ch < 16) && s.on 16 && bitOf w 31 && bitOf w (if rising then 29 else 30) then
    let time := s.edgeTime ch ns
    let position := s.edgePosition ch ns
    let s1 := ((s.setn (K 0x3030 (0x11 + ch)) position).setn (K 0x3030 (0x21 + ch)) time)
    let s2 := s1.eventHw 40 (ch + position * 65536)
    let slots := s2.pos.slots.map (fun x => (x.1, s2.resolveSlot ch position time x.2))
    .next { s2 with pos := { s2.pos with slots := slots, inputs := putBit s2.pos.inputs (field w 5 0) rising } }
  else .next s

/-! ## The mains time base -/

/-- The mains state changes: EV043 (R36, R58). -/
def State.setMains (s : State) (new : Nat) : State :=
  let old := s.n (K 0x3020 1)
  if old = new then s
  else (s.setn (K 0x3020 1) new).eventHw 43 (new + old * 256 + s.n (K 0x3020 4) % 2 ^ 32 * 2 ^ 32)

/-- The phase that the detector's crossing has: `Phase offset`, half a cycle on for a negative-going one (R35). -/
def State.crossingPhase (s : State) (positive : Bool) : Nat :=
  unsigned 16 (s.i (K 0x3020 5) + (if positive then 0 else 32768))

/-- The phase takes a value; the cycle count increments when the phase passes 0 on its way forward (R35). -/
def State.alignPhase (s : State) (phase : Nat) : State :=
  let m := s.pos.mains
  let d := signed 16 (phase + 65536 - s.mainsPhase)
  let cycle := if 65536 ≤ (s.mainsPhase : Int) + d then (m.cycle + 1) % 2 ^ 24 else m.cycle
  { s with pos := { s.pos with mains := { m with acc := divCeil (phase * 10 ^ 12) 65536, cycle := cycle } } }

/-- A frequency in mHz from a period in ns. -/
def milliHertz (period : Nat) : Nat := if period = 0 then 0 else (10 ^ 12 + period / 2) / period

/-- The frequency of a period lies from 47 Hz to 63 Hz (R36). -/
def inBand (period : Nat) : Bool := decide (47000 * period ≤ 10 ^ 12) && decide (10 ^ 12 ≤ 63000 * period)

/-- Two periods lie within 2 % of each other. -/
def within2 (a b : Nat) : Bool := decide (98 * max a b ≤ 100 * min a b)

/-- The periods of the last consecutive crossings in the band, at most four, with one more (R36). -/
def extendRun (period : Nat) (run : List Nat) : List Nat := if inBand period then (period :: run).take 4 else []

/-- Four consecutive crossings meet the test of ACQUIRING (R36): four periods in the band, within 2 % of one another. That four
crossings are four measured periods, so that a first crossing without a period before it does not count, is the model's
choice (log entry 166). -/
def steadyRun (run : List Nat) : Bool := decide (run.length = 4) && run.all (fun a => run.all (within2 a))

/-- The mains slots that are due when the time base enters LOCKED fire with LATE set (R37). -/
def State.lateMains (s : State) : State :=
  { s with pos := { s.pos with slots := s.pos.slots.map (fun x =>
      (x.1, if x.2.state = 1 ∧ x.2.base = 2 ∧ s.slotReached x.2 = true then { x.2 with late := true } else x.2)) } }

/-- A positive-going crossing in each state of the time base (R36, R37, R518). -/
def State.positiveCrossing (s : State) : State :=
  let m := s.pos.mains
  let period := match m.last with
    | some t => s.stamp - t
    | none => 0
  let seen := m.last.isSome
  let run := if seen then extendRun period m.periods else []
  let s1 := { s with pos := { s.pos with mains := { m with last := some s.stamp, periods := run } } }
  let s2 := if seen then s1.setn (K 0x3020 4) (milliHertz period % 2 ^ 32) else s1
  match s.n (K 0x3020 1) with
  | 1 => s2.alignPhase (s.crossingPhase true)
  | 2 =>
    if seen && inBand period && decide ((signed 16 (s.mainsPhase + 65536 - s.crossingPhase true)).natAbs * 50 ≤ 65536) then
      (s2.alignPhase (s.crossingPhase true)).setMains 1
    else s1
  | _ =>
    if steadyRun run then
      let ph := s.crossingPhase true
      let s3 := { s2 with pos := { s2.pos with mains := { s2.pos.mains with acc := divCeil (ph * 10 ^ 12) 65536 } } }
      (s3.setMains 1).lateMains
    else s2

/-- A crossing of the mains (R35, R36). -/
def State.mainsCrossing (s : State) (positive : Bool) : State :=
  if positive then s.positiveCrossing
  else if s.n (K 0x3020 1) = 1 then s.alignPhase (s.crossingPhase false)
  else s

/-- (R36): 1.5 periods have passed without a positive-going crossing in LOCKED. -/
def State.crossingMissing (s : State) : State :=
  match s.pos.mains.last with
  | some t =>
    if s.n (K 0x3020 1) = 1 ∧ 3 * 10 ^ 12 ≤ 2 * (s.stamp - t) * s.n (K 0x3020 4) then
      let s1 := { s with pos := { s.pos with mains := { s.pos.mains with held := 0, periods := [] } } }
      (s1.setMains 2).fault 0x72 0x8 0
    else s
  | none => s

/-- (R36, R518): the cycle count has incremented `Holdover cycles` times. -/
def State.holdoverExpired (s : State) : State :=
  if s.n (K 0x3020 1) = 2 ∧ s.n (K 0x3020 6) ≤ s.pos.mains.held then
    let s1 := { s with pos := { s.pos with mains := { s.pos.mains with periods := [] } } }
    s1.setMains 3
  else s

/-! ## General outputs -/

/-- The bits of an output object within the 32 outputs. -/
def outMask : Nat := 2 ^ 32 - 1

/-- The outputs whose pin conducts now: enabled, chosen by their owner, not latched, PD16 on, and no Class D
(R44, R45, R404). -/
def State.outputPins (s : State) : Nat :=
  if s.on 16 && decide (s.n (K 0x2200 2) < 4) then
    let owner := s.n (K 0x3050 2)
    let chosen := (s.pos.slotOut &&& owner) ||| maskOff (s.n (K 0x3050 3)) owner
    maskOff (chosen &&& s.n (K 0x3050 1)) (s.n (K 0x3050 5))
  else 0

/-- OUTPUT_OVERCURRENT (R45): the outputs that carry too much switch off and latch; EV044 and source 0x74. -/
def execOutputOvercurrent (mask : Nat) (s : State) : Host.Outcome State Fault Refusal :=
  let hit := mask &&& s.outputPins
  if hit = 0 then .next s
  else .next (((s.setn (K 0x3050 5) (s.n (K 0x3050 5) ||| hit)).eventHw 44 hit).fault 0x74 0x9 hit)

/-! ## Alignment of the Stamp Clock -/

/-- Alignment changes state: EV028 (R49). -/
def State.setAlignment (s : State) (new : Nat) : State :=
  let old := s.n (K 0x2400 3)
  if old = new then s
  else (s.setn (K 0x2400 3) new).event 28 (new + old * 256 + unsigned 32 (s.i (K 0x2400 5)) * 2 ^ 32)

/-- The count of consecutive good sync cycles or pulses starts again. -/
def State.clearSync (s : State) : State := { s with ev := { s.ev with syncGood := 0 } }

/-- A measured alignment error: the state table of R49, and a rate correction within ±200 ppm (R48). -/
def State.alignmentError (s : State) (err : Int) : State :=
  let s1 := s.seti (K 0x2400 5) (clampInt (-(2 ^ 31)) (2 ^ 31 - 1) err)
  let s2 := (s1.seti (K 0x2400 6) (clampInt (-200000) 200000 (Config.rateCorrection err s.drawn))).draw
  let good := if err.natAbs ≤ 50 then s.ev.syncGood + 1 else 0
  let s3 := { s2 with ev := { s2.ev with syncGood := good } }
  match s.n (K 0x2400 3) with
  | 1 => if 16 ≤ good then s3.setAlignment 2 else s3
  | 2 => if 200 < err.natAbs then (s3.setAlignment 3).clearSync else s3
  | 3 => (s3.setAlignment 1).clearSync
  | _ => s3

/-- The expected interval of sync cycles or pulses, in ns. -/
def State.syncPeriod (s : State) : Nat :=
  if s.n (K 0x2400 2) = 1 then s.n (K 0x1C32 2) else s.n (K 0x2400 7)

/-- A sync cycle or pulse has arrived: three more are expected in time (R49). -/
def State.syncSeen (s : State) (t : Nat) : State :=
  { s with ev := { s.ev with syncLast := some t } }.arm tmSync (t + 3 * s.syncPeriod)

/-- STAMP_SYNC_EDGE (R49, R50): captured in every source; in source 2 its interval steers the rate. -/
def execStampSyncEdge (rising : Bool) (ns : Nat) (s : State) : Host.Outcome State Fault Refusal :=
  if decide (s.n (K 0x2400 9) = 0) == rising then
    let t := s.stamp + ns
    let s1 := s.setn (K 0x2400 8) t
    if s.n (K 0x2400 2) = 2 then
      match s.ev.syncLast with
      | none => .next (s1.syncSeen t)
      | some last =>
        let period := s.n (K 0x2400 7)
        let err : Int := ((t - last : Nat) : Int) - period
        let s2 := s1.syncSeen t
        let s3 := if period < err.natAbs * 100 then s2.event 29 ((t - last) % 2 ^ 32) else s2
        .next (s3.alignmentError err)
    else .next s1
  else .next s

/-- DC_SYNC_CYCLE (R48, R49): the error against the DC system time; `DC offset` is set again whenever it lies beyond
50 ns. -/
def execDcSyncCycle (time : Nat) (s : State) : Host.Outcome State Fault Refusal :=
  if s.n (K 0x2400 2) = 1 ∧ s.on 8 = true then
    let err := signed 64 (time + 2 ^ 65 - s.stamp - s.n (K 0x2400 4))
    let s1 := (s.syncSeen s.stamp).alignmentError err
    .next (if 50 < err.natAbs then s1.setn (K 0x2400 4) (unsigned 64 ((time : Int) - s.stamp)) else s1)
  else .next s

/-- ALIGNMENT_SYNC_LOST (R49): three expected cycles or pulses are missing in ALIGNED. -/
def execAlignmentSyncLost (s : State) : Host.Outcome State Fault Refusal :=
  if s.n (K 0x2400 3) = 2 ∧ s.due tmSync = true then
    .next (s.setAlignment 3).clearSync
  else .next s

/-- What an accepted write of `Alignment source` does (R48, R49). Source 0 is the crystal alone: no rate correction and no offset. A
write from 1 to 2 or from 2 to 1, for which R49 has no row, starts ACQUIRING anew: the model's choice (log entry 167). -/
def State.alignmentSource (s : State) (old new : Nat) : State :=
  let s1 := { s with ev := { s.ev with syncLast := none, syncGood := 0 } }.disarm tmSync
  if new = old then s
  else if new = 0 then ((s1.setn (K 0x2400 4) 0).setn (K 0x2400 6) 0).setAlignment 0
  else if new = 1 then s1.setAlignment 1
  else (s1.setn (K 0x2400 4) 0).setAlignment 1

/-! ## One grid step -/

/-- The interpolated position of a LOCKED encoder runs on at the measured speed, never past the value of the next edge
and never backward (R26). -/
def State.interpolate (s : State) (n : Nat) : State :=
  let e := s.enc n
  if s.loopState n = 2 ∧ 0 < e.speed then
    let scale := s.n (K (0x3000 + n) 2)
    let ahead := min (e.ahead + e.speed.toNat) (max e.ahead (scale - 1))
    (s.setEnc n { e with ahead := ahead }).feed n ((ahead : Int) - e.ahead)
  else s

/-- The mains phase runs on for 4 ns at the measured frequency, in LOCKED and HOLDOVER (R36, R518). -/
def State.runMains (s : State) : State :=
  if s.mainsRuns then
    let m := s.pos.mains
    let acc := m.acc + 4 * s.n (K 0x3020 4)
    let wraps := acc / 10 ^ 12
    let held := if s.n (K 0x3020 1) = 2 then m.held + wraps else m.held
    let cycle := (m.cycle + wraps) % 2 ^ 24
    { s with pos := { s.pos with mains := { m with acc := acc % 10 ^ 12, cycle := cycle, held := held } } }
  else s

/-- One step of the 4 ns grid passes (R12, R26, R36, R47); what a record of the step that ends would carry is kept for six steps. -/
def State.tick (s : State) : State :=
  let s1 := { s with stamp := s.stamp + 4, ev := { s.ev with samples := (s.record 2 0 0 false :: s.ev.samples).take 6 } }
  let s2 := if s1.on 16 then s1.each (upFrom 1 8) State.interpolate else s1
  s2.runMains

end Sys2Proof.Machine
end

