-- ==== Sys2Proof/Machine/Thermal.lean ====
section
/-! DEFINITION. Temperature states and bands, shared by the temperature channels and the VCSEL thermistors
(R126, R387, R391, R396). -/

namespace Sys2Proof.Machine

/-- The temperature state after a reading (R126): the thresholds below which each state is left, with hysteresis. -/
def temperatureState (old : Nat) (x w t sd h : Int) : Nat :=
  let up := if sd ≤ x then 3 else if t ≤ x then 2 else if w ≤ x then 1 else 0
  let down := if x < w - h then 0 else if x < t - h then 1 else if x < sd - h then 2 else 3
  if old ≤ up then up else min old down

/-- The temperature band after a reading in 0.1 °C (R391): boundaries 25, 40, 55, 65 and 75 °C, 2 °C lower on the way
down. -/
def temperatureBand (old : Nat) (x : Int) : Nat :=
  let up := if 750 ≤ x then 5 else if 650 ≤ x then 4 else if 550 ≤ x then 3 else if 400 ≤ x then 2 else if 250 ≤ x then 1 else 0
  let down := if x < 230 then 0 else if x < 380 then 1 else if x < 530 then 2 else if x < 630 then 3 else if x < 730 then 4 else 5
  if old ≤ up then up else min old down

/-- The domain an on-die channel lies in is ON; every other channel is always there (R387). -/
def State.channelPowered (s : State) (t : Nat) : Bool :=
  match t with
  | 25 => s.on 1 | 26 => s.on 2 | 27 => s.on 3 | 28 => s.on 4 || s.on 5
  | 29 => s.on 9 | 30 => s.on 10 | 31 => s.on 11 | 32 => s.on 6
  | _ => true

/-- An object of a temperature channel. -/
def tk (t sub : Nat) : Nat := K (0x210F + t) sub

/-- A channel that has a state and a band: enabled, or not an NTC channel (R387). -/
def State.channelOn (s : State) (t : Nat) : Bool := decide (1 ≤ t) && decide (t ≤ 36) && s.flag (tk t 1)

/-- The temperature in 0.1 °C of an NTC of a resistance at 25 °C and a B, in Ω and K, from its resistance: 25.0 °C at that of 25 °C;
the law between is left open (R125, R387, log entry 185). -/
def ntcReading (ohms r25 b : Nat) : Int := if ohms = r25 then 250 else Config.ntcTemperature ohms r25 b

/-- A sample of a channel in 0.1 °C: the resistance of an NTC in Ω by its `Thermistor R25` and `Thermistor B`, or the reading of an on-die
or board channel (R387). -/
def State.channelReading (s : State) (t : Nat) (sample : Int) : Int :=
  if t < 25 then ntcReading sample.toNat (s.n (tk t 0xB)) (s.n (tk t 0xC)) else sample

/-- The fault source of a channel (R396). -/
def channelSource (t : Nat) : Nat := if t < 25 then 0x14 else if t < 34 then 0x15 else 0x16

end Sys2Proof.Machine
end

