-- ==== Sys2Proof/Machine/Checkpoints.lean ====
section
/-! DEFINITION. The checkpoint writer: entries into the bank in use, a new base into the other bank when a delta does not fit,
and the copies in MRAM (R430 to R432). What an entry's body restores is the state of the model itself (log entry 22). -/

namespace Sys2Proof.Machine

/-- The active unit: 1 A, 2 B, 0 none. -/
def State.activeUnit (s : State) : Nat := s.n (K 0x2300 1)

/-- The body of an entry (log entry 22). -/
def Checkpoint.body (e : Checkpoint) : Bytes := (upFrom 0 e.length).map (Config.checkpointByte e.sequence)

/-- An entry as it stands in the Checkpoint SRAM (R432). -/
def Checkpoint.bytes (e : Checkpoint) : Bytes :=
  let first := leBytes 8 (0x7C41 * 2 ^ 48 + e.type % 256 * 2 ^ 40 + e.format % 256 * 2 ^ 32 + e.length % 2 ^ 32) ++ leBytes 8 e.stamp ++
    leBytes 8 (e.sequence % 2 ^ 32 * 2 ^ 32 + e.page % 65536 * 65536)
  let sum := leBytes 4 (crc32 e.body)
  first ++ leBytes 4 (crc32 (first ++ sum)) ++ sum ++ e.body

/-- The checkpoint archive takes entries of TYPE 3, 5 and 6, and a base at most once per `Archive base interval` (R460). -/
def State.archiveEntry (s : State) (e : Checkpoint) : State :=
  let g := s.stream 1
  let baseDue := match g.baseAt with
    | none => true
    | some t => decide (t + s.n (K 0x3700 5) * 1000000000 ≤ s.stamp)
  if s.flag (K 0x3700 4) && (e.type == 3 || e.type == 5 || e.type == 6 || (e.type == 1 && baseDue)) then
    s.setStream 1 { g with waiting := g.waiting ++ e.bytes, baseAt := if e.type = 1 then some s.stamp else g.baseAt }
  else s

/-- `Checkpoint sequence` and `Checkpoint time` show the newest valid entry (R441). -/
def State.newestEntry (s : State) (e : Checkpoint) : State := (s.setn (K 0x2300 7) e.sequence).setn (K 0x2300 8) e.stamp

/-- The page table as an entry holds it (R433). -/
def State.pageView (s : State) : List Page :=
  (s.pages.table.map (fun x => ({ x.2 with blocks := [], steps := [] } : Page))).filter (fun p => p.state != 9)

/-- One entry is appended to the bank in use; its header is complete in this grid step. -/
def State.appendEntry (s : State) (type page length : Nat) : State :=
  let q := (s.twin.sequence + 1) % 2 ^ 32
  let e : Checkpoint :=
    { type := type, format := (s.unit s.activeUnit).format, length := length, stamp := s.stamp, sequence := q, page := page,
      pages := s.pageView }
  let bad := s.injects 0x300
  let s1 := { s with twin := { s.twin with entries := s.twin.entries ++ [{ e with valid := !bad }], used := s.twin.used + 32 + length,
                                           sequence := q } }
  let s2 := s1.archiveEntry e
  if bad then s2.spendInjection (4 + divCeil length 8) else s2.newestEntry e

/-- A base is written into the other bank; the bank switch takes effect only where the base is valid, and the base is then copied to
MRAM: EV023 (R431). One that is not valid raises source 0x24, and another is written at once (R436). Each takes up at least 4 operations
of an injection, so that k + 1 of them are enough where k is the injections left. -/
def State.writeBase : Nat → State → State
  | 0, s => s
  | k + 1, s =>
    let length := min 524288 (Config.checkpointLength 1 s.drawn)
    let s1 := { s with twin := { s.twin with entries := [], used := 0, bank := 1 - s.twin.bank } }
    let s2 := (s1.draw).appendEntry 1 0 length
    if s2.twin.entries.all (fun e => e.valid) then
      ({ s2 with twin := { s2.twin with mramBase := s2.twin.entries.head? } }.mramWrite 2 length).event 23 (1 + s2.twin.sequence * 2 ^ 32)
    else
      State.writeBase k ({ s2 with twin := { s2.twin with entries := s.twin.entries, used := s.twin.used, bank := s.twin.bank } }.faultInjected
        0x24 0x3 0 true)

/-- A new base (R430, R431). -/
def State.newBase (s : State) : State := State.writeBase (s.n (K 0x2220 5) + 1) s

/-- A checkpoint entry of a type (R430): a base first where the bank in use holds none, or where the entry would cross its end or exceed
64 KiB (R431). -/
def State.checkpoint (s : State) (type page : Nat) : State :=
  let free := Config.checkpointLength type s.drawn
  let length := min 65536 free
  let s1 := s.draw
  let s2 := if s1.twin.entries.isEmpty || decide (1048576 < s1.twin.used + 32 + length ∨ 65536 < free) then s1.newBase else s1
  let s3 := s2.appendEntry type page length
  if type = 5 then { s3 with twin := { s3.twin with mramFinal := s3.twin.entries.getLast? } }.mramWrite 2 length else s3

/-- The writer finds that the newest entry is not valid: source 0x24, and a new base at once (R430, R436). -/
def State.mendEntry (s : State) : State :=
  match s.twin.entries.getLast? with
  | none => s
  | some e => if e.valid then s else (s.faultInjected 0x24 0x3 0 true).newBase

/-- The entry of an accepted dictionary write (R288, R430), with what it replaces. -/
def State.dictionaryEntry (s : State) (keys : List Nat) : State :=
  if s.on 3 then
    let before := keys.map (fun k => (k, s.val k))
    let s1 := (s.checkpoint 4 0).mendEntry
    { s1 with twin := { s1.twin with entries := s1.twin.entries.dropLast ++
        (s1.twin.entries.drop (s1.twin.entries.length - 1)).map (fun e => { e with before := before }) } }
  else s

end Sys2Proof.Machine
end

