-- ==== Sys2Proof/Machine/LoopSlots.lean ====
section
/-! DEFINITION. The Loop Engine's slots: owners, triggers, the set-point profile, notches, gain regions and the control
law (R346 to R358). What a drive channel's slot needs of the channel stands here too (R293, R304). -/

namespace Sys2Proof.Machine

/-! ## Values of a slot -/

/-- An object of a loop slot. -/
def lk (slot sub : Nat) : Nat := K (0x4800 + slot) sub

/-- An object of a drive channel: m is 0 for the channel, 1 for its motor, 2 for its sensing, 3 for its profiles. -/
def dk (c m sub : Nat) : Nat := K (0x4100 + 16 * c + m) sub

def State.real (s : State) (k : Nat) : Real32 := Real32.ofBits (s.n k)
def State.setReal (s : State) (k : Nat) (x : Real32) : State := s.setn k x.bits

/-- EV121 (R371). -/
def State.slotEvent (s : State) (slot sub value : Nat) : State := s.event 121 (sub + value * 256 + slot * 65536)

/-! ## Owners -/

/-- The drive channel is present (R2). -/
def State.driveThere (s : State) (c : Nat) : Bool := decide (c < 11) && (s.s6 || c != 2)

/-- The drive channel that owns a slot: the lowest that names it (R350). -/
def State.slotDrive (s : State) (slot : Nat) : Option Nat :=
  (upFrom 0 11).find? (fun c => s.driveThere c && s.n (dk c 0 9) == slot)

/-- `Output target` (R349, R350). -/
def State.target (s : State) (slot : Nat) : Nat :=
  match s.slotDrive slot with
  | some c => 0x100 + c
  | none =>
    let t := s.n (lk slot 3)
    if 0x200 ≤ t then t else 0

/-- The slot that drives a target. -/
def State.slotOf (s : State) (target : Nat) : Option Nat := (upFrom 0 64).find? (fun i => s.target i == target)

/-- The slot of a drive channel; none where a lower-numbered channel has it. -/
def State.driveSlot (s : State) (c : Nat) : Option Nat :=
  if s.slotDrive (s.n (dk c 0 9)) = some c then some (s.n (dk c 0 9)) else none

/-- `Process variable`: the owner's code on an owned slot. -/
def State.processCode (s : State) (slot : Nat) : Nat := if s.target slot = 0 then s.n (lk slot 4) else s.target slot

/-! ## The speeds of a drive channel -/

/-- `Observed speed`: from the interval of the last two zero crossings, or from the longer time since the last one, in
rpm. -/
def State.observed (s : State) (c : Nat) : Int :=
  let d := s.drive c
  match d.last with
  | none => 0
  | some t =>
    if d.interval = 0 then 0
    else
      let v : Int := divRound (60 * 10 ^ 9) (6 * s.n (dk c 1 1) * max d.interval (s.stamp - t))
      if d.backward then -v else v

/-- The commanded speed of a channel by its source, clamped (R304, R305). -/
def State.commanded (s : State) (c : Nat) : Int :=
  let x :=
    match s.n (dk c 0 2) with
    | 0 => s.i (dk c 0 3)
    | 1 => (s.real (lk (s.n (dk c 0 4)) 0xB)).toInt
    | 4 => (s.drive c).pin
    | _ => if bitOf s.drives.lost (s.n (dk c 0 5) - 1) then 0 else (s.drive c).pin
  if c < 3 then clampInt 0 30000 x else clampInt (-20000) 20000 x

/-- `Target facet rate` of polygon p, in mHz (R67). -/
def State.facetRate (s : State) (p : Nat) : Nat := (s.commanded (p - 1)).toNat * 8000 / 60

/-! ## Triggers -/

/-- The trigger source and parameter of a slot: those of a drive slot are set by its channel (R349). -/
def State.triggerSource (s : State) (slot : Nat) : Nat :=
  match s.slotDrive slot with
  | some c => if (s.drive c).byFacet then 2 else 0
  | none => s.n (lk slot 5)

def State.triggerParameter (s : State) (slot : Nat) : Nat :=
  match s.slotDrive slot with
  | some c => if (s.drive c).byFacet then c + 1 else 50000
  | none => s.n (lk slot 6)

/-- The half-cycle of the mains: two to a cycle. -/
def State.halfCycle (s : State) : Nat := 2 * s.pos.mains.cycle + s.mainsPhase / 32768

/-- Where the trigger source of a slot stands now: the whole multiple of its period, the axis position, the facets formed
on its polygon, or the half-cycle. -/
def State.triggerMark (s : State) (slot : Nat) : Nat :=
  let q := s.triggerParameter slot
  match s.triggerSource slot with
  | 0 => s.stamp / max q 1
  | 1 => s.axisPos (field q 31 29 + 1)
  | 2 => (s.polygon (q % 4)).formed
  | _ => s.halfCycle

/-- The trigger of a slot has fallen due since the last one (R346). -/
def State.triggerDue (s : State) (slot : Nat) : Bool :=
  let m := (s.loop slot).mark
  match s.triggerSource slot with
  | 1 => decide ((field (s.triggerParameter slot) 28 0 : Int) ≤ distance 48 (s.triggerMark slot) m)
  | 3 => s.mainsRuns && decide (s.triggerMark slot ≠ m)
  | _ => decide (s.triggerMark slot ≠ m)

/-- The mark a trigger leaves: on an axis, one interval further. -/
def State.nextMark (s : State) (slot : Nat) : Nat :=
  if s.triggerSource slot = 1 then ((s.loop slot).mark + field (s.triggerParameter slot) 28 0) % 2 ^ 48 else s.triggerMark slot

/-- The nominal trigger rate of a slot in Hz (R346). -/
def State.nominalRate (s : State) (slot : Nat) : Real32 :=
  match s.triggerSource slot with
  | 0 => Real32.ofRatio (10 ^ 9) (s.triggerParameter slot)
  | 1 =>
    let l := (s.loop slot).triggers
    match l, l.getLast? with
    | new :: _, some old => Real32.ofRatio ((l.length - 1) * 10 ^ 9 : Nat) (new - old)
    | _, _ => .fin 0 0
  | 2 => Real32.ofRatio (s.facetRate (s.triggerParameter slot % 4)) 1000
  | _ => Real32.ofRatio (2 * s.n (K 0x3020 4) : Nat) 1000

/-! ## States -/

/-- `Slot state` changes: EV120 (R351). -/
def State.setSlotState (s : State) (slot new cause : Nat) : State :=
  let old := s.n (lk slot 2)
  if old = new then s
  else (s.setn (lk slot 2) new).event 120 (new + old * 256 + slot * 65536 + cause * 2 ^ 24)

/-- A slot enters DISABLED: its output is inert, its evaluation leaves the queue (R350, R351). -/
def State.stopSlot (s : State) (slot cause : Nat) : State :=
  let s1 := (s.setSlotState slot 0 cause).setn (lk slot 0xB) 0
  let s2 := s1.setLoopSlot slot { s1.loop slot with queued := false, ramp := none, transfer := none, rate := 0, last := none }
  { s2 with loops := { s2.loops with queue := s2.loops.queue.filter (fun i => i != slot) } }

/-- A slot that leaves DISABLED takes its marks from now. -/
def State.markSlot (s : State) (slot : Nat) : State :=
  s.setLoopSlot slot { s.loop slot with mark := s.triggerMark slot, triggers := [], last := some s.stamp, held := 2, clamped := 0 }

/-- An owner starts its slot in AUTOMATIC with an initial output and set-point (R350, R355). -/
def State.startSlot (s : State) (slot : Nat) (u0 sp : Real32) (cause : Nat) : State :=
  let s1 := (((s.setSlotState slot 2 cause).setReal (lk slot 9) sp).setReal (lk slot 0xB) u0).markSlot slot
  s1.setLoopSlot slot { s1.loop slot with transfer := some u0.bits, rate := 0, ramp := none }

/-- The next evaluation transfers bumplessly from the present output (R355). -/
def State.bumpless (s : State) (slot : Nat) : State :=
  let x := s.loop slot
  s.setLoopSlot slot { x with transfer := some (x.transfer.getD (s.n (lk slot 0xB))) }

/-- A target from a source other than a host write is clamped to the set-point range (R356). -/
def State.setTarget (s : State) (slot : Nat) (x : Real32) : State :=
  s.setReal (lk slot 8) (Real32.clamp (s.real (lk slot 0xF)) (s.real (lk slot 0x10)) x)

/-! ## The process variable -/

/-- The process variable of a slot, in the owner's units; HV channels give the feedback code (R349). -/
def State.processNow (s : State) (slot feedback : Nat) : Real32 :=
  let code := s.processCode slot
  if code = 0 then .fin 0 0
  else if code < 0x200 then
    let c := code - 0x100
    if (s.drive c).byFacet then Real32.ofRatio (60 * 10 ^ 12) (8 * s.n (K (0x3101 + c) 9)) else Real32.ofInt (s.observed c)
  else if code < 0x300 then Real32.ofInt feedback
  else if code < 0x400 then Real32.ofRatio (s.i (K (0x4C00 + (code - 0x300)) 9)) 10
  else if code < 0x500 then Real32.ofRatio (s.i (tk (code - 0x400) 2)) 10
  else Real32.ofRatio (s.i (K (0x300F + (code - 0x500)) 4)) 1000

/-- The source of the process variable reports it valid: a temperature channel that is on and not broken, an axis whose
encoder is neither DISABLED nor in FAULT. -/
def State.processValid (s : State) (slot : Nat) : Bool :=
  let code := s.processCode slot
  if 0x401 ≤ code ∧ code ≤ 0x424 then s.channelOn (code - 0x400) && !s.flag (tk (code - 0x400) 5)
  else if 0x501 ≤ code ∧ code ≤ 0x508 then
    let e := s.axisSource (code - 0x500)
    if 1 ≤ e ∧ e ≤ 8 then s.on 16 && (s.loopState e != 0 && s.loopState e != 4) else true
  else true

/-! ## The set-point profile -/

/-- The limits in force on a slot: those of the last drive profile started, or its own (R304, R356). -/
def State.slotLimits (s : State) (slot : Nat) : Real32 × Real32 :=
  match (s.slotDrive slot).bind (fun c => (s.drive c).limits) with
  | some l => (Real32.ofBits l.1, Real32.ofBits l.2)
  | none => (s.real (lk slot 0x11), s.real (lk slot 0x12))

/-- The shortest motion to a target at distance d ≥ 0 in the direction of motion, from a rate w in that direction, under
|rate| ≤ vm and |rate change| ≤ a, with rate 0 at its end: where it stands, and at which rate, after a time t (R356). -/
def profileMove (d w vm a t : Real32) : Real32 × Real32 :=
  let half := Real32.ofRatio 1 2
  let peak := Real32.min vm (Real32.sqrt ((a.mul d).add ((w.mul w).mul half)))
  let t1 := ((peak.sub w).abs).div a
  let s1 := ((w.add peak).mul half).mul t1
  let s3 := ((peak.mul peak).div a).mul half
  let t2 := if peak.isZero then .fin 0 0 else ((d.sub s1).sub s3).div peak
  let t12 := t1.add (if t2.negative then .fin 0 0 else t2)
  let finish := t12.add (peak.div a)
  if t.le t1 then
    let w1 := if w.lt peak then w.add (a.mul t) else w.sub (a.mul t)
    ((((w.add w1).mul half).mul t), w1)
  else if t.le t12 then (s1.add (peak.mul (t.sub t1)), peak)
  else if t.lt finish then
    let left := finish.sub t
    (d.sub (((a.mul left).mul left).mul half), a.mul left)
  else (d, .fin 0 0)

/-- The set-point and rate after a time t; TRUE where the rate passed zero on the way (R357). -/
def profileStep (sp v target vm a t : Real32) : Real32 × Real32 × Bool :=
  let d := target.sub sp
  let stop := ((v.mul v.abs).div a).mul (Real32.ofRatio 1 2)
  let back := d.lt stop || ((d.sub stop).isZero && v.negative)
  let flip (x : Real32) : Real32 := if back then x.neg else x
  let w := flip v
  let m := profileMove (flip d) w vm a t
  let passed := w.negative && !m.2.negative
  if (m.1.sub (flip d)).isZero && m.2.isZero then (target, .fin 0 0, passed) else (sp.add (flip m.1), flip m.2, passed)

/-- The stopping distance of a rate under a rate-change limit. -/
def stopDistance (v a : Real32) : Real32 := ((v.mul v).div a).mul (Real32.ofRatio 1 2)

/-- The profile needs a reversal to reach a target (R357). -/
def needsReversal (sp v target a : Real32) : Bool :=
  if v.isZero then false
  else
    let ahead := if v.negative then sp.sub target else target.sub sp
    ahead.lt (stopDistance v a)

/-- The profile generator at an evaluation Ts after the last one. -/
def State.runProfile (s : State) (slot : Nat) (ts : Real32) : State :=
  let x := s.loop slot
  match x.ramp with
  | some (from_, goal, start, length, _) =>
    let gone := min (s.stamp - start) length
    let f := Real32.ofBits from_
    let t := Real32.ofBits goal
    let sp := f.add ((t.sub f).mul (Real32.ofRatio gone length))
    (s.setReal (lk slot 9) sp).setLoopSlot slot
      { x with rate := (((t.sub f).mul (Real32.ofRatio (10 ^ 9) length))).bits }
  | none =>
    let l := s.slotLimits slot
    let r := profileStep (s.real (lk slot 9)) (Real32.ofBits x.rate) (s.real (lk slot 8)) l.1 l.2 ts
    let s1 := (s.setReal (lk slot 9) r.1).setLoopSlot slot { x with rate := r.2.1.bits }
    if r.2.2 then s1.slotEvent slot 5 0 else s1

/-! ## Notches -/

/-- The coefficients b0, b1, b2, a2 of a notch, a0 being 1 and a1 being b1 (R353). -/
def notchCoefficients (fc w d fs : Real32) : Real32 × Real32 × Real32 × Real32 :=
  let one := Real32.ofInt 1
  let two := Real32.ofInt 2
  let t := Real32.tanPi (fc.div fs)
  let zp := w.div (two.mul fc)
  let zz := zp.mul (Real32.fromDecibel d)
  let tt := t.mul t
  let a0 := (one.add ((two.mul zp).mul t)).add tt
  (((one.add ((two.mul zz).mul t)).add tt).div a0, (two.mul (tt.sub one)).div a0,
   ((one.sub ((two.mul zz).mul t)).add tt).div a0, ((one.sub ((two.mul zp).mul t)).add tt).div a0)

/-- A notch at one evaluation: its output and its history; the rate its coefficients are made for moves when the nominal
rate has moved by more than 1 % (R353). TRUE where it becomes bypassed. -/
def Notch.run (n : Notch) (entry : Bytes) (nominal x : Real32) : Real32 × Notch × Bool :=
  let fc := Real32.ofBits (leAt 0 4 entry)
  let used := Real32.ofBits n.rate
  let moved := ((nominal.sub used).abs.mul (Real32.ofInt 100))
  let fs := if used.lt moved || used.isZero then nominal else used
  if fc.isZero then (x, {}, false)
  else if (fs.mul (Real32.ofRatio 45 100)).le fc then (x, { rate := fs.bits, bypassed := true }, !n.bypassed)
  else
    let c := notchCoefficients fc (Real32.ofBits (leAt 4 4 entry)) (Real32.ofBits (leAt 8 4 entry)) fs
    let y := ((((c.1.mul x).add (c.2.1.mul (Real32.ofBits n.x1))).add (c.2.2.1.mul (Real32.ofBits n.x2))).sub
      (c.2.1.mul (Real32.ofBits n.y1))).sub (c.2.2.2.mul (Real32.ofBits n.y2))
    (y, { x1 := x.bits, x2 := n.x1, y1 := y.bits, y2 := n.y1, rate := fs.bits, bypassed := false }, false)

/-- The process value after notch 1 and then notch 2. -/
def State.runNotches (s : State) (slot : Nat) (pv : Real32) : State × Real32 :=
  let x := s.loop slot
  let b := s.bytes (lk slot 0x19)
  let fs := s.nominalRate slot
  let r1 := x.notch1.run (slice 0 12 b) fs pv
  let r2 := x.notch2.run (slice 12 12 b) fs r1.1
  let s1 := s.setLoopSlot slot { x with notch1 := r1.2.1, notch2 := r2.2.1 }
  let s2 := if r1.2.2 then s1.slotEvent slot 4 1 else s1
  (if r2.2.2 then s2.slotEvent slot 4 2 else s2, r2.1)

/-! ## Gain regions -/

/-- A value of a gain region: 0 UPPER, 1 KP, 2 KI, 3 KD, 4 KFF (R354). -/
def State.gain (s : State) (slot region j : Nat) : Real32 :=
  Real32.ofBits (leAt (20 * region + 4 * j) 4 (s.bytes (lk slot 0x18)))

/-- The schedule variable; none where region 0 always applies or its sensor is broken. -/
def State.scheduleValue (s : State) (slot : Nat) : Option Real32 :=
  match s.n (lk slot 0x14) with
  | 1 => some (s.real (lk slot 0xA))
  | 2 =>
    let t := s.n (lk slot 0x15)
    if s.channelOn t && !s.flag (tk t 5) then some (Real32.ofRatio (s.i (tk t 2)) 10) else none
  | 3 => some (s.real (lk slot 0xB)).abs
  | _ => none

/-- The active region after this evaluation's decision (R354). -/
def State.nextRegion (s : State) (slot : Nat) : Nat :=
  let i := s.n (lk slot 0x1B)
  let n := s.n (lk slot 0x17)
  let h := s.real (lk slot 0x16)
  if s.n (lk slot 0x14) = 0 then 0
  else
    match s.scheduleValue slot with
    | none => i
    | some v =>
      if i + 1 < n ∧ ((s.gain slot i 0).add h).le v = true then i + 1
      else if 0 < i ∧ v.lt ((s.gain slot (i - 1) 0).sub h) = true then i - 1
      else i

/-! ## The control law -/

/-- An evaluation in AUTOMATIC (R352 to R357). -/
def State.controlLaw (s : State) (slot : Nat) : State :=
  let x0 := s.loop slot
  let ts := Real32.ofRatio (s.stamp - x0.last.getD s.stamp : Nat) (10 ^ 9)
  let region := s.nextRegion slot
  let changed := decide (region ≠ s.n (lk slot 0x1B))
  let s1 := if changed then ((s.bumpless slot).setn (lk slot 0x1B) region).slotEvent slot 1 region else s
  let s2 := s1.runProfile slot ts
  let (s3, y) := s2.runNotches slot (s2.real (lk slot 0xA))
  let x := s3.loop slot
  let sp := s3.real (lk slot 9)
  let e := sp.sub y
  let p := (s3.gain slot region 1).mul e
  let ff := (s3.gain slot region 4).mul sp
  let tf := s3.real (lk slot 0x1A)
  let d := match x.transfer with
    | some _ => .fin 0 0
    | none => ((tf.mul (Real32.ofBits x.derivative)).sub ((s3.gain slot region 3).mul (y.sub (Real32.ofBits x.y)))).div
        (tf.add ts)
  let step := ((s3.gain slot region 2).mul e).mul ts
  let further := (x.clamped == 1 && !step.negative && !step.isZero) || (x.clamped == 2 && step.negative)
  let i := match x.transfer with
    | some u0 => (Real32.ofBits u0).sub (p.add ff)
    | none => if further then Real32.ofBits x.integral else (Real32.ofBits x.integral).add step
  let u := ((p.add i).add d).add ff
  let lo := s3.real (lk slot 0xD)
  let hi := s3.real (lk slot 0xE)
  let clamped := if hi.lt u then 1 else if u.lt lo then 2 else 0
  let s4 := (s3.setReal (lk slot 0xB) (Real32.clamp lo hi u)).setLoopSlot slot
    { x with last := some s.stamp, integral := i.bits, derivative := d.bits, y := y.bits, clamped := clamped, transfer := none,
             sinceClamp := if clamped = 0 then min (x.sinceClamp + 1) 1024 else 0 }
  if clamped = 0 then s4
  else
    let s5 := s4.bump (lk slot 0x1E)
    if x.sinceClamp = 1024 then s5.slotEvent slot 2 0 else s5

/-- An evaluation in MANUAL: the output is `Manual output`, and the set-point tracks the process value (R351). -/
def State.manualLaw (s : State) (slot : Nat) : State :=
  let s1 := (s.setn (lk slot 0xB) (s.n (lk slot 0xC))).setn (lk slot 9) (s.n (lk slot 0xA))
  s1.setLoopSlot slot { s1.loop slot with rate := 0, last := some s.stamp }

end Sys2Proof.Machine
end

