-- ==== Sys2Proof/Machine/PageOps.lean ====
section
/-! DEFINITION. The operations on pages that several chapters share: recipes as bytes, page states and spoil flags, the
decode queues and band buffers, the end of an image and of a page, and automatic reprints (R140, R143, R149 to R152,
R161, R164, R168, R172, R188, R189). -/

namespace Sys2Proof.Machine

/-! ## Recipes -/

/-- A recipe step (R141). -/
structure Step where
  offset : Nat
  word : Nat
  deriving DecidableEq, Repr

def Step.base (x : Step) : Nat := field x.word 59 56
def Step.axis (x : Step) : Nat := field x.word 55 52
def Step.channel (x : Step) : Nat := field x.word 51 48
def Step.action (x : Step) : Nat := field x.word 47 40
def Step.target (x : Step) : Nat := field x.word 39 32
def Step.argument (x : Step) : Nat := field x.word 15 0

/-- Step i of a recipe. -/
def recipeStep (b : Bytes) (i : Nat) : Step := { offset := leAt (16 + 16 * i) 8 b, word := leAt (24 + 16 * i) 8 b }

/-- STEP_COUNT, STATIONS, WEB, DEADLINE and ADMISSION_SPEED of a recipe (R140). -/
def recipeCount (b : Bytes) : Nat := leAt 0 2 b
def recipeStations (b : Bytes) : Nat := leAt 4 1 b
def recipeWeb (b : Bytes) : Bool := bitOf (leAt 5 1 b) 0
def recipeDeadline (b : Bytes) : Nat := leAt 12 4 b
def recipeSpeed (b : Bytes) : Nat := leAt 8 2 b

/-- The steps of a recipe, in order. -/
def recipeSteps (b : Bytes) : List Step := (upFrom 0 (recipeCount b)).map (recipeStep b)

/-- The recipe a page runs: as it stood at admission, or as it stands (R145). -/
def State.pageRecipe (s : State) (p : Page) : Bytes := if p.steps.isEmpty then s.bytes (K (0x3510 + p.recipe) 1) else p.steps

/-- The stations a page names, as a mask. -/
def State.pageStations (s : State) (p : Page) : Nat := recipeStations (s.pageRecipe p)

def State.names (s : State) (p : Page) (n : Nat) : Bool := decide (1 ≤ n) && bitOf (s.pageStations p) (n - 1)

/-! ## The page table -/

/-- The places of the page table (R149). -/
def pagePlaces : List Nat := upFrom 0 128

/-- A page is in the table. -/
def Page.present (p : Page) : Bool := decide (p.state ≠ 9)

/-- The place of a tag. -/
def State.placeOf (s : State) (tag : Nat) : Option Nat := pagePlaces.find? (fun i => (s.page i).present && (s.page i).tag == tag)

/-- The lowest place that holds no page. -/
def State.freePlace (s : State) : Option Nat := pagePlaces.find? (fun i => !(s.page i).present)

/-- The pages that satisfy a condition, as places. -/
def State.pagesWith (s : State) (c : Page → Bool) : List Nat := pagePlaces.filter (fun i => c (s.page i))

def Page.waiting (p : Page) : Bool := decide (p.state ≤ 1)
def Page.inFlight (p : Page) : Bool := decide (2 ≤ p.state) && decide (p.state ≤ 6)
def Page.running (p : Page) : Bool := decide (3 ≤ p.state) && decide (p.state ≤ 6)
def Page.ended (p : Page) : Bool := decide (p.state = 7) || decide (p.state = 8)

def State.pagesQueued (s : State) : Nat := (s.pagesWith Page.waiting).length
def State.pagesInFlight (s : State) : Nat := (s.pagesWith Page.inFlight).length
def State.pagesHeld (s : State) : Nat := (s.pagesWith Page.ended).length

/-- A page naming station n is COMMITTED or IMAGING (R98, R109). -/
def State.stationGuarded (s : State) (n : Nat) : Bool :=
  !(s.pagesWith (fun p => (p.state == 3 || p.state == 4) && s.names p n)).isEmpty

/-- A ring 58 or 59 entry: inside a switch-over gap, and while no Alinagrim serves, it follows afterwards (R172, R257). -/
def State.sendPage (s : State) (ring : Nat) (e : List Nat) : State :=
  if !s.served then { s with pages := { s.pages with gapEntries := s.pages.gapEntries ++ [(ring, e)] } }
  else s.produce ring e

/-- The status entry of a page (R150). -/
def State.statusEntry (s : State) (p : Page) (new old : Nat) : List Nat :=
  [p.spoil * 2 ^ 56 + p.refusal * 2 ^ 48 + new * 2 ^ 40 + old * 2 ^ 32 + p.flags * 2 ^ 24 + p.recipe * 2 ^ 16 + p.tag,
   s.stamp, s.a1 * 65536, p.reference * 65536, p.job * 2 ^ 32, 0, 0, 0]

/-- A page's state change is written as EV080 and on ring 59 (R151). -/
def State.reportPage (s : State) (p : Page) (new old : Nat) : State :=
  (s.event 80 (new + old * 256 + p.spoil * 65536 + p.recipe * 2 ^ 24 + p.tag * 2 ^ 32 +
      (if new = 1 then p.refusal * 2 ^ 48 else 0))).sendPage 59 (s.statusEntry p new old)

/-- A page takes a state. One that becomes RESIDENT is spooled where `Automatic spool` asks for it (R457). -/
def State.setPageState (s : State) (i new : Nat) : State :=
  let p := s.page i
  let s1 := (s.setPage i { p with state := new }).reportPage p new p.state
  if p.state = 0 ∧ new = 1 then s1.autoSpool i p else s1

/-- A page leaves the admission order. -/
def State.unorder (s : State) (i : Nat) : State :=
  { s with pages := { s.pages with order := s.pages.order.filter (fun j => j != i) } }

/-- A page takes the spoil flag in its first cause: EV082 (R152, R161). -/
def State.spoilPage (s : State) (i cause who : Nat) : State :=
  let p := s.page i
  if p.running && p.spoil == 0 then
    (s.setPage i { p with spoil := cause }).event 82 (cause + who * 256 + p.tag * 2 ^ 32)
  else s

/-- Every page IMAGING on a station takes the spoil flag. -/
def State.spoilImaging (s : State) (n cause : Nat) : State :=
  s.each (s.pagesWith (fun p => p.state == 4 && s.names p n)) (fun t i => t.spoilPage i cause n)

/-! ## Slots of a page -/

/-- The slots of a page stop being evaluated, or start. -/
def State.shutSlots (s : State) (i : Nat) (shut : Bool) : State :=
  { s with pos := { s.pos with slots := s.pos.slots.map (fun x =>
      (x.1, if x.2.page = i + 1 ∧ x.2.tag = (s.page i).tag then { x.2 with shut := shut } else x.2)) } }

/-- Slots are freed unfired: their count, EV042 (R40). -/
def State.freeSlots (s : State) (which : Slot → Bool) (cause : Nat) : State :=
  let gone := (s.pos.slots.filter (fun x => which x.2)).length
  if gone = 0 then s
  else
    ({ s with pos := { s.pos with slots := s.pos.slots.filter (fun x => !which x.2) } }.bumpBy (K 0x3040 5) gone).eventHw 42
      (gone + cause * 65536)

/-! ## Blocks -/

def Block.station (b : Block) : Nat := field (wordAt b.head 2) 7 0
def Block.lineBytes (b : Block) : Nat := field (wordAt b.head 2) 31 16
def Block.cost (b : Block) : Nat := field (wordAt b.head 2) 63 32
def Block.band (b : Block) : Nat := field (wordAt b.head 3) 39 24
def Block.lineCount (b : Block) : Nat := field (wordAt b.head 3) 15 8
def Block.firstLine (b : Block) : Nat := field (wordAt b.head 3) 7 0
def Block.rawLength (b : Block) : Nat := field (wordAt b.head 0) 63 32
def Block.crc (b : Block) : Nat := field (wordAt b.head 1) 63 32
def Block.compLength (b : Block) : Nat := field (wordAt b.head 1) 31 0
def Block.accepted (b : Block) : Bool := decide (b.state = 3)

/-- A block of a page. -/
def Page.block (p : Page) (id : Nat) : Option Block := p.blocks.find? (fun b => b.id == id)

/-- A block of a page changes. -/
def State.updateBlock (s : State) (i id : Nat) (f : Block → Block) : State :=
  let p := s.page i
  s.setPage i { p with blocks := p.blocks.map (fun b => if b.id = id then f b else b) }

/-- A block is freed. -/
def State.freeBlock (s : State) (i id : Nat) : State :=
  let p := s.page i
  s.setPage i { p with blocks := p.blocks.filter (fun b => b.id != id) }

/-- The accepted blocks of a page for a station and band. -/
def Page.bandBlocks (p : Page) (n band : Nat) : List Block :=
  p.blocks.filter (fun b => b.accepted && (b.station == n && b.band == band))

/-- The bands of a page (R146). -/
def Page.bands (p : Page) : Nat := divCeil p.lines 32

/-- The lines of a band of a page (R180). -/
def Page.bandLines (p : Page) (band : Nat) : Nat := if band + 1 = p.bands then p.lines - 32 * band else 32

/-- A line of a band is held by an accepted block. -/
def Page.lineHeld (p : Page) (n band line : Nat) : Bool :=
  (p.bandBlocks n band).any (fun b => decide (b.firstLine ≤ line) && decide (line < b.firstLine + b.lineCount))

/-- A band is stored and checked: its accepted blocks cover each of its lines (R186). -/
def Page.bandStored (p : Page) (n band : Nat) : Bool := (upFrom 0 (p.bandLines band)).all (p.lineHeld n band)

/-! ## Decode queues and band buffers -/

/-- The key of a band buffer of a station (R99). -/
def bufferKey (n band : Nat) : Nat := n * 16 + band % 12

/-- The decode lanes of a station (R179's table of lanes): their lane codes. -/
def decodeLanes (n : Nat) : List Nat := upFrom (4 * n - 3) 4

/-- A lane is absent on the variant (R207). -/
def State.laneAbsent (s : State) (code : Nat) : Bool := !s.s6 && (decide (17 ≤ code) && decide (code ≤ 24))

/-- A lane's state as `Lane state` shows it. -/
def State.laneState (s : State) (code : Nat) : Nat := if s.laneAbsent code then 4 else (s.lane code).state

def State.laneServes (s : State) (code : Nat) : Bool := decide (s.laneState code = 2)

/-- The decode lanes of a station that are in service. -/
def State.lanesInService (s : State) (n : Nat) : Nat := ((decodeLanes n).filter s.laneServes).length

/-- Queue entries with nothing left to take are done. -/
def dropEmpty (q : List Queued) : List Queued := q.filter (fun e => !e.blocks.isEmpty)

/-- The first block not yet taken is taken out of a queue. -/
def takeFirst : List Queued → List Queued
  | [] => []
  | e :: q => dropEmpty ({ e with blocks := e.blocks.drop 1 } :: q)

/-- The lane that must not take a returned block (R190). -/
def State.barredLane (s : State) (id : Nat) : Nat :=
  match s.press.retries.find? (fun x => x.1 == id) with
  | some x => x.2
  | none => 0

/-- A free lane takes the first block of its station's queue, or refuses it for its width (R188, R189). -/
def State.laneTakes (s : State) (n code : Nat) : State :=
  match s.queue n with
  | [] => s
  | e :: _ =>
    match e.blocks with
    | [] => s
    | id :: _ =>
      match (s.page e.page).block id with
      | none => s.setQueue n (takeFirst (s.queue n))
      | some b =>
        let g := s.buffer (bufferKey n b.band)
        if e.released && s.laneServes code && decide ((s.lane code).page = 0) && decide (s.barredLane id ≠ code) then
          if b.lineBytes ≠ s.n (K (0x3301 + 0x10 * n) 2) / 2 then
            (s.setQueue n (takeFirst (s.queue n))).fault (0x3F + n) 0x6 b.band
          else if g.page = 0 ∨ (g.page = e.page + 1 ∧ g.band = b.band) then
            ((s.setQueue n (takeFirst (s.queue n))).setLane code
                { s.lane code with page := e.page + 1, block := id }).setBuffer (bufferKey n b.band)
              { g with page := e.page + 1, band := b.band }
          else s
        else s

/-- The free lanes of a station take blocks for as long as they can. -/
def State.feedLanes : Nat → State → Nat → State
  | 0, s, _ => s
  | k + 1, s, n => State.feedLanes k ((decodeLanes n).foldl (fun t code => t.laneTakes n code) s) n

/-- The station's lanes take what they can of its queue. -/
def State.feedDecode (s : State) (n : Nat) : State := State.feedLanes (total ((s.queue n).map (fun e => e.blocks.length)) + 1) s n

/-- A page's decodes on a station end: its queue entries go, its blocks in the lanes are abandoned, and its band buffers
are released. -/
def State.dropDecodes (s : State) (i n : Nat) : State :=
  let s1 := s.setQueue n ((s.queue n).filter (fun e => e.page != i))
  let s2 := s1.each (decodeLanes n) (fun t c =>
    if (t.lane c).page = i + 1 then t.setLane c { t.lane c with page := 0, block := 0 } else t)
  let s3 := s2.each (upFrom 0 12) (fun t k =>
    if (t.buffer (n * 16 + k)).page = i + 1 then t.setBuffer (n * 16 + k) {} else t)
  s3.feedDecode n

/-- A band of a page is resident: every one of its blocks has completed (R189). -/
def State.bandResident (s : State) (i n band : Nat) : Bool :=
  let g := s.buffer (bufferKey n band)
  let bs := (s.page i).bandBlocks n band
  decide (g.page = i + 1) && (decide (g.band = band) && (!bs.isEmpty && bs.all (fun b => g.blocks.contains b.id)))

/-! ## Images -/

/-- EV057 of a station (R110). -/
def State.lineEvent (s : State) (n sub tag value : Nat) : State :=
  s.event (57 + 4 * (n - 1)) (sub + n * 65536 + tag * 2 ^ 32 + value % 65536 * 2 ^ 48)

/-- The buffers of an ended image are released (R95, R100). -/
def State.closeImage (s : State) (n : Nat) : State :=
  let g := s.station n
  if g.image.closing then
    (s.setStation n { g with image := { g.image with closing := false } }).dropDecodes (g.image.page - 1) n
  else s

/-- The station assigns no more lines to its page; what Band SRAM holds of it is released at the end of the line in
progress (R95, R100). -/
def State.endImage (s : State) (n : Nat) : State :=
  let g := s.station n
  let s1 := ((s.setStation n { g with image := { g.image with going := false, closing := true } }).setn
    (K (0x3302 + 0x10 * n) 8) 0).setn (K (0x3300 + 0x10 * n) 7) 0
  if g.writing then s1 else s1.closeImage n

/-- An image in progress is truncated from the next facet: EV057 subcode 7; 1 stop action, 2 new start, 3 page ended
(R95, R164). -/
def State.truncate (s : State) (n why : Nat) : State :=
  let g := s.station n
  if g.image.going then
    let i := g.image.page - 1
    let s1 := s.lineEvent n 7 (s.page i).tag why
    (if why = 3 then s1 else s1.spoilPage i 3 n).endImage n
  else s

/-! ## The end of a page -/

/-- Timers of page execution, by place: deadline and delivery window. -/
def tmDeadline (i : Nat) : Nat := timer 7 i
def tmWindow (i : Nat) : Nat := timer 8 i

/-- A page leaves the table, and its blocks are freed; blocks still on their way no longer belong to a page (R167). -/
def State.purge (s : State) (i : Nat) : State :=
  let s1 := (((s.setPageState i 9).unorder i).setPage i {}).unlinkSpool i
  { s1 with press := { s1.press with inbound := s1.press.inbound.map (fun b => if b.page = i + 1 then { b with page := 0 } else b) } }

/-- A SIDE2 page whose partner is reprinted takes the reprint as its partner (R169). -/
def State.rePartner (s : State) (old new : Nat) : State :=
  { s with pages := { s.pages with table := s.pages.table.map (fun x =>
      (x.1, if x.2.partner = old ∧ bitOf x.2.flags 1 = true then { x.2 with partner := new } else x.2)) } }

/-- A reprint takes the place `new`, with the blocks of the page at i, which is purged (R168). -/
def State.makeReprint (s : State) (i new tag : Nat) : State :=
  let p := s.page i
  let auto := decide (0x8000 ≤ tag)
  let q : Page := { tag := tag, state := 1, recipe := p.recipe, lines := p.lines, flags := p.flags, partner := p.partner,
                    job := p.job, reprints := p.reprints + 1, blocks := p.blocks }
  let s1 := s.event 86 (p.tag + tag * 65536 + (p.reprints + 1) % 256 * 2 ^ 32 + b2n auto * 2 ^ 40)
  let s2 := ((s1.purge i).setPage new q).rePartner p.tag tag
  let s3 := { s2 with pages := { s2.pages with order := new :: s2.pages.order } }
  (s3.reportPage q 1 Config.stateBeforeNew).autoSpool new q

/-- The conditions of an automatic reprint (R168). -/
def State.reprintsItself (s : State) (i : Nat) : Bool :=
  let p := s.page i
  s.flag (K 0x3500 5) && (bitOf p.flags 0 && (!bitOf p.flags 1 && (!recipeWeb (s.pageRecipe p) &&
    (decide (p.reprints < s.n (K 0x3500 6)) && decide (p.spoil ≠ 14)))))

/-- A page ends: DELIVERED, or SPOILED with its spoil flag set (R151). An image of it still in progress stops with it. -/
def State.endPage (s : State) (i : Nat) : State :=
  let p := s.page i
  let new := if p.spoil = 0 then 7 else 8
  let s0 := s.each (upFrom 1 6) (fun t n =>
    if (t.station n).image.page = i + 1 ∧ (t.station n).image.going = true then t.endImage n else t)
  let s1 := ((s0.setPage i { s0.page i with window := none }).disarm (tmDeadline i)).disarm (tmWindow i)
  let s2 := (s1.setPageState i new).bump (if new = 7 then K 0x3500 0x16 else K 0x3500 0x17)
  if new = 8 ∧ s2.reprintsItself i = true then
    if 64 ≤ s2.pagesQueued then
      s2.event 86 (p.tag + p.reprints % 256 * 2 ^ 32 + 2 ^ 40)
    else s2.makeReprint i (s2.freePlace.getD i) (0x8000 + i)
  else s2

/-- A page ends by a jam, a missed delivery edge or its deadline: its gate closes, its images are truncated, its decodes
removed, and fault 0x77 is raised (R164). -/
def State.endPageBadly (s : State) (i cause who address : Nat) : State :=
  let p := s.page i
  let s1 := (s.spoilPage i cause who).shutSlots i true
  let s2 := s1.setPage i { s1.page i with gate := 3 }
  let s3 := s2.each (upFrom 1 6) (fun t n => if (t.station n).image.page = i + 1 then t.truncate n 3 else t)
  let s4 := s3.each (upFrom 1 6) (fun t n => t.dropDecodes i n)
  (s4.fault 0x77 0x4 (address * 2 ^ 24 + p.tag)).endPage i

/-- A page takes a later state at once; one no later than the present is recorded and ignored (R151). -/
def State.advancePage (s : State) (i new : Nat) : State := if (s.page i).state < new then s.setPageState i new else s

/-- The place of a slot's page, while that page is still the one the slot belongs to and runs. -/
def State.slotPage (s : State) (x : Slot) : Option Nat :=
  if x.page ≠ 0 ∧ (s.page (x.page - 1)).tag = x.tag ∧ (s.page (x.page - 1)).running = true then some (x.page - 1) else none

end Sys2Proof.Machine
end

