-- ==== Sys2Proof/Machine/Scan.lean ====
section
/-! DEFINITION. The laser pins, the scan sync and polygon lock states, facet identity, and what a measured or missed facet
does to them (R61 to R77, R84 to R86, R512, R515). Times are in 1/64 ns and the learned intervals in 1/256 ps, so that
4,000 of the latter make one of the former (log entry 18). -/

namespace Sys2Proof.Machine

/-! ## Stations and their lasers -/

/-- An object of station n: control 0, geometry 1, lines 2, bow 3, health 4, APC 5, drivers 6, temperature 7. -/
def sk (n m sub : Nat) : Nat := K (0x3300 + 16 * n + m) sub

/-- A scan timing object of station n, and one of polygon p. -/
def sc (n sub : Nat) : Nat := K (0x3110 + n) sub
def pk (p sub : Nat) : Nat := K (0x3100 + p) sub

/-- The polygon, the stations it serves, and the domain of a station (R61, R382). -/
def polygonOf (n : Nat) : Nat := (n + 1) / 2
def servedBy (p : Nat) : List Nat := [2 * p - 1, 2 * p]
def stationDomain (n : Nat) : Nat := 8 + (n + 1) / 2

def State.stationOn (s : State) (n : Nat) : Bool :=
  decide (1 ≤ n) && decide (n ≤ 6) && (s.s6 || decide (n ≤ 4)) && s.on (stationDomain n)

/-- `Station state` (R84). -/
def State.stationState (s : State) (n : Nat) : Nat := if s.stationOn n then s.n (sk n 0 2) else 0

def State.engaged (s : State) (n : Nat) : Bool := decide (s.stationState n = 2)

/-- `LASER_EN_n` is high. -/
def State.laserOn (s : State) (n : Nat) : Bool := s.stationOn n && s.flag (sk n 0 4)

/-- A Lid reaction holds the laser enable of a station low (R403, R404). -/
def State.lidHolds (s : State) (n : Nat) : Bool :=
  decide (2 ≤ s.n (K 0x2200 2)) || (decide (1 ≤ s.n (K 0x2200 2)) && bitOf (s.n (K 0x2200 3)) (n - 1))

/-- The two-channel interlock is closed (R413). -/
def State.interlockClosed (s : State) : Bool := decide (s.lid.ilkOpen = 0)

/-- `Laser hold cause` (R85, R109). -/
def State.laserCause (s : State) (n : Nat) : Nat :=
  b2n (!s.flag (sk n 0 3)) + 2 * b2n (!s.engaged n) + 4 * b2n (!s.interlockClosed) + 8 * b2n (s.lidHolds n) +
    16 * b2n (decide (s.n (sk n 7 2) = 3))

/-- EV056 of a station: state or pin (R110). -/
def State.pinEvent (s : State) (n new old : Nat) : State :=
  s.event (56 + 4 * (n - 1)) (new + old * 256 + b2n (s.flag (sk n 0 4)) * 65536 + s.laserCause n * 2 ^ 24)

/-- A pin that goes low at the end of its scan line waits for it while every cause is one that can: `Laser enable` cleared, the Lid's
hold and the SHUTDOWN itself. The interlock, and a station that leaves ENGAGED, take it low at once (R85, R86, R127, R413). -/
def State.waitsLineEnd (s : State) (n : Nat) : Bool := (s.station n).lineEnd && decide (s.laserCause n &&& 6 = 0)

/-- The pin follows its conditions (R85, R86, R127). -/
def State.refreshLaser (s : State) (n : Nat) : State :=
  if s.stationOn n then
    let high := s.laserCause n = 0
    if s.flag (sk n 0 4) = decide high then s
    else if ¬high ∧ s.waitsLineEnd n = true then s
    else (s.setb (sk n 0 4) (decide high)).pinEvent n (s.stationState n) (s.stationState n)
  else s

/-- The pin goes low at once. -/
def State.laserLow (s : State) (n : Nat) : State := (s.setStation n { s.station n with lineEnd := false }).refreshLaser n

/-- `Station state` takes RETRACTED or ENGAGED: EV056 with the pin as it then is (R84). -/
def State.setStationState (s : State) (n new : Nat) : State :=
  let old := s.stationState n
  let s1 := s.setn (sk n 0 2) new
  (s1.setb (sk n 0 4) (decide (s1.laserCause n = 0))).pinEvent n new old

/-- The beams in GOOD and SUSPECT: the usable beams (R120). -/
def State.unusable (s : State) (n : Nat) : Nat := s.n (sk n 4 2) ||| s.n (sk n 4 3)
def State.usable (s : State) (n beam : Nat) : Bool := decide (beam < 32) && !bitOf (s.unusable n) beam
def State.usableMask (s : State) (n : Nat) : Nat := maskOff (2 ^ 32 - 1) (s.unusable n)

/-- The usable beams that take part in SOS, EOS and APC: one restored in this facet not yet (R124). -/
def State.takesPart (s : State) (n beam : Nat) : Bool := s.usable n beam && !bitOf (s.station n).returning beam
def State.partMask (s : State) (n : Nat) : Nat := maskOff (s.usableMask n) (s.station n).returning

def State.light (s : State) (n mask : Nat) : State := s.setStation n { s.station n with lit := mask }

/-! ## Polygons -/

def tmSeek (p : Nat) : Nat := timer 9 p
def tmBlank (n : Nat) : Nat := timer 10 n

def State.lockState (s : State) (p : Nat) : Nat := s.n (pk p 7)
def State.identity (s : State) (p : Nat) : Nat := s.n (pk p 8)
def State.resolved (s : State) (p : Nat) : Bool := decide (s.identity p = 2)
def State.reference (s : State) (p : Nat) : Nat := s.n (pk p 0xA)
def State.syncState (s : State) (n : Nat) : Nat := s.n (sc n 6)

/-- The drive of a polygon reports at speed (R67, R68, R307). -/
def State.atSpeed (s : State) (p : Nat) : Bool := s.flag (dk (p - 1) 0 0xE)

/-- The video pairs that the module drives to beam-on outside the image: none while the pin is low (R87), none of a beam that is out
of use (R121), and in SEEKING only while the drive reports at speed (R68). -/
def State.litNow (s : State) (n : Nat) : Nat :=
  if s.laserOn n && (decide (s.lockState (polygonOf n) ≠ 1) || s.atSpeed (polygonOf n)) then (s.station n).lit &&& s.partMask n else 0

/-- Facets of an offset between the two stations of a polygon (R62). -/
def State.facetOffset (s : State) (p n : Nat) : Nat := if n = 2 * p then s.n (pk p 0xB) else 0

/-- The facet that station n sees while the reference sees its present facet. -/
def State.facetOf (s : State) (n : Nat) : Nat :=
  let p := polygonOf n
  ((s.polygon p).facet + s.facetOffset p n + 8 - s.facetOffset p (s.reference p)) % 8

/-- The facet that an event names: 0xFF while identity is not RESOLVED. -/
def State.facetCode (s : State) (n : Nat) : Nat := if s.resolved (polygonOf n) then s.facetOf n else 0xFF

/-- The facet signature d0 to d7 in ppb. -/
def State.signature (s : State) (p k : Nat) : Int := signed 32 (leAt (4 * (k % 8)) 4 (s.bytes (pk p 0xD)))

/-- A stored signature: some dk is not 0. -/
def State.signed_ (s : State) (p : Nat) : Bool := (upFrom 0 8).any (fun k => s.signature p k != 0)

/-- The greatest and the least of a list. -/
def maxOf (l : List Int) : Int := l.foldl (fun a b => if a < b then b else a) (l.headD 0)
def minOf (l : List Int) : Int := l.foldl (fun a b => if b < a then b else a) (l.headD 0)

/-- S of R69. -/
def State.spread (s : State) (p : Nat) : Nat :=
  let l := (upFrom 0 8).map (s.signature p)
  (maxOf l - minOf l).toNat

/-- Lock state changes: EV048 (R67). -/
def State.setLock_ (s : State) (p new : Nat) : State :=
  let old := s.lockState p
  if old = new then s
  else (s.setn (pk p 7) new).event 48 (new + old * 256 + p * 65536 + s.n (pk p 9) * 2 ^ 32)

/-- Facet identity changes: EV049 with the rotation matched (R71). -/
def State.setIdentity (s : State) (p new rotation : Nat) : State :=
  let old := s.identity p
  if old = new then s
  else (s.setn (pk p 8) new).event 49 (new + old * 256 + p * 65536 + rotation * 2 ^ 24)

/-- The timing reference changes: EV052 (R62). -/
def State.setReference (s : State) (p new : Nat) : State :=
  let old := s.reference p
  if old = new then s
  else
    let g := s.polygon p
    let facet := if s.resolved p then (g.facet + s.facetOffset p new + 8 - s.facetOffset p old) % 8 else g.facet
    ((s.setPolygon p { g with facet := facet }).setn (pk p 0xA) new).event 52 (new + old * 256 + p * 65536)

/-- A station can be the timing reference: not retracted, its domain on, not SYNC LOST. -/
def State.canRefer (s : State) (n : Nat) : Bool := s.engaged n && decide (s.syncState n ≠ 3)

/-- The reference that R62 asks for. -/
def State.wantedReference (s : State) (p : Nat) : Nat := if s.canRefer (2 * p - 1) then 2 * p - 1 else 2 * p

/-- Scan sync state changes: EV050 (R66). -/
def State.setSync (s : State) (n new : Nat) : State :=
  let old := s.syncState n
  if old = new then s
  else (s.setn (sc n 6) new).event 50 (new + old * 256 + n * 65536 + s.facetCode n * 2 ^ 24 + s.n (sc n 7) * 2 ^ 32)

/-- A station enters SYNCED with no prediction (R515); Tmean takes its first update whole again (R72). In SEEKING its beams are lit
(R68). -/
def State.enterSynced (s : State) (n : Nat) : State :=
  let g := s.station n
  let s1 := s.setStation n { g with measured := 0, sos := none, sosOpen := false, eosOpen := false, meanT := 0, meanSeen := false,
                                    clamped := false, awaitEos := false, porch := false, sosFacet := none, interval := 0, clock := 0,
                                    returning := 0 }
  (if s.lockState (polygonOf n) = 1 then s1.light n (s1.usableMask n) else s1).setSync n 1

/-- A station leaves the scan. -/
def State.leaveScan (s : State) (n : Nat) : State :=
  let g := s.station n
  (((s.setStation n { g with measured := 0, sos := none, sosOpen := false, eosOpen := false, lit := 0, porch := false,
                             writing := false, awaitEos := false, sosFacet := none, interval := 0, clock := 0,
                             returning := 0 }).disarm (tmBlank n)).setSync n 0).closeImage n

/-- The source of a P channel's speed feedback changes: the slot's transfer is bumpless (R293). -/
def State.feedback (s : State) (c : Nat) (byFacet : Bool) : State :=
  if (s.drive c).byFacet = byFacet then s
  else
    let s1 := s.setDrive c { s.drive c with byFacet := byFacet }
    match s1.driveSlot c with
    | none => s1
    | some i => (s1.setLoopSlot i { s1.loop i with mark := s1.triggerMark i, triggers := [] }).bumpless i

/-- The polygon enters IDLE (R62, R67, R71). -/
def State.polygonIdle (s : State) (p : Nat) : State :=
  let s1 := (((s.setLock_ p 0).setIdentity p 0 0).setReference p 0).disarm (tmSeek p)
  ((s1.setPolygon p { formed := (s1.polygon p).formed }).setn (pk p 9) 0).feedback (p - 1) false

/-- The drive of a polygon counts as stopped (R297), or its domain is off. -/
def State.driveStopped (s : State) (c : Nat) : Bool := !s.on 12 || [0, 5, 6, 7].contains (s.n (dk c 0 0xC))

/-- The polygon leaves IDLE: the reference at once, and the beams lit until the first SOS (R62, R68). -/
def State.seek (s : State) (p : Nat) : State :=
  let s1 := (s.setLock_ p 1).after (tmSeek p) (s.n (pk p 6) * 1000000)
  let s2 := s1.setPolygon p { formed := (s1.polygon p).formed }
  let s3 := s2.setReference p (s2.wantedReference p)
  s3.each (servedBy p) (fun t n => if t.engaged n then t.light n (t.usableMask n) else t)

/-- The polygon enters SYNC LOSS: fault 0x8, Class A for both stations by default (R67, R82). -/
def State.syncLoss (s : State) (p : Nat) : State :=
  (((s.setLock_ p 4).setIdentity p 0 0).fault (0x67 + p) 0x8 0).feedback (p - 1) false

/-- The lock state's rows that hold in any grid step (R67). -/
def State.refreshLock (s : State) (p : Nat) : State :=
  let eng := (servedBy p).filter s.engaged
  let l := s.lockState p
  if l = 0 then
    if s.flag (pk p 1) && s.on 12 && !s.driveStopped (p - 1) && s.atSpeed p && !eng.isEmpty then s.seek p else s
  else if !s.flag (pk p 1) || s.driveStopped (p - 1) || eng.isEmpty then s.polygonIdle p
  else if (l = 2 ∨ l = 3) ∧ eng.all (fun n => s.syncState n == 3) = true then s.syncLoss p
  else s

/-- The scan sync rows that hold in any grid step (R66). -/
def State.refreshSync (s : State) (n : Nat) : State :=
  let l := s.lockState (polygonOf n)
  if s.syncState n = 0 then
    if l ≠ 0 ∧ l ≠ 4 ∧ s.engaged n = true then s.enterSynced n else s
  else if s.engaged n = false ∨ l = 0 then s.leaveScan n
  else s

/-- A polygon and its stations follow their level-driven rows. -/
def State.refreshPolygon (s : State) (p : Nat) : State :=
  let s1 := s.refreshLock p
  ((servedBy p).foldl (fun t n => t.refreshSync n) s1).refreshLock p

/-! ## Clocks -/

/-- T(f) and the updates it has had. -/
def Station.t (g : Station) (f : Nat) : Nat := g.facetT.getD f 0
def Station.u (g : Station) (f : Nat) : Nat := g.updates.getD f 0

/-- A list of eight with entry f replaced. -/
def setEight (l : List Nat) (f v : Nat) : List Nat := (upFrom 0 8).map (fun k => if k = f then v else l.getD k 0)

/-- Facet f is learned at a station (R72). -/
def State.facetLearned (s : State) (n f : Nat) : Bool := decide (2 ^ s.n (sc n 4) ≤ (s.station n).u f)

/-- `Facets learned`. -/
def State.facetsLearned (s : State) (n : Nat) : Nat := maskOf ((upFrom 0 8).filter (s.facetLearned n))

/-- A pixel clock from an interval in 1/256 ps: D / T (R73), to the nearest Hz as the worked example of 03_scan_timing reads; 0
where the interval is unknown. -/
def State.clockHz (s : State) (n t : Nat) : Nat := divRound (s.n (sc n 1) * 10 ^ 12) (256 * t)

/-- D / T lies within 40 MHz to 180 MHz (R74). -/
def State.clockInRange (s : State) (n t : Nat) : Bool :=
  decide (t ≠ 0) && (decide (40000000 * (256 * t) ≤ s.n (sc n 1) * 10 ^ 12) &&
    decide (s.n (sc n 1) * 10 ^ 12 ≤ 180000000 * (256 * t)))

/-- The interval the correction of facet f uses, and its mode: 1 per facet, 2 mean, 0 none. -/
def State.correction (s : State) (n f : Nat) : Nat × Nat :=
  let g := s.station n
  if s.resolved (polygonOf n) = true ∧ s.facetLearned n f = true ∧ g.t f ≠ 0 then (g.t f, 1)
  else if g.meanT = 0 then (0, 0)
  else (g.meanT, 2)

/-- LOCKED to ACQUIRING (R67): the counts start again, and every T(f) takes its first update whole (R72). -/
def State.reacquire (s : State) (p : Nat) : State :=
  let s1 := (s.setLock_ p 2).setPolygon p { s.polygon p with good := 0, bad := 0 }
  s1.each (servedBy p) (fun t n => t.setStation n { t.station n with updates := [] })

/-- The clock of the facet is loaded at its SOS and held to the next; a clamped one spoils the page and writes EV054 once a run
(R73, R74). -/
def State.loadClock (s : State) (n : Nat) : State :=
  let p := polygonOf n
  let c := s.correction n (s.facetOf n)
  let hz := s.clockHz n c.1
  let f := if s.resolved p then some (s.facetOf n) else none
  let s0 := s.setStation n { s.station n with sosFacet := f, interval := c.1, clock := if c.2 = 0 then 0 else min 180000000 (max 40000000 hz),
                                              clamped := decide (c.2 ≠ 0) && !s.clockInRange n c.1 }
  if (s0.station n).clamped then
    let s1 := (s0.setn (sc n 0xB) 3).spoilImaging n 5
    let s2 := if (s.station n).clamped then s1
      else s1.event 54 (n * 65536 + s.facetCode n * 2 ^ 24 + hz / 1000 * 2 ^ 32)
    if s2.lockState p = 3 then s2.reacquire p else s2
  else s0.setn (sc n 0xB) c.2

/-- The clock in use for the facet now being written, in Hz. -/
def State.clockNow (s : State) (n : Nat) : Nat := (s.station n).clock

/-! ## Revolutions -/

/-- The deviation in ppb of an interval from the mean of a revolution. -/
def deviation (iv rev : Nat) : Int := if rev = 0 then 0 else Int.fdiv (((iv * 8 : Nat) : Int) * 10 ^ 9) rev - 10 ^ 9

/-- The deviations m0 to m7 of the revolution that ends at facet 0. -/
def Polygon.deviations (g : Polygon) : List Int :=
  let l := g.intervals.take 8
  let rev := total l
  ((l.take 1) ++ ((l.drop 1).reverse)).map (fun iv => deviation iv rev)

/-- E_r of R70. -/
def State.matchError (s : State) (p r : Nat) (m : List Int) : Nat :=
  ((upFrom 0 8).map (fun k => (m.getD k 0 - s.signature p (k + r)).natAbs)).foldl max 0

/-- The rotation a revolution matches: E_r < S/4 and every other above S/2 (R70). -/
def State.matched (s : State) (p : Nat) (m : List Int) : Option Nat :=
  let sp := s.spread p
  (upFrom 0 8).find? (fun r => decide (4 * s.matchError p r m < sp) &&
    (upFrom 0 8).all (fun q => q == r || decide (sp < 2 * s.matchError p q m)))

/-- UNRESOLVED or LOST with a rotation matched in four revolutions: RESOLVED, the facets numbered from the match (R71,
R512). -/
def State.matchIdentity (s : State) (p : Nat) (m : List Int) : State :=
  let g := s.polygon p
  match s.matched p m with
  | none => s.setPolygon p { g with run := 0 }
  | some r =>
    let run := if g.rotation = r then g.run + 1 else 1
    if 4 ≤ run then
      (s.setPolygon p { g with run := 0, misses := 0, rotation := 0, facet := (g.facet + r) % 8 }).setIdentity p 2 r
    else s.setPolygon p { g with rotation := r, run := run }

/-- One revolution learned; after 64 the signature is held (R69, R71). -/
def State.learnSignature (s : State) (p : Nat) (m : List Int) : State :=
  let g := s.polygon p
  let sums := (upFrom 0 8).map (fun k => g.sums.getD k 0 + m.getD k 0)
  if g.learned + 1 < 64 then s.setPolygon p { g with sums := sums, learned := g.learned + 1 }
  else
    let d := sums.map (fun x => Int.fdiv (x + 32) 64)
    let s1 := (s.setPolygon p { g with sums := [], learned := 0, run := 0, misses := 0, rotation := 0 }).setBytes (pk p 0xD)
      (d.flatMap (fun x => leBytes 4 (unsigned 32 x)))
    let flat := s1.spread p < s.n (pk p 0xC) * 1000
    (s1.event 53 (p * 65536 + b2n (decide flat) * 2 ^ 24 + s1.spread p * 2 ^ 32)).setIdentity p (if flat then 4 else 2) 0

/-- Learning begins (R71). -/
def State.beginLearning (s : State) (p : Nat) : State :=
  (s.setPolygon p { s.polygon p with sums := [], learned := 0, run := 0, misses := 0 }).setIdentity p 1 0

/-- Facet identity at a boundary that ends a measured revolution (R70, R71). -/
def State.identityBoundary (s : State) (p : Nat) : State :=
  let g := s.polygon p
  let m := g.deviations
  match s.identity p with
  | 0 => if s.signed_ p then s.matchIdentity p m else s.beginLearning p
  | 1 => s.learnSignature p m
  | 2 =>
    if s.matched p m = some 0 then s.setPolygon p { g with misses := 0 }
    else if 2 ≤ g.misses + 1 then (s.setPolygon p { g with misses := 0, run := 0 }).setIdentity p 3 0
    else s.setPolygon p { g with misses := g.misses + 1 }
  | 3 => s.matchIdentity p m
  | _ => s

/-- The target revolution period in 1/64 ns (R67): 60 s over the commanded speed. -/
def State.targetRevolution (s : State) (p : Nat) : Nat :=
  let rpm := (s.commanded (p - 1)).toNat
  if rpm = 0 then 0 else 60 * 10 ^ 9 * 64 / rpm

/-- A revolution lies within a window in ppm of the target. -/
def withinPpm (rev target ppm : Nat) : Bool := decide (((rev : Int) - target).natAbs * 10 ^ 6 ≤ target * ppm)

/-- Every engaged station of a polygon has a pixel clock, and each facet's is in range (R67, R72, R73). -/
def State.clocksGood (s : State) (p : Nat) : Bool :=
  ((servedBy p).filter s.engaged).all (fun n => decide ((s.station n).meanT ≠ 0) &&
    (upFrom 0 8).all (fun f => s.clockInRange n (s.correction n f).1))

/-- The lock state at the end of a measured revolution (R67). -/
def State.lockBoundary (s : State) (p : Nat) : State :=
  let g := s.polygon p
  let rev := total (g.intervals.take 8)
  let target := s.targetRevolution p
  let s1 := s.setn (pk p 9) (rev * 125 / 64)
  match s.lockState p with
  | 2 =>
    let good := if withinPpm rev target (s.n (pk p 3)) then g.good + 1 else 0
    let s2 := s1.setPolygon p { g with good := good, measured := true }
    if s.n (pk p 5) ≤ good ∧ s.clocksGood p = true then
      (s2.setPolygon p { s2.polygon p with bad := 0 }).setLock_ p 3
    else s2
  | 3 =>
    let bad := if withinPpm rev target (s.n (pk p 4)) then 0 else g.bad + 1
    let s2 := s1.setPolygon p { g with bad := bad, measured := true }
    if 2 ≤ bad then s2.reacquire p else s2
  | _ => s1

/-- A revolution boundary (R512): the reference, the lock state and facet identity are decided here. -/
def State.boundary (s : State) (p : Nat) (revolution : Bool) : State :=
  let s1 := if revolution then ((s.lockBoundary p).identityBoundary p).feedback (p - 1) true else s
  s1.setReference p (s1.wantedReference p)

/-- ACQUIRING is entered from SEEKING (R67, R71, R72). -/
def State.acquire (s : State) (p : Nat) : State :=
  let s1 := ((s.setLock_ p 2).disarm (tmSeek p)).setPolygon p { s.polygon p with good := 0, bad := 0, counting := false }
  let s2 := s1.each (servedBy p) (fun t n => t.setStation n { t.station n with updates := [], lit := 0 })
  if s2.signed_ p then s2 else s2.beginLearning p

/-- Sixteen intervals within 1 % of one another (R67). -/
def steady (l : List Nat) : Bool :=
  decide (16 ≤ l.length) && decide (l.foldl max 0 * 100 ≤ l.foldl min (l.headD 0) * 101)

/-- A facet of the timing reference has been formed; `iv` is the interval it ends, if any (R67, R512). -/
def State.referenceFacet (s : State) (p : Nat) (iv : Option Nat) : State :=
  let g := s.polygon p
  let intervals := match iv with
    | some x => (x :: g.intervals).take 16
    | none => g.intervals
  let g1 := { g with intervals := intervals, formed := g.formed + 1 }
  match s.lockState p with
  | 1 =>
    let s1 := s.setPolygon p g1
    let s2 := s1.setReference p (s1.wantedReference p)
    if steady intervals then s2.acquire p else s2
  | 2 => step p g1 s
  | 3 => step p g1 s
  | _ => s
where
  /-- ACQUIRING and LOCKED count facets: the first is provisional facet 0. R512 does not say whether that facet is itself a revolution
  boundary: the model takes it as one for a change of reference, but it ends no revolution, so LEARNING and the lock state get
  nothing from it (log entry 182). -/
  step (p : Nat) (g1 : Polygon) (s : State) : State :=
    if g1.counting then
      let f := (g1.facet + 1) % 8
      let s1 := s.setPolygon p { g1 with facet := f }
      if f = 0 then s1.boundary p (decide (8 ≤ g1.intervals.length)) else s1
    else (s.setPolygon p { g1 with facet := 0, counting := true }).boundary p false

/-- The facets of a polygon are counted at station n: at its reference, or at the partner while the reference gives none
(log entry 19). An SOS of the facet that the other station has counted already counts no further one (R62, R76). -/
def State.countsFacets (s : State) (n : Nat) : Bool :=
  let p := polygonOf n
  (s.reference p == n || (!s.canRefer (s.reference p) && s.canRefer n)) && !(s.polygon p).unseen.contains n

/-- The SOS of station n in a polygon's facets: it counts the next one, or is that of the facet counted last. -/
def State.polygonFacet (s : State) (n : Nat) (iv : Option Nat) : State :=
  let p := polygonOf n
  if s.countsFacets n then
    (s.setPolygon p { s.polygon p with unseen := (servedBy p).filter (fun m => m != n) }).referenceFacet p iv
  else s.setPolygon p { s.polygon p with unseen := (s.polygon p).unseen.filter (fun m => m != n) }

/-- The interval predicted from the facet just formed to the next (R65). The mean interval of the last revolution is an eighth of its
period, and the learned interval of a facet that mean and the facet's share of the signature: R65 names both and gives neither's
arithmetic, and these are the model's choices (log entry 180). -/
def State.nextInterval (s : State) (n last : Nat) : Nat :=
  let p := polygonOf n
  let l := (s.polygon p).intervals
  if (s.polygon p).measured then
    let rev := total (l.take 8)
    if s.resolved p then (rev * (10 ^ 9 + s.signature p (s.facetOf n + 1)).toNat + 4 * 10 ^ 9) / (8 * 10 ^ 9)
    else (rev + 4) / 8
  else last

/-! ## Crossings -/

/-- The learned stagger of a beam, in 1/16 ns. -/
def State.stagger (s : State) (n beam : Nat) : Int := signed 16 (leAt (2 * beam) 2 (s.bytes (K (0x3400 + 16 * n) 8)))

/-- A crossing less its beam's stagger, in 1/64 ns. -/
def State.unstaggered (s : State) (n : Nat) (c : Crossing) : Int := (c.time : Int) - 4 * s.stagger n c.beam

/-- The crossings of the usable beams within a window of a predicted time (R63). -/
def State.validCrossings (s : State) (n predicted window : Nat) (l : List Crossing) : List Crossing :=
  l.filter (fun c => s.takesPart n c.beam && decide ((s.unstaggered n c - predicted).natAbs ≤ 64 * window))

/-- The first group of crossings in which enough beams cross within 2.0 µs of its first (R515). -/
def firstGroup (need : Nat) (all : List Crossing) : List Crossing → List Crossing
  | [] => []
  | c :: l =>
    let g := all.filter (fun x => decide (c.time ≤ x.time) && decide (x.time ≤ c.time + 128000))
    if need ≤ g.length then g else firstGroup need all l

/-- A crossing put in its place by time. -/
def insertCrossing (c : Crossing) : List Crossing → List Crossing
  | [] => [c]
  | d :: l => if c.time ≤ d.time then c :: d :: l else d :: insertCrossing c l

def byTime (l : List Crossing) : List Crossing := l.foldr insertCrossing []

/-- The valid crossings of a facet: by the prediction, or as the first group while there is none. R515 says so of an SOS; for an EOS
of which no interval has been learned the spec says nothing, and the same group is the model's choice (log entry 179). -/
def State.crossings (s : State) (n window : Nat) (predicted : Option Nat) (l : List Crossing) : List Crossing :=
  match predicted with
  | some t => s.validCrossings n t window l
  | none =>
    let u := byTime (l.filter (fun c => s.takesPart n c.beam))
    firstGroup (s.n (sc n 5)) u u

/-- The mean of the valid crossings, each less its beam's stagger, to the nearest 1/64 ns (R63). -/
def State.meanCrossing (s : State) (n : Nat) (l : List Crossing) : Nat :=
  let sum := (l.map (s.unstaggered n)).foldr (· + ·) 0
  (Int.fdiv (2 * sum + l.length) (2 * l.length)).toNat

/-- The stagger of each beam that crossed is learned in LOCKED, until 64 facets have had no EOS (R63, R66). -/
def State.learnStagger (s : State) (n mean : Nat) (l : List Crossing) : State :=
  if s.lockState (polygonOf n) = 3 ∧ (s.station n).eosRun < 64 then
    let k := K (0x3400 + 16 * n) 8
    s.each l (fun t c =>
      let x := clampInt (-32768) 32767 (Config.learnedStagger (32 * n + c.beam) ((c.time : Int) - mean) t.drawn)
      (t.setBytes k (patch (2 * c.beam) (leBytes 2 (unsigned 16 x)) (t.bytes k))).draw)
  else s

end Sys2Proof.Machine
end

