-- ==== Sys2Proof/Machine/Stations.lean ====
section
/-! DEFINITION. What a station does facet by facet: line assignment, levels and substitution, beam health, APC and the
serial bus to the beam drivers, and the VCSEL temperature (R63 to R76, R84 to R137). -/

namespace Sys2Proof.Machine

/-! ## Line assignment -/

/-- The tag of the page imaging on a station, 0 for none. -/
def State.imagingTag (s : State) (n : Nat) : Nat := s.n (sk n 0 7)

/-- EV058 and EV059 of a station (R137). -/
def State.beamEvent (s : State) (n sub beam value : Nat) : State :=
  s.event (58 + 4 * (n - 1)) (sub + beam * 256 + n * 65536 + s.imagingTag n * 2 ^ 32 + value % 65536 * 2 ^ 48)
def State.apcEvent (s : State) (n sub driver value : Nat) : State :=
  s.event (59 + 4 * (n - 1)) (sub + driver * 256 + n * 65536 + s.imagingTag n * 2 ^ 32 + value % 65536 * 2 ^ 48)

/-- An entry of a bow table, in sublines (R96). -/
def State.bow (s : State) (n bank j : Nat) : Int := signed 16 (leAt (2 * j) 2 (s.bytes (sk n 3 (bank + 1))))

/-- The extent margin of a bow bank: ⌈M / 256⌉ + 1 lines (R90). -/
def State.extentMargin (s : State) (n bank : Nat) : Nat :=
  divCeil (((upFrom 0 512).map (fun j => (s.bow n bank j).natAbs)).foldl max 0) 256 + 1

/-- Two adjacent beams are both out of use (R123). -/
def adjacentPair (mask : Nat) : Bool := (upFrom 0 31).any (fun k => bitOf mask k && bitOf mask (k + 1))

/-- START_IMAGE on a station for the page at a place (R90, R95). -/
def State.startImage (s : State) (i n : Nat) : State :=
  let s0 := (if (s.station n).image.page = i + 1 then s else s.truncate n 2).closeImage n
  let p := s0.page i
  let bank := b2n (bitOf p.banks (n - 1))
  let e := s0.extentMargin n bank
  let g := s0.station n
  let s1 := s0.setStation n { g with image := { page := i + 1, going := true, origin := s0.axisPos 1, extent := e, bank := bank,
                                                frontier := -(e : Int) } }
  let s2 := ((s1.seti (sk n 2 1) (-(e : Int))).setn (sk n 2 8) e).setn (sk n 0 7) p.tag
  if adjacentPair (s2.unusable n) then s2.spoilPage i 7 n else s2

/-- The mean advance and the speed margin over the facets there have been, up to 8 (R93). -/
def State.noteAdvance (s : State) (n : Nat) (delta : Int) : State :=
  let g := s.station n
  let l := (delta :: g.advances).take 8
  let sum := l.foldr (· + ·) 0
  let k : Int := l.length
  let margin := clampInt (-32768) 32767 (Int.fdiv ((sum - 7680 * k) * 10000) (7680 * k))
  let s1 := ((s.setStation n { g with advances := l }).seti (sk n 2 4) (clampInt 0 (2 ^ 32 - 1) (Int.fdiv sum k))).seti
    (sk n 2 5) margin
  let w := s.n (K 0x3200 3)
  if 8064 * k < sum ∧ bitOf w (n - 1) = false ∧ s.engaged n = true then
    (s1.setn (K 0x3200 3) (withBit w (n - 1))).lineEvent n 1 (s.imagingTag n) (unsigned 16 margin)
  else if sum < 8000 * k ∧ bitOf w (n - 1) = true then
    (s1.setn (K 0x3200 3) (withoutBit w (n - 1))).lineEvent n 2 (s.imagingTag n) (unsigned 16 margin)
  else s1

/-- The fault source of a station's video data; the other three follow it (R111, R138). -/
def stationSource (n k : Nat) : Nat := 0x50 + 4 * (n - 1) + k

/-- The bands of the page that R100 needs resident. -/
def neededBands (w : Int) (e lines : Nat) : List Nat :=
  let lo := (max (w - e - 1) 0).toNat
  let hi := (min (w + 33 + e) ((lines : Int) - 1)).toNat
  if (w + 33 + e) < 0 ∨ lines ≤ lo then [] else upFrom (lo / 32) (hi / 32 + 1 - lo / 32)

/-- δ(c) of R96. -/
def State.bowAt (s : State) (n c : Nat) : Int :=
  let bank := (s.station n).image.bank
  let j := c / 64
  s.bow n bank j + Int.fdiv ((s.bow n bank (j + 1) - s.bow n bank j) * ((c : Int) - 64 * j) + 32) 64

/-- The least and the greatest bow over the columns of the image: the nodes within it and its last column (R96). -/
def State.bowSpan (s : State) (n : Nat) : Int × Int :=
  let cols := s.n (sk n 1 2)
  let l := s.bowAt n (cols - 1) :: ((upFrom 0 512).filter (fun j => decide (64 * j < cols))).map (s.bow n (s.station n).image.bank)
  (minOf l, maxOf l)

/-- The bands of the page that the firing beams of the facet read, each line and the one after it (R97, R101). -/
def State.bandsRead (s : State) (n lines : Nat) : List Nat :=
  let m := (s.station n).image
  let span := s.bowSpan n
  let lo := max (Int.fdiv (Int.fdiv (m.y0 + 256 * m.first - span.2 + 8) 16) 16) 0
  let hi := min (Int.fdiv (Int.fdiv (m.y0 + 256 * (m.first + m.count - 1 : Nat) - span.1 + 8) 16) 16 + 1) ((lines : Int) - 1)
  if m.count = 0 ∨ hi < lo then [] else upFrom (lo.toNat / 32) (hi.toNat / 32 + 1 - lo.toNat / 32)

/-- The bands that are missing are reported, each once, where a firing beam reads them (R101); the reads of a facet are judged at the
opening of its SOS window (log entry 186). -/
def State.checkResidency (s : State) (n : Nat) (w : Int) : State :=
  let g := s.station n
  let i := g.image.page - 1
  let read := s.bandsRead n (s.page i).lines
  s.each ((neededBands w g.image.extent (s.page i).lines).filter read.contains) (fun t b =>
    let h := t.station n
    if t.bandResident i n b || h.image.missing.contains b then t
    else
      let t1 := (t.setStation n { h with image := { h.image with missing := b :: h.image.missing } }).spoilPage i 2 n
      ((t1.fault (stationSource n 0) 0x4 b).lineEvent n 5 (t.page i).tag b).bump (sk n 2 9))

/-- A facet with a deficit, or the end of a deficit run (R92). -/
def State.noteDeficit (s : State) (n : Nat) (w : Int) (d : Nat) : State :=
  let g := s.station n
  let i := g.image.page - 1
  let tag := (s.page i).tag
  if d = 0 then
    if g.image.run = 0 then s
    else (s.setStation n { g with image := { g.image with run := 0 } }).lineEvent n 4 tag g.image.run
  else
    let s1 := ((s.setStation n { g with image := { g.image with run := g.image.run + 1, deficit := true } }).bumpBy
      (sk n 2 6) d).bump (sk n 2 7)
    if g.image.deficit then s1
    else ((s1.spoilPage i 1 n).fault (stationSource n 0) 0x8 (unsigned 32 w)).lineEvent n 3 tag d

/-- The image of a page on a station is complete (R95). -/
def State.completeImage (s : State) (n : Nat) : State :=
  let i := (s.station n).image.page - 1
  let s1 := (s.setPage i { s.page i with images := withBit (s.page i).images (n - 1) }).lineEvent n 6 (s.page i).tag 0
  s1.endImage n

/-- Band SRAM parity: the lines of a facet that were written with an inverted parity bit are found when they are read (R111,
R415). -/
def State.bandParity (s : State) (n : Nat) (w : Int) (lines : Nat) : State :=
  let i := (s.station n).image.page - 1
  s.each (upFrom w.toNat lines) (fun t l =>
    if t.bandResident i n (l / 32) && (t.buffer (bufferKey n (l / 32))).bad.contains (l % 32) then
      t.faultInjected (stationSource n 0) 0x3 (Config.bandAddress n l).toNat true
    else t)

/-- Line assignment of a facet of an image in progress (R91 to R95, R100, R101). -/
def State.assignLines (s : State) (n : Nat) (delta : Int) : State :=
  let g := s.station n
  let m := g.image
  let i := m.page - 1
  let y0 := distance 48 (s.axisPos 1) m.origin - 256 * (31 + m.extent)
  if delta < 0 ∨ s.loopState 1 ≠ 2 then
    let s1 := (s.setStation n { g with image := { m with y0 := y0, first := 0, count := 0 } }).setn (sk n 2 2) 0
    let s2 := if delta < 0 then s1.lineEvent n 8 (s.page i).tag 0 else s1
    s2.spoilPage i 4 n
  else
    let w := m.frontier
    let k0 := Int.fdiv (256 * w - y0 + 128) 256
    let lines := (Int.fdiv (y0 + delta + 128) 256 - w).toNat
    let first := (max k0 0).toNat
    let last := min (k0 + lines - 1) 31
    let count := (last + 1 - first).toNat
    let d := min ((-k0).toNat + (k0 + lines - 32).toNat) lines
    let s1 := s.setStation n { g with image := { m with y0 := y0, first := first, count := count, frontier := w + lines },
                                      writing := decide (0 < count) && s.laserOn n }
    let s2 := ((s1.seti (sk n 2 1) (w + lines)).setn (sk n 2 2) lines).setn (sk n 2 3) (min first 31)
    let s3 := (if 0 < count then (s2.checkResidency n w).bandParity n w lines else s2).noteDeficit n w d
    if ((s.page i).lines : Int) + m.extent ≤ w + lines then s3.completeImage n else s3

/-- The temperature band takes effect (R105). -/
def State.takeBand (s : State) (n : Nat) : State :=
  let b := (s.station n).band
  if s.n (K (0x3400 + 16 * n) 7) = b then s
  else (s.setn (K (0x3400 + 16 * n) 7) b).lineEvent n 9 (s.imagingTag n) b

/-- The station is in the scan with a prediction. -/
def State.predicting (s : State) (n : Nat) : Bool :=
  s.stationOn n && (s.syncState n == 1 || s.syncState n == 2) && (s.station n).measured == 2

/-- Stamp time in 1/64 ns. -/
def State.fine (s : State) : Nat := s.stamp * 64

/-- SOS_WINDOW_OPEN (R91, R100, R105): a(f) is sampled, and the lines of an image in progress are assigned. -/
def execSosWindowOpen (n : Nat) (s : State) : Host.Outcome State Fault Refusal :=
  let g := s.station n
  if s.predicting n && !g.sosOpen && decide (g.predicted ≤ s.fine + 64 * s.n (sc n 2)) then
    let s1 := (s.closeImage n).takeBand n
    let a := s1.axisPos 1
    let delta := match g.lastA with
      | some b => distance 48 a b
      | none => Config.firstAdvance s1.drawn
    let s2 := if g.lastA.isSome then s1 else s1.draw
    let s3 := (s2.setStation n { s2.station n with sosOpen := true, lastA := some a, lit := s2.usableMask n, awaitEos := false,
                                                   returning := 0, eosOpen := false, porch := false, writing := false }).noteAdvance n delta
    .next (if (s3.station n).image.going then s3.assignLines n delta
      else s3.setStation n { s3.station n with image := { (s3.station n).image with count := 0 } })
  else .next s

/-! ## Levels -/

/-- The level of image line l at column c of the page on a station: 0 outside the page and where the band is not resident
(R97, R101, R180). -/
def State.pixel (s : State) (n : Nat) (l : Int) (c : Nat) : Nat :=
  let i := (s.station n).image.page - 1
  if l < 0 ∨ ((s.page i).lines : Int) ≤ l then 0
  else
    let line := l.toNat
    if s.bandResident i n (line / 32) then
      let b := ((Tab.get (fun _ => []) (s.buffer (bufferKey n (line / 32))).rows (line % 32)).getD (c / 2) 0).toNat
      if c % 2 = 0 then b / 16 else b % 16
    else 0

/-- The level that beam k forms at column c from the page (R97). -/
def State.ownLevel (s : State) (n k c : Nat) : Nat :=
  let sigma := (s.station n).image.y0 + 256 * k - s.bowAt n c
  let q := Int.fdiv (sigma + 8) 16
  let i := Int.fdiv q 16
  let r := (q - 16 * i).toNat
  ((16 - r) * s.pixel n i c + r * s.pixel n (i + 1) c + 8) / 16

/-- Beam k fires in the present facet. -/
def State.fires (s : State) (n k : Nat) : Bool :=
  let m := (s.station n).image
  decide (m.first ≤ k) && decide (k < m.first + m.count)

/-- Beam k fires and is treated as dead; beam k is a live firing beam (R122). -/
def State.deadFiring (s : State) (n k : Nat) : Bool := s.fires n k && bitOf (s.station n).substituted k
def State.liveFiring (s : State) (n k : Nat) : Bool := s.fires n k && !bitOf (s.station n).substituted k

/-- What beam k receives from the dead beams beside it (R122). -/
def State.shares (s : State) (n k c : Nat) : Nat :=
  let below := if 0 < k ∧ s.deadFiring n (k - 1) = true then
      (let l := s.ownLevel n (k - 1) c; if 1 < k ∧ s.liveFiring n (k - 2) = true then (l + 1) / 2 else l) else 0
  let above := if s.deadFiring n (k + 1) then
      (let l := s.ownLevel n (k + 1) c; if s.liveFiring n (k + 2) then l / 2 else l) else 0
  below + above

/-- The final level of beam k at column c (R97, R122). -/
def State.videoLevel (s : State) (n k c : Nat) : Nat :=
  if s.liveFiring n k then min 15 (s.ownLevel n k c + s.shares n k c) else 0

/-- The pulse width of a level, in 1/256 px (R102). -/
def State.pulseWidth (s : State) (n level : Nat) : Nat := leAt (2 * level) 2 (s.bytes (sk n 1 4))

/-- Where the pulse of a pixel starts, in 1/256 px after its leading edge (R103). -/
def State.pulseStart (s : State) (n k c : Nat) : Nat :=
  let w := s.pulseWidth n (s.videoLevel n k c)
  let before := if c = 0 then 0 else s.videoLevel n k (c - 1)
  let after := if c + 1 < s.n (sk n 1 2) then s.videoLevel n k (c + 1) else 0
  match s.n (sk n 1 3) with
  | 0 => (256 - w) / 2
  | 1 => if after < before then 0 else if before < after then 256 - w else (256 - w) / 2
  | 2 => 0
  | _ => 256 - w

/-- What a video pair shows outside the image: high impedance with the domain off, else beam-on where the module lights the beam and
beam-off where no pulse is due (R87, R106). -/
inductive Pair where
  | highZ | off | on
  deriving DecidableEq, Repr

def State.pair (s : State) (n k : Nat) : Pair := if !s.stationOn n then .highZ else if bitOf (s.litNow n) k then .on else .off

/-- The pulse of beam k at column c of the present facet: where it starts and how wide it is, in 1/256 px; none while no pulse is due,
the pin is low or the domain off (R87, R102, R103, R106). -/
def State.pulse (s : State) (n k c : Nat) : Option (Nat × Nat) :=
  let w := s.pulseWidth n (s.videoLevel n k c)
  if s.laserOn n && (s.station n).writing && (s.liveFiring n k && decide (c < s.n (sk n 1 2))) && decide (0 < w) then some (s.pulseStart n k c, w)
  else none

/-- The delay of a beam's stream from the corrected SOS time, in 1/256 px at the facet's clock: stagger plus trim (R104). -/
def State.beamDelay (s : State) (n k : Nat) : Int :=
  let trim := signed 16 (leAt (2 * k) 2 (s.bytes (K (0x3400 + 16 * n) (s.n (K (0x3400 + 16 * n) 7) + 1))))
  Int.fdiv (s.stagger n k * 256 * s.clockNow n) (16 * 10 ^ 9) + trim

/-- The clamps and the losses of substitution over the pixels of the facet (R122). -/
def State.countSubstitution (s : State) (n : Nat) : State :=
  if (s.station n).substituted = 0 ∨ (s.station n).image.count = 0 ∨ s.clockNow n = 0 then s
  else
    let cols := upFrom 0 (s.n (sk n 1 2))
    let beams := upFrom 0 32
    let clamps := total (beams.map (fun k => if s.liveFiring n k && (s.deadFiring n (k + 1) || (decide (0 < k) && s.deadFiring n (k - 1)))
      then (cols.filter (fun c => decide (15 < s.ownLevel n k c + s.shares n k c))).length else 0))
    let losses := total (beams.map (fun k => if s.deadFiring n k && !s.liveFiring n (k + 1) && !(decide (0 < k) && s.liveFiring n (k - 1))
      then (cols.filter (fun c => decide (0 < s.ownLevel n k c))).length else 0))
    (s.bumpBy (sk n 4 7) clamps).bumpBy (sk n 4 8) losses

/-! ## Beam health -/

/-- `Health summary`. -/
def State.healthSummary (s : State) (n : Nat) : Nat :=
  if adjacentPair (s.unusable n) then 2 else if s.unusable n = 0 then 0 else 1

/-- The mean width learned over a beam's last 64 crossings in GOOD, times 64; none before there are 64 (R119). -/
def learnedWidth (l : List Nat) : Option Nat := if l.length = 64 then some (total l) else none

/-- A beam becomes DEAD; next to another unusable beam it exceeds substitution (R120, R123). -/
def State.beamDies (s : State) (n b : Nat) : State :=
  let s1 := ((s.setn (sk n 4 1) (withoutBit (s.n (sk n 4 1)) b)).setn (sk n 4 2) (withBit (s.n (sk n 4 2)) b)).beamEvent n 3 b
    (s.station n).facets
  let s2 := s1.setStation n { s1.station n with second := withoutBit (s1.station n).second b }
  let u := s2.unusable n
  let low := if 0 < b ∧ bitOf u (b - 1) = true then some (b - 1) else if bitOf u (b + 1) then some b else none
  match low with
  | some k => ((s2.fault (stationSource n 2) 0x6 k).beamEvent n 4 k k).spoilImaging n 7
  | none => s2

/-- A usable beam's health after a measured facet (R119, R120). -/
def State.beamHealth (s : State) (n b : Nat) (crossing : Option Crossing) : State :=
  let g := s.station n
  let suspect := bitOf (s.n (sk n 4 1)) b
  let widths := Tab.get (fun _ => []) g.widths b
  let failed := match crossing with
    | none => true
    | some c =>
      match learnedWidth widths with
      | some w => decide (c.width * 64 * 100 < s.n (sk n 4 5) * w)
      | none => false
  if failed then
    let k := sk n 4 6
    let s1 := s.setBytes k (patch (4 * b) (leBytes 4 ((leAt (4 * b) 4 (s.bytes k) + 1) % 2 ^ 32)) (s.bytes k))
    if ¬suspect then (s1.setn (sk n 4 1) (withBit (s.n (sk n 4 1)) b)).beamEvent n 1 b 1
    else if bitOf g.second b then s1.beamDies n b
    else s1.setStation n { g with second := withBit g.second b }
  else
    let s1 := if suspect then
        ((s.setn (sk n 4 1) (withoutBit (s.n (sk n 4 1)) b)).setStation n { g with second := withoutBit g.second b }).beamEvent
          n 2 b (if bitOf g.second b then 2 else 1)
      else s
    match crossing with
    | some c =>
      if suspect then s1
      else s1.setStation n { s1.station n with widths := Tab.put (fun _ => []) g.widths b ((c.width :: widths).take 64) }
    | none => s1

/-- Beam health is evaluated at a measured facet in ACQUIRING or LOCKED with the pin high (R120). -/
def State.evaluateHealth (s : State) (n : Nat) (valid : List Crossing) : State :=
  let l := s.lockState (polygonOf n)
  if (l = 2 ∨ l = 3) ∧ s.laserOn n = true then
    s.each ((upFrom 0 32).filter (s.usable n)) (fun t b => t.beamHealth n b (valid.find? (fun c => c.beam == b)))
  else s

/-! ## A facet -/

/-- A missed or a measured facet in the scan sync state (R64, R66). A station that goes from FLYWHEEL back to SYNCED has a prediction
still and starts no new one: R515 does not say whether that is an entry to SYNCED, and the model takes it as none (log entry 181). -/
def State.syncFacet (s : State) (n : Nat) (measured : Bool) : State :=
  if measured then (if s.syncState n = 2 then s.setSync n 1 else s)
  else
    let s1 := s.bump (sc n 7)
    if s.syncState n = 1 then s1.setSync n 2
    else (s1.setSync n 3).fault (0x67 + polygonOf n) 0x8 n

/-- FACET_SOS (R63 to R67, R72 to R74, R119 to R123, R515). In SEEKING an SOS with no interval before it blanks nothing: R68 blanks for
80 % of the last interval, and there is none (log entry 183). -/
def execFacetSos (n : Nat) (crossings : List Crossing) (s : State) : Host.Outcome State Fault Refusal :=
  let g := s.station n
  let p := polygonOf n
  let first := decide (g.measured < 2)
  let window := s.n (sc n 2)
  let ready := first || (g.sosOpen && decide (g.predicted + 64 * window ≤ s.fine))
  let valid := s.crossings n window (if first then none else some g.predicted) crossings
  if s.stationOn n && (s.syncState n == 1 || s.syncState n == 2) && ready && !(first && valid.isEmpty) then
    let measured := decide (s.n (sc n 5) ≤ valid.length) && !valid.isEmpty
    let at_ := if measured then s.meanCrossing n valid else g.predicted
    let iv := g.sos.map (fun t => at_ - t)
    let last := iv.getD 0
    let lit := if s.lockState p = 1 ∧ last = 0 then g.lit else 0
    let s1 := s.setStation n { g with sos := some at_, sosOpen := false, lit := lit, returning := 0, measured := min 2 (g.measured + 1),
                                      facets := (g.facets + 1) % 65536, facetMeasured := measured, awaitEos := true,
                                      eosOpen := false, substituted := s.unusable n }
    let s2 := s1.polygonFacet n iv
    let s3 := s2.syncFacet n measured
    let s4 := if measured then (s3.learnStagger n at_ valid).evaluateHealth n valid else s3
    let s5 := (s4.loadClock n).countSubstitution n
    let s6 := s5.setStation n { s5.station n with predicted := at_ + s5.nextInterval n last }
    let s7 := if s6.lockState p = 1 ∧ 0 < last then s6.arm (tmBlank n) (at_ / 64 + last * 8 / 10 / 64) else s6
    .next (s7.refreshPolygon p)
  else .next s

/-- SEEKING_BLANKING_ELAPSED (R68): 80 % of the last interval has passed, and the usable beams are lit again. -/
def execSeekingBlankingElapsed (n : Nat) (s : State) : Host.Outcome State Fault Refusal :=
  if s.due (tmBlank n) && s.stationOn n && decide (s.lockState (polygonOf n) = 1) then
    .next ((s.disarm (tmBlank n)).light n (s.usableMask n))
  else .next s

/-- SEEK_TIMEOUT (R67): back to IDLE with fault 0x8, the stations out of use (R66); with `Lock enable` still TRUE the polygon seeks
again at once. -/
def execSeekTimeout (p : Nat) (s : State) : Host.Outcome State Fault Refusal :=
  if s.due (tmSeek p) && decide (s.lockState p = 1) then
    .next (((servedBy p).foldl State.refreshSync (((s.disarm (tmSeek p)).polygonIdle p).fault (0x67 + p) 0x8 0)).refreshPolygon p)
  else .next s

/-- The predicted EOS time of the facet, where an interval has been learned. -/
def State.predictedEos (s : State) (n : Nat) : Option Nat :=
  match (s.station n).sos with
  | some t => if (s.station n).interval = 0 then none else some (t + (s.station n).interval / 4000)
  | none => none

/-- EOS_WINDOW_OPEN (R63): the usable beams are lit for the EOS crossings. While no interval has been learned there is no predicted EOS
to open the window by; the spec says nothing, and the model lets it open at any time after the SOS (log entry 179). -/
def execEosWindowOpen (n : Nat) (s : State) : Host.Outcome State Fault Refusal :=
  let g := s.station n
  let l := s.lockState (polygonOf n)
  let time := match s.predictedEos n with
    | some t => decide (t ≤ s.fine + 64 * s.n (sc n 3))
    | none => true
  if s.stationOn n && (s.syncState n == 1 || s.syncState n == 2) && (l == 2 || l == 3) && g.awaitEos && !g.eosOpen && time then
    .next (s.setStation n { g with eosOpen := true, writing := false, lit := s.usableMask n })
  else .next s

/-- An interval learned from a measured one: the first update takes it whole (R72). -/
def learnInterval (old measured shift : Nat) (first : Bool) : Nat :=
  if first then measured else ((old : Int) + Int.fdiv ((measured : Int) - old) (2 ^ shift)).toNat

/-- T(f) and Tmean learn from a facet with a valid EOS: f is the facet the station saw at its SOS (R72). -/
def State.learnIntervals (s : State) (n eos sos : Nat) : State :=
  let g := s.station n
  let t := (eos - sos) * 4000
  let shift := s.n (sc n 4)
  let g1 := { g with meanT := learnInterval g.meanT t shift (!g.meanSeen), meanSeen := true }
  let g2 := match g.sosFacet with
    | some f =>
      if s.resolved (polygonOf n) = true ∧ g.facetMeasured = true then
        { g1 with facetT := setEight g.facetT f (learnInterval (g.t f) t shift (decide (g.u f = 0))),
                  updates := setEight g.updates f (min 256 (g.u f + 1)) }
      else g1
    | none => g1
  s.setStation n g2

/-- EOS_MEASURED (R63, R66, R72): the EOS is formed or counted as missing, and the line has ended. An EOS has too few valid crossings
where it has fewer than `Minimum SOS crossings`: R66 gives no number, and that is the model's choice (log entry 178). -/
def execEosMeasured (n : Nat) (crossings : List Crossing) (s : State) : Host.Outcome State Fault Refusal :=
  let g := s.station n
  let predicted := s.predictedEos n
  let window := s.n (sc n 3)
  let time := match predicted with
    | some t => decide (t + 64 * window ≤ s.fine)
    | none => true
  if s.stationOn n && g.eosOpen && time then
    let valid := s.crossings n window predicted crossings
    let good := decide (s.n (sc n 5) ≤ valid.length) && !valid.isEmpty
    let at_ := if good then s.meanCrossing n valid else predicted.getD 0
    let s1 := s.setStation n { g with eosOpen := false, awaitEos := false, lit := 0, writing := false, eos := at_,
                                      porch := good || predicted.isSome }
    if good then
      let s2 := s1.learnIntervals n at_ (g.sos.getD 0)
      let s3 := if g.eosRun = 0 then s2
        else (s2.setStation n { s2.station n with eosRun := 0 }).event 51 (n * 65536 + g.eosRun % 2 ^ 32 * 2 ^ 32)
      .next (release s3)
    else
      let run := g.eosRun + 1
      let s2 := (s1.bump (sc n 8)).setStation n { s1.station n with eosRun := run }
      let s3 := if run = 1 then s2.event 51 (n * 65536 + 2 ^ 24 + 2 ^ 32) else s2
      .next (release (if run = 64 then s3.fault (0x67 + polygonOf n) 0x7 n else s3))
  else .next s
where
  /-- The bands no later facet can read are released (R100). -/
  release (s : State) : State :=
    let s0 := s.closeImage n
    let m := (s0.station n).image
    if m.going then
      let s1 := s0.each (upFrom 0 12) (fun t k =>
        let b := t.buffer (n * 16 + k)
        if b.page = m.page ∧ (32 * b.band + 31 : Int) < m.frontier - m.extent - 1 then t.setBuffer (n * 16 + k) {} else t)
      s1.feedDecode n
    else s0

/-! ## The beam drivers -/

/-- Drivers fitted, and the beams each serves. -/
def State.driverCount (s : State) (n : Nat) : Nat := s.n (sk n 6 1)
def State.beamsServed (s : State) (n : Nat) : Nat := 32 / s.driverCount n

def Station.driver (g : Station) (k : Nat) : Driver := Tab.get (fun _ => {}) g.drivers k
def State.setDriver (s : State) (n k : Nat) (d : Driver) : State :=
  s.setStation n { s.station n with drivers := Tab.put (fun _ => {}) (s.station n).drivers k d }

/-- A MOSI frame (R130). -/
def mosi (cmd beam data seq : Nat) : Nat :=
  let w := cmd * 2 ^ 20 + beam * 2 ^ 15 + data * 2 ^ 3 + seq
  w * 256 + crc8 3 w 0

/-- An answer passes the checks of R134 for the frame it answers. -/
def answerGood (frame answer : Nat) : Bool :=
  decide (answer % 256 = crc8 3 (answer / 256) 0) && decide (field answer 10 8 = field frame 10 8) &&
    (decide (field answer 27 23 = field frame 27 23) && bitOf answer 31)

/-- A driver entry of an object of 16-bit values. -/
def State.setDriverWord (s : State) (n sub k v : Nat) : State :=
  s.setBytes (sk n 6 sub) (patch (2 * k) (leBytes 2 v) (s.bytes (sk n 6 sub)))

/-- `Driver state` changes: EV059 subcode 8 (R137). -/
def State.setDriverState (s : State) (n new driver : Nat) : State :=
  if s.n (sk n 6 5) = new then s else (s.setn (sk n 6 5) new).apcEvent n 8 driver new

/-- Driver k makes the station's drivers FAILED: kind 0x5 (R134). A start that fails raises it each time, also where the drivers
were FAILED before. -/
def State.startFails (s : State) (n k : Nat) : State := (s.setDriverState n 2 k).fault (stationSource n 3) 0x5 k
def State.driverFails (s : State) (n k : Nat) : State := if s.n (sk n 6 5) = 2 then s else s.startFails n k

/-- An SPI error is counted; eight in a row fail the driver (R134). -/
def State.spiError (s : State) (n k : Nat) : State :=
  let d := (s.station n).driver k
  let s1 := (s.bump (sk n 5 9)).setDriver n k { d with errors := d.errors + 1 }
  if d.errors + 1 = 8 then s1.driverFails n k else s1

/-- One exchange with driver k: the frame sent, and the good answer to the frame before it. -/
def State.exchange (s : State) (n k cmd beam data : Nat) (ans : Frame) : State × Option (Nat × Nat) :=
  let g := s.station n
  let d := g.driver k
  let f := mosi cmd beam data d.seq
  let s1 := (s.setStation n { g with sent := g.sent ++ [f] }).setDriver n k { d with seq := (d.seq + 1) % 8, last := some f }
  match d.last with
  | none => (s1, none)
  | some old =>
    match ans with
    | some a => if answerGood old a then (s1.setDriver n k { (s1.station n).driver k with errors := 0 }, some (old, a)) else (s1.spiError n k, none)
    | none => (s1.spiError n k, none)

/-- `Beam current` and `Beam sample` of a beam. -/
def State.beamCurrent (s : State) (n b : Nat) : Nat := leAt (2 * b) 2 (s.bytes (sk n 5 5))
def State.setBeamCurrent (s : State) (n b c : Nat) : State := s.setBytes (sk n 5 5) (patch (2 * b) (leBytes 2 c) (s.bytes (sk n 5 5)))

/-- The set-point of a beam: the APC curve of the active band (R117). -/
def State.apcSetpoint (s : State) (n b : Nat) : Nat :=
  leAt (2 * b) 2 (s.bytes (K (0x3401 + 16 * n) (s.n (K (0x3400 + 16 * n) 7) + 1)))

/-- The saturation mark of a beam after a sample (R116). -/
def State.saturation (s : State) (n b sample : Nat) : State :=
  let g := s.station n
  let low := decide ((sample : Int) < (s.apcSetpoint n b : Int) - s.n (sk n 5 4))
  let run := if low && decide (s.beamCurrent n b = s.n (sk n 5 2)) then Tab.get (fun _ => 0) g.saturating b + 1 else 0
  let s1 := s.setStation n { g with saturating := Tab.put (fun _ => 0) g.saturating b (min run 64) }
  let marks := s.n (sk n 5 7)
  if bitOf marks b ∧ ¬low then (s1.setn (sk n 5 7) (withoutBit marks b)).apcEvent n 2 b sample
  else if run = 64 ∧ bitOf marks b = false then (s1.setn (sk n 5 7) (withBit marks b)).apcEvent n 1 b sample
  else s1

/-- A sample moves the beam's current code (R115). -/
def State.apcSample (s : State) (n b sample : Nat) : State :=
  let s1 := (s.setBytes (sk n 5 6) (patch (2 * b) (leBytes 2 sample) (s.bytes (sk n 5 6)))).saturation n b sample
  let c : Int := s.beamCurrent n b
  let step := Int.fdiv (((s.apcSetpoint n b : Int) - sample) * s.n (sk n 5 1)) 4096
  s1.setBeamCurrent n b (clampInt 0 (s.n (sk n 5 2)) (c + step)).toNat

/-- What an answer of driver k says of the frame it answers: an APC sample, a status, a temperature, an identity or a code. ALERT in
any answer writes EV059 subcode 7 with the status last read (R135, R137). -/
def State.takeAnswer (s : State) (n k : Nat) (r : Option (Nat × Nat)) : State :=
  match r with
  | none => s
  | some (f, a) =>
    let data := field a 22 11
    let status := if field f 31 28 = 2 then data else leAt (2 * k) 2 (s.bytes (sk n 6 3))
    let s := if bitOf a 28 then s.apcEvent n 7 k status else s
    match field f 31 28 with
    | 1 => s.setDriverWord n 2 k data
    | 2 => s.setDriverWord n 3 k data
    | 4 => s.setStation n { s.station n with readBack := data }
    | 5 =>
      let b := k * s.beamsServed n + field f 27 23
      if bitOf a 29 || !s.usable n b then s else s.apcSample n b data
    | 7 => s.setDriverWord n 4 k (unsigned 16 (signed 12 data))
    | _ => s

/-- Frames sent to drivers one after another with the answers that come: driver, command, beam, data. -/
def State.exchangeAll (s : State) (n : Nat) : List (Nat × Nat × Nat × Nat) → List Frame → State
  | [], _ => s
  | (k, cmd, beam, data) :: l, ans =>
    let r := s.exchange n k cmd beam data (ans.headD none)
    State.exchangeAll (r.1.takeAnswer n k r.2) n l (ans.drop 1)

/-- One slot of the back-porch sequence: a frame to each driver, with the codes as they then stand (R113, R121). The slot of a beam
restored in this facet is not lit and writes the code the beam returns at (R124, log entry 184). -/
def State.apcSlot (s : State) (n i : Nat) : List Nat → List Frame → State
  | [], _ => s
  | k :: l, ans =>
    let b := k * s.beamsServed n + i
    let s0 := if s.usable n b then s else s.setBeamCurrent n b 0
    let r := if s.takesPart n b then s.exchange n k 5 i (s.beamCurrent n b) (ans.headD none)
      else s0.exchange n k 3 i (s0.beamCurrent n b) (ans.headD none)
    State.apcSlot (r.1.takeAnswer n k r.2) n i l (ans.drop 1)

/-- The slots of a sequence, each with its frames. -/
def State.apcSlots (s : State) (n : Nat) : List Nat → List Frame → State
  | [], ans => s.exchangeAll n ((upFrom 0 (s.driverCount n)).map (fun k => (k, 0, 0, 0))) ans
  | i :: l, ans => State.apcSlots (s.apcSlot n i (upFrom 0 (s.driverCount n)) ans) n l (ans.drop (s.driverCount n))

/-- The slots that end 0.5 µs before the next SOS window opens: 0.84 µs, then 1.36 µs a frame (R113, R114). A station with no
prediction has no window to end before. -/
def State.apcRoom (s : State) (n : Nat) : Nat :=
  if !s.predicting n then s.beamsServed n else
  let g := s.station n
  let start := g.eos + 640000
  let stop := g.predicted - 64 * s.n (sc n 2) - 32000
  let frames := (stop - start - 53760) / 87040
  (frames - s.driverCount n) / s.driverCount n

/-- APC_SEQUENCE (R113 to R117, R121): 10.0 µs after the EOS. -/
def execApcSequence (n : Nat) (answers : List Frame) (s : State) : Host.Outcome State Fault Refusal :=
  let g := s.station n
  if s.stationOn n && (s.syncState n == 1 || s.syncState n == 2) && s.laserOn n && g.porch && decide (g.eos + 640000 ≤ s.fine) then
    let all := s.beamsServed n
    let start := if g.slot < all then g.slot else 0
    let m := min (s.apcRoom n) (all - start)
    let s1 := s.setStation n { g with porch := false, sent := [], slot := if start + m < all then start + m else 0 }
    let s2 := if start + m < all then (s1.bump (sk n 5 8)).apcEvent n 3 0 (start + m) else s1
    .next (if m = 0 then s2 else s2.apcSlots n (upFrom start m) answers)
  else .next s

/-- READ_CURRENT (R131): the frame, and the NOP that collects its answer. -/
def execReadCurrent (n : Nat) (beam : Nat) (answers : List Frame) (s : State) : Host.Outcome State Fault Refusal :=
  if s.stationOn n && decide (beam < 32) then
    let k := beam / s.beamsServed n
    .next ((s.setStation n { s.station n with sent := [] }).exchangeAll n
      [(k, 4, beam % s.beamsServed n, 0), (k, 0, 0, 0)] answers)
  else .next s

/-- The driver may be polled now: its interval has passed, it is the one polled longest ago, and the frames end in time
(R135). -/
def State.pollDue (s : State) (n k : Nat) : Bool :=
  let g := s.station n
  let t := (g.driver k).polled
  decide (k < s.driverCount n) && decide (t + s.n (sk n 6 6) * 1000000 ≤ s.stamp) &&
    ((upFrom 0 (s.driverCount n)).all (fun j => decide (t ≤ (g.driver j).polled)) &&
      (decide (g.measured = 0) || (!(g.porch && s.laserOn n) && !g.awaitEos && !g.sosOpen &&
        (!s.predicting n || decide (s.fine + 261120 + 32000 + 64 * s.n (sc n 2) ≤ g.predicted)))))

/-- DRIVER_STATUS_POLL (R135): READ_STATUS, READ_TEMP and NOP. -/
def execDriverStatusPoll (n : Nat) (driver : Nat) (answers : List Frame) (s : State) : Host.Outcome State Fault Refusal :=
  if s.stationOn n && s.pollDue n driver then
    let s1 := s.setDriver n driver { (s.station n).driver driver with polled := s.stamp }
    .next ((s1.setStation n { s1.station n with sent := [] }).exchangeAll n
      [(driver, 2, 0, 0), (driver, 7, 0, 0), (driver, 0, 0, 0)] answers)
  else .next s

/-- The DATA that a start-up answer must carry; none where any will do (R133). -/
def State.startData (s : State) (n f : Nat) : Option Nat :=
  match field f 31 28 with
  | 0 => some 0
  | 1 => some (0x100 + s.beamsServed n - 1)
  | 3 => some (field f 22 11)
  | 6 => some 1
  | _ => none

/-- The start-up frames of one driver; FALSE with the state where an answer is wrong (R133). -/
def State.startFrames (s : State) (n k : Nat) : List (Nat × Nat × Nat) → List Frame → State × Bool
  | [], _ => (s, true)
  | (cmd, beam, data) :: l, ans =>
    let r := s.exchange n k cmd beam data (ans.headD none)
    let s1 := r.1.takeAnswer n k r.2
    let first := decide (((s.station n).driver k).last = none)
    let good := first || (match r.2 with
      | none => false
      | some (f, a) => match s.startData n f with
        | some d => decide (field a 22 11 = d)
        | none => true)
    if good then State.startFrames s1 n k l (ans.drop 1) else (s1, false)

/-- The frames of R133 for one driver. -/
def State.startList (s : State) (n : Nat) : List (Nat × Nat × Nat) :=
  [(1, 0, 0), (0, 0, 0), (6, 0, 1)] ++ (upFrom 0 (s.beamsServed n)).map (fun b => (3, b, s.n (sk n 5 3))) ++ [(8, 0, 0), (0, 0, 0)]

/-- The drivers of a station are started in turn until one fails (R133, R134). -/
def State.startDrivers (s : State) (n : Nat) : List Nat → List Frame → State
  | [], _ => s.setDriverState n 1 0xFF
  | k :: l, ans =>
    let s0 := s.setDriver n k { (s.station n).driver k with seq := 0, last := none, errors := 0 }
    let r := s0.startFrames n k (s0.startList n) ans
    if r.2 then State.startDrivers r.1 n l (ans.drop (s0.startList n).length) else r.1.startFails n k

def State.startStation (s : State) (n : Nat) (answers : List Frame) : State :=
  (s.setStation n { s.station n with sent := [] }).startDrivers n (upFrom 0 (s.driverCount n)) answers

/-! ## VCSEL temperature -/

/-- What the station's thermistor reads: its `Thermistor R25` and `Thermistor B` (R125). -/
def State.vcselReading (s : State) (n ohms : Nat) : Int := ntcReading ohms (s.n (sk n 7 8)) (s.n (sk n 7 9))

/-- SHUTDOWN is entered (R127). -/
def State.vcselShutdown (s : State) (n : Nat) (x : Int) : State :=
  let s1 := ((s.setb (sk n 0 3) false).fault (stationSource n 3) 0xC (unsigned 32 x)).spoilImaging n 8
  if (s1.station n).writing then s1.setStation n { s1.station n with lineEnd := true } else s1.laserLow n

/-- A reading of a station's VCSEL temperature in 0.1 °C: shown, marked where it is outside the sensor's range, and evaluated where it is
good (R125, R126, R127). -/
def State.vcselSample (s : State) (n : Nat) (reading : Int) : State :=
  let g := s.station n
  let s1 := s.seti (sk n 7 1) (clampInt (-32768) 32767 reading)
  if reading < -400 ∨ 1500 < reading then
    let s2 := s1.setStation n { g with inRange := 0 }
    if s.flag (sk n 7 7) then s2
    else ((s2.setb (sk n 7 7) true).fault (stationSource n 3) 0x7 0).apcEvent n 5 0 0
  else if s.flag (sk n 7 7) = true ∧ g.inRange + 1 < 16 then s1.setStation n { g with inRange := g.inRange + 1 }
  else
    let s2 := if s.flag (sk n 7 7) then (s1.setb (sk n 7 7) false).apcEvent n 6 0 0 else s1
    let old := if g.fresh then 0 else s.n (sk n 7 2)
    let new := temperatureState old reading (s.i (sk n 7 3)) (s.i (sk n 7 4)) (s.i (sk n 7 5)) (s.i (sk n 7 6))
    let s3 := s2.setStation n { g with inRange := 0, fresh := false,
                                       band := temperatureBand (if g.fresh then 0 else g.band) reading }
    if new = s.n (sk n 7 2) then s3
    else
      let s4 := (s3.setn (sk n 7 2) new).apcEvent n 4 new (unsigned 16 reading)
      if new = 3 then s4.vcselShutdown n reading else s4

/-- VCSEL_THERMISTOR_SAMPLE (R125 to R127): broken outside −40.0 °C to +150.0 °C. -/
def execVcselThermistorSample (n : Nat) (ohms : Nat) (s : State) : Host.Outcome State Fault Refusal :=
  if s.stationOn n then .next (s.vcselSample n (s.vcselReading n ohms)) else .next s

/-- LASER_OFF_END_OF_LINE (R127, R390). -/
def execLaserOffEndOfLine (n : Nat) (s : State) : Host.Outcome State Fault Refusal :=
  if s.stationOn n && (s.station n).lineEnd && !(s.station n).writing then .next (s.laserLow n) else .next s

/-! ## Engaging, and the domain -/

/-- The page-boundary condition of a station (R171). -/
def State.boundaryHolds (s : State) (n : Nat) : Bool :=
  (s.pagesWith (fun p => (p.state == 2 || p.state == 3 || p.state == 4) && s.names p n)).isEmpty

/-- STATION_ENGAGE_CHANGE (R84). -/
def execStationEngageChange (n : Nat) (s : State) : Host.Outcome State Fault Refusal :=
  if s.stationOn n && s.boundaryHolds n && decide (s.flag (sk n 0 1) ≠ s.engaged n) then
    .next ((s.setStationState n (if s.engaged n then 1 else 2)).refreshPolygon (polygonOf n))
  else .next s

/-- The domain of a station has been switched on (R84, R118, R133). -/
def State.stationUp (s : State) (n : Nat) (answers : List Frame) : State :=
  let s1 := (s.setStation n {}).setDriverState n 0 0xFF
  let s2 := s1.setBytes (sk n 5 5) ((upFrom 0 32).flatMap (fun _ => leBytes 2 (s1.n (sk n 5 3))))
  let s3 := (s2.setn (sk n 0 2) 1).pinEvent n 1 0
  s3.startStation n answers

/-- The domain of a station leaves ON: OFF, the pin low, the scan left (R84, R384). -/
def State.stationDown (s : State) (n : Nat) : State :=
  let old := s.stationState n
  let s1 := (((s.setn (sk n 0 2) 0).setb (sk n 0 4) false).pinEvent n 0 old).setb (sk n 0 3) false
  let s2 := (s1.leaveScan n).setStation n {}
  s2.refreshPolygon (polygonOf n)

end Sys2Proof.Machine
end

