-- ==== Sys2Proof/Machine/Pages.lean ====
section
/-! DEFINITION. Recipes, page plans and page commands, admission, commit, and the slot actions that touch pages and
outputs (R140 to R173). -/

namespace Sys2Proof.Machine

/-! ## Recipes -/

/-- The stations, the drive channels and the HV channels present on the variant (R2). -/
def State.stationThere (s : State) (n : Nat) : Bool := decide (1 ≤ n) && decide (n ≤ (if s.s6 then 6 else 4))
def State.hvThere (s : State) (h : Nat) : Bool :=
  decide (1 ≤ h) && decide (h ≤ 20) && (s.s6 || !([5, 6, 11, 12, 17, 18].contains h))

/-- The codes of a step are defined (R141, R143). -/
def Step.defined (x : Step) : Bool :=
  let t := x.target
  let a := x.argument
  decide (field x.word 63 60 = 0) && decide (field x.word 31 16 = 0) && decide (x.base ≤ 4) &&
    (decide (x.base = 1 ∧ x.axis < 8) || decide (x.base ≠ 1 ∧ x.axis = 0)) &&
    (decide (x.base = 3 ∨ x.base = 4) || decide (x.channel = 0)) &&
    (match x.action with
     | 0x01 | 0x02 | 0x03 => decide (1 ≤ t ∧ t ≤ 32 ∧ a = 0)
     | 0x10 | 0x11 | 0x12 => decide (1 ≤ t ∧ t ≤ 6 ∧ a = 0)
     | 0x20 => decide (1 ≤ t ∧ t ≤ 20 ∧ a < 4096)
     | 0x21 => decide (1 ≤ t ∧ t ≤ 20)
     | 0x22 => decide (1 ≤ t ∧ t ≤ 20 ∧ a = 0)
     | 0x30 => decide (1 ≤ t ∧ t ≤ 12 ∧ a < 64)
     | 0x31 => decide (t ≤ 10 ∧ a < 16)
     | 0x40 => decide (t = 0)
     | 0x41 => decide (1 ≤ t ∧ t ≤ 48 ∧ a < 4)
     | 0x42 => decide (1 ≤ t ∧ t ≤ 48 ∧ 1 ≤ field a 14 0)
     | 0x50 => decide (5 ≤ t ∧ t ≤ 7 ∧ a = 0)
     | _ => false) &&
    (match x.base with
     | 1 => decide (x.offset < 2 ^ 48)
     | 2 => decide (x.offset < 2 ^ 40)
     | 3 => decide (x.offset < 2 ^ 48)
     | _ => true)

/-- The OFFSET of a step meets R142. -/
def Step.offsetGood (x : Step) : Bool :=
  match x.base with
  | 0 => decide (100000 ≤ x.offset)
  | 1 => decide (2048 ≤ x.offset ∧ x.offset < 2 ^ 47)
  | 2 => decide (65536 ≤ x.offset)
  | _ => true

/-- The steps of a recipe with an action, and with an action and a target. -/
def countAction (l : List Step) (a : Nat) : Nat := (l.filter (fun x => x.action == a)).length
def countOn (l : List Step) (a t : Nat) : Nat := (l.filter (fun x => x.action == a && x.target == t)).length

/-- The structure that R144 asks of the steps. -/
def recipeStructure (stations : Nat) (web : Bool) (l : List Step) : Bool :=
  (upFrom 1 6).all (fun n => decide (countOn l 0x10 n = b2n (bitOf stations (n - 1))) && decide (countOn l 0x11 n ≤ 1) &&
      decide (countOn l 0x12 n ≤ 1)) &&
    (decide (countOn l 0x50 5 = 1) && decide (countOn l 0x50 6 = 1)) &&
    (decide (countAction l 0x42 = b2n (!web)) && decide (countOn l 0x50 7 = b2n web))

/-- A step names nothing that the variant lacks (R2). -/
def State.stepThere (s : State) (x : Step) : Bool :=
  match x.action with
  | 0x10 | 0x11 | 0x12 => s.stationThere x.target
  | 0x20 | 0x21 | 0x22 => s.hvThere x.target
  | 0x31 => s.driveThere x.target
  | _ => true

/-- A recipe names a host-owned output (R44). -/
def State.namesHostOutput (s : State) (l : List Step) : Bool :=
  l.any (fun x => decide (1 ≤ x.action ∧ x.action ≤ 3) && !bitOf (s.n (K 0x3050 2)) (x.target - 1))

/-- What refuses a recipe write (R144, R178): the detail code of the first failing condition. -/
def State.recipeFault (s : State) (b : Bytes) : Option Nat :=
  if b.isEmpty then none
  else
    let n := recipeCount b
    let l := recipeSteps b
    if n = 0 ∨ 64 < n ∨ b.length ≠ 16 + 16 * n then some 0x0901
    else if leAt 2 2 b ≠ 0 ∨ leAt 6 2 b ≠ 0 ∨ leAt 10 2 b ≠ 0 ∨ 2 ≤ leAt 5 1 b ∨ 64 ≤ recipeStations b ∨
        l.all Step.defined = false then some 0x0902
    else if l.all Step.offsetGood = false ∨ recipeDeadline b < 100 ∨ 60000 < recipeDeadline b ∨
        (recipeSpeed b ≠ 0 ∧ (recipeSpeed b < 100 ∨ 1280 < recipeSpeed b)) then some 0x0906
    else if recipeStructure (recipeStations b) (recipeWeb b) l = false then some 0x0907
    else if l.all s.stepThere = false ∨ (s.s6 = false ∧ 16 ≤ recipeStations b) then some 0x0903
    else if s.namesHostOutput l then some 0x0904
    else none

/-- `Recipe users`: the pages ADMITTED to FUSED that run it. -/
def State.recipeUsers (s : State) (r : Nat) : Nat := (s.pagesWith (fun p => p.inFlight && p.recipe == r)).length

/-! ## Page plans and page commands -/

/-- The answer to an entry of ring 56 or 57 (R148). -/
def State.answerPage (s : State) (ring index tag status : Nat) : State :=
  (s.finishEntry ring).sendPage 58 [tag + index % 65536 * 2 ^ 16 + ring * 2 ^ 32 + status * 2 ^ 40, s.stamp, 0, 0, 0, 0, 0, 0]

/-- The slot of the entry at HEAD. -/
def State.headIndex (s : State) (r : Nat) : Nat := (s.ring r).head % (s.ring r).size

/-- The status of a page plan (R146, R148). -/
def State.planStatus (s : State) (ws : List Nat) : Nat :=
  let w0 := wordAt ws 0
  let lines := field (wordAt ws 1) 31 0
  let flags := field w0 47 40
  let recipe := field w0 39 32
  let partner := field w0 31 16
  let tag := field w0 15 0
  if field w0 63 48 ≠ 0 ∨ 8 ≤ flags ∨ lines = 0 ∨ 1048576 < lines ∨ (ws.drop 3).any (fun w => w != 0) = true then 6
  else if tag = 0 ∨ 0x8000 ≤ tag ∨ (s.placeOf tag).isSome = true then 1
  else if 32 ≤ recipe ∨ (s.bytes (K (0x3510 + recipe) 1)).isEmpty = true then 2
  else if (if bitOf flags 1 then (match s.placeOf partner with
      | some i => bitOf (s.page i).flags 1
      | none => true) else partner != 0) = true then 7
  else if 64 ≤ s.pagesQueued ∨ s.freePlace = none then 3
  else 0

/-- A page plan is acted upon and answered (R146, R148). -/
def State.servePlan (s : State) (index : Nat) (ws : List Nat) : State :=
  let st := s.planStatus ws
  let w0 := wordAt ws 0
  let tag := field w0 15 0
  let s1 := s.answerPage 56 index tag st
  if st = 0 then
    let i := s.freePlace.getD 0
    let p : Page := { tag := tag, state := 0, recipe := field w0 39 32, flags := field w0 47 40, partner := field w0 31 16,
                      job := field (wordAt ws 1) 63 32, lines := field (wordAt ws 1) 31 0, notBefore := wordAt ws 2 }
    let s2 := s1.setPage i p
    let s3 := { s2 with pages := { s2.pages with order := s2.pages.order ++ [i] } }
    s3.reportPage p 0 Config.stateBeforeNew
  else s1

/-- An entry of ring 56 or 57 is taken: acted upon, or in a switch-over gap kept for the new active sequencer (R257). -/
def State.takePage (s : State) (ring : Nat) (entry : Entry) (serve : State → Nat → List Nat → State) : State :=
  if s.served then s.takeEntry ring entry (fun t ws => serve t (s.headIndex ring) ws)
  else if s.twin.switching then
    s.takeEntry ring entry (fun t ws => { t with pages := { t.pages with gapTaken := t.pages.gapTaken ++ [(ring, s.headIndex ring, ws)] } })
  else s

/-- PAGE_PLAN_SUBMIT (R146, R148): an entry of ring 56. -/
def execPagePlanSubmit (entry : Entry) (s : State) : Host.Outcome State Fault Refusal := .next (s.takePage 56 entry State.servePlan)

/-- The status of a page command (R147, R148). -/
def State.commandStatus (s : State) (ws : List Nat) : Nat :=
  let w0 := wordAt ws 0
  let cmd := field w0 39 32
  let new := field w0 31 16
  if w0 / 2 ^ 40 ≠ 0 ∨ cmd = 0 ∨ 4 < cmd ∨ (ws.drop 1).any (fun w => w != 0) = true then 6
  else
    match s.placeOf (field w0 15 0) with
    | none => 5
    | some i =>
      let p := s.page i
      let ok := match cmd with
        | 1 => p.ended
        | 2 => decide (p.state ≤ 2)
        | 3 => p.ended
        | _ => p.running
      if ok = false then 4
      else if cmd = 3 ∧ (new = 0 ∨ 0x8000 ≤ new ∨ (s.placeOf new).isSome = true) then 1
      else if cmd = 3 ∧ 64 ≤ s.pagesQueued then 3
      else 0

/-- The effect of an accepted page command. -/
def State.pageCommand (s : State) (cmd i new : Nat) : State :=
  match cmd with
  | 1 => (if (s.page i).state = 7 then s.deleteAutomatic i else s).purge i
  | 2 => ((if (s.page i).state = 2 then s.setPageState i 1 else s).deleteAutomatic i).purge i
  | 3 => s.makeReprint i (s.freePlace.getD i) new
  | _ => s.spoilPage i 14 0

/-- A page command is acted upon and answered (R147, R148). -/
def State.serveCommand (s : State) (index : Nat) (ws : List Nat) : State :=
  let st := s.commandStatus ws
  let w0 := wordAt ws 0
  let s1 := s.answerPage 57 index (field w0 15 0) st
  if st = 0 then s1.pageCommand (field w0 39 32) ((s.placeOf (field w0 15 0)).getD 0) (field w0 31 16) else s1

/-- The entries of rings 56 and 57 that were taken in the gap are acted upon, in the order they came (R257). -/
def State.serveGapPages (s : State) : State :=
  { s with pages := { s.pages with gapTaken := [] } }.each s.pages.gapTaken (fun t x =>
    if x.1 = 56 then t.servePlan x.2.1 x.2.2 else t.serveCommand x.2.1 x.2.2)

/-- An entry of ring 57 as one of the commands takes it: its own COMMAND, or one that is not defined (R147). -/
def State.takeCommand (s : State) (cmd : Nat) (entry : Entry) : State :=
  let other := match entry with
    | some ws => let c := field (wordAt ws 0) 39 32; decide (1 ≤ c ∧ c ≤ 4 ∧ c ≠ cmd)
    | none => false
  if other then s else s.takePage 57 entry State.serveCommand

/-- RELEASE (R147, R167). -/
def execRelease (entry : Entry) (s : State) : Host.Outcome State Fault Refusal := .next (s.takeCommand 1 entry)

/-- CANCEL (R147). -/
def execCancel (entry : Entry) (s : State) : Host.Outcome State Fault Refusal := .next (s.takeCommand 2 entry)

/-- REPRINT (R147, R168). -/
def execReprint (entry : Entry) (s : State) : Host.Outcome State Fault Refusal := .next (s.takeCommand 3 entry)

/-- MARK_SPOILED (R147, R152). -/
def execMarkSpoiled (entry : Entry) (s : State) : Host.Outcome State Fault Refusal := .next (s.takeCommand 4 entry)

/-! ## Admission -/

/-- An input object names an input that is active: [5:0] the input, [7] active low. -/
def inputActive (code inputs : Nat) : Bool :=
  decide (code % 64 ≠ 0) && (bitOf inputs (code % 64 - 1) != bitOf code 7)

/-- A source has a sticky bit, primary or consequential (R402). -/
def State.sticky (s : State) (source : Nat) : Bool :=
  [1, 2].any (fun sub => bitOf ((s.bytes (K 0x2201 sub)).getD (source / 8) 0).toNat (source % 8))

/-- The image geometry of a station fits (R107). -/
def State.geometryFits (s : State) (n : Nat) : Bool :=
  decide (s.n (sk n 1 1) + s.n (sk n 1 2) + 64 ≤ s.n (sc n 1) / 65536)

/-- A condition of the beam chapter bars the station (R128). -/
def State.barred (s : State) (n : Nat) : Bool :=
  adjacentPair (s.unusable n) || decide (s.n (sk n 7 2) = 3) || s.flag (sk n 7 7) || decide (s.n (sk n 6 5) ≠ 1)

/-- `Imaging ready` (R88). -/
def State.imagingReady (s : State) (n : Nat) : Bool :=
  s.engaged n && s.laserOn n && decide (s.syncState n = 1) && decide (s.loopState 1 = 2) && s.geometryFits n &&
    (!s.sticky (stationSource n 0) && !s.sticky (stationSource n 1)) && !s.barred n

/-- The admission speed of a page in µm/s: its recipe's or the default, or the present speed of A1 where that is larger
(R154). -/
def State.admissionSpeed (s : State) (b : Bytes) : Nat :=
  max ((if recipeSpeed b = 0 then s.n (K 0x3500 3) else recipeSpeed b) * 1000) (s.i (K 0x3010 4)).natAbs

/-- The band time slot B in lane cycles (R154). -/
def bandSlot (speed : Nat) : Nat := 1016000000 * 1000 / (3 * speed)

/-- The decode costs declared for a band. -/
def Page.bandCost (p : Page) (n band : Nat) : Nat := total ((p.bandBlocks n band).map Block.cost)

/-- The first band of a station that fails the decode test (R154). -/
def State.costlyBand (s : State) (p : Page) (n : Nat) : Option Nat :=
  let lanes := s.lanesInService n
  let b := bandSlot (s.admissionSpeed (s.pageRecipe p))
  if lanes < 2 then none else (upFrom 0 p.bands).find? (fun band => decide ((lanes - 1) * b < p.bandCost n band))

/-- The stations a page names, in order. -/
def State.stationsOf (s : State) (p : Page) : List Nat := (upFrom 1 6).filter (s.names p)

/-- Every band of every station of a page is stored and checked (R15, R186). -/
def State.pageStored (s : State) (p : Page) : Bool :=
  (s.stationsOf p).all (fun n => (upFrom 0 p.bands).all (fun band => p.bandStored n band))

/-- Slots of a page that has ended with its gate closed remain (R153). -/
def State.staleSlots (s : State) : Bool := s.pos.slots.any (fun x => decide (x.2.state ≠ 0) && x.2.shut)

/-- The first failing admission condition of a page: cause, station, band (R15, R153 to R155). A page of which a band is not in DRAM,
its recipe having come to name a further station, is refused with a cause that the manual does not list (log entry 170). -/
def State.refusalOf (s : State) (i inputs : Nat) : Option (Nat × Nat × Nat) :=
  let p := s.page i
  let b := s.pageRecipe p
  let ns := s.stationsOf p
  if s.pageStored p = false then some (Config.missingBandCause % 256, 0, 0)
  else match ns.find? (fun n => (s.costlyBand p n).isSome) with
  | some n => some (1, n, (s.costlyBand p n).getD 0)
  | none =>
    match ns.find? (fun n => decide (s.lanesInService n < 2)) with
    | some n => some (2, n, 0)
    | none =>
      match ns.find? (fun n => decide (s.lockState (polygonOf n) ≠ 3 ∨ s.loopState 1 ≠ 2)) with
      | some n => some (3, n, 0)
      | none =>
        if (upFrom 1 3).any (fun z => s.flag (K (0x4C00 + z) 1) && !s.flag (K (0x4C00 + z) 0xC)) then some (4, 0, 0)
        else if (recipeSteps b).any (fun x => decide (0x20 ≤ x.action ∧ x.action ≤ 0x22) &&
            !((s.n (K (0x4D00 + x.target) 2) == 1 || s.n (K (0x4D00 + x.target) 2) == 2) &&
              (s.slotOf (0x200 + x.target)).isSome)) then some (5, 0, 0)
        else if (if s.flag (K 0x3500 8) then inputActive (s.n (K 0x3500 9)) inputs || s.pages.splicePending
            else decide (s.n (K 0x3500 7) % 64 ≠ 0) && !inputActive (s.n (K 0x3500 7)) inputs) then some (6, 0, 0)
        else if 24 ≤ (s.pagesWith Page.running).length then some (7, 0, 0)
        else
          match ns.find? (fun n => !s.imagingReady n) with
          | some n => some (8, n, 0)
          | none =>
            if s.n (K 0x2200 1) = 2 then some (9, 0, 0)
            else if s.flag (K 0x2420 5) then some (0xA, 0, 0)
            else if bitOf p.flags 1 = true ∧ (match s.placeOf p.partner with
                | some j => ((s.page j).state == 6 || (s.page j).state == 7) && (s.page j).spoil == 0
                | none => false) = false then some (0xB, 0, 0)
            else if s.flag (K 0x3500 1) = false then some (0xC, 0, 0)
            else if s.power.supply ≠ 0 then some (0xD, 0, 0)
            else if b.isEmpty = true ∨ s.namesHostOutput (recipeSteps b) = true ∨ recipeWeb b ≠ s.flag (K 0x3500 8) then some (0xE, 0, 0)
            else if s.staleSlots then some (0xF, 0, 0)
            else none

/-- A refusal is recorded: `Last refusal`, and EV083 and a ring 59 entry at its first and at each change (R150, R155). -/
def State.recordRefusal (s : State) (i : Nat) (r : Nat × Nat × Nat) : State :=
  let p := s.page i
  let s1 := s.setn (K 0x3500 0x11) (r.1 + r.2.1 * 256)
  if p.refusal = r.1 then s1
  else
    let q := { p with refusal := r.1 }
    ((s1.setPage i q).event 83 (r.1 + r.2.1 * 256 + p.tag * 2 ^ 32 + r.2.2 % 65536 * 2 ^ 48)).sendPage 59
      (s.statusEntry q p.state p.state)

/-- The ADMITTED page, if there is one. -/
def State.admittedPage (s : State) : Option Nat := (s.pagesWith (fun p => p.state == 2)).head?

/-- An ADMITTED page goes back to RESIDENT (R151). -/
def State.readmit (s : State) (i : Nat) : State := (s.setPage i { s.page i with steps := [] }).setPageState i 1

/-- `Commit enable` is cleared: an ADMITTED page fails its retest with cause 0x0C and returns to RESIDENT (R153, R174). -/
def State.commitOff (s : State) : State :=
  let s1 := s.setb (K 0x3500 1) false
  match s1.admittedPage with
  | some i => (s1.recordRefusal i (0x0C, 0, 0)).readmit i
  | none => s1

/-- The commit gate is open at once: no page runs before this one (R159). -/
def State.gateOpen (s : State) : Bool := (s.pagesWith Page.running).isEmpty || s.pages.previous.isNone

/-- A1 has reached the commit gate (R156). -/
def State.gateReached (s : State) : Bool := s.gateOpen || reached 48 (s.axisPos 1) (s.n (K 0x3500 0xF))

/-- The gate lies less than `Admission lead` ahead at the present speed of A1 (R153). -/
def State.gateNear (s : State) : Bool :=
  let ahead := distance 48 (s.n (K 0x3500 0xF)) (s.axisPos 1)
  let v := (s.i (K 0x3010 4)).natAbs
  s.gateReached || decide (ahead * 25400 * 1000 < v * s.n (K 0x3500 4) * 614400)

/-- ADMISSION_TEST (R153): the ADMITTED page is retested, or the RESIDENT page at the head is tested. -/
def execAdmissionTest (inputs : Nat) (s : State) : Host.Outcome State Fault Refusal :=
  if s.served && s.on 16 then
    let s0 := { s with pos := { s.pos with inputs := s.pos.inputs / 2 ^ 48 * 2 ^ 48 + inputs % 2 ^ 48 } }
    match s0.admittedPage with
    | some i =>
      match s0.refusalOf i inputs with
      | some r => .next ((s0.recordRefusal i r).readmit i)
      | none => .next s0
    | none =>
      match s0.pages.order.head? with
      | some i =>
        if (s0.page i).state = 1 ∧ s0.gateNear = true ∧ s0.pages.stopped = false then
          match s0.refusalOf i inputs with
          | some r => .next (s0.recordRefusal i r)
          | none =>
            let p := s0.page i
            .next ((s0.setPage i { p with refusal := 0, steps := s0.bytes (K (0x3510 + p.recipe) 1) }).setPageState i 2)
        else .next s0
      | none => .next s0
  else .next s

/-! ## Commit -/

/-- The slot that a step becomes at commit (R142, R157). -/
def State.slotFor (s : State) (i j : Nat) (x : Step) : Slot :=
  let b := x.base
  let aim := match b with
    | 0 => s.stamp + x.offset
    | 1 => (s.axisPos (x.axis + 1) + x.offset) % 2 ^ 48
    | 2 => (s.pos.mains.cycle + x.offset / 65536) % 2 ^ 24 * 65536 + x.offset % 65536
    | _ => x.offset
  { state := if b < 3 then 1 else 2, base := b, axis := x.axis, channel := x.channel, action := x.action, target := x.target,
    arg := x.argument, aim := aim, tag := (s.page i).tag, page := i + 1, step := j }

/-- The lowest free slot. -/
def State.freeSlot (s : State) : Option Nat := (upFrom 0 256).find? (fun k => (s.slot k).state == 0)

/-- `Free slots`, and the slots in a state. -/
def State.slotsIn (s : State) (state : Nat) : Nat := ((upFrom 0 256).filter (fun k => (s.slot k).state == state)).length

/-- The steps of a page take the free slots in order (R157 step 3). -/
def State.armSteps (s : State) (i : Nat) : List Step → Nat → State
  | [], _ => s
  | x :: l, j =>
    match s.freeSlot with
    | some k => State.armSteps (s.setSlot k (s.slotFor i j x)) i l (j + 1)
    | none => s

/-- The blocks of a page for a station in band order, then line order (R154). -/
def Page.decodeOrder (p : Page) (n : Nat) : List Nat :=
  (upFrom 0 p.bands).flatMap (fun band => (upFrom 0 32).flatMap (fun line =>
    ((p.bandBlocks n band).filter (fun b => b.firstLine == line)).map (fun b => b.id)))

/-- The band decodes of a page are queued; a station with RELEASE_BANDS holds them (R157 step 4). -/
def State.queueDecodes (s : State) (i : Nat) : State :=
  let p := s.page i
  s.each (s.stationsOf p) (fun t n =>
    let held := (recipeSteps p.steps).any (fun x => x.action == 0x12 && x.target == n)
    (t.setQueue n (dropEmpty (t.queue n ++ [{ page := i, released := !held, blocks := p.decodeOrder n }]))).feedDecode n)

/-- The bow banks that commit gives a page (R98). -/
def State.commitBanks (s : State) (p : Page) : Nat :=
  maskOf (((s.stationsOf p).filter (fun n => s.n (sk n 3 3) == 1)).map (fun n => n - 1))

/-- The recipe uses a capture channel on which a slot of another page is PENDING (R156). -/
def State.captureBusy (s : State) (i : Nat) : Bool :=
  (recipeSteps (s.page i).steps).any (fun x => decide (3 ≤ x.base) && s.capturePending x.channel)

/-- Fewer slots are free than the recipe has steps (R16, R157). -/
def State.slotsShort (s : State) (i : Nat) : Bool := decide (s.slotsIn 0 < (recipeSteps (s.page i).steps).length)

/-- A slot of the page, armed now, would be due already (R16, R157). -/
def State.slotsLate (s : State) (i : Nat) : Bool :=
  let t := s.armSteps i (recipeSteps (s.page i).steps) 0
  t.pos.slots.any (fun x => x.2.page == i + 1 && (x.2.tag == (s.page i).tag && (x.2.state == 1 && t.slotReached x.2)))

/-- The first failing commit condition of the ADMITTED page, in the order of the table (R155, R156, R157). -/
def State.commitRefusal (s : State) (i : Nat) : Option Nat :=
  if s.slotsShort i then some 0x10
  else if s.slotsLate i then some 0x11
  else if s.stamp < (s.page i).notBefore then some 0x12
  else if s.captureBusy i then some 0x13
  else none

/-- What commit writes into the page's place: its checkpoint entry is written while the page counts as COMMITTED and its gate is still
closed (R157 steps 5 and 6). -/
def State.commitEntry (s : State) (i : Nat) : State :=
  let p := s.page i
  let q := { p with reference := s.axisPos 1, banks := s.commitBanks p, images := 0, spoil := 0, refusal := 0 }
  ((s.setPage i { q with state := 3, gate := 1 }).checkpoint 3 p.tag).setPage i { q with gate := 2 }

/-- Commit of the ADMITTED page, all or nothing in one grid step (R17, R157; log entry 23). -/
def State.commit (s : State) (i : Nat) : State :=
  let p := s.page i
  let a := s.axisPos 1
  let s3 := ((s.armSteps i (recipeSteps p.steps) 0).commitEntry i).unorder i
  let s4 := (s3.setPageState i 3).event 81 (p.tag + a * 65536)
  let s5 := ((s4.after (tmDeadline i) (recipeDeadline p.steps * 1000000)).setn (K 0x3500 0xF)
    ((a + 256 * s.n (K 0x3500 2)) % 2 ^ 48)).setn (K 0x3500 0x10) 0
  ({ s5 with pages := { s5.pages with previous := some a, gateFound := 0 } }).queueDecodes i

/-- A commit that is refused for cause 0x11 alone was undone after its slots were armed: they are freed with EV042 cause 2 (R157). -/
def State.undoCommit (s : State) (i cause : Nat) : State :=
  if cause = 0x11 ∧ (s.page i).notBefore ≤ s.stamp ∧ s.captureBusy i = false then
    (s.armSteps i (recipeSteps (s.page i).steps) 0).freeSlots (fun x => x.page == i + 1 && x.tag == (s.page i).tag) 2
  else s

/-- A throttle condition holds (R160). -/
def State.throttled (s : State) : Bool :=
  s.flag (K 0x2100 0xD) || (upFrom 1 6).any (fun n => s.stationOn n && decide (2 ≤ s.n (sk n 7 2)))

/-- What the grid step found in which A1 reached the gate: 1 no throttle condition, 2 one; a gate reached in the present step is judged
by the conditions of this step (R160). -/
def State.gateJudged (s : State) : Nat := if s.pages.gateFound = 0 then 1 + b2n s.throttled else s.pages.gateFound

/-- A grid step ends: a gate that A1 has reached in it has been judged (R160). -/
def State.noteGate (s : State) : State :=
  if s.pages.gateFound = 0 ∧ s.gateOpen = false ∧ s.gateReached = true then
    { s with pages := { s.pages with gateFound := s.gateJudged } }
  else s

/-- COMMIT (R16, R155, R156, R157): a page that a condition refuses stays ADMITTED with nothing armed. -/
def execCommit (s : State) : Host.Outcome State Fault Refusal :=
  match s.admittedPage with
  | some i =>
    if s.served && s.on 16 && s.gateReached && (s.gateOpen || decide (s.gateJudged = 1)) then
      match s.refusalOf i (s.pos.inputs % 2 ^ 48) with
      | some r => .next (s.recordRefusal i r)
      | none =>
        match s.commitRefusal i with
        | some c => .next ((s.undoCommit i c).recordRefusal i (c, 0, 0))
        | none => .next (s.commit i)
    else .next s
  | none => .next s

/-- GATE_SKIP (R160): a throttle condition held in the grid step in which A1 reached the gate. -/
def execGateSkip (s : State) : Host.Outcome State Fault Refusal :=
  if s.on 16 && !s.gateOpen && s.gateReached && decide (s.gateJudged = 2) then
    let k := (s.n (K 0x3500 0x10) + 1) % 256
    let tag := match s.admittedPage with
      | some i => (s.page i).tag
      | none => 0
    let s1 := { s with pages := { s.pages with gateFound := 0 } }
    .next (((s1.setn (K 0x3500 0x10) k).setn (K 0x3500 0xF) ((s.n (K 0x3500 0xF) + 256 * s.n (K 0x3500 2)) % 2 ^ 48)).event 84
      (1 + k * 256 + tag * 2 ^ 32))
  else .next s

/-! ## Slots that fire -/

/-- Slot k fires in this grid step: it is ARMED, evaluated and due (R11, R157). -/
def State.slotDue (s : State) (k : Nat) : Bool :=
  let x := s.slot k
  x.state == 1 && !x.shut && s.slotReached x

/-- The spoil flag of a slot's page is set in this grid step (R166). -/
def State.diverts (s : State) (x : Slot) : Bool :=
  decide (x.page ≠ 0) && (decide ((s.page (x.page - 1)).tag = x.tag) && decide ((s.page (x.page - 1)).spoil ≠ 0))

/-- What shows the setting of a DIVERT in its EV041, in the bits [31:25] that R58 names for nothing else (R166; log entry 61). -/
def State.diverterMark (s : State) (x : Slot) : Nat :=
  if x.action = 0x03 then Config.diverterMark (s.diverts x) % 128 * 2 ^ 25 else 0

/-- A slot with an action falls due: lower-numbered slots that are due fire before it (R12, R40). It is freed, counted and
recorded in EV041, and its action acts. -/
def State.fireSlot (s : State) (k action : Nat) (effect : State → Slot → State) : State :=
  let x := s.slot k
  if s.on 16 && decide (k < 256) && s.slotDue k && decide (x.action = action) && !(upFrom 0 k).any s.slotDue then
    effect (((s.setSlot k {}).bump (K 0x3040 4)).eventHw 41
      (k + action * 256 + x.target * 65536 + b2n x.late * 2 ^ 24 + x.tag * 2 ^ 32 + s.diverterMark x)) x
  else s

/-- The state that the slots give an output. -/
def State.slotOutput (s : State) (out : Nat) (on : Bool) : State :=
  { s with pos := { s.pos with slotOut := putBit s.pos.slotOut (out - 1) on } }

/-- SET_OUTPUT (R143). -/
def execSetOutput (slot : Nat) (s : State) : Host.Outcome State Fault Refusal :=
  .next (s.fireSlot slot 0x01 (fun t x => t.slotOutput x.target true))

/-- CLEAR_OUTPUT (R143). -/
def execClearOutput (slot : Nat) (s : State) : Host.Outcome State Fault Refusal :=
  .next (s.fireSlot slot 0x02 (fun t x => t.slotOutput x.target false))

/-- DIVERT (R143, R166): on if the page's spoil flag is set in this grid step. -/
def execDivert (slot : Nat) (s : State) : Host.Outcome State Fault Refusal :=
  .next (s.fireSlot slot 0x03 (fun t x => if t.diverts x then t.slotOutput x.target true else t))

/-- START_IMAGE (R90, R151). -/
def execStartImage (slot : Nat) (s : State) : Host.Outcome State Fault Refusal :=
  .next (s.fireSlot slot 0x10 (fun t x =>
    match t.slotPage x with
    | some i => (if t.stationOn x.target then t.startImage i x.target else t).advancePage i 4
    | none => t))

/-- STOP_IMAGE (R95). -/
def execStopImage (slot : Nat) (s : State) : Host.Outcome State Fault Refusal :=
  .next (s.fireSlot slot 0x11 (fun t x =>
    match t.slotPage x with
    | some i => if (t.station x.target).image.page = i + 1 then t.truncate x.target 1 else t
    | none => t))

/-- RELEASE_BANDS (R143, R157). -/
def execReleaseBands (slot : Nat) (s : State) : Host.Outcome State Fault Refusal :=
  .next (s.fireSlot slot 0x12 (fun t x =>
    match t.slotPage x with
    | some i => (t.setQueue x.target ((t.queue x.target).map (fun e => if e.page = i then { e with released := true } else e))).feedDecode
        x.target
    | none => t))

/-- RAISE_EVENT (R143): EV085. -/
def execRaiseEvent (slot : Nat) (s : State) : Host.Outcome State Fault Refusal :=
  .next (s.fireSlot slot 0x40 (fun t x => t.event 85 (x.arg + x.step * 65536 + x.tag * 2 ^ 32)))

/-- The level of an input as sampled. -/
def State.sampleInput (s : State) (input : Nat) (level : Bool) : State :=
  { s with pos := { s.pos with inputs := putBit s.pos.inputs (input - 1) level } }

/-- CHECK_INPUT (R162, R164): a level unlike ARGUMENT [0] spoils the page; with ARGUMENT [1] it is a jam. -/
def execCheckInput (slot : Nat) (level : Bool) (s : State) : Host.Outcome State Fault Refusal :=
  .next (s.fireSlot slot 0x41 (fun t x =>
    let t1 := t.sampleInput x.target level
    match t1.slotPage x with
    | some i =>
      if bitOf x.arg 0 = level then t1
      else if bitOf x.arg 1 then t1.endPageBadly i 9 x.target 3
      else t1.spoilPage i 9 x.target
    | none => t1))

/-- DELIVERY_CHECK (R162): opens the delivery window. -/
def execDeliveryCheck (slot : Nat) (s : State) : Host.Outcome State Fault Refusal :=
  .next (s.fireSlot slot 0x42 (fun t x =>
    match t.slotPage x with
    | some i => (t.setPage i { t.page i with window := some (x.target, bitOf x.arg 15) }).after (tmWindow i) (field x.arg 14 0 * 1000000)
    | none => t))

/-- Every station the page names has its image complete (R152). -/
def State.imagesComplete (s : State) (i : Nat) : Bool :=
  (s.stationsOf (s.page i)).all (fun n => bitOf (s.page i).images (n - 1))

/-- PAGE_STATE (R151, R152). -/
def execPageState (slot : Nat) (s : State) : Host.Outcome State Fault Refusal :=
  .next (s.fireSlot slot 0x50 (fun t x =>
    match t.slotPage x with
    | some i =>
      if x.target = 5 then (if t.imagesComplete i then t else t.spoilPage i 15 0).advancePage i 5
      else if x.target = 6 then t.advancePage i 6
      else t.endPage i
    | none => t))

/-! ## The ends of pages -/

/-- DELIVERY_EDGE (R151, R162): the first edge of the chosen sense within a page's window ends the page. -/
def execDeliveryEdge (input : Nat) (rising : Bool) (s : State) : Host.Outcome State Fault Refusal :=
  if s.on 16 then
    let s1 := s.sampleInput input rising
    .next (s1.each (s1.pagesWith (fun p => p.running && p.window == some (input, rising))) State.endPage)
  else .next s

/-- DELIVERY_WINDOW_EXPIRED (R162, R164). -/
def execDeliveryWindowExpired (tag : Nat) (s : State) : Host.Outcome State Fault Refusal :=
  match s.placeOf tag with
  | some i =>
    match (s.page i).window with
    | some w => if s.on 16 && (s.page i).running && s.due (tmWindow i) then .next (s.endPageBadly i 10 w.1 2) else .next s
    | none => .next s
  | none => .next s

/-- PAGE_DEADLINE_EXPIRED (R163, R164). -/
def execPageDeadlineExpired (tag : Nat) (s : State) : Host.Outcome State Fault Refusal :=
  match s.placeOf tag with
  | some i =>
    if s.on 16 && (s.page i).running && s.due (tmDeadline i) then .next ((s.bump (K 0x3500 0x15)).endPageBadly i 11 0 1)
    else .next s
  | none => .next s

/-- An input object's input takes its active level, or leaves it. -/
def State.senseInput (s : State) (code : Nat) (active : Bool) : State :=
  if code % 64 = 0 then s else s.sampleInput (code % 64) (active != bitOf code 7)

/-- WEB_BREAK (R170): every page in flight takes the spoil flag with cause 12. -/
def execWebBreak (s : State) : Host.Outcome State Fault Refusal :=
  if s.on 16 && s.flag (K 0x3500 8) && decide (s.n (K 0x3500 9) % 64 ≠ 0) then
    let s1 := (s.senseInput (s.n (K 0x3500 9)) true).event 87 1
    .next (s1.each (s1.pagesWith Page.running) (fun t i => t.spoilPage i 12 (s.n (K 0x3500 9) % 64)))
  else .next s

/-- SPLICE (R170): the splice is pending; every page COMMITTED or IMAGING takes the spoil flag with cause 13. -/
def execSplice (s : State) : Host.Outcome State Fault Refusal :=
  if s.on 16 && s.flag (K 0x3500 8) && decide (s.n (K 0x3500 0xA) % 64 ≠ 0) then
    let s1 := (s.senseInput (s.n (K 0x3500 0xA)) true).event 87 2
    let s2 := { s1 with pages := { s1.pages with splicePending := true, spliceFrom := none } }
    .next (s2.each (s2.pagesWith (fun p => p.state == 3 || p.state == 4)) (fun t i => t.spoilPage i 13 (s.n (K 0x3500 0xA) % 64)))
  else .next s

/-- SPLICE_DEACTIVATION (R170): the A1 value from which `Splice clearance` is counted. -/
def execSpliceDeactivation (s : State) : Host.Outcome State Fault Refusal :=
  if s.on 16 && s.pages.splicePending then
    let s1 := s.senseInput (s.n (K 0x3500 0xA)) false
    .next { s1 with pages := { s1.pages with spliceFrom := some (s1.axisPos 1) } }
  else .next s

/-- SPLICE_CLEARED (R170). -/
def execSpliceCleared (s : State) : Host.Outcome State Fault Refusal :=
  match s.pages.spliceFrom with
  | some a =>
    if s.on 16 && s.pages.splicePending && decide ((256 * s.n (K 0x3500 0xB) : Nat) ≤ distance 48 (s.axisPos 1) a) then
      .next ({ s with pages := { s.pages with splicePending := false, spliceFrom := none } }.event 87 3)
    else .next s
  | none => .next s

end Sys2Proof.Machine
end

