-- ==== Sys2Proof/Machine/Press.lean ====
section
/-! DEFINITION. The Press: lane states, check lanes, decode blocks, encode jobs and archive streams (R179 to R212), and the
band ingest rings (R259 to R261). -/

namespace Sys2Proof.Machine

/-- An object of the Press (R209). -/
def qk (sub : Nat) : Nat := K 0x3600 sub

/-! ## Lanes -/

/-- The lane codes (R208). -/
def decodeCodes : List Nat := upFrom 1 24
def checkCodes : List Nat := upFrom 0x41 8
def encodeCodes : List Nat := upFrom 0x81 8

/-- A lane code is defined (R208). -/
def laneCode (c : Nat) : Bool := decodeCodes.contains c || (checkCodes.contains c || encodeCodes.contains c)

/-- The domain of a lane. -/
def laneDomain (code : Nat) : Nat := if code < 0x41 then 5 else 4

/-- The station of a decode lane. -/
def laneStation (code : Nat) : Nat := (code + 3) / 4

/-- The number of a lane within its group, and the fault source of the group (R211). -/
def laneNumber (code : Nat) : Nat := if code < 0x41 then code else code % 16
def laneSource (code : Nat) : Nat := if code < 0x41 then 0x3F + laneStation code else if code < 0x81 then 0x46 else 0x47

/-- A lane changes state: EV088 (R207). -/
def State.laneTo (s : State) (code new kind : Nat) : State :=
  (s.setLane code { s.lane code with state := new }).event 88 (new + s.laneState code * 256 + code * 65536 + kind * 2 ^ 24)

/-- The lanes in service of a list, as a mask (R209). -/
def State.laneMask (s : State) (codes : List Nat) : Nat :=
  maskOf ((codes.filter s.laneServes).map (fun c => laneNumber c - 1))

/-- The ADMITTED page is tested again (R153, R173). -/
def State.retest (s : State) : State :=
  match s.admittedPage with
  | some i =>
    match s.refusalOf i (s.pos.inputs % 2 ^ 48) with
    | some r => (s.recordRefusal i r).readmit i
    | none => s
  | none => s

/-! ## Blocks written by the module -/

/-- The header of a block that the module writes (R179, R195). -/
def moduleHeader (raw body : Bytes) (flags station lineBytes band lines first : Nat) : List Nat :=
  let d := match inflate body with
    | .done d _ => d
    | _ => {}
  [raw.length * 2 ^ 32 + (flags + 6 + b2n d.stored) * 2 ^ 24 + 0x19E55, crc32 raw * 2 ^ 32 + body.length,
   d.cost * 2 ^ 32 + lineBytes * 65536 + station, band * 2 ^ 24 + lines * 256 + first]

/-- The bytes of a block. -/
def blockBytes (head : List Nat) (body : Bytes) : Bytes := wordsLe 8 head ++ body

/-! ## Check lanes -/

/-- A block on its way changes. -/
def State.updateInbound (s : State) (id : Nat) (f : Inbound → Inbound) : State :=
  { s with press := { s.press with inbound := s.press.inbound.map (fun x => if x.block.id = id then f x else x) } }

/-- A block leaves the way into the page store. -/
def State.dropInbound (s : State) (id : Nat) : State :=
  { s with press := { s.press with inbound := s.press.inbound.filter (fun x => x.block.id != id) } }

/-- Free check lanes in service take the waiting blocks, oldest first (R185). -/
def State.feedCheck (s : State) : State :=
  s.each checkCodes (fun t c =>
    if t.laneServes c && decide ((t.lane c).page = 0) then
      match t.press.inbound.find? (fun x => x.block.state == 1) with
      | some x =>
        (t.updateInbound x.block.id (fun y => { y with block := { y.block with state := 2 } })).setLane c
          { t.lane c with page := 1, block := x.block.id }
      | none => t
    else t)

/-- Test 0x04 on the fields of a band block (R185). -/
def State.bandFields (s : State) (p : Page) (station band first lines lineBytes raw : Nat) : Bool :=
  s.names p station && (s.stationThere station && (decide (band < p.bands) &&
    (decide (first + lines ≤ p.bandLines band) && decide (raw = lines * lineBytes))))

/-- Test 0x0B: no line is held by an accepted block of the band. -/
def Page.linesFree (p : Page) (station band first lines : Nat) : Bool :=
  (upFrom first lines).all (fun l => !p.lineHeld station band l)

/-- The first bytes of a block, up to a poisoned one, suffice for a test of the bytes below n. -/
def intact (poison : Option Nat) (n : Nat) : Bool :=
  match poison with
  | none => true
  | some k => decide (n ≤ k)

/-- What a check finds: its status, the measured cost, and the bytes the lane has put out (R185, R209). -/
structure Checked where
  status : Nat := 0
  cost : Nat := 0
  out : Nat := 0
  deriving DecidableEq, Repr

/-- The tests 0x06 to 0x0B of a whole stream (R183 to R185). -/
def streamTests (p : Page) (b : Block) : Checked :=
  match inflate b.body with
  | .invalid d => ⟨0x06, 0, d.len⟩
  | .short d => ⟨0x06, 0, d.len⟩
  | .before d => ⟨0x07, 0, d.len⟩
  | .done d _ =>
    if d.len ≠ b.rawLength then ⟨0x08, d.cost, d.len⟩
    else if crc32 d.rev.reverse ≠ b.crc ∨ (b.cost ≠ 0 ∧ b.cost < d.cost) then ⟨0x09, d.cost, d.len⟩
    else if costCeiling b.rawLength < max d.cost b.cost then ⟨0x0A, d.cost, d.len⟩
    else if p.linesFree b.station b.band b.firstLine b.lineCount = false then ⟨0x0B, d.cost, d.len⟩
    else ⟨0x00, d.cost, d.len⟩

/-- The tests of a stream that is poisoned from byte k on (R185): what the bytes before it decide. -/
def poisonedTests (p : Page) (b : Block) (k : Nat) : Checked :=
  match inflate (b.body.take k) with
  | .invalid d => ⟨0x06, 0, d.len⟩
  | .before d => ⟨0x07, 0, d.len⟩
  | .done d _ => ⟨0x06, 0, d.len⟩
  | .short d =>
    if costCeiling b.rawLength < b.cost then ⟨0x0A, 0, d.len⟩
    else if p.linesFree b.station b.band b.firstLine b.lineCount = false then ⟨0x0B, 0, d.len⟩
    else ⟨0x0C, 0, d.len⟩

/-- The check of a block, from test 0x03 on: the first failing test, the measured cost and the bytes put out (R185). -/
def State.checkBlock (s : State) (p : Page) (b : Block) (poison : Option Nat) : Checked :=
  if !intact poison 12 then ⟨0x0C, 0, 0⟩
  else if b.compLength ≠ b.body.length ∨ b.rawLength = 0 ∨ 1048576 < b.rawLength then ⟨0x03, 0, 0⟩
  else if !intact poison 32 then ⟨0x0C, 0, 0⟩
  else if s.bandFields p b.station b.band b.firstLine b.lineCount b.lineBytes b.rawLength = false then ⟨0x04, 0, 0⟩
  else if b.lineBytes ≠ s.n (sk b.station 1 2) / 2 then ⟨0x05, 0, 0⟩
  else
    match poison with
    | none => streamTests p b
    | some k => poisonedTests p b (k - 32)

/-- The completion of an ingest entry (R259, R261); a block loaded from the spool has none. -/
def State.ingestDone (s : State) (b : Block) (status lane cost : Nat) : State :=
  if b.ring = 64 then s
  else (s.bump (K 0x3830 (if status = 0 then 9 else 0xA))).completeInPlace b.ring b.entry
    (status * 2 ^ 56 + lane * 2 ^ 48 + (if status = 0 then cost else 0)) s.stamp

/-- EV090 (R185). -/
def State.rejectEvent (s : State) (b : Block) (tag status : Nat) : State :=
  (s.bump (qk 0xD)).event 90 (status + b.ring * 256 + b.station * 65536 + tag * 2 ^ 32 + b.band * 2 ^ 48)

/-- A QUEUED page becomes RESIDENT with its last band (R186). -/
def State.residency (s : State) (i : Nat) : State :=
  if (s.page i).state = 0 ∧ s.pageStored (s.page i) = true then s.setPageState i 1 else s

/-- A block becomes an accepted block of its page. -/
def State.acceptBlock (s : State) (i : Nat) (b : Block) : State :=
  (s.setPage i { s.page i with blocks := (s.page i).blocks ++ [{ b with state := 3 }] }).residency i

/-- A header with the measured cost filled in (R184). -/
def Block.fillCost (b : Block) (cost : Nat) : Block :=
  if b.cost = 0 then
    { b with head := [wordAt b.head 0 + 2 ^ 26, wordAt b.head 1, wordAt b.head 2 + cost * 2 ^ 32, wordAt b.head 3] }
  else b

/-- CHECK_LANE_COMPLETE (R184, R185): the lane has ended its block. -/
def execCheckLaneComplete (lane : Nat) (poison : Option Nat) (s : State) : Host.Outcome State Fault Refusal :=
  let code := 0x40 + lane
  match s.press.inbound.find? (fun x => checkCodes.contains code && (s.laneServes code &&
      (decide ((s.lane code).page ≠ 0) && (x.block.state == 2 && x.block.id == (s.lane code).block)))) with
  | none => .next s
  | some x =>
    let b := x.block
    let p := s.page (x.page - 1)
    let g := s.lane code
    let s1 := s.dropInbound b.id
    let free := { g with page := 0, block := 0 }
    if x.page = 0 then .next (((s1.setLane code free).ingestDone b 0x10 lane 0).feedCheck)
    else
      let r := s.checkBlock p b poison
      let done := { free with blocks := (g.blocks + 1) % 2 ^ 32,
                              bytes := (g.bytes + r.out) % 2 ^ 64 }
      let s2 := (s1.setLane code done).bump (qk 0xC)
      if r.status = 0 then
        let b1 := b.fillCost r.cost
        .next (((s2.acceptBlock (x.page - 1) b1).ingestDone b 0 lane b1.cost).feedCheck)
      else .next (((s2.rejectEvent b p.tag r.status).ingestDone b r.status lane 0).feedCheck)

/-! ## Decode lanes -/

/-- A block goes back to the head of its station's queue (R190, R191). -/
def State.requeue (s : State) (n i id : Nat) : State :=
  match s.queue n with
  | e :: q => if e.page = i then s.setQueue n ({ e with blocks := id :: e.blocks } :: q)
              else s.setQueue n ({ page := i, released := true, blocks := [id] } :: e :: q)
  | [] => s.setQueue n [{ page := i, released := true, blocks := [id] }]

/-- EV089 (R210). -/
def State.reissueEvent (s : State) (source dest station tag band : Nat) : State :=
  (s.bump (qk 0xE)).event 89 (source + dest * 256 + station * 65536 + tag * 2 ^ 32 + band * 2 ^ 48)

/-- The block itself is bad (R190). -/
def State.badBlock (s : State) (n i : Nat) (b : Block) : State :=
  (((s.bump (qk 0x10)).fault 0x4A 0x2 b.address).event 93 (n * 65536 + (s.page i).tag * 2 ^ 32 + b.band * 2 ^ 48))

/-- A block is no longer bound to a second lane. -/
def State.forgetRetry (s : State) (id : Nat) : State :=
  { s with press := { s.press with retries := s.press.retries.filter (fun x => x.1 != id) } }

/-- The lanes of a station in service other than one. -/
def State.otherLanes (s : State) (n code : Nat) : List Nat := (decodeLanes n).filter (fun c => c != code && s.laneServes c)

/-- A block that waits for a second lane, with none left in service, is bad at once (R190). -/
def State.stuckRetry (s : State) (n : Nat) : State :=
  match s.queue n with
  | e :: _ =>
    match e.blocks.head? with
    | some id =>
      let bar := s.barredLane id
      if bar ≠ 0 ∧ (s.otherLanes n bar).isEmpty = true then
        match (s.page e.page).block id with
        | some b => ((s.setQueue n (takeFirst (s.queue n))).forgetRetry id).badBlock n e.page b
        | none => s
      else s
    | none => s
  | [] => s

/-- The block of a decode lane that leaves service goes back to its queue (R191). -/
def State.decodeLost (s : State) (code : Nat) : State :=
  let g := s.lane code
  let n := laneStation code
  let s1 := s.setLane code { g with page := 0, block := 0 }
  let s2 := if g.page = 0 then s1
    else
      let band := match (s.page (g.page - 1)).block g.block with
        | some b => b.band
        | none => 0
      (s1.requeue n (g.page - 1) g.block).reissueEvent code 0 n (s.page (g.page - 1)).tag band
  ((s2.stuckRetry n).feedDecode n).retest

/-- The block of a check lane that leaves service goes back to the head of the waiting blocks: it has kept its place among those that
arrived, and every block taken before it arrived before those that wait (R187). -/
def State.checkLost (s : State) (code : Nat) : State :=
  let g := s.lane code
  let s1 := s.setLane code { g with page := 0, block := 0 }
  if g.page = 0 then s1
  else (s1.updateInbound g.block (fun x => { x with block := { x.block with state := 1 } })).feedCheck

/-! ## Encode lanes -/

/-- An encode lane carries an archive stream (R204). -/
def State.streams (s : State) (l : Nat) : Bool := [1, 2].any (fun k => (s.stream k).lane == l)

/-- The job in work on an encode lane: the first of its turns; on a lane that streams, only one that had begun before (R204, R206). -/
def State.inWork (s : State) (l : Nat) : Option Nat :=
  match (s.turns l).head? with
  | some id => if !s.streams l || [1, 2].any (fun k => (s.stream k).lane == l && (s.stream k).busy == id + 1) then some id else none
  | none => none

/-- A lane can take a job: in service and not streaming. -/
def State.eligible (s : State) (l : Nat) : Bool := s.laneServes (0x80 + l) && !s.streams l

/-- The eligible lanes. -/
def State.eligibles (s : State) : List Nat := (upFrom 1 8).filter s.eligible

/-- The job rings. -/
def jobRings : List Nat := upFrom 28 8

/-- A job taken from a ring, by its number. -/
def State.jobRing (s : State) (id : Nat) : Option (Nat × Job) :=
  jobRings.findSome? (fun r => ((s.jobsOf r).find? (fun j => j.id == id)).map (fun j => (r, j)))

/-- A job changes. -/
def State.updateJob (s : State) (r id : Nat) (f : Job → Job) : State :=
  s.setJobs r ((s.jobsOf r).map (fun j => if j.id = id then f j else j))

/-- The bytes queued on a lane. -/
def State.queuedBytes (s : State) (l : Nat) : Nat :=
  total ((s.turns l).map (fun id => match s.jobRing id with
    | some (_, j) => j.source.length
    | none => 0))

/-- The lane with the fewest queued bytes, the lowest of equals (R197). -/
def State.leastLane (s : State) : Option Nat :=
  s.eligibles.foldl (fun best l => match best with
    | none => some l
    | some m => if s.queuedBytes l < s.queuedBytes m then some l else some m) none

/-- The completion entry of a job (R203). -/
def Job.entry (j : Job) (status lane : Nat) (consumed : Bytes) (length cost used last stamp : Nat) : List Nat :=
  let w0 := wordAt j.words 0
  [status * 2 ^ 56 + lane * 2 ^ 48 + j.reissues * 2 ^ 40 + w0 % 2 ^ 32, length * 2 ^ 32 + crc32 consumed,
   cost * 2 ^ 32 + consumed.length, stamp, used * 2 ^ 32 + last, 0, 0, 0]

/-- The completions at the front of a ring's jobs are written in submission order (R198). -/
def State.answerJobs : Nat → State → Nat → State
  | 0, s, _ => s
  | k + 1, s, r =>
    match s.jobsOf r with
    | j :: rest =>
      match j.result with
      | some e => State.answerJobs k (((s.setJobs r rest).finishEntry r).produce (r + 8) e) r
      | none => s
    | [] => s

/-- A job ends with its completion entry; EV091 where it failed. -/
def State.endJob (s : State) (r : Nat) (j : Job) (status : Nat) (e : List Nat) : State :=
  let w0 := wordAt j.words 0
  let s1 := s.updateJob r j.id (fun x => { x with result := some e, reserved := 0 })
  let s2 := s1.each (upFrom 1 8) (fun t l =>
    if (t.turns l).contains j.id then t.setTurns l ((t.turns l).filter (fun x => x != j.id)) else t)
  let s3 := if status = 0 then s2
    else s2.event 91 (status + r * 256 + field w0 15 0 * 65536 + field w0 31 16 * 2 ^ 32)
  State.answerJobs (s3.jobsOf r).length s3 r

/-- A job fails before its lane has written anything that stands. -/
def State.failJob (s : State) (r : Nat) (j : Job) (status lane : Nat) (consumed : Bytes) : State :=
  s.endJob r j status (j.entry status lane consumed 0 0 0 0 s.stamp)

/-- A job is reissued on the eligible lane with the fewest queued bytes, ahead of that lane's own queue, at most twice (R197). -/
def State.reissueJob (s : State) (id lane : Nat) : State :=
  match s.jobRing id with
  | none => s
  | some (r, j) =>
    let s1 := s.setTurns lane ((s.turns lane).filter (fun x => x != id))
    match s1.leastLane with
    | some l =>
      if 2 ≤ j.reissues then s.failJob r j 0x09 lane j.source
      else
        let q := s1.turns l
        let s2 := (s1.setTurns l (q.take 1 ++ id :: q.drop 1)).updateJob r id (fun x => { x with reissues := x.reissues + 1 })
        s2.reissueEvent (0x80 + lane) (0x80 + l) (field (wordAt j.words 0) 39 32) (field (wordAt j.words 0) 15 0)
          (field (wordAt j.words 4) 39 24)
    | none => s.failJob r j 0x09 lane j.source

/-- The waiting jobs of a lane that leaves service are spread in order over the other eligible lanes (R198). -/
def State.spreadJobs (s : State) (lane : Nat) : List Nat → Nat → State
  | [], _ => s
  | id :: l, k =>
    let s1 := match s.jobRing id with
      | none => s
      | some (r, j) =>
        let ls := s.eligibles
        if ls.isEmpty then s.failJob r j 0x09 0 []
        else
          let dest := ls.getD (k % ls.length) 0
          (s.setTurns lane ((s.turns lane).filter (fun x => x != id))).setTurns dest (s.turns dest ++ [id])
    State.spreadJobs s1 lane l (k + 1)

/-! ## Archive streams -/

/-- The object that enables a stream's archive (R460). -/
def archiveEnable (k : Nat) : Nat := ck (if k = 1 then 4 else 3)

/-- EV092 (R210). -/
def State.streamEvent (s : State) (k what lane : Nat) : State := s.event 92 (what + (0x80 + lane) * 256 + k * 65536)

/-- A streaming block with every DEFLATE block stored (R205). -/
def plainStream : List Bytes → Bytes
  | [] => storedForm true 1 []
  | [p] => storedForm true (p.length + 1) p
  | p :: ps => (if p.isEmpty then [] else storedForm false (p.length + 1) p) ++ ([0, 0, 0, 0xFF, 0xFF] ++ plainStream ps)

/-- The DEFLATE blocks that a streaming block is made of (R194, R205): the raw bytes of each cut, and an empty stored block at each
flush. -/
def streamCuts : List Bytes → List (Option Nat)
  | [] => [some 0]
  | [p] => if p.isEmpty then [some 0] else (rawCuts (p.length + 1) p.length).map some
  | p :: ps => (rawCuts (p.length + 1) p.length).map some ++ none :: streamCuts ps

/-- A DEFLATE block is the one a cut asks for. -/
def Shape.fits (x : Shape) (c : Option Nat) : Bool :=
  match c with
  | some n => x.raw == n && x.shortest
  | none => x.type == 0 && x.raw == 0

/-- The stream of a streaming block: free where the manual does not fix it, within what R194, R196 and R205 promise (log entry 13). What
came before a flush can be decoded from the output up to its empty stored block. -/
def streamBody (level : Nat) (parts : List Bytes) : Bytes :=
  let plain := plainStream parts
  if level = 0 then plain
  else
    let z := Config.streamed parts level
    let cuts := streamCuts parts
    if inflated z = some parts.flatten ∧ z.length ≤ plain.length ∧ (shapesOf z).length = cuts.length ∧
        ((shapesOf z).zip cuts).all (fun x => x.1.fits x.2) = true then z
    else plain

/-- The open block of a stream is closed, verified and goes to its archive (R205, R460); the verify decoder's stalls are free
(R192, log entry 187). -/
def State.closeStream (s : State) (k : Nat) : State :=
  let g := s.stream k
  let raw := g.parts.flatten
  let s1 := s.setStream k { g with parts := [] }
  if raw.isEmpty then s1
  else
    let body := streamBody g.level g.parts
    let b := blockBytes (moduleHeader raw body 8 0 0 0 0 0) body
    let x := s.lane (0x80 + g.lane)
    ((s1.setLane (0x80 + g.lane)
      { x with blocks := (x.blocks + 1) % 2 ^ 32, bytes := (x.bytes + b.length) % 2 ^ 64,
               stalls := (x.stalls + Config.verifyStalls s.drawn) % 2 ^ 64 }).draw).archiveBlock k b

/-- Input for the open block, which is closed each time it reaches 1,048,576 raw bytes (R205). -/
def State.feedStream : Nat → State → Nat → Bytes → State
  | 0, s, _, _ => s
  | fuel + 1, s, k, data =>
    let g := s.stream k
    let room := 1048576 - g.parts.flatten.length
    let last := g.parts.getLast?.getD [] ++ data.take room
    let s1 := s.setStream k { g with parts := g.parts.dropLast ++ [last] }
    if data.length < room then s1 else State.feedStream fuel (s1.closeStream k) k (data.drop room)

/-- The records the event archive has not been fed: those of the trace from the sequence number on, after a loss marker for
those that have left it (R460). -/
def State.unfedRecords (s : State) : List (List Nat) :=
  let next := (s.stream 2).next
  let ps := s.ev.trace.filter (fun p => decide ((p.sequence + 65536 - next) % 65536 < 32768))
  let missed := match ps.head? with
    | some p => (p.sequence + 65536 - next) % 65536
    | none => (s.ev.sequence + 65536 - next) % 65536
  (if missed = 0 then []
   else [{ record := s.record 4 0 (missed * 2 ^ 32) false, sequence := next : Placed }.words]) ++ ps.map Placed.words

/-- A stream comes to a lane, where a job in work ends first (R204, R206). -/
def State.streamOn (s : State) (g : Stream) (l : Nat) : Stream :=
  { g with lane := l, busy := match s.inWork l with | some id => id + 1 | none => 0 }

/-- The streams follow their archives' enables and the privileged lanes (R204, R206): opened, moved, stopped or closed. -/
def State.followStream (s : State) (k : Nat) : State :=
  let g := s.stream k
  let wanted := s.flag (archiveEnable k)
  let first := if k = 1 then 7 else 8
  let serves := fun l => s.laneServes (0x80 + l)
  if !wanted then
    if g.lane = 0 then (if g.on then s.setStream k {} else s)
    else ((s.closeStream k).setStream k {}).streamEvent k 2 g.lane
  else
    let g1 := if g.on then g else { g with on := true, next := s.ev.sequence }
    let s1 := s.setStream k g1
    if g.lane = 0 then
      let l := if serves first then first else if serves (15 - first) then 15 - first else 0
      if l = 0 then s1
      else (s1.setStream k { s1.streamOn g1 l with level := Config.streamLevel k % 10 }).streamEvent k 1 l
    else if serves g.lane then s1
    else if serves (15 - g.lane) then (s1.setStream k (s1.streamOn g1 (15 - g.lane))).streamEvent k 3 (15 - g.lane)
    else (s1.setStream k { g1 with lane := 0, parts := [] }).streamEvent k 4 g.lane

/-- Both streams follow; with both privileged lanes lost, fault 0x49 (R206). -/
def State.followStreams (s : State) : State :=
  let open_ := fun (t : State) => [1, 2].any (fun k => (t.stream k).lane != 0)
  let s1 := (s.followStream 1).followStream 2
  if open_ s && !s.laneServes 0x87 && !s.laneServes 0x88 then s1.fault 0x49 0x4 0 else s1

/-! ## Lane states -/

/-- A lane leaves service, or its domain: its block, jobs and streams are placed anew (R187, R191, R198, R206, R207). The streams go
first, so that no job is given to the lane that takes them (R204). -/
def State.laneLeaves (s : State) (code new kind : Nat) : State :=
  let serving := s.laneServes code
  let s1 := if new = 3 then (s.setLane code { s.lane code with cause := kind }).laneTo code new kind else s.laneTo code new 0
  if !serving then s1
  else if code < 0x41 then s1.decodeLost code
  else if code < 0x81 then s1.checkLost code
  else
    let l := code - 0x80
    let s2 := s1.followStreams
    let s3 := match s.inWork l with
      | some id => s2.reissueJob id l
      | none => s2
    State.spreadJobs s3 l (s3.turns l) 0

/-- A lane begins its self-test (R207). -/
def State.laneTests (s : State) (code : Nat) : State := s.laneTo code 1 0

/-- The lanes of a domain, present on the variant. -/
def State.domainLanes (s : State) (pd : Nat) : List Nat :=
  (if pd = 5 then decodeCodes else checkCodes ++ encodeCodes).filter (fun c => !s.laneAbsent c)

/-- PD04 or PD05 is switched on: its lanes test themselves, and their counters start at 0 (R207, R209). -/
def State.pressUp (s : State) (pd : Nat) : State :=
  s.each (s.domainLanes pd) (fun t c => (t.setLane c { t.lane c with blocks := 0, bytes := 0, stalls := 0 }).laneTests c)

/-- PD04 or PD05 is switched off. -/
def State.pressDown (s : State) (pd : Nat) : State :=
  s.each (s.domainLanes pd) (fun t c => if t.laneState c = 0 then t else t.laneLeaves c 0 0)

/-- LANE_FAULT (R207, R211): an error inside a lane. -/
def execLaneFault (code kind : Nat) (s : State) : Host.Outcome State Fault Refusal :=
  if laneCode code && s.laneServes code && (kind == 2 || kind == 3 || kind == 4) then
    .next ((s.fault (laneSource code) kind (laneNumber code)).laneLeaves code 3 kind)
  else .next s

/-- LANE_SELF_TEST_DONE (R207). -/
def execLaneSelfTestDone (code result : Nat) (s : State) : Host.Outcome State Fault Refusal :=
  if laneCode code && decide (s.laneState code = 1) then
    let s1 := s.event 94 (min result 255 + code * 256)
    if result = 0 then
      let s2 := s1.laneTo code 2 0
      .next (if code < 0x41 then s2.feedDecode (laneStation code) else if code < 0x81 then s2.feedCheck else s2.followStreams)
    else .next (s1.laneTo code 3 0)
  else .next s

/-- The raw bytes of a block, as its check found them. -/
def Block.raw (b : Block) : Bytes := (inflated b.body).getD []

/-- The lines of a block go into its band buffer (R189). -/
def State.writeRows (s : State) (n : Nat) (b : Block) : State :=
  let k := bufferKey n b.band
  let raw := b.raw
  let rows := (upFrom 0 b.lineCount).foldl
    (fun t i => Tab.put (fun _ => []) t (b.firstLine + i) (slice (i * b.lineBytes) b.lineBytes raw)) (s.buffer k).rows
  let s1 := s.setBuffer k { s.buffer k with rows := rows, blocks := (s.buffer k).blocks ++ [b.id] }
  s1.each (upFrom b.firstLine b.lineCount) (fun t i =>
    if t.injects (0x200 + n) then (t.setBuffer k { t.buffer k with bad := i :: (t.buffer k).bad }).spendInjection 1 else t)

/-- The decode cost of a block as its check measured it, and the most cycles its decode lane stalls (R182, R193). -/
def Block.decodeCost (b : Block) : Nat :=
  match inflate b.body with
  | .done d _ => d.cost
  | _ => b.cost
def Block.mostStalls (b : Block) : Nat := divCeil b.decodeCost 4096 + 4

/-- DECODE_BLOCK_COMPLETE (R189, R190): the lane has come to the end of its block; it has stalled for at most the cycles of R193. -/
def execDecodeBlockComplete (lane : Nat) (good : Bool) (stalls : Nat) (s : State) : Host.Outcome State Fault Refusal :=
  let g := s.lane lane
  if decodeCodes.contains lane && s.laneServes lane && decide (g.page ≠ 0) then
    let n := laneStation lane
    let i := g.page - 1
    match (s.page i).block g.block with
    | none => .next ((s.setLane lane { g with page := 0, block := 0 }).feedDecode n)
    | some b =>
      let s1 := s.setLane lane { g with page := 0, block := 0, blocks := (g.blocks + 1) % 2 ^ 32, bytes := (g.bytes + b.rawLength) % 2 ^ 64,
                                        stalls := (g.stalls + min stalls b.mostStalls) % 2 ^ 64 }
      let first := s.barredLane b.id
      if good then
        let s2 := (s1.writeRows n b).forgetRetry b.id
        let s3 := if first ≠ 0 ∧ s2.laneServes first = true then s2.laneLeaves first 3 (Config.retryCause % 16) else s2
        .next (s3.feedDecode n)
      else if first = 0 ∧ (s1.otherLanes n lane).isEmpty = false then
        let s2 := { s1 with press := { s1.press with retries := s1.press.retries ++ [(b.id, lane)] } }
        .next (((s2.requeue n i b.id).reissueEvent lane 0 n (s.page i).tag b.band).feedDecode n)
      else .next (((s1.forgetRetry b.id).badBlock n i b).feedDecode n)
  else .next s

/-! ## Encode jobs -/

/-- The page store's capacity, and the bytes that pages, blocks on their way and encode jobs hold in it (R167, R214). -/
def pageStore : Nat := 30 * 2 ^ 30
def State.storeUsed (s : State) : Nat :=
  total (pagePlaces.map (fun i => total ((s.page i).blocks.map (fun b => b.length)))) +
    total (s.press.inbound.map (fun x => x.block.length)) +
    total (jobRings.map (fun r => total ((s.jobsOf r).map (fun j => j.reserved)))) + s.spoolHolds

/-- The bound of R196 on a block of r raw bytes. -/
def blockBound (r : Nat) : Nat := r + 5 * divCeil r 65535 + 32

/-- A field of a job entry is undefined, or a reserved one is not 0 (R201): status 0x02. -/
def jobFieldsBad (ws : List Nat) : Bool :=
  let w0 := wordAt ws 0
  let w2 := wordAt ws 2
  let w4 := wordAt ws 4
  let op := field w0 63 56
  !(op == 1 || op == 2) || (field w0 55 52 == 0 || 9 < field w0 55 52) || field w0 51 48 != 0 || field w0 47 43 != 0 ||
    field w2 63 48 != 0 || field w2 39 32 != 0 || field w4 63 40 != 0 || field w4 23 16 != 0 ||
    (upFrom 5 3).any (fun i => wordAt ws i != 0) || (op == 1 && (field w0 39 16 != 0 || w4 != 0)) ||
    (op == 2 && wordAt ws 3 != 0)

/-- Status 0x03 (R203). -/
def jobLengthsBad (ws : List Nat) : Bool :=
  let w2 := wordAt ws 2
  let n := field w2 47 40
  field w2 31 0 == 0 || decide (1048576 < field w2 31 0) ||
    (if field (wordAt ws 0) 63 56 = 1 then n == 0 || decide (64 < n) else n != 0)

/-- The elements of a chain list (R199); none where one has a length of 0 or a reserved bit. -/
def chainOf : Nat → Bytes → Option (List (Nat × Nat × Bool))
  | 0, _ => some []
  | k + 1, b =>
    let w := leAt 8 8 b
    if field w 31 0 = 0 ∨ field w 63 33 ≠ 0 then none
    else (chainOf k (b.drop 16)).map (fun l => (leAt 0 8 b, field w 31 0, bitOf w 32) :: l)

/-- The validation of an ENCODE_BAND job (R202): its status. -/
def State.bandStatus (s : State) (ws : List Nat) : Nat :=
  let w0 := wordAt ws 0
  let w4 := wordAt ws 4
  let n := field w0 39 32
  match s.placeOf (field w0 31 16) with
  | none => 0x05
  | some i =>
    let p := s.page i
    let lb := s.n (sk n 1 2) / 2
    if p.state ≠ 0 then 0x05
    else if s.bandFields p n (field w4 39 24) (field w4 7 0) (field w4 15 8) lb (field (wordAt ws 2) 31 0) = false then 0x04
    else if p.linesFree n (field w4 39 24) (field w4 7 0) (field w4 15 8) = false then 0x04
    else if pageStore < s.storeUsed + blockBound (field (wordAt ws 2) 31 0) then 0x06
    else 0

/-- The lane a job of ring 27 + lane goes to: the lane itself, or in turn one of the eligible lanes (R198). -/
def State.jobLane (s : State) (lane : Nat) : Option Nat :=
  if s.eligible lane then some lane
  else
    let ls := s.eligibles
    if ls.isEmpty then none else some (ls.getD (s.press.nextJob % ls.length) 0)

/-- A job joins its ring's jobs and its lane's queue. -/
def State.queueJob (s : State) (r lane : Nat) (j : Job) : State :=
  let s1 := s.setJobs r (s.jobsOf r ++ [j])
  s1.setTurns lane (s1.turns lane ++ [j.id])

/-- A job ends as it is taken. -/
def State.rejectJob (s : State) (r : Nat) (j : Job) (status lane : Nat) : State :=
  (s.setJobs r (s.jobsOf r ++ [j])).failJob r j status lane []

/-- A job is taken from its ring (R201 to R203): validated, its chain list and its source read, and queued on its lane. -/
def State.takeJob (s : State) (r lane : Nat) (ws : List Nat) (m : HostMem) (poison : Bool) : State :=
  let w0 := wordAt ws 0
  let w2 := wordAt ws 2
  let j : Job := { id := s.press.nextJob, words := ws }
  let s1 := { s with press := { s.press with nextJob := s.press.nextJob + 1 } }
  let band := decide (field w0 63 56 = 2)
  if jobFieldsBad ws then s1.rejectJob r j 0x02 0
  else if jobLengthsBad ws then s1.rejectJob r j 0x03 0
  else
    let status := if band then s.bandStatus ws else 0
    if status ≠ 0 then s1.rejectJob r j status 0
    else
      match s.jobLane lane with
      | none => s1.rejectJob r j 0x09 0
      | some l =>
        let count := field w2 47 40
        let chain := if band then some [] else s.fetch m (bitOf w0 42) (wordAt ws 3) (16 * count)
        match chain with
        | none => (if bitOf w0 42 then s1.linkFault m (wordAt ws 3) else s1.readRange 10 (wordAt ws 3) (16 * count)).rejectJob r j 0x07 l
        | some cb =>
          match chainOf count cb with
          | none => s1.rejectJob r j 0x02 0
          | some elements =>
            let s1 := if bitOf w0 42 || band then s1 else s1.readRange 10 (wordAt ws 3) (16 * count)
            match s.fetch m (bitOf w0 41) (wordAt ws 1) (field w2 31 0) with
            | none => (if bitOf w0 41 then s1.linkFault m (wordAt ws 1) else s1.readRange 10 (wordAt ws 1) (field w2 31 0)).rejectJob r j 0x07 l
            | some source =>
              let s1 := if bitOf w0 41 then s1 else s1.readRange 10 (wordAt ws 1) (field w2 31 0)
              if poison && !(bitOf w0 41 && (band || bitOf w0 42)) then s1.rejectJob r j 0x07 l
              else
                s1.queueJob r l { j with source := source, chain := elements,
                                         page := if band then (s.placeOf (field w0 31 16)).getD 0 + 1 else 0,
                                         reserved := if band then blockBound source.length else 0 }

/-- The module serves a job ring: PD04 is on, the lane does not stream, and no completion of its ring is held (R204, R263). -/
def State.servesRing (s : State) (lane : Nat) : Bool :=
  decide (1 ≤ lane) && decide (lane ≤ 8) && (s.on 4 && (!s.streams lane && (s.ring (35 + lane)).waiting.isEmpty))

/-- The opcode an entry is taken under, where it can be read. -/
def entryOpcode (e : Entry) : Option Nat := e.map (fun ws => field (wordAt ws 0) 63 56)

/-- ENCODE_BUFFER (R199, R201): the next entry of a job ring, unless it is an ENCODE_BAND job. -/
def execEncodeBuffer (lane : Nat) (entry : Entry) (host : HostMem) (poison : Bool) (s : State) :
    Host.Outcome State Fault Refusal :=
  if s.servesRing lane && decide (entryOpcode entry ≠ some 2) then
    .next (s.takeEntry (27 + lane) entry (fun t ws => t.takeJob (27 + lane) lane ws host poison))
  else .next s

/-- ENCODE_BAND (R201, R202): the next entry of a job ring, if it is an ENCODE_BAND job. -/
def execEncodeBand (lane : Nat) (entry : Entry) (host : HostMem) (poison : Bool) (s : State) :
    Host.Outcome State Fault Refusal :=
  if s.servesRing lane && decide (entryOpcode entry = some 2) then
    .next (s.takeEntry (27 + lane) entry (fun t ws => t.takeJob (27 + lane) lane ws host poison))
  else .next s

/-- Bytes are written across a chain, from an offset of the sequence on, as far as it reaches (R199). -/
def State.chainWrite (s : State) : List (Nat × Nat × Bool) → Nat → Bytes → State
  | [], _, _ => s
  | (a, n, h) :: l, skip, b =>
    if n ≤ skip then State.chainWrite s l (skip - n) b
    else if b.isEmpty then s
    else State.chainWrite (s.store 10 h (a + skip) (b.take (n - skip))) l 0 (b.drop (n - skip))

/-- Elements that n bytes use, and the bytes in the last of them (R203). -/
def chainUse : List (Nat × Nat × Bool) → Nat → Nat × Nat
  | [], _ => (0, 0)
  | (_, len, _) :: l, n =>
    if n ≤ len then (1, n)
    else let r := chainUse l (n - len); if l.isEmpty then (1, len) else (r.1 + 1, r.2)

/-- An element that the module's writes reach: in host memory while the link takes writes, or in the host window, where a granule that
is written in part must be readable (R214, R215). -/
def State.elementOpen (s : State) (writeOk : Bool) (x : Nat × Nat × Bool) : Bool :=
  if x.2.2 then writeOk && s.linkUp && s.masters else inWindow x.1 x.2.1 && s.writeBlocked x.1 x.2.1 == none

/-- An element of host memory that takes no data: source 0x7B (R266). -/
def State.elementFails (s : State) (x : Nat × Nat × Bool) : State := if x.2.2 then s.hostFault x.1 else s

/-- The bytes that the chain of a job takes before an element that does not. -/
def State.jobRoom (s : State) (j : Job) (writeOk : Bool) : Nat :=
  total ((j.chain.takeWhile (s.elementOpen writeOk)).map (fun x => x.2.1))

/-- The end of an ENCODE_BUFFER job whose output has been verified (R199, R200, R203). -/
def State.endBuffer (s : State) (r lane : Nat) (j : Job) (writeOk : Bool) : State :=
  let w0 := wordAt j.words 0
  let level := field w0 55 52
  let body := encodeStream level (bitOf w0 40) j.source
  let head := moduleHeader j.source body 0 0 0 0 0 0
  let n := 32 + body.length
  let good := j.chain.takeWhile (s.elementOpen writeOk)
  let room := s.jobRoom j writeOk
  let use := if room < n ∧ room ≤ 32 then (0, 0) else chainUse good n
  let part := j.source.take (Config.rawConsumed j.source level room % j.source.length)
  if room < n ∧ good.length < j.chain.length then
    ((s.chainWrite good 32 body).elementFails ((j.chain.drop good.length).headD (0, 0, false))).endJob r j 0x08 (j.entry 0x08 lane part 0 0 use.1 use.2 s.stamp)
  else if room < n then
    (s.chainWrite good 32 body).endJob r j 0x01 (j.entry 0x01 lane part 0 0 use.1 use.2 s.stamp)
  else
    (s.chainWrite good 0 (blockBytes head body)).endJob r j 0
      (j.entry 0 lane j.source n (field (wordAt head 2) 63 32) use.1 use.2 s.stamp)

/-- The end of an ENCODE_BAND job (R202): its block is an accepted block of the page, if the page still waits for it. -/
def State.endBand (s : State) (r lane : Nat) (j : Job) : State :=
  let w0 := wordAt j.words 0
  let w4 := wordAt j.words 4
  let n := field w0 39 32
  let i := j.page - 1
  let p := s.page i
  if p.state ≠ 0 ∨ p.tag ≠ field w0 31 16 then s.failJob r j 0x05 lane j.source
  else if p.linesFree n (field w4 39 24) (field w4 7 0) (field w4 15 8) = false then s.failJob r j 0x04 lane j.source
  else
    let body := encodeStream (field w0 55 52) (bitOf w0 40) j.source
    let head := moduleHeader j.source body 0 n (j.source.length / field w4 15 8) (field w4 39 24) (field w4 15 8) (field w4 7 0)
    let b : Block := { id := s.press.nextBlock, head := head, body := body, length := 32 + body.length,
                       address := Config.blockAddress s.drawn }
    let s1 := ({ s with press := { s.press with nextBlock := s.press.nextBlock + 1 } }.draw)
    ((s1.endJob r j 0 (j.entry 0 lane j.source b.length (field (wordAt head 2) 63 32) 0 0 s.stamp)).acceptBlock i b)

/-- The verify decoder of an encode lane has found a mismatch (R197). -/
def State.mismatch (s : State) (lane : Nat) : State := ((s.bump (qk 0xF)).fault 0x47 0xF lane).laneLeaves (0x80 + lane) 3 0xF

/-- What the lane of a job has put out when the job ends: the blocks completed, and the bytes (R200, R209). -/
def State.jobOutput (s : State) (j : Job) (writeOk : Bool) : Nat × Nat :=
  let n := 32 + (encodeStream (field (wordAt j.words 0) 55 52) (bitOf (wordAt j.words 0) 40) j.source).length
  if j.page = 0 ∧ s.jobRoom j writeOk < n then (0, s.jobRoom j writeOk - 32) else (1, n)

/-- ENCODE_JOB_COMPLETE (R197, R198): the job in work on a lane ends, or the verify decoder of the lane has found a mismatch, which on a
lane that streams is one of its open block (R206). -/
def execEncodeJobComplete (lane : Nat) (verified writeOk : Bool) (stalls : Nat) (s : State) : Host.Outcome State Fault Refusal :=
  let code := 0x80 + lane
  if decide (1 ≤ lane ∧ lane ≤ 8) && s.laneServes code then
    let g := s.lane code
    let s1 := s.setLane code { g with stalls := (g.stalls + stalls) % 2 ^ 64 }
    match (s.inWork lane).bind s.jobRing with
    | none => if !verified && s.streams lane then .next (s1.mismatch lane) else .next s
    | some (r, j) =>
      if verified then
        let out := s.jobOutput j writeOk
        let s2 := s1.setLane code { s1.lane code with blocks := (g.blocks + out.1) % 2 ^ 32, bytes := (g.bytes + out.2) % 2 ^ 64 }
        .next (if j.page = 0 then s2.endBuffer r lane j writeOk else s2.endBand r lane j)
      else .next (s1.mismatch lane)
  else .next s

/-! ## Stream commands -/

/-- A stream is open and Alinagrim feeds it (R206). -/
def State.streamFed (s : State) (k : Nat) : Bool :=
  (k == 1 || k == 2) && (s.served && (decide ((s.stream k).lane ≠ 0) && s.laneServes (0x80 + (s.stream k).lane)))

/-- A stream stands at a flush point, or between blocks. -/
def Stream.atFlush (g : Stream) : Bool := g.parts.isEmpty || (g.parts.getLast?.getD []).isEmpty

/-- The lane is the stream's: a lane that carries both alternates between them only at flush points (R206). -/
def State.streamTurn (s : State) (k : Nat) : Bool :=
  decide ((s.stream (3 - k)).lane ≠ (s.stream k).lane) || (s.stream (3 - k)).atFlush

/-- STREAM_INPUT (R205, R206, R460): Alinagrim feeds what the archive waits for. -/
def execStreamInput (k : Nat) (s : State) : Host.Outcome State Fault Refusal :=
  if s.streamFed k && s.streamTurn k then
    let g := s.stream k
    let data := if k = 1 then g.waiting else wordsLe 8 s.unfedRecords.flatten
    let s1 := s.setStream k { g with waiting := [], next := s.ev.sequence }
    .next (State.feedStream (data.length / 1048576 + 2) s1 k data)
  else .next s

/-- STREAM_FLUSH (R205): what has been given so far can be decoded from the output so far. -/
def execStreamFlush (k : Nat) (s : State) : Host.Outcome State Fault Refusal :=
  if s.streamFed k then .next (s.setStream k { s.stream k with parts := (if (s.stream k).parts.isEmpty then [[]] else (s.stream k).parts) ++ [[]] })
  else .next s

/-- STREAM_CLOSE (R205): the open block is closed. -/
def execStreamClose (k : Nat) (s : State) : Host.Outcome State Fault Refusal :=
  if s.streamFed k then .next (s.closeStream k) else .next s

/-! ## Band ingest -/

/-- A band ingest ring (R254). -/
def ingestRing (r : Nat) : Bool := decide (16 ≤ r) && decide (r ≤ 27)

/-- Blocks being fetched (R260). -/
def State.inFetch (s : State) : List Inbound := s.press.inbound.filter (fun x => x.block.state == 0)

/-- Steps 3 to 5 of R260: the status. -/
def State.ingestStatus (s : State) (r tag length : Nat) (b : Block) : Nat :=
  match s.placeOf tag with
  | none => 0x10
  | some i =>
    if (s.page i).state ≠ 0 then 0x10
    else if b.station ≠ (r - 16) / 2 + 1 ∨ b.band % 2 ≠ r % 2 then 0x11
    else if pageStore < s.storeUsed + length then 0x12
    else 0

/-- A band ingest ring holds an entry that the engine can take. -/
def State.ingestReady (s : State) (r : Nat) : Bool :=
  s.ringPresent r && decide ((s.ring r).state = 1) && decide ((s.ring r).open_ < (s.ring r).used) && !s.inFetch.any (fun x => x.block.ring == r)

/-- It is the ring's turn: none of those that the round robin comes to before it can be taken (R260). -/
def State.ingestTurn (s : State) (r : Nat) : Bool :=
  let after (q : Nat) : Nat := (q + 11 - s.press.ingestLast) % 12
  (upFrom 16 12).all (fun q => !s.ingestReady q || decide (after r ≤ after q))

/-- INGEST_BLOCK (R259, R260): the next entry of a band ingest ring, up to the reservation of its space. -/
def execIngestBlock (ring : Nat) (entry : Entry) (host : HostMem) (s : State) : Host.Outcome State Fault Refusal :=
  if ingestRing ring && s.ringPresent ring && s.on 3 && !s.inFetch.any (fun x => x.block.ring == ring) &&
      decide (s.inFetch.length < 12) && s.ingestTurn ring then
    .next (s.readInPlace ring entry (fun t0 e ws =>
      let t := { t0 with press := { t0.press with ingestLast := ring } }
      let w0 := wordAt ws 0
      let length := field (wordAt ws 2) 31 0
      let tag := field w0 15 0
      let none_ : Block := { ring := ring, entry := e }
      if field w0 63 56 ≠ 1 ∨ field w0 55 32 ≠ 0 ∨ field (wordAt ws 2) 63 32 ≠ 0 ∨ (upFrom 3 3).any (fun i => wordAt ws i != 0) = true ∨
          length < 33 ∨ 1048693 < length then t.ingestDone none_ 0x13 0 0
      else
        match hostRead host (wordAt ws 1) 32 with
        | none => (t.linkFault host (wordAt ws 1)).ingestDone none_ 0x14 0 0
        | some hb =>
          let b : Block := { none_ with id := t.press.nextBlock, head := leWords 4 8 hb, length := length,
                                        address := wordAt ws 1 }
          let early := if leAt 0 3 hb ≠ 0x19E55 then 1
            else if field (wordAt b.head 0) 31 25 ≠ 0 ∨ field (wordAt b.head 2) 15 8 ≠ 0 ∨ field (wordAt b.head 3) 63 40 ≠ 0 ∨
              field (wordAt b.head 3) 23 16 ≠ 0 then 2
            else 0
          if early ≠ 0 then (t.rejectEvent b tag early).ingestDone b early 0 0
          else
            let status := t.ingestStatus ring tag length b
            if status ≠ 0 then t.ingestDone b status 0 0
            else
              { t with press := { t.press with
                  nextBlock := t.press.nextBlock + 1,
                  inbound := t.press.inbound ++ [{ page := (t.placeOf tag).getD 0 + 1, block := b }] } }))
  else .next s

/-- INGEST_DATA_READ (R260): the rest of the block of a ring arrives, and the block waits for a check lane, after those that
arrived before it. -/
def execIngestDataRead (ring : Nat) (host : HostMem) (parity : Bool) (s : State) : Host.Outcome State Fault Refusal :=
  match s.inFetch.find? (fun x => x.block.ring == ring) with
  | none => .next s
  | some x =>
    let b := x.block
    let s1 := s.dropInbound b.id
    if parity then .next ((s1.fault 0x7C 0x3 ring).ingestDone b 0x15 0 0)
    else
      match hostRead host (b.address + 32) (b.length - 32) with
      | none => .next ((s1.linkFault host (b.address + 32)).ingestDone b 0x14 0 0)
      | some body =>
        let b1 := { b with body := body, state := 1, address := Config.blockAddress s.drawn }
        .next ({ s1 with press := { s1.press with inbound := s1.press.inbound ++ [{ x with block := b1 }] } }.draw).feedCheck

end Sys2Proof.Machine
end

