-- ==== Sys2Proof/Machine/Ladle.lean ====
section
/-! DEFINITION. The Memory Fabric's transactions and scrubber, the hardware locks, and the Ladle (R213 to R245). -/

namespace Sys2Proof.Machine

/-! ## The fabric -/

/-- An object of the Ladle (R242). -/
def ladk (sub : Nat) : Nat := K 0x3810 sub

/-- `Burst limit` of an input. -/
def State.burstLimit (s : State) (input : Nat) : Nat := s.n (K 0x3801 (input + 1))

/-- Granules that a write makes only in part (R222). -/
def partGranules (address length : Nat) : Nat :=
  let first := address / 64
  let last := (address + length - 1) / 64
  if first = last then b2n (length != 64)
  else b2n (address % 64 != 0) + b2n ((address + length) % 64 != 0)

/-- The occupancy of the fabric by a transaction, in ns (R222). -/
def occupancy (address length : Nat) (write : Bool) : Nat :=
  8 + divCeil length 32 + 16 * (if write then partGranules address length else 0)

/-- A transaction keeps to R218: no longer than the burst limit, and within one 4,096-byte block of DRAM. -/
def State.transactionGood (s : State) (input address length : Nat) : Bool :=
  decide (4 ≤ input ∧ input ≤ 15) && (decide (1 ≤ length ∧ length ≤ s.burstLimit input) &&
    (decide (address / 4096 = (address + length - 1) / 4096) && decide (address + length ≤ 0x800000000)))

/-- Grants and revoked grants of an input are counted (R219, R240). -/
def State.countGrants (s : State) (input grants revoked : Nat) : State :=
  let f := s.fabric
  { s with fabric := { f with
      grants := Tab.put (fun _ => 0) f.grants input ((Tab.get (fun _ => 0) f.grants input + grants) % 2 ^ 64),
      preemptions := Tab.put (fun _ => 0) f.preemptions input ((Tab.get (fun _ => 0) f.preemptions input + revoked) % 2 ^ 64) } }

/-- The transactions of a range of DRAM: none longer than the burst limit, none across a 4,096-byte boundary (R218). -/
def transactions (limit : Nat) : Nat → Nat → Nat → List (Nat × Nat)
  | 0, _, _ => []
  | fuel + 1, address, n =>
    if n = 0 then []
    else
      let k := max 1 (min n (min limit (4096 - address % 4096)))
      (address, k) :: transactions limit fuel (address + k) (n - k)

/-- The inputs that revoke a grant of an input: each is higher (R219). -/
def revokersGood (input : Nat) (revokers : List Nat) : Bool := revokers.all (fun r => decide (input < r) && decide (r ≤ 15))

/-- The granules of the addressable DRAM (R213, R216). -/
def granules : Nat := 2 ^ 29

/-- The scrub period's timer. -/
def tmScrub : Nat := timer 13 0

/-- A scrub pass and its period begin. -/
def State.startScrub (s : State) : State :=
  { s with fabric := { s.fabric with scrubbed := 0, late := false } }.after tmScrub (s.n (fk 5) * 1000000000)

/-- SCRUB_READ (R216): the scrubber reads the next granule in a free cycle; a pass reads them in rising order,
and no other granule than the next (log entry 188). -/
def execScrubRead (address ecc : Nat) (s : State) : Host.Outcome State Fault Refusal :=
  if s.on 3 && decide (s.fabric.scrubbed < granules) && decide (address / 64 = s.fabric.scrubbed) then
    let s1 := (s.eccError 0 s.fabric.scrubbed ecc false).readGranule 0 s.fabric.scrubbed
    let k := s1.fabric.scrubbed + 1
    let s2 := { s1 with fabric := { s1.fabric with scrubbed := k } }
    if k < granules then .next s2
    else
      let s3 := s2.bump (fk 6)
      let s4 := s3.event 99 (1 + s3.n (fk 6) * 2 ^ 32)
      .next (if s4.fabric.late then { s4 with fabric := { s4.fabric with scrubbed := 0, late := false } } else s4)
  else .next s

/-- SCRUB_PERIOD_EXPIRED (R216): the next pass begins, or the present one is late and continues. -/
def execScrubPeriodExpired (s : State) : Host.Outcome State Fault Refusal :=
  if s.on 3 && s.due tmScrub then
    if s.fabric.scrubbed < granules then
      let s1 := s.event 99 (2 + s.n (fk 6) * 2 ^ 32)
      .next ({ s1 with fabric := { s1.fabric with late := true } }.after tmScrub (s.n (fk 5) * 1000000000))
    else .next s.startScrub
  else .next s

/-! ## Locks -/

/-- The word of a lock (R225). -/
def State.lockWord (s : State) (n : Nat) : Nat :=
  let l := s.lock n
  b2n (l.owner != 0) * 2 ^ 31 + b2n l.broken * 2 ^ 30 + l.owner * 65536 + l.acquires

/-- `Locks held` and `Locks broken`. -/
def State.locksHeld (s : State) : Nat := maskOf ((upFrom 0 32).filter (fun n => (s.lock n).owner != 0))
def State.locksBroken (s : State) : Nat := maskOf ((upFrom 0 32).filter (fun n => (s.lock n).broken))

/-- EV097 (R243). -/
def State.lockEvent (s : State) (n sub old new : Nat) : State := s.event 97 (n + sub * 256 + old * 65536 + new * 2 ^ 24)

/-- A lock that is not HELD takes an owner; the flag BROKEN passes to it (R226, R227). -/
def State.takeLock (s : State) (n owner : Nat) : State :=
  let l := s.lock n
  let s1 := s.setLock n { l with owner := owner, acquires := (l.acquires + 1) % 65536 }
  if l.broken then s1.lockEvent n 2 l.lastOwner owner else s1

/-- The owner code of a Ladle channel. -/
def ladleOwner (ch : Nat) : Nat := 0x10 + ch

/-! ## The Ladle -/

/-- The lock-wait and pacing timers of a channel. -/
def tmLockWait (ch : Nat) : Nat := timer 11 ch
def tmPace (ch : Nat) : Nat := timer 12 ch

/-- Fields of a job (R229). -/
def LadleJob.opcode (j : LadleJob) : Nat := field (wordAt j.words 0) 63 56
def LadleJob.flag (j : LadleJob) (k : Nat) : Bool := bitOf (wordAt j.words 0) (48 + k)
def LadleJob.swap (j : LadleJob) : Nat := field (wordAt j.words 0) 47 40
def LadleJob.lockNumber (j : LadleJob) : Nat := field (wordAt j.words 0) 39 32
def LadleJob.paceSource (j : LadleJob) : Nat := field (wordAt j.words 0) 31 24
def LadleJob.count (j : LadleJob) : Nat := field (wordAt j.words 2) 31 0
def LadleJob.indexLength (j : LadleJob) : Nat := field (wordAt j.words 2) 63 32
def LadleJob.period (j : LadleJob) : Nat := field (wordAt j.words 5) 63 32
def LadleJob.burst (j : LadleJob) : Nat := field (wordAt j.words 5) 15 0

/-- Transfers of a job (R230, R231). -/
def LadleJob.transfers (j : LadleJob) : Nat := if j.opcode = 1 then j.count / 2 else if j.opcode = 2 then j.count else 0

/-- A field is undefined or a reserved one is not 0 (R229, R239): status 0x01. -/
def LadleJob.fieldsBad (j : LadleJob) : Bool :=
  let w0 := wordAt j.words 0
  let src := j.paceSource
  let paced := j.flag 3
  decide (2 < j.opcode) || field w0 55 54 != 0 || decide (4 < j.swap) ||
    (if j.flag 2 then decide (31 < j.lockNumber) else j.lockNumber != 0) ||
    (if paced then !(src == 1 || decide (0x11 ≤ src ∧ src ≤ 0x40)) else src != 0) ||
    (if paced && src == 1 then decide (j.period < 1000) || decide (1000000000 < j.period) else j.period != 0) ||
    (if paced then decide (j.burst < 64) || decide (4096 < j.burst) || j.burst % 64 != 0 else j.burst != 0) ||
    field w0 23 16 != 0 || field (wordAt j.words 5) 31 16 != 0

/-- COUNT or INDEX_LENGTH is out of range (R229, R239): status 0x02. -/
def LadleJob.countBad (j : LadleJob) : Bool :=
  match j.opcode with
  | 1 => j.indexLength != 0 || (decide (j.count < 2) || (decide (131072 < j.count) || j.count % 2 != 0))
  | 2 => j.indexLength == 0 || (decide (65536 < j.indexLength) || (j.count == 0 || decide (1048576 < j.count)))
  | _ => j.indexLength != 0 || j.count != 0

/-- The unit of a SWAP mode in bytes (R232). -/
def swapUnit (mode : Nat) : Nat :=
  match mode with
  | 1 => 2 | 2 => 4 | 3 => 4 | 4 => 8 | _ => 1

/-- One unit reordered (R232). -/
def swapOne (mode : Nat) (u : Bytes) : Bytes := if mode = 3 then u.drop 2 ++ u.take 2 else u.reverse

/-- Units reordered, from the first byte on. -/
def swapBytes (mode : Nat) : Nat → Bytes → Bytes
  | 0, _ => []
  | _ + 1, [] => []
  | k + 1, b => swapOne mode (b.take (swapUnit mode)) ++ swapBytes mode k (b.drop (swapUnit mode))

/-- A range of host memory overlaps a ring (R239, status 0x05). -/
def Ring.overlaps (g : Ring) (address n : Nat) : Bool := decide (address < g.base + 64 * g.size) && decide (g.base < address + n)

/-- The completion of a job: words 6 and 7 of its entry (R229). -/
def State.completeLadle (s : State) (ch : Nat) (j : LadleJob) (status w7 : Nat) : State :=
  ((((s.setLadleJob ch none).disarm (tmPace ch)).disarm (tmLockWait ch)).completeInPlace (ch - 1) j.entry
    (status * 2 ^ 56 + b2n j.brokenSeen * 2 ^ 48 + j.done % 2 ^ 48) w7)

/-- Channels that wait for a lock, in the order in which they began to wait. -/
def State.waiters (s : State) (n : Nat) : List Nat :=
  s.fabric.lockQueue.filter (fun ch => match s.ladleJob ch with
    | some j => j.lockNumber == n
    | none => false)

/-- A channel waits no more. -/
def State.unwait (s : State) (ch : Nat) : State :=
  ({ s with fabric := { s.fabric with lockQueue := s.fabric.lockQueue.filter (fun c => c != ch) } }).disarm (tmLockWait ch)

/-- A channel's job holds its lock and begins (R236). -/
def State.grantLock (s : State) (ch n : Nat) : State :=
  match s.ladleJob ch with
  | some j => ((s.setLadleJob ch (some { j with waiting := false, brokenSeen := (s.lock n).broken })).unwait ch).takeLock n (ladleOwner ch)
  | none => s

/-- A lock is not HELD any more: the first waiting job takes it. -/
def State.passLock (s : State) (n : Nat) : State :=
  match s.waiters n with
  | ch :: _ => s.grantLock ch n
  | [] => s

/-- The owner releases a lock, which clears HELD and BROKEN (R226). -/
def State.releaseLock (s : State) (n : Nat) : State :=
  (s.setLock n { s.lock n with lastOwner := (s.lock n).owner, owner := 0, broken := false }).passLock n

/-- A lock is released and marked broken (R227). -/
def State.breakLock (s : State) (n : Nat) : State :=
  let l := s.lock n
  ((s.setLock n { l with lastOwner := l.owner, owner := 0, broken := true }).lockEvent n 1 l.owner 0).passLock n

/-- Every lock of an owner breaks. -/
def State.breakLocks (s : State) (owner : Nat) : State :=
  s.each (upFrom 0 32) (fun t n => if (t.lock n).owner = owner then t.breakLock n else t)

/-- Every job in progress completes with a status, and its locks break (R227, R238). -/
def State.endLadleJobs (s : State) (status address : Nat) : State :=
  { s with fabric := { s.fabric with lockQueue := [] } }.each (upFrom 1 16) (fun t ch =>
    match t.ladleJob ch with
    | some j => (((t.unwait ch).completeLadle ch j status (if status = 0x0A then address else t.stamp))).breakLocks (ladleOwner ch)
    | none => t)

/-- The Ladle stops: every job in progress ends, and EV098 is written (R238, R244). -/
def State.haltLadle (s : State) (address : Nat) : State :=
  (((s.endLadleJobs 0x0A address).setn (ladk 0x11) 1).setn (ladk 0x12) address).event 98 (1 + address % 2 ^ 48 * 65536)

/-- A bus error on any channel stops every channel (R238). -/
def State.stopLadle (s : State) (kind address : Nat) : State := (s.haltLadle address).fault 0x78 kind address

/-- The input of the fabric that a channel presents its transactions on (R221). -/
def State.channelInput (s : State) (ch : Nat) : Nat := s.n (ladk ch)

/-- The channel's transactions for a range of DRAM are granted (R218, R219, log entry 189). -/
def State.channelGrants (s : State) (ch address n : Nat) : State :=
  let i := s.channelInput ch
  s.countGrants i (transactions (s.burstLimit i) (n + 1) address n).length 0

/-- A channel reads a range of DRAM. -/
def State.channelReads (s : State) (ch : Nat) (host : Bool) (address n : Nat) : State :=
  if host || !inWindow address n then s else (s.readRange (s.channelInput ch) address n).channelGrants ch address n

/-- The kind and the address of a failed read: of host memory; of an uncorrectable granule; or outside the host window (R238, R244). -/
def State.failKind (s : State) (m : HostMem) (host : Bool) (address n : Nat) : Nat × Nat :=
  if host then (if m.timeout then 4 else 5, address)
  else if inWindow address n then
    match s.poisoned address n with
    | some g => (2, max address (64 * g))
    | none => (5, address)
  else (5, address)

/-- Where a job stands after it has tried to go on: a bus error with its kind and address, or the job. -/
inductive JobMove where
  | bus (kind address : Nat) (host : Bool)
  | ok (j : LadleJob)
  deriving DecidableEq, Repr

/-- What a job reads of DRAM or host memory as it goes on: in host memory, address, length. -/
abbrev Reads := List (Bool × Nat × Nat)

/-- A read that has failed stops the Ladle. -/
def State.failRead (s : State) (m : HostMem) (host : Bool) (address n : Nat) : JobMove :=
  let k := s.failKind m host address n
  .bus k.1 k.2 host

/-- A transfer is loaded: its fields are checked and its source is read and reordered (R230 to R233, R239). -/
def State.loadTransfer (s : State) (ch : Nat) (j : LadleJob) (source : Nat) (sourceHost : Bool) (dest : Nat) (destHost : Bool)
    (n : Nat) : Reads × JobMove :=
  if n % swapUnit j.swap ≠ 0 then ([], .ok { j with status := 0x04, finished := true })
  else if destHost && (s.ring (ch - 1)).overlaps dest n then ([], .ok { j with status := 0x05, finished := true })
  else if !destHost && !inWindow dest n then ([], .bus 5 dest false)
  else if destHost && !(j.host.writable && s.masters) then ([], .bus (if j.host.timeout then 4 else 5) dest true)
  else
    ([(sourceHost, source, n)], match s.fetch j.host sourceHost source n with
      | none => s.failRead j.host sourceHost source n
      | some b =>
        .ok { j with next := j.next + 1, left := swapBytes j.swap (n / swapUnit j.swap + 1) b, dest := dest, destHost := destHost, size := n,
                     down := decide (source < dest) && (sourceHost == destHost) })

/-- The next transfer of a job: its element pair or its offset is fetched (R230, R231). -/
def State.nextTransfer (s : State) (ch : Nat) (j : LadleJob) : Reads × JobMove :=
  let n := if j.opcode = 1 then 32 else 4
  let at_ := wordAt j.words 1 + n * j.next
  let r : Reads × JobMove :=
    match s.fetch j.host (j.flag 1) at_ n with
    | none => ([], s.failRead j.host (j.flag 1) at_ n)
    | some b =>
      if j.opcode = 1 then
        let w1 := leAt 8 8 b
        let w3 := leAt 24 8 b
        if field w1 63 34 ≠ 0 ∨ field w3 63 34 ≠ 0 ∨ bitOf w1 32 = true ∨ bitOf w3 32 = false ∨ field w1 31 0 ≠ field w3 31 0 ∨
            field w1 31 0 = 0 then ([], .ok { j with status := 0x02, finished := true })
        else s.loadTransfer ch j (leAt 0 8 b) (bitOf w1 33) (leAt 16 8 b) (bitOf w3 33) (field w1 31 0)
      else
        s.loadTransfer ch j ((wordAt j.words 3 + ofLe b) % 2 ^ 64) (j.flag 4) ((wordAt j.words 4 + j.next * j.indexLength) % 2 ^ 64) (j.flag 5)
          j.indexLength
  ((j.flag 1, at_, n) :: r.1, r.2)

/-- A part of a transfer is written: none where a granule that it writes in part cannot be read (R215, R238). -/
def State.writePart (s : State) (ch : Nat) (host : Bool) (address : Nat) (b : Bytes) : State × Option Nat :=
  let blocked := if host then none else s.writeBlocked address b.length
  let s1 := s.store (s.channelInput ch) host address b
  (if host then s1 else s1.channelGrants ch address b.length, blocked.map (fun g => max address (64 * g)))

/-- A job moves up to a number of bytes: of the present transfer, then of the next ones (R230 to R233, R237). -/
def State.moveJob : Nat → State → Nat → LadleJob → Nat → State × JobMove
  | 0, s, _, j, _ => (s, .ok j)
  | fuel + 1, s, ch, j, budget =>
    if j.finished then (s, .ok j)
    else if j.left.isEmpty then
      if j.next = j.transfers then (s, .ok { j with finished := true })
      else if budget = 0 then (s, .ok j)
      else
        let r := s.nextTransfer ch j
        let s1 := s.each r.1 (fun t x => t.channelReads ch x.1 x.2.1 x.2.2)
        match r.2 with
        | .bus k a h => (s1.setLadleJob ch (some j), .bus k a h)
        | .ok j1 => State.moveJob fuel s1 ch j1 budget
    else if budget = 0 then (s, .ok j)
    else
      let k := min budget j.left.length
      let rest := j.left.length - k
      let r := if j.down then s.writePart ch j.destHost (j.dest + rest) (j.left.drop rest)
        else s.writePart ch j.destHost (j.dest + (j.size - j.left.length)) (j.left.take k)
      let left := if j.down then j.left.take rest else j.left.drop k
      match r.2 with
      | some a => (r.1.setLadleJob ch (some j), .bus 2 a false)
      | none => State.moveJob fuel r.1 ch { j with left := left, done := if rest = 0 then j.done + j.size else j.done } (budget - k)

/-- A job that holds what it needs moves a number of bytes. -/
def State.advanceJob (s : State) (ch budget : Nat) : State :=
  match s.ladleJob ch with
  | none => s
  | some j =>
    match State.moveJob (2 * j.transfers + 2) s ch j budget with
    | (s1, .ok j1) => s1.setLadleJob ch (some j1)
    | (s1, .bus k a h) => (if h then s1.fault 0x7B k a else s1).stopLadle k a

/-- A job begins: the pacing timer starts, and a job without pacing makes its transfers (R234, R237). -/
def State.startJob (s : State) (ch : Nat) : State :=
  match s.ladleJob ch with
  | none => s
  | some j =>
    if j.waiting then s
    else if j.flag 3 && decide (j.transfers ≠ 0) then (if j.paceSource = 1 then s.after (tmPace ch) j.period else s)
    else s.advanceJob ch (2 ^ 64)

/-- Jobs to which a lock has passed begin. -/
def State.startGranted (s : State) (before : List Nat) : State :=
  s.each before (fun t ch => if t.fabric.lockQueue.contains ch then t else t.startJob ch)

/-- A job is taken from its ring (R228, R229): validated, then given its lock or made to wait for it (R236). -/
def State.takeLadleJob (s : State) (ch e : Nat) (ws : List Nat) (m : HostMem) : State :=
  let j : LadleJob := { words := ws, entry := e, host := m }
  if j.fieldsBad then s.completeLadle ch j 0x01 s.stamp
  else if j.countBad then s.completeLadle ch j 0x02 s.stamp
  else if j.opcode = 2 ∧ s.pagesInFlight ≠ 0 then s.completeLadle ch j 0x03 s.stamp
  else if j.flag 2 then
    if (s.lock j.lockNumber).owner = 0 then ((s.setLadleJob ch (some j)).grantLock ch j.lockNumber).startJob ch
    else
      let s1 := s.setLadleJob ch (some { j with waiting := true })
      ({ s1 with fabric := { s1.fabric with lockQueue := s1.fabric.lockQueue ++ [ch] } }).after (tmLockWait ch)
        (s.n (ladk 0x13) * 1000000)
  else (s.setLadleJob ch (some j)).startJob ch

/-- The channel takes jobs: it is idle, the Ladle is RUNNING, and channel 16 is not Alinagrim's (R228, R238). -/
def State.channelTakes (s : State) (ch : Nat) : Bool :=
  decide (1 ≤ ch ∧ ch ≤ 16) && s.on 7 && decide (s.n (ladk 0x11) = 0) && decide (s.ladleJob ch = none) && (decide (ch ≠ 16) || s.served)

/-- FENCE_ONLY (R234): nothing moves, and the fence is satisfied once the channel's earlier writes are acknowledged. An entry
with an undefined opcode is taken here too. -/
def execFenceOnly (ch : Nat) (entry : Entry) (host : HostMem) (s : State) : Host.Outcome State Fault Refusal :=
  if s.channelTakes ch && decide (entryOpcode entry ≠ some 1) && decide (entryOpcode entry ≠ some 2) then
    .next (s.readInPlace (ch - 1) entry (fun t e ws => t.takeLadleJob ch e ws host))
  else .next s

/-- COPY_LIST (R230). -/
def execCopyList (ch : Nat) (entry : Entry) (host : HostMem) (s : State) : Host.Outcome State Fault Refusal :=
  if s.channelTakes ch && decide (entryOpcode entry = some 1) then
    .next (s.readInPlace (ch - 1) entry (fun t e ws => t.takeLadleJob ch e ws host))
  else .next s

/-- COPY_INDEX (R231). -/
def execCopyIndex (ch : Nat) (entry : Entry) (host : HostMem) (s : State) : Host.Outcome State Fault Refusal :=
  if s.channelTakes ch && decide (entryOpcode entry = some 2) then
    .next (s.readInPlace (ch - 1) entry (fun t e ws => t.takeLadleJob ch e ws host))
  else .next s

/-- LADLE_JOB_COMPLETE (R234, R236): the last write has left the engine; the lock is released, and its next holder begins. -/
def execLadleJobComplete (ch : Nat) (s : State) : Host.Outcome State Fault Refusal :=
  match s.ladleJob ch with
  | none => .next s
  | some j =>
    if j.finished then
      let s1 := s.completeLadle ch j j.status s.stamp
      if j.flag 2 ∧ (s1.lock j.lockNumber).owner = ladleOwner ch then
        .next ((s1.releaseLock j.lockNumber).startGranted s1.fabric.lockQueue)
      else .next s1
    else .next s

/-- The next request of a pacing timer, which counts from the job's start: of the requests that came while a burst ran, one is held
(R237). -/
def nextRequest (now due period : Nat) : Nat := due + period * max 1 ((now - due) / period)

/-- Input IN1 to IN48 that a pacing source names is high (R237). -/
def State.paceInput (s : State) (source : Nat) : Bool := bitOf s.pos.inputs (source - 0x11)

/-- LADLE_PACE_REQUEST (R237): one burst of a PACED job, when its timer or its input asks for one. -/
def execLadlePaceRequest (ch : Nat) (s : State) : Host.Outcome State Fault Refusal :=
  match s.ladleJob ch with
  | none => .next s
  | some j =>
    if j.flag 3 && !j.waiting && !j.finished then
      if j.paceSource = 1 then
        let t := s.deadline (tmPace ch)
        if s.due (tmPace ch) then .next ((s.arm (tmPace ch) (nextRequest s.stamp t j.period)).advanceJob ch j.burst) else .next s
      else if s.paceInput j.paceSource then .next (s.advanceJob ch j.burst) else .next s
    else .next s

/-- LADLE_LOCK_WAIT_EXPIRED (R236): the job has waited `Lock wait limit`. -/
def execLadleLockWaitExpired (ch : Nat) (s : State) : Host.Outcome State Fault Refusal :=
  match s.ladleJob ch with
  | none => .next s
  | some j => if j.waiting && s.due (tmLockWait ch) then .next ((s.unwait ch).completeLadle ch j 0x06 s.stamp) else .next s

/-- LADLE_BUS_ERROR (R238): an error response, a timeout or an uncorrectable read that the link or the fabric reports. -/
def execLadleBusError (kind address : Nat) (s : State) : Host.Outcome State Fault Refusal :=
  if s.on 7 && decide (s.n (ladk 0x11) = 0) && (kind == 2 || kind == 4 || kind == 5) then
    .next ((if kind = 4 then s.fault 0x7B 4 address else s).stopLadle kind address)
  else .next s

/-- FABRIC_TRANSACTION_COMPLETE (R215, R219, R222, R238): a transaction of an input has been granted, its grant revoked by each of the
higher inputs given and granted anew, and has finished; `error` is the address of an ECC error that it found. -/
def execFabricTransactionComplete (input address length : Nat) (write : Bool) (revokers : List Nat) (ecc : Ecc) (s : State) :
    Host.Outcome State Fault Refusal :=
  if s.on 3 && s.transactionGood input address length && revokersGood input revokers then
    let g := ecc.address / 64
    let read := (granulesOf address length).contains g && !(write && wholeGranule address length g)
    let bad := if read then ecc.kind else 0
    let found := if bad = 2 then some g else if write then s.writeBlocked address length else s.poisoned address length
    let s1 := (s.countGrants input (1 + revokers.length) revokers.length).eccError input g bad false
    let s2 := s1.each (granulesOf address length)
      (fun t h => if write && (bad == 2 && h == g) then t else t.touchGranule input address length write h)
    match found with
    | some h =>
      .next (if (input = 7 ∨ input = 8) ∧ s2.on 7 = true ∧ s2.n (ladk 0x11) = 0 then s2.stopLadle 2 (max address (64 * h)) else s2)
    | none => .next s2
  else .next s

/-- Function re-initialisation of the Ladle (R238, R484). -/
def State.ladleReinit (s : State) : State :=
  ((s.endLadleJobs 0x0B 0).setn (ladk 0x11) 0).event 98 2

end Sys2Proof.Machine
end

