-- ==== Sys2Proof/Machine/Link.lean ====
section
/-! DEFINITION. The Host Image Link: training and loss of the link, ring descriptors, doorbells, MSI-X and the drain bound
(R246 to R258, R262 to R267). -/

namespace Sys2Proof.Machine

/-! ## Ring states -/

/-- A ring becomes ENABLED or DISABLED: EV101 with TAIL (R251, R265). -/
def State.ringTo (s : State) (r new : Nat) : State :=
  let g := s.ring r
  let s1 := s.setRing r { g with state := new }
  if new = 1 then s1.ringEvent 1 r g.tail else if new = 0 then s1.ringEvent 2 r g.tail else s1

/-- A ring takes no new entry (R251). Every change of state writes EV101, and R265 lists no subcode for this one (log entry 192). -/
def State.drainRingOut (s : State) (r : Nat) : State :=
  if (s.ring r).state = 1 ∨ (s.ring r).state = 3 then
    ((s.setRing r { s.ring r with state := 2 }).disarm (tmDrain r)).ringEvent (Config.ringSubcode 2 % 256) r (s.ring r).tail
  else s

/-- What waits for a ring follows: entries held back, and records of the trace (R56, R263). -/
def State.roomOpened (s : State) (r : Nat) : State :=
  let s1 := s.flush r
  if 52 ≤ r ∧ r ≤ 55 then s1.drainRing r else s1

/-- The descriptor of a ring can be enabled (R250, R251); before DICTIONARY_UP only rings 62 and 63 can (R469; log entry 162). -/
def State.enableGood (s : State) (r : Nat) : Bool :=
  let g := s.ring r
  decide (g.base ≠ 0 ∧ g.base % 4096 = 0 ∧ g.shadow % 4 = 0 ∧ 4 ≤ g.log2 ∧ g.log2 ≤ 16) && (s.ringPresent r && s.linkUp) &&
    (s.twin.dictionaryUp || decide (62 ≤ r))

/-- A BAR0 write reaches the module: the link is up, and the ring exists. -/
def State.barWrite (s : State) (r : Nat) : Bool := s.linkUp && decide (r < 64)

/-- The fields of word 2 that stand while the ring is DISABLED. -/
def Ring.withWord2 (g : Ring) (w : Nat) : Ring := { g with holdoff := field w 47 32, log2 := field w 4 0 }

/-- A write of a 64-bit register: 0 whole, by a 64-bit access; 1 its low half, 2 its high half, by a 32-bit one (R248). -/
def mergePart (part old value : Nat) : Nat :=
  match part with
  | 0 => value % 2 ^ 64
  | 1 => old / 2 ^ 32 * 2 ^ 32 + value % 2 ^ 32
  | _ => value % 2 ^ 32 * 2 ^ 32 + old % 2 ^ 32

/-- A write of a word of a ring's descriptor. -/
def State.descriptorWord (s : State) (r word part value : Nat) : Nat :=
  mergePart part (((s.ring r).descriptor r).getD word 0) value

/-- RING_DESCRIPTOR_WRITE (R250, R251): BASE, SHADOW, or HOLDOFF and LOG2_SIZE; the other words are read-only. -/
def execRingDescriptorWrite (ring word : Nat) (data : BarWrite) (s : State) : Host.Outcome State Fault Refusal :=
  let g := s.ring ring
  let w := s.descriptorWord ring word data.part data.value
  if s.barWrite ring && decide (word ≤ 2) then
    if g.state ≠ 0 then .next (s.ringEvent 5 ring word)
    else if word = 0 then .next (s.setRing ring { g with base := w })
    else if word = 1 then .next (s.setRing ring { g with shadow := w })
    else .next (s.setRing ring (g.withWord2 w))
  else .next s

/-- RING_ENABLE (R251): a write of word 2 for its ENABLE bit. The fields beside it are written as in RING_DESCRIPTOR_WRITE. -/
def execRingEnable (ring : Nat) (data : BarWrite) (s : State) : Host.Outcome State Fault Refusal :=
  let g := s.ring ring
  let w := s.descriptorWord ring 2 data.part data.value
  if s.barWrite ring then
    if g.state ≠ 0 then
      let s1 := if g.withWord2 w = g then s else s.ringEvent 5 ring 2
      .next (if bitOf w 63 then s1 else s1.drainRingOut ring)
    else
      let s1 := s.setRing ring (g.withWord2 w)
      if bitOf w 63 = false then .next s1
      else if s1.enableGood ring then
        let h := s1.ring ring
        .next ((((s1.setRing ring { h with head := 0, tail := 0, entries := [], open_ := 0, done := [], inPlace := [], told := [],
                                           shadowed := 0, unsignalled := false, overrun := false }).disarm (tmMsix ring)).ringTo ring
          1).roomOpened ring)
      else if s1.ringPresent ring then .next (s1.ringEvent 3 ring w)
      else .next s1
  else .next s

/-- RING_DRAINED (R251): the last entry already taken has finished. -/
def execRingDrained (ring : Nat) (s : State) : Host.Outcome State Fault Refusal :=
  if (s.ring ring).state = 2 ∧ (s.ring ring).open_ = 0 then .next (s.ringTo ring 0) else .next s

/-- DOORBELL_WRITE (R253): HOST_POINTER is the new TAIL of a host-to-module ring, the new HEAD of a module-to-host ring. Only an
ENABLED ring takes it. -/
def execDoorbellWrite (ring value : Nat) (s : State) : Host.Outcome State Fault Refusal :=
  let g := s.ring ring
  let v := value % 2 ^ 32
  if s.barWrite ring && decide (g.state = 1) then
    if moduleToHost ring then
      let k := (v + 2 ^ 32 - g.head) % 2 ^ 32
      if g.used < k then .next (((s.ringError ring).fault 0x7A 0x5 ring).ringEvent 4 ring v)
      else
        .next ((s.setRing ring { g with head := v, entries := g.entries.drop k, told := g.told.drop k,
                                        overrun := g.overrun && decide (k = 0) }).roomOpened ring)
    else
      let k := (v + 2 ^ 32 - g.tail) % 2 ^ 32
      if g.size < g.used + k then .next (((s.ringError ring).fault 0x7A 0x5 ring).ringEvent 4 ring v)
      else .next (s.setRing ring { g with tail := v })
  else .next s

/-! ## MSI-X and the drain bound -/

/-- MSIX_HOLDOFF_EXPIRED (R256): while the module may not send, the advance stays unsignalled. -/
def execMsixHoldoffExpired (ring : Nat) (s : State) : Host.Outcome State Fault Refusal :=
  if s.due (tmMsix ring) then .next (if s.masters then s.sendMessage ring else s.disarm (tmMsix ring)) else .next s

/-- A pending message of a vector is sent where the vector is unmasked and the module may send (R256). -/
def State.sendPending (s : State) (r : Nat) : State :=
  if (s.ring r).msixPending && !(s.ring r).masked && s.masters then (s.setRing r { s.ring r with msixPending := false }).sendMessage r
  else s

/-- VECTOR_UNMASK (R248, R256): the host writes a vector's entry of the MSI-X table; with bit 0 of the control word 0 the vector is
unmasked, and a pending message is sent. -/
def execVectorUnmask (entry : VectorEntry) (s : State) : Host.Outcome State Fault Refusal :=
  if s.barWrite entry.vector then
    let table := Tab.put (fun _ => (0, 0)) s.pcie.table entry.vector (entry.address % 2 ^ 64, entry.data % 2 ^ 32)
    .next (({ s with pcie := { s.pcie with table := table } }.setRing entry.vector { s.ring entry.vector with masked := bitOf entry.control 0 }).sendPending
      entry.vector)
  else .next s

/-- The module may write again: held entries, completions, advances and messages follow (R256). -/
def State.masterOn (s : State) : State :=
  s.each (upFrom 0 64) (fun t r =>
    let t1 := ((t.roomOpened r).settleInPlace r).sendPending r
    if (t1.ring r).unsignalled && !t1.armed (tmMsix r) then t1.announce r else t1)

/-- DRAIN_BOUND_EXPIRED (R262): the oldest entry of a full ring has stayed beyond `Drain bound`. -/
def execDrainBoundExpired (ring : Nat) (s : State) : Host.Outcome State Fault Refusal :=
  let g := s.ring ring
  let late := match g.told with
    | [] => false
    | t :: _ => decide (t + s.n (K 0x3830 6) * 1000 < s.stamp)
  if moduleToHost ring && (decide (g.state = 1) && (decide (g.size ≤ g.used) && (late && !g.overrun))) then
    let s1 := (s.setRing ring { g with overrun := true }).bump (K 0x3830 7)
    .next (s1.ringEvent 6 ring (s1.n (K 0x3830 7)))
  else .next s

/-! ## The link -/

/-- EV100 (R265). -/
def State.linkEvent (s : State) (cause : Nat) : State :=
  s.event 100 (s.n (K 0x3830 1) + s.n (K 0x3830 2) * 256 + s.n (K 0x3830 3) * 65536 + cause * 2 ^ 24)

/-- LINK_TRAINED (R247): each change of speed or width is reported; a link that comes up writes EV100 with the cause of a retrain. The
function is in D0, and Bus Master Enable is as the host sets it then (log entry 193). -/
def execLinkTrained (speed : Nat) (link : Trained) (s : State) : Host.Outcome State Fault Refusal :=
  if s.on 7 && (decide (1 ≤ speed ∧ speed ≤ 5) && [1, 2, 4].contains link.width) then
    let same := s.flag (K 0x3830 1) && (decide (s.n (K 0x3830 2) = speed) && decide (s.n (K 0x3830 3) = link.width))
    let s1 := { s with pcie := { s.pcie with busMaster := link.master, d3hot := false } }.bumpBy (K 0x3830 0xB) link.errors
    let s2 := if same then s1
      else (((s1.setb (K 0x3830 1) true).setn (K 0x3830 2) speed).setn (K 0x3830 3) link.width).linkEvent 5
    .next (if s2.masters then s2.masterOn else s2)
  else .next s

/-- Band ingest entries not yet completed are discarded with their data; HEAD stays at the first of them (R258). -/
def State.discardIngest (s : State) : State :=
  let gone := (s.press.inbound.filter (fun x => ingestRing x.block.ring)).map (fun x => x.block.id)
  let s1 := { s with press := { s.press with inbound := s.press.inbound.filter (fun x => !ingestRing x.block.ring) } }
  let s2 := s1.each checkCodes (fun t c =>
    if (t.lane c).page ≠ 0 ∧ gone.contains (t.lane c).block then t.setLane c { t.lane c with page := 0, block := 0 } else t)
  (s2.each (upFrom 16 12) (fun t r => t.setRing r { t.ring r with open_ := 0, done := [] })).feedCheck

/-- What every host-memory access answers from here on: an error response. -/
def noHost : HostMem := ⟨[], false, false⟩

/-- Ladle and Crock work finds host memory gone: a Ladle transfer that is being written there fails at once, and everything else
at its next access (R238, R258). -/
def State.hostGone (s : State) : State :=
  let writing := (upFrom 1 16).findSome? (fun ch =>
    (s.ladleJob ch).bind (fun j => if j.destHost && !j.left.isEmpty then some j.dest else none))
  let s1 := match writing with
    | some a => s.stopLadle 5 a
    | none => s
  let s2 := s1.each (upFrom 1 16) (fun t ch =>
    match t.ladleJob ch with
    | some j => t.setLadleJob ch (some { j with host := noHost })
    | none => t)
  { s2 with crock := { s2.crock with commands := s2.crock.commands.map (fun c => { c with host := noHost }) } }

/-- The link is lost (R227, R258): 1 link down, 2 conventional or hot reset, 3 FLR, 4 D3hot. The link itself stays trained but
for 1; Bus Master Enable is clear after each but D3hot (log entry 193). -/
def State.linkLost (s : State) (cause : Nat) : State :=
  let q := s.fabric.lockQueue
  let s1 := (s.each (upFrom 0 64) State.drainRingOut).discardIngest.hostGone
  let s2 := { s1.breakLocks 3 with pcie := { s1.pcie with busMaster := s1.pcie.busMaster && decide (cause = 4), d3hot := decide (cause = 4) } }
  let s3 := s2.each (upFrom 0 64) (fun t r =>
    (t.setRing r { t.ring r with masked := true, msixPending := false, unsignalled := false }).disarm (tmMsix r))
  let s4 := if cause = 1 then ((s3.setb (K 0x3830 1) false).setn (K 0x3830 2) 0).setn (K 0x3830 3) 0 else s3
  (((s4.bump (K 0x3830 0xC)).linkEvent cause).fault 0x7B 0x8 0).startGranted q

/-- LINK_LOSS (R258). -/
def execLinkLoss (cause : Nat) (s : State) : Host.Outcome State Fault Refusal :=
  if s.linkUp && decide (1 ≤ cause ∧ cause ≤ 4) then .next (s.linkLost cause) else .next s

end Sys2Proof.Machine
end

