-- ==== Sys2Proof/Machine/Drives.lean ====
section
/-! DEFINITION. The Drive Commutator: drive states, starting and catching, speed commands and profiles, safe actions, the
brake chopper and the bus input switch (R291 to R319). -/

namespace Sys2Proof.Machine

/-! ## Channels -/

/-- The domain of a channel and its fault source (R291). -/
def driveDomain (c : Nat) : Nat := if c < 3 then 12 else 13
def driveSource (c : Nat) : Nat := if c < 3 then 0x88 + c else if c < 7 then 0x8B else 0x8C

/-- The channel is present and its domain on. -/
def State.driveOn (s : State) (c : Nat) : Bool := s.driveThere c && s.on (driveDomain c)

def State.driveState (s : State) (c : Nat) : Nat := s.n (dk c 0 0xC)

/-- The timers of a channel. -/
def tmAlign (c : Nat) : Nat := timer 14 c
def tmStep (c : Nat) : Nat := timer 15 c
def tmHandover (c : Nat) : Nat := timer 16 c
def tmCatch (c : Nat) : Nat := timer 17 c
def tmPulse (c : Nat) : Nat := timer 18 c
def tmRetry (c : Nat) : Nat := timer 19 c
def tmBrake (c : Nat) : Nat := timer 20 c
def tmChopper : Nat := timer 21 0

/-- A speed lies below `Minimum speed`, half of `Ramp end speed` (R301). -/
def State.belowMinimum (s : State) (c : Nat) (v : Int) : Bool := decide (2 * v.natAbs < s.n (dk c 1 5))

/-- A speed as an event carries it. -/
def rpmField (x : Int) : Nat := unsigned 32 x * 2 ^ 32

/-- EV109, EV110 and EV111 (R317). -/
def State.startEvent (s : State) (c sub : Nat) : State :=
  s.event 109 (sub + s.n (dk c 0 0x11) * 256 + c * 65536 + rpmField (s.observed c))
def State.observerEvent (s : State) (c sub : Nat) : State := s.event 110 (sub + c * 65536 + rpmField (s.observed c))
def State.speedEvent (s : State) (c sub extra : Nat) : State :=
  s.event 111 (sub + c * 65536 + extra * 2 ^ 24 + rpmField (s.commanded c))

/-- `At speed` takes a value: EV111 at a change (R307). -/
def State.setAtSpeed (s : State) (c : Nat) (b : Bool) : State :=
  if s.flag (dk c 0 0xE) = b then s else (s.setb (dk c 0 0xE) b).speedEvent c (if b then 1 else 2) 0

/-! ## Drive states -/

/-- A channel changes state: EV108, and the gates, the speed loop slot and the polygon follow (R297, R350, R67). -/
def State.driveTo (s : State) (c new cause : Nat) : State :=
  let old := s.driveState c
  if old = new then s
  else
    let s1 := [tmAlign c, tmStep c, tmHandover c, tmCatch c, tmPulse c, tmRetry c, tmBrake c].foldl State.disarm s
    let s2 := (s1.setn (dk c 0 0xC) new).event 108 (new + old * 256 + c * 65536 + cause * 2 ^ 24)
    let s3 := s2.setDrive c { s2.drive c with inBand := 0, cut := false, coasting := false, braking := false, estimates := [], advance := none,
                                               pulsed := none, firstCrossing := decide (new = 4) }
    let s4 := if new = 3 then s3 else s3.setAtSpeed c false
    let s5 := if old = 3 then
        match s4.driveSlot c with
        | some i => s4.stopSlot i (if cause = 3 then 4 else 2)
        | none => s4
      else s4
    let s6 := if 1 ≤ new ∧ new ≤ 3 then s5 else s5.setn (dk c 0 0xF) 0
    if c < 3 then s6.refreshPolygon (c + 1) else s6

/-- Entry to RUN: the slot starts with an initial duty and the observed speed, and the attempts are forgotten (R297,
R300, R350). A channel whose slot another one has receives duty 0. -/
def State.enterRun (s : State) (c duty cause : Nat) : State :=
  let s1 := (s.driveTo c 3 cause).setn (dk c 0 0x11) 0
  match s1.driveSlot c with
  | some i => (s1.setn (dk c 0 0xF) (min duty 4095)).startSlot i (Real32.ofInt (min duty 4095)) (Real32.ofInt (s1.observed c)) 2
  | none => s1.setn (dk c 0 0xF) 0

/-- Entry to CATCH (R302). -/
def State.enterCatch (s : State) (c cause : Nat) : State :=
  let s1 := (s.driveTo c 4 cause).after (tmCatch c) 20000000
  if c < 3 then s1 else s1.after (tmPulse c) 200000

/-- An attempt begins (R297). -/
def State.countAttempt (s : State) (c : Nat) : State :=
  (s.setn (dk c 0 0x11) (min (s.n (dk c 0 0x11) + 1) 11)).startEvent c 1

/-- The speeds have one direction. -/
def sameWay (a b : Int) : Bool := decide (0 < a ∧ 0 < b) || decide (a < 0 ∧ b < 0)

/-- The conditions of a start that do not look at the rotor (R297, R381). -/
def State.mayStart (s : State) (c : Nat) : Bool :=
  s.flag (dk c 0 1) && s.driveOn c && decide (s.n (K 0x2100 0xB) ≠ 1) && !s.belowMinimum c (s.commanded c)

/-- Entry to ALIGN: phase U drives phase V, the pair of sector 0, at `Align duty` (R300). -/
def State.enterAlign (s : State) (c cause : Nat) : State :=
  let s1 := (s.driveTo c 1 cause).countAttempt c
  ((s1.setDrive c { s1.drive c with sector := 0 }).setn (dk c 0 0xF) (s.n (dk c 1 4))).after (tmAlign c) (s.n (dk c 1 3) * 1000000)

/-- The start test of STOPPED (R297): TRUE where a start begins. -/
def State.startTest (s : State) (c cause : Nat) : State × Bool :=
  if !s.mayStart c then (s, false)
  else if s.belowMinimum c (s.observed c) then (s.enterAlign c cause, true)
  else if sameWay (s.commanded c) (s.observed c) then ((s.enterCatch c cause).countAttempt c, true)
  else (s, false)

/-- A channel in RUN stops at `Minimum speed` on a command to stop or to turn round (R297, R301). -/
def State.runEnds (s : State) (c : Nat) : Bool :=
  let cmd := s.commanded c
  let back := (s.drive c).backward
  s.belowMinimum c (s.observed c) && (s.belowMinimum c cmd || (if back then decide (0 < cmd) else decide (cmd < 0)))

/-- The observed speed differs from the commanded speed by more than some hundredths of it (R307). -/
def State.speedOff (s : State) (c percent : Nat) : Bool :=
  decide (percent * (s.commanded c).natAbs < (s.observed c - s.commanded c).natAbs * 100)

/-- Without regeneration: the observed speed exceeds the commanded speed, along its own direction, by more than 1 % (R310). -/
def State.mustCoast (s : State) (c : Nat) : Bool :=
  s.flag (K 0x410F 4) && decide ((s.observed c).sign * s.commanded c * 101 < ((s.observed c).natAbs : Int) * 100)

/-- What a channel in RUN does at once when its speeds part: its gates follow R310, and `At speed` falls outside ±3 % (R307). -/
def State.speedFollows (s : State) (c : Nat) : State :=
  let off := s.speedOff c 3
  let s1 := s.setDrive c { s.drive c with coasting := s.mustCoast c, inBand := if off then 0 else (s.drive c).inBand }
  if off && s.flag (dk c 0 0xE) then
    let s2 := s1.setAtSpeed c false
    if c < 3 then s2.refreshPolygon (c + 1) else s2
  else s1

/-- The rows of R297, R307 and R310 that hold in any grid step. -/
def State.driveCheck (s : State) (c cause : Nat) : State :=
  if s.driveOn c then
    match s.driveState c with
    | 0 => (s.startTest c cause).1
    | 3 => if s.runEnds c then s.driveTo c 0 cause else s.speedFollows c
    | _ => s
  else s

/-- RETRY WAIT, or FAULT where the attempts are used up (R297). -/
def State.enterRetry (s : State) (c cause : Nat) : State :=
  let s1 := s.driveTo c 5 cause
  if 1 + s1.n (dk c 1 8) ≤ s1.n (dk c 0 0x11) then
    ((s1.fault (driveSource c) 0x4 c).startEvent c 3).driveTo c 6 5
  else s1.after (tmRetry c) (s1.n (dk c 1 9) * 1000000)

/-! ## Starting from rest -/

/-- Ramp steps in 1/1,000 s⁻¹ at a time after its start: from 100 /s to those of `Ramp end speed` (R300). -/
def State.rampRate (s : State) (c t : Nat) : Nat :=
  let top : Int := s.n (dk c 1 5) * s.n (dk c 1 1) * 100
  let length := s.n (dk c 1 6) * 1000000
  (100000 + (top - 100000) * (min t length : Nat) / length).toNat

/-- The interval of a ramp step that begins at a time after the ramp's start, in ns. -/
def State.rampInterval (s : State) (c t : Nat) : Nat := 10 ^ 12 / max (s.rampRate c t) 1

/-- The duty of a ramp step: it rises in proportion with the rate from `Align duty`. -/
def State.rampDuty (s : State) (c t : Nat) : Nat := min 4095 (s.n (dk c 1 4) * s.rampRate c t / 100000)

/-- The sector after one step. -/
def nextSector (x : Nat) (back : Bool) : Nat := if back then (x + 5) % 6 else (x + 1) % 6

/-- ALIGN_TIME_ELAPSED (R300): the open-loop ramp begins. -/
def execAlignTimeElapsed (c : Nat) (s : State) : Host.Outcome State Fault Refusal :=
  if s.driveOn c && decide (s.driveState c = 1) && s.due (tmAlign c) then
    let s1 := s.driveTo c 2 2
    let s2 := s1.setDrive c { s1.drive c with rampAt := s.stamp, stepAt := s.stamp, steps := 0, seen := false, good := 0 }
    .next (s2.after (tmStep c) (s2.rampInterval c 0))
  else .next s

/-- RAMP_STEP (R300): a step ends; the crossings it has shown count, and the next step is taken. -/
def execRampStep (c : Nat) (s : State) : Host.Outcome State Fault Refusal :=
  if s.driveOn c && decide (s.driveState c = 2) && s.due (tmStep c) then
    let d := s.drive c
    let good := if d.seen then d.good + 1 else 0
    if s.n (dk c 1 7) ≤ good then
      let s1 := (s.startEvent c 2).enterRun c (s.n (dk c 0 0xF)) 2
      .next (s1.setDrive c { s1.drive c with advance := d.last.map (· + d.interval / 2) })
    else
      let t := s.stamp - d.rampAt
      let s1 := s.setDrive c { d with sector := nextSector d.sector (decide (s.commanded c < 0)), stepAt := s.stamp, steps := d.steps + 1,
                                      seen := false, good := good }
      let s2 := (s1.setn (dk c 0 0xF) (s.rampDuty c t)).after (tmStep c) (s.rampInterval c t)
      .next (if s.n (dk c 1 6) * 1000000 ≤ t ∧ s2.armed (tmHandover c) = false then s2.after (tmHandover c) 200000000 else s2)
  else .next s

/-- RAMP_HANDOVER_TIMEOUT (R297): no handover within 200 ms of `Ramp end speed`. -/
def execRampHandoverTimeout (c : Nat) (s : State) : Host.Outcome State Fault Refusal :=
  if s.driveOn c && decide (s.driveState c = 2) && s.due (tmHandover c) then .next (s.enterRetry c 5) else .next s

/-- RETRY_INTERVAL_ELAPSED (R297): the start test of STOPPED. -/
def execRetryIntervalElapsed (c : Nat) (s : State) : Host.Outcome State Fault Refusal :=
  if s.driveOn c && decide (s.driveState c = 5) && s.due (tmRetry c) then
    let r := s.startTest c 2
    .next (if r.2 then r.1 else s.driveTo c 0 2)
  else .next s

/-! ## The rotor -/

/-- Speeds that agree within 5 %. -/
def agree (a b : Int) : Bool := decide ((a - b).natAbs * 100 ≤ 5 * max a.natAbs b.natAbs)

/-- The duty of a back-EMF over the bus voltage (R302). -/
def State.emfDuty (s : State) (emf : Nat) : Nat := min 4095 (emf * 4096 / max (s.n (K 0x410F 7)) 1)

/-- The sector in use: 30° electrical after a zero crossing, half the interval of the last two, the next one is taken (R292). -/
def State.sectorNow (s : State) (c : Nat) : Nat :=
  let d := s.drive c
  match d.advance with
  | some t => if t ≤ s.stamp then nextSector d.sector d.backward else d.sector
  | none => d.sector

/-- The consistent speeds that resynchronise a channel: those of three pulses, or of the two intervals of three crossings (R302). -/
def catchNeeds (c : Nat) : Nat := if c < 3 then 2 else 3

/-- A speed found in CATCH: enough consecutive ones that agree, in the commanded direction and fast enough, resynchronise the
channel in the sector found with them (R302). -/
def State.catchEstimate (s : State) (c : Nat) (v : Int) (emf sector : Nat) : State :=
  let d := s.drive c
  let keep := if sameWay v (s.commanded c) && !s.belowMinimum c v then
      v :: (if d.estimates.all (fun x => agree x v) then d.estimates else [])
    else []
  if keep.length = catchNeeds c then
    let s1 := ((s.bump (dk c 0 0x13)).observerEvent c 2).enterRun c (s.emfDuty emf) 4
    s1.setDrive c { s1.drive c with sector := sector % 6, advance := if c < 3 then some (s.stamp + d.interval / 2) else none }
  else s.setDrive c { d with estimates := keep }

/-- The observed speed of a channel in RUN against its command at a crossing: 96 crossings within 2 % are 16 electrical periods
(R307). -/
def State.speedCheck (s : State) (c : Nat) : State :=
  let inBand := if s.speedOff c 2 then 0 else min 96 ((s.drive c).inBand + 1)
  let s1 := s.setDrive c { s.drive c with inBand := inBand }
  if inBand = 96 then
    let s2 := s1.setAtSpeed c true
    if c < 3 then s2.refreshPolygon (c + 1) else s2
  else s1

/-- ZERO_CROSSING (R292, R300, R302, R307): a zero crossing of the floating phase, or one that the observer finds. -/
def execZeroCrossing (c : Nat) (forward : Bool) (sensed : BackEmf) (s : State) : Host.Outcome State Fault Refusal :=
  if s.driveOn c then
    let d := s.drive c
    let interval := match d.last with
      | some t => s.stamp - t
      | none => 0
    let s2 := s.setDrive c { d with last := some s.stamp, interval := interval, backward := !forward, firstCrossing := false }
    match s.driveState c with
    | 2 =>
      let gone := (s.stamp - d.stepAt) * 100
      let step := s.rampInterval c (d.stepAt - d.rampAt)
      if 3 ≤ d.steps ∧ 20 * step ≤ gone ∧ gone ≤ 80 * step then .next (s2.setDrive c { s2.drive c with seen := true })
      else .next s2
    | 3 =>
      let left := if d.advance.isSome then nextSector d.sector d.backward else d.sector
      let s3 := s2.setDrive c { s2.drive c with sector := left, advance := some (s.stamp + interval / 2) }
      .next ((s3.speedCheck c).driveCheck c 2)
    | 4 => .next (if c < 3 ∧ d.firstCrossing = false ∧ interval ≠ 0 then s2.catchEstimate c (s2.observed c) sensed.emf sensed.sector else s2)
    | _ => .next (s2.driveCheck c 2)
  else .next s

/-- OBSERVER_LOSS (R302): no crossing for 2 electrical periods, twelve crossing intervals, at the last measured speed. -/
def execObserverLoss (c : Nat) (s : State) : Host.Outcome State Fault Refusal :=
  let d := s.drive c
  let gone := match d.last with
    | some t => decide (t + 12 * d.interval ≤ s.stamp)
    | none => true
  if s.driveOn c && decide (s.driveState c = 3) && gone then
    .next ((((s.bump (dk c 0 0x12)).fault (driveSource c) 0x8 c).observerEvent c 1).enterCatch c 4)
  else .next s

/-- CATCH_PULSE (R302): an M channel in CATCH applies its zero-vector pulse and takes the estimate it gives. -/
def execCatchPulse (c : Nat) (speed : Int) (sensed : BackEmf) (s : State) : Host.Outcome State Fault Refusal :=
  if s.driveOn c && decide (3 ≤ c) && decide (s.driveState c = 4) && s.due (tmPulse c) then
    let s0 := s.after (tmPulse c) 200000
    let s1 := s0.setDrive c { s0.drive c with pulsed := some s.stamp }
    let interval := 10 ^ 10 / max (s.n (dk c 1 1) * speed.natAbs) 1
    let s2 := if speed = 0 then s1
      else s1.setDrive c { s1.drive c with last := some s.stamp, interval := interval, backward := decide (speed < 0) }
    .next (s2.catchEstimate c speed sensed.emf sensed.sector)
  else .next s

/-- CATCH_TIMEOUT (R302). -/
def execCatchTimeout (c : Nat) (s : State) : Host.Outcome State Fault Refusal :=
  if s.driveOn c && decide (s.driveState c = 4) && s.due (tmCatch c) then .next ((s.observerEvent c 3).enterRetry c 4) else .next s

/-! ## Currents -/

/-- The sourcing and the sinking phase of a sector: 0 U, 1 V, 2 W (R292). -/
def sourcePhase (x : Nat) : Nat := [0, 0, 1, 1, 2, 2].getD x 0
def sinkPhase (x : Nat) : Nat := [1, 2, 2, 0, 0, 1].getD x 1

/-- `Phase current` of a P channel from its shunt (R294). -/
def shuntPhases (sector : Nat) (i : Int) : Bytes :=
  [0, 1, 2].flatMap (fun k => leBytes 2 (unsigned 16 (if k = sourcePhase sector then i else if k = sinkPhase sector then -i else 0)))

/-- A sigma-delta input in mA from its ones density in 1/65,536: all ones read as +`Current full scale`, none as the same below 0
(R295). -/
def State.deltaCurrent (s : State) (c : Nat) (ones : Int) : Int := Int.tdiv ((2 * clampInt 0 65536 ones - 65536) * s.n (dk c 2 1)) 65536

/-- The on-time of a PWM period, in ns. -/
def State.onTime (s : State) (c : Nat) : Nat := s.n (dk c 0 0xF) * 10 ^ 9 / (4096 * max (s.n (dk c 1 2)) 1)

/-- The duty that the next PWM period takes: the output of the slot in RUN (R292, R350). -/
def State.nextDuty (s : State) (c : Nat) : Nat :=
  if s.driveState c = 3 then
    if (s.drive c).coasting then 0
    else
      match s.driveSlot c with
      | some i => (clampInt 0 4095 (s.real (lk i 0xB)).toInt).toNat
      | none => 0
  else s.n (dk c 0 0xF)

/-- `Phase current` of an M channel: phase W is the negative sum of the others (R295). -/
def deltaPhases (u v : Int) : Bytes := [u, v, -(u + v)].flatMap (fun x => leBytes 2 (unsigned 16 (clampInt (-32768) 32767 x)))

/-- PWM_PERIOD (R292, R294, R295): a PWM period of a channel that drives its phases; one of a braking channel ends the cut of
R308. -/
def execPwmPeriod (c : Nat) (ia ib : Int) (s : State) : Host.Outcome State Fault Refusal :=
  if s.driveOn c && decide (1 ≤ s.driveState c ∧ s.driveState c ≤ 3) then
    let s1 := (s.setn (dk c 0 0xF) (s.nextDuty c)).setDrive c { s.drive c with cut := false }
    let d := s1.drive c
    if 3 ≤ c then .next (s1.setBytes (dk c 0 0x10) (deltaPhases (s.deltaCurrent c ia) (s.deltaCurrent c ib)))
    else if s1.onTime c < s1.n (dk c 2 2) then
      let s2 := (s1.bump (dk c 2 3)).setDrive c { d with unskipped := 0 }
      .next (if d.unskipped = 1024 then s2.event 113 (1 + c * 65536 + s2.n (dk c 2 3) * 2 ^ 32) else s2)
    else .next ((s1.setDrive c { d with unskipped := min (d.unskipped + 1) 1024 }).setBytes (dk c 0 0x10) (shuntPhases (s.sectorNow c) ia))
  else .next (if (s.drive c).braking then s.setDrive c { s.drive c with cut := false } else s)

/-- CURRENT_LIMIT_EXCEEDED (R296): the present on-time ends; a braking P channel opens its low-side switches until the next period
(R308). -/
def execCurrentLimitExceeded (c : Nat) (s : State) : Host.Outcome State Fault Refusal :=
  if s.driveOn c && (decide (1 ≤ s.driveState c ∧ s.driveState c ≤ 3) || (decide (c < 3) && (s.drive c).braking)) then
    .next (s.setDrive c { s.drive c with cut := true })
  else .next s

/-- TRIP_CURRENT (R296): on a P channel the cause is wired to the Lid as well. -/
def execTripCurrent (c : Nat) (s : State) : Host.Outcome State Fault Refusal :=
  if s.driveOn c then .next (s.fault (driveSource c) 0x9 c) else .next s

/-- SD_INPUT_INVALID (R295): an input has shown 64 identical bits; it shows a differing one before it can do so again. -/
def execSdInputInvalid (c input : Nat) (s : State) : Host.Outcome State Fault Refusal :=
  if s.driveOn c && decide (3 ≤ c) && (input == 1 || input == 2) then
    .next ((s.fault (driveSource c) 0x7 c).event 113 (2 + input * 256 + c * 65536))
  else .next s

/-! ## The gates -/

/-- What a channel's six switches do: all off, or high impedance at the gate outputs of an M channel (R499); PWM at the high-side
switch of the sourcing phase with the low-side switch of the sinking phase on; or the three low-side switches on. -/
inductive Gates where
  | off
  | pair (source sink duty : Nat)
  | lowSides
  deriving DecidableEq, Repr

/-- The pair of a sector at the channel's duty; the on-time that a limit has ended leaves the switches off (R292, R296). -/
def State.pairGates (s : State) (c : Nat) : Gates :=
  if (s.drive c).cut then .off else .pair (sourcePhase (s.sectorNow c)) (sinkPhase (s.sectorNow c)) (s.n (dk c 0 0xF))

/-- The gates of a channel by its state (R292, R297, R302, R308, R310). -/
def State.driveGates (s : State) (c : Nat) : Gates :=
  let d := s.drive c
  if !s.driveOn c then .off
  else
    match s.driveState c with
    | 1 | 2 => s.pairGates c
    | 3 => if d.coasting then .off else s.pairGates c
    | 4 =>
      match d.pulsed with
      | some t => if 3 ≤ c ∧ s.stamp < t + s.n (dk c 2 5) * 1000 then .lowSides else .off
      | none => .off
    | 7 => if d.braking && !d.cut then .lowSides else .off
    | _ => .off

/-! ## Speed commands -/

/-- A profile of a channel starts (R306). One that hardware fires acts before a host write of `Speed command` in the same grid
step, whose target then stands. -/
def State.startProfile (s : State) (c e : Nat) (fired : Bool) : State :=
  let b := slice (16 * e) 16 (s.bytes (dk c 3 1))
  if s.n (dk c 0 2) ≠ 0 ∨ leAt 4 4 b = 0 then s.speedEvent c 5 e
  else
    let s1 := if fired && decide ((s.drive c).written = some s.stamp) then s else s.seti (dk c 0 3) (signed 32 (leAt 0 4 b))
    (s1.setDrive c { s1.drive c with limits := some ((Real32.ofInt (leAt 4 4 b)).bits, (Real32.ofInt (leAt 8 4 b)).bits) }).driveCheck c 2

/-- DRIVE_PROFILE (R143, R306). -/
def execDriveProfile (slot : Nat) (s : State) : Host.Outcome State Fault Refusal :=
  .next (s.fireSlot slot 0x31 (fun t x => if t.driveOn x.target then t.startProfile x.target x.arg true else t))

/-- The channels that read a pin in a mode that has loss detection (R305). -/
def State.pinReaders (s : State) (k : Nat) : List Nat :=
  (upFrom 0 11).filter (fun c => s.driveOn c && (s.n (dk c 0 2) == 2 || s.n (dk c 0 2) == 3) && s.n (dk c 0 5) == k)

/-- Pin k has shown no edge for the `Command timeout` of a channel (R305). -/
def State.pinSilent (s : State) (k c : Nat) : Bool := decide (s.drives.edges.getD (k - 1) 0 + s.n (dk c 0 8) * 1000000 ≤ s.stamp)

/-- COMMAND_PIN_LOST (R305): no edge for the shortest `Command timeout` of the channels that read the pin. -/
def execCommandPinLost (k : Nat) (s : State) : Host.Outcome State Fault Refusal :=
  match s.pinReaders k with
  | [] => .next s
  | c :: l =>
    if bitOf s.drives.lost (k - 1) || !(c :: l).any (s.pinSilent k) then .next s
    else
      let s1 := { s with drives := { s.drives with lost := withBit s.drives.lost (k - 1) } }
      .next (((s1.fault 0x8D 0x7 k).speedEvent c 3 k).each (c :: l) (fun t x => t.driveCheck x 2))

/-- COMMAND_PIN_RETURN (R305): an edge; the first one after the loss brings the command back. -/
def execCommandPinReturn (k : Nat) (s0 : State) : Host.Outcome State Fault Refusal :=
  let s := { s0 with drives := { s0.drives with edges := s0.drives.edges.set (k - 1) s0.stamp } }
  if decide (1 ≤ k) && bitOf s.drives.lost (k - 1) then
    let s1 := { s with drives := { s.drives with lost := withoutBit s.drives.lost (k - 1) } }
    .next ((s1.speedEvent ((s1.pinReaders k).headD 0) 4 k).each (s1.pinReaders k) (fun t x => t.driveCheck x 2))
  else .next s

/-! ## Safe actions -/

/-- A Lid reaction of Class C or D moves the channel to SAFE (R298, R308). -/
def State.driveSafe (s : State) (c : Nat) (classD : Bool) : State :=
  if s.driveOn c then
    let s1 := (s.driveTo c 7 3).setb (dk c 0 1) false
    let brake := !classD && decide (s1.n (dk c 0 0xA) = 1)
    let fresh := decide (s.driveState c ≠ 7)
    let s2 := s1.setDrive c { s1.drive c with braking := if fresh then brake else (s1.drive c).braking && !classD }
    if fresh && brake then s2.after (tmBrake c) (s2.n (dk c 0 0xB) * 1000000) else s2
  else s

/-- The Lid releases the channel (R308). -/
def State.driveRelease (s : State) (c : Nat) : State := if s.driveState c = 7 then s.driveTo c 0 3 else s

/-- BRAKE_TIME_ELAPSED (R308): all gates go off. -/
def execBrakeTimeElapsed (c : Nat) (s : State) : Host.Outcome State Fault Refusal :=
  if s.driveOn c && decide (s.driveState c = 7) && s.due (tmBrake c) then
    .next ((s.disarm (tmBrake c)).setDrive c { s.drive c with braking := false })
  else .next s

/-- What an accepted write of `Drive enable` does (R297, R350). -/
def State.driveEnable (s : State) (c : Nat) (on : Bool) : State :=
  if on then
    let s1 := if s.driveSlot c = none then s.slotEvent (s.n (dk c 0 9)) 6 c else s
    s1.driveCheck c 1
  else if s.driveState c = 7 then s
  else s.driveTo c 0 1

/-- Function re-initialisation of a channel, where it is accepted (R299). -/
def State.driveReinit (s : State) (c : Nat) : State :=
  let s1 := (s.setb (dk c 0 1) false).setn (dk c 0 0x11) 0
  let s2 := s1.setDrive c { s1.drive c with unskipped := 0, limits := none, steps := 0, good := 0, seen := false }
  if s2.driveState c = 7 then s2 else s2.driveTo c 0 6

/-- The domain of a channel goes off. -/
def State.driveDown (s : State) (c : Nat) : State := (s.driveTo c 0 2).setDrive c {}

/-! ## The brake chopper and the bus input switch -/

/-- EV112 (R317). -/
def State.busEvent (s : State) (sub : Nat) : State := s.event 112 (sub + s.n (K 0x410F 7) * 2 ^ 32)

/-- `Chopper on time`, in ms (R316). -/
def State.chopperTime (s : State) : Nat :=
  (s.drives.chopperNs + if s.drives.chopper then s.stamp - s.drives.chopperAt else 0) / 1000000 % 2 ^ 32

/-- The chopper is commanded on or off; its current is tested 20 µs later (R309, R310). -/
def State.setChopper (s : State) (on : Bool) : State :=
  let d := s.drives
  if d.chopper = on then s
  else
    let ns := if on then d.chopperNs else d.chopperNs + (s.stamp - d.chopperAt)
    { s with drives := { d with chopper := on, chopperAt := s.stamp, chopperNs := ns } }.after tmChopper 20000

/-- The chopper as the bus commands it: on from the threshold, off below it less the hysteresis (R309). A test pulse lasts its 20 µs;
a bus that turns the chopper on in the 20 µs after the pulse ends the test (R310). -/
def State.busChops (s : State) (bus : Nat) : State :=
  let th := s.n (K 0x410F 1)
  if th ≤ bus then
    (if s.drives.testing = 2 then { s with drives := { s.drives with testing := 0 } } else s).setChopper true
  else if bus + s.n (K 0x410F 2) < th ∧ s.drives.testing ≠ 1 then s.setChopper false
  else s

/-- BUS_SAMPLE (R309): the comparison of every 1 µs; the drives compare their speeds at this rate. -/
def execBusSample (bus : Nat) (s : State) : Host.Outcome State Fault Refusal :=
  let s2 := (s.setn (K 0x410F 7) (bus % 65536)).busChops bus
  .next (s2.each (upFrom 0 11) (fun t c => t.driveCheck c 2))

/-- The chopper is faulty: 1 open, 2 shorted (R310). -/
def State.chopperFault (s : State) (k : Nat) : State :=
  (((s.setn (K 0x410F 3) k).setb (K 0x410F 4) true).fault 0x8E 0xF k).busEvent k

/-- `Chopper test` has passed (R310). -/
def State.chopperPassed (s : State) : State := ((s.setn (K 0x410F 3) 0).setb (K 0x410F 4) false).busEvent 3

/-- CHOPPER_CHECK (R310): the current 20 µs after the chopper was commanded on or off, by the bus or by `Chopper test`, whose pulse
ends here. -/
def execChopperCheck (current : Nat) (s : State) : Host.Outcome State Fault Refusal :=
  if s.due tmChopper then
    let d := s.drives
    let s1 := s.disarm tmChopper
    let s2 := { s1 with drives := { d with testing := if d.testing = 1 ∧ 500 ≤ current then 2 else 0 } }
    if d.chopper = true ∧ current < 500 then .next (if d.testing = 1 then (s2.chopperFault 1).setChopper false else s2.chopperFault 1)
    else if d.chopper = false ∧ 500 ≤ current then .next (s2.chopperFault 2)
    else if d.testing = 1 then .next (s2.setChopper false)
    else if d.testing = 2 then .next s2.chopperPassed
    else .next s2
  else .next s

/-- What an accepted write of `Chopper test` does: the chopper is on for 20 µs (R310). -/
def State.chopperTest (s : State) : State :=
  ({ s with drives := { s.drives with testing := 1 } }.setChopper true).after tmChopper 20000

/-- The bus input switch opens or closes (R311). -/
def State.setBusSwitch (s : State) (closed : Bool) : State :=
  if s.flag (K 0x410F 8) = closed then s else (s.setb (K 0x410F 8) closed).busEvent (if closed then 5 else 4)

/-- BUS_OVERVOLTAGE_TRIP (R311): the bus on the module's side reaches 58 V; the cause is wired to the Lid. -/
def execBusOvervoltageTrip (s : State) : Host.Outcome State Fault Refusal :=
  let s1 := ((s.bump (K 0x410F 0xB)).fault 0x8E 0xA (s.n (K 0x410F 7))).setBusSwitch false
  .next { s1 with drives := { s1.drives with tripped := true } }

/-- The switch closes by itself after power-up and module reset, once J2 lies between 20 V and 56 V (R311). -/
def State.closeBusSwitch (s : State) (j2 : Nat) : State :=
  if !s.drives.tripped && decide (20000 ≤ j2 ∧ j2 ≤ 56000) then s.setBusSwitch true else s

end Sys2Proof.Machine
end

