-- ==== Sys2Proof/Machine/Loops.lean ====
section
/-! DEFINITION. The Loop Engine's triggers and evaluations, the HV channels and the Kettle (R346 to R373). -/

namespace Sys2Proof.Machine

/-- An object of an HV channel and of a Kettle zone. -/
def hk (h sub : Nat) : Nat := K (0x4D00 + h) sub
def zk (z sub : Nat) : Nat := K (0x4C00 + z) sub

/-! ## HV channels -/

def State.hvState (s : State) (h : Nat) : Nat := s.n (hk h 2)
def State.hvSlot (s : State) (h : Nat) : Option Nat := s.slotOf (0x200 + h)

/-- The fault source of a channel (R372), and the timer of its ramp. -/
def hvSource (h : Nat) : Nat := if h ≤ 10 then 0x99 else 0x9A
def tmHvRamp (h : Nat) : Nat := timer 22 h

/-- EV123 (R371). -/
def State.hvEvent (s : State) (h sub extra tag : Nat) : State := s.event 123 (sub + extra * 256 + h * 65536 + tag * 2 ^ 32)

/-- `HV ready` (R360). -/
def State.hvReady (s : State) (h : Nat) : Bool := (s.hvState h == 1 || s.hvState h == 2) && (s.hvSlot h).isSome

/-- `Group pins` (R359). -/
def hvGroup (g : Nat) : List Nat := if g < 4 then upFrom (6 * g - 5) 6 else [19, 20]
def State.groupPins (s : State) : Nat :=
  if s.n (K 0x2200 2) < 2 then
    maskOf (((upFrom 1 4).filter (fun g => (hvGroup g).any (fun h => s.hvState h == 2))).map (fun g => g - 1))
  else 0

/-- A channel changes state: EV122; one that leaves ON has its slot stopped and its PWM at 0 (R350, R360). -/
def State.hvTo (s : State) (h new cause : Nat) : State :=
  let old := s.hvState h
  if old = new then s
  else
    let s1 := (s.setn (hk h 2) new).event 122 (new + old * 256 + h * 65536 + cause * 2 ^ 24)
    if old ≠ 2 then s1
    else
      let s2 := ((s1.setn (hk h 7) 0).disarm (tmHvRamp h)).setHv h { s1.hv h with above := 0, openSince := none }
      match s2.hvSlot h with
      | some i => s2.stopSlot i (if cause = 4 then 4 else 2)
      | none => s2

/-- The set-point that s maps to in a band (R362). -/
def State.hvMap (s : State) (h code band : Nat) : Nat :=
  let b := s.bytes (hk h 0xA)
  let x : Int := ((code * leAt (4 * band) 2 b + 2048) / 4096 : Nat) + signed 16 (leAt (4 * band + 2) 2 b)
  (clampInt 0 4095 x).toNat

/-- The band of `HV band sensor`; none while it is broken or disabled (R362, R387). -/
def State.hvBand (s : State) : Option Nat :=
  let t := s.n (K 0x4D00 1)
  if s.channelOn t && !s.flag (tk t 5) then some (s.n (tk t 4)) else none

/-- The band a channel is mapped in now; the one that holds while the sensor is broken (R362). -/
def State.hvBandNow (s : State) (h : Nat) : Nat :=
  s.hvBand.getD (if s.hvState h = 2 then (s.hv h).band else s.n (tk (s.n (K 0x4D00 1)) 4))

/-- The slot's target, within its set-point range. -/
def State.hvAim (s : State) (h x : Nat) : State :=
  match s.hvSlot h with
  | some i => s.setTarget i (Real32.ofInt x)
  | none => s

/-- The channel is switched on at s, or its set-point moves there (R361); `ramp` is the length of an HV_RAMP in ms. -/
def State.hvOn (s : State) (h code tag cause : Nat) (ramp : Option Nat) : State :=
  if s.hvState h ≠ 1 ∧ s.hvState h ≠ 2 then s.hvEvent h 1 0 tag
  else
    let s1 := if s.hvState h = 2 then s
      else
        let t := s.hvTo h 2 cause
        match t.hvSlot h with
        | some i => t.startSlot i (.fin 0 0) (.fin 0 0) 2
        | none => t
    let band := s.hvBandNow h
    let aim := s1.hvMap h code band
    let s2 := (s1.setHv h { s1.hv h with code := code, band := band, tag := tag }).hvAim h aim
    match s2.hvSlot h with
    | none => s2
    | some i =>
      match ramp with
      | none => (s2.setLoopSlot i { s2.loop i with ramp := none }).disarm (tmHvRamp h)
      | some ms =>
        (s2.setLoopSlot i { s2.loop i with
          ramp := some (s2.n (lk i 9), s2.n (lk i 8), s.stamp, ms * 1000000, tag) }).after (tmHvRamp h) (ms * 1000000)

/-- The channel is switched off (R361). -/
def State.hvOff (s : State) (h tag cause : Nat) : State :=
  if s.hvState h = 2 then s.hvTo h 1 cause
  else if s.hvState h = 1 then s
  else s.hvEvent h 1 0 tag

/-- `Host switch` (R361). -/
def State.hostSwitch (s : State) (h v : Nat) : State :=
  let s1 := s.setHv h { s.hv h with hostAt := some s.stamp, hostSwitch := v }
  if v = 1 then s1.hvOn h (s.n (hk h 4)) 0 1 none else s1.hvOff h 0 1

/-- A `Host switch` written in this grid step stands after an action of the same step (R361). -/
def State.hostSwitchStands (s : State) (h : Nat) : State :=
  if (s.hv h).hostAt = some s.stamp then s.hostSwitch h (s.hv h).hostSwitch else s

/-- HV_ON (R143, R361). -/
def execHvOn (slot : Nat) (s : State) : Host.Outcome State Fault Refusal :=
  .next (s.fireSlot slot 0x20 (fun t x => (t.hvOn x.target (x.arg % 4096) x.tag 2 none).hostSwitchStands x.target))

/-- HV_RAMP (R143, R361): over 2^k ms. -/
def execHvRamp (slot : Nat) (s : State) : Host.Outcome State Fault Refusal :=
  .next (s.fireSlot slot 0x21 (fun t x =>
    (t.hvOn x.target (x.arg % 4096) x.tag 2 (some (2 ^ (x.arg / 4096)))).hostSwitchStands x.target))

/-- HV_OFF (R143, R361). -/
def execHvOff (slot : Nat) (s : State) : Host.Outcome State Fault Refusal :=
  .next (s.fireSlot slot 0x22 (fun t x => (t.hvOff x.target x.tag 2).hostSwitchStands x.target))

/-- A channel fails (R360, R372). -/
def State.hvFails (s : State) (h kind : Nat) : State := (s.fault (hvSource h) kind h).hvTo h 3 3

/-- What an evaluation of its slot does to a channel in ON (R360, R362): duty, feedback limit, open load, band. -/
def State.hvEvaluated (s : State) (h i : Nat) : State :=
  let duty := (clampInt 0 4095 (s.real (lk i 0xB)).toInt).toNat
  let fb := s.n (hk h 6)
  let x := s.hv h
  let above := if s.n (hk h 8) < fb then x.above + 1 else 0
  let since := if s.n (hk h 9) ≤ duty ∧ fb < 205 then some (x.openSince.getD s.stamp) else none
  let s1 := (s.setn (hk h 7) duty).setHv h { x with above := above, openSince := since }
  if 3 ≤ above then s1.hvFails h 0xA
  else
    match s1.hvBand with
    | none => s1
    | some b =>
      if b = x.band then s1
      else ((s1.setHv h { s1.hv h with band := b }).hvAim h (s1.hvMap h x.code b)).hvEvent h 2 b x.tag

/-- HV_OPEN_LOAD (R360): the load has looked open for 10 ms. -/
def execHvOpenLoad (h : Nat) (s : State) : Host.Outcome State Fault Refusal :=
  match (s.hv h).openSince with
  | some t => if s.on 15 ∧ s.hvState h = 2 ∧ t + 10000000 ≤ s.stamp then .next (s.hvFails h 0x7) else .next s
  | none => .next s

/-- HV_RAMP_COMPLETE (R361): the ramp's time has passed, and the limits return. -/
def execHvRampComplete (h : Nat) (s : State) : Host.Outcome State Fault Refusal :=
  if s.on 15 ∧ s.hvState h = 2 ∧ s.due (tmHvRamp h) = true then
    let s1 := s.disarm (tmHvRamp h)
    match s1.hvSlot h with
    | none => .next s1
    | some i =>
      match (s1.loop i).ramp with
      | none => .next s1
      | some r => .next (((s1.setn (lk i 9) r.2.1).setLoopSlot i { s1.loop i with ramp := none, rate := 0 }).hvEvent h 3 0 r.2.2.2.2)
  else .next s

/-- What an accepted write of `HV enable` does (R360). -/
def State.hvEnable (s : State) (h : Nat) (on : Bool) : State :=
  if on then (if s.hvState h = 0 ∧ s.on 15 = true then s.hvTo h 1 1 else s)
  else if s.hvState h = 4 then s
  else s.hvTo h 0 1

/-- A Lid reaction of Class B or above holds the channel, and the release of it (R360). -/
def State.hvHold (s : State) (h : Nat) : State :=
  if s.on 15 && s.hvThere h then (s.hvTo h 4 4).setb (hk h 1) false else s
def State.hvRelease (s : State) (h : Nat) : State := if s.hvState h = 4 then s.hvTo h 0 4 else s

/-! ## Kettle zones -/

def State.zoneState (s : State) (z : Nat) : Nat := s.n (zk z 2)
def State.zoneSlot (s : State) (z : Nat) : Option Nat := s.slotOf (0x300 + z)

/-- A temperature channel gives a reading: it is on and not broken. -/
def State.sensorGood (s : State) (t : Nat) : Bool := s.channelOn t && !s.flag (tk t 5)

/-- `In band` takes its value: EV126 (R369). -/
def State.refreshInBand (s : State) (z : Nat) : State :=
  let t := s.i (zk z 9)
  let good := match s.zoneSlot z with
    | some i =>
      decide (s.zoneState z = 2) &&
        ((((Real32.ofInt t).sub ((s.real (lk i 8)).mul (Real32.ofInt 10))).abs).le (Real32.ofInt (s.n (zk z 0xB))))
    | none => false
  if s.flag (zk z 0xC) = good then s
  else (s.setb (zk z 0xC) good).event 126 (b2n good + z * 65536 + unsigned 32 t * 2 ^ 32)

/-- A zone changes state: EV124; one that stops regulating has its slot stopped and its gate low (R350, R365). -/
def State.zoneTo (s : State) (z new cause : Nat) : State :=
  let old := s.zoneState z
  if old = new then s
  else
    let s1 := (s.setn (zk z 2) new).event 124 (new + old * 256 + z * 65536)
    if new = 2 then s1.refreshInBand z
    else
      let g := s1.zone z
      let s2 := (s1.setZone z { g with gate := false, running := false, next := false }).setn (zk z 0xE) 0
      let s3 := match g.running, s2.zoneSlot z with
        | true, some i => s2.stopSlot i cause
        | _, _ => s2
      s3.refreshInBand z

/-- The slot of a zone starts at `Handover power`, with A and the polarity counts at their start (R350, R366). -/
def State.startZoneSlot (s : State) (z : Nat) : State :=
  match s.zoneSlot z with
  | none => s
  | some i =>
    let s1 := s.startSlot i (Real32.ofInt (s.n (zk z 6))) (Real32.ofRatio (s.i (zk z 9)) 10) 2
    s1.setZone z { s1.zone z with running := true, acc := ((z - 1) * 1365 : Nat), positive := 0, negative := 0, next := false }

/-- The half-cycles of the soft start: N of R368. -/
def State.softCount (s : State) (z : Nat) : Nat := divRound (s.n (zk z 5) * 2 * s.n (K 0x3020 4)) 1000000

/-- θh of R368, in phase units. -/
def State.fireAngle (s : State) (z h : Nat) : Nat :=
  let n := (s.zone z).count
  divRound ((s.n (zk z 4) * 65536 * 2 + 360) / 720 * (n - h)) n

/-- The zone starts from OFF or WAIT MAINS with the mains LOCKED (R365, R368). -/
def State.zoneStarts (s : State) (z : Nat) : State :=
  let h := s.halfCycle
  if s.n (zk z 3) = 1 then
    let s1 := s.zoneTo z 1 2
    s1.setZone z { s1.zone z with first := (h + 1) % 2 ^ 25, count := s.softCount z, fired := 0, edge := h, running := false }
  else ((s.startZoneSlot z).setZone z { (s.startZoneSlot z).zone z with edge := h }).zoneTo z 2 2

/-- A zone enters FAULT with both sensors broken (R364). -/
def State.zoneBroken (s : State) (z : Nat) : State := (s.fault 0x9C 0x7 z).zoneTo z 4 2

/-- The sensor a zone uses: the partner while the primary is broken, and the primary again from a crossing on (R364). -/
def State.refreshSensor (s : State) (z : Nat) (crossing : Bool) : State :=
  let p := s.n (zk z 7)
  let q := s.n (zk z 8)
  let old := s.n (zk z 0xA)
  let new := if s.sensorGood p && (old != 2 || crossing || !s.sensorGood q) then 1 else if s.sensorGood q then 2 else 0
  let s1 := if old = new then s
    else
      let t := s.setn (zk z 0xA) new
      let t1 := if new = 0 then t.event 125 (3 + z * 65536)
        else if new = 2 then t.event 125 (1 + z * 65536)
        else if old = 2 then t.event 125 (2 + z * 65536)
        else t
      match t1.zoneSlot z with
      | some i => if (t1.zone z).running then t1.bumpless i else t1
      | none => t1
  let s2 := if new = 0 then s1 else s1.seti (zk z 9) (s1.i (tk (if new = 1 then p else q) 2))
  if new = 0 ∧ 1 ≤ s2.zoneState z ∧ s2.zoneState z ≤ 3 then s2.zoneBroken z
  else s2.refreshInBand z

/-- The rows of R365 that hold in any grid step. -/
def State.zoneCheck (s : State) (z : Nat) : State :=
  let m := s.n (K 0x3020 1)
  match s.zoneState z with
  | 0 =>
    if s.flag (zk z 1) && s.on 15 && (s.zoneSlot z).isSome && decide (s.n (zk z 0xA) ≠ 0) then
      (if m = 1 then s.zoneStarts z else s.zoneTo z 3 2)
    else s
  | 3 => if m = 1 then s.zoneStarts z else s
  | 4 => s
  | 5 => s
  | st =>
    if st = 2 ∧ s.i (zk z 0xD) ≤ s.i (zk z 9) then (s.fault 0x9B 0xC z).zoneTo z 4 2
    else if m = 0 ∨ m = 3 then (s.fault 0x9D 0x8 z).zoneTo z 3 2
    else s

/-- START goes on: at the crossing that opens half-cycle N − 1 the slot starts, at the next one REGULATING (R368). -/
def State.zoneAdvance (s : State) (z : Nat) : State :=
  let g := s.zone z
  if s.zoneState z = 1 then
    let k := (s.halfCycle + 2 ^ 25 - g.first) % 2 ^ 25
    if 2 ^ 24 ≤ k ∨ k + 1 < g.count then s
    else
      let s1 := if g.running then s
        else
          let t := s.startZoneSlot z
          match t.zoneSlot z with
          | some i => t.setLoopSlot i { t.loop i with mark := (s.halfCycle + 2 ^ 25 - 1) % 2 ^ 25 }
          | none => t
      if g.count ≤ k then s1.zoneTo z 2 2 else s1
  else s

/-- The zones follow the mains and their sensors. -/
def State.refreshZones (s : State) (crossing : Bool) : State :=
  if s.on 15 then s.each [1, 2, 3] (fun t z => ((t.refreshSensor z crossing).zoneCheck z).zoneAdvance z) else s

/-- A reading of temperature channel t reaches the zones that use it (R364, R365). -/
def State.zonesRead (s : State) (t : Nat) : State :=
  if s.on 15 then
    s.each [1, 2, 3] (fun u z =>
      if u.n (zk z 7) = t ∨ u.n (zk z 8) = t then
        (u.refreshSensor z false).zoneCheck z
      else u)
  else s

/-- The decision for the half-cycle after the present one (R366). -/
def State.decideHalfCycle (s : State) (z i : Nat) : State :=
  let p := (clampInt 0 4096 (s.real (lk i 0xB)).toInt).toNat
  let g := s.zone z
  let next := (s.halfCycle + 1) % 2 ^ 25
  let up := next % 2 = 0
  let pos := if up then g.positive + 1 else g.positive
  let neg := if up then g.negative else g.negative + 1
  let a := g.acc + p
  let on := decide (2048 ≤ a) && decide (((pos : Int) - neg).natAbs ≠ 2)
  let s1 := (s.setn (zk z 0xE) p).setZone z
    { g with acc := if on then a - 4096 else a, positive := if on then pos else g.positive, negative := if on then neg else g.negative,
             next := on, decided := next }
  if on then s1.bump (zk z 0x10) else s1

/-- `Gates`. -/
def State.gates (s : State) : Nat := maskOf (([1, 2, 3].filter (fun z => (s.zone z).gate)).map (fun z => z - 1))

/-- KETTLE_GATE_EDGE (R367, R368): `Gate lead` before the next crossing, by the mains phase at the measured frequency. -/
def execKettleGateEdge (z : Nat) (s0 : State) : Host.Outcome State Fault Refusal :=
  let s := s0.zoneAdvance z
  let g := s.zone z
  let h := s.halfCycle
  let left := 32768 - s.mainsPhase % 32768
  if decide (1 ≤ z ∧ z ≤ 3) && s0.on 15 && s.mainsRuns && (s.zoneState z == 1 || s.zoneState z == 2) &&
      decide (g.edge ≠ (h + 1) % 2 ^ 25) && decide (left * 10 ^ 9 ≤ s.n (K 0x4C00 1) * 65536 * s.n (K 0x3020 4)) then
    let on := g.running && g.next && decide (g.decided = (h + 1) % 2 ^ 25)
    .next (s.setZone z { g with gate := on, edge := (h + 1) % 2 ^ 25 })
  else .next s0

/-- KETTLE_PHASE_FIRE (R368): a half-cycle of the soft start fires at its angle. -/
def execKettlePhaseFire (z : Nat) (s0 : State) : Host.Outcome State Fault Refusal :=
  let s := s0.zoneAdvance z
  let g := s.zone z
  let h := s.halfCycle
  let k := (h + 2 ^ 25 - g.first) % 2 ^ 25
  if decide (1 ≤ z ∧ z ≤ 3) && s0.on 15 && decide (s.zoneState z = 1) && decide (k < g.count) && decide (g.fired ≤ k) &&
      decide (g.edge ≠ (h + 1) % 2 ^ 25) && decide (s.fireAngle z k ≤ s.mainsPhase % 32768) then
    .next (s.setZone z { g with gate := true, fired := k + 1 })
  else .next s0

/-- What an accepted write of `Zone enable` does (R365). -/
def State.zoneEnable (s : State) (z : Nat) (on : Bool) : State :=
  if on then (s.refreshSensor z false).zoneCheck z
  else if s.zoneState z = 5 then s
  else s.zoneTo z 0 2

/-- A Lid reaction of Class C or D, and its release (R365). -/
def State.zoneSafe (s : State) (z : Nat) : State := if s.on 15 then (s.zoneTo z 5 4).setb (zk z 1) false else s
def State.zoneRelease (s : State) (z : Nat) : State := if s.zoneState z = 5 then s.zoneTo z 0 4 else s

/-! ## The mains -/

/-- MAINS_ZERO_CROSSING (R35, R36), with what the zones do at it. -/
def execMainsZeroCrossing (positive : Bool) (s : State) : Host.Outcome State Fault Refusal :=
  .next ((s.mainsCrossing positive).refreshZones true)

/-- MAINS_CROSSING_MISSING (R36). -/
def execMainsCrossingMissing (s : State) : Host.Outcome State Fault Refusal :=
  .next (s.crossingMissing.refreshZones false)

/-- MAINS_HOLDOVER_EXPIRED (R36, R518). -/
def execMainsHoldoverExpired (s : State) : Host.Outcome State Fault Refusal :=
  .next (s.holdoverExpired.refreshZones false)

/-! ## Triggers and evaluations -/

/-- What a command pin reads, as a speed (R304). -/
def State.pinSpeed (s : State) (c pin : Nat) : Int :=
  let fs := s.i (dk c 0 6)
  match s.n (dk c 0 2) with
  | 2 => Int.tdiv (fs * min pin 100000) (max (s.n (dk c 0 7)) 1)
  | 3 => Int.tdiv (fs * min pin 65536) 65536
  | _ => Int.tdiv (fs * min pin 3300) 3300

/-- The command pin is read, at the trigger of a drive's slot, in whatever state the slot is (R304). -/
def State.readPin (s : State) (c pin : Nat) : State :=
  if 2 ≤ s.n (dk c 0 2) then s.setDrive c { s.drive c with pin := s.pinSpeed c pin } else s

/-- The trigger of a slot that is DISABLED: a drive that owns it reads its command pin (R304). -/
def State.idleTrigger (s : State) (slot pin : Nat) : State :=
  match s.slotDrive slot with
  | some c =>
    if s.driveOn c && s.triggerDue slot then
      ((s.setLoopSlot slot { s.loop slot with mark := s.nextMark slot }).readPin c pin).driveCheck c 2
    else s
  | none => s

/-- A drive's slot at its trigger: the pin is read and the commanded speed becomes its target (R304, R356). -/
def State.driveTrigger (s : State) (slot c pin : Nat) : State :=
  let s1 := s.readPin c pin
  (s1.setTarget slot (Real32.ofInt (s1.commanded c))).driveCheck c 2

/-- The process variable of a slot becomes invalid, or valid again (R351). -/
def State.holdCheck (s : State) (slot : Nat) : State :=
  let st := s.n (lk slot 2)
  if st = 2 ∧ s.processValid slot = false then
    (s.setLoopSlot slot { s.loop slot with held := 2 }).setSlotState slot 3 3
  else if st = 3 ∧ s.processValid slot = true then (s.setSlotState slot (s.loop slot).held 3).bumpless slot
  else s

/-- The slot joins the evaluation queue, before the higher ones of the same grid step (R347). -/
def State.joinQueue (s : State) (slot : Nat) : State :=
  let later (i : Nat) : Bool := decide ((s.loop i).joined = some s.stamp) && decide (slot < i)
  let s1 := s.setLoopSlot slot { s.loop slot with queued := true, joined := some s.stamp }
  { s1 with loops := { s1.loops with queue := s.loops.queue.filter (fun i => !later i) ++ slot :: s.loops.queue.filter later } }

/-- LOOP_TRIGGER (R346, R347): the slot's trigger has come; its inputs are taken and it joins the evaluation queue. -/
def execLoopTrigger (slot pin feedback : Nat) (s0 : State) : Host.Outcome State Fault Refusal :=
  let s := match s0.target slot with
    | 0x301 => s0.zoneAdvance 1
    | 0x302 => s0.zoneAdvance 2
    | 0x303 => s0.zoneAdvance 3
    | _ => s0
  if s0.on 15 && decide (slot < 64) && decide (s.n (lk slot 2) ≠ 0) && s.triggerDue slot then
    let x := s.loop slot
    let s1 := s.setLoopSlot slot { x with mark := s.nextMark slot, triggers := if s.triggerSource slot = 1 then (s.stamp :: x.triggers).take 65 else x.triggers }
    let t := s1.target slot
    let s2 := match s1.slotDrive slot with
      | some c => s1.driveTrigger slot c pin
      | none => if 0x200 < t ∧ t < 0x300 then s1.setn (hk (t - 0x200) 6) (min feedback 4095) else s1
    let s3 := (s2.setReal (lk slot 0xA) (s2.processNow slot (min feedback 4095))).holdCheck slot
    let y := s3.loop slot
    if s3.n (lk slot 2) = 0 ∨ s3.n (lk slot 2) = 3 then .next s3
    else if y.queued then
      let s4 := (s3.bump (lk slot 0x1D)).setLoopSlot slot { y with sinceOverrun := 0 }
      .next (if y.sinceOverrun = 1024 then s4.slotEvent slot 3 0 else s4)
    else .next (s3.joinQueue slot)
  else .next (if s0.on 15 && decide (slot < 64) && decide (s0.n (lk slot 2) = 0) then s0.idleTrigger slot pin else s0)

/-- What a new output does to its target (R349). -/
def State.slotActs (s : State) (slot : Nat) : State :=
  let t := s.target slot
  if 0x200 < t ∧ t < 0x300 then (if s.hvState (t - 0x200) = 2 then s.hvEvaluated (t - 0x200) slot else s)
  else if 0x300 < t then ((s.decideHalfCycle (t - 0x300) slot).refreshInBand (t - 0x300))
  else s

/-- LOOP_EVALUATION (R347, R352): the pipeline evaluates the slot at the front of the queue. -/
def execLoopEvaluation (slot : Nat) (s : State) : Host.Outcome State Fault Refusal :=
  if s.on 15 && decide (s.loops.queue.head? = some slot) then
    let x := s.loop slot
    let s1 := ({ s with loops := { s.loops with queue := s.loops.queue.drop 1 } }.setLoopSlot slot
      { x with queued := false, sinceOverrun := min (x.sinceOverrun + 1) 1024 }).bump (lk slot 0x1C)
    match s1.n (lk slot 2) with
    | 1 => .next ((s1.manualLaw slot).slotActs slot)
    | 2 => .next ((s1.controlLaw slot).slotActs slot)
    | _ => .next s1
  else .next s

/-- What an accepted write of `Slot enable` or `Mode` does on a free slot (R351). -/
def State.slotEnable (s : State) (slot : Nat) (on : Bool) : State :=
  if on then
    if s.n (lk slot 2) = 0 then
      if s.n (lk slot 7) = 0 then (s.setSlotState slot 1 1).markSlot slot
      else ((s.setSlotState slot 2 1).markSlot slot).bumpless slot
    else s
  else s.stopSlot slot 1

def State.slotMode (s : State) (slot mode : Nat) : State :=
  match s.n (lk slot 2), mode with
  | 1, 1 => (s.setSlotState slot 2 1).bumpless slot
  | 2, 0 => s.setSlotState slot 1 1
  | 3, 0 => s.setLoopSlot slot { s.loop slot with held := 1 }
  | 3, _ => s.setLoopSlot slot { s.loop slot with held := 2 }
  | _, _ => s

/-- PD15 goes off: every slot is DISABLED, every channel DISABLED and every zone OFF (R384). -/
def State.loopsDown (s : State) : State :=
  let s1 := s.each (upFrom 1 20) (fun t h => t.hvTo h 0 1)
  let s2 := s1.each [1, 2, 3] (fun t z => t.zoneTo z 0 2)
  let s3 := s2.each (upFrom 0 64) (fun t i => t.stopSlot i 2)
  { s3 with loops := {} }

end Sys2Proof.Machine
end

