-- ==== Sys2Proof/Machine/Steppers.lean ====
section
/-! DEFINITION. The Step Motion Unit: axis states, moves, load angle, limits, homing, safe actions and re-initialisation
(R320 to R345). -/

namespace Sys2Proof.Machine

/-- An object of axis n: the record 0x4400 + 0x10 × (n − 1) + m (R342). -/
def axk (n m o : Nat) : Nat := K (0x4400 + 0x10 * (n - 1) + m) o

/-- The fault source of an axis (R344). -/
def stepSource (n : Nat) : Nat := 0x90 + (n - 1) / 2

/-- The axis is there and PD14 is on. -/
def State.axisOn (s : State) (n : Nat) : Bool := decide (1 ≤ n) && (decide (n ≤ 12) && s.on 14)

def State.axisState (s : State) (n : Nat) : Nat := s.n (axk n 0 2)

/-- The debounce time of the home input (R336). -/
def tmDebounce (n : Nat) : Nat := timer 23 n

/-! ## Events -/

/-- EV115 to EV119 (R343). -/
def State.moveEvent (s : State) (n sub entry code tag : Nat) : State :=
  s.event 115 (sub + entry * 256 + n * 65536 + code % 256 * 2 ^ 24 + tag * 2 ^ 32)
def State.loadEvent (s : State) (n sub : Nat) : State :=
  s.event 117 (sub + n * 65536 + unsigned 8 (Int.tdiv (s.i (axk n 0 0xB)) 2) * 2 ^ 24 + unsigned 32 (s.i (axk n 0 4)) * 2 ^ 32)
def State.homeEvent (s : State) (n sub kind : Nat) : State :=
  s.event 118 (sub + s.n (axk n 3 0xB) * 256 + n * 65536 + kind * 2 ^ 24 + unsigned 32 (s.stepper n).edge * 2 ^ 32)
def State.positionEvent (s : State) (n sub cause : Nat) : State :=
  s.event 119 (sub + cause * 256 + n * 65536 + unsigned 32 (s.i (axk n 0 4)) * 2 ^ 32)

/-- `Position valid` becomes FALSE: EV119 with the cause (R325). -/
def State.loseValid (s : State) (n cause : Nat) : State :=
  if s.flag (axk n 0 3) then (s.setb (axk n 0 3) false).positionEvent n 2 cause else s

/-! ## Coils -/

/-- The motor bus is in undervoltage: every bridge is off (R335). -/
def State.busLow (s : State) : Bool := decide (s.n (K 0x2100 0xB) = 1)

/-- The bridges of an axis energise its coils (R323, R335). -/
def State.bridgesOn (s : State) (n : Nat) : Bool :=
  s.axisOn n && (!s.busLow && (!(s.stepper n).dark &&
    match s.axisState n with
    | 0 => false
    | 2 => decide ((s.stepper n).waiting ≠ 0)
    | 5 => s.n (axk n 0 0xE) == 8 || s.n (axk n 0 0xE) == 6
    | _ => true))

/-- The RMS coil current an axis is set to, in mA (R320, R323). -/
def State.coilCurrent (s : State) (n : Nat) : Nat :=
  if s.bridgesOn n then s.n (if s.axisState n = 3 ∨ s.axisState n = 4 then axk n 1 1 else axk n 1 2) else 0

/-- The electrical angle of the current vector in the coils: 1,024 microsteps to the turn; `Direction` 1 reverses the sequence (R320,
R322). -/
def State.coilAngle (s : State) (n : Nat) : Nat :=
  let p := s.i (axk n 0 4) - (s.stepper n).shift
  unsigned 10 (if s.n (axk n 1 8) = 1 then -p else p)

/-- The count takes a value while the coils stay where they are (R322). -/
def State.recount (s : State) (n : Nat) (value : Int) : State :=
  let x := s.stepper n
  (s.seti (axk n 0 4) value).setStepper n { x with shift := x.shift + value - s.i (axk n 0 4) }

/-! ## Motion -/

/-- The motion of an axis now. -/
def State.motion (s : State) (n : Nat) : Motion :=
  let x := s.stepper n
  if x.plan.isEmpty then { p := s.i (axk n 0 4) * micro } else planAt x.plan x.goal (s.stamp - x.begun)

/-- A stepper's speed in microsteps/s as the µm/s of the velocity of an axis that it feeds with a scale (R31). -/
def stepperVelocity (speed scale : Int) : Int :=
  clampInt (-(2 ^ 31)) (2 ^ 31 - 1) (Int.tdiv (speed * scale * 25400) (614400 * 65536))

/-- The axes fed by stepper n move with it (R29, R322). -/
def State.feedStepper (s : State) (n : Nat) (d speed : Int) : State :=
  s.each (upFrom 1 8) (fun t a =>
    if t.axisSource a = 0x10 + n then
      let scale : Int := t.n (K (0x300F + a) 5)
      (t.moveAxis a (d * scale)).seti (K (0x300F + a) 4) (stepperVelocity speed scale)
    else t)

/-- `Commanded position` and `Commanded velocity` of an axis follow its profile; a reversal is recorded when the velocity
passes zero (R322, R330). -/
def State.axisAdvance (s : State) (n : Nat) : State :=
  let x := s.stepper n
  if x.plan.isEmpty then s
  else
    let m := s.motion n
    let p := signed 32 (unsigned 32 m.microstep)
    let d := signed 32 (unsigned 32 (p - s.i (axk n 0 4)))
    let s1 := ((s.seti (axk n 0 4) p).seti (axk n 0 5) m.speed).feedStepper n d m.speed
    if x.reversing ≠ 0 ∧ m.v * x.reversing ≤ 0 then
      (s1.setStepper n { x with reversing := 0 }).moveEvent n 5 x.entry 0 x.tag
    else s1

/-- The axis commands no further microsteps. -/
def State.axisHalt (s : State) (n : Nat) : State :=
  let s1 := s.axisAdvance n
  let s2 := if (s.stepper n).plan.isEmpty then s1 else (s1.seti (axk n 0 5) 0).feedStepper n 0 0
  ((s2.setStepper n { s2.stepper n with plan := [], purpose := 0, reversing := 0, waiting := 0, above := 0, under := 0,
                                        open_ := 0, stalled := false }).seti (axk n 0 0xB) 0).disarm (tmDebounce n)

/-- A profile begins. -/
def State.runPlan (s : State) (n purpose : Nat) (plan : List Segment) (goal : Int) : State :=
  s.setStepper n { s.stepper n with plan := plan, goal := goal, begun := s.stamp, purpose := purpose }

/-! ## Axis states -/

/-- An axis changes state: EV114 (R323). -/
def State.axisTo (s : State) (n new cause : Nat) : State :=
  let old := s.axisState n
  if old = new then s
  else
    let s1 := (s.setn (axk n 0 2) new).event 114 (new + old * 256 + n * 65536 + cause * 2 ^ 24)
    s1.setStepper n { s1.stepper n with dark := false, busDown := false, stillAt := if new = 1 then s.stamp else (s.stepper n).stillAt }

/-- The homing search is abandoned. -/
def State.endSearch (s : State) (n result : Nat) : State := if s.axisState n = 4 then s.setn (axk n 3 0xA) result else s

/-- The axis enters FAULT with a kind (R323, R334, R344). -/
def State.axisFault (s : State) (n kind : Nat) : State :=
  (((s.axisHalt n).endSearch n 5).setn (axk n 0 0xE) kind).axisTo n 5 3

/-- Homing fails (R336, R337). -/
def State.homeFails (s : State) (n kind : Nat) : State :=
  ((s.axisAdvance n).homeEvent n 5 kind).fault (stepSource n) kind n |>.axisFault n kind

/-- The axis comes to rest in STANDSTILL, and under a motor bus in undervoltage at once in POWERED DOWN (R335). -/
def State.axisStands (s : State) (n cause : Nat) : State :=
  let s1 := s.axisTo n 1 cause
  if s.busLow then
    let s2 := s1.axisTo n 2 6
    (s2.setStepper n { s2.stepper n with busDown := true }).positionEvent n 3 0
  else s1

/-! ## Starting moves -/

/-- An entry of the move table: its two words (R326). -/
def State.moveEntry (s : State) (n e : Nat) : Nat × Nat :=
  let b := s.bytes (axk n 4 1)
  (leAt (16 * e) 8 b, leAt (16 * e + 8) 8 b)

/-- A move as its entry or `Target position` gives it. -/
structure Move where
  relative : Bool
  rejectBehind : Bool
  target : Int
  limits : Limits
  deriving DecidableEq, Repr

/-- Limits in full steps/s, 10 full steps/s² and 1,000 full steps/s³, in microsteps (R320, R326). -/
def fullSteps (v a j : Nat) : Limits := { v := 256 * v, a := 2560 * a, j := 256000 * j }

/-- The follow limits (R328). -/
def State.followLimits (s : State) (n : Nat) : Limits := fullSteps (s.n (axk n 1 9)) (s.n (axk n 1 0xA)) (s.n (axk n 1 0xB))

/-- The move of an entry; 0xFF stands for `Target position`. An empty entry gives none. -/
def State.moveOf (s : State) (n e : Nat) (target : Int) : Option Move :=
  if e = 0xFF then some { relative := false, rejectBehind := false, target := target, limits := s.followLimits n }
  else
    let (w0, w1) := s.moveEntry n e
    let v := field w1 63 48
    if v = 0 then none
    else some { relative := bitOf w0 0, rejectBehind := bitOf w0 1, target := signed 32 (field w0 63 32),
                limits := fullSteps v (field w1 47 32) (field w1 31 16) }

/-- The position a move ends at, in microsteps. -/
def State.moveTarget (s : State) (n : Nat) (m : Move) : Int := if m.relative then s.i (axk n 0 4) + m.target else m.target

/-- A limit input of an axis is active. -/
def State.limitActive (s : State) (n : Nat) (positive : Bool) : Bool :=
  inputActive (s.n (axk n 3 (if positive then 3 else 2))) s.pos.inputs

/-- Why a move may not start: the low byte of its detail code (R328, R345). -/
def State.moveRefusal (s : State) (n e : Nat) (target : Int) : Option Nat :=
  let st := s.axisState n
  if s.flag (axk n 0 1) = false ∨ 4 ≤ st ∨ (s.stepper n).purpose = 6 then some 6
  else
    match s.moveOf n e target with
    | none => some 0xA
    | some m =>
      let goal := s.moveTarget n m
      if m.relative = false ∧ s.flag (axk n 0 3) = false then some 8
      else if (s.i (axk n 0 4) < goal ∧ s.limitActive n true = true) ∨ (goal < s.i (axk n 0 4) ∧ s.limitActive n false = true) then
        some 9
      else if m.rejectBehind && moveReverses m.limits (goal * micro) (s.motion n) then some 7
      else none

/-- A move starts, or replaces the one in force: EV115 (R329). -/
def State.runMove (s : State) (n e tag : Nat) (m : Move) : State :=
  let now := s.motion n
  let goal := s.moveTarget n m * micro
  let rev := moveReverses m.limits goal now
  let replaces := decide (s.axisState n = 3)
  let x := s.stepper n
  let s1 := s.setStepper n { x with limits := m.limits, entry := e, tag := tag, waiting := 0,
                                    reversing := if rev then Int.sign now.v else 0 }
  let s2 := (s1.axisTo n 3 2).moveEvent n (if replaces then 4 else 1) e 0 tag
  s2.runPlan n 1 (movePlan m.limits goal now) goal

/-- An axis that is POWERED DOWN is energised first (R324, R332). -/
def State.energise (s : State) (n waiting e tag : Nat) (target : Int) : State :=
  let s1 := s.setStepper n { s.stepper n with waiting := waiting, entry := e, tag := tag, target := target, energisedAt := s.stamp }
  if s.busLow ∨ (s.stepper n).waiting ≠ 0 then s1 else s1.positionEvent n 4 0

/-- A move that nothing refuses starts. -/
def State.startMove (s : State) (n e tag : Nat) (slot : Bool) (target : Int) : State :=
  if s.axisState n = 2 then s.energise n (if slot then 2 else 1) e tag target
  else
    match s.moveOf n e target with
    | none => s
    | some m => s.runMove n e tag m

/-- A host has written a move or a stop that is carried out. -/
def State.hostActs (s : State) (n what : Nat) : State := s.setStepper n { s.stepper n with hostAt := some s.stamp, hostWrote := what }

/-- A move of a slot that is not started: EV115 and kind 0x6 (R328). -/
def State.notStarted (s : State) (n e code tag : Nat) : State :=
  (s.moveEvent n (if code = 7 then 6 else 3) e code tag).fault (stepSource n) 0x6 n

/-- What an accepted write of `Target position` does: a changed value is a new move, and so is a write that finds the axis
at rest (R328, R329). -/
def State.targetWritten (s : State) (n : Nat) (old new : Int) : State :=
  let x := s.stepper n
  if old = new ∧ s.axisState n = 3 ∧ x.entry = 0xFF ∧ x.purpose = 1 then s else (s.hostActs n 0xFF).startMove n 0xFF 0 false new

/-- What an accepted write of `Stop` does (R331). -/
def State.stopAxis (s : State) (n kind : Nat) : State :=
  let x := s.stepper n
  if x.waiting ≠ 0 then s.setStepper n { x with waiting := 0 }
  else if (s.axisState n = 3 ∨ s.axisState n = 4) ∧ x.purpose ≠ 6 ∧ x.purpose ≠ 7 then
    let now := s.motion n
    let halt := if kind = 0 then stopPlan x.limits now else quickStop (2560 * s.n (axk n 1 0xC)) now
    ((s.endSearch n 0).disarm (tmDebounce n)).runPlan n 2 halt.1 halt.2
  else s

/-- What a host wrote in this grid step stands after a STEP_MOVE of the same step: it replaces the move (R331). -/
def State.hostStands (s : State) (n : Nat) : State :=
  let x := s.stepper n
  if x.hostAt ≠ some s.stamp then s
  else if 0x100 ≤ x.hostWrote then s.stopAxis n (x.hostWrote - 0x100)
  else s.startMove n x.hostWrote 0 false (s.i (axk n 0 6))

/-- STEP_MOVE (R143, R328, R331). -/
def execStepMove (slot : Nat) (s : State) : Host.Outcome State Fault Refusal :=
  .next (s.fireSlot slot 0x30 (fun t x =>
    if t.axisOn x.target then
      match t.moveRefusal x.target (x.arg % 64) 0 with
      | some c => t.notStarted x.target (x.arg % 64) c x.tag
      | none => (t.startMove x.target (x.arg % 64) x.tag true 0).hostStands x.target
    else t))

/-- What an accepted write of `Position preset` does (R322, R325). -/
def State.presetAxis (s : State) (n : Nat) (value : Int) : State :=
  ((s.recount n value).setb (axk n 0 3) true).positionEvent n 1 0

/-! ## Homing -/

/-- The limits of the search: `Homing speed` under the follow acceleration and jerk (R336). -/
def State.searchLimits (s : State) (n : Nat) : Limits := { s.followLimits n with v := 256 * s.n (axk n 3 5) }

/-- The search begins a leg. -/
def State.searchLeg (s : State) (n : Nat) (up : Bool) : State :=
  let s1 := s.setStepper n { s.stepper n with up := up, legFrom := s.i (axk n 0 4), limits := s.searchLimits n }
  s1.runPlan n 3 (searchPlan (s.searchLimits n) up (s.motion n)) 0

/-- The first activation of a limit input in the search: a quick stop, after which the direction is reversed (R337). -/
def State.searchReverses (s : State) (n : Nat) : State :=
  let halt := quickStop (2560 * s.n (axk n 1 0xC)) (s.motion n)
  let s1 := (s.setn (axk n 3 0xA) 2).homeEvent n 2 0
  (s1.setStepper n { s1.stepper n with reversed := true }).runPlan n 5 halt.1 halt.2

/-- Home is found: the edge is taken and the axis stops (R336). -/
def State.homeFound (s : State) (n : Nat) : State :=
  let s1 := ((s.disarm (tmDebounce n)).setn (axk n 3 0xA) 3).homeEvent n 3 0
  let halt := stopPlan (s1.stepper n).limits (s1.motion n)
  s1.runPlan n 4 halt.1 halt.2

/-- The search still looks for home. -/
def State.searching (s : State) (n : Nat) : Bool :=
  s.axisState n == 4 && ((s.stepper n).purpose == 3 || (s.stepper n).purpose == 5)

/-- The home input takes a level in the search (R336). -/
def State.homeLevel (s : State) (n : Nat) (active : Bool) : State :=
  if active then
    if s.armed (tmDebounce n) then s
    else
      let s1 := s.setStepper n { s.stepper n with edge := s.i (axk n 0 4) }
      if s.n (axk n 3 6) = 0 then s1.homeFound n else s1.after (tmDebounce n) (s.n (axk n 3 6) * 1000)
  else if s.armed (tmDebounce n) then
    let c := min 255 (s.n (axk n 3 0xB) + 1)
    let s1 := (s.disarm (tmDebounce n)).setn (axk n 3 0xB) c
    if s.n (axk n 3 7) < s.n (axk n 3 0xB) + 1 then s1.homeFails n 7 else s1
  else s

/-- Homing begins with the coils energised (R336, R337). -/
def State.runHoming (s : State) (n : Nat) : State :=
  let limited := s.limitActive n true || s.limitActive n false
  let levels := b2n (s.limitActive n false) + 2 * b2n (s.limitActive n true)
  let s1 := (s.setn (axk n 3 0xB) 0).setStepper n { s.stepper n with waiting := 0, reversed := false, travelled := 0, edge := 0,
                                                                     entry := 0xFF, tag := 0, levels := levels }
  let s2 := ((s1.axisTo n 4 1).setn (axk n 3 0xA) 1).homeEvent n 1 0
  let up := s.flag (axk n 3 4)
  let s3 := if limited then
      let s4 := (s2.setn (axk n 3 0xA) 2).homeEvent n 2 0
      (s4.setStepper n { s4.stepper n with reversed := true }).searchLeg n (!up)
    else s2.searchLeg n up
  if inputActive (s.n (axk n 3 1)) s.pos.inputs then s3.homeLevel n true else s3

/-- What an accepted write of `Start homing` does. -/
def State.startHoming (s : State) (n : Nat) : State :=
  if s.axisState n = 2 then s.energise n 3 0xFF 0 0 else s.runHoming n

/-- RE_ENERGISE_DONE (R324): the move or the homing starts, with the values it has at that instant. -/
def execReEnergiseDone (n : Nat) (s : State) : Host.Outcome State Fault Refusal :=
  let x := s.stepper n
  if s.axisOn n && (decide (s.axisState n = 2 ∧ x.waiting ≠ 0) && (!s.busLow &&
      decide (x.energisedAt + s.n (axk n 1 4) * 1000000 ≤ s.stamp))) then
    if x.waiting = 3 then .next (s.runHoming n)
    else
      match s.moveRefusal n x.entry x.target with
      | some c =>
        let s1 := s.setStepper n { x with waiting := 0 }
        .next (if x.waiting = 2 then s1.notStarted n x.entry c x.tag else s1.moveEvent n (if c = 7 then 6 else 3) x.entry c x.tag)
      | none =>
        match s.moveOf n x.entry x.target with
        | none => .next s
        | some m => .next (s.runMove n x.entry x.tag m)
  else .next s

/-- STANDSTILL_RELEASE_ELAPSED (R323). -/
def execStandstillReleaseElapsed (n : Nat) (s : State) : Host.Outcome State Fault Refusal :=
  let t := s.n (axk n 1 3)
  if s.axisOn n && decide (s.axisState n = 1 ∧ t ≠ 0 ∧ (s.stepper n).stillAt + t * 1000000 ≤ s.stamp) then
    .next ((s.axisTo n 2 2).positionEvent n 3 0)
  else .next s

/-- Homing is complete: the edge position becomes `Home position` (R336). -/
def State.homeDone (s : State) (n : Nat) : State :=
  let shift := s.i (axk n 3 8) - (s.stepper n).edge
  let s1 := (s.recount n (signed 32 (unsigned 32 (s.i (axk n 0 4) + shift)))).setb (axk n 0 3) true
  ((s1.setn (axk n 3 0xA) 4).homeEvent n 4 0).axisStands n 2

/-- MOVE_COMPLETE (R323, R331, R334, R336, R337): the profile in progress has come to rest. -/
def execMoveComplete (n : Nat) (s : State) : Host.Outcome State Fault Refusal :=
  let x := s.stepper n
  if s.axisOn n && (!x.plan.isEmpty && decide (x.begun + planTime x.plan ≤ s.stamp)) then
    let at_ := s.axisHalt n
    match x.purpose with
    | 4 => .next (at_.homeDone n)
    | 5 =>
      let d := (at_.i (axk n 0 4) - x.legFrom).natAbs
      .next ((at_.setStepper n { at_.stepper n with travelled := x.travelled + d }).searchLeg n (!x.up))
    | 6 => .next ((at_.fault (stepSource n) 6 n).axisFault n 6)
    | 7 => .next (at_.homeFails n 6)
    | _ => .next (((at_.axisStands n 2).bump (axk n 0 0xF)).moveEvent n 2 x.entry 0 x.tag)
  else .next s

/-- LIMIT_INPUT_ACTIVE (R334, R337). -/
def execLimitInputActive (n : Nat) (positive active : Bool) (s : State) : Host.Outcome State Fault Refusal :=
  let code := s.n (axk n 3 (if positive then 3 else 2))
  if s.axisOn n && decide (code % 64 ≠ 0) then
    let x := s.stepper n
    let bit := if positive then 1 else 0
    let s0 := s.senseInput code active
    let s1 := s0.setStepper n { s0.stepper n with levels := if active then withBit x.levels bit else withoutBit x.levels bit }
    let now := s.motion n
    if active && !bitOf x.levels bit then
      let halt := quickStop (2560 * s.n (axk n 1 0xC)) now
      let way := if now.v = 0 then now.a else now.v
      if s.axisState n = 3 ∧ x.purpose ≠ 6 ∧ (if positive then 0 < way else way < 0) then .next (s1.runPlan n 6 halt.1 halt.2)
      else if s.searching n then
        .next (if x.reversed then s1.runPlan n 7 halt.1 halt.2 else s1.searchReverses n)
      else .next s1
    else .next s1
  else .next s

/-- HOME_INPUT_EDGE (R336). -/
def execHomeInputEdge (n : Nat) (active : Bool) (s : State) : Host.Outcome State Fault Refusal :=
  let code := s.n (axk n 3 1)
  if s.axisOn n && decide (code % 64 ≠ 0) then
    let s1 := s.senseInput code active
    .next (if s.searching n then s1.homeLevel n active else s1)
  else .next s

/-- HOME_DEBOUNCE_ELAPSED (R336). -/
def execHomeDebounceElapsed (n : Nat) (s : State) : Host.Outcome State Fault Refusal :=
  if s.axisOn n && (s.searching n && s.due (tmDebounce n)) then .next (s.homeFound n) else .next s

/-! ## Once per full step -/

/-- The drive mode that `Mode select` and the commanded speed call for; its change writes EV116 (R321). -/
def State.driveModeStep (s : State) (n : Nat) : State :=
  let speed := (s.i (axk n 0 5)).natAbs / 256
  let old := s.n (axk n 0 0xC)
  let new := match s.n (axk n 1 7) with
    | 0 => if s.n (axk n 1 5) ≤ speed then 1 else if speed + s.n (axk n 1 6) < s.n (axk n 1 5) then 0 else old
    | 1 => 0
    | _ => 1
  if new = old then s else (s.setn (axk n 0 0xC) new).event 116 (new + n * 65536 + speed % 2 ^ 32 * 2 ^ 32)

/-- A coil below 25 % of its set value for 16 full steps in strong mode is open (R335). -/
def State.coilStep (s : State) (n coil : Nat) : State :=
  let k := if s.n (axk n 0 0xC) = 1 ∧ coil < 25 then (s.stepper n).open_ + 1 else 0
  let s1 := s.setStepper n { s.stepper n with open_ := k }
  if 16 ≤ k then ((s1.fault (stepSource n) 7 n).axisFault n 7).loseValid n 6 else s1

/-- The load angle of a full step: lost step, stall and its end (R333). One that falls with a limit trip whose quick stop still runs is
recorded with it, and `Fault cause` takes the first of lost step, limit and stall (R334). -/
def State.loadStep (s : State) (n : Nat) (lag : Int) : State :=
  if s.n (axk n 2 3) * 256 ≤ (s.i (axk n 0 5)).natAbs then
    let x := s.stepper n
    let high := decide ((s.n (axk n 2 1) : Int) ≤ lag)
    let above := if high then x.above + 1 else 0
    let under := if high then 0 else x.under + 1
    let lost := decide (180 < lag)
    let stall := decide (s.n (axk n 2 2) ≤ above) && !x.stalled
    let clear := x.stalled && decide (s.n (axk n 2 2) ≤ under)
    let s1 := (s.seti (axk n 0 0xB) (clampInt (-32768) 32767 lag)).setStepper n
      { x with above := above, under := under, stalled := (x.stalled || stall) && !clear }
    let s2 := if lost then (s1.bump (axk n 2 6)).loadEvent n 2 else s1
    let s3 := if stall then (s2.bump (axk n 2 5)).loadEvent n 1 else s2
    let s4 := if clear then s3.loadEvent n 3 else s3
    let stops := stall && s4.flag (axk n 2 4)
    let trip := decide (x.purpose = 6)
    if lost || stops then
      let s5 := s4.each ((if lost then [8] else []) ++ (if trip then [6] else []) ++ (if stops then [8] else []))
        (fun t k => t.fault (stepSource n) k n)
      let s6 := s5.axisFault n (if lost = false ∧ trip = true then 6 else 8)
      if lost then s6.loseValid n 2 else s6
    else s4
  else (s.seti (axk n 0 0xB) 0).setStepper n { s.stepper n with above := 0 }

/-- The search has travelled `Homing distance` without finding home (R336). -/
def State.distanceStep (s : State) (n : Nat) : State :=
  let x := s.stepper n
  if s.searching n && decide (s.n (axk n 3 9) * 256 ≤ x.travelled + (s.i (axk n 0 4) - x.legFrom).natAbs) then s.homeFails n 4
  else s

/-- One step of an axis that still moves. -/
def State.whileMoving (s : State) (n : Nat) (f : State → State) : State :=
  if s.axisState n = 3 ∨ s.axisState n = 4 then f s else s

/-- LOAD_ANGLE_ESTIMATE (R321, R333, R335, R336): an axis passes a full step. -/
def execLoadAngleEstimate (n : Nat) (lag : Int) (coil : Nat) (s : State) : Host.Outcome State Fault Refusal :=
  if s.axisOn n then
    .next (s.whileMoving n (fun t =>
      let t1 := (t.axisAdvance n).driveModeStep n
      let t2 := t1.loadStep n lag
      (t2.whileMoving n (fun u => u.coilStep n coil)).whileMoving n (fun u => u.distanceStep n)))
  else .next s

/-! ## Bridges -/

/-- The bridges of an axis are switched off for a cause of their own (R335, R344). -/
def State.bridgeFails (s : State) (n kind : Nat) : State :=
  let st := s.axisState n
  let s1 := if st = 3 ∨ st = 4 ∨ kind = 9 ∧ st ≠ 5 ∧ st ≠ 6 then s.axisFault n kind
    else if st = 1 then (s.axisTo n 2 3).positionEvent n 3 0
    else (s.axisHalt n).setStepper n { (s.axisHalt n).stepper n with dark := true }
  s1.loseValid n 6

/-- BRIDGE_OVERCURRENT (R335). -/
def execBridgeOvercurrent (n : Nat) (s : State) : Host.Outcome State Fault Refusal :=
  if s.bridgesOn n then .next ((s.fault (stepSource n) 9 n).bridgeFails n 9) else .next s

/-- BRIDGE_THERMAL_SHUTDOWN (R325, R344): the bridges of J22, J23 or J24. -/
def execBridgeThermalShutdown (g : Nat) (s : State) : Host.Outcome State Fault Refusal :=
  if s.on 14 && (g == 1 || g == 2 || g == 3) then
    .next ((s.fault 0x96 0xC g).each (upFrom (4 * g - 3) 4) (fun t n => if t.bridgesOn n then t.bridgeFails n 0xC else t))
  else .next s

/-! ## What acts on the axes from outside -/

/-- What an accepted write of `Axis enable` does (R323, R338). -/
def State.axisEnable (s : State) (n : Nat) (on : Bool) : State :=
  if on then (if s.axisState n = 0 then s.axisStands n 1 else s)
  else if s.axisState n = 6 then s
  else ((s.axisHalt n).endSearch n 0).axisTo n 0 1

/-- The Lid holds an axis: it stops at once and applies its `Safe action` (R338, R339). -/
def State.axisSafe (s : State) (n : Nat) : State :=
  if s.axisOn n && decide (s.axisState n ≠ 6) then
    let moving := decide (s.axisState n = 3) || decide (s.axisState n = 4)
    let off := s.flag (axk n 0 0xD) || !s.bridgesOn n
    let s1 := (s.axisHalt n).endSearch n 0
    let s2 := (if s.flag (axk n 0 0xD) then s1.setb (axk n 0 1) false else s1).axisTo n 6 4
    let s3 := s2.setStepper n { s2.stepper n with dark := off }
    if moving then s3.loseValid n 3 else s3
  else s

/-- The Lid releases an axis (R340). -/
def State.axisRelease (s : State) (n : Nat) : State :=
  if s.axisOn n && decide (s.axisState n = 6) then
    if s.flag (axk n 0 1) then s.axisStands n 4 else s.axisTo n 0 4
  else s

/-- The motor bus enters undervoltage (R335). -/
def State.steppersUnder (s : State) : State :=
  s.each (upFrom 1 12) (fun t n =>
    if t.axisOn n then
      match t.axisState n with
      | 1 =>
        let u := t.axisTo n 2 6
        (u.setStepper n { u.stepper n with busDown := true }).positionEvent n 3 0
      | 3 => ((t.fault (stepSource n) 0xB n).axisFault n 0xB).loseValid n 4
      | 4 => ((t.fault (stepSource n) 0xB n).axisFault n 0xB).loseValid n 4
      | _ => t
    else t)

/-- The motor bus recovers: an axis it powered down returns to STANDSTILL, and one that waits is energised from now
(R324, R335). -/
def State.steppersBusOk (s : State) : State :=
  s.each (upFrom 1 12) (fun t n =>
    let x := t.stepper n
    if t.axisOn n && decide (t.axisState n = 2) then
      if x.waiting ≠ 0 then (t.setStepper n { x with energisedAt := t.stamp }).positionEvent n 4 0
      else if x.busDown then t.axisTo n 1 6
      else t
    else t)

/-- PD14 goes off: every axis is DISABLED, its bridges off (R325, R338, R384). -/
def State.steppersDown (s : State) : State :=
  s.each (upFrom 1 12) (fun t n =>
    let valid := t.flag (axk n 0 3)
    ((((t.axisHalt n).endSearch n 0).axisTo n 0 2).setb (axk n 0 3) false).setStepper n { hadPosition := valid })

/-- PD14 is on again: a position held before is lost (R325, cause 1). -/
def State.steppersUp (s : State) : State :=
  s.each (upFrom 1 12) (fun t n =>
    if (t.stepper n).hadPosition then (t.setStepper n { t.stepper n with hadPosition := false }).positionEvent n 2 1 else t)

/-- An axis can be re-initialised (R341). -/
def State.axisReinitable (s : State) (n : Nat) : Bool := decide (s.axisState n ≠ 3 ∧ s.axisState n ≠ 4)

/-- Function re-initialisation of an axis (R325, R341). One that the Lid holds stays SAFE, with its bridges off, until the release. -/
def State.axisReinit (s : State) (n : Nat) : State :=
  let held := decide (s.axisState n = 6)
  let s1 := (s.axisHalt n).setb (axk n 0 1) false
  ((if held then s1 else s1.axisTo n 0 5).loseValid n 5).setStepper n { dark := held }

/-- In each grid step the axes follow their profiles. -/
def State.stepperTick (s : State) : State := s.each (s.steppers.map Prod.fst) State.axisAdvance

end Sys2Proof.Machine
end

