-- ==== Sys2Proof/Machine/Measure.lean ====
section
/-! DEFINITION. Measurement slots, expected measurements, the gate, and the loading of an image (R468, R470 to R476). -/

namespace Sys2Proof.Machine

/-! ## Slots and the gate -/

/-- The value of a measurement slot. -/
def State.slotValue (s : State) (k : Nat) : Bytes := s.trust.slots.getD k []

/-- A checked slot differs from its expected value (R473). -/
def State.slotMismatches (s : State) (k : Nat) : Bool :=
  bitOf (s.n (K 0x2420 1)) k && decide (s.slotValue k ≠ slice (48 * k) 48 (s.bytes (K 0x2420 2)))

/-- A slot keeps the gate closed: it mismatches, unacknowledged, and is slot 0, slot 3 or the active unit's (R474). -/
def State.slotCloses (s : State) (k : Nat) : Bool :=
  (k == 0 || (k == 3 || k == s.activeUnit)) && (bitOf (s.n (K 0x2420 3)) k && !bitOf s.trust.acked k)

/-- The gate follows the mismatches: EV035 (R474). -/
def State.refreshGate (s : State) : State :=
  let closed := (upFrom 0 4).any s.slotCloses
  if s.flag (K 0x2420 5) = closed then s
  else (s.setb (K 0x2420 5) closed).event 35 ((if closed then 2 else 3) + s.n (K 0x2420 3) * 256)

/-- Mismatches are evaluated (R473). -/
def State.evaluateSlots (s : State) : State :=
  (s.setn (K 0x2420 3) (maskOf ((upFrom 0 4).filter s.slotMismatches))).refreshGate

/-- An acknowledgement is cleared (R476). -/
def State.unacknowledge (s : State) (k : Nat) : State := { s with trust := { s.trust with acked := withoutBit s.trust.acked k } }

/-- A slot takes a value: EV033, a new result of 0x2410, and the evaluation of slots 1 and 2 (R472, R473, R491). -/
def State.setMeasurement (s : State) (k how : Nat) (value : Bytes) : State :=
  let s1 := { s with trust := { s.trust with slots := s.trust.slots.set k value } }.unacknowledge k
  let s2 := s1.bump (K 0x2410 1)
  (s2.event 33 (k + how * 256 + b2n (s2.slotMismatches k) * 65536 + ofLe (value.take 4) * 2 ^ 32)).when (k == 1 || k == 2)
    State.evaluateSlots

/-- A slot is extended with data (R472). -/
def State.extendMeasurement (s : State) (k : Nat) (data : Bytes) : State :=
  { s with trust := { s.trust with
      extended := s.trust.extended.set k ((s.trust.extended.getD k 0 + 1) % 2 ^ 32) } }.setMeasurement k 2
    (sha384 (s.slotValue k ++ sha384 data))

/-- Mismatches are acknowledged (R476). -/
def State.acknowledge (s : State) (m : Nat) : State := { s with trust := { s.trust with acked := m } }.refreshGate

/-- An accepted write of 0x2420: every acknowledgement is cleared, and the mismatches are evaluated (R473, R476). -/
def State.expectedWritten (s : State) : State := { s with trust := { s.trust with acked := 0 } }.evaluateSlots

/-! ## Images -/

/-- The partition of slot k of unit u: 1, 2, or 3 for the golden image (R454). -/
def slotPartition (u k : Nat) : Nat := if k = 3 then 0x30 else 0x10 * u + k

/-- The object that holds a slot's state (R462), by partition; 0 for a partition that is none. -/
def slotObject (p : Nat) : Nat :=
  match p with
  | 0x11 => K 0x3701 1 | 0x12 => K 0x3701 2 | 0x21 => K 0x3701 3 | 0x22 => K 0x3701 4 | 0x30 => K 0x3701 5
  | _ => 0

/-- A word of the container header of a partition (R470). -/
def State.containerWord (s : State) (p i : Nat) : Nat := ofLe (s.flashBytes p (8 * i) 8)

/-- The length of the image of a container. -/
def State.imageLength (s : State) (p : Nat) : Nat := field (s.containerWord p 0) 31 0

/-- Header and image of a container, and its signature. -/
def State.containerSigned (s : State) (p : Nat) : Bytes := s.flashBytes p 0 (64 + s.imageLength p)
def State.containerSignature (s : State) (p : Nat) : Bytes := s.flashBytes p (64 + s.imageLength p) 96

/-- A slot is VALID and its CRC-32 passes at the read (R468); `bad` lists the partitions whose read fails it. -/
def State.slotLoads (s : State) (bad : List Nat) (p : Nat) : Bool := decide (s.n (slotObject p) = 2) && !bad.contains p

/-- The candidates of a unit, from one of them on: boot slot, other slot, golden image (R468, R489). -/
def State.candidates (s : State) (u first : Nat) : List Nat :=
  let b := s.n (K 0x3701 (5 + u))
  [b, 3 - b, 3].drop first

/-- The slot a unit loads from: the first candidate that passes. -/
def State.loadSlot (s : State) (u first : Nat) (bad : List Nat) : Option Nat :=
  (s.candidates u first).find? (fun k => s.slotLoads bad (slotPartition u k))

/-- Why the boot slot was passed over: 0 not, 1 not VALID, 2 its CRC, 3 the boot watchdog (R492). -/
def State.fallbackReason (s : State) (u first k : Nat) (bad : List Nat) : Nat :=
  let b := s.n (K 0x3701 (5 + u))
  if k = b then 0
  else if first ≠ 0 then 3
  else if bad.contains (slotPartition u b) ∧ s.n (slotObject (slotPartition u b)) = 2 then 2
  else 1

/-- A unit's image is loaded from a slot and measured: EV032, and the unit's measurement slot (R468, R471, R472). -/
def State.loadImage (s : State) (u k reason : Nat) : State :=
  let p := slotPartition u k
  let good := Config.signatureGood (s.containerSigned p) (s.containerSignature p)
  let x := s.unit u
  let s1 := s.setUnit u { x with bootSlot := k, loading := 0, format := field (s.containerWord p 1) 31 16,
                                 formatOld := field (s.containerWord p 1) 15 0, release := s.containerWord p 2, signed := good }
  let s2 := s1.event 32 (u + k * 256 + b2n good * 65536 + reason * 2 ^ 24 + field (s.containerWord p 1) 63 32 * 2 ^ 32)
  s2.setMeasurement u 1 (sha384 (s.containerSigned p))

/-- An image load after start-up extends slot 7 with the unit code and the new value (R472). -/
def State.recordLoad (s : State) (u : Nat) : State := s.extendMeasurement 7 (BitVec.ofNat 8 u :: s.slotValue u)

/-- `Signature valid`, `Boot source` and `Loaded release` (R491). -/
def State.signatureBits (s : State) : Nat := b2n (s.unit 1).signed + 2 * b2n (s.unit 2).signed
def State.bootSource (s : State) : Nat := (s.unit 1).bootSlot + 256 * (s.unit 2).bootSlot
def State.loadedRelease (s : State) : Bytes := leBytes 8 (s.unit 1).release ++ leBytes 8 (s.unit 2).release

end Sys2Proof.Machine
end

