-- ==== Sys2Proof/Machine/Crock.lean ====
section
/-! DEFINITION. The Crock: states, commands and completions, the spool, firmware slots, media failures and health reports
(R446 to R466). -/

namespace Sys2Proof.Machine

/-! ## States -/

/-- The Crock changes state: EV104 (R450). -/
def State.crockTo (s : State) (new : Nat) : State :=
  let old := s.crockState
  if old = new then s else (s.setn (ck 1) new).event 104 (new + old * 256)

/-- Every command in progress and every automatic copy takes a status. -/
def State.cutCrock (s : State) (which : CrockCommand → Bool) (status : Nat) : State :=
  { s with crock := { s.crock with
      commands := s.crock.commands.map (fun c => if which c ∧ c.status = 0 then { c with status := status } else c),
      copies := s.crock.copies.map (fun c => if c.status = 0 then { c with status := status } else c) } }

/-- The opcode of a command in progress. -/
def CrockCommand.opcode (c : CrockCommand) : Nat := field (wordAt c.words 0) 63 56

/-- Opcodes that write (R455): WRITE, TRIM, SPOOL_PAGE, SPOOL_DELETE, SLOT_COMMIT and SLOT_ERASE. -/
def crockWrites (op : Nat) : Bool := op == 2 || op == 3 || op == 0x10 || op == 0x12 || op == 0x20 || op == 0x21

/-- The spare pool against its limits (R448): the warning once, READ-ONLY below 128. -/
def State.crockSpare (s : State) : State :=
  let n := s.n (ck 7)
  let s1 := if n ≤ s.n (ck 6) ∧ s.crock.warned = false then
      { s with crock := { s.crock with warned := true } }.event 107 (1 + n * 2 ^ 32)
    else s
  if n < 128 then
    let s2 := if s1.crock.low then s1 else { s1 with crock := { s1.crock with low := true } }.faultOn 0x84 0x6 n
    if s2.crockState = 2 then s2.crockTo 3 else s2
  else s1

/-- PD06 is ON: the Crock mounts (R450). -/
def State.crockUpPower (s : State) : State := s.crockTo 1

/-- PD06 is off: commands in progress end, and the Crock is OFF (R450, R456). -/
def State.crockDown (s : State) : State := (s.cutCrock (fun _ => true) 0xE).crockTo 0

/-- Quiesce begins: writes and copies are cut short (R450, R457). -/
def State.crockQuiesce (s : State) : State :=
  let st := s.crockState
  if st = 2 ∨ st = 3 then
    ({ s with crock := { s.crock with before := st } }.cutCrock (fun c => crockWrites c.opcode) 4).crockTo 4
  else s

/-- Quiesce ends with PD06 on (R450). -/
def State.crockResume (s : State) : State :=
  if s.crockState = 4 ∧ s.on 6 = true then (s.crockTo s.crock.before).crockSpare else s

/-- CROCK_MOUNT (R450): mounting ends. -/
def execCrockMount (valid : Bool) (s : State) : Host.Outcome State Fault Refusal :=
  if s.crockState = 1 then
    if valid then
      let s1 := if s.n (ck 7) < 128 then (s.crockTo 3).crockSpare else s.crockTo 2
      .next (if s.power.quiesce = 0 then s1 else s1.crockQuiesce)
    else .next ((s.fault 0x87 0xF 0).crockTo 5)
  else .next s

/-- READ-ONLY ends with the spare pool at or above 128 and source 0x84 cleared (R450). -/
def State.crockRecovers (s : State) : State :=
  if 128 ≤ s.n (ck 7) ∧ s.crock.low = true then
    let s1 := { s with crock := { s.crock with low := false, before := 2 } }.faultOff 0x84 0x6 (s.n (ck 7))
    if s1.crockState = 3 then s1.crockTo 2 else s1
  else s

/-- Function re-initialisation of the Crock (R484): accepted in READY, READ-ONLY and FAILED. -/
def State.crockReinitable (s : State) : Bool := s.crockState == 2 || (s.crockState == 3 || s.crockState == 5)
def State.crockReinit (s : State) : State := (s.cutCrock (fun _ => true) 0xE).crockTo 1

/-! ## Taking commands -/

def crockOpcodes : List Nat := [1, 2, 3, 0x10, 0x11, 0x12, 0x13, 0x20, 0x21]

/-- A slot is protected: the golden image, the slot of the ACTIVE unit, a slot being read (R459). -/
def State.slotProtected (s : State) (p : Nat) : Bool :=
  p == 0x30 || [1, 2].any (fun u =>
    (s.activeUnit == u && slotPartition u (s.unit u).bootSlot == p) ||
      ((s.unit u).loading != 0 && slotPartition u (s.unit u).loading == p))

/-- A partition the host may read, and one it may write (R454). -/
def partitionRead (p : Nat) : Bool := firmwareSlot p || (p == 0x40 || (p == 0x60 || p == 0x70))
def partitionWrite (p : Nat) : Bool := p == 0x40 || (firmwareSlot p && p != 0x30)

/-- The fields of a command (R455). -/
def crockPartition (ws : List Nat) : Nat := field (wordAt ws 0) 55 48
def crockHost (ws : List Nat) : Bool := bitOf (wordAt ws 0) 40
def crockUnit (ws : List Nat) : Nat := field (wordAt ws 2) 63 32
def crockCount (ws : List Nat) : Nat := field (wordAt ws 2) 31 0
def crockSpoolId (ws : List Nat) : Nat := field (wordAt ws 3) 63 32
def crockNewTag (ws : List Nat) : Nat := field (wordAt ws 3) 31 16

/-- The status of a command before it has any effect (R456). -/
def State.crockStatus (s : State) (ws : List Nat) : Nat :=
  let w0 := wordAt ws 0
  let op := field w0 63 56
  let p := crockPartition ws
  let moves := op == 1 || (op == 2 || op == 3)
  let writes := crockWrites op
  if !crockOpcodes.contains op || (field w0 47 41 != 0 || (field w0 39 16 != 0 || ((ws.drop 4).any (fun w => w != 0) ||
      wordAt ws 1 % 4096 != 0))) then 1
  else if s.crockRefuses false false ≠ 0 then 0xE
  else if (op = 1 ∧ partitionRead p = false) ∨ (op = 2 ∧ partitionWrite p = false ∧ p ≠ 0x30) ∨ (op = 3 ∧ partitionWrite p = false) ∨
      ((op = 0x20 ∨ op = 0x21) ∧ firmwareSlot p = false) then 2
  else if moves && (crockCount ws == 0 || decide (65536 < crockCount ws) || decide (partitionUnits p < crockUnit ws + crockCount ws)) ||
      (op == 0x13 && (crockCount ws == 0 || decide (65536 < crockCount ws))) then 3
  else if firmwareSlot p && (op == 2 || (op == 3 || (op == 0x20 || op == 0x21))) && s.slotProtected p then 0xB
  else s.crockRefuses writes (p == 0x40 && (op == 2 || op == 3) || (op == 0x10 || op == 0x12))

/-- A page can be spooled: RESIDENT to FUSED (R457). -/
def State.spoolable (s : State) (tag : Nat) : Option Nat :=
  match s.placeOf tag with
  | some i => if 1 ≤ (s.page i).state ∧ (s.page i).state ≤ 6 then some i else none
  | none => none

/-- A command is taken: its status so far, and for SPOOL_PAGE the page to copy. -/
def State.beginCrock (s : State) (r : Nat) (ws : List Nat) (m : HostMem) : State :=
  let st := s.crockStatus ws
  let c : CrockCommand := { ring := r, words := ws, host := m, status := st }
  let c1 := if st = 0 ∧ c.opcode = 0x10 then
      match s.spoolable (field (wordAt ws 3) 15 0) with
      | none => { c with status := 9 }
      | some i => if s.spoolFull (s.page i) then { c with status := 8 } else { c with page := s.page i }
    else c
  { s with crock := { s.crock with commands := s.crock.commands ++ [c1] } }

/-- The commands in progress of a ring. -/
def State.crockCommands (s : State) (r : Nat) : List CrockCommand := s.crock.commands.filter (fun c => c.ring == r)

/-- An entry of rings 44 to 47 as one of the commands takes it: its own opcode, or one that is not defined. -/
def State.takeCrock (s : State) (r op : Nat) (entry : Entry) (m : HostMem) : State :=
  let other := match entry with
    | some ws => let o := field (wordAt ws 0) 63 56; crockOpcodes.contains o && o != op
    | none => false
  if decide (44 ≤ r) && decide (r ≤ 47) && !other && decide ((s.crockCommands r).length < 8) &&
      (s.ring (r + 4)).waiting.isEmpty then
    s.takeEntry r entry (fun t ws => t.beginCrock r ws m)
  else s

/-- CROCK_READ (R455). -/
def execCrockRead (ring : Nat) (entry : Entry) (host : HostMem) (s : State) : Host.Outcome State Fault Refusal :=
  .next (s.takeCrock ring 1 entry host)

/-- CROCK_WRITE (R455). -/
def execCrockWrite (ring : Nat) (entry : Entry) (host : HostMem) (s : State) : Host.Outcome State Fault Refusal :=
  .next (s.takeCrock ring 2 entry host)

/-- TRIM (R455). -/
def execTrim (ring : Nat) (entry : Entry) (host : HostMem) (s : State) : Host.Outcome State Fault Refusal :=
  .next (s.takeCrock ring 3 entry host)

/-- SPOOL_PAGE (R457). -/
def execSpoolPage (ring : Nat) (entry : Entry) (host : HostMem) (s : State) : Host.Outcome State Fault Refusal :=
  .next (s.takeCrock ring 0x10 entry host)

/-- SPOOL_LOAD (R458). -/
def execSpoolLoad (ring : Nat) (entry : Entry) (host : HostMem) (s : State) : Host.Outcome State Fault Refusal :=
  .next (s.takeCrock ring 0x11 entry host)

/-- SPOOL_DELETE (R455). -/
def execSpoolDelete (ring : Nat) (entry : Entry) (host : HostMem) (s : State) : Host.Outcome State Fault Refusal :=
  .next (s.takeCrock ring 0x12 entry host)

/-- SPOOL_LIST (R455). -/
def execSpoolList (ring : Nat) (entry : Entry) (host : HostMem) (s : State) : Host.Outcome State Fault Refusal :=
  .next (s.takeCrock ring 0x13 entry host)

/-- SLOT_COMMIT (R459). -/
def execSlotCommit (ring : Nat) (entry : Entry) (host : HostMem) (s : State) : Host.Outcome State Fault Refusal :=
  .next (s.takeCrock ring 0x20 entry host)

/-- SLOT_ERASE (R459). -/
def execSlotErase (ring : Nat) (entry : Entry) (host : HostMem) (s : State) : Host.Outcome State Fault Refusal :=
  .next (s.takeCrock ring 0x21 entry host)

/-! ## What commands do -/

/-- What a command's work ends with. -/
structure CrockResult where
  status : Nat := 0
  spoolId : Nat := 0
  units : Nat := 0
  firstBad : Nat := 0
  deriving DecidableEq, Repr

/-- Units are written from their source until one cannot be read. -/
def State.writeUnits (s : State) (m : HostMem) (ws : List Nat) : Nat → Nat → State × Nat
  | 0, done => (s, done)
  | k + 1, done =>
    let t := if crockHost ws then s else s.readRange 6 (wordAt ws 1 + 4096 * done) 4096
    match s.fetch m (crockHost ws) (wordAt ws 1 + 4096 * done) 4096 with
    | none => (t, done)
    | some b => State.writeUnits (t.setFlashUnit (crockPartition ws) (crockUnit ws + done) b) m ws k (done + 1)

/-- WRITE (R455, R459): each unit is wholly old or wholly new; the first WRITE into a slot makes it WRITING. -/
def State.crockWrite (s : State) (c : CrockCommand) (count : Nat) : State × CrockResult :=
  let ws := c.words
  let p := crockPartition ws
  let r := s.writeUnits c.host ws count 0
  let s1 := if slotObject p ≠ 0 ∧ 0 < r.2 then r.1.setn (slotObject p) 1 else r.1
  let s2 := if r.2 = 0 then s1 else (s1.program (4096 * r.2) true).mramWrite 3 r.2
  if r.2 < count then
    ((if crockHost ws then s2.linkFault c.host (wordAt ws 1 + 4096 * r.2) else s2), { status := 7, units := r.2 })
  else (s2, { units := r.2 })

/-- Data goes to a command's buffer; false where it cannot (R456). -/
def State.crockOut (s : State) (c : CrockCommand) (b : Bytes) : Option State :=
  let a := wordAt c.words 1
  if (if crockHost c.words then c.host.writable && s.masters else inWindow a b.length && s.writeBlocked a b.length == none) then
    some (s.store 6 (crockHost c.words) a b)
  else none

/-- A buffer in host memory that takes no data: source 0x7B (R266). -/
def State.crockOutFails (s : State) (c : CrockCommand) : State :=
  if crockHost c.words then s.linkFault c.host (wordAt c.words 1) else s

/-- The unit of a read that cannot be read, with status 0x06 and source 0x80 (R447). -/
def State.badRead (s : State) (bad : Option (Nat × Nat)) : State :=
  match bad with
  | some x => (s.bump (ck 0xA)).fault 0x80 0x2 x.2
  | none => s

/-- READ (R455, R447). -/
def State.crockRead (s : State) (c : CrockCommand) (bad : Option (Nat × Nat)) : State × CrockResult :=
  let ws := c.words
  let n := match bad with
    | some x => min x.1 (crockCount ws)
    | none => crockCount ws
  let hit := decide (n < crockCount ws)
  let data := (upFrom (crockUnit ws) n).flatMap (s.flashUnit (crockPartition ws))
  match s.crockOut c data with
  | none => (s.crockOutFails c, { status := 7 })
  | some t => if hit then (t.badRead bad, { status := 6, units := n, firstBad := crockUnit ws + n }) else (t, { units := n })

/-- A STORED block as the spool keeps it: re-encoded where that is shorter and costs no more (R457). -/
def State.spoolBlock (s : State) (b : Block) : Block :=
  match inflated b.body with
  | none => b
  | some raw =>
    let body := encodeStream (s.n (qk 0x11)) false raw
    let head := moduleHeader raw body 0 b.station b.lineBytes b.band b.lineCount b.firstLine
    if body.length < b.body.length ∧ field (wordAt head 2) 63 32 ≤ b.cost then
      { b with head := head, body := body, length := 32 + body.length }
    else b

/-- The encode lane that re-encodes a block for the spool: an in-service lane that does not stream, taken in turn with the host's jobs,
which counts the block (R209, log entry 190). -/
def State.spoolLane (s : State) (b : Block) : Option Nat := if bitOf (wordAt b.head 0) 24 then s.leastLane else none
def State.countSpool (s : State) (b : Block) : State :=
  match s.spoolLane b, inflated b.body with
  | some l, some raw =>
    let g := s.lane (0x80 + l)
    s.setLane (0x80 + l) { g with blocks := (g.blocks + 1) % 2 ^ 32,
                                  bytes := (g.bytes + 32 + (encodeStream (s.n (qk 0x11)) false raw).length) % 2 ^ 64 }
  | _, _ => s

/-- An object enters the spool directory (R457). -/
def State.addObject (s : State) (p : Page) (link : Nat) : State :=
  let bs := p.blocks.filter Block.accepted
  let q := { p with blocks := bs.map (fun b => if (s.spoolLane b).isSome then s.spoolBlock b else b) }
  let id := (s.crock.lastId + 1) % 2 ^ 32
  let o : SpoolObject := { id := id, page := q, link := link }
  let s0 := s.each bs State.countSpool
  let s1 := { s0 with crock := { s0.crock with lastId := id, objects := s0.crock.objects ++ [o] } }
  let s2 := (s1.setn (K 0x3702 1) s1.crock.objects.length).program (4096 * spoolUnits q) true
  (s2.mramWrite 4 (32 * s2.crock.objects.length)).spoolEvent 1 0 p.tag id

/-- The object of a SPOOL_ID. -/
def State.spoolObject (s : State) (id : Nat) : Option SpoolObject := s.crock.objects.find? (fun o => o.id == id)

/-- The blocks of an object enter the page store and wait for their checks (R458). -/
def State.loadBlocks (s : State) (i : Nat) (bs : List Block) : State :=
  s.each bs (fun t b =>
    let b1 := { b with id := t.press.nextBlock, state := 1, ring := 64, entry := 0, address := Config.blockAddress t.drawn }
    let x : Inbound := { page := i + 1, block := b1 }
    State.draw { t with press := { t.press with nextBlock := t.press.nextBlock + 1, inbound := t.press.inbound ++ [x] } })

/-- SPOOL_LOAD (R458). -/
def State.crockLoad (s : State) (c : CrockCommand) (bad : Option (Nat × Nat)) : State × CrockResult :=
  let tag := crockNewTag c.words
  match s.spoolObject (crockSpoolId c.words) with
  | none => (s, { status := 0xA })
  | some o =>
    if bad.any (fun b => decide (b.1 < spoolUnits o.page)) then
      (s.badRead bad, { status := 6, spoolId := o.id, firstBad := (bad.getD (0, 0)).1 })
    else if tag = 0 ∨ 0x8000 ≤ tag ∨ (s.placeOf tag).isSome = true ∨ 64 ≤ s.pagesQueued ∨ s.on 3 = false ∨
        pageStore < s.storeUsed + total (o.page.blocks.map (fun b => b.length)) then (s, { status := 0xD })
    else
      match s.freePlace with
      | none => (s, { status := 0xD })
      | some i =>
        let p : Page := { tag := tag, state := 0, recipe := o.page.recipe, lines := o.page.lines, flags := o.page.flags,
                          partner := o.page.partner, job := o.page.job, notBefore := o.page.notBefore }
        let s1 := s.setPage i p
        let s2 := { s1 with pages := { s1.pages with order := s1.pages.order ++ [i] } }
        let s3 := (s2.reportPage p 0 Config.stateBeforeNew).loadBlocks i o.page.blocks
        ((s3.spoolEvent 2 0 tag o.id).feedCheck, { spoolId := o.id, units := spoolUnits o.page })

/-- SPOOL_DELETE (R455). -/
def State.crockDelete (s : State) (c : CrockCommand) : State × CrockResult :=
  match s.spoolObject (crockSpoolId c.words) with
  | none => (s, { status := 0xA })
  | some o =>
    let s1 := { s with crock := { s.crock with objects := s.crock.objects.filter (fun x => x.id != o.id) } }
    (((s1.setn (K 0x3702 1) s1.crock.objects.length).mramWrite 4 (32 * s1.crock.objects.length)).spoolEvent 3 0 o.page.tag o.id,
      { spoolId := o.id })

/-- SPOOL_LIST (R455): 32 bytes for each object, bounded by COUNT. -/
def State.crockList (s : State) (c : CrockCommand) : State × CrockResult :=
  let b := (s.crock.objects.flatMap (fun o => (upFrom 0 32).map (Config.directoryByte o.id))).take (4096 * crockCount c.words)
  match s.crockOut c b with
  | none => (s.crockOutFails c, { status := 7 })
  | some t => (t, { units := unitsOf b.length })

/-- The container of a slot passes SLOT_COMMIT: MAGIC, IMAGE_LENGTH and IMAGE_CRC (R459, R470). -/
def State.containerValid (s : State) (p : Nat) : Bool :=
  let w0 := ofLe (s.flashBytes p 0 8)
  let n := field w0 31 0
  field w0 63 48 == 0xA1B7 && (decide (1 ≤ n) && (decide (n ≤ 3145728) &&
    crc32 (s.flashBytes p 64 n) == field (ofLe (s.flashBytes p 8 8)) 63 32))

/-- The work of a command in its place in ring order (R455). A write that quiesce cut leaves the units before it. -/
def State.crockWork (s : State) (c : CrockCommand) (units : Nat) (bad : Option (Nat × Nat)) : State × CrockResult :=
  let ws := c.words
  let p := crockPartition ws
  let now := if c.status = 0 then s.crockStatus ws else c.status
  if c.opcode = 2 ∧ c.status = 4 then
    let r := s.crockWrite c (min units (crockCount ws - 1))
    (r.1, { r.2 with status := if r.2.status = 0 then 4 else r.2.status })
  else if c.opcode = 0x10 then
    if now ≠ 0 then
      ((if now = 4 ∨ now = 5 ∨ now = 0xE then s.spoolEvent 4 now (field (wordAt ws 3) 15 0) 0 else s), { status := now })
    else
      let t := s.addObject c.page 0
      (t, { spoolId := t.crock.lastId, units := spoolUnits c.page })
  else if now ≠ 0 then (s, { status := now })
  else
    match c.opcode with
    | 1 => s.crockRead c bad
    | 2 => s.crockWrite c (crockCount ws)
    | 3 =>
      let t := s.each (upFrom (crockUnit ws) (crockCount ws)) (fun t u => t.trimUnit p u)
      ((if slotObject p = 0 then t else t.setn (slotObject p) 1).mramWrite 3 (crockCount ws), {})
    | 0x11 => s.crockLoad c bad
    | 0x12 => s.crockDelete c
    | 0x13 => s.crockList c
    | 0x20 =>
      if s.containerValid p then (s.setn (slotObject p) 2, {}) else (s.setn (slotObject p) 3, { status := 0xC })
    | _ => (((s.eraseSlot p).setn (slotObject p) 0).mramWrite 3 (partitionUnits p), {})

/-- The completion entry of a command (R456). -/
def State.crockEntry (s : State) (c : CrockCommand) (r : CrockResult) (retried : Nat) : List Nat :=
  [r.status * 2 ^ 56 + c.opcode * 2 ^ 40 + field (wordAt c.words 0) 15 0, r.spoolId % 2 ^ 32 * 2 ^ 32 + r.units % 2 ^ 32,
   retried % 2 ^ 32 * 2 ^ 32 + r.firstBad % 2 ^ 32, s.stamp, 0, 0, 0, 0]

/-- CROCK_COMMAND_COMPLETE (R455, R456): the oldest command of a ring takes effect and is answered. -/
def execCrockCommandComplete (ring units retried : Nat) (bad : Option (Nat × Nat)) (s : State) :
    Host.Outcome State Fault Refusal :=
  match s.crock.commands.find? (fun c => c.ring == ring) with
  | none => .next s
  | some c =>
    let s0 := { s with crock := { s.crock with commands := s.crock.commands.erase c } }
    let soft := if c.opcode = 1 ∨ c.opcode = 0x11 then retried else 0
    let r := (s0.bumpBy (ck 0xB) soft).crockWork c units bad
    .next ((r.1.produce (ring + 4) (s.crockEntry c r.2 soft)).finishEntry ring)

/-- AUTOMATIC_SPOOL_DONE (R457): the oldest automatic copy ends. -/
def execAutomaticSpoolDone (s : State) : Host.Outcome State Fault Refusal :=
  match s.crock.copies with
  | [] => .next s
  | c :: rest =>
    let s1 := { s with crock := { s.crock with copies := rest } }
    .next (if c.status = 0 then s1.addObject c.page c.link else s1.spoolEvent 4 c.status c.page.tag 0)

/-! ## Media, wear and health -/

/-- Bytes of a NAND page (R446). -/
def nandPage : Nat := 16384

/-- NAND_PROGRAM_FAIL (R448): the block is grown-bad, and the pages the controller still held go to a fresh one, which programs them
(R461). -/
def execNandProgramFail (lun : Nat) (block : NandBlock) (s : State) : Host.Outcome State Fault Refusal :=
  if s.on 6 && decide (1 ≤ s.crockState) && decide (lun < 8) then
    let s1 := (s.fault 0x81 0x5 (lun * 2 ^ 24 + block.block)).event 105 (1 + lun * 256 + block.block % 2 ^ 32 * 2 ^ 32)
    let s2 := { s1 with crock := { s1.crock with bad := s1.crock.bad + 1 } }.setn (ck 7) (s.n (ck 7) - 1)
    .next ((s2.program (nandPage * block.pages) false).crockSpare)
  else .next s

/-- The scrub interval in days for the band of `Crock band sensor` (R391, R449). -/
def scrubDays (band : Nat) : Nat :=
  match band with
  | 0 => 30 | 1 => 20 | 2 => 12 | 3 => 7 | 4 => 4 | _ => 2

/-- The retention scrub in its interval: a pass ends once in each, counted from the end of the pass before (R449, log entry 110). -/
def State.scrubOpen (s : State) : Bool :=
  let band := s.n (tk (s.n (K 0x2100 0xE)) 4)
  decide (s.crock.scrubbed + scrubDays band * 86400000000000 ≤ s.stamp)

/-- CROCK_SCRUB_PASS (R447, R449): a block refreshed, a pass complete, or a levelling move, while READY. A refresh and a move program the
block's valid pages again (R461). -/
def execCrockScrubPass (what lun : Nat) (block : NandBlock) (bad : Option Nat) (s : State) : Host.Outcome State Fault Refusal :=
  if decide (s.crockState = 2) && (what == 2 || (what == 3 && s.scrubOpen || what == 4)) && decide (lun < 8) then
    let s1 := (s.badRead (bad.map (fun a => (0, a)))).event 105 (what + lun * 256 + block.block % 2 ^ 32 * 2 ^ 32)
    .next (if what = 3 then { s1 with crock := { s1.crock with scrubbed := s.stamp } } else s1.program (nandPage * min 512 block.pages) false)
  else .next s

/-- Bytes of 30 days, by the reports of the 24 h rhythm: programmed, and written by the host (R461). -/
def State.monthVolumes (s : State) : Nat × Nat :=
  let day := 86400000000000
  let old := (s.crock.history.find? (fun h => decide (h.1 + 30 * day ≤ s.stamp))).getD
    (s.crock.history.getLast?.getD (0, 0, 0))
  (s.n (ck 8) - old.2.1, s.n (ck 9) - old.2.2)

/-- The 24 h of the health reports (R461). -/
def tmHealth : Nat := timer 24 0

/-- A health report is completed (R461, R463, R277): EV107 subcode 4. -/
def State.healthReport (s : State) : State :=
  let hk := K 0x3710
  let (prog, host) := s.monthVolumes
  let counts := (upFrom 0 5).flatMap (fun i => leBytes 4 (Config.eraseCount i s.drawn))
  let left := 10 ^ 16 - s.n (ck 8)
  let s1 := (((s.bump (hk 1)).setn (hk 2) s.stamp).setn (hk 3) (s.n (ck 7))).setn (hk 4) s.crock.bad
  let s2 := (s1.setBytes (hk 5) counts).setn (hk 6) (min 65535 (if host = 0 then Config.idleAmplification else 100 * prog / host))
  let s3 := (s2.setn (hk 7) (min 65535 s.budgetUsed)).setn (hk 8) (if prog = 0 then 2 ^ 32 - 1 else min (2 ^ 32 - 2) (30 * left / prog))
  (s3.draw).event 107 (4 + s.n (ck 7) * 2 ^ 32)

/-- Every 24 h of Stamp time a report is completed (R461). -/
def State.dailyReport (s : State) : State :=
  let s1 := { s with crock := { s.crock with history := ((s.stamp, s.n (ck 8), s.n (ck 9)) :: s.crock.history).take 32 } }
  (s1.healthReport).after tmHealth 86400000000000

end Sys2Proof.Machine
end

