-- ==== Sys2Proof/Machine/Twin.lean ====
section
/-! DEFINITION. The Twin Sequencer: roles, heartbeats, takeover and the gap, the checkpoint rhythm, standby health, loads and
planned switch-over (R420 to R445). -/

namespace Sys2Proof.Machine

/-- Timers of the Twin Sequencer: health report, checkpoint delta, heartbeat period, gap watchdog, planned wait. -/
def tmReport : Nat := timer 27 0
def tmDelta : Nat := timer 28 0
def tmBeat : Nat := timer 29 0
def tmGap : Nat := timer 30 0
def tmPlanned : Nat := timer 31 0

/-! ## Roles -/

/-- The role of a unit: 1 A, 2 B (R420). -/
def State.role (s : State) (u : Nat) : Nat := s.n (K 0x2300 (1 + u))

/-- A unit changes role: EV020 (R420). A new STANDBY reports 10.0 ms later (R435). -/
def State.setRole (s : State) (u new cause : Nat) : State :=
  let old := s.role u
  if old = new then s
  else
    let s1 := (s.setn (K 0x2300 (1 + u)) new).event 20 (u + new * 256 + old * 65536 + cause * 2 ^ 24)
    if new = 3 then s1.after tmReport 10000000 else s1

/-- The other unit. -/
def otherUnit (u : Nat) : Nat := 3 - u

/-- The standby, in whatever state it is. -/
def State.standby (s : State) : Nat := otherUnit s.activeUnit

/-- A unit can take over: STANDBY, and its last report is eligible (R420). -/
def State.eligibleUnit (s : State) (u : Nat) : Bool := decide (s.role u = 3) && (s.unit u).healthy

/-- A unit was eligible at the end of the previous grid step, and still runs (R426, R428). -/
def State.wasEligible (s : State) (u : Nat) : Bool := bitOf s.twin.eligible (u - 1) && (s.role u == 3 || s.role u == 4)

/-- At the end of a grid step the eligibility of the units is kept for the next one (R426). -/
def State.noteEligible (s : State) : State :=
  { s with twin := { s.twin with eligible := b2n (s.eligibleUnit 1) + 2 * b2n (s.eligibleUnit 2) } }

/-- Alinagrim runs: some unit is ACTIVE. -/
def State.anyActive (s : State) : Bool := decide (s.role s.activeUnit = 2)

/-- EV024 at a change of eligibility (R435). -/
def State.setHealthy (s : State) (u : Nat) (b : Bool) (test : Nat) : State :=
  let x := s.unit u
  if x.healthy = b then s
  else (s.setUnit u { x with healthy := b }).event 24 ((if b then 1 else 2) + test * 256 + u * 65536)

/-- A unit starts: it loads its image (R420). -/
def State.startUnit (s : State) (u cause : Nat) : State :=
  let s1 := s.setUnit u { s.unit u with loading := s.n (K 0x3701 (5 + u)), healthy := false, onlySix := false, lastReport := none }
  s1.setRole u 1 cause

/-- A unit's domain goes off (R420, R227). -/
def State.unitDown (s : State) (u : Nat) : State :=
  let s1 := (s.breakLocks u).setHealthy u false 0
  (s1.setUnit u { s1.unit u with loading := 0, onlySix := false, lastReport := none }).setRole u 0 5

/-! ## Takeover -/

/-- A planned switch-over that is pending is dropped: EV025 subcode 6 (R428). -/
def State.dropPlanned (s : State) : State :=
  if s.twin.planned = 0 then s
  else
    let s1 := { s with twin := { s.twin with planned := 0 }, pages := { s.pages with stopped := false } }.disarm tmPlanned
    s1.event 25 (6 + s.activeUnit * 256 + s.twin.planned * 65536)

/-- No standby can take over: the active unit is reset, which breaks its locks, and starts again (R227, R428). -/
def State.noStandby (s : State) (causes u : Nat) : State :=
  let s1 := (s.event 22 (3 + causes * 65536)).fault 0x27 0x4 u
  let s2 := { s1 with twin := { s1.twin with dictionaryUp := false, lastBeat := none, wireMisses := 0, wordMisses := 0 } }
  ((s2.breakLocks u).startUnit u 1).startGranted s.fabric.lockQueue

/-- Causes of a grant: bit 0 beats, 1 declared, 2 Class D, 3 planned (R443). -/
def State.grant (s : State) (causes : Nat) : State :=
  let old := s.activeUnit
  let new := s.standby
  let plain := decide (causes % 8 ≠ 0)
  let s0 := if plain then s.dropPlanned else s
  if s0.wasEligible new then
    let s1 := { s0 with twin := { s0.twin with switching := true, grantAt := s.stamp, causes := causes, leaving := old } }
    let s2 := if plain then s1.setRole old 6 2
      else (s1.setUnit old { s1.unit old with loading := (s1.unit old).bootSlot }).setRole old 7 2
    let s3 := (s2.breakLocks old).setRole new 5 2
    let s4 := if causes % 4 ≠ 0 then s3.fault 0x22 0xD old else s3
    ((s4.event 22 (1 + new * 256 + causes * 65536)).after tmGap 81920).startGranted s0.fabric.lockQueue
  else s0.noStandby causes old

/-- The grant was made in this grid step. -/
def State.justGranted (s : State) : Bool := s.twin.switching && decide (s.twin.grantAt = s.stamp)

/-- A further condition in the grid step of the grant: one grant, whose EV022 lists every cause (R428). -/
def State.addCause (s : State) (causes : Nat) : State :=
  let old := s.twin.causes
  let s1 := { s with twin := { s.twin with causes := old ||| causes },
                     ev := { s.ev with held := s.ev.held.map (fun r =>
                       if r.stamp = s.stamp ∧ r.type = 1 ∧ r.source = 22 ∧ r.payload % 256 = 1 then { r with payload := r.payload ||| causes * 65536 } else r) } }
  if causes % 4 ≠ 0 ∧ old % 4 = 0 then s1.fault 0x22 0xD s.twin.leaving else s1

/-- A condition of R426 arises: while some unit is active and no gap is open, or in the grid step of the grant. -/
def State.takeover (s : State) (causes : Nat) : State :=
  if s.anyActive && !s.twin.switching then s.grant causes
  else if s.justGranted then s.addCause causes
  else s

/-- GAP_WATCHDOG_EXPIRED (R429): the new unit fails, and the old one is reset. -/
def execGapWatchdogExpired (s : State) : Host.Outcome State Fault Refusal :=
  if s.twin.switching && s.due tmGap then
    let new := otherUnit s.twin.leaving
    let s1 := { s with twin := { s.twin with switching := false } }.disarm tmGap
    let s2 := ((s1.setHealthy new false 0).setRole new 6 6).event 22 (4 + new * 256 + s.twin.causes * 65536)
    .next (s2.noStandby s.twin.causes s.twin.leaving)
  else .next s

/-! ## Heartbeats -/

/-- A period of the Supervisor's begins (R423). -/
def State.beginPeriod (s : State) : State :=
  let p := s.n (K 0x2300 4)
  { s with twin := { s.twin with wireBeat := false, wordBeat := false, period := p } }.after tmBeat (p * 1000)

/-- The heartbeats count: a unit is ACTIVE and no gap is open. -/
def State.beating (s : State) : Bool := s.anyActive && !s.twin.switching

/-- A condition that the heartbeats show still counts in the grid step of the grant (R428). -/
def State.beatsCount (s : State) : Bool := s.beating || s.justGranted

/-- HEARTBEAT_WIRE_BEAT (R423). -/
def execHeartbeatWireBeat (s : State) : Host.Outcome State Fault Refusal :=
  if s.beating then .next { s with twin := { s.twin with wireBeat := true } } else .next s

/-- A planned handover is ready: its mode's condition holds (R439, R440). -/
def State.handoverReady (s : State) : Bool :=
  decide (s.twin.planned ≠ 0) && (s.twin.planned == 2 || (s.admittedPage.isNone || s.due tmPlanned))

/-- Step 5 of R440: the mode is carried out, the handover entry written, and readiness signalled. -/
def State.handOver (s : State) : State :=
  let s1 := match s.admittedPage with
    | some i => s.readmit i
    | none => s
  (s1.checkpoint 6 0).event 25 (5 + s.activeUnit * 256 + s.twin.planned * 65536)

/-- HEARTBEAT_WORD (R423 to R426): a word whose CRC, UNIT and BEAT are right is a beat; its STATUS acts at once. -/
def execHeartbeatWord (word : Nat) (s : State) : Host.Outcome State Fault Refusal :=
  let beat := field word 63 32
  let next := match s.twin.lastBeat with
    | some b => decide (beat = (b + 1) % 2 ^ 32)
    | none => true
  if s.injects 0x502 then .next (s.spendInjection 1)
  else if s.beatsCount && s.on 3 && decide (crc8 7 (word / 256) 0 = word % 256) && decide (field word 31 24 = s.activeUnit) && next then
    let s1 := { s with twin := { s.twin with wordBeat := true, lastBeat := some beat } }
    match field word 23 16 with
    | 1 => .next (s1.takeover 2)
    | 2 => .next (if s1.beating && (s1.handoverReady && s1.wasEligible s1.standby) then s1.handOver.takeover 8 else s1)
    | _ => .next s1
  else .next s

/-- A path at the end of a period: 1 wire, 2 word; what it missed and carried, and whether the other path beats (R437). -/
def State.endPath (s : State) (path missed good : Nat) (otherBeats : Bool) : State :=
  let bad := !bitOf (s.n (K 0x2300 5)) (path - 1)
  let bits := s.n (K 0x2300 5)
  if bad = false ∧ 3 ≤ missed ∧ otherBeats = true then
    (((s.setn (K 0x2300 5) (withoutBit bits (path - 1))).bump (K 0x2300 6)).event 21 (1 + path * 256 + s.activeUnit * 65536)).detect
      (faultWord 0x23 0xD path true false (s.lid.pathInjected == path))
  else if bad = true ∧ 3 ≤ good then
    ((s.setn (K 0x2300 5) (withBit bits (path - 1))).event 21 (2 + path * 256 + s.activeUnit * 65536)).faultOff 0x23 0xD path
  else s

/-- HEARTBEAT_PERIOD_END (R423, R426, R437, R386): misses are counted; with PD03 off the word path counts neither way. -/
def execHeartbeatPeriodEnd (s : State) : Host.Outcome State Fault Refusal :=
  if s.due tmBeat then
    if s.beatsCount then
      let held := s.injects 0x501
      let t := { s.twin with wireBeat := s.twin.wireBeat && !held }
      let wire := if t.wireBeat then 0 else t.wireMisses + 1
      let word := if s.on 3 then (if t.wordBeat then 0 else t.wordMisses + 1) else t.wordMisses
      let wireGood := if t.wireBeat then t.wireGood + 1 else 0
      let wordGood := if s.on 3 then (if t.wordBeat then t.wordGood + 1 else 0) else t.wordGood
      let s0 := if held then s.spendInjection 1 else s
      let s1 := { s0 with twin := { t with wireMisses := wire, wordMisses := word, wireGood := wireGood, wordGood := wordGood } }
      let s2 := s1.endPath 1 wire wireGood t.wordBeat
      let s3 := if s.on 3 then s2.endPath 2 word wordGood t.wireBeat else s2
      .next ((if 3 ≤ wire ∧ 3 ≤ word ∧ s.on 3 = true then s3.takeover 1 else s3).beginPeriod)
    else .next s.beginPeriod
  else .next s

/-! ## Failures of a unit -/

/-- SEQUENCER_HW_FAILURE (R425, R444): the active unit is declared failed; a standby becomes DEGRADED. -/
def execSequencerHwFailure (u kind address : Nat) (s : State) : Host.Outcome State Fault Refusal :=
  if (u == 1 || u == 2) && (kind == 2 || (kind == 3 || kind == 0xF)) && s.on u then
    let s1 := (s.fault (0x1F + u) kind address).event 26 (kind + u * 256 + address % 2 ^ 32 * 2 ^ 32)
    if s.role u = 2 ∨ (s.justGranted = true ∧ u = s.twin.leaving) then .next (s1.takeover 2)
    else if s.role u = 3 then .next ((s1.setHealthy u false 0).setRole u 4 3)
    else .next s1
  else .next s

/-! ## Checkpoint and health rhythm -/

/-- Alinagrim acquires and releases hardware locks for the active sequencer; which it holds is left open (R226, log entry 175). -/
def State.sequencerLocks (s : State) : State :=
  let u := s.activeUnit
  let mask := Config.sequencerLocks s.drawn
  let q := s.fabric.lockQueue
  (s.draw.each (upFrom 0 32) (fun t n =>
    if (t.lock n).owner = u ∧ bitOf mask n = false then t.releaseLock n
    else if (t.lock n).owner = 0 ∧ bitOf mask n = true then t.takeLock n u
    else t)).startGranted q

/-- CHECKPOINT_DELTA (R430): every 1.0 ms of Stamp time; none while Class D holds PD03 off (R386). -/
def execCheckpointDelta (s : State) : Host.Outcome State Fault Refusal :=
  if s.due tmDelta then
    let s1 := s.after tmDelta 1000000
    .next (if s.beating && s.on 3 then s1.sequencerLocks.checkpoint 2 0 else s1)
  else .next s

/-- The image a unit holds can restore the FORMAT of the newest entry (R434). -/
def State.imageRestores (s : State) (u : Nat) : Bool :=
  match s.twin.entries.getLast? with
  | some e => e.format == (s.unit u).format || e.format == (s.unit u).formatOld
  | none => true

/-- The tests of a report (R435): 1 to 4 as found, 5 the age of the previous report, 6 the measurement, 7 FORMAT. -/
def State.reportTests (s : State) (u passed : Nat) : Nat :=
  let x := s.unit u
  let young := match x.lastReport with
    | some t => decide (s.stamp ≤ t + 30000000)
    | none => true
  let measured := !bitOf (s.n (K 0x2420 3)) u || bitOf s.trust.acked u
  passed % 16 + b2n young * 16 + b2n measured * 32 + b2n (s.imageRestores u) * 64

/-- The first failing test. -/
def firstFailing (tests : Nat) : Nat := ((upFrom 1 7).find? (fun t => !bitOf tests (t - 1))).getD 0

/-- A report is published in 0x2310 (R442). -/
def State.publishReport (s : State) (u tests : Nat) : State :=
  let hk := K 0x2310
  let q := s.n (hk 1)
  ((((((s.bump (hk 1)).setn (hk 2) u).setn (hk 3) s.stamp).setn (hk 4) tests).setn (hk 5) (q % 64)).setn (hk 6) (q % 64)).setb (hk 7)
    (decide (tests = 127))

/-- HEALTH_REPORT (R435, R436, R475): the standby completes a report. -/
def execHealthReport (passed link : Nat) (parity : Bool) (s : State) : Host.Outcome State Fault Refusal :=
  let u := s.standby
  if s.due tmReport && (s.role u == 3 || s.role u == 4) && (link == 4 || link == 5) then
    let s0 := s.after tmReport 10000000
    let broken := s.twin.entries.any (fun e => !e.valid)
    let s1 := if parity || broken then (s0.faultInjected 0x24 0x3 0 (broken && !parity)).newBase else s0
    let tests := s.reportTests u (if parity || broken then passed ||| 8 else passed)
    let s2 := (s1.setUnit u { s1.unit u with lastReport := some s.stamp }).publishReport u tests
    let s3 := if bitOf tests 3 then s2 else s2.fault 0x25 link u
    let s4 := (upFrom 1 3).foldl (fun t k => if bitOf tests (k - 1) then t else t.fault 0x26 0xF k) s3
    let ok := decide (tests = 127)
    if s.role u = 3 then
      if ok then .next (s4.setHealthy u true 0)
      else
        let s5 := s4.setUnit u { s4.unit u with onlySix := decide (tests = 95) }
        .next ((s5.setHealthy u false (firstFailing tests)).setRole u 4 (if bitOf tests 3 then 3 else 4))
    else if ok && (s.unit u).onlySix then .next (((s4.setUnit u { s4.unit u with onlySix := false }).setRole u 3 3).setHealthy u true 0)
    else .next s4
  else .next s

/-! ## Loads -/

/-- What accepted writes of `Standby reload` and `Planned switch-over` do (R438, R439). -/
def State.standbyReload (s : State) (slot : Nat) : State :=
  let u := s.standby
  let s1 := (s.setHealthy u false 0).setUnit u { (s.setHealthy u false 0).unit u with loading := slot, onlySix := false, lastReport := none }
  (s1.setRole u 7 5).event 25 (1 + u * 256 + slot * 65536)
def State.plannedSwitch (s : State) (mode : Nat) : State :=
  let s1 := { s with twin := { s.twin with planned := mode }, pages := { s.pages with stopped := true } }
  let s2 := s1.event 25 (4 + s.activeUnit * 256 + mode * 65536)
  if mode = 1 then s2.after tmPlanned 1000000000
  else
    match s2.admittedPage with
    | some i => s2.readmit i
    | none => s2

/-- PLANNED_WAIT_EXPIRED (R439): the planned switch-over now acts as with value 2. -/
def execPlannedWaitExpired (s : State) : Host.Outcome State Fault Refusal :=
  if s.twin.planned = 1 ∧ s.due tmPlanned = true then
    let s1 := { s with twin := { s.twin with planned := 2 } }.disarm tmPlanned
    .next (match s1.admittedPage with
      | some i => s1.readmit i
      | none => s1)
  else .next s

/-- The image of a slot of the standby's partition passes R434: its FORMAT or its previous one is the newest entry's. -/
def State.reloadable (s : State) (slot : Nat) : Bool :=
  let p := slotPartition s.standby slot
  let w := s.containerWord p 1
  match s.twin.entries.getLast? with
  | some e => field w 31 16 == e.format || field w 15 0 == e.format
  | none => true

/-- A unit can be re-initialised (R421), and what that does. -/
def State.unitReinitable (s : State) (u : Nat) : Bool := decide (s.role u ≠ 2) && decide (s.role u ≠ 5)
def State.unitReinit (s : State) (u : Nat) : State := ((s.setHealthy u false 0).breakLocks u).startUnit u 5

end Sys2Proof.Machine
end

