-- ==== Sys2Proof/Machine/Domains.lean ====
section
/-! DEFINITION. What each power domain's functions do when the domain leaves ON and when it is ON again, and how Alinagrim comes
back from a checkpoint (R22, R213, R227, R269, R284, R382, R384, R386, R433, R486). -/

namespace Sys2Proof.Machine

/-! ## The EtherCAT state machine -/

/-- The state machine leaves OP: EV102 subcode 2, and `Watchdog action` (R284). -/
def State.leaveOp (s : State) : State :=
  let action := s.n (K 0x2060 2)
  (if action = 1 then s.commitOff else s).event 102 (2 + action * 256)

/-- The state machine changes state: EV102 subcode 1; a fall to INIT breaks the locks the host holds over EtherCAT (R227, R269). -/
def State.setEsm (s : State) (new al : Nat) : State :=
  let old := s.n (K 0x2060 1)
  if old = new then s
  else
    let q := s.fabric.lockQueue
    let s1 := (s.setn (K 0x2060 1) new).event 102 (1 + new * 256 + old * 65536 + al % 256 * 2 ^ 24)
    let s2 := if old = 8 then s1.leaveOp else s1
    let s3 := { s2 with svc := { s2.svc with alStatus := al, rxSeen := s2.svc.rxSeen && decide (4 ≤ new) } }
    if new = 1 then (s3.breakLocks 4).startGranted q else s3

/-! ## Coming back from a checkpoint -/

/-- The entries a restore takes: up to the first invalid one (R433). -/
def State.goodEntries (s : State) : List Checkpoint := s.twin.entries.takeWhile (fun e => e.valid)

/-- The objects of a dictionary write that is not restored hold what they held before it. -/
def State.undoWrite (s : State) (e : Checkpoint) : State := s.each e.before (fun t x => t.put x.1 x.2)

/-- A restore reads the bank in use: EV023 subcode 2 for the first invalid entry, which ends it, and subcode 3 (R433, R443). -/
def State.restoreEntries (s : State) : State :=
  let good := s.goodEntries
  let s1 := match s.twin.entries.drop good.length with
    | [] => s
    | e :: l =>
      let t := ((e :: l).reverse.foldl State.undoWrite s).event 23 (2 + e.sequence * 2 ^ 32)
      { t with twin := { t.twin with entries := good } }
  match good.getLast? with
  | none => s1
  | some e => s1.event 23 (3 + e.sequence * 2 ^ 32)

/-- A page of a restored table is reported, and is in the table no more (R486). -/
def State.reportLost (s : State) (p : Page) : State :=
  if p.running then
    let q := { p with spoil := 6 }
    ((s.reportPage q 8 p.state).bump (K 0x3500 0x17)).reportPage q 9 8
  else s.reportPage p 9 p.state

/-- The table of the newest valid entry is reported page by page (R386, R428, R486). -/
def State.reportTable (s : State) (ps : List Page) : State :=
  { s.each ps State.reportLost with pages := { s.pages with lost := false } }

/-- A page ADMITTED and not committed returns to RESIDENT (R22). -/
def State.readmitAll (s : State) : State := s.each (s.pagesWith (fun p => p.state == 2)) State.readmit

/-- The entries of rings 58 and 59 of the gap follow (R172). -/
def State.flushGap (s : State) : State :=
  let l := s.pages.gapEntries
  { s with pages := { s.pages with gapEntries := [] } }.each l (fun t x => t.produce x.1 x.2)

/-- L(previous) is taken from the last page whose gate is open: the one whose commit reference A1 has passed last (R172; log entry 173);
`Next gate` follows it (R159). -/
def State.regate (s : State) : State :=
  let open_ := s.pagesWith (fun p => p.present && p.gate == 2)
  let nearer (a b : Nat) : Bool := decide (distance 48 (s.axisPos 1) (s.page a).reference ≤ distance 48 (s.axisPos 1) (s.page b).reference)
  match open_ with
  | [] => s
  | i :: l =>
    let last := (s.page (l.foldl (fun m j => if nearer m j then m else j) i)).reference
    { s with pages := { s.pages with previous := some last, gateFound := 0 } }.setn (K 0x3500 0xF)
      ((last + 256 * s.n (K 0x3500 2) * (1 + s.n (K 0x3500 0x10))) % 2 ^ 48)

/-- Alinagrim takes up its work from the checkpoint: what was lost is reported, what was not goes on (R22, R386). -/
def State.takeUp (s : State) : State :=
  let ps := ((s.goodEntries.getLast?).map (fun e => e.pages)).getD []
  let s1 := s.restoreEntries
  let s2 := if s1.pages.lost then s1.reportTable ps else s1.readmitAll
  { s2 with pages := { s2.pages with stopped := false } }

/-- The boot watchdog (R489). -/
def tmBoot : Nat := timer 32 0

/-- DICTIONARY_UP is set once an active unit runs with PD03, PD07 and PD08 ON; the boot watchdog ends with it, and a waiting
transition to PREOP is then taken (R269, R386, R489). -/
def State.bringUp (s : State) : State :=
  if !s.twin.dictionaryUp && (s.anyActive && (!s.twin.switching && (!s.twin.held && (s.on 3 && (s.on 7 && s.on 8))))) then
    let s1 := s.takeUp
    let s2 := (({ s1 with twin := { s1.twin with dictionaryUp := true },
                          trust := { s1.trust with started := true } }.disarm tmBoot).setn (K 0x2011 8) 0).flushGap
    if s2.svc.esmWaiting = 0 then s2 else ({ s2 with svc := { s2.svc with esmWaiting := 0 } }.setEsm 2 0)
  else s

/-! ## Objects of a domain that is ON again -/

/-- The volatile objects (R278). -/
def volatileObject (index sub : Nat) : Bool :=
  if sub = 1 then
    index == 0x2040 || (decide (0x2110 ≤ index ∧ index ≤ 0x2133) || (decide (0x3001 ≤ index ∧ index ≤ 0x3008) || (index == 0x3050 ||
      (decide (0x3101 ≤ index ∧ index ≤ 0x3103) || (decide (0x3310 ≤ index ∧ index ≤ 0x3360 ∧ index % 16 = 0) || (index == 0x3500 ||
      (decide (0x4100 ≤ index ∧ index ≤ 0x41A0 ∧ index % 16 = 0) || (decide (0x4400 ≤ index ∧ index ≤ 0x44B0 ∧ index % 16 = 0) ||
      (decide (0x4800 ≤ index ∧ index ≤ 0x483F) || (decide (0x4C01 ≤ index ∧ index ≤ 0x4C03) ||
      decide (0x4D01 ≤ index ∧ index ≤ 0x4D14)))))))))))
  else if sub = 3 then
    index == 0x3050 || (decide (0x3310 ≤ index ∧ index ≤ 0x3360 ∧ index % 16 = 0) || (index == 0x3700 || index == 0x3820))
  else (index == 0x3040 && sub == 6) || ((index == 0x3500 && (sub == 5 || sub == 0x12)) || ((index == 0x3600 && sub == 5) || ((index == 0x3800 && sub == 7) ||
    ((index == 0x3700 && (sub == 2 || sub == 4)) || (index == 0x3830 && sub == 0xD)))))

/-- The object keeps its value while its domain is off: RW and RW-idle objects that are not volatile, and what the owning chapter
keeps in MRAM (R384, R461, R468). -/
def keepsValue (k : Nat) : Bool :=
  let index := k / 256
  let sub := k % 256
  if index = 0x3700 ∧ 7 ≤ sub ∧ sub ≤ 9 then true
  else if index = 0x3701 then true
  else if volatileObject index sub then false
  else match rowOf index sub with
    | some r => r.acc == .rw || r.acc == .idle
    | none => false

/-- The indices of the objects in a domain, as ranges. -/
def domainObjects (pd : Nat) : List (Nat × Nat) :=
  match pd with
  | 3 => [(0x3800, 0x3801), (0x3820, 0x3820)]
  | 6 => [(0x3700, 0x3710)]
  | 7 => [(0x3810, 0x3810), (0x3830, 0x3830)]
  | 8 => [(0x2060, 0x2060)]
  | 9 => [(0x3310, 0x332F), (0x3410, 0x342F)]
  | 10 => [(0x3330, 0x334F), (0x3430, 0x344F)]
  | 11 => [(0x3350, 0x336F), (0x3450, 0x346F)]
  | 12 => [(0x3100, 0x3126), (0x4100, 0x410E), (0x4110, 0x412F)]
  | 13 => [(0x4130, 0x41AF)]
  | 14 => [(0x4400, 0x44BF)]
  | 15 => [(0x4800, 0x4D14)]
  | 16 => [(0x3000, 0x3017), (0x3030, 0x3050)]
  | _ => []

/-- The objects of some ranges that do not keep their values read as their defaults again. -/
def State.restartObjects (s : State) (ranges : List (Nat × Nat)) : State :=
  { s with od := s.od.filter (fun x => keepsValue x.1 || !ranges.any (fun r => decide (r.1 ≤ x.1 / 256) && decide (x.1 / 256 ≤ r.2))) }

/-- The Press counters of PD04, and of PD05. -/
def State.restartPress (s : State) (pd : Nat) : State :=
  let subs := if pd = 4 then [5, 0xC, 0xD, 0xF] else [5, 0xE, 0x10]
  s.each subs (fun t sub => t.forgetOne (qk sub))

/-! ## A domain leaves ON -/

/-- PD03 goes: DRAM, the page table and store, the locks, and Alinagrim's work with them (R213, R227, R386). -/
def State.dramDown (s : State) : State :=
  let s1 := s.each (upFrom 1 6) (fun t n =>
    if (t.station n).image.going ∨ (t.station n).image.closing = true then
      ((t.setStation n { t.station n with image := {} }).setn (sk n 2 8) 0).setn (sk n 0 7) 0
    else t)
  let s2 := s1.each pagePlaces (fun t i => (t.disarm (tmDeadline i)).disarm (tmWindow i))
  let lanes := s2.each (decodeCodes ++ checkCodes) (fun t c => t.setLane c { t.lane c with page := 0, block := 0 })
  { lanes with
      pages := { lanes.pages with table := [], order := [], previous := none, lost := true, splicePending := false, spliceFrom := none },
      press := { lanes.press with queues := [], buffers := [], inbound := [], retries := [] },
      fabric := { lanes.fabric with window := [], marks := [], locks := [], lockQueue := [], scrubbed := 0, late := false },
      twin := { lanes.twin with dictionaryUp := false } }.disarm tmScrub

/-- PD16 goes: the slots are freed, the loops and outputs stand still (R27, R40, R45). -/
def State.positionDown (s : State) : State :=
  let s1 := (s.holdA1.freeSlots (fun _ => true) 1)
  let s2 := s1.each (upFrom 1 8) (fun t n => ((t.setLoop n 0).disarm (tmStandstill n)).setEnc n {})
  { s2 with pos := { s2.pos with slotOut := 0, inputs := 0 } }

/-- PD12 goes: the polygons are IDLE, their stations not in use, their drives stopped. -/
def State.scanDown (s : State) : State :=
  let s1 := s.each [1, 2, 3] (fun t p => ((t.setb (K (0x3100 + p) 1) false).polygonIdle p).refreshPolygon p)
  s1.each [0, 1, 2] State.driveDown

/-- PD07 goes: the link is down, and the Ladle's jobs end as at a re-initialisation (R227, R258). -/
def State.linkDown (s : State) : State :=
  let q := s.fabric.lockQueue
  let s1 := if s.flag (K 0x3830 1) then s.linkLost 1 else s
  (s1.endLadleJobs 0x0B 0).startGranted q

/-- Every function of a domain passes to its OFF or inert state (R384). The Crock's commands run until the domain is OFF. -/
def State.domainDown (s : State) (pd : Nat) : State :=
  match pd with
  | 1 => s.unitDown 1
  | 2 => s.unitDown 2
  | 3 => s.dramDown
  | 4 => s.pressDown 4
  | 5 => s.pressDown 5
  | 7 => s.linkDown
  | 8 => { (s.setEsm 1 0) with svc := { (s.setEsm 1 0).svc with esmWaiting := 0 } }
  | 9 => s.each [1, 2] State.stationDown
  | 10 => s.each [3, 4] State.stationDown
  | 11 => s.each [5, 6] State.stationDown
  | 12 => s.scanDown
  | 13 => s.each (upFrom 3 8) State.driveDown
  | 14 => s.steppersDown
  | 15 => s.loopsDown
  | 16 => s.positionDown
  | _ => s

/-- The rails of a domain are off. -/
def State.domainOff (s : State) (pd : Nat) : State := if pd = 6 then s.crockDown else s

/-! ## A domain is ON -/

/-- The stations of a domain start, with the answers of their beam drivers (R84, R133). -/
def State.stationsUp (s : State) (ns : List Nat) (answers : List (Nat × List Frame)) : State :=
  s.each ns (fun t n => t.stationUp n ((answers.find? (fun a => a.1 == n)).map Prod.snd |>.getD []))

/-- `Driver state` of stations as it was, for the change to NOT STARTED that their start reports (R137). -/
def State.oldDriverState (s old : State) (ns : List Nat) : State := s.each ns (fun t n => t.setn (sk n 6 5) (old.n (sk n 6 5)))

/-- Every ring at its power-up state; what producers outside the Host Image Link hold back is kept (R263, R384). -/
def State.freshRings (s : State) : State :=
  let keep : Tab Ring := (s.rings.filter (fun x => !x.2.waiting.isEmpty)).map (fun x => (x.1, ({ waiting := x.2.waiting } : Ring)))
  { s with rings := keep }

/-- A domain is ON: its functions start from their power-up states, and Alinagrim comes up where it can (R384, R386). -/
def State.domainUp (s : State) (pd : Nat) (answers : List (Nat × List Frame)) : State :=
  let s1 := s.restartObjects (domainObjects pd)
  let s2 := match pd with
    | 1 => s1.startUnit 1 1
    | 2 => s1.startUnit 2 1
    | 3 => ({ s1 with fabric := { s1.fabric with grants := [], preemptions := [], locks := [] } }).startScrub
    | 4 => (s1.restartPress 4).pressUp 4
    | 5 => (s1.restartPress 5).pressUp 5
    | 6 => s1.crockUpPower
    | 7 => s1.freshRings
    | 9 => (s1.oldDriverState s [1, 2]).stationsUp [1, 2] answers
    | 10 => (s1.oldDriverState s [3, 4]).stationsUp [3, 4] answers
    | 11 => (s1.oldDriverState s [5, 6]).stationsUp [5, 6] answers
    | 12 => { s1 with polygons := [] }
    | 14 => s1.steppersUp
    | 16 => { s1 with pos := { s1.pos with axes := [], enc := [] } }
    | _ => s1
  s2.bringUp

end Sys2Proof.Machine
end

