-- ==== Sys2Proof/Machine/Power.lean ====
section
/-! DEFINITION. Supplies, power domains and temperature (R374 to R397, R513, R516). -/

namespace Sys2Proof.Machine

def tmSupply : Nat := timer 5 0
def tmRamp (pd : Nat) : Nat := timer 6 pd

/-! ## Non-volatile quiesce -/

/-- The cause EV008 names: the lowest that stands (R395). -/
def quiesceCause (m : Nat) : Nat := if bitOf m 0 then 1 else if bitOf m 1 then 2 else 3

/-- A cause of quiesce begins or ends; each entry to and exit from quiesce writes EV008 (R392). -/
def State.setQuiesce (s : State) (bit : Nat) (on : Bool) : State :=
  let old := s.power.quiesce
  let new := putBit old bit on
  let s1 := { s with power := { s.power with quiesce := new } }
  let erase := if s.on 6 then (Config.eraseSuspended s.drawn).toNat * 65536 else 0
  if old = 0 ∧ new ≠ 0 then (s1.draw.event 8 (1 + (bit + 1) * 256 + erase)).crockQuiesce
  else if old ≠ 0 ∧ new = 0 then (s1.draw.event 8 (2 + (bit + 1) * 256 + erase)).crockResume
  else s1

/-! ## Domains -/

/-- A domain changes state: EV002 with the cause of its request (R384, R395). -/
def State.setDomainState (s : State) (pd new cause : Nat) : State :=
  let d := s.domain pd
  if d.state = new then s
  else
    (s.setDomain pd { d with state := new, cause := cause, deferred := false }).event 2
      (pd + new * 256 + d.state * 65536 + cause * 2 ^ 24)

/-- The request bit of a domain. -/
def State.requested (s : State) (pd : Nat) : Bool := bitOf (s.n (K 0x2040 1)) (pd - 1)

def State.setRequest (s : State) (pd : Nat) (b : Bool) : State :=
  s.setn (K 0x2040 1) (putBit (s.n (K 0x2040 1)) (pd - 1) b)

/-- The time a domain has to report ready: 100 ms for PD03, 5 ms for any other (R384). -/
def rampLimit (pd : Nat) : Nat := if pd = 3 then 100000000 else 5000000

/-- An OFF domain is switched on; the k-th of one request follows 100 µs × k later (R383). -/
def State.switchOn (s : State) (pd k cause : Nat) : State :=
  (s.setDomainState pd 1 cause).after (tmRamp pd) (k * 100000 + rampLimit pd)

/-- An ON domain enters STOPPING: every function in it passes to its OFF or inert state in this grid step (R384). -/
def State.stopDomain (s : State) (pd cause : Nat) : State :=
  let s1 := (s.domainDown pd).setDomainState pd 3 cause
  if pd = 6 then s1.setQuiesce 2 true else s1

/-- A domain whose request bit has been cleared: STOPPING from ON, OFF from FAILED; a RAMPING one is stopped once it
reaches ON or FAILED (R384, R385). -/
def State.releaseDomain (s : State) (pd cause : Nat) : State :=
  let s1 := s.setRequest pd false
  match (s.domain pd).state with
  | 2 => s1.stopDomain pd cause
  | 4 => s1.setDomainState pd 0 cause
  | _ => s1.setDomain pd { s1.domain pd with cause := cause, deferred := false }

/-- The domains of a list that are OFF are switched on, in the order of the list, 100 µs apart. -/
def State.switchOnAll : List Nat → Nat → Nat → State → State
  | [], _, _, s => s
  | pd :: l, k, cause, s =>
    if (s.domain pd).state = 0 then State.switchOnAll l (k + 1) cause (s.switchOn pd k cause)
    else State.switchOnAll l k cause s

/-- The base domains (R382). -/
def baseDomains : List Nat := [1, 2, 3, 6, 7, 8]

/-- The module requests domains itself: in WARNING the switch-on is deferred (R513). -/
def State.requestOwn (s : State) (pds : List Nat) (cause : Nat) : State :=
  let s1 := s.each pds (fun t pd => t.setRequest pd true)
  if s.power.supply = 1 then
    s1.each pds (fun t pd =>
      if (t.domain pd).state = 0 then t.setDomain pd { t.domain pd with deferred := true, cause := cause } else t)
  else State.switchOnAll pds 0 cause s1

/-- The deferred domains are switched on, each with the cause of its request (R513). -/
def State.runDeferred (s : State) : State :=
  let pds := (upFrom 1 16).filter (fun pd => (s.domain pd).deferred)
  (pds.foldl (fun (p : Nat × State) pd => (p.1 + 1, p.2.switchOn pd p.1 (s.domain pd).cause)) (0, s)).2

/-- DOMAIN_READY (R384): the domain enters ON and its functions start from their power-up states. -/
def State.domainReady (s : State) (pd : Nat) (answers : List (Nat × List Frame)) : State :=
  let cause := (s.domain pd).cause
  let s1 := ((s.disarm (tmRamp pd)).setDomainState pd 2 cause).domainUp pd answers
  if s1.requested pd then s1 else s1.stopDomain pd cause

/-- DOMAIN_RAMP_TIMEOUT (R384): not ready in time. -/
def execDomainRampTimeout (pd : Nat) (s : State) : Host.Outcome State Fault Refusal :=
  if (s.domain pd).state = 1 ∧ s.due (tmRamp pd) = true then
    let s1 := (((s.disarm (tmRamp pd)).setDomainState pd 4 5).fault 0x13 0x4 pd)
    .next (if s1.requested pd then s1 else s1.setDomainState pd 0 (s.domain pd).cause)
  else .next s

/-- DOMAIN_STOPPED (R384): the pins are inert and the rails off. A domain requested again meanwhile is switched on. -/
def execDomainStopped (pd : Nat) (s : State) : Host.Outcome State Fault Refusal :=
  if (s.domain pd).state = 3 then
    let s1 := (s.setDomainState pd 0 (s.domain pd).cause).domainOff pd
    let s2 := if pd = 6 then s1.setQuiesce 2 false else s1
    .next (if s2.requested pd then State.requestOwn s2 [pd] (s.domain pd).cause else s2)
  else .next s

/-! ## Supply -/

/-- The supply changes state: EV000 (R376, R395). -/
def State.setSupply (s : State) (new : Nat) : State :=
  let s1 := { s with power := { s.power with supply := new } }
  (s1.setn (K 0x2100 4) (min new 1)).event 0
    (new + s.power.supply * 256 + (if new = 1 ∧ s.on 6 = false then 65536 else 0) +
      s.n (K 0x2100 2) * 2 ^ 32)

/-- Admission stops for a cause: the head page is refused, and an ADMITTED page returns to RESIDENT (R17, R155, R377). -/
def State.stopAdmission (s : State) (cause : Nat) : State :=
  let s1 := match s.pages.order.head? with
    | some i => s.recordRefusal i (cause, 0, 0)
    | none => s
  s1.readmitAll

/-- The actions of the entry to WARNING (R377). -/
def State.warningActions (s : State) : State :=
  let s1 := (s.bump (K 0x2100 5)).fault 0x10 0xB (s.n (K 0x2100 2))
  let s2 := s1.stopAdmission 0x0D
  let s3 := if s.on 6 then s2.checkpoint 5 0 else s2
  s3.setQuiesce 0 true

/-- Every switched domain goes OFF at once (R378, R384); deferred requests lapse (R513). -/
def State.dropDomain (s : State) (pd : Nat) : State :=
  let d := s.domain pd
  let s1 := s.setRequest pd false
  if d.state = 0 then s1.setDomain pd { d with deferred := false }
  else ((((if d.state = 2 then s1.domainDown pd else s1).setDomainState pd 0 4).disarm (tmRamp pd)).domainOff pd)

/-- The entry to RESET (R378). -/
def State.enterReset (s : State) : State :=
  let s1 := (s.setSupply 2).bump (K 0x2100 6)
  let s2 := s1.each (upFrom 1 16) State.dropDomain
  { s2 with power := { s2.power with resetAt := s.stamp }, twin := { s2.twin with dictionaryUp := false, held := true } }

/-- The bulk is at or above the recovery level: the warning threshold plus 5 V (R376). -/
def State.bulkRecovered (s : State) (volts : Nat) : Bool := decide (s.n (K 0x2100 3) + 5 ≤ volts)

/-- BULK_SAMPLE (R374, R376): a threshold is passed when two consecutive samples lie beyond it. -/
def execBulkSample (volts : Nat) (s : State) : Host.Outcome State Fault Refusal :=
  let p := s.power
  let bw := if volts < s.n (K 0x2100 3) then p.belowWarning + 1 else 0
  let br := if volts < 80 then p.belowReset + 1 else 0
  let ar := if s.bulkRecovered volts then p.aboveRecovery + 1 else 0
  let nr := if s.bulkRecovered volts then 0 else p.belowRecovery + 1
  let s1 := { s with power := { p with belowWarning := bw, belowReset := br, aboveRecovery := ar,
                                       belowRecovery := nr } }.setn (K 0x2100 2) volts
  let s2 := if p.supply = 0 then s1
    else if 2 ≤ ar ∧ s1.armed tmSupply = false then s1.after tmSupply (if p.supply = 1 then 10000000 else 100000000)
    else if 2 ≤ nr then s1.disarm tmSupply
    else s1
  if p.supply = 0 then
    if 2 ≤ br then .next ((s2.setSupply 1).warningActions.enterReset)
    else if 2 ≤ bw then .next ((s2.setSupply 1).warningActions)
    else .next s2
  else if p.supply = 1 ∧ 2 ≤ br then .next ((s2.disarm tmSupply).enterReset)
  else .next s2

/-- The supply returns to NORMAL: quiesce ends, deferred domains are switched on (R376, R513). -/
def State.supplyNormal (s : State) : State := (((s.disarm tmSupply).setSupply 0).setQuiesce 0 false).runDeferred

/-- LOGIC_RAIL_FAULT (R375): EV009 and the wired source 0x11. -/
def execLogicRailFault (rail : Nat) (above : Bool) (persists : Bool) (s : State) : Host.Outcome State Fault Refusal :=
  let s1 := s.event 9 (rail % 256 + (if above then 256 else 512))
  let kind := if above then 0xA else 0xB
  .next (if persists then s1.faultOn 0x11 kind rail else s1.fault 0x11 kind rail)

/-! ## Motor bus -/

/-- The bus state changes: EV003, and source 0x12 on entering UNDERVOLTAGE or OVERVOLTAGE (R380). -/
def State.setBus (s : State) (new mv : Nat) : State :=
  let s1 := (s.setn (K 0x2100 0xB) new).event 3 (new + s.n (K 0x2100 0xB) * 256 + mv % 2 ^ 32 * 2 ^ 32)
  if new = 1 then ((s1.fault 0x12 0xB (mv / 100)).steppersUnder)
  else if new = 2 then s1.fault 0x12 0xA (mv / 100)
  else s1.steppersBusOk

/-- MOTOR_BUS_SAMPLE (R380, R381): the bus on the module's side of its input switch and the J2 side, in mV. An open
input switch reads as UNDERVOLTAGE. Beyond 60 V on J2 no statement of the manual applies (R507). -/
def execMotorBusSample (bus j2 : Nat) (s : State) : Host.Outcome State Fault Refusal :=
  if 60000 < j2 then .fault .absoluteMaximum
  else
    let s1 := (s.setn (K 0x2100 0xC) (j2 % 65536)).closeBusSwitch j2
    let hyst := s.n (K 0x2100 0xA)
    let open_ := !s1.flag (K 0x410F 8)
    match s.n (K 0x2100 0xB) with
    | 0 =>
      if open_ = true ∨ bus < s.n (K 0x2100 8) then .next (s1.setBus 1 bus)
      else if s.n (K 0x2100 9) ≤ bus then .next (s1.setBus 2 bus)
      else .next s1
    | 1 => if open_ = false ∧ s.n (K 0x2100 8) + hyst ≤ bus then .next (s1.setBus 0 bus) else .next s1
    | _ =>
      if open_ = true then .next (s1.setBus 1 bus)
      else if bus + hyst < s.n (K 0x2100 9) then .next (s1.setBus 0 bus)
      else .next s1

/-! ## Temperature -/

/-- `Thermal throttle` is TRUE while any channel is in THROTTLE or SHUTDOWN; its change writes EV007 (R389). Quiesce
follows the channels in SHUTDOWN (R392). -/
def State.refreshThrottle (s : State) (t : Nat) : State :=
  let hot := (upFrom 1 36).any (fun c => decide (2 ≤ s.n (tk c 3)))
  let shut := (upFrom 1 36).any (fun c => decide (s.n (tk c 3) = 3))
  let s1 := if s.flag (K 0x2100 0xD) = hot then s else (s.setb (K 0x2100 0xD) hot).event 7 (b2n hot + t * 65536)
  s1.setQuiesce 1 shut

/-- A channel's state and band after a reading that counts for it (R389 to R391, R516). -/
def State.evaluateChannel (s : State) (t : Nat) (x : Int) : State :=
  let c := s.thermo t
  let old := if c.fresh then 0 else s.n (tk t 3)
  let oldBand := if c.fresh then 0 else s.n (tk t 4)
  let new := temperatureState old x (s.i (tk t 6)) (s.i (tk t 7)) (s.i (tk t 8)) (s.i (tk t 9))
  let band := temperatureBand oldBand x
  let s1 := s.setThermo t { c with fresh := false }
  let s2 := if new = old then s1
    else (s1.setn (tk t 3) new).event 4 (new + old * 256 + t * 65536 + unsigned 32 x * 2 ^ 32)
  let s3 := if new = 3 ∧ old ≠ 3 then s2.fault (channelSource t) 0xC t else s2
  let s4 := if band = oldBand then s3
    else (s3.setn (tk t 4) band).event 6 (band + oldBand * 256 + t * 65536)
  s4.refreshThrottle t

/-- The broken mark of a channel after a reading (R388). -/
def State.markChannel (s : State) (t : Nat) (x : Int) : State :=
  let c := s.thermo t
  if x < -400 ∨ 3000 < x then
    let s1 := s.setThermo t { c with good := 0 }
    if s.flag (tk t 5) then s1
    else ((s1.setb (tk t 5) true).fault (channelSource t) 0x7 t).event 5 (1 + t * 65536)
  else if s.flag (tk t 5) then
    if c.good + 1 < 16 then s.setThermo t { c with good := c.good + 1 }
    else ((s.setThermo t { c with good := 0 }).setb (tk t 5) false).event 5 (2 + t * 65536)
  else s

/-- The partner's reading takes over or is given up: EV005 (R388). -/
def State.setPartner (s : State) (t : Nat) (on : Bool) : State :=
  let c := s.thermo t
  if c.partner = on then s
  else (s.setThermo t { c with partner := on }).event 5 ((if on then 3 else 4) + s.n (tk t 0xA) * 256 + t * 65536)

/-- A reading of a channel in 0.1 °C: shown, marked where it is out of range, and evaluated, by the partner's reading while the channel
is broken (R387, R388, R389). -/
def State.channelSample (s : State) (t : Nat) (reading : Int) : State :=
  let s1 := (s.seti (tk t 2) (clampInt (-32768) 32767 reading)).markChannel t reading
  if s1.flag (tk t 5) then
    let p := s1.n (tk t 0xA)
    if p ≠ 0 ∧ s1.channelOn p = true ∧ s1.flag (tk p 5) = false then
      ((s1.setPartner t true).evaluateChannel t (s1.i (tk p 2))).zonesRead t
    else (s1.setPartner t false).zonesRead t
  else ((s1.setPartner t false).evaluateChannel t reading).zonesRead t

/-- TEMPERATURE_SAMPLE (R387 to R391): a sample of channel t. A broken channel takes its partner's reading
where the partner is not broken, and holds its state and band otherwise. -/
def execTemperatureSample (t : Nat) (sample : Int) (s : State) : Host.Outcome State Fault Refusal :=
  if s.channelOn t && s.channelPowered t then .next (s.channelSample t (s.channelReading t sample)) else .next s

/-- What an accepted write of `Channel enable` does on an NTC channel (R387, R388). -/
def State.channelEnable (s : State) (t : Nat) (old new : Bool) : State :=
  if new then (if old then s else s.setThermo t {})
  else
    let x := s.i (tk t 2)
    let s1 := if s.n (tk t 3) = 0 then s else s.event 4 (s.n (tk t 3) * 256 + t * 65536 + unsigned 32 x * 2 ^ 32)
    let s2 := if s.n (tk t 4) = 0 then s1 else s1.event 6 (s.n (tk t 4) * 256 + t * 65536)
    ((((((s2.setn (tk t 3) 0).setn (tk t 4) 0).seti (tk t 2) 0).setb (tk t 5) false).setThermo t {}).refreshThrottle t)

end Sys2Proof.Machine
end

