-- ==== Sys2Proof/Machine/Lid.lean ====
section
/-! DEFINITION. The Safety Supervisor and the Lid: delivery of fault messages, sticky bits and the first fault, reactions,
consequence windows, the fault state, the interlock and fault injection (R398 to R419, R514). -/

namespace Sys2Proof.Machine

/-- Timers of the Supervisor: quiet period, consequence limit, discrepancy. -/
def tmQuiet : Nat := timer 38 0
def tmWindows : Nat := timer 37 0
def tmDiscrepancy : Nat := timer 39 0

/-! ## Sources -/

/-- The domains a fault source lies in; none in the Trivet (R400, R514). -/
def sourceDomains (source : Nat) : List Nat :=
  if source < 0x20 then []
  else if source < 0x30 then
    (if source = 0x20 then [1] else if source = 0x21 then [2] else if source = 0x25 ∨ source = 0x26 ∨ source = 0x2F then [1, 2] else [])
  else if source < 0x40 then [3]
  else if source < 0x50 then
    (if source < 0x46 ∨ source = 0x48 ∨ source = 0x4A then [5] else if source = 0x4F then [4, 5] else [4])
  else if source < 0x68 then [9 + (source - 0x50) / 8]
  else if source < 0x70 then [12]
  else if source < 0x78 then (if source = 0x72 then [] else [16])
  else if source < 0x80 then [7]
  else if source < 0x88 then [6]
  else if source < 0x90 then (if source < 0x8B then [12] else if source < 0x8D then [13] else [12, 13])
  else if source < 0x98 then [14]
  else if source < 0xA0 then [15]
  else []

/-- The stations of the variant, as a mask. -/
def State.stationMask (s : State) : Nat := if s.s6 then 63 else 15

/-- The own stations of a source as a mask, 0 where it has none (R82, R111, R210, R318, R406). -/
def ownStations (source address : Nat) : Nat :=
  let at1 := if 1 ≤ address ∧ address ≤ 6 then 2 ^ (address - 1) else 0
  if 0x40 ≤ source ∧ source ≤ 0x45 then 2 ^ (source - 0x40)
  else if source = 0x48 ∨ source = 0x6B then at1
  else if 0x50 ≤ source ∧ source ≤ 0x67 then 2 ^ ((source - 0x50) / 4)
  else if 0x68 ≤ source ∧ source ≤ 0x6A then (if at1 = 0 then 3 * 4 ^ (source - 0x68) else at1)
  else if 0x88 ≤ source ∧ source ≤ 0x8A then 3 * 4 ^ (source - 0x88)
  else 0

/-- The fields of a message (R398). -/
def msgSource (w : Nat) : Nat := field w 63 56
def msgKind (w : Nat) : Nat := field w 55 52
def msgCleared (w : Nat) : Bool := bitOf w 51
def msgInjected (w : Nat) : Bool := bitOf w 50
def msgPersistent (w : Nat) : Bool := bitOf w 49
def msgAddress (w : Nat) : Nat := field w 31 0

/-- The byte of the reaction map for a message (R406). -/
def State.mapByte (s : State) (w : Nat) : Nat := ((s.bytes (K 0x2210 1)).getD (16 * msgSource w + msgKind w) 0).toNat

/-- The effective reaction of a message: its class, 0 for none; an injected fault under `Injection reaction` 1 has none
(R406, R415). -/
def State.classOf (s : State) (w : Nat) : Nat := if msgInjected w && s.lid.recordOnly then 0 else s.mapByte w % 8

/-- The stations a Class A of a message acts on. -/
def State.stationsOf_ (s : State) (w : Nat) : Nat :=
  let own := ownStations (msgSource w) (msgAddress w) &&& s.stationMask
  if bitOf (s.mapByte w) 7 ∨ own = 0 then s.stationMask else own

/-- The cause is a temperature SHUTDOWN (R390). -/
def thermalCause (w : Nat) : Bool := decide (0x14 ≤ msgSource w ∧ msgSource w ≤ 0x16) && decide (msgKind w = 0xC)

/-! ## Reactions -/

/-- `LASER_EN_n` goes low under a reaction: `Laser enable` cleared and the IMAGING pages spoiled; a temperature SHUTDOWN alone
lets the scan line end (R86, R390, R404). -/
def State.laserReaction (s : State) (thermal : Bool) (n : Nat) : State :=
  if s.stationOn n then
    let s1 := (s.setb (sk n 0 3) false).spoilImaging n 6
    if thermal && (s1.station n).writing then s1.setStation n { s1.station n with lineEnd := true } else s1.laserLow n
  else s

/-- The sources whose windows a class opens by itself (R407). -/
def windowSources (cls stations : Nat) : List Nat :=
  let station := (upFrom 0x50 24).filter (fun x => decide (2 ≤ cls) || bitOf stations ((x - 0x50) / 4))
  station ++ (if 2 ≤ cls then [0x99, 0x9A] else []) ++ (if 3 ≤ cls then upFrom 0x88 16 ++ [0x9B, 0x9C, 0x9D] else [])

/-- Consequence windows open. -/
def State.openWindows (s : State) (l : List Nat) : State :=
  { s with lid := { s.lid with windows := (upFrom 0 160).filter (fun x => s.lid.windows.contains x || l.contains x),
                               closing := s.lid.closing.filter (fun x => !l.contains x) } }

/-- A consequence window is open. -/
def State.windowOpen (s : State) (source : Nat) : Bool := s.lid.windows.contains source || s.lid.closing.contains source

/-- The domains a Class D holds off: every one but the active sequencer's, which is the new one's once takeover is granted
(R385, R428). -/
def State.heldDomains (s : State) : List Nat :=
  let spare := if s.twin.switching then otherUnit s.twin.leaving else s.activeUnit
  (upFrom 1 16).filter (fun pd => pd != spare)

/-- Class D takes its domains off (R385). -/
def State.classD (s : State) : State :=
  let pds := s.heldDomains
  let gone := pds.filter (fun pd => (s.domain pd).state != 0)
  (s.each pds (fun t pd => t.releaseDomain pd 2)).openWindows
    ((upFrom 0 160).filter (fun x => (sourceDomains x).any (fun pd => gone.contains pd)))

/-- The functions of the classes B to D (R404). -/
def State.moveFunctions (s : State) (cls : Nat) : State :=
  let s1 := if 2 ≤ cls then s.each (upFrom 1 20) State.hvHold else s
  let s2 := if 3 ≤ cls then
      ((s1.each (upFrom 0 11) (fun t c => t.driveSafe c (decide (cls = 4)))).each (upFrom 1 12) State.axisSafe).each [1, 2, 3]
        State.zoneSafe
    else s1
  if 4 ≤ cls then s2.classD else s2

/-- The Lid applies the reactions of one grid step, in union with those in force: EV012 at each change (R404, R408, R428). -/
def State.force (s : State) (ws : List Nat) : State :=
  let acting := ws.filter (fun w => s.classOf w != 0)
  let cls := acting.foldl (fun m w => max m (s.classOf w)) 0
  let first := (acting.find? (fun w => s.classOf w == cls)).getD 0
  let setA := acting.foldl (fun m w => if s.classOf w = 1 then m ||| s.stationsOf_ w else m) 0
  let s0 := if acting.any (fun w => s.classOf w == 4 && (sourceDomains (msgSource w)).contains s.activeUnit) then s.takeover 4 else s
  let old := s0.n (K 0x2200 2)
  let oldA := s0.n (K 0x2200 3)
  let thermal := decide (cls = 3) && (acting.all thermalCause && (decide (old = 0) || (decide (old = 3) && s0.lid.thermalOnly)))
  let s1 := (s0.setn (K 0x2200 2) (max old cls)).setn (K 0x2200 3) (oldA ||| setA)
  let s2 := if max old cls = old ∧ oldA ||| setA = oldA then s1
    else s1.eventHw 12 (max old cls + old * 256 + (oldA ||| setA) * 65536 + msgSource first * 2 ^ 24)
  let low := if 2 ≤ cls ∨ s0.lid.thermalOnly = true then s.stationMask else setA
  let s3 := { s2 with lid := { s2.lid with thermalOnly := thermal } }.each ((upFrom 1 6).filter (fun n => bitOf low (n - 1)))
    (fun t n => t.laserReaction thermal n)
  if acting.isEmpty then s else (s3.moveFunctions cls).openWindows (windowSources cls setA)

/-! ## The fault state -/

/-- The fault state changes: EV013 (R409). -/
def State.setFaultState (s : State) (new cause : Nat) : State :=
  let old := s.n (K 0x2200 1)
  if old = new then s else (s.setn (K 0x2200 1) new).eventHw 13 (new + old * 256 + cause * 2 ^ 24)

/-- The quiet period starts from its full length, unless a persistent condition with a reaction stands (R410). -/
def State.restartQuiet (s : State) : State :=
  if s.lid.standing.any (fun x => x.2.2) then s.disarm tmQuiet else s.after tmQuiet (s.n (K 0x2200 4) * 1000000)

/-- Releases in the preceding 3,600 s (R409). -/
def State.recentReleases (s : State) : List Nat := s.lid.releases.filter (fun t => decide (s.stamp ≤ t + 3600000000000))

/-- A function that a release gives up takes its chapter's state (R411). -/
def State.releaseFunctions (s : State) : State :=
  let s1 := (s.each (upFrom 0 11) State.driveRelease).each (upFrom 1 12) State.axisRelease
  let s2 := (s1.each (upFrom 1 20) State.hvRelease).each [1, 2, 3] State.zoneRelease
  s2.each (upFrom 1 6) (fun t n => (t.setStation n { t.station n with lineEnd := false }).refreshLaser n)

/-- Every reaction is released in one grid step: EV012, EV013, EV014 (R385, R407, R411). -/
def State.releaseAll (s : State) (cause : Nat) : State :=
  let cls := s.n (K 0x2200 2)
  let s1 := ((s.setn (K 0x2200 2) 0).setn (K 0x2200 3) 0).bump16 (K 0x2200 6)
  let s2 := { s1 with lid := { s1.lid with releases := s.stamp :: s.recentReleases, thermalOnly := false,
                                           closing := (upFrom 0 160).filter s.windowOpen, windows := [] } }
  let s3 := (s2.disarm tmQuiet).after tmWindows (s2.n (K 0x2200 0xA) * 1000)
  let s4 := if cls = 0 then s3 else s3.eventHw 12 (cls * 256)
  let s5 := (s4.setFaultState 0 cause).eventHw 14 (s4.n (K 0x2200 6) + min 255 s4.lid.releases.length * 65536 + cls * 2 ^ 24)
  let s6 := s5.releaseFunctions
  if cls = 4 then s6.requestOwn baseDomains 3 else s6

/-- QUIET_PERIOD_EXPIRED (R409, R410). -/
def execQuietPeriodExpired (s : State) : Host.Outcome State Fault Refusal :=
  if s.n (K 0x2200 1) = 1 ∧ s.due tmQuiet = true then
    if s.recentReleases.length < s.n (K 0x2200 7) then .next (s.releaseAll 2)
    else .next ((s.disarm tmQuiet).setFaultState 2 3)
  else .next s

/-- CONSEQUENCE_LIMIT_EXPIRED (R407). -/
def execConsequenceLimitExpired (s : State) : Host.Outcome State Fault Refusal :=
  if s.due tmWindows then .next ({ s with lid := { s.lid with closing := [] } }.disarm tmWindows) else .next s

/-- What an accepted `Fault clear` does (R412). -/
def State.faultClear (s : State) : State :=
  let s1 := s.releaseAll 5
  { s1 with lid := { s1.lid with releases := [] } }

/-- `Quiet remaining` in ms (R416). -/
def State.quietRemaining (s : State) : Nat :=
  if s.lid.standing.any (fun x => x.2.2) then 2 ^ 32 - 1 else divCeil (s.left tmQuiet) 1000000

/-! ## Delivery of messages -/

/-- A bit of a sticky field is set (R402). -/
def State.stick (s : State) (sub source : Nat) : State :=
  let b := s.bytes (K 0x2201 sub)
  s.setBytes (K 0x2201 sub) (patch (source / 8) [BitVec.ofNat 8 (withBit ((b.getD (source / 8) 0).toNat) (source % 8))] b)

/-- A list in ascending source order. -/
def insertDetected (d : Detected) : List Detected → List Detected
  | [] => [d]
  | e :: l => if msgSource d.word < msgSource e.word then d :: e :: l else e :: insertDetected d l

/-- The capture of the first faults (R403): the step's Stamp time, the count and up to eight messages in ascending source order; more
messages of the captured step join it. -/
def State.capture (s : State) (stamp : Nat) (primary : List Detected) (joins : Bool) : State :=
  let kept := if joins then (upFrom 0 (min 8 (s.n (K 0x2201 5)))).map (fun i => leAt (8 * i) 8 (s.bytes (K 0x2201 6))) else []
  let count := (if joins then s.n (K 0x2201 5) else 0) + primary.length
  let words := ((primary.foldl (fun l d => insertDetected d l) (kept.map (fun w => ({ word := w } : Detected)))).take 8).map (fun d => d.word)
  ((s.setn (K 0x2201 4) stamp).setn (K 0x2201 5) (min 160 count)).setBytes (K 0x2201 6)
    (wordsLe 8 (words ++ List.replicate (8 - words.length) 0))

/-- A message that is neither CLEARED nor discarded: its record, its sticky bit, and a persistent condition that it begins
(R402, R407, R410). -/
def State.takeMessage (s : State) (d : Detected) (consequential : Bool) : State :=
  let w := d.word
  let r := if consequential then { d.record with type := 3, payload := w + 2 ^ 48 } else d.record
  let s1 := (s.deliver r).stick (if consequential then 2 else 1) (msgSource w)
  if msgPersistent w then
    let rest := s1.lid.standing.filter (fun x => !(x.1 == msgSource w && x.2.1 == msgKind w))
    { s1 with lid := { s1.lid with standing := rest ++ [(msgSource w, msgKind w, !consequential && s.classOf w != 0)] } }
  else s1

/-- A message with CLEARED: its record, and the end of the condition; after the last one with a reaction the quiet period starts
(R407, R410). -/
def State.takeCleared (s : State) (d : Detected) : State :=
  let w := d.word
  let rest := s.lid.standing.filter (fun x => !(x.1 == msgSource w && x.2.1 == msgKind w))
  let had := s.lid.standing.any (fun x => x.2.2)
  let s1 := { (s.deliver d.record) with lid := { (s.deliver d.record).lid with standing := rest } }
  if had && !rest.any (fun x => x.2.2) then s1.restartQuiet else s1

/-- The messages of one detection step reach the Supervisor (R399, R402 to R410, R414). -/
def State.deliverStep (s : State) (ds : List Detected) : State :=
  let lost := ds.filter (fun d => d.crcBad)
  let good := (ds.filter (fun d => !d.crcBad)).foldl (fun l d => insertDetected d l) []
  let cleared := good.filter (fun d => msgCleared d.word)
  let rest := good.filter (fun d => !msgCleared d.word)
  let primary := rest.filter (fun d => d.acted || !s.windowOpen (msgSource d.word))
  let fresh := (s.bytes (K 0x2201 1)).all (fun b => b == 0)
  let step := (ds.head?.map (fun d => d.record.stamp + 24)).getD s.stamp
  let joins := !fresh && decide (s.n (K 0x2201 5) ≠ 0 ∧ s.n (K 0x2201 4) = step)
  let s1 := lost.foldl (fun t d => t.fault 0x02 0x5 d.lane) s
  let s2 := rest.foldl (fun t d => t.takeMessage d (!d.acted && s.windowOpen (msgSource d.word))) s1
  let s3 := if (fresh || joins) && !primary.isEmpty then s2.capture step primary joins else s2
  let s4 := cleared.foldl State.takeCleared s3
  let s5 := s4.force ((primary.filter (fun d => !d.acted)).map (fun d => d.word))
  let reacting := primary.any (fun d => s.classOf d.word != 0)
  let latch := primary.any (fun d => msgSource d.word == 1 && (msgKind d.word == 0xE && s.classOf d.word != 0))
  if reacting then
    let s6 := if s5.n (K 0x2200 1) = 0 ∧ latch = false then s5.setFaultState 1 1 else s5
    (if latch then s6.setFaultState 2 4 else s6).restartQuiet
  else s5

/-- Messages in the order of their detection steps. -/
def State.deliverAll : Nat → State → List Detected → State
  | 0, s, _ => s
  | _, s, [] => s
  | k + 1, s, d :: l =>
    State.deliverAll k (s.deliverStep ((d :: l).takeWhile (fun e => e.record.stamp == d.record.stamp)))
      ((d :: l).dropWhile (fun e => e.record.stamp == d.record.stamp))

/-- What a block outside the model does beside its message (R227, R238, R266, R291 of the Crock, R436). -/
def State.hardwareEffect (s : State) (w : Nat) : State :=
  let ringsToError (t : State) (l : List Nat) : State := t.each l (fun u r =>
    if (u.ring r).state = 1 then (u.ringError r).ringEvent (Config.ringSubcode 3 % 256) r (u.ring r).tail else u)
  match msgSource w, msgKind w with
  | 0x34, 0x3 =>
    let q := s.fabric.lockQueue
    (s.each (upFrom 0 32) State.breakLock).startGranted q
  | 0x79, _ => s.haltLadle (msgAddress w)
  | 0x7D, 0x3 => if msgAddress w < 64 then ringsToError s [msgAddress w] else s
  | 0x7F, _ => ringsToError s (upFrom 0 64)
  | 0x24, _ => if s.anyActive && s.on 3 then s.newBase else s
  | 0x87, _ => if s.crockUp then s.crockTo 5 else s
  | _, _ => s

/-- What a record of a grid step of the last six would carry; where no step that long ago is known, the oldest that is (R23). -/
def State.recordAt (s : State) (stamp : Nat) : Rec :=
  match s.ev.samples.find? (fun r => r.stamp == stamp) with
  | some r => r
  | none => s.ev.samples.getLast?.getD (s.record 2 0 0 false)

/-- The CRC-8 of a message checks: the polynomial and conventions of R130 over its 64 bits, most significant byte first (R398). -/
def crcGood (m : Message) : Bool := decide (crc8 8 m.word 0 = m.crc)

/-- A message of a checker outside the model, detected six grid steps ago: its record is that of its detection step (R23, R399). -/
def State.outside (s : State) (m : Message) : Detected :=
  let w := m.word % 2 ^ 64 - (if bitOf m.word 48 then 2 ^ 48 else 0)
  { word := w, record := { s.recordAt (s.stamp - 24) with stamp := s.stamp - 24, type := 2, source := msgSource w, payload := w },
    lane := m.lane, crcBad := !crcGood m }

/-- The block behind a source is absent on the variant, so that the source is never raised (R2, R207, R291). -/
def State.sourceAbsent (s : State) (source : Nat) : Bool :=
  !s.s6 && (decide (0x60 ≤ source ∧ source ≤ 0x67) || [0x44, 0x45, 0x6A, 0x8A].contains source)

/-- A message of the module's own on its lane is the one that is given. -/
def Detected.same (d : Detected) (m : Message) : Bool := d.lane == m.lane && d.word == m.word

/-- A message can come of a checker outside the model: a lane that is there carries its own source, or a word whose CRC fails. -/
def State.laneCarries (s : State) (m : Message) : Bool :=
  decide (m.lane < 160) && !s.sourceAbsent m.lane && (!crcGood m || msgSource m.word == m.lane)

/-- The messages of checkers outside the model, an injection on a lane inverting their CRC (R415), after what their blocks do. -/
def State.outsideAll (s : State) : List Message → State × List Detected
  | [] => (s, [])
  | m :: l =>
    let bad := s.injects (0x400 + m.lane)
    let s1 := if bad then s.spendInjection 1 else s
    let d := s1.outside m
    let r := State.outsideAll (if msgCleared m.word then s1 else s1.hardwareEffect m.word) l
    (r.1, { d with crcBad := d.crcBad || bad } :: r.2)

/-- FAULT_MESSAGE (R399, R402 to R410): what was detected 24 ns ago or earlier reaches the Supervisor; `messages` are those of
checkers outside the model, and those of the module's own as they arrive. -/
def execFaultMessage (messages : List Message) (s : State) : Host.Outcome State Fault Refusal :=
  let due := s.lid.net.takeWhile (fun d => decide (d.record.stamp + 24 ≤ s.stamp))
  let checked := due.map (fun d => if messages.any (fun m => d.same m && !crcGood m) then { d with crcBad := true } else d)
  let new := messages.filter (fun m => s.laneCarries m && !due.any (fun d => d.same m))
  let r := State.outsideAll { s with lid := { s.lid with net := s.lid.net.drop due.length } } new
  let l := checked ++ r.2
  .next (State.deliverAll l.length r.1 l)

/-- WIRED_FAULT_CAUSE (R401, R405): the Lid acts on the wire; the message follows. A cause whose window is open takes no
reaction. -/
def execWiredFaultCause (source kind address : Nat) (s : State) : Host.Outcome State Fault Refusal :=
  if wiredCause source kind && !s.sourceAbsent source then
    let same (d : Detected) : Bool := msgSource d.word == source && (msgKind d.word == kind && !msgCleared d.word)
    let s1 := if s.lid.net.any same then s
      else if source = 0 then s.faultOn source kind address else s.fault source kind address
    if s.windowOpen source then .next s1
    else
      let s2 := { s1 with lid := { s1.lid with net := s1.lid.net.map (fun d => if same d then { d with acted := true } else d) } }
      .next (s2.force (((s1.lid.net.filter (fun d => same d && !d.acted)).map (fun d => d.word)).take 1))
  else .next s

/-! ## Sticky bits, the reaction map -/

/-- The bits of a mask are taken out of a field. -/
def clearBits (b mask : Bytes) : Bytes := (b.zip mask).map (fun x => x.1 &&& ~~~x.2)

/-- Bits set in both. -/
def bitsIn (b mask : Bytes) : Nat := total ((b.zip mask).map (fun x => popCount 8 (x.1 &&& x.2).toNat))

/-- What an accepted `Sticky clear` does (R402, R417): EV017. -/
def State.stickyClear (s : State) (data : Bytes) : State :=
  let p := data.take 20
  let c := (data.drop 20).take 20
  let gone := bitsIn (s.bytes (K 0x2201 1)) p + bitsIn (s.bytes (K 0x2201 2)) c
  let which := b2n (p.any (fun b => b != 0)) + 2 * b2n (c.any (fun b => b != 0))
  let s1 := (s.setBytes (K 0x2201 1) (clearBits (s.bytes (K 0x2201 1)) p)).setBytes (K 0x2201 2) (clearBits (s.bytes (K 0x2201 2)) c)
  let s2 := s1.eventHw 17 (which + gone % 256 * 256)
  if bitOf ((p.getD 16 0).toNat) 4 then s2.crockRecovers else s2

/-- An entry of the reaction map against its default (R406). -/
def mapEntryGood (x d : Nat) : Bool :=
  decide (x % 8 ≤ 4) && (decide (d % 8 ≤ x % 8) && (decide (x / 8 % 16 = 0) && decide (d / 128 ≤ x / 128)))

/-- A reaction map can be accepted. -/
def mapGood (b : Bytes) : Bool := (b.zip defaultReactionMap).all (fun x => mapEntryGood x.1.toNat x.2.toNat)

/-- The entries of a map above their defaults, for EV016. -/
def mapRaised (b : Bytes) : Nat := ((b.zip defaultReactionMap).filter (fun x => x.1 != x.2)).length

/-! ## The interlock -/

/-- `Interlock state` (R416). -/
def State.interlockWord (s : State) : Nat :=
  b2n (!bitOf s.lid.ilkOpen 0) + 2 * b2n (!bitOf s.lid.ilkOpen 1) + 4 * b2n s.lid.discrepant + 8 * b2n (bitOf s.lid.ilkShort 0) +
    16 * b2n (bitOf s.lid.ilkShort 1)

/-- The sense of the two channels: open, shorted, and the end of a discrepancy. `LASER_EN_n` follows at once (R413). -/
def State.senseChannels (s : State) (new short : Nat) : State :=
  { s with lid := { s.lid with ilkOpen := new, ilkShort := short,
                               discrepant := if (new = 0 ∨ new = 3) ∧ short = 0 then false else s.lid.discrepant } }.each
    (upFrom 1 6) (fun t n => t.refreshLaser n)

/-- A channel that opens is reported, and the closing of both ends the report (R413). -/
def State.interlockOpens (s : State) (opened : Nat) : State :=
  if opened = 0 then s else { s with lid := { s.lid with ilkSent := true } }.faultOn 0x00 0xE opened
def State.interlockCloses (s : State) (new : Nat) : State :=
  if new = 0 ∧ s.lid.ilkSent = true then { s with lid := { s.lid with ilkSent := false } }.faultOff 0x00 0xE 0 else s

/-- The channels are open as given: the direct gate of the lasers, the fault of an opening, its end, and the discrepancy time
(R85, R413, R414). -/
def State.setInterlock (s : State) (new short : Nat) : State :=
  let s4 := ((s.senseChannels new short).interlockOpens (maskOff new s.lid.ilkOpen)).interlockCloses new
  if new = 0 ∨ new = 3 then s4.disarm tmDiscrepancy
  else if s4.armed tmDiscrepancy then s4
  else s4.after tmDiscrepancy (s4.n (K 0x2200 0xC) * 1000000)

/-- `Interlock state` follows: EV015 (R417). -/
def State.noteInterlock (s : State) : State :=
  let old := s.n (K 0x2200 0xB)
  let new := s.interlockWord
  if new = old then s else (s.setn (K 0x2200 0xB) new).eventHw 15 (new + old * 256)

/-- A channel of the interlock by number: 0 A, 1 B. -/
def interlockChannel (ch : Nat) : Bool := ch == 0 || ch == 1

/-- INTERLOCK_TEST_PULSE (R413, R414): the test window of one channel, and whether its sense goes low in it. A sense that stays
high is shorted; one that follows the pulse is not. -/
def execInterlockTestPulse (ch : Nat) (low : Bool) (s : State) : Host.Outcome State Fault Refusal :=
  if interlockChannel ch && bitOf s.lid.sense ch then
    if low then .next ((s.setInterlock (withoutBit s.lid.ilkOpen ch) (withoutBit s.lid.ilkShort ch)).noteInterlock)
    else if bitOf s.lid.ilkShort ch then .next s
    else
      let s1 := s.setInterlock (withBit s.lid.ilkOpen ch) (withBit s.lid.ilkShort ch)
      .next (({ s1 with lid := { s1.lid with discrepant := true } }.fault 0x01 0xE 2).noteInterlock)
  else .next s

/-- INTERLOCK_SENSE_CHANGE (R413): a sense changes outside its test window. A shorted channel stays open until it follows a
pulse. -/
def execInterlockSenseChange (ch : Nat) (level : Bool) (s : State) : Host.Outcome State Fault Refusal :=
  if interlockChannel ch && decide (bitOf s.lid.sense ch ≠ level) then
    let s1 := { s with lid := { s.lid with sense := putBit s.lid.sense ch level } }
    let open_ := if level then (if bitOf s.lid.ilkShort ch then s.lid.ilkOpen else withoutBit s.lid.ilkOpen ch)
      else withBit s.lid.ilkOpen ch
    .next ((s1.setInterlock open_ s.lid.ilkShort).noteInterlock)
  else .next s

/-- DISCREPANCY_TIMEOUT (R414). -/
def execDiscrepancyTimeout (s : State) : Host.Outcome State Fault Refusal :=
  if s.due tmDiscrepancy then
    .next ((({ s with lid := { s.lid with discrepant := true } }.disarm tmDiscrepancy).fault 0x01 0xE 1).noteInterlock)
  else .next s

/-! ## Injection -/

/-- What an accepted `Inject` does (R415): EV018 subcode 1. -/
def State.inject (s : State) : State :=
  let target := s.n (K 0x2220 1)
  let count := s.n (K 0x2220 2)
  let path := if target = 0x501 then 1 else if target = 0x502 then 2 else 0
  ({ s with lid := { s.lid with target := target, injected := count, recordOnly := decide (s.n (K 0x2220 3) = 1),
                                pathInjected := path } }.setn (K 0x2220 5) count).eventHw 18 (1 + target * 65536 + count * 2 ^ 48)

/-- An `Injection target` of R415 on the variant (R2). -/
def State.injectionTarget (s : State) (x : Nat) : Bool :=
  x == 0x101 || (x == 0x102 || (decide (0x201 ≤ x ∧ x ≤ 0x200 + (if s.s6 then 6 else 4)) || (x == 0x300 ||
    (decide (0x400 ≤ x ∧ x ≤ 0x49F ∧ s.sourceAbsent (x - 0x400) = false) || (x == 0x501 || x == 0x502)))))

/-! ## A domain that is ON under a reaction -/

/-- The Lid holds the functions of a domain that comes ON while a class is in force, and the windows of its block close
(R298, R338, R360, R365, R407). -/
def State.lidMeets (s : State) (pd : Nat) : State :=
  let cls := s.n (K 0x2200 2)
  let s1 := if pd = 15 ∧ 2 ≤ cls then s.each (upFrom 1 20) State.hvHold else s
  let s2 := if cls < 3 then s1
    else if pd = 12 ∨ pd = 13 then s1.each (upFrom 0 11) (fun t c => if driveDomain c = pd then t.driveSafe c (decide (cls = 4)) else t)
    else if pd = 14 then s1.each (upFrom 1 12) State.axisSafe
    else if pd = 15 then s1.each [1, 2, 3] State.zoneSafe
    else s1
  { s2 with lid := { s2.lid with closing := s2.lid.closing.filter (fun x =>
      !((sourceDomains x).contains pd && (sourceDomains x).all s2.on)) } }

end Sys2Proof.Machine
end

