-- ==== Sys2Proof/Machine/Views.lean ====
section
/-! DEFINITION. What the objects that are computed when they are read show, and which objects are there to be read (R2, R5, R43, R80,
R245, R264, R271, R289, R384, R393). -/

namespace Sys2Proof.Machine

/-- A request's path: EtherCAT, or the mailbox ring. -/
def viaEthercat (p : Path) : Bool := p == .ethercat

/-! ## Views -/

/-- The decimal digits of a number, most significant first, with at most k of them. -/
def digits : Nat → Nat → List Nat
  | 0, _ => []
  | k + 1, n => if n < 10 then [48 + n] else digits k (n / 10) ++ [48 + n % 10]

/-- `Software version`: the RELEASE of the active unit's image in decimal (R281). -/
def State.softwareVersion (s : State) : Val :=
  let r := (s.unit s.activeUnit).release
  chars ([65, 108, 105, 110, 97, 103, 114, 105, 109, 32] ++ digits 5 (field r 63 48) ++ [46] ++ digits 5 (field r 47 32) ++ [46] ++
    digits 10 (field r 31 0))

/-- `Revision number` and `Hardware version` (R4). -/
def revisionNumber : Nat := (Config.revisionLetter % 26 + 1) * 65536 + Config.revisionDigit % 10
def hardwareVersion : Val := chars [82, 101, 118, 32, 65 + Config.revisionLetter % 26, 48 + Config.revisionDigit % 10]

/-- The status word (R289): a store is in progress until the grid step ends that takes it (log entry 156). -/
def State.statusWord (s : State) : Nat :=
  b2n s.seqB + 2 * b2n s.twin.switching + 4 * b2n (s.svc.unissued.any (fun x => x.2.1 == 0x1010)) + 8 * s.n (ladk 0x11) + 16 * b2n s.svc.partly

/-- Communication, module, power and fault objects. -/
def State.viewLow (s : State) (p : Path) (index sub : Nat) : Option Val :=
  match index, sub with
  | 0x1009, 0 => some hardwareVersion
  | 0x100A, 0 => some s.softwareVersion
  | 0x1018, 3 => some (.num revisionNumber)
  | 0x1018, 4 => some (.num (Config.serialNumber % 2 ^ 32 : Nat))
  | 0x1C33, 1 => some (s.val (K 0x1C32 1))
  | 0x1C33, 2 => some (s.val (K 0x1C32 2))
  | 0x1C33, 0xC => some (s.val (K 0x1C32 0xC))
  | 0x2000, 1 => some (.num s.statusWord)
  | 0x2001, 0 => some (.num (if viaEthercat p then s.svc.detailEthercat else s.svc.detailMailbox : Nat))
  | 0x2040, 2 => some (.num (maskOf (((upFrom 1 16).filter s.on).map (fun d => d - 1))))
  | 0x2040, 3 => some (.num (maskOf (((upFrom 1 16).filter (fun d => (s.domain d).state == 4)).map (fun d => d - 1))))
  | 0x2100, 1 => some (.num (Config.measured 1 s.stamp % 65536 : Nat))
  | 0x2100, 7 => some (.num (Config.measured 7 s.stamp % 65536 : Nat))
  | 0x2200, 5 => some (.num s.quietRemaining)
  | 0x2200, 8 => some (.num (min 255 s.recentReleases.length : Nat))
  | 0x2200, 0xB => some (.num s.interlockWord)
  | _, _ => none

/-- Recorder and Trust Anchor objects. -/
def State.viewTrust (s : State) (index sub : Nat) : Option Val :=
  match index, sub with
  | 0x2400, 1 => some (.num s.stamp)
  | 0x2401, 3 => some (.num s.recordsHeld)
  | 0x2410, 2 => some (.dom ((upFrom 0 8).flatMap s.slotValue))
  | 0x2410, 3 => some (.dom (wordsLe 4 s.trust.extended))
  | 0x2410, 4 => some (.num s.signatureBits)
  | 0x2410, 5 => some (.num s.bootSource)
  | 0x2410, 6 => some (.dom s.loadedRelease)
  | 0x2430, 1 => some (.dom ((upFrom 0 (min 4096 Config.certificateLength)).map Config.certificateByte))
  | 0x2430, 2 => some (.dom ((upFrom 0 97).map Config.publicKeyByte))
  | _, _ => none

/-- The two words of a slot's descriptor (R43): AXIS is of base 1, also where a slot of base 3 has taken its channel's axis. -/
def State.slotDescriptor (s : State) (k : Nat) : Bytes :=
  let x := s.slot k
  if x.state = 0 then List.replicate 16 0
  else
    leBytes 8 x.aim ++ leBytes 8 (x.state * 2 ^ 60 + x.base * 2 ^ 56 + (if x.base = 1 then x.axis else 0) * 2 ^ 52 + x.channel * 2 ^ 48 + x.action * 2 ^ 40 +
      x.target * 2 ^ 32 + x.tag * 2 ^ 16 + x.arg)

/-- Position objects. -/
def State.viewPosition (s : State) (index sub : Nat) : Option Val :=
  if 0x3010 ≤ index ∧ index ≤ 0x3017 ∧ sub = 2 then some (.num (s.axisPos (index - 0x300F)))
  else match index, sub with
  | 0x3020, 2 => some (.num (s.pos.mains.cycle % 2 ^ 24 : Nat))
  | 0x3020, 3 => some (.num s.mainsPhase)
  | 0x3040, 1 => some (.num (s.slotsIn 0))
  | 0x3040, 2 => some (.num (s.slotsIn 1))
  | 0x3040, 3 => some (.num (s.slotsIn 2))
  | 0x3040, 7 => some (.dom (s.slotDescriptor (s.n (K 0x3040 6))))
  | 0x3050, 4 => some (.num s.outputPins)
  | _, _ => none

/-- `Bow banks in use` (R98): the banks of the pages that name the station and are COMMITTED or IMAGING. -/
def State.banksInUse (s : State) (n : Nat) : Nat :=
  let l := s.pagesWith (fun p => decide (3 ≤ p.state ∧ p.state ≤ 4) && s.names p n)
  b2n (l.any (fun i => !bitOf (s.page i).banks (n - 1))) + 2 * b2n (l.any (fun i => bitOf (s.page i).banks (n - 1)))

/-- Scan timing objects. -/
def State.viewScan (s : State) (index sub : Nat) : Option Val :=
  if index ≤ 0x3103 then
    let p := index - 0x3100
    if sub = 2 then some (.num (s.facetRate p))
    else if sub = 0xF then some (.num (if s.reference p = 0 then 0xFF else s.facetCode (s.reference p) : Nat))
    else none
  else if index ≤ 0x3116 then
    let n := index - 0x3110
    let t := (s.station n).meanT
    if sub = 9 then some (.num (t / 256 % 2 ^ 32 : Nat))
    else if sub = 0xA then some (.num (s.clockHz n t))
    else none
  else
    let n := index - 0x3120
    if 1 ≤ sub ∧ sub ≤ 8 then some (.num ((s.station n).t (sub - 1) / 256 % 2 ^ 32 : Nat))
    else if 9 ≤ sub ∧ sub ≤ 0x10 then some (.num (s.clockHz n ((s.station n).t (sub - 9))))
    else if sub = 0x11 then some (.num (s.facetsLearned n))
    else none

/-- Station objects, of station n and object m of it. -/
def State.viewStation (s : State) (index sub : Nat) : Option Val :=
  let n := index / 16 % 16
  match index / 256, index % 16, sub with
  | 0x32, _, 1 => some (.num (maskOf (((upFrom 1 6).filter s.engaged).map (fun x => x - 1))))
  | 0x32, _, 2 => some (.num (maskOf (((upFrom 1 6).filter s.laserOn).map (fun x => x - 1))))
  | 0x33, 0, 2 => some (.num (s.stationState n))
  | 0x33, 0, 5 => some (.num (s.laserCause n))
  | 0x33, 0, 6 => some (.num (b2n (s.imagingReady n)))
  | 0x33, 3, 4 => some (.num (s.banksInUse n))
  | 0x33, 4, 9 => some (.num (s.healthSummary n))
  | _, _, _ => none

/-- Page execution and Press objects. -/
def State.viewPages (s : State) (index sub : Nat) : Option Val :=
  if 0x3510 ≤ index then (if sub = 2 ∧ index < 0x3600 then some (.num (s.recipeUsers (index - 0x3510))) else none)
  else
    let i := s.placeOf (s.n (K 0x3500 0x12))
    match sub with
    | 0xC => some (.num s.pagesQueued)
    | 0xD => some (.num s.pagesInFlight)
    | 0xE => some (.num s.pagesHeld)
    | 0x13 => some (.num (match i with | some j => (s.page j).state | none => 0xFF : Nat))
    | 0x14 => some (.num (match i with | some j => (s.page j).spoil | none => 0 : Nat))
    | _ => none
def State.viewPress (s : State) (sub : Nat) : Option Val :=
  let c := s.n (qk 5)
  let on := s.on (laneDomain c)
  match sub with
  | 1 => some (.num (s.laneMask decodeCodes))
  | 2 => some (.num (s.laneMask checkCodes))
  | 3 => some (.num (s.laneMask encodeCodes))
  | 4 => some (.num (maskOf (([7, 8].filter s.streams).map (fun l => l - 1))))
  | 6 => some (.num (s.laneState c))
  | 7 => some (.num (if on then (s.lane c).blocks else 0 : Nat))
  | 8 => some (.num (if on then (s.lane c).bytes else 0 : Nat))
  | 9 => some (.num (if on then (s.lane c).stalls else 0 : Nat))
  | 0xA => some (.num (if on then (s.lane c).cause else 0 : Nat))
  | _ => none

/-- Crock, fabric and host link objects. -/
def State.viewStores (s : State) (index sub : Nat) : Option Val :=
  match index, sub with
  | 0x3702, 1 => some (.num (s.crock.objects.length : Nat))
  | 0x3702, 2 => some (.num s.spoolFree)
  | 0x3702, 3 => some (.dom s.archivePositions)
  | 0x3800, 8 => some (.num (Tab.get (fun _ => 0) s.fabric.grants (s.n (fk 7)) : Nat))
  | 0x3800, 9 => some (.num (Tab.get (fun _ => 0) s.fabric.preemptions (s.n (fk 7)) : Nat))
  | 0x3820, 4 => some (.num (s.lockWord (s.n (K 0x3820 3))))
  | 0x3820, 5 => some (.num s.locksHeld)
  | 0x3820, 6 => some (.num s.locksBroken)
  | 0x3830, 4 => some (.num (maskOf ((upFrom 0 64).filter (fun r => (s.ring r).state == 1))))
  | 0x3830, 5 => some (.num (maskOf ((upFrom 0 64).filter (fun r => (s.ring r).state == 3))))
  | 0x3830, 0xE =>
    let r := s.n (K 0x3830 0xD)
    some (.dom (wordsLe 8 ((s.ring r).descriptor r)))
  | _, _ => none

/-- Drive, loop, HV and Kettle objects. -/
def State.viewMotion (s : State) (index sub : Nat) : Option Val :=
  if index = 0x410F then (if sub = 6 then some (.num s.chopperTime) else none)
  else if index ≤ 0x41AF then
    (if index % 16 = 0 ∧ sub = 0xD then some (.num (s.observed ((index - 0x4100) / 16))) else none)
  else if 0x4800 ≤ index ∧ index ≤ 0x483F then
    let i := index - 0x4800
    match sub with
    | 3 => some (.num (s.target i))
    | 4 => some (.num (s.processCode i))
    | 5 => some (.num (s.triggerSource i))
    | 6 => some (.num (s.triggerParameter i))
    | _ => none
  else if index = 0x4C00 then (if sub = 2 then some (.num s.gates) else none)
  else if 0x4C01 ≤ index ∧ index ≤ 0x4C03 then
    (if sub = 0xF then some (.num (((s.zoneSlot (index - 0x4C00)).getD 0xFF : Nat))) else none)
  else if index = 0x4D00 then (if sub = 2 then some (.num s.groupPins) else none)
  else if 0x4D01 ≤ index ∧ sub = 0xB then some (.num (b2n (s.hvReady (index - 0x4D00))))
  else none

/-- What an object reads as. -/
def State.view (s : State) (p : Path) (index sub : Nat) : Val :=
  let v := if index ≤ 0x22FF then s.viewLow p index sub
    else if index ≤ 0x24FF then s.viewTrust index sub
    else if index ≤ 0x30FF then s.viewPosition index sub
    else if index ≤ 0x31FF then s.viewScan index sub
    else if index ≤ 0x34FF then s.viewStation index sub
    else if index ≤ 0x35FF then s.viewPages index sub
    else if index ≤ 0x36FF then s.viewPress sub
    else if index ≤ 0x38FF then s.viewStores index sub
    else s.viewMotion index sub
  v.getD (s.val (K index sub))

/-! ## Which objects are there -/

/-- The abort codes the chapters use. -/
def abState : Nat := 0x08000022
def abRange : Nat := 0x06090030
def abRelation : Nat := 0x06090032
def abLength : Nat := 0x06070010
def abReadOnly : Nat := 0x06010002
def abNoObject : Nat := 0x06020000

/-- An abort code and a detail code. -/
abbrev Abort := Nat × Nat

/-- The station of a scan timing or station index; 0 for none. -/
def stationOfIndex (index : Nat) : Nat :=
  if 0x3111 ≤ index ∧ index ≤ 0x3116 then index - 0x3110
  else if 0x3121 ≤ index ∧ index ≤ 0x3126 then index - 0x3120
  else if 0x3310 ≤ index ∧ index ≤ 0x336F then index / 16 % 16
  else if 0x3410 ≤ index ∧ index ≤ 0x346F then index / 16 % 16
  else 0

/-- The object belongs to hardware that the variant lacks (R2, R80, R112, R319, R373). -/
def State.objectAbsent (s : State) (index : Nat) : Option Nat :=
  if s.s6 then none
  else if index = 0x3103 ∨ (index < 0x3200 ∧ 5 ≤ stationOfIndex index) then some 0x0706
  else if 5 ≤ stationOfIndex index then some 0x0801
  else if 0x4120 ≤ index ∧ index ≤ 0x412F then some 0x0F0D
  else if 0x4D01 ≤ index ∧ index ≤ 0x4D14 ∧ s.hvThere (index - 0x4D00) = false then some 0x110D
  else none

/-- The domain an object's accesses need, and the detail code while it is off: 0 for none (R275, R384). -/
def indexDomain (index : Nat) : Nat × Nat :=
  if index = 0x2060 then (8, 0x0D13)
  else if 0x3000 ≤ index ∧ index ≤ 0x3050 then (16, 0x0609)
  else if 0x3100 ≤ index ∧ index ≤ 0x3126 then (12, 0x0709)
  else if stationOfIndex index ≠ 0 then (stationDomain (stationOfIndex index), 0x0808)
  else if 0x3700 ≤ index ∧ index ≤ 0x3710 then (6, 0x0E03)
  else if index = 0x3810 then (7, 0x0B0B)
  else if 0x3800 ≤ index ∧ index ≤ 0x3820 then (3, 0x0B0A)
  else if index = 0x3830 then (7, 0x0C03)
  else if index = 0x410F then (0, 0)
  else if 0x4100 ≤ index ∧ index ≤ 0x412F then (12, 0x0F0A)
  else if 0x4130 ≤ index ∧ index ≤ 0x41AF then (13, 0x0F0A)
  else if 0x4400 ≤ index ∧ index ≤ 0x44BF then (14, 0x100C)
  else if 0x4800 ≤ index ∧ index ≤ 0x4D14 then (15, 0x110B)
  else (0, 0)

/-- Why an index cannot be accessed at all. -/
def State.indexAbort (s : State) (index : Nat) : Option Abort :=
  if hasIndex index then
    match s.objectAbsent index with
    | some d => some (abNoObject, d)
    | none => if (indexDomain index).1 = 0 ∨ s.on (indexDomain index).1 = true then none else some (abState, (indexDomain index).2)
  else some (abNoObject, 0x0D01)

/-- The access class of an object: that of its row, but for the subindexes that on-die and board channels make RO (R394). -/
def Row.accOf (r : Row) (index sub : Nat) : Acc :=
  if 0x2128 ≤ index ∧ index ≤ 0x2133 ∧ (sub = 1 ∨ sub = 0xB ∨ sub = 0xC) then .ro else r.acc

/-- The size of a basic type; 0 for a string or a DOMAIN. -/
def Ty.size : Ty → Nat
  | .bool => 1 | .u8 => 1 | .i16 => 2 | .u16 => 2 | .i32 => 4 | .u32 => 4 | .real => 4 | .u64 => 8
  | .str => 0 | .dom => 0

/-- The bytes of a value of a type. -/
def Ty.encode (t : Ty) (v : Val) : Bytes :=
  match v with
  | .num n => leBytes t.size (unsigned 64 n)
  | .dom b => b

/-- The number that bytes of a type spell. -/
def Ty.decode (t : Ty) (b : Bytes) : Val :=
  match t with
  | .i16 => .num (signed 16 (ofLe b))
  | .i32 => .num (signed 32 (ofLe b))
  | .str => .dom b
  | .dom => .dom b
  | _ => .num (ofLe b)

end Sys2Proof.Machine
end

