-- ==== Sys2Proof/Machine/Attest.lean ====
section
/-! DEFINITION. The Trust Anchor's signed reports, and rings 62 and 63 (R476 to R480). -/

namespace Sys2Proof.Machine

/-! ## Reports -/

/-- The 488 signed bytes of a report, as they stand when signing begins (R477). -/
def State.reportBody (s : State) (nonce : Bytes) : Bytes :=
  let stations := if s.s6 then 6 else 4
  let polygons := if s.s6 then 3 else 2
  let flags := s.signatureBits + 4 * b2n ((s.unit 1).bootSlot == 3) + 8 * b2n ((s.unit 2).bootSlot == 3)
  leBytes 2 0x5A71 ++ leBytes 2 1 ++ leBytes 4 488 ++ nonce ++ leBytes 8 s.stamp ++ leBytes 4 (s.n (K 0x2401 6)) ++
    leBytes 4 Config.serialNumber ++ leBytes 4 revisionNumber ++ leBytes 1 stations ++ leBytes 1 polygons ++ leBytes 1 s.activeUnit ++
    leBytes 1 flags ++ leBytes 1 (s.n (K 0x2420 1)) ++ leBytes 1 (s.n (K 0x2420 3)) ++ leBytes 1 s.trust.acked ++
    leBytes 1 (b2n (s.flag (K 0x2420 5))) ++ leBytes 4 0 ++ wordsLe 4 s.trust.extended ++ (upFrom 0 8).flatMap s.slotValue

/-- A report with its signature over SHA-384 of the body; ECDSA leaves its value free (R477). -/
def State.reportSigned (s : State) (body : Bytes) : Bytes :=
  body ++ (upFrom 0 96).map (Config.signatureByte (sha384 body) s.drawn)

/-- The Trust Anchor takes the next report where it signs none (R478). -/
def State.beginSigning (s : State) : State :=
  match s.trust.signing, s.trust.queue with
  | none, a :: _ => { s with trust := { s.trust with signing := some (s.reportBody a.nonce) } }
  | _, _ => s

/-- A report is asked for, through the dictionary or on ring 62 (R478). -/
def State.attest (s : State) (nonce : Bytes) (ring : Bool) : State :=
  { s with trust := { s.trust with queue := s.trust.queue ++ [(⟨nonce, ring⟩ : Attestation)] } }.beginSigning

/-! ## Rings 62 and 63 -/

/-- An answer on ring 63 (R480). -/
def State.trustAnswer (s : State) (w0 status count : Nat) : List Nat :=
  [status * 2 ^ 56 + field w0 63 56 * 2 ^ 40 + field w0 15 0, count, 0, s.stamp, 0, 0, 0, 0]

/-- The answered requests at the head are answered on ring 63, in request order (R480). -/
def State.answerTrust : Nat → State → State
  | 0, s => s
  | k + 1, s =>
    match s.trust.requests with
    | r :: l =>
      match r.answer with
      | some e => State.answerTrust k (({ s with trust := { s.trust with requests := l } }.finishEntry 62).produce 63 e)
      | none => s
    | [] => s

/-- A request joins the others, and what can be answered is. -/
def State.addTrust (s : State) (r : TrustRequest) : State :=
  let s1 := { s with trust := { s.trust with requests := s.trust.requests ++ [r] } }
  s1.answerTrust s1.trust.requests.length

/-- A request is malformed: a reserved field is not 0 (R479, R480). -/
def trustReserved (op : Nat) (ws : List Nat) : Bool :=
  field (wordAt ws 0) 55 16 != 0 || (field (wordAt ws 2) 63 32 != 0 || (field (wordAt ws 3) 63 32 != 0 ||
    ((op == 3 || op == 4) && wordAt ws 1 != 0 || ((op == 1 || op == 2) && wordAt ws 3 != 0 ||
      op != 1 && (ws.drop 4).any (fun w => w != 0)))))

/-- The certificate chain's length (R491). -/
def chainLength : Nat := min 4096 Config.certificateLength

/-- The status of a request before it is carried out; 0 where it is (R480). -/
def trustStatus (ws : List Nat) : Nat :=
  let op := field (wordAt ws 0) 63 56
  let length := wordAt ws 2
  let confirm := wordAt ws 3
  if (op = 0 ∨ 4 < op) ∨ trustReserved op ws = true then 1
  else if (op = 1 ∧ length < 584) ∨ (op = 2 ∧ length < chainLength) then 2
  else if (op = 3 ∧ confirm ≠ 0x74657372) ∨ (op = 4 ∧ confirm ≠ 0x63796370) then 4
  else 0

/-- The Trust Anchor takes a request from ring 62 and carries it out, or answers it (R479, R480). -/
def State.serveTrust (s : State) (hostOk : Bool) (ws : List Nat) : State :=
  let w0 := wordAt ws 0
  let r : TrustRequest := { w0 := w0, w1 := wordAt ws 1, hostOk := hostOk }
  let status := trustStatus ws
  if status ≠ 0 then s.addTrust { r with answer := some (s.trustAnswer w0 status 0) }
  else match field w0 63 56 with
  | 1 => (s.addTrust r).attest (wordsLe 8 (ws.drop 4)) true
  | 2 =>
    if hostOk && s.masters then
      (s.hostWrite r.w1 ((upFrom 0 chainLength).map Config.certificateByte)).addTrust
        { r with answer := some (s.trustAnswer w0 0 chainLength) }
    else (s.hostFault r.w1).addTrust { r with answer := some (s.trustAnswer w0 3 0) }
  | _ => s.addTrust { r with answer := some (s.trustAnswer w0 0 0) }

/-- A row of ring 62 takes the next entry where the entry has its opcode, or one that no row has, unless a response is held for ring 63
(R263, R479). -/
def State.takeTrust (s : State) (op : Nat) (entry : Entry) (hostOk : Bool) : State :=
  let found := entry.map (fun ws => field (wordAt ws 0) 63 56)
  if (s.ring 63).waiting.isEmpty = true ∧ (found = none ∨ found = some op ∨ found.any (fun o => o == 0 || decide (4 < o)) = true) then
    s.takeEntry 62 entry (fun t ws => t.serveTrust hostOk ws)
  else s

/-- ATTEST (R478). -/
def execAttest (entry : Entry) (hostOk : Bool) (s : State) : Host.Outcome State Fault Refusal := .next (s.takeTrust 1 entry hostOk)
/-- CERTIFICATES (R479). -/
def execCertificates (entry : Entry) (hostOk : Bool) (s : State) : Host.Outcome State Fault Refusal := .next (s.takeTrust 2 entry hostOk)
/-- MODULE_RESET (R480): answered; the reset acts 1.0 ms after the answer's message. -/
def execModuleReset (entry : Entry) (s : State) : Host.Outcome State Fault Refusal := .next (s.takeTrust 3 entry true)
/-- POWER_CYCLE (R480). -/
def execPowerCycle (entry : Entry) (s : State) : Host.Outcome State Fault Refusal := .next (s.takeTrust 4 entry true)

/-- The signed report goes to the request that asked for it: the first on ring 62 without an answer. -/
def answerFirst (e : TrustRequest → List Nat) : List TrustRequest → List TrustRequest
  | [] => []
  | r :: l => if r.answer.isSome then r :: answerFirst e l else { r with answer := some (e r) } :: l

/-- The report that is signed is delivered: into the result object, or to host memory and ring 63 (R477, R478, R480). -/
def State.deliverReport (s : State) (ring : Bool) (body : Bytes) : State :=
  let report := s.reportSigned body
  let s1 := s.draw
  let mismatch := s.n (K 0x2420 3) * 256
  if ring then
    match s.trust.requests.find? (fun r => r.answer.isNone) with
    | none => s1
    | some r =>
      let ok := r.hostOk && s.masters
      let s2 := (if ok then s1.hostWrite r.w1 report else s1.hostFault r.w1).event 35 (1 + mismatch + field r.w0 15 0 * 65536)
      let l := answerFirst (fun q => if ok then s2.trustAnswer q.w0 0 584 else s2.trustAnswer q.w0 3 0) s2.trust.requests
      let s3 := { s2 with trust := { s2.trust with requests := l } }
      s3.answerTrust s3.trust.requests.length
  else ((s1.bump (K 0x2440 1)).setBytes (K 0x2440 3) report).event 35 (1 + mismatch)

/-- ATTESTATION_SIGNED (R478): the report is delivered, and the next one begins. -/
def execAttestationSigned (s : State) : Host.Outcome State Fault Refusal :=
  match s.trust.signing, s.trust.queue with
  | some body, a :: l =>
    .next ({ s with trust := { s.trust with signing := none, queue := l } }.deliverReport a.ring body).beginSigning
  | _, _ => .next s

end Sys2Proof.Machine
end

