-- ==== Sys2Proof/Machine/Checks.lean ====
section
/-! DEFINITION. What a dictionary write is checked against: types, lengths, the idle guards of RW-idle objects, ranges, contents, and the
rules between objects (R60, R83, R112, R139, R178, R212, R245, R267, R273, R275, R276, R319, R345, R373, R397, R419, R445, R466, R493). -/

namespace Sys2Proof.Machine

/-- The values one write gives subindexes of an index. -/
abbrev New := List (Nat × Val)

/-- What a subindex will hold once the write has been applied. -/
def State.newVal (s : State) (index : Nat) (w : New) (sub : Nat) : Val :=
  match w.find? (fun x => x.1 == sub) with
  | some x => x.2
  | none => s.view .ethercat index sub

/-- The number, or the bytes, of a value. -/
def Val.int : Val → Int
  | .num n => n
  | .dom _ => 0
def Val.nat (v : Val) : Nat := v.int.toNat
def Val.bytes : Val → Bytes
  | .num _ => []
  | .dom b => b

def State.newInt (s : State) (index : Nat) (w : New) (sub : Nat) : Int := (s.newVal index w sub).int
def State.newNat (s : State) (index : Nat) (w : New) (sub : Nat) : Nat := (s.newVal index w sub).nat
def State.newBytes (s : State) (index : Nat) (w : New) (sub : Nat) : Bytes := (s.newVal index w sub).bytes

/-- An abort where a condition fails. -/
def need (c : Bool) (a : Abort) : Option Abort := if c then none else some a

/-- The first abort of two. -/
def firstOf (a b : Option Abort) : Option Abort :=
  match a with
  | some x => some x
  | none => b

/-! ## Units by index -/

def driveOf (index : Nat) : Nat := (index - 0x4100) / 16
def axisOf (index : Nat) : Nat := (index - 0x4400) / 16 + 1

/-! ## Lengths and types -/

/-- The length code of a DOMAIN (R275 and the chapters' lists). -/
def lengthCode (index : Nat) : Nat :=
  if 0x2200 ≤ index ∧ index ≤ 0x22FF then 0x0303
  else if index = 0x2420 ∨ index = 0x2440 then 0x0510
  else if 0x3100 ≤ index ∧ index ≤ 0x31FF then 0x0707
  else if 0x3300 ≤ index ∧ index ≤ 0x34FF then 0x0805
  else if 0x3510 ≤ index ∧ index ≤ 0x352F then 0x0901
  else if 0x4100 ≤ index ∧ index ≤ 0x41FF then 0x0F09
  else if 0x4400 ≤ index ∧ index ≤ 0x44FF then 0x1004
  else if 0x4800 ≤ index ∧ index ≤ 0x4DFF then 0x110A
  else 0x0D05

/-- A length the object allows. -/
def lengthGood (r : Row) (n : Nat) : Bool :=
  match r.ty with
  | .dom =>
    match r.rng with
    | .len lo hi => decide (lo ≤ n ∧ n ≤ hi)
    | .recipe => n == 0 || (decide (32 ≤ n ∧ n ≤ 1040) && n % 16 == 0)
    | _ => true
  | .str => true
  | t => n == t.size

/-- A byte string of the right length spells a value of the type (R272). -/
def typeGood (t : Ty) (b : Bytes) : Bool :=
  match t with
  | .bool => decide (ofLe b ≤ 1)
  | .real => ofLe b / 2 ^ 23 % 256 != 255
  | _ => true

/-- The checks of length and type. -/
def typeAbort (r : Row) (index : Nat) (b : Bytes) : Option Abort :=
  if lengthGood r b.length then
    if typeGood r.ty b then none else some (abRange, 0x0D06)
  else some (abLength, if r.ty = .dom then lengthCode index else 0x0D05)

/-! ## Idle guards -/

/-- Why an RW-idle object cannot be written in the present state of its function (R273). -/
def State.idleAbort (s : State) (index : Nat) : Option Abort :=
  if 0x2110 ≤ index ∧ index ≤ 0x2133 then need (!s.flag (K index 1)) (abState, 0x0204)
  else if 0x3001 ≤ index ∧ index ≤ 0x3008 then need (!s.flag (K index 1)) (abState, 0x0602)
  else if 0x3010 ≤ index ∧ index ≤ 0x3017 then need (s.axisIdle (index - 0x300F)) (abState, 0x0604)
  else if index = 0x3020 then need s.mainsIdle (abState, 0x0608)
  else if 0x3101 ≤ index ∧ index ≤ 0x3103 then need (!s.flag (K index 1)) (abState, 0x0701)
  else if 0x3111 ≤ index ∧ index ≤ 0x3116 then need (!s.flag (pk (polygonOf (stationOfIndex index)) 1)) (abState, 0x0705)
  else if stationOfIndex index ≠ 0 then need (!s.stationGuarded (stationOfIndex index)) (abState, 0x0802)
  else if index = 0x3500 then need (decide (s.pagesInFlight = 0)) (abState, 0x0909)
  else if index = 0x410F then need (!(upFrom 3 8).any (fun c => s.flag (dk c 0 1))) (abState, 0x0F01)
  else if 0x4100 ≤ index ∧ index ≤ 0x41AF then need (!s.flag (dk (driveOf index) 0 1)) (abState, 0x0F01)
  else if 0x4400 ≤ index ∧ index ≤ 0x44BF then need (!s.flag (axk (axisOf index) 0 1)) (abState, 0x1001)
  else if 0x4800 ≤ index ∧ index ≤ 0x483F then need (decide (s.n (K index 2) = 0)) (abState, 0x1101)
  else if 0x4C01 ≤ index ∧ index ≤ 0x4C03 then need (decide (s.n (K index 2) = 0)) (abState, 0x1101)
  else if 0x4D01 ≤ index ∧ index ≤ 0x4D14 then need (decide (s.n (K index 2) = 0)) (abState, 0x1101)
  else none

/-- The guard of a subindex: of its class, and of the tables that are guarded like it (R109, R136). -/
def State.guardAbort (s : State) (acc : Acc) (index sub : Nat) : Option Abort :=
  if index = 0x3050 then none
  else if acc = .idle ∨ (0x3410 ≤ index ∧ index ≤ 0x346F) then s.idleAbort index
  else if 0x3310 ≤ index ∧ index ≤ 0x336F ∧ index % 16 = 3 ∧ (sub = 1 ∨ sub = 2) then
    need (!bitOf (s.banksInUse (stationOfIndex index)) (sub - 1)) (abState, 0x0807)
  else none

/-! ## Ranges -/

/-- The code of a value out of range, by object. -/
def rangeCodeLow (index sub : Nat) : Nat :=
  match index with
  | 0x2010 => 0x0101
  | 0x2011 => if sub ≤ 2 then 0x0106 else 0x0107
  | 0x2220 => if sub = 1 then 0x0306 else 0x0301
  | 0x2400 => if sub = 2 then 0x0501 else if sub = 7 then 0x0502 else 0x0503
  | 0x2401 => if sub = 1 then 0x0503 else 0x0502
  | 0x2420 => if sub = 1 then 0x0511 else 0x0512
  | _ =>
    if index < 0x2010 then 0x0D12
    else if index = 0x2060 then 0x0D12
    else if index < 0x2200 then 0x0201
    else if index < 0x2300 then 0x0301
    else 0x0401
def rangeCodeMid (index sub : Nat) : Nat :=
  if index < 0x3010 then 0x0603
  else if index < 0x3020 then (if sub = 1 then (if index = 0x3010 then 0x0601 else 0x0605) else 0x060C)
  else if index < 0x3100 then 0x060C
  else if index < 0x3200 then 0x0702
  else if index < 0x3500 then
    (if index % 16 = 5 then 0x080C else if index % 16 = 7 ∨ (index % 16 = 6 ∧ sub = 1) then 0x080B else 0x0803)
  else if index < 0x3600 then 0x0908
  else if index = 0x3600 then (if sub = 0x11 then 0x0A04 else 0x0A01)
  else if index < 0x3800 then 0x0E01
  else if index = 0x3801 then 0x0B01
  else if index = 0x3810 then (if sub ≤ 0x10 then 0x0B04 else 0x0B05)
  else if index = 0x3820 then 0x0B06
  else if index = 0x3830 then (if sub = 6 then 0x0C01 else 0x0C02)
  else 0x0B05
def rangeCode (index sub : Nat) : Nat :=
  if index < 0x3000 then rangeCodeLow index sub
  else if index < 0x4000 then rangeCodeMid index sub
  else if index < 0x4400 then 0x0F02
  else if index < 0x4800 then 0x1002
  else 0x1102

/-- A value lies in the range its row gives. -/
def Rng.has (g : Rng) (v : Int) : Bool :=
  match g with
  | .any => true
  | .btw lo hi => decide (lo ≤ v ∧ v ≤ hi)
  | .oneOf l => l.contains v
  | .step lo hi d => decide (lo ≤ v ∧ v ≤ hi) && decide (v % d = 0)
  | .zeroOr lo hi => decide (v = 0) || decide (lo ≤ v ∧ v ≤ hi)
  | .orOff lo hi off => decide (v = off) || decide (lo ≤ v ∧ v ≤ hi)
  | .input top => decide (v.toNat % 64 ≤ top) && !bitOf v.toNat 6
  | .len _ _ => true
  | .recipe => true

/-- The range check: more than 32 mapping entries have a code of their own (R275). -/
def rangeAbort (r : Row) (index sub : Nat) (v : Val) : Option Abort :=
  match v with
  | .num n => need (r.rng.has n)
      (if (index = 0x1600 ∨ index = 0x1A00) ∧ sub = 0 then (0x06040042, 0x0D09) else (abRange, rangeCode index sub))
  | .dom _ => none

/-! ## Contents of tables -/

/-- Entries of a table of k-byte integers, as numbers. -/
def entriesOf (k n : Nat) (b : Bytes) : List Nat := leWords n k b

/-- The pulse table of R102. -/
def pulseGood (b : Bytes) : Bool :=
  let l := entriesOf 2 16 b
  l.headD 1 == 0 && (l.all (fun x => decide (x ≤ 256)) && (l.zip (l.drop 1)).all (fun x => decide (x.1 ≤ x.2)))

/-- Every INTEGER16 of a table lies within ± a bound. -/
def boundedTable (n : Nat) (bound : Int) (b : Bytes) : Bool :=
  (entriesOf 2 n b).all (fun x => decide (-bound ≤ signed 16 x ∧ signed 16 x ≤ bound))

/-- The entries of a profile table (R315). -/
def profileGood (polygon : Bool) (b : Bytes) : Bool :=
  (upFrom 0 16).all (fun e =>
    let t := signed 32 (leAt (16 * e) 4 b)
    let inRange := if polygon then decide (0 ≤ t ∧ t ≤ 30000) else decide (-20000 ≤ t ∧ t ≤ 20000)
    inRange && (leAt (16 * e + 12) 4 b == 0 && (leAt (16 * e + 4) 4 b == 0 || leAt (16 * e + 8) 4 b != 0)))

/-- The entries of a move table (R326). -/
def moveTableGood (b : Bytes) : Bool :=
  (upFrom 0 64).all (fun e =>
    let w0 := leAt (16 * e) 8 b
    let w1 := leAt (16 * e + 8) 8 b
    let v := field w1 63 48
    field w0 31 2 == 0 && (field w1 15 0 == 0 && (v == 0 || (decide (v ≤ 6000) && (field w1 47 32 != 0 && field w1 31 16 != 0)))))

/-- A capture word (R33). -/
def captureGood (w : Nat) : Bool :=
  field w 28 24 == 0 && (field w 19 16 == 0 && (field w 7 6 == 0 && (decide (field w 23 20 ≤ 7) && decide (field w 5 0 ≤ 55))))

/-! ## Lid holds and gates -/

/-- A Lid reaction of a class or above is in force. -/
def State.classAtLeast (s : State) (c : Nat) : Bool := decide (c ≤ s.n (K 0x2200 2))

/-- The gate of R474 rejects a write of TRUE to an enable. -/
def State.gateAbort (s : State) (code : Nat) : Option Abort := need (!s.flag (K 0x2420 5)) (abState, code)

/-- Some page COMMITTED to FUSED runs a recipe that names an HV channel (R361). -/
def State.hvNeeded (s : State) (h : Nat) : Bool :=
  !(s.pagesWith (fun p => p.running && (recipeSteps (s.pageRecipe p)).any (fun x =>
    (x.action == 0x20 || (x.action == 0x21 || x.action == 0x22)) && x.target == h))).isEmpty

/-- Some page is COMMITTED to FUSED. -/
def State.anyRunning (s : State) : Bool := !(s.pagesWith Page.running).isEmpty

/-! ## The checks of one subindex beside its row -/

/-- Bands are still to be decoded (R19). -/
def State.decoding (s : State) : Bool :=
  (upFrom 1 6).any (fun n => !(s.queue n).isEmpty) || (decodeCodes.any (fun c => (s.lane c).page != 0) || !s.press.retries.isEmpty)

/-- A committed page needs a domain (R19). -/
def State.domainNeeded (s : State) (d : Nat) : Bool :=
  match d with
  | 3 => s.anyRunning
  | 5 => s.anyRunning && s.decoding
  | 9 => (s.pagesWith (fun p => p.running && (s.names p 1 || s.names p 2))).length != 0
  | 10 => (s.pagesWith (fun p => p.running && (s.names p 3 || s.names p 4))).length != 0
  | 11 => (s.pagesWith (fun p => p.running && (s.names p 5 || s.names p 6))).length != 0
  | 12 => s.anyRunning
  | 13 => s.anyRunning
  | 14 => s.anyRunning
  | 15 => s.anyRunning
  | 16 => s.anyRunning
  | _ => false

/-- Why a write of `Domain request` is rejected (R19, R20, R383). -/
def State.domainAbort (s : State) (path : Path) (m : Nat) : Option Abort :=
  let old := s.n (K 0x2040 1)
  let off := (upFrom 1 16).filter (fun d => bitOf old (d - 1) && !bitOf m (d - 1))
  let on := (upFrom 1 16).filter (fun d => !bitOf old (d - 1) && bitOf m (d - 1))
  if on.contains 11 && !s.s6 then some (abRange, 0x0144)
  else if off.any (s.domainNeeded) then some (abState, 0x0141)
  else if off.contains 3 || off.contains s.activeUnit then some (abState, 0x0142)
  else if off.contains (if viaEthercat path then 8 else 7) then some (abState, 0x0143)
  else if !on.isEmpty && s.power.supply == 1 then some (abState, 0x0145)
  else if s.classAtLeast 4 && old != m then some (abState, 0x0146)
  else none

/-- A function class and an instance that R484 lists. -/
def reinitDefined (cls n : Nat) : Bool :=
  match cls with
  | 1 => n == 1 || n == 2
  | 2 => laneCode n
  | 3 => decide (1 ≤ n ∧ n ≤ 6)
  | 4 => decide (1 ≤ n ∧ n ≤ 3)
  | 5 => decide (1 ≤ n ∧ n ≤ 8)
  | 6 => n == 0
  | 7 => n == 0
  | 8 => n == 0
  | 9 => decide (n ≤ 10)
  | 0xA => decide (1 ≤ n ∧ n ≤ 12)
  | 0xB => decide (n ≤ 63)
  | 0xC => decide (1 ≤ n ∧ n ≤ 20)
  | 0xD => decide (1 ≤ n ∧ n ≤ 3)
  | _ => false

/-- The variant lacks the function (R2). -/
def State.reinitAbsent (s : State) (cls n : Nat) : Bool :=
  match cls with
  | 2 => s.laneAbsent n
  | 3 => !s.stationThere n
  | 4 => !s.s6 && n == 3
  | 9 => !s.driveThere n
  | 0xC => !s.hvThere n
  | _ => false

/-- The domain of a function. -/
def reinitDomain (cls n : Nat) : Nat :=
  match cls with
  | 1 => n
  | 2 => laneDomain n
  | 3 => stationDomain n
  | 4 => 12
  | 5 => 16
  | 6 => 16
  | 7 => 7
  | 8 => 6
  | 9 => driveDomain n
  | 0xA => 14
  | _ => 15

/-- A page from COMMITTED to FUSED has its gate open (R165, R484). -/
def State.anyGateOpen (s : State) : Bool := !(s.pagesWith (fun p => p.running && p.gate == 2)).isEmpty

/-- Why a function in its present state is not re-initialised (R484). -/
def State.reinitState (s : State) (cls n : Nat) : Option Abort :=
  match cls with
  | 1 => need (s.unitReinitable n) (abState, 0x0405)
  | 2 => need (s.laneState n == 3) (abState, 0x0104)
  | 3 => need (!s.stationGuarded n) (abState, 0x0802)
  | 4 => need (s.lockState n == 4 || !(servedBy n).any s.stationGuarded) (abState, 0x0104)
  | 5 => need (n != 1 || !s.anyGateOpen) (abState, 0x0105)
  | 6 => need (!s.anyGateOpen) (abState, 0x090C)
  | 8 => need s.crockReinitable (abState, 0x0104)
  | 9 => need (!([1, 2, 3, 4].contains (s.driveState n))) (abState, 0x0F06)
  | 0xA => need (s.axisReinitable n) (abState, 0x100D)
  | 0xB => need (s.n (lk n 2) == 0) (abState, 0x0104)
  | 0xC => need (s.hvState n == 0 || s.hvState n == 3) (abState, 0x0104)
  | 0xD => need (s.zoneState n == 0 || s.zoneState n == 4) (abState, 0x0104)
  | _ => none

/-- Why a write of `Reinitialise function` is rejected (R484, R493). -/
def State.reinitAbort (s : State) (code : Nat) : Option Abort :=
  let cls := code / 256
  let n := code % 256
  if reinitDefined cls n = false then some (abRange, 0x0101)
  else if s.reinitAbsent cls n then some (abRange, if cls = 2 then 0x0A02 else 0x0102)
  else if s.on (reinitDomain cls n) = false then some (abState, 0x0103)
  else s.reinitState cls n

/-- Module, power and fault objects (R383, R397, R412, R415, R445, R493). -/
def State.contentLow (s : State) (path : Path) (index sub : Nat) (v : Val) : Option Abort :=
  match index, sub with
  | 0x1010, _ => firstOf (need (v.nat == 0x65766173) (0x08000020, 0x0D0B)) (need (s.on 6 && s.power.quiesce == 0) (0x08000020, 0x0D11))
  | 0x1011, _ => firstOf (need (v.nat == 0x64616F6C) (0x08000020, 0x0D0B)) (need (s.on 6 && s.power.quiesce == 0) (0x08000020, 0x0D11))
  | 0x1C32, _ => need (s.n (K 0x2060 1) == 2) (abState, 0x0D0A)
  | 0x1C33, _ => need (s.n (K 0x2060 1) == 2) (abState, 0x0D0A)
  | 0x2010, _ => s.reinitAbort v.nat
  | 0x2040, _ => s.domainAbort path v.nat
  | 0x2200, 9 => need (s.n (K 0x2200 1) == 2 && !s.lid.standing.any (fun x => x.2.2)) (abState, 0x0304)
  | 0x2210, _ => need (mapGood v.bytes) (abRange, 0x0302)
  | 0x2220, 1 => need (s.injectionTarget v.nat) (abRange, 0x0306)
  | 0x2220, 4 => need (s.pagesInFlight == 0 && s.lid.target == 0) (abState, 0x0305)
  | 0x2300, 0xB => firstOf (need (s.eligibleUnit s.standby) (abState, 0x0402))
      (need (s.twin.planned == 0 && s.role s.standby != 7) (abState, 0x0403))
  | 0x2300, 0xC => firstOf (need (s.twin.planned == 0 && s.role s.standby != 7) (abState, 0x0403))
      (firstOf (need (s.role s.standby == 3 || s.role s.standby == 4) (abState, 0x0406))
        (need (s.n (slotObject (slotPartition s.standby v.nat)) != 0 && s.reloadable v.nat) (0x08000020, 0x0404)))
  | 0x2420, 4 => need (v.nat == s.n (K 0x2420 3)) (abRange, 0x0512)
  | _, _ => if 0x2110 ≤ index ∧ index ≤ 0x2133 ∧ sub = 0xA then need (v.nat != index - 0x210F) (abRange, 0x0206) else none

/-- Position and scan timing objects (R33, R34, R44 to R46, R60, R77, R83, R474). -/
def State.contentMid (s : State) (index sub : Nat) (w : New) (v : Val) : Option Abort :=
  let m := v.nat
  if index = 0x3010 ∧ sub = 1 then need (m == 1) (abRange, 0x0601)
  else if index = 0x3030 then
    let old := s.n (K index sub)
    firstOf (need (captureGood m) (abRange, 0x0607))
      (firstOf (need (!bitOf old 31 || !bitOf m 31) (abState, 0x0606)) (need (bitOf m 31 || !s.capturePending (sub - 1)) (abState, 0x0606)))
  else if index = 0x3050 then
    let old := s.n (K 0x3050 sub)
    match sub with
    | 1 => firstOf (if m = 0 then none else s.gateAbort 0x06F0)
        (need (maskOff m old &&& s.n (K 0x3050 5) == 0) (abState, 0x060D))
    | 2 => need ((old ^^^ m) &&& s.n (K 0x3050 1) == 0) (abState, 0x060B)
    | 3 => need (m &&& s.newNat index w 2 == 0) (abState, 0x060A)
    | _ => none
  else if 0x3101 ≤ index ∧ index ≤ 0x3103 then
    let p := index - 0x3100
    if sub = 1 then need (m == 0 || (servedBy p).any (fun n => s.on (stationDomain n))) (abState, 0x0704)
    else if sub = 0xE then
      need ((s.pagesWith (fun x => x.running && (servedBy p).any (fun n => s.names x n))).isEmpty) (abState, 0x0708)
    else none
  else none

/-- Station objects (R86, R96, R102, R104, R124, R139, R474). -/
def State.contentStation (s : State) (index sub : Nat) (v : Val) : Option Abort :=
  let n := stationOfIndex index
  match index / 256, index % 16, sub with
  | 0x33, 0, 3 =>
    if v.nat = 0 then none else firstOf (s.gateAbort 0x08F0) (need (!s.lidHolds n) (abState, 0x080E))
  | 0x33, 1, 4 => need (pulseGood v.bytes) (abRange, 0x0806)
  | 0x33, 3, 1 => need (boundedTable 512 16384 v.bytes) (abRange, 0x0803)
  | 0x33, 3, 2 => need (boundedTable 512 16384 v.bytes) (abRange, 0x0803)
  | 0x33, 4, 3 => need (!adjacentPair (s.n (sk n 4 2) ||| v.nat)) (abRange, 0x0809)
  | 0x33, 4, 4 => need (!s.stationGuarded n) (abState, 0x080D)
  | 0x34, 0, _ => need (boundedTable 32 512 v.bytes) (abRange, 0x0803)
  | 0x34, 1, _ => need ((entriesOf 2 32 v.bytes).all (fun x => decide (x ≤ 4095))) (abRange, 0x080C)
  | _, _, _ => none

/-- Pages, Press, Crock, fabric and locks (R144, R145, R178, R212, R221, R226, R245, R466). -/
def State.contentStores (s : State) (path : Path) (index sub : Nat) (v : Val) : Option Abort :=
  let m := v.nat
  if 0x3510 ≤ index ∧ index ≤ 0x352F then
    match s.recipeFault v.bytes with
    | some d => some (if d = 0x0901 then abLength else if d = 0x0904 then abState else if d = 0x0906 then abRelation else abRange, d)
    | none => need (s.recipeUsers (index - 0x3510) == 0) (abState, 0x0905)
  else match index, sub with
  | 0x3600, 5 => firstOf (need (laneCode m) (abRange, 0x0A01)) (need (!s.laneAbsent m) (abRange, 0x0A02))
  | 0x3600, 0xB =>
    firstOf (need (laneCode m) (abRange, 0x0A01)) (firstOf (need (!s.laneAbsent m) (abRange, 0x0A02))
      (firstOf (need (s.laneState m == 2) (abState, 0x0A05))
        (need (decide (0x40 < m) || (!s.stationGuarded (laneStation m) || decide (3 ≤ s.lanesInService (laneStation m))))
          (abState, 0x0A03))))
  | 0x3700, 3 => need (m == 0 || (s.crockState != 3 && s.crockState != 5)) (abState, 0x0E05)
  | 0x3700, 4 => need (m == 0 || (s.crockState != 3 && s.crockState != 5)) (abState, 0x0E05)
  | 0x3701, 6 => need (s.n (slotObject (slotPartition 1 m)) == 2) (abState, 0x0E02)
  | 0x3701, 7 => need (s.n (slotObject (slotPartition 2 m)) == 2) (abState, 0x0E02)
  | 0x3820, 1 =>
    let owner := if viaEthercat path then 4 else 3
    need ((s.lock m).owner == 0 || (s.lock m).owner == owner) (abState, 0x0B07)
  | 0x3820, 2 => need ((s.lock m).owner == (if viaEthercat path then 4 else 3)) (abState, 0x0B08)
  | _, _ =>
    if index = 0x3810 ∧ 1 ≤ sub ∧ sub ≤ 0x10 then need (s.ladleJob sub).isNone (abState, 0x0B03) else none

/-- A pin would be read in two modes (R304). -/
def State.pinConflict (s : State) (c source pin : Nat) : Bool :=
  decide (2 ≤ source) && (upFrom 0 11).any (fun d => d != c && (s.driveThere d && (decide (2 ≤ s.n (dk d 0 2)) &&
    (s.n (dk d 0 2) != source && s.n (dk d 0 5) == pin))))

/-- A speed of a polygon channel is not negative, and lies within the channel's range (R313, R319). -/
def speedAbort (polygon : Bool) (n : Int) : Option Abort :=
  if polygon then firstOf (need (decide (0 ≤ n)) (abRange, 0x0F03)) (need (decide (n ≤ 30000)) (abRange, 0x0F02))
  else need (decide (-20000 ≤ n ∧ n ≤ 20000)) (abRange, 0x0F02)

/-- A drive's own values (R298, R311, R313 to R316, R319, R474). -/
def State.contentDrive (s : State) (index sub : Nat) (w : New) (v : Val) : Option Abort :=
  let c := driveOf index
  let polygon := decide (c < 3)
  let n := v.int
  if index = 0x410F then
    (if sub = 9 then need (s.n (K 0x2200 1) == 0 && decide (s.n (K 0x2100 0xC) < 56000)) (abState, 0x0F0B) else none)
  else match index % 16, sub with
  | 0, 1 => if n = 0 then none else firstOf (s.gateAbort 0x0FF0) (need (!s.classAtLeast 3) (abState, 0x0F05))
  | 0, 2 => need (!s.pinConflict c n.toNat (s.newNat index w 5)) (abState, 0x0F07)
  | 0, 3 => speedAbort polygon n
  | 0, 5 => need (!s.pinConflict c (s.newNat index w 2) n.toNat) (abState, 0x0F07)
  | 0, 6 => speedAbort polygon n
  | 1, 1 => need (!polygon || decide (n ≤ 5)) (abRange, 0x0F02)
  | 1, 2 => need (if polygon then decide (20000 ≤ n) else decide (n ≤ 50000)) (abRange, 0x0F02)
  | 1, 0xA => need (!polygon || decide (n ≤ 3000)) (abRange, 0x0F02)
  | 1, 0xB => need (!polygon || decide (200 ≤ n ∧ n ≤ 4000)) (abRange, 0x0F02)
  | 3, 1 => need (profileGood polygon v.bytes) (abRange, 0x0F04)
  | _, _ => none

/-- An axis's own values (R326, R328, R336, R340, R345, R474). -/
def State.contentAxis (s : State) (index sub : Nat) (w : New) (v : Val) : Option Abort :=
  let n := axisOf index
  let refuse (r : Option Nat) : Option Abort := r.map (fun c => (if c = 0xA then abRange else abState, 0x1000 + c))
  match index % 16, sub with
  | 0, 1 =>
    if v.nat = 0 then none
    else firstOf (s.gateAbort 0x10F0) (need (!s.classAtLeast 3 && !s.busLow) (abState, 0x1005))
  | 0, 6 => if w.length = 1 ∨ v.int ≠ s.i (axk n 0 6) then refuse (s.moveRefusal n 0xFF v.int) else none
  | 0, 7 => refuse (s.moveRefusal n v.nat 0)
  | 0, 9 => need (s.axisState n != 3 && s.axisState n != 4) (abState, 0x100B)
  | 0, 0xA =>
    if s.flag (axk n 0 1) = false ∨ s.axisState n = 4 ∨ s.axisState n = 5 ∨ s.axisState n = 6 then some (abState, 0x1006)
    else need ((s.axisState n == 1 || s.axisState n == 2) && s.n (axk n 3 1) % 64 != 0) (abState, 0x100F)
  | 4, 1 => need (moveTableGood v.bytes) (abRange, 0x100A)
  | _, _ => none

/-- The set-point range, and the output range, that R349 gives a target. -/
def targetRange (target : Nat) : (Real32 × Real32) × (Real32 × Real32) :=
  let r (a b : Int) := (Real32.ofInt a, Real32.ofInt b)
  if target = 0 then (r (-1000000) 1000000, r (-1000000) 1000000)
  else if target < 0x103 then (r 0 30000, r 0 4095)
  else if target < 0x200 then (r (-20000) 20000, r 0 4095)
  else if target < 0x300 then (r 0 4095, r 0 4095)
  else (r 0 250, r 0 4096)

/-- x lies between lo and hi. -/
def Real32.within (x lo hi : Real32) : Bool := !x.lt lo && !hi.lt x

/-- A REAL32 value a subindex will hold. -/
def State.newReal (s : State) (index : Nat) (w : New) (sub : Nat) : Real32 := Real32.ofBits (s.newNat index w sub)

/-- The trigger parameter of a source (R346). -/
def State.triggerAbort (s : State) (source parameter : Nat) : Option Abort :=
  match source with
  | 0 => need (decide (2500 ≤ parameter ∧ parameter ≤ 1000000000)) (abRange, 0x1102)
  | 1 => need (decide (256 ≤ parameter % 2 ^ 29)) (abRange, 0x1102)
  | 2 => firstOf (need (decide (1 ≤ parameter ∧ parameter ≤ 3)) (abRange, 0x1102))
      (need (s.s6 || parameter != 3) (abRange, 0x110D))
  | _ => need (parameter == 0) (abRange, 0x1102)

/-- A slot's own values (R346, R349 to R357, R373). -/
def State.contentSlot (s : State) (index sub : Nat) (w : New) (v : Val) : Option Abort :=
  let i := index - 0x4800
  let target := s.target i
  let new := s.newNat index w 3
  let x := Real32.ofBits v.nat
  let range := targetRange new
  match sub with
  | 1 => need (target == 0) (abState, 0x1104)
  | 3 =>
    let t := v.nat
    if 0x100 ≤ t ∧ t ≤ 0x10A ∧ s.driveThere (t - 0x100) = false then some (abRange, 0x110D)
    else if 0x100 ≤ t ∧ t ≤ 0x10A ∨ (s.slotDrive i).isSome = true then some (abState, 0x1104)
    else if t = 0 then none
    else if 0x201 ≤ t ∧ t ≤ 0x214 ∨ 0x301 ≤ t ∧ t ≤ 0x303 then
      firstOf (need (decide (0x300 ≤ t) || s.hvThere (t - 0x200)) (abRange, 0x110D))
        (need ((upFrom 0 64).all (fun j => j == i || s.target j != t)) (abState, 0x1105))
    else some (abRange, 0x1102)
  | 4 =>
    if target ≠ 0 then some (abState, 0x1104)
    else need (v.nat == 0 || (decide (0x401 ≤ v.nat ∧ v.nat ≤ 0x424) || decide (0x501 ≤ v.nat ∧ v.nat ≤ 0x508))) (abRange, 0x1102)
  | 7 => need (target == 0) (abState, 0x1104)
  | 8 =>
    if 0x100 ≤ target ∧ target < 0x300 then some (abState, 0x1104)
    else firstOf (need (x.within (s.newReal index w 0xF) (s.newReal index w 0x10)) (abRange, 0x1102))
      (need (!(s.newNat index w 0x13 == 1 && needsReversal (s.real (lk i 9)) (Real32.ofBits (s.loop i).rate) x (s.real (lk i 0x12))))
        (abState, 0x1107))
  | 0xC => need (x.within (s.newReal index w 0xD) (s.newReal index w 0xE)) (abRange, 0x1102)
  | 0xD => need (x.within range.2.1 range.2.2) (abRange, 0x1102)
  | 0xE => need (x.within range.2.1 range.2.2) (abRange, 0x1102)
  | 0xF => need (x.within range.1.1 range.1.2) (abRange, 0x1102)
  | 0x10 => need (x.within range.1.1 range.1.2) (abRange, 0x1102)
  | 0x11 => need ((Real32.ofInt 0).lt x) (abRange, 0x1102)
  | 0x12 => need ((Real32.ofInt 0).lt x) (abRange, 0x1102)
  | 0x16 => need (!x.lt (Real32.ofInt 0)) (abRange, 0x1102)
  | 0x1A => need (x.within (Real32.ofRatio 1 1000000) (Real32.ofInt 10)) (abRange, 0x1102)
  | _ => none

/-- HV channels and Kettle zones (R360, R361, R365, R373, R474). -/
def State.contentKettle (s : State) (index sub : Nat) (v : Val) : Option Abort :=
  if 0x4C01 ≤ index ∧ index ≤ 0x4C03 ∧ sub = 1 then
    if v.nat = 0 then need (!s.anyRunning) (abState, 0x1108)
    else firstOf (s.gateAbort 0x11F0) (need (!s.classAtLeast 3) (abState, 0x1109))
  else if 0x4D01 ≤ index ∧ sub = 1 then
    if v.nat = 0 then need (!s.hvNeeded (index - 0x4D00)) (abState, 0x1108)
    else firstOf (s.gateAbort 0x11F0) (need (!s.classAtLeast 2) (abState, 0x1109))
  else if 0x4D01 ≤ index ∧ sub = 5 then need (!s.hvNeeded (index - 0x4D00)) (abState, 0x1108)
  else none

/-- The checks of one subindex beside its row. -/
def State.contentAbort (s : State) (path : Path) (index sub : Nat) (w : New) (v : Val) : Option Abort :=
  if index < 0x3000 then s.contentLow path index sub v
  else if index < 0x3300 then s.contentMid index sub w v
  else if index < 0x3500 then s.contentStation index sub v
  else if index < 0x4000 then s.contentStores path index sub v
  else if index < 0x4400 then s.contentDrive index sub w v
  else if index < 0x4800 then s.contentAxis index sub w v
  else if index < 0x4C00 then s.contentSlot index sub w v
  else s.contentKettle index sub v

/-! ## Rules between subindexes -/

/-- A rule between subindexes of one index: those it relates, ascending, and the abort of a write that would break it. -/
structure Relation where
  subs : List Nat
  broken : Option Abort
  deriving DecidableEq, Repr

/-- Warning, throttle and shutdown thresholds in their order; 32,767 is off, and so is every one above an off one (R389). -/
def thresholdsGood (w t sd : Int) (off : Int) : Bool :=
  (decide (w < t) || decide (t = off)) && ((decide (t < sd) || decide (sd = off)) && (decide (w ≠ off) || decide (t = off))) &&
    (decide (t ≠ off) || decide (sd = off))

/-- The region bounds in use rise strictly (R354). -/
def regionsRise (count : Nat) (b : Bytes) : Bool :=
  (upFrom 0 (count - 2)).all (fun i => (Real32.ofBits (leAt (20 * i) 4 b)).lt (Real32.ofBits (leAt (20 * (i + 1)) 4 b)))

/-- The mapping of a PDO: an entry is padding, or names an object of the variant that can be mapped that way, at its size (R2, R282). -/
def State.mapEntryAbort (s : State) (rx : Bool) (e : Nat) : Option Abort :=
  if e = 8 ∨ e = 0x10 ∨ e = 0x20 ∨ e = 0x40 then none
  else
    match s.objectAbsent (field e 31 16), rowOf (field e 31 16) (field e 15 8) with
    | some d, _ => some (abRange, d)
    | none, some r =>
      let acc := r.accOf (field e 31 16) (field e 15 8)
      let selector := [(0x3040, 6), (0x3500, 0x12), (0x3600, 5), (0x3800, 7), (0x3820, 3), (0x3830, 0xD)].contains
        (field e 31 16, field e 15 8)
      need (r.ty.size != 0 && (e % 256 == 8 * r.ty.size && (if rx then acc == .rw && !selector else acc == .ro || acc == .rw)))
        (0x06040041, 0x0D08)
    | none, none => some (0x06040041, 0x0D08)

/-- The bytes a list of mapping entries takes. -/
def mappedBytes (l : List Nat) : Nat := total (l.map (fun e => e % 256)) / 8

/-- The entries of a mapping object under the new values, and what is wrong with it (R275, R282). -/
def State.mappingAbort (s : State) (index : Nat) (w : New) : Option Abort :=
  let count := s.newNat index w 0
  let entries := (upFrom 1 count).map (s.newNat index w)
  if 32 < count ∨ 256 < mappedBytes entries then some (0x06040042, 0x0D09)
  else entries.findSome? (s.mapEntryAbort (index == 0x1600))

/-- The rules between the subindexes of an index, under the new values. -/
def State.relations (s : State) (index : Nat) (w : New) : List Relation :=
  let i := s.newInt index w
  if index = 0x2100 then
    [⟨[9], need (decide (s.i (K 0x410F 1) < i 9)) (abRelation, 0x0205)⟩,
     ⟨[8, 9, 0xA], need (decide (i 8 + i 0xA < i 9 - i 0xA)) (abRelation, 0x0205)⟩]
  else if 0x2110 ≤ index ∧ index ≤ 0x2133 then
    [⟨[6, 7, 8], need (thresholdsGood (i 6) (i 7) (i 8) 32767) (abRelation, 0x0202)⟩]
  else if 0x3101 ≤ index ∧ index ≤ 0x3103 then [⟨[3, 4], need (decide (i 3 < i 4)) (abRelation, 0x0703)⟩]
  else if 0x3310 ≤ index ∧ index ≤ 0x336F ∧ index % 16 = 1 then
    [⟨[1, 2], need (decide (i 1 + i 2 + 64 ≤ s.n (sc (stationOfIndex index) 1) / 65536)) (abRelation, 0x0804)⟩]
  else if 0x3310 ≤ index ∧ index ≤ 0x336F ∧ index % 16 = 7 then
    [⟨[3, 4, 5], need (decide (i 3 < i 4 ∧ i 4 < i 5)) (abRelation, 0x080A)⟩]
  else if index = 0x410F then [⟨[1, 2], need (decide (28000 ≤ i 1 - i 2)) (abRelation, 0x0F0C)⟩]
  else if 0x4100 ≤ index ∧ index ≤ 0x41AF ∧ index % 16 = 1 then
    let c := driveOf index
    let full := s.i (dk c 2 1)
    [⟨[0xA], need (decide (c < 3) || decide (i 0xA ≤ full)) (abRelation, 0x0F08)⟩,
     ⟨[0xB], need (decide (c < 3) || decide (i 0xB ≤ full)) (abRange, 0x0F02)⟩,
     ⟨[0xA, 0xB], need (decide (i 0xA < i 0xB)) (abRelation, 0x0F08)⟩]
  else if 0x4130 ≤ index ∧ index ≤ 0x41AF ∧ index % 16 = 2 then
    let c := driveOf index
    [⟨[1], need (decide (s.i (dk c 1 0xA) ≤ i 1)) (abRelation, 0x0F08)⟩, ⟨[1], need (decide (s.i (dk c 1 0xB) ≤ i 1)) (abRange, 0x0F02)⟩]
  else if 0x4400 ≤ index ∧ index ≤ 0x44BF ∧ index % 16 = 1 then [⟨[5, 6], need (decide (i 6 < i 5)) (abRelation, 0x1003)⟩]
  else if 0x4800 ≤ index ∧ index ≤ 0x483F then
    let r := s.newReal index w
    [⟨[3, 5], need (decide (s.newNat index w 3 < 0x300) || s.newNat index w 5 == 3) (abRange, 0x1106)⟩,
     ⟨[5, 6], s.triggerAbort (s.newNat index w 5) (s.newNat index w 6)⟩,
     ⟨[0xD, 0xE], need ((r 0xD).lt (r 0xE)) (abRelation, 0x1103)⟩, ⟨[0xF, 0x10], need ((r 0xF).lt (r 0x10)) (abRelation, 0x1103)⟩,
     ⟨[0x17, 0x18], need (regionsRise (s.newNat index w 0x17) (s.newBytes index w 0x18)) (abRelation, 0x1103)⟩]
  else if 0x4C01 ≤ index ∧ index ≤ 0x4C03 then [⟨[7, 8], need (decide (i 7 ≠ i 8)) (abRange, 0x110C)⟩]
  else []

/-! ## One subindex -/

/-- The checks of one subindex of a write, in their order: length and type, guard, range, contents (R276). -/
def State.subAbort (s : State) (path : Path) (r : Row) (index sub : Nat) (w : New) (b : Bytes) : Option Abort :=
  let v := r.ty.decode b
  firstOf (typeAbort r index b) (firstOf (s.guardAbort (r.accOf index sub) index sub)
    (firstOf (if index = 0x1010 ∨ index = 0x1011 then none else rangeAbort r index sub v) (s.contentAbort path index sub w v)))

/-- A mapping object is written only in PREOP; an entry only while the count is 0 (R275, R282). -/
def State.mapWriteAbort (s : State) (index sub : Nat) (w : New) : Option Abort :=
  if index = 0x1600 ∨ index = 0x1A00 then
    firstOf (need (s.n (K 0x2060 1) == 2) (abState, 0x0D0A))
      (if sub = 0 then s.mappingAbort index w else need (s.n (K index 0) == 0) (abState, 0x0D0A))
  else none

/-- The RxPDO maps an object (R273, R282). -/
def State.rxMapped (s : State) (index sub : Nat) : Bool :=
  (upFrom 1 (s.n (K 0x1600 0))).any (fun k => s.n (K 0x1600 k) / 256 == index * 256 + sub)

/-- What rejects a write of one subindex (R273 to R276). -/
def State.writeAbort (s : State) (path : Path) (pdo : Bool) (index sub : Nat) (b : Bytes) : Option Abort :=
  match s.indexAbort index with
  | some a => some a
  | none =>
    match rowOf index sub with
    | none => some (0x06090011, 0x0D02)
    | some r =>
      let v := r.ty.decode b
      if r.accOf index sub = .ro then
        some (abReadOnly, if index = 0x3801 ∧ 1 ≤ sub then 0x0B02 else if 0x2128 ≤ index ∧ index ≤ 0x2133 ∧ r.acc ≠ .ro then 0x0203
          else 0x0D03)
      else if viaEthercat path && (!pdo && (s.n (K 0x2060 1) == 8 && s.rxMapped index sub)) then some (0x08000021, 0x0D0C)
      else
        let w := [(sub, v)]
        firstOf (s.subAbort path r index sub w b) (firstOf (s.mapWriteAbort index sub w)
          ((s.relations index w).findSome? (fun x => if x.subs.contains sub then x.broken else none)))

end Sys2Proof.Machine
end

