-- ==== Sys2Proof/Machine/Effects.lean ====
section
/-! DEFINITION. What an accepted dictionary write does: the effect of a value that an object has taken, of a command, and of a function
re-initialisation (R27, R30, R46, R67, R71, R77, R86, R124, R212, R226, R306, R310, R331, R351, R361, R383, R412, R415, R472, R484). -/

namespace Sys2Proof.Machine

/-! ## Function re-initialisation -/

/-- A station's drivers start again; its laser is off (R484). -/
def State.stationReinit (s : State) (n : Nat) (answers : List Frame) : State :=
  ((s.setb (sk n 0 3) false).laserLow n).startStation n answers

/-- A polygon's lock goes to IDLE and its stations out of use (R484). -/
def State.polygonReinit (s : State) (p : Nat) : State :=
  ((servedBy p).foldl State.refreshSync (s.polygonIdle p)).refreshPolygon p

/-- Every slot is freed; a page that still holds a closed gate is recorded with cause 16 (R165). -/
def State.positionReinit (s : State) : State :=
  let closed := s.pagesWith (fun p => p.running && p.gate != 2)
  let s1 := s.freeSlots (fun _ => true) 1
  s1.each closed (fun t i =>
    let t1 := (upFrom 1 6).foldl (fun u n => (if (u.station n).image.page = i + 1 then u.truncate n 3 else u).dropDecodes i n)
      (t.spoilPage i 16 0)
    t1.endPage i)

/-- A disabled loop slot's memory is cleared (R484). -/
def State.slotReinit (s : State) (slot : Nat) : State :=
  let x := s.loop slot
  let s1 := s.setLoopSlot slot { x with integral := 0, derivative := 0, notch1 := {}, notch2 := {}, sinceOverrun := 0, sinceClamp := 0 }
  ((s1.setn (lk slot 0x1C) 0).setn (lk slot 0x1D) 0).setn (lk slot 0x1E) 0

/-- The effect of one class on one instance (R484). An encoder that is enabled starts again as at its enable, so `Edge count` is 0: the
manual does not say what a re-initialisation does to it, and that is the model's choice (log entry 171). -/
def State.reinitFunction (s : State) (cls n : Nat) (answers : List Frame) : State :=
  let q := s.fabric.lockQueue
  match cls with
  | 1 => (s.unitReinit n).startGranted q
  | 2 => s.laneTests n
  | 3 => s.stationReinit n answers
  | 4 => s.polygonReinit n
  | 5 => if s.flag (K (0x3000 + n) 1) then s.encoderEnable n false true else s
  | 6 => s.positionReinit
  | 7 => s.ladleReinit.startGranted q
  | 8 => s.crockReinit
  | 9 => s.driveReinit n
  | 0xA => s.axisReinit n
  | 0xB => s.slotReinit n
  | 0xC => s.hvTo n 0 1
  | 0xD => s.zoneTo n 0 2
  | _ => s

/-- An accepted `Reinitialise function` (R484, R491, R492). -/
def State.reinitialise (s : State) (code : Nat) (answers : List Frame) : State :=
  let s1 := s.reinitFunction (code / 256) (code % 256) answers
  ((s1.bump (K 0x2010 2)).setn (K 0x2010 3) code).event 34 (7 + code * 65536 + s.n (K 0x2011 7) * 2 ^ 32)

/-! ## Commands -/

/-- The code a path owns locks under (R225, R226). -/
def pathOwner (p : Path) : Nat := if viaEthercat p then 4 else 3

/-- Beams that were out of use return to GOOD, each at its last code, or at `Acquisition current` where that is 0; they have no learned
width yet, and take part from the next facet (R119, R120, R124). -/
def State.beamsReturn (s : State) (n : Nat) (beams : List Nat) : State :=
  let s1 := s.each beams (fun t b => if t.beamCurrent n b = 0 then t.setBeamCurrent n b (t.n (sk n 5 3)) else t)
  let g := s1.station n
  let now := if s.syncState n = 1 ∨ s.syncState n = 2 then maskOf beams else 0
  s1.setStation n { g with widths := beams.foldl (fun w b => Tab.put (fun _ => []) w b []) g.widths, returning := g.returning ||| now }
def State.restoreBeams (s : State) (n mask : Nat) : State :=
  let dead := s.n (sk n 4 2)
  let back := bitsSet 32 (dead &&& mask)
  (((s.setn (sk n 4 2) (maskOff dead mask)).beamsReturn n back).each back (fun t b => t.beamEvent n 5 b 0))

/-- `Retired beams` has been written: a DEAD beam stays DEAD (R120, R124). -/
def State.retireBeams (s : State) (n old : Nat) : State :=
  let new := maskOff (s.n (sk n 4 3)) (s.n (sk n 4 2))
  let s1 := (s.setn (sk n 4 3) new).setn (sk n 4 1) (maskOff (s.n (sk n 4 1)) new)
  let s2 := s1.setStation n { s1.station n with second := maskOff (s1.station n).second new }
  if new = old then s2 else (s2.beamsReturn n (bitsSet 32 (maskOff old new))).beamEvent n 6 0 0

/-- `Relearn` clears the signature and the learned intervals T(f); identity then learns anew, and Tmean goes on (R71, R72, R77). -/
def State.relearn (s : State) (p : Nat) : State :=
  let s1 := s.setBytes (pk p 0xD) (List.replicate 32 0)
  let s2 := s1.each (servedBy p) (fun t n => t.setStation n { t.station n with facetT := [], updates := [] })
  (s2.setPolygon p { s2.polygon p with sums := [], learned := 0, run := 0, misses := 0 }).setIdentity p 0 0

/-- `Facet signature` has been written: a FLAT identity is UNRESOLVED again (R71). -/
def State.signatureWritten (s : State) (p : Nat) : State := if s.identity p = 4 then s.setIdentity p 0 0 else s

/-- `Laser enable` has been written: TRUE stays FALSE while the station's temperature is in SHUTDOWN (R86, R126). -/
def State.laserWritten (s : State) (n : Nat) (on : Bool) : State :=
  (if on ∧ s.n (sk n 7 2) = 3 then s.setb (sk n 0 3) false
    else s.setStation n { s.station n with lineEnd := false }).refreshLaser n

/-- `Take out of service` (R207, R209). -/
def State.takeOut (s : State) (code : Nat) : State := s.laneLeaves code 3 0x10

/-- `Lock acquire` and `Lock release` by the host (R226). -/
def State.hostLock (s : State) (path : Path) (n : Nat) : State :=
  if (s.lock n).owner = pathOwner path then s else s.takeLock n (pathOwner path)
def State.hostUnlock (s : State) (n : Nat) : State := (s.releaseLock n).startGranted s.fabric.lockQueue

/-- `Start move` of a host (R328). -/
def State.hostMove (s : State) (n e : Nat) : State := (s.hostActs n e).startMove n e 0 false 0


/-- What an accepted command does, by object. -/
def State.commandLow (s : State) (index sub : Nat) (v : Val) (answers : List Frame) : State :=
  match index, sub with
  | 0x2010, _ => s.reinitialise v.nat answers
  | 0x2011, 1 => s.oneMs (tmReset 0)
  | 0x2011, 2 => s.oneMs (tmCycle 0)
  | 0x2200, _ => s.faultClear
  | 0x2201, _ => s.stickyClear v.bytes
  | 0x2220, _ => s.inject
  | 0x2300, 0xB => s.plannedSwitch v.nat
  | 0x2300, _ => s.standbyReload v.nat
  | 0x2401, _ => s.eventFw 31 v.nat
  | 0x2420, _ => s.acknowledge v.nat
  | _, _ => s.attest v.bytes false

/-- What an accepted command does (R273). -/
def State.command (s : State) (path : Path) (index sub : Nat) (v : Val) (answers : List Frame) : State :=
  if index < 0x3000 then s.commandLow index sub v answers
  else if index = 0x3050 then s.setn (K 0x3050 5) (maskOff (s.n (K 0x3050 5)) v.nat)
  else if index < 0x3200 then s.relearn (index - 0x3100)
  else if index < 0x3500 then s.restoreBeams (stationOfIndex index) v.nat
  else if index = 0x3600 then s.takeOut v.nat
  else if index = 0x3700 then s.healthReport
  else if index = 0x3820 then (if sub = 1 then s.hostLock path v.nat else s.hostUnlock v.nat)
  else if index = 0x410F then (if sub = 5 then s.chopperTest else s.setBusSwitch true)
  else if index < 0x4400 then s.startProfile (driveOf index) v.nat false
  else if index < 0x4800 then
    let n := axisOf index
    match sub with
    | 7 => s.hostMove n v.nat
    | 8 => (s.hostActs n (0x100 + v.nat)).stopAxis n v.nat
    | 9 => s.presetAxis n v.int
    | _ => s.startHoming n
  else s.hostSwitch (index - 0x4D00) v.nat

/-! ## Values -/

/-- `Domain request` has been written (R383): released domains stop, and requested ones are switched on 100 µs apart. -/
def State.requestDomains (s : State) (old new : Nat) : State :=
  let off := (upFrom 1 16).filter (fun d => bitOf old (d - 1) && !bitOf new (d - 1))
  let on := (upFrom 1 16).filter (fun d => !bitOf old (d - 1) && bitOf new (d - 1))
  let s1 := s.each off (fun t d => t.releaseDomain d 1)
  State.switchOnAll on 0 1 (s1.each on (fun t d => if (t.domain d).state = 3 then t.setDomain d { t.domain d with cause := 1 } else t))

/-- What a value of a module, power, fault, sequencer or Trust Anchor object does. -/
def State.effectLow (s : State) (index sub : Nat) (old new : Val) : State :=
  if 0x2110 ≤ index ∧ index ≤ 0x2133 then
    (if sub = 1 then s.channelEnable (index - 0x210F) (old.int ≠ 0) (new.int ≠ 0) else s)
  else match index, sub with
  | 0x1C33, _ => s.put (K 0x1C32 sub) new
  | 0x2040, 1 => s.requestDomains old.nat new.nat
  | 0x2210, 1 => (s.event 16 (mapRaised new.bytes)).extendMeasurement 6 new.bytes
  | 0x2400, 2 => s.alignmentSource old.nat new.nat
  | 0x2420, _ => s.expectedWritten
  | _, _ => s

/-- `Axis velocity` is the speed of the source the axis has now (R29, R31). -/
def State.refreshVelocity (s : State) (a : Nat) : State :=
  let source := s.axisSource a
  s.seti (K (0x300F + a) 4)
    (if source ≤ 8 then axisVelocity (s.enc source).speed
      else stepperVelocity (s.i (axk (source - 0x10) 0 5)) (s.n (K (0x300F + a) 5)))

/-- What a value of a position, scan timing or station object does. -/
def State.effectMid (s : State) (index sub : Nat) (old new : Val) : State :=
  if index < 0x3010 then (if sub = 1 then s.encoderEnable (index - 0x3000) (old.int ≠ 0) (new.int ≠ 0) else s)
  else if index < 0x3020 then
    (if sub = 3 then s.presetPosition (index - 0x300F) new.nat
    else if sub = 1 ∨ sub = 5 then s.refreshVelocity (index - 0x300F) else s)
  else if index < 0x3101 then s
  else if index ≤ 0x3103 then
    let p := index - 0x3100
    if sub = 1 then s.refreshPolygon p else if sub = 0xD then s.signatureWritten p else s
  else
    let n := stationOfIndex index
    match index / 256, index % 16, sub with
    | 0x33, 0, 3 => s.laserWritten n (decide (new.int ≠ 0))
    | 0x33, 1, 4 => s.extendMeasurement 5 new.bytes
    | 0x33, 3, 1 => s.extendMeasurement 5 new.bytes
    | 0x33, 3, 2 => s.extendMeasurement 5 new.bytes
    | 0x33, 4, 3 => s.retireBeams n old.nat
    | 0x34, 0, _ => s.extendMeasurement 5 new.bytes
    | 0x34, 1, _ => s.extendMeasurement 5 new.bytes
    | _, _, _ => s

/-- What a value of a page, store, drive, stepper, loop, HV or Kettle object does. -/
def State.effectHigh (s : State) (index sub : Nat) (old new : Val) : State :=
  let set := decide (new.int ≠ 0)
  if index < 0x3600 then
    (if index = 0x3500 then (if sub = 1 ∧ set = false then s.commitOff else s)
    else if 0x3510 ≤ index then s.extendMeasurement 4 new.bytes else s)
  else if index < 0x4100 then
    (if index = 0x3700 ∧ (sub = 3 ∨ sub = 4) then s.followStreams
    else if index = 0x3810 ∧ sub ≤ 0x10 ∧ old.int ≠ new.int then s.event 98 (3 + sub * 256)
    else s)
  else if index < 0x4400 then
    (if index = 0x410F ∨ index % 16 ≠ 0 then s
    else if sub = 1 then s.driveEnable (driveOf index) set
    else if sub = 3 then (s.setDrive (driveOf index) { s.drive (driveOf index) with written := some s.stamp }).driveCheck (driveOf index) 2
    else s)
  else if index < 0x4800 then
    (if index % 16 ≠ 0 then s
    else if sub = 1 then s.axisEnable (axisOf index) set
    else if sub = 6 then s.targetWritten (axisOf index) old.int new.int
    else s)
  else if index < 0x4C00 then
    let i := index - 0x4800
    if sub = 1 then s.slotEnable i set
    else if sub = 7 then s.slotMode i new.nat
    else if sub = 8 ∧ 0x300 < s.target i then s.refreshInBand (s.target i - 0x300)
    else s
  else if index ≤ 0x4C03 then
    (if index < 0x4C01 then s
    else if sub = 1 then s.zoneEnable (index - 0x4C00) set
    else if sub = 0xB then s.refreshInBand (index - 0x4C00)
    else if sub = 0xD then s.zoneCheck (index - 0x4C00)
    else s)
  else if 0x4D01 ≤ index ∧ sub = 1 then s.hvEnable (index - 0x4D00) set
  else s

/-- What a value does that an object has taken in place of an old one. -/
def State.effect (s : State) (index sub : Nat) (old new : Val) : State :=
  if index < 0x3000 then s.effectLow index sub old new
  else if index < 0x3500 then s.effectMid index sub old new
  else s.effectHigh index sub old new

/-- An accepted value is put into its object, and acts (R270). The objects of store and restore keep reading 1 (R281). -/
def State.applyValue (s : State) (index sub : Nat) (v : Val) : State :=
  (s.put (K index sub) v).effect index sub (s.view .ethercat index sub) v

end Sys2Proof.Machine
end

