-- ==== Sys2Proof/Machine/Dictionary.lean ====
section
/-! DEFINITION. The dictionary service (R268 to R289): reading, writing and complete access, the object lists, store and restore, result
objects, and what waits while the service serves nothing. -/

namespace Sys2Proof.Machine

/-! ## Reading -/

/-- The result objects (R277). -/
def resultObject (index : Nat) : Bool := index == 0x2310 || (index == 0x2410 || (index == 0x2440 || index == 0x3710))

/-- No result exists, or a run started by the object's command is in progress (R277). -/
def State.resultPending (s : State) (index : Nat) : Bool :=
  s.n (K index 1) == 0 || (index == 0x2440 && s.trust.queue.any (fun a => !a.ring))

/-- `Page select` names a page that is not there (R178). -/
def State.pageUnknown (s : State) : Bool :=
  s.n (K 0x3500 0x12) != 0 && (s.placeOf (s.n (K 0x3500 0x12))).isNone

/-- Why a subindex that is there cannot be read now (R174, R277). -/
def State.readBlocked (s : State) (index sub : Nat) : Option Abort :=
  if resultObject index && (decide (2 ≤ sub) && s.resultPending index) then some (0x08000024, 0x0D0D)
  else if index = 0x3500 ∧ (sub = 0x13 ∨ sub = 0x14) ∧ s.pageUnknown = true then some (0x08000024, 0x090A)
  else none

/-- What rejects a read of one subindex (R273 to R275). -/
def State.readAbort (s : State) (index sub : Nat) : Option Abort :=
  match s.indexAbort index with
  | some a => some a
  | none =>
    match rowOf index sub with
    | none => some (0x06090011, 0x0D02)
    | some r => if r.acc = .cmd then some (0x06010001, 0x0D04) else s.readBlocked index sub

/-- The bytes of an object. -/
def State.readBytes (s : State) (path : Path) (index sub : Nat) : Bytes :=
  match rowOf index sub with
  | some r => r.ty.encode (s.view path index sub)
  | none => []

/-- A request's answer: data, or an abort. -/
def Reply.aborted (a : Abort) : Reply := { status := 1, abort := a.1, detail := a.2 }

/-- A read of one object (R270). -/
def State.readObject (s : State) (path : Path) (index sub : Nat) : Reply :=
  match s.readAbort index sub with
  | some a => Reply.aborted a
  | none => { data := s.readBytes path index sub }

/-! ## Complete access -/

/-- The subindexes of an index, ascending. -/
def subsOf (index : Nat) : List Nat := (upFrom 0 65).filter (fun k => (rowOf index k).isSome)

/-- A record: subindex 00 and others (R276). -/
def isRecord (index : Nat) : Bool := decide (2 ≤ (subsOf index).length)

/-- The length of a subindex in a complete access, none where it takes what the others leave (R276). -/
def State.accessLength (s : State) (r : Row) (index sub : Nat) (write : Bool) : Option Nat :=
  if sub = 0 then some 2
  else if r.ty.size ≠ 0 then some r.ty.size
  else match r.acc, r.rng with
  | .cmd, .len _ hi => some hi
  | .ro, _ => some (s.readBytes .ethercat index sub).length
  | _, .len lo hi => if lo = hi then some hi else if write then none else some (s.readBytes .ethercat index sub).length
  | _, _ => if write then none else some (s.readBytes .ethercat index sub).length

/-- What rejects a complete access as such (R275, R276): a result object has no result yet (R277). -/
def State.completeAbort (s : State) (index start : Nat) : Option Abort :=
  firstOf (s.indexAbort index) (firstOf (need (isRecord index && decide (start ≤ 1)) (0x06010000, 0x0D07))
    (need (!(resultObject index && s.resultPending index)) (0x08000024, 0x0D0D)))

/-- A complete read: every subindex as sampled in one service step; a command's bytes are 0 (R276). -/
def State.readComplete (s : State) (path : Path) (index start : Nat) : Reply :=
  let subs := (subsOf index).filter (fun k => decide (start ≤ k))
  match firstOf (s.completeAbort index start) (subs.findSome? (s.readBlocked index)) with
  | some a => Reply.aborted a
  | none =>
    { data := subs.flatMap (fun k =>
        match rowOf index k with
        | none => []
        | some r =>
          if k = 0 then leBytes 2 (s.view path index 0).nat
          else if r.acc = .cmd then List.replicate ((s.accessLength r index k false).getD 0) 0
          else s.readBytes path index k) }

/-- A subindex of a complete write, its row, and its bytes. -/
structure Part where
  sub : Nat
  row : Row
  bytes : Bytes
  deriving DecidableEq, Repr

/-- The rows of the subindexes from one on, with their lengths. -/
def State.accessParts (s : State) (index start : Nat) : List (Nat × Row × Option Nat) :=
  (subsOf index).filterMap (fun k =>
    if k < start then none else (rowOf index k).map (fun r => (k, r, s.accessLength r index k true)))

/-- The data of a complete write split over the subindexes; what the fixed lengths leave goes to the one whose length varies. -/
def splitParts (rest : Nat) : List (Nat × Row × Option Nat) → Bytes → List Part
  | [], _ => []
  | (k, r, l) :: t, b => ⟨k, r, b.take (l.getD rest)⟩ :: splitParts rest t (b.drop (l.getD rest))

/-- What rejects one part of a complete write (R276, R282). -/
def State.partAbort (s : State) (path : Path) (index : Nat) (w : New) (p : Part) : Option Abort :=
  let acc := p.row.accOf index p.sub
  if p.sub = 0 then need (ofLe p.bytes == (s.view path index 0).nat) (abRange, 0x0D14)
  else if acc = .ro ∨ acc = .cmd then none
  else if viaEthercat path && (s.n (K 0x2060 1) == 8 && s.rxMapped index p.sub) then some (0x08000021, 0x0D0C)
  else
    let mapping := if index = 0x1600 ∨ index = 0x1A00 then
        firstOf (need (s.n (K 0x2060 1) == 2) (abState, 0x0D0A))
          (firstOf (if p.sub ≤ s.newNat index w 0 then s.mapEntryAbort (index == 0x1600) (s.newNat index w p.sub) else none)
            (if p.sub = 0x20 then s.mappingAbort index w else none))
      else none
    firstOf (s.subAbort path p.row index p.sub w p.bytes) mapping

/-- What rejects a complete write: part by part, each with the rules between subindexes that end at it (R276). -/
def State.partsAbort (s : State) (path : Path) (index : Nat) (w : New) (parts : List Part) : Option Abort :=
  parts.findSome? (fun p => firstOf (s.partAbort path index w p)
    ((s.relations index w).findSome? (fun x => if x.subs.getLast? = some p.sub then x.broken else none)))

/-- The parts of a complete write that carry a value for an object. -/
def valueParts (index : Nat) (parts : List Part) : List Part :=
  parts.filter (fun p => p.sub != 0 && (p.row.accOf index p.sub == .rw || p.row.accOf index p.sub == .idle))

/-! ## Store and restore -/

/-- An object of the stored set, in a part of it: 1 the whole, 2 the communication objects, 3 the rest (R278). -/
def storedKey (part k : Nat) : Bool :=
  let index := k / 256
  let sub := k % 256
  let inPart := if index < 0x2000 then part == 1 || part == 2 else part == 1 || part == 3
  inPart && (!volatileObject index sub && (index != 0x1010 && (index != 0x1011 && (index != 0x1C33 && (match rowOf index sub with
    | some r => r.accOf index sub == .rw || r.accOf index sub == .idle
    | none => false)))))

/-- A stored record's bytes, of some of its objects. -/
def recordBytes (record : Tab Val) (keep : Nat → Bool) : Bytes :=
  Config.recordForm (record.filterMap (fun x =>
    if keep x.1 then (rowOf (x.1 / 256) (x.1 % 256)).map (fun r => (x.1, r.ty.encode x.2)) else none))

/-- The record in force: its MRAM copy, or the Crock's where that fails its check (R280). -/
def State.presentRecord (s : State) : Tab Val := s.svc.mirror.getD s.svc.stored

/-- A record is written to the Crock and to MRAM (R278). -/
def State.writeRecord (s : State) (record : Tab Val) : State :=
  let length := (recordBytes record (fun _ => true)).length
  ({ s with svc := { s.svc with stored := record, mirror := some record } }.program length false).mramWrite 1 length

/-- A part of the stored set is stored (R278). -/
def State.storePart (s : State) (part : Nat) : State :=
  let kept := s.presentRecord.filter (fun x => !storedKey part x.1)
  let new := s.od.filter (fun x => storedKey part x.1)
  (s.writeRecord (new.foldl (fun (t : Tab Val) (x : Nat × Val) => Tab.insert t x.1 x.2) kept)).event 103 (1 + part * 256)

/-- A part of the stored record is marked as defaults (R279). -/
def State.restorePart (s : State) (part : Nat) : State :=
  (s.writeRecord (s.presentRecord.filter (fun x => !storedKey part x.1))).event 103 (2 + part * 256)

/-- The parameter partition takes no record: the Crock is neither READY nor READ-ONLY (R278, R448). -/
def State.storeFails (s : State) : Bool := !(s.crockState == 2 || s.crockState == 3)

/-! ## Writing -/

/-- An accepted write is carried out: its checkpoint entry first, which is valid, then its effect (R288). -/
def State.carryOut (s : State) (path : Path) (r : Row) (index sub : Nat) (v : Val) (answers : List Frame) : State :=
  if r.acc = .cmd then (s.dictionaryEntry []).command path index sub v answers
  else if index = 0x1010 then (s.dictionaryEntry []).storePart sub
  else if index = 0x1011 then (s.dictionaryEntry []).restorePart sub
  else
    let s1 := (s.dictionaryEntry [K index sub]).applyValue index sub v
    if index = 0x1600 then { s1 with svc := { s1.svc with rxLast := none } } else s1

/-- A write of one object: checked, and carried out or rejected (R270, R274). -/
def State.writeObject (s : State) (path : Path) (pdo : Bool) (index sub : Nat) (b : Bytes) (answers : List Frame) : State × Reply :=
  match s.writeAbort path pdo index sub b, rowOf index sub with
  | some a, _ => (s, Reply.aborted a)
  | none, none => (s, {})
  | none, some r =>
    if (index = 0x1010 ∨ index = 0x1011) ∧ s.storeFails = true then (s.event 103 4, Reply.aborted (0x08000020, 0x0D11))
    else (s.carryOut path r index sub (r.ty.decode b) answers, {})

/-- The values of a complete write are in force in one step, and then act in ascending order (R276). -/
def State.applyParts (s : State) (index : Nat) (parts : List Part) : State :=
  let news := parts.map (fun p => (p.sub, s.view .ethercat index p.sub, p.row.ty.decode p.bytes))
  let s0 := if index = 0x1600 then { s with svc := { s.svc with rxLast := none } } else s
  let s1 := s0.each news (fun t x => t.put (K index x.1) x.2.2)
  s1.each news (fun t x =>
    if 0x4400 ≤ index ∧ index ≤ 0x44BF ∧ x.1 = 6 ∧ x.2.1 = x.2.2 then t else t.effect index x.1 x.2.1 x.2.2)

/-- A complete write (R276). -/
def State.writeComplete (s : State) (path : Path) (index start : Nat) (b : Bytes) : State × Reply :=
  match s.completeAbort index start with
  | some a => (s, Reply.aborted a)
  | none =>
    let shape := s.accessParts index start
    let fixed := total (shape.map (fun x => x.2.2.getD 0))
    let varies := shape.any (fun x => x.2.2.isNone)
    if b.length < fixed ∨ (varies = false ∧ b.length ≠ fixed) then (s, Reply.aborted (abLength, 0x0D05))
    else
      let parts := splitParts (b.length - fixed) shape b
      let values := valueParts index parts
      let w : New := values.map (fun p => (p.sub, p.row.ty.decode p.bytes))
      match s.partsAbort path index w parts with
      | some a => (s, Reply.aborted a)
      | none =>
        if index = 0x1010 ∨ index = 0x1011 then
          (if s.storeFails then (s.event 103 4, Reply.aborted (0x08000020, 0x0D11))
          else ((s.dictionaryEntry []).each values (fun t p => if index = 0x1010 then t.storePart p.sub else t.restorePart p.sub), {}))
        else ((s.dictionaryEntry (values.map (fun p => K index p.sub))).applyParts index values, {})

/-- An accepted write is answered in this grid step: until its end, its response has not been issued (R288). -/
def State.noteWrite (s : State) (path : Path) (index sub : Nat) (r : Reply) : State :=
  if r.status = 0 then
    { s with svc := { s.svc with unissued := s.svc.unissued ++ [(if viaEthercat path then 1 else 2, index, sub)] } }
  else s

/-- The end of a grid step issues the responses of its writes; what a grant has come before stays for the new active unit (R288). -/
def State.issueAnswers (s : State) : State :=
  if s.svc.unissued.isEmpty ∨ s.twin.switching = true then s else { s with svc := { s.svc with unissued := [] } }

/-- The new active unit answers from the record what the old one had applied and not answered: EV103 subcode 5 (R288, R290). -/
def State.answerRecorded (s : State) : State :=
  { s with svc := { s.svc with unissued := [] } }.each s.svc.unissued (fun t x =>
    t.event 103 (5 + x.2.2 * 2 ^ 24 + x.2.1 * 2 ^ 32 + x.1 * 2 ^ 48))

/-! ## SDO Information -/

/-- The code of a type in CiA 301 (R272). -/
def Ty.code : Ty → Nat
  | .bool => 1 | .i16 => 3 | .i32 => 4 | .u8 => 5 | .u16 => 6 | .u32 => 7 | .real => 8 | .str => 9 | .dom => 15 | .u64 => 27

/-- The indices of a row. -/
def Row.indices (r : Row) : List Nat := (upFrom 0 r.count).map (fun k => r.index + k * r.stride)

/-- Every index of the dictionary, ascending. -/
def allIndices : List Nat :=
  (upFrom 0x1000 0x3E00).filter hasIndex

/-- Get OD List: every object present on the variant, those of domains that are off among them (R271). -/
def State.objectList (s : State) : Reply := { data := wordsLe 2 (allIndices.filter (fun i => (s.objectAbsent i).isNone)) }

/-- The index is not there, or belongs to hardware that the variant lacks. -/
def State.missing (s : State) (index : Nat) : Option Abort :=
  if hasIndex index then (s.objectAbsent index).map (fun d => (abNoObject, d)) else some (abNoObject, 0x0D01)

/-- What stands for the number sign in the name of an index that is one of several alike: the unit's number, `P1` to `P3` and
`M1` to `M8` for a drive channel (R175, R313, R314). -/
def unitName (index : Nat) : List Nat :=
  let number (n : Nat) : List Nat := digits 3 n
  if 0x2110 ≤ index ∧ index ≤ 0x2133 then number (index - 0x210F)
  else if 0x3001 ≤ index ∧ index ≤ 0x3008 then number (index - 0x3000)
  else if 0x3010 ≤ index ∧ index ≤ 0x3017 then number (index - 0x300F)
  else if 0x3101 ≤ index ∧ index ≤ 0x3103 then number (index - 0x3100)
  else if stationOfIndex index ≠ 0 then number (stationOfIndex index)
  else if 0x3510 ≤ index ∧ index ≤ 0x352F then number (index - 0x3510)
  else if 0x4100 ≤ index ∧ index ≤ 0x412F then 80 :: number (driveOf index + 1)
  else if 0x4130 ≤ index ∧ index ≤ 0x41AF then 77 :: number (driveOf index - 2)
  else if 0x4400 ≤ index ∧ index ≤ 0x44BF then number (axisOf index)
  else if 0x4800 ≤ index ∧ index ≤ 0x483F then number (index - 0x4800)
  else if 0x4C01 ≤ index ∧ index ≤ 0x4C03 then number (index - 0x4C00)
  else if 0x4D01 ≤ index ∧ index ≤ 0x4D14 then number (index - 0x4D00)
  else []

/-- The characters of the name of a row at an index. -/
def Row.nameAt (r : Row) (index : Nat) : Bytes :=
  (r.name.toList.flatMap (fun c => if c = '#' then unitName index else [c.toNat])).map (BitVec.ofNat 8)

/-- Get Object Description: index, type, highest subindex, object code and name (R268; log entry 46). -/
def State.describeObject (s : State) (index : Nat) : Reply :=
  match s.missing index with
  | some a => Reply.aborted a
  | none =>
    match rowOf index 0, rowOf index 1 with
    | some r, none => { data := leBytes 2 index ++ leBytes 2 r.ty.code ++ leBytes 1 0 ++ leBytes 1 7 ++ r.nameAt index }
    | some r, some _ =>
      { data := leBytes 2 index ++ leBytes 2 0 ++ leBytes 1 ((subsOf index).getLastD 0) ++ leBytes 1 9 ++ r.nameAt index }
    | none, _ => {}

/-- Get Entry Description: index, subindex, type, length in bits, access and name (R268; log entry 46). -/
def State.describeEntry (s : State) (index sub : Nat) : Reply :=
  match s.missing index, rowOf index sub with
  | some a, _ => Reply.aborted a
  | none, none => Reply.aborted (0x06090011, 0x0D02)
  | none, some r =>
    let acc := r.accOf index sub
    let access := (if acc = .cmd then 0 else 7) + (if acc = .ro then 0 else 0x38) + (if acc = .rw ∧ r.ty.size ≠ 0 then 0x40 else 0) +
      (if (acc = .rw ∨ acc = .ro) ∧ r.ty.size ≠ 0 then 0x80 else 0)
    { data := leBytes 2 index ++ leBytes 1 sub ++ leBytes 1 0 ++ leBytes 2 r.ty.code ++
        leBytes 2 (8 * (s.readBytes .ethercat index sub).length) ++ leBytes 2 access ++ r.nameAt index }

/-! ## The service -/

/-- A request has been answered on a path: counts, the last detail code, the answer (R274, R289). -/
def State.answered (s : State) (path : Path) (r : Reply) : State :=
  let bad := decide (r.status ≠ 0)
  if viaEthercat path then
    let s1 := (s.bump (K 0x2060 4)).when bad (fun t => t.bump (K 0x2060 5))
    { s1 with svc := { s1.svc with ethercat := r, detailEthercat := if bad then r.detail else s1.svc.detailEthercat } }
  else
    let s1 := (s.bump (K 0x2060 6)).when bad (fun t => t.bump (K 0x2060 7))
    { s1 with svc := { s1.svc with mailbox := r, detailMailbox := if bad then r.detail else s1.svc.detailMailbox } }

/-- The path reaches the module: EtherCAT from PREOP on, the mailbox ring over the host link (R269, R285). -/
def State.pathOpen (s : State) (path : Path) : Bool :=
  if viaEthercat path then s.on 8 && decide (2 ≤ s.n (K 0x2060 1)) else s.on 7

/-- A request waits: the dictionary service serves nothing. A stall in a switch-over gap is counted (R288). -/
def State.stall (s : State) (i : Instr) : State :=
  let s1 := { s with svc := { s.svc with stalled := s.svc.stalled ++ [i] } }
  if s.twin.switching then s1.bump (K 0x2060 0xA) else s1

/-- A request reaches the service on a path: it is served, or waits (R270, R288). -/
def State.request (s : State) (path : Path) (i : Instr) (f : State → State) : State :=
  if s.pathOpen path then (if s.served then f s else s.stall i) else s

/-- How an SDO carries a value over the mailbox of 512 bytes (R268; the header sizes of CoE are log entry 174). -/
inductive Transfer where
  | expedited | normal | segmented
  deriving DecidableEq, Repr

/-- The transfer of a value of some bytes: up to 4 in the request itself, up to 496 beside its headers, and in segments beyond. -/
def transferOf (bytes : Nat) : Transfer := if bytes ≤ 4 then .expedited else if bytes ≤ 496 then .normal else .segmented

/-- The mailbox messages each way that it takes: what the first one leaves follows in segments of at most 503 bytes. -/
def transferMessages (bytes : Nat) : Nat := 1 + divCeil (bytes - 496) 503

/-- Mailbox repeat (R268): the answer of SM1 that the module sends again is its last one; nothing changes. -/
def State.repeatedAnswer (s : State) : Reply := s.svc.ethercat

/-- A write request on a path is served (R270). -/
def State.serveWrite (s : State) (path : Path) (index sub : Nat) (b : Bytes) (answers : List Frame) : State :=
  let r := s.writeObject path false index sub b answers
  (r.1.noteWrite path index sub r.2).answered path r.2

/-- A complete write on a path is served. -/
def State.serveComplete (s : State) (path : Path) (index start : Nat) (b : Bytes) : State :=
  let r := s.writeComplete path index start b
  (r.1.noteWrite path index start r.2).answered path r.2

/-- A write of an object, as the rows that name one make it. -/
def State.writeRow (s : State) (path : Path) (index sub : Nat) (b : Bytes) : State :=
  s.request path (.dictionaryWrite path index sub b []) (fun t => t.serveWrite path index sub b [])

/-! ## The mailbox rings -/

/-- A request of ring 60 (R285): opcode, index, subindex, buffer and length. -/
def mailOp (ws : List Nat) : Nat := field (wordAt ws 0) 63 56
def mailIndex (ws : List Nat) : Nat := field (wordAt ws 0) 39 24
def mailSub (ws : List Nat) : Nat := field (wordAt ws 0) 47 40
def mailBuffer (ws : List Nat) : Nat := wordAt ws 1
def mailLength (ws : List Nat) : Nat := field (wordAt ws 2) 31 0

/-- The opcodes that write. -/
def mailWrites (op : Nat) : Bool := op == 2 || op == 4

/-- A malformed request (R287). -/
def mailMalformed (ws : List Nat) : Bool :=
  let op := mailOp ws
  let length := mailLength ws
  let lengthBad :=
    if mailWrites op then decide (length = 0 ∨ 65536 < length) || (mailBuffer ws == 0 && decide (32 < length))
    else mailBuffer ws == 0 && length != 0
  op == 0 || (decide (4 < op) || (field (wordAt ws 0) 55 48 != 0 || (field (wordAt ws 0) 23 16 != 0 ||
    (field (wordAt ws 2) 63 32 != 0 || (wordAt ws 3 != 0 || lengthBad)))))

/-- The data of a write: inline, or as host memory answers (R285, R287). -/
def mailData (ws : List Nat) (host : Option Bytes) : Option Bytes :=
  if mailBuffer ws = 0 then some ((wordsLe 8 (ws.drop 4)).take (mailLength ws))
  else host.bind (fun b => if mailLength ws ≤ b.length then some (b.take (mailLength ws)) else none)

/-- What becomes of a read's data on its way to the host (R287). -/
def mailReply (ws : List Nat) (hostOk : Bool) (r : Reply) : Reply :=
  if r.status ≠ 0 then r
  else if (if mailBuffer ws = 0 then 32 else mailLength ws) < r.data.length then Reply.aborted (0x06070012, 0x0D0E)
  else if mailBuffer ws ≠ 0 ∧ hostOk = false then Reply.aborted (0x08000020, 0x0D10)
  else r

/-- The entry on ring 61 (R286). -/
def State.mailEntry (s : State) (ws : List Nat) (r : Reply) : List Nat :=
  let w0 := r.status * 2 ^ 56 + mailSub ws * 2 ^ 40 + mailIndex ws * 2 ^ 24 + field (wordAt ws 0) 15 0
  let inline := if mailBuffer ws = 0 then r.data else []
  [w0, r.abort * 2 ^ 32 + r.detail, r.data.length, s.stamp] ++ leWords 4 8 (inline ++ List.replicate (32 - inline.length) 0)

/-- A request of ring 60 is served and answered on ring 61 (R285 to R287). -/
def State.serveMail (s : State) (hostOk : Bool) (host : Option Bytes) (answers : List Frame) (ws : List Nat) : State :=
  let index := mailIndex ws
  let sub := mailSub ws
  let p : State × Reply :=
    if mailMalformed ws then (s, { status := 2, abort := 0x05040001, detail := 0x0D0F })
    else if mailWrites (mailOp ws) then
      match mailData ws host with
      | none => (s.hostFault (mailBuffer ws), Reply.aborted (0x08000020, 0x0D10))
      | some b =>
        let r := if mailOp ws = 2 then s.writeObject .mailbox false index sub b answers else s.writeComplete .mailbox index sub b
        (r.1.noteWrite .mailbox index sub r.2, r.2)
    else
      let r := mailReply ws (hostOk && s.masters)
        (if mailOp ws = 1 then s.readObject .mailbox index sub else s.readComplete .mailbox index sub)
      (if r.status = 0 ∧ mailBuffer ws ≠ 0 then s.hostWrite (mailBuffer ws) r.data
        else if r.detail = 0x0D10 then s.hostFault (mailBuffer ws) else s, r)
  let s1 := p.1.answered .mailbox p.2
  (s1.finishEntry 60).produce 61 (s1.mailEntry ws p.2)

/-- A row of ring 60 takes the next entry where the entry has its opcode, or one that no row has, unless a response is held for ring 61
(R263, R285, R287). -/
def State.takeMail (s : State) (op : Nat) (entry : Entry) (hostOk : Bool) (host : Option Bytes) (answers : List Frame) : State :=
  let found := entry.map mailOp
  if (s.ring 61).waiting.isEmpty = true ∧ (found = none ∨ found = some op ∨ found.any (fun o => o == 0 || decide (4 < o)) = true) then
    s.takeEntry 60 entry (fun t ws => t.serveMail hostOk host answers ws)
  else s

/-- An entry of ring 60 waits in its ring while the service serves nothing (R285, R288). -/
def State.mailRow (s : State) (i : Instr) (f : State → State) : State :=
  if s.served then f s
  else if s.hasEntry 60 && (s.twin.switching && decide ((s.svc.stalled.filter (fun x =>
      match x with
      | .mailboxRead .. => true
      | .mailboxWrite .. => true
      | .mailboxReadComplete .. => true
      | .mailboxWriteComplete .. => true
      | _ => false)).length < (s.ring 60).used)) then s.stall i
  else s

/-! ## What has waited -/

/-- A request that has waited is served. -/
def State.serveWaiting (s : State) (i : Instr) : State :=
  match i with
  | .dictionaryWrite path index sub data answers => if s.pathOpen path then s.serveWrite path index sub data answers else s
  | .sdoUpload index sub =>
    if s.pathOpen .ethercat then s.answered .ethercat (s.readObject .ethercat index sub) else s
  | .sdoCompleteAccess write index start data =>
    if s.pathOpen .ethercat then
      (if write then s.serveComplete .ethercat index start data
      else s.answered .ethercat (s.readComplete .ethercat index start))
    else s
  | .getOdList => if s.pathOpen .ethercat then s.answered .ethercat s.objectList else s
  | .getObjectDescription index => if s.pathOpen .ethercat then s.answered .ethercat (s.describeObject index) else s
  | .getEntryDescription index sub => if s.pathOpen .ethercat then s.answered .ethercat (s.describeEntry index sub) else s
  | .mailboxRead entry hostOk => s.takeMail 1 entry hostOk none []
  | .mailboxWrite entry host answers => s.takeMail 2 entry true host answers
  | .mailboxReadComplete entry hostOk => s.takeMail 3 entry hostOk none []
  | .mailboxWriteComplete entry host => s.takeMail 4 entry true host []
  | _ => s

/-- The requests that have waited are served, in the order they came (R288). -/
def State.serveStalled (s : State) : State :=
  if s.served then { s with svc := { s.svc with stalled := [] } }.each s.svc.stalled State.serveWaiting else s

/-! ## Process data -/

/-- The mapping entries of a PDO, each with the byte it starts at. -/
def State.mappedFrom (s : State) (index : Nat) : List Nat → Nat → List (Nat × Nat)
  | [], _ => []
  | k :: l, o => (s.n (K index k), o) :: State.mappedFrom s index l (o + s.n (K index k) % 256 / 8)
def State.mapped (s : State) (index : Nat) : List (Nat × Nat) := s.mappedFrom index (upFrom 1 (s.n (K index 0))) 0

/-- The TxPDO image: every entry in one grid step (R283). -/
def State.txImage (s : State) : Bytes :=
  (s.mapped 0x1A00).flatMap (fun e =>
    let size := e.1 % 256 / 8
    if e.1 / 256 = 0 then List.replicate size 0
    else if (s.readAbort (field e.1 31 16) (field e.1 15 8)).isSome then leBytes size (Config.unreadableEntry e.2)
    else s.readBytes .ethercat (field e.1 31 16) (field e.1 15 8))

/-- An RxPDO entry that has changed is written under all the checks of an SDO write (R283). -/
def State.applyEntry (s : State) (e : Nat) (b : Bytes) : State :=
  let index := field e 31 16
  let sub := field e 15 8
  let r := s.writeObject .ethercat true index sub b []
  if r.2.status = 0 then r.1
  else
    let s1 := { r.1 with svc := { r.1.svc with detailEthercat := r.2.detail } }
    (s1.bump (K 0x2060 3)).event 102 (3 + sub * 2 ^ 24 + index * 2 ^ 32 + r.2.detail * 2 ^ 48)

/-- The RxPDO is applied: the entries whose received value differs from the value last received, in mapping order (R283). -/
def State.applyRx (s : State) (rx : Bytes) : State :=
  let changed := (s.mapped 0x1600).filter (fun e =>
    let size := e.1 % 256 / 8
    decide (e.1 / 256 ≠ 0) && (match s.svc.rxLast with
      | some old => slice e.2 size old != slice e.2 size rx
      | none => true))
  { s with svc := { s.svc with rxLast := some rx } }.each changed (fun t e => t.applyEntry e.1 (slice e.2 (e.1 % 256 / 8) rx))

/-- What was received in the gap is applied at its end (R288). -/
def State.applyGap (s : State) : State :=
  match s.svc.rxGap with
  | none => s
  | some rx =>
    let s1 := { s with svc := { s.svc with rxGap := none } }
    if s1.n (K 0x2060 1) = 8 then s1.applyRx rx else s1

end Sys2Proof.Machine
end

