-- ==== Sys2Proof/Machine/Ownership.lean ====
section
/-! DEFINITION. What puts Alinagrim back to work: a domain that is ready, a unit that has loaded, ownership at the end of a
switch-over gap (R22, R172, R288, R384, R420, R421, R429, R438, R468, R472). -/

namespace Sys2Proof.Machine

/-- DICTIONARY_UP is set where it can be, and what has waited is served. -/
def State.resume (s : State) : State :=
  let s0 := s.bringUp
  let s1 := (if s0.served then s0.serveGapPages else s0).serveStalled
  if s1.served then s1.applyGap else s1

/-- DOMAIN_READY (R384): a RAMPING domain is ON; what the Lid holds of it is held. -/
def execDomainReady (pd : Nat) (answers : List (Nat × List Frame)) (s : State) : Host.Outcome State Fault Refusal :=
  if decide (1 ≤ pd ∧ pd ≤ 16) && decide ((s.domain pd).state = 1) then .next (((s.domainReady pd answers).lidMeets pd).serveStalled)
  else .next s

/-! ## Loads -/

/-- A unit is released as ACTIVE (R420, R421). The first one since a start is the unit released as active at start-up (R472). -/
def State.releaseUnit (s : State) (u cause : Nat) : State :=
  let s1 := (s.setn (K 0x2300 1) u).setRole u 2 cause
  let t : Trust := if s.trust.started then s1.trust else { s1.trust with released := u }
  { s1 with twin := { s1.twin with lastBeat := none, wireMisses := 0, wordMisses := 0 }, trust := t }.refreshGate

/-- A unit that has loaded and passed enters service: as ACTIVE where no unit is, else as STANDBY (R420, R421). -/
def State.unitLoaded (s : State) (u cause : Nat) : State :=
  if s.anyActive ∨ s.twin.switching = true then
    (s.setUnit u { s.unit u with healthy := false, lastReport := none }).setRole u 3 cause
  else s.releaseUnit u cause

/-- `Preferred active` (R421). -/
def State.preferred (s : State) : Nat := s.n (K 0x2300 0xD)

/-- While no unit has been released, the other unit waits for the preferred one (R421). -/
def State.waitsForPreferred (s : State) (u : Nat) : Bool :=
  !s.anyActive && (!s.twin.switching && (u != s.preferred && s.role s.preferred == 1))

/-- A unit in STARTING has loaded its image, or has failed to (R420, R468, R472, R489). Loads of the start itself do not extend slot 7. -/
def State.startLoaded (s : State) (u : Nat) (tested : Bool) (bad : List Nat) : State :=
  let first := if s.trust.started ∨ u ≠ s.preferred then 0 else s.trust.candidate
  match if s.crockUp then s.loadSlot u first bad else none with
  | none => s.setRole u 6 1
  | some k =>
    let s1 := s.loadImage u k (s.fallbackReason u first k bad)
    let s2 := if s.trust.started then s1.recordLoad u else s1
    if tested then s2.unitLoaded u 1 else s2.setRole u 6 1

/-- A unit in RELOADING has loaded its image, or has failed to: EV025 (R438). -/
def State.reloaded (s : State) (u : Nat) (tested : Bool) (bad : List Nat) : State :=
  let k := (s.unit u).loading
  let failed (t : State) : State := (t.setRole u 6 5).event 25 (3 + u * 256 + k * 65536)
  if s.crockUp && s.slotLoads bad (slotPartition u k) then
    let s1 := (s.loadImage u k 0).recordLoad u
    if tested && s1.imageRestores u then ((if k = 3 then s1 else s1.setn (K 0x3701 (5 + u)) k).setRole u 3 5).event 25 (2 + u * 256 + k * 65536)
    else failed s1
  else failed s

/-- UNIT_LOAD_COMPLETE (R420, R438, R468, R472): with PD06 ON and the Crock mounted, or FAILED. -/
def execUnitLoadComplete (u : Nat) (tested : Bool) (bad : List Nat) (s : State) : Host.Outcome State Fault Refusal :=
  if (u == 1 || u == 2) && s.on u && (s.on 6 && s.crockState != 1) then
    if s.role u = 1 then .next (if s.waitsForPreferred u then s else (s.startLoaded u tested bad).resume)
    else if s.role u = 7 then .next (s.reloaded u tested bad)
    else .next s
  else .next s

/-! ## The end of the gap -/

/-- Alinagrim's own jobs on channel 16 rebuild the page plans (R228): their transactions are counted, and ring 15 waits until they are
done, within this step (log entry 194). -/
def State.rebuild (s : State) : State := (s.countGrants (s.channelInput 16) (Config.rebuildTransactions s.drawn) 0).draw

/-- The new active unit owns outputs: its restore, its objects, and EV022 subcode 2 (R22, R429, R475). -/
def State.takeOwnership (s : State) : State :=
  let new := otherUnit s.twin.leaving
  let gap := s.stamp - s.twin.grantAt
  let twin : Twin := { s.twin with switching := false, planned := 0, lastBeat := none, wireMisses := 0, wordMisses := 0 }
  let s1 := ({ s with twin := twin, pages := { s.pages with stopped := false } }.disarm tmGap).disarm tmPlanned
  let s2 := (((s1.setn (K 0x2300 1) new).setRole new 2 2).bump (K 0x2300 9)).setn (K 0x2300 0xA) gap
  let s3 := (s2.event 22 (2 + new * 256 + s.twin.causes * 65536 + gap * 2 ^ 32)).restoreEntries.flushGap.readmitAll.regate.answerRecorded
  let s4 := if new = s.trust.released then s3 else s3.recordLoad new
  s4.rebuild.serveGapPages.refreshGate.beginPeriod

/-- OWNERSHIP_TAKEN (R21, R22, R172, R288, R429): the gap ends, and what it held back follows. -/
def execOwnershipTaken (s : State) : Host.Outcome State Fault Refusal :=
  if s.twin.switching && decide (s.role (otherUnit s.twin.leaving) = 5) then .next s.takeOwnership.serveStalled.applyGap
  else .next s

end Sys2Proof.Machine
end

