-- ==== Sys2Proof/Machine/Rows.lean ====
section
/-! DEFINITION. The rows of the dictionary paths, of the EtherCAT state machine and its process data, and the rows that name the one
object they write (R268 to R289 and the chapters' objects). -/

namespace Sys2Proof.Machine

/-! ## Requests -/

/-- DICTIONARY_WRITE (R270): a write of one object on a path. -/
def execDictionaryWrite (path : Path) (index sub : Nat) (data : Bytes) (answers : List Frame) (s : State) :
    Host.Outcome State Fault Refusal :=
  .next (s.request path (.dictionaryWrite path index sub data answers) (fun t => t.serveWrite path index sub data answers))

/-- SDO_DOWNLOAD (R270, R274): a write of one object over EtherCAT. -/
def execSdoDownload (index sub : Nat) (data : Bytes) (answers : List Frame) (s : State) : Host.Outcome State Fault Refusal :=
  .next (s.request .ethercat (.dictionaryWrite .ethercat index sub data answers)
    (fun t => t.serveWrite .ethercat index sub data answers))

/-- A request over EtherCAT as it stands: it is served like one that has waited, or waits. -/
def State.fieldRequest (s : State) (i : Instr) : State := s.request .ethercat i (fun t => t.serveWaiting i)

/-- SDO_UPLOAD (R270, R274). -/
def execSdoUpload (index sub : Nat) (s : State) : Host.Outcome State Fault Refusal := .next (s.fieldRequest (.sdoUpload index sub))

/-- SDO_COMPLETE_ACCESS (R276). -/
def execSdoCompleteAccess (write : Bool) (index start : Nat) (data : Bytes) (s : State) : Host.Outcome State Fault Refusal :=
  .next (s.fieldRequest (.sdoCompleteAccess write index start data))

/-- GET_OD_LIST (R268, R271). -/
def execGetOdList (s : State) : Host.Outcome State Fault Refusal := .next (s.fieldRequest .getOdList)

/-- GET_OBJECT_DESCRIPTION (R268). -/
def execGetObjectDescription (index : Nat) (s : State) : Host.Outcome State Fault Refusal :=
  .next (s.fieldRequest (.getObjectDescription index))

/-- GET_ENTRY_DESCRIPTION (R268). -/
def execGetEntryDescription (index sub : Nat) (s : State) : Host.Outcome State Fault Refusal :=
  .next (s.fieldRequest (.getEntryDescription index sub))

/-- MAILBOX_READ (R285 to R287): opcode 0x01 of ring 60. -/
def execMailboxRead (entry : Entry) (hostOk : Bool) (s : State) : Host.Outcome State Fault Refusal :=
  .next (s.mailRow (.mailboxRead entry hostOk) (fun t => t.takeMail 1 entry hostOk none []))

/-- MAILBOX_WRITE (R285 to R287): opcode 0x02 of ring 60. -/
def execMailboxWrite (entry : Entry) (host : Option Bytes) (answers : List Frame) (s : State) : Host.Outcome State Fault Refusal :=
  .next (s.mailRow (.mailboxWrite entry host answers) (fun t => t.takeMail 2 entry true host answers))

/-- MAILBOX_READ_COMPLETE (R285 to R287): opcode 0x03 of ring 60. -/
def execMailboxReadComplete (entry : Entry) (hostOk : Bool) (s : State) : Host.Outcome State Fault Refusal :=
  .next (s.mailRow (.mailboxReadComplete entry hostOk) (fun t => t.takeMail 3 entry hostOk none []))

/-- MAILBOX_WRITE_COMPLETE (R285 to R287): opcode 0x04 of ring 60. -/
def execMailboxWriteComplete (entry : Entry) (host : Option Bytes) (s : State) : Host.Outcome State Fault Refusal :=
  .next (s.mailRow (.mailboxWriteComplete entry host) (fun t => t.takeMail 4 entry true host []))

/-- STORE_PARAMETERS (R278): a write of 0x1010. -/
def execStoreParameters (path : Path) (sub value : Nat) (s : State) : Host.Outcome State Fault Refusal :=
  .next (s.writeRow path 0x1010 sub (leBytes 4 value))

/-- RESTORE_DEFAULT_PARAMETERS (R279): a write of 0x1011. -/
def execRestoreDefaultParameters (path : Path) (sub value : Nat) (s : State) : Host.Outcome State Fault Refusal :=
  .next (s.writeRow path 0x1011 sub (leBytes 4 value))

/-! ## The EtherCAT state machine -/

/-- A transition is refused: the state stays, and the AL status code says why (R269). -/
def State.refuseEsm (s : State) (al : Nat) : State := { s with svc := { s.svc with alStatus := al % 65536 } }

/-- Why PREOP to SAFEOP is refused; 0 where it is taken (R269, R282). -/
def State.safeopRefusal (s : State) (sync0 : Bool) : Nat :=
  let mode := s.n (K 0x1C32 1)
  let cycle := s.n (K 0x1C32 2)
  if (s.mappingAbort 0x1600 []).isSome then 0x1D
  else if (s.mappingAbort 0x1A00 []).isSome then 0x1E
  else if mode ≠ 0 ∧ (cycle < 125000 ∨ 10000000 < cycle) then 0x35
  else if mode = 2 ∧ sync0 = false then 0x30
  else 0

/-- The mailbox of R268: the bytes of SM0, master to module, and of SM1, module to master. -/
def mailboxBytes : List Nat := [512, 512]

/-- A request of the master for another state (R269). One it makes while a transition waits replaces it. -/
def State.requestEsm (s : State) (new : Nat) (managers : List Nat) (sync0 : Bool) : State :=
  let old := s.n (K 0x2060 1)
  let s1 := { s with svc := { s.svc with esmWaiting := 0 } }
  if new = old then s1
  else if new < old ∧ (new = 1 ∨ new = 2 ∨ new = 4) then s1.setEsm new 0
  else match old, new with
  | 1, 2 =>
    if managers ≠ mailboxBytes then s1.refuseEsm 0x16
    else if s1.twin.dictionaryUp then s1.setEsm 2 0
    else { s1 with svc := { s1.svc with esmWaiting := 2 } }
  | 2, 4 => if s1.safeopRefusal sync0 = 0 then s1.setEsm 4 0 else s1.refuseEsm (s1.safeopRefusal sync0)
  | 4, 8 => if s1.svc.rxSeen then s1.setEsm 8 0 else s1.refuseEsm 0x1B
  | _, _ => s1.refuseEsm Config.alUnlisted

/-- ESM_STATE_REQUEST (R269). -/
def execEsmStateRequest (state : Nat) (managers : List Nat) (sync0Active : Bool) (s : State) : Host.Outcome State Fault Refusal :=
  if s.on 8 then .next (s.requestEsm state managers sync0Active) else .next s

/-- The received frame of a cycle (R269, R283, R288): applied in OP, and kept until the service serves again where it does not. -/
def State.receivePdo (s : State) (rx : Bytes) : State :=
  if s.n (K 0x2060 1) = 8 then
    if s.served then s.applyRx rx
    else
      let s1 := if s.svc.rxGap.isSome then s.setn (K 0x1C32 0xC) (min 65535 (s.n (K 0x1C32 0xC) + 1)) else s
      { s1 with svc := { s1.svc with rxGap := some rx } }
  else { s with svc := { s.svc with rxSeen := true } }

/-- PDO_CYCLE (R283, R288): the TxPDO is sampled in one grid step, or repeated while nothing serves; then the RxPDO. -/
def execPdoCycle (rx : Option Bytes) (s : State) : Host.Outcome State Fault Refusal :=
  if s.on 8 && decide (4 ≤ s.n (K 0x2060 1)) then
    let s1 := if s.served then { s with svc := { s.svc with txLast := s.txImage } } else s
    match rx with
    | none => .next s1
    | some b => .next (s1.receivePdo b)
  else .next s

/-- SM2_WATCHDOG_EXPIRED (R269, R284). -/
def execSm2WatchdogExpired (s : State) : Host.Outcome State Fault Refusal :=
  if s.on 8 && decide (s.n (K 0x2060 1) = 8) then .next (s.setEsm 4 0x1B) else .next s

/-- PORT_LINK_CHANGE (R289): `Port links` follows the two links while PD08 is on: EV102 subcode 4; `Frame errors` counts the receive
errors of both ports (log entry 172). -/
def execPortLinkChange (ports : Ports) (s : State) : Host.Outcome State Fault Refusal :=
  let new := ports.links % 4
  if s.on 8 then
    let s1 := s.bumpBy (K 0x2060 9) ports.errors
    .next (if s.n (K 0x2060 8) = new then s1 else (s1.setn (K 0x2060 8) new).event 102 (4 + new * 256))
  else .next s

/-! ## Health report of the Crock -/

/-- HEALTH_RUN (R461): the command, or the end of 24 h of Stamp time; with PD06 off no report is made. -/
def execHealthRun (request : Option (Path × Bytes)) (s : State) : Host.Outcome State Fault Refusal :=
  match request with
  | some r => .next (s.writeRow r.1 0x3700 0xC r.2)
  | none =>
    if s.due tmHealth then .next (if s.on 6 then s.dailyReport else s.after tmHealth 86400000000000) else .next s

/-! ## Function re-initialisation -/

/-- A write of `Reinitialise function` for a class and an instance, 0 to 255 (R484). -/
def State.reinitRow (s : State) (path : Path) (cls i : Nat) (answers : List Frame) : State :=
  let b := leBytes 2 (cls * 256 + i)
  if i < 256 then
    s.request path (.dictionaryWrite path 0x2010 1 b answers) (fun t => t.serveWrite path 0x2010 1 b answers)
  else s

/-- REINIT_SEQUENCER_UNIT (R421): function class 0x01. -/
def execReinitSequencerUnit (path : Path) (i : Nat) (s : State) : Host.Outcome State Fault Refusal := .next (s.reinitRow path 1 i [])

/-- REINIT_PRESS_LANE (R207): function class 0x02. -/
def execReinitPressLane (path : Path) (i : Nat) (s : State) : Host.Outcome State Fault Refusal := .next (s.reinitRow path 2 i [])

/-- REINIT_STATION (R484): function class 0x03. -/
def execReinitStation (path : Path) (i : Nat) (answers : List Frame) (s : State) : Host.Outcome State Fault Refusal :=
  .next (s.reinitRow path 3 i answers)

/-- REINIT_POLYGON_TIMING (R484): function class 0x04. -/
def execReinitPolygonTiming (path : Path) (i : Nat) (s : State) : Host.Outcome State Fault Refusal := .next (s.reinitRow path 4 i [])

/-- REINIT_ENCODER (R484): function class 0x05. -/
def execReinitEncoder (path : Path) (i : Nat) (s : State) : Host.Outcome State Fault Refusal := .next (s.reinitRow path 5 i [])

/-- REINIT_POSITION_BASE (R165): function class 0x06. -/
def execReinitPositionBase (path : Path) (s : State) : Host.Outcome State Fault Refusal := .next (s.reinitRow path 6 0 [])

/-- REINIT_LADLE (R238): function class 0x07. -/
def execReinitLadle (path : Path) (s : State) : Host.Outcome State Fault Refusal := .next (s.reinitRow path 7 0 [])

/-- REINIT_CROCK (R484): function class 0x08. -/
def execReinitCrock (path : Path) (s : State) : Host.Outcome State Fault Refusal := .next (s.reinitRow path 8 0 [])

/-- REINIT_DRIVE_CHANNEL (R299): function class 0x09. -/
def execReinitDriveChannel (path : Path) (i : Nat) (s : State) : Host.Outcome State Fault Refusal := .next (s.reinitRow path 9 i [])

/-- REINIT_STEPPER_AXIS (R341): function class 0x0A. -/
def execReinitStepperAxis (path : Path) (i : Nat) (s : State) : Host.Outcome State Fault Refusal := .next (s.reinitRow path 10 i [])

/-- REINIT_LOOP_SLOT (R484): function class 0x0B. -/
def execReinitLoopSlot (path : Path) (i : Nat) (s : State) : Host.Outcome State Fault Refusal := .next (s.reinitRow path 11 i [])

/-- REINIT_HV_CHANNEL (R484): function class 0x0C. -/
def execReinitHvChannel (path : Path) (i : Nat) (s : State) : Host.Outcome State Fault Refusal := .next (s.reinitRow path 12 i [])

/-- REINIT_KETTLE_ZONE (R484): function class 0x0D. -/
def execReinitKettleZone (path : Path) (i : Nat) (s : State) : Host.Outcome State Fault Refusal := .next (s.reinitRow path 13 i [])

/-! ## Rows that write one object -/

/-- ENCODER_ENABLE_WRITE (R27): a write of `Encoder enable`. -/
def execEncoderEnableWrite (path : Path) (n : Nat) (data : Bytes) (s : State) : Host.Outcome State Fault Refusal :=
  if 1 ≤ n ∧ n ≤ 8 then .next (s.writeRow path (0x3000 + n) 1 data) else .next s

/-- AXIS_PRESET (R30): a write of `Axis preset`. -/
def execAxisPreset (path : Path) (n : Nat) (data : Bytes) (s : State) : Host.Outcome State Fault Refusal :=
  if 1 ≤ n ∧ n ≤ 8 then .next (s.writeRow path (0x300F + n) 3 data) else .next s

/-- CAPTURE_CONFIG_WRITE (R33): a write of the configuration word of capture channel 0 to 15. -/
def execCaptureConfigWrite (path : Path) (ch : Nat) (data : Bytes) (s : State) : Host.Outcome State Fault Refusal :=
  if ch ≤ 15 then .next (s.writeRow path 0x3030 (ch + 1) data) else .next s

/-- OVERCURRENT_CLEAR (R46): a write of `Overcurrent clear`. -/
def execOvercurrentClear (path : Path) (data : Bytes) (s : State) : Host.Outcome State Fault Refusal :=
  .next (s.writeRow path 0x3050 6 data)

/-- ALIGNMENT_SOURCE_WRITE (R49): a write of `Alignment source`. -/
def execAlignmentSourceWrite (path : Path) (data : Bytes) (s : State) : Host.Outcome State Fault Refusal :=
  .next (s.writeRow path 0x2400 2 data)

/-- HOST_MARKER (R51): a write of `Host marker`. -/
def execHostMarker (path : Path) (data : Bytes) (s : State) : Host.Outcome State Fault Refusal :=
  .next (s.writeRow path 0x2401 7 data)

/-- LOCK_ENABLE_WRITE (R67): a write of `Lock enable`. -/
def execLockEnableWrite (path : Path) (p : Nat) (data : Bytes) (s : State) : Host.Outcome State Fault Refusal :=
  if 1 ≤ p ∧ p ≤ 3 then .next (s.writeRow path (0x3100 + p) 1 data) else .next s

/-- RELEARN (R77): a write of `Relearn`. -/
def execRelearn (path : Path) (p : Nat) (data : Bytes) (s : State) : Host.Outcome State Fault Refusal :=
  if 1 ≤ p ∧ p ≤ 3 then .next (s.writeRow path (0x3100 + p) 0xE data) else .next s

/-- FACET_SIGNATURE_WRITE (R71): a write of `Facet signature`. -/
def execFacetSignatureWrite (path : Path) (p : Nat) (data : Bytes) (s : State) : Host.Outcome State Fault Refusal :=
  if 1 ≤ p ∧ p ≤ 3 then .next (s.writeRow path (0x3100 + p) 0xD data) else .next s

/-- ENGAGE_REQUEST_WRITE (R84): a write of `Engage request`. -/
def execEngageRequestWrite (path : Path) (n : Nat) (data : Bytes) (s : State) : Host.Outcome State Fault Refusal :=
  if 1 ≤ n ∧ n ≤ 6 then .next (s.writeRow path (0x3300 + 16 * n) 1 data) else .next s

/-- LASER_ENABLE_WRITE (R86): a write of `Laser enable`. -/
def execLaserEnableWrite (path : Path) (n : Nat) (data : Bytes) (s : State) : Host.Outcome State Fault Refusal :=
  if 1 ≤ n ∧ n ≤ 6 then .next (s.writeRow path (0x3300 + 16 * n) 3 data) else .next s

/-- BEAM_RESTORE (R124): a write of `Beam restore`. -/
def execBeamRestore (path : Path) (n : Nat) (data : Bytes) (s : State) : Host.Outcome State Fault Refusal :=
  if 1 ≤ n ∧ n ≤ 6 then .next (s.writeRow path (0x3304 + 16 * n) 4 data) else .next s

/-- RETIRED_BEAMS_WRITE (R124): a write of `Retired beams`. -/
def execRetiredBeamsWrite (path : Path) (n : Nat) (data : Bytes) (s : State) : Host.Outcome State Fault Refusal :=
  if 1 ≤ n ∧ n ≤ 6 then .next (s.writeRow path (0x3304 + 16 * n) 3 data) else .next s

/-- RECIPE_WRITE (R144, R145): a write of recipe 0 to 31. -/
def execRecipeWrite (path : Path) (r : Nat) (data : Bytes) (s : State) : Host.Outcome State Fault Refusal :=
  if r ≤ 31 then .next (s.writeRow path (0x3510 + r) 1 data) else .next s

/-- TAKE_OUT_OF_SERVICE (R212): a write of `Take out of service`. -/
def execTakeOutOfService (path : Path) (data : Bytes) (s : State) : Host.Outcome State Fault Refusal :=
  .next (s.writeRow path 0x3600 0xB data)

/-- LOCK_ACQUIRE (R226): a write of `Lock acquire`. -/
def execLockAcquire (path : Path) (data : Bytes) (s : State) : Host.Outcome State Fault Refusal :=
  .next (s.writeRow path 0x3820 1 data)

/-- LOCK_RELEASE (R226): a write of `Lock release`. -/
def execLockRelease (path : Path) (data : Bytes) (s : State) : Host.Outcome State Fault Refusal :=
  .next (s.writeRow path 0x3820 2 data)

/-- CHANNEL_INPUT_WRITE (R221): a write of `Channel input` of Ladle channel 1 to 16. -/
def execChannelInputWrite (path : Path) (ch : Nat) (data : Bytes) (s : State) : Host.Outcome State Fault Refusal :=
  if 1 ≤ ch ∧ ch ≤ 16 then .next (s.writeRow path 0x3810 ch data) else .next s

/-- DRIVE_ENABLE_WRITE (R297): a write of `Drive enable`. -/
def execDriveEnableWrite (path : Path) (c : Nat) (data : Bytes) (s : State) : Host.Outcome State Fault Refusal :=
  if c ≤ 10 then .next (s.writeRow path (0x4100 + 16 * c) 1 data) else .next s

/-- START_PROFILE (R306): a write of `Start profile`. -/
def execStartProfile (path : Path) (c : Nat) (data : Bytes) (s : State) : Host.Outcome State Fault Refusal :=
  if c ≤ 10 then .next (s.writeRow path (0x4100 + 16 * c) 0x14 data) else .next s

/-- CHOPPER_TEST (R310): a write of `Chopper test`. -/
def execChopperTest (path : Path) (data : Bytes) (s : State) : Host.Outcome State Fault Refusal :=
  .next (s.writeRow path 0x410F 5 data)

/-- BUS_RECONNECT (R311): a write of `Bus reconnect`. -/
def execBusReconnect (path : Path) (data : Bytes) (s : State) : Host.Outcome State Fault Refusal :=
  .next (s.writeRow path 0x410F 9 data)

/-- AXIS_ENABLE_WRITE (R323): a write of `Axis enable`. -/
def execAxisEnableWrite (path : Path) (n : Nat) (data : Bytes) (s : State) : Host.Outcome State Fault Refusal :=
  if 1 ≤ n ∧ n ≤ 12 then .next (s.writeRow path (0x43F0 + 16 * n) 1 data) else .next s

/-- START_MOVE (R328): a write of `Start move`. -/
def execStartMove (path : Path) (n : Nat) (data : Bytes) (s : State) : Host.Outcome State Fault Refusal :=
  if 1 ≤ n ∧ n ≤ 12 then .next (s.writeRow path (0x43F0 + 16 * n) 7 data) else .next s

/-- TARGET_POSITION_WRITE (R328): a write of `Target position`. -/
def execTargetPositionWrite (path : Path) (n : Nat) (data : Bytes) (s : State) : Host.Outcome State Fault Refusal :=
  if 1 ≤ n ∧ n ≤ 12 then .next (s.writeRow path (0x43F0 + 16 * n) 6 data) else .next s

/-- STOP (R331): a write of `Stop`. -/
def execStop (path : Path) (n : Nat) (data : Bytes) (s : State) : Host.Outcome State Fault Refusal :=
  if 1 ≤ n ∧ n ≤ 12 then .next (s.writeRow path (0x43F0 + 16 * n) 8 data) else .next s

/-- POSITION_PRESET (R325): a write of `Position preset`. -/
def execPositionPreset (path : Path) (n : Nat) (data : Bytes) (s : State) : Host.Outcome State Fault Refusal :=
  if 1 ≤ n ∧ n ≤ 12 then .next (s.writeRow path (0x43F0 + 16 * n) 9 data) else .next s

/-- START_HOMING (R336): a write of `Start homing`. -/
def execStartHoming (path : Path) (n : Nat) (data : Bytes) (s : State) : Host.Outcome State Fault Refusal :=
  if 1 ≤ n ∧ n ≤ 12 then .next (s.writeRow path (0x43F0 + 16 * n) 0xA data) else .next s

/-- SLOT_ENABLE_WRITE (R351): a write of `Slot enable`. -/
def execSlotEnableWrite (path : Path) (slot : Nat) (data : Bytes) (s : State) : Host.Outcome State Fault Refusal :=
  if slot ≤ 63 then .next (s.writeRow path (0x4800 + slot) 1 data) else .next s

/-- MODE_WRITE (R351): a write of `Mode`. -/
def execModeWrite (path : Path) (slot : Nat) (data : Bytes) (s : State) : Host.Outcome State Fault Refusal :=
  if slot ≤ 63 then .next (s.writeRow path (0x4800 + slot) 7 data) else .next s

/-- LOOP_TARGET_WRITE (R357): a write of `Target`. -/
def execLoopTargetWrite (path : Path) (slot : Nat) (data : Bytes) (s : State) : Host.Outcome State Fault Refusal :=
  if slot ≤ 63 then .next (s.writeRow path (0x4800 + slot) 8 data) else .next s

/-- HV_ENABLE_WRITE (R360): a write of `HV enable`. -/
def execHvEnableWrite (path : Path) (h : Nat) (data : Bytes) (s : State) : Host.Outcome State Fault Refusal :=
  if 1 ≤ h ∧ h ≤ 20 then .next (s.writeRow path (0x4D00 + h) 1 data) else .next s

/-- HOST_SWITCH (R361): a write of `Host switch`. -/
def execHostSwitch (path : Path) (h : Nat) (data : Bytes) (s : State) : Host.Outcome State Fault Refusal :=
  if 1 ≤ h ∧ h ≤ 20 then .next (s.writeRow path (0x4D00 + h) 5 data) else .next s

/-- ZONE_ENABLE_WRITE (R365): a write of `Zone enable`. -/
def execZoneEnableWrite (path : Path) (z : Nat) (data : Bytes) (s : State) : Host.Outcome State Fault Refusal :=
  if 1 ≤ z ∧ z ≤ 3 then .next (s.writeRow path (0x4C00 + z) 1 data) else .next s

/-- DOMAIN_REQUEST_WRITE (R383): a write of `Domain request`. -/
def execDomainRequestWrite (path : Path) (data : Bytes) (s : State) : Host.Outcome State Fault Refusal :=
  .next (s.writeRow path 0x2040 1 data)

/-- CHANNEL_ENABLE_WRITE (R387): a write of `Channel enable` of temperature channel 1 to 36. -/
def execChannelEnableWrite (path : Path) (t : Nat) (data : Bytes) (s : State) : Host.Outcome State Fault Refusal :=
  if 1 ≤ t ∧ t ≤ 36 then .next (s.writeRow path (0x210F + t) 1 data) else .next s

/-- FAULT_CLEAR (R412): a write of `Fault clear`. -/
def execFaultClear (path : Path) (data : Bytes) (s : State) : Host.Outcome State Fault Refusal :=
  .next (s.writeRow path 0x2200 9 data)

/-- STICKY_CLEAR (R402): a write of `Sticky clear`. -/
def execStickyClear (path : Path) (data : Bytes) (s : State) : Host.Outcome State Fault Refusal :=
  .next (s.writeRow path 0x2201 3 data)

/-- REACTION_MAP_WRITE (R406): a write of `Reaction map`. -/
def execReactionMapWrite (path : Path) (data : Bytes) (s : State) : Host.Outcome State Fault Refusal :=
  .next (s.writeRow path 0x2210 1 data)

/-- INJECT (R415): a write of `Inject`. -/
def execInject (path : Path) (data : Bytes) (s : State) : Host.Outcome State Fault Refusal :=
  .next (s.writeRow path 0x2220 4 data)

/-- STANDBY_RELOAD (R438): a write of `Standby reload`. -/
def execStandbyReload (path : Path) (data : Bytes) (s : State) : Host.Outcome State Fault Refusal :=
  .next (s.writeRow path 0x2300 0xC data)

/-- PLANNED_SWITCH_OVER (R439): a write of `Planned switch-over`. -/
def execPlannedSwitchOver (path : Path) (data : Bytes) (s : State) : Host.Outcome State Fault Refusal :=
  .next (s.writeRow path 0x2300 0xB data)

/-- ATTEST_OBJECT (R478): a write of `Attest`. -/
def execAttestObject (path : Path) (data : Bytes) (s : State) : Host.Outcome State Fault Refusal :=
  .next (s.writeRow path 0x2440 2 data)

/-- MODULE_RESET_OBJECT (R485): a write of `Module reset`. -/
def execModuleResetObject (path : Path) (data : Bytes) (s : State) : Host.Outcome State Fault Refusal :=
  .next (s.writeRow path 0x2011 1 data)

/-- POWER_CYCLE_REQUEST (R490): a write of `Power cycle request`. -/
def execPowerCycleRequest (path : Path) (data : Bytes) (s : State) : Host.Outcome State Fault Refusal :=
  .next (s.writeRow path 0x2011 2 data)

/-- EXPECTED_MEASUREMENTS_WRITE (R473): a write of `Expected mask` (:01) or `Expected values` (:02). -/
def execExpectedMeasurementsWrite (path : Path) (sub : Nat) (data : Bytes) (s : State) : Host.Outcome State Fault Refusal :=
  if sub = 1 ∨ sub = 2 then .next (s.writeRow path 0x2420 sub data) else .next s

/-- MISMATCH_ACKNOWLEDGE (R476): a write of `Mismatch acknowledge`. -/
def execMismatchAcknowledge (path : Path) (data : Bytes) (s : State) : Host.Outcome State Fault Refusal :=
  .next (s.writeRow path 0x2420 4 data)

end Sys2Proof.Machine
end

