-- ==== Sys2Proof/Machine/Startup.lean ====
section
/-! DEFINITION. Start-up, module reset, the boot watchdog and the power cycle request (R18, R54, R280, R467 to R469, R472, R473, R481 to
R490). A start takes no time of its own: what R467 spreads over 1.8 s happens in one step. -/

namespace Sys2Proof.Machine

/-- The end of the power cycle request's pulse (R490). -/
def tmPowerPulse : Nat := timer 35 0

/-! ## The stored record -/

/-- The checks a stored value passes by itself: its object is there, it is in the stored set, and its length, type, range and content
are good, beside the other stored values of its index (R280). -/
def State.storedGood (s : State) (w : New) (index sub : Nat) (v : Val) : Bool :=
  match s.objectAbsent index, rowOf index sub with
  | none, some r =>
    let b := r.ty.encode v
    let mapping := if index = 0x1600 ∨ index = 0x1A00 then
        (if sub = 0 then s.mappingAbort index w else s.mapEntryAbort (index == 0x1600) v.nat)
      else if index = 0x1C32 then none
      else s.contentAbort .ethercat index sub w v
    storedKey 1 (K index sub) && ((typeAbort r index b).isNone && ((rangeAbort r index sub v).isNone && mapping.isNone))
  | _, _ => false

/-- The record a start reads: the MRAM copy, or the Crock's where that fails its check and the Crock is up (R280). -/
def State.startRecord (s : State) : Tab Val :=
  match s.svc.mirror with
  | some r => r
  | none => if s.crockUp then s.svc.stored else []

/-- The stored values of an index. -/
def State.storedOf (s : State) (index : Nat) : New := (s.startRecord.filter (fun x => x.1 / 256 == index)).map (fun x => (x.1 % 256, x.2))

/-- A stored value is loaded where it passes its own checks (R280). -/
def State.loadStored (s : State) (x : Nat × Val) : State :=
  if s.storedGood (s.storedOf (x.1 / 256)) (x.1 / 256) (x.1 % 256) x.2 then s.put x.1 x.2 else s

/-- Objects of other indices that a rule of an index names beside its own. -/
def relatedKeys (index sub : Nat) : List Nat :=
  if index = 0x2100 ∧ sub = 9 then [K 0x410F 1]
  else if 0x3310 ≤ index ∧ index ≤ 0x336F ∧ index % 16 = 1 then [sc (stationOfIndex index) 1]
  else []

/-- The objects of the rules between objects that the loaded values break (R280). -/
def State.brokenKeys (s : State) : List Nat :=
  let indices := (s.startRecord.map (fun x => x.1 / 256)).eraseDups
  indices.flatMap (fun i => (s.relations i []).flatMap (fun r =>
    if r.broken.isSome then r.subs.map (K i) ++ r.subs.flatMap (relatedKeys i) else []))

/-- The values that the Trivet takes by itself at each start: recovery, `Preferred active` and the boot slots (R421, R468, R491). -/
def State.preload (s : State) : State :=
  let keys := [K 0x2011 3, K 0x2011 4, K 0x2011 5, K 0x2300 0xD, K 0x3701 6, K 0x3701 7]
  s.each (s.startRecord.filter (fun x => keys.contains x.1)) State.loadStored

/-- The stored record is loaded in ascending order, then the rules between objects are checked; EV103 subcode 3 names the first object
left at its default (R280). -/
def State.loadRecord (s : State) : State :=
  let s1 := s.each s.startRecord State.loadStored
  let broken := s1.brokenKeys
  let s2 := s1.each broken State.forgetOne
  let left := s.presentRecord.filter (fun x => decide (s2.val x.1 ≠ x.2))
  let s3 := { s2 with svc := { s2.svc with partly := !left.isEmpty } }
  let s4 := match left with
    | [] => s3
    | x :: _ => s3.event 103 (3 + x.1 % 256 * 2 ^ 24 + x.1 / 256 * 2 ^ 32)
  s4.alignmentSource 0 (s4.n (K 0x2400 2))

/-! ## What a reset leaves -/

/-- Objects that a module reset leaves: what the Trivet and MRAM hold, but for NTC channels and for what can be written (R482, R516). -/
def keepsReset (k : Nat) : Bool :=
  let index := k / 256
  let sub := k % 256
  let readOnly := match rowOf index sub with
    | some r => r.accOf index sub == .ro
    | none => false
  if index = 0x3700 then decide (7 ≤ sub ∧ sub ≤ 9)
  else readOnly && (index == 0x3701 || (index == 0x3020 || (index == 0x410F || (decide (0x2000 ≤ index ∧ index ≤ 0x24FF) &&
    (index != 0x2060 && !decide (0x2110 ≤ index ∧ index ≤ 0x2127))))))

/-- Objects that a power cycle leaves: what MRAM holds (R51, R462, R482). -/
def keepsPower (k : Nat) : Bool :=
  k == K 0x2401 6 || (decide (K 0x3700 7 ≤ k ∧ k ≤ K 0x3700 9) || decide (K 0x3701 1 ≤ k ∧ k ≤ K 0x3701 5))

/-- Timers that run in the Trivet through a module reset: supply, chopper, health report, consequence windows, quiet period,
discrepancy. -/
def keepsTimer (t : Nat) : Bool := [5, 21, 24, 37, 38, 39].contains (t / 65536)

/-- The Crock with no power: its contents and its MRAM (R482). -/
def Crock.unpowered (c : Crock) : Crock :=
  { c with objects := c.objects.map (fun o => { o with link := 0 }), commands := [], copies := [], before := 2 }

/-- The measurement slots and acknowledgements are cleared; a power cycle request and `RESET_N` stand (R472, R476, R482). -/
def Trust.cleared (t : Trust) (stamp : Nat) : Trust :=
  { released := 1, started := false, resetAt := some stamp, resetLow := t.resetLow, cyclePin := t.cyclePin, cycleId := t.cycleId,
    candidate := t.candidate, automatic := t.automatic }

/-- The state that steps 1 and 2 of a module reset leave, once every domain is off (R482, R485). -/
def State.cleared (s : State) : State :=
  { s with
    rings := []
    od := s.od.filter (fun x => keepsReset x.1)
    timers := s.timers.filter (fun x => keepsTimer x.1)
    pos := { mains := s.pos.mains, a1Held := s.pos.a1Held }
    polygons := []
    stations := []
    pages := { lost := true }
    press := { nextBlock := s.press.nextBlock, nextJob := s.press.nextJob }
    fabric := { host := s.fabric.host }
    drives := { s.drives with units := [], lost := 0, tripped := false }
    steppers := []
    loops := {}
    crock := s.crock.unpowered
    power := { s.power with domains := [], thermo := s.power.thermo.filter (fun x => decide (25 ≤ x.1)) }
    twin := { entries := s.twin.entries.map (fun e => { e with before := [] }), used := s.twin.used, bank := s.twin.bank,
              sequence := s.twin.sequence, mramBase := s.twin.mramBase, mramFinal := s.twin.mramFinal, dictionaryUp := false,
              held := true }
    trust := s.trust.cleared s.stamp
    svc := { stored := s.svc.stored, mirror := s.svc.mirror } }

/-- The checkpoint that MRAM holds: the newest base, and the final delta that follows it (R377, R431, R486). -/
def Twin.mram (t : Twin) : List Checkpoint :=
  match t.mramBase, t.mramFinal with
  | some b, some f => if b.stamp ≤ f.stamp ∧ b.sequence ≠ f.sequence then [b, f] else [b]
  | some b, none => [b]
  | none, _ => []

/-- The state that the loss of power leaves (R376, R482): MRAM, the Crock's contents and the stored record. -/
def State.unpowered (s : State) : State :=
  let entries := s.twin.mram.map (fun e => { e with before := [] })
  { s6 := s.s6
    od := s.od.filter (fun x => keepsPower x.1)
    fabric := { host := s.fabric.host }
    pages := { lost := true }
    crock := s.crock.unpowered
    power := { trivet := false, lostAfter := if s.power.supply = 2 then some ((s.stamp - s.power.resetAt) / 1000) else none }
    twin := { entries := entries, used := total (entries.map (fun e => 32 + e.length)),
              sequence := (entries.getLast?.map (fun e => e.sequence)).getD 0, mramBase := s.twin.mramBase,
              mramFinal := s.twin.mramFinal, dictionaryUp := false, held := true }
    trust := { resetLow := s.trust.resetLow, started := false }
    svc := { stored := s.svc.stored, mirror := s.svc.mirror }
    drawn := s.drawn
    pending := s.pending }

/-! ## Going down -/

/-- A domain goes through STOPPING to OFF, for a start (R384, R485): EV002 with cause 6. -/
def State.stopNow (s : State) (pd : Nat) : State :=
  let s1 := s.setRequest pd false
  let off (t : State) : State :=
    let u := (t.setDomainState pd 0 6).domainOff pd
    if pd = 6 then u.setQuiesce 2 false else u
  match (s.domain pd).state with
  | 1 => off ((s1.disarm (tmRamp pd)).setDomainState pd 3 6)
  | 2 => off (s1.stopDomain pd 6)
  | 3 => off s1
  | 4 => s1.setDomainState pd 0 6
  | _ => s1.setDomain pd { s1.domain pd with deferred := false }

/-- An injection in progress ends: EV018 subcode 3 (R415). -/
def State.endInjection (s : State) : State :=
  if s.lid.target = 0 then s
  else
    ({ s with lid := { s.lid with target := 0 } }.setn (K 0x2220 5) 0).eventHw 18 (3 + s.lid.target * 65536 + s.lid.injected * 2 ^ 48)

/-- The host link of a module that goes down is lost with cause 2 (R258, R265). -/
def State.dropLink (s : State) : State :=
  if s.linkUp then (((s.setb (K 0x3830 1) false).setn (K 0x3830 2) 0).setn (K 0x3830 3) 0).linkLost 2 else s

/-- Every output is inert, every enable cleared, and every switched domain off (R482, R485). -/
def State.goDown (s : State) : State :=
  let s0 := { s with twin := { s.twin with switching := false, planned := 0 } }
  let s1 := s0.endInjection.dropLink.each (upFrom 1 16) State.stopNow
  ((s1.alignmentSource 1 0).cleared.setn (K 0x2040 1) 0).refreshThrottle 0

/-! ## Coming up -/

/-- A domain that the start requests is ON (R384, R395). -/
def State.domainStarts (s : State) (pd : Nat) : State := ((((s.setRequest pd true).setDomainState pd 1 6).setDomainState pd 2 6).domainUp pd []).lidMeets pd

/-- The Crock mounts (R450). -/
def State.mounted (s : State) (good : Bool) : State :=
  match execCrockMount good s with
  | .next t => t
  | _ => s

/-- The start from step 3 of R467, with the supply NORMAL and no Class D in force. -/
def State.startAll (s : State) (b : Boot) : State :=
  let p := s.preferred
  let load (t : State) (u : Nat) : State := t.startLoaded u (!b.failing.contains u) b.bad
  let s1 := (s.each [3, 6] State.domainStarts).mounted b.mounts
  let s2 := (s1.each [1, 2] State.domainStarts).each [p, otherUnit p] load
  let s3 := (s2.each [7, 8] State.domainStarts).loadRecord
  let s4 := (s3.setMeasurement 3 1 (sha384 (recordBytes s3.startRecord (fun k => k / 256 != 0x2420)))).evaluateSlots
  let s5 := ({ s4 with twin := { s4.twin with held := false } }.beginPeriod).after tmDelta 1000000
  if b.runs then s5.resume else s5

/-- The start while a Class D is in force brings up the preferred unit's domain only; in WARNING it only requests domains (R485, R513).
What follows comes with the domains. -/
def State.startHeld (s : State) : State :=
  let s1 := s.loadRecord
  let s2 := (s1.setMeasurement 3 1 (sha384 (recordBytes s1.startRecord (fun k => k / 256 != 0x2420)))).evaluateSlots
  let s3 := ({ s2 with twin := { s2.twin with held := false } }.beginPeriod).after tmDelta 1000000
  if s3.classAtLeast 4 then (if s3.power.supply = 1 then s3.requestOwn [s3.preferred] 6 else s3.domainStarts s3.preferred)
  else s3.requestOwn baseDomains 6

/-- The module starts from step 3 of R467, unless `RESET_N`, the supply's RESET or an active power cycle request holds it (R485, R490). -/
def State.startup (s : State) (b : Boot) : State :=
  if s.trust.resetLow || (s.trust.cyclePin || (s.power.supply == 2 || !s.power.trivet)) then s
  else
    let s1 := { s with svc := { s.svc with mirror := if b.mram then s.svc.mirror else none } }.preload
    let s2 := (s1.setn (K 0x2300 1) s1.preferred).setMeasurement 0 1 ((upFrom 0 48).map Config.anchorDigest)
    let s3 := s2.after tmBoot (s2.n (K 0x2011 4) * 1000000)
    if s3.classAtLeast 4 || s3.power.supply == 1 then s3.startHeld else s3.startAll b

/-! ## Module reset -/

/-- The subcode of EV034 for a set of causes: 1 more than the lowest (R492). -/
def resetSubcode (causes : Nat) : Nat := (bitsSet 6 causes).headD 0 + 1

/-- Pages of the table that the restart restores and reports lost (R486). -/
def State.pagesLost (s : State) : Nat := ((s.goodEntries.getLast?.map (fun e => e.pages)).getD []).length

/-- The payload of EV034 (R492). -/
def State.resetPayload (s : State) (causes : Nat) : Nat :=
  resetSubcode causes + causes * 256 + s.pagesLost % 65536 * 65536 + s.n (K 0x2011 7) * 2 ^ 32

/-- A module reset for one or more causes: bit 1 `RESET_N`, 2 dictionary, 3 ring 62, 4 supply RESET, 5 boot watchdog (R485, R489, R492).
It ends with the module held; a cause of the same grid step as an earlier reset joins that one (R488). -/
def State.resetDown (s : State) (causes : Nat) : State :=
  if s.trust.resetAt = some s.stamp ∧ s.twin.held = true ∧ (s.ev.held.any (fun r => r.source == 34 && r.stamp == s.stamp)) = true then
    let all := s.n (K 0x2011 6) ||| causes
    let s1 := s.setn (K 0x2011 6) all
    { s1 with ev := { s1.ev with held := s1.ev.held.map (fun r =>
        if r.type = 1 ∧ r.source = 34 ∧ r.stamp = s.stamp ∧ r.payload % 256 ≤ 6 then
          { r with payload := r.payload / 65536 * 65536 + all * 256 + resetSubcode all } else r) } }
  else
    let c := if bitOf causes 5 then min 2 (s.trust.candidate + 1) else 0
    let host := decide (causes &&& 0xE ≠ 0)
    let s1 := (s.bump (K 0x2011 7)).setn (K 0x2011 6) causes
    let s2 := s1.event 34 (s1.resetPayload causes)
    { s2 with trust := { s2.trust with candidate := c, automatic := s2.trust.automatic || host } }.goDown

/-- A module reset, and the start that follows where nothing holds it. -/
def State.moduleReset (s : State) (causes : Nat) (b : Boot) : State := (s.resetDown causes).startup b

/-- A power cycle is requested (R490): outputs inert, domains off, the pin active, EV035 subcode 4. -/
def State.requestCycle (s : State) (id : Nat) (automatic : Bool) : State :=
  if s.trust.cyclePin then s
  else
    let pulse := s.n (K 0x2011 3) * 1000000
    let mismatch := s.n (K 0x2420 3) * 256
    let s1 := s.goDown
    let t : Trust := { s1.trust with cyclePin := true, cycleId := id, automatic := if automatic then false else true }
    ({ s1 with trust := t }.event 35 (4 + mismatch + id * 65536)).after tmPowerPulse pulse

/-- MODULE_RESET_ACT (R480, R485, R488, R490): what was asked for 1.0 ms ago acts: a module reset, or a power cycle request. -/
def execModuleResetAct (boot : Boot) (s : State) : Host.Outcome State Fault Refusal :=
  let causes := 4 * b2n (s.due (tmReset 0)) + 8 * b2n (s.due (tmReset 1))
  if causes ≠ 0 then .next (s.moduleReset causes boot)
  else if s.due (tmCycle 1) then .next ((s.disarm (tmCycle 1)).requestCycle s.trust.cycleId false)
  else if s.due (tmCycle 0) then .next ((s.disarm (tmCycle 0)).requestCycle 0 false)
  else .next s

/-- RESET_N_LOW (R487): 10 µs and more reset the module and hold it; a low level of 1 µs or more is recorded; a shorter one is not. What
a level from 9.96 µs to 10 µs does is left open (log entry 195). -/
def execResetNLow (ns : Nat) (s : State) : Host.Outcome State Fault Refusal :=
  if 10000 ≤ ns ∨ (9960 ≤ ns ∧ Config.resetFilter ns s.stamp = true) then
    .next ({ s with trust := { s.trust with resetLow := true } }.resetDown 2)
  else if 1000 ≤ ns then .next (s.event 34 (8 + 2 * 256 + ns * 2 ^ 32))
  else .next s

/-- RESET_N_RELEASE (R485, R487): the rising edge ends the reset. -/
def execResetNRelease (boot : Boot) (s : State) : Host.Outcome State Fault Refusal :=
  if s.trust.resetLow then
    let s1 := { s with trust := { s.trust with resetLow := false } }
    .next (if s1.twin.held then s1.startup boot else s1)
  else .next s

/-- BOOT_WATCHDOG_EXPIRED (R489, R490): a module reset with cause 6, or after `Boot retries` of them a power cycle request. -/
def execBootWatchdogExpired (boot : Boot) (s : State) : Host.Outcome State Fault Refusal :=
  if s.due tmBoot && !s.twin.dictionaryUp then
    let s1 := s.disarm tmBoot
    let retries := s.n (K 0x2011 5)
    let count := s.n (K 0x2011 8)
    if retries = 0 ∨ s.trust.automatic = false then .next s1
    else if retries ≤ count then .next (s1.requestCycle 0 true)
    else .next ((s1.setn (K 0x2011 8) (count + 1)).moduleReset 32 boot)
  else .next s

/-- POWER_CYCLE_PULSE_EXPIRED (R490): mains is still there: the pin is released, EV035 subcode 5, and the module starts. -/
def execPowerCyclePulseExpired (boot : Boot) (s : State) : Host.Outcome State Fault Refusal :=
  if s.trust.cyclePin && s.due tmPowerPulse then
    let s1 := ({ s with trust := { s.trust with cyclePin := false } }.disarm tmPowerPulse).event 35
      (5 + s.n (K 0x2420 3) * 256 + s.trust.cycleId * 65536)
    .next (s1.startup boot)
  else .next s

/-- SUPPLY_RECOVERY_ELAPSED (R376, R395, R485): from WARNING the supply is NORMAL again; from RESET EV001 is written and the module is
reset with cause bit 4. -/
def execSupplyRecoveryElapsed (boot : Boot) (s : State) : Host.Outcome State Fault Refusal :=
  if s.due tmSupply then
    if s.power.supply = 1 then .next s.supplyNormal
    else if s.power.supply = 2 then
      .next ((s.supplyNormal.event 1 (1 + (s.stamp - s.power.resetAt) / 1000 * 2 ^ 32)).moduleReset 16 boot)
    else .next (s.disarm tmSupply)
  else .next s

/-! ## Power -/

/-- TRIVET_RAIL_LOST (R376, R482): the module has no power, and the next start is a cold power-up. -/
def execTrivetRailLost (s : State) : Host.Outcome State Fault Refusal := .next s.unpowered

/-- COLD_POWER_UP (R54, R467, R482, R492): the Trivet is released, the Stamp Clock starts at 0, the first record of the trace is the
epoch marker, and the module starts. -/
def execColdPowerUp (boot : Boot) (s : State) : Host.Outcome State Fault Refusal :=
  let s1 := { s.unpowered with power := {}, trust := { s.unpowered.trust with resetAt := some 0 } }.bump (K 0x2401 6)
  let marker := s1.record 5 0 (s1.n (K 0x2401 6)) false
  let s0 := s1.place marker marker.ring false false
  let s2 := { s0 with ev := { s0.ev with newest := some 0 } }.setn (K 0x2011 6) 1
  let s3 := match s.power.trivet, s.power.lostAfter with
    | false, some t => s2.event 1 (2 + t * 2 ^ 32)
    | _, _ => s2
  .next (((s3.event 34 (s3.resetPayload 1)).after tmHealth 86400000000000).startup boot)

end Sys2Proof.Machine
end

