-- ==== Sys2Proof/Machine/Dispatch.lean ====
section
/-! DEFINITION. The one dispatch of the model: one arm per command, one direct call of its meaning. -/

namespace Sys2Proof.Machine

/-- The effect of a command on everything but the queue of waiting commands. -/
def exec (i : Instr) (s : State) : Host.Outcome State Fault Refusal :=
  match i with
  | .coldPowerUp boot => Sys2Proof.Machine.execColdPowerUp boot s
  | .trivetRailLost => Sys2Proof.Machine.execTrivetRailLost s
  | .dictionaryWrite path index sub data answers => Sys2Proof.Machine.execDictionaryWrite path index sub data answers s
  | .sdoDownload index sub data answers => Sys2Proof.Machine.execSdoDownload index sub data answers s
  | .sdoUpload index sub => Sys2Proof.Machine.execSdoUpload index sub s
  | .sdoCompleteAccess write index start data => Sys2Proof.Machine.execSdoCompleteAccess write index start data s
  | .getOdList => Sys2Proof.Machine.execGetOdList s
  | .getObjectDescription index => Sys2Proof.Machine.execGetObjectDescription index s
  | .getEntryDescription index sub => Sys2Proof.Machine.execGetEntryDescription index sub s
  | .mailboxRead entry hostOk => Sys2Proof.Machine.execMailboxRead entry hostOk s
  | .mailboxWrite entry host answers => Sys2Proof.Machine.execMailboxWrite entry host answers s
  | .mailboxReadComplete entry hostOk => Sys2Proof.Machine.execMailboxReadComplete entry hostOk s
  | .mailboxWriteComplete entry host => Sys2Proof.Machine.execMailboxWriteComplete entry host s
  | .esmStateRequest state managers sync0Active => Sys2Proof.Machine.execEsmStateRequest state managers sync0Active s
  | .pdoCycle rx => Sys2Proof.Machine.execPdoCycle rx s
  | .sm2WatchdogExpired => Sys2Proof.Machine.execSm2WatchdogExpired s
  | .portLinkChange ports => Sys2Proof.Machine.execPortLinkChange ports s
  | .storeParameters path sub value => Sys2Proof.Machine.execStoreParameters path sub value s
  | .restoreDefaultParameters path sub value => Sys2Proof.Machine.execRestoreDefaultParameters path sub value s
  | .encoderEdge n edge err => Sys2Proof.Machine.execEncoderEdge n edge err s
  | .encoderStandstillTimeout n => Sys2Proof.Machine.execEncoderStandstillTimeout n s
  | .encoderSignalInvalid n => Sys2Proof.Machine.execEncoderSignalInvalid n s
  | .encoderEnableWrite path n data => Sys2Proof.Machine.execEncoderEnableWrite path n data s
  | .axisPreset path n data => Sys2Proof.Machine.execAxisPreset path n data s
  | .capture ch rising ns => Sys2Proof.Machine.execCapture ch rising ns s
  | .captureConfigWrite path ch data => Sys2Proof.Machine.execCaptureConfigWrite path ch data s
  | .mainsZeroCrossing positive => Sys2Proof.Machine.execMainsZeroCrossing positive s
  | .mainsCrossingMissing => Sys2Proof.Machine.execMainsCrossingMissing s
  | .mainsHoldoverExpired => Sys2Proof.Machine.execMainsHoldoverExpired s
  | .setOutput slot => Sys2Proof.Machine.execSetOutput slot s
  | .clearOutput slot => Sys2Proof.Machine.execClearOutput slot s
  | .divert slot => Sys2Proof.Machine.execDivert slot s
  | .startImage slot => Sys2Proof.Machine.execStartImage slot s
  | .stopImage slot => Sys2Proof.Machine.execStopImage slot s
  | .releaseBands slot => Sys2Proof.Machine.execReleaseBands slot s
  | .hvOn slot => Sys2Proof.Machine.execHvOn slot s
  | .hvRamp slot => Sys2Proof.Machine.execHvRamp slot s
  | .hvOff slot => Sys2Proof.Machine.execHvOff slot s
  | .stepMove slot => Sys2Proof.Machine.execStepMove slot s
  | .driveProfile slot => Sys2Proof.Machine.execDriveProfile slot s
  | .raiseEvent slot => Sys2Proof.Machine.execRaiseEvent slot s
  | .checkInput slot level => Sys2Proof.Machine.execCheckInput slot level s
  | .deliveryCheck slot => Sys2Proof.Machine.execDeliveryCheck slot s
  | .pageState slot => Sys2Proof.Machine.execPageState slot s
  | .outputOvercurrent mask => Sys2Proof.Machine.execOutputOvercurrent mask s
  | .overcurrentClear path data => Sys2Proof.Machine.execOvercurrentClear path data s
  | .stampSyncEdge rising ns => Sys2Proof.Machine.execStampSyncEdge rising ns s
  | .dcSyncCycle time => Sys2Proof.Machine.execDcSyncCycle time s
  | .alignmentSyncLost => Sys2Proof.Machine.execAlignmentSyncLost s
  | .alignmentSourceWrite path data => Sys2Proof.Machine.execAlignmentSourceWrite path data s
  | .hostMarker path data => Sys2Proof.Machine.execHostMarker path data s
  | .traceEntry => Sys2Proof.Machine.execTraceEntry s
  | .drainHoldoffExpired ring => Sys2Proof.Machine.execDrainHoldoffExpired ring s
  | .sosWindowOpen n => Sys2Proof.Machine.execSosWindowOpen n s
  | .facetSos n crossings => Sys2Proof.Machine.execFacetSos n crossings s
  | .eosMeasured n crossings => Sys2Proof.Machine.execEosMeasured n crossings s
  | .lockEnableWrite path p data => Sys2Proof.Machine.execLockEnableWrite path p data s
  | .seekTimeout p => Sys2Proof.Machine.execSeekTimeout p s
  | .relearn path p data => Sys2Proof.Machine.execRelearn path p data s
  | .facetSignatureWrite path p data => Sys2Proof.Machine.execFacetSignatureWrite path p data s
  | .engageRequestWrite path n data => Sys2Proof.Machine.execEngageRequestWrite path n data s
  | .stationEngageChange n => Sys2Proof.Machine.execStationEngageChange n s
  | .laserEnableWrite path n data => Sys2Proof.Machine.execLaserEnableWrite path n data s
  | .apcSequence n answers => Sys2Proof.Machine.execApcSequence n answers s
  | .readCurrent n beam answers => Sys2Proof.Machine.execReadCurrent n beam answers s
  | .driverStatusPoll n driver answers => Sys2Proof.Machine.execDriverStatusPoll n driver answers s
  | .beamRestore path n data => Sys2Proof.Machine.execBeamRestore path n data s
  | .retiredBeamsWrite path n data => Sys2Proof.Machine.execRetiredBeamsWrite path n data s
  | .vcselThermistorSample n ohms => Sys2Proof.Machine.execVcselThermistorSample n ohms s
  | .laserOffEndOfLine n => Sys2Proof.Machine.execLaserOffEndOfLine n s
  | .pagePlanSubmit entry => Sys2Proof.Machine.execPagePlanSubmit entry s
  | .release entry => Sys2Proof.Machine.execRelease entry s
  | .cancel entry => Sys2Proof.Machine.execCancel entry s
  | .reprint entry => Sys2Proof.Machine.execReprint entry s
  | .markSpoiled entry => Sys2Proof.Machine.execMarkSpoiled entry s
  | .recipeWrite path r data => Sys2Proof.Machine.execRecipeWrite path r data s
  | .admissionTest inputs => Sys2Proof.Machine.execAdmissionTest inputs s
  | .commit => Sys2Proof.Machine.execCommit s
  | .gateSkip => Sys2Proof.Machine.execGateSkip s
  | .deliveryEdge input rising => Sys2Proof.Machine.execDeliveryEdge input rising s
  | .deliveryWindowExpired tag => Sys2Proof.Machine.execDeliveryWindowExpired tag s
  | .pageDeadlineExpired tag => Sys2Proof.Machine.execPageDeadlineExpired tag s
  | .webBreak => Sys2Proof.Machine.execWebBreak s
  | .splice => Sys2Proof.Machine.execSplice s
  | .spliceCleared => Sys2Proof.Machine.execSpliceCleared s
  | .checkLaneComplete lane poison => Sys2Proof.Machine.execCheckLaneComplete lane poison s
  | .decodeBlockComplete lane good stalls => Sys2Proof.Machine.execDecodeBlockComplete lane good stalls s
  | .laneFault code kind => Sys2Proof.Machine.execLaneFault code kind s
  | .laneSelfTestDone code result => Sys2Proof.Machine.execLaneSelfTestDone code result s
  | .takeOutOfService path data => Sys2Proof.Machine.execTakeOutOfService path data s
  | .encodeBuffer lane entry host poison => Sys2Proof.Machine.execEncodeBuffer lane entry host poison s
  | .encodeBand lane entry host poison => Sys2Proof.Machine.execEncodeBand lane entry host poison s
  | .encodeJobComplete lane verified writeOk stalls => Sys2Proof.Machine.execEncodeJobComplete lane verified writeOk stalls s
  | .streamInput k => Sys2Proof.Machine.execStreamInput k s
  | .streamFlush k => Sys2Proof.Machine.execStreamFlush k s
  | .streamClose k => Sys2Proof.Machine.execStreamClose k s
  | .fabricTransactionComplete input address length write revokers ecc => Sys2Proof.Machine.execFabricTransactionComplete input address length write revokers ecc s
  | .scrubRead address ecc => Sys2Proof.Machine.execScrubRead address ecc s
  | .scrubPeriodExpired => Sys2Proof.Machine.execScrubPeriodExpired s
  | .lockAcquire path data => Sys2Proof.Machine.execLockAcquire path data s
  | .lockRelease path data => Sys2Proof.Machine.execLockRelease path data s
  | .fenceOnly ch entry host => Sys2Proof.Machine.execFenceOnly ch entry host s
  | .copyList ch entry host => Sys2Proof.Machine.execCopyList ch entry host s
  | .copyIndex ch entry host => Sys2Proof.Machine.execCopyIndex ch entry host s
  | .ladleJobComplete ch => Sys2Proof.Machine.execLadleJobComplete ch s
  | .ladlePaceRequest ch => Sys2Proof.Machine.execLadlePaceRequest ch s
  | .ladleLockWaitExpired ch => Sys2Proof.Machine.execLadleLockWaitExpired ch s
  | .ladleBusError kind address => Sys2Proof.Machine.execLadleBusError kind address s
  | .channelInputWrite path ch data => Sys2Proof.Machine.execChannelInputWrite path ch data s
  | .linkTrained speed link => Sys2Proof.Machine.execLinkTrained speed link s
  | .linkLoss cause => Sys2Proof.Machine.execLinkLoss cause s
  | .ringDescriptorWrite ring word data => Sys2Proof.Machine.execRingDescriptorWrite ring word data s
  | .ringEnable ring data => Sys2Proof.Machine.execRingEnable ring data s
  | .ringDrained ring => Sys2Proof.Machine.execRingDrained ring s
  | .doorbellWrite ring value => Sys2Proof.Machine.execDoorbellWrite ring value s
  | .msixHoldoffExpired ring => Sys2Proof.Machine.execMsixHoldoffExpired ring s
  | .vectorUnmask entry => Sys2Proof.Machine.execVectorUnmask entry s
  | .ingestBlock ring entry host => Sys2Proof.Machine.execIngestBlock ring entry host s
  | .ingestDataRead ring host parity => Sys2Proof.Machine.execIngestDataRead ring host parity s
  | .drainBoundExpired ring => Sys2Proof.Machine.execDrainBoundExpired ring s
  | .driveEnableWrite path c data => Sys2Proof.Machine.execDriveEnableWrite path c data s
  | .alignTimeElapsed c => Sys2Proof.Machine.execAlignTimeElapsed c s
  | .rampStep c => Sys2Proof.Machine.execRampStep c s
  | .zeroCrossing c forward sensed => Sys2Proof.Machine.execZeroCrossing c forward sensed s
  | .rampHandoverTimeout c => Sys2Proof.Machine.execRampHandoverTimeout c s
  | .observerLoss c => Sys2Proof.Machine.execObserverLoss c s
  | .catchPulse c speed sensed => Sys2Proof.Machine.execCatchPulse c speed sensed s
  | .catchTimeout c => Sys2Proof.Machine.execCatchTimeout c s
  | .retryIntervalElapsed c => Sys2Proof.Machine.execRetryIntervalElapsed c s
  | .currentLimitExceeded c => Sys2Proof.Machine.execCurrentLimitExceeded c s
  | .tripCurrent c => Sys2Proof.Machine.execTripCurrent c s
  | .sdInputInvalid c input => Sys2Proof.Machine.execSdInputInvalid c input s
  | .startProfile path c data => Sys2Proof.Machine.execStartProfile path c data s
  | .commandPinLost k => Sys2Proof.Machine.execCommandPinLost k s
  | .commandPinReturn k => Sys2Proof.Machine.execCommandPinReturn k s
  | .brakeTimeElapsed c => Sys2Proof.Machine.execBrakeTimeElapsed c s
  | .busSample bus => Sys2Proof.Machine.execBusSample bus s
  | .chopperCheck current => Sys2Proof.Machine.execChopperCheck current s
  | .chopperTest path data => Sys2Proof.Machine.execChopperTest path data s
  | .busOvervoltageTrip => Sys2Proof.Machine.execBusOvervoltageTrip s
  | .busReconnect path data => Sys2Proof.Machine.execBusReconnect path data s
  | .axisEnableWrite path n data => Sys2Proof.Machine.execAxisEnableWrite path n data s
  | .startMove path n data => Sys2Proof.Machine.execStartMove path n data s
  | .targetPositionWrite path n data => Sys2Proof.Machine.execTargetPositionWrite path n data s
  | .stop path n data => Sys2Proof.Machine.execStop path n data s
  | .positionPreset path n data => Sys2Proof.Machine.execPositionPreset path n data s
  | .startHoming path n data => Sys2Proof.Machine.execStartHoming path n data s
  | .standstillReleaseElapsed n => Sys2Proof.Machine.execStandstillReleaseElapsed n s
  | .reEnergiseDone n => Sys2Proof.Machine.execReEnergiseDone n s
  | .moveComplete n => Sys2Proof.Machine.execMoveComplete n s
  | .loadAngleEstimate n lag coil => Sys2Proof.Machine.execLoadAngleEstimate n lag coil s
  | .limitInputActive n positive active => Sys2Proof.Machine.execLimitInputActive n positive active s
  | .homeInputEdge n active => Sys2Proof.Machine.execHomeInputEdge n active s
  | .homeDebounceElapsed n => Sys2Proof.Machine.execHomeDebounceElapsed n s
  | .bridgeOvercurrent n => Sys2Proof.Machine.execBridgeOvercurrent n s
  | .bridgeThermalShutdown g => Sys2Proof.Machine.execBridgeThermalShutdown g s
  | .loopTrigger slot pin feedback => Sys2Proof.Machine.execLoopTrigger slot pin feedback s
  | .loopEvaluation slot => Sys2Proof.Machine.execLoopEvaluation slot s
  | .slotEnableWrite path slot data => Sys2Proof.Machine.execSlotEnableWrite path slot data s
  | .modeWrite path slot data => Sys2Proof.Machine.execModeWrite path slot data s
  | .loopTargetWrite path slot data => Sys2Proof.Machine.execLoopTargetWrite path slot data s
  | .hvEnableWrite path h data => Sys2Proof.Machine.execHvEnableWrite path h data s
  | .hostSwitch path h data => Sys2Proof.Machine.execHostSwitch path h data s
  | .hvOpenLoad h => Sys2Proof.Machine.execHvOpenLoad h s
  | .hvRampComplete h => Sys2Proof.Machine.execHvRampComplete h s
  | .zoneEnableWrite path z data => Sys2Proof.Machine.execZoneEnableWrite path z data s
  | .kettleGateEdge z => Sys2Proof.Machine.execKettleGateEdge z s
  | .kettlePhaseFire z => Sys2Proof.Machine.execKettlePhaseFire z s
  | .bulkSample volts => Sys2Proof.Machine.execBulkSample volts s
  | .supplyRecoveryElapsed boot => Sys2Proof.Machine.execSupplyRecoveryElapsed boot s
  | .logicRailFault rail above persists => Sys2Proof.Machine.execLogicRailFault rail above persists s
  | .motorBusSample bus j2 => Sys2Proof.Machine.execMotorBusSample bus j2 s
  | .domainRequestWrite path data => Sys2Proof.Machine.execDomainRequestWrite path data s
  | .domainReady pd answers => Sys2Proof.Machine.execDomainReady pd answers s
  | .domainRampTimeout pd => Sys2Proof.Machine.execDomainRampTimeout pd s
  | .domainStopped pd => Sys2Proof.Machine.execDomainStopped pd s
  | .temperatureSample t sample => Sys2Proof.Machine.execTemperatureSample t sample s
  | .channelEnableWrite path t data => Sys2Proof.Machine.execChannelEnableWrite path t data s
  | .faultMessage messages => Sys2Proof.Machine.execFaultMessage messages s
  | .wiredFaultCause source kind address => Sys2Proof.Machine.execWiredFaultCause source kind address s
  | .quietPeriodExpired => Sys2Proof.Machine.execQuietPeriodExpired s
  | .consequenceLimitExpired => Sys2Proof.Machine.execConsequenceLimitExpired s
  | .faultClear path data => Sys2Proof.Machine.execFaultClear path data s
  | .stickyClear path data => Sys2Proof.Machine.execStickyClear path data s
  | .reactionMapWrite path data => Sys2Proof.Machine.execReactionMapWrite path data s
  | .interlockTestPulse ch low => Sys2Proof.Machine.execInterlockTestPulse ch low s
  | .interlockSenseChange ch level => Sys2Proof.Machine.execInterlockSenseChange ch level s
  | .discrepancyTimeout => Sys2Proof.Machine.execDiscrepancyTimeout s
  | .inject path data => Sys2Proof.Machine.execInject path data s
  | .heartbeatWireBeat => Sys2Proof.Machine.execHeartbeatWireBeat s
  | .heartbeatWord word => Sys2Proof.Machine.execHeartbeatWord word s
  | .heartbeatPeriodEnd => Sys2Proof.Machine.execHeartbeatPeriodEnd s
  | .sequencerHwFailure u kind address => Sys2Proof.Machine.execSequencerHwFailure u kind address s
  | .ownershipTaken => Sys2Proof.Machine.execOwnershipTaken s
  | .gapWatchdogExpired => Sys2Proof.Machine.execGapWatchdogExpired s
  | .checkpointDelta => Sys2Proof.Machine.execCheckpointDelta s
  | .healthReport passed link parity => Sys2Proof.Machine.execHealthReport passed link parity s
  | .standbyReload path data => Sys2Proof.Machine.execStandbyReload path data s
  | .unitLoadComplete u tested bad => Sys2Proof.Machine.execUnitLoadComplete u tested bad s
  | .plannedSwitchOver path data => Sys2Proof.Machine.execPlannedSwitchOver path data s
  | .plannedWaitExpired => Sys2Proof.Machine.execPlannedWaitExpired s
  | .crockMount valid => Sys2Proof.Machine.execCrockMount valid s
  | .crockRead ring entry host => Sys2Proof.Machine.execCrockRead ring entry host s
  | .crockWrite ring entry host => Sys2Proof.Machine.execCrockWrite ring entry host s
  | .trim ring entry host => Sys2Proof.Machine.execTrim ring entry host s
  | .spoolPage ring entry host => Sys2Proof.Machine.execSpoolPage ring entry host s
  | .spoolLoad ring entry host => Sys2Proof.Machine.execSpoolLoad ring entry host s
  | .spoolDelete ring entry host => Sys2Proof.Machine.execSpoolDelete ring entry host s
  | .spoolList ring entry host => Sys2Proof.Machine.execSpoolList ring entry host s
  | .slotCommit ring entry host => Sys2Proof.Machine.execSlotCommit ring entry host s
  | .slotErase ring entry host => Sys2Proof.Machine.execSlotErase ring entry host s
  | .crockCommandComplete ring units retried bad => Sys2Proof.Machine.execCrockCommandComplete ring units retried bad s
  | .nandProgramFail lun block => Sys2Proof.Machine.execNandProgramFail lun block s
  | .crockScrubPass what lun block bad => Sys2Proof.Machine.execCrockScrubPass what lun block bad s
  | .healthRun request => Sys2Proof.Machine.execHealthRun request s
  | .attest entry hostOk => Sys2Proof.Machine.execAttest entry hostOk s
  | .attestObject path data => Sys2Proof.Machine.execAttestObject path data s
  | .certificates entry hostOk => Sys2Proof.Machine.execCertificates entry hostOk s
  | .moduleReset entry => Sys2Proof.Machine.execModuleReset entry s
  | .powerCycle entry => Sys2Proof.Machine.execPowerCycle entry s
  | .moduleResetObject path data => Sys2Proof.Machine.execModuleResetObject path data s
  | .powerCycleRequest path data => Sys2Proof.Machine.execPowerCycleRequest path data s
  | .moduleResetAct boot => Sys2Proof.Machine.execModuleResetAct boot s
  | .resetNLow ns => Sys2Proof.Machine.execResetNLow ns s
  | .resetNRelease boot => Sys2Proof.Machine.execResetNRelease boot s
  | .bootWatchdogExpired boot => Sys2Proof.Machine.execBootWatchdogExpired boot s
  | .powerCyclePulseExpired boot => Sys2Proof.Machine.execPowerCyclePulseExpired boot s
  | .expectedMeasurementsWrite path sub data => Sys2Proof.Machine.execExpectedMeasurementsWrite path sub data s
  | .mismatchAcknowledge path data => Sys2Proof.Machine.execMismatchAcknowledge path data s
  | .reinitSequencerUnit path k => Sys2Proof.Machine.execReinitSequencerUnit path k s
  | .reinitPressLane path k => Sys2Proof.Machine.execReinitPressLane path k s
  | .reinitStation path k answers => Sys2Proof.Machine.execReinitStation path k answers s
  | .reinitPolygonTiming path k => Sys2Proof.Machine.execReinitPolygonTiming path k s
  | .reinitEncoder path k => Sys2Proof.Machine.execReinitEncoder path k s
  | .reinitPositionBase path => Sys2Proof.Machine.execReinitPositionBase path s
  | .reinitLadle path => Sys2Proof.Machine.execReinitLadle path s
  | .reinitCrock path => Sys2Proof.Machine.execReinitCrock path s
  | .reinitDriveChannel path k => Sys2Proof.Machine.execReinitDriveChannel path k s
  | .reinitStepperAxis path k => Sys2Proof.Machine.execReinitStepperAxis path k s
  | .reinitLoopSlot path k => Sys2Proof.Machine.execReinitLoopSlot path k s
  | .reinitHvChannel path k => Sys2Proof.Machine.execReinitHvChannel path k s
  | .reinitKettleZone path k => Sys2Proof.Machine.execReinitKettleZone path k s
  | .spliceDeactivation => Sys2Proof.Machine.execSpliceDeactivation s
  | .pwmPeriod c ia ib => Sys2Proof.Machine.execPwmPeriod c ia ib s
  | .seekingBlankingElapsed n => Sys2Proof.Machine.execSeekingBlankingElapsed n s
  | .eosWindowOpen n => Sys2Proof.Machine.execEosWindowOpen n s
  | .attestationSigned => Sys2Proof.Machine.execAttestationSigned s
  | .automaticSpoolDone => Sys2Proof.Machine.execAutomaticSpoolDone s

end Sys2Proof.Machine
end

