-- ==== Sys2Proof/Machine/Step.lean ====
section
/-! DEFINITION. One step of the block: the command at the front of the queue, or one step of the 4 ns grid. -/

namespace Sys2Proof.Machine

/-- One step of the grid in which no command comes: the eligibility of the units is kept, the gate that A1 has reached is judged, the responses of writes are issued, and the Stamp Clock, the interpolated
positions, the mains phase and the stepper profiles run on (R12, R23, R26, R36, R47, R160, R426; log entry 3). A module without
power stands still. -/
def State.idle (s : State) : State := if s.power.trivet then s.noteEligible.noteGate.issueAnswers.tick.stepperTick else s

/-- The command at the front of the queue takes effect with the queue's rest; on an empty queue the grid advances by one step. -/
def step (s : State) : Host.Outcome State Fault Refusal :=
  match s.pending with
  | [] => .next s.idle
  | c :: rest => exec c { s with pending := rest }

/-- The command that a word spells is put at the front of the queue; no row of the table gives bits, so no word spells one. -/
def State.withFetchWord (s : State) (nbits w : Nat) : State :=
  match decodeTableWord nbits w with
  | none => s
  | some c => { s with pending := c :: s.pending }

end Sys2Proof.Machine
end

