-- ==== Sys2Proof/Machine/Pins.lean ====
section
/-! DEFINITION. The output pins: what each shows in a state, inert or driven (R7, R106, R359, R404, R413, R499). No command reads
them; they are views of the state. -/

namespace Sys2Proof.Machine

/-- A Lid reaction of some class or a higher one holds the pins: 1 A to 4 D (R404). -/
def State.heldAt (s : State) (cls : Nat) : Bool := decide (cls ≤ s.n (K 0x2200 2))

/-- `LASER_EN_n`: high while the station's domain is on and its `Laser enable` TRUE (R85, R86). -/
def State.laserPin (s : State) (n : Nat) : Bool := s.laserOn n

/-- `BD_CS_n_d`, `BD_SCK_n` and `BD_MOSI_n` between two frames; none for high impedance (R129, R499). -/
def State.driverBus (s : State) (n : Nat) : Option (Bool × Bool × Bool) := if s.stationOn n then some (true, false, false) else none

/-- `HV_PWM_h`: its duty in 1/4,096 (R359, R360, R404). -/
def State.hvPin (s : State) (h : Nat) : Nat := if s.on 15 && !s.heldAt 2 then s.n (hk h 7) else 0

/-- `HV_GEN_1` to `HV_GEN_4`, bit g - 1 (R359). -/
def State.generatorPins (s : State) : Nat := if s.on 15 then s.groupPins else 0

/-- The gate outputs of an M channel; none for high impedance: domain off, Class D, or a channel at rest that no host has enabled
(R308, R499). -/
def State.gatePins (s : State) (c : Nat) : Option Gates :=
  if !s.driveOn c || s.heldAt 4 || (decide (s.driveState c = 0) && !s.flag (dk c 0 1)) then none else some (s.driveGates c)

/-- The stage switches of a P channel (R292, R308, R499). -/
def State.stagePins (s : State) (c : Nat) : Gates := if s.heldAt 4 then .off else s.driveGates c

/-- The bridges of a stepper axis drive its coils (R323, R335, R499). -/
def State.bridgePins (s : State) (n : Nat) : Bool := s.bridgesOn n && !s.heldAt 4

/-- `KETTLE_GATE_z` (R367, R368, R404). -/
def State.kettlePin (s : State) (z : Nat) : Bool := s.on 15 && (s.zone z).gate && !s.heldAt 3

/-- `MSD_CLK`: its frequency in MHz while PD13 is on, whatever the drives do; none for high impedance (R7, R295, R499). -/
def State.clockPin (s : State) : Option Nat := if s.on 13 then some (s.n (K 0x410F 0xA)) else none

/-- `DRV_3V3`, `ENC_5V` and `SVC_VREF` are present while the domain that carries them is on: PD13, PD16 and the Trivet (R7). -/
def State.supplyPins (s : State) : Bool × Bool × Bool := (s.on 13, s.on 16, s.power.trivet)

/-- `ILK_A_DRV` and `ILK_B_DRV` are driven high and pulsed low whenever the Trivet runs (R7, R413). -/
def State.interlockPins (s : State) : Bool := s.power.trivet

/-- `POWER_CYCLE_REQ` conducts (R490, R499). -/
def State.cycleRequestPin (s : State) : Bool := s.trust.cyclePin

/-- Every output that acts on the engine is at its inert level (R7, R499). -/
def State.enginePinsInert (s : State) : Bool :=
  (upFrom 1 6).all (fun n => !s.laserPin n && (upFrom 0 32).all (fun k => s.pair n k != .on)) &&
    ((upFrom 1 20).all (fun h => s.hvPin h == 0) && s.generatorPins == 0) &&
    ((upFrom 0 3).all (fun c => s.stagePins c == .off) && (upFrom 3 8).all (fun c => s.gatePins c == none)) &&
    ((upFrom 1 12).all (fun n => !s.bridgePins n) && s.outputPins == 0 && (upFrom 1 3).all (fun z => !s.kettlePin z) && !s.cycleRequestPin)

end Sys2Proof.Machine
end

