-- ==== Sys2Proof/WellFormed.lean ====
section
/-! DEFINITION. The well-formed commands: the unit numbers, codes and word sizes that the manual gives each operand. A command
outside them names nothing the block has; the machine still answers it, and `wf` says which commands a sender can mean. -/

namespace Sys2Proof

/-- A number from lo to hi. -/
def within (lo hi n : Nat) : Bool := decide (lo ≤ n ∧ n ≤ hi)

/-- A number of w bits. -/
def below (w n : Nat) : Bool := decide (n < 2 ^ w)

/-- A number of 8 bits. -/
def byte (n : Nat) : Bool := below 8 n

/-- A ring entry: eight words of 64 bits (R250). -/
def entryWf (e : Entry) : Bool :=
  match e with
  | none => true
  | some ws => decide (ws.length = 8) && ws.all (below 64)

/-- An answer frame: 32 bits (R130). -/
def frameWf (f : Frame) : Bool :=
  match f with
  | none => true
  | some w => below 32 w

/-- A crossing names one of the 32 beams of a station (R63). -/
def Crossing.wf (x : Crossing) : Bool := within 0 31 x.beam

/-- A message: one of the 160 lanes of the fault network, 64 bits and 8 of CRC (R398, R399). -/
def Message.wf (m : Message) : Bool := within 0 159 m.lane && (below 64 m.word && byte m.crc)

/-- Host memory answers with parts of a 64-bit address space. -/
def HostMem.wf (m : HostMem) : Bool := m.parts.all (fun x => decide (x.1 + x.2.length ≤ 2 ^ 64))

/-- Firmware partitions have numbers of 8 bits, and the units are 1 and 2 (R421, R459). -/
def Boot.wf (b : Boot) : Bool := b.bad.all byte && b.failing.all (within 1 2)

/-- The operands of a command lie in the ranges of the manual. -/
def Instr.wf (i : Instr) : Bool :=
  match i with
  | .coldPowerUp boot => boot.wf
  | .trivetRailLost => true
  | .dictionaryWrite _ index sub _ answers => below 16 index && byte sub && answers.all frameWf
  | .sdoDownload index sub _ answers => below 16 index && byte sub && answers.all frameWf
  | .sdoUpload index sub => below 16 index && byte sub
  | .sdoCompleteAccess _ index start _ => below 16 index && byte start
  | .getOdList => true
  | .getObjectDescription index => below 16 index
  | .getEntryDescription index sub => below 16 index && byte sub
  | .mailboxRead entry _ => entryWf entry
  | .mailboxWrite entry _ answers => entryWf entry && answers.all frameWf
  | .mailboxReadComplete entry _ => entryWf entry
  | .mailboxWriteComplete entry _ => entryWf entry
  | .esmStateRequest state _ _ => [1, 2, 4, 8].contains state
  | .pdoCycle _ => true
  | .sm2WatchdogExpired => true
  | .portLinkChange ports => within 0 3 ports.links && below 32 ports.errors
  | .storeParameters _ sub value => within 1 3 sub && below 32 value
  | .restoreDefaultParameters _ sub value => within 1 3 sub && below 32 value
  | .encoderEdge n _ _ => within 1 8 n
  | .encoderStandstillTimeout n => within 1 8 n
  | .encoderSignalInvalid n => within 1 8 n
  | .encoderEnableWrite _ n _ => within 1 8 n
  | .axisPreset _ n _ => within 1 8 n
  | .capture ch _ ns => within 0 15 ch && within 0 3 ns
  | .captureConfigWrite _ ch _ => within 0 15 ch
  | .mainsZeroCrossing _ => true
  | .mainsCrossingMissing => true
  | .mainsHoldoverExpired => true
  | .setOutput slot => within 0 255 slot
  | .clearOutput slot => within 0 255 slot
  | .divert slot => within 0 255 slot
  | .startImage slot => within 0 255 slot
  | .stopImage slot => within 0 255 slot
  | .releaseBands slot => within 0 255 slot
  | .hvOn slot => within 0 255 slot
  | .hvRamp slot => within 0 255 slot
  | .hvOff slot => within 0 255 slot
  | .stepMove slot => within 0 255 slot
  | .driveProfile slot => within 0 255 slot
  | .raiseEvent slot => within 0 255 slot
  | .checkInput slot _ => within 0 255 slot
  | .deliveryCheck slot => within 0 255 slot
  | .pageState slot => within 0 255 slot
  | .outputOvercurrent mask => below 32 mask
  | .overcurrentClear _ _ => true
  | .stampSyncEdge _ ns => within 0 3 ns
  | .dcSyncCycle time => below 64 time
  | .alignmentSyncLost => true
  | .alignmentSourceWrite _ _ => true
  | .hostMarker _ _ => true
  | .traceEntry => true
  | .drainHoldoffExpired ring => within 52 55 ring
  | .sosWindowOpen n => within 1 6 n
  | .facetSos n crossings => within 1 6 n && crossings.all Crossing.wf
  | .eosMeasured n crossings => within 1 6 n && crossings.all Crossing.wf
  | .lockEnableWrite _ p _ => within 1 3 p
  | .seekTimeout p => within 1 3 p
  | .relearn _ p _ => within 1 3 p
  | .facetSignatureWrite _ p _ => within 1 3 p
  | .engageRequestWrite _ n _ => within 1 6 n
  | .stationEngageChange n => within 1 6 n
  | .laserEnableWrite _ n _ => within 1 6 n
  | .apcSequence n answers => within 1 6 n && answers.all frameWf
  | .readCurrent n beam answers => within 1 6 n && within 0 31 beam && answers.all frameWf
  | .driverStatusPoll n driver answers => within 1 6 n && within 0 3 driver && answers.all frameWf
  | .beamRestore _ n _ => within 1 6 n
  | .retiredBeamsWrite _ n _ => within 1 6 n
  | .vcselThermistorSample n _ => within 1 6 n
  | .laserOffEndOfLine n => within 1 6 n
  | .pagePlanSubmit entry => entryWf entry
  | .release entry => entryWf entry
  | .cancel entry => entryWf entry
  | .reprint entry => entryWf entry
  | .markSpoiled entry => entryWf entry
  | .recipeWrite _ r _ => within 0 31 r
  | .admissionTest inputs => below 48 inputs
  | .commit => true
  | .gateSkip => true
  | .deliveryEdge input _ => within 0 63 input
  | .deliveryWindowExpired tag => below 32 tag
  | .pageDeadlineExpired tag => below 32 tag
  | .webBreak => true
  | .splice => true
  | .spliceCleared => true
  | .checkLaneComplete lane _ => within 1 8 lane
  | .decodeBlockComplete lane _ _ => within 1 24 lane
  | .laneFault code kind => byte code && within 2 4 kind
  | .laneSelfTestDone code result => byte code && byte result
  | .takeOutOfService _ _ => true
  | .encodeBuffer lane entry host _ => within 1 8 lane && entryWf entry && host.wf
  | .encodeBand lane entry host _ => within 1 8 lane && entryWf entry && host.wf
  | .encodeJobComplete lane _ _ _ => within 1 8 lane
  | .streamInput k => within 1 2 k
  | .streamFlush k => within 1 2 k
  | .streamClose k => within 1 2 k
  | .fabricTransactionComplete input address _ _ _ ecc => byte input && below 64 address && within 0 2 ecc.kind
  | .scrubRead address ecc => below 35 address && within 0 2 ecc
  | .scrubPeriodExpired => true
  | .lockAcquire _ _ => true
  | .lockRelease _ _ => true
  | .fenceOnly ch entry host => within 1 16 ch && entryWf entry && host.wf
  | .copyList ch entry host => within 1 16 ch && entryWf entry && host.wf
  | .copyIndex ch entry host => within 1 16 ch && entryWf entry && host.wf
  | .ladleJobComplete ch => within 1 16 ch
  | .ladlePaceRequest ch => within 1 16 ch
  | .ladleLockWaitExpired ch => within 1 16 ch
  | .ladleBusError kind address => [2, 4, 5].contains kind && below 64 address
  | .channelInputWrite _ ch _ => within 1 16 ch
  | .linkTrained speed link => within 1 5 speed && [1, 2, 4].contains link.width && below 32 link.errors
  | .linkLoss cause => within 1 4 cause
  | .ringDescriptorWrite ring word data => within 0 63 ring && within 0 2 word && within 0 2 data.part && below 64 data.value
  | .ringEnable ring data => within 0 63 ring && within 0 2 data.part && below 64 data.value
  | .ringDrained ring => within 0 63 ring
  | .doorbellWrite ring value => within 0 63 ring && below 64 value
  | .msixHoldoffExpired ring => within 0 63 ring
  | .vectorUnmask entry => within 0 63 entry.vector
  | .ingestBlock ring entry host => within 16 27 ring && entryWf entry && host.wf
  | .ingestDataRead ring host _ => within 16 27 ring && host.wf
  | .drainBoundExpired ring => within 0 63 ring
  | .driveEnableWrite _ c _ => within 0 10 c
  | .alignTimeElapsed c => within 0 10 c
  | .rampStep c => within 0 10 c
  | .zeroCrossing c _ _ => within 0 10 c
  | .rampHandoverTimeout c => within 0 10 c
  | .observerLoss c => within 0 10 c
  | .catchPulse c _ _ => within 3 10 c
  | .catchTimeout c => within 0 10 c
  | .retryIntervalElapsed c => within 0 10 c
  | .currentLimitExceeded c => within 0 10 c
  | .tripCurrent c => within 0 10 c
  | .sdInputInvalid c input => within 3 10 c && within 1 2 input
  | .startProfile _ c _ => within 0 10 c
  | .commandPinLost k => within 1 4 k
  | .commandPinReturn k => within 1 4 k
  | .brakeTimeElapsed c => within 0 10 c
  | .busSample _ => true
  | .chopperCheck _ => true
  | .chopperTest _ _ => true
  | .busOvervoltageTrip => true
  | .busReconnect _ _ => true
  | .axisEnableWrite _ n _ => within 1 12 n
  | .startMove _ n _ => within 1 12 n
  | .targetPositionWrite _ n _ => within 1 12 n
  | .stop _ n _ => within 1 12 n
  | .positionPreset _ n _ => within 1 12 n
  | .startHoming _ n _ => within 1 12 n
  | .standstillReleaseElapsed n => within 1 12 n
  | .reEnergiseDone n => within 1 12 n
  | .moveComplete n => within 1 12 n
  | .loadAngleEstimate n _ coil => within 1 12 n && within 0 1000 coil
  | .limitInputActive n _ _ => within 1 12 n
  | .homeInputEdge n _ => within 1 12 n
  | .homeDebounceElapsed n => within 1 12 n
  | .bridgeOvercurrent n => within 1 12 n
  | .bridgeThermalShutdown g => within 1 3 g
  | .loopTrigger slot _ _ => within 0 63 slot
  | .loopEvaluation slot => within 0 63 slot
  | .slotEnableWrite _ slot _ => within 0 63 slot
  | .modeWrite _ slot _ => within 0 63 slot
  | .loopTargetWrite _ slot _ => within 0 63 slot
  | .hvEnableWrite _ h _ => within 1 20 h
  | .hostSwitch _ h _ => within 1 20 h
  | .hvOpenLoad h => within 1 20 h
  | .hvRampComplete h => within 1 20 h
  | .zoneEnableWrite _ z _ => within 1 3 z
  | .kettleGateEdge z => within 1 3 z
  | .kettlePhaseFire z => within 1 3 z
  | .bulkSample _ => true
  | .supplyRecoveryElapsed boot => boot.wf
  | .logicRailFault rail _ _ => byte rail
  | .motorBusSample _ _ => true
  | .domainRequestWrite _ _ => true
  | .domainReady pd answers => within 1 16 pd && answers.all (fun x => within 1 6 x.1 && x.2.all frameWf)
  | .domainRampTimeout pd => within 1 16 pd
  | .domainStopped pd => within 1 16 pd
  | .temperatureSample t _ => within 1 36 t
  | .channelEnableWrite _ t _ => within 1 36 t
  | .faultMessage messages => messages.all Message.wf
  | .wiredFaultCause source kind address => byte source && within 0 15 kind && below 32 address
  | .quietPeriodExpired => true
  | .consequenceLimitExpired => true
  | .faultClear _ _ => true
  | .stickyClear _ _ => true
  | .reactionMapWrite _ _ => true
  | .interlockTestPulse ch _ => within 0 1 ch
  | .interlockSenseChange ch _ => within 0 1 ch
  | .discrepancyTimeout => true
  | .inject _ _ => true
  | .heartbeatWireBeat => true
  | .heartbeatWord word => below 64 word
  | .heartbeatPeriodEnd => true
  | .sequencerHwFailure u kind address => within 1 2 u && [2, 3, 15].contains kind && below 32 address
  | .ownershipTaken => true
  | .gapWatchdogExpired => true
  | .checkpointDelta => true
  | .healthReport passed link _ => within 0 15 passed && [4, 5].contains link
  | .standbyReload _ _ => true
  | .unitLoadComplete u _ _ => within 1 2 u
  | .plannedSwitchOver _ _ => true
  | .plannedWaitExpired => true
  | .crockMount _ => true
  | .crockRead ring entry host => within 44 47 ring && entryWf entry && host.wf
  | .crockWrite ring entry host => within 44 47 ring && entryWf entry && host.wf
  | .trim ring entry host => within 44 47 ring && entryWf entry && host.wf
  | .spoolPage ring entry host => within 44 47 ring && entryWf entry && host.wf
  | .spoolLoad ring entry host => within 44 47 ring && entryWf entry && host.wf
  | .spoolDelete ring entry host => within 44 47 ring && entryWf entry && host.wf
  | .spoolList ring entry host => within 44 47 ring && entryWf entry && host.wf
  | .slotCommit ring entry host => within 44 47 ring && entryWf entry && host.wf
  | .slotErase ring entry host => within 44 47 ring && entryWf entry && host.wf
  | .crockCommandComplete ring _ _ _ => within 44 47 ring
  | .nandProgramFail lun block => within 0 7 lun && below 24 block.block
  | .crockScrubPass what lun block _ => within 2 4 what && within 0 7 lun && below 24 block.block
  | .healthRun _ => true
  | .attest entry _ => entryWf entry
  | .attestObject _ _ => true
  | .certificates entry _ => entryWf entry
  | .moduleReset entry => entryWf entry
  | .powerCycle entry => entryWf entry
  | .moduleResetObject _ _ => true
  | .powerCycleRequest _ _ => true
  | .moduleResetAct boot => boot.wf
  | .resetNLow _ => true
  | .resetNRelease boot => boot.wf
  | .bootWatchdogExpired boot => boot.wf
  | .powerCyclePulseExpired boot => boot.wf
  | .expectedMeasurementsWrite _ sub _ => within 1 2 sub
  | .mismatchAcknowledge _ _ => true
  | .reinitSequencerUnit _ k => byte k
  | .reinitPressLane _ k => byte k
  | .reinitStation _ k answers => byte k && answers.all frameWf
  | .reinitPolygonTiming _ k => byte k
  | .reinitEncoder _ k => byte k
  | .reinitPositionBase _ => true
  | .reinitLadle _ => true
  | .reinitCrock _ => true
  | .reinitDriveChannel _ k => byte k
  | .reinitStepperAxis _ k => byte k
  | .reinitLoopSlot _ k => byte k
  | .reinitHvChannel _ k => byte k
  | .reinitKettleZone _ k => byte k
  | .spliceDeactivation => true
  | .pwmPeriod c _ _ => within 0 10 c
  | .seekingBlankingElapsed n => within 1 6 n
  | .eosWindowOpen n => within 1 6 n
  | .attestationSigned => true
  | .automaticSpoolDone => true

end Sys2Proof
end

