-- ==== Sys2Proof/Safety.lean ====
section
/-! DEFINITION. What the claims about the block are stated in: the canonical form of what it holds by address or by key, what a
command leaves as it was, and when a step goes on. -/

namespace Sys2Proof.Machine

/-- The dictionary lists no object at its default, the host window of DRAM and host memory no byte that reads as an unlisted one,
and each lists its keys in rising order: equal contents are equal data. -/
def State.Sound (s : State) : Prop :=
  Tab.ok (objectDefault s.s6) s.od = true ∧ Memory.wf s.fabric.window = true ∧ Memory.wf s.fabric.host = true

/-- Every command that waits is well-formed. -/
def State.Meant (s : State) : Prop := s.pending.all Instr.wf = true

/-- A step goes on: it ends neither in a fault nor in a refusal. -/
def State.Goes (s : State) : Prop := ∃ t, step s = .next t

/-! ## The parts of the machine -/

/-- The parts a command may change. -/
inductive Area where
  /-- the Stamp Clock -/
  | clock
  /-- the objects of the dictionary -/
  | objects
  /-- the running deadlines -/
  | timers
  /-- encoders, axes, slots, the mains time base, outputs and inputs -/
  | position
  /-- the Event Recorder and the alignment of the Stamp Clock -/
  | recorder
  /-- the 64 rings -/
  | rings
  /-- the polygons beside their objects -/
  | polygons
  /-- the stations beside their objects -/
  | stations
  /-- the page table and page execution -/
  | pages
  /-- the Press: page store, lanes, queues, buffers, jobs and streams -/
  | press
  /-- the fabric, its locks and the Ladle, but for the two memories -/
  | fabric
  /-- the host window of DRAM -/
  | window
  /-- host memory as the module has written it -/
  | host
  /-- the drives, the chopper and the bus input switch -/
  | drives
  /-- the stepper axes -/
  | steppers
  /-- loop slots, HV channels and Kettle zones -/
  | loops
  /-- the Crock -/
  | crock
  /-- supplies, power domains and thermometers -/
  | power
  /-- the Safety Supervisor -/
  | lid
  /-- the Twin Sequencer and its checkpoints -/
  | twin
  /-- the Trust Anchor and the recovery functions -/
  | trust
  /-- the dictionary service and the field network -/
  | service
  /-- the count of free values drawn, the model's own -/
  | drawn
  /-- the configuration of the PCI Express function -/
  | link
  deriving DecidableEq, Repr

/-- A part is the same in two states. -/
def State.same (p : Area) (s t : State) : Prop :=
  match p with
  | .clock => t.stamp = s.stamp
  | .objects => t.od = s.od
  | .timers => t.timers = s.timers
  | .position => t.pos = s.pos
  | .recorder => t.ev = s.ev
  | .rings => t.rings = s.rings
  | .polygons => t.polygons = s.polygons
  | .stations => t.stations = s.stations
  | .pages => t.pages = s.pages
  | .press => t.press = s.press
  | .fabric => { t.fabric with window := [], host := [] } = { s.fabric with window := [], host := [] }
  | .window => t.fabric.window = s.fabric.window
  | .host => t.fabric.host = s.fabric.host
  | .drives => t.drives = s.drives
  | .steppers => t.steppers = s.steppers
  | .loops => t.loops = s.loops
  | .crock => t.crock = s.crock
  | .power => t.power = s.power
  | .lid => t.lid = s.lid
  | .twin => t.twin = s.twin
  | .trust => t.trust = s.trust
  | .service => t.svc = s.svc
  | .drawn => t.drawn = s.drawn
  | .link => t.pcie = s.pcie

/-! ## What a command may change -/

/-- Every part. -/
def everything : List Area :=
  [.clock, .objects, .timers, .position, .recorder, .rings, .polygons, .stations, .pages, .press, .fabric, .window, .host, .drives,
   .steppers, .loops, .crock, .power, .lid, .twin, .trust, .service, .drawn, .link]

/-- Every part but the Stamp Clock. -/
def allButClock : List Area := everything.drop 1

/-- The parts a command may change, through all it brings about in its own step: the event it reports, the fault it raises with the
reactions of that fault, the entries it answers. -/
def touches (i : Instr) : List Area :=
  match i with
  | .streamFlush .. => [.press]
  | .currentLimitExceeded .. => [.drives]
  | .heartbeatWireBeat .. => [.twin]
  | .eosWindowOpen .. => [.stations]
  | .sdoUpload .. | .getOdList .. | .getObjectDescription .. | .getEntryDescription .. => [.objects, .service]
  | .portLinkChange .. | .alignmentSyncLost .. => [.objects, .recorder]
  | .spliceCleared .. => [.recorder, .pages]
  | .ringDescriptorWrite .. | .ringDrained .. => [.recorder, .rings]
  | .brakeTimeElapsed .. => [.timers, .drives]
  | .consequenceLimitExpired .. => [.timers, .lid]
  | .spliceDeactivation .. => [.position, .pages]
  | .seekingBlankingElapsed .. => [.timers, .stations]
  | .capture .. | .setOutput .. | .clearOutput .. | .divert .. | .raiseEvent .. => [.objects, .position, .recorder]
  | .outputOvercurrent .. | .tripCurrent .. | .sdInputInvalid .. | .logicRailFault .. => [.objects, .recorder, .lid]
  | .laserOffEndOfLine .. => [.objects, .recorder, .stations]
  | .gateSkip .. => [.objects, .recorder, .pages]
  | .webBreak .. | .splice .. => [.position, .recorder, .pages]
  | .scrubPeriodExpired .. => [.timers, .recorder, .fabric]
  | .msixHoldoffExpired .. => [.timers, .rings, .trust]
  | .drainBoundExpired .. => [.objects, .recorder, .rings]
  | .standstillReleaseElapsed .. => [.objects, .recorder, .steppers]
  | .kettleGateEdge .. | .kettlePhaseFire .. => [.objects, .recorder, .loops]
  | .pwmPeriod .. => [.objects, .recorder, .drives]
  | .encoderStandstillTimeout .. => [.objects, .timers, .position, .recorder]
  | .encoderSignalInvalid .. => [.objects, .position, .recorder, .lid]
  | .stampSyncEdge .. | .dcSyncCycle .. => [.objects, .timers, .recorder, .drawn]
  | .drainHoldoffExpired .. | .ringEnable .. => [.timers, .recorder, .rings, .trust]
  | .apcSequence .. | .readCurrent .. | .driverStatusPoll .. => [.objects, .recorder, .stations, .lid]
  | .scrubRead .. => [.objects, .recorder, .fabric, .lid]
  | .ladleLockWaitExpired .. => [.timers, .rings, .fabric, .trust]
  | .vectorUnmask .. => [.timers, .rings, .trust, .link]
  | .busOvervoltageTrip .. => [.objects, .recorder, .drives, .lid]
  | .limitInputActive .. => [.objects, .position, .recorder, .steppers]
  | .homeDebounceElapsed .. => [.objects, .timers, .recorder, .steppers]
  | .hvRampComplete .. => [.objects, .timers, .recorder, .loops]
  | .interlockTestPulse .. | .interlockSenseChange .. | .discrepancyTimeout .. => [.objects, .timers, .recorder, .lid]
  | .crockMount .. | .nandProgramFail .. | .crockScrubPass .. => [.objects, .recorder, .crock, .lid]
  | .mainsZeroCrossing .. | .mainsCrossingMissing .. | .mainsHoldoverExpired .. => [.objects, .position, .recorder, .loops, .lid]
  | .releaseBands .. => [.objects, .position, .recorder, .press, .lid]
  | .hvOn .. | .hvRamp .. | .hvOff .. => [.objects, .timers, .position, .recorder, .loops]
  | .deliveryCheck .. => [.objects, .timers, .position, .recorder, .pages]
  | .traceEntry .. => [.objects, .timers, .recorder, .rings, .trust]
  | .eosMeasured .. => [.objects, .recorder, .stations, .press, .lid]
  | .vcselThermistorSample .. => [.objects, .recorder, .stations, .pages, .lid]
  | .chopperCheck .. => [.objects, .timers, .recorder, .drives, .lid]
  | .loopEvaluation .. | .hvOpenLoad .. => [.objects, .timers, .recorder, .loops, .lid]
  | .domainRampTimeout .. => [.objects, .timers, .recorder, .power, .lid]
  | .automaticSpoolDone .. => [.objects, .recorder, .press, .crock, .lid]
  | .encoderEdge .. => [.objects, .timers, .position, .recorder, .lid, .drawn]
  | .stepMove .. | .reEnergiseDone .. | .moveComplete .. | .loadAngleEstimate .. | .homeInputEdge .. | .bridgeOvercurrent .. 
  | .bridgeThermalShutdown .. | .motorBusSample .. => [.objects, .timers, .position, .recorder, .steppers, .lid]
  | .laneSelfTestDone .. | .streamInput .. | .streamClose .. => [.objects, .recorder, .press, .crock, .lid, .drawn]
  | .linkTrained .. => [.objects, .timers, .recorder, .rings, .trust, .link]
  | .doorbellWrite .. => [.objects, .timers, .recorder, .rings, .lid, .trust]
  | .stopImage .. => [.objects, .position, .recorder, .stations, .pages, .press, .lid]
  | .sosWindowOpen .. => [.objects, .recorder, .stations, .pages, .press, .lid, .drawn]
  | .pagePlanSubmit .. => [.objects, .timers, .recorder, .rings, .pages, .lid, .trust]
  | .fabricTransactionComplete .. | .ladleBusError .. => [.objects, .timers, .recorder, .rings, .fabric, .lid, .trust]
  | .ingestBlock .. => [.objects, .timers, .recorder, .rings, .press, .lid, .trust]
  | .domainStopped .. => [.objects, .timers, .recorder, .crock, .power, .lid, .drawn]
  | .temperatureSample .. => [.objects, .recorder, .loops, .crock, .power, .lid, .drawn]
  | .crockRead .. | .crockWrite .. | .trim .. | .spoolPage .. | .spoolLoad .. | .spoolDelete .. | .spoolList .. | .slotCommit .. 
  | .slotErase .. => [.objects, .timers, .recorder, .rings, .crock, .lid, .trust]
  | .attest .. | .certificates .. | .moduleReset .. | .powerCycle .. => [.objects, .timers, .recorder, .rings, .host, .lid, .trust]
  | .storeParameters .. | .restoreDefaultParameters .. | .captureConfigWrite .. | .overcurrentClear .. | .hostMarker .. 
  | .facetSignatureWrite .. | .engageRequestWrite .. | .channelInputWrite .. | .busReconnect .. | .loopTargetWrite .. | .stickyClear .. 
  | .inject .. | .reinitPressLane .. | .reinitCrock .. => [.objects, .recorder, .press, .crock, .lid, .twin, .service, .drawn]
  | .admissionTest .. => [.objects, .timers, .position, .recorder, .rings, .pages, .crock, .trust]
  | .checkLaneComplete .. => [.objects, .timers, .recorder, .rings, .pages, .press, .crock, .trust]
  | .encodeBuffer .. | .encodeBand .. => [.objects, .timers, .recorder, .rings, .press, .fabric, .lid, .trust]
  | .ingestDataRead .. => [.objects, .timers, .recorder, .rings, .press, .lid, .trust, .drawn]
  | .healthReport .. => [.objects, .timers, .recorder, .press, .crock, .lid, .twin, .drawn]
  | .plannedWaitExpired .. => [.objects, .timers, .recorder, .rings, .pages, .crock, .twin, .trust]
  | .attestationSigned .. => [.objects, .timers, .recorder, .rings, .host, .lid, .trust, .drawn]
  | .axisPreset .. => [.objects, .position, .recorder, .press, .crock, .lid, .twin, .service, .drawn]
  | .alignmentSourceWrite .. | .standbyReload .. | .moduleResetObject .. | .powerCycleRequest .. =>
    [.objects, .timers, .recorder, .press, .crock, .lid, .twin, .service, .drawn]
  | .seekTimeout .. | .stationEngageChange .. | .alignTimeElapsed .. | .rampStep .. | .zeroCrossing .. | .rampHandoverTimeout .. 
  | .observerLoss .. | .catchPulse .. | .catchTimeout .. | .retryIntervalElapsed .. | .commandPinLost .. | .commandPinReturn .. 
  | .busSample .. | .loopTrigger .. => [.objects, .timers, .recorder, .polygons, .stations, .press, .drives, .loops, .lid]
  | .laserEnableWrite .. | .beamRestore .. | .retiredBeamsWrite .. | .reinitStation .. =>
    [.objects, .recorder, .stations, .press, .crock, .lid, .twin, .service, .drawn]
  | .release .. | .cancel .. | .reprint .. | .markSpoiled .. =>
    [.objects, .timers, .recorder, .rings, .pages, .press, .crock, .lid, .trust]
  | .recipeWrite .. | .reactionMapWrite .. | .attestObject .. | .expectedMeasurementsWrite .. | .mismatchAcknowledge .. =>
    [.objects, .recorder, .press, .crock, .lid, .twin, .trust, .service, .drawn]
  | .lockAcquire .. => [.objects, .recorder, .press, .fabric, .crock, .lid, .twin, .service, .drawn]
  | .fenceOnly .. | .copyList .. | .copyIndex .. | .ladleJobComplete .. | .ladlePaceRequest .. =>
    [.objects, .timers, .recorder, .rings, .fabric, .window, .host, .lid, .trust]
  | .startMove .. | .targetPositionWrite .. | .positionPreset .. =>
    [.objects, .recorder, .press, .steppers, .crock, .lid, .twin, .service, .drawn]
  | .slotEnableWrite .. | .modeWrite .. | .zoneEnableWrite .. | .reinitLoopSlot .. | .reinitKettleZone .. =>
    [.objects, .recorder, .press, .loops, .crock, .lid, .twin, .service, .drawn]
  | .channelEnableWrite .. => [.objects, .recorder, .press, .crock, .power, .lid, .twin, .service, .drawn]
  | .encoderEnableWrite .. | .reinitEncoder .. =>
    [.objects, .timers, .position, .recorder, .press, .crock, .lid, .twin, .service, .drawn]
  | .driveProfile .. => [.objects, .timers, .position, .recorder, .polygons, .stations, .press, .drives, .loops, .lid]
  | .relearn .. => [.objects, .recorder, .polygons, .stations, .press, .crock, .lid, .twin, .service, .drawn]
  | .decodeBlockComplete .. | .laneFault .. => [.objects, .timers, .recorder, .rings, .pages, .press, .crock, .lid, .trust, .drawn]
  | .chopperTest .. => [.objects, .timers, .recorder, .press, .drives, .crock, .lid, .twin, .service, .drawn]
  | .stop .. => [.objects, .timers, .recorder, .press, .steppers, .crock, .lid, .twin, .service, .drawn]
  | .hvEnableWrite .. | .hostSwitch .. | .reinitHvChannel .. =>
    [.objects, .timers, .recorder, .press, .loops, .crock, .lid, .twin, .service, .drawn]
  | .gapWatchdogExpired .. => [.objects, .timers, .recorder, .rings, .fabric, .window, .host, .lid, .twin, .trust]
  | .startImage .. | .checkInput .. | .pageState .. | .deliveryEdge .. | .deliveryWindowExpired .. | .pageDeadlineExpired .. =>
    [.objects, .timers, .position, .recorder, .rings, .stations, .pages, .press, .crock, .lid, .trust]
  | .facetSos .. => [.objects, .timers, .recorder, .polygons, .stations, .pages, .press, .drives, .loops, .lid, .drawn]
  | .axisEnableWrite .. | .startHoming .. | .reinitStepperAxis .. =>
    [.objects, .timers, .position, .recorder, .press, .steppers, .crock, .lid, .twin, .service, .drawn]
  | .quietPeriodExpired .. => [.objects, .timers, .recorder, .polygons, .stations, .press, .drives, .steppers, .loops, .power, .lid]
  | .heartbeatPeriodEnd .. | .sequencerHwFailure .. =>
    [.objects, .timers, .recorder, .rings, .pages, .fabric, .window, .host, .lid, .twin, .trust]
  | .esmStateRequest .. | .sm2WatchdogExpired .. =>
    [.objects, .timers, .recorder, .rings, .pages, .fabric, .window, .host, .crock, .lid, .trust, .service]
  | .commit .. => [.objects, .timers, .position, .recorder, .rings, .pages, .press, .crock, .lid, .twin, .trust, .drawn]
  | .takeOutOfService .. | .plannedSwitchOver .. =>
    [.objects, .timers, .recorder, .rings, .pages, .press, .crock, .lid, .twin, .trust, .service, .drawn]
  | .linkLoss .. => [.objects, .timers, .recorder, .rings, .press, .fabric, .window, .host, .crock, .lid, .trust, .link]
  | .lockEnableWrite .. | .driveEnableWrite .. | .startProfile .. | .reinitPolygonTiming .. | .reinitDriveChannel .. =>
    [.objects, .timers, .recorder, .polygons, .stations, .press, .drives, .loops, .crock, .lid, .twin, .service, .drawn]
  | .encodeJobComplete .. | .crockCommandComplete .. =>
    [.objects, .timers, .recorder, .rings, .pages, .press, .fabric, .window, .host, .crock, .lid, .trust, .drawn]
  | .checkpointDelta .. =>
    [.objects, .timers, .recorder, .rings, .press, .fabric, .window, .host, .crock, .lid, .twin, .trust, .drawn]
  | .lockRelease .. | .reinitSequencerUnit .. | .reinitLadle .. =>
    [.objects, .timers, .recorder, .rings, .press, .fabric, .window, .host, .crock, .lid, .twin, .trust, .service, .drawn]
  | .heartbeatWord .. =>
    [.objects, .timers, .recorder, .rings, .pages, .press, .fabric, .window, .host, .crock, .lid, .twin, .trust, .drawn]
  | .reinitPositionBase .. =>
    [.objects, .timers, .position, .recorder, .rings, .stations, .pages, .press, .crock, .lid, .twin, .trust, .service, .drawn]
  | .faultClear .. =>
    [.objects, .timers, .recorder, .polygons, .stations, .press, .drives, .steppers, .loops, .crock, .power, .lid, .twin, .service,
    .drawn]
  | .trivetRailLost .. =>
    [.clock, .objects, .timers, .position, .recorder, .rings, .polygons, .stations, .pages, .press, .fabric, .window, .drives,
    .steppers, .loops, .crock, .power, .lid, .twin, .trust, .service, .link]
  | .dictionaryWrite .. | .sdoDownload .. | .sdoCompleteAccess .. | .mailboxRead .. | .mailboxWrite .. | .mailboxReadComplete .. 
  | .mailboxWriteComplete .. | .pdoCycle .. | .bulkSample .. | .supplyRecoveryElapsed .. | .domainRequestWrite .. | .domainReady .. 
  | .faultMessage .. | .wiredFaultCause .. | .ownershipTaken .. | .unitLoadComplete .. | .healthRun .. | .moduleResetAct .. | .resetNLow ..
  | .resetNRelease .. | .bootWatchdogExpired .. | .powerCyclePulseExpired .. => allButClock
  | .coldPowerUp .. => everything

/-! ## Dictionary writes -/

/-- A write on a path reaches the dictionary service, which serves it, and it passes every check (R269, R273 to R276, R288). -/
def State.Accepts (s : State) (path : Path) (index sub : Nat) (data : Bytes) : Prop :=
  s.pathOpen path = true ∧ s.served = true ∧ s.writeAbort path false index sub data = none

/-- The checkpoint entry of an accepted write stands, and the object has taken its value (R270, R288). -/
def State.taken (s : State) (index sub : Nat) (v : Val) : State := (s.dictionaryEntry [K index sub]).put (K index sub) v

/-- What an object read as before an accepted write. -/
def State.before (s : State) (index sub : Nat) : Val := (s.dictionaryEntry [K index sub]).view .ethercat index sub

/-- The checkpoint entry of an accepted command write stands. -/
def State.noted (s : State) : State := s.dictionaryEntry []

/-- A write of an object has been done, noted as not yet answered, and answered as done on its path (R288). -/
def State.done (s : State) (path : Path) (index sub : Nat) : State := (s.noteWrite path index sub {}).answered path {}

/-! ## Slots, events and faults -/

/-- A slot with an action falls due and no slot of a lower number does (R11, R12, R40). -/
def State.Fires (s : State) (k action : Nat) : Prop :=
  s.on 16 = true ∧ k < 256 ∧ s.slotDue k = true ∧ (s.slot k).action = action ∧ (upFrom 0 k).any s.slotDue = false

/-- The slot has fired: it is free, counted, and recorded in EV041. -/
def State.fired (s : State) (k : Nat) : State :=
  ((s.setSlot k {}).bump (K 0x3040 4)).eventHw 41
    (k + (s.slot k).action * 256 + (s.slot k).target * 65536 + b2n (s.slot k).late * 2 ^ 24 + (s.slot k).tag * 2 ^ 32 +
      s.diverterMark (s.slot k))

/-- This event has been recorded in this grid step and lies in the recorder (R53, R57). -/
def State.Logged (s : State) (e payload : Nat) : Prop :=
  ∃ r ∈ s.ev.held, r.type = 1 ∧ r.source = e ∧ r.payload = payload % 2 ^ 64 ∧ r.stamp = s.stamp

/-- This fault message is on its way to the Lid (R398, R399). -/
def State.Sent (s : State) (source kind address : Nat) : Prop :=
  ∃ d ∈ s.lid.net, d.word = faultWord source kind address false false false

end Sys2Proof.Machine
end

