-- ==== Sys2Proof/Certificates/Slice0/Obligations.lean ====
section
/-! DEFINITION. What is claimed of the block: one definition per statement, each naming the rules it formalises. -/

open Sys2Proof Sys2Proof.Machine

/-- For every command c and state s, a step of s with c at the front of its queue is exec of c on s with the queue's rest.
The queue is the model's own interface (log entry 3). (R12) -/
def Obligations.StepTakesFront : Prop :=
  ∀ (c : Instr) (s : State), step { s with pending := c :: s.pending } = exec c s

/-- With no command waiting a step answers the state one grid step later: the Stamp Clock has advanced by 4 ns where the
module has power, the queue is still empty, the page table, the Press, the rings, the Lid, the Trust Anchor, the
Crock, the polygons, the stations and both memories are as they were, and the Twin Sequencer too but for what it knows
of the units' eligibility; without power nothing changes. That a step on an empty queue is one step of the grid is the
model's choice (log entry 3). (R12, R47, R160, R426) -/
def Obligations.StepOnEmptyQueue : Prop :=
  ∀ s : State, s.pending = [] →
    ∃ t, step s = .next t ∧ t.pending = [] ∧ (s.power.trivet = true → t.stamp = s.stamp + 4) ∧ (s.power.trivet = false → t = s) ∧
      { t.pages with gateFound := 0 } = { s.pages with gateFound := 0 } ∧ t.press = s.press ∧ t.rings = s.rings ∧ t.lid = s.lid ∧
      { t.twin with eligible := 0 } = { s.twin with eligible := 0 } ∧ t.trust = s.trust ∧ t.crock = s.crock ∧ t.fabric = s.fabric ∧
      t.polygons = s.polygons ∧ t.stations = s.stations ∧ t.drives = s.drives ∧ t.loops = s.loops ∧ t.power = s.power

/-- Every command answers a next state on every state and all operands, but for MOTOR_BUS_SAMPLE with more than 60 V at
J2, where no statement of the manual applies (R507) and the step ends in the fault absoluteMaximum.
(10_object_dictionary.md, R507) -/
def Obligations.EveryCommandGoes : Prop :=
  (∀ (c : Instr) (s : State), (∀ bus j2, c = .motorBusSample bus j2 → j2 ≤ 60000) → ∃ t, exec c s = .next t) ∧
    (∀ (bus j2 : Nat) (s : State), 60000 < j2 → exec (.motorBusSample bus j2) s = .fault .absoluteMaximum)

/-- Where a command answers a next state, the commands that wait and the variant are as they were. (R1) -/
def Obligations.CommandsLeaveTheQueue : Prop :=
  ∀ (c : Instr) (s t : State), exec c s = .next t → t.pending = s.pending ∧ t.s6 = s.s6

/-- From every state in which the dictionary lists no object at its default and the host window of DRAM and host memory
list no byte that reads as an unlisted one, each with its keys rising, every step that goes on leads to such a state:
equal contents stay equal data whatever commands come, restarts included. (R214, R229, R271) -/
def Obligations.StepKeepsSound : Prop :=
  ∀ s t : State, s.Sound → step s = .next t → t.Sound

/-- The state after reset is in the canonical form that StepKeepsSound keeps. (R467) -/
def Obligations.ResetIsSound : Prop :=
  State.reset.Sound

/-- After the first start, carried out to DICTIONARY_UP, the base domains PD01, PD02, PD03, PD06, PD07 and PD08 are ON and
every other domain is OFF; the active sequencer is A and the standby B; no fault stands and no reaction is applied;
the EtherCAT state machine is in INIT; no ring is enabled; the page table, the schedule slots and both memories are
empty; the Stamp Clock is at 0 and no command waits. Every output that acts on the engine is inert, and of the outputs
that act without an enable only the interlock drive lines and `SVC_VREF`, which go with the Trivet, are driven. The
start times of the manual take no time in the model (log entries 6 and 7). (R7, R47, R55, R382, R422, R467) -/
def Obligations.ResetValues : Prop :=
  State.reset.stamp = 0 ∧ State.reset.pending = [] ∧ State.reset.rings = [] ∧ State.reset.pages = {} ∧ State.reset.pos = {} ∧
    State.reset.fabric = {} ∧ State.reset.n (K 0x2060 1) = 1 ∧ State.reset.n (K 0x2200 1) = 0 ∧ State.reset.n (K 0x2200 2) = 0 ∧
    State.reset.n (K 0x2300 1) = 1 ∧ State.reset.n (K 0x2300 2) = 2 ∧ State.reset.n (K 0x2300 3) = 3 ∧ State.reset.served = true ∧
    State.reset.enginePinsInert = true ∧ State.reset.clockPin = none ∧ State.reset.supplyPins = (false, false, true) ∧
    State.reset.interlockPins = true ∧ (∀ pd, 1 ≤ pd → pd ≤ 16 → State.reset.on pd = [1, 2, 3, 6, 7, 8].contains pd)

/-- For every command there is a list of the parts of the machine it may change (`touches`, one line a command in
Safety.lean); where the command answers a next state, every part outside that list is as it was: a drive command
leaves the steppers, the pages, the Press, the memories and the Lid's own registers alone, a fabric command leaves the
drives alone, and so on for every command of the table. (00_scope.md, 95_what_each_step_holds.md) -/
def Obligations.CommandFrames : Prop :=
  ∀ (c : Instr) (s t : State), exec c s = .next t → ∀ p : Area, p ∉ touches c → State.same p s t

/-- A DICTIONARY_WRITE on either path, and an SDO_DOWNLOAD over EtherCAT, that reaches the service, is served and passes
every check answers the state in which the write has been carried out and then answered as done; STORE_PARAMETERS and
RESTORE_DEFAULT_PARAMETERS write their checkpoint entry, store or restore the part of the stored set that their
subindex names and are answered as done where the parameter partition takes a record, and are answered with abort
0x0800_0020, detail code 0x0D11 and EV103 subcode 4 where it does not. (R270, R274, R278, R279, R288) -/
def Obligations.DictionaryWritesDone : Prop :=
  ∀ (path : Path) (index sub value : Nat) (data : Bytes) (answers : List Frame) (r : Row) (s : State),
    (rowOf index sub = some r → index ≠ 0x1010 → index ≠ 0x1011 → s.Accepts path index sub data →
      exec (.dictionaryWrite path index sub data answers) s =
        .next ((s.carryOut path r index sub (r.ty.decode data) answers).done path index sub)) ∧
    (rowOf index sub = some r → index ≠ 0x1010 → index ≠ 0x1011 → s.Accepts .ethercat index sub data →
      exec (.sdoDownload index sub data answers) s =
        .next ((s.carryOut .ethercat r index sub (r.ty.decode data) answers).done .ethercat index sub)) ∧
    (1 ≤ sub → sub ≤ 3 → s.Accepts path 0x1010 sub (leBytes 4 value) → s.storeFails = false →
      exec (.storeParameters path sub value) s = .next ((s.noted.storePart sub).done path 0x1010 sub)) ∧
    (1 ≤ sub → sub ≤ 3 → s.Accepts path 0x1011 sub (leBytes 4 value) → s.storeFails = false →
      exec (.restoreDefaultParameters path sub value) s = .next ((s.noted.restorePart sub).done path 0x1011 sub)) ∧
    (1 ≤ sub → sub ≤ 3 → s.Accepts path 0x1010 sub (leBytes 4 value) → s.storeFails = true →
      exec (.storeParameters path sub value) s =
        .next ((s.event 103 4).answered path { status := 1, abort := 0x08000020, detail := 0x0D11 }))

/-- A write of any object that the checks reject, on either path, leaves all module state unchanged: every object but the
counts of requests and aborts of the field network, every subsystem, the clock, the timers and both memories read as
before, and the answer carries the abort code and the 16-bit detail code of the first check that fails, which `Last
abort detail` of that path then reads as. (R8) -/
def Obligations.RejectedWriteChangesNothing : Prop :=
  ∀ (path : Path) (index sub : Nat) (data : Bytes) (answers : List Frame) (a : Abort) (s : State),
    s.pathOpen path = true → s.served = true → s.writeAbort path false index sub data = some a →
    ∃ t, exec (.dictionaryWrite path index sub data answers) s = .next t ∧
      (∀ k, k ≠ K 0x2060 4 → k ≠ K 0x2060 5 → k ≠ K 0x2060 6 → k ≠ K 0x2060 7 → t.val k = s.val k) ∧
      (path = .ethercat → t.svc.ethercat = { status := 1, abort := a.1, detail := a.2 } ∧ t.svc.detailEthercat = a.2 ∧
        t.svc.detailMailbox = s.svc.detailMailbox) ∧
      (path = .mailbox → t.svc.mailbox = { status := 1, abort := a.1, detail := a.2 } ∧ t.svc.detailMailbox = a.2 ∧
        t.svc.detailEthercat = s.svc.detailEthercat) ∧
      (∀ p : Area, p ≠ .objects → p ≠ .service → State.same p s t) ∧
      t.svc.stored = s.svc.stored ∧ t.svc.stalled = s.svc.stalled ∧ t.svc.rxLast = s.svc.rxLast

/-- With EtherCAT at PREOP or above and the service serving, an SDO_UPLOAD answers the bytes of the object or the abort of
the first check that fails; a complete read answers every subindex of the record in one sample; the three SDO
Information requests answer the object list, the object's description and the entry's description; and a complete
write answers the outcome of the record's write. Each read leaves every object but the counts of SDO requests and
aborts, and every part of the machine but the service, as it was. (R268, R270, R271, R273, R276) -/
def Obligations.SdoReads : Prop :=
  ∀ (index sub start : Nat) (data : Bytes) (s : State), s.pathOpen .ethercat = true → s.served = true →
    (∃ t, exec (.sdoUpload index sub) s = .next t ∧ t.svc.ethercat = s.readObject .ethercat index sub ∧
      (∀ k, k ≠ K 0x2060 4 → k ≠ K 0x2060 5 → t.val k = s.val k) ∧ (∀ p : Area, p ≠ .objects → p ≠ .service → State.same p s t)) ∧
    (∃ t, exec (.sdoCompleteAccess false index start data) s = .next t ∧ t.svc.ethercat = s.readComplete .ethercat index start ∧
      (∀ k, k ≠ K 0x2060 4 → k ≠ K 0x2060 5 → t.val k = s.val k) ∧ (∀ p : Area, p ≠ .objects → p ≠ .service → State.same p s t)) ∧
    (∃ t, exec (.sdoCompleteAccess true index start data) s = .next t ∧
      t.svc.ethercat = (s.writeComplete .ethercat index start data).2) ∧
    (∃ t, exec .getOdList s = .next t ∧ t.svc.ethercat = s.objectList ∧
      (∀ k, k ≠ K 0x2060 4 → k ≠ K 0x2060 5 → t.val k = s.val k) ∧ (∀ p : Area, p ≠ .objects → p ≠ .service → State.same p s t)) ∧
    (∃ t, exec (.getObjectDescription index) s = .next t ∧ t.svc.ethercat = s.describeObject index ∧
      (∀ k, k ≠ K 0x2060 4 → k ≠ K 0x2060 5 → t.val k = s.val k) ∧ (∀ p : Area, p ≠ .objects → p ≠ .service → State.same p s t)) ∧
    (∃ t, exec (.getEntryDescription index sub) s = .next t ∧ t.svc.ethercat = s.describeEntry index sub ∧
      (∀ k, k ≠ K 0x2060 4 → k ≠ K 0x2060 5 → t.val k = s.val k) ∧ (∀ p : Area, p ≠ .objects → p ≠ .service → State.same p s t))

/-- Every rejected request leaves all module state unchanged and records a detail code: a complete write of a record of
which any check fails changes no object, and its outcome is an abort with a 16-bit detail code; a rejected write of
one object likewise. (The event record of a store that the Crock cannot take, R278, is no rejection by a check.)
(R274) -/
def Obligations.CompleteWriteIsWholeOrNothing : Prop :=
  ∀ (path : Path) (index sub : Nat) (data : Bytes) (answers : List Frame) (s : State), index ≠ 0x1010 → index ≠ 0x1011 →
    ((s.writeComplete path index sub data).2.status ≠ 0 → (s.writeComplete path index sub data).1 = s) ∧
    ((s.writeObject path false index sub data answers).2.status ≠ 0 → (s.writeObject path false index sub data answers).1 = s)

/-- With the service serving, an entry of ring 60 waiting and no response held back, each of the four rows takes the entry
that carries its opcode. A malformed one is answered with STATUS 0x02, ABORT 0x0504_0001 and DETAIL 0x0D0F and changes
nothing else. A well-formed read that passes the checks, with room for its data and a buffer that host memory takes,
writes the data to the buffer, or into the entry where there is none, and is answered on ring 61 with STATUS 0; a
well-formed write whose data arrives and passes the checks is carried out and answered there with STATUS 0. Each entry
of ring 61 carries the subindex, index and TAG of its request. (R250, R255, R259, R285, R286, R287) -/
def Obligations.MailboxRequests : Prop :=
  ∀ (ws : List Nat) (hostOk : Bool) (host : Option Bytes) (answers : List Frame) (s : State),
    s.served = true → s.hasEntry 60 = true → s.linkUp = true → (s.ring 61).waiting.isEmpty = true →
    (mailOp ws = 1 → exec (.mailboxRead (some ws) hostOk) s = .next ((s.consumed 60).serveMail hostOk none [] ws)) ∧
    (mailOp ws = 2 → exec (.mailboxWrite (some ws) host answers) s = .next ((s.consumed 60).serveMail true host answers ws)) ∧
    (mailOp ws = 3 → exec (.mailboxReadComplete (some ws) hostOk) s = .next ((s.consumed 60).serveMail hostOk none [] ws)) ∧
    (mailOp ws = 4 → exec (.mailboxWriteComplete (some ws) host) s = .next ((s.consumed 60).serveMail true host [] ws)) ∧
    (mailMalformed ws = true → s.serveMail hostOk host answers ws =
      ((s.answered .mailbox { status := 2, abort := 0x05040001, detail := 0x0D0F }).finishEntry 60).produce 61
        (s.mailEntry ws { status := 2, abort := 0x05040001, detail := 0x0D0F })) ∧
    (∀ (u : State) (b : Bytes), u = s.consumed 60 → mailMalformed ws = false → mailBuffer ws = 0 → b.length ≤ 32 →
      (mailOp ws = 1 → u.readAbort (mailIndex ws) (mailSub ws) = none → b = u.readBytes .mailbox (mailIndex ws) (mailSub ws) →
        exec (.mailboxRead (some ws) hostOk) s =
          .next (((u.answered .mailbox { data := b }).finishEntry 60).produce 61 (u.mailEntry ws { data := b }))) ∧
      (mailOp ws = 3 → u.readComplete .mailbox (mailIndex ws) (mailSub ws) = { data := b } →
        exec (.mailboxReadComplete (some ws) hostOk) s =
          .next (((u.answered .mailbox { data := b }).finishEntry 60).produce 61 (u.mailEntry ws { data := b })))) ∧
    (∀ (u : State) (b : Bytes), u = s.consumed 60 → mailMalformed ws = false → mailBuffer ws ≠ 0 → b.length ≤ mailLength ws →
      hostOk = true → u.masters = true →
      (mailOp ws = 1 → u.readAbort (mailIndex ws) (mailSub ws) = none → b = u.readBytes .mailbox (mailIndex ws) (mailSub ws) →
        exec (.mailboxRead (some ws) hostOk) s =
          .next ((((u.hostWrite (mailBuffer ws) b).answered .mailbox { data := b }).finishEntry 60).produce 61
            (u.mailEntry ws { data := b }))) ∧
      (mailOp ws = 3 → u.readComplete .mailbox (mailIndex ws) (mailSub ws) = { data := b } →
        exec (.mailboxReadComplete (some ws) hostOk) s =
          .next ((((u.hostWrite (mailBuffer ws) b).answered .mailbox { data := b }).finishEntry 60).produce 61
            (u.mailEntry ws { data := b })))) ∧
    (∀ (u v : State) (b : Bytes) (r : Row), u = s.consumed 60 → mailOp ws = 2 → mailMalformed ws = false → mailData ws host = some b →
      rowOf (mailIndex ws) (mailSub ws) = some r → mailIndex ws ≠ 0x1010 → mailIndex ws ≠ 0x1011 →
      u.writeAbort .mailbox false (mailIndex ws) (mailSub ws) b = none →
      v = (u.carryOut .mailbox r (mailIndex ws) (mailSub ws) (r.ty.decode b) answers).done .mailbox (mailIndex ws) (mailSub ws) →
      exec (.mailboxWrite (some ws) host answers) s = .next ((v.finishEntry 60).produce 61 (v.mailEntry ws {}))) ∧
    (∀ (u v w : State) (b : Bytes), u = s.consumed 60 → mailOp ws = 4 → mailMalformed ws = false → mailData ws host = some b →
      u.writeComplete .mailbox (mailIndex ws) (mailSub ws) b = (v, {}) → w = v.done .mailbox (mailIndex ws) (mailSub ws) →
      exec (.mailboxWriteComplete (some ws) host) s = .next ((w.finishEntry 60).produce 61 (w.mailEntry ws {}))) ∧
    (∀ (u : State) (e : List Nat), u.ringRoom 61 = true → (u.ring 61).waiting.isEmpty = true → u.produce 61 e = u.writeEntry 61 e) ∧
    (∀ (u : State) (r : Reply), wordAt (u.mailEntry ws r) 0 =
      r.status * 2 ^ 56 + mailSub ws * 2 ^ 40 + mailIndex ws * 2 ^ 24 + field (wordAt ws 0) 15 0)

/-- With PD08 on: a request to fall, or to rise by one state with its conditions met, is taken, and the ESM state reads
the new state; a PDO_CYCLE from SAFEOP on samples the TxPDO image in one grid step, before it applies what it
received, and what it receives in SAFEOP opens the way to OP; the expiry of the SM2 watchdog in OP takes the machine
to SAFEOP with AL status code 0x001B, and unless the action on leaving OP is to stop admission it changes no other
object; a change of the physical links is shown in `Port links` with EV102 subcode 4, and the port's errors are
counted. (R269, R283, R284, R289) -/
def Obligations.FieldNetwork : Prop :=
  ∀ (s : State) (managers : List Nat) (sync0 : Bool) (links errors new : Nat), s.on 8 = true →
    (s.n (K 0x2060 1) = 1 → managers = mailboxBytes → s.twin.dictionaryUp = true →
      ∃ t, exec (.esmStateRequest 2 managers sync0) s = .next t ∧ t.n (K 0x2060 1) = 2) ∧
    (s.n (K 0x2060 1) = 2 → s.safeopRefusal sync0 = 0 →
      ∃ t, exec (.esmStateRequest 4 managers sync0) s = .next t ∧ t.n (K 0x2060 1) = 4) ∧
    (s.n (K 0x2060 1) = 4 → s.svc.rxSeen = true →
      ∃ t, exec (.esmStateRequest 8 managers sync0) s = .next t ∧ t.n (K 0x2060 1) = 8) ∧
    (s.n (K 0x2060 1) = 4 → s.svc.rxSeen = false →
      ∃ t, exec (.esmStateRequest 8 managers sync0) s = .next t ∧ t.n (K 0x2060 1) = 4 ∧ t.svc.alStatus = 0x1B) ∧
    (4 ≤ s.n (K 0x2060 1) → s.served = true →
      ∃ t, exec (.pdoCycle none) s = .next t ∧ t.svc.txLast = s.txImage ∧ (∀ k, t.val k = s.val k)) ∧
    (s.n (K 0x2060 1) = 8 → s.n (K 0x2060 2) ≠ 1 →
      ∃ t, exec .sm2WatchdogExpired s = .next t ∧ t.n (K 0x2060 1) = 4 ∧ t.svc.alStatus = 0x1B ∧ t.svc.rxSeen = s.svc.rxSeen ∧
        (∀ k, k ≠ K 0x2060 1 → t.val k = s.val k)) ∧
    (s.n (K 0x2060 1) = 8 → s.n (K 0x2060 2) = 1 →
      ∃ t, exec .sm2WatchdogExpired s = .next t ∧ t.svc.alStatus = 0x1B) ∧
    (links < 4 → s.n (K 0x2060 8) ≠ links →
      ∃ t, exec (.portLinkChange ⟨links, errors⟩) s = .next t ∧ t.n (K 0x2060 8) = links ∧
        t.n (K 0x2060 9) = (s.n (K 0x2060 9) + errors) % 2 ^ 32 ∧
        t.ev.held = s.ev.held ++ [s.record 1 102 (4 + links * 256) (Config.firmwareRaised 102)] ∧
        (∀ k, k ≠ K 0x2060 8 → k ≠ K 0x2060 9 → t.val k = s.val k)) ∧
    (s.n (K 0x2060 1) = 4 → s.served = true →
      ∃ t, exec (.pdoCycle (some [])) s = .next t ∧ t.svc.txLast = s.txImage ∧ t.svc.rxSeen = true ∧ (∀ k, t.val k = s.val k)) ∧
    (∀ rx, s.n (K 0x2060 1) = 8 → s.served = true →
      exec (.pdoCycle (some rx)) s = .next ({ s with svc := { s.svc with txLast := s.txImage } }.applyRx rx)) ∧
    (new = 2 ∨ new = 4 → new < s.n (K 0x2060 1) → s.n (K 0x2060 1) < 8 ∨ s.n (K 0x2060 2) ≠ 1 →
      ∃ t, exec (.esmStateRequest new managers sync0) s = .next t ∧ t.n (K 0x2060 1) = new ∧ t.svc.alStatus = 0 ∧
        (∀ k, k ≠ K 0x2060 1 → t.val k = s.val k))

/-- A write that reaches the dictionary service while it serves nothing, as in a switch-over gap, is put behind those that
already wait and changes no object; inside a gap the stall is counted in 0x2060:0A and nowhere else. (R288) -/
def Obligations.RequestsWaitInTheGap : Prop :=
  ∀ (path : Path) (index sub : Nat) (data : Bytes) (answers : List Frame) (s : State),
    s.pathOpen path = true → s.served = false →
    ∃ t, exec (.dictionaryWrite path index sub data answers) s = .next t ∧
      t.svc.stalled = s.svc.stalled ++ [.dictionaryWrite path index sub data answers] ∧
      (∀ k, k ≠ K 0x2060 0xA → t.val k = s.val k) ∧
      (s.twin.switching = true → t.n (K 0x2060 0xA) = (s.n (K 0x2060 0xA) + 1) % 2 ^ 32) ∧
      (s.twin.switching = false → t.n (K 0x2060 0xA) = s.n (K 0x2060 0xA))

/-- Each of the thirteen rows writes `Reinitialise function` with its class and instance; where that write passes the
dictionary's checks, the function of that class and instance is re-initialised, the re-initialisation is counted,
shown in `Last function` and reported with EV034 subcode 7, and the write is answered as done. An enabled encoder is
in ACQUIRING afterwards, an HV channel and a Kettle zone are OFF, a loop slot's integral, derivative and counts are 0,
and the Ladle is no longer STOPPED. (That an encoder's Edge count is 0 afterwards is the model's choice, log entry
171.) (R165, R207, R238, R299, R341, R421, R484, R491) -/
def Obligations.Reinitialisations : Prop :=
  ∀ (path : Path) (k : Nat) (answers : List Frame) (s : State), k < 256 →
    (s.Accepts path 0x2010 1 (leBytes 2 (0x100 + k)) → exec (.reinitSequencerUnit path k) s = .next ((s.noted.reinitialise (0x100 + k) []).done path 0x2010 1)) ∧
    (s.Accepts path 0x2010 1 (leBytes 2 (0x200 + k)) → exec (.reinitPressLane path k) s = .next ((s.noted.reinitialise (0x200 + k) []).done path 0x2010 1)) ∧
    (s.Accepts path 0x2010 1 (leBytes 2 (0x300 + k)) → exec (.reinitStation path k answers) s = .next ((s.noted.reinitialise (0x300 + k) answers).done path 0x2010 1)) ∧
    (s.Accepts path 0x2010 1 (leBytes 2 (0x400 + k)) → exec (.reinitPolygonTiming path k) s = .next ((s.noted.reinitialise (0x400 + k) []).done path 0x2010 1)) ∧
    (s.Accepts path 0x2010 1 (leBytes 2 (0x500 + k)) → exec (.reinitEncoder path k) s = .next ((s.noted.reinitialise (0x500 + k) []).done path 0x2010 1)) ∧
    (s.Accepts path 0x2010 1 (leBytes 2 0x600) → exec (.reinitPositionBase path) s = .next ((s.noted.reinitialise 0x600 []).done path 0x2010 1)) ∧
    (s.Accepts path 0x2010 1 (leBytes 2 0x700) → exec (.reinitLadle path) s = .next ((s.noted.reinitialise 0x700 []).done path 0x2010 1)) ∧
    (s.Accepts path 0x2010 1 (leBytes 2 0x800) → exec (.reinitCrock path) s = .next ((s.noted.reinitialise 0x800 []).done path 0x2010 1)) ∧
    (s.Accepts path 0x2010 1 (leBytes 2 (0x900 + k)) → exec (.reinitDriveChannel path k) s = .next ((s.noted.reinitialise (0x900 + k) []).done path 0x2010 1)) ∧
    (s.Accepts path 0x2010 1 (leBytes 2 (0xA00 + k)) → exec (.reinitStepperAxis path k) s = .next ((s.noted.reinitialise (0xA00 + k) []).done path 0x2010 1)) ∧
    (s.Accepts path 0x2010 1 (leBytes 2 (0xB00 + k)) → exec (.reinitLoopSlot path k) s = .next ((s.noted.reinitialise (0xB00 + k) []).done path 0x2010 1)) ∧
    (s.Accepts path 0x2010 1 (leBytes 2 (0xC00 + k)) → exec (.reinitHvChannel path k) s = .next ((s.noted.reinitialise (0xC00 + k) []).done path 0x2010 1)) ∧
    (s.Accepts path 0x2010 1 (leBytes 2 (0xD00 + k)) → exec (.reinitKettleZone path k) s = .next ((s.noted.reinitialise (0xD00 + k) []).done path 0x2010 1)) ∧
    (∀ (u : State) (code : Nat), (u.reinitialise code answers).n (K 0x2010 3) = code ∧
      (u.reinitialise code answers).Logged 34 (7 + code * 65536 + u.n (K 0x2011 7) * 2 ^ 32)) ∧
    (∀ u : State, 1 ≤ k → k ≤ 8 → u.flag (K (0x3000 + k) 1) = true →
      (u.reinitFunction 5 k answers).loopState k = 1 ∧ (u.reinitFunction 5 k answers).n (K (0x3000 + k) 8) = 0) ∧
    (∀ u : State, u.ladleReinit.n (K 0x3810 0x11) = 0) ∧
    (∀ u : State, k < 64 → ((u.reinitFunction 0xB k answers).loop k).integral = 0 ∧ ((u.reinitFunction 0xB k answers).loop k).derivative = 0 ∧
      (u.reinitFunction 0xB k answers).n (lk k 0x1C) = 0) ∧
    (∀ u : State, 1 ≤ k → k ≤ 20 → (u.reinitFunction 0xC k answers).hvState k = 0) ∧
    (∀ u : State, 1 ≤ k → k ≤ 3 → (u.reinitFunction 0xD k answers).zoneState k = 0)

/-- With PD16 on and the encoder enabled: a legal edge counts the encoder's edge count up or down by one modulo 2^32 by
its direction and `Direction`, in whatever state the loop is; in LOCKED with a phase error that is not large it moves
every axis the encoder feeds by `Sublines per edge` from the value of the last edge, less what the loop had
interpolated, and leaves the loop's state; an illegal edge raises loss of sync from the encoder's source and takes a
LOCKED loop to FAULT; an edge of an encoder that is not enabled changes nothing; the standstill time takes ACQUIRING
or LOCKED to STANDSTILL; a lost signal takes the loop to FAULT from every state. (R25, R26, R27, R59) -/
def Obligations.EncoderEvents : Prop :=
  ∀ (n : Nat) (err : PhaseError) (s : State), 1 ≤ n → n ≤ 8 → s.on 16 = true →
    (s.flag (K (0x3000 + n) 1) = true → s.n (K (0x3000 + n) 3) = 0 →
      ∃ t, exec (.encoderEdge n .forward err) s = .next t ∧ t.n (K (0x3000 + n) 8) = (s.n (K (0x3000 + n) 8) + 1) % 2 ^ 32) ∧
    (s.flag (K (0x3000 + n) 1) = true → s.n (K (0x3000 + n) 3) = 0 →
      ∃ t, exec (.encoderEdge n .backward err) s = .next t ∧
        t.n (K (0x3000 + n) 8) = (s.n (K (0x3000 + n) 8) + 2 ^ 32 - 1) % 2 ^ 32) ∧
    (s.flag (K (0x3000 + n) 1) = true → s.loopState n = 2 → s.n (K (0x3000 + n) 3) = 0 → err ≠ .large →
      ∃ t, exec (.encoderEdge n .forward err) s = .next t ∧ t.loopState n = 2 ∧ (t.enc n).ahead = 0 ∧
        (∀ a, 1 ≤ a → a ≤ 8 → s.axisSource a = n → Tab.get (fun _ => 0) t.pos.axes a =
          unsigned 64 ((Tab.get (fun _ => 0) s.pos.axes a : Nat) + ((s.n (K (0x3000 + n) 2) : Int) - (s.enc n).ahead))) ∧
        (∀ a, 1 ≤ a → a ≤ 8 → s.axisSource a ≠ n → Tab.get (fun _ => 0) t.pos.axes a = Tab.get (fun _ => 0) s.pos.axes a)) ∧
    (s.flag (K (0x3000 + n) 1) = true → s.loopState n ≠ 2 →
      exec (.encoderEdge n .illegal err) s = .next ((s.fault (encSource n) 8 n).setEnc n { s.enc n with good := 0 })) ∧
    (s.flag (K (0x3000 + n) 1) = true → s.loopState n = 2 → ∃ t, exec (.encoderEdge n .illegal err) s = .next t ∧ t.loopState n = 4) ∧
    (s.flag (K (0x3000 + n) 1) = true → s.loopState n = 1 ∨ s.loopState n = 2 → s.due (tmStandstill n) = true →
      ∃ t, exec (.encoderStandstillTimeout n) s = .next t ∧ t.loopState n = 3 ∧ (t.enc n).speed = 0 ∧ (t.enc n).ahead = 0) ∧
    (∀ edge, s.flag (K (0x3000 + n) 1) = false → exec (.encoderEdge n edge err) s = .next s) ∧
    (∃ t, exec (.encoderSignalInvalid n) s = .next t ∧ t.loopState n = 4 ∧ (t.enc n).speed = 0)

/-- With PD16 on, a capture on an enabled channel and edge latches the time of the edge, to 1 ns and less the channel's
filter time, and the position that the channel's axis had then in the channel's objects, writes EV040 and resolves the
slots that wait for it; a capture on a channel or an edge that is not enabled changes nothing. An overcurrent on
outputs that are driven adds them to `Overcurrent latch`, writes EV044 and raises the fault of the outputs; one that
names no driven output changes nothing. (R33, R40, R45, R46) -/
def Obligations.PositionInputs : Prop :=
  ∀ (ch ns mask : Nat) (rising : Bool) (s : State),
    (ch < 16 → s.on 16 = true → bitOf (s.captureWord ch) 31 = true → bitOf (s.captureWord ch) (if rising then 29 else 30) = true →
      ∃ t, exec (.capture ch rising ns) s = .next t ∧
        t.n (K 0x3030 (0x11 + ch)) = s.edgePosition ch ns ∧
        t.n (K 0x3030 (0x21 + ch)) = s.stamp + ns % 4 - field (s.captureWord ch) 15 8 * 1000 ∧
        t.ev.held = s.ev.held ++ [(s.record 1 40 (ch + s.edgePosition ch ns * 65536) false)] ∧
        (∀ k, k ≠ K 0x3030 (0x11 + ch) → k ≠ K 0x3030 (0x21 + ch) → t.val k = s.val k)) ∧
    ((16 ≤ ch ∨ s.on 16 = false ∨ bitOf (s.captureWord ch) 31 = false ∨ bitOf (s.captureWord ch) (if rising then 29 else 30) = false) →
      exec (.capture ch rising ns) s = .next s) ∧
    (mask &&& s.outputPins ≠ 0 → ∃ t, exec (.outputOvercurrent mask) s = .next t ∧
        t.n (K 0x3050 5) = s.n (K 0x3050 5) ||| (mask &&& s.outputPins) ∧
        t.lid.net.map Detected.word = s.lid.net.map Detected.word ++ [faultWord 0x74 9 (mask &&& s.outputPins) false false false]) ∧
    (mask &&& s.outputPins = 0 → exec (.outputOvercurrent mask) s = .next s)

/-- An edge of STAMP_SYNC of the configured polarity latches its Stamp time, and changes nothing more unless the alignment
source is STAMP_SYNC, where the first one is only remembered and each later one gives the alignment error, the time
since the last one less the period; an edge of the other polarity changes nothing. A DC SYNC0 time moves the offset
only where the error is more than 50 ns and EtherCAT is the source. A synchronised clock whose synchronisation stays
away goes to HOLDOVER with EV028. (R48, R49, R50) -/
def Obligations.AlignmentEvents : Prop :=
  ∀ (rising : Bool) (ns time : Nat) (s : State),
    (decide (s.n (K 0x2400 9) = 0) = rising → s.n (K 0x2400 2) ≠ 2 →
      exec (.stampSyncEdge rising ns) s = .next (s.setn (K 0x2400 8) (s.stamp + ns))) ∧
    (decide (s.n (K 0x2400 9) = 0) = rising → s.n (K 0x2400 2) = 2 → s.ev.syncLast = none →
      ∃ t, exec (.stampSyncEdge rising ns) s = .next t ∧ t.n (K 0x2400 8) = s.stamp + ns ∧ t.ev.syncLast = some (s.stamp + ns) ∧
        (∀ k, k ≠ K 0x2400 8 → t.val k = s.val k)) ∧
    (decide (s.n (K 0x2400 9) = 0) ≠ rising → exec (.stampSyncEdge rising ns) s = .next s) ∧
    (s.n (K 0x2400 2) = 1 → s.on 8 = true →
      50 < (signed 64 (time + 2 ^ 65 - s.stamp - s.n (K 0x2400 4))).natAbs →
      ∃ t, exec (.dcSyncCycle time) s = .next t ∧ t.n (K 0x2400 4) = unsigned 64 ((time : Int) - s.stamp)) ∧
    (s.n (K 0x2400 2) ≠ 1 ∨ s.on 8 = false → exec (.dcSyncCycle time) s = .next s) ∧
    (s.n (K 0x2400 3) = 2 → s.due tmSync = true →
      ∃ t, exec .alignmentSyncLost s = .next t ∧ t.n (K 0x2400 3) = 3 ∧ t.ev.syncGood = 0 ∧
        (∀ k, k ≠ K 0x2400 3 → t.val k = s.val k)) ∧
    (∀ last, decide (s.n (K 0x2400 9) = 0) = rising → s.n (K 0x2400 2) = 2 → s.ev.syncLast = some last →
      ∃ t, exec (.stampSyncEdge rising ns) s = .next t ∧ t.n (K 0x2400 8) = s.stamp + ns ∧ t.ev.syncLast = some (s.stamp + ns) ∧
        t.i (K 0x2400 5) = clampInt (-(2 ^ 31)) (2 ^ 31 - 1) (((s.stamp + ns - last : Nat) : Int) - s.n (K 0x2400 7)))

/-- A record held by the recorder enters the trace memory once 64 ns of Stamp time have passed since its stamp, four at
the most in one grid step, the earliest first, and leaves the recorder's hold; before that it stays. `Records damaged`
counts a record that an uncorrectable error hits, a free value of its sequence number and the Stamp time (log entry
165), and no other. At the end of a trace ring's hold-off a single record that waits is written as an entry of its
own. (R51, R53, R54, R262) -/
def Obligations.RecorderDrains : Prop :=
  ∀ (ring : Nat) (r : Rec) (rest : List Rec) (s : State),
    (nextHeld s.ev.held = some (r, rest) → r.stamp + 64 ≤ s.stamp → (s.ev.step = s.stamp → s.ev.entered < 4) →
      ∃ t, exec .traceEntry s = .next t ∧ t.ev.step = s.stamp ∧ (s.ev.trace.length < 16000 → t.ev.held = rest)) ∧
    (nextHeld s.ev.held = some (r, rest) → s.stamp < r.stamp + 64 → exec .traceEntry s = .next s) ∧
    (nextHeld s.ev.held = none → exec .traceEntry s = .next s) ∧
    (s.due (tmDrain ring) = true → s.ringRoom ring = true → waitingFor ring 1 s.ev.trace ≠ [] →
      exec (.drainHoldoffExpired ring) s = .next (((s.drainEntry ring 1).disarm (tmDrain ring)).drainRing ring)) ∧
    (s.due (tmDrain ring) = false → exec (.drainHoldoffExpired ring) s = .next s) ∧
    (nextHeld s.ev.held = some (r, rest) → r.stamp + 64 ≤ s.stamp → (s.ev.step = s.stamp → s.ev.entered < 4) →
      s.ev.trace.length < 16000 → s.ev.lost = 0 →
      ∃ t, exec .traceEntry s = .next t ∧ t.n (K 0x2401 5) =
        (if Config.recordDamaged ((s.ev.sequence + 1) % 2 ^ 16) s.stamp = true then (s.n (K 0x2401 5) + 1) % 2 ^ 32 else s.n (K 0x2401 5)))

/-- A crossing that is missing for 1.5 periods takes a LOCKED mains time base to HOLDOVER with the fault of source 0x72,
and the end of `Holdover cycles` takes HOLDOVER to INVALID; with PD15 off that is all that changes. A positive
crossing is taken as the time base's rules say and then shown to the Kettle zones; in LOCKED it measures the period,
which the mains frequency then reads as. (R35, R36, R37, R59) -/
def Obligations.MainsEvents : Prop :=
  ∀ (positive : Bool) (s : State),
    (exec (.mainsZeroCrossing positive) s = .next ((s.mainsCrossing positive).refreshZones true)) ∧
    (∀ t0, s.on 15 = false → s.pos.mains.last = some t0 → s.n (K 0x3020 1) = 1 →
      3 * 10 ^ 12 ≤ 2 * (s.stamp - t0) * s.n (K 0x3020 4) →
      ∃ t, exec .mainsCrossingMissing s = .next t ∧ t.n (K 0x3020 1) = 2 ∧ t.pos.mains.held = 0 ∧
        t.lid.net.map Detected.word = s.lid.net.map Detected.word ++ [faultWord 0x72 8 0 false false false]) ∧
    (s.on 15 = false → s.n (K 0x3020 1) = 2 → s.n (K 0x3020 6) ≤ s.pos.mains.held →
      ∃ t, exec .mainsHoldoverExpired s = .next t ∧ t.n (K 0x3020 1) = 3 ∧ t.pos.mains.periods = []) ∧
    (s.on 15 = false → s.n (K 0x3020 1) ≠ 2 → exec .mainsHoldoverExpired s = .next s) ∧
    (∀ t0, s.on 15 = false → s.pos.mains.last = some t0 → s.n (K 0x3020 1) = 1 →
      ∃ t, exec (.mainsZeroCrossing true) s = .next t ∧ t.pos.mains.last = some s.stamp ∧ t.n (K 0x3020 1) = 1 ∧
        t.n (K 0x3020 4) = milliHertz (s.stamp - t0) % 2 ^ 32 ∧ (∀ k, k ≠ K 0x3020 4 → t.val k = s.val k))

/-- A slot with one of these actions that falls due, and below which no slot is due, is freed, counted and recorded in
EV041; SET_OUTPUT and CLEAR_OUTPUT then drive the slot's output to 1 or 0, DIVERT drives it to 1 where the page of the
slot is spoiled and leaves it where the slot's page is gone, and RAISE_EVENT writes EV085 with the slot's argument,
step and tag. Nothing else of the module changes. A slot that does not fire changes nothing. (R11, R12, R40, R143) -/
def Obligations.SlotOutputs : Prop :=
  ∀ (k : Nat) (s : State),
    (s.Fires k 1 → ∃ t, exec (.setOutput k) s = .next t ∧ t = (s.fired k).slotOutput (s.slot k).target true ∧ t.slot k = {} ∧
      t.pos.slotOut = putBit s.pos.slotOut ((s.slot k).target - 1) true ∧ t.n (K 0x3040 4) = (s.n (K 0x3040 4) + 1) % 2 ^ 32 ∧
      (∀ j, j ≠ K 0x3040 4 → t.val j = s.val j)) ∧
    (s.Fires k 2 → ∃ t, exec (.clearOutput k) s = .next t ∧ t = (s.fired k).slotOutput (s.slot k).target false ∧ t.slot k = {} ∧
      t.pos.slotOut = putBit s.pos.slotOut ((s.slot k).target - 1) false ∧ (∀ j, j ≠ K 0x3040 4 → t.val j = s.val j)) ∧
    (s.Fires k 3 → (s.slot k).page ≠ 0 → (s.page ((s.slot k).page - 1)).tag = (s.slot k).tag → (s.page ((s.slot k).page - 1)).spoil ≠ 0 →
      ∃ t, exec (.divert k) s = .next t ∧ t = (s.fired k).slotOutput (s.slot k).target true ∧ t.slot k = {} ∧ t.pos.slotOut = putBit s.pos.slotOut ((s.slot k).target - 1) true) ∧
    (s.Fires k 3 → (s.slot k).page = 0 → exec (.divert k) s = .next (s.fired k)) ∧
    (s.Fires k 0x40 → ∃ t, exec (.raiseEvent k) s = .next t ∧ t.slot k = {} ∧ t.pos.slotOut = s.pos.slotOut ∧
      t.ev.held = (s.fired k).ev.held ++
        [s.record 1 85 ((s.slot k).arg + (s.slot k).step * 65536 + (s.slot k).tag * 2 ^ 32) (Config.firmwareRaised 85)]) ∧
    (s.slotDue k = false → exec (.setOutput k) s = .next s ∧ exec (.clearOutput k) s = .next s ∧ exec (.divert k) s = .next s ∧
      exec (.raiseEvent k) s = .next s)

/-- A slot of these actions that fires is freed, counted and recorded. CHECK_INPUT samples the input and, where the
sampled level is not the one the slot's argument expects, spoils the page with cause 9, or ends it where the argument
says so; a level as expected spoils nothing. DELIVERY_CHECK opens the delivery window of the slot's page for the time
of its argument. PAGE_STATE moves the page on to FUSED for target 6 and, for a target other than TRANSFERRED and
FUSED, ends it as DELIVERED. A slot whose page is gone acts on no page. (R40, R143, R162) -/
def Obligations.SlotChecks : Prop :=
  ∀ (k i : Nat) (level : Bool) (s : State),
    (s.Fires k 0x41 → (s.fired k).slotPage (s.slot k) = some i → bitOf (s.slot k).arg 0 = level →
      exec (.checkInput k level) s = .next ((s.fired k).sampleInput (s.slot k).target level)) ∧
    (s.Fires k 0x41 → s.slotPage (s.slot k) = some i → bitOf (s.slot k).arg 0 ≠ level → bitOf (s.slot k).arg 1 = false →
      ∃ t, exec (.checkInput k level) s = .next t ∧ ((s.page i).spoil = 0 → (t.page i).spoil = 9) ∧
        ((s.page i).spoil ≠ 0 → (t.page i).spoil = (s.page i).spoil) ∧ (t.page i).state = (s.page i).state ∧
        t.pos.inputs = putBit s.pos.inputs ((s.slot k).target - 1) level) ∧
    (s.Fires k 0x41 → (s.fired k).slotPage (s.slot k) = some i → bitOf (s.slot k).arg 0 ≠ level → bitOf (s.slot k).arg 1 = true →
      exec (.checkInput k level) s =
        .next (((s.fired k).sampleInput (s.slot k).target level).endPageBadly i 9 (s.slot k).target 3)) ∧
    (s.Fires k 0x42 → s.slotPage (s.slot k) = some i →
      ∃ t, exec (.deliveryCheck k) s = .next t ∧ (t.page i).window = some ((s.slot k).target, bitOf (s.slot k).arg 15) ∧
        (t.page i).state = (s.page i).state ∧ t.armed (tmWindow i) = true ∧ t.slot k = {}) ∧
    (s.Fires k 0x42 → s.slotPage (s.slot k) = none → exec (.deliveryCheck k) s = .next (s.fired k)) ∧
    (s.Fires k 0x50 → s.slotPage (s.slot k) = some i → (s.slot k).target = 6 → (s.page i).state < 6 →
      ∃ t, exec (.pageState k) s = .next t ∧ (t.page i).state = 6 ∧ t.slot k = {}) ∧
    (s.Fires k 0x50 → (s.fired k).slotPage (s.slot k) = some i → (s.slot k).target ≠ 5 → (s.slot k).target ≠ 6 →
      exec (.pageState k) s = .next ((s.fired k).endPage i)) ∧
    (s.Fires k 0x50 → s.slotPage (s.slot k) = none → exec (.pageState k) s = .next (s.fired k))

/-- A slot of these actions that fires is freed, counted and recorded. START_IMAGE starts the image of the slot's page on
a station whose domain is on and moves the page to IMAGING; STOP_IMAGE truncates the page's image on the station,
where the station images that page, and does nothing where it does not; RELEASE_BANDS releases the decode-queue
entries of the page at the station. (R40, R143) -/
def Obligations.SlotImages : Prop :=
  ∀ (k i : Nat) (s : State),
    (s.Fires k 0x10 → (s.fired k).slotPage (s.slot k) = some i → (s.fired k).stationOn (s.slot k).target = true →
      exec (.startImage k) s = .next (((s.fired k).startImage i (s.slot k).target).advancePage i 4)) ∧
    (s.Fires k 0x10 → s.slotPage (s.slot k) = some i → s.stationOn (s.slot k).target = false → (s.page i).state < 4 →
      ∃ t, exec (.startImage k) s = .next t ∧ (t.page i).state = 4 ∧ t.slot k = {}) ∧
    (s.Fires k 0x10 → s.slotPage (s.slot k) = none → exec (.startImage k) s = .next (s.fired k)) ∧
    (s.Fires k 0x10 → s.slotPage (s.slot k) = some i → s.stationOn (s.slot k).target = true →
      ∃ t, exec (.startImage k) s = .next t ∧ (t.station (s.slot k).target).image.page = i + 1 ∧
        (t.station (s.slot k).target).image.going = true ∧ (t.station (s.slot k).target).image.origin = s.axisPos 1 ∧ t.slot k = {}) ∧
    (s.Fires k 0x11 → s.slotPage (s.slot k) = some i → (s.station (s.slot k).target).image.page = i + 1 →
      ∃ t, exec (.stopImage k) s = .next t ∧ (t.station (s.slot k).target).image.going = false ∧ t.slot k = {}) ∧
    (s.Fires k 0x11 → (s.fired k).slotPage (s.slot k) = some i → (s.station (s.slot k).target).image.page = i + 1 →
      exec (.stopImage k) s = .next ((s.fired k).truncate (s.slot k).target 1)) ∧
    (s.Fires k 0x11 → (s.fired k).slotPage (s.slot k) = some i → (s.station (s.slot k).target).image.page ≠ i + 1 →
      exec (.stopImage k) s = .next (s.fired k)) ∧
    (s.Fires k 0x12 → (s.fired k).slotPage (s.slot k) = some i → ∃ t u : State, exec (.releaseBands k) s = .next t ∧
      t = u.feedDecode (s.slot k).target ∧ u.slot k = {} ∧
      (∀ e ∈ u.queue (s.slot k).target, e.page = i → e.released = true) ∧
      (u.queue (s.slot k).target).length = (s.queue (s.slot k).target).length)

/-- A slot of these actions that fires is freed, counted and recorded. HV_ON and HV_RAMP take an HV channel that is on or
standing by to the value of the slot's argument and leave it ON, HV_OFF takes one that is ON to STANDBY and leaves one
that stands by; on a channel in another state each only writes its refused-command event. STEP_MOVE starts the profile
entry of the argument on an axis that takes it: the axis is MOVING under the slot's tag, or waits for its energising
where it was de-energised; where the axis refuses it only reports the refusal and raises the axis's fault; on an axis
without power it does nothing. DRIVE_PROFILE starts the profile of the argument on a drive that has power: the Speed
command takes the entry's speed. A host's write of the same grid step acts again after the slot's, and the later
stands. (R40, R143, R306, R329, R331, R361) -/
def Obligations.SlotMotion : Prop :=
  ∀ (k : Nat) (s : State),
    (s.Fires k 0x20 → exec (.hvOn k) s =
      .next (((s.fired k).hvOn (s.slot k).target ((s.slot k).arg % 4096) (s.slot k).tag 2 none).hostSwitchStands (s.slot k).target)) ∧
    (s.Fires k 0x21 → exec (.hvRamp k) s =
      .next (((s.fired k).hvOn (s.slot k).target ((s.slot k).arg % 4096) (s.slot k).tag 2
        (some (2 ^ ((s.slot k).arg / 4096)))).hostSwitchStands (s.slot k).target)) ∧
    (s.Fires k 0x20 → s.hvState (s.slot k).target ≠ 1 → s.hvState (s.slot k).target ≠ 2 → (s.hv (s.slot k).target).hostAt ≠ some s.stamp →
      exec (.hvOn k) s = .next ((s.fired k).hvEvent (s.slot k).target 1 0 (s.slot k).tag)) ∧
    (s.Fires k 0x22 → s.hvState (s.slot k).target = 2 →
      exec (.hvOff k) s = .next (((s.fired k).hvTo (s.slot k).target 1 2).hostSwitchStands (s.slot k).target)) ∧
    (s.Fires k 0x22 → s.hvState (s.slot k).target = 1 → exec (.hvOff k) s = .next ((s.fired k).hostSwitchStands (s.slot k).target)) ∧
    (s.Fires k 0x20 → s.hvState (s.slot k).target = 1 ∨ s.hvState (s.slot k).target = 2 →
      (s.hv (s.slot k).target).hostAt ≠ some s.stamp →
      ∃ t, exec (.hvOn k) s = .next t ∧ t.slot k = {} ∧ t.hvState (s.slot k).target = 2 ∧
        (t.hv (s.slot k).target).code = (s.slot k).arg % 4096 ∧ (t.hv (s.slot k).target).tag = (s.slot k).tag) ∧
    (s.Fires k 0x21 → s.hvState (s.slot k).target = 1 ∨ s.hvState (s.slot k).target = 2 →
      (s.hv (s.slot k).target).hostAt ≠ some s.stamp →
      ∃ t, exec (.hvRamp k) s = .next t ∧ t.slot k = {} ∧ t.hvState (s.slot k).target = 2 ∧
        (t.hv (s.slot k).target).code = (s.slot k).arg % 4096 ∧ (t.hv (s.slot k).target).tag = (s.slot k).tag) ∧
    (s.Fires k 0x22 → s.hvState (s.slot k).target = 2 → (s.hv (s.slot k).target).hostAt ≠ some s.stamp →
      ∃ t, exec (.hvOff k) s = .next t ∧ t.slot k = {} ∧ t.hvState (s.slot k).target = 1 ∧ t.n (hk (s.slot k).target 7) = 0) ∧
    (s.Fires k 0x30 → s.axisOn (s.slot k).target = true →
      (s.fired k).moveRefusal (s.slot k).target ((s.slot k).arg % 64) 0 = none → exec (.stepMove k) s =
        .next (((s.fired k).startMove (s.slot k).target ((s.slot k).arg % 64) (s.slot k).tag true 0).hostStands (s.slot k).target)) ∧
    (s.Fires k 0x30 → s.axisOn (s.slot k).target = true →
      (s.fired k).moveRefusal (s.slot k).target ((s.slot k).arg % 64) 0 = none → s.axisState (s.slot k).target ≠ 2 →
      (s.stepper (s.slot k).target).hostAt ≠ some s.stamp →
      ∃ t, exec (.stepMove k) s = .next t ∧ t.slot k = {} ∧ t.axisState (s.slot k).target = 3 ∧
        (t.stepper (s.slot k).target).entry = (s.slot k).arg % 64 ∧ (t.stepper (s.slot k).target).tag = (s.slot k).tag ∧
        (t.stepper (s.slot k).target).purpose = 1 ∧ (t.stepper (s.slot k).target).begun = s.stamp) ∧
    (s.Fires k 0x30 → s.axisOn (s.slot k).target = true →
      (s.fired k).moveRefusal (s.slot k).target ((s.slot k).arg % 64) 0 = none → s.axisState (s.slot k).target = 2 →
      (s.stepper (s.slot k).target).hostAt ≠ some s.stamp →
      ∃ t, exec (.stepMove k) s = .next t ∧ t.slot k = {} ∧ (t.stepper (s.slot k).target).waiting = 2 ∧
        (t.stepper (s.slot k).target).entry = (s.slot k).arg % 64) ∧
    (∀ c, s.Fires k 0x30 → s.axisOn (s.slot k).target = true →
      (s.fired k).moveRefusal (s.slot k).target ((s.slot k).arg % 64) 0 = some c →
      ∃ t, exec (.stepMove k) s = .next t ∧ t.Sent (stepSource (s.slot k).target) 6 (s.slot k).target ∧ t.steppers = s.steppers) ∧
    (s.Fires k 0x30 → s.axisOn (s.slot k).target = false → exec (.stepMove k) s = .next (s.fired k)) ∧
    (s.Fires k 0x31 → s.driveOn (s.slot k).target = true →
      exec (.driveProfile k) s = .next ((s.fired k).startProfile (s.slot k).target (s.slot k).arg true)) ∧
    (∀ (u : State) (c e : Nat) (fired : Bool), u.n (dk c 0 2) = 0 → leAt 4 4 (slice (16 * e) 16 (u.bytes (dk c 3 1))) ≠ 0 →
      (u.drive c).written ≠ some u.stamp →
      ∃ v : State, u.startProfile c e fired = v.driveCheck c 2 ∧
        v.i (dk c 0 3) = signed 32 (leAt 0 4 (slice (16 * e) 16 (u.bytes (dk c 3 1)))) ∧ (v.drive c).limits.isSome = true) ∧
    (s.Fires k 0x31 → s.driveOn (s.slot k).target = false → exec (.driveProfile k) s = .next (s.fired k))

/-- With the service serving and an entry waiting on an enabled ring: a plan that passes every test makes a page QUEUED in
a free place, last in the plan order, with the tag, recipe, lines, flags, partner, job and NOT_BEFORE of the entry; a
plan that fails one is answered with that status and leaves the page table and the order as they are. A page command
that passes its test acts on the page its tag names: RELEASE and CANCEL purge it, REPRINT makes a new page of it,
MARK_SPOILED spoils a page in flight with cause 14; one that fails is answered with its status and leaves the page
table as it is. In a switch-over gap an entry is taken and held for the unit that takes over. (R146, R147, R148, R149,
R151, R152, R161, R168) -/
def Obligations.PageRings : Prop :=
  ∀ (ws : List Nat) (i : Nat) (s : State), s.linkUp = true →
    (s.served = false → s.twin.switching = true → s.hasEntry 56 = true →
      ∃ t, exec (.pagePlanSubmit (some ws)) s = .next t ∧ t.pages.gapTaken = s.pages.gapTaken ++ [(56, s.headIndex 56, ws)] ∧
        t.pages.table = s.pages.table) ∧
    (s.served = true → s.hasEntry 56 = true → (s.consumed 56).planStatus ws = 0 → s.freePlace = some i →
      ∃ t, exec (.pagePlanSubmit (some ws)) s = .next t ∧ (t.page i).state = 0 ∧ (t.page i).tag = field (wordAt ws 0) 15 0 ∧
        (t.page i).recipe = field (wordAt ws 0) 39 32 ∧ (t.page i).lines = field (wordAt ws 1) 31 0 ∧
        (t.page i).flags = field (wordAt ws 0) 47 40 ∧ (t.page i).notBefore = wordAt ws 2 ∧ t.pages.order = s.pages.order ++ [i]) ∧
    (s.served = true → s.hasEntry 56 = true → (s.consumed 56).planStatus ws ≠ 0 →
      ∃ t, exec (.pagePlanSubmit (some ws)) s = .next t ∧ t.pages.table = s.pages.table ∧ t.pages.order = s.pages.order) ∧
    (s.served = true → s.hasEntry 57 = true → field (wordAt ws 0) 39 32 = 1 → (s.consumed 57).commandStatus ws = 0 →
      exec (.release (some ws)) s = .next (((s.consumed 57).answerPage 57 (s.headIndex 57) (field (wordAt ws 0) 15 0) 0).pageCommand 1
        (((s.consumed 57).placeOf (field (wordAt ws 0) 15 0)).getD 0) (field (wordAt ws 0) 31 16))) ∧
    (s.served = true → s.hasEntry 57 = true → field (wordAt ws 0) 39 32 = 2 → (s.consumed 57).commandStatus ws = 0 →
      exec (.cancel (some ws)) s = .next (((s.consumed 57).answerPage 57 (s.headIndex 57) (field (wordAt ws 0) 15 0) 0).pageCommand 2
        (((s.consumed 57).placeOf (field (wordAt ws 0) 15 0)).getD 0) (field (wordAt ws 0) 31 16))) ∧
    (s.served = true → s.hasEntry 57 = true → field (wordAt ws 0) 39 32 = 3 → (s.consumed 57).commandStatus ws = 0 →
      exec (.reprint (some ws)) s = .next (((s.consumed 57).answerPage 57 (s.headIndex 57) (field (wordAt ws 0) 15 0) 0).pageCommand 3
        (((s.consumed 57).placeOf (field (wordAt ws 0) 15 0)).getD 0) (field (wordAt ws 0) 31 16))) ∧
    (s.served = true → s.hasEntry 57 = true → field (wordAt ws 0) 39 32 = 4 → (s.consumed 57).commandStatus ws = 0 →
      s.placeOf (field (wordAt ws 0) 15 0) = some i → (s.page i).running = true → (s.page i).spoil = 0 →
      ∃ t, exec (.markSpoiled (some ws)) s = .next t ∧ (t.page i).spoil = 14 ∧ (t.page i).state = (s.page i).state) ∧
    (s.served = true → s.hasEntry 57 = true → field (wordAt ws 0) 39 32 = 4 → (s.consumed 57).commandStatus ws ≠ 0 →
      ∃ t, exec (.markSpoiled (some ws)) s = .next t ∧ t.pages.table = s.pages.table) ∧
    (s.served = true → s.hasEntry 57 = true → field (wordAt ws 0) 39 32 = 1 → (s.consumed 57).commandStatus ws = 0 →
      s.placeOf (field (wordAt ws 0) 15 0) = some i →
      ∃ t, exec (.release (some ws)) s = .next t ∧ t.page i = {} ∧ i ∉ t.pages.order) ∧
    (s.served = true → s.hasEntry 57 = true → field (wordAt ws 0) 39 32 = 2 → (s.consumed 57).commandStatus ws = 0 →
      s.placeOf (field (wordAt ws 0) 15 0) = some i →
      ∃ t, exec (.cancel (some ws)) s = .next t ∧ t.page i = {} ∧ i ∉ t.pages.order) ∧
    (∀ j, s.served = true → s.hasEntry 57 = true → field (wordAt ws 0) 39 32 = 3 → (s.consumed 57).commandStatus ws = 0 →
      s.placeOf (field (wordAt ws 0) 15 0) = some i → s.freePlace = some j →
      ∃ t, exec (.reprint (some ws)) s = .next t ∧ (t.page j).state = 1 ∧ (t.page j).tag = field (wordAt ws 0) 31 16 ∧
        (t.page j).recipe = (s.page i).recipe ∧ (t.page j).lines = (s.page i).lines ∧ (t.page j).blocks = (s.page i).blocks ∧
        (t.page j).reprints = (s.page i).reprints + 1 ∧ t.pages.order.head? = some j)

/-- With the service serving and PD16 on: where no page is admitted and the head of the order is RESIDENT with its gate
near, the admission test takes it to ADMITTED when no cause refuses it, and otherwise records the refusal and leaves
it RESIDENT; an ADMITTED page of which a condition has ceased goes back to RESIDENT. A commit of the admitted page at
its gate, where the gate was reached with no throttle, is refused by the first cause of the table: a condition of
admission, too few free slots (0x10), a slot already late (0x11), NOT_BEFORE (0x12), a busy capture channel (0x13); a
refused page stays ADMITTED. Otherwise it is carried out: the page is COMMITTED with its gate open, its commit
reference is A1, and it leaves the plan order. A gate that A1 reached while a throttle held is skipped: the next gate
lies 256 times `Page pitch` further and the skip is counted. (R16, R153, R155, R156, R157, R158, R160, R161) -/
def Obligations.AdmissionAndCommit : Prop :=
  ∀ (inputs i : Nat) (s : State), s.on 16 = true →
    (s.served = true → s.admittedPage = none → s.pages.order.head? = some i → (s.page i).state = 1 → s.pages.stopped = false →
      (∀ u : State, u = { s with pos := { s.pos with inputs := s.pos.inputs / 2 ^ 48 * 2 ^ 48 + inputs % 2 ^ 48 } } →
        u.gateNear = true →
        (u.refusalOf i inputs = none → ∃ t, exec (.admissionTest inputs) s = .next t ∧ (t.page i).state = 2 ∧ (t.page i).refusal = 0) ∧
        (∀ r, u.refusalOf i inputs = some r → ∃ t, exec (.admissionTest inputs) s = .next t ∧ (t.page i).state = 1 ∧
          (t.page i).refusal = r.1))) ∧
    (s.served = true → s.admittedPage = some i →
      (∀ u r, u = { s with pos := { s.pos with inputs := s.pos.inputs / 2 ^ 48 * 2 ^ 48 + inputs % 2 ^ 48 } } →
        u.refusalOf i inputs = some r →
        ∃ t, exec (.admissionTest inputs) s = .next t ∧ (t.page i).state = 1 ∧ (t.page i).refusal = r.1)) ∧
    (∀ r, s.served = true → s.admittedPage = some i → (s.page i).state = 2 → s.gateReached = true → (s.gateOpen = true ∨ s.gateJudged = 1) →
      s.refusalOf i (s.pos.inputs % 2 ^ 48) = some r →
      ∃ t, exec .commit s = .next t ∧ (t.page i).state = 2 ∧ (t.page i).refusal = r.1) ∧
    (s.served = true → s.admittedPage = some i → s.gateReached = true → (s.gateOpen = true ∨ s.gateJudged = 1) →
      s.refusalOf i (s.pos.inputs % 2 ^ 48) = none →
      (s.slotsShort i = true → exec .commit s = .next (s.recordRefusal i (0x10, 0, 0))) ∧
      (s.slotsShort i = false → s.slotsLate i = true → exec .commit s = .next ((s.undoCommit i 0x11).recordRefusal i (0x11, 0, 0))) ∧
      (s.slotsShort i = false → s.slotsLate i = false → s.stamp < (s.page i).notBefore →
        exec .commit s = .next (s.recordRefusal i (0x12, 0, 0))) ∧
      (s.slotsShort i = false → s.slotsLate i = false → (s.page i).notBefore ≤ s.stamp → s.captureBusy i = true →
        exec .commit s = .next (s.recordRefusal i (0x13, 0, 0))) ∧
      (s.slotsShort i = false → s.slotsLate i = false → (s.page i).notBefore ≤ s.stamp → s.captureBusy i = false →
        exec .commit s = .next (s.commit i)) ∧
      (s.slotsShort i = false → s.slotsLate i = false → (s.page i).notBefore ≤ s.stamp → s.captureBusy i = false → (s.page i).state = 2 →
        ∃ t, exec .commit s = .next t ∧ (t.page i).state = 3 ∧ (t.page i).gate = 2 ∧ (t.page i).reference = s.axisPos 1 ∧
          (t.page i).spoil = 0 ∧ (t.page i).tag = (s.page i).tag ∧ t.pages.previous = some (s.axisPos 1) ∧ i ∉ t.pages.order)) ∧
    (s.gateReached = false → exec .commit s = .next s) ∧
    (s.gateOpen = false → s.gateReached = true → s.gateJudged = 2 →
      ∃ t, exec .gateSkip s = .next t ∧ t.n (K 0x3500 0x10) = (s.n (K 0x3500 0x10) + 1) % 256 ∧
        t.n (K 0x3500 0xF) = (s.n (K 0x3500 0xF) + 256 * s.n (K 0x3500 2)) % 2 ^ 48 ∧ t.pages.gateFound = 0 ∧
        (∀ k, k ≠ K 0x3500 0x10 → k ≠ K 0x3500 0xF → t.val k = s.val k)) ∧
    (s.pages.gateFound = 0 → s.throttled = true → s.gateJudged = 2) ∧ (s.pages.gateFound = 0 → s.throttled = false → s.gateJudged = 1)

/-- With PD16 on, a delivery edge samples its input and ends the pages in flight whose delivery window waits for that edge
of that input, as DELIVERED where the page is not spoiled, and changes no page where none does; the end of the
delivery window of a page in flight ends it with cause 10, and the end of its deadline counts the expiry and ends it
with cause 11; neither does anything before it is due. A page that ends badly while it is not spoiled yet takes the
cause given. (R151, R152, R161, R162, R163, R164) -/
def Obligations.PageEnds : Prop :=
  ∀ (input tag i : Nat) (rising : Bool) (s : State), s.on 16 = true →
    (exec (.deliveryEdge input rising) s = .next ((s.sampleInput input rising).each
      (s.pagesWith (fun p => p.running && p.window == some (input, rising))) State.endPage)) ∧
    (s.pagesWith (fun p => p.running && p.window == some (input, rising)) = [i] → (s.page i).spoil = 0 → (s.page i).running = true →
      ∃ t, exec (.deliveryEdge input rising) s = .next t ∧ (t.page i).state = 7 ∧ (t.page i).window = none ∧ (t.page i).tag = (s.page i).tag) ∧
    (s.pagesWith (fun p => p.running && p.window == some (input, rising)) = [] →
      ∃ t, exec (.deliveryEdge input rising) s = .next t ∧ t.pages = s.pages ∧ t.pos.inputs = putBit s.pos.inputs (input - 1) rising) ∧
    (∀ w, s.placeOf tag = some i → (s.page i).window = some w → (s.page i).running = true → s.due (tmWindow i) = true →
      exec (.deliveryWindowExpired tag) s = .next (s.endPageBadly i 10 w.1 2)) ∧
    (s.placeOf tag = some i → s.due (tmWindow i) = false → exec (.deliveryWindowExpired tag) s = .next s) ∧
    (s.placeOf tag = some i → (s.page i).running = true → s.due (tmDeadline i) = true →
      exec (.pageDeadlineExpired tag) s = .next ((s.bump (K 0x3500 0x15)).endPageBadly i 11 0 1)) ∧
    (s.placeOf tag = some i → s.due (tmDeadline i) = false → exec (.pageDeadlineExpired tag) s = .next s) ∧
    (∀ cause who, (s.page i).running = true → (s.page i).spoil = 0 → ((s.spoilPage i cause who).page i).spoil = cause ∧
      ((s.spoilPage i cause who).page i).state = (s.page i).state ∧ ∀ j, j ≠ i → (s.spoilPage i cause who).page j = s.page j)

/-- On a web-fed module, a web break of a configured input writes EV087 subcode 1 and spoils the pages in flight; a splice
writes subcode 2, is pending from then on and spoils the pages COMMITTED and IMAGING; the end of the splice signal
notes where A1 stands; and once A1 has gone on by `Splice clearance` past that the splice is no longer pending, with
subcode 3. On a module that is not web-fed the first two do nothing. (R161, R170, R171) -/
def Obligations.WebEvents : Prop :=
  ∀ (s : State), s.on 16 = true →
    (s.flag (K 0x3500 8) = true → s.n (K 0x3500 9) % 64 ≠ 0 → s.pagesWith Page.running = [] →
      ∃ t, exec .webBreak s = .next t ∧ t.ev.held = s.ev.held ++ [s.record 1 87 1 (Config.firmwareRaised 87)] ∧ t.pages = s.pages) ∧
    (∀ i, s.flag (K 0x3500 8) = true → s.n (K 0x3500 9) % 64 ≠ 0 → s.pagesWith Page.running = [i] → (s.page i).spoil = 0 →
      (s.page i).running = true →
      ∃ t, exec .webBreak s = .next t ∧ (t.page i).spoil = 12 ∧ (t.page i).state = (s.page i).state) ∧
    (s.flag (K 0x3500 8) = true → s.n (K 0x3500 0xA) % 64 ≠ 0 →
      ∃ t, exec .splice s = .next t ∧ t.pages.splicePending = true ∧ t.pages.spliceFrom = none) ∧
    (s.flag (K 0x3500 8) = false → exec .webBreak s = .next s ∧ exec .splice s = .next s) ∧
    (s.pages.splicePending = true →
      ∃ t, exec .spliceDeactivation s = .next t ∧ t.pages.spliceFrom = some (s.axisPos 1) ∧ t.pages.splicePending = true) ∧
    (∀ a, s.pages.spliceFrom = some a → s.pages.splicePending = true →
      256 * s.n (K 0x3500 0xB) ≤ distance 48 (s.axisPos 1) a →
      ∃ t, exec .spliceCleared s = .next t ∧ t.pages.splicePending = false ∧ t.pages.spliceFrom = none ∧
        t.ev.held = s.ev.held ++ [s.record 1 87 3 (Config.firmwareRaised 87)]) ∧
    (s.pages.spliceFrom = none → exec .spliceCleared s = .next s)

/-- On a station that predicts its facets, the SOS window opens its time before the predicted SOS: the beams for the
detector are lit, and where no image is in progress none of its lines are assigned; it does not open early. The EOS
window opens its time before the predicted EOS on a synchronised station of a locked polygon that waits for its EOS;
it does nothing on a station that waits for none. An end of line measured while no EOS window is open changes nothing,
and one measured in the window is the end of line of the station. (R63, R64, R65, R91, R113) -/
def Obligations.ScanWindows : Prop :=
  ∀ (n : Nat) (cs : List Crossing) (s : State),
    (s.predicting n = true → (s.station n).sosOpen = false → (s.station n).predicted ≤ s.fine + 64 * s.n (sc n 2) →
      (s.station n).image.going = false → (s.station n).image.closing = false → s.n (K (0x3400 + 16 * n) 7) = (s.station n).band →
      ∃ t, exec (.sosWindowOpen n) s = .next t ∧ (t.station n).sosOpen = true ∧ (t.station n).lit = s.usableMask n ∧
        (t.station n).writing = false ∧ (t.station n).image.count = 0 ∧ (t.station n).lastA = some (s.axisPos 1)) ∧
    (s.fine + 64 * s.n (sc n 2) < (s.station n).predicted → exec (.sosWindowOpen n) s = .next s) ∧
    (∀ e, s.stationOn n = true → (s.syncState n = 1 ∨ s.syncState n = 2) →
      (s.lockState (polygonOf n) = 2 ∨ s.lockState (polygonOf n) = 3) → (s.station n).awaitEos = true → (s.station n).eosOpen = false →
      s.predictedEos n = some e → e ≤ s.fine + 64 * s.n (sc n 3) →
      ∃ t, exec (.eosWindowOpen n) s = .next t ∧ (t.station n).eosOpen = true ∧ (t.station n).writing = false ∧
        (t.station n).lit = s.usableMask n ∧ (t.station n).image = (s.station n).image ∧ ∀ m, m ≠ n → t.station m = s.station m) ∧
    ((s.station n).awaitEos = false → exec (.eosWindowOpen n) s = .next s) ∧
    ((s.station n).eosOpen = false → exec (.eosMeasured n cs) s = .next s) ∧
    (∀ e, s.stationOn n = true → (s.station n).eosOpen = true → s.predictedEos n = some e → e + 64 * s.n (sc n 3) ≤ s.fine →
      ∃ u t, exec (.eosMeasured n cs) s = .next t ∧ t = execEosMeasured.release n u ∧ (u.station n).eosOpen = false ∧
        (u.station n).awaitEos = false ∧ (u.station n).lit = 0 ∧ (u.station n).porch = true ∧
        ((s.crossings n (s.n (sc n 3)) (some e) cs).length < s.n (sc n 5) → (u.station n).eos = e) ∧
        (s.n (sc n 5) ≤ (s.crossings n (s.n (sc n 3)) (some e) cs).length → s.crossings n (s.n (sc n 3)) (some e) cs ≠ [] →
          (u.station n).eos = s.meanCrossing n (s.crossings n (s.n (sc n 3)) (some e) cs)))

/-- A facet is measured on a synchronised station of a running domain when its window has closed, or while the station has
measured fewer than two and the crossings are valid: the window is then closed, the next facet is predicted one
interval after the measured start of line, or after the predicted one where too few crossings were valid, and the
polygon is judged again. While the station is not synchronised nothing changes. The polygon that finds no
synchronisation within its seek time goes to IDLE with the fault of its source; the beams of a seeking polygon are lit
again when the blanking ends. (R63, R64, R65, R66, R67, R68) -/
def Obligations.FacetMeasured : Prop :=
  ∀ (n p : Nat) (cs : List Crossing) (s : State),
    (s.stationOn n = true → (s.syncState n = 1 ∨ s.syncState n = 2) → (s.station n).measured = 2 → (s.station n).sosOpen = true →
      (s.station n).predicted + 64 * s.n (sc n 2) ≤ s.fine →
      ∃ u : State, exec (.facetSos n cs) s = .next (u.refreshPolygon (polygonOf n)) ∧ (u.station n).sosOpen = false ∧
        ((s.crossings n (s.n (sc n 2)) (some (s.station n).predicted) cs).length < s.n (sc n 5) →
          (s.station n).predicted ≤ (u.station n).predicted) ∧
        (s.n (sc n 5) ≤ (s.crossings n (s.n (sc n 2)) (some (s.station n).predicted) cs).length →
          s.crossings n (s.n (sc n 2)) (some (s.station n).predicted) cs ≠ [] →
          (u.station n).sos = some (s.meanCrossing n (s.crossings n (s.n (sc n 2)) (some (s.station n).predicted) cs)) ∧
            (u.station n).awaitEos = true)) ∧
    (s.stationOn n = true → (s.syncState n = 1 ∨ s.syncState n = 2) → (s.station n).measured < 2 →
      s.n (sc n 5) ≤ (s.crossings n (s.n (sc n 2)) none cs).length → s.crossings n (s.n (sc n 2)) none cs ≠ [] →
      ∃ u : State, exec (.facetSos n cs) s = .next (u.refreshPolygon (polygonOf n)) ∧
        (u.station n).measured = (s.station n).measured + 1 ∧ (u.station n).awaitEos = true ∧
        (u.station n).sos = some (s.meanCrossing n (s.crossings n (s.n (sc n 2)) none cs))) ∧
    (s.stationOn n = true → s.syncState n = 0 → exec (.facetSos n cs) s = .next s) ∧
    ((s.station n).measured = 2 → (s.station n).sosOpen = false → exec (.facetSos n cs) s = .next s) ∧
    (s.due (tmSeek p) = true → s.lockState p = 1 →
      ∃ u : State, exec (.seekTimeout p) s = .next (u.refreshPolygon p) ∧ u.Sent (0x67 + p) 8 0) ∧
    (s.lockState p ≠ 1 → exec (.seekTimeout p) s = .next s) ∧
    (s.due (tmBlank n) = true → s.stationOn n = true → s.lockState (polygonOf n) = 1 →
      ∃ t, exec (.seekingBlankingElapsed n) s = .next t ∧ (t.station n).lit = s.usableMask n ∧ t.armed (tmBlank n) = false ∧
        ∀ m, m ≠ n → t.station m = s.station m)

/-- On a station whose domain is on: the VCSEL thermistor's resistance is converted by its R25 and B, and the reading is
shown at once; a reading outside the sensor's range raises its fault once and marks the reading invalid; a reading in
range of a valid sensor that keeps the temperature state writes nothing else. A laser that waits for the end of the
line is switched off when the station writes no more. A change of `Engage request` acts where the page boundary holds,
and nowhere else. READ_CURRENT and the status poll clear the frames last sent and exchange their two and three frames
with the driver; the power calibration follows the end of the back porch, steps the beams from where the last one
stopped as far as there is room, counts a sequence cut short, and does nothing without a porch. (R84, R86, R113, R125,
R126, R135) -/
def Obligations.StationChecks : Prop :=
  ∀ (n beam driver ohms : Nat) (reading : Int) (answers : List Frame) (s : State), s.stationOn n = true →
    exec (.vcselThermistorSample n ohms) s = .next (s.vcselSample n (s.vcselReading n ohms)) ∧
    (reading < -400 ∨ 1500 < reading → s.flag (sk n 7 7) = false →
      (s.vcselSample n reading).flag (sk n 7 7) = true ∧ ((s.vcselSample n reading).station n).inRange = 0 ∧
        (s.vcselSample n reading).Sent (stationSource n 3) 7 0) ∧
    (reading < -400 ∨ 1500 < reading → s.flag (sk n 7 7) = true →
      (s.vcselSample n reading).i (sk n 7 1) = clampInt (-32768) 32767 reading ∧
        ((s.vcselSample n reading).station n).inRange = 0 ∧ (s.vcselSample n reading).lid = s.lid ∧ (s.vcselSample n reading).ev = s.ev) ∧
    (-400 ≤ reading → reading ≤ 1500 → s.flag (sk n 7 7) = false → (s.station n).fresh = false →
      temperatureState (s.n (sk n 7 2)) reading (s.i (sk n 7 3)) (s.i (sk n 7 4)) (s.i (sk n 7 5)) (s.i (sk n 7 6)) = s.n (sk n 7 2) →
      (s.vcselSample n reading).i (sk n 7 1) = reading ∧ (s.vcselSample n reading).ev = s.ev ∧
        (s.vcselSample n reading).lid = s.lid ∧ ((s.vcselSample n reading).station n).fresh = false ∧ ∀ k, k ≠ sk n 7 1 →
        (s.vcselSample n reading).val k = s.val k) ∧
    ((s.station n).lineEnd = true → (s.station n).writing = false → exec (.laserOffEndOfLine n) s = .next (s.laserLow n)) ∧
    ((s.station n).lineEnd = false → exec (.laserOffEndOfLine n) s = .next s) ∧
    (s.boundaryHolds n = true → s.flag (sk n 0 1) ≠ s.engaged n →
      exec (.stationEngageChange n) s =
        .next ((s.setStationState n (if s.engaged n then 1 else 2)).refreshPolygon (polygonOf n))) ∧
    (s.boundaryHolds n = false → exec (.stationEngageChange n) s = .next s) ∧
    (beam < 32 → ∃ t, exec (.readCurrent n beam answers) s = .next t ∧ (t.station n).sent.length = 2) ∧
    (s.pollDue n driver = true → ∃ t, exec (.driverStatusPoll n driver answers) s = .next t ∧ (t.station n).sent.length = 3) ∧
    (s.pollDue n driver = false → exec (.driverStatusPoll n driver answers) s = .next s) ∧
    ((s.syncState n = 1 ∨ s.syncState n = 2) → s.laserOn n = true → (s.station n).porch = true → (s.station n).eos + 640000 ≤ s.fine →
      (s.apcRoom n = 0 → ∃ t, exec (.apcSequence n answers) s = .next t ∧ (t.station n).porch = false ∧ (t.station n).sent = []) ∧
      (s.apcRoom n ≠ 0 → (s.station n).slot < s.beamsServed n → s.beamsServed n ≤ (s.station n).slot + s.apcRoom n →
        ∃ u : State, (u.station n).porch = false ∧ (u.station n).sent = [] ∧ (u.station n).slot = 0 ∧ u.od = s.od ∧ u.ev = s.ev ∧
          exec (.apcSequence n answers) s =
            .next (u.apcSlots n (upFrom (s.station n).slot (s.beamsServed n - (s.station n).slot)) answers)) ∧
      (s.apcRoom n ≠ 0 → (s.station n).slot < s.beamsServed n → (s.station n).slot + s.apcRoom n < s.beamsServed n →
        ∃ u : State, (u.station n).porch = false ∧ (u.station n).sent = [] ∧ (u.station n).slot = (s.station n).slot + s.apcRoom n ∧
          u.n (sk n 5 8) = (s.n (sk n 5 8) + 1) % 2 ^ 32 ∧
          exec (.apcSequence n answers) s = .next (u.apcSlots n (upFrom (s.station n).slot (s.apcRoom n)) answers))) ∧
    ((s.station n).porch = false → exec (.apcSequence n answers) s = .next s)

/-- A lane that serves and whose self-check fails raises the fault of its group with its number and leaves service with
that kind as its cause; a kind no lane raises, or a lane that does not serve, changes nothing. A self-test that passes
takes its lane into service, one that fails takes it to FAULT, each with EV094; a lane that is not in its self-test
reports nothing. A decode lane with no block, a check lane with no block, report nothing. (R207, R208, R210, R211) -/
def Obligations.PressLanes : Prop :=
  ∀ (code kind result lane stalls : Nat) (good : Bool) (poison : Option Nat) (s : State),
    (laneCode code = true → s.laneServes code = true → (kind = 2 ∨ kind = 3 ∨ kind = 4) →
      exec (.laneFault code kind) s = .next ((s.fault (laneSource code) kind (laneNumber code)).laneLeaves code 3 kind)) ∧
    (s.laneServes code = false → exec (.laneFault code kind) s = .next s) ∧
    (laneCode code = true → s.laneState code = 1 → result ≠ 0 →
      ∃ t, exec (.laneSelfTestDone code result) s = .next t ∧ t = (s.event 94 (min result 255 + code * 256)).laneTo code 3 0) ∧
    (laneCode code = true → s.laneState code = 1 → code < 0x41 →
      exec (.laneSelfTestDone code 0) s = .next (((s.event 94 (code * 256)).laneTo code 2 0).feedDecode (laneStation code))) ∧
    (laneCode code = true → s.laneState code = 1 → 0x41 ≤ code → code < 0x81 →
      exec (.laneSelfTestDone code 0) s = .next (((s.event 94 (code * 256)).laneTo code 2 0).feedCheck)) ∧
    (laneCode code = true → s.laneState code = 1 → 0x81 ≤ code →
      exec (.laneSelfTestDone code 0) s = .next (((s.event 94 (code * 256)).laneTo code 2 0).followStreams)) ∧
    (∀ (u : State) (new cause : Nat), (u.laneTo code new cause).laneState code = new) ∧
    (s.laneState code ≠ 1 → exec (.laneSelfTestDone code result) s = .next s) ∧
    ((s.lane lane).page = 0 → exec (.decodeBlockComplete lane good stalls) s = .next s) ∧
    (s.press.inbound = [] → exec (.checkLaneComplete lane poison) s = .next s)

/-- A decode lane that has decoded its block well counts the block, its raw length and its stalls, writes its rows and
lets its station's next block be taken; one whose output fails its CRC is put back for another lane, the first time; a
block that is no longer there frees the lane. A check lane that ends a block counts it; a block that passes is
accepted into its page, one that fails is refused with EV090, and its completion is written. A check lane whose page
is gone frees its place and answers the block with status 0x10. (R185, R188, R189, R190) -/
def Obligations.DecodedBlocks : Prop :=
  ∀ (lane stalls : Nat) (poison : Option Nat) (b : Block) (x : Inbound) (s : State), decodeCodes.contains lane = true →
    (s.laneServes lane = true → (s.lane lane).page ≠ 0 →
      (s.page ((s.lane lane).page - 1)).block (s.lane lane).block = some b → s.barredLane b.id = 0 →
      ∃ u : State, exec (.decodeBlockComplete lane true stalls) s =
          .next (((u.writeRows (laneStation lane) b).forgetRetry b.id).feedDecode (laneStation lane)) ∧
        (u.lane lane).page = 0 ∧ (u.lane lane).blocks = ((s.lane lane).blocks + 1) % 2 ^ 32 ∧
        (u.lane lane).bytes = ((s.lane lane).bytes + b.rawLength) % 2 ^ 64 ∧
        (u.lane lane).stalls = ((s.lane lane).stalls + min stalls b.mostStalls) % 2 ^ 64 ∧ u.pages = s.pages) ∧
    (s.laneServes lane = true → (s.lane lane).page ≠ 0 →
      (s.page ((s.lane lane).page - 1)).block (s.lane lane).block = none →
      exec (.decodeBlockComplete lane true stalls) s =
        .next ((s.setLane lane { s.lane lane with page := 0, block := 0 }).feedDecode (laneStation lane))) ∧
    (∀ k, checkCodes.contains (0x40 + k) = true → s.laneServes (0x40 + k) = true → (s.lane (0x40 + k)).page ≠ 0 →
      s.press.inbound = [x] → x.block.state = 2 → x.block.id = (s.lane (0x40 + k)).block → x.page = 0 →
      exec (.checkLaneComplete k poison) s = .next ((((s.dropInbound x.block.id).setLane (0x40 + k)
        { s.lane (0x40 + k) with page := 0, block := 0 }).ingestDone x.block 0x10 k 0).feedCheck)) ∧
    (s.laneServes lane = true → (s.lane lane).page ≠ 0 →
      (s.page ((s.lane lane).page - 1)).block (s.lane lane).block = some b → s.barredLane b.id = 0 →
      (s.otherLanes (laneStation lane) lane).isEmpty = false →
      ∃ u : State, exec (.decodeBlockComplete lane false stalls) s =
          .next (((u.requeue (laneStation lane) ((s.lane lane).page - 1) b.id).reissueEvent lane 0 (laneStation lane)
            (s.page ((s.lane lane).page - 1)).tag b.band).feedDecode (laneStation lane)) ∧
        (u.lane lane).page = 0 ∧ u.press.retries = s.press.retries ++ [(b.id, lane)] ∧ u.pages = s.pages) ∧
    (∀ k, checkCodes.contains (0x40 + k) = true → s.laneServes (0x40 + k) = true → (s.lane (0x40 + k)).page ≠ 0 →
      s.press.inbound = [x] → x.block.state = 2 → x.block.id = (s.lane (0x40 + k)).block → x.page ≠ 0 →
      ∃ u : State, (u.lane (0x40 + k)).page = 0 ∧ (u.lane (0x40 + k)).blocks = ((s.lane (0x40 + k)).blocks + 1) % 2 ^ 32 ∧
        u.press.inbound = [] ∧ u.pages = s.pages ∧
        ((s.checkBlock (s.page (x.page - 1)) x.block poison).status = 0 →
          exec (.checkLaneComplete k poison) s =
            .next (((u.acceptBlock (x.page - 1) (x.block.fillCost (s.checkBlock (s.page (x.page - 1)) x.block poison).cost)).ingestDone
              x.block 0 k (x.block.fillCost (s.checkBlock (s.page (x.page - 1)) x.block poison).cost).cost).feedCheck)) ∧
        ((s.checkBlock (s.page (x.page - 1)) x.block poison).status ≠ 0 →
          exec (.checkLaneComplete k poison) s =
            .next (((u.rejectEvent x.block (s.page (x.page - 1)).tag
              (s.checkBlock (s.page (x.page - 1)) x.block poison).status).ingestDone
              x.block (s.checkBlock (s.page (x.page - 1)) x.block poison).status k 0).feedCheck)))

/-- An entry of an encode ring that the lane serves is taken once as a job by the row of its opcode, ENCODE_BAND for
opcode 2 and ENCODE_BUFFER for the others; the other row leaves it. An entry whose fields are good and whose data the
host delivers is queued as a job on a lane with its source and, for ENCODE_BUFFER, its chain. A job that an encode
lane ends is counted with its bytes and its stalls, and its completion follows; a job whose output the lane cannot
verify is counted, raises fault 0x47 and takes the lane out of service. A stream that is fed and whose turn it is
takes its waiting data, ends a block at a flush without closing, and closes into an archive block, counted at its
lane; a stream that is not fed does nothing of it. (R197, R201, R204, R205) -/
def Obligations.EncodeAndStreams : Prop :=
  ∀ (lane k stalls r : Nat) (ws : List Nat) (host : HostMem) (poison writeOk : Bool) (j : Job) (s : State),
    (s.servesRing lane = true → s.hasEntry (27 + lane) = true → s.linkUp = true → field (wordAt ws 0) 63 56 = 2 →
      exec (.encodeBand lane (some ws) host poison) s = .next ((s.consumed (27 + lane)).takeJob (27 + lane) lane ws host poison) ∧
      exec (.encodeBuffer lane (some ws) host poison) s = .next s) ∧
    (s.servesRing lane = true → s.hasEntry (27 + lane) = true → s.linkUp = true → field (wordAt ws 0) 63 56 = 1 →
      exec (.encodeBuffer lane (some ws) host poison) s = .next ((s.consumed (27 + lane)).takeJob (27 + lane) lane ws host poison) ∧
      exec (.encodeBand lane (some ws) host poison) s = .next s) ∧
    (1 ≤ lane → lane ≤ 8 → s.laneServes (0x80 + lane) = true → (s.inWork lane).bind s.jobRing = some (r, j) →
      ∃ u : State, exec (.encodeJobComplete lane false writeOk stalls) s =
          .next (((u.bump (qk 0xF)).fault 0x47 0xF lane).laneLeaves (0x80 + lane) 3 0xF) ∧
        (u.lane (0x80 + lane)).stalls = ((s.lane (0x80 + lane)).stalls + stalls) % 2 ^ 64 ∧ u.od = s.od ∧ u.lid = s.lid) ∧
    (1 ≤ lane → lane ≤ 8 → s.laneServes (0x80 + lane) = true → (s.inWork lane).bind s.jobRing = some (r, j) → j.page = 0 →
      ∃ u : State, exec (.encodeJobComplete lane true writeOk stalls) s = .next (u.endBuffer r lane j writeOk) ∧
        (u.lane (0x80 + lane)).blocks = ((s.lane (0x80 + lane)).blocks + (s.jobOutput j writeOk).1) % 2 ^ 32 ∧
        (u.lane (0x80 + lane)).bytes = ((s.lane (0x80 + lane)).bytes + (s.jobOutput j writeOk).2) % 2 ^ 64 ∧
        (u.lane (0x80 + lane)).stalls = ((s.lane (0x80 + lane)).stalls + stalls) % 2 ^ 64) ∧
    (1 ≤ lane → lane ≤ 8 → s.laneServes (0x80 + lane) = true → (s.inWork lane).bind s.jobRing = some (r, j) → j.page ≠ 0 →
      ∃ u : State, exec (.encodeJobComplete lane true writeOk stalls) s = .next (u.endBand r lane j) ∧
        (u.lane (0x80 + lane)).blocks = ((s.lane (0x80 + lane)).blocks + 1) % 2 ^ 32) ∧
    (s.inWork lane = none → exec (.encodeJobComplete lane true writeOk stalls) s = .next s) ∧
    (∀ (u : State) (l : Nat) (cb source : Bytes) (chain : List (Nat × Nat × Bool)), jobFieldsBad ws = false → jobLengthsBad ws = false →
      field (wordAt ws 0) 63 56 = 1 → u.jobLane lane = some l → bitOf (wordAt ws 0) 41 = true → bitOf (wordAt ws 0) 42 = true →
      hostRead host (wordAt ws 3) (16 * field (wordAt ws 2) 47 40) = some cb → chainOf (field (wordAt ws 2) 47 40) cb = some chain →
      hostRead host (wordAt ws 1) (field (wordAt ws 2) 31 0) = some source →
      u.takeJob r lane ws host poison = { u with press := { u.press with nextJob := u.press.nextJob + 1 } }.queueJob r l
        { id := u.press.nextJob, words := ws, source := source, chain := chain }) ∧
    (∀ (u : State) (l : Nat) (source : Bytes), jobFieldsBad ws = false → jobLengthsBad ws = false →
      field (wordAt ws 0) 63 56 = 2 → u.bandStatus ws = 0 → u.jobLane lane = some l → bitOf (wordAt ws 0) 41 = true →
      field (wordAt ws 2) 47 40 = 0 → hostRead host (wordAt ws 1) (field (wordAt ws 2) 31 0) = some source →
      u.takeJob r lane ws host poison = { u with press := { u.press with nextJob := u.press.nextJob + 1 } }.queueJob r l
        { id := u.press.nextJob, words := ws, source := source, page := (u.placeOf (field (wordAt ws 0) 31 16)).getD 0 + 1,
          reserved := blockBound source.length }) ∧
    (s.streamFed k = true → ∃ t, exec (.streamFlush k) s = .next t ∧ (t.stream k).parts.getLast? = some [] ∧
      (t.stream k).parts.flatten = (s.stream k).parts.flatten ∧ (∀ m, m ≠ k → t.stream m = s.stream m)) ∧
    (s.streamFed k = true → exec (.streamClose k) s = .next (s.closeStream k)) ∧
    (s.streamFed 1 = true → s.streamTurn 1 = true →
      (s.stream 1).parts.flatten.length + (s.stream 1).waiting.length < 1048576 →
      ∃ t, exec (.streamInput 1) s = .next t ∧ (t.stream 1).next = s.ev.sequence ∧ (t.stream 1).waiting = [] ∧
        (t.stream 1).parts.flatten = (s.stream 1).parts.flatten ++ (s.stream 1).waiting) ∧
    (s.streamTurn k = false → exec (.streamInput k) s = .next s) ∧
    (∀ u : State, (u.stream k).parts.flatten ≠ [] → ∃ (v : State) (b : Bytes), u.closeStream k = v.archiveBlock k b ∧
      (v.stream k).parts = [] ∧ (v.lane (0x80 + (u.stream k).lane)).blocks = ((u.lane (0x80 + (u.stream k).lane)).blocks + 1) % 2 ^ 32) ∧
    (s.streamFed k = false → exec (.streamInput k) s = .next s ∧ exec (.streamFlush k) s = .next s ∧ exec (.streamClose k) s = .next s)

/-- With an entry open for reading on a band ingest ring whose domains are on and no block of the ring in fetch, a
malformed entry is answered with status 0x13 and makes no inbound block; one whose header is good and that passes the
tests makes an inbound block, in fetch. A block in fetch whose data arrive with a parity error is dropped, raises the
fault of the ring's data and is answered with status 0x15; where the host does not answer, it is dropped and answered
with status 0x14; otherwise it takes a free place of DRAM and waits for a check lane. With no block in fetch, arriving
data change nothing. (R178, R179, R183, R184, R264, R265) -/
def Obligations.BandIngest : Prop :=
  ∀ (ring : Nat) (ws : List Nat) (host : HostMem) (parity : Bool) (x : Inbound) (body : Bytes) (s : State),
    (ingestRing ring = true → s.ringPresent ring = true → s.on 3 = true → s.inFetch = [] → s.ingestTurn ring = true → (s.ring ring).state = 1 →
      (s.ring ring).open_ < (s.ring ring).used → s.linkUp = true → field (wordAt ws 0) 63 56 ≠ 1 →
      ∃ u : State, exec (.ingestBlock ring (some ws) host) s =
          .next (u.ingestDone { ring := ring, entry := (s.ring ring).nextTaken } 0x13 0 0) ∧
        (u.ring ring).open_ = (s.ring ring).open_ + 1 ∧ u.press = { s.press with ingestLast := ring }) ∧
    ((s.ring ring).state ≠ 1 → exec (.ingestBlock ring (some ws) host) s = .next s) ∧
    (s.inFetch.find? (fun y => y.block.ring == ring) = none → exec (.ingestDataRead ring host parity) s = .next s) ∧
    (s.inFetch.find? (fun y => y.block.ring == ring) = some x →
      exec (.ingestDataRead ring host true) s =
        .next (((s.dropInbound x.block.id).fault 0x7C 0x3 ring).ingestDone x.block 0x15 0 0)) ∧
    (s.inFetch.find? (fun y => y.block.ring == ring) = some x →
      hostRead host (x.block.address + 32) (x.block.length - 32) = none →
      exec (.ingestDataRead ring host false) s =
        .next (((s.dropInbound x.block.id).linkFault host (x.block.address + 32)).ingestDone x.block 0x14 0 0)) ∧
    (s.inFetch.find? (fun y => y.block.ring == ring) = some x →
      hostRead host (x.block.address + 32) (x.block.length - 32) = some body →
      ∃ u : State, exec (.ingestDataRead ring host false) s = .next u.feedCheck ∧ u.drawn = s.drawn + 1 ∧
        u.press.inbound = (s.dropInbound x.block.id).press.inbound ++
          [{ x with block := { x.block with body := body, state := 1, address := Config.blockAddress s.drawn } }]) ∧
    (∀ (u : State) (hb : Bytes) (b : Block), ingestRing ring = true → s.ringPresent ring = true → s.on 3 = true → s.inFetch = [] →
      s.ingestTurn ring = true → (s.ring ring).state = 1 → (s.ring ring).open_ < (s.ring ring).used → s.linkUp = true →
      field (wordAt ws 0) 63 32 = 2 ^ 24 → wordAt ws 3 = 0 → wordAt ws 4 = 0 → wordAt ws 5 = 0 →
      33 ≤ wordAt ws 2 → wordAt ws 2 ≤ 1048693 → hostRead host (wordAt ws 1) 32 = some hb → leAt 0 3 hb = 0x19E55 →
      b = { ring := ring, entry := (s.ring ring).nextTaken, id := s.press.nextBlock, head := leWords 4 8 hb, length := wordAt ws 2,
            address := wordAt ws 1 } →
      field (wordAt b.head 0) 31 25 = 0 → field (wordAt b.head 2) 15 8 = 0 → field (wordAt b.head 3) 63 40 = 0 →
      field (wordAt b.head 3) 23 16 = 0 →
      u = { s.setRing ring { s.ring ring with open_ := (s.ring ring).open_ + 1 } with press := { s.press with ingestLast := ring } } →
      u.ingestStatus ring (field (wordAt ws 0) 15 0) (wordAt ws 2) b = 0 →
      ∃ t, exec (.ingestBlock ring (some ws) host) s = .next t ∧ t.press.nextBlock = s.press.nextBlock + 1 ∧
        t.press.inbound = s.press.inbound ++ [{ page := (s.placeOf (field (wordAt ws 0) 15 0)).getD 0 + 1, block := b }])

/-- Each write command of the position system, accepted by the dictionary, answers the state in which its object has taken
the written value (a command object takes none), the object's own effect has been carried out, and the request is
answered as done: an encoder's `Enable`, a preset of an idle axis, a capture configuration, the clearing of
`Overcurrent latch` bit by bit, the alignment source, and the host marker EV031 with the written value. An enabled
encoder is in ACQUIRING with an Edge count of 0 and a disabled one in DISABLED; a preset axis stands at the value
written; an alignment source that is switched on makes the clock ACQUIRING, and one that is switched off makes it not
aligned with no rate correction. (R27, R30, R33, R46, R49, R51) -/
def Obligations.PositionWrites : Prop :=
  ∀ (path : Path) (data : Bytes) (s : State),
    (∀ n, 1 ≤ n → n ≤ 8 → s.Accepts path (0x3000 + n) 1 data →
      exec (.encoderEnableWrite path n data) s = .next (((s.taken (0x3000 + n) 1 (.num (ofLe data))).encoderEnable n (decide ((s.before (0x3000 + n) 1).int ≠ 0)) (decide (ofLe data ≠ 0))).done path (0x3000 + n) 1)) ∧
    (∀ n, 1 ≤ n → n ≤ 8 → s.Accepts path (0x300F + n) 3 data →
      exec (.axisPreset path n data) s = .next (((s.taken (0x300F + n) 3 (.num (ofLe data))).presetPosition n (ofLe data)).done path (0x300F + n) 3)) ∧
    (∀ ch, ch ≤ 15 → s.Accepts path 0x3030 (ch + 1) data →
      exec (.captureConfigWrite path ch data) s = .next (((s.taken 0x3030 (ch + 1) (.num (ofLe data)))).done path 0x3030 (ch + 1))) ∧
    (s.Accepts path 0x3050 6 data →
      exec (.overcurrentClear path data) s = .next ((s.noted.setn (K 0x3050 5) (maskOff (s.noted.n (K 0x3050 5)) (ofLe data))).done path 0x3050 6)) ∧
    (s.Accepts path 0x2400 2 data →
      exec (.alignmentSourceWrite path data) s = .next (((s.taken 0x2400 2 (.num (ofLe data))).alignmentSource (s.before 0x2400 2).nat (ofLe data)).done path 0x2400 2)) ∧
    (s.Accepts path 0x2401 7 data →
      exec (.hostMarker path data) s = .next ((s.noted.eventFw 31 (ofLe data)).done path 0x2401 7)) ∧
    (∀ (u : State) (n : Nat), 1 ≤ n → n ≤ 8 → (u.encoderEnable n false true).loopState n = 1 ∧
      (u.encoderEnable n false true).n (K (0x3000 + n) 8) = 0 ∧ (u.encoderEnable n true false).loopState n = 0) ∧
    (∀ (u : State) (a v : Nat), (u.presetPosition a v).axisPos a = v % 2 ^ 48) ∧
    (∀ u : State, (u.alignmentSource 0 1).n (K 0x2400 3) = 1 ∧ (u.alignmentSource 0 2).n (K 0x2400 3) = 1 ∧
      (u.alignmentSource 1 0).n (K 0x2400 3) = 0 ∧ (u.alignmentSource 2 0).n (K 0x2400 6) = 0)

/-- Each write command of polygons and stations, accepted by the dictionary, answers the state in which its object has
taken the written value, the object's own effect has been carried out, and the request is answered as done: a
polygon's lock enable, its re-learning and its facet signature; a station's engage request, laser enable, the
restoring and the retiring of beams. A polygon whose lock is enabled seeks once its drive is at speed and a station
engaged, and one whose lock is disabled goes to IDLE; re-learning clears the signature and makes the identity UNKNOWN;
a laser pin follows its causes; restored beams are no longer dead, and a beam that is retired is not listed as dead
and retired. (R67, R71, R77, R84, R86, R124) -/
def Obligations.ScanWrites : Prop :=
  ∀ (path : Path) (data : Bytes) (s : State),
    (∀ p, 1 ≤ p → p ≤ 3 → s.Accepts path (0x3100 + p) 1 data →
      exec (.lockEnableWrite path p data) s = .next (((s.taken (0x3100 + p) 1 (.num (ofLe data))).refreshPolygon p).done path (0x3100 + p) 1)) ∧
    (∀ p, 1 ≤ p → p ≤ 3 → s.Accepts path (0x3100 + p) 0xE data →
      exec (.relearn path p data) s = .next ((s.noted.relearn p).done path (0x3100 + p) 0xE)) ∧
    (∀ p, 1 ≤ p → p ≤ 3 → s.Accepts path (0x3100 + p) 0xD data →
      exec (.facetSignatureWrite path p data) s = .next (((s.taken (0x3100 + p) 0xD (.dom data)).signatureWritten p).done path (0x3100 + p) 0xD)) ∧
    (∀ n, 1 ≤ n → n ≤ 6 → s.Accepts path (0x3300 + 16 * n) 1 data →
      exec (.engageRequestWrite path n data) s = .next (((s.taken (0x3300 + 16 * n) 1 (.num (ofLe data)))).done path (0x3300 + 16 * n) 1)) ∧
    (∀ n, 1 ≤ n → n ≤ 6 → s.Accepts path (0x3300 + 16 * n) 3 data →
      exec (.laserEnableWrite path n data) s = .next (((s.taken (0x3300 + 16 * n) 3 (.num (ofLe data))).laserWritten n (decide (ofLe data ≠ 0))).done path (0x3300 + 16 * n) 3)) ∧
    (∀ n, 1 ≤ n → n ≤ 6 → s.Accepts path (0x3304 + 16 * n) 4 data →
      exec (.beamRestore path n data) s = .next ((s.noted.restoreBeams n (ofLe data)).done path (0x3304 + 16 * n) 4)) ∧
    (∀ n, 1 ≤ n → n ≤ 6 → s.Accepts path (0x3304 + 16 * n) 3 data →
      exec (.retiredBeamsWrite path n data) s = .next (((s.taken (0x3304 + 16 * n) 3 (.num (ofLe data))).retireBeams n (s.before (0x3304 + 16 * n) 3).nat).done path (0x3304 + 16 * n) 3)) ∧
    (∀ (u : State) (p : Nat), u.lockState p = 0 → u.flag (pk p 1) = true → u.on 12 = true → u.driveStopped (p - 1) = false →
      u.atSpeed p = true → (servedBy p).filter u.engaged ≠ [] →
      u.refreshLock p = u.seek p ∧ (u.seek p).lockState p = 1 ∧ (u.seek p).armed (tmSeek p) = true) ∧
    (∀ (u : State) (p : Nat), u.flag (pk p 1) = false → u.lockState p ≠ 0 → u.refreshLock p = u.polygonIdle p) ∧
    (∀ (u : State) (p : Nat), (u.relearn p).identity p = 0 ∧ (u.relearn p).bytes (pk p 0xD) = List.replicate 32 0 ∧
      ((u.relearn p).polygon p).learned = 0) ∧
    (∀ (u : State) (p : Nat), u.identity p = 4 → (u.signatureWritten p).identity p = 0) ∧
    (∀ (u : State) (n : Nat), u.stationOn n = true → u.laserCause n = 0 → u.n (sk n 7 2) ≠ 3 →
      (u.laserWritten n true).flag (sk n 0 4) = true) ∧
    (∀ (u : State) (n : Nat), u.stationOn n = true → u.laserCause n ≠ 0 → (u.laserWritten n false).flag (sk n 0 4) = false) ∧
    (∀ (u : State) (n mask : Nat), (u.restoreBeams n mask).n (sk n 4 2) = maskOff (u.n (sk n 4 2)) mask) ∧
    (∀ (u : State) (n old : Nat), (u.retireBeams n old).n (sk n 4 3) = maskOff (u.n (sk n 4 3)) (u.n (sk n 4 2)))

/-- Each of these write commands, accepted by the dictionary, answers the state in which its object has taken the written
value, its own effect has been carried out, and the request is answered as done: a recipe, which enters the
configuration measurement, taking a lane out of service, acquiring and releasing a hardware lock for the path's owner,
and a Ladle channel's fabric input. An acquired lock is owned by the path, and a released one that nobody waits for is
free. (R144, R212, R221, R226) -/
def Obligations.StoreWrites : Prop :=
  ∀ (path : Path) (data : Bytes) (s : State),
    (∀ r, r ≤ 31 → s.Accepts path (0x3510 + r) 1 data →
      exec (.recipeWrite path r data) s = .next (((s.taken (0x3510 + r) 1 (.dom data)).extendMeasurement 4 data).done path (0x3510 + r) 1)) ∧
    (s.Accepts path 0x3600 0xB data →
      exec (.takeOutOfService path data) s = .next ((s.noted.takeOut (ofLe data)).done path 0x3600 0xB)) ∧
    (s.Accepts path 0x3820 1 data →
      exec (.lockAcquire path data) s = .next ((s.noted.hostLock path (ofLe data)).done path 0x3820 1)) ∧
    (s.Accepts path 0x3820 2 data →
      exec (.lockRelease path data) s = .next ((s.noted.hostUnlock (ofLe data)).done path 0x3820 2)) ∧
    (∀ ch, 1 ≤ ch → ch ≤ 16 → s.Accepts path 0x3810 ch data →
      exec (.channelInputWrite path ch data) s = .next (((s.taken 0x3810 ch (.num (ofLe data))).when (decide ((s.before 0x3810 ch).int ≠ ofLe data)) (fun t => t.event 98 (3 + ch * 256))).done path 0x3810 ch)) ∧
    (∀ (u : State) (n : Nat), ((u.hostLock path n).lock n).owner = pathOwner path) ∧
    (∀ (u : State) (n : Nat), u.waiters n = [] → ((u.releaseLock n).lock n).owner = 0 ∧ ((u.releaseLock n).lock n).broken = false ∧
      ((u.releaseLock n).lock n).lastOwner = (u.lock n).owner)

/-- A drive channel's enable, the start of its profile, the chopper test and the reconnection of the drive bus, accepted
by the dictionary, each answer the state in which the object's own effect has been carried out and the request is
answered as done. A channel that changes its state is in the new one, and a P channel then has its polygon judged
again; an enabled channel at rest aligns, and a disabled M channel is STOPPED; the chopper test switches the chopper
on for its pulse, and the reconnection closes the bus switch. (R297, R306, R310, R311) -/
def Obligations.DriveWrites : Prop :=
  ∀ (path : Path) (data : Bytes) (s : State),
    (∀ c, c ≤ 10 → s.Accepts path (0x4100 + 16 * c) 1 data →
      exec (.driveEnableWrite path c data) s = .next (((s.taken (0x4100 + 16 * c) 1 (.num (ofLe data))).driveEnable c (decide (ofLe data ≠ 0))).done path (0x4100 + 16 * c) 1)) ∧
    (∀ c, c ≤ 10 → s.Accepts path (0x4100 + 16 * c) 0x14 data →
      exec (.startProfile path c data) s = .next ((s.noted.startProfile c (ofLe data) false).done path (0x4100 + 16 * c) 0x14)) ∧
    (s.Accepts path 0x410F 5 data →
      exec (.chopperTest path data) s = .next ((s.noted.chopperTest).done path 0x410F 5)) ∧
    (s.Accepts path 0x410F 9 data →
      exec (.busReconnect path data) s = .next ((s.noted.setBusSwitch true).done path 0x410F 9)) ∧
    (∀ (u : State) (c new cause : Nat), c ≤ 10 → u.driveState c ≠ new → ∃ v : State, v.driveState c = new ∧
      (c < 3 → u.driveTo c new cause = v.refreshPolygon (c + 1)) ∧ (3 ≤ c → u.driveTo c new cause = v)) ∧
    (∀ (u : State) (c : Nat), u.driveSlot c ≠ none → u.driveOn c = true → u.driveState c = 0 → u.mayStart c = true →
      u.belowMinimum c (u.observed c) = true → u.driveEnable c true = u.enterAlign c 1) ∧
    (∀ (u : State) (c : Nat), 3 ≤ c → c ≤ 10 → u.driveState c ≠ 7 → (u.driveEnable c false).driveState c = 0) ∧
    (∀ u : State, u.drives.chopper = false → u.chopperTest.drives.chopper = true ∧ u.chopperTest.drives.testing = 1 ∧
      u.chopperTest.armed tmChopper = true) ∧
    (∀ u : State, (u.setBusSwitch true).flag (K 0x410F 8) = true)

/-- A stepper axis' enable, the start of a move, a target position, a stop, a position preset and the start of homing,
accepted by the dictionary, each answer the state in which the object's own effect has been carried out and the
request is answered as done. An enabled axis stands, a disabled one is DISABLED; a move and a new target leave the
axis MOVING, or waiting where it is de-energised; a stop halts what moves; a preset sets the position and makes it
valid; homing searches from where no limit and no home input is active. (R323, R325, R328, R331, R336) -/
def Obligations.StepperWrites : Prop :=
  ∀ (path : Path) (data : Bytes) (s : State),
    (∀ n, 1 ≤ n → n ≤ 12 → s.Accepts path (0x43F0 + 16 * n) 1 data →
      exec (.axisEnableWrite path n data) s = .next (((s.taken (0x43F0 + 16 * n) 1 (.num (ofLe data))).axisEnable n (decide (ofLe data ≠ 0))).done path (0x43F0 + 16 * n) 1)) ∧
    (∀ n, 1 ≤ n → n ≤ 12 → s.Accepts path (0x43F0 + 16 * n) 7 data →
      exec (.startMove path n data) s = .next ((s.noted.hostMove n (ofLe data)).done path (0x43F0 + 16 * n) 7)) ∧
    (∀ n, 1 ≤ n → n ≤ 12 → s.Accepts path (0x43F0 + 16 * n) 6 data →
      exec (.targetPositionWrite path n data) s = .next (((s.taken (0x43F0 + 16 * n) 6 (.num (signed 32 (ofLe data)))).targetWritten n (s.before (0x43F0 + 16 * n) 6).int (signed 32 (ofLe data))).done path (0x43F0 + 16 * n) 6)) ∧
    (∀ n, 1 ≤ n → n ≤ 12 → s.Accepts path (0x43F0 + 16 * n) 8 data →
      exec (.stop path n data) s = .next (((s.noted.hostActs n (0x100 + ofLe data)).stopAxis n (ofLe data)).done path (0x43F0 + 16 * n) 8)) ∧
    (∀ n, 1 ≤ n → n ≤ 12 → s.Accepts path (0x43F0 + 16 * n) 9 data →
      exec (.positionPreset path n data) s = .next ((s.noted.presetAxis n (signed 32 (ofLe data))).done path (0x43F0 + 16 * n) 9)) ∧
    (∀ n, 1 ≤ n → n ≤ 12 → s.Accepts path (0x43F0 + 16 * n) 0xA data →
      exec (.startHoming path n data) s = .next ((s.noted.startHoming n).done path (0x43F0 + 16 * n) 0xA)) ∧
    (∀ (u : State) (n : Nat), 1 ≤ n → n ≤ 12 → u.axisState n = 0 → u.busLow = false → (u.axisEnable n true).axisState n = 1) ∧
    (∀ (u : State) (n : Nat), 1 ≤ n → n ≤ 12 → u.axisState n ≠ 6 → (u.axisEnable n false).axisState n = 0) ∧
    (∀ (u : State) (n e : Nat) (m : Move), 1 ≤ n → n ≤ 12 → u.axisState n ≠ 2 → u.moveOf n e 0 = some m → (u.hostMove n e).axisState n = 3 ∧
      ((u.hostMove n e).stepper n).entry = e ∧ ((u.hostMove n e).stepper n).purpose = 1 ∧ ((u.hostMove n e).stepper n).begun = u.stamp) ∧
    (∀ (u : State) (n e : Nat), u.axisState n = 2 → ((u.hostMove n e).stepper n).waiting = 1 ∧ ((u.hostMove n e).stepper n).entry = e) ∧
    (∀ (u : State) (n : Nat) (old new : Int), 1 ≤ n → n ≤ 12 → old ≠ new → u.axisState n ≠ 2 → (u.targetWritten n old new).axisState n = 3 ∧
      ((u.targetWritten n old new).stepper n).entry = 0xFF) ∧
    (∀ (u : State) (n kind : Nat), (u.axisState n = 3 ∨ u.axisState n = 4) → (u.stepper n).waiting = 0 → (u.stepper n).purpose ≠ 6 →
      (u.stepper n).purpose ≠ 7 → (((u.hostActs n (0x100 + kind)).stopAxis n kind).stepper n).purpose = 2) ∧
    (∀ (u : State) (n : Nat) (v : Int), (u.presetAxis n v).i (axk n 0 4) = v ∧ (u.presetAxis n v).flag (axk n 0 3) = true) ∧
    (∀ (u : State) (n : Nat), u.axisState n = 2 → ((u.startHoming n).stepper n).waiting = 3) ∧
    (∀ (u : State) (n : Nat), 1 ≤ n → n ≤ 12 → u.axisState n ≠ 2 → u.limitActive n true = false → u.limitActive n false = false →
      inputActive (u.n (axk n 3 1)) u.pos.inputs = false → (u.startHoming n).axisState n = 4 ∧ ((u.startHoming n).stepper n).purpose = 3 ∧
      (u.startHoming n).n (axk n 3 0xA) = 1)

/-- A loop slot's enable, mode and target, an HV channel's enable and host switch, and a Kettle zone's enable, accepted by
the dictionary, each answer the state in which the object's own effect has been carried out and the request is
answered as done. An enabled slot is in HOLD or RUN by its mode, a disabled one DISABLED, and a change of mode moves
it between the two; an HV channel is STANDBY once enabled, ON after a switch to 1 and STANDBY after one to 0; a zone
that is enabled with a good sensor starts in SOFT START or RUN as it is configured, or waits for the mains. (R351,
R357, R360, R361, R365) -/
def Obligations.LoopWrites : Prop :=
  ∀ (path : Path) (data : Bytes) (s : State),
    (∀ slot, slot ≤ 63 → s.Accepts path (0x4800 + slot) 1 data →
      exec (.slotEnableWrite path slot data) s = .next (((s.taken (0x4800 + slot) 1 (.num (ofLe data))).slotEnable slot (decide (ofLe data ≠ 0))).done path (0x4800 + slot) 1)) ∧
    (∀ slot, slot ≤ 63 → s.Accepts path (0x4800 + slot) 7 data →
      exec (.modeWrite path slot data) s = .next (((s.taken (0x4800 + slot) 7 (.num (ofLe data))).slotMode slot (ofLe data)).done path (0x4800 + slot) 7)) ∧
    (∀ slot, slot ≤ 63 → s.Accepts path (0x4800 + slot) 8 data →
      exec (.loopTargetWrite path slot data) s = .next (((s.taken (0x4800 + slot) 8 (.num (ofLe data))).when (decide (0x300 < (s.taken (0x4800 + slot) 8 (.num (ofLe data))).target slot)) (fun t => t.refreshInBand (t.target slot - 0x300))).done path (0x4800 + slot) 8)) ∧
    (∀ h, 1 ≤ h → h ≤ 20 → s.Accepts path (0x4D00 + h) 1 data →
      exec (.hvEnableWrite path h data) s = .next (((s.taken (0x4D00 + h) 1 (.num (ofLe data))).hvEnable h (decide (ofLe data ≠ 0))).done path (0x4D00 + h) 1)) ∧
    (∀ h, 1 ≤ h → h ≤ 20 → s.Accepts path (0x4D00 + h) 5 data →
      exec (.hostSwitch path h data) s = .next ((s.noted.hostSwitch h (ofLe data)).done path (0x4D00 + h) 5)) ∧
    (∀ z, 1 ≤ z → z ≤ 3 → s.Accepts path (0x4C00 + z) 1 data →
      exec (.zoneEnableWrite path z data) s = .next (((s.taken (0x4C00 + z) 1 (.num (ofLe data))).zoneEnable z (decide (ofLe data ≠ 0))).done path (0x4C00 + z) 1)) ∧
    (∀ (u : State) (k : Nat), u.n (lk k 2) = 0 → u.n (lk k 7) = 0 → (u.slotEnable k true).n (lk k 2) = 1) ∧
    (∀ (u : State) (k : Nat), u.n (lk k 2) = 0 → u.n (lk k 7) ≠ 0 → (u.slotEnable k true).n (lk k 2) = 2) ∧
    (∀ (u : State) (k : Nat), (u.slotEnable k false).n (lk k 2) = 0 ∧ ((u.slotEnable k false).loop k).queued = false) ∧
    (∀ (u : State) (k : Nat), (u.n (lk k 2) = 1 → (u.slotMode k 1).n (lk k 2) = 2) ∧ (u.n (lk k 2) = 2 → (u.slotMode k 0).n (lk k 2) = 1)) ∧
    (∀ (u : State) (h : Nat), 1 ≤ h → h ≤ 20 → u.hvState h = 0 → u.on 15 = true → (u.hvEnable h true).hvState h = 1) ∧
    (∀ (u : State) (h : Nat), 1 ≤ h → h ≤ 20 → u.hvState h ≠ 4 → (u.hvEnable h false).hvState h = 0) ∧
    (∀ (u : State) (h : Nat), 1 ≤ h → h ≤ 20 → (u.hvState h = 1 ∨ u.hvState h = 2) →
      (u.hostSwitch h 1).hvState h = 2 ∧ ((u.hostSwitch h 1).hv h).code = u.n (hk h 4) ∧ (u.hostSwitch h 0).hvState h = 1) ∧
    (∀ (u : State) (z : Nat), 1 ≤ z → z ≤ 3 → u.zoneState z ≠ 5 → (u.zoneEnable z false).zoneState z = 0) ∧
    (∀ (u : State) (z : Nat), 1 ≤ z → z ≤ 3 → u.zoneState z = 0 → u.flag (zk z 1) = true → u.on 15 = true → u.zoneSlot z ≠ none →
      u.n (zk z 0xA) ≠ 0 → (u.n (K 0x3020 1) = 1 → u.n (zk z 3) = 1 → (u.zoneCheck z).zoneState z = 1) ∧
      (u.n (K 0x3020 1) = 1 → u.n (zk z 3) ≠ 1 → (u.zoneCheck z).zoneState z = 2) ∧
      (u.n (K 0x3020 1) ≠ 1 → (u.zoneCheck z).zoneState z = 3))

/-- A domain request, a thermometer channel's enable, the clearing of faults and of sticky bits, a reaction map, which is
recorded in EV016 and enters the configuration measurement, and an injection, accepted by the dictionary, each answer
the state in which the object's own effect has been carried out and the request is answered as done. A domain that is
switched on ramps, one that is switched off stops, or is OFF from its fault; a disabled thermometer shows nothing; a
clearing of faults forgets the recent releases; cleared sticky bits read 0; an injection is armed for its count, in
EV018. (R383, R387, R402, R406, R412, R415) -/
def Obligations.SupervisionWrites : Prop :=
  ∀ (path : Path) (data : Bytes) (s : State),
    (s.Accepts path 0x2040 1 data →
      exec (.domainRequestWrite path data) s = .next (((s.taken 0x2040 1 (.num (ofLe data))).requestDomains (s.before 0x2040 1).nat (ofLe data)).done path 0x2040 1)) ∧
    (∀ t, 1 ≤ t → t ≤ 36 → s.Accepts path (0x210F + t) 1 data →
      exec (.channelEnableWrite path t data) s = .next (((s.taken (0x210F + t) 1 (.num (ofLe data))).channelEnable t (decide ((s.before (0x210F + t) 1).int ≠ 0)) (decide (ofLe data ≠ 0))).done path (0x210F + t) 1)) ∧
    (s.Accepts path 0x2200 9 data →
      exec (.faultClear path data) s = .next ((s.noted.faultClear).done path 0x2200 9)) ∧
    (s.Accepts path 0x2201 3 data →
      exec (.stickyClear path data) s = .next ((s.noted.stickyClear data).done path 0x2201 3)) ∧
    (s.Accepts path 0x2210 1 data →
      exec (.reactionMapWrite path data) s = .next ((((s.taken 0x2210 1 (.dom data)).event 16 (mapRaised data)).extendMeasurement 6 data).done path 0x2210 1)) ∧
    (s.Accepts path 0x2220 4 data →
      exec (.inject path data) s = .next ((s.noted.inject).done path 0x2220 4)) ∧
    (∀ (u : State) (pd k cause : Nat), (u.domain pd).state = 0 → ((u.switchOn pd k cause).domain pd).state = 1 ∧
      (u.switchOn pd k cause).armed (tmRamp pd) = true) ∧
    (∀ (u : State) (pd : Nat), (u.domain pd).state = 2 → u.releaseDomain pd 1 = (u.setRequest pd false).stopDomain pd 1) ∧
    (∀ (u : State) (pd : Nat), (u.domain pd).state = 4 → ((u.releaseDomain pd 1).domain pd).state = 0) ∧
    (∀ (u : State) (t : Nat) (old : Bool), ∃ v : State, u.channelEnable t old false = v.refreshThrottle t ∧ v.n (tk t 3) = 0 ∧
      v.n (tk t 4) = 0 ∧ v.i (tk t 2) = 0) ∧
    (∀ u : State, u.faultClear.lid.releases = []) ∧
    (∀ (u : State) (d : Bytes), (u.stickyClear d).bytes (K 0x2201 1) = clearBits (u.bytes (K 0x2201 1)) (d.take 20) ∧
      (u.stickyClear d).bytes (K 0x2201 2) = clearBits (u.bytes (K 0x2201 2)) ((d.drop 20).take 20)) ∧
    (∀ u : State, u.inject.lid.target = u.n (K 0x2220 1) ∧ u.inject.lid.injected = u.n (K 0x2220 2) ∧
      u.inject.n (K 0x2220 5) = u.n (K 0x2220 2) ∧ u.inject.Logged 18 (1 + u.n (K 0x2220 1) * 65536 + u.n (K 0x2220 2) * 2 ^ 48))

/-- The reload of the standby, the planned switch-over, an attestation through the dictionary, the requests for a module
reset and a power cycle, which act 1.0 ms later, the expected measurements and the acknowledgement of a mismatch,
accepted by the dictionary, each answer the state in which the object's own effect has been carried out and the
request is answered as done. The standby is LOADING after its reload; a planned switch-over stops admission; an
attestation is queued and signed. (R438, R439, R473, R476, R478, R485, R490) -/
def Obligations.TrustWrites : Prop :=
  ∀ (path : Path) (data : Bytes) (s : State),
    (s.Accepts path 0x2300 0xC data →
      exec (.standbyReload path data) s = .next ((s.noted.standbyReload (ofLe data)).done path 0x2300 0xC)) ∧
    (s.Accepts path 0x2300 0xB data →
      exec (.plannedSwitchOver path data) s = .next ((s.noted.plannedSwitch (ofLe data)).done path 0x2300 0xB)) ∧
    (s.Accepts path 0x2440 2 data →
      exec (.attestObject path data) s = .next ((s.noted.attest data false).done path 0x2440 2)) ∧
    (s.Accepts path 0x2011 1 data →
      exec (.moduleResetObject path data) s = .next ((s.noted.oneMs (tmReset 0)).done path 0x2011 1)) ∧
    (s.Accepts path 0x2011 2 data →
      exec (.powerCycleRequest path data) s = .next ((s.noted.oneMs (tmCycle 0)).done path 0x2011 2)) ∧
    (∀ sub, 1 ≤ sub → sub ≤ 2 → s.Accepts path 0x2420 sub data →
      exec (.expectedMeasurementsWrite path sub data) s = .next (((s.taken 0x2420 sub (if sub = 1 then .num (ofLe data) else .dom data)).expectedWritten).done path 0x2420 sub)) ∧
    (s.Accepts path 0x2420 4 data →
      exec (.mismatchAcknowledge path data) s = .next ((s.noted.acknowledge (ofLe data)).done path 0x2420 4)) ∧
    (∀ (u : State) (slot : Nat), (u.standbyReload slot).role u.standby = 7) ∧
    (∀ (u : State) (mode : Nat), (u.plannedSwitch mode).twin.planned = mode ∧ (u.plannedSwitch mode).pages.stopped = true ∧
      (mode = 1 → (u.plannedSwitch mode).armed tmPlanned = true)) ∧
    (∀ (u : State) (d : Bytes) (ring : Bool), (u.attest d ring).trust.queue = u.trust.queue ++ [⟨d, ring⟩] ∧
      (u.attest d ring).trust.signing ≠ none) ∧
    (∀ (u : State) (t : Nat), (u.oneMs t).armed t = true) ∧
    (∀ u : State, u.expectedWritten.trust.acked = 0) ∧
    (∀ (u : State) (m : Nat), (u.acknowledge m).trust.acked = m)

/-- With PD03 on, a transaction that keeps to the burst limit and to one 4,096-byte block, revoked by higher inputs only,
counts one grant of its input and one more for each revocation, counts the preemptions, and leaves every byte of
memory as it is; a correctable error on a granule it reads counts `Correctable errors`, sets `Last error address` to
the granule and is recorded in EV096, and an error changes neither for a granule it writes whole; an uncorrectable one
on the Ladle's inputs stops the Ladle. A transaction that breaks those limits does nothing. A scrub read of the
granule whose turn it is counts one granule of the pass; the last one of the pass counts `Scrub passes` and is
recorded in EV099 with subcode 1. At the end of the period a finished pass begins anew, and an unfinished one is
recorded in EV099 with subcode 2 and goes on. (R215, R216, R218, R219, R222, R238, R240, R243) -/
def Obligations.FabricAndScrub : Prop :=
  ∀ (input address length ecc error : Nat) (revokers : List Nat) (write : Bool) (s : State), s.on 3 = true →
    (s.transactionGood input address length = true → revokersGood input revokers = true →
      ∃ t, exec (.fabricTransactionComplete input address length write revokers ⟨ecc, error⟩) s = .next t ∧
        Tab.get (fun _ => 0) t.fabric.grants input = (Tab.get (fun _ => 0) s.fabric.grants input + (1 + revokers.length)) % 2 ^ 64 ∧
        Tab.get (fun _ => 0) t.fabric.preemptions input =
          (Tab.get (fun _ => 0) s.fabric.preemptions input + revokers.length) % 2 ^ 64 ∧
        (∀ i, i ≠ input → Tab.get (fun _ => 0) t.fabric.grants i = Tab.get (fun _ => 0) s.fabric.grants i) ∧
        t.fabric.window = s.fabric.window ∧ t.fabric.host = s.fabric.host) ∧
    (s.transactionGood input address length = true → revokersGood input revokers = true → s.fabric.marks = [] → s.lid.target = 0 →
      ecc = 1 → (granulesOf address length).contains (error / 64) = true →
      (write = false ∨ wholeGranule address length (error / 64) = false) →
      ∃ t, exec (.fabricTransactionComplete input address length write revokers ⟨ecc, error⟩) s = .next t ∧
        t.n (K 0x3800 2) = (s.n (K 0x3800 2) + 1) % 2 ^ 32 ∧ t.n (K 0x3800 4) = 64 * (error / 64) ∧
        t.ev.held = s.ev.held ++ [s.record 1 96 (1 + input * 256 + 64 * (error / 64) % 2 ^ 40 * 2 ^ 24) (Config.firmwareRaised 96)] ∧
        t.Sent 0x30 1 (error / 64)) ∧
    (s.transactionGood input address length = true → revokersGood input revokers = true → s.fabric.marks = [] → s.lid.target = 0 →
      write = true → wholeGranule address length (error / 64) = true →
      ∃ t, exec (.fabricTransactionComplete input address length write revokers ⟨ecc, error⟩) s = .next t ∧
        t.od = s.od ∧ t.ev = s.ev ∧ t.lid = s.lid) ∧
    (s.transactionGood input address length = true → revokersGood input revokers = true → (input = 7 ∨ input = 8) → s.on 7 = true →
      s.n (K 0x3810 0x11) = 0 → ecc = 2 → (granulesOf address length).contains (error / 64) = true → write = false →
      ∃ t, exec (.fabricTransactionComplete input address length write revokers ⟨ecc, error⟩) s = .next t ∧ t.n (K 0x3810 0x11) = 1 ∧
        t.n (K 0x3810 0x12) = max address (64 * (error / 64))) ∧
    (s.transactionGood input address length = false ∨ revokersGood input revokers = false →
      exec (.fabricTransactionComplete input address length write revokers ⟨ecc, error⟩) s = .next s) ∧
    (s.fabric.scrubbed + 1 < granules → address / 64 = s.fabric.scrubbed →
      ∃ t, exec (.scrubRead address ecc) s = .next t ∧ t.fabric.scrubbed = s.fabric.scrubbed + 1 ∧ t.fabric.window = s.fabric.window) ∧
    (s.fabric.scrubbed + 1 = granules → address / 64 = s.fabric.scrubbed → s.fabric.late = false → ecc = 0 → s.mark s.fabric.scrubbed = 0 →
      ∃ t, exec (.scrubRead address ecc) s = .next t ∧ t.fabric.scrubbed = granules ∧
        t.n (K 0x3800 6) = (s.n (K 0x3800 6) + 1) % 2 ^ 32 ∧
        t.ev.held = s.ev.held ++ [s.record 1 99 (1 + t.n (K 0x3800 6) * 2 ^ 32) (Config.firmwareRaised 99)]) ∧
    (s.fabric.scrubbed = granules ∨ address / 64 ≠ s.fabric.scrubbed → exec (.scrubRead address ecc) s = .next s) ∧
    (s.due tmScrub = true → s.fabric.scrubbed < granules →
      ∃ t, exec .scrubPeriodExpired s = .next t ∧ t.fabric.scrubbed = s.fabric.scrubbed ∧ t.fabric.late = true ∧
        t.ev.held = s.ev.held ++ [s.record 1 99 (2 + s.n (K 0x3800 6) * 2 ^ 32) (Config.firmwareRaised 99)]) ∧
    (s.due tmScrub = true → s.fabric.scrubbed = granules →
      ∃ t, exec .scrubPeriodExpired s = .next t ∧ t.fabric.scrubbed = 0 ∧ t.fabric.late = false)

/-- A channel of a RUNNING Ladle with no job reads the next untaken entry of its ring, without moving HEAD, into the
validation of jobs: FENCE_ONLY, COPY_LIST and COPY_INDEX each take the entries of their own opcode; an entry that
cannot be read takes the ring to ERROR. The validation completes a job with an undefined field with status 0x01, one
whose count is out of range with 0x02, and a COPY_INDEX while pages are in flight with 0x03; a job whose lock is held
begins to wait for it, and its `Lock wait limit` runs. A FENCE_ONLY job is finished at once and moves nothing; a copy
moves its data, or waits for its timer where that paces it, and holds its lock where it has one; bytes that a transfer
writes to the host window of DRAM stand there. A finished job completes with its status, and releases its lock; one
that has waited its limit completes with status 0x06, nothing moved. (R228, R229, R230, R231, R234, R236, R239, R240) -/
def Obligations.LadleJobs : Prop :=
  ∀ (ch e : Nat) (ws : List Nat) (host : HostMem) (j : LadleJob) (s : State),
    (s.channelTakes ch = true → (s.ring (ch - 1)).state = 1 → (s.ring (ch - 1)).open_ < (s.ring (ch - 1)).used → s.linkUp = true →
      (LadleJob.opcode { words := ws } = 1 → exec (.copyList ch (some ws) host) s =
        .next ((s.setRing (ch - 1) { s.ring (ch - 1) with open_ := (s.ring (ch - 1)).open_ + 1 }).takeLadleJob ch
          (s.ring (ch - 1)).nextTaken ws host)) ∧
      (LadleJob.opcode { words := ws } = 2 → exec (.copyIndex ch (some ws) host) s =
        .next ((s.setRing (ch - 1) { s.ring (ch - 1) with open_ := (s.ring (ch - 1)).open_ + 1 }).takeLadleJob ch
          (s.ring (ch - 1)).nextTaken ws host)) ∧
      (LadleJob.opcode { words := ws } ≠ 1 → LadleJob.opcode { words := ws } ≠ 2 → exec (.fenceOnly ch (some ws) host) s =
        .next ((s.setRing (ch - 1) { s.ring (ch - 1) with open_ := (s.ring (ch - 1)).open_ + 1 }).takeLadleJob ch
          (s.ring (ch - 1)).nextTaken ws host)) ∧
      (∃ t, exec (.fenceOnly ch none host) s = .next t ∧ (t.ring (ch - 1)).state = 3 ∧ t.Sent 0x7A 5 (ch - 1) ∧
        t.fabric = s.fabric)) ∧
    (LadleJob.fieldsBad { words := ws } = true →
      s.takeLadleJob ch e ws host = s.completeLadle ch { words := ws, entry := e, host := host } 0x01 s.stamp) ∧
    (LadleJob.fieldsBad { words := ws } = false → LadleJob.countBad { words := ws } = true →
      s.takeLadleJob ch e ws host = s.completeLadle ch { words := ws, entry := e, host := host } 0x02 s.stamp) ∧
    (LadleJob.fieldsBad { words := ws } = false → LadleJob.countBad { words := ws } = false → LadleJob.opcode { words := ws } = 2 →
      s.pagesInFlight ≠ 0 →
      s.takeLadleJob ch e ws host = s.completeLadle ch { words := ws, entry := e, host := host } 0x03 s.stamp) ∧
    (LadleJob.fieldsBad { words := ws } = false → LadleJob.countBad { words := ws } = false →
      (LadleJob.opcode { words := ws } ≠ 2 ∨ s.pagesInFlight = 0) → LadleJob.flag { words := ws } 2 = true →
      (s.lock (LadleJob.lockNumber { words := ws })).owner ≠ 0 →
      s.ladleJob ch = none → (s.takeLadleJob ch e ws host).fabric.lockQueue = s.fabric.lockQueue ++ [ch] ∧
        (s.takeLadleJob ch e ws host).ladleJob ch = some { words := ws, entry := e, host := host, waiting := true } ∧
        (s.takeLadleJob ch e ws host).armed (tmLockWait ch) = true ∧
        (s.takeLadleJob ch e ws host).fabric.window = s.fabric.window) ∧
    (LadleJob.fieldsBad { words := ws } = false → LadleJob.countBad { words := ws } = false → LadleJob.opcode { words := ws } = 0 →
      LadleJob.flag { words := ws } 2 = false →
      (s.takeLadleJob ch e ws host).ladleJob ch = some { words := ws, entry := e, host := host, finished := true } ∧
        (s.takeLadleJob ch e ws host).fabric.window = s.fabric.window ∧ (s.takeLadleJob ch e ws host).fabric.host = s.fabric.host) ∧
    (LadleJob.fieldsBad { words := ws } = false → LadleJob.countBad { words := ws } = false →
      (LadleJob.opcode { words := ws } = 1 ∨ LadleJob.opcode { words := ws } = 2 ∧ s.pagesInFlight = 0) →
      LadleJob.flag { words := ws } 2 = false →
      (LadleJob.flag { words := ws } 3 = false → s.takeLadleJob ch e ws host =
        (s.setLadleJob ch (some { words := ws, entry := e, host := host })).advanceJob ch (2 ^ 64)) ∧
      (LadleJob.flag { words := ws } 3 = true → LadleJob.paceSource { words := ws } = 1 →
        (s.takeLadleJob ch e ws host).ladleJob ch = some { words := ws, entry := e, host := host } ∧
        (s.takeLadleJob ch e ws host).armed (tmPace ch) = true)) ∧
    (LadleJob.fieldsBad { words := ws } = false → LadleJob.countBad { words := ws } = false → LadleJob.opcode { words := ws } = 0 →
      LadleJob.flag { words := ws } 2 = true → (s.lock (LadleJob.lockNumber { words := ws })).owner = 0 →
      ((s.takeLadleJob ch e ws host).lock (LadleJob.lockNumber { words := ws })).owner = ladleOwner ch) ∧
    (∀ (u v : State) (x y : LadleJob) (budget : Nat), u.ladleJob ch = some x →
      State.moveJob (2 * x.transfers + 2) u ch x budget = (v, .ok y) →
      u.advanceJob ch budget = v.setLadleJob ch (some y) ∧ (u.advanceJob ch budget).ladleJob ch = some y) ∧
    (∀ (u : State) (x : LadleJob) (fuel budget : Nat), x.finished = false → x.left ≠ [] → x.left.length ≤ budget → x.down = false →
      u.writeBlocked (x.dest + (x.size - x.left.length)) x.left.length = none → x.destHost = false →
      x.dest + x.size ≤ 0x800000000 → 0x7C0000000 ≤ x.dest → x.left.length ≤ x.size →
      ∃ v : State, State.moveJob (fuel + 1) u ch x budget =
          State.moveJob fuel v ch { x with left := [], done := x.done + x.size } (budget - x.left.length) ∧
        v.dram (x.dest + (x.size - x.left.length)) x.left.length = x.left) ∧
    (s.ladleJob ch = some j → j.finished = true → j.flag 2 = false →
      exec (.ladleJobComplete ch) s = .next (s.completeLadle ch j j.status s.stamp) ∧
        (s.completeLadle ch j j.status s.stamp).ladleJob ch = none) ∧
    (s.ladleJob ch = some j → j.finished = true → j.flag 2 = true → (s.lock j.lockNumber).owner = ladleOwner ch →
      s.waiters j.lockNumber = [] → s.fabric.lockQueue = [] →
      ∃ t, exec (.ladleJobComplete ch) s = .next t ∧ (t.lock j.lockNumber).owner = 0 ∧ (t.lock j.lockNumber).broken = false ∧
        (t.lock j.lockNumber).lastOwner = ladleOwner ch ∧ t.ladleJob ch = none) ∧
    (s.ladleJob ch = some j → j.finished = false → exec (.ladleJobComplete ch) s = .next s) ∧
    (s.ladleJob ch = some j → j.waiting = true → s.due (tmLockWait ch) = true →
      exec (.ladleLockWaitExpired ch) s = .next ((s.unwait ch).completeLadle ch j 0x06 s.stamp)) ∧
    (s.ladleJob ch = some j → j.waiting = false → exec (.ladleLockWaitExpired ch) s = .next s)

/-- A paced job that its timer serves moves one burst when the timer is due and sets the timer to the next of its periods;
before that it moves nothing. One that an input serves moves a burst while the input is active, and nothing while it
is not. A bus error stops a RUNNING Ladle: no channel keeps a job, no channel waits for a lock, `Ladle state` reads
STOPPED, `Stop address` holds the address, the fault of source 0x78 is sent and EV098 is the last record written; a
stopped Ladle takes no bus error. (R237, R238, R245) -/
def Obligations.LadleStops : Prop :=
  ∀ (ch kind address : Nat) (j : LadleJob) (s : State),
    (s.ladleJob ch = some j → j.flag 3 = true → j.waiting = false → j.finished = false → j.paceSource = 1 → s.due (tmPace ch) = true →
      exec (.ladlePaceRequest ch) s =
        .next ((s.arm (tmPace ch) (nextRequest s.stamp (s.deadline (tmPace ch)) j.period)).advanceJob ch j.burst)) ∧
    (s.ladleJob ch = some j → j.paceSource = 1 → s.due (tmPace ch) = false → exec (.ladlePaceRequest ch) s = .next s) ∧
    (s.ladleJob ch = some j → j.flag 3 = true → j.waiting = false → j.finished = false → j.paceSource ≠ 1 →
      s.paceInput j.paceSource = true → exec (.ladlePaceRequest ch) s = .next (s.advanceJob ch j.burst)) ∧
    (s.ladleJob ch = some j → j.paceSource ≠ 1 → s.paceInput j.paceSource = false → exec (.ladlePaceRequest ch) s = .next s) ∧
    (s.on 7 = true → s.n (K 0x3810 0x11) = 0 → kind = 2 ∨ kind = 4 ∨ kind = 5 →
      ∃ t, exec (.ladleBusError kind address) s = .next t ∧ t.n (K 0x3810 0x11) = 1 ∧ t.n (K 0x3810 0x12) = address ∧
        (∀ c, 1 ≤ c → c ≤ 16 → t.ladleJob c = none) ∧ t.fabric.lockQueue = [] ∧ t.Sent 0x78 kind address ∧
        t.Logged 98 (1 + address % 2 ^ 48 * 65536) ∧ t.fabric.window = s.fabric.window) ∧
    (s.n (K 0x3810 0x11) ≠ 0 → exec (.ladleBusError kind address) s = .next s)

/-- After bytes have been written to the host window of DRAM or to host memory, reading the same range gives those bytes,
every address outside the range reads as before, and the other memory is as it was; a memory in canonical form stays
in canonical form. (R213, R214, R229) -/
def Obligations.MemoryReadsBack : Prop :=
  ∀ (address : Nat) (b : Bytes) (s : State),
    (s.dramWrite address b).dram address b.length = b ∧
    (∀ a, a < address ∨ address + b.length ≤ a →
      Tab.get dramDefault (s.dramWrite address b).fabric.window a = Tab.get dramDefault s.fabric.window a) ∧
    (s.dramWrite address b).fabric.host = s.fabric.host ∧
    (Memory.wf s.fabric.window = true → Memory.wf (s.dramWrite address b).fabric.window = true) ∧
    Tab.read dramDefault (s.hostWrite address b).fabric.host address b.length = b ∧
    (∀ a, a < address ∨ address + b.length ≤ a →
      Tab.get dramDefault (s.hostWrite address b).fabric.host a = Tab.get dramDefault s.fabric.host a) ∧
    (s.hostWrite address b).fabric.window = s.fabric.window ∧
    (Memory.wf s.fabric.host = true → Memory.wf (s.hostWrite address b).fabric.host = true)

/-- With the link up and a ring below 64: a write of BASE to a DISABLED ring takes the value, and in any other state it is
discarded with EV101 subcode 5; ENABLE written 1 to a DISABLED ring with a good descriptor, of which nothing waits,
sets HEAD and TAIL to 0 and the state to ENABLED, and with a bad one, on a ring the variant has, leaves it DISABLED
with EV101 subcode 3; ENABLE written 0 to an ENABLED ring or one in ERROR takes it to DRAINING with its entries. A
32-bit write merges its half into the word. A draining ring without an entry in work becomes DISABLED. A doorbell
within the ring's size moves the host's pointer and no entry; one that breaks it takes the ring to ERROR with the
fault of source 0x7A; a ring that is not ENABLED discards it. The end of HOLDOFF sends the message; a write of a
vector's table entry holds the address and data and takes the mask, and unmasking sends the message that waits and no
other. A full ring of the module whose oldest entry stays beyond the bound counts one overrun for the episode. A
trained link is up with its speed and width, counts its errors, takes Bus Master Enable, and is reported at every
change of speed or width; losing it counts a loss and changes no page, and where no Ladle job waits for a lock it
masks every vector and changes no byte of either memory. (R247, R250, R251, R253, R256, R258, R262, R265) -/
def Obligations.LinkAndRings : Prop :=
  ∀ (r word part value speed width cause errors address data control w : Nat) (s : State), r < 64 → w = s.descriptorWord r word part value →
    (s.linkUp = true → (s.ring r).state = 0 → word = 0 →
      exec (.ringDescriptorWrite r word ⟨part, value⟩) s = .next (s.setRing r { s.ring r with base := w })) ∧
    (s.linkUp = true → (s.ring r).state = 0 → word = 1 →
      exec (.ringDescriptorWrite r word ⟨part, value⟩) s = .next (s.setRing r { s.ring r with shadow := w })) ∧
    (s.linkUp = true → (s.ring r).state = 0 → word = 2 →
      ∃ t, exec (.ringDescriptorWrite r word ⟨part, value⟩) s = .next t ∧ (t.ring r).holdoff = field w 47 32 ∧
        (t.ring r).log2 = field w 4 0 ∧ (t.ring r).state = 0 ∧ ∀ m, m ≠ r → t.ring m = s.ring m) ∧
    (part = 0 → w = value % 2 ^ 64) ∧
    (part = 1 → w % 2 ^ 32 = value % 2 ^ 32 ∧ w / 2 ^ 32 = ((s.ring r).descriptor r).getD word 0 / 2 ^ 32) ∧
    (s.linkUp = true → (s.ring r).state ≠ 0 → word ≤ 2 →
      ∃ t, exec (.ringDescriptorWrite r word ⟨part, value⟩) s = .next t ∧ t.rings = s.rings ∧ t.Logged 101 (5 + r * 256 + word * 2 ^ 32)) ∧
    (2 < word ∨ s.linkUp = false → exec (.ringDescriptorWrite r word ⟨part, value⟩) s = .next s) ∧
    (s.linkUp = true → (s.ring r).state = 0 → word = 2 → bitOf w 63 = true →
      (s.setRing r ((s.ring r).withWord2 w)).enableGood r = true →
      ∃ u : State, exec (.ringEnable r ⟨part, value⟩) s = .next (u.roomOpened r) ∧ (u.ring r).state = 1 ∧ (u.ring r).head = 0 ∧
        (u.ring r).tail = 0 ∧ (u.ring r).base = (s.ring r).base ∧ u.Logged 101 (1 + r * 256) ∧ ∀ m, m ≠ r → u.ring m = s.ring m) ∧
    (s.linkUp = true → (s.ring r).state = 0 → word = 2 → bitOf w 63 = true →
      (s.setRing r ((s.ring r).withWord2 w)).enableGood r = false → s.ringPresent r = true →
      ∃ t, exec (.ringEnable r ⟨part, value⟩) s = .next t ∧ (t.ring r).state = 0 ∧ t.Logged 101 (3 + r * 256 + w % 2 ^ 32 * 2 ^ 32)) ∧
    (s.linkUp = true → ((s.ring r).state = 1 ∨ (s.ring r).state = 3) → word = 2 → bitOf w 63 = false →
      ∃ t, exec (.ringEnable r ⟨part, value⟩) s = .next t ∧ (t.ring r).state = 2 ∧ (t.ring r).head = (s.ring r).head ∧
        (t.ring r).tail = (s.ring r).tail ∧ (t.ring r).entries = (s.ring r).entries ∧
        t.Logged 101 (Config.ringSubcode 2 % 256 + r * 256 + (s.ring r).tail % 2 ^ 32 * 2 ^ 32)) ∧
    ((s.ring r).state = 2 → (s.ring r).open_ = 0 →
      ∃ t, exec (.ringDrained r) s = .next t ∧ (t.ring r).state = 0 ∧ t.Logged 101 (2 + r * 256 + (s.ring r).tail % 2 ^ 32 * 2 ^ 32) ∧
        ∀ m, m ≠ r → t.ring m = s.ring m) ∧
    ((s.ring r).state ≠ 2 ∨ (s.ring r).open_ ≠ 0 → exec (.ringDrained r) s = .next s) ∧
    (s.linkUp = true → (s.ring r).state = 1 → moduleToHost r = false →
      (s.ring r).used + (value % 2 ^ 32 + 2 ^ 32 - (s.ring r).tail) % 2 ^ 32 ≤ (s.ring r).size →
      exec (.doorbellWrite r value) s = .next (s.setRing r { s.ring r with tail := value % 2 ^ 32 })) ∧
    (s.linkUp = true → (s.ring r).state = 1 → moduleToHost r = false →
      (s.ring r).size < (s.ring r).used + (value % 2 ^ 32 + 2 ^ 32 - (s.ring r).tail) % 2 ^ 32 →
      ∃ t, exec (.doorbellWrite r value) s = .next t ∧ (t.ring r).state = 3 ∧ (t.ring r).tail = (s.ring r).tail ∧ t.Sent 0x7A 5 r ∧
        t.Logged 101 (4 + r * 256 + value % 2 ^ 32 * 2 ^ 32)) ∧
    (s.linkUp = true → (s.ring r).state = 1 → moduleToHost r = true →
      (s.ring r).used < (value % 2 ^ 32 + 2 ^ 32 - (s.ring r).head) % 2 ^ 32 →
      ∃ t, exec (.doorbellWrite r value) s = .next t ∧ (t.ring r).state = 3 ∧ (t.ring r).entries = (s.ring r).entries ∧ t.Sent 0x7A 5 r) ∧
    (s.linkUp = true → (s.ring r).state = 1 → moduleToHost r = true →
      (value % 2 ^ 32 + 2 ^ 32 - (s.ring r).head) % 2 ^ 32 ≤ (s.ring r).used →
      ∃ u : State, exec (.doorbellWrite r value) s = .next (u.roomOpened r) ∧ (u.ring r).head = value % 2 ^ 32 ∧
        (u.ring r).entries = (s.ring r).entries.drop ((value % 2 ^ 32 + 2 ^ 32 - (s.ring r).head) % 2 ^ 32)) ∧
    ((s.ring r).state ≠ 1 → exec (.doorbellWrite r value) s = .next s) ∧
    (s.due (tmMsix r) = true → s.masters = true → exec (.msixHoldoffExpired r) s = .next (s.sendMessage r)) ∧
    (s.due (tmMsix r) = true → s.masters = true → (s.ring r).masked = false → r ≠ 63 →
      ∃ t, exec (.msixHoldoffExpired r) s = .next t ∧ (t.ring r).messages = (s.ring r).messages + 1 ∧ (t.ring r).unsignalled = false ∧
        t.armed (tmMsix r) = false) ∧
    (s.due (tmMsix r) = false → exec (.msixHoldoffExpired r) s = .next s) ∧
    (s.linkUp = true → (s.ring r).msixPending = false →
      ∃ t, exec (.vectorUnmask ⟨r, address, data, control⟩) s = .next t ∧ (t.ring r).masked = bitOf control 0 ∧
        (t.ring r).messages = (s.ring r).messages ∧
        Tab.get (fun _ => (0, 0)) t.pcie.table r = (address % 2 ^ 64, data % 2 ^ 32) ∧ ∀ m, m ≠ r → t.ring m = s.ring m) ∧
    (s.linkUp = true → (s.ring r).msixPending = true → r ≠ 63 → s.masters = true → bitOf control 0 = false →
      ∃ t, exec (.vectorUnmask ⟨r, address, data, control⟩) s = .next t ∧ (t.ring r).masked = false ∧ (t.ring r).msixPending = false ∧
        (t.ring r).messages = (s.ring r).messages + 1) ∧
    (∀ t0 l, moduleToHost r = true → (s.ring r).state = 1 → (s.ring r).size ≤ (s.ring r).used → (s.ring r).overrun = false →
      (s.ring r).told = t0 :: l → t0 + s.n (K 0x3830 6) * 1000 < s.stamp →
      ∃ t, exec (.drainBoundExpired r) s = .next t ∧ (t.ring r).overrun = true ∧ t.n (K 0x3830 7) = (s.n (K 0x3830 7) + 1) % 2 ^ 32 ∧
        (t.ring r).entries = (s.ring r).entries) ∧
    ((s.ring r).overrun = true ∨ moduleToHost r = false → exec (.drainBoundExpired r) s = .next s) ∧
    (∀ master, s.on 7 = true → 1 ≤ speed → speed ≤ 5 → width = 1 ∨ width = 2 ∨ width = 4 →
      ∃ t, exec (.linkTrained speed ⟨width, errors, master⟩) s = .next t ∧ t.linkUp = true ∧ t.n (K 0x3830 2) = speed ∧
        t.n (K 0x3830 3) = width ∧ t.pcie.busMaster = master ∧ t.n (K 0x3830 0xB) = (s.n (K 0x3830 0xB) + errors) % 2 ^ 32 ∧
        (master = false → t.rings = s.rings)) ∧
    (s.on 7 = true → 1 ≤ speed → speed ≤ 5 → width = 1 ∨ width = 2 ∨ width = 4 → s.flag (K 0x3830 1) = false →
      ∃ t, exec (.linkTrained speed ⟨width, errors, false⟩) s = .next t ∧ t.Logged 100 (1 + speed * 256 + width * 65536 + 5 * 2 ^ 24)) ∧
    (s.on 7 = true → s.flag (K 0x3830 1) = true → s.n (K 0x3830 2) = speed → s.n (K 0x3830 3) = width →
      ∃ t, exec (.linkTrained speed ⟨width, errors, false⟩) s = .next t ∧ t.ev = s.ev ∧ t.rings = s.rings) ∧
    (s.linkUp = true → 1 ≤ cause → cause ≤ 4 → exec (.linkLoss cause) s = .next (s.linkLost cause) ∧
      (s.linkLost cause).pages = s.pages ∧ (s.fabric.lockQueue = [] → (s.linkLost cause).fabric.window = s.fabric.window ∧
        (s.linkLost cause).fabric.host = s.fabric.host ∧ ((s.linkLost cause).ring r).masked = true ∧
        ((s.linkLost cause).ring r).state ≠ 1 ∧ (s.linkLost cause).pcie.d3hot = decide (cause = 4) ∧
        (s.linkLost cause).n (K 0x3830 0xC) = (s.n (K 0x3830 0xC) + 1) % 2 ^ 32)) ∧
    (s.linkUp = false → exec (.linkLoss cause) s = .next s)

/-- A change of the drive state writes EV108, and the polygon of a P channel follows. ALIGN ends in RAMP with the steps
and the crossings at 0; a ramp step enters RUN once its crossings suffice, and otherwise takes the next sector, the
duty of its time and the next step's timer; the handover time and the catch time end in RETRY WAIT, or in FAULT where
the attempts are used up; the retry interval makes the start test, which leads to STOPPED where it fails. A zero
crossing takes the time and the direction of the rotor: in the window of a ramp step it counts for that step, and it
changes no object in the states that do not run. In RUN it takes the sector that the last one announced and announces
the next one half an interval later. A lost observer counts and enters CATCH, where the first crossing measures
nothing and the estimates, once enough agree, count a resynchronisation and enter RUN in the sector found; a catch
pulse whose speed is too low or against the command forgets the estimates and changes nothing else. (R292, R297, R300,
R301, R302, R307) -/
def Obligations.DriveStarting : Prop :=
  ∀ (c new cause emf sector : Nat) (forward : Bool) (speed : Int) (s : State),
    (s.driveOn c = true → s.driveState c ≠ new →
      ∃ u : State, s.driveTo c new cause = (if c < 3 then u.refreshPolygon (c + 1) else u) ∧ u.driveState c = new ∧
        u.Logged 108 (new + s.driveState c * 256 + c * 65536 + cause * 2 ^ 24)) ∧
    (s.driveOn c = true → s.driveState c = 1 → s.due (tmAlign c) = true →
      ∃ d : Drive, exec (.alignTimeElapsed c) s =
          .next (((s.driveTo c 2 2).setDrive c d).after (tmStep c) ((s.driveTo c 2 2).rampInterval c 0)) ∧
        d.steps = 0 ∧ d.advance = none ∧ d.rampAt = s.stamp ∧ d.stepAt = s.stamp ∧ d.seen = false ∧ d.good = 0) ∧
    (s.driveState c ≠ 1 → exec (.alignTimeElapsed c) s = .next s) ∧
    (s.driveOn c = true → s.driveState c = 2 → s.due (tmStep c) = true →
      s.n (dk c 1 7) ≤ (if (s.drive c).seen then (s.drive c).good + 1 else 0) →
      ∃ u : State, u = (s.startEvent c 2).enterRun c (s.n (dk c 0 0xF)) 2 ∧ exec (.rampStep c) s =
        .next (u.setDrive c { u.drive c with advance := (s.drive c).last.map (· + (s.drive c).interval / 2) })) ∧
    (s.driveOn c = true → s.driveState c = 2 → s.due (tmStep c) = true →
      (if (s.drive c).seen then (s.drive c).good + 1 else 0) < s.n (dk c 1 7) →
      ∃ t, exec (.rampStep c) s = .next t ∧ t.driveState c = 2 ∧ (t.drive c).steps = (s.drive c).steps + 1 ∧
        (t.drive c).seen = false ∧ (t.drive c).sector = nextSector (s.drive c).sector (decide (s.commanded c < 0)) ∧
        t.n (dk c 0 0xF) = s.rampDuty c (s.stamp - (s.drive c).rampAt) ∧ t.armed (tmStep c) = true) ∧
    (s.driveState c ≠ 2 → exec (.rampStep c) s = .next s) ∧
    (s.driveOn c = true → s.driveState c = 2 → s.due (tmHandover c) = true →
      exec (.rampHandoverTimeout c) s = .next (s.enterRetry c 5)) ∧
    (s.driveOn c = true → s.driveState c = 4 → s.due (tmCatch c) = true →
      exec (.catchTimeout c) s = .next ((s.observerEvent c 3).enterRetry c 4)) ∧
    (s.driveOn c = true → 3 ≤ c → s.driveState c = 2 ∨ s.driveState c = 4 → 1 + s.n (dk c 1 8) ≤ s.n (dk c 0 0x11) →
      (s.enterRetry c cause).driveState c = 6 ∧ (s.enterRetry c cause).Sent (driveSource c) 4 c) ∧
    (s.driveOn c = true → 3 ≤ c → s.driveState c = 2 ∨ s.driveState c = 4 → s.n (dk c 0 0x11) < 1 + s.n (dk c 1 8) →
      (s.enterRetry c cause).driveState c = 5 ∧ (s.enterRetry c cause).armed (tmRetry c) = true) ∧
    (s.driveOn c = true → s.driveState c = 5 → s.due (tmRetry c) = true → s.mayStart c = false →
      exec (.retryIntervalElapsed c) s = .next (s.driveTo c 0 2)) ∧
    (s.driveOn c = true → s.driveState c = 5 → s.due (tmRetry c) = true → s.mayStart c = true →
      s.belowMinimum c (s.observed c) = true →
      ∃ u : State, exec (.retryIntervalElapsed c) s = .next u ∧ u = (s.startTest c 2).1 ∧ u.armed (tmAlign c) = true ∧
        u.n (dk c 0 0xF) = s.n (dk c 1 4)) ∧
    (s.driveOn c = true → s.driveState c = 2 → 3 ≤ (s.drive c).steps →
      20 * s.rampInterval c ((s.drive c).stepAt - (s.drive c).rampAt) ≤ (s.stamp - (s.drive c).stepAt) * 100 →
      (s.stamp - (s.drive c).stepAt) * 100 ≤ 80 * s.rampInterval c ((s.drive c).stepAt - (s.drive c).rampAt) →
      ∃ t, exec (.zeroCrossing c forward ⟨emf, sector⟩) s = .next t ∧ (t.drive c).seen = true ∧ (t.drive c).last = some s.stamp ∧ t.od = s.od) ∧
    (s.driveOn c = true → s.driveState c = 1 ∨ 5 ≤ s.driveState c →
      ∃ t, exec (.zeroCrossing c forward ⟨emf, sector⟩) s = .next t ∧ (t.drive c).last = some s.stamp ∧ (t.drive c).backward = !forward ∧
        (t.drive c).sector = (s.drive c).sector ∧ t.od = s.od ∧ t.timers = s.timers) ∧
    (s.driveOn c = true → s.driveState c = 3 →
      ∃ u : State, exec (.zeroCrossing c forward ⟨emf, sector⟩) s = .next ((u.speedCheck c).driveCheck c 2) ∧ u.od = s.od ∧
        (u.drive c).sector = (if (s.drive c).advance.isSome then nextSector (s.drive c).sector (s.drive c).backward else (s.drive c).sector) ∧
        (u.drive c).advance = some (s.stamp + (u.drive c).interval / 2) ∧ (u.drive c).last = some s.stamp) ∧
    (s.driveOn c = true → c < 3 → s.driveState c = 4 → (s.drive c).firstCrossing = true →
      ∃ t, exec (.zeroCrossing c forward ⟨emf, sector⟩) s = .next t ∧ (t.drive c).estimates = (s.drive c).estimates ∧
        (t.drive c).firstCrossing = false ∧ (t.drive c).last = some s.stamp ∧ t.od = s.od) ∧
    (∀ v : Int, sameWay v (s.commanded c) = true → s.belowMinimum c v = false →
      (s.drive c).estimates.all (fun x => agree x v) = true → (s.drive c).estimates.length + 1 = catchNeeds c →
      ∃ u : State, u = ((s.bump (dk c 0 0x13)).observerEvent c 2).enterRun c (s.emfDuty emf) 4 ∧
        s.catchEstimate c v emf sector = u.setDrive c { u.drive c with
          sector := sector % 6, advance := if c < 3 then some (s.stamp + (s.drive c).interval / 2) else none }) ∧
    (s.driveOn c = false → exec (.zeroCrossing c forward ⟨emf, sector⟩) s = .next s) ∧
    (∀ t0, s.driveOn c = true → s.driveState c = 3 → (s.drive c).last = some t0 → t0 + 12 * (s.drive c).interval ≤ s.stamp →
      ∃ u : State, exec (.observerLoss c) s = .next (u.enterCatch c 4) ∧ u.n (dk c 0 0x12) = (s.n (dk c 0 0x12) + 1) % 2 ^ 32 ∧
        u.Sent (driveSource c) 8 c) ∧
    (∀ t0, (s.drive c).last = some t0 → s.stamp < t0 + 12 * (s.drive c).interval → exec (.observerLoss c) s = .next s) ∧
    (s.driveOn c = true → 3 ≤ c → s.driveState c = 4 → s.due (tmPulse c) = true → s.belowMinimum c speed = true →
      ∃ t, exec (.catchPulse c speed ⟨emf, sector⟩) s = .next t ∧ t.od = s.od ∧ (t.drive c).estimates = [] ∧ t.armed (tmPulse c) = true) ∧
    (c < 3 ∨ s.driveState c ≠ 4 → exec (.catchPulse c speed ⟨emf, sector⟩) s = .next s)

/-- A PWM period takes the next duty and shows the phase currents, sensed directly on an M channel, through the shunt on a
P channel; with an on-time too short for the shunt the currents stay and the skipped periods count. An exceeded
current limit cuts the present on-time and changes no object; a trip current is sent as the fault of the channel; an
invalid sigma-delta input is sent and recorded. A command pin that has been silent for the Command timeout of a
channel that reads it is sent once and its channels are looked at again; a known edge is remembered and ends the loss.
The brake time takes the gates off. A bus sample at the chopper threshold switches the chopper on, one below it by
more than the hysteresis switches it off, and between them it stays; a chopper with no current while on is open, one
with current while off is shorted. An overvoltage opens the switch, and it stays tripped. (R294, R295, R296, R305,
R308, R309, R310, R311) -/
def Obligations.DrivePower : Prop :=
  ∀ (c k input bus current : Nat) (ia ib : Int) (s : State),
    (s.driveOn c = true → 3 ≤ c → 1 ≤ s.driveState c → s.driveState c ≤ 3 →
      ∃ t, exec (.pwmPeriod c ia ib) s = .next t ∧ t.n (dk c 0 0xF) = s.nextDuty c ∧
        t.bytes (dk c 0 0x10) = deltaPhases (s.deltaCurrent c ia) (s.deltaCurrent c ib) ∧
        (t.drive c).cut = false ∧ t.ev = s.ev) ∧
    (s.driveOn c = true → c < 3 → 1 ≤ s.driveState c → s.driveState c ≤ 3 →
      (s.setn (dk c 0 0xF) (s.nextDuty c)).onTime c < s.n (dk c 2 2) → (s.drive c).unskipped ≠ 1024 →
      ∃ t, exec (.pwmPeriod c ia ib) s = .next t ∧ t.n (dk c 0 0xF) = s.nextDuty c ∧ t.n (dk c 2 3) = (s.n (dk c 2 3) + 1) % 2 ^ 32 ∧
        t.val (dk c 0 0x10) = s.val (dk c 0 0x10) ∧ t.ev = s.ev) ∧
    (s.driveOn c = true → c < 3 → 1 ≤ s.driveState c → s.driveState c ≤ 3 →
      s.n (dk c 2 2) ≤ (s.setn (dk c 0 0xF) (s.nextDuty c)).onTime c →
      ∃ t, exec (.pwmPeriod c ia ib) s = .next t ∧ t.n (dk c 0 0xF) = s.nextDuty c ∧ t.val (dk c 2 3) = s.val (dk c 2 3) ∧
        t.bytes (dk c 0 0x10) = shuntPhases (s.sectorNow c) ia) ∧
    (s.driveState c = 0 ∨ 4 ≤ s.driveState c → (s.drive c).braking = false → exec (.pwmPeriod c ia ib) s = .next s) ∧
    (s.driveState c = 0 ∨ 4 ≤ s.driveState c → (s.drive c).braking = true →
      ∃ t, exec (.pwmPeriod c ia ib) s = .next t ∧ (t.drive c).cut = false ∧ t.od = s.od) ∧
    (s.driveOn c = true → 1 ≤ s.driveState c → s.driveState c ≤ 3 →
      ∃ t, exec (.currentLimitExceeded c) s = .next t ∧ (t.drive c).cut = true ∧ t.od = s.od ∧ t.ev = s.ev) ∧
    (s.driveOn c = true → ∃ t, exec (.tripCurrent c) s = .next t ∧ t.Sent (driveSource c) 9 c ∧ t.drives = s.drives) ∧
    (s.driveOn c = false → exec (.tripCurrent c) s = .next s) ∧
    (s.driveOn c = true → 3 ≤ c → input = 1 ∨ input = 2 →
      ∃ t, exec (.sdInputInvalid c input) s = .next t ∧ t.Sent (driveSource c) 7 c ∧ t.Logged 113 (2 + input * 256 + c * 65536) ∧
        t.drives = s.drives) ∧
    (c < 3 → exec (.sdInputInvalid c input) s = .next s) ∧
    (s.pinReaders k ≠ [] → bitOf s.drives.lost (k - 1) = false → (s.pinReaders k).any (s.pinSilent k) = true →
      ∃ u : State, exec (.commandPinLost k) s = .next (u.each (s.pinReaders k) (fun t x => t.driveCheck x 2)) ∧ u.Sent 0x8D 7 k ∧
        bitOf u.drives.lost (k - 1) = true ∧ (∃ x, u.Logged 111 (3 + (s.pinReaders k).headD 0 * 65536 + k * 2 ^ 24 + x * 2 ^ 32))) ∧
    (s.pinReaders k = [] ∨ bitOf s.drives.lost (k - 1) = true ∨ (s.pinReaders k).any (s.pinSilent k) = false → exec (.commandPinLost k) s = .next s) ∧
    (1 ≤ k → bitOf s.drives.lost (k - 1) = true →
      ∃ u : State, exec (.commandPinReturn k) s = .next (u.each (s.pinReaders k) (fun t x => t.driveCheck x 2)) ∧
        bitOf u.drives.lost (k - 1) = false ∧ u.lid = s.lid) ∧
    (bitOf s.drives.lost (k - 1) = false →
      ∃ t, exec (.commandPinReturn k) s = .next t ∧ t.drives.edges = s.drives.edges.set (k - 1) s.stamp ∧ t.od = s.od) ∧
    (s.driveOn c = true → s.driveState c = 7 → s.due (tmBrake c) = true →
      ∃ t, exec (.brakeTimeElapsed c) s = .next t ∧ (t.drive c).braking = false ∧ t.armed (tmBrake c) = false ∧ t.od = s.od) ∧
    (s.n (K 0x410F 1) ≤ bus →
      ∃ u : State, exec (.busSample bus) s = .next (u.each (upFrom 0 11) (fun t x => t.driveCheck x 2)) ∧
        u.n (K 0x410F 7) = bus % 65536 ∧ u.drives.chopper = true ∧ u.drives.units = s.drives.units) ∧
    (bus + s.n (K 0x410F 2) < s.n (K 0x410F 1) → s.drives.testing ≠ 1 →
      ∃ u : State, exec (.busSample bus) s = .next (u.each (upFrom 0 11) (fun t x => t.driveCheck x 2)) ∧
        u.n (K 0x410F 7) = bus % 65536 ∧ u.drives.chopper = false ∧ u.drives.units = s.drives.units) ∧
    (bus < s.n (K 0x410F 1) → s.n (K 0x410F 1) ≤ bus + s.n (K 0x410F 2) →
      exec (.busSample bus) s =
        .next ((s.setn (K 0x410F 7) (bus % 65536)).each (upFrom 0 11) (fun t x => t.driveCheck x 2))) ∧
    (s.due tmChopper = true → s.drives.testing = 0 → s.drives.chopper = true → current < 500 →
      ∃ t, exec (.chopperCheck current) s = .next t ∧ t.n (K 0x410F 3) = 1 ∧ t.flag (K 0x410F 4) = true ∧ t.Sent 0x8E 0xF 1) ∧
    (s.due tmChopper = true → s.drives.testing = 0 → s.drives.chopper = false → 500 ≤ current →
      ∃ t, exec (.chopperCheck current) s = .next t ∧ t.n (K 0x410F 3) = 2 ∧ t.flag (K 0x410F 4) = true ∧ t.Sent 0x8E 0xF 2) ∧
    (s.due tmChopper = true → s.drives.testing = 0 → (s.drives.chopper = true ↔ 500 ≤ current) →
      ∃ t, exec (.chopperCheck current) s = .next t ∧ t.od = s.od ∧ t.lid = s.lid ∧ t.drives.chopper = s.drives.chopper) ∧
    (s.due tmChopper = true → s.drives.testing = 1 → s.drives.chopper = true → 500 ≤ current →
      ∃ t, exec (.chopperCheck current) s = .next t ∧ t.drives.chopper = false ∧ t.drives.testing = 2 ∧ t.lid = s.lid) ∧
    (s.due tmChopper = true → s.drives.testing = 2 → s.drives.chopper = false → current < 500 →
      ∃ t, exec (.chopperCheck current) s = .next t ∧ t.n (K 0x410F 3) = 0 ∧ t.flag (K 0x410F 4) = false ∧ t.drives.testing = 0) ∧
    (s.due tmChopper = false → exec (.chopperCheck current) s = .next s) ∧
    (∃ t, exec .busOvervoltageTrip s = .next t ∧ t.drives.tripped = true ∧ t.flag (K 0x410F 8) = false ∧
      t.n (K 0x410F 0xB) = (s.n (K 0x410F 0xB) + 1) % 2 ^ 32 ∧ t.Sent 0x8E 0xA (s.n (K 0x410F 7)))

/-- An axis at standstill past its standstill time powers down and stays where it stands. An axis that has been energised
long enough starts the move or the homing that waits, and a slot's move that may no longer start is answered with the
fault of kind 0x6; a running move leads to MOVING with its target as its goal. A profile that has come to rest ends
the move in STANDSTILL, counted and recorded, or ends the homing with `Position valid` TRUE and the result 4. Past a
full step, at a speed that allows the estimate, a lag beyond 180 degrees is a lost step: the axis goes to FAULT with
the fault of its source; a lag under the stall threshold only sets the load angle and starts the run of high estimates
again; below that speed the load angle is 0 and that run starts again. Sixteen full steps without coil current end in
FAULT, the position no longer valid. A limit input that becomes active in the direction of motion starts a quick stop;
the home input sets the edge and the debounce time, whose end finds home. A bridge overcurrent takes the axis to FAULT
and its position is no longer valid. In any other state each of these changes nothing. (R323, R324, R328, R329, R333,
R334, R335, R336, R337, R344) -/
def Obligations.StepperMotion : Prop :=
  ∀ (n e tag cause coil g : Nat) (lag : Int) (active : Bool) (m : Move) (s : State),
    (s.axisOn n = true → s.axisState n = 1 → s.n (axk n 1 3) ≠ 0 →
      (s.stepper n).stillAt + s.n (axk n 1 3) * 1000000 ≤ s.stamp →
      ∃ t, exec (.standstillReleaseElapsed n) s = .next t ∧ t.axisState n = 2 ∧ t.i (axk n 0 4) = s.i (axk n 0 4) ∧
        t.Logged 114 (2 + 256 + n * 65536 + 2 * 2 ^ 24) ∧ t.Logged 119 (3 + n * 65536 + unsigned 32 (s.i (axk n 0 4)) * 2 ^ 32)) ∧
    (s.axisState n ≠ 1 ∨ s.n (axk n 1 3) = 0 → exec (.standstillReleaseElapsed n) s = .next s) ∧
    (s.axisOn n = true → s.axisState n = 2 → s.busLow = false →
      (s.stepper n).energisedAt + s.n (axk n 1 4) * 1000000 ≤ s.stamp →
      ((s.stepper n).waiting = 3 → exec (.reEnergiseDone n) s = .next (s.runHoming n)) ∧
      ((s.stepper n).waiting = 1 ∨ (s.stepper n).waiting = 2 →
        s.moveRefusal n (s.stepper n).entry (s.stepper n).target = none →
        s.moveOf n (s.stepper n).entry (s.stepper n).target = some m →
        exec (.reEnergiseDone n) s = .next (s.runMove n (s.stepper n).entry (s.stepper n).tag m)) ∧
      (∀ code, (s.stepper n).waiting = 2 → s.moveRefusal n (s.stepper n).entry (s.stepper n).target = some code →
        ∃ t, exec (.reEnergiseDone n) s = .next t ∧ t.axisState n = 2 ∧ (t.stepper n).waiting = 0 ∧ t.Sent (stepSource n) 6 n)) ∧
    ((s.stepper n).waiting = 0 ∨ s.busLow = true → exec (.reEnergiseDone n) s = .next s) ∧
    ((s.runMove n e tag m).axisState n = 3 ∧ ((s.runMove n e tag m).stepper n).goal = s.moveTarget n m * micro ∧
      ((s.runMove n e tag m).stepper n).purpose = 1 ∧ (s.runMove n e tag m).i (axk n 0 4) = s.i (axk n 0 4)) ∧
    (s.axisOn n = true → (s.stepper n).plan ≠ [] → (s.stepper n).begun + planTime (s.stepper n).plan ≤ s.stamp →
      ((s.stepper n).purpose < 4 → exec (.moveComplete n) s =
        .next ((((s.axisHalt n).axisStands n 2).bump (axk n 0 0xF)).moveEvent n 2 (s.stepper n).entry 0 (s.stepper n).tag)) ∧
      ((s.stepper n).purpose = 4 → exec (.moveComplete n) s = .next ((s.axisHalt n).homeDone n)) ∧
      ((s.stepper n).purpose = 7 → exec (.moveComplete n) s = .next ((s.axisHalt n).homeFails n 6))) ∧
    ((s.stepper n).plan = [] ∨ s.stamp < (s.stepper n).begun + planTime (s.stepper n).plan →
      exec (.moveComplete n) s = .next s) ∧
    (((s.axisHalt n).stepper n).plan = [] ∧ (s.axisHalt n).i (axk n 0 0xB) = 0 ∧ (s.axisHalt n).armed (tmDebounce n) = false) ∧
    (s.busLow = false → (s.axisStands n cause).axisState n = 1) ∧
    (s.busLow = false → (s.homeDone n).axisState n = 1 ∧ (s.homeDone n).flag (axk n 0 3) = true ∧ (s.homeDone n).n (axk n 3 0xA) = 4) ∧
    (∀ u, u = ((s.axisAdvance n).driveModeStep n).loadStep n lag → s.axisOn n = true → s.axisState n = 3 ∨ s.axisState n = 4 →
      (u.axisState n = 5 → exec (.loadAngleEstimate n lag coil) s = .next u) ∧
      (u.axisState n = 3 ∨ u.axisState n = 4 →
        exec (.loadAngleEstimate n lag coil) s = .next ((u.coilStep n coil).whileMoving n (fun v => v.distanceStep n)))) ∧
    (16 ≤ (s.stepper n).open_ + 1 → s.n (axk n 0 0xC) = 1 → coil < 25 →
      (s.coilStep n coil).axisState n = 5 ∧ (s.coilStep n coil).flag (axk n 0 3) = false ∧ (s.coilStep n coil).Sent (stepSource n) 7 n) ∧
    (s.axisOn n = true → s.axisState n ≠ 3 → s.axisState n ≠ 4 → exec (.loadAngleEstimate n lag coil) s = .next s) ∧
    (s.n (axk n 2 3) * 256 ≤ (s.i (axk n 0 5)).natAbs → 180 < lag →
      (s.loadStep n lag).axisState n = 5 ∧ (s.loadStep n lag).Sent (stepSource n) 8 n) ∧
    (s.n (axk n 2 3) * 256 ≤ (s.i (axk n 0 5)).natAbs → lag ≤ 180 → lag < s.n (axk n 2 1) → (s.stepper n).stalled = false →
      s.n (axk n 2 2) ≠ 0 →
      s.loadStep n lag = (s.seti (axk n 0 0xB) (clampInt (-32768) 32767 lag)).setStepper n
        { s.stepper n with above := 0, under := (s.stepper n).under + 1 }) ∧
    ((s.i (axk n 0 5)).natAbs < s.n (axk n 2 3) * 256 →
      s.loadStep n lag = (s.seti (axk n 0 0xB) 0).setStepper n { s.stepper n with above := 0 }) ∧
    (s.axisOn n = true → s.axisState n = 3 → (s.stepper n).purpose ≠ 6 → s.n (axk n 3 3) % 64 ≠ 0 → bitOf (s.stepper n).levels 1 = false →
      0 < (if (s.motion n).v = 0 then (s.motion n).a else (s.motion n).v) →
      ∃ t, exec (.limitInputActive n true true) s = .next t ∧ (t.stepper n).purpose = 6 ∧ t.axisState n = 3) ∧
    (s.axisOn n = true → s.axisState n = 3 → (s.stepper n).purpose ≠ 6 → s.n (axk n 3 2) % 64 ≠ 0 → bitOf (s.stepper n).levels 0 = false →
      (if (s.motion n).v = 0 then (s.motion n).a else (s.motion n).v) < 0 →
      ∃ t, exec (.limitInputActive n false true) s = .next t ∧ (t.stepper n).purpose = 6 ∧ t.axisState n = 3) ∧
    (s.axisOn n = true → s.n (axk n 3 3) % 64 ≠ 0 →
      ∃ t, exec (.limitInputActive n true false) s = .next t ∧
        t.stepper n = { s.stepper n with levels := withoutBit (s.stepper n).levels 1 } ∧ t.od = s.od) ∧
    (s.axisOn n = true → s.n (axk n 3 1) % 64 ≠ 0 → s.searching n = true →
      exec (.homeInputEdge n active) s = .next ((s.senseInput (s.n (axk n 3 1)) active).homeLevel n active)) ∧
    (s.searching n = false → s.axisOn n = true → s.n (axk n 3 1) % 64 ≠ 0 →
      ∃ t, exec (.homeInputEdge n active) s = .next t ∧ t.steppers = s.steppers ∧ t.od = s.od) ∧
    (s.armed (tmDebounce n) = false → s.n (axk n 3 6) ≠ 0 →
      ((s.homeLevel n true).stepper n).edge = s.i (axk n 0 4) ∧ (s.homeLevel n true).armed (tmDebounce n) = true ∧
        (s.homeLevel n true).od = s.od) ∧
    (s.axisOn n = true → s.searching n = true → s.due (tmDebounce n) = true →
      ∃ t, exec (.homeDebounceElapsed n) s = .next t ∧ t.n (axk n 3 0xA) = 3 ∧ (t.stepper n).purpose = 4 ∧
        t.armed (tmDebounce n) = false) ∧
    (s.searching n = false → exec (.homeDebounceElapsed n) s = .next s) ∧
    (s.bridgesOn n = true → s.axisState n ≠ 5 → s.axisState n ≠ 6 →
      ∃ t, exec (.bridgeOvercurrent n) s = .next t ∧ t.axisState n = 5 ∧ t.flag (axk n 0 3) = false ∧ t.Sent (stepSource n) 9 n) ∧
    (s.bridgesOn n = false → exec (.bridgeOvercurrent n) s = .next s) ∧
    (s.on 14 = true → 1 ≤ g → g ≤ 3 → ∃ t, exec (.bridgeThermalShutdown g) s = .next t ∧ t.Sent 0x96 0xC g)

/-- With PD15 on, the trigger of a free slot in MANUAL puts it at the end of the evaluation queue, behind every slot but a
higher-numbered one of the same grid step, or counts an overrun where it still waits there; the evaluation of the slot
at the front takes it off the queue, counts it, and in MANUAL outputs `Manual output`, the set-point tracking the
process value; a slot that is not at the front is not evaluated. An HV channel whose load has looked open for 10 ms
fails with kind 0x7, its PWM at 0; the end of a ramp returns the rate limit to the slot and is recorded. At the gate
lead of a crossing the gate of a regulating zone takes the decision for the next half-cycle, once; in the soft start a
half-cycle fires at its angle, once. (R346, R347, R351, R352, R360, R361, R366, R367, R368) -/
def Obligations.LoopsAndKettle : Prop :=
  ∀ (slot pin feedback h z : Nat) (s : State),
    (s.on 15 = true → slot < 64 → s.n (lk slot 2) = 1 → s.slotDrive slot = none → s.target slot = 0 → s.triggerDue slot = true →
      (s.loop slot).queued = false → (∀ i ∈ s.loops.queue, (s.loop i).joined = some s.stamp → i ≤ slot) →
      ∃ t, exec (.loopTrigger slot pin feedback) s = .next t ∧ t.loops.queue = s.loops.queue ++ [slot] ∧ (t.loop slot).queued = true ∧
        (t.loop slot).mark = s.nextMark slot ∧ t.n (lk slot 2) = 1) ∧
    (s.on 15 = true → slot < 64 → s.n (lk slot 2) = 1 → s.slotDrive slot = none → s.target slot = 0 → s.triggerDue slot = true →
      (s.loop slot).queued = true → (s.loop slot).sinceOverrun ≠ 1024 →
      ∃ t, exec (.loopTrigger slot pin feedback) s = .next t ∧ t.loops.queue = s.loops.queue ∧
        t.n (lk slot 0x1D) = (s.n (lk slot 0x1D) + 1) % 2 ^ 32) ∧
    (s.on 15 = false ∨ 64 ≤ slot → exec (.loopTrigger slot pin feedback) s = .next s) ∧
    (s.on 15 = true → s.loops.queue.head? = some slot → s.n (lk slot 2) = 1 → s.target slot = 0 →
      ∃ t, exec (.loopEvaluation slot) s = .next t ∧ t.loops.queue = s.loops.queue.drop 1 ∧ (t.loop slot).queued = false ∧
        t.n (lk slot 0xB) = s.n (lk slot 0xC) ∧ t.n (lk slot 9) = s.n (lk slot 0xA) ∧
        t.n (lk slot 0x1C) = (s.n (lk slot 0x1C) + 1) % 2 ^ 32) ∧
    (s.on 15 = true → s.loops.queue.head? = some slot → s.n (lk slot 2) = 2 →
      ∃ u : State, exec (.loopEvaluation slot) s = .next ((u.controlLaw slot).slotActs slot) ∧ u.loops.queue = s.loops.queue.drop 1 ∧
        (u.loop slot).queued = false ∧ u.n (lk slot 0x1C) = (s.n (lk slot 0x1C) + 1) % 2 ^ 32) ∧
    (s.loops.queue.head? ≠ some slot → exec (.loopEvaluation slot) s = .next s) ∧
    (∀ t0, s.on 15 = true → s.hvState h = 2 → (s.hv h).openSince = some t0 → t0 + 10000000 ≤ s.stamp →
      ∃ t, exec (.hvOpenLoad h) s = .next t ∧ t.hvState h = 3 ∧ t.n (hk h 7) = 0 ∧ t.Sent (hvSource h) 7 h) ∧
    ((s.hv h).openSince = none → exec (.hvOpenLoad h) s = .next s) ∧
    (∀ i f0 goal at0 length tag, s.on 15 = true → s.hvState h = 2 → s.due (tmHvRamp h) = true → s.hvSlot h = some i →
      (s.loop i).ramp = some (f0, goal, at0, length, tag) →
      ∃ t, exec (.hvRampComplete h) s = .next t ∧ t.n (lk i 9) = goal ∧ (t.loop i).ramp = none ∧ t.armed (tmHvRamp h) = false ∧
        t.Logged 123 (3 + h * 65536 + tag * 2 ^ 32)) ∧
    (s.due (tmHvRamp h) = false → exec (.hvRampComplete h) s = .next s) ∧
    (1 ≤ z → z ≤ 3 → s.on 15 = true → s.mainsRuns = true → s.zoneState z = 2 → (s.zone z).edge ≠ (s.halfCycle + 1) % 2 ^ 25 →
      (32768 - s.mainsPhase % 32768) * 10 ^ 9 ≤ s.n (K 0x4C00 1) * 65536 * s.n (K 0x3020 4) →
      ∃ t, exec (.kettleGateEdge z) s = .next t ∧ (t.zone z).edge = (s.halfCycle + 1) % 2 ^ 25 ∧
        (t.zone z).gate = ((s.zone z).running && (s.zone z).next && decide ((s.zone z).decided = (s.halfCycle + 1) % 2 ^ 25)) ∧
        t.od = s.od) ∧
    (s.zoneState z = 2 → (s.zone z).edge = (s.halfCycle + 1) % 2 ^ 25 → exec (.kettleGateEdge z) s = .next s) ∧
    (∀ u, u = s.zoneAdvance z → 1 ≤ z → z ≤ 3 → s.on 15 = true → u.zoneState z = 1 →
      (u.halfCycle + 2 ^ 25 - (u.zone z).first) % 2 ^ 25 < (u.zone z).count →
      (u.zone z).fired ≤ (u.halfCycle + 2 ^ 25 - (u.zone z).first) % 2 ^ 25 → (u.zone z).edge ≠ (u.halfCycle + 1) % 2 ^ 25 →
      u.fireAngle z ((u.halfCycle + 2 ^ 25 - (u.zone z).first) % 2 ^ 25) ≤ u.mainsPhase % 32768 →
      ∃ t, exec (.kettlePhaseFire z) s = .next t ∧ (t.zone z).gate = true ∧
        (t.zone z).fired = (u.halfCycle + 2 ^ 25 - (u.zone z).first) % 2 ^ 25 + 1 ∧ t.od = u.od) ∧
    (s.zoneState z ≠ 1 → exec (.kettlePhaseFire z) s = .next s)

/-- Each command of rings 44 to 47 takes an entry of its own opcode where an entry waits, fewer than eight commands of the
ring are in progress, and nothing waits to be answered: HEAD advances past the entry, and the command joins the others
with the status its fields and the Crock's state give it; an entry of another command's opcode is left to that
command, and one that cannot be read takes the ring to ERROR. The oldest command of a ring takes its effect when it
completes and is answered on the ring 4 above; with a status it has no effect on the array, on the spool, or on either
memory, but for a WRITE that quiesce cuts. A written unit reads back as the 4,096 bytes it was written with, and a
deleted object is in the directory no more; a slot whose container fails SLOT_COMMIT is INVALID. (R455, R456, R457,
R459, R462) -/
def Obligations.CrockCommands : Prop :=
  ∀ (r units retried : Nat) (ws : List Nat) (m : HostMem) (bad : Option (Nat × Nat)) (c : CrockCommand) (b : Bytes) (s : State),
    (44 ≤ r → r ≤ 47 → (s.crockCommands r).length < 8 → (s.ring (r + 4)).waiting = [] → s.hasEntry r = true → s.linkUp = true →
      (field (wordAt ws 0) 63 56 = 0x01 → exec (.crockRead r (some ws) m) s = .next ((s.consumed r).beginCrock r ws m)) ∧
      (field (wordAt ws 0) 63 56 = 0x02 → exec (.crockWrite r (some ws) m) s = .next ((s.consumed r).beginCrock r ws m)) ∧
      (field (wordAt ws 0) 63 56 = 0x03 → exec (.trim r (some ws) m) s = .next ((s.consumed r).beginCrock r ws m)) ∧
      (field (wordAt ws 0) 63 56 = 0x10 → exec (.spoolPage r (some ws) m) s = .next ((s.consumed r).beginCrock r ws m)) ∧
      (field (wordAt ws 0) 63 56 = 0x11 → exec (.spoolLoad r (some ws) m) s = .next ((s.consumed r).beginCrock r ws m)) ∧
      (field (wordAt ws 0) 63 56 = 0x12 → exec (.spoolDelete r (some ws) m) s = .next ((s.consumed r).beginCrock r ws m)) ∧
      (field (wordAt ws 0) 63 56 = 0x13 → exec (.spoolList r (some ws) m) s = .next ((s.consumed r).beginCrock r ws m)) ∧
      (field (wordAt ws 0) 63 56 = 0x20 → exec (.slotCommit r (some ws) m) s = .next ((s.consumed r).beginCrock r ws m)) ∧
      (field (wordAt ws 0) 63 56 = 0x21 → exec (.slotErase r (some ws) m) s = .next ((s.consumed r).beginCrock r ws m)) ∧
      (∃ t, exec (.crockRead r none m) s = .next t ∧ (t.ring r).state = 3 ∧ t.Sent 0x7A 5 r ∧ t.crock = s.crock) ∧
      (((s.consumed r).ring r).head = ((s.ring r).head + 1) % 2 ^ 32 ∧ ((s.consumed r).ring r).open_ = (s.ring r).open_ + 1)) ∧
    (field (wordAt ws 0) 63 56 ≠ 0x10 →
      (s.beginCrock r ws m).crock.commands =
        s.crock.commands ++ [{ ring := r, words := ws, host := m, status := s.crockStatus ws }]) ∧
    (crockOpcodes.contains (field (wordAt ws 0) 63 56) = true → field (wordAt ws 0) 63 56 ≠ 1 →
      exec (.crockRead r (some ws) m) s = .next s) ∧
    (8 ≤ (s.crockCommands r).length → exec (.crockWrite r (some ws) m) s = .next s) ∧
    (s.crock.commands.find? (fun x => x.ring == r) = none → exec (.crockCommandComplete r units retried bad) s = .next s) ∧
    (s.crock.commands.find? (fun x => x.ring == r) = some c → c.status ≠ 0 → c.opcode ≠ 2 → c.opcode ≠ 0x10 →
      ∃ (u : State) (soft : Nat), exec (.crockCommandComplete r units retried bad) s =
          .next ((u.produce (r + 4) (s.crockEntry c { status := c.status } soft)).finishEntry r) ∧
        u.crock.commands = s.crock.commands.erase c ∧ u.crock.units = s.crock.units ∧ u.crock.objects = s.crock.objects ∧
        u.fabric = s.fabric) ∧
    (s.fetch m (crockHost ws) (wordAt ws 1) 4096 = some b →
      ((s.writeUnits m ws 1 0).1).flashUnit (crockPartition ws) (crockUnit ws) = b ∧ (s.writeUnits m ws 1 0).2 = 1 ∧
        (s.writeUnits m ws 1 0).1.fabric.window = s.fabric.window ∧ (s.writeUnits m ws 1 0).1.fabric.host = s.fabric.host) ∧
    ((s.spoolObject (crockSpoolId c.words)).isSome = true →
      (s.crockDelete c).2.status = 0 ∧ ((s.crockDelete c).1.spoolObject (crockSpoolId c.words)) = none) ∧
    ((s.spoolObject (crockSpoolId c.words)) = none → s.crockDelete c = (s, { status := 0xA })) ∧
    (s.crock.commands.find? (fun x => x.ring == r) = some c → c.status = 0 → s.crockStatus c.words = 0 → c.opcode = 0x12 →
      (s.spoolObject (crockSpoolId c.words)).isSome = true →
      ∃ t, exec (.crockCommandComplete r units retried bad) s = .next t ∧ t.crock.commands = s.crock.commands.erase c ∧
        t.spoolObject (crockSpoolId c.words) = none ∧ t.crock.units = s.crock.units) ∧
    (s.crock.commands.find? (fun x => x.ring == r) = some c → c.status = 0 → s.crockStatus c.words = 0 → c.opcode = 0x20 →
      s.containerValid (crockPartition c.words) = false → slotObject (crockPartition c.words) ≠ 0 →
      ∃ t, exec (.crockCommandComplete r units retried bad) s = .next t ∧ t.crock.commands = s.crock.commands.erase c ∧
        t.n (slotObject (crockPartition c.words)) = 3 ∧ t.crock.units = s.crock.units)

/-- Mounting that ends well with a sufficient spare pool and no quiesce takes the Crock to READY, one that fails takes it
to FAILED with the fault of source 0x87; a Crock that does not mount is left alone. A program failure sends the fault
of source 0x81, is recorded in EV105 and takes one block from the spare pool, without a change of any unit's data. A
scrub pass of a READY Crock is recorded in EV105: a refreshed or moved block programs its valid pages again, and the
pass over the whole Crock ends once in its interval. The oldest automatic copy enters the directory when it ends well,
and is recorded with its status otherwise. A health report counts `Health report number`, stamps it and is recorded in
EV107. (R447, R448, R449, R450, R457, R461, R464) -/
def Obligations.CrockMedia : Prop :=
  ∀ (lun block what pages : Nat) (path : Path) (data : Bytes) (c : SpoolCopy) (rest : List SpoolCopy) (s : State),
    (s.crockState = 1 → 128 ≤ s.n (K 0x3700 7) → s.power.quiesce = 0 →
      ∃ t, exec (.crockMount true) s = .next t ∧ t.crockState = 2 ∧ t.Logged 104 (2 + 256) ∧ t.crock = s.crock) ∧
    (s.crockState = 1 → ∃ t, exec (.crockMount false) s = .next t ∧ t.crockState = 5 ∧ t.Sent 0x87 0xF 0 ∧ t.crock = s.crock) ∧
    (∀ valid, s.crockState ≠ 1 → exec (.crockMount valid) s = .next s) ∧
    (s.on 6 = true → s.crockState = 2 ∨ s.crockState = 3 → lun < 8 → s.lid.target = 0 → 129 ≤ s.n (K 0x3700 7) →
      s.n (K 0x3700 6) < s.n (K 0x3700 7) - 1 → s.n (K 0x3700 8) + nandPage * pages < 9000000000000000 →
      ∃ t, exec (.nandProgramFail lun ⟨block, pages⟩) s = .next t ∧ t.n (K 0x3700 7) = s.n (K 0x3700 7) - 1 ∧ t.crock.bad = s.crock.bad + 1 ∧
        t.Sent 0x81 5 (lun * 2 ^ 24 + block) ∧ t.Logged 105 (1 + lun * 256 + block % 2 ^ 32 * 2 ^ 32) ∧
        t.n (K 0x3700 8) = s.n (K 0x3700 8) + nandPage * pages ∧ t.crock.units = s.crock.units ∧ t.crockState = s.crockState) ∧
    (s.on 6 = false ∨ 8 ≤ lun → exec (.nandProgramFail lun ⟨block, pages⟩) s = .next s) ∧
    (s.crockState = 2 → what = 2 ∨ what = 4 → lun < 8 → exec (.crockScrubPass what lun ⟨block, pages⟩ none) s =
      .next ((s.event 105 (what + lun * 256 + block % 2 ^ 32 * 2 ^ 32)).program (nandPage * min 512 pages) false)) ∧
    (s.crockState = 2 → lun < 8 → s.scrubOpen = true →
      ∃ t, exec (.crockScrubPass 3 lun ⟨block, pages⟩ none) s = .next t ∧ t.crock.scrubbed = s.stamp ∧ t.od = (s.event 105 3).od ∧
        t.Logged 105 (3 + lun * 256 + block % 2 ^ 32 * 2 ^ 32)) ∧
    (s.scrubOpen = false → ∀ bad, exec (.crockScrubPass 3 lun ⟨block, pages⟩ bad) s = .next s) ∧
    (∀ a, s.crockState = 2 → what = 2 ∨ what = 4 → lun < 8 →
      ∃ t, exec (.crockScrubPass what lun ⟨block, pages⟩ (some a)) s = .next t ∧ t.Sent 0x80 2 a ∧
        t.n (K 0x3700 0xA) = (s.n (K 0x3700 0xA) + 1) % 2 ^ 32) ∧
    (∀ bad, s.crockState ≠ 2 → exec (.crockScrubPass what lun ⟨block, pages⟩ bad) s = .next s) ∧
    (s.crock.copies = [] → exec .automaticSpoolDone s = .next s) ∧
    (s.crock.copies = c :: rest → c.status = 0 →
      ∃ t, exec .automaticSpoolDone s = .next t ∧ t.crock.copies = rest ∧ t.crock.lastId = (s.crock.lastId + 1) % 2 ^ 32 ∧
        ∃ q, t.crock.objects = s.crock.objects ++ [{ id := (s.crock.lastId + 1) % 2 ^ 32, page := q, link := c.link }] ∧
          q.tag = c.page.tag ∧ q.recipe = c.page.recipe) ∧
    (s.crock.copies = c :: rest → c.status ≠ 0 →
      ∃ t, exec .automaticSpoolDone s = .next t ∧ t.crock.copies = rest ∧ t.crock.objects = s.crock.objects ∧
        t.Logged 106 (4 + c.status * 256 + c.page.tag * 65536)) ∧
    (s.Accepts path 0x3700 0xC data →
      exec (.healthRun (some (path, data))) s = .next ((s.noted.healthReport).done path 0x3700 0xC)) ∧
    (s.due tmHealth = true → s.on 6 = true →
      ∃ t, exec (.healthRun none) s = .next t ∧ t.n (K 0x3710 1) = (s.n (K 0x3710 1) + 1) % 2 ^ 32 ∧ t.n (K 0x3710 2) = s.stamp ∧
        t.n (K 0x3710 3) = s.n (K 0x3700 7) ∧ t.Logged 107 (4 + s.n (K 0x3700 7) * 2 ^ 32) ∧ t.armed tmHealth = true) ∧
    (s.due tmHealth = false → exec (.healthRun none) s = .next s)

/-- With an active unit and no gap open, a beat of the wire is noted; a heartbeat word whose CRC and unit are right and
whose BEAT is the next one is noted with its BEAT, and any other word changes nothing. At the end of a period in which
both paths beat, the misses are 0 and the next period begins; where both have now missed three, with PD03 on, a
takeover is granted. A grant to a standby that was eligible at the end of the grid step before opens the gap, makes
the new unit TAKING OVER and the old one FAILED, and arms the gap watchdog. A hardware failure of the standby makes it
DEGRADED with EV026. The gap watchdog ends a gap that the new unit does not close: it is FAILED. A further condition
in the grid step of the grant makes no second grant: its cause joins those of the first. With no such standby the
active unit is reset and starts again. Without an active unit, or while a gap is open, nothing beats. (R423, R424,
R425, R426, R428, R429, R437, R443, R444) -/
def Obligations.TwinHeartbeats : Prop :=
  ∀ (word u kind address causes : Nat) (s : State),
    (s.beating = true → ∃ t, exec .heartbeatWireBeat s = .next t ∧ t.twin = { s.twin with wireBeat := true } ∧ t.od = s.od ∧ t.ev = s.ev) ∧
    (s.beating = false → exec .heartbeatWireBeat s = .next s) ∧
    (s.lid.target = 0 → s.beating = true → s.on 3 = true → crc8 7 (word / 256) 0 = word % 256 → field word 31 24 = s.activeUnit →
      (s.twin.lastBeat = none ∨ ∃ b, s.twin.lastBeat = some b ∧ field word 63 32 = (b + 1) % 2 ^ 32) →
      field word 23 16 ≠ 1 → field word 23 16 ≠ 2 →
      ∃ t, exec (.heartbeatWord word) s = .next t ∧ t.twin = { s.twin with wordBeat := true, lastBeat := some (field word 63 32) } ∧
        t.od = s.od ∧ t.ev = s.ev) ∧
    (s.lid.target = 0 → crc8 7 (word / 256) 0 ≠ word % 256 ∨ field word 31 24 ≠ s.activeUnit →
      exec (.heartbeatWord word) s = .next s) ∧
    (s.lid.target = 0 → s.due tmBeat = true → s.beating = true → s.on 3 = true → s.twin.wireBeat = true → s.twin.wordBeat = true →
      bitOf (s.n (K 0x2300 5)) 0 = true → bitOf (s.n (K 0x2300 5)) 1 = true →
      ∃ t, exec .heartbeatPeriodEnd s = .next t ∧ t.twin.wireMisses = 0 ∧ t.twin.wordMisses = 0 ∧ t.twin.wireBeat = false ∧
        t.twin.wordBeat = false ∧ t.armed tmBeat = true ∧ t.od = s.od ∧ t.ev = s.ev) ∧
    (s.lid.target = 0 → s.due tmBeat = true → s.beating = true → s.on 3 = true → s.twin.wireBeat = false → s.twin.wordBeat = false →
      2 ≤ s.twin.wireMisses → 2 ≤ s.twin.wordMisses → bitOf (s.n (K 0x2300 5)) 0 = true → bitOf (s.n (K 0x2300 5)) 1 = true →
      ∃ v : State, exec .heartbeatPeriodEnd s = .next ((v.grant 1).beginPeriod) ∧ v.twin.wireMisses = s.twin.wireMisses + 1 ∧
        v.twin.wordMisses = s.twin.wordMisses + 1 ∧ v.od = s.od) ∧
    (s.due tmBeat = false → exec .heartbeatPeriodEnd s = .next s) ∧
    (s.wasEligible s.standby = true → s.twin.planned = 0 → s.fabric.lockQueue = [] → s.activeUnit = 1 ∨ s.activeUnit = 2 →
      s.role s.activeUnit ≠ 6 → causes % 8 ≠ 0 →
      (s.grant causes).twin.switching = true ∧ (s.grant causes).twin.leaving = s.activeUnit ∧ (s.grant causes).twin.grantAt = s.stamp ∧
        (s.grant causes).role s.activeUnit = 6 ∧ (s.grant causes).role s.standby = 5 ∧ (s.grant causes).armed tmGap = true ∧
        (s.grant causes).Logged 22 (1 + s.standby * 256 + causes * 65536)) ∧
    ((u = 1 ∨ u = 2) → (kind = 2 ∨ kind = 3 ∨ kind = 0xF) → s.on u = true → s.role u = 3 → s.justGranted = false →
      ∃ t, exec (.sequencerHwFailure u kind address) s = .next t ∧ t.role u = 4 ∧ (t.unit u).healthy = false ∧
        t.Logged 26 (kind + u * 256 + address % 2 ^ 32 * 2 ^ 32) ∧ t.Sent (0x1F + u) kind address) ∧
    ((u = 1 ∨ u = 2) → (kind = 2 ∨ kind = 3 ∨ kind = 0xF) → s.on u = true → s.role u = 2 →
      ∃ v : State, exec (.sequencerHwFailure u kind address) s = .next (v.takeover 2) ∧
        v.Logged 26 (kind + u * 256 + address % 2 ^ 32 * 2 ^ 32) ∧ v.Sent (0x1F + u) kind address ∧ v.twin = s.twin) ∧
    (s.twin.switching = true → s.due tmGap = true → s.twin.leaving = 1 ∨ s.twin.leaving = 2 →
      ∃ v : State, exec .gapWatchdogExpired s = .next (v.noStandby s.twin.causes s.twin.leaving) ∧ v.twin.switching = false ∧
        v.role (otherUnit s.twin.leaving) = 6 ∧ (v.unit (otherUnit s.twin.leaving)).healthy = false ∧ v.armed tmGap = false) ∧
    (s.twin.switching = false → exec .gapWatchdogExpired s = .next s) ∧
    (s.justGranted = true → s.takeover causes = s.addCause causes ∧ (s.addCause causes).twin.causes = s.twin.causes ||| causes ∧
      (s.addCause causes).twin.switching = true ∧ (s.addCause causes).od = s.od) ∧
    (s.wasEligible s.standby = false → s.twin.planned = 0 → s.anyActive = true → s.twin.switching = false →
      s.takeover causes = s.noStandby causes s.activeUnit) ∧
    (s.anyActive = true → s.activeUnit = 1 ∨ s.activeUnit = 2 → s.fabric.lockQueue = [] → (s.noStandby causes s.activeUnit).role s.activeUnit = 1 ∧
      (s.noStandby causes s.activeUnit).twin.dictionaryUp = false ∧ (s.noStandby causes s.activeUnit).Sent 0x27 4 s.activeUnit)

/-- Every 1.0 ms a checkpoint entry of type 2 is written while a unit beats and PD03 is on, and none otherwise. A standby
whose report passes every test is eligible; its report is published in 0x2310; one whose tests fail is DEGRADED. A
planned wait that ends acts as a switch-over of mode 2. A unit that has loaded its image in RELOADING and passed its
tests is STANDBY; where no image can be loaded it is FAILED. Ownership is taken only by a unit that is TAKING OVER in
an open gap, which closes; a domain that is not RAMPING cannot become ready. (R384, R420, R430, R435, R438, R439,
R441, R442) -/
def Obligations.TwinRhythm : Prop :=
  ∀ (passed link u pd : Nat) (tested : Bool) (bad : List Nat) (answers : List (Nat × List Frame)) (s : State),
    (s.due tmDelta = true → s.beating = true → s.on 3 = true →
      exec .checkpointDelta s = .next ((s.after tmDelta 1000000).sequencerLocks.checkpoint 2 0)) ∧
    (s.due tmDelta = true → s.beating = false ∨ s.on 3 = false → exec .checkpointDelta s = .next (s.after tmDelta 1000000)) ∧
    (s.due tmDelta = false → exec .checkpointDelta s = .next s) ∧
    (s.lid.target = 0 →
      (s.checkpoint 2 0).n (K 0x2300 7) = (s.checkpoint 2 0).twin.sequence ∧ (s.checkpoint 2 0).n (K 0x2300 8) = s.stamp ∧
        (s.checkpoint 2 0).twin.entries ≠ []) ∧
    (s.due tmReport = true → s.role s.standby = 3 → (s.unit s.standby).healthy = false → link = 4 ∨ link = 5 →
      s.twin.entries.any (fun e => !e.valid) = false → s.reportTests s.standby passed = 127 →
      ∃ t, exec (.healthReport passed link false) s = .next t ∧ (t.unit s.standby).healthy = true ∧ t.role s.standby = 3 ∧
        t.n (K 0x2310 1) = (s.n (K 0x2310 1) + 1) % 2 ^ 32 ∧ t.n (K 0x2310 2) = s.standby ∧ t.n (K 0x2310 3) = s.stamp ∧
        t.n (K 0x2310 4) = 127 ∧ t.Logged 24 (1 + s.standby * 65536)) ∧
    (s.due tmReport = true → s.role s.standby = 3 → (s.activeUnit = 1 ∨ s.activeUnit = 2) → link = 4 ∨ link = 5 →
      s.twin.entries.any (fun e => !e.valid) = false → s.reportTests s.standby passed ≠ 127 →
      ∃ t, exec (.healthReport passed link false) s = .next t ∧ (t.unit s.standby).healthy = false ∧ t.role s.standby = 4) ∧
    (s.due tmReport = false → exec (.healthReport passed link tested) s = .next s) ∧
    (s.twin.planned = 1 → s.due tmPlanned = true → s.admittedPage = none →
      ∃ t, exec .plannedWaitExpired s = .next t ∧ t.twin.planned = 2 ∧ t.armed tmPlanned = false ∧ t.od = s.od) ∧
    (s.twin.planned ≠ 1 → exec .plannedWaitExpired s = .next s) ∧
    (s.role u = 7 → u = 1 ∨ u = 2 → s.on u = true → s.on 6 = true → s.crockUp = true →
      s.slotLoads bad (slotPartition u (s.unit u).loading) = true →
      ((s.loadImage u (s.unit u).loading 0).recordLoad u).imageRestores u = true →
      ∃ t, exec (.unitLoadComplete u true bad) s = .next t ∧ t.role u = 3 ∧
        t.Logged 25 (2 + u * 256 + (s.unit u).loading * 65536)) ∧
    (s.role u = 7 → u = 1 ∨ u = 2 → s.on u = true → s.on 6 = true → s.crockState ≠ 1 →
      s.slotLoads bad (slotPartition u (s.unit u).loading) = false →
      ∃ t, exec (.unitLoadComplete u tested bad) s = .next t ∧ t.role u = 6 ∧
        t.Logged 25 (3 + u * 256 + (s.unit u).loading * 65536)) ∧
    (s.role u = 1 → u = 1 ∨ u = 2 → s.on u = true → s.on 6 = true → s.crockState ≠ 1 → s.waitsForPreferred u = false →
      exec (.unitLoadComplete u tested bad) s = .next ((s.startLoaded u tested bad).resume)) ∧
    (s.on u = false ∨ s.on 6 = false → exec (.unitLoadComplete u tested bad) s = .next s) ∧
    (s.twin.switching = true → s.role (otherUnit s.twin.leaving) = 5 →
      exec .ownershipTaken s = .next s.takeOwnership.serveStalled.applyGap ∧ s.takeOwnership.twin.switching = false) ∧
    (s.twin.switching = false → exec .ownershipTaken s = .next s) ∧
    (1 ≤ pd → pd ≤ 16 → (s.domain pd).state = 1 →
      exec (.domainReady pd answers) s = .next (((s.domainReady pd answers).lidMeets pd).serveStalled)) ∧
    ((s.domain pd).state ≠ 1 → exec (.domainReady pd answers) s = .next s)

/-- A domain that does not report ready in time is FAILED with the fault of source 0x13 and EV002, or OFF where it is no
longer requested; a stopped domain is OFF. One bulk sample below the warning threshold changes no supply state, a
second one leads to WARNING, or from WARNING below 80 V to RESET; the recovery time leads back to NORMAL from WARNING
and to a module reset from RESET. A logic rail fault is recorded in EV009 and sent from source 0x11. With the bus
switch closed, a sample of the motor bus between its thresholds only shows the J2 side; above the upper one the bus is
in OVERVOLTAGE, recorded and sent. A reading in range of a sound channel is shown and evaluated; one outside marks the
channel as broken, once; a channel that enters SHUTDOWN sends the fault of its source. (R375, R376, R380, R384, R387,
R388, R389, R390, R395, R396) -/
def Obligations.PowerEvents : Prop :=
  ∀ (pd volts rail bus j2 c : Nat) (above persists : Bool) (sample reading : Int) (boot : Boot) (s : State),
    ((s.domain pd).state = 1 → s.due (tmRamp pd) = true → s.requested pd = true →
      ∃ t, exec (.domainRampTimeout pd) s = .next t ∧ (t.domain pd).state = 4 ∧ t.armed (tmRamp pd) = false ∧ t.Sent 0x13 4 pd ∧
        t.Logged 2 (pd + 4 * 256 + 65536 + 5 * 2 ^ 24)) ∧
    ((s.domain pd).state = 1 → s.due (tmRamp pd) = true → s.requested pd = false →
      ∃ t, exec (.domainRampTimeout pd) s = .next t ∧ (t.domain pd).state = 0 ∧ t.Sent 0x13 4 pd) ∧
    ((s.domain pd).state ≠ 1 ∨ s.due (tmRamp pd) = false → exec (.domainRampTimeout pd) s = .next s) ∧
    ((s.domain pd).state = 3 → pd ≠ 6 → s.requested pd = false →
      ∃ t, exec (.domainStopped pd) s = .next t ∧ (t.domain pd).state = 0 ∧ t.od = s.od ∧
        t.Logged 2 (pd + 3 * 65536 + (s.domain pd).cause * 2 ^ 24)) ∧
    ((s.domain pd).state ≠ 3 → exec (.domainStopped pd) s = .next s) ∧
    (s.power.supply = 0 → volts < s.n (K 0x2100 3) → s.power.belowWarning = 0 → s.power.belowReset = 0 →
      ∃ t, exec (.bulkSample volts) s = .next t ∧ t.power.supply = 0 ∧ t.power.belowWarning = 1 ∧ t.n (K 0x2100 2) = volts ∧ t.ev = s.ev) ∧
    (s.power.supply = 0 → s.n (K 0x2100 3) ≤ volts → 80 ≤ volts →
      ∃ t, exec (.bulkSample volts) s = .next t ∧ t.power.supply = 0 ∧ t.power.belowWarning = 0 ∧ t.n (K 0x2100 2) = volts ∧ t.ev = s.ev) ∧
    (s.power.supply = 0 → volts < s.n (K 0x2100 3) → 1 ≤ s.power.belowWarning → 80 ≤ volts →
      ∃ u : State, exec (.bulkSample volts) s = .next u.warningActions ∧ u.power.supply = 1 ∧ u.n (K 0x2100 2) = volts ∧
        u.n (K 0x2100 4) = 1) ∧
    (s.power.supply = 1 → volts < 80 → 1 ≤ s.power.belowReset →
      ∃ u : State, exec (.bulkSample volts) s = .next u.enterReset ∧ u.n (K 0x2100 2) = volts ∧ u.armed tmSupply = false) ∧
    (s.enterReset.twin.held = true ∧ s.enterReset.twin.dictionaryUp = false ∧ s.enterReset.power.resetAt = s.enterReset.stamp) ∧
    (s.due tmSupply = true → s.power.supply = 1 → exec (.supplyRecoveryElapsed boot) s = .next s.supplyNormal) ∧
    (s.due tmSupply = true → s.power.supply = 2 →
      exec (.supplyRecoveryElapsed boot) s =
        .next ((s.supplyNormal.event 1 (1 + (s.stamp - s.power.resetAt) / 1000 * 2 ^ 32)).moduleReset 16 boot)) ∧
    (s.due tmSupply = false → exec (.supplyRecoveryElapsed boot) s = .next s) ∧
    (∃ t, exec (.logicRailFault rail above persists) s = .next t ∧ t.Logged 9 (rail % 256 + (if above then 256 else 512)) ∧
      t.lid.net.map Detected.word =
        s.lid.net.map Detected.word ++ [faultWord 0x11 (if above then 0xA else 0xB) rail persists false false]) ∧
    (j2 ≤ 60000 → s.flag (K 0x410F 8) = true → s.n (K 0x2100 0xB) = 0 → s.n (K 0x2100 8) ≤ bus → bus < s.n (K 0x2100 9) →
      exec (.motorBusSample bus j2) s = .next (s.setn (K 0x2100 0xC) (j2 % 65536))) ∧
    (j2 ≤ 60000 → s.flag (K 0x410F 8) = true → s.n (K 0x2100 0xB) = 0 → s.n (K 0x2100 8) ≤ bus → s.n (K 0x2100 9) ≤ bus →
      ∃ t, exec (.motorBusSample bus j2) s = .next t ∧ t.n (K 0x2100 0xB) = 2 ∧ t.n (K 0x2100 0xC) = j2 % 65536 ∧
        t.Sent 0x12 0xA (bus / 100) ∧ t.Logged 3 (2 + bus % 2 ^ 32 * 2 ^ 32)) ∧
    (j2 ≤ 60000 → s.flag (K 0x410F 8) = true → s.n (K 0x2100 0xB) = 0 → bus < s.n (K 0x2100 8) →
      exec (.motorBusSample bus j2) s = .next ((s.setn (K 0x2100 0xC) (j2 % 65536)).setBus 1 bus)) ∧
    (s.channelOn c = true → s.channelPowered c = true → s.flag (tk c 5) = false → -400 ≤ reading → reading ≤ 3000 →
      s.channelSample c reading =
        ((((s.seti (tk c 2) reading).setPartner c false).evaluateChannel c reading).zonesRead c)) ∧
    (s.channelOn c = true → s.channelPowered c = true → s.flag (tk c 5) = false → s.n (tk c 0xA) = 0 → reading < -400 ∨ 3000 < reading →
      ∃ u : State, s.channelSample c reading = (u.setPartner c false).zonesRead c ∧ u.flag (tk c 5) = true ∧
        u.Sent (channelSource c) 7 c ∧ u.Logged 5 (1 + c * 65536)) ∧
    (s.channelOn c = false ∨ s.channelPowered c = false → exec (.temperatureSample c sample) s = .next s) ∧
    (s.channelOn c = true → s.channelPowered c = true →
      exec (.temperatureSample c sample) s = .next (s.channelSample c (s.channelReading c sample))) ∧
    (c < 25 → s.channelReading c sample = ntcReading sample.toNat (s.n (tk c 0xB)) (s.n (tk c 0xC))) ∧
    (25 ≤ c → s.channelReading c sample = sample) ∧
    (s.channelOn c = true → (s.thermo c).fresh = false → s.n (tk c 3) ≠ 3 →
      temperatureState (s.n (tk c 3)) reading (s.i (tk c 6)) (s.i (tk c 7)) (s.i (tk c 8)) (s.i (tk c 9)) = 3 →
      (s.evaluateChannel c reading).n (tk c 3) = 3 ∧ (s.evaluateChannel c reading).Sent (channelSource c) 0xC c)

/-- The quiet period ends with the release of every reaction, or, where the releases of the last hour are used up, with
the fault state LATCHED; the consequence limit closes the windows that are closing. A message that 24 ns have passed
since its detection, with a good CRC, no window open and no reaction, leaves the lanes and is recorded as its source
recorded it, with no change of the fault state; with nothing on the lanes nothing happens. A message of an absent lane
is none; one that arrives with a CRC error is discarded, with the fault of source 0x02, kind 0x5, for its lane; the
record of a good one has the Stamp time of its detection, 24 ns before. A wired cause is acted on at once, its message
following as acted; what is not wired is not. A test pulse that the sense does not follow marks the channel as open,
shorted and discrepant with the fault of source 0x01; a falling sense opens its channel, a rising one closes it. The
discrepancy time sends the fault of source 0x01. (R399, R401, R402, R405, R407, R409, R410, R413, R414) -/
def Obligations.LidEvents : Prop :=
  ∀ (source kind address ch : Nat) (level low : Bool) (d : Detected) (m : Message) (s : State),
    (s.n (K 0x2200 1) = 1 → s.due tmQuiet = true → s.recentReleases.length < s.n (K 0x2200 7) →
      exec .quietPeriodExpired s = .next (s.releaseAll 2)) ∧
    (s.n (K 0x2200 1) = 1 → s.due tmQuiet = true → s.n (K 0x2200 7) ≤ s.recentReleases.length →
      ∃ t, exec .quietPeriodExpired s = .next t ∧ t.n (K 0x2200 1) = 2 ∧ t.armed tmQuiet = false ∧
        t.Logged 13 (2 + 256 + 3 * 2 ^ 24) ∧ t.lid = s.lid) ∧
    (s.n (K 0x2200 1) ≠ 1 ∨ s.due tmQuiet = false → exec .quietPeriodExpired s = .next s) ∧
    (s.due tmWindows = true →
      ∃ t, exec .consequenceLimitExpired s = .next t ∧ t.lid = { s.lid with closing := [] } ∧ t.armed tmWindows = false ∧ t.od = s.od) ∧
    (s.due tmWindows = false → exec .consequenceLimitExpired s = .next s) ∧
    (s.lid.net = [] → exec (.faultMessage []) s = .next s) ∧
    (s.lid.net = [d] → s.stamp < d.record.stamp + 24 → exec (.faultMessage []) s = .next s) ∧
    (s.lid.net = [d] → d.record.stamp + 24 ≤ s.stamp → d.crcBad = false → d.acted = false → msgCleared d.word = false →
      msgPersistent d.word = false → s.windowOpen (msgSource d.word) = false → s.mapByte d.word % 8 = 0 →
      ∃ t, exec (.faultMessage []) s = .next t ∧ t.lid.net = [] ∧ t.ev.held = s.ev.held ++ [d.record] ∧
        t.n (K 0x2200 1) = s.n (K 0x2200 1) ∧ t.n (K 0x2200 2) = s.n (K 0x2200 2) ∧ t.stations = s.stations) ∧
    (wiredCause source kind = false ∨ s.sourceAbsent source = true → exec (.wiredFaultCause source kind address) s = .next s) ∧
    (wiredCause source kind = true → s.sourceAbsent source = false → source ≠ 0 → s.lid.net = [] → s.lid.target = 0 →
      s.windowOpen source = false →
      ∃ u : State, exec (.wiredFaultCause source kind address) s =
          .next (u.force [faultWord source kind address false false false]) ∧
        u.lid.net.map (fun x => (x.word, x.acted)) = [(faultWord source kind address false false false, true)] ∧ u.od = s.od) ∧
    (wiredCause source kind = true → s.sourceAbsent source = false → source ≠ 0 → s.lid.net = [] → s.windowOpen source = true →
      exec (.wiredFaultCause source kind address) s = .next (s.fault source kind address)) ∧
    (ch = 0 ∨ ch = 1 → bitOf s.lid.sense ch = true → bitOf s.lid.ilkShort ch = false →
      ∃ t, exec (.interlockTestPulse ch false) s = .next t ∧ bitOf t.lid.ilkOpen ch = true ∧ bitOf t.lid.ilkShort ch = true ∧
        t.lid.discrepant = true ∧ t.Sent 0x01 0xE 2 ∧ t.n (K 0x2200 0xB) = t.interlockWord) ∧
    (ch = 0 ∨ ch = 1 → bitOf s.lid.sense ch = true →
      ∃ t, exec (.interlockTestPulse ch true) s = .next t ∧ bitOf t.lid.ilkOpen ch = false ∧ bitOf t.lid.ilkShort ch = false ∧
        t.n (K 0x2200 0xB) = t.interlockWord) ∧
    (bitOf s.lid.sense ch = false ∨ 2 ≤ ch → exec (.interlockTestPulse ch low) s = .next s) ∧
    (ch = 0 ∨ ch = 1 → bitOf s.lid.sense ch = true →
      ∃ t, exec (.interlockSenseChange ch false) s = .next t ∧ bitOf t.lid.ilkOpen ch = true ∧ bitOf t.lid.sense ch = false ∧
        t.n (K 0x2200 0xB) = t.interlockWord) ∧
    (ch = 0 ∨ ch = 1 → bitOf s.lid.sense ch = false → bitOf s.lid.ilkShort ch = false →
      ∃ t, exec (.interlockSenseChange ch true) s = .next t ∧ bitOf t.lid.ilkOpen ch = false ∧ bitOf t.lid.sense ch = true) ∧
    (bitOf s.lid.sense ch = level ∨ 2 ≤ ch → exec (.interlockSenseChange ch level) s = .next s) ∧
    (s.due tmDiscrepancy = true →
      ∃ t, exec .discrepancyTimeout s = .next t ∧ t.lid.discrepant = true ∧ t.armed tmDiscrepancy = false ∧ t.Sent 0x01 0xE 1 ∧
        t.n (K 0x2200 0xB) = t.interlockWord) ∧
    (s.due tmDiscrepancy = false → exec .discrepancyTimeout s = .next s) ∧
    (s.lid.net = [] → s.sourceAbsent m.lane = true ∨ 160 ≤ m.lane → exec (.faultMessage [m]) s = .next s) ∧
    (s.lid.net = [] → s.lid.target = 0 → s.sourceAbsent m.lane = false → m.lane < 160 → crcGood m = false → msgCleared m.word = true →
      ∃ t, exec (.faultMessage [m]) s = .next t ∧ t.Sent 0x02 5 m.lane ∧ t.n (K 0x2200 1) = s.n (K 0x2200 1) ∧
        t.stations = s.stations) ∧
    (s.lid.net = [] → s.lid.target = 0 → s.sourceAbsent m.lane = false → m.lane < 160 → crcGood m = true → msgSource m.word = m.lane →
      (s.outside m).record.stamp = s.stamp - 24 ∧ (s.outside m).record.source = m.lane ∧ (s.outside m).record.type = 2)

/-- Each row of ring 62 takes an entry of its own opcode into the Trust Anchor; a signed report asked for through the
dictionary becomes the result object with its signature, and the next one begins. What was asked for 1.0 ms ago acts:
a reset with the causes that are due, else a power cycle. `RESET_N` low for 10 us and more resets the module, from 1
us to 9.96 us it is recorded, in the 40 ns between it does one of the two, which the rules leave open, and less is not
seen; its release starts a held module. The boot watchdog gives up, resets the module, or after its retries asks for a
power cycle; the end of the pulse releases the pin and starts. A module that goes down has no ring, page, station,
axis, loop or domain left, no domain requested, and its dictionary is down; the loss of the Trivet rail leaves the
Crock's data, host memory and the stored record, and a cold power-up starts from there with the Stamp Clock at 0, the
epoch marker as the first record, and one more epoch. (R376, R467, R477, R478, R479, R480, R482, R485, R487, R488,
R489, R490) -/
def Obligations.TrustAndRestarts : Prop :=
  ∀ (ws : List Nat) (ok : Bool) (boot : Boot) (ns : Nat) (body : Bytes) (a : Attestation) (l : List Attestation) (s : State),
    (s.hasEntry 62 = true → s.linkUp = true → (s.ring 63).waiting = [] →
      (field (wordAt ws 0) 63 56 = 1 → exec (.attest (some ws) ok) s = .next ((s.consumed 62).serveTrust ok ws)) ∧
      (field (wordAt ws 0) 63 56 = 2 → exec (.certificates (some ws) ok) s = .next ((s.consumed 62).serveTrust ok ws)) ∧
      (field (wordAt ws 0) 63 56 = 3 → exec (.moduleReset (some ws)) s = .next ((s.consumed 62).serveTrust true ws)) ∧
      (field (wordAt ws 0) 63 56 = 4 → exec (.powerCycle (some ws)) s = .next ((s.consumed 62).serveTrust true ws)) ∧
      (∃ t, exec (.attest none ok) s = .next t ∧ (t.ring 62).state = 3 ∧ t.Sent 0x7A 5 62 ∧ t.trust = s.trust)) ∧
    (trustStatus ws ≠ 0 → s.serveTrust ok ws =
      s.addTrust { w0 := wordAt ws 0, w1 := wordAt ws 1, hostOk := ok, answer := some (s.trustAnswer (wordAt ws 0) (trustStatus ws) 0) }) ∧
    (s.trust.signing = some body → s.trust.queue = a :: l → a.ring = false →
      ∃ t, exec .attestationSigned s = .next t ∧ t.trust.queue = l ∧ t.n (K 0x2440 1) = (s.n (K 0x2440 1) + 1) % 2 ^ 32 ∧
        t.bytes (K 0x2440 3) = body ++ (upFrom 0 96).map (Config.signatureByte (sha384 body) s.drawn) ∧
        t.Logged 35 (1 + s.n (K 0x2420 3) * 256) ∧ (l = [] → t.trust.signing = none)) ∧
    (s.trust.signing = none → exec .attestationSigned s = .next s) ∧
    (s.due (tmReset 0) = true ∨ s.due (tmReset 1) = true →
      exec (.moduleResetAct boot) s = .next (s.moduleReset (4 * b2n (s.due (tmReset 0)) + 8 * b2n (s.due (tmReset 1))) boot)) ∧
    (s.due (tmReset 0) = false → s.due (tmReset 1) = false → s.due (tmCycle 1) = true →
      exec (.moduleResetAct boot) s = .next ((s.disarm (tmCycle 1)).requestCycle s.trust.cycleId false)) ∧
    (s.due (tmReset 0) = false → s.due (tmReset 1) = false → s.due (tmCycle 1) = false → s.due (tmCycle 0) = false →
      exec (.moduleResetAct boot) s = .next s) ∧
    (10000 ≤ ns → exec (.resetNLow ns) s = .next (({ s with trust := { s.trust with resetLow := true } } : State).resetDown 2)) ∧
    (1000 ≤ ns → ns < 9960 → exec (.resetNLow ns) s = .next (s.event 34 (8 + 2 * 256 + ns * 2 ^ 32))) ∧
    (9960 ≤ ns → ns < 10000 → exec (.resetNLow ns) s = .next (s.event 34 (8 + 2 * 256 + ns * 2 ^ 32)) ∨
      exec (.resetNLow ns) s = .next (({ s with trust := { s.trust with resetLow := true } } : State).resetDown 2)) ∧
    (ns < 1000 → exec (.resetNLow ns) s = .next s) ∧
    (s.trust.resetLow = true → s.startup boot = s) ∧
    (s.trust.resetLow = true → s.twin.held = true →
      exec (.resetNRelease boot) s = .next (({ s with trust := { s.trust with resetLow := false } } : State).startup boot)) ∧
    (s.trust.resetLow = false → exec (.resetNRelease boot) s = .next s) ∧
    (s.due tmBoot = true → s.twin.dictionaryUp = false → s.n (K 0x2011 5) = 0 ∨ s.trust.automatic = false →
      exec (.bootWatchdogExpired boot) s = .next (s.disarm tmBoot)) ∧
    (s.due tmBoot = true → s.twin.dictionaryUp = false → s.n (K 0x2011 5) ≠ 0 → s.trust.automatic = true →
      s.n (K 0x2011 5) ≤ s.n (K 0x2011 8) → exec (.bootWatchdogExpired boot) s = .next ((s.disarm tmBoot).requestCycle 0 true)) ∧
    (s.due tmBoot = true → s.twin.dictionaryUp = false → s.trust.automatic = true → s.n (K 0x2011 8) < s.n (K 0x2011 5) →
      exec (.bootWatchdogExpired boot) s =
        .next (((s.disarm tmBoot).setn (K 0x2011 8) (s.n (K 0x2011 8) + 1)).moduleReset 32 boot)) ∧
    (s.due tmBoot = false ∨ s.twin.dictionaryUp = true → exec (.bootWatchdogExpired boot) s = .next s) ∧
    (s.trust.cyclePin = true → s.due tmPowerPulse = true →
      ∃ u : State, exec (.powerCyclePulseExpired boot) s = .next (u.startup boot) ∧ u.trust.cyclePin = false ∧
        u.Logged 35 (5 + s.n (K 0x2420 3) * 256 + s.trust.cycleId * 65536)) ∧
    (s.trust.cyclePin = false → exec (.powerCyclePulseExpired boot) s = .next s) ∧
    (s.goDown.rings = [] ∧ s.goDown.pages = { lost := true } ∧ s.goDown.stations = [] ∧ s.goDown.polygons = [] ∧ s.goDown.steppers = [] ∧
      s.goDown.loops = {} ∧ s.goDown.power.domains = [] ∧ s.goDown.n (K 0x2040 1) = 0 ∧ s.goDown.twin.dictionaryUp = false ∧
      s.goDown.fabric.window = []) ∧
    (∃ t, exec .trivetRailLost s = .next t ∧ t.power.trivet = false ∧ t.rings = [] ∧ t.ev = {} ∧ t.lid = {} ∧ t.fabric.window = [] ∧
      t.fabric.host = s.fabric.host ∧ t.crock.units = s.crock.units ∧ t.svc.stored = s.svc.stored ∧ t.pending = s.pending) ∧
    (∃ u p, exec (.coldPowerUp boot) s = .next (State.startup u boot) ∧ u.stamp = 0 ∧ u.power.trivet = true ∧ u.ev.trace = [p] ∧
      p.record.type = 5 ∧ p.record.payload = u.n (K 0x2401 6) % 2 ^ 64 ∧ u.n (K 0x2401 6) = (s.n (K 0x2401 6) + 1) % 2 ^ 32 ∧
      u.n (K 0x2011 6) = 1 ∧ u.crock.units = s.crock.units)
end

