-- ==== Sys2Proof/Laws/Exec.lean ====
section
/-! SUPPORT. What `exec` is for each command: its meaning. -/

namespace Sys2Proof.Machine

@[simp] theorem exec_coldPowerUp (boot : Boot) (s : State) : exec (.coldPowerUp boot) s = execColdPowerUp boot s := rfl
@[simp] theorem exec_trivetRailLost (s : State) : exec (.trivetRailLost) s = execTrivetRailLost s := rfl
@[simp] theorem exec_dictionaryWrite (path : Path) (index : Nat) (sub : Nat) (data : Bytes) (answers : List Frame) (s : State) : exec (.dictionaryWrite path index sub data answers) s = execDictionaryWrite path index sub data answers s := rfl
@[simp] theorem exec_sdoDownload (index : Nat) (sub : Nat) (data : Bytes) (answers : List Frame) (s : State) : exec (.sdoDownload index sub data answers) s = execSdoDownload index sub data answers s := rfl
@[simp] theorem exec_sdoUpload (index : Nat) (sub : Nat) (s : State) : exec (.sdoUpload index sub) s = execSdoUpload index sub s := rfl
@[simp] theorem exec_sdoCompleteAccess (write : Bool) (index : Nat) (start : Nat) (data : Bytes) (s : State) : exec (.sdoCompleteAccess write index start data) s = execSdoCompleteAccess write index start data s := rfl
@[simp] theorem exec_getOdList (s : State) : exec (.getOdList) s = execGetOdList s := rfl
@[simp] theorem exec_getObjectDescription (index : Nat) (s : State) : exec (.getObjectDescription index) s = execGetObjectDescription index s := rfl
@[simp] theorem exec_getEntryDescription (index : Nat) (sub : Nat) (s : State) : exec (.getEntryDescription index sub) s = execGetEntryDescription index sub s := rfl
@[simp] theorem exec_mailboxRead (entry : Entry) (hostOk : Bool) (s : State) : exec (.mailboxRead entry hostOk) s = execMailboxRead entry hostOk s := rfl
@[simp] theorem exec_mailboxWrite (entry : Entry) (host : Option Bytes) (answers : List Frame) (s : State) : exec (.mailboxWrite entry host answers) s = execMailboxWrite entry host answers s := rfl
@[simp] theorem exec_mailboxReadComplete (entry : Entry) (hostOk : Bool) (s : State) : exec (.mailboxReadComplete entry hostOk) s = execMailboxReadComplete entry hostOk s := rfl
@[simp] theorem exec_mailboxWriteComplete (entry : Entry) (host : Option Bytes) (s : State) : exec (.mailboxWriteComplete entry host) s = execMailboxWriteComplete entry host s := rfl
@[simp] theorem exec_esmStateRequest (state : Nat) (managers : List Nat) (sync0Active : Bool) (s : State) : exec (.esmStateRequest state managers sync0Active) s = execEsmStateRequest state managers sync0Active s := rfl
@[simp] theorem exec_pdoCycle (rx : Option Bytes) (s : State) : exec (.pdoCycle rx) s = execPdoCycle rx s := rfl
@[simp] theorem exec_sm2WatchdogExpired (s : State) : exec (.sm2WatchdogExpired) s = execSm2WatchdogExpired s := rfl
@[simp] theorem exec_portLinkChange (ports : Ports) (s : State) : exec (.portLinkChange ports) s = execPortLinkChange ports s := rfl
@[simp] theorem exec_storeParameters (path : Path) (sub : Nat) (value : Nat) (s : State) : exec (.storeParameters path sub value) s = execStoreParameters path sub value s := rfl
@[simp] theorem exec_restoreDefaultParameters (path : Path) (sub : Nat) (value : Nat) (s : State) : exec (.restoreDefaultParameters path sub value) s = execRestoreDefaultParameters path sub value s := rfl
@[simp] theorem exec_encoderEdge (n : Nat) (edge : Edge) (err : PhaseError) (s : State) : exec (.encoderEdge n edge err) s = execEncoderEdge n edge err s := rfl
@[simp] theorem exec_encoderStandstillTimeout (n : Nat) (s : State) : exec (.encoderStandstillTimeout n) s = execEncoderStandstillTimeout n s := rfl
@[simp] theorem exec_encoderSignalInvalid (n : Nat) (s : State) : exec (.encoderSignalInvalid n) s = execEncoderSignalInvalid n s := rfl
@[simp] theorem exec_encoderEnableWrite (path : Path) (n : Nat) (data : Bytes) (s : State) : exec (.encoderEnableWrite path n data) s = execEncoderEnableWrite path n data s := rfl
@[simp] theorem exec_axisPreset (path : Path) (n : Nat) (data : Bytes) (s : State) : exec (.axisPreset path n data) s = execAxisPreset path n data s := rfl
@[simp] theorem exec_capture (ch : Nat) (rising : Bool) (ns : Nat) (s : State) : exec (.capture ch rising ns) s = execCapture ch rising ns s := rfl
@[simp] theorem exec_captureConfigWrite (path : Path) (ch : Nat) (data : Bytes) (s : State) : exec (.captureConfigWrite path ch data) s = execCaptureConfigWrite path ch data s := rfl
@[simp] theorem exec_mainsZeroCrossing (positive : Bool) (s : State) : exec (.mainsZeroCrossing positive) s = execMainsZeroCrossing positive s := rfl
@[simp] theorem exec_mainsCrossingMissing (s : State) : exec (.mainsCrossingMissing) s = execMainsCrossingMissing s := rfl
@[simp] theorem exec_mainsHoldoverExpired (s : State) : exec (.mainsHoldoverExpired) s = execMainsHoldoverExpired s := rfl
@[simp] theorem exec_setOutput (slot : Nat) (s : State) : exec (.setOutput slot) s = execSetOutput slot s := rfl
@[simp] theorem exec_clearOutput (slot : Nat) (s : State) : exec (.clearOutput slot) s = execClearOutput slot s := rfl
@[simp] theorem exec_divert (slot : Nat) (s : State) : exec (.divert slot) s = execDivert slot s := rfl
@[simp] theorem exec_startImage (slot : Nat) (s : State) : exec (.startImage slot) s = execStartImage slot s := rfl
@[simp] theorem exec_stopImage (slot : Nat) (s : State) : exec (.stopImage slot) s = execStopImage slot s := rfl
@[simp] theorem exec_releaseBands (slot : Nat) (s : State) : exec (.releaseBands slot) s = execReleaseBands slot s := rfl
@[simp] theorem exec_hvOn (slot : Nat) (s : State) : exec (.hvOn slot) s = execHvOn slot s := rfl
@[simp] theorem exec_hvRamp (slot : Nat) (s : State) : exec (.hvRamp slot) s = execHvRamp slot s := rfl
@[simp] theorem exec_hvOff (slot : Nat) (s : State) : exec (.hvOff slot) s = execHvOff slot s := rfl
@[simp] theorem exec_stepMove (slot : Nat) (s : State) : exec (.stepMove slot) s = execStepMove slot s := rfl
@[simp] theorem exec_driveProfile (slot : Nat) (s : State) : exec (.driveProfile slot) s = execDriveProfile slot s := rfl
@[simp] theorem exec_raiseEvent (slot : Nat) (s : State) : exec (.raiseEvent slot) s = execRaiseEvent slot s := rfl
@[simp] theorem exec_checkInput (slot : Nat) (level : Bool) (s : State) : exec (.checkInput slot level) s = execCheckInput slot level s := rfl
@[simp] theorem exec_deliveryCheck (slot : Nat) (s : State) : exec (.deliveryCheck slot) s = execDeliveryCheck slot s := rfl
@[simp] theorem exec_pageState (slot : Nat) (s : State) : exec (.pageState slot) s = execPageState slot s := rfl
@[simp] theorem exec_outputOvercurrent (mask : Nat) (s : State) : exec (.outputOvercurrent mask) s = execOutputOvercurrent mask s := rfl
@[simp] theorem exec_overcurrentClear (path : Path) (data : Bytes) (s : State) : exec (.overcurrentClear path data) s = execOvercurrentClear path data s := rfl
@[simp] theorem exec_stampSyncEdge (rising : Bool) (ns : Nat) (s : State) : exec (.stampSyncEdge rising ns) s = execStampSyncEdge rising ns s := rfl
@[simp] theorem exec_dcSyncCycle (time : Nat) (s : State) : exec (.dcSyncCycle time) s = execDcSyncCycle time s := rfl
@[simp] theorem exec_alignmentSyncLost (s : State) : exec (.alignmentSyncLost) s = execAlignmentSyncLost s := rfl
@[simp] theorem exec_alignmentSourceWrite (path : Path) (data : Bytes) (s : State) : exec (.alignmentSourceWrite path data) s = execAlignmentSourceWrite path data s := rfl
@[simp] theorem exec_hostMarker (path : Path) (data : Bytes) (s : State) : exec (.hostMarker path data) s = execHostMarker path data s := rfl
@[simp] theorem exec_traceEntry (s : State) : exec (.traceEntry) s = execTraceEntry s := rfl
@[simp] theorem exec_drainHoldoffExpired (ring : Nat) (s : State) : exec (.drainHoldoffExpired ring) s = execDrainHoldoffExpired ring s := rfl
@[simp] theorem exec_sosWindowOpen (n : Nat) (s : State) : exec (.sosWindowOpen n) s = execSosWindowOpen n s := rfl
@[simp] theorem exec_facetSos (n : Nat) (crossings : List Crossing) (s : State) : exec (.facetSos n crossings) s = execFacetSos n crossings s := rfl
@[simp] theorem exec_eosMeasured (n : Nat) (crossings : List Crossing) (s : State) : exec (.eosMeasured n crossings) s = execEosMeasured n crossings s := rfl
@[simp] theorem exec_lockEnableWrite (path : Path) (p : Nat) (data : Bytes) (s : State) : exec (.lockEnableWrite path p data) s = execLockEnableWrite path p data s := rfl
@[simp] theorem exec_seekTimeout (p : Nat) (s : State) : exec (.seekTimeout p) s = execSeekTimeout p s := rfl
@[simp] theorem exec_relearn (path : Path) (p : Nat) (data : Bytes) (s : State) : exec (.relearn path p data) s = execRelearn path p data s := rfl
@[simp] theorem exec_facetSignatureWrite (path : Path) (p : Nat) (data : Bytes) (s : State) : exec (.facetSignatureWrite path p data) s = execFacetSignatureWrite path p data s := rfl
@[simp] theorem exec_engageRequestWrite (path : Path) (n : Nat) (data : Bytes) (s : State) : exec (.engageRequestWrite path n data) s = execEngageRequestWrite path n data s := rfl
@[simp] theorem exec_stationEngageChange (n : Nat) (s : State) : exec (.stationEngageChange n) s = execStationEngageChange n s := rfl
@[simp] theorem exec_laserEnableWrite (path : Path) (n : Nat) (data : Bytes) (s : State) : exec (.laserEnableWrite path n data) s = execLaserEnableWrite path n data s := rfl
@[simp] theorem exec_apcSequence (n : Nat) (answers : List Frame) (s : State) : exec (.apcSequence n answers) s = execApcSequence n answers s := rfl
@[simp] theorem exec_readCurrent (n : Nat) (beam : Nat) (answers : List Frame) (s : State) : exec (.readCurrent n beam answers) s = execReadCurrent n beam answers s := rfl
@[simp] theorem exec_driverStatusPoll (n : Nat) (driver : Nat) (answers : List Frame) (s : State) : exec (.driverStatusPoll n driver answers) s = execDriverStatusPoll n driver answers s := rfl
@[simp] theorem exec_beamRestore (path : Path) (n : Nat) (data : Bytes) (s : State) : exec (.beamRestore path n data) s = execBeamRestore path n data s := rfl
@[simp] theorem exec_retiredBeamsWrite (path : Path) (n : Nat) (data : Bytes) (s : State) : exec (.retiredBeamsWrite path n data) s = execRetiredBeamsWrite path n data s := rfl
@[simp] theorem exec_vcselThermistorSample (n : Nat) (ohms : Nat) (s : State) : exec (.vcselThermistorSample n ohms) s = execVcselThermistorSample n ohms s := rfl
@[simp] theorem exec_laserOffEndOfLine (n : Nat) (s : State) : exec (.laserOffEndOfLine n) s = execLaserOffEndOfLine n s := rfl
@[simp] theorem exec_pagePlanSubmit (entry : Entry) (s : State) : exec (.pagePlanSubmit entry) s = execPagePlanSubmit entry s := rfl
@[simp] theorem exec_release (entry : Entry) (s : State) : exec (.release entry) s = execRelease entry s := rfl
@[simp] theorem exec_cancel (entry : Entry) (s : State) : exec (.cancel entry) s = execCancel entry s := rfl
@[simp] theorem exec_reprint (entry : Entry) (s : State) : exec (.reprint entry) s = execReprint entry s := rfl
@[simp] theorem exec_markSpoiled (entry : Entry) (s : State) : exec (.markSpoiled entry) s = execMarkSpoiled entry s := rfl
@[simp] theorem exec_recipeWrite (path : Path) (r : Nat) (data : Bytes) (s : State) : exec (.recipeWrite path r data) s = execRecipeWrite path r data s := rfl
@[simp] theorem exec_admissionTest (inputs : Nat) (s : State) : exec (.admissionTest inputs) s = execAdmissionTest inputs s := rfl
@[simp] theorem exec_commit (s : State) : exec (.commit) s = execCommit s := rfl
@[simp] theorem exec_gateSkip (s : State) : exec (.gateSkip) s = execGateSkip s := rfl
@[simp] theorem exec_deliveryEdge (input : Nat) (rising : Bool) (s : State) : exec (.deliveryEdge input rising) s = execDeliveryEdge input rising s := rfl
@[simp] theorem exec_deliveryWindowExpired (tag : Nat) (s : State) : exec (.deliveryWindowExpired tag) s = execDeliveryWindowExpired tag s := rfl
@[simp] theorem exec_pageDeadlineExpired (tag : Nat) (s : State) : exec (.pageDeadlineExpired tag) s = execPageDeadlineExpired tag s := rfl
@[simp] theorem exec_webBreak (s : State) : exec (.webBreak) s = execWebBreak s := rfl
@[simp] theorem exec_splice (s : State) : exec (.splice) s = execSplice s := rfl
@[simp] theorem exec_spliceCleared (s : State) : exec (.spliceCleared) s = execSpliceCleared s := rfl
@[simp] theorem exec_checkLaneComplete (lane : Nat) (poison : Option Nat) (s : State) : exec (.checkLaneComplete lane poison) s = execCheckLaneComplete lane poison s := rfl
@[simp] theorem exec_decodeBlockComplete (lane : Nat) (good : Bool) (stalls : Nat) (s : State) : exec (.decodeBlockComplete lane good stalls) s = execDecodeBlockComplete lane good stalls s := rfl
@[simp] theorem exec_laneFault (code : Nat) (kind : Nat) (s : State) : exec (.laneFault code kind) s = execLaneFault code kind s := rfl
@[simp] theorem exec_laneSelfTestDone (code : Nat) (result : Nat) (s : State) : exec (.laneSelfTestDone code result) s = execLaneSelfTestDone code result s := rfl
@[simp] theorem exec_takeOutOfService (path : Path) (data : Bytes) (s : State) : exec (.takeOutOfService path data) s = execTakeOutOfService path data s := rfl
@[simp] theorem exec_encodeBuffer (lane : Nat) (entry : Entry) (host : HostMem) (poison : Bool) (s : State) : exec (.encodeBuffer lane entry host poison) s = execEncodeBuffer lane entry host poison s := rfl
@[simp] theorem exec_encodeBand (lane : Nat) (entry : Entry) (host : HostMem) (poison : Bool) (s : State) : exec (.encodeBand lane entry host poison) s = execEncodeBand lane entry host poison s := rfl
@[simp] theorem exec_encodeJobComplete (lane : Nat) (verified : Bool) (writeOk : Bool) (stalls : Nat) (s : State) : exec (.encodeJobComplete lane verified writeOk stalls) s = execEncodeJobComplete lane verified writeOk stalls s := rfl
@[simp] theorem exec_streamInput (k : Nat) (s : State) : exec (.streamInput k) s = execStreamInput k s := rfl
@[simp] theorem exec_streamFlush (k : Nat) (s : State) : exec (.streamFlush k) s = execStreamFlush k s := rfl
@[simp] theorem exec_streamClose (k : Nat) (s : State) : exec (.streamClose k) s = execStreamClose k s := rfl
@[simp] theorem exec_fabricTransactionComplete (input : Nat) (address : Nat) (length : Nat) (write : Bool) (revokers : List Nat) (ecc : Ecc) (s : State) : exec (.fabricTransactionComplete input address length write revokers ecc) s = execFabricTransactionComplete input address length write revokers ecc s := rfl
@[simp] theorem exec_scrubRead (address : Nat) (ecc : Nat) (s : State) : exec (.scrubRead address ecc) s = execScrubRead address ecc s := rfl
@[simp] theorem exec_scrubPeriodExpired (s : State) : exec (.scrubPeriodExpired) s = execScrubPeriodExpired s := rfl
@[simp] theorem exec_lockAcquire (path : Path) (data : Bytes) (s : State) : exec (.lockAcquire path data) s = execLockAcquire path data s := rfl
@[simp] theorem exec_lockRelease (path : Path) (data : Bytes) (s : State) : exec (.lockRelease path data) s = execLockRelease path data s := rfl
@[simp] theorem exec_fenceOnly (ch : Nat) (entry : Entry) (host : HostMem) (s : State) : exec (.fenceOnly ch entry host) s = execFenceOnly ch entry host s := rfl
@[simp] theorem exec_copyList (ch : Nat) (entry : Entry) (host : HostMem) (s : State) : exec (.copyList ch entry host) s = execCopyList ch entry host s := rfl
@[simp] theorem exec_copyIndex (ch : Nat) (entry : Entry) (host : HostMem) (s : State) : exec (.copyIndex ch entry host) s = execCopyIndex ch entry host s := rfl
@[simp] theorem exec_ladleJobComplete (ch : Nat) (s : State) : exec (.ladleJobComplete ch) s = execLadleJobComplete ch s := rfl
@[simp] theorem exec_ladlePaceRequest (ch : Nat) (s : State) : exec (.ladlePaceRequest ch) s = execLadlePaceRequest ch s := rfl
@[simp] theorem exec_ladleLockWaitExpired (ch : Nat) (s : State) : exec (.ladleLockWaitExpired ch) s = execLadleLockWaitExpired ch s := rfl
@[simp] theorem exec_ladleBusError (kind : Nat) (address : Nat) (s : State) : exec (.ladleBusError kind address) s = execLadleBusError kind address s := rfl
@[simp] theorem exec_channelInputWrite (path : Path) (ch : Nat) (data : Bytes) (s : State) : exec (.channelInputWrite path ch data) s = execChannelInputWrite path ch data s := rfl
@[simp] theorem exec_linkTrained (speed : Nat) (link : Trained) (s : State) : exec (.linkTrained speed link) s = execLinkTrained speed link s := rfl
@[simp] theorem exec_linkLoss (cause : Nat) (s : State) : exec (.linkLoss cause) s = execLinkLoss cause s := rfl
@[simp] theorem exec_ringDescriptorWrite (ring : Nat) (word : Nat) (data : BarWrite) (s : State) : exec (.ringDescriptorWrite ring word data) s = execRingDescriptorWrite ring word data s := rfl
@[simp] theorem exec_ringEnable (ring : Nat) (data : BarWrite) (s : State) : exec (.ringEnable ring data) s = execRingEnable ring data s := rfl
@[simp] theorem exec_ringDrained (ring : Nat) (s : State) : exec (.ringDrained ring) s = execRingDrained ring s := rfl
@[simp] theorem exec_doorbellWrite (ring : Nat) (value : Nat) (s : State) : exec (.doorbellWrite ring value) s = execDoorbellWrite ring value s := rfl
@[simp] theorem exec_msixHoldoffExpired (ring : Nat) (s : State) : exec (.msixHoldoffExpired ring) s = execMsixHoldoffExpired ring s := rfl
@[simp] theorem exec_vectorUnmask (entry : VectorEntry) (s : State) : exec (.vectorUnmask entry) s = execVectorUnmask entry s := rfl
@[simp] theorem exec_ingestBlock (ring : Nat) (entry : Entry) (host : HostMem) (s : State) : exec (.ingestBlock ring entry host) s = execIngestBlock ring entry host s := rfl
@[simp] theorem exec_ingestDataRead (ring : Nat) (host : HostMem) (parity : Bool) (s : State) : exec (.ingestDataRead ring host parity) s = execIngestDataRead ring host parity s := rfl
@[simp] theorem exec_drainBoundExpired (ring : Nat) (s : State) : exec (.drainBoundExpired ring) s = execDrainBoundExpired ring s := rfl
@[simp] theorem exec_driveEnableWrite (path : Path) (c : Nat) (data : Bytes) (s : State) : exec (.driveEnableWrite path c data) s = execDriveEnableWrite path c data s := rfl
@[simp] theorem exec_alignTimeElapsed (c : Nat) (s : State) : exec (.alignTimeElapsed c) s = execAlignTimeElapsed c s := rfl
@[simp] theorem exec_rampStep (c : Nat) (s : State) : exec (.rampStep c) s = execRampStep c s := rfl
@[simp] theorem exec_zeroCrossing (c : Nat) (forward : Bool) (sensed : BackEmf) (s : State) : exec (.zeroCrossing c forward sensed) s = execZeroCrossing c forward sensed s := rfl
@[simp] theorem exec_rampHandoverTimeout (c : Nat) (s : State) : exec (.rampHandoverTimeout c) s = execRampHandoverTimeout c s := rfl
@[simp] theorem exec_observerLoss (c : Nat) (s : State) : exec (.observerLoss c) s = execObserverLoss c s := rfl
@[simp] theorem exec_catchPulse (c : Nat) (speed : Int) (sensed : BackEmf) (s : State) : exec (.catchPulse c speed sensed) s = execCatchPulse c speed sensed s := rfl
@[simp] theorem exec_catchTimeout (c : Nat) (s : State) : exec (.catchTimeout c) s = execCatchTimeout c s := rfl
@[simp] theorem exec_retryIntervalElapsed (c : Nat) (s : State) : exec (.retryIntervalElapsed c) s = execRetryIntervalElapsed c s := rfl
@[simp] theorem exec_currentLimitExceeded (c : Nat) (s : State) : exec (.currentLimitExceeded c) s = execCurrentLimitExceeded c s := rfl
@[simp] theorem exec_tripCurrent (c : Nat) (s : State) : exec (.tripCurrent c) s = execTripCurrent c s := rfl
@[simp] theorem exec_sdInputInvalid (c : Nat) (input : Nat) (s : State) : exec (.sdInputInvalid c input) s = execSdInputInvalid c input s := rfl
@[simp] theorem exec_startProfile (path : Path) (c : Nat) (data : Bytes) (s : State) : exec (.startProfile path c data) s = execStartProfile path c data s := rfl
@[simp] theorem exec_commandPinLost (k : Nat) (s : State) : exec (.commandPinLost k) s = execCommandPinLost k s := rfl
@[simp] theorem exec_commandPinReturn (k : Nat) (s : State) : exec (.commandPinReturn k) s = execCommandPinReturn k s := rfl
@[simp] theorem exec_brakeTimeElapsed (c : Nat) (s : State) : exec (.brakeTimeElapsed c) s = execBrakeTimeElapsed c s := rfl
@[simp] theorem exec_busSample (bus : Nat) (s : State) : exec (.busSample bus) s = execBusSample bus s := rfl
@[simp] theorem exec_chopperCheck (current : Nat) (s : State) : exec (.chopperCheck current) s = execChopperCheck current s := rfl
@[simp] theorem exec_chopperTest (path : Path) (data : Bytes) (s : State) : exec (.chopperTest path data) s = execChopperTest path data s := rfl
@[simp] theorem exec_busOvervoltageTrip (s : State) : exec (.busOvervoltageTrip) s = execBusOvervoltageTrip s := rfl
@[simp] theorem exec_busReconnect (path : Path) (data : Bytes) (s : State) : exec (.busReconnect path data) s = execBusReconnect path data s := rfl
@[simp] theorem exec_axisEnableWrite (path : Path) (n : Nat) (data : Bytes) (s : State) : exec (.axisEnableWrite path n data) s = execAxisEnableWrite path n data s := rfl
@[simp] theorem exec_startMove (path : Path) (n : Nat) (data : Bytes) (s : State) : exec (.startMove path n data) s = execStartMove path n data s := rfl
@[simp] theorem exec_targetPositionWrite (path : Path) (n : Nat) (data : Bytes) (s : State) : exec (.targetPositionWrite path n data) s = execTargetPositionWrite path n data s := rfl
@[simp] theorem exec_stop (path : Path) (n : Nat) (data : Bytes) (s : State) : exec (.stop path n data) s = execStop path n data s := rfl
@[simp] theorem exec_positionPreset (path : Path) (n : Nat) (data : Bytes) (s : State) : exec (.positionPreset path n data) s = execPositionPreset path n data s := rfl
@[simp] theorem exec_startHoming (path : Path) (n : Nat) (data : Bytes) (s : State) : exec (.startHoming path n data) s = execStartHoming path n data s := rfl
@[simp] theorem exec_standstillReleaseElapsed (n : Nat) (s : State) : exec (.standstillReleaseElapsed n) s = execStandstillReleaseElapsed n s := rfl
@[simp] theorem exec_reEnergiseDone (n : Nat) (s : State) : exec (.reEnergiseDone n) s = execReEnergiseDone n s := rfl
@[simp] theorem exec_moveComplete (n : Nat) (s : State) : exec (.moveComplete n) s = execMoveComplete n s := rfl
@[simp] theorem exec_loadAngleEstimate (n : Nat) (lag : Int) (coil : Nat) (s : State) : exec (.loadAngleEstimate n lag coil) s = execLoadAngleEstimate n lag coil s := rfl
@[simp] theorem exec_limitInputActive (n : Nat) (positive : Bool) (active : Bool) (s : State) : exec (.limitInputActive n positive active) s = execLimitInputActive n positive active s := rfl
@[simp] theorem exec_homeInputEdge (n : Nat) (active : Bool) (s : State) : exec (.homeInputEdge n active) s = execHomeInputEdge n active s := rfl
@[simp] theorem exec_homeDebounceElapsed (n : Nat) (s : State) : exec (.homeDebounceElapsed n) s = execHomeDebounceElapsed n s := rfl
@[simp] theorem exec_bridgeOvercurrent (n : Nat) (s : State) : exec (.bridgeOvercurrent n) s = execBridgeOvercurrent n s := rfl
@[simp] theorem exec_bridgeThermalShutdown (g : Nat) (s : State) : exec (.bridgeThermalShutdown g) s = execBridgeThermalShutdown g s := rfl
@[simp] theorem exec_loopTrigger (slot : Nat) (pin : Nat) (feedback : Nat) (s : State) : exec (.loopTrigger slot pin feedback) s = execLoopTrigger slot pin feedback s := rfl
@[simp] theorem exec_loopEvaluation (slot : Nat) (s : State) : exec (.loopEvaluation slot) s = execLoopEvaluation slot s := rfl
@[simp] theorem exec_slotEnableWrite (path : Path) (slot : Nat) (data : Bytes) (s : State) : exec (.slotEnableWrite path slot data) s = execSlotEnableWrite path slot data s := rfl
@[simp] theorem exec_modeWrite (path : Path) (slot : Nat) (data : Bytes) (s : State) : exec (.modeWrite path slot data) s = execModeWrite path slot data s := rfl
@[simp] theorem exec_loopTargetWrite (path : Path) (slot : Nat) (data : Bytes) (s : State) : exec (.loopTargetWrite path slot data) s = execLoopTargetWrite path slot data s := rfl
@[simp] theorem exec_hvEnableWrite (path : Path) (h : Nat) (data : Bytes) (s : State) : exec (.hvEnableWrite path h data) s = execHvEnableWrite path h data s := rfl
@[simp] theorem exec_hostSwitch (path : Path) (h : Nat) (data : Bytes) (s : State) : exec (.hostSwitch path h data) s = execHostSwitch path h data s := rfl
@[simp] theorem exec_hvOpenLoad (h : Nat) (s : State) : exec (.hvOpenLoad h) s = execHvOpenLoad h s := rfl
@[simp] theorem exec_hvRampComplete (h : Nat) (s : State) : exec (.hvRampComplete h) s = execHvRampComplete h s := rfl
@[simp] theorem exec_zoneEnableWrite (path : Path) (z : Nat) (data : Bytes) (s : State) : exec (.zoneEnableWrite path z data) s = execZoneEnableWrite path z data s := rfl
@[simp] theorem exec_kettleGateEdge (z : Nat) (s : State) : exec (.kettleGateEdge z) s = execKettleGateEdge z s := rfl
@[simp] theorem exec_kettlePhaseFire (z : Nat) (s : State) : exec (.kettlePhaseFire z) s = execKettlePhaseFire z s := rfl
@[simp] theorem exec_bulkSample (volts : Nat) (s : State) : exec (.bulkSample volts) s = execBulkSample volts s := rfl
@[simp] theorem exec_supplyRecoveryElapsed (boot : Boot) (s : State) : exec (.supplyRecoveryElapsed boot) s = execSupplyRecoveryElapsed boot s := rfl
@[simp] theorem exec_logicRailFault (rail : Nat) (above : Bool) (persists : Bool) (s : State) : exec (.logicRailFault rail above persists) s = execLogicRailFault rail above persists s := rfl
@[simp] theorem exec_motorBusSample (bus : Nat) (j2 : Nat) (s : State) : exec (.motorBusSample bus j2) s = execMotorBusSample bus j2 s := rfl
@[simp] theorem exec_domainRequestWrite (path : Path) (data : Bytes) (s : State) : exec (.domainRequestWrite path data) s = execDomainRequestWrite path data s := rfl
@[simp] theorem exec_domainReady (pd : Nat) (answers : List (Nat × List Frame)) (s : State) : exec (.domainReady pd answers) s = execDomainReady pd answers s := rfl
@[simp] theorem exec_domainRampTimeout (pd : Nat) (s : State) : exec (.domainRampTimeout pd) s = execDomainRampTimeout pd s := rfl
@[simp] theorem exec_domainStopped (pd : Nat) (s : State) : exec (.domainStopped pd) s = execDomainStopped pd s := rfl
@[simp] theorem exec_temperatureSample (t : Nat) (sample : Int) (s : State) : exec (.temperatureSample t sample) s = execTemperatureSample t sample s := rfl
@[simp] theorem exec_channelEnableWrite (path : Path) (t : Nat) (data : Bytes) (s : State) : exec (.channelEnableWrite path t data) s = execChannelEnableWrite path t data s := rfl
@[simp] theorem exec_faultMessage (messages : List Message) (s : State) : exec (.faultMessage messages) s = execFaultMessage messages s := rfl
@[simp] theorem exec_wiredFaultCause (source : Nat) (kind : Nat) (address : Nat) (s : State) : exec (.wiredFaultCause source kind address) s = execWiredFaultCause source kind address s := rfl
@[simp] theorem exec_quietPeriodExpired (s : State) : exec (.quietPeriodExpired) s = execQuietPeriodExpired s := rfl
@[simp] theorem exec_consequenceLimitExpired (s : State) : exec (.consequenceLimitExpired) s = execConsequenceLimitExpired s := rfl
@[simp] theorem exec_faultClear (path : Path) (data : Bytes) (s : State) : exec (.faultClear path data) s = execFaultClear path data s := rfl
@[simp] theorem exec_stickyClear (path : Path) (data : Bytes) (s : State) : exec (.stickyClear path data) s = execStickyClear path data s := rfl
@[simp] theorem exec_reactionMapWrite (path : Path) (data : Bytes) (s : State) : exec (.reactionMapWrite path data) s = execReactionMapWrite path data s := rfl
@[simp] theorem exec_interlockTestPulse (ch : Nat) (low : Bool) (s : State) : exec (.interlockTestPulse ch low) s = execInterlockTestPulse ch low s := rfl
@[simp] theorem exec_interlockSenseChange (ch : Nat) (level : Bool) (s : State) : exec (.interlockSenseChange ch level) s = execInterlockSenseChange ch level s := rfl
@[simp] theorem exec_discrepancyTimeout (s : State) : exec (.discrepancyTimeout) s = execDiscrepancyTimeout s := rfl
@[simp] theorem exec_inject (path : Path) (data : Bytes) (s : State) : exec (.inject path data) s = execInject path data s := rfl
@[simp] theorem exec_heartbeatWireBeat (s : State) : exec (.heartbeatWireBeat) s = execHeartbeatWireBeat s := rfl
@[simp] theorem exec_heartbeatWord (word : Nat) (s : State) : exec (.heartbeatWord word) s = execHeartbeatWord word s := rfl
@[simp] theorem exec_heartbeatPeriodEnd (s : State) : exec (.heartbeatPeriodEnd) s = execHeartbeatPeriodEnd s := rfl
@[simp] theorem exec_sequencerHwFailure (u : Nat) (kind : Nat) (address : Nat) (s : State) : exec (.sequencerHwFailure u kind address) s = execSequencerHwFailure u kind address s := rfl
@[simp] theorem exec_ownershipTaken (s : State) : exec (.ownershipTaken) s = execOwnershipTaken s := rfl
@[simp] theorem exec_gapWatchdogExpired (s : State) : exec (.gapWatchdogExpired) s = execGapWatchdogExpired s := rfl
@[simp] theorem exec_checkpointDelta (s : State) : exec (.checkpointDelta) s = execCheckpointDelta s := rfl
@[simp] theorem exec_healthReport (passed : Nat) (link : Nat) (parity : Bool) (s : State) : exec (.healthReport passed link parity) s = execHealthReport passed link parity s := rfl
@[simp] theorem exec_standbyReload (path : Path) (data : Bytes) (s : State) : exec (.standbyReload path data) s = execStandbyReload path data s := rfl
@[simp] theorem exec_unitLoadComplete (u : Nat) (tested : Bool) (bad : List Nat) (s : State) : exec (.unitLoadComplete u tested bad) s = execUnitLoadComplete u tested bad s := rfl
@[simp] theorem exec_plannedSwitchOver (path : Path) (data : Bytes) (s : State) : exec (.plannedSwitchOver path data) s = execPlannedSwitchOver path data s := rfl
@[simp] theorem exec_plannedWaitExpired (s : State) : exec (.plannedWaitExpired) s = execPlannedWaitExpired s := rfl
@[simp] theorem exec_crockMount (valid : Bool) (s : State) : exec (.crockMount valid) s = execCrockMount valid s := rfl
@[simp] theorem exec_crockRead (ring : Nat) (entry : Entry) (host : HostMem) (s : State) : exec (.crockRead ring entry host) s = execCrockRead ring entry host s := rfl
@[simp] theorem exec_crockWrite (ring : Nat) (entry : Entry) (host : HostMem) (s : State) : exec (.crockWrite ring entry host) s = execCrockWrite ring entry host s := rfl
@[simp] theorem exec_trim (ring : Nat) (entry : Entry) (host : HostMem) (s : State) : exec (.trim ring entry host) s = execTrim ring entry host s := rfl
@[simp] theorem exec_spoolPage (ring : Nat) (entry : Entry) (host : HostMem) (s : State) : exec (.spoolPage ring entry host) s = execSpoolPage ring entry host s := rfl
@[simp] theorem exec_spoolLoad (ring : Nat) (entry : Entry) (host : HostMem) (s : State) : exec (.spoolLoad ring entry host) s = execSpoolLoad ring entry host s := rfl
@[simp] theorem exec_spoolDelete (ring : Nat) (entry : Entry) (host : HostMem) (s : State) : exec (.spoolDelete ring entry host) s = execSpoolDelete ring entry host s := rfl
@[simp] theorem exec_spoolList (ring : Nat) (entry : Entry) (host : HostMem) (s : State) : exec (.spoolList ring entry host) s = execSpoolList ring entry host s := rfl
@[simp] theorem exec_slotCommit (ring : Nat) (entry : Entry) (host : HostMem) (s : State) : exec (.slotCommit ring entry host) s = execSlotCommit ring entry host s := rfl
@[simp] theorem exec_slotErase (ring : Nat) (entry : Entry) (host : HostMem) (s : State) : exec (.slotErase ring entry host) s = execSlotErase ring entry host s := rfl
@[simp] theorem exec_crockCommandComplete (ring : Nat) (units : Nat) (retried : Nat) (bad : Option (Nat × Nat)) (s : State) : exec (.crockCommandComplete ring units retried bad) s = execCrockCommandComplete ring units retried bad s := rfl
@[simp] theorem exec_nandProgramFail (lun : Nat) (block : NandBlock) (s : State) : exec (.nandProgramFail lun block) s = execNandProgramFail lun block s := rfl
@[simp] theorem exec_crockScrubPass (what : Nat) (lun : Nat) (block : NandBlock) (bad : Option Nat) (s : State) : exec (.crockScrubPass what lun block bad) s = execCrockScrubPass what lun block bad s := rfl
@[simp] theorem exec_healthRun (request : Option (Path × Bytes)) (s : State) : exec (.healthRun request) s = execHealthRun request s := rfl
@[simp] theorem exec_attest (entry : Entry) (hostOk : Bool) (s : State) : exec (.attest entry hostOk) s = execAttest entry hostOk s := rfl
@[simp] theorem exec_attestObject (path : Path) (data : Bytes) (s : State) : exec (.attestObject path data) s = execAttestObject path data s := rfl
@[simp] theorem exec_certificates (entry : Entry) (hostOk : Bool) (s : State) : exec (.certificates entry hostOk) s = execCertificates entry hostOk s := rfl
@[simp] theorem exec_moduleReset (entry : Entry) (s : State) : exec (.moduleReset entry) s = execModuleReset entry s := rfl
@[simp] theorem exec_powerCycle (entry : Entry) (s : State) : exec (.powerCycle entry) s = execPowerCycle entry s := rfl
@[simp] theorem exec_moduleResetObject (path : Path) (data : Bytes) (s : State) : exec (.moduleResetObject path data) s = execModuleResetObject path data s := rfl
@[simp] theorem exec_powerCycleRequest (path : Path) (data : Bytes) (s : State) : exec (.powerCycleRequest path data) s = execPowerCycleRequest path data s := rfl
@[simp] theorem exec_moduleResetAct (boot : Boot) (s : State) : exec (.moduleResetAct boot) s = execModuleResetAct boot s := rfl
@[simp] theorem exec_resetNLow (ns : Nat) (s : State) : exec (.resetNLow ns) s = execResetNLow ns s := rfl
@[simp] theorem exec_resetNRelease (boot : Boot) (s : State) : exec (.resetNRelease boot) s = execResetNRelease boot s := rfl
@[simp] theorem exec_bootWatchdogExpired (boot : Boot) (s : State) : exec (.bootWatchdogExpired boot) s = execBootWatchdogExpired boot s := rfl
@[simp] theorem exec_powerCyclePulseExpired (boot : Boot) (s : State) : exec (.powerCyclePulseExpired boot) s = execPowerCyclePulseExpired boot s := rfl
@[simp] theorem exec_expectedMeasurementsWrite (path : Path) (sub : Nat) (data : Bytes) (s : State) : exec (.expectedMeasurementsWrite path sub data) s = execExpectedMeasurementsWrite path sub data s := rfl
@[simp] theorem exec_mismatchAcknowledge (path : Path) (data : Bytes) (s : State) : exec (.mismatchAcknowledge path data) s = execMismatchAcknowledge path data s := rfl
@[simp] theorem exec_reinitSequencerUnit (path : Path) (k : Nat) (s : State) : exec (.reinitSequencerUnit path k) s = execReinitSequencerUnit path k s := rfl
@[simp] theorem exec_reinitPressLane (path : Path) (k : Nat) (s : State) : exec (.reinitPressLane path k) s = execReinitPressLane path k s := rfl
@[simp] theorem exec_reinitStation (path : Path) (k : Nat) (answers : List Frame) (s : State) : exec (.reinitStation path k answers) s = execReinitStation path k answers s := rfl
@[simp] theorem exec_reinitPolygonTiming (path : Path) (k : Nat) (s : State) : exec (.reinitPolygonTiming path k) s = execReinitPolygonTiming path k s := rfl
@[simp] theorem exec_reinitEncoder (path : Path) (k : Nat) (s : State) : exec (.reinitEncoder path k) s = execReinitEncoder path k s := rfl
@[simp] theorem exec_reinitPositionBase (path : Path) (s : State) : exec (.reinitPositionBase path) s = execReinitPositionBase path s := rfl
@[simp] theorem exec_reinitLadle (path : Path) (s : State) : exec (.reinitLadle path) s = execReinitLadle path s := rfl
@[simp] theorem exec_reinitCrock (path : Path) (s : State) : exec (.reinitCrock path) s = execReinitCrock path s := rfl
@[simp] theorem exec_reinitDriveChannel (path : Path) (k : Nat) (s : State) : exec (.reinitDriveChannel path k) s = execReinitDriveChannel path k s := rfl
@[simp] theorem exec_reinitStepperAxis (path : Path) (k : Nat) (s : State) : exec (.reinitStepperAxis path k) s = execReinitStepperAxis path k s := rfl
@[simp] theorem exec_reinitLoopSlot (path : Path) (k : Nat) (s : State) : exec (.reinitLoopSlot path k) s = execReinitLoopSlot path k s := rfl
@[simp] theorem exec_reinitHvChannel (path : Path) (k : Nat) (s : State) : exec (.reinitHvChannel path k) s = execReinitHvChannel path k s := rfl
@[simp] theorem exec_reinitKettleZone (path : Path) (k : Nat) (s : State) : exec (.reinitKettleZone path k) s = execReinitKettleZone path k s := rfl
@[simp] theorem exec_spliceDeactivation (s : State) : exec (.spliceDeactivation) s = execSpliceDeactivation s := rfl
@[simp] theorem exec_pwmPeriod (c : Nat) (ia : Int) (ib : Int) (s : State) : exec (.pwmPeriod c ia ib) s = execPwmPeriod c ia ib s := rfl
@[simp] theorem exec_seekingBlankingElapsed (n : Nat) (s : State) : exec (.seekingBlankingElapsed n) s = execSeekingBlankingElapsed n s := rfl
@[simp] theorem exec_eosWindowOpen (n : Nat) (s : State) : exec (.eosWindowOpen n) s = execEosWindowOpen n s := rfl
@[simp] theorem exec_attestationSigned (s : State) : exec (.attestationSigned) s = execAttestationSigned s := rfl
@[simp] theorem exec_automaticSpoolDone (s : State) : exec (.automaticSpoolDone) s = execAutomaticSpoolDone s := rfl

end Sys2Proof.Machine
end

