-- ==== Sys2Proof/Laws/Store.lean ====
section
/-! SUPPORT. Sparse tables: what a read gives after a write, and that every operation keeps the canonical form. -/

namespace Sys2Proof.Machine

variable {α : Type}

/-! ## Reading after an operation -/

theorem Tab.get_erase_same (d : Nat → α) (t : Tab α) (k : Nat) : Tab.get d (Tab.erase t k) k = d k := by
  induction t with
  | nil => rfl
  | cons x t ih =>
    obtain ⟨a, v⟩ := x
    by_cases h : a = k
    · simp [Tab.erase, h, ih]
    · simp [Tab.erase, Tab.get, h, ih]

theorem Tab.get_erase_ne (d : Nat → α) (t : Tab α) {k j : Nat} (hj : j ≠ k) :
    Tab.get d (Tab.erase t k) j = Tab.get d t j := by
  induction t with
  | nil => rfl
  | cons x t ih =>
    obtain ⟨a, v⟩ := x
    by_cases h : a = k
    · have : a ≠ j := fun e => hj (e ▸ h)
      simp [Tab.erase, Tab.get, h, ih, h ▸ this]
    · simp [Tab.erase, Tab.get, h, ih]

theorem Tab.get_insert_same (d : Nat → α) (t : Tab α) (k : Nat) (v : α) : Tab.get d (Tab.insert t k v) k = v := by
  induction t with
  | nil => simp [Tab.insert, Tab.get]
  | cons x t ih =>
    obtain ⟨a, w⟩ := x
    simp only [Tab.insert]
    split
    · simp [Tab.get]
    · split
      · simp [Tab.get]
      · next h => simp [Tab.get, ih, Ne.symm h]

theorem Tab.get_insert_ne (d : Nat → α) (t : Tab α) {k j : Nat} (v : α) (hj : j ≠ k) :
    Tab.get d (Tab.insert t k v) j = Tab.get d t j := by
  induction t with
  | nil => simp [Tab.insert, Tab.get, Ne.symm hj]
  | cons x t ih =>
    obtain ⟨a, w⟩ := x
    simp only [Tab.insert]
    split
    · simp [Tab.get, Ne.symm hj]
    · split
      · next h => subst h; simp [Tab.get, Ne.symm hj]
      · simp [Tab.get, ih]

variable [DecidableEq α]

@[simp] theorem Tab.get_put_same (d : Nat → α) (t : Tab α) (k : Nat) (v : α) : Tab.get d (Tab.put d t k v) k = v := by
  unfold Tab.put
  split
  · next h => rw [Tab.get_erase_same, h]
  · exact Tab.get_insert_same d t k v

theorem Tab.get_put_ne (d : Nat → α) (t : Tab α) {k j : Nat} (v : α) (hj : j ≠ k) :
    Tab.get d (Tab.put d t k v) j = Tab.get d t j := by
  unfold Tab.put
  split
  · exact Tab.get_erase_ne d t hj
  · exact Tab.get_insert_ne d t v hj

theorem Tab.get_put (d : Nat → α) (t : Tab α) (k j : Nat) (v : α) :
    Tab.get d (Tab.put d t k v) j = if j = k then v else Tab.get d t j := by
  by_cases h : j = k
  · rw [h]; simp
  · simp [h, Tab.get_put_ne d t v h]

/-! ## The canonical form -/

theorem Tab.okFrom_mono (d : Nat → α) {t : Tab α} {lo lo' : Nat} (hl : lo' ≤ lo) (h : Tab.okFrom d lo t = true) :
    Tab.okFrom d lo' t = true := by
  cases t with
  | nil => rfl
  | cons x t =>
    obtain ⟨a, v⟩ := x
    simp only [Tab.okFrom, Bool.and_eq_true, decide_eq_true_eq] at h ⊢
    exact ⟨Nat.le_trans hl h.1, h.2⟩

theorem Tab.okFrom_erase (d : Nat → α) (t : Tab α) (k lo : Nat) (h : Tab.okFrom d lo t = true) :
    Tab.okFrom d lo (Tab.erase t k) = true := by
  induction t generalizing lo with
  | nil => rfl
  | cons x t ih =>
    obtain ⟨a, v⟩ := x
    simp only [Tab.okFrom, Bool.and_eq_true, decide_eq_true_eq] at h
    simp only [Tab.erase]
    split
    · exact Tab.okFrom_mono d (Nat.le_succ_of_le h.1) (ih (a + 1) h.2.2)
    · simp only [Tab.okFrom, Bool.and_eq_true, decide_eq_true_eq]
      exact ⟨h.1, h.2.1, ih (a + 1) h.2.2⟩

theorem Tab.okFrom_insert (d : Nat → α) (t : Tab α) (k : Nat) (v : α) (hv : v ≠ d k) (lo : Nat) (hl : lo ≤ k)
    (h : Tab.okFrom d lo t = true) : Tab.okFrom d lo (Tab.insert t k v) = true := by
  induction t generalizing lo with
  | nil => simp [Tab.insert, Tab.okFrom, hv, hl]
  | cons x t ih =>
    obtain ⟨a, w⟩ := x
    simp only [Tab.okFrom, Bool.and_eq_true, decide_eq_true_eq] at h
    simp only [Tab.insert]
    split
    · next hk =>
      simp only [Tab.okFrom, Bool.and_eq_true, decide_eq_true_eq]
      exact ⟨hl, hv, hk, h.2⟩
    · split
      · next hk =>
        subst hk
        simp only [Tab.okFrom, Bool.and_eq_true, decide_eq_true_eq]
        exact ⟨hl, hv, h.2.2⟩
      · next h1 h2 =>
        simp only [Tab.okFrom, Bool.and_eq_true, decide_eq_true_eq]
        exact ⟨h.1, h.2.1, ih (a + 1) (by omega) h.2.2⟩

/-- A write keeps the canonical form. -/
theorem Tab.ok_put (d : Nat → α) (t : Tab α) (k : Nat) (v : α) (h : Tab.ok d t = true) : Tab.ok d (Tab.put d t k v) = true := by
  unfold Tab.put
  split
  · exact Tab.okFrom_erase d t k 0 h
  · next hv => exact Tab.okFrom_insert d t k v hv 0 (Nat.zero_le k) h

theorem Tab.ok_erase (d : Nat → α) (t : Tab α) (k : Nat) (h : Tab.ok d t = true) : Tab.ok d (Tab.erase t k) = true :=
  Tab.okFrom_erase d t k 0 h

/-- Leaving entries out keeps the canonical form. -/
theorem Tab.okFrom_filter (d : Nat → α) (p : Nat × α → Bool) (t : Tab α) (lo : Nat) (h : Tab.okFrom d lo t = true) :
    Tab.okFrom d lo (t.filter p) = true := by
  induction t generalizing lo with
  | nil => rfl
  | cons x t ih =>
    obtain ⟨a, v⟩ := x
    simp only [Tab.okFrom, Bool.and_eq_true, decide_eq_true_eq] at h
    by_cases hp : p (a, v) = true
    · rw [List.filter_cons_of_pos hp]
      simp only [Tab.okFrom, Bool.and_eq_true, decide_eq_true_eq]
      exact ⟨h.1, h.2.1, ih (a + 1) h.2.2⟩
    · rw [List.filter_cons_of_neg hp]
      exact Tab.okFrom_mono d (Nat.le_succ_of_le h.1) (ih (a + 1) h.2.2)

theorem Tab.ok_filter (d : Nat → α) (p : Nat × α → Bool) (t : Tab α) (h : Tab.ok d t = true) : Tab.ok d (t.filter p) = true :=
  Tab.okFrom_filter d p t 0 h

omit [DecidableEq α] in
theorem Tab.eraseRange_eq_filter (t : Tab α) (lo hi : Nat) :
    Tab.eraseRange t lo hi = t.filter (fun x => !decide (lo ≤ x.1 ∧ x.1 ≤ hi)) := by
  induction t with
  | nil => rfl
  | cons x t ih =>
    obtain ⟨a, v⟩ := x
    by_cases h : lo ≤ a ∧ a ≤ hi
    · simp [Tab.eraseRange, h, ih]
    · have hf : (!decide (lo ≤ (a, v).1 ∧ (a, v).1 ≤ hi)) = true   := by rw [decide_eq_false (by exact h)]; rfl
      rw [List.filter_cons_of_pos (by exact hf), Tab.eraseRange, if_neg h, ih]

theorem Tab.ok_eraseRange (d : Nat → α) (t : Tab α) (lo hi : Nat) (h : Tab.ok d t = true) :
    Tab.ok d (Tab.eraseRange t lo hi) = true := by
  rw [Tab.eraseRange_eq_filter]
  exact Tab.ok_filter d _ t h

/-- Writing a run of values keeps the canonical form. -/
theorem Tab.ok_write (d : Nat → α) (l : List α) (t : Tab α) (a : Nat) (h : Tab.ok d t = true) :
    Tab.ok d (Tab.write d t a l) = true := by
  induction l generalizing t a with
  | nil => exact h
  | cons v l ih => exact ih (Tab.put d t a v) (a + 1) (Tab.ok_put d t a v h)

/-! ## Runs of keys -/

/-- A run of values written reads back, and every other key reads as before. -/
theorem Tab.get_write (d : Nat → α) (l : List α) (t : Tab α) (a j : Nat) :
    Tab.get d (Tab.write d t a l) j = if h : a ≤ j ∧ j < a + l.length then l[j - a] else Tab.get d t j := by
  induction l generalizing t a with
  | nil => rw [Tab.write, dif_neg (by simp only [List.length_nil]; omega)]
  | cons v l ih =>
    rw [Tab.write, ih, Tab.get_put]
    by_cases h0 : j = a
    · subst h0
      have h2 : ¬ (j + 1 ≤ j ∧ j < j + 1 + l.length) := by omega
      simp [h2]
    · by_cases h1 : a ≤ j ∧ j < a + (l.length + 1)
      · have h2 : a + 1 ≤ j ∧ j < a + 1 + l.length := by omega
        have h3 : j - a = (j - (a + 1)) + 1 := by omega
        simp [h1, h2, h3]
      · have h2 : ¬ (a + 1 ≤ j ∧ j < a + 1 + l.length) := by omega
        rw [dif_neg h2, if_neg h0, dif_neg (by simpa only [List.length_cons] using h1)]

omit [DecidableEq α] in
@[simp] theorem Tab.length_read (d : Nat → α) (t : Tab α) (a n : Nat) : (Tab.read d t a n).length = n := by
  induction n generalizing a with
  | zero => rfl
  | succ n ih => simp [Tab.read, ih]

omit [DecidableEq α] in
theorem Tab.read_congr (d : Nat → α) (t t' : Tab α) (a n : Nat) (h : ∀ j, a ≤ j → j < a + n → Tab.get d t j = Tab.get d t' j) :
    Tab.read d t a n = Tab.read d t' a n := by
  induction n generalizing a with
  | zero => rfl
  | succ n ih => rw [Tab.read, Tab.read, h a (by omega) (by omega), ih (a + 1) (fun j h1 h2 => h j (by omega) (by omega))]

/-- What has been written is read back. -/
theorem Tab.read_write (d : Nat → α) (l : List α) (t : Tab α) (a : Nat) : Tab.read d (Tab.write d t a l) a l.length = l := by
  have key : ∀ (n a : Nat) (m : List α) (t : Tab α), n = m.length → (∀ j (h : j < m.length), Tab.get d t (a + j) = m[j]) →
      Tab.read d t a n = m := by
    intro n
    induction n with
    | zero => intro a m t hn _; exact (List.eq_nil_of_length_eq_zero hn.symm).symm
    | succ n ih =>
      intro a m t hn h
      cases m with
      | nil => simp at hn
      | cons v m =>
        rw [Tab.read]
        have h0 := h 0 (by simp)
        simp only [Nat.add_zero, List.getElem_cons_zero] at h0
        rw [h0, ih (a + 1) m t (by simpa using hn)]
        intro j hj
        have := h (j + 1) (by simp; omega)
        simp only [List.getElem_cons_succ] at this
        rw [← this]; congr 1; omega
  apply key _ _ _ _ rfl
  intro j hj
  rw [Tab.get_write]
  have : a ≤ a + j ∧ a + j < a + l.length := by omega
  simp [this]

end Sys2Proof.Machine
end

