-- ==== Sys2Proof/Laws/Keeps.lean ====
section
/-! SUPPORT. What an operation keeps: the variant, the queue, the canonical forms, and every part of the machine outside a set. One
lemma an operation says it; the files Keeps1 to Keeps5 hold them in the order of the model's own files. -/

namespace Sys2Proof.Machine

/-- The number of a part. -/
def Area.bit : Area → Nat
  | .clock => 0 | .objects => 1 | .timers => 2 | .position => 3 | .recorder => 4 | .rings => 5 | .polygons => 6 | .stations => 7
  | .pages => 8 | .press => 9 | .fabric => 10 | .window => 11 | .host => 12 | .drives => 13 | .steppers => 14 | .loops => 15
  | .crock => 16 | .power => 17 | .lid => 18 | .twin => 19 | .trust => 20 | .service => 21 | .drawn => 22 | .link => 23

/-- From r to s only the parts whose bits are set in m may have changed, and what was in canonical form still is. -/
structure Keeps (m : Nat) (r s : State) : Prop where
  variant : s.s6 = r.s6
  queue : s.pending = r.pending
  sound : r.Sound → s.Sound
  part : ∀ p : Area, m.testBit p.bit = false → State.same p r s

/-- The same of an outcome, where it is a next state. -/
def KeepsO (m : Nat) (r : State) (o : Host.Outcome State Fault Refusal) : Prop := ∀ t, o = .next t → Keeps m r t

theorem KeepsO.next {m : Nat} {r s : State} (h : Keeps m r s) : KeepsO m r (.next s) := fun _ e => by cases e; exact h

theorem KeepsO.fault {m : Nat} {r : State} {f : Fault} : KeepsO m r (.fault f) := fun _ e => by cases e

theorem KeepsO.ite {m : Nat} {r : State} {c : Prop} [Decidable c] {a b : Host.Outcome State Fault Refusal}
    (h1 : KeepsO m r a) (h2 : KeepsO m r b) : KeepsO m r (if c then a else b) := by split <;> assumption

theorem State.same_refl (p : Area) (s : State) : State.same p s s := by cases p <;> rfl

theorem State.same_trans {p : Area} {r s t : State} (h1 : State.same p r s) (h2 : State.same p s t) : State.same p r t := by
  cases p <;> exact Eq.trans h2 h1

theorem Keeps.refl (m : Nat) (s : State) : Keeps m s s := ⟨rfl, rfl, id, fun p _ => State.same_refl p s⟩

theorem Keeps.ite {m : Nat} {r s t : State} {c : Prop} [Decidable c] (h1 : Keeps m r s) (h2 : Keeps m r t) :
    Keeps m r (if c then s else t) := by split <;> assumption

/-- One more change, in canonical form and within the set. -/
theorem Keeps.step {m : Nat} {r s t : State} (h : Keeps m r s) (h6 : t.s6 = s.s6) (hq : t.pending = s.pending)
    (hs : s.Sound → t.Sound) (hp : ∀ p : Area, m.testBit p.bit = false → State.same p s t) : Keeps m r t :=
  ⟨h6.trans h.variant, hq.trans h.queue, fun x => hs (h.sound x), fun p b => State.same_trans (h.part p b) (hp p b)⟩

theorem sub_trans {a b m : Nat} (h : a ||| b = b) (hm : b ||| m = m) : a ||| m = m := by
  rw [← hm, ← Nat.or_assoc, h]

/-- A part of the set is no part outside it. -/
theorem sub_out {c m i : Nat} (hm : c ||| m = m) (hc : c.testBit i = true) (h : m.testBit i = false) : False := by
  rw [← hm, Nat.testBit_or, hc] at h
  simp at h

theorem Keeps.each {m : Nat} {r s : State} {α : Type} {l : List α} {f : State → α → State}
    (hf : ∀ t x, Keeps m r t → Keeps m r (f t x)) (h : Keeps m r s) : Keeps m r (s.each l f) := by
  unfold State.each
  induction l generalizing s with
  | nil => exact h
  | cons x l ih => exact ih (hf s x h)

theorem Keeps.foldl {m : Nat} {r s : State} {α : Type} {l : List α} {f : State → α → State}
    (hf : ∀ t x, Keeps m r t → Keeps m r (f t x)) (h : Keeps m r s) : Keeps m r (l.foldl f s) := Keeps.each hf h

theorem Keeps.when {m : Nat} {r s : State} {c : Bool} {f : State → State}
    (hf : ∀ t, Keeps m r t → Keeps m r (f t)) (h : Keeps m r s) : Keeps m r (s.when c f) := by
  unfold State.when
  split
  · exact hf s h
  · exact h

theorem Keeps.stamp {c m : Nat} {r s : State} (hm : c ||| m = m) (hc : c.testBit 0 = true) {x : _} (h : Keeps m r s) :
    Keeps m r { s with stamp := x } :=
  h.step rfl rfl id (fun p hp => by cases p <;> first | rfl | exact (sub_out hm hc hp).elim)

theorem Keeps.timers {c m : Nat} {r s : State} (hm : c ||| m = m) (hc : c.testBit 2 = true) {x : _} (h : Keeps m r s) :
    Keeps m r { s with timers := x } :=
  h.step rfl rfl id (fun p hp => by cases p <;> first | rfl | exact (sub_out hm hc hp).elim)

theorem Keeps.pos {c m : Nat} {r s : State} (hm : c ||| m = m) (hc : c.testBit 3 = true) {x : _} (h : Keeps m r s) :
    Keeps m r { s with pos := x } :=
  h.step rfl rfl id (fun p hp => by cases p <;> first | rfl | exact (sub_out hm hc hp).elim)

theorem Keeps.ev {c m : Nat} {r s : State} (hm : c ||| m = m) (hc : c.testBit 4 = true) {x : _} (h : Keeps m r s) :
    Keeps m r { s with ev := x } :=
  h.step rfl rfl id (fun p hp => by cases p <;> first | rfl | exact (sub_out hm hc hp).elim)

theorem Keeps.rings {c m : Nat} {r s : State} (hm : c ||| m = m) (hc : c.testBit 5 = true) {x : _} (h : Keeps m r s) :
    Keeps m r { s with rings := x } :=
  h.step rfl rfl id (fun p hp => by cases p <;> first | rfl | exact (sub_out hm hc hp).elim)

theorem Keeps.polygons {c m : Nat} {r s : State} (hm : c ||| m = m) (hc : c.testBit 6 = true) {x : _} (h : Keeps m r s) :
    Keeps m r { s with polygons := x } :=
  h.step rfl rfl id (fun p hp => by cases p <;> first | rfl | exact (sub_out hm hc hp).elim)

theorem Keeps.stations {c m : Nat} {r s : State} (hm : c ||| m = m) (hc : c.testBit 7 = true) {x : _} (h : Keeps m r s) :
    Keeps m r { s with stations := x } :=
  h.step rfl rfl id (fun p hp => by cases p <;> first | rfl | exact (sub_out hm hc hp).elim)

theorem Keeps.pages {c m : Nat} {r s : State} (hm : c ||| m = m) (hc : c.testBit 8 = true) {x : _} (h : Keeps m r s) :
    Keeps m r { s with pages := x } :=
  h.step rfl rfl id (fun p hp => by cases p <;> first | rfl | exact (sub_out hm hc hp).elim)

theorem Keeps.press {c m : Nat} {r s : State} (hm : c ||| m = m) (hc : c.testBit 9 = true) {x : _} (h : Keeps m r s) :
    Keeps m r { s with press := x } :=
  h.step rfl rfl id (fun p hp => by cases p <;> first | rfl | exact (sub_out hm hc hp).elim)

theorem Keeps.drives {c m : Nat} {r s : State} (hm : c ||| m = m) (hc : c.testBit 13 = true) {x : _} (h : Keeps m r s) :
    Keeps m r { s with drives := x } :=
  h.step rfl rfl id (fun p hp => by cases p <;> first | rfl | exact (sub_out hm hc hp).elim)

theorem Keeps.steppers {c m : Nat} {r s : State} (hm : c ||| m = m) (hc : c.testBit 14 = true) {x : _} (h : Keeps m r s) :
    Keeps m r { s with steppers := x } :=
  h.step rfl rfl id (fun p hp => by cases p <;> first | rfl | exact (sub_out hm hc hp).elim)

theorem Keeps.loops {c m : Nat} {r s : State} (hm : c ||| m = m) (hc : c.testBit 15 = true) {x : _} (h : Keeps m r s) :
    Keeps m r { s with loops := x } :=
  h.step rfl rfl id (fun p hp => by cases p <;> first | rfl | exact (sub_out hm hc hp).elim)

theorem Keeps.crock {c m : Nat} {r s : State} (hm : c ||| m = m) (hc : c.testBit 16 = true) {x : _} (h : Keeps m r s) :
    Keeps m r { s with crock := x } :=
  h.step rfl rfl id (fun p hp => by cases p <;> first | rfl | exact (sub_out hm hc hp).elim)

theorem Keeps.power {c m : Nat} {r s : State} (hm : c ||| m = m) (hc : c.testBit 17 = true) {x : _} (h : Keeps m r s) :
    Keeps m r { s with power := x } :=
  h.step rfl rfl id (fun p hp => by cases p <;> first | rfl | exact (sub_out hm hc hp).elim)

theorem Keeps.lid {c m : Nat} {r s : State} (hm : c ||| m = m) (hc : c.testBit 18 = true) {x : _} (h : Keeps m r s) :
    Keeps m r { s with lid := x } :=
  h.step rfl rfl id (fun p hp => by cases p <;> first | rfl | exact (sub_out hm hc hp).elim)

theorem Keeps.twin {c m : Nat} {r s : State} (hm : c ||| m = m) (hc : c.testBit 19 = true) {x : _} (h : Keeps m r s) :
    Keeps m r { s with twin := x } :=
  h.step rfl rfl id (fun p hp => by cases p <;> first | rfl | exact (sub_out hm hc hp).elim)

theorem Keeps.trust {c m : Nat} {r s : State} (hm : c ||| m = m) (hc : c.testBit 20 = true) {x : _} (h : Keeps m r s) :
    Keeps m r { s with trust := x } :=
  h.step rfl rfl id (fun p hp => by cases p <;> first | rfl | exact (sub_out hm hc hp).elim)

theorem Keeps.svc {c m : Nat} {r s : State} (hm : c ||| m = m) (hc : c.testBit 21 = true) {x : _} (h : Keeps m r s) :
    Keeps m r { s with svc := x } :=
  h.step rfl rfl id (fun p hp => by cases p <;> first | rfl | exact (sub_out hm hc hp).elim)

theorem Keeps.drawn {c m : Nat} {r s : State} (hm : c ||| m = m) (hc : c.testBit 22 = true) {x : _} (h : Keeps m r s) :
    Keeps m r { s with drawn := x } :=
  h.step rfl rfl id (fun p hp => by cases p <;> first | rfl | exact (sub_out hm hc hp).elim)

theorem Keeps.pcie {c m : Nat} {r s : State} (hm : c ||| m = m) (hc : c.testBit 23 = true) {x : _} (h : Keeps m r s) :
    Keeps m r { s with pcie := x } :=
  h.step rfl rfl id (fun p hp => by cases p <;> first | rfl | exact (sub_out hm hc hp).elim)

theorem Keeps.fabric {c m : Nat} {r s : State} (hm : c ||| m = m) (hc : c.testBit 10 = true) {x : Fabric}
    (hw : x.window = s.fabric.window) (hh : x.host = s.fabric.host) (h : Keeps m r s) : Keeps m r { s with fabric := x } :=
  h.step rfl rfl (fun hs => ⟨hs.1, by rw [hw]; exact hs.2.1, by rw [hh]; exact hs.2.2⟩)
    (fun p hp => by cases p <;> first | rfl | exact hw | exact hh | exact (sub_out hm hc hp).elim)

theorem State.put_keeps {m : Nat} {r s : State} (hm : 2 ||| m = m) {k : Nat} {v : Val} (h : Keeps m r s) : Keeps m r (s.put k v) :=
  h.step rfl rfl (fun hs => ⟨Tab.ok_put _ _ _ _ hs.1, hs.2⟩)
    (fun p hp => by cases p <;> first | rfl | exact (sub_out hm (by rfl) hp).elim)

theorem State.forget_keeps {m : Nat} {r s : State} (hm : 2 ||| m = m) {lo hi : Nat} (h : Keeps m r s) : Keeps m r (s.forget lo hi) :=
  h.step rfl rfl (fun hs => ⟨Tab.ok_eraseRange _ _ _ _ hs.1, hs.2⟩)
    (fun p hp => by cases p <;> first | rfl | exact (sub_out hm (by rfl) hp).elim)

theorem State.forgetOne_keeps {m : Nat} {r s : State} (hm : 2 ||| m = m) {k : Nat} (h : Keeps m r s) : Keeps m r (s.forgetOne k) :=
  h.step rfl rfl (fun hs => ⟨Tab.ok_erase _ _ _ hs.1, hs.2⟩)
    (fun p hp => by cases p <;> first | rfl | exact (sub_out hm (by rfl) hp).elim)

/-- A write to DRAM keeps the canonical form of the window. -/
theorem State.dramWrite_keeps {m : Nat} {r s : State} (hm : 2048 ||| m = m) {a : Nat} {b : Bytes} (h : Keeps m r s) :
    Keeps m r (s.dramWrite a b) :=
  h.step rfl rfl (fun hs => ⟨hs.1, Tab.ok_write _ _ _ _ hs.2.1, hs.2.2⟩)
    (fun p hp => by cases p <;> first | rfl | exact (sub_out hm (by rfl) hp).elim)

/-- A write to host memory keeps its canonical form. -/
theorem State.hostWrite_keeps {m : Nat} {r s : State} (hm : 4096 ||| m = m) {a : Nat} {b : Bytes} (h : Keeps m r s) :
    Keeps m r (s.hostWrite a b) :=
  h.step rfl rfl (fun hs => ⟨hs.1, hs.2.1, Tab.ok_write _ _ _ _ hs.2.2⟩)
    (fun p hp => by cases p <;> first | rfl | exact (sub_out hm (by rfl) hp).elim)

end Sys2Proof.Machine
end

