-- ==== Sys2Proof/Laws/Keeps1.lean ====
section
/-! SUPPORT. What every operation of these files of the model keeps: Ops, Memory, Flash, Rings, Recorder, Position, Checkpoints, LoopSlots, PageOps, Scan. -/

namespace Sys2Proof.Machine

variable {m : Nat} {r s : State}

/-! ## Ops -/

theorem State.seti_keeps {a2 : _} {a3 : _} (hm : 2 ||| m = m) (h : Keeps m r s) :
    Keeps m r (State.seti s a2 a3) := by
  unfold State.seti
  repeat' first
    | with_reducible first
      | assumption
      | refine State.put_keeps (sub_trans (by decide) hm) ?_
    | split
    | dsimp only

theorem State.setn_keeps {a2 : _} {a3 : _} (hm : 2 ||| m = m) (h : Keeps m r s) :
    Keeps m r (State.setn s a2 a3) := by
  unfold State.setn
  repeat' first
    | with_reducible first
      | assumption
      | refine State.put_keeps (sub_trans (by decide) hm) ?_
    | split
    | dsimp only

theorem State.setb_keeps {a2 : _} {a3 : _} (hm : 2 ||| m = m) (h : Keeps m r s) :
    Keeps m r (State.setb s a2 a3) := by
  unfold State.setb
  repeat' first
    | with_reducible first
      | assumption
      | refine State.put_keeps (sub_trans (by decide) hm) ?_
    | split
    | dsimp only

theorem State.setBytes_keeps {a2 : _} {a3 : _} (hm : 2 ||| m = m) (h : Keeps m r s) :
    Keeps m r (State.setBytes s a2 a3) := by
  unfold State.setBytes
  repeat' first
    | with_reducible first
      | assumption
      | refine State.put_keeps (sub_trans (by decide) hm) ?_
    | split
    | dsimp only

theorem State.bump_keeps {a2 : _} (hm : 2 ||| m = m) (h : Keeps m r s) :
    Keeps m r (State.bump s a2) := by
  unfold State.bump
  repeat' first
    | with_reducible first
      | assumption
      | refine State.setn_keeps (sub_trans (by decide) hm) ?_
    | split
    | dsimp only

theorem State.bumpBy_keeps {a2 : _} {a3 : _} (hm : 2 ||| m = m) (h : Keeps m r s) :
    Keeps m r (State.bumpBy s a2 a3) := by
  unfold State.bumpBy
  repeat' first
    | with_reducible first
      | assumption
      | refine State.setn_keeps (sub_trans (by decide) hm) ?_
    | split
    | dsimp only

theorem State.bump16_keeps {a2 : _} (hm : 2 ||| m = m) (h : Keeps m r s) :
    Keeps m r (State.bump16 s a2) := by
  unfold State.bump16
  repeat' first
    | with_reducible first
      | assumption
      | refine State.setn_keeps (sub_trans (by decide) hm) ?_
    | split
    | dsimp only

theorem State.arm_keeps {a2 : _} {a3 : _} (hm : 4 ||| m = m) (h : Keeps m r s) :
    Keeps m r (State.arm s a2 a3) := by
  unfold State.arm
  repeat' first
    | with_reducible first
      | assumption
      | (refine Keeps.timers hm (by decide) ?_; assumption)
    | split
    | dsimp only

theorem State.after_keeps {a2 : _} {a3 : _} (hm : 4 ||| m = m) (h : Keeps m r s) :
    Keeps m r (State.after s a2 a3) := by
  unfold State.after
  repeat' first
    | with_reducible first
      | assumption
      | refine State.arm_keeps (sub_trans (by decide) hm) ?_
    | split
    | dsimp only

theorem State.disarm_keeps {a2 : _} (hm : 4 ||| m = m) (h : Keeps m r s) :
    Keeps m r (State.disarm s a2) := by
  unfold State.disarm
  repeat' first
    | with_reducible first
      | assumption
      | (refine Keeps.timers hm (by decide) ?_; assumption)
    | split
    | dsimp only

theorem State.setEnc_keeps {a2 : _} {a3 : _} (hm : 8 ||| m = m) (h : Keeps m r s) :
    Keeps m r (State.setEnc s a2 a3) := by
  unfold State.setEnc
  repeat' first
    | with_reducible first
      | assumption
      | (refine Keeps.pos hm (by decide) ?_; assumption)
    | split
    | dsimp only

theorem State.setSlot_keeps {a2 : _} {a3 : _} (hm : 8 ||| m = m) (h : Keeps m r s) :
    Keeps m r (State.setSlot s a2 a3) := by
  unfold State.setSlot
  repeat' first
    | with_reducible first
      | assumption
      | (refine Keeps.pos hm (by decide) ?_; assumption)
    | split
    | dsimp only

theorem State.setRing_keeps {a2 : _} {a3 : _} (hm : 32 ||| m = m) (h : Keeps m r s) :
    Keeps m r (State.setRing s a2 a3) := by
  unfold State.setRing
  repeat' first
    | with_reducible first
      | assumption
      | (refine Keeps.rings hm (by decide) ?_; assumption)
    | split
    | dsimp only

theorem State.setDomain_keeps {a2 : _} {a3 : _} (hm : 131072 ||| m = m) (h : Keeps m r s) :
    Keeps m r (State.setDomain s a2 a3) := by
  unfold State.setDomain
  repeat' first
    | with_reducible first
      | assumption
      | (refine Keeps.power hm (by decide) ?_; assumption)
    | split
    | dsimp only

theorem State.setThermo_keeps {a2 : _} {a3 : _} (hm : 131072 ||| m = m) (h : Keeps m r s) :
    Keeps m r (State.setThermo s a2 a3) := by
  unfold State.setThermo
  repeat' first
    | with_reducible first
      | assumption
      | (refine Keeps.power hm (by decide) ?_; assumption)
    | split
    | dsimp only

theorem State.setUnit_keeps {a2 : _} {a3 : _} (hm : 524288 ||| m = m) (h : Keeps m r s) :
    Keeps m r (State.setUnit s a2 a3) := by
  unfold State.setUnit
  repeat' first
    | with_reducible first
      | assumption
      | (refine Keeps.twin hm (by decide) ?_; assumption)
    | split
    | dsimp only

theorem State.setPolygon_keeps {a2 : _} {a3 : _} (hm : 64 ||| m = m) (h : Keeps m r s) :
    Keeps m r (State.setPolygon s a2 a3) := by
  unfold State.setPolygon
  repeat' first
    | with_reducible first
      | assumption
      | (refine Keeps.polygons hm (by decide) ?_; assumption)
    | split
    | dsimp only

theorem State.setStation_keeps {a2 : _} {a3 : _} (hm : 128 ||| m = m) (h : Keeps m r s) :
    Keeps m r (State.setStation s a2 a3) := by
  unfold State.setStation
  repeat' first
    | with_reducible first
      | assumption
      | (refine Keeps.stations hm (by decide) ?_; assumption)
    | split
    | dsimp only

theorem State.setPage_keeps {a2 : _} {a3 : _} (hm : 256 ||| m = m) (h : Keeps m r s) :
    Keeps m r (State.setPage s a2 a3) := by
  unfold State.setPage
  repeat' first
    | with_reducible first
      | assumption
      | (refine Keeps.pages hm (by decide) ?_; assumption)
    | split
    | dsimp only

theorem State.setLane_keeps {a2 : _} {a3 : _} (hm : 512 ||| m = m) (h : Keeps m r s) :
    Keeps m r (State.setLane s a2 a3) := by
  unfold State.setLane
  repeat' first
    | with_reducible first
      | assumption
      | (refine Keeps.press hm (by decide) ?_; assumption)
    | split
    | dsimp only

theorem State.setQueue_keeps {a2 : _} {a3 : _} (hm : 512 ||| m = m) (h : Keeps m r s) :
    Keeps m r (State.setQueue s a2 a3) := by
  unfold State.setQueue
  repeat' first
    | with_reducible first
      | assumption
      | (refine Keeps.press hm (by decide) ?_; assumption)
    | split
    | dsimp only

theorem State.setBuffer_keeps {a2 : _} {a3 : _} (hm : 512 ||| m = m) (h : Keeps m r s) :
    Keeps m r (State.setBuffer s a2 a3) := by
  unfold State.setBuffer
  repeat' first
    | with_reducible first
      | assumption
      | (refine Keeps.press hm (by decide) ?_; assumption)
    | split
    | dsimp only

theorem State.setJobs_keeps {a2 : _} {a3 : _} (hm : 512 ||| m = m) (h : Keeps m r s) :
    Keeps m r (State.setJobs s a2 a3) := by
  unfold State.setJobs
  repeat' first
    | with_reducible first
      | assumption
      | (refine Keeps.press hm (by decide) ?_; assumption)
    | split
    | dsimp only

theorem State.setTurns_keeps {a2 : _} {a3 : _} (hm : 512 ||| m = m) (h : Keeps m r s) :
    Keeps m r (State.setTurns s a2 a3) := by
  unfold State.setTurns
  repeat' first
    | with_reducible first
      | assumption
      | (refine Keeps.press hm (by decide) ?_; assumption)
    | split
    | dsimp only

theorem State.setStream_keeps {a2 : _} {a3 : _} (hm : 512 ||| m = m) (h : Keeps m r s) :
    Keeps m r (State.setStream s a2 a3) := by
  unfold State.setStream
  repeat' first
    | with_reducible first
      | assumption
      | (refine Keeps.press hm (by decide) ?_; assumption)
    | split
    | dsimp only

theorem State.setLock_keeps {a2 : _} {a3 : _} (hm : 1024 ||| m = m) (h : Keeps m r s) :
    Keeps m r (State.setLock s a2 a3) := by
  unfold State.setLock
  repeat' first
    | with_reducible first
      | assumption
      | (refine Keeps.fabric hm (by decide) rfl rfl ?_; assumption)
    | split
    | dsimp only

theorem State.setLadleJob_keeps {a2 : _} {a3 : _} (hm : 1024 ||| m = m) (h : Keeps m r s) :
    Keeps m r (State.setLadleJob s a2 a3) := by
  unfold State.setLadleJob
  repeat' first
    | with_reducible first
      | assumption
      | (refine Keeps.fabric hm (by decide) rfl rfl ?_; assumption)
    | split
    | dsimp only

theorem State.setDrive_keeps {a2 : _} {a3 : _} (hm : 8192 ||| m = m) (h : Keeps m r s) :
    Keeps m r (State.setDrive s a2 a3) := by
  unfold State.setDrive
  repeat' first
    | with_reducible first
      | assumption
      | (refine Keeps.drives hm (by decide) ?_; assumption)
    | split
    | dsimp only

theorem State.setStepper_keeps {a2 : _} {a3 : _} (hm : 16384 ||| m = m) (h : Keeps m r s) :
    Keeps m r (State.setStepper s a2 a3) := by
  unfold State.setStepper
  repeat' first
    | with_reducible first
      | assumption
      | (refine Keeps.steppers hm (by decide) ?_; assumption)
    | split
    | dsimp only

theorem State.setLoopSlot_keeps {a2 : _} {a3 : _} (hm : 32768 ||| m = m) (h : Keeps m r s) :
    Keeps m r (State.setLoopSlot s a2 a3) := by
  unfold State.setLoopSlot
  repeat' first
    | with_reducible first
      | assumption
      | (refine Keeps.loops hm (by decide) ?_; assumption)
    | split
    | dsimp only

theorem State.setHv_keeps {a2 : _} {a3 : _} (hm : 32768 ||| m = m) (h : Keeps m r s) :
    Keeps m r (State.setHv s a2 a3) := by
  unfold State.setHv
  repeat' first
    | with_reducible first
      | assumption
      | (refine Keeps.loops hm (by decide) ?_; assumption)
    | split
    | dsimp only

theorem State.setZone_keeps {a2 : _} {a3 : _} (hm : 32768 ||| m = m) (h : Keeps m r s) :
    Keeps m r (State.setZone s a2 a3) := by
  unfold State.setZone
  repeat' first
    | with_reducible first
      | assumption
      | (refine Keeps.loops hm (by decide) ?_; assumption)
    | split
    | dsimp only

theorem State.draw_keeps  (hm : 4194304 ||| m = m) (h : Keeps m r s) :
    Keeps m r (State.draw s) := by
  unfold State.draw
  repeat' first
    | with_reducible first
      | assumption
      | (refine Keeps.drawn hm (by decide) ?_; assumption)
    | split
    | dsimp only

theorem State.deliver_keeps {a2 : _} (hm : 16 ||| m = m) (h : Keeps m r s) :
    Keeps m r (State.deliver s a2) := by
  unfold State.deliver
  repeat' first
    | with_reducible first
      | assumption
      | (refine Keeps.ev hm (by decide) ?_; assumption)
    | split
    | dsimp only

theorem State.event_keeps {a2 : _} {a3 : _} (hm : 16 ||| m = m) (h : Keeps m r s) :
    Keeps m r (State.event s a2 a3) := by
  unfold State.event
  repeat' first
    | with_reducible first
      | assumption
      | refine State.deliver_keeps (sub_trans (by decide) hm) ?_
    | split
    | dsimp only

theorem State.eventHw_keeps {a2 : _} {a3 : _} (hm : 16 ||| m = m) (h : Keeps m r s) :
    Keeps m r (State.eventHw s a2 a3) := by
  unfold State.eventHw
  repeat' first
    | with_reducible first
      | assumption
      | refine State.deliver_keeps (sub_trans (by decide) hm) ?_
    | split
    | dsimp only

theorem State.eventFw_keeps {a2 : _} {a3 : _} (hm : 16 ||| m = m) (h : Keeps m r s) :
    Keeps m r (State.eventFw s a2 a3) := by
  unfold State.eventFw
  repeat' first
    | with_reducible first
      | assumption
      | refine State.deliver_keeps (sub_trans (by decide) hm) ?_
    | split
    | dsimp only

theorem State.spendInjection_keeps {a2 : _} (hm : 262162 ||| m = m) (h : Keeps m r s) :
    Keeps m r (State.spendInjection s a2) := by
  unfold State.spendInjection
  repeat' first
    | with_reducible first
      | assumption
      | refine Keeps.ite ?_ ?_
      | refine State.setn_keeps (sub_trans (by decide) hm) ?_
      | refine State.eventHw_keeps (sub_trans (by decide) hm) ?_
      | (refine Keeps.lid hm (by decide) ?_; assumption)
    | split
    | dsimp only

theorem State.detect_keeps {a2 : _} (hm : 262162 ||| m = m) (h : Keeps m r s) :
    Keeps m r (State.detect s a2) := by
  unfold State.detect
  repeat' first
    | with_reducible first
      | assumption
      | refine Keeps.ite ?_ ?_
      | refine State.spendInjection_keeps (sub_trans (by decide) hm) ?_
      | (refine Keeps.lid hm (by decide) ?_; assumption)
    | split
    | dsimp only

theorem State.fault_keeps {a2 : _} {a3 : _} {a4 : _} (hm : 262162 ||| m = m) (h : Keeps m r s) :
    Keeps m r (State.fault s a2 a3 a4) := by
  unfold State.fault
  repeat' first
    | with_reducible first
      | assumption
      | refine State.detect_keeps (sub_trans (by decide) hm) ?_
    | split
    | dsimp only

theorem State.faultInjected_keeps {a2 : _} {a3 : _} {a4 : _} {a5 : _} (hm : 262162 ||| m = m) (h : Keeps m r s) :
    Keeps m r (State.faultInjected s a2 a3 a4 a5) := by
  unfold State.faultInjected
  repeat' first
    | with_reducible first
      | assumption
      | refine State.detect_keeps (sub_trans (by decide) hm) ?_
    | split
    | dsimp only

theorem State.faultOn_keeps {a2 : _} {a3 : _} {a4 : _} (hm : 262162 ||| m = m) (h : Keeps m r s) :
    Keeps m r (State.faultOn s a2 a3 a4) := by
  unfold State.faultOn
  repeat' first
    | with_reducible first
      | assumption
      | refine State.detect_keeps (sub_trans (by decide) hm) ?_
    | split
    | dsimp only

theorem State.faultOff_keeps {a2 : _} {a3 : _} {a4 : _} (hm : 262162 ||| m = m) (h : Keeps m r s) :
    Keeps m r (State.faultOff s a2 a3 a4) := by
  unfold State.faultOff
  repeat' first
    | with_reducible first
      | assumption
      | refine State.detect_keeps (sub_trans (by decide) hm) ?_
    | split
    | dsimp only

/-! ## Memory -/

theorem State.linkFault_keeps {a2 : _} {a3 : _} (hm : 262162 ||| m = m) (h : Keeps m r s) :
    Keeps m r (State.linkFault s a2 a3) := by
  unfold State.linkFault
  repeat' first
    | with_reducible first
      | assumption
      | refine Keeps.ite ?_ ?_
      | refine State.fault_keeps (sub_trans (by decide) hm) ?_
    | split
    | dsimp only

theorem State.eccError_keeps {a2 : _} {a3 : _} {a4 : _} {a5 : _} (hm : 262162 ||| m = m) (h : Keeps m r s) :
    Keeps m r (State.eccError s a2 a3 a4 a5) := by
  unfold State.eccError
  repeat' first
    | with_reducible first
      | assumption
      | refine Keeps.ite ?_ ?_
      | refine State.event_keeps (sub_trans (by decide) hm) ?_
      | refine State.faultInjected_keeps (sub_trans (by decide) hm) ?_
      | refine State.setn_keeps (sub_trans (by decide) hm) ?_
      | refine State.bump_keeps (sub_trans (by decide) hm) ?_
    | split
    | dsimp only

theorem State.setMark_keeps {a2 : _} {a3 : _} (hm : 1024 ||| m = m) (h : Keeps m r s) :
    Keeps m r (State.setMark s a2 a3) := by
  unfold State.setMark
  repeat' first
    | with_reducible first
      | assumption
      | (refine Keeps.fabric hm (by decide) rfl rfl ?_; assumption)
    | split
    | dsimp only

theorem State.readGranule_keeps {a2 : _} {a3 : _} (hm : 263186 ||| m = m) (h : Keeps m r s) :
    Keeps m r (State.readGranule s a2 a3) := by
  unfold State.readGranule
  repeat' first
    | with_reducible first
      | assumption
      | refine State.setMark_keeps (sub_trans (by decide) hm) ?_
      | refine State.eccError_keeps (sub_trans (by decide) hm) ?_
    | split
    | dsimp only

theorem State.writeGranule_keeps {a2 : _} (hm : 263186 ||| m = m) (h : Keeps m r s) :
    Keeps m r (State.writeGranule s a2) := by
  unfold State.writeGranule
  repeat' first
    | with_reducible first
      | assumption
      | refine Keeps.ite ?_ ?_
      | refine State.spendInjection_keeps (sub_trans (by decide) hm) ?_
      | refine State.setMark_keeps (sub_trans (by decide) hm) ?_
    | split
    | dsimp only

theorem State.touchGranule_keeps {a2 : _} {a3 : _} {a4 : _} {a5 : _} {a6 : _} (hm : 263186 ||| m = m) (h : Keeps m r s) :
    Keeps m r (State.touchGranule s a2 a3 a4 a5 a6) := by
  unfold State.touchGranule
  repeat' first
    | with_reducible first
      | assumption
      | refine Keeps.ite ?_ ?_
      | refine State.readGranule_keeps (sub_trans (by decide) hm) ?_
      | refine State.writeGranule_keeps (sub_trans (by decide) hm) ?_
    | split
    | dsimp only

theorem State.readRange_keeps {a2 : _} {a3 : _} {a4 : _} (hm : 263186 ||| m = m) (h : Keeps m r s) :
    Keeps m r (State.readRange s a2 a3 a4) := by
  unfold State.readRange
  try lift_lets
  repeat (intro x; first
    | (have hx : Keeps m r x := by
        dsimp only [x]
        repeat' first
          | with_reducible first
            | assumption
            | refine State.readGranule_keeps (sub_trans (by decide) hm) ?_
            | refine Keeps.each ?_ ?_
          | (intro t x ht)
          | (intro t ht)
          | (intro t y z ht)
          | (intro ht)
          | split
          | dsimp only
       clear_value x)
    | clear_value x)
  repeat' first
    | with_reducible first
      | assumption
      | refine State.readGranule_keeps (sub_trans (by decide) hm) ?_
      | refine Keeps.each ?_ ?_
    | (intro t x ht)
    | (intro t ht)
    | (intro t y z ht)
    | (intro ht)
    | split
    | dsimp only

theorem State.touchRange_keeps {a2 : _} {a3 : _} {a4 : _} (hm : 263186 ||| m = m) (h : Keeps m r s) :
    Keeps m r (State.touchRange s a2 a3 a4) := by
  unfold State.touchRange
  try lift_lets
  repeat (intro x; first
    | (have hx : Keeps m r x := by
        dsimp only [x]
        repeat' first
          | with_reducible first
            | assumption
            | refine Keeps.ite ?_ ?_
            | refine State.touchGranule_keeps (sub_trans (by decide) hm) ?_
            | refine Keeps.each ?_ ?_
          | (intro t x ht)
          | (intro t ht)
          | (intro t y z ht)
          | (intro ht)
          | split
          | dsimp only
       clear_value x)
    | clear_value x)
  repeat' first
    | with_reducible first
      | assumption
      | refine Keeps.ite ?_ ?_
      | refine State.touchGranule_keeps (sub_trans (by decide) hm) ?_
      | refine Keeps.each ?_ ?_
    | (intro t x ht)
    | (intro t ht)
    | (intro t y z ht)
    | (intro ht)
    | split
    | dsimp only

theorem State.store_keeps {a2 : _} {a3 : _} {a4 : _} {a5 : _} (hm : 269330 ||| m = m) (h : Keeps m r s) :
    Keeps m r (State.store s a2 a3 a4 a5) := by
  unfold State.store
  repeat' first
    | with_reducible first
      | assumption
      | refine Keeps.ite ?_ ?_
      | refine State.hostWrite_keeps (sub_trans (by decide) hm) ?_
      | refine State.touchRange_keeps (sub_trans (by decide) hm) ?_
      | refine State.dramWrite_keeps (sub_trans (by decide) hm) ?_
    | split
    | dsimp only

/-! ## Flash -/

theorem State.setFlashUnit_keeps {a2 : _} {a3 : _} {a4 : _} (hm : 65536 ||| m = m) (h : Keeps m r s) :
    Keeps m r (State.setFlashUnit s a2 a3 a4) := by
  unfold State.setFlashUnit
  repeat' first
    | with_reducible first
      | assumption
      | (refine Keeps.crock hm (by decide) ?_; assumption)
    | split
    | dsimp only

theorem State.trimUnit_keeps {a2 : _} {a3 : _} (hm : 65536 ||| m = m) (h : Keeps m r s) :
    Keeps m r (State.trimUnit s a2 a3) := by
  unfold State.trimUnit
  repeat' first
    | with_reducible first
      | assumption
      | refine Keeps.ite ?_ ?_
      | refine State.setFlashUnit_keeps (sub_trans (by decide) hm) ?_
    | split
    | dsimp only

theorem State.eraseSlot_keeps {a2 : _} (hm : 65536 ||| m = m) (h : Keeps m r s) :
    Keeps m r (State.eraseSlot s a2) := by
  unfold State.eraseSlot
  repeat' first
    | with_reducible first
      | assumption
      | (refine Keeps.crock hm (by decide) ?_; assumption)
    | split
    | dsimp only

theorem State.program_keeps {a2 : _} {a3 : _} (hm : 262162 ||| m = m) (h : Keeps m r s) :
    Keeps m r (State.program s a2 a3) := by
  unfold State.program
  repeat' first
    | with_reducible first
      | assumption
      | refine Keeps.ite ?_ ?_
      | refine State.setn_keeps (sub_trans (by decide) hm) ?_
      | refine State.event_keeps (sub_trans (by decide) hm) ?_
      | refine State.fault_keeps (sub_trans (by decide) hm) ?_
    | split
    | dsimp only

theorem State.archiveBlock_keeps {a2 : _} {a3 : _} (hm : 327698 ||| m = m) (h : Keeps m r s) :
    Keeps m r (State.archiveBlock s a2 a3) := by
  unfold State.archiveBlock
  try lift_lets
  repeat (intro x; first
    | (have hx : Keeps m r x := by
        dsimp only [x]
        repeat' first
          | with_reducible first
            | assumption
            | refine Keeps.ite ?_ ?_
            | refine State.setFlashUnit_keeps (sub_trans (by decide) hm) ?_
            | refine State.program_keeps (sub_trans (by decide) hm) ?_
            | refine Keeps.each ?_ ?_
            | (refine Keeps.crock hm (by decide) ?_; assumption)
          | (intro t x ht)
          | (intro t ht)
          | (intro t y z ht)
          | (intro ht)
          | split
          | dsimp only
       clear_value x)
    | clear_value x)
  repeat' first
    | with_reducible first
      | assumption
      | refine Keeps.ite ?_ ?_
      | refine State.setFlashUnit_keeps (sub_trans (by decide) hm) ?_
      | refine State.program_keeps (sub_trans (by decide) hm) ?_
      | refine Keeps.each ?_ ?_
      | (refine Keeps.crock hm (by decide) ?_; assumption)
    | (intro t x ht)
    | (intro t ht)
    | (intro t y z ht)
    | (intro ht)
    | split
    | dsimp only

theorem State.mramWrite_keeps {a2 : _} {a3 : _} (hm : 65536 ||| m = m) (h : Keeps m r s) :
    Keeps m r (State.mramWrite s a2 a3) := by
  unfold State.mramWrite
  repeat' first
    | with_reducible first
      | assumption
      | (refine Keeps.crock hm (by decide) ?_; assumption)
    | split
    | dsimp only

theorem State.spoolEvent_keeps {a2 : _} {a3 : _} {a4 : _} {a5 : _} (hm : 16 ||| m = m) (h : Keeps m r s) :
    Keeps m r (State.spoolEvent s a2 a3 a4 a5) := by
  unfold State.spoolEvent
  repeat' first
    | with_reducible first
      | assumption
      | refine State.event_keeps (sub_trans (by decide) hm) ?_
    | split
    | dsimp only

theorem State.autoSpool_keeps {a2 : _} {a3 : _} (hm : 65552 ||| m = m) (h : Keeps m r s) :
    Keeps m r (State.autoSpool s a2 a3) := by
  unfold State.autoSpool
  repeat' first
    | with_reducible first
      | assumption
      | refine Keeps.ite ?_ ?_
      | refine State.spoolEvent_keeps (sub_trans (by decide) hm) ?_
      | (refine Keeps.crock hm (by decide) ?_; assumption)
    | split
    | dsimp only

theorem State.unlinkSpool_keeps {a2 : _} (hm : 65536 ||| m = m) (h : Keeps m r s) :
    Keeps m r (State.unlinkSpool s a2) := by
  unfold State.unlinkSpool
  repeat' first
    | with_reducible first
      | assumption
      | refine Keeps.ite ?_ ?_
      | (refine Keeps.crock hm (by decide) ?_; assumption)
    | split
    | dsimp only

theorem State.deleteAutomatic_keeps {a2 : _} (hm : 65552 ||| m = m) (h : Keeps m r s) :
    Keeps m r (State.deleteAutomatic s a2) := by
  unfold State.deleteAutomatic
  try lift_lets
  repeat (intro x; first
    | (have hx : Keeps m r x := by
        dsimp only [x]
        repeat' first
          | with_reducible first
            | assumption
            | refine Keeps.ite ?_ ?_
            | refine State.mramWrite_keeps (sub_trans (by decide) hm) ?_
            | refine State.spoolEvent_keeps (sub_trans (by decide) hm) ?_
            | refine Keeps.each ?_ ?_
            | (refine Keeps.crock hm (by decide) ?_; assumption)
          | (intro t x ht)
          | (intro t ht)
          | (intro t y z ht)
          | (intro ht)
          | split
          | dsimp only
       clear_value x)
    | clear_value x)
  repeat' first
    | with_reducible first
      | assumption
      | refine Keeps.ite ?_ ?_
      | refine State.mramWrite_keeps (sub_trans (by decide) hm) ?_
      | refine State.spoolEvent_keeps (sub_trans (by decide) hm) ?_
      | refine Keeps.each ?_ ?_
      | (refine Keeps.crock hm (by decide) ?_; assumption)
    | (intro t x ht)
    | (intro t ht)
    | (intro t y z ht)
    | (intro ht)
    | split
    | dsimp only

/-! ## Rings -/

theorem State.hostFault_keeps {a2 : _} (hm : 262162 ||| m = m) (h : Keeps m r s) :
    Keeps m r (State.hostFault s a2) := by
  unfold State.hostFault
  repeat' first
    | with_reducible first
      | assumption
      | refine State.fault_keeps (sub_trans (by decide) hm) ?_
    | split
    | dsimp only

theorem State.ringEvent_keeps {a2 : _} {a3 : _} {a4 : _} (hm : 16 ||| m = m) (h : Keeps m r s) :
    Keeps m r (State.ringEvent s a2 a3 a4) := by
  unfold State.ringEvent
  repeat' first
    | with_reducible first
      | assumption
      | refine State.event_keeps (sub_trans (by decide) hm) ?_
    | split
    | dsimp only

theorem State.oneMs_keeps {a2 : _} (hm : 4 ||| m = m) (h : Keeps m r s) :
    Keeps m r (State.oneMs s a2) := by
  unfold State.oneMs
  repeat' first
    | with_reducible first
      | assumption
      | refine Keeps.ite ?_ ?_
      | refine State.after_keeps (sub_trans (by decide) hm) ?_
    | split
    | dsimp only

theorem State.startActs_keeps {a2 : _} (hm : 4 ||| m = m) (h : Keeps m r s) :
    Keeps m r (State.startActs s a2) := by
  unfold State.startActs
  try lift_lets
  repeat (intro x; first
    | (have hx : Keeps m r x := by
        dsimp only [x]
        repeat' first
          | with_reducible first
            | assumption
            | refine State.oneMs_keeps (sub_trans (by decide) hm) ?_
            | refine Keeps.when ?_ ?_
          | (intro t x ht)
          | (intro t ht)
          | (intro t y z ht)
          | (intro ht)
          | split
          | dsimp only
       clear_value x)
    | clear_value x)
  repeat' first
    | with_reducible first
      | assumption
      | refine State.oneMs_keeps (sub_trans (by decide) hm) ?_
      | refine Keeps.when ?_ ?_
    | (intro t x ht)
    | (intro t ht)
    | (intro t y z ht)
    | (intro ht)
    | split
    | dsimp only

theorem State.answersSent_keeps  (hm : 1048580 ||| m = m) (h : Keeps m r s) :
    Keeps m r (State.answersSent s) := by
  unfold State.answersSent
  repeat' first
    | with_reducible first
      | assumption
      | refine State.startActs_keeps (sub_trans (by decide) hm) ?_
      | (refine Keeps.trust hm (by decide) ?_; assumption)
    | split
    | dsimp only

theorem State.noteAnswer_keeps {a2 : _} {a3 : _} (hm : 1048580 ||| m = m) (h : Keeps m r s) :
    Keeps m r (State.noteAnswer s a2 a3) := by
  unfold State.noteAnswer
  repeat' first
    | with_reducible first
      | assumption
      | refine Keeps.ite ?_ ?_
      | refine State.startActs_keeps (sub_trans (by decide) hm) ?_
      | (refine Keeps.trust hm (by decide) ?_; assumption)
    | split
    | dsimp only

theorem State.sendMessage_keeps {a2 : _} (hm : 1048612 ||| m = m) (h : Keeps m r s) :
    Keeps m r (State.sendMessage s a2) := by
  unfold State.sendMessage
  repeat' first
    | with_reducible first
      | assumption
      | refine Keeps.ite ?_ ?_
      | refine State.disarm_keeps (sub_trans (by decide) hm) ?_
      | refine State.setRing_keeps (sub_trans (by decide) hm) ?_
      | refine State.answersSent_keeps (sub_trans (by decide) hm) ?_
    | split
    | dsimp only

theorem State.announce_keeps {a2 : _} (hm : 1048612 ||| m = m) (h : Keeps m r s) :
    Keeps m r (State.announce s a2) := by
  unfold State.announce
  repeat' first
    | with_reducible first
      | assumption
      | refine Keeps.ite ?_ ?_
      | refine State.setRing_keeps (sub_trans (by decide) hm) ?_
      | refine State.sendMessage_keeps (sub_trans (by decide) hm) ?_
      | refine State.after_keeps (sub_trans (by decide) hm) ?_
    | split
    | dsimp only

theorem State.writeEntry_keeps {a2 : _} {a3 : _} (hm : 1048612 ||| m = m) (h : Keeps m r s) :
    Keeps m r (State.writeEntry s a2 a3) := by
  unfold State.writeEntry
  repeat' first
    | with_reducible first
      | assumption
      | refine Keeps.ite ?_ ?_
      | refine State.noteAnswer_keeps (sub_trans (by decide) hm) ?_
      | refine State.announce_keeps (sub_trans (by decide) hm) ?_
      | refine State.setRing_keeps (sub_trans (by decide) hm) ?_
    | split
    | dsimp only

theorem State.hold_keeps {a2 : _} {a3 : _} (hm : 50 ||| m = m) (h : Keeps m r s) :
    Keeps m r (State.hold s a2 a3) := by
  unfold State.hold
  repeat' first
    | with_reducible first
      | assumption
      | refine Keeps.ite ?_ ?_
      | refine State.setRing_keeps (sub_trans (by decide) hm) ?_
      | refine State.bump_keeps (sub_trans (by decide) hm) ?_
      | refine State.ringEvent_keeps (sub_trans (by decide) hm) ?_
    | split
    | dsimp only

theorem State.produce_keeps {a2 : _} {a3 : _} (hm : 1048630 ||| m = m) (h : Keeps m r s) :
    Keeps m r (State.produce s a2 a3) := by
  unfold State.produce
  repeat' first
    | with_reducible first
      | assumption
      | refine Keeps.ite ?_ ?_
      | refine State.writeEntry_keeps (sub_trans (by decide) hm) ?_
      | refine State.hold_keeps (sub_trans (by decide) hm) ?_
    | split
    | dsimp only

theorem State.flushWaiting_keeps {k ring : Nat} (hm : 1048612 ||| m = m) (h : Keeps m r s) :
    Keeps m r (State.flushWaiting k s ring) := by
  induction k generalizing s with
  | zero => exact h
  | succ k ih =>
    unfold State.flushWaiting
    split
    · exact h
    · split
      · exact ih (State.writeEntry_keeps (sub_trans (by decide) hm) (State.setRing_keeps (sub_trans (by decide) hm) h))
      · exact h

theorem State.flush_keeps {a2 : _} (hm : 1048612 ||| m = m) (h : Keeps m r s) :
    Keeps m r (State.flush s a2) := by
  unfold State.flush
  repeat' first
    | with_reducible first
      | assumption
      | refine State.flushWaiting_keeps (sub_trans (by decide) hm) ?_
    | split
    | dsimp only

theorem State.ringError_keeps {a2 : _} (hm : 32 ||| m = m) (h : Keeps m r s) :
    Keeps m r (State.ringError s a2) := by
  unfold State.ringError
  repeat' first
    | with_reducible first
      | assumption
      | refine State.setRing_keeps (sub_trans (by decide) hm) ?_
    | split
    | dsimp only

theorem State.entryFails_keeps {a2 : _} {a3 : _} (hm : 262194 ||| m = m) (h : Keeps m r s) :
    Keeps m r (State.entryFails s a2 a3) := by
  unfold State.entryFails
  repeat' first
    | with_reducible first
      | assumption
      | refine State.ringEvent_keeps (sub_trans (by decide) hm) ?_
      | refine State.hostFault_keeps (sub_trans (by decide) hm) ?_
      | refine State.fault_keeps (sub_trans (by decide) hm) ?_
      | refine State.ringError_keeps (sub_trans (by decide) hm) ?_
    | split
    | dsimp only

theorem State.consumed_keeps {a2 : _} (hm : 1048612 ||| m = m) (h : Keeps m r s) :
    Keeps m r (State.consumed s a2) := by
  unfold State.consumed
  repeat' first
    | with_reducible first
      | assumption
      | refine State.announce_keeps (sub_trans (by decide) hm) ?_
      | refine State.setRing_keeps (sub_trans (by decide) hm) ?_
    | split
    | dsimp only

theorem State.takeEntry_keeps {n : Nat} {e : Entry} {k : State → List Nat → State} (hm : 1310774 ||| m = m)
    (h : Keeps m r s) (hf : ∀ t ws, Keeps m r t → Keeps m r (k t ws)) : Keeps m r (s.takeEntry n e k) := by
  unfold State.takeEntry
  split
  · split
    · exact State.entryFails_keeps (sub_trans (by decide) hm) h
    · exact hf _ _ (State.consumed_keeps (sub_trans (by decide) hm) h)
  · exact h

theorem State.finishEntry_keeps {a2 : _} (hm : 32 ||| m = m) (h : Keeps m r s) :
    Keeps m r (State.finishEntry s a2) := by
  unfold State.finishEntry
  repeat' first
    | with_reducible first
      | assumption
      | refine State.setRing_keeps (sub_trans (by decide) hm) ?_
    | split
    | dsimp only

theorem State.readInPlace_keeps {n : Nat} {e : Entry} {k : State → Nat → List Nat → State} (hm : 262194 ||| m = m)
    (h : Keeps m r s) (hf : ∀ t x ws, Keeps m r t → Keeps m r (k t x ws)) : Keeps m r (s.readInPlace n e k) := by
  unfold State.readInPlace
  split
  · split
    · exact State.entryFails_keeps (sub_trans (by decide) hm) h
    · exact hf _ _ _ (State.setRing_keeps (sub_trans (by decide) hm) h)
  · exact h

theorem State.settleInPlace_keeps {a2 : _} (hm : 1048612 ||| m = m) (h : Keeps m r s) :
    Keeps m r (State.settleInPlace s a2) := by
  unfold State.settleInPlace
  repeat' first
    | with_reducible first
      | assumption
      | refine Keeps.ite ?_ ?_
      | refine State.setRing_keeps (sub_trans (by decide) hm) ?_
      | refine State.announce_keeps (sub_trans (by decide) hm) ?_
      | refine Keeps.foldl ?_ ?_
    | split
    | dsimp only

theorem State.completeInPlace_keeps {a2 : _} {a3 : _} {a4 : _} {a5 : _} (hm : 1048612 ||| m = m) (h : Keeps m r s) :
    Keeps m r (State.completeInPlace s a2 a3 a4 a5) := by
  unfold State.completeInPlace
  repeat' first
    | with_reducible first
      | assumption
      | refine State.settleInPlace_keeps (sub_trans (by decide) hm) ?_
      | refine State.setRing_keeps (sub_trans (by decide) hm) ?_
    | split
    | dsimp only

/-! ## Recorder -/

theorem State.lose_keeps  (hm : 18 ||| m = m) (h : Keeps m r s) :
    Keeps m r (State.lose s) := by
  unfold State.lose
  repeat' first
    | with_reducible first
      | assumption
      | refine State.bump_keeps (sub_trans (by decide) hm) ?_
      | (refine Keeps.ev hm (by decide) ?_; assumption)
    | split
    | dsimp only

theorem State.discardOldest_keeps  (hm : 18 ||| m = m) (h : Keeps m r s) :
    Keeps m r (State.discardOldest s) := by
  unfold State.discardOldest
  repeat' first
    | with_reducible first
      | assumption
      | refine State.lose_keeps (sub_trans (by decide) hm) ?_
      | (refine Keeps.ev hm (by decide) ?_; assumption)
    | split
    | dsimp only

theorem State.place_keeps {a2 : _} {a3 : _} {a4 : _} {a5 : _} (hm : 16 ||| m = m) (h : Keeps m r s) :
    Keeps m r (State.place s a2 a3 a4 a5) := by
  unfold State.place
  repeat' first
    | with_reducible first
      | assumption
      | (refine Keeps.ev hm (by decide) ?_; assumption)
    | split
    | dsimp only

theorem State.damageNewest_keeps  (hm : 18 ||| m = m) (h : Keeps m r s) :
    Keeps m r (State.damageNewest s) := by
  unfold State.damageNewest
  repeat' first
    | with_reducible first
      | assumption
      | refine State.bump_keeps (sub_trans (by decide) hm) ?_
      | (refine Keeps.ev hm (by decide) ?_; assumption)
    | split
    | dsimp only

theorem State.traceLevel_keeps  (hm : 16 ||| m = m) (h : Keeps m r s) :
    Keeps m r (State.traceLevel s) := by
  unfold State.traceLevel
  repeat' first
    | with_reducible first
      | assumption
      | refine Keeps.ite ?_ ?_
      | refine State.event_keeps (sub_trans (by decide) hm) ?_
      | (refine Keeps.ev hm (by decide) ?_; assumption)
    | split
    | dsimp only

theorem State.enterTrace_keeps {a2 : _} (hm : 16 ||| m = m) (h : Keeps m r s) :
    Keeps m r (State.enterTrace s a2) := by
  unfold State.enterTrace
  repeat' first
    | with_reducible first
      | assumption
      | refine Keeps.ite ?_ ?_
      | refine State.place_keeps (sub_trans (by decide) hm) ?_
      | (refine Keeps.ev hm (by decide) ?_; assumption)
    | split
    | dsimp only

theorem State.arrive_keeps {a2 : _} (hm : 18 ||| m = m) (h : Keeps m r s) :
    Keeps m r (State.arrive s a2) := by
  unfold State.arrive
  repeat' first
    | with_reducible first
      | assumption
      | refine Keeps.ite ?_ ?_
      | refine State.discardOldest_keeps (sub_trans (by decide) hm) ?_
      | refine State.traceLevel_keeps (sub_trans (by decide) hm) ?_
      | refine State.enterTrace_keeps (sub_trans (by decide) hm) ?_
      | refine State.lose_keeps (sub_trans (by decide) hm) ?_
    | split
    | dsimp only

theorem State.drainEntry_keeps {a2 : _} {a3 : _} (hm : 1048628 ||| m = m) (h : Keeps m r s) :
    Keeps m r (State.drainEntry s a2 a3) := by
  unfold State.drainEntry
  repeat' first
    | with_reducible first
      | assumption
      | refine State.writeEntry_keeps (sub_trans (by decide) hm) ?_
      | (refine Keeps.ev hm (by decide) ?_; assumption)
    | split
    | dsimp only

theorem State.drainPairs_keeps {k ring : Nat} (hm : 1048628 ||| m = m) (h : Keeps m r s) :
    Keeps m r (State.drainPairs k s ring) := by
  induction k generalizing s with
  | zero => exact h
  | succ k ih =>
    unfold State.drainPairs
    split
    · exact ih (State.drainEntry_keeps (sub_trans (by decide) hm) h)
    · exact h

theorem State.drainTimer_keeps {a2 : _} (hm : 4 ||| m = m) (h : Keeps m r s) :
    Keeps m r (State.drainTimer s a2) := by
  unfold State.drainTimer
  repeat' first
    | with_reducible first
      | assumption
      | refine State.disarm_keeps (sub_trans (by decide) hm) ?_
      | refine State.arm_keeps (sub_trans (by decide) hm) ?_
    | split
    | dsimp only

theorem State.drainRing_keeps {a2 : _} (hm : 1048628 ||| m = m) (h : Keeps m r s) :
    Keeps m r (State.drainRing s a2) := by
  unfold State.drainRing
  repeat' first
    | with_reducible first
      | assumption
      | refine State.traceLevel_keeps (sub_trans (by decide) hm) ?_
      | refine State.drainTimer_keeps (sub_trans (by decide) hm) ?_
      | refine State.drainPairs_keeps (sub_trans (by decide) hm) ?_
    | split
    | dsimp only

theorem execTraceEntry_keeps (hm : 1048630 ||| m = m) (h : Keeps m r s) : KeepsO m r (execTraceEntry s) := by
  unfold execTraceEntry
  split
  · exact KeepsO.next h
  · extract_lets n src s1 s2 s3
    split
    · have h1 : Keeps m r s1 := Keeps.ev hm (by decide) h
      have h2 : Keeps m r s2 := State.arrive_keeps (sub_trans (by decide) hm) h1
      have h3 : Keeps m r s3 := by
        dsimp only [s3]
        exact Keeps.ite (State.damageNewest_keeps (sub_trans (by decide) hm) h2) h2
      exact KeepsO.next (State.drainRing_keeps (sub_trans (by decide) hm) (Keeps.ev hm (by decide) h3))
    · exact KeepsO.next h

theorem execDrainHoldoffExpired_keeps {a1 : _} (hm : 1048628 ||| m = m) (h : Keeps m r s) :
    KeepsO m r (execDrainHoldoffExpired a1 s) := by
  unfold execDrainHoldoffExpired
  repeat' first
    | with_reducible first
      | assumption
      | refine KeepsO.next ?_
      | exact KeepsO.fault
      | refine KeepsO.ite ?_ ?_
      | refine Keeps.ite ?_ ?_
      | refine State.drainRing_keeps (sub_trans (by decide) hm) ?_
      | refine State.disarm_keeps (sub_trans (by decide) hm) ?_
      | refine State.drainEntry_keeps (sub_trans (by decide) hm) ?_
    | split
    | dsimp only

/-! ## Position -/

theorem State.noteAxis_keeps {a2 : _} (hm : 8 ||| m = m) (h : Keeps m r s) :
    Keeps m r (State.noteAxis s a2) := by
  unfold State.noteAxis
  repeat' first
    | with_reducible first
      | assumption
      | (refine Keeps.pos hm (by decide) ?_; assumption)
    | split
    | dsimp only

theorem State.moveAxis_keeps {a2 : _} {a3 : _} (hm : 26 ||| m = m) (h : Keeps m r s) :
    Keeps m r (State.moveAxis s a2 a3) := by
  unfold State.moveAxis
  try lift_lets
  repeat (intro x; first
    | (have hx : Keeps m r x := by
        dsimp only [x]
        repeat' first
          | with_reducible first
            | assumption
            | refine Keeps.ite ?_ ?_
            | refine State.noteAxis_keeps (sub_trans (by decide) hm) ?_
            | refine State.eventHw_keeps (sub_trans (by decide) hm) ?_
            | refine State.bump16_keeps (sub_trans (by decide) hm) ?_
            | (refine Keeps.pos hm (by decide) ?_; assumption)
          | (intro t x ht)
          | (intro t ht)
          | (intro t y z ht)
          | (intro ht)
          | split
          | dsimp only
       clear_value x)
    | clear_value x)
  repeat' first
    | with_reducible first
      | assumption
      | refine Keeps.ite ?_ ?_
      | refine State.noteAxis_keeps (sub_trans (by decide) hm) ?_
      | refine State.eventHw_keeps (sub_trans (by decide) hm) ?_
      | refine State.bump16_keeps (sub_trans (by decide) hm) ?_
      | (refine Keeps.pos hm (by decide) ?_; assumption)
    | (intro t x ht)
    | (intro t ht)
    | (intro t y z ht)
    | (intro ht)
    | split
    | dsimp only

theorem State.presetPosition_keeps {a2 : _} {a3 : _} (hm : 24 ||| m = m) (h : Keeps m r s) :
    Keeps m r (State.presetPosition s a2 a3) := by
  unfold State.presetPosition
  try lift_lets
  repeat (intro x; first
    | (have hx : Keeps m r x := by
        dsimp only [x]
        repeat' first
          | with_reducible first
            | assumption
            | refine State.noteAxis_keeps (sub_trans (by decide) hm) ?_
            | refine State.event_keeps (sub_trans (by decide) hm) ?_
            | (refine Keeps.pos hm (by decide) ?_; assumption)
          | (intro t x ht)
          | (intro t ht)
          | (intro t y z ht)
          | (intro ht)
          | split
          | dsimp only
       clear_value x)
    | clear_value x)
  repeat' first
    | with_reducible first
      | assumption
      | refine State.noteAxis_keeps (sub_trans (by decide) hm) ?_
      | refine State.event_keeps (sub_trans (by decide) hm) ?_
      | (refine Keeps.pos hm (by decide) ?_; assumption)
    | (intro t x ht)
    | (intro t ht)
    | (intro t y z ht)
    | (intro ht)
    | split
    | dsimp only

theorem State.feed_keeps {a2 : _} {a3 : _} (hm : 26 ||| m = m) (h : Keeps m r s) :
    Keeps m r (State.feed s a2 a3) := by
  unfold State.feed
  try lift_lets
  repeat (intro x; first
    | (have hx : Keeps m r x := by
        dsimp only [x]
        repeat' first
          | with_reducible first
            | assumption
            | refine Keeps.ite ?_ ?_
            | refine State.moveAxis_keeps (sub_trans (by decide) hm) ?_
            | refine Keeps.each ?_ ?_
          | (intro t x ht)
          | (intro t ht)
          | (intro t y z ht)
          | (intro ht)
          | split
          | dsimp only
       clear_value x)
    | clear_value x)
  repeat' first
    | with_reducible first
      | assumption
      | refine Keeps.ite ?_ ?_
      | refine State.moveAxis_keeps (sub_trans (by decide) hm) ?_
      | refine Keeps.each ?_ ?_
    | (intro t x ht)
    | (intro t ht)
    | (intro t y z ht)
    | (intro ht)
    | split
    | dsimp only

theorem State.setVelocity_keeps {a2 : _} {a3 : _} (hm : 2 ||| m = m) (h : Keeps m r s) :
    Keeps m r (State.setVelocity s a2 a3) := by
  unfold State.setVelocity
  try lift_lets
  repeat (intro x; first
    | (have hx : Keeps m r x := by
        dsimp only [x]
        repeat' first
          | with_reducible first
            | assumption
            | refine Keeps.ite ?_ ?_
            | refine State.seti_keeps (sub_trans (by decide) hm) ?_
            | refine Keeps.each ?_ ?_
          | (intro t x ht)
          | (intro t ht)
          | (intro t y z ht)
          | (intro ht)
          | split
          | dsimp only
       clear_value x)
    | clear_value x)
  repeat' first
    | with_reducible first
      | assumption
      | refine Keeps.ite ?_ ?_
      | refine State.seti_keeps (sub_trans (by decide) hm) ?_
      | refine Keeps.each ?_ ?_
    | (intro t x ht)
    | (intro t ht)
    | (intro t y z ht)
    | (intro ht)
    | split
    | dsimp only

theorem State.holdA1_keeps  (hm : 8 ||| m = m) (h : Keeps m r s) :
    Keeps m r (State.holdA1 s) := by
  unfold State.holdA1
  repeat' first
    | with_reducible first
      | assumption
      | (refine Keeps.pos hm (by decide) ?_; assumption)
    | split
    | dsimp only

theorem State.setLoop_keeps {a2 : _} {a3 : _} (hm : 26 ||| m = m) (h : Keeps m r s) :
    Keeps m r (State.setLoop s a2 a3) := by
  unfold State.setLoop
  repeat' first
    | with_reducible first
      | assumption
      | refine Keeps.ite ?_ ?_
      | refine State.holdA1_keeps (sub_trans (by decide) hm) ?_
      | refine State.setn_keeps (sub_trans (by decide) hm) ?_
      | refine State.eventHw_keeps (sub_trans (by decide) hm) ?_
    | split
    | dsimp only

theorem State.dropAhead_keeps {a2 : _} (hm : 26 ||| m = m) (h : Keeps m r s) :
    Keeps m r (State.dropAhead s a2) := by
  unfold State.dropAhead
  repeat' first
    | with_reducible first
      | assumption
      | refine State.feed_keeps (sub_trans (by decide) hm) ?_
      | refine State.setEnc_keeps (sub_trans (by decide) hm) ?_
    | split
    | dsimp only

theorem State.loopFault_keeps {a2 : _} (hm : 26 ||| m = m) (h : Keeps m r s) :
    Keeps m r (State.loopFault s a2) := by
  unfold State.loopFault
  repeat' first
    | with_reducible first
      | assumption
      | refine State.setLoop_keeps (sub_trans (by decide) hm) ?_
      | refine State.setVelocity_keeps (sub_trans (by decide) hm) ?_
      | refine State.setEnc_keeps (sub_trans (by decide) hm) ?_
      | refine State.dropAhead_keeps (sub_trans (by decide) hm) ?_
    | split
    | dsimp only

theorem State.countEdge_keeps {a2 : _} {a3 : _} (hm : 4194334 ||| m = m) (h : Keeps m r s) :
    Keeps m r (State.countEdge s a2 a3) := by
  unfold State.countEdge
  repeat' first
    | with_reducible first
      | assumption
      | refine Keeps.ite ?_ ?_
      | refine State.draw_keeps (sub_trans (by decide) hm) ?_
      | refine State.setEnc_keeps (sub_trans (by decide) hm) ?_
      | refine State.feed_keeps (sub_trans (by decide) hm) ?_
      | refine State.setn_keeps (sub_trans (by decide) hm) ?_
      | refine State.after_keeps (sub_trans (by decide) hm) ?_
      | refine State.setVelocity_keeps (sub_trans (by decide) hm) ?_
    | split
    | dsimp only

theorem State.loopEdge_keeps {a2 : _} {a3 : _} (hm : 262170 ||| m = m) (h : Keeps m r s) :
    Keeps m r (State.loopEdge s a2 a3) := by
  unfold State.loopEdge
  repeat' first
    | with_reducible first
      | assumption
      | refine Keeps.ite ?_ ?_
      | refine State.setEnc_keeps (sub_trans (by decide) hm) ?_
      | refine State.setLoop_keeps (sub_trans (by decide) hm) ?_
      | refine State.loopFault_keeps (sub_trans (by decide) hm) ?_
      | refine State.fault_keeps (sub_trans (by decide) hm) ?_
    | split
    | dsimp only

theorem execEncoderEdge_keeps {a1 : _} {a2 : _} {a3 : _} (hm : 4456478 ||| m = m) (h : Keeps m r s) :
    KeepsO m r (execEncoderEdge a1 a2 a3 s) := by
  unfold execEncoderEdge
  repeat' first
    | with_reducible first
      | assumption
      | refine KeepsO.next ?_
      | exact KeepsO.fault
      | refine KeepsO.ite ?_ ?_
      | refine Keeps.ite ?_ ?_
      | refine State.setEnc_keeps (sub_trans (by decide) hm) ?_
      | refine State.fault_keeps (sub_trans (by decide) hm) ?_
      | refine State.loopFault_keeps (sub_trans (by decide) hm) ?_
      | refine State.loopEdge_keeps (sub_trans (by decide) hm) ?_
      | refine State.countEdge_keeps (sub_trans (by decide) hm) ?_
    | split
    | dsimp only

theorem execEncoderStandstillTimeout_keeps {a1 : _} (hm : 30 ||| m = m) (h : Keeps m r s) :
    KeepsO m r (execEncoderStandstillTimeout a1 s) := by
  unfold execEncoderStandstillTimeout
  repeat' first
    | with_reducible first
      | assumption
      | refine KeepsO.next ?_
      | exact KeepsO.fault
      | refine KeepsO.ite ?_ ?_
      | refine Keeps.ite ?_ ?_
      | refine State.disarm_keeps (sub_trans (by decide) hm) ?_
      | refine State.dropAhead_keeps (sub_trans (by decide) hm) ?_
      | refine State.setLoop_keeps (sub_trans (by decide) hm) ?_
      | refine State.setVelocity_keeps (sub_trans (by decide) hm) ?_
      | refine State.setEnc_keeps (sub_trans (by decide) hm) ?_
    | split
    | dsimp only

theorem execEncoderSignalInvalid_keeps {a1 : _} (hm : 262170 ||| m = m) (h : Keeps m r s) :
    KeepsO m r (execEncoderSignalInvalid a1 s) := by
  unfold execEncoderSignalInvalid
  repeat' first
    | with_reducible first
      | assumption
      | refine KeepsO.next ?_
      | exact KeepsO.fault
      | refine KeepsO.ite ?_ ?_
      | refine Keeps.ite ?_ ?_
      | refine State.loopFault_keeps (sub_trans (by decide) hm) ?_
      | refine State.fault_keeps (sub_trans (by decide) hm) ?_
    | split
    | dsimp only

theorem State.encoderEnable_keeps {a2 : _} {a3 : _} {a4 : _} (hm : 30 ||| m = m) (h : Keeps m r s) :
    Keeps m r (State.encoderEnable s a2 a3 a4) := by
  unfold State.encoderEnable
  repeat' first
    | with_reducible first
      | assumption
      | refine Keeps.ite ?_ ?_
      | refine State.after_keeps (sub_trans (by decide) hm) ?_
      | refine State.setLoop_keeps (sub_trans (by decide) hm) ?_
      | refine State.setEnc_keeps (sub_trans (by decide) hm) ?_
      | refine State.setn_keeps (sub_trans (by decide) hm) ?_
      | refine State.disarm_keeps (sub_trans (by decide) hm) ?_
      | refine State.setVelocity_keeps (sub_trans (by decide) hm) ?_
    | split
    | dsimp only

theorem execCapture_keeps {a1 : _} {a2 : _} {a3 : _} (hm : 26 ||| m = m) (h : Keeps m r s) :
    KeepsO m r (execCapture a1 a2 a3 s) := by
  unfold execCapture
  try lift_lets
  repeat (intro x; first
    | (have hx : Keeps m r x := by
        dsimp only [x]
        repeat' first
          | with_reducible first
            | assumption
            | refine KeepsO.next ?_
            | exact KeepsO.fault
            | refine KeepsO.ite ?_ ?_
            | refine Keeps.ite ?_ ?_
            | refine State.setn_keeps (sub_trans (by decide) hm) ?_
            | refine State.eventHw_keeps (sub_trans (by decide) hm) ?_
            | (refine Keeps.pos hm (by decide) ?_; assumption)
          | (intro t x ht)
          | (intro t ht)
          | (intro t y z ht)
          | (intro ht)
          | split
          | dsimp only
       clear_value x)
    | (have hx : Keeps m r x.1 := by
        dsimp only [x]
        repeat' first
          | with_reducible first
            | assumption
            | refine KeepsO.next ?_
            | exact KeepsO.fault
            | refine KeepsO.ite ?_ ?_
            | refine Keeps.ite ?_ ?_
            | refine State.setn_keeps (sub_trans (by decide) hm) ?_
            | refine State.eventHw_keeps (sub_trans (by decide) hm) ?_
            | (refine Keeps.pos hm (by decide) ?_; assumption)
          | (intro t x ht)
          | (intro t ht)
          | (intro t y z ht)
          | (intro ht)
          | split
          | dsimp only
       clear_value x)
    | clear_value x)
  repeat' first
    | with_reducible first
      | assumption
      | refine KeepsO.next ?_
      | exact KeepsO.fault
      | refine KeepsO.ite ?_ ?_
      | refine Keeps.ite ?_ ?_
      | refine State.setn_keeps (sub_trans (by decide) hm) ?_
      | refine State.eventHw_keeps (sub_trans (by decide) hm) ?_
      | (refine Keeps.pos hm (by decide) ?_; assumption)
    | (intro t x ht)
    | (intro t ht)
    | (intro t y z ht)
    | (intro ht)
    | split
    | dsimp only

theorem State.setMains_keeps {a2 : _} (hm : 18 ||| m = m) (h : Keeps m r s) :
    Keeps m r (State.setMains s a2) := by
  unfold State.setMains
  repeat' first
    | with_reducible first
      | assumption
      | refine Keeps.ite ?_ ?_
      | refine State.eventHw_keeps (sub_trans (by decide) hm) ?_
      | refine State.setn_keeps (sub_trans (by decide) hm) ?_
    | split
    | dsimp only

theorem State.alignPhase_keeps {a2 : _} (hm : 8 ||| m = m) (h : Keeps m r s) :
    Keeps m r (State.alignPhase s a2) := by
  unfold State.alignPhase
  repeat' first
    | with_reducible first
      | assumption
      | refine Keeps.ite ?_ ?_
      | (refine Keeps.pos hm (by decide) ?_; assumption)
    | split
    | dsimp only

theorem State.lateMains_keeps  (hm : 8 ||| m = m) (h : Keeps m r s) :
    Keeps m r (State.lateMains s) := by
  unfold State.lateMains
  repeat' first
    | with_reducible first
      | assumption
      | refine Keeps.ite ?_ ?_
      | (refine Keeps.pos hm (by decide) ?_; assumption)
    | split
    | dsimp only

theorem State.positiveCrossing_keeps  (hm : 26 ||| m = m) (h : Keeps m r s) :
    Keeps m r (State.positiveCrossing s) := by
  unfold State.positiveCrossing
  try lift_lets
  repeat (intro x; first
    | (have hx : Keeps m r x := by
        dsimp only [x]
        repeat' first
          | with_reducible first
            | assumption
            | refine Keeps.ite ?_ ?_
            | refine State.setn_keeps (sub_trans (by decide) hm) ?_
            | refine State.alignPhase_keeps (sub_trans (by decide) hm) ?_
            | refine State.setMains_keeps (sub_trans (by decide) hm) ?_
            | refine State.lateMains_keeps (sub_trans (by decide) hm) ?_
            | (refine Keeps.pos hm (by decide) ?_; assumption)
          | split
          | dsimp only
       clear_value x)
    | clear_value x)
  repeat' first
    | with_reducible first
      | assumption
      | refine Keeps.ite ?_ ?_
      | refine State.setn_keeps (sub_trans (by decide) hm) ?_
      | refine State.alignPhase_keeps (sub_trans (by decide) hm) ?_
      | refine State.setMains_keeps (sub_trans (by decide) hm) ?_
      | refine State.lateMains_keeps (sub_trans (by decide) hm) ?_
      | (refine Keeps.pos hm (by decide) ?_; assumption)
    | split
    | dsimp only

theorem State.mainsCrossing_keeps {a2 : _} (hm : 26 ||| m = m) (h : Keeps m r s) :
    Keeps m r (State.mainsCrossing s a2) := by
  unfold State.mainsCrossing
  repeat' first
    | with_reducible first
      | assumption
      | refine Keeps.ite ?_ ?_
      | refine State.positiveCrossing_keeps (sub_trans (by decide) hm) ?_
      | refine State.alignPhase_keeps (sub_trans (by decide) hm) ?_
    | split
    | dsimp only

theorem State.crossingMissing_keeps  (hm : 262170 ||| m = m) (h : Keeps m r s) :
    Keeps m r (State.crossingMissing s) := by
  unfold State.crossingMissing
  repeat' first
    | with_reducible first
      | assumption
      | refine Keeps.ite ?_ ?_
      | refine State.fault_keeps (sub_trans (by decide) hm) ?_
      | refine State.setMains_keeps (sub_trans (by decide) hm) ?_
      | (refine Keeps.pos hm (by decide) ?_; assumption)
    | split
    | dsimp only

theorem State.holdoverExpired_keeps  (hm : 26 ||| m = m) (h : Keeps m r s) :
    Keeps m r (State.holdoverExpired s) := by
  unfold State.holdoverExpired
  repeat' first
    | with_reducible first
      | assumption
      | refine Keeps.ite ?_ ?_
      | refine State.setMains_keeps (sub_trans (by decide) hm) ?_
      | (refine Keeps.pos hm (by decide) ?_; assumption)
    | split
    | dsimp only

theorem execOutputOvercurrent_keeps {a1 : _} (hm : 262162 ||| m = m) (h : Keeps m r s) :
    KeepsO m r (execOutputOvercurrent a1 s) := by
  unfold execOutputOvercurrent
  repeat' first
    | with_reducible first
      | assumption
      | refine KeepsO.next ?_
      | exact KeepsO.fault
      | refine KeepsO.ite ?_ ?_
      | refine Keeps.ite ?_ ?_
      | refine State.fault_keeps (sub_trans (by decide) hm) ?_
      | refine State.eventHw_keeps (sub_trans (by decide) hm) ?_
      | refine State.setn_keeps (sub_trans (by decide) hm) ?_
    | split
    | dsimp only

theorem State.setAlignment_keeps {a2 : _} (hm : 18 ||| m = m) (h : Keeps m r s) :
    Keeps m r (State.setAlignment s a2) := by
  unfold State.setAlignment
  repeat' first
    | with_reducible first
      | assumption
      | refine Keeps.ite ?_ ?_
      | refine State.event_keeps (sub_trans (by decide) hm) ?_
      | refine State.setn_keeps (sub_trans (by decide) hm) ?_
    | split
    | dsimp only

theorem State.clearSync_keeps  (hm : 16 ||| m = m) (h : Keeps m r s) :
    Keeps m r (State.clearSync s) := by
  unfold State.clearSync
  repeat' first
    | with_reducible first
      | assumption
      | (refine Keeps.ev hm (by decide) ?_; assumption)
    | split
    | dsimp only

theorem State.alignmentError_keeps {a2 : _} (hm : 4194322 ||| m = m) (h : Keeps m r s) :
    Keeps m r (State.alignmentError s a2) := by
  unfold State.alignmentError
  try lift_lets
  repeat (intro x; first
    | (have hx : Keeps m r x := by
        dsimp only [x]
        repeat' first
          | with_reducible first
            | assumption
            | refine Keeps.ite ?_ ?_
            | refine State.seti_keeps (sub_trans (by decide) hm) ?_
            | refine State.draw_keeps (sub_trans (by decide) hm) ?_
            | refine State.setAlignment_keeps (sub_trans (by decide) hm) ?_
            | refine State.clearSync_keeps (sub_trans (by decide) hm) ?_
            | (refine Keeps.ev hm (by decide) ?_; assumption)
          | split
          | dsimp only
       clear_value x)
    | clear_value x)
  repeat' first
    | with_reducible first
      | assumption
      | refine Keeps.ite ?_ ?_
      | refine State.seti_keeps (sub_trans (by decide) hm) ?_
      | refine State.draw_keeps (sub_trans (by decide) hm) ?_
      | refine State.setAlignment_keeps (sub_trans (by decide) hm) ?_
      | refine State.clearSync_keeps (sub_trans (by decide) hm) ?_
      | (refine Keeps.ev hm (by decide) ?_; assumption)
    | split
    | dsimp only

theorem State.syncSeen_keeps {a2 : _} (hm : 20 ||| m = m) (h : Keeps m r s) :
    Keeps m r (State.syncSeen s a2) := by
  unfold State.syncSeen
  repeat' first
    | with_reducible first
      | assumption
      | refine State.arm_keeps (sub_trans (by decide) hm) ?_
      | (refine Keeps.ev hm (by decide) ?_; assumption)
    | split
    | dsimp only

theorem execStampSyncEdge_keeps {a1 : _} {a2 : _} (hm : 4194326 ||| m = m) (h : Keeps m r s) :
    KeepsO m r (execStampSyncEdge a1 a2 s) := by
  unfold execStampSyncEdge
  repeat' first
    | with_reducible first
      | assumption
      | refine KeepsO.next ?_
      | exact KeepsO.fault
      | refine KeepsO.ite ?_ ?_
      | refine Keeps.ite ?_ ?_
      | refine State.setn_keeps (sub_trans (by decide) hm) ?_
      | refine State.syncSeen_keeps (sub_trans (by decide) hm) ?_
      | refine State.event_keeps (sub_trans (by decide) hm) ?_
      | refine State.alignmentError_keeps (sub_trans (by decide) hm) ?_
    | split
    | dsimp only

theorem execDcSyncCycle_keeps {a1 : _} (hm : 4194326 ||| m = m) (h : Keeps m r s) :
    KeepsO m r (execDcSyncCycle a1 s) := by
  unfold execDcSyncCycle
  repeat' first
    | with_reducible first
      | assumption
      | refine KeepsO.next ?_
      | exact KeepsO.fault
      | refine KeepsO.ite ?_ ?_
      | refine Keeps.ite ?_ ?_
      | refine State.alignmentError_keeps (sub_trans (by decide) hm) ?_
      | refine State.syncSeen_keeps (sub_trans (by decide) hm) ?_
      | refine State.setn_keeps (sub_trans (by decide) hm) ?_
    | split
    | dsimp only

theorem execAlignmentSyncLost_keeps  (hm : 18 ||| m = m) (h : Keeps m r s) :
    KeepsO m r (execAlignmentSyncLost s) := by
  unfold execAlignmentSyncLost
  repeat' first
    | with_reducible first
      | assumption
      | refine KeepsO.next ?_
      | exact KeepsO.fault
      | refine KeepsO.ite ?_ ?_
      | refine Keeps.ite ?_ ?_
      | refine State.clearSync_keeps (sub_trans (by decide) hm) ?_
      | refine State.setAlignment_keeps (sub_trans (by decide) hm) ?_
    | split
    | dsimp only

theorem State.alignmentSource_keeps {a2 : _} {a3 : _} (hm : 22 ||| m = m) (h : Keeps m r s) :
    Keeps m r (State.alignmentSource s a2 a3) := by
  unfold State.alignmentSource
  repeat' first
    | with_reducible first
      | assumption
      | refine Keeps.ite ?_ ?_
      | refine State.disarm_keeps (sub_trans (by decide) hm) ?_
      | refine State.setAlignment_keeps (sub_trans (by decide) hm) ?_
      | refine State.setn_keeps (sub_trans (by decide) hm) ?_
      | (refine Keeps.ev hm (by decide) ?_; assumption)
    | split
    | dsimp only

theorem State.interpolate_keeps {a2 : _} (hm : 26 ||| m = m) (h : Keeps m r s) :
    Keeps m r (State.interpolate s a2) := by
  unfold State.interpolate
  repeat' first
    | with_reducible first
      | assumption
      | refine Keeps.ite ?_ ?_
      | refine State.feed_keeps (sub_trans (by decide) hm) ?_
      | refine State.setEnc_keeps (sub_trans (by decide) hm) ?_
    | split
    | dsimp only

theorem State.runMains_keeps  (hm : 8 ||| m = m) (h : Keeps m r s) :
    Keeps m r (State.runMains s) := by
  unfold State.runMains
  repeat' first
    | with_reducible first
      | assumption
      | refine Keeps.ite ?_ ?_
      | (refine Keeps.pos hm (by decide) ?_; assumption)
    | split
    | dsimp only

theorem State.tick_keeps (hm : 27 ||| m = m) (h : Keeps m r s) : Keeps m r s.tick := by
  unfold State.tick
  extract_lets src s1 s2
  have h1 : Keeps m r s1 := h.step rfl rfl id (fun p hp => by cases p <;> first | rfl | exact (sub_out hm (by decide) hp).elim)
  clear_value s1
  have h2 : Keeps m r s2 := by
    dsimp only [s2]
    exact Keeps.ite (Keeps.each (fun t x ht => State.interpolate_keeps (sub_trans (by decide) hm) ht) h1) h1
  exact State.runMains_keeps (sub_trans (by decide) hm) h2

/-! ## Checkpoints -/

theorem State.archiveEntry_keeps {a2 : _} (hm : 512 ||| m = m) (h : Keeps m r s) :
    Keeps m r (State.archiveEntry s a2) := by
  unfold State.archiveEntry
  repeat' first
    | with_reducible first
      | assumption
      | refine Keeps.ite ?_ ?_
      | refine State.setStream_keeps (sub_trans (by decide) hm) ?_
    | split
    | dsimp only

theorem State.newestEntry_keeps {a2 : _} (hm : 2 ||| m = m) (h : Keeps m r s) :
    Keeps m r (State.newestEntry s a2) := by
  unfold State.newestEntry
  repeat' first
    | with_reducible first
      | assumption
      | refine State.setn_keeps (sub_trans (by decide) hm) ?_
    | split
    | dsimp only

theorem State.appendEntry_keeps {a2 : _} {a3 : _} {a4 : _} (hm : 786962 ||| m = m) (h : Keeps m r s) :
    Keeps m r (State.appendEntry s a2 a3 a4) := by
  unfold State.appendEntry
  repeat' first
    | with_reducible first
      | assumption
      | refine Keeps.ite ?_ ?_
      | refine State.archiveEntry_keeps (sub_trans (by decide) hm) ?_
      | refine State.spendInjection_keeps (sub_trans (by decide) hm) ?_
      | refine State.newestEntry_keeps (sub_trans (by decide) hm) ?_
      | (refine Keeps.twin hm (by decide) ?_; assumption)
    | split
    | dsimp only

theorem State.writeBase_keeps {k : Nat} (hm : 5046802 ||| m = m) (h : Keeps m r s) : Keeps m r (State.writeBase k s) := by
  induction k generalizing s with
  | zero => exact h
  | succ k ih =>
    unfold State.writeBase
    extract_lets length src s1 s2
    have h1 : Keeps m r s1 := Keeps.twin hm (by decide) h
    clear_value s1
    have h2 : Keeps m r s2 := State.appendEntry_keeps (sub_trans (by decide) hm) (State.draw_keeps (sub_trans (by decide) hm) h1)
    clear_value s2
    split
    · exact State.event_keeps (sub_trans (by decide) hm) (State.mramWrite_keeps (sub_trans (by decide) hm) (Keeps.twin hm (by decide) h2))
    · exact ih (State.faultInjected_keeps (sub_trans (by decide) hm) (Keeps.twin hm (by decide) h2))

theorem State.newBase_keeps  (hm : 5046802 ||| m = m) (h : Keeps m r s) :
    Keeps m r (State.newBase s) := by
  unfold State.newBase
  try lift_lets
  repeat (intro x; first
    | (have hx : Keeps m r x := by
        dsimp only [x]
        repeat' first
          | with_reducible first
            | assumption
            | refine State.writeBase_keeps (sub_trans (by decide) hm) ?_
          | split
          | dsimp only
       clear_value x)
    | clear_value x)
  repeat' first
    | with_reducible first
      | assumption
      | refine State.writeBase_keeps (sub_trans (by decide) hm) ?_
    | split
    | dsimp only

theorem State.checkpoint_keeps {a2 : _} {a3 : _} (hm : 5046802 ||| m = m) (h : Keeps m r s) :
    Keeps m r (State.checkpoint s a2 a3) := by
  unfold State.checkpoint
  try lift_lets
  repeat (intro x; first
    | (have hx : Keeps m r x := by
        dsimp only [x]
        repeat' first
          | with_reducible first
            | assumption
            | refine Keeps.ite ?_ ?_
            | refine State.draw_keeps (sub_trans (by decide) hm) ?_
            | refine State.newBase_keeps (sub_trans (by decide) hm) ?_
            | refine State.appendEntry_keeps (sub_trans (by decide) hm) ?_
            | refine State.mramWrite_keeps (sub_trans (by decide) hm) ?_
            | (refine Keeps.twin hm (by decide) ?_; assumption)
          | split
          | dsimp only
       clear_value x)
    | clear_value x)
  repeat' first
    | with_reducible first
      | assumption
      | refine Keeps.ite ?_ ?_
      | refine State.draw_keeps (sub_trans (by decide) hm) ?_
      | refine State.newBase_keeps (sub_trans (by decide) hm) ?_
      | refine State.appendEntry_keeps (sub_trans (by decide) hm) ?_
      | refine State.mramWrite_keeps (sub_trans (by decide) hm) ?_
      | (refine Keeps.twin hm (by decide) ?_; assumption)
    | split
    | dsimp only

theorem State.mendEntry_keeps  (hm : 5046802 ||| m = m) (h : Keeps m r s) :
    Keeps m r (State.mendEntry s) := by
  unfold State.mendEntry
  repeat' first
    | with_reducible first
      | assumption
      | refine Keeps.ite ?_ ?_
      | refine State.newBase_keeps (sub_trans (by decide) hm) ?_
      | refine State.faultInjected_keeps (sub_trans (by decide) hm) ?_
    | split
    | dsimp only

theorem State.dictionaryEntry_keeps {a2 : _} (hm : 5046802 ||| m = m) (h : Keeps m r s) :
    Keeps m r (State.dictionaryEntry s a2) := by
  unfold State.dictionaryEntry
  try lift_lets
  repeat (intro x; first
    | (have hx : Keeps m r x := by
        dsimp only [x]
        repeat' first
          | with_reducible first
            | assumption
            | refine Keeps.ite ?_ ?_
            | refine State.mendEntry_keeps (sub_trans (by decide) hm) ?_
            | refine State.checkpoint_keeps (sub_trans (by decide) hm) ?_
            | (refine Keeps.twin hm (by decide) ?_; assumption)
          | (intro t x ht)
          | (intro t ht)
          | (intro t y z ht)
          | (intro ht)
          | split
          | dsimp only
       clear_value x)
    | clear_value x)
  repeat' first
    | with_reducible first
      | assumption
      | refine Keeps.ite ?_ ?_
      | refine State.mendEntry_keeps (sub_trans (by decide) hm) ?_
      | refine State.checkpoint_keeps (sub_trans (by decide) hm) ?_
      | (refine Keeps.twin hm (by decide) ?_; assumption)
    | (intro t x ht)
    | (intro t ht)
    | (intro t y z ht)
    | (intro ht)
    | split
    | dsimp only

/-! ## LoopSlots -/

theorem State.setReal_keeps {a2 : _} {a3 : _} (hm : 2 ||| m = m) (h : Keeps m r s) :
    Keeps m r (State.setReal s a2 a3) := by
  unfold State.setReal
  repeat' first
    | with_reducible first
      | assumption
      | refine State.setn_keeps (sub_trans (by decide) hm) ?_
    | split
    | dsimp only

theorem State.slotEvent_keeps {a2 : _} {a3 : _} {a4 : _} (hm : 16 ||| m = m) (h : Keeps m r s) :
    Keeps m r (State.slotEvent s a2 a3 a4) := by
  unfold State.slotEvent
  repeat' first
    | with_reducible first
      | assumption
      | refine State.event_keeps (sub_trans (by decide) hm) ?_
    | split
    | dsimp only

theorem State.setSlotState_keeps {a2 : _} {a3 : _} {a4 : _} (hm : 18 ||| m = m) (h : Keeps m r s) :
    Keeps m r (State.setSlotState s a2 a3 a4) := by
  unfold State.setSlotState
  repeat' first
    | with_reducible first
      | assumption
      | refine Keeps.ite ?_ ?_
      | refine State.event_keeps (sub_trans (by decide) hm) ?_
      | refine State.setn_keeps (sub_trans (by decide) hm) ?_
    | split
    | dsimp only

theorem State.stopSlot_keeps {a2 : _} {a3 : _} (hm : 32786 ||| m = m) (h : Keeps m r s) :
    Keeps m r (State.stopSlot s a2 a3) := by
  unfold State.stopSlot
  try lift_lets
  repeat (intro x; first
    | (have hx : Keeps m r x := by
        dsimp only [x]
        repeat' first
          | with_reducible first
            | assumption
            | refine State.setn_keeps (sub_trans (by decide) hm) ?_
            | refine State.setSlotState_keeps (sub_trans (by decide) hm) ?_
            | refine State.setLoopSlot_keeps (sub_trans (by decide) hm) ?_
            | (refine Keeps.loops hm (by decide) ?_; assumption)
          | (intro t x ht)
          | (intro t ht)
          | (intro t y z ht)
          | (intro ht)
          | split
          | dsimp only
       clear_value x)
    | clear_value x)
  repeat' first
    | with_reducible first
      | assumption
      | refine State.setn_keeps (sub_trans (by decide) hm) ?_
      | refine State.setSlotState_keeps (sub_trans (by decide) hm) ?_
      | refine State.setLoopSlot_keeps (sub_trans (by decide) hm) ?_
      | (refine Keeps.loops hm (by decide) ?_; assumption)
    | (intro t x ht)
    | (intro t ht)
    | (intro t y z ht)
    | (intro ht)
    | split
    | dsimp only

theorem State.markSlot_keeps {a2 : _} (hm : 32768 ||| m = m) (h : Keeps m r s) :
    Keeps m r (State.markSlot s a2) := by
  unfold State.markSlot
  repeat' first
    | with_reducible first
      | assumption
      | refine State.setLoopSlot_keeps (sub_trans (by decide) hm) ?_
    | split
    | dsimp only

theorem State.startSlot_keeps {a2 : _} {a3 : _} {a4 : _} {a5 : _} (hm : 32786 ||| m = m) (h : Keeps m r s) :
    Keeps m r (State.startSlot s a2 a3 a4 a5) := by
  unfold State.startSlot
  repeat' first
    | with_reducible first
      | assumption
      | refine State.markSlot_keeps (sub_trans (by decide) hm) ?_
      | refine State.setReal_keeps (sub_trans (by decide) hm) ?_
      | refine State.setSlotState_keeps (sub_trans (by decide) hm) ?_
      | refine State.setLoopSlot_keeps (sub_trans (by decide) hm) ?_
    | split
    | dsimp only

theorem State.bumpless_keeps {a2 : _} (hm : 32768 ||| m = m) (h : Keeps m r s) :
    Keeps m r (State.bumpless s a2) := by
  unfold State.bumpless
  repeat' first
    | with_reducible first
      | assumption
      | refine State.setLoopSlot_keeps (sub_trans (by decide) hm) ?_
    | split
    | dsimp only

theorem State.setTarget_keeps {a2 : _} {a3 : _} (hm : 2 ||| m = m) (h : Keeps m r s) :
    Keeps m r (State.setTarget s a2 a3) := by
  unfold State.setTarget
  repeat' first
    | with_reducible first
      | assumption
      | refine State.setReal_keeps (sub_trans (by decide) hm) ?_
    | split
    | dsimp only

theorem State.runProfile_keeps {a2 : _} {a3 : _} (hm : 32786 ||| m = m) (h : Keeps m r s) :
    Keeps m r (State.runProfile s a2 a3) := by
  unfold State.runProfile
  repeat' first
    | with_reducible first
      | assumption
      | refine Keeps.ite ?_ ?_
      | refine State.setLoopSlot_keeps (sub_trans (by decide) hm) ?_
      | refine State.setReal_keeps (sub_trans (by decide) hm) ?_
      | refine State.slotEvent_keeps (sub_trans (by decide) hm) ?_
    | split
    | dsimp only

theorem State.runNotches_keeps {a2 : _} {a3 : _} (hm : 32784 ||| m = m) (h : Keeps m r s) :
    Keeps m r (State.runNotches s a2 a3).1 := by
  unfold State.runNotches
  repeat' first
    | with_reducible first
      | assumption
      | refine Keeps.ite ?_ ?_
      | refine State.setLoopSlot_keeps (sub_trans (by decide) hm) ?_
      | refine State.slotEvent_keeps (sub_trans (by decide) hm) ?_
    | split
    | dsimp only

theorem State.controlLaw_keeps {a2 : _} (hm : 32786 ||| m = m) (h : Keeps m r s) :
    Keeps m r (State.controlLaw s a2) := by
  unfold State.controlLaw
  repeat' first
    | with_reducible first
      | assumption
      | refine Keeps.ite ?_ ?_
      | refine State.slotEvent_keeps (sub_trans (by decide) hm) ?_
      | refine State.setn_keeps (sub_trans (by decide) hm) ?_
      | refine State.bumpless_keeps (sub_trans (by decide) hm) ?_
      | refine State.runProfile_keeps (sub_trans (by decide) hm) ?_
      | refine State.runNotches_keeps (sub_trans (by decide) hm) ?_
      | refine State.setLoopSlot_keeps (sub_trans (by decide) hm) ?_
      | refine State.setReal_keeps (sub_trans (by decide) hm) ?_
      | refine State.bump_keeps (sub_trans (by decide) hm) ?_
    | split
    | dsimp only

theorem State.manualLaw_keeps {a2 : _} (hm : 32770 ||| m = m) (h : Keeps m r s) :
    Keeps m r (State.manualLaw s a2) := by
  unfold State.manualLaw
  repeat' first
    | with_reducible first
      | assumption
      | refine State.setn_keeps (sub_trans (by decide) hm) ?_
      | refine State.setLoopSlot_keeps (sub_trans (by decide) hm) ?_
    | split
    | dsimp only

/-! ## PageOps -/

theorem State.sendPage_keeps {a2 : _} {a3 : _} (hm : 1048886 ||| m = m) (h : Keeps m r s) :
    Keeps m r (State.sendPage s a2 a3) := by
  unfold State.sendPage
  repeat' first
    | with_reducible first
      | assumption
      | refine Keeps.ite ?_ ?_
      | refine State.produce_keeps (sub_trans (by decide) hm) ?_
      | (refine Keeps.pages hm (by decide) ?_; assumption)
    | split
    | dsimp only

theorem State.reportPage_keeps {a2 : _} {a3 : _} {a4 : _} (hm : 1048886 ||| m = m) (h : Keeps m r s) :
    Keeps m r (State.reportPage s a2 a3 a4) := by
  unfold State.reportPage
  repeat' first
    | with_reducible first
      | assumption
      | refine Keeps.ite ?_ ?_
      | refine State.sendPage_keeps (sub_trans (by decide) hm) ?_
      | refine State.event_keeps (sub_trans (by decide) hm) ?_
    | split
    | dsimp only

theorem State.setPageState_keeps {a2 : _} {a3 : _} (hm : 1114422 ||| m = m) (h : Keeps m r s) :
    Keeps m r (State.setPageState s a2 a3) := by
  unfold State.setPageState
  repeat' first
    | with_reducible first
      | assumption
      | refine Keeps.ite ?_ ?_
      | refine State.reportPage_keeps (sub_trans (by decide) hm) ?_
      | refine State.setPage_keeps (sub_trans (by decide) hm) ?_
      | refine State.autoSpool_keeps (sub_trans (by decide) hm) ?_
    | split
    | dsimp only

theorem State.unorder_keeps {a2 : _} (hm : 256 ||| m = m) (h : Keeps m r s) :
    Keeps m r (State.unorder s a2) := by
  unfold State.unorder
  repeat' first
    | with_reducible first
      | assumption
      | (refine Keeps.pages hm (by decide) ?_; assumption)
    | split
    | dsimp only

theorem State.spoilPage_keeps {a2 : _} {a3 : _} {a4 : _} (hm : 272 ||| m = m) (h : Keeps m r s) :
    Keeps m r (State.spoilPage s a2 a3 a4) := by
  unfold State.spoilPage
  repeat' first
    | with_reducible first
      | assumption
      | refine Keeps.ite ?_ ?_
      | refine State.event_keeps (sub_trans (by decide) hm) ?_
      | refine State.setPage_keeps (sub_trans (by decide) hm) ?_
    | split
    | dsimp only

theorem State.spoilImaging_keeps {a2 : _} {a3 : _} (hm : 272 ||| m = m) (h : Keeps m r s) :
    Keeps m r (State.spoilImaging s a2 a3) := by
  unfold State.spoilImaging
  try lift_lets
  repeat (intro x; first
    | (have hx : Keeps m r x := by
        dsimp only [x]
        repeat' first
          | with_reducible first
            | assumption
            | refine State.spoilPage_keeps (sub_trans (by decide) hm) ?_
            | refine Keeps.each ?_ ?_
          | (intro t x ht)
          | (intro t ht)
          | (intro t y z ht)
          | (intro ht)
          | split
          | dsimp only
       clear_value x)
    | clear_value x)
  repeat' first
    | with_reducible first
      | assumption
      | refine State.spoilPage_keeps (sub_trans (by decide) hm) ?_
      | refine Keeps.each ?_ ?_
    | (intro t x ht)
    | (intro t ht)
    | (intro t y z ht)
    | (intro ht)
    | split
    | dsimp only

theorem State.shutSlots_keeps {a2 : _} {a3 : _} (hm : 8 ||| m = m) (h : Keeps m r s) :
    Keeps m r (State.shutSlots s a2 a3) := by
  unfold State.shutSlots
  repeat' first
    | with_reducible first
      | assumption
      | refine Keeps.ite ?_ ?_
      | (refine Keeps.pos hm (by decide) ?_; assumption)
    | split
    | dsimp only

theorem State.freeSlots_keeps {a2 : _} {a3 : _} (hm : 26 ||| m = m) (h : Keeps m r s) :
    Keeps m r (State.freeSlots s a2 a3) := by
  unfold State.freeSlots
  repeat' first
    | with_reducible first
      | assumption
      | refine Keeps.ite ?_ ?_
      | refine State.eventHw_keeps (sub_trans (by decide) hm) ?_
      | refine State.bumpBy_keeps (sub_trans (by decide) hm) ?_
      | (refine Keeps.pos hm (by decide) ?_; assumption)
    | split
    | dsimp only

theorem State.updateBlock_keeps {a2 : _} {a3 : _} {a4 : _} (hm : 256 ||| m = m) (h : Keeps m r s) :
    Keeps m r (State.updateBlock s a2 a3 a4) := by
  unfold State.updateBlock
  repeat' first
    | with_reducible first
      | assumption
      | refine Keeps.ite ?_ ?_
      | refine State.setPage_keeps (sub_trans (by decide) hm) ?_
    | split
    | dsimp only

theorem State.freeBlock_keeps {a2 : _} {a3 : _} (hm : 256 ||| m = m) (h : Keeps m r s) :
    Keeps m r (State.freeBlock s a2 a3) := by
  unfold State.freeBlock
  repeat' first
    | with_reducible first
      | assumption
      | refine State.setPage_keeps (sub_trans (by decide) hm) ?_
    | split
    | dsimp only

theorem State.laneTakes_keeps {a2 : _} {a3 : _} (hm : 262674 ||| m = m) (h : Keeps m r s) :
    Keeps m r (State.laneTakes s a2 a3) := by
  unfold State.laneTakes
  repeat' first
    | with_reducible first
      | assumption
      | refine Keeps.ite ?_ ?_
      | refine State.setQueue_keeps (sub_trans (by decide) hm) ?_
      | refine State.fault_keeps (sub_trans (by decide) hm) ?_
      | refine State.setBuffer_keeps (sub_trans (by decide) hm) ?_
      | refine State.setLane_keeps (sub_trans (by decide) hm) ?_
    | split
    | dsimp only

theorem State.feedLanes_keeps {k n : Nat} (hm : 262674 ||| m = m) (h : Keeps m r s) :
    Keeps m r (State.feedLanes k s n) := by
  induction k generalizing s with
  | zero => exact h
  | succ k ih => exact ih (Keeps.foldl (fun t x ht => State.laneTakes_keeps (sub_trans (by decide) hm) ht) h)

theorem State.feedDecode_keeps {a2 : _} (hm : 262674 ||| m = m) (h : Keeps m r s) :
    Keeps m r (State.feedDecode s a2) := by
  unfold State.feedDecode
  repeat' first
    | with_reducible first
      | assumption
      | refine State.feedLanes_keeps (sub_trans (by decide) hm) ?_
    | split
    | dsimp only

theorem State.dropDecodes_keeps {a2 : _} {a3 : _} (hm : 262674 ||| m = m) (h : Keeps m r s) :
    Keeps m r (State.dropDecodes s a2 a3) := by
  unfold State.dropDecodes
  try lift_lets
  repeat (intro x; first
    | (have hx : Keeps m r x := by
        dsimp only [x]
        repeat' first
          | with_reducible first
            | assumption
            | refine Keeps.ite ?_ ?_
            | refine State.setQueue_keeps (sub_trans (by decide) hm) ?_
            | refine State.setLane_keeps (sub_trans (by decide) hm) ?_
            | refine State.setBuffer_keeps (sub_trans (by decide) hm) ?_
            | refine State.feedDecode_keeps (sub_trans (by decide) hm) ?_
            | refine Keeps.each ?_ ?_
          | (intro t x ht)
          | (intro t ht)
          | (intro t y z ht)
          | (intro ht)
          | split
          | dsimp only
       clear_value x)
    | clear_value x)
  repeat' first
    | with_reducible first
      | assumption
      | refine Keeps.ite ?_ ?_
      | refine State.setQueue_keeps (sub_trans (by decide) hm) ?_
      | refine State.setLane_keeps (sub_trans (by decide) hm) ?_
      | refine State.setBuffer_keeps (sub_trans (by decide) hm) ?_
      | refine State.feedDecode_keeps (sub_trans (by decide) hm) ?_
      | refine Keeps.each ?_ ?_
    | (intro t x ht)
    | (intro t ht)
    | (intro t y z ht)
    | (intro ht)
    | split
    | dsimp only

theorem State.lineEvent_keeps {a2 : _} {a3 : _} {a4 : _} {a5 : _} (hm : 16 ||| m = m) (h : Keeps m r s) :
    Keeps m r (State.lineEvent s a2 a3 a4 a5) := by
  unfold State.lineEvent
  repeat' first
    | with_reducible first
      | assumption
      | refine State.event_keeps (sub_trans (by decide) hm) ?_
    | split
    | dsimp only

theorem State.closeImage_keeps {a2 : _} (hm : 262802 ||| m = m) (h : Keeps m r s) :
    Keeps m r (State.closeImage s a2) := by
  unfold State.closeImage
  repeat' first
    | with_reducible first
      | assumption
      | refine Keeps.ite ?_ ?_
      | refine State.dropDecodes_keeps (sub_trans (by decide) hm) ?_
      | refine State.setStation_keeps (sub_trans (by decide) hm) ?_
    | split
    | dsimp only

theorem State.endImage_keeps {a2 : _} (hm : 262802 ||| m = m) (h : Keeps m r s) :
    Keeps m r (State.endImage s a2) := by
  unfold State.endImage
  repeat' first
    | with_reducible first
      | assumption
      | refine Keeps.ite ?_ ?_
      | refine State.setn_keeps (sub_trans (by decide) hm) ?_
      | refine State.setStation_keeps (sub_trans (by decide) hm) ?_
      | refine State.closeImage_keeps (sub_trans (by decide) hm) ?_
    | split
    | dsimp only

theorem State.truncate_keeps {a2 : _} {a3 : _} (hm : 263058 ||| m = m) (h : Keeps m r s) :
    Keeps m r (State.truncate s a2 a3) := by
  unfold State.truncate
  repeat' first
    | with_reducible first
      | assumption
      | refine Keeps.ite ?_ ?_
      | refine State.lineEvent_keeps (sub_trans (by decide) hm) ?_
      | refine State.endImage_keeps (sub_trans (by decide) hm) ?_
      | refine State.spoilPage_keeps (sub_trans (by decide) hm) ?_
    | split
    | dsimp only

theorem State.purge_keeps {a2 : _} (hm : 1114934 ||| m = m) (h : Keeps m r s) :
    Keeps m r (State.purge s a2) := by
  unfold State.purge
  try lift_lets
  repeat (intro x; first
    | (have hx : Keeps m r x := by
        dsimp only [x]
        repeat' first
          | with_reducible first
            | assumption
            | refine Keeps.ite ?_ ?_
            | refine State.unlinkSpool_keeps (sub_trans (by decide) hm) ?_
            | refine State.setPage_keeps (sub_trans (by decide) hm) ?_
            | refine State.unorder_keeps (sub_trans (by decide) hm) ?_
            | refine State.setPageState_keeps (sub_trans (by decide) hm) ?_
            | (refine Keeps.press hm (by decide) ?_; assumption)
          | (intro t x ht)
          | (intro t ht)
          | (intro t y z ht)
          | (intro ht)
          | split
          | dsimp only
       clear_value x)
    | clear_value x)
  repeat' first
    | with_reducible first
      | assumption
      | refine Keeps.ite ?_ ?_
      | refine State.unlinkSpool_keeps (sub_trans (by decide) hm) ?_
      | refine State.setPage_keeps (sub_trans (by decide) hm) ?_
      | refine State.unorder_keeps (sub_trans (by decide) hm) ?_
      | refine State.setPageState_keeps (sub_trans (by decide) hm) ?_
      | (refine Keeps.press hm (by decide) ?_; assumption)
    | (intro t x ht)
    | (intro t ht)
    | (intro t y z ht)
    | (intro ht)
    | split
    | dsimp only

theorem State.rePartner_keeps {a2 : _} {a3 : _} (hm : 256 ||| m = m) (h : Keeps m r s) :
    Keeps m r (State.rePartner s a2 a3) := by
  unfold State.rePartner
  repeat' first
    | with_reducible first
      | assumption
      | refine Keeps.ite ?_ ?_
      | (refine Keeps.pages hm (by decide) ?_; assumption)
    | split
    | dsimp only

theorem State.makeReprint_keeps {a2 : _} {a3 : _} {a4 : _} (hm : 1114934 ||| m = m) (h : Keeps m r s) :
    Keeps m r (State.makeReprint s a2 a3 a4) := by
  unfold State.makeReprint
  try lift_lets
  repeat (intro x; first
    | (have hx : Keeps m r x := by
        dsimp only [x]
        repeat' first
          | with_reducible first
            | assumption
            | refine State.event_keeps (sub_trans (by decide) hm) ?_
            | refine State.rePartner_keeps (sub_trans (by decide) hm) ?_
            | refine State.setPage_keeps (sub_trans (by decide) hm) ?_
            | refine State.purge_keeps (sub_trans (by decide) hm) ?_
            | refine State.autoSpool_keeps (sub_trans (by decide) hm) ?_
            | refine State.reportPage_keeps (sub_trans (by decide) hm) ?_
            | (refine Keeps.pages hm (by decide) ?_; assumption)
          | split
          | dsimp only
       clear_value x)
    | clear_value x)
  repeat' first
    | with_reducible first
      | assumption
      | refine State.event_keeps (sub_trans (by decide) hm) ?_
      | refine State.rePartner_keeps (sub_trans (by decide) hm) ?_
      | refine State.setPage_keeps (sub_trans (by decide) hm) ?_
      | refine State.purge_keeps (sub_trans (by decide) hm) ?_
      | refine State.autoSpool_keeps (sub_trans (by decide) hm) ?_
      | refine State.reportPage_keeps (sub_trans (by decide) hm) ?_
      | (refine Keeps.pages hm (by decide) ?_; assumption)
    | split
    | dsimp only

theorem State.endPage_keeps {a2 : _} (hm : 1377206 ||| m = m) (h : Keeps m r s) :
    Keeps m r (State.endPage s a2) := by
  unfold State.endPage
  try lift_lets
  repeat (intro x; first
    | (have hx : Keeps m r x := by
        dsimp only [x]
        repeat' first
          | with_reducible first
            | assumption
            | refine Keeps.ite ?_ ?_
            | refine State.endImage_keeps (sub_trans (by decide) hm) ?_
            | refine State.disarm_keeps (sub_trans (by decide) hm) ?_
            | refine State.setPage_keeps (sub_trans (by decide) hm) ?_
            | refine State.bump_keeps (sub_trans (by decide) hm) ?_
            | refine State.setPageState_keeps (sub_trans (by decide) hm) ?_
            | refine State.event_keeps (sub_trans (by decide) hm) ?_
            | refine State.makeReprint_keeps (sub_trans (by decide) hm) ?_
            | refine Keeps.each ?_ ?_
          | (intro t x ht)
          | (intro t ht)
          | (intro t y z ht)
          | (intro ht)
          | split
          | dsimp only
       clear_value x)
    | clear_value x)
  repeat' first
    | with_reducible first
      | assumption
      | refine Keeps.ite ?_ ?_
      | refine State.endImage_keeps (sub_trans (by decide) hm) ?_
      | refine State.disarm_keeps (sub_trans (by decide) hm) ?_
      | refine State.setPage_keeps (sub_trans (by decide) hm) ?_
      | refine State.bump_keeps (sub_trans (by decide) hm) ?_
      | refine State.setPageState_keeps (sub_trans (by decide) hm) ?_
      | refine State.event_keeps (sub_trans (by decide) hm) ?_
      | refine State.makeReprint_keeps (sub_trans (by decide) hm) ?_
      | refine Keeps.each ?_ ?_
    | (intro t x ht)
    | (intro t ht)
    | (intro t y z ht)
    | (intro ht)
    | split
    | dsimp only

theorem State.endPageBadly_keeps {a2 : _} {a3 : _} {a4 : _} {a5 : _} (hm : 1377214 ||| m = m) (h : Keeps m r s) :
    Keeps m r (State.endPageBadly s a2 a3 a4 a5) := by
  unfold State.endPageBadly
  try lift_lets
  repeat (intro x; first
    | (have hx : Keeps m r x := by
        dsimp only [x]
        repeat' first
          | with_reducible first
            | assumption
            | refine Keeps.ite ?_ ?_
            | refine State.shutSlots_keeps (sub_trans (by decide) hm) ?_
            | refine State.spoilPage_keeps (sub_trans (by decide) hm) ?_
            | refine State.setPage_keeps (sub_trans (by decide) hm) ?_
            | refine State.truncate_keeps (sub_trans (by decide) hm) ?_
            | refine State.dropDecodes_keeps (sub_trans (by decide) hm) ?_
            | refine State.endPage_keeps (sub_trans (by decide) hm) ?_
            | refine State.fault_keeps (sub_trans (by decide) hm) ?_
            | refine Keeps.each ?_ ?_
          | (intro t x ht)
          | (intro t ht)
          | (intro t y z ht)
          | (intro ht)
          | split
          | dsimp only
       clear_value x)
    | clear_value x)
  repeat' first
    | with_reducible first
      | assumption
      | refine Keeps.ite ?_ ?_
      | refine State.shutSlots_keeps (sub_trans (by decide) hm) ?_
      | refine State.spoilPage_keeps (sub_trans (by decide) hm) ?_
      | refine State.setPage_keeps (sub_trans (by decide) hm) ?_
      | refine State.truncate_keeps (sub_trans (by decide) hm) ?_
      | refine State.dropDecodes_keeps (sub_trans (by decide) hm) ?_
      | refine State.endPage_keeps (sub_trans (by decide) hm) ?_
      | refine State.fault_keeps (sub_trans (by decide) hm) ?_
      | refine Keeps.each ?_ ?_
    | (intro t x ht)
    | (intro t ht)
    | (intro t y z ht)
    | (intro ht)
    | split
    | dsimp only

theorem State.advancePage_keeps {a2 : _} {a3 : _} (hm : 1114422 ||| m = m) (h : Keeps m r s) :
    Keeps m r (State.advancePage s a2 a3) := by
  unfold State.advancePage
  repeat' first
    | with_reducible first
      | assumption
      | refine Keeps.ite ?_ ?_
      | refine State.setPageState_keeps (sub_trans (by decide) hm) ?_
    | split
    | dsimp only

/-! ## Scan -/

theorem State.pinEvent_keeps {a2 : _} {a3 : _} {a4 : _} (hm : 16 ||| m = m) (h : Keeps m r s) :
    Keeps m r (State.pinEvent s a2 a3 a4) := by
  unfold State.pinEvent
  repeat' first
    | with_reducible first
      | assumption
      | refine State.event_keeps (sub_trans (by decide) hm) ?_
    | split
    | dsimp only

theorem State.refreshLaser_keeps {a2 : _} (hm : 18 ||| m = m) (h : Keeps m r s) :
    Keeps m r (State.refreshLaser s a2) := by
  unfold State.refreshLaser
  repeat' first
    | with_reducible first
      | assumption
      | refine Keeps.ite ?_ ?_
      | refine State.pinEvent_keeps (sub_trans (by decide) hm) ?_
      | refine State.setb_keeps (sub_trans (by decide) hm) ?_
    | split
    | dsimp only

theorem State.laserLow_keeps {a2 : _} (hm : 146 ||| m = m) (h : Keeps m r s) :
    Keeps m r (State.laserLow s a2) := by
  unfold State.laserLow
  repeat' first
    | with_reducible first
      | assumption
      | refine State.refreshLaser_keeps (sub_trans (by decide) hm) ?_
      | refine State.setStation_keeps (sub_trans (by decide) hm) ?_
    | split
    | dsimp only

theorem State.setStationState_keeps {a2 : _} {a3 : _} (hm : 18 ||| m = m) (h : Keeps m r s) :
    Keeps m r (State.setStationState s a2 a3) := by
  unfold State.setStationState
  repeat' first
    | with_reducible first
      | assumption
      | refine State.setn_keeps (sub_trans (by decide) hm) ?_
      | refine State.pinEvent_keeps (sub_trans (by decide) hm) ?_
      | refine State.setb_keeps (sub_trans (by decide) hm) ?_
    | split
    | dsimp only

theorem State.light_keeps {a2 : _} {a3 : _} (hm : 128 ||| m = m) (h : Keeps m r s) :
    Keeps m r (State.light s a2 a3) := by
  unfold State.light
  repeat' first
    | with_reducible first
      | assumption
      | refine State.setStation_keeps (sub_trans (by decide) hm) ?_
    | split
    | dsimp only

theorem State.setLock__keeps {a2 : _} {a3 : _} (hm : 18 ||| m = m) (h : Keeps m r s) :
    Keeps m r (State.setLock_ s a2 a3) := by
  unfold State.setLock_
  repeat' first
    | with_reducible first
      | assumption
      | refine Keeps.ite ?_ ?_
      | refine State.event_keeps (sub_trans (by decide) hm) ?_
      | refine State.setn_keeps (sub_trans (by decide) hm) ?_
    | split
    | dsimp only

theorem State.setIdentity_keeps {a2 : _} {a3 : _} {a4 : _} (hm : 18 ||| m = m) (h : Keeps m r s) :
    Keeps m r (State.setIdentity s a2 a3 a4) := by
  unfold State.setIdentity
  repeat' first
    | with_reducible first
      | assumption
      | refine Keeps.ite ?_ ?_
      | refine State.event_keeps (sub_trans (by decide) hm) ?_
      | refine State.setn_keeps (sub_trans (by decide) hm) ?_
    | split
    | dsimp only

theorem State.setReference_keeps {a2 : _} {a3 : _} (hm : 82 ||| m = m) (h : Keeps m r s) :
    Keeps m r (State.setReference s a2 a3) := by
  unfold State.setReference
  repeat' first
    | with_reducible first
      | assumption
      | refine Keeps.ite ?_ ?_
      | refine State.event_keeps (sub_trans (by decide) hm) ?_
      | refine State.setn_keeps (sub_trans (by decide) hm) ?_
      | refine State.setPolygon_keeps (sub_trans (by decide) hm) ?_
    | split
    | dsimp only

theorem State.setSync_keeps {a2 : _} {a3 : _} (hm : 18 ||| m = m) (h : Keeps m r s) :
    Keeps m r (State.setSync s a2 a3) := by
  unfold State.setSync
  repeat' first
    | with_reducible first
      | assumption
      | refine Keeps.ite ?_ ?_
      | refine State.event_keeps (sub_trans (by decide) hm) ?_
      | refine State.setn_keeps (sub_trans (by decide) hm) ?_
    | split
    | dsimp only

theorem State.enterSynced_keeps {a2 : _} (hm : 146 ||| m = m) (h : Keeps m r s) :
    Keeps m r (State.enterSynced s a2) := by
  unfold State.enterSynced
  repeat' first
    | with_reducible first
      | assumption
      | refine Keeps.ite ?_ ?_
      | refine State.setStation_keeps (sub_trans (by decide) hm) ?_
      | refine State.setSync_keeps (sub_trans (by decide) hm) ?_
      | refine State.light_keeps (sub_trans (by decide) hm) ?_
    | split
    | dsimp only

theorem State.leaveScan_keeps {a2 : _} (hm : 262806 ||| m = m) (h : Keeps m r s) :
    Keeps m r (State.leaveScan s a2) := by
  unfold State.leaveScan
  repeat' first
    | with_reducible first
      | assumption
      | refine State.closeImage_keeps (sub_trans (by decide) hm) ?_
      | refine State.setSync_keeps (sub_trans (by decide) hm) ?_
      | refine State.disarm_keeps (sub_trans (by decide) hm) ?_
      | refine State.setStation_keeps (sub_trans (by decide) hm) ?_
    | split
    | dsimp only

theorem State.feedback_keeps {a2 : _} {a3 : _} (hm : 40960 ||| m = m) (h : Keeps m r s) :
    Keeps m r (State.feedback s a2 a3) := by
  unfold State.feedback
  repeat' first
    | with_reducible first
      | assumption
      | refine Keeps.ite ?_ ?_
      | refine State.setDrive_keeps (sub_trans (by decide) hm) ?_
      | refine State.bumpless_keeps (sub_trans (by decide) hm) ?_
      | refine State.setLoopSlot_keeps (sub_trans (by decide) hm) ?_
    | split
    | dsimp only

theorem State.polygonIdle_keeps {a2 : _} (hm : 41046 ||| m = m) (h : Keeps m r s) :
    Keeps m r (State.polygonIdle s a2) := by
  unfold State.polygonIdle
  repeat' first
    | with_reducible first
      | assumption
      | refine State.disarm_keeps (sub_trans (by decide) hm) ?_
      | refine State.setReference_keeps (sub_trans (by decide) hm) ?_
      | refine State.setIdentity_keeps (sub_trans (by decide) hm) ?_
      | refine State.setLock__keeps (sub_trans (by decide) hm) ?_
      | refine State.feedback_keeps (sub_trans (by decide) hm) ?_
      | refine State.setn_keeps (sub_trans (by decide) hm) ?_
      | refine State.setPolygon_keeps (sub_trans (by decide) hm) ?_
    | split
    | dsimp only

theorem State.seek_keeps {a2 : _} (hm : 214 ||| m = m) (h : Keeps m r s) :
    Keeps m r (State.seek s a2) := by
  unfold State.seek
  try lift_lets
  repeat (intro x; first
    | (have hx : Keeps m r x := by
        dsimp only [x]
        repeat' first
          | with_reducible first
            | assumption
            | refine Keeps.ite ?_ ?_
            | refine State.after_keeps (sub_trans (by decide) hm) ?_
            | refine State.setLock__keeps (sub_trans (by decide) hm) ?_
            | refine State.setPolygon_keeps (sub_trans (by decide) hm) ?_
            | refine State.setReference_keeps (sub_trans (by decide) hm) ?_
            | refine State.light_keeps (sub_trans (by decide) hm) ?_
            | refine Keeps.each ?_ ?_
          | (intro t x ht)
          | (intro t ht)
          | (intro t y z ht)
          | (intro ht)
          | split
          | dsimp only
       clear_value x)
    | clear_value x)
  repeat' first
    | with_reducible first
      | assumption
      | refine Keeps.ite ?_ ?_
      | refine State.after_keeps (sub_trans (by decide) hm) ?_
      | refine State.setLock__keeps (sub_trans (by decide) hm) ?_
      | refine State.setPolygon_keeps (sub_trans (by decide) hm) ?_
      | refine State.setReference_keeps (sub_trans (by decide) hm) ?_
      | refine State.light_keeps (sub_trans (by decide) hm) ?_
      | refine Keeps.each ?_ ?_
    | (intro t x ht)
    | (intro t ht)
    | (intro t y z ht)
    | (intro ht)
    | split
    | dsimp only

theorem State.syncLoss_keeps {a2 : _} (hm : 303122 ||| m = m) (h : Keeps m r s) :
    Keeps m r (State.syncLoss s a2) := by
  unfold State.syncLoss
  repeat' first
    | with_reducible first
      | assumption
      | refine State.feedback_keeps (sub_trans (by decide) hm) ?_
      | refine State.fault_keeps (sub_trans (by decide) hm) ?_
      | refine State.setIdentity_keeps (sub_trans (by decide) hm) ?_
      | refine State.setLock__keeps (sub_trans (by decide) hm) ?_
    | split
    | dsimp only

theorem State.refreshLock_keeps {a2 : _} (hm : 303318 ||| m = m) (h : Keeps m r s) :
    Keeps m r (State.refreshLock s a2) := by
  unfold State.refreshLock
  repeat' first
    | with_reducible first
      | assumption
      | refine Keeps.ite ?_ ?_
      | refine State.seek_keeps (sub_trans (by decide) hm) ?_
      | refine State.polygonIdle_keeps (sub_trans (by decide) hm) ?_
      | refine State.syncLoss_keeps (sub_trans (by decide) hm) ?_
    | split
    | dsimp only

theorem State.refreshSync_keeps {a2 : _} (hm : 262806 ||| m = m) (h : Keeps m r s) :
    Keeps m r (State.refreshSync s a2) := by
  unfold State.refreshSync
  repeat' first
    | with_reducible first
      | assumption
      | refine Keeps.ite ?_ ?_
      | refine State.enterSynced_keeps (sub_trans (by decide) hm) ?_
      | refine State.leaveScan_keeps (sub_trans (by decide) hm) ?_
    | split
    | dsimp only

theorem State.refreshPolygon_keeps {a2 : _} (hm : 303830 ||| m = m) (h : Keeps m r s) :
    Keeps m r (State.refreshPolygon s a2) := by
  unfold State.refreshPolygon
  try lift_lets
  repeat (intro x; first
    | (have hx : Keeps m r x := by
        dsimp only [x]
        repeat' first
          | with_reducible first
            | assumption
            | refine State.refreshLock_keeps (sub_trans (by decide) hm) ?_
            | refine State.refreshSync_keeps (sub_trans (by decide) hm) ?_
            | refine Keeps.foldl ?_ ?_
          | (intro t x ht)
          | (intro t ht)
          | (intro t y z ht)
          | (intro ht)
          | split
          | dsimp only
       clear_value x)
    | clear_value x)
  repeat' first
    | with_reducible first
      | assumption
      | refine State.refreshLock_keeps (sub_trans (by decide) hm) ?_
      | refine State.refreshSync_keeps (sub_trans (by decide) hm) ?_
      | refine Keeps.foldl ?_ ?_
    | (intro t x ht)
    | (intro t ht)
    | (intro t y z ht)
    | (intro ht)
    | split
    | dsimp only

theorem State.reacquire_keeps {a2 : _} (hm : 210 ||| m = m) (h : Keeps m r s) :
    Keeps m r (State.reacquire s a2) := by
  unfold State.reacquire
  try lift_lets
  repeat (intro x; first
    | (have hx : Keeps m r x := by
        dsimp only [x]
        repeat' first
          | with_reducible first
            | assumption
            | refine State.setPolygon_keeps (sub_trans (by decide) hm) ?_
            | refine State.setLock__keeps (sub_trans (by decide) hm) ?_
            | refine State.setStation_keeps (sub_trans (by decide) hm) ?_
            | refine Keeps.each ?_ ?_
          | (intro t x ht)
          | (intro t ht)
          | (intro t y z ht)
          | (intro ht)
          | split
          | dsimp only
       clear_value x)
    | clear_value x)
  repeat' first
    | with_reducible first
      | assumption
      | refine State.setPolygon_keeps (sub_trans (by decide) hm) ?_
      | refine State.setLock__keeps (sub_trans (by decide) hm) ?_
      | refine State.setStation_keeps (sub_trans (by decide) hm) ?_
      | refine Keeps.each ?_ ?_
    | (intro t x ht)
    | (intro t ht)
    | (intro t y z ht)
    | (intro ht)
    | split
    | dsimp only

theorem State.loadClock_keeps {a2 : _} (hm : 466 ||| m = m) (h : Keeps m r s) :
    Keeps m r (State.loadClock s a2) := by
  unfold State.loadClock
  repeat' first
    | with_reducible first
      | assumption
      | refine Keeps.ite ?_ ?_
      | refine State.setStation_keeps (sub_trans (by decide) hm) ?_
      | refine State.spoilImaging_keeps (sub_trans (by decide) hm) ?_
      | refine State.setn_keeps (sub_trans (by decide) hm) ?_
      | refine State.event_keeps (sub_trans (by decide) hm) ?_
      | refine State.reacquire_keeps (sub_trans (by decide) hm) ?_
    | split
    | dsimp only

theorem State.matchIdentity_keeps {a2 : _} {a3 : _} (hm : 82 ||| m = m) (h : Keeps m r s) :
    Keeps m r (State.matchIdentity s a2 a3) := by
  unfold State.matchIdentity
  repeat' first
    | with_reducible first
      | assumption
      | refine Keeps.ite ?_ ?_
      | refine State.setPolygon_keeps (sub_trans (by decide) hm) ?_
      | refine State.setIdentity_keeps (sub_trans (by decide) hm) ?_
    | split
    | dsimp only

theorem State.learnSignature_keeps {a2 : _} {a3 : _} (hm : 82 ||| m = m) (h : Keeps m r s) :
    Keeps m r (State.learnSignature s a2 a3) := by
  unfold State.learnSignature
  repeat' first
    | with_reducible first
      | assumption
      | refine Keeps.ite ?_ ?_
      | refine State.setPolygon_keeps (sub_trans (by decide) hm) ?_
      | refine State.setBytes_keeps (sub_trans (by decide) hm) ?_
      | refine State.setIdentity_keeps (sub_trans (by decide) hm) ?_
      | refine State.event_keeps (sub_trans (by decide) hm) ?_
    | split
    | dsimp only

theorem State.beginLearning_keeps {a2 : _} (hm : 82 ||| m = m) (h : Keeps m r s) :
    Keeps m r (State.beginLearning s a2) := by
  unfold State.beginLearning
  repeat' first
    | with_reducible first
      | assumption
      | refine State.setIdentity_keeps (sub_trans (by decide) hm) ?_
      | refine State.setPolygon_keeps (sub_trans (by decide) hm) ?_
    | split
    | dsimp only

theorem State.identityBoundary_keeps {a2 : _} (hm : 82 ||| m = m) (h : Keeps m r s) :
    Keeps m r (State.identityBoundary s a2) := by
  unfold State.identityBoundary
  repeat' first
    | with_reducible first
      | assumption
      | refine Keeps.ite ?_ ?_
      | refine State.matchIdentity_keeps (sub_trans (by decide) hm) ?_
      | refine State.beginLearning_keeps (sub_trans (by decide) hm) ?_
      | refine State.learnSignature_keeps (sub_trans (by decide) hm) ?_
      | refine State.setPolygon_keeps (sub_trans (by decide) hm) ?_
      | refine State.setIdentity_keeps (sub_trans (by decide) hm) ?_
    | split
    | dsimp only

theorem State.lockBoundary_keeps {a2 : _} (hm : 210 ||| m = m) (h : Keeps m r s) :
    Keeps m r (State.lockBoundary s a2) := by
  unfold State.lockBoundary
  repeat' first
    | with_reducible first
      | assumption
      | refine Keeps.ite ?_ ?_
      | refine State.setn_keeps (sub_trans (by decide) hm) ?_
      | refine State.setPolygon_keeps (sub_trans (by decide) hm) ?_
      | refine State.setLock__keeps (sub_trans (by decide) hm) ?_
      | refine State.reacquire_keeps (sub_trans (by decide) hm) ?_
    | split
    | dsimp only

theorem State.boundary_keeps {a2 : _} {a3 : _} (hm : 41170 ||| m = m) (h : Keeps m r s) :
    Keeps m r (State.boundary s a2 a3) := by
  unfold State.boundary
  repeat' first
    | with_reducible first
      | assumption
      | refine Keeps.ite ?_ ?_
      | refine State.feedback_keeps (sub_trans (by decide) hm) ?_
      | refine State.identityBoundary_keeps (sub_trans (by decide) hm) ?_
      | refine State.lockBoundary_keeps (sub_trans (by decide) hm) ?_
      | refine State.setReference_keeps (sub_trans (by decide) hm) ?_
    | split
    | dsimp only

theorem State.acquire_keeps {a2 : _} (hm : 214 ||| m = m) (h : Keeps m r s) :
    Keeps m r (State.acquire s a2) := by
  unfold State.acquire
  try lift_lets
  repeat (intro x; first
    | (have hx : Keeps m r x := by
        dsimp only [x]
        repeat' first
          | with_reducible first
            | assumption
            | refine Keeps.ite ?_ ?_
            | refine State.setPolygon_keeps (sub_trans (by decide) hm) ?_
            | refine State.disarm_keeps (sub_trans (by decide) hm) ?_
            | refine State.setLock__keeps (sub_trans (by decide) hm) ?_
            | refine State.setStation_keeps (sub_trans (by decide) hm) ?_
            | refine State.beginLearning_keeps (sub_trans (by decide) hm) ?_
            | refine Keeps.each ?_ ?_
          | (intro t x ht)
          | (intro t ht)
          | (intro t y z ht)
          | (intro ht)
          | split
          | dsimp only
       clear_value x)
    | clear_value x)
  repeat' first
    | with_reducible first
      | assumption
      | refine Keeps.ite ?_ ?_
      | refine State.setPolygon_keeps (sub_trans (by decide) hm) ?_
      | refine State.disarm_keeps (sub_trans (by decide) hm) ?_
      | refine State.setLock__keeps (sub_trans (by decide) hm) ?_
      | refine State.setStation_keeps (sub_trans (by decide) hm) ?_
      | refine State.beginLearning_keeps (sub_trans (by decide) hm) ?_
      | refine Keeps.each ?_ ?_
    | (intro t x ht)
    | (intro t ht)
    | (intro t y z ht)
    | (intro ht)
    | split
    | dsimp only

theorem State.referenceFacet_step_keeps {p : Nat} {g : Polygon} (hm : 41174 ||| m = m) (h : Keeps m r s) :
    Keeps m r (State.referenceFacet.step p g s) := by
  unfold State.referenceFacet.step
  split
  · dsimp only
    split
    · exact State.boundary_keeps (sub_trans (by decide) hm) (State.setPolygon_keeps (sub_trans (by decide) hm) h)
    · exact State.setPolygon_keeps (sub_trans (by decide) hm) h
  · exact State.boundary_keeps (sub_trans (by decide) hm) (State.setPolygon_keeps (sub_trans (by decide) hm) h)

theorem State.referenceFacet_keeps {p : Nat} {iv : Option Nat} (hm : 41174 ||| m = m) (h : Keeps m r s) :
    Keeps m r (s.referenceFacet p iv) := by
  unfold State.referenceFacet
  extract_lets g iv g1 s1 s2
  clear_value g1
  split
  · exact Keeps.ite (State.acquire_keeps (sub_trans (by decide) hm) (State.setReference_keeps (sub_trans (by decide) hm) (State.setPolygon_keeps (sub_trans (by decide) hm) h)))
      (State.setReference_keeps (sub_trans (by decide) hm) (State.setPolygon_keeps (sub_trans (by decide) hm) h))
  · exact State.referenceFacet_step_keeps hm h
  · exact State.referenceFacet_step_keeps hm h
  · exact h

theorem State.polygonFacet_keeps {a2 : _} {a3 : _} (hm : 41174 ||| m = m) (h : Keeps m r s) :
    Keeps m r (State.polygonFacet s a2 a3) := by
  unfold State.polygonFacet
  repeat' first
    | with_reducible first
      | assumption
      | refine Keeps.ite ?_ ?_
      | refine State.referenceFacet_keeps (sub_trans (by decide) hm) ?_
      | refine State.setPolygon_keeps (sub_trans (by decide) hm) ?_
    | split
    | dsimp only

theorem State.learnStagger_keeps {a2 : _} {a3 : _} {a4 : _} (hm : 4194306 ||| m = m) (h : Keeps m r s) :
    Keeps m r (State.learnStagger s a2 a3 a4) := by
  unfold State.learnStagger
  try lift_lets
  repeat (intro x; first
    | (have hx : Keeps m r x := by
        dsimp only [x]
        repeat' first
          | with_reducible first
            | assumption
            | refine Keeps.ite ?_ ?_
            | refine State.draw_keeps (sub_trans (by decide) hm) ?_
            | refine State.setBytes_keeps (sub_trans (by decide) hm) ?_
            | refine Keeps.each ?_ ?_
          | (intro t x ht)
          | (intro t ht)
          | (intro t y z ht)
          | (intro ht)
          | split
          | dsimp only
       clear_value x)
    | clear_value x)
  repeat' first
    | with_reducible first
      | assumption
      | refine Keeps.ite ?_ ?_
      | refine State.draw_keeps (sub_trans (by decide) hm) ?_
      | refine State.setBytes_keeps (sub_trans (by decide) hm) ?_
      | refine Keeps.each ?_ ?_
    | (intro t x ht)
    | (intro t ht)
    | (intro t y z ht)
    | (intro ht)
    | split
    | dsimp only

end Sys2Proof.Machine
end

