-- ==== Sys2Proof/Laws/Keeps2.lean ====
section
/-! SUPPORT. What every operation of these files of the model keeps: Stations, Pages, Press. -/

namespace Sys2Proof.Machine

variable {m : Nat} {r s : State}

/-! ## Stations -/

theorem State.beamEvent_keeps {a2 : _} {a3 : _} {a4 : _} {a5 : _} (hm : 16 ||| m = m) (h : Keeps m r s) :
    Keeps m r (State.beamEvent s a2 a3 a4 a5) := by
  unfold State.beamEvent
  repeat' first
    | with_reducible first
      | assumption
      | refine State.event_keeps (sub_trans (by decide) hm) ?_
    | split
    | dsimp only

theorem State.apcEvent_keeps {a2 : _} {a3 : _} {a4 : _} {a5 : _} (hm : 16 ||| m = m) (h : Keeps m r s) :
    Keeps m r (State.apcEvent s a2 a3 a4 a5) := by
  unfold State.apcEvent
  repeat' first
    | with_reducible first
      | assumption
      | refine State.event_keeps (sub_trans (by decide) hm) ?_
    | split
    | dsimp only

theorem State.startImage_keeps {a2 : _} {a3 : _} (hm : 263058 ||| m = m) (h : Keeps m r s) :
    Keeps m r (State.startImage s a2 a3) := by
  unfold State.startImage
  repeat' first
    | with_reducible first
      | assumption
      | refine Keeps.ite ?_ ?_
      | refine State.closeImage_keeps (sub_trans (by decide) hm) ?_
      | refine State.truncate_keeps (sub_trans (by decide) hm) ?_
      | refine State.setStation_keeps (sub_trans (by decide) hm) ?_
      | refine State.setn_keeps (sub_trans (by decide) hm) ?_
      | refine State.seti_keeps (sub_trans (by decide) hm) ?_
      | refine State.spoilPage_keeps (sub_trans (by decide) hm) ?_
    | split
    | dsimp only

theorem State.noteAdvance_keeps {a2 : _} {a3 : _} (hm : 146 ||| m = m) (h : Keeps m r s) :
    Keeps m r (State.noteAdvance s a2 a3) := by
  unfold State.noteAdvance
  repeat' first
    | with_reducible first
      | assumption
      | refine Keeps.ite ?_ ?_
      | refine State.seti_keeps (sub_trans (by decide) hm) ?_
      | refine State.setStation_keeps (sub_trans (by decide) hm) ?_
      | refine State.lineEvent_keeps (sub_trans (by decide) hm) ?_
      | refine State.setn_keeps (sub_trans (by decide) hm) ?_
    | split
    | dsimp only

theorem State.checkResidency_keeps {a2 : _} {a3 : _} (hm : 262546 ||| m = m) (h : Keeps m r s) :
    Keeps m r (State.checkResidency s a2 a3) := by
  unfold State.checkResidency
  try lift_lets
  repeat (intro x; first
    | (have hx : Keeps m r x := by
        dsimp only [x]
        repeat' first
          | with_reducible first
            | assumption
            | refine Keeps.ite ?_ ?_
            | refine State.spoilPage_keeps (sub_trans (by decide) hm) ?_
            | refine State.setStation_keeps (sub_trans (by decide) hm) ?_
            | refine State.bump_keeps (sub_trans (by decide) hm) ?_
            | refine State.lineEvent_keeps (sub_trans (by decide) hm) ?_
            | refine State.fault_keeps (sub_trans (by decide) hm) ?_
            | refine Keeps.each ?_ ?_
          | (intro t x ht)
          | (intro t ht)
          | (intro t y z ht)
          | (intro ht)
          | split
          | dsimp only
       clear_value x)
    | clear_value x)
  repeat' first
    | with_reducible first
      | assumption
      | refine Keeps.ite ?_ ?_
      | refine State.spoilPage_keeps (sub_trans (by decide) hm) ?_
      | refine State.setStation_keeps (sub_trans (by decide) hm) ?_
      | refine State.bump_keeps (sub_trans (by decide) hm) ?_
      | refine State.lineEvent_keeps (sub_trans (by decide) hm) ?_
      | refine State.fault_keeps (sub_trans (by decide) hm) ?_
      | refine Keeps.each ?_ ?_
    | (intro t x ht)
    | (intro t ht)
    | (intro t y z ht)
    | (intro ht)
    | split
    | dsimp only

theorem State.noteDeficit_keeps {a2 : _} {a3 : _} {a4 : _} (hm : 262546 ||| m = m) (h : Keeps m r s) :
    Keeps m r (State.noteDeficit s a2 a3 a4) := by
  unfold State.noteDeficit
  repeat' first
    | with_reducible first
      | assumption
      | refine Keeps.ite ?_ ?_
      | refine State.lineEvent_keeps (sub_trans (by decide) hm) ?_
      | refine State.setStation_keeps (sub_trans (by decide) hm) ?_
      | refine State.bump_keeps (sub_trans (by decide) hm) ?_
      | refine State.bumpBy_keeps (sub_trans (by decide) hm) ?_
      | refine State.fault_keeps (sub_trans (by decide) hm) ?_
      | refine State.spoilPage_keeps (sub_trans (by decide) hm) ?_
    | split
    | dsimp only

theorem State.completeImage_keeps {a2 : _} (hm : 263058 ||| m = m) (h : Keeps m r s) :
    Keeps m r (State.completeImage s a2) := by
  unfold State.completeImage
  repeat' first
    | with_reducible first
      | assumption
      | refine State.lineEvent_keeps (sub_trans (by decide) hm) ?_
      | refine State.setPage_keeps (sub_trans (by decide) hm) ?_
      | refine State.endImage_keeps (sub_trans (by decide) hm) ?_
    | split
    | dsimp only

theorem State.bandParity_keeps {a2 : _} {a3 : _} {a4 : _} (hm : 262162 ||| m = m) (h : Keeps m r s) :
    Keeps m r (State.bandParity s a2 a3 a4) := by
  unfold State.bandParity
  try lift_lets
  repeat (intro x; first
    | (have hx : Keeps m r x := by
        dsimp only [x]
        repeat' first
          | with_reducible first
            | assumption
            | refine Keeps.ite ?_ ?_
            | refine State.faultInjected_keeps (sub_trans (by decide) hm) ?_
            | refine Keeps.each ?_ ?_
          | (intro t x ht)
          | (intro t ht)
          | (intro t y z ht)
          | (intro ht)
          | split
          | dsimp only
       clear_value x)
    | clear_value x)
  repeat' first
    | with_reducible first
      | assumption
      | refine Keeps.ite ?_ ?_
      | refine State.faultInjected_keeps (sub_trans (by decide) hm) ?_
      | refine Keeps.each ?_ ?_
    | (intro t x ht)
    | (intro t ht)
    | (intro t y z ht)
    | (intro ht)
    | split
    | dsimp only

theorem State.assignLines_keeps {a2 : _} {a3 : _} (hm : 263058 ||| m = m) (h : Keeps m r s) :
    Keeps m r (State.assignLines s a2 a3) := by
  unfold State.assignLines
  repeat' first
    | with_reducible first
      | assumption
      | refine Keeps.ite ?_ ?_
      | refine State.setn_keeps (sub_trans (by decide) hm) ?_
      | refine State.setStation_keeps (sub_trans (by decide) hm) ?_
      | refine State.lineEvent_keeps (sub_trans (by decide) hm) ?_
      | refine State.spoilPage_keeps (sub_trans (by decide) hm) ?_
      | refine State.seti_keeps (sub_trans (by decide) hm) ?_
      | refine State.noteDeficit_keeps (sub_trans (by decide) hm) ?_
      | refine State.bandParity_keeps (sub_trans (by decide) hm) ?_
      | refine State.checkResidency_keeps (sub_trans (by decide) hm) ?_
      | refine State.completeImage_keeps (sub_trans (by decide) hm) ?_
    | split
    | dsimp only

theorem State.takeBand_keeps {a2 : _} (hm : 18 ||| m = m) (h : Keeps m r s) :
    Keeps m r (State.takeBand s a2) := by
  unfold State.takeBand
  repeat' first
    | with_reducible first
      | assumption
      | refine Keeps.ite ?_ ?_
      | refine State.lineEvent_keeps (sub_trans (by decide) hm) ?_
      | refine State.setn_keeps (sub_trans (by decide) hm) ?_
    | split
    | dsimp only

theorem execSosWindowOpen_keeps {a1 : _} (hm : 4457362 ||| m = m) (h : Keeps m r s) :
    KeepsO m r (execSosWindowOpen a1 s) := by
  unfold execSosWindowOpen
  repeat' first
    | with_reducible first
      | assumption
      | refine KeepsO.next ?_
      | exact KeepsO.fault
      | refine KeepsO.ite ?_ ?_
      | refine Keeps.ite ?_ ?_
      | refine State.takeBand_keeps (sub_trans (by decide) hm) ?_
      | refine State.closeImage_keeps (sub_trans (by decide) hm) ?_
      | refine State.draw_keeps (sub_trans (by decide) hm) ?_
      | refine State.noteAdvance_keeps (sub_trans (by decide) hm) ?_
      | refine State.setStation_keeps (sub_trans (by decide) hm) ?_
      | refine State.assignLines_keeps (sub_trans (by decide) hm) ?_
    | split
    | dsimp only

theorem State.countSubstitution_keeps {a2 : _} (hm : 2 ||| m = m) (h : Keeps m r s) :
    Keeps m r (State.countSubstitution s a2) := by
  unfold State.countSubstitution
  repeat' first
    | with_reducible first
      | assumption
      | refine Keeps.ite ?_ ?_
      | refine State.bumpBy_keeps (sub_trans (by decide) hm) ?_
    | split
    | dsimp only

theorem State.beamDies_keeps {a2 : _} {a3 : _} (hm : 262546 ||| m = m) (h : Keeps m r s) :
    Keeps m r (State.beamDies s a2 a3) := by
  unfold State.beamDies
  repeat' first
    | with_reducible first
      | assumption
      | refine Keeps.ite ?_ ?_
      | refine State.beamEvent_keeps (sub_trans (by decide) hm) ?_
      | refine State.setn_keeps (sub_trans (by decide) hm) ?_
      | refine State.setStation_keeps (sub_trans (by decide) hm) ?_
      | refine State.spoilImaging_keeps (sub_trans (by decide) hm) ?_
      | refine State.fault_keeps (sub_trans (by decide) hm) ?_
    | split
    | dsimp only

theorem State.beamHealth_keeps {a2 : _} {a3 : _} {a4 : _} (hm : 262546 ||| m = m) (h : Keeps m r s) :
    Keeps m r (State.beamHealth s a2 a3 a4) := by
  unfold State.beamHealth
  repeat' first
    | with_reducible first
      | assumption
      | refine Keeps.ite ?_ ?_
      | refine State.setBytes_keeps (sub_trans (by decide) hm) ?_
      | refine State.beamEvent_keeps (sub_trans (by decide) hm) ?_
      | refine State.setn_keeps (sub_trans (by decide) hm) ?_
      | refine State.beamDies_keeps (sub_trans (by decide) hm) ?_
      | refine State.setStation_keeps (sub_trans (by decide) hm) ?_
    | split
    | dsimp only

theorem State.evaluateHealth_keeps {a2 : _} {a3 : _} (hm : 262546 ||| m = m) (h : Keeps m r s) :
    Keeps m r (State.evaluateHealth s a2 a3) := by
  unfold State.evaluateHealth
  try lift_lets
  repeat (intro x; first
    | (have hx : Keeps m r x := by
        dsimp only [x]
        repeat' first
          | with_reducible first
            | assumption
            | refine Keeps.ite ?_ ?_
            | refine State.beamHealth_keeps (sub_trans (by decide) hm) ?_
            | refine Keeps.each ?_ ?_
          | (intro t x ht)
          | (intro t ht)
          | (intro t y z ht)
          | (intro ht)
          | split
          | dsimp only
       clear_value x)
    | clear_value x)
  repeat' first
    | with_reducible first
      | assumption
      | refine Keeps.ite ?_ ?_
      | refine State.beamHealth_keeps (sub_trans (by decide) hm) ?_
      | refine Keeps.each ?_ ?_
    | (intro t x ht)
    | (intro t ht)
    | (intro t y z ht)
    | (intro ht)
    | split
    | dsimp only

theorem State.syncFacet_keeps {a2 : _} {a3 : _} (hm : 262162 ||| m = m) (h : Keeps m r s) :
    Keeps m r (State.syncFacet s a2 a3) := by
  unfold State.syncFacet
  repeat' first
    | with_reducible first
      | assumption
      | refine Keeps.ite ?_ ?_
      | refine State.setSync_keeps (sub_trans (by decide) hm) ?_
      | refine State.bump_keeps (sub_trans (by decide) hm) ?_
      | refine State.fault_keeps (sub_trans (by decide) hm) ?_
    | split
    | dsimp only

theorem execFacetSos_keeps {a1 : _} {a2 : _} (hm : 4498390 ||| m = m) (h : Keeps m r s) :
    KeepsO m r (execFacetSos a1 a2 s) := by
  unfold execFacetSos
  repeat' first
    | with_reducible first
      | assumption
      | refine KeepsO.next ?_
      | exact KeepsO.fault
      | refine KeepsO.ite ?_ ?_
      | refine Keeps.ite ?_ ?_
      | refine State.setStation_keeps (sub_trans (by decide) hm) ?_
      | refine State.polygonFacet_keeps (sub_trans (by decide) hm) ?_
      | refine State.syncFacet_keeps (sub_trans (by decide) hm) ?_
      | refine State.evaluateHealth_keeps (sub_trans (by decide) hm) ?_
      | refine State.learnStagger_keeps (sub_trans (by decide) hm) ?_
      | refine State.countSubstitution_keeps (sub_trans (by decide) hm) ?_
      | refine State.loadClock_keeps (sub_trans (by decide) hm) ?_
      | refine State.arm_keeps (sub_trans (by decide) hm) ?_
      | refine State.refreshPolygon_keeps (sub_trans (by decide) hm) ?_
    | split
    | dsimp only

theorem execSeekingBlankingElapsed_keeps {a1 : _} (hm : 132 ||| m = m) (h : Keeps m r s) :
    KeepsO m r (execSeekingBlankingElapsed a1 s) := by
  unfold execSeekingBlankingElapsed
  repeat' first
    | with_reducible first
      | assumption
      | refine KeepsO.next ?_
      | exact KeepsO.fault
      | refine KeepsO.ite ?_ ?_
      | refine Keeps.ite ?_ ?_
      | refine State.light_keeps (sub_trans (by decide) hm) ?_
      | refine State.disarm_keeps (sub_trans (by decide) hm) ?_
    | split
    | dsimp only

theorem execSeekTimeout_keeps {a1 : _} (hm : 303830 ||| m = m) (h : Keeps m r s) :
    KeepsO m r (execSeekTimeout a1 s) := by
  unfold execSeekTimeout
  try lift_lets
  repeat (intro x; first
    | (have hx : Keeps m r x := by
        dsimp only [x]
        repeat' first
          | with_reducible first
            | assumption
            | refine KeepsO.next ?_
            | exact KeepsO.fault
            | refine KeepsO.ite ?_ ?_
            | refine Keeps.ite ?_ ?_
            | refine State.refreshPolygon_keeps (sub_trans (by decide) hm) ?_
            | refine State.refreshSync_keeps (sub_trans (by decide) hm) ?_
            | refine State.fault_keeps (sub_trans (by decide) hm) ?_
            | refine State.polygonIdle_keeps (sub_trans (by decide) hm) ?_
            | refine State.disarm_keeps (sub_trans (by decide) hm) ?_
            | refine Keeps.foldl ?_ ?_
          | (intro t x ht)
          | (intro t ht)
          | (intro t y z ht)
          | (intro ht)
          | split
          | dsimp only
       clear_value x)
    | clear_value x)
  repeat' first
    | with_reducible first
      | assumption
      | refine KeepsO.next ?_
      | exact KeepsO.fault
      | refine KeepsO.ite ?_ ?_
      | refine Keeps.ite ?_ ?_
      | refine State.refreshPolygon_keeps (sub_trans (by decide) hm) ?_
      | refine State.refreshSync_keeps (sub_trans (by decide) hm) ?_
      | refine State.fault_keeps (sub_trans (by decide) hm) ?_
      | refine State.polygonIdle_keeps (sub_trans (by decide) hm) ?_
      | refine State.disarm_keeps (sub_trans (by decide) hm) ?_
      | refine Keeps.foldl ?_ ?_
    | (intro t x ht)
    | (intro t ht)
    | (intro t y z ht)
    | (intro ht)
    | split
    | dsimp only

theorem execEosWindowOpen_keeps {a1 : _} (hm : 128 ||| m = m) (h : Keeps m r s) :
    KeepsO m r (execEosWindowOpen a1 s) := by
  unfold execEosWindowOpen
  repeat' first
    | with_reducible first
      | assumption
      | refine KeepsO.next ?_
      | exact KeepsO.fault
      | refine KeepsO.ite ?_ ?_
      | refine Keeps.ite ?_ ?_
      | refine State.setStation_keeps (sub_trans (by decide) hm) ?_
    | split
    | dsimp only

theorem State.learnIntervals_keeps {a2 : _} {a3 : _} {a4 : _} (hm : 128 ||| m = m) (h : Keeps m r s) :
    Keeps m r (State.learnIntervals s a2 a3 a4) := by
  unfold State.learnIntervals
  repeat' first
    | with_reducible first
      | assumption
      | refine Keeps.ite ?_ ?_
      | refine State.setStation_keeps (sub_trans (by decide) hm) ?_
    | split
    | dsimp only

theorem execEosMeasured_release_keeps {n : Nat} (hm : 262802 ||| m = m) (h : Keeps m r s) :
    Keeps m r (execEosMeasured.release n s) := by
  unfold execEosMeasured.release
  dsimp only
  split
  · refine State.feedDecode_keeps (sub_trans (by decide) hm) (Keeps.each (fun t x ht => ?_) (State.closeImage_keeps (sub_trans (by decide) hm) h))
    split
    · exact State.setBuffer_keeps (sub_trans (by decide) hm) ht
    · exact ht
  · exact State.closeImage_keeps (sub_trans (by decide) hm) h

theorem execEosMeasured_keeps {n : Nat} {l : List Crossing} (hm : 262802 ||| m = m) (h : Keeps m r s) :
    KeepsO m r (execEosMeasured n l s) := by
  unfold execEosMeasured
  dsimp only
  refine KeepsO.ite (KeepsO.ite ?_ ?_) (KeepsO.next h)
  · refine KeepsO.next (execEosMeasured_release_keeps hm ?_)
    split
    · exact State.learnIntervals_keeps (sub_trans (by decide) hm) (State.setStation_keeps (sub_trans (by decide) hm) h)
    · exact State.event_keeps (sub_trans (by decide) hm) (State.setStation_keeps (sub_trans (by decide) hm) (State.learnIntervals_keeps (sub_trans (by decide) hm) (State.setStation_keeps (sub_trans (by decide) hm) h)))
  · refine KeepsO.next (execEosMeasured_release_keeps hm ?_)
    have h3 : ∀ t : State, Keeps m r t → ∀ c : Prop, ∀ _ : Decidable c, ∀ x, Keeps m r (if c then t.event 51 x else t) :=
      fun t ht c _ x => Keeps.ite (State.event_keeps (sub_trans (by decide) hm) ht) ht
    split
    · exact State.fault_keeps (sub_trans (by decide) hm) (h3 _ (State.setStation_keeps (sub_trans (by decide) hm) (State.bump_keeps (sub_trans (by decide) hm) (State.setStation_keeps (sub_trans (by decide) hm) h))) _ _ _)
    · exact h3 _ (State.setStation_keeps (sub_trans (by decide) hm) (State.bump_keeps (sub_trans (by decide) hm) (State.setStation_keeps (sub_trans (by decide) hm) h))) _ _ _

theorem State.setDriver_keeps {a2 : _} {a3 : _} {a4 : _} (hm : 128 ||| m = m) (h : Keeps m r s) :
    Keeps m r (State.setDriver s a2 a3 a4) := by
  unfold State.setDriver
  repeat' first
    | with_reducible first
      | assumption
      | refine State.setStation_keeps (sub_trans (by decide) hm) ?_
    | split
    | dsimp only

theorem State.setDriverWord_keeps {a2 : _} {a3 : _} {a4 : _} {a5 : _} (hm : 2 ||| m = m) (h : Keeps m r s) :
    Keeps m r (State.setDriverWord s a2 a3 a4 a5) := by
  unfold State.setDriverWord
  repeat' first
    | with_reducible first
      | assumption
      | refine State.setBytes_keeps (sub_trans (by decide) hm) ?_
    | split
    | dsimp only

theorem State.setDriverState_keeps {a2 : _} {a3 : _} {a4 : _} (hm : 18 ||| m = m) (h : Keeps m r s) :
    Keeps m r (State.setDriverState s a2 a3 a4) := by
  unfold State.setDriverState
  repeat' first
    | with_reducible first
      | assumption
      | refine Keeps.ite ?_ ?_
      | refine State.apcEvent_keeps (sub_trans (by decide) hm) ?_
      | refine State.setn_keeps (sub_trans (by decide) hm) ?_
    | split
    | dsimp only

theorem State.startFails_keeps {a2 : _} {a3 : _} (hm : 262162 ||| m = m) (h : Keeps m r s) :
    Keeps m r (State.startFails s a2 a3) := by
  unfold State.startFails
  repeat' first
    | with_reducible first
      | assumption
      | refine State.fault_keeps (sub_trans (by decide) hm) ?_
      | refine State.setDriverState_keeps (sub_trans (by decide) hm) ?_
    | split
    | dsimp only

theorem State.driverFails_keeps {a2 : _} {a3 : _} (hm : 262162 ||| m = m) (h : Keeps m r s) :
    Keeps m r (State.driverFails s a2 a3) := by
  unfold State.driverFails
  repeat' first
    | with_reducible first
      | assumption
      | refine Keeps.ite ?_ ?_
      | refine State.startFails_keeps (sub_trans (by decide) hm) ?_
    | split
    | dsimp only

theorem State.spiError_keeps {a2 : _} {a3 : _} (hm : 262290 ||| m = m) (h : Keeps m r s) :
    Keeps m r (State.spiError s a2 a3) := by
  unfold State.spiError
  repeat' first
    | with_reducible first
      | assumption
      | refine Keeps.ite ?_ ?_
      | refine State.setDriver_keeps (sub_trans (by decide) hm) ?_
      | refine State.bump_keeps (sub_trans (by decide) hm) ?_
      | refine State.driverFails_keeps (sub_trans (by decide) hm) ?_
    | split
    | dsimp only

theorem State.exchange_keeps {a2 : _} {a3 : _} {a4 : _} {a5 : _} {a6 : _} {a7 : _} (hm : 262290 ||| m = m) (h : Keeps m r s) :
    Keeps m r (State.exchange s a2 a3 a4 a5 a6 a7).1 := by
  unfold State.exchange
  repeat' first
    | with_reducible first
      | assumption
      | refine Keeps.ite ?_ ?_
      | refine State.setDriver_keeps (sub_trans (by decide) hm) ?_
      | refine State.setStation_keeps (sub_trans (by decide) hm) ?_
      | refine State.spiError_keeps (sub_trans (by decide) hm) ?_
    | split
    | dsimp only

theorem State.setBeamCurrent_keeps {a2 : _} {a3 : _} {a4 : _} (hm : 2 ||| m = m) (h : Keeps m r s) :
    Keeps m r (State.setBeamCurrent s a2 a3 a4) := by
  unfold State.setBeamCurrent
  repeat' first
    | with_reducible first
      | assumption
      | refine State.setBytes_keeps (sub_trans (by decide) hm) ?_
    | split
    | dsimp only

theorem State.saturation_keeps {a2 : _} {a3 : _} {a4 : _} (hm : 146 ||| m = m) (h : Keeps m r s) :
    Keeps m r (State.saturation s a2 a3 a4) := by
  unfold State.saturation
  repeat' first
    | with_reducible first
      | assumption
      | refine Keeps.ite ?_ ?_
      | refine State.setStation_keeps (sub_trans (by decide) hm) ?_
      | refine State.apcEvent_keeps (sub_trans (by decide) hm) ?_
      | refine State.setn_keeps (sub_trans (by decide) hm) ?_
    | split
    | dsimp only

theorem State.apcSample_keeps {a2 : _} {a3 : _} {a4 : _} (hm : 146 ||| m = m) (h : Keeps m r s) :
    Keeps m r (State.apcSample s a2 a3 a4) := by
  unfold State.apcSample
  repeat' first
    | with_reducible first
      | assumption
      | refine State.saturation_keeps (sub_trans (by decide) hm) ?_
      | refine State.setBytes_keeps (sub_trans (by decide) hm) ?_
      | refine State.setBeamCurrent_keeps (sub_trans (by decide) hm) ?_
    | split
    | dsimp only

theorem State.takeAnswer_keeps {a2 : _} {a3 : _} {a4 : _} (hm : 146 ||| m = m) (h : Keeps m r s) :
    Keeps m r (State.takeAnswer s a2 a3 a4) := by
  unfold State.takeAnswer
  repeat' first
    | with_reducible first
      | assumption
      | refine Keeps.ite ?_ ?_
      | refine State.apcEvent_keeps (sub_trans (by decide) hm) ?_
      | refine State.setDriverWord_keeps (sub_trans (by decide) hm) ?_
      | refine State.setStation_keeps (sub_trans (by decide) hm) ?_
      | refine State.apcSample_keeps (sub_trans (by decide) hm) ?_
    | split
    | dsimp only

theorem State.exchangeAll_keeps {n : Nat} {l : List (Nat × Nat × Nat × Nat)} {a : List Frame}
    (hm : 262290 ||| m = m) (h : Keeps m r s) : Keeps m r (State.exchangeAll s n l a) := by
  induction l generalizing s a with
  | nil => exact h
  | cons x l ih =>
    obtain ⟨k, c, b, d⟩ := x
    unfold State.exchangeAll
    exact ih (State.takeAnswer_keeps (sub_trans (by decide) hm) (State.exchange_keeps (sub_trans (by decide) hm) h))

theorem State.apcSlot_keeps {n i : Nat} {l : List Nat} {a : List Frame} (hm : 262290 ||| m = m)
    (h : Keeps m r s) : Keeps m r (State.apcSlot s n i l a) := by
  induction l generalizing s a with
  | nil => exact h
  | cons x l ih =>
    unfold State.apcSlot
    dsimp only
    refine ih (State.takeAnswer_keeps (sub_trans (by decide) hm) ?_)
    have h0 := Keeps.ite (c := s.usable n (x * s.beamsServed n + i) = true) h (State.setBeamCurrent_keeps (a2 := n) (a3 := x * s.beamsServed n + i) (a4 := 0) (sub_trans (by decide) hm) h)
    split
    · exact State.exchange_keeps (sub_trans (by decide) hm) h
    · exact State.exchange_keeps (sub_trans (by decide) hm) h0

theorem State.apcSlots_keeps {n : Nat} {l : List Nat} {a : List Frame} (hm : 262290 ||| m = m)
    (h : Keeps m r s) : Keeps m r (State.apcSlots s n l a) := by
  induction l generalizing s a with
  | nil => exact State.exchangeAll_keeps (sub_trans (by decide) hm) h
  | cons x l ih => exact ih (State.apcSlot_keeps (sub_trans (by decide) hm) h)

theorem execApcSequence_keeps {a1 : _} {a2 : _} (hm : 262290 ||| m = m) (h : Keeps m r s) :
    KeepsO m r (execApcSequence a1 a2 s) := by
  unfold execApcSequence
  repeat' first
    | with_reducible first
      | assumption
      | refine KeepsO.next ?_
      | exact KeepsO.fault
      | refine KeepsO.ite ?_ ?_
      | refine Keeps.ite ?_ ?_
      | refine State.setStation_keeps (sub_trans (by decide) hm) ?_
      | refine State.apcEvent_keeps (sub_trans (by decide) hm) ?_
      | refine State.bump_keeps (sub_trans (by decide) hm) ?_
      | refine State.apcSlots_keeps (sub_trans (by decide) hm) ?_
    | split
    | dsimp only

theorem execReadCurrent_keeps {a1 : _} {a2 : _} {a3 : _} (hm : 262290 ||| m = m) (h : Keeps m r s) :
    KeepsO m r (execReadCurrent a1 a2 a3 s) := by
  unfold execReadCurrent
  repeat' first
    | with_reducible first
      | assumption
      | refine KeepsO.next ?_
      | exact KeepsO.fault
      | refine KeepsO.ite ?_ ?_
      | refine Keeps.ite ?_ ?_
      | refine State.exchangeAll_keeps (sub_trans (by decide) hm) ?_
      | refine State.setStation_keeps (sub_trans (by decide) hm) ?_
    | split
    | dsimp only

theorem execDriverStatusPoll_keeps {a1 : _} {a2 : _} {a3 : _} (hm : 262290 ||| m = m) (h : Keeps m r s) :
    KeepsO m r (execDriverStatusPoll a1 a2 a3 s) := by
  unfold execDriverStatusPoll
  repeat' first
    | with_reducible first
      | assumption
      | refine KeepsO.next ?_
      | exact KeepsO.fault
      | refine KeepsO.ite ?_ ?_
      | refine Keeps.ite ?_ ?_
      | refine State.setDriver_keeps (sub_trans (by decide) hm) ?_
      | refine State.exchangeAll_keeps (sub_trans (by decide) hm) ?_
      | refine State.setStation_keeps (sub_trans (by decide) hm) ?_
    | split
    | dsimp only

theorem State.startFrames_keeps {n k : Nat} {l : List (Nat × Nat × Nat)} {a : List Frame} (hm : 262290 ||| m = m)
    (h : Keeps m r s) : Keeps m r (State.startFrames s n k l a).1 := by
  induction l generalizing s a with
  | nil => exact h
  | cons x l ih =>
    obtain ⟨c, b, d⟩ := x
    have h1 : Keeps m r ((s.exchange n k c b d (a.headD none)).1.takeAnswer n k (s.exchange n k c b d (a.headD none)).2) :=
      State.takeAnswer_keeps (sub_trans (by decide) hm) (State.exchange_keeps (sub_trans (by decide) hm) h)
    have h2 : ∀ g : Bool, Keeps m r (if g = true then State.startFrames ((s.exchange n k c b d (a.headD none)).1.takeAnswer n k
        (s.exchange n k c b d (a.headD none)).2) n k l (a.drop 1) else ((s.exchange n k c b d (a.headD none)).1.takeAnswer n k
        (s.exchange n k c b d (a.headD none)).2, false)).1 := by
      intro g; split
      · exact ih h1
      · exact h1
    exact h2 _

theorem State.startDrivers_keeps {n : Nat} {l : List Nat} {a : List Frame} (hm : 262290 ||| m = m)
    (h : Keeps m r s) : Keeps m r (State.startDrivers s n l a) := by
  induction l generalizing s a with
  | nil => exact State.setDriverState_keeps (sub_trans (by decide) hm) h
  | cons x l ih =>
    unfold State.startDrivers
    dsimp only
    split
    · exact ih (State.startFrames_keeps (sub_trans (by decide) hm) (State.setDriver_keeps (sub_trans (by decide) hm) h))
    · exact State.startFails_keeps (sub_trans (by decide) hm) (State.startFrames_keeps (sub_trans (by decide) hm) (State.setDriver_keeps (sub_trans (by decide) hm) h))

theorem State.startStation_keeps {a2 : _} {a3 : _} (hm : 262290 ||| m = m) (h : Keeps m r s) :
    Keeps m r (State.startStation s a2 a3) := by
  unfold State.startStation
  repeat' first
    | with_reducible first
      | assumption
      | refine State.startDrivers_keeps (sub_trans (by decide) hm) ?_
      | refine State.setStation_keeps (sub_trans (by decide) hm) ?_
    | split
    | dsimp only

theorem State.vcselShutdown_keeps {a2 : _} {a3 : _} (hm : 262546 ||| m = m) (h : Keeps m r s) :
    Keeps m r (State.vcselShutdown s a2 a3) := by
  unfold State.vcselShutdown
  repeat' first
    | with_reducible first
      | assumption
      | refine Keeps.ite ?_ ?_
      | refine State.spoilImaging_keeps (sub_trans (by decide) hm) ?_
      | refine State.fault_keeps (sub_trans (by decide) hm) ?_
      | refine State.setb_keeps (sub_trans (by decide) hm) ?_
      | refine State.setStation_keeps (sub_trans (by decide) hm) ?_
      | refine State.laserLow_keeps (sub_trans (by decide) hm) ?_
    | split
    | dsimp only

theorem State.vcselSample_keeps {a2 : _} {a3 : _} (hm : 262546 ||| m = m) (h : Keeps m r s) :
    Keeps m r (State.vcselSample s a2 a3) := by
  unfold State.vcselSample
  repeat' first
    | with_reducible first
      | assumption
      | refine Keeps.ite ?_ ?_
      | refine State.seti_keeps (sub_trans (by decide) hm) ?_
      | refine State.setStation_keeps (sub_trans (by decide) hm) ?_
      | refine State.apcEvent_keeps (sub_trans (by decide) hm) ?_
      | refine State.fault_keeps (sub_trans (by decide) hm) ?_
      | refine State.setb_keeps (sub_trans (by decide) hm) ?_
      | refine State.setn_keeps (sub_trans (by decide) hm) ?_
      | refine State.vcselShutdown_keeps (sub_trans (by decide) hm) ?_
    | split
    | dsimp only

theorem execVcselThermistorSample_keeps {a1 : _} {a2 : _} (hm : 262546 ||| m = m) (h : Keeps m r s) :
    KeepsO m r (execVcselThermistorSample a1 a2 s) := by
  unfold execVcselThermistorSample
  repeat' first
    | with_reducible first
      | assumption
      | refine KeepsO.next ?_
      | refine KeepsO.ite ?_ ?_
      | refine State.vcselSample_keeps (sub_trans (by decide) hm) ?_
    | split
    | dsimp only

theorem execLaserOffEndOfLine_keeps {a1 : _} (hm : 146 ||| m = m) (h : Keeps m r s) :
    KeepsO m r (execLaserOffEndOfLine a1 s) := by
  unfold execLaserOffEndOfLine
  repeat' first
    | with_reducible first
      | assumption
      | refine KeepsO.next ?_
      | exact KeepsO.fault
      | refine KeepsO.ite ?_ ?_
      | refine Keeps.ite ?_ ?_
      | refine State.laserLow_keeps (sub_trans (by decide) hm) ?_
    | split
    | dsimp only

theorem execStationEngageChange_keeps {a1 : _} (hm : 303830 ||| m = m) (h : Keeps m r s) :
    KeepsO m r (execStationEngageChange a1 s) := by
  unfold execStationEngageChange
  repeat' first
    | with_reducible first
      | assumption
      | refine KeepsO.next ?_
      | exact KeepsO.fault
      | refine KeepsO.ite ?_ ?_
      | refine Keeps.ite ?_ ?_
      | refine State.refreshPolygon_keeps (sub_trans (by decide) hm) ?_
      | refine State.setStationState_keeps (sub_trans (by decide) hm) ?_
    | split
    | dsimp only

theorem State.stationUp_keeps {a2 : _} {a3 : _} (hm : 262290 ||| m = m) (h : Keeps m r s) :
    Keeps m r (State.stationUp s a2 a3) := by
  unfold State.stationUp
  repeat' first
    | with_reducible first
      | assumption
      | refine State.setDriverState_keeps (sub_trans (by decide) hm) ?_
      | refine State.setStation_keeps (sub_trans (by decide) hm) ?_
      | refine State.setBytes_keeps (sub_trans (by decide) hm) ?_
      | refine State.pinEvent_keeps (sub_trans (by decide) hm) ?_
      | refine State.setn_keeps (sub_trans (by decide) hm) ?_
      | refine State.startStation_keeps (sub_trans (by decide) hm) ?_
    | split
    | dsimp only

theorem State.stationDown_keeps {a2 : _} (hm : 303830 ||| m = m) (h : Keeps m r s) :
    Keeps m r (State.stationDown s a2) := by
  unfold State.stationDown
  repeat' first
    | with_reducible first
      | assumption
      | refine State.setb_keeps (sub_trans (by decide) hm) ?_
      | refine State.pinEvent_keeps (sub_trans (by decide) hm) ?_
      | refine State.setn_keeps (sub_trans (by decide) hm) ?_
      | refine State.setStation_keeps (sub_trans (by decide) hm) ?_
      | refine State.leaveScan_keeps (sub_trans (by decide) hm) ?_
      | refine State.refreshPolygon_keeps (sub_trans (by decide) hm) ?_
    | split
    | dsimp only

/-! ## Pages -/

theorem State.answerPage_keeps {a2 : _} {a3 : _} {a4 : _} {a5 : _} (hm : 1048886 ||| m = m) (h : Keeps m r s) :
    Keeps m r (State.answerPage s a2 a3 a4 a5) := by
  unfold State.answerPage
  repeat' first
    | with_reducible first
      | assumption
      | refine State.sendPage_keeps (sub_trans (by decide) hm) ?_
      | refine State.finishEntry_keeps (sub_trans (by decide) hm) ?_
    | split
    | dsimp only

theorem State.servePlan_keeps {a2 : _} {a3 : _} (hm : 1048886 ||| m = m) (h : Keeps m r s) :
    Keeps m r (State.servePlan s a2 a3) := by
  unfold State.servePlan
  try lift_lets
  repeat (intro x; first
    | (have hx : Keeps m r x := by
        dsimp only [x]
        repeat' first
          | with_reducible first
            | assumption
            | refine Keeps.ite ?_ ?_
            | refine State.answerPage_keeps (sub_trans (by decide) hm) ?_
            | refine State.setPage_keeps (sub_trans (by decide) hm) ?_
            | refine State.reportPage_keeps (sub_trans (by decide) hm) ?_
            | (refine Keeps.pages hm (by decide) ?_; assumption)
          | split
          | dsimp only
       clear_value x)
    | clear_value x)
  repeat' first
    | with_reducible first
      | assumption
      | refine Keeps.ite ?_ ?_
      | refine State.answerPage_keeps (sub_trans (by decide) hm) ?_
      | refine State.setPage_keeps (sub_trans (by decide) hm) ?_
      | refine State.reportPage_keeps (sub_trans (by decide) hm) ?_
      | (refine Keeps.pages hm (by decide) ?_; assumption)
    | split
    | dsimp only

theorem State.takePage_keeps {n : Nat} {e : Entry} {k : State → Nat → List Nat → State} (hm : 1311030 ||| m = m)
    (h : Keeps m r s) (hf : ∀ t x ws, Keeps m r t → Keeps m r (k t x ws)) : Keeps m r (s.takePage n e k) := by
  unfold State.takePage
  split
  · exact State.takeEntry_keeps (sub_trans (by decide) hm) h (fun t ws ht => hf _ _ _ ht)
  · split
    · exact State.takeEntry_keeps (sub_trans (by decide) hm) h (fun t ws ht => Keeps.pages hm (by decide) ht)
    · exact h

theorem execPagePlanSubmit_keeps {e : Entry} (hm : 1311030 ||| m = m) (h : Keeps m r s) :
    KeepsO m r (execPagePlanSubmit e s) :=
  KeepsO.next (State.takePage_keeps (sub_trans (by decide) hm) h (fun _ _ _ ht => State.servePlan_keeps (sub_trans (by decide) hm) ht))

theorem State.pageCommand_keeps {a2 : _} {a3 : _} {a4 : _} (hm : 1114934 ||| m = m) (h : Keeps m r s) :
    Keeps m r (State.pageCommand s a2 a3 a4) := by
  unfold State.pageCommand
  repeat' first
    | with_reducible first
      | assumption
      | refine Keeps.ite ?_ ?_
      | refine State.purge_keeps (sub_trans (by decide) hm) ?_
      | refine State.deleteAutomatic_keeps (sub_trans (by decide) hm) ?_
      | refine State.setPageState_keeps (sub_trans (by decide) hm) ?_
      | refine State.makeReprint_keeps (sub_trans (by decide) hm) ?_
      | refine State.spoilPage_keeps (sub_trans (by decide) hm) ?_
    | split
    | dsimp only

theorem State.serveCommand_keeps {a2 : _} {a3 : _} (hm : 1114934 ||| m = m) (h : Keeps m r s) :
    Keeps m r (State.serveCommand s a2 a3) := by
  unfold State.serveCommand
  repeat' first
    | with_reducible first
      | assumption
      | refine Keeps.ite ?_ ?_
      | refine State.answerPage_keeps (sub_trans (by decide) hm) ?_
      | refine State.pageCommand_keeps (sub_trans (by decide) hm) ?_
    | split
    | dsimp only

theorem State.serveGapPages_keeps  (hm : 1114934 ||| m = m) (h : Keeps m r s) :
    Keeps m r (State.serveGapPages s) := by
  unfold State.serveGapPages
  try lift_lets
  repeat (intro x; first
    | (have hx : Keeps m r x := by
        dsimp only [x]
        repeat' first
          | with_reducible first
            | assumption
            | refine Keeps.ite ?_ ?_
            | refine State.servePlan_keeps (sub_trans (by decide) hm) ?_
            | refine State.serveCommand_keeps (sub_trans (by decide) hm) ?_
            | refine Keeps.each ?_ ?_
            | (refine Keeps.pages hm (by decide) ?_; assumption)
          | (intro t x ht)
          | (intro t ht)
          | (intro t y z ht)
          | (intro ht)
          | split
          | dsimp only
       clear_value x)
    | (have hx : Keeps m r x.1 := by
        dsimp only [x]
        repeat' first
          | with_reducible first
            | assumption
            | refine Keeps.ite ?_ ?_
            | refine State.servePlan_keeps (sub_trans (by decide) hm) ?_
            | refine State.serveCommand_keeps (sub_trans (by decide) hm) ?_
            | refine Keeps.each ?_ ?_
            | (refine Keeps.pages hm (by decide) ?_; assumption)
          | (intro t x ht)
          | (intro t ht)
          | (intro t y z ht)
          | (intro ht)
          | split
          | dsimp only
       clear_value x)
    | clear_value x)
  repeat' first
    | with_reducible first
      | assumption
      | refine Keeps.ite ?_ ?_
      | refine State.servePlan_keeps (sub_trans (by decide) hm) ?_
      | refine State.serveCommand_keeps (sub_trans (by decide) hm) ?_
      | refine Keeps.each ?_ ?_
      | (refine Keeps.pages hm (by decide) ?_; assumption)
    | (intro t x ht)
    | (intro t ht)
    | (intro t y z ht)
    | (intro ht)
    | split
    | dsimp only

theorem State.takeCommand_keeps {n : Nat} {e : Entry} (hm : 1377078 ||| m = m) (h : Keeps m r s) : Keeps m r (s.takeCommand n e) := by
  unfold State.takeCommand
  refine Keeps.ite h (State.takePage_keeps (sub_trans (by decide) hm) h (fun _ _ _ ht => State.serveCommand_keeps (sub_trans (by decide) hm) ht))

theorem execRelease_keeps {a1 : _} (hm : 1377078 ||| m = m) (h : Keeps m r s) :
    KeepsO m r (execRelease a1 s) := by
  unfold execRelease
  repeat' first
    | with_reducible first
      | assumption
      | refine KeepsO.next ?_
      | exact KeepsO.fault
      | refine KeepsO.ite ?_ ?_
      | refine State.takeCommand_keeps (sub_trans (by decide) hm) ?_
    | split
    | dsimp only

theorem execCancel_keeps {a1 : _} (hm : 1377078 ||| m = m) (h : Keeps m r s) :
    KeepsO m r (execCancel a1 s) := by
  unfold execCancel
  repeat' first
    | with_reducible first
      | assumption
      | refine KeepsO.next ?_
      | exact KeepsO.fault
      | refine KeepsO.ite ?_ ?_
      | refine State.takeCommand_keeps (sub_trans (by decide) hm) ?_
    | split
    | dsimp only

theorem execReprint_keeps {a1 : _} (hm : 1377078 ||| m = m) (h : Keeps m r s) :
    KeepsO m r (execReprint a1 s) := by
  unfold execReprint
  repeat' first
    | with_reducible first
      | assumption
      | refine KeepsO.next ?_
      | exact KeepsO.fault
      | refine KeepsO.ite ?_ ?_
      | refine State.takeCommand_keeps (sub_trans (by decide) hm) ?_
    | split
    | dsimp only

theorem execMarkSpoiled_keeps {a1 : _} (hm : 1377078 ||| m = m) (h : Keeps m r s) :
    KeepsO m r (execMarkSpoiled a1 s) := by
  unfold execMarkSpoiled
  repeat' first
    | with_reducible first
      | assumption
      | refine KeepsO.next ?_
      | exact KeepsO.fault
      | refine KeepsO.ite ?_ ?_
      | refine State.takeCommand_keeps (sub_trans (by decide) hm) ?_
    | split
    | dsimp only

theorem State.recordRefusal_keeps {a2 : _} {a3 : _} (hm : 1048886 ||| m = m) (h : Keeps m r s) :
    Keeps m r (State.recordRefusal s a2 a3) := by
  unfold State.recordRefusal
  repeat' first
    | with_reducible first
      | assumption
      | refine Keeps.ite ?_ ?_
      | refine State.setn_keeps (sub_trans (by decide) hm) ?_
      | refine State.sendPage_keeps (sub_trans (by decide) hm) ?_
      | refine State.event_keeps (sub_trans (by decide) hm) ?_
      | refine State.setPage_keeps (sub_trans (by decide) hm) ?_
    | split
    | dsimp only

theorem State.readmit_keeps {a2 : _} (hm : 1114422 ||| m = m) (h : Keeps m r s) :
    Keeps m r (State.readmit s a2) := by
  unfold State.readmit
  repeat' first
    | with_reducible first
      | assumption
      | refine State.setPageState_keeps (sub_trans (by decide) hm) ?_
      | refine State.setPage_keeps (sub_trans (by decide) hm) ?_
    | split
    | dsimp only

theorem State.commitOff_keeps  (hm : 1114422 ||| m = m) (h : Keeps m r s) :
    Keeps m r (State.commitOff s) := by
  unfold State.commitOff
  repeat' first
    | with_reducible first
      | assumption
      | refine State.setb_keeps (sub_trans (by decide) hm) ?_
      | refine State.readmit_keeps (sub_trans (by decide) hm) ?_
      | refine State.recordRefusal_keeps (sub_trans (by decide) hm) ?_
    | split
    | dsimp only

theorem execAdmissionTest_keeps {a1 : _} (hm : 1114430 ||| m = m) (h : Keeps m r s) :
    KeepsO m r (execAdmissionTest a1 s) := by
  unfold execAdmissionTest
  repeat' first
    | with_reducible first
      | assumption
      | refine KeepsO.next ?_
      | exact KeepsO.fault
      | refine KeepsO.ite ?_ ?_
      | refine Keeps.ite ?_ ?_
      | refine State.readmit_keeps (sub_trans (by decide) hm) ?_
      | refine State.recordRefusal_keeps (sub_trans (by decide) hm) ?_
      | refine State.setPageState_keeps (sub_trans (by decide) hm) ?_
      | refine State.setPage_keeps (sub_trans (by decide) hm) ?_
      | (refine Keeps.pos hm (by decide) ?_; assumption)
    | split
    | dsimp only

theorem State.armSteps_keeps {i j : Nat} {l : List Step} (hm : 8 ||| m = m) (h : Keeps m r s) :
    Keeps m r (State.armSteps s i l j) := by
  induction l generalizing s j with
  | nil => exact h
  | cons x l ih =>
    unfold State.armSteps
    split
    · exact ih (State.setSlot_keeps (sub_trans (by decide) hm) h)
    · exact h

theorem State.queueDecodes_keeps {a2 : _} (hm : 262674 ||| m = m) (h : Keeps m r s) :
    Keeps m r (State.queueDecodes s a2) := by
  unfold State.queueDecodes
  try lift_lets
  repeat (intro x; first
    | (have hx : Keeps m r x := by
        dsimp only [x]
        repeat' first
          | with_reducible first
            | assumption
            | refine State.feedDecode_keeps (sub_trans (by decide) hm) ?_
            | refine State.setQueue_keeps (sub_trans (by decide) hm) ?_
            | refine Keeps.each ?_ ?_
          | (intro t x ht)
          | (intro t ht)
          | (intro t y z ht)
          | (intro ht)
          | split
          | dsimp only
       clear_value x)
    | clear_value x)
  repeat' first
    | with_reducible first
      | assumption
      | refine State.feedDecode_keeps (sub_trans (by decide) hm) ?_
      | refine State.setQueue_keeps (sub_trans (by decide) hm) ?_
      | refine Keeps.each ?_ ?_
    | (intro t x ht)
    | (intro t ht)
    | (intro t y z ht)
    | (intro ht)
    | split
    | dsimp only

theorem State.commitEntry_keeps {a2 : _} (hm : 5047058 ||| m = m) (h : Keeps m r s) :
    Keeps m r (State.commitEntry s a2) := by
  unfold State.commitEntry
  repeat' first
    | with_reducible first
      | assumption
      | refine State.setPage_keeps (sub_trans (by decide) hm) ?_
      | refine State.checkpoint_keeps (sub_trans (by decide) hm) ?_
    | split
    | dsimp only

theorem State.commit_keeps {a2 : _} (hm : 6095678 ||| m = m) (h : Keeps m r s) :
    Keeps m r (State.commit s a2) := by
  unfold State.commit
  try lift_lets
  repeat (intro x; first
    | (have hx : Keeps m r x := by
        dsimp only [x]
        repeat' first
          | with_reducible first
            | assumption
            | refine State.unorder_keeps (sub_trans (by decide) hm) ?_
            | refine State.commitEntry_keeps (sub_trans (by decide) hm) ?_
            | refine State.armSteps_keeps (sub_trans (by decide) hm) ?_
            | refine State.event_keeps (sub_trans (by decide) hm) ?_
            | refine State.setPageState_keeps (sub_trans (by decide) hm) ?_
            | refine State.setn_keeps (sub_trans (by decide) hm) ?_
            | refine State.after_keeps (sub_trans (by decide) hm) ?_
            | refine State.queueDecodes_keeps (sub_trans (by decide) hm) ?_
            | (refine Keeps.pages hm (by decide) ?_; assumption)
          | split
          | dsimp only
       clear_value x)
    | clear_value x)
  repeat' first
    | with_reducible first
      | assumption
      | refine State.unorder_keeps (sub_trans (by decide) hm) ?_
      | refine State.commitEntry_keeps (sub_trans (by decide) hm) ?_
      | refine State.armSteps_keeps (sub_trans (by decide) hm) ?_
      | refine State.event_keeps (sub_trans (by decide) hm) ?_
      | refine State.setPageState_keeps (sub_trans (by decide) hm) ?_
      | refine State.setn_keeps (sub_trans (by decide) hm) ?_
      | refine State.after_keeps (sub_trans (by decide) hm) ?_
      | refine State.queueDecodes_keeps (sub_trans (by decide) hm) ?_
      | (refine Keeps.pages hm (by decide) ?_; assumption)
    | split
    | dsimp only

theorem State.undoCommit_keeps {a2 : _} {a3 : _} (hm : 26 ||| m = m) (h : Keeps m r s) :
    Keeps m r (State.undoCommit s a2 a3) := by
  unfold State.undoCommit
  repeat' first
    | with_reducible first
      | assumption
      | refine Keeps.ite ?_ ?_
      | refine State.freeSlots_keeps (sub_trans (by decide) hm) ?_
      | refine State.armSteps_keeps (sub_trans (by decide) hm) ?_
    | split
    | dsimp only

theorem State.noteGate_keeps  (hm : 256 ||| m = m) (h : Keeps m r s) :
    Keeps m r (State.noteGate s) := by
  unfold State.noteGate
  repeat' first
    | with_reducible first
      | assumption
      | refine Keeps.ite ?_ ?_
      | (refine Keeps.pages hm (by decide) ?_; assumption)
    | split
    | dsimp only

theorem execCommit_keeps  (hm : 6095678 ||| m = m) (h : Keeps m r s) :
    KeepsO m r (execCommit s) := by
  unfold execCommit
  repeat' first
    | with_reducible first
      | assumption
      | refine KeepsO.next ?_
      | exact KeepsO.fault
      | refine KeepsO.ite ?_ ?_
      | refine Keeps.ite ?_ ?_
      | refine State.recordRefusal_keeps (sub_trans (by decide) hm) ?_
      | refine State.undoCommit_keeps (sub_trans (by decide) hm) ?_
      | refine State.commit_keeps (sub_trans (by decide) hm) ?_
    | split
    | dsimp only

theorem execGateSkip_keeps  (hm : 274 ||| m = m) (h : Keeps m r s) :
    KeepsO m r (execGateSkip s) := by
  unfold execGateSkip
  repeat' first
    | with_reducible first
      | assumption
      | refine KeepsO.next ?_
      | exact KeepsO.fault
      | refine KeepsO.ite ?_ ?_
      | refine Keeps.ite ?_ ?_
      | refine State.event_keeps (sub_trans (by decide) hm) ?_
      | refine State.setn_keeps (sub_trans (by decide) hm) ?_
      | (refine Keeps.pages hm (by decide) ?_; assumption)
    | split
    | dsimp only

theorem State.fireSlot_keeps {k action : Nat} {f : State → Slot → State} (hm : 26 ||| m = m)
    (h : Keeps m r s) (hf : ∀ t x, Keeps m r t → Keeps m r (f t x)) : Keeps m r (s.fireSlot k action f) := by
  unfold State.fireSlot
  dsimp only
  split
  · exact hf _ _ (State.eventHw_keeps (sub_trans (by decide) hm) (State.bump_keeps (sub_trans (by decide) hm) (State.setSlot_keeps (sub_trans (by decide) hm) h)))
  · exact h

theorem State.slotOutput_keeps {a2 : _} {a3 : _} (hm : 8 ||| m = m) (h : Keeps m r s) :
    Keeps m r (State.slotOutput s a2 a3) := by
  unfold State.slotOutput
  repeat' first
    | with_reducible first
      | assumption
      | (refine Keeps.pos hm (by decide) ?_; assumption)
    | split
    | dsimp only

theorem execSetOutput_keeps {a1 : _} (hm : 26 ||| m = m) (h : Keeps m r s) :
    KeepsO m r (execSetOutput a1 s) := by
  unfold execSetOutput
  try lift_lets
  repeat (intro x; first
    | (have hx : Keeps m r x := by
        dsimp only [x]
        repeat' first
          | with_reducible first
            | assumption
            | refine KeepsO.next ?_
            | exact KeepsO.fault
            | refine KeepsO.ite ?_ ?_
            | refine State.fireSlot_keeps (sub_trans (by decide) hm) ?_ ?_
            | refine State.slotOutput_keeps (sub_trans (by decide) hm) ?_
          | (intro t x ht)
          | (intro t ht)
          | (intro t y z ht)
          | (intro ht)
          | split
          | dsimp only
       clear_value x)
    | clear_value x)
  repeat' first
    | with_reducible first
      | assumption
      | refine KeepsO.next ?_
      | exact KeepsO.fault
      | refine KeepsO.ite ?_ ?_
      | refine State.fireSlot_keeps (sub_trans (by decide) hm) ?_ ?_
      | refine State.slotOutput_keeps (sub_trans (by decide) hm) ?_
    | (intro t x ht)
    | (intro t ht)
    | (intro t y z ht)
    | (intro ht)
    | split
    | dsimp only

theorem execClearOutput_keeps {a1 : _} (hm : 26 ||| m = m) (h : Keeps m r s) :
    KeepsO m r (execClearOutput a1 s) := by
  unfold execClearOutput
  try lift_lets
  repeat (intro x; first
    | (have hx : Keeps m r x := by
        dsimp only [x]
        repeat' first
          | with_reducible first
            | assumption
            | refine KeepsO.next ?_
            | exact KeepsO.fault
            | refine KeepsO.ite ?_ ?_
            | refine State.fireSlot_keeps (sub_trans (by decide) hm) ?_ ?_
            | refine State.slotOutput_keeps (sub_trans (by decide) hm) ?_
          | (intro t x ht)
          | (intro t ht)
          | (intro t y z ht)
          | (intro ht)
          | split
          | dsimp only
       clear_value x)
    | clear_value x)
  repeat' first
    | with_reducible first
      | assumption
      | refine KeepsO.next ?_
      | exact KeepsO.fault
      | refine KeepsO.ite ?_ ?_
      | refine State.fireSlot_keeps (sub_trans (by decide) hm) ?_ ?_
      | refine State.slotOutput_keeps (sub_trans (by decide) hm) ?_
    | (intro t x ht)
    | (intro t ht)
    | (intro t y z ht)
    | (intro ht)
    | split
    | dsimp only

theorem execDivert_keeps {a1 : _} (hm : 26 ||| m = m) (h : Keeps m r s) :
    KeepsO m r (execDivert a1 s) := by
  unfold execDivert
  try lift_lets
  repeat (intro x; first
    | (have hx : Keeps m r x := by
        dsimp only [x]
        repeat' first
          | with_reducible first
            | assumption
            | refine KeepsO.next ?_
            | exact KeepsO.fault
            | refine KeepsO.ite ?_ ?_
            | refine Keeps.ite ?_ ?_
            | refine State.fireSlot_keeps (sub_trans (by decide) hm) ?_ ?_
            | refine State.slotOutput_keeps (sub_trans (by decide) hm) ?_
          | (intro t x ht)
          | (intro t ht)
          | (intro t y z ht)
          | (intro ht)
          | split
          | dsimp only
       clear_value x)
    | clear_value x)
  repeat' first
    | with_reducible first
      | assumption
      | refine KeepsO.next ?_
      | exact KeepsO.fault
      | refine KeepsO.ite ?_ ?_
      | refine Keeps.ite ?_ ?_
      | refine State.fireSlot_keeps (sub_trans (by decide) hm) ?_ ?_
      | refine State.slotOutput_keeps (sub_trans (by decide) hm) ?_
    | (intro t x ht)
    | (intro t ht)
    | (intro t y z ht)
    | (intro ht)
    | split
    | dsimp only

theorem execStartImage_keeps {a1 : _} (hm : 1377214 ||| m = m) (h : Keeps m r s) :
    KeepsO m r (execStartImage a1 s) := by
  unfold execStartImage
  try lift_lets
  repeat (intro x; first
    | (have hx : Keeps m r x := by
        dsimp only [x]
        repeat' first
          | with_reducible first
            | assumption
            | refine KeepsO.next ?_
            | exact KeepsO.fault
            | refine KeepsO.ite ?_ ?_
            | refine Keeps.ite ?_ ?_
            | refine State.fireSlot_keeps (sub_trans (by decide) hm) ?_ ?_
            | refine State.advancePage_keeps (sub_trans (by decide) hm) ?_
            | refine State.startImage_keeps (sub_trans (by decide) hm) ?_
          | (intro t x ht)
          | (intro t ht)
          | (intro t y z ht)
          | (intro ht)
          | split
          | dsimp only
       clear_value x)
    | clear_value x)
  repeat' first
    | with_reducible first
      | assumption
      | refine KeepsO.next ?_
      | exact KeepsO.fault
      | refine KeepsO.ite ?_ ?_
      | refine Keeps.ite ?_ ?_
      | refine State.fireSlot_keeps (sub_trans (by decide) hm) ?_ ?_
      | refine State.advancePage_keeps (sub_trans (by decide) hm) ?_
      | refine State.startImage_keeps (sub_trans (by decide) hm) ?_
    | (intro t x ht)
    | (intro t ht)
    | (intro t y z ht)
    | (intro ht)
    | split
    | dsimp only

theorem execStopImage_keeps {a1 : _} (hm : 263066 ||| m = m) (h : Keeps m r s) :
    KeepsO m r (execStopImage a1 s) := by
  unfold execStopImage
  try lift_lets
  repeat (intro x; first
    | (have hx : Keeps m r x := by
        dsimp only [x]
        repeat' first
          | with_reducible first
            | assumption
            | refine KeepsO.next ?_
            | exact KeepsO.fault
            | refine KeepsO.ite ?_ ?_
            | refine Keeps.ite ?_ ?_
            | refine State.fireSlot_keeps (sub_trans (by decide) hm) ?_ ?_
            | refine State.truncate_keeps (sub_trans (by decide) hm) ?_
          | (intro t x ht)
          | (intro t ht)
          | (intro t y z ht)
          | (intro ht)
          | split
          | dsimp only
       clear_value x)
    | clear_value x)
  repeat' first
    | with_reducible first
      | assumption
      | refine KeepsO.next ?_
      | exact KeepsO.fault
      | refine KeepsO.ite ?_ ?_
      | refine Keeps.ite ?_ ?_
      | refine State.fireSlot_keeps (sub_trans (by decide) hm) ?_ ?_
      | refine State.truncate_keeps (sub_trans (by decide) hm) ?_
    | (intro t x ht)
    | (intro t ht)
    | (intro t y z ht)
    | (intro ht)
    | split
    | dsimp only

theorem execReleaseBands_keeps {a1 : _} (hm : 262682 ||| m = m) (h : Keeps m r s) :
    KeepsO m r (execReleaseBands a1 s) := by
  unfold execReleaseBands
  try lift_lets
  repeat (intro x; first
    | (have hx : Keeps m r x := by
        dsimp only [x]
        repeat' first
          | with_reducible first
            | assumption
            | refine KeepsO.next ?_
            | exact KeepsO.fault
            | refine KeepsO.ite ?_ ?_
            | refine Keeps.ite ?_ ?_
            | refine State.fireSlot_keeps (sub_trans (by decide) hm) ?_ ?_
            | refine State.feedDecode_keeps (sub_trans (by decide) hm) ?_
            | refine State.setQueue_keeps (sub_trans (by decide) hm) ?_
          | (intro t x ht)
          | (intro t ht)
          | (intro t y z ht)
          | (intro ht)
          | split
          | dsimp only
       clear_value x)
    | clear_value x)
  repeat' first
    | with_reducible first
      | assumption
      | refine KeepsO.next ?_
      | exact KeepsO.fault
      | refine KeepsO.ite ?_ ?_
      | refine Keeps.ite ?_ ?_
      | refine State.fireSlot_keeps (sub_trans (by decide) hm) ?_ ?_
      | refine State.feedDecode_keeps (sub_trans (by decide) hm) ?_
      | refine State.setQueue_keeps (sub_trans (by decide) hm) ?_
    | (intro t x ht)
    | (intro t ht)
    | (intro t y z ht)
    | (intro ht)
    | split
    | dsimp only

theorem execRaiseEvent_keeps {a1 : _} (hm : 26 ||| m = m) (h : Keeps m r s) :
    KeepsO m r (execRaiseEvent a1 s) := by
  unfold execRaiseEvent
  try lift_lets
  repeat (intro x; first
    | (have hx : Keeps m r x := by
        dsimp only [x]
        repeat' first
          | with_reducible first
            | assumption
            | refine KeepsO.next ?_
            | exact KeepsO.fault
            | refine KeepsO.ite ?_ ?_
            | refine State.fireSlot_keeps (sub_trans (by decide) hm) ?_ ?_
            | refine State.event_keeps (sub_trans (by decide) hm) ?_
          | (intro t x ht)
          | (intro t ht)
          | (intro t y z ht)
          | (intro ht)
          | split
          | dsimp only
       clear_value x)
    | clear_value x)
  repeat' first
    | with_reducible first
      | assumption
      | refine KeepsO.next ?_
      | exact KeepsO.fault
      | refine KeepsO.ite ?_ ?_
      | refine State.fireSlot_keeps (sub_trans (by decide) hm) ?_ ?_
      | refine State.event_keeps (sub_trans (by decide) hm) ?_
    | (intro t x ht)
    | (intro t ht)
    | (intro t y z ht)
    | (intro ht)
    | split
    | dsimp only

theorem State.sampleInput_keeps {a2 : _} {a3 : _} (hm : 8 ||| m = m) (h : Keeps m r s) :
    Keeps m r (State.sampleInput s a2 a3) := by
  unfold State.sampleInput
  repeat' first
    | with_reducible first
      | assumption
      | (refine Keeps.pos hm (by decide) ?_; assumption)
    | split
    | dsimp only

theorem execCheckInput_keeps {a1 : _} {a2 : _} (hm : 1377214 ||| m = m) (h : Keeps m r s) :
    KeepsO m r (execCheckInput a1 a2 s) := by
  unfold execCheckInput
  try lift_lets
  repeat (intro x; first
    | (have hx : Keeps m r x := by
        dsimp only [x]
        repeat' first
          | with_reducible first
            | assumption
            | refine KeepsO.next ?_
            | exact KeepsO.fault
            | refine KeepsO.ite ?_ ?_
            | refine Keeps.ite ?_ ?_
            | refine State.fireSlot_keeps (sub_trans (by decide) hm) ?_ ?_
            | refine State.sampleInput_keeps (sub_trans (by decide) hm) ?_
            | refine State.endPageBadly_keeps (sub_trans (by decide) hm) ?_
            | refine State.spoilPage_keeps (sub_trans (by decide) hm) ?_
          | (intro t x ht)
          | (intro t ht)
          | (intro t y z ht)
          | (intro ht)
          | split
          | dsimp only
       clear_value x)
    | clear_value x)
  repeat' first
    | with_reducible first
      | assumption
      | refine KeepsO.next ?_
      | exact KeepsO.fault
      | refine KeepsO.ite ?_ ?_
      | refine Keeps.ite ?_ ?_
      | refine State.fireSlot_keeps (sub_trans (by decide) hm) ?_ ?_
      | refine State.sampleInput_keeps (sub_trans (by decide) hm) ?_
      | refine State.endPageBadly_keeps (sub_trans (by decide) hm) ?_
      | refine State.spoilPage_keeps (sub_trans (by decide) hm) ?_
    | (intro t x ht)
    | (intro t ht)
    | (intro t y z ht)
    | (intro ht)
    | split
    | dsimp only

theorem execDeliveryCheck_keeps {a1 : _} (hm : 286 ||| m = m) (h : Keeps m r s) :
    KeepsO m r (execDeliveryCheck a1 s) := by
  unfold execDeliveryCheck
  try lift_lets
  repeat (intro x; first
    | (have hx : Keeps m r x := by
        dsimp only [x]
        repeat' first
          | with_reducible first
            | assumption
            | refine KeepsO.next ?_
            | exact KeepsO.fault
            | refine KeepsO.ite ?_ ?_
            | refine State.fireSlot_keeps (sub_trans (by decide) hm) ?_ ?_
            | refine State.after_keeps (sub_trans (by decide) hm) ?_
            | refine State.setPage_keeps (sub_trans (by decide) hm) ?_
          | (intro t x ht)
          | (intro t ht)
          | (intro t y z ht)
          | (intro ht)
          | split
          | dsimp only
       clear_value x)
    | clear_value x)
  repeat' first
    | with_reducible first
      | assumption
      | refine KeepsO.next ?_
      | exact KeepsO.fault
      | refine KeepsO.ite ?_ ?_
      | refine State.fireSlot_keeps (sub_trans (by decide) hm) ?_ ?_
      | refine State.after_keeps (sub_trans (by decide) hm) ?_
      | refine State.setPage_keeps (sub_trans (by decide) hm) ?_
    | (intro t x ht)
    | (intro t ht)
    | (intro t y z ht)
    | (intro ht)
    | split
    | dsimp only

theorem execPageState_keeps {a1 : _} (hm : 1377214 ||| m = m) (h : Keeps m r s) :
    KeepsO m r (execPageState a1 s) := by
  unfold execPageState
  try lift_lets
  repeat (intro x; first
    | (have hx : Keeps m r x := by
        dsimp only [x]
        repeat' first
          | with_reducible first
            | assumption
            | refine KeepsO.next ?_
            | exact KeepsO.fault
            | refine KeepsO.ite ?_ ?_
            | refine Keeps.ite ?_ ?_
            | refine State.fireSlot_keeps (sub_trans (by decide) hm) ?_ ?_
            | refine State.advancePage_keeps (sub_trans (by decide) hm) ?_
            | refine State.spoilPage_keeps (sub_trans (by decide) hm) ?_
            | refine State.endPage_keeps (sub_trans (by decide) hm) ?_
          | (intro t x ht)
          | (intro t ht)
          | (intro t y z ht)
          | (intro ht)
          | split
          | dsimp only
       clear_value x)
    | clear_value x)
  repeat' first
    | with_reducible first
      | assumption
      | refine KeepsO.next ?_
      | exact KeepsO.fault
      | refine KeepsO.ite ?_ ?_
      | refine Keeps.ite ?_ ?_
      | refine State.fireSlot_keeps (sub_trans (by decide) hm) ?_ ?_
      | refine State.advancePage_keeps (sub_trans (by decide) hm) ?_
      | refine State.spoilPage_keeps (sub_trans (by decide) hm) ?_
      | refine State.endPage_keeps (sub_trans (by decide) hm) ?_
    | (intro t x ht)
    | (intro t ht)
    | (intro t y z ht)
    | (intro ht)
    | split
    | dsimp only

theorem execDeliveryEdge_keeps {a1 : _} {a2 : _} (hm : 1377214 ||| m = m) (h : Keeps m r s) :
    KeepsO m r (execDeliveryEdge a1 a2 s) := by
  unfold execDeliveryEdge
  try lift_lets
  repeat (intro x; first
    | (have hx : Keeps m r x := by
        dsimp only [x]
        repeat' first
          | with_reducible first
            | assumption
            | refine KeepsO.next ?_
            | exact KeepsO.fault
            | refine KeepsO.ite ?_ ?_
            | refine Keeps.ite ?_ ?_
            | refine State.sampleInput_keeps (sub_trans (by decide) hm) ?_
            | refine State.endPage_keeps (sub_trans (by decide) hm) ?_
            | refine Keeps.each ?_ ?_
          | (intro t x ht)
          | (intro t ht)
          | (intro t y z ht)
          | (intro ht)
          | split
          | dsimp only
       clear_value x)
    | clear_value x)
  repeat' first
    | with_reducible first
      | assumption
      | refine KeepsO.next ?_
      | exact KeepsO.fault
      | refine KeepsO.ite ?_ ?_
      | refine Keeps.ite ?_ ?_
      | refine State.sampleInput_keeps (sub_trans (by decide) hm) ?_
      | refine State.endPage_keeps (sub_trans (by decide) hm) ?_
      | refine Keeps.each ?_ ?_
    | (intro t x ht)
    | (intro t ht)
    | (intro t y z ht)
    | (intro ht)
    | split
    | dsimp only

theorem execDeliveryWindowExpired_keeps {a1 : _} (hm : 1377214 ||| m = m) (h : Keeps m r s) :
    KeepsO m r (execDeliveryWindowExpired a1 s) := by
  unfold execDeliveryWindowExpired
  repeat' first
    | with_reducible first
      | assumption
      | refine KeepsO.next ?_
      | exact KeepsO.fault
      | refine KeepsO.ite ?_ ?_
      | refine Keeps.ite ?_ ?_
      | refine State.endPageBadly_keeps (sub_trans (by decide) hm) ?_
    | split
    | dsimp only

theorem execPageDeadlineExpired_keeps {a1 : _} (hm : 1377214 ||| m = m) (h : Keeps m r s) :
    KeepsO m r (execPageDeadlineExpired a1 s) := by
  unfold execPageDeadlineExpired
  repeat' first
    | with_reducible first
      | assumption
      | refine KeepsO.next ?_
      | exact KeepsO.fault
      | refine KeepsO.ite ?_ ?_
      | refine Keeps.ite ?_ ?_
      | refine State.endPageBadly_keeps (sub_trans (by decide) hm) ?_
      | refine State.bump_keeps (sub_trans (by decide) hm) ?_
    | split
    | dsimp only

theorem State.senseInput_keeps {a2 : _} {a3 : _} (hm : 8 ||| m = m) (h : Keeps m r s) :
    Keeps m r (State.senseInput s a2 a3) := by
  unfold State.senseInput
  repeat' first
    | with_reducible first
      | assumption
      | refine Keeps.ite ?_ ?_
      | refine State.sampleInput_keeps (sub_trans (by decide) hm) ?_
    | split
    | dsimp only

theorem execWebBreak_keeps  (hm : 280 ||| m = m) (h : Keeps m r s) :
    KeepsO m r (execWebBreak s) := by
  unfold execWebBreak
  try lift_lets
  repeat (intro x; first
    | (have hx : Keeps m r x := by
        dsimp only [x]
        repeat' first
          | with_reducible first
            | assumption
            | refine KeepsO.next ?_
            | exact KeepsO.fault
            | refine KeepsO.ite ?_ ?_
            | refine Keeps.ite ?_ ?_
            | refine State.event_keeps (sub_trans (by decide) hm) ?_
            | refine State.senseInput_keeps (sub_trans (by decide) hm) ?_
            | refine State.spoilPage_keeps (sub_trans (by decide) hm) ?_
            | refine Keeps.each ?_ ?_
          | (intro t x ht)
          | (intro t ht)
          | (intro t y z ht)
          | (intro ht)
          | split
          | dsimp only
       clear_value x)
    | clear_value x)
  repeat' first
    | with_reducible first
      | assumption
      | refine KeepsO.next ?_
      | exact KeepsO.fault
      | refine KeepsO.ite ?_ ?_
      | refine Keeps.ite ?_ ?_
      | refine State.event_keeps (sub_trans (by decide) hm) ?_
      | refine State.senseInput_keeps (sub_trans (by decide) hm) ?_
      | refine State.spoilPage_keeps (sub_trans (by decide) hm) ?_
      | refine Keeps.each ?_ ?_
    | (intro t x ht)
    | (intro t ht)
    | (intro t y z ht)
    | (intro ht)
    | split
    | dsimp only

theorem execSplice_keeps  (hm : 280 ||| m = m) (h : Keeps m r s) :
    KeepsO m r (execSplice s) := by
  unfold execSplice
  try lift_lets
  repeat (intro x; first
    | (have hx : Keeps m r x := by
        dsimp only [x]
        repeat' first
          | with_reducible first
            | assumption
            | refine KeepsO.next ?_
            | exact KeepsO.fault
            | refine KeepsO.ite ?_ ?_
            | refine Keeps.ite ?_ ?_
            | refine State.event_keeps (sub_trans (by decide) hm) ?_
            | refine State.senseInput_keeps (sub_trans (by decide) hm) ?_
            | refine State.spoilPage_keeps (sub_trans (by decide) hm) ?_
            | refine Keeps.each ?_ ?_
            | (refine Keeps.pages hm (by decide) ?_; assumption)
          | (intro t x ht)
          | (intro t ht)
          | (intro t y z ht)
          | (intro ht)
          | split
          | dsimp only
       clear_value x)
    | clear_value x)
  repeat' first
    | with_reducible first
      | assumption
      | refine KeepsO.next ?_
      | exact KeepsO.fault
      | refine KeepsO.ite ?_ ?_
      | refine Keeps.ite ?_ ?_
      | refine State.event_keeps (sub_trans (by decide) hm) ?_
      | refine State.senseInput_keeps (sub_trans (by decide) hm) ?_
      | refine State.spoilPage_keeps (sub_trans (by decide) hm) ?_
      | refine Keeps.each ?_ ?_
      | (refine Keeps.pages hm (by decide) ?_; assumption)
    | (intro t x ht)
    | (intro t ht)
    | (intro t y z ht)
    | (intro ht)
    | split
    | dsimp only

theorem execSpliceDeactivation_keeps  (hm : 264 ||| m = m) (h : Keeps m r s) :
    KeepsO m r (execSpliceDeactivation s) := by
  unfold execSpliceDeactivation
  try lift_lets
  repeat (intro x; first
    | (have hx : Keeps m r x := by
        dsimp only [x]
        repeat' first
          | with_reducible first
            | assumption
            | refine KeepsO.next ?_
            | exact KeepsO.fault
            | refine KeepsO.ite ?_ ?_
            | refine Keeps.ite ?_ ?_
            | refine State.senseInput_keeps (sub_trans (by decide) hm) ?_
            | (refine Keeps.pages hm (by decide) ?_; assumption)
          | split
          | dsimp only
       clear_value x)
    | clear_value x)
  repeat' first
    | with_reducible first
      | assumption
      | refine KeepsO.next ?_
      | exact KeepsO.fault
      | refine KeepsO.ite ?_ ?_
      | refine Keeps.ite ?_ ?_
      | refine State.senseInput_keeps (sub_trans (by decide) hm) ?_
      | (refine Keeps.pages hm (by decide) ?_; assumption)
    | split
    | dsimp only

theorem execSpliceCleared_keeps  (hm : 272 ||| m = m) (h : Keeps m r s) :
    KeepsO m r (execSpliceCleared s) := by
  unfold execSpliceCleared
  repeat' first
    | with_reducible first
      | assumption
      | refine KeepsO.next ?_
      | exact KeepsO.fault
      | refine KeepsO.ite ?_ ?_
      | refine Keeps.ite ?_ ?_
      | refine State.event_keeps (sub_trans (by decide) hm) ?_
      | (refine Keeps.pages hm (by decide) ?_; assumption)
    | split
    | dsimp only

/-! ## Press -/

theorem State.laneTo_keeps {a2 : _} {a3 : _} {a4 : _} (hm : 528 ||| m = m) (h : Keeps m r s) :
    Keeps m r (State.laneTo s a2 a3 a4) := by
  unfold State.laneTo
  repeat' first
    | with_reducible first
      | assumption
      | refine State.event_keeps (sub_trans (by decide) hm) ?_
      | refine State.setLane_keeps (sub_trans (by decide) hm) ?_
    | split
    | dsimp only

theorem State.retest_keeps  (hm : 1114422 ||| m = m) (h : Keeps m r s) :
    Keeps m r (State.retest s) := by
  unfold State.retest
  repeat' first
    | with_reducible first
      | assumption
      | refine State.readmit_keeps (sub_trans (by decide) hm) ?_
      | refine State.recordRefusal_keeps (sub_trans (by decide) hm) ?_
    | split
    | dsimp only

theorem State.updateInbound_keeps {a2 : _} {a3 : _} (hm : 512 ||| m = m) (h : Keeps m r s) :
    Keeps m r (State.updateInbound s a2 a3) := by
  unfold State.updateInbound
  repeat' first
    | with_reducible first
      | assumption
      | refine Keeps.ite ?_ ?_
      | (refine Keeps.press hm (by decide) ?_; assumption)
    | split
    | dsimp only

theorem State.dropInbound_keeps {a2 : _} (hm : 512 ||| m = m) (h : Keeps m r s) :
    Keeps m r (State.dropInbound s a2) := by
  unfold State.dropInbound
  repeat' first
    | with_reducible first
      | assumption
      | (refine Keeps.press hm (by decide) ?_; assumption)
    | split
    | dsimp only

theorem State.feedCheck_keeps  (hm : 512 ||| m = m) (h : Keeps m r s) :
    Keeps m r (State.feedCheck s) := by
  unfold State.feedCheck
  try lift_lets
  repeat (intro x; first
    | (have hx : Keeps m r x := by
        dsimp only [x]
        repeat' first
          | with_reducible first
            | assumption
            | refine Keeps.ite ?_ ?_
            | refine State.setLane_keeps (sub_trans (by decide) hm) ?_
            | refine State.updateInbound_keeps (sub_trans (by decide) hm) ?_
            | refine Keeps.each ?_ ?_
          | (intro t x ht)
          | (intro t ht)
          | (intro t y z ht)
          | (intro ht)
          | split
          | dsimp only
       clear_value x)
    | clear_value x)
  repeat' first
    | with_reducible first
      | assumption
      | refine Keeps.ite ?_ ?_
      | refine State.setLane_keeps (sub_trans (by decide) hm) ?_
      | refine State.updateInbound_keeps (sub_trans (by decide) hm) ?_
      | refine Keeps.each ?_ ?_
    | (intro t x ht)
    | (intro t ht)
    | (intro t y z ht)
    | (intro ht)
    | split
    | dsimp only

theorem State.ingestDone_keeps {a2 : _} {a3 : _} {a4 : _} {a5 : _} (hm : 1048614 ||| m = m) (h : Keeps m r s) :
    Keeps m r (State.ingestDone s a2 a3 a4 a5) := by
  unfold State.ingestDone
  repeat' first
    | with_reducible first
      | assumption
      | refine Keeps.ite ?_ ?_
      | refine State.completeInPlace_keeps (sub_trans (by decide) hm) ?_
      | refine State.bump_keeps (sub_trans (by decide) hm) ?_
    | split
    | dsimp only

theorem State.rejectEvent_keeps {a2 : _} {a3 : _} {a4 : _} (hm : 18 ||| m = m) (h : Keeps m r s) :
    Keeps m r (State.rejectEvent s a2 a3 a4) := by
  unfold State.rejectEvent
  repeat' first
    | with_reducible first
      | assumption
      | refine State.event_keeps (sub_trans (by decide) hm) ?_
      | refine State.bump_keeps (sub_trans (by decide) hm) ?_
    | split
    | dsimp only

theorem State.residency_keeps {a2 : _} (hm : 1114422 ||| m = m) (h : Keeps m r s) :
    Keeps m r (State.residency s a2) := by
  unfold State.residency
  repeat' first
    | with_reducible first
      | assumption
      | refine Keeps.ite ?_ ?_
      | refine State.setPageState_keeps (sub_trans (by decide) hm) ?_
    | split
    | dsimp only

theorem State.acceptBlock_keeps {a2 : _} {a3 : _} (hm : 1114422 ||| m = m) (h : Keeps m r s) :
    Keeps m r (State.acceptBlock s a2 a3) := by
  unfold State.acceptBlock
  repeat' first
    | with_reducible first
      | assumption
      | refine State.residency_keeps (sub_trans (by decide) hm) ?_
      | refine State.setPage_keeps (sub_trans (by decide) hm) ?_
    | split
    | dsimp only

theorem execCheckLaneComplete_keeps {a1 : _} {a2 : _} (hm : 1114934 ||| m = m) (h : Keeps m r s) :
    KeepsO m r (execCheckLaneComplete a1 a2 s) := by
  unfold execCheckLaneComplete
  repeat' first
    | with_reducible first
      | assumption
      | refine KeepsO.next ?_
      | exact KeepsO.fault
      | refine KeepsO.ite ?_ ?_
      | refine Keeps.ite ?_ ?_
      | refine State.dropInbound_keeps (sub_trans (by decide) hm) ?_
      | refine State.feedCheck_keeps (sub_trans (by decide) hm) ?_
      | refine State.ingestDone_keeps (sub_trans (by decide) hm) ?_
      | refine State.setLane_keeps (sub_trans (by decide) hm) ?_
      | refine State.bump_keeps (sub_trans (by decide) hm) ?_
      | refine State.acceptBlock_keeps (sub_trans (by decide) hm) ?_
      | refine State.rejectEvent_keeps (sub_trans (by decide) hm) ?_
    | split
    | dsimp only

theorem State.requeue_keeps {a2 : _} {a3 : _} {a4 : _} (hm : 512 ||| m = m) (h : Keeps m r s) :
    Keeps m r (State.requeue s a2 a3 a4) := by
  unfold State.requeue
  repeat' first
    | with_reducible first
      | assumption
      | refine Keeps.ite ?_ ?_
      | refine State.setQueue_keeps (sub_trans (by decide) hm) ?_
    | split
    | dsimp only

theorem State.reissueEvent_keeps {a2 : _} {a3 : _} {a4 : _} {a5 : _} {a6 : _} (hm : 18 ||| m = m) (h : Keeps m r s) :
    Keeps m r (State.reissueEvent s a2 a3 a4 a5 a6) := by
  unfold State.reissueEvent
  repeat' first
    | with_reducible first
      | assumption
      | refine State.event_keeps (sub_trans (by decide) hm) ?_
      | refine State.bump_keeps (sub_trans (by decide) hm) ?_
    | split
    | dsimp only

theorem State.badBlock_keeps {a2 : _} {a3 : _} {a4 : _} (hm : 262162 ||| m = m) (h : Keeps m r s) :
    Keeps m r (State.badBlock s a2 a3 a4) := by
  unfold State.badBlock
  repeat' first
    | with_reducible first
      | assumption
      | refine State.event_keeps (sub_trans (by decide) hm) ?_
      | refine State.fault_keeps (sub_trans (by decide) hm) ?_
      | refine State.bump_keeps (sub_trans (by decide) hm) ?_
    | split
    | dsimp only

theorem State.forgetRetry_keeps {a2 : _} (hm : 512 ||| m = m) (h : Keeps m r s) :
    Keeps m r (State.forgetRetry s a2) := by
  unfold State.forgetRetry
  repeat' first
    | with_reducible first
      | assumption
      | (refine Keeps.press hm (by decide) ?_; assumption)
    | split
    | dsimp only

theorem State.stuckRetry_keeps {a2 : _} (hm : 262674 ||| m = m) (h : Keeps m r s) :
    Keeps m r (State.stuckRetry s a2) := by
  unfold State.stuckRetry
  repeat' first
    | with_reducible first
      | assumption
      | refine Keeps.ite ?_ ?_
      | refine State.badBlock_keeps (sub_trans (by decide) hm) ?_
      | refine State.forgetRetry_keeps (sub_trans (by decide) hm) ?_
      | refine State.setQueue_keeps (sub_trans (by decide) hm) ?_
    | split
    | dsimp only

theorem State.decodeLost_keeps {a2 : _} (hm : 1377078 ||| m = m) (h : Keeps m r s) :
    Keeps m r (State.decodeLost s a2) := by
  unfold State.decodeLost
  repeat' first
    | with_reducible first
      | assumption
      | refine Keeps.ite ?_ ?_
      | refine State.setLane_keeps (sub_trans (by decide) hm) ?_
      | refine State.reissueEvent_keeps (sub_trans (by decide) hm) ?_
      | refine State.requeue_keeps (sub_trans (by decide) hm) ?_
      | refine State.retest_keeps (sub_trans (by decide) hm) ?_
      | refine State.feedDecode_keeps (sub_trans (by decide) hm) ?_
      | refine State.stuckRetry_keeps (sub_trans (by decide) hm) ?_
    | split
    | dsimp only

theorem State.checkLost_keeps {a2 : _} (hm : 512 ||| m = m) (h : Keeps m r s) :
    Keeps m r (State.checkLost s a2) := by
  unfold State.checkLost
  try lift_lets
  repeat (intro x; first
    | (have hx : Keeps m r x := by
        dsimp only [x]
        repeat' first
          | with_reducible first
            | assumption
            | refine Keeps.ite ?_ ?_
            | refine State.setLane_keeps (sub_trans (by decide) hm) ?_
            | refine State.feedCheck_keeps (sub_trans (by decide) hm) ?_
            | refine State.updateInbound_keeps (sub_trans (by decide) hm) ?_
          | (intro t x ht)
          | (intro t ht)
          | (intro t y z ht)
          | (intro ht)
          | split
          | dsimp only
       clear_value x)
    | clear_value x)
  repeat' first
    | with_reducible first
      | assumption
      | refine Keeps.ite ?_ ?_
      | refine State.setLane_keeps (sub_trans (by decide) hm) ?_
      | refine State.feedCheck_keeps (sub_trans (by decide) hm) ?_
      | refine State.updateInbound_keeps (sub_trans (by decide) hm) ?_
    | (intro t x ht)
    | (intro t ht)
    | (intro t y z ht)
    | (intro ht)
    | split
    | dsimp only

theorem State.updateJob_keeps {a2 : _} {a3 : _} {a4 : _} (hm : 512 ||| m = m) (h : Keeps m r s) :
    Keeps m r (State.updateJob s a2 a3 a4) := by
  unfold State.updateJob
  repeat' first
    | with_reducible first
      | assumption
      | refine Keeps.ite ?_ ?_
      | refine State.setJobs_keeps (sub_trans (by decide) hm) ?_
    | split
    | dsimp only

theorem State.answerJobs_keeps {k n : Nat} (hm : 1049142 ||| m = m) (h : Keeps m r s) :
    Keeps m r (State.answerJobs k s n) := by
  induction k generalizing s with
  | zero => exact h
  | succ k ih =>
    unfold State.answerJobs
    split
    · split
      · exact ih (State.produce_keeps (sub_trans (by decide) hm) (State.finishEntry_keeps (sub_trans (by decide) hm) (State.setJobs_keeps (sub_trans (by decide) hm) h)))
      · exact h
    · exact h

theorem State.endJob_keeps {a2 : _} {a3 : _} {a4 : _} {a5 : _} (hm : 1049142 ||| m = m) (h : Keeps m r s) :
    Keeps m r (State.endJob s a2 a3 a4 a5) := by
  unfold State.endJob
  try lift_lets
  repeat (intro x; first
    | (have hx : Keeps m r x := by
        dsimp only [x]
        repeat' first
          | with_reducible first
            | assumption
            | refine Keeps.ite ?_ ?_
            | refine State.updateJob_keeps (sub_trans (by decide) hm) ?_
            | refine State.setTurns_keeps (sub_trans (by decide) hm) ?_
            | refine State.event_keeps (sub_trans (by decide) hm) ?_
            | refine State.answerJobs_keeps (sub_trans (by decide) hm) ?_
            | refine Keeps.each ?_ ?_
          | (intro t x ht)
          | (intro t ht)
          | (intro t y z ht)
          | (intro ht)
          | split
          | dsimp only
       clear_value x)
    | clear_value x)
  repeat' first
    | with_reducible first
      | assumption
      | refine Keeps.ite ?_ ?_
      | refine State.updateJob_keeps (sub_trans (by decide) hm) ?_
      | refine State.setTurns_keeps (sub_trans (by decide) hm) ?_
      | refine State.event_keeps (sub_trans (by decide) hm) ?_
      | refine State.answerJobs_keeps (sub_trans (by decide) hm) ?_
      | refine Keeps.each ?_ ?_
    | (intro t x ht)
    | (intro t ht)
    | (intro t y z ht)
    | (intro ht)
    | split
    | dsimp only

theorem State.failJob_keeps {a2 : _} {a3 : _} {a4 : _} {a5 : _} {a6 : _} (hm : 1049142 ||| m = m) (h : Keeps m r s) :
    Keeps m r (State.failJob s a2 a3 a4 a5 a6) := by
  unfold State.failJob
  repeat' first
    | with_reducible first
      | assumption
      | refine State.endJob_keeps (sub_trans (by decide) hm) ?_
    | split
    | dsimp only

theorem State.reissueJob_keeps {a2 : _} {a3 : _} (hm : 1049142 ||| m = m) (h : Keeps m r s) :
    Keeps m r (State.reissueJob s a2 a3) := by
  unfold State.reissueJob
  repeat' first
    | with_reducible first
      | assumption
      | refine Keeps.ite ?_ ?_
      | refine State.setTurns_keeps (sub_trans (by decide) hm) ?_
      | refine State.failJob_keeps (sub_trans (by decide) hm) ?_
      | refine State.updateJob_keeps (sub_trans (by decide) hm) ?_
      | refine State.reissueEvent_keeps (sub_trans (by decide) hm) ?_
    | split
    | dsimp only

theorem State.spreadJobs_keeps {lane k : Nat} {l : List Nat} (hm : 1049142 ||| m = m)
    (h : Keeps m r s) : Keeps m r (State.spreadJobs s lane l k) := by
  induction l generalizing s k with
  | nil => exact h
  | cons x l ih =>
    unfold State.spreadJobs
    refine ih ?_
    split
    · exact h
    · dsimp only
      split
      · exact State.failJob_keeps (sub_trans (by decide) hm) h
      · exact State.setTurns_keeps (sub_trans (by decide) hm) (State.setTurns_keeps (sub_trans (by decide) hm) h)

theorem State.streamEvent_keeps {a2 : _} {a3 : _} {a4 : _} (hm : 16 ||| m = m) (h : Keeps m r s) :
    Keeps m r (State.streamEvent s a2 a3 a4) := by
  unfold State.streamEvent
  repeat' first
    | with_reducible first
      | assumption
      | refine State.event_keeps (sub_trans (by decide) hm) ?_
    | split
    | dsimp only

theorem State.closeStream_keeps {a2 : _} (hm : 4522514 ||| m = m) (h : Keeps m r s) :
    Keeps m r (State.closeStream s a2) := by
  unfold State.closeStream
  repeat' first
    | with_reducible first
      | assumption
      | refine Keeps.ite ?_ ?_
      | refine State.setStream_keeps (sub_trans (by decide) hm) ?_
      | refine State.archiveBlock_keeps (sub_trans (by decide) hm) ?_
      | refine State.draw_keeps (sub_trans (by decide) hm) ?_
      | refine State.setLane_keeps (sub_trans (by decide) hm) ?_
    | split
    | dsimp only

theorem State.feedStream_keeps {k n : Nat} {b : Bytes} (hm : 4522514 ||| m = m) (h : Keeps m r s) :
    Keeps m r (State.feedStream k s n b) := by
  induction k generalizing s b with
  | zero => exact h
  | succ k ih =>
    unfold State.feedStream
    dsimp only
    split
    · exact State.setStream_keeps (sub_trans (by decide) hm) h
    · exact ih (State.closeStream_keeps (sub_trans (by decide) hm) (State.setStream_keeps (sub_trans (by decide) hm) h))

theorem State.followStream_keeps {a2 : _} (hm : 4522514 ||| m = m) (h : Keeps m r s) :
    Keeps m r (State.followStream s a2) := by
  unfold State.followStream
  repeat' first
    | with_reducible first
      | assumption
      | refine Keeps.ite ?_ ?_
      | refine State.setStream_keeps (sub_trans (by decide) hm) ?_
      | refine State.streamEvent_keeps (sub_trans (by decide) hm) ?_
      | refine State.closeStream_keeps (sub_trans (by decide) hm) ?_
    | split
    | dsimp only

theorem State.followStreams_keeps  (hm : 4522514 ||| m = m) (h : Keeps m r s) :
    Keeps m r (State.followStreams s) := by
  unfold State.followStreams
  repeat' first
    | with_reducible first
      | assumption
      | refine Keeps.ite ?_ ?_
      | refine State.followStream_keeps (sub_trans (by decide) hm) ?_
      | refine State.fault_keeps (sub_trans (by decide) hm) ?_
    | split
    | dsimp only

theorem State.laneLeaves_keeps {a2 : _} {a3 : _} {a4 : _} (hm : 5571382 ||| m = m) (h : Keeps m r s) :
    Keeps m r (State.laneLeaves s a2 a3 a4) := by
  unfold State.laneLeaves
  repeat' first
    | with_reducible first
      | assumption
      | refine Keeps.ite ?_ ?_
      | refine State.laneTo_keeps (sub_trans (by decide) hm) ?_
      | refine State.setLane_keeps (sub_trans (by decide) hm) ?_
      | refine State.decodeLost_keeps (sub_trans (by decide) hm) ?_
      | refine State.checkLost_keeps (sub_trans (by decide) hm) ?_
      | refine State.followStreams_keeps (sub_trans (by decide) hm) ?_
      | refine State.reissueJob_keeps (sub_trans (by decide) hm) ?_
      | refine State.spreadJobs_keeps (sub_trans (by decide) hm) ?_
    | split
    | dsimp only

theorem State.laneTests_keeps {a2 : _} (hm : 528 ||| m = m) (h : Keeps m r s) :
    Keeps m r (State.laneTests s a2) := by
  unfold State.laneTests
  repeat' first
    | with_reducible first
      | assumption
      | refine State.laneTo_keeps (sub_trans (by decide) hm) ?_
    | split
    | dsimp only

theorem State.pressUp_keeps {a2 : _} (hm : 528 ||| m = m) (h : Keeps m r s) :
    Keeps m r (State.pressUp s a2) := by
  unfold State.pressUp
  try lift_lets
  repeat (intro x; first
    | (have hx : Keeps m r x := by
        dsimp only [x]
        repeat' first
          | with_reducible first
            | assumption
            | refine State.laneTests_keeps (sub_trans (by decide) hm) ?_
            | refine State.setLane_keeps (sub_trans (by decide) hm) ?_
            | refine Keeps.each ?_ ?_
          | (intro t x ht)
          | (intro t ht)
          | (intro t y z ht)
          | (intro ht)
          | split
          | dsimp only
       clear_value x)
    | clear_value x)
  repeat' first
    | with_reducible first
      | assumption
      | refine State.laneTests_keeps (sub_trans (by decide) hm) ?_
      | refine State.setLane_keeps (sub_trans (by decide) hm) ?_
      | refine Keeps.each ?_ ?_
    | (intro t x ht)
    | (intro t ht)
    | (intro t y z ht)
    | (intro ht)
    | split
    | dsimp only

theorem State.pressDown_keeps {a2 : _} (hm : 5571382 ||| m = m) (h : Keeps m r s) :
    Keeps m r (State.pressDown s a2) := by
  unfold State.pressDown
  try lift_lets
  repeat (intro x; first
    | (have hx : Keeps m r x := by
        dsimp only [x]
        repeat' first
          | with_reducible first
            | assumption
            | refine Keeps.ite ?_ ?_
            | refine State.laneLeaves_keeps (sub_trans (by decide) hm) ?_
            | refine Keeps.each ?_ ?_
          | (intro t x ht)
          | (intro t ht)
          | (intro t y z ht)
          | (intro ht)
          | split
          | dsimp only
       clear_value x)
    | clear_value x)
  repeat' first
    | with_reducible first
      | assumption
      | refine Keeps.ite ?_ ?_
      | refine State.laneLeaves_keeps (sub_trans (by decide) hm) ?_
      | refine Keeps.each ?_ ?_
    | (intro t x ht)
    | (intro t ht)
    | (intro t y z ht)
    | (intro ht)
    | split
    | dsimp only

theorem execLaneFault_keeps {a1 : _} {a2 : _} (hm : 5571382 ||| m = m) (h : Keeps m r s) :
    KeepsO m r (execLaneFault a1 a2 s) := by
  unfold execLaneFault
  repeat' first
    | with_reducible first
      | assumption
      | refine KeepsO.next ?_
      | exact KeepsO.fault
      | refine KeepsO.ite ?_ ?_
      | refine Keeps.ite ?_ ?_
      | refine State.laneLeaves_keeps (sub_trans (by decide) hm) ?_
      | refine State.fault_keeps (sub_trans (by decide) hm) ?_
    | split
    | dsimp only

theorem execLaneSelfTestDone_keeps {a1 : _} {a2 : _} (hm : 4522514 ||| m = m) (h : Keeps m r s) :
    KeepsO m r (execLaneSelfTestDone a1 a2 s) := by
  unfold execLaneSelfTestDone
  repeat' first
    | with_reducible first
      | assumption
      | refine KeepsO.next ?_
      | exact KeepsO.fault
      | refine KeepsO.ite ?_ ?_
      | refine Keeps.ite ?_ ?_
      | refine State.event_keeps (sub_trans (by decide) hm) ?_
      | refine State.laneTo_keeps (sub_trans (by decide) hm) ?_
      | refine State.feedDecode_keeps (sub_trans (by decide) hm) ?_
      | refine State.feedCheck_keeps (sub_trans (by decide) hm) ?_
      | refine State.followStreams_keeps (sub_trans (by decide) hm) ?_
    | split
    | dsimp only

theorem State.writeRows_keeps {a2 : _} {a3 : _} (hm : 262674 ||| m = m) (h : Keeps m r s) :
    Keeps m r (State.writeRows s a2 a3) := by
  unfold State.writeRows
  try lift_lets
  repeat (intro x; first
    | (have hx : Keeps m r x := by
        dsimp only [x]
        repeat' first
          | with_reducible first
            | assumption
            | refine Keeps.ite ?_ ?_
            | refine State.setBuffer_keeps (sub_trans (by decide) hm) ?_
            | refine State.spendInjection_keeps (sub_trans (by decide) hm) ?_
            | refine Keeps.each ?_ ?_
            | refine Keeps.foldl ?_ ?_
          | (intro t x ht)
          | (intro t ht)
          | (intro t y z ht)
          | (intro ht)
          | split
          | dsimp only
       clear_value x)
    | clear_value x)
  repeat' first
    | with_reducible first
      | assumption
      | refine Keeps.ite ?_ ?_
      | refine State.setBuffer_keeps (sub_trans (by decide) hm) ?_
      | refine State.spendInjection_keeps (sub_trans (by decide) hm) ?_
      | refine Keeps.each ?_ ?_
      | refine Keeps.foldl ?_ ?_
    | (intro t x ht)
    | (intro t ht)
    | (intro t y z ht)
    | (intro ht)
    | split
    | dsimp only

theorem execDecodeBlockComplete_keeps {n k : Nat} {g : Bool} (hm : 5571382 ||| m = m) (h : Keeps m r s) :
    KeepsO m r (execDecodeBlockComplete n g k s) := by
  unfold execDecodeBlockComplete
  dsimp only
  split
  · split
    · exact KeepsO.next (State.feedDecode_keeps (sub_trans (by decide) hm) (State.setLane_keeps (sub_trans (by decide) hm) h))
    · split
      · refine KeepsO.next (State.feedDecode_keeps (sub_trans (by decide) hm) ?_)
        split
        · exact State.laneLeaves_keeps (sub_trans (by decide) hm) (State.forgetRetry_keeps (sub_trans (by decide) hm) (State.writeRows_keeps (sub_trans (by decide) hm) (State.setLane_keeps (sub_trans (by decide) hm) h)))
        · exact State.forgetRetry_keeps (sub_trans (by decide) hm) (State.writeRows_keeps (sub_trans (by decide) hm) (State.setLane_keeps (sub_trans (by decide) hm) h))
      · split
        · exact KeepsO.next (State.feedDecode_keeps (sub_trans (by decide) hm) (State.reissueEvent_keeps (sub_trans (by decide) hm) (State.requeue_keeps (sub_trans (by decide) hm)
            (Keeps.press hm (by decide) (State.setLane_keeps (sub_trans (by decide) hm) h)))))
        · exact KeepsO.next (State.feedDecode_keeps (sub_trans (by decide) hm) (State.badBlock_keeps (sub_trans (by decide) hm) (State.forgetRetry_keeps (sub_trans (by decide) hm) (State.setLane_keeps (sub_trans (by decide) hm) h))))
  · exact KeepsO.next h

theorem State.queueJob_keeps {a2 : _} {a3 : _} {a4 : _} (hm : 512 ||| m = m) (h : Keeps m r s) :
    Keeps m r (State.queueJob s a2 a3 a4) := by
  unfold State.queueJob
  repeat' first
    | with_reducible first
      | assumption
      | refine State.setJobs_keeps (sub_trans (by decide) hm) ?_
      | refine State.setTurns_keeps (sub_trans (by decide) hm) ?_
    | split
    | dsimp only

theorem State.rejectJob_keeps {a2 : _} {a3 : _} {a4 : _} {a5 : _} (hm : 1049142 ||| m = m) (h : Keeps m r s) :
    Keeps m r (State.rejectJob s a2 a3 a4 a5) := by
  unfold State.rejectJob
  repeat' first
    | with_reducible first
      | assumption
      | refine State.failJob_keeps (sub_trans (by decide) hm) ?_
      | refine State.setJobs_keeps (sub_trans (by decide) hm) ?_
    | split
    | dsimp only

theorem State.takeJob_keeps {a2 : _} {a3 : _} {a4 : _} {a5 : _} {a6 : _} (hm : 1312310 ||| m = m) (h : Keeps m r s) :
    Keeps m r (State.takeJob s a2 a3 a4 a5 a6) := by
  unfold State.takeJob
  repeat' first
    | with_reducible first
      | assumption
      | refine Keeps.ite ?_ ?_
      | refine State.rejectJob_keeps (sub_trans (by decide) hm) ?_
      | refine State.linkFault_keeps (sub_trans (by decide) hm) ?_
      | refine State.readRange_keeps (sub_trans (by decide) hm) ?_
      | refine State.queueJob_keeps (sub_trans (by decide) hm) ?_
      | (refine Keeps.press hm (by decide) ?_; assumption)
    | split
    | dsimp only

theorem execEncodeBuffer_keeps {a1 : _} {a2 : _} {a3 : _} {a4 : _} (hm : 1312310 ||| m = m) (h : Keeps m r s) :
    KeepsO m r (execEncodeBuffer a1 a2 a3 a4 s) := by
  unfold execEncodeBuffer
  try lift_lets
  repeat (intro x; first
    | (have hx : Keeps m r x := by
        dsimp only [x]
        repeat' first
          | with_reducible first
            | assumption
            | refine KeepsO.next ?_
            | exact KeepsO.fault
            | refine KeepsO.ite ?_ ?_
            | refine Keeps.ite ?_ ?_
            | refine State.takeEntry_keeps (sub_trans (by decide) hm) ?_ ?_
            | refine State.takeJob_keeps (sub_trans (by decide) hm) ?_
          | (intro t x ht)
          | (intro t ht)
          | (intro t y z ht)
          | (intro ht)
          | split
          | dsimp only
       clear_value x)
    | clear_value x)
  repeat' first
    | with_reducible first
      | assumption
      | refine KeepsO.next ?_
      | exact KeepsO.fault
      | refine KeepsO.ite ?_ ?_
      | refine Keeps.ite ?_ ?_
      | refine State.takeEntry_keeps (sub_trans (by decide) hm) ?_ ?_
      | refine State.takeJob_keeps (sub_trans (by decide) hm) ?_
    | (intro t x ht)
    | (intro t ht)
    | (intro t y z ht)
    | (intro ht)
    | split
    | dsimp only

theorem execEncodeBand_keeps {a1 : _} {a2 : _} {a3 : _} {a4 : _} (hm : 1312310 ||| m = m) (h : Keeps m r s) :
    KeepsO m r (execEncodeBand a1 a2 a3 a4 s) := by
  unfold execEncodeBand
  try lift_lets
  repeat (intro x; first
    | (have hx : Keeps m r x := by
        dsimp only [x]
        repeat' first
          | with_reducible first
            | assumption
            | refine KeepsO.next ?_
            | exact KeepsO.fault
            | refine KeepsO.ite ?_ ?_
            | refine Keeps.ite ?_ ?_
            | refine State.takeEntry_keeps (sub_trans (by decide) hm) ?_ ?_
            | refine State.takeJob_keeps (sub_trans (by decide) hm) ?_
          | (intro t x ht)
          | (intro t ht)
          | (intro t y z ht)
          | (intro ht)
          | split
          | dsimp only
       clear_value x)
    | clear_value x)
  repeat' first
    | with_reducible first
      | assumption
      | refine KeepsO.next ?_
      | exact KeepsO.fault
      | refine KeepsO.ite ?_ ?_
      | refine Keeps.ite ?_ ?_
      | refine State.takeEntry_keeps (sub_trans (by decide) hm) ?_ ?_
      | refine State.takeJob_keeps (sub_trans (by decide) hm) ?_
    | (intro t x ht)
    | (intro t ht)
    | (intro t y z ht)
    | (intro ht)
    | split
    | dsimp only

theorem State.chainWrite_keeps {l : List (Nat × Nat × Bool)} {k : Nat} {b : Bytes} (hm : 269330 ||| m = m)
    (h : Keeps m r s) : Keeps m r (State.chainWrite s l k b) := by
  induction l generalizing s k b with
  | nil => exact h
  | cons x l ih =>
    obtain ⟨a, n, g⟩ := x
    unfold State.chainWrite
    split
    · exact ih h
    · split
      · exact h
      · exact ih (State.store_keeps (sub_trans (by decide) hm) h)

theorem State.elementFails_keeps {a2 : _} (hm : 262162 ||| m = m) (h : Keeps m r s) :
    Keeps m r (State.elementFails s a2) := by
  unfold State.elementFails
  repeat' first
    | with_reducible first
      | assumption
      | refine Keeps.ite ?_ ?_
      | refine State.hostFault_keeps (sub_trans (by decide) hm) ?_
    | split
    | dsimp only

theorem State.endBuffer_keeps {a2 : _} {a3 : _} {a4 : _} {a5 : _} (hm : 1318454 ||| m = m) (h : Keeps m r s) :
    Keeps m r (State.endBuffer s a2 a3 a4 a5) := by
  unfold State.endBuffer
  repeat' first
    | with_reducible first
      | assumption
      | refine Keeps.ite ?_ ?_
      | refine State.endJob_keeps (sub_trans (by decide) hm) ?_
      | refine State.elementFails_keeps (sub_trans (by decide) hm) ?_
      | refine State.chainWrite_keeps (sub_trans (by decide) hm) ?_
    | split
    | dsimp only

theorem State.endBand_keeps {a2 : _} {a3 : _} {a4 : _} (hm : 5309238 ||| m = m) (h : Keeps m r s) :
    Keeps m r (State.endBand s a2 a3 a4) := by
  unfold State.endBand
  repeat' first
    | with_reducible first
      | assumption
      | refine Keeps.ite ?_ ?_
      | refine State.failJob_keeps (sub_trans (by decide) hm) ?_
      | refine State.draw_keeps (sub_trans (by decide) hm) ?_
      | refine State.acceptBlock_keeps (sub_trans (by decide) hm) ?_
      | refine State.endJob_keeps (sub_trans (by decide) hm) ?_
      | (refine Keeps.press hm (by decide) ?_; assumption)
    | split
    | dsimp only

theorem State.mismatch_keeps {a2 : _} (hm : 5571382 ||| m = m) (h : Keeps m r s) :
    Keeps m r (State.mismatch s a2) := by
  unfold State.mismatch
  repeat' first
    | with_reducible first
      | assumption
      | refine State.laneLeaves_keeps (sub_trans (by decide) hm) ?_
      | refine State.fault_keeps (sub_trans (by decide) hm) ?_
      | refine State.bump_keeps (sub_trans (by decide) hm) ?_
    | split
    | dsimp only

theorem execEncodeJobComplete_keeps {a1 : _} {a2 : _} {a3 : _} {a4 : _} (hm : 5578550 ||| m = m) (h : Keeps m r s) :
    KeepsO m r (execEncodeJobComplete a1 a2 a3 a4 s) := by
  unfold execEncodeJobComplete
  repeat' first
    | with_reducible first
      | assumption
      | refine KeepsO.next ?_
      | exact KeepsO.fault
      | refine KeepsO.ite ?_ ?_
      | refine Keeps.ite ?_ ?_
      | refine State.setLane_keeps (sub_trans (by decide) hm) ?_
      | refine State.mismatch_keeps (sub_trans (by decide) hm) ?_
      | refine State.endBuffer_keeps (sub_trans (by decide) hm) ?_
      | refine State.endBand_keeps (sub_trans (by decide) hm) ?_
    | split
    | dsimp only

theorem execStreamInput_keeps {a1 : _} (hm : 4522514 ||| m = m) (h : Keeps m r s) :
    KeepsO m r (execStreamInput a1 s) := by
  unfold execStreamInput
  repeat' first
    | with_reducible first
      | assumption
      | refine KeepsO.next ?_
      | exact KeepsO.fault
      | refine KeepsO.ite ?_ ?_
      | refine Keeps.ite ?_ ?_
      | refine State.setStream_keeps (sub_trans (by decide) hm) ?_
      | refine State.feedStream_keeps (sub_trans (by decide) hm) ?_
    | split
    | dsimp only

theorem execStreamFlush_keeps {a1 : _} (hm : 512 ||| m = m) (h : Keeps m r s) :
    KeepsO m r (execStreamFlush a1 s) := by
  unfold execStreamFlush
  repeat' first
    | with_reducible first
      | assumption
      | refine KeepsO.next ?_
      | exact KeepsO.fault
      | refine KeepsO.ite ?_ ?_
      | refine Keeps.ite ?_ ?_
      | refine State.setStream_keeps (sub_trans (by decide) hm) ?_
    | split
    | dsimp only

theorem execStreamClose_keeps {a1 : _} (hm : 4522514 ||| m = m) (h : Keeps m r s) :
    KeepsO m r (execStreamClose a1 s) := by
  unfold execStreamClose
  repeat' first
    | with_reducible first
      | assumption
      | refine KeepsO.next ?_
      | exact KeepsO.fault
      | refine KeepsO.ite ?_ ?_
      | refine Keeps.ite ?_ ?_
      | refine State.closeStream_keeps (sub_trans (by decide) hm) ?_
    | split
    | dsimp only

theorem execIngestBlock_keeps {a1 : _} {a2 : _} {a3 : _} (hm : 1311286 ||| m = m) (h : Keeps m r s) :
    KeepsO m r (execIngestBlock a1 a2 a3 s) := by
  unfold execIngestBlock
  try lift_lets
  repeat (intro x; first
    | (have hx : Keeps m r x := by
        dsimp only [x]
        repeat' first
          | with_reducible first
            | assumption
            | refine KeepsO.next ?_
            | exact KeepsO.fault
            | refine KeepsO.ite ?_ ?_
            | refine Keeps.ite ?_ ?_
            | refine State.readInPlace_keeps (sub_trans (by decide) hm) ?_ ?_
            | refine State.ingestDone_keeps (sub_trans (by decide) hm) ?_
            | refine State.linkFault_keeps (sub_trans (by decide) hm) ?_
            | refine State.rejectEvent_keeps (sub_trans (by decide) hm) ?_
            | (refine Keeps.press hm (by decide) ?_; assumption)
          | (intro t x ht)
          | (intro t ht)
          | (intro t y z ht)
          | (intro ht)
          | split
          | dsimp only
       clear_value x)
    | clear_value x)
  repeat' first
    | with_reducible first
      | assumption
      | refine KeepsO.next ?_
      | exact KeepsO.fault
      | refine KeepsO.ite ?_ ?_
      | refine Keeps.ite ?_ ?_
      | refine State.readInPlace_keeps (sub_trans (by decide) hm) ?_ ?_
      | refine State.ingestDone_keeps (sub_trans (by decide) hm) ?_
      | refine State.linkFault_keeps (sub_trans (by decide) hm) ?_
      | refine State.rejectEvent_keeps (sub_trans (by decide) hm) ?_
      | (refine Keeps.press hm (by decide) ?_; assumption)
    | (intro t x ht)
    | (intro t ht)
    | (intro t y z ht)
    | (intro ht)
    | split
    | dsimp only

theorem execIngestDataRead_keeps {n : Nat} {x : HostMem} {p : Bool} (hm : 5505590 ||| m = m) (h : Keeps m r s) :
    KeepsO m r (execIngestDataRead n x p s) := by
  unfold execIngestDataRead
  split
  · exact KeepsO.next h
  · dsimp only
    split
    · exact KeepsO.next (State.ingestDone_keeps (sub_trans (by decide) hm) (State.fault_keeps (sub_trans (by decide) hm) (State.dropInbound_keeps (sub_trans (by decide) hm) h)))
    · split
      · exact KeepsO.next (State.ingestDone_keeps (sub_trans (by decide) hm) (State.linkFault_keeps (sub_trans (by decide) hm) (State.dropInbound_keeps (sub_trans (by decide) hm) h)))
      · exact KeepsO.next (State.feedCheck_keeps (sub_trans (by decide) hm) (State.draw_keeps (sub_trans (by decide) hm) (Keeps.press hm (by decide) (State.dropInbound_keeps (sub_trans (by decide) hm) h))))

end Sys2Proof.Machine
end

