-- ==== Sys2Proof/Laws/Keeps3.lean ====
section
/-! SUPPORT. What every operation of these files of the model keeps: Ladle, Link, Drives, Loops. -/

namespace Sys2Proof.Machine

variable {m : Nat} {r s : State}

/-! ## Ladle -/

theorem State.countGrants_keeps {a2 : _} {a3 : _} {a4 : _} (hm : 1024 ||| m = m) (h : Keeps m r s) :
    Keeps m r (State.countGrants s a2 a3 a4) := by
  unfold State.countGrants
  repeat' first
    | with_reducible first
      | assumption
      | (refine Keeps.fabric hm (by decide) rfl rfl ?_; assumption)
    | split
    | dsimp only

theorem State.startScrub_keeps  (hm : 1028 ||| m = m) (h : Keeps m r s) :
    Keeps m r (State.startScrub s) := by
  unfold State.startScrub
  repeat' first
    | with_reducible first
      | assumption
      | refine State.after_keeps (sub_trans (by decide) hm) ?_
      | (refine Keeps.fabric hm (by decide) rfl rfl ?_; assumption)
    | split
    | dsimp only

theorem execScrubRead_keeps {a e : Nat} (hm : 263186 ||| m = m) (h : Keeps m r s) : KeepsO m r (execScrubRead a e s) := by
  unfold execScrubRead
  split
  · extract_lets s1 k src s2 s3 s4
    have h1 : Keeps m r s1 := State.readGranule_keeps (sub_trans (by decide) hm) (State.eccError_keeps (sub_trans (by decide) hm) h)
    clear_value s1
    have h2 : Keeps m r s2 := Keeps.fabric hm (by decide) rfl rfl h1
    clear_value s2
    split
    · exact KeepsO.next h2
    · have h4 : Keeps m r s4 := State.event_keeps (sub_trans (by decide) hm) (State.bump_keeps (sub_trans (by decide) hm) h2)
      clear_value s4
      exact KeepsO.next (Keeps.ite (Keeps.fabric hm (by decide) rfl rfl h4) h4)
  · exact KeepsO.next h

theorem execScrubPeriodExpired_keeps (hm : 1044 ||| m = m) (h : Keeps m r s) :
    KeepsO m r (execScrubPeriodExpired s) := by
  unfold execScrubPeriodExpired
  split
  · split
    · exact KeepsO.next (State.after_keeps (sub_trans (by decide) hm) (Keeps.fabric hm (by decide) rfl rfl (State.event_keeps (sub_trans (by decide) hm) h)))
    · exact KeepsO.next (State.startScrub_keeps (sub_trans (by decide) hm) h)
  · exact KeepsO.next h

theorem State.lockEvent_keeps {a2 : _} {a3 : _} {a4 : _} {a5 : _} (hm : 16 ||| m = m) (h : Keeps m r s) :
    Keeps m r (State.lockEvent s a2 a3 a4 a5) := by
  unfold State.lockEvent
  repeat' first
    | with_reducible first
      | assumption
      | refine State.event_keeps (sub_trans (by decide) hm) ?_
    | split
    | dsimp only

theorem State.takeLock_keeps {a2 : _} {a3 : _} (hm : 1040 ||| m = m) (h : Keeps m r s) :
    Keeps m r (State.takeLock s a2 a3) := by
  unfold State.takeLock
  repeat' first
    | with_reducible first
      | assumption
      | refine Keeps.ite ?_ ?_
      | refine State.setLock_keeps (sub_trans (by decide) hm) ?_
      | refine State.lockEvent_keeps (sub_trans (by decide) hm) ?_
    | split
    | dsimp only

theorem State.completeLadle_keeps {a2 : _} {a3 : _} {a4 : _} {a5 : _} (hm : 1049636 ||| m = m) (h : Keeps m r s) :
    Keeps m r (State.completeLadle s a2 a3 a4 a5) := by
  unfold State.completeLadle
  repeat' first
    | with_reducible first
      | assumption
      | refine State.completeInPlace_keeps (sub_trans (by decide) hm) ?_
      | refine State.disarm_keeps (sub_trans (by decide) hm) ?_
      | refine State.setLadleJob_keeps (sub_trans (by decide) hm) ?_
    | split
    | dsimp only

theorem State.unwait_keeps {a2 : _} (hm : 1028 ||| m = m) (h : Keeps m r s) :
    Keeps m r (State.unwait s a2) := by
  unfold State.unwait
  repeat' first
    | with_reducible first
      | assumption
      | refine State.disarm_keeps (sub_trans (by decide) hm) ?_
      | (refine Keeps.fabric hm (by decide) rfl rfl ?_; assumption)
    | split
    | dsimp only

theorem State.grantLock_keeps {a2 : _} {a3 : _} (hm : 1044 ||| m = m) (h : Keeps m r s) :
    Keeps m r (State.grantLock s a2 a3) := by
  unfold State.grantLock
  repeat' first
    | with_reducible first
      | assumption
      | refine State.takeLock_keeps (sub_trans (by decide) hm) ?_
      | refine State.unwait_keeps (sub_trans (by decide) hm) ?_
      | refine State.setLadleJob_keeps (sub_trans (by decide) hm) ?_
    | split
    | dsimp only

theorem State.passLock_keeps {a2 : _} (hm : 1044 ||| m = m) (h : Keeps m r s) :
    Keeps m r (State.passLock s a2) := by
  unfold State.passLock
  repeat' first
    | with_reducible first
      | assumption
      | refine State.grantLock_keeps (sub_trans (by decide) hm) ?_
    | split
    | dsimp only

theorem State.releaseLock_keeps {a2 : _} (hm : 1044 ||| m = m) (h : Keeps m r s) :
    Keeps m r (State.releaseLock s a2) := by
  unfold State.releaseLock
  repeat' first
    | with_reducible first
      | assumption
      | refine State.passLock_keeps (sub_trans (by decide) hm) ?_
      | refine State.setLock_keeps (sub_trans (by decide) hm) ?_
    | split
    | dsimp only

theorem State.breakLock_keeps {a2 : _} (hm : 1044 ||| m = m) (h : Keeps m r s) :
    Keeps m r (State.breakLock s a2) := by
  unfold State.breakLock
  repeat' first
    | with_reducible first
      | assumption
      | refine State.passLock_keeps (sub_trans (by decide) hm) ?_
      | refine State.lockEvent_keeps (sub_trans (by decide) hm) ?_
      | refine State.setLock_keeps (sub_trans (by decide) hm) ?_
    | split
    | dsimp only

theorem State.breakLocks_keeps {a2 : _} (hm : 1044 ||| m = m) (h : Keeps m r s) :
    Keeps m r (State.breakLocks s a2) := by
  unfold State.breakLocks
  try lift_lets
  repeat (intro x; first
    | (have hx : Keeps m r x := by
        dsimp only [x]
        repeat' first
          | with_reducible first
            | assumption
            | refine Keeps.ite ?_ ?_
            | refine State.breakLock_keeps (sub_trans (by decide) hm) ?_
            | refine Keeps.each ?_ ?_
          | (intro t x ht)
          | (intro t ht)
          | (intro t y z ht)
          | (intro ht)
          | split
          | dsimp only
       clear_value x)
    | clear_value x)
  repeat' first
    | with_reducible first
      | assumption
      | refine Keeps.ite ?_ ?_
      | refine State.breakLock_keeps (sub_trans (by decide) hm) ?_
      | refine Keeps.each ?_ ?_
    | (intro t x ht)
    | (intro t ht)
    | (intro t y z ht)
    | (intro ht)
    | split
    | dsimp only

theorem State.endLadleJobs_keeps {a b : Nat} (hm : 1049652 ||| m = m) (h : Keeps m r s) :
    Keeps m r (s.endLadleJobs a b) := by
  unfold State.endLadleJobs
  refine Keeps.each (fun t x ht => ?_) (Keeps.fabric hm (by decide) rfl rfl h)
  split
  · exact State.breakLocks_keeps (sub_trans (by decide) hm) (State.completeLadle_keeps (sub_trans (by decide) hm) (State.unwait_keeps (sub_trans (by decide) hm) ht))
  · exact ht

theorem State.haltLadle_keeps {a2 : _} (hm : 1049654 ||| m = m) (h : Keeps m r s) :
    Keeps m r (State.haltLadle s a2) := by
  unfold State.haltLadle
  repeat' first
    | with_reducible first
      | assumption
      | refine State.event_keeps (sub_trans (by decide) hm) ?_
      | refine State.setn_keeps (sub_trans (by decide) hm) ?_
      | refine State.endLadleJobs_keeps (sub_trans (by decide) hm) ?_
    | split
    | dsimp only

theorem State.stopLadle_keeps {a2 : _} {a3 : _} (hm : 1311798 ||| m = m) (h : Keeps m r s) :
    Keeps m r (State.stopLadle s a2 a3) := by
  unfold State.stopLadle
  repeat' first
    | with_reducible first
      | assumption
      | refine State.fault_keeps (sub_trans (by decide) hm) ?_
      | refine State.haltLadle_keeps (sub_trans (by decide) hm) ?_
    | split
    | dsimp only

theorem State.channelGrants_keeps {a2 : _} {a3 : _} {a4 : _} (hm : 1024 ||| m = m) (h : Keeps m r s) :
    Keeps m r (State.channelGrants s a2 a3 a4) := by
  unfold State.channelGrants
  repeat' first
    | with_reducible first
      | assumption
      | refine State.countGrants_keeps (sub_trans (by decide) hm) ?_
    | split
    | dsimp only

theorem State.channelReads_keeps {a2 : _} {a3 : _} {a4 : _} {a5 : _} (hm : 263186 ||| m = m) (h : Keeps m r s) :
    Keeps m r (State.channelReads s a2 a3 a4 a5) := by
  unfold State.channelReads
  repeat' first
    | with_reducible first
      | assumption
      | refine Keeps.ite ?_ ?_
      | refine State.channelGrants_keeps (sub_trans (by decide) hm) ?_
      | refine State.readRange_keeps (sub_trans (by decide) hm) ?_
    | split
    | dsimp only

theorem State.writePart_keeps {a2 : _} {a3 : _} {a4 : _} {a5 : _} (hm : 269330 ||| m = m) (h : Keeps m r s) :
    Keeps m r (State.writePart s a2 a3 a4 a5).1 := by
  unfold State.writePart
  repeat' first
    | with_reducible first
      | assumption
      | refine Keeps.ite ?_ ?_
      | refine State.store_keeps (sub_trans (by decide) hm) ?_
      | refine State.channelGrants_keeps (sub_trans (by decide) hm) ?_
    | split
    | dsimp only

theorem State.moveJob_keeps {k ch budget : Nat} {j : LadleJob} (hm : 269330 ||| m = m) (h : Keeps m r s) :
    Keeps m r (State.moveJob k s ch j budget).1 := by
  induction k generalizing s j budget with
  | zero => exact h
  | succ k ih =>
    unfold State.moveJob
    split
    · exact h
    · split
      · split
        · exact h
        · split
          · exact h
          · have h1 := Keeps.each (l := (s.nextTransfer ch j).1) (f := fun t x => t.channelReads ch x.1 x.2.1 x.2.2)
              (fun t x ht => State.channelReads_keeps (sub_trans (by decide) hm) ht) h
            dsimp only
            split
            · exact State.setLadleJob_keeps (sub_trans (by decide) hm) h1
            · exact ih h1
      · split
        · exact h
        · dsimp only
          have h1 : Keeps m r (if j.down then s.writePart ch j.destHost (j.dest + (j.left.length - min budget j.left.length))
                (j.left.drop (j.left.length - min budget j.left.length))
              else s.writePart ch j.destHost (j.dest + (j.size - j.left.length)) (j.left.take (min budget j.left.length))).1 := by
            split
            · exact State.writePart_keeps (sub_trans (by decide) hm) h
            · exact State.writePart_keeps (sub_trans (by decide) hm) h
          split
          · exact State.setLadleJob_keeps (sub_trans (by decide) hm) h1
          · exact ih h1

theorem State.advanceJob_keeps {ch budget : Nat} (hm : 1317942 ||| m = m) (h : Keeps m r s) :
    Keeps m r (s.advanceJob ch budget) := by
  unfold State.advanceJob
  split
  · exact h
  · next j _ =>
    have hk : Keeps m r (State.moveJob (2 * j.transfers + 2) s ch j budget).1 := State.moveJob_keeps (sub_trans (by decide) hm) h
    split
    · next e => rw [e] at hk; exact State.setLadleJob_keeps (sub_trans (by decide) hm) hk
    · next e => rw [e] at hk; exact State.stopLadle_keeps (sub_trans (by decide) hm) (Keeps.ite (State.fault_keeps (sub_trans (by decide) hm) hk) hk)

theorem State.startJob_keeps {a2 : _} (hm : 1317942 ||| m = m) (h : Keeps m r s) :
    Keeps m r (State.startJob s a2) := by
  unfold State.startJob
  repeat' first
    | with_reducible first
      | assumption
      | refine Keeps.ite ?_ ?_
      | refine State.after_keeps (sub_trans (by decide) hm) ?_
      | refine State.advanceJob_keeps (sub_trans (by decide) hm) ?_
    | split
    | dsimp only

theorem State.startGranted_keeps {a2 : _} (hm : 1317942 ||| m = m) (h : Keeps m r s) :
    Keeps m r (State.startGranted s a2) := by
  unfold State.startGranted
  try lift_lets
  repeat (intro x; first
    | (have hx : Keeps m r x := by
        dsimp only [x]
        repeat' first
          | with_reducible first
            | assumption
            | refine Keeps.ite ?_ ?_
            | refine State.startJob_keeps (sub_trans (by decide) hm) ?_
            | refine Keeps.each ?_ ?_
          | (intro t x ht)
          | (intro t ht)
          | (intro t y z ht)
          | (intro ht)
          | split
          | dsimp only
       clear_value x)
    | clear_value x)
  repeat' first
    | with_reducible first
      | assumption
      | refine Keeps.ite ?_ ?_
      | refine State.startJob_keeps (sub_trans (by decide) hm) ?_
      | refine Keeps.each ?_ ?_
    | (intro t x ht)
    | (intro t ht)
    | (intro t y z ht)
    | (intro ht)
    | split
    | dsimp only

theorem State.takeLadleJob_keeps {ch e : Nat} {ws : List Nat} {x : HostMem} (hm : 1317942 ||| m = m)
    (h : Keeps m r s) : Keeps m r (s.takeLadleJob ch e ws x) := by
  unfold State.takeLadleJob
  dsimp only
  split
  · exact State.completeLadle_keeps (sub_trans (by decide) hm) h
  · split
    · exact State.completeLadle_keeps (sub_trans (by decide) hm) h
    · split
      · exact State.completeLadle_keeps (sub_trans (by decide) hm) h
      · split
        · split
          · exact State.startJob_keeps (sub_trans (by decide) hm) (State.grantLock_keeps (sub_trans (by decide) hm) (State.setLadleJob_keeps (sub_trans (by decide) hm) h))
          · exact State.after_keeps (sub_trans (by decide) hm) (Keeps.fabric hm (by decide) rfl rfl (State.setLadleJob_keeps (sub_trans (by decide) hm) h))
        · exact State.startJob_keeps (sub_trans (by decide) hm) (State.setLadleJob_keeps (sub_trans (by decide) hm) h)

theorem execFenceOnly_keeps {a1 : _} {a2 : _} {a3 : _} (hm : 1317942 ||| m = m) (h : Keeps m r s) :
    KeepsO m r (execFenceOnly a1 a2 a3 s) := by
  unfold execFenceOnly
  try lift_lets
  repeat (intro x; first
    | (have hx : Keeps m r x := by
        dsimp only [x]
        repeat' first
          | with_reducible first
            | assumption
            | refine KeepsO.next ?_
            | exact KeepsO.fault
            | refine KeepsO.ite ?_ ?_
            | refine Keeps.ite ?_ ?_
            | refine State.readInPlace_keeps (sub_trans (by decide) hm) ?_ ?_
            | refine State.takeLadleJob_keeps (sub_trans (by decide) hm) ?_
          | (intro t x ht)
          | (intro t ht)
          | (intro t y z ht)
          | (intro ht)
          | split
          | dsimp only
       clear_value x)
    | clear_value x)
  repeat' first
    | with_reducible first
      | assumption
      | refine KeepsO.next ?_
      | exact KeepsO.fault
      | refine KeepsO.ite ?_ ?_
      | refine Keeps.ite ?_ ?_
      | refine State.readInPlace_keeps (sub_trans (by decide) hm) ?_ ?_
      | refine State.takeLadleJob_keeps (sub_trans (by decide) hm) ?_
    | (intro t x ht)
    | (intro t ht)
    | (intro t y z ht)
    | (intro ht)
    | split
    | dsimp only

theorem execCopyList_keeps {a1 : _} {a2 : _} {a3 : _} (hm : 1317942 ||| m = m) (h : Keeps m r s) :
    KeepsO m r (execCopyList a1 a2 a3 s) := by
  unfold execCopyList
  try lift_lets
  repeat (intro x; first
    | (have hx : Keeps m r x := by
        dsimp only [x]
        repeat' first
          | with_reducible first
            | assumption
            | refine KeepsO.next ?_
            | exact KeepsO.fault
            | refine KeepsO.ite ?_ ?_
            | refine Keeps.ite ?_ ?_
            | refine State.readInPlace_keeps (sub_trans (by decide) hm) ?_ ?_
            | refine State.takeLadleJob_keeps (sub_trans (by decide) hm) ?_
          | (intro t x ht)
          | (intro t ht)
          | (intro t y z ht)
          | (intro ht)
          | split
          | dsimp only
       clear_value x)
    | clear_value x)
  repeat' first
    | with_reducible first
      | assumption
      | refine KeepsO.next ?_
      | exact KeepsO.fault
      | refine KeepsO.ite ?_ ?_
      | refine Keeps.ite ?_ ?_
      | refine State.readInPlace_keeps (sub_trans (by decide) hm) ?_ ?_
      | refine State.takeLadleJob_keeps (sub_trans (by decide) hm) ?_
    | (intro t x ht)
    | (intro t ht)
    | (intro t y z ht)
    | (intro ht)
    | split
    | dsimp only

theorem execCopyIndex_keeps {a1 : _} {a2 : _} {a3 : _} (hm : 1317942 ||| m = m) (h : Keeps m r s) :
    KeepsO m r (execCopyIndex a1 a2 a3 s) := by
  unfold execCopyIndex
  try lift_lets
  repeat (intro x; first
    | (have hx : Keeps m r x := by
        dsimp only [x]
        repeat' first
          | with_reducible first
            | assumption
            | refine KeepsO.next ?_
            | exact KeepsO.fault
            | refine KeepsO.ite ?_ ?_
            | refine Keeps.ite ?_ ?_
            | refine State.readInPlace_keeps (sub_trans (by decide) hm) ?_ ?_
            | refine State.takeLadleJob_keeps (sub_trans (by decide) hm) ?_
          | (intro t x ht)
          | (intro t ht)
          | (intro t y z ht)
          | (intro ht)
          | split
          | dsimp only
       clear_value x)
    | clear_value x)
  repeat' first
    | with_reducible first
      | assumption
      | refine KeepsO.next ?_
      | exact KeepsO.fault
      | refine KeepsO.ite ?_ ?_
      | refine Keeps.ite ?_ ?_
      | refine State.readInPlace_keeps (sub_trans (by decide) hm) ?_ ?_
      | refine State.takeLadleJob_keeps (sub_trans (by decide) hm) ?_
    | (intro t x ht)
    | (intro t ht)
    | (intro t y z ht)
    | (intro ht)
    | split
    | dsimp only

theorem execLadleJobComplete_keeps {a1 : _} (hm : 1317942 ||| m = m) (h : Keeps m r s) :
    KeepsO m r (execLadleJobComplete a1 s) := by
  unfold execLadleJobComplete
  repeat' first
    | with_reducible first
      | assumption
      | refine KeepsO.next ?_
      | exact KeepsO.fault
      | refine KeepsO.ite ?_ ?_
      | refine Keeps.ite ?_ ?_
      | refine State.completeLadle_keeps (sub_trans (by decide) hm) ?_
      | refine State.startGranted_keeps (sub_trans (by decide) hm) ?_
      | refine State.releaseLock_keeps (sub_trans (by decide) hm) ?_
    | split
    | dsimp only

theorem execLadlePaceRequest_keeps {a1 : _} (hm : 1317942 ||| m = m) (h : Keeps m r s) :
    KeepsO m r (execLadlePaceRequest a1 s) := by
  unfold execLadlePaceRequest
  repeat' first
    | with_reducible first
      | assumption
      | refine KeepsO.next ?_
      | exact KeepsO.fault
      | refine KeepsO.ite ?_ ?_
      | refine Keeps.ite ?_ ?_
      | refine State.advanceJob_keeps (sub_trans (by decide) hm) ?_
      | refine State.arm_keeps (sub_trans (by decide) hm) ?_
    | split
    | dsimp only

theorem execLadleLockWaitExpired_keeps {a1 : _} (hm : 1049636 ||| m = m) (h : Keeps m r s) :
    KeepsO m r (execLadleLockWaitExpired a1 s) := by
  unfold execLadleLockWaitExpired
  repeat' first
    | with_reducible first
      | assumption
      | refine KeepsO.next ?_
      | exact KeepsO.fault
      | refine KeepsO.ite ?_ ?_
      | refine Keeps.ite ?_ ?_
      | refine State.completeLadle_keeps (sub_trans (by decide) hm) ?_
      | refine State.unwait_keeps (sub_trans (by decide) hm) ?_
    | split
    | dsimp only

theorem execLadleBusError_keeps {a1 : _} {a2 : _} (hm : 1311798 ||| m = m) (h : Keeps m r s) :
    KeepsO m r (execLadleBusError a1 a2 s) := by
  unfold execLadleBusError
  repeat' first
    | with_reducible first
      | assumption
      | refine KeepsO.next ?_
      | exact KeepsO.fault
      | refine KeepsO.ite ?_ ?_
      | refine Keeps.ite ?_ ?_
      | refine State.stopLadle_keeps (sub_trans (by decide) hm) ?_
      | refine State.fault_keeps (sub_trans (by decide) hm) ?_
    | split
    | dsimp only

theorem execFabricTransactionComplete_keeps {i a n : Nat} {w : Bool} {l : List Nat} {e : Ecc} (hm : 1311798 ||| m = m) (h : Keeps m r s) :
    KeepsO m r (execFabricTransactionComplete i a n w l e s) := by
  unfold execFabricTransactionComplete
  split
  · extract_lets g read bad found s1 s2
    have h1 : Keeps m r s1 := State.eccError_keeps (sub_trans (by decide) hm) (State.countGrants_keeps (sub_trans (by decide) hm) h)
    clear_value s1
    have h2 : Keeps m r s2 := Keeps.each (fun t x ht => Keeps.ite ht (State.touchGranule_keeps (sub_trans (by decide) hm) ht)) h1
    clear_value s2 found
    cases found with
    | some g => exact KeepsO.next (Keeps.ite (State.stopLadle_keeps (sub_trans (by decide) hm) h2) h2)
    | none => exact KeepsO.next h2
  · exact KeepsO.next h

theorem State.ladleReinit_keeps  (hm : 1049654 ||| m = m) (h : Keeps m r s) :
    Keeps m r (State.ladleReinit s) := by
  unfold State.ladleReinit
  repeat' first
    | with_reducible first
      | assumption
      | refine State.event_keeps (sub_trans (by decide) hm) ?_
      | refine State.setn_keeps (sub_trans (by decide) hm) ?_
      | refine State.endLadleJobs_keeps (sub_trans (by decide) hm) ?_
    | split
    | dsimp only

/-! ## Link -/

theorem State.ringTo_keeps {a2 : _} {a3 : _} (hm : 48 ||| m = m) (h : Keeps m r s) :
    Keeps m r (State.ringTo s a2 a3) := by
  unfold State.ringTo
  repeat' first
    | with_reducible first
      | assumption
      | refine Keeps.ite ?_ ?_
      | refine State.setRing_keeps (sub_trans (by decide) hm) ?_
      | refine State.ringEvent_keeps (sub_trans (by decide) hm) ?_
    | split
    | dsimp only

theorem State.drainRingOut_keeps {a2 : _} (hm : 52 ||| m = m) (h : Keeps m r s) :
    Keeps m r (State.drainRingOut s a2) := by
  unfold State.drainRingOut
  repeat' first
    | with_reducible first
      | assumption
      | refine Keeps.ite ?_ ?_
      | refine State.ringEvent_keeps (sub_trans (by decide) hm) ?_
      | refine State.disarm_keeps (sub_trans (by decide) hm) ?_
      | refine State.setRing_keeps (sub_trans (by decide) hm) ?_
    | split
    | dsimp only

theorem State.roomOpened_keeps {a2 : _} (hm : 1048628 ||| m = m) (h : Keeps m r s) :
    Keeps m r (State.roomOpened s a2) := by
  unfold State.roomOpened
  repeat' first
    | with_reducible first
      | assumption
      | refine Keeps.ite ?_ ?_
      | refine State.flush_keeps (sub_trans (by decide) hm) ?_
      | refine State.drainRing_keeps (sub_trans (by decide) hm) ?_
    | split
    | dsimp only

theorem execRingDescriptorWrite_keeps {a1 : _} {a2 : _} {a3 : _} (hm : 48 ||| m = m) (h : Keeps m r s) :
    KeepsO m r (execRingDescriptorWrite a1 a2 a3 s) := by
  unfold execRingDescriptorWrite
  repeat' first
    | with_reducible first
      | assumption
      | refine KeepsO.next ?_
      | exact KeepsO.fault
      | refine KeepsO.ite ?_ ?_
      | refine Keeps.ite ?_ ?_
      | refine State.ringEvent_keeps (sub_trans (by decide) hm) ?_
      | refine State.setRing_keeps (sub_trans (by decide) hm) ?_
    | split
    | dsimp only

theorem execRingEnable_keeps {a1 : _} {a2 : _} (hm : 1048628 ||| m = m) (h : Keeps m r s) :
    KeepsO m r (execRingEnable a1 a2 s) := by
  unfold execRingEnable
  repeat' first
    | with_reducible first
      | assumption
      | refine KeepsO.next ?_
      | exact KeepsO.fault
      | refine KeepsO.ite ?_ ?_
      | refine Keeps.ite ?_ ?_
      | refine State.ringEvent_keeps (sub_trans (by decide) hm) ?_
      | refine State.drainRingOut_keeps (sub_trans (by decide) hm) ?_
      | refine State.setRing_keeps (sub_trans (by decide) hm) ?_
      | refine State.roomOpened_keeps (sub_trans (by decide) hm) ?_
      | refine State.ringTo_keeps (sub_trans (by decide) hm) ?_
      | refine State.disarm_keeps (sub_trans (by decide) hm) ?_
    | split
    | dsimp only

theorem execRingDrained_keeps {a1 : _} (hm : 48 ||| m = m) (h : Keeps m r s) :
    KeepsO m r (execRingDrained a1 s) := by
  unfold execRingDrained
  repeat' first
    | with_reducible first
      | assumption
      | refine KeepsO.next ?_
      | exact KeepsO.fault
      | refine KeepsO.ite ?_ ?_
      | refine Keeps.ite ?_ ?_
      | refine State.ringTo_keeps (sub_trans (by decide) hm) ?_
    | split
    | dsimp only

theorem execDoorbellWrite_keeps {a1 : _} {a2 : _} (hm : 1310774 ||| m = m) (h : Keeps m r s) :
    KeepsO m r (execDoorbellWrite a1 a2 s) := by
  unfold execDoorbellWrite
  repeat' first
    | with_reducible first
      | assumption
      | refine KeepsO.next ?_
      | exact KeepsO.fault
      | refine KeepsO.ite ?_ ?_
      | refine Keeps.ite ?_ ?_
      | refine State.ringEvent_keeps (sub_trans (by decide) hm) ?_
      | refine State.fault_keeps (sub_trans (by decide) hm) ?_
      | refine State.ringError_keeps (sub_trans (by decide) hm) ?_
      | refine State.roomOpened_keeps (sub_trans (by decide) hm) ?_
      | refine State.setRing_keeps (sub_trans (by decide) hm) ?_
    | split
    | dsimp only

theorem execMsixHoldoffExpired_keeps {a1 : _} (hm : 1048612 ||| m = m) (h : Keeps m r s) :
    KeepsO m r (execMsixHoldoffExpired a1 s) := by
  unfold execMsixHoldoffExpired
  repeat' first
    | with_reducible first
      | assumption
      | refine KeepsO.next ?_
      | exact KeepsO.fault
      | refine KeepsO.ite ?_ ?_
      | refine Keeps.ite ?_ ?_
      | refine State.sendMessage_keeps (sub_trans (by decide) hm) ?_
      | refine State.disarm_keeps (sub_trans (by decide) hm) ?_
    | split
    | dsimp only

theorem State.sendPending_keeps {a2 : _} (hm : 1048612 ||| m = m) (h : Keeps m r s) :
    Keeps m r (State.sendPending s a2) := by
  unfold State.sendPending
  repeat' first
    | with_reducible first
      | assumption
      | refine Keeps.ite ?_ ?_
      | refine State.sendMessage_keeps (sub_trans (by decide) hm) ?_
      | refine State.setRing_keeps (sub_trans (by decide) hm) ?_
    | split
    | dsimp only

theorem execVectorUnmask_keeps {a1 : _} (hm : 9437220 ||| m = m) (h : Keeps m r s) :
    KeepsO m r (execVectorUnmask a1 s) := by
  unfold execVectorUnmask
  repeat' first
    | with_reducible first
      | assumption
      | refine KeepsO.next ?_
      | exact KeepsO.fault
      | refine KeepsO.ite ?_ ?_
      | refine Keeps.ite ?_ ?_
      | refine State.sendPending_keeps (sub_trans (by decide) hm) ?_
      | refine State.setRing_keeps (sub_trans (by decide) hm) ?_
      | (refine Keeps.pcie hm (by decide) ?_; assumption)
    | split
    | dsimp only

theorem State.masterOn_keeps  (hm : 1048628 ||| m = m) (h : Keeps m r s) :
    Keeps m r (State.masterOn s) := by
  unfold State.masterOn
  try lift_lets
  repeat (intro x; first
    | (have hx : Keeps m r x := by
        dsimp only [x]
        repeat' first
          | with_reducible first
            | assumption
            | refine Keeps.ite ?_ ?_
            | refine State.sendPending_keeps (sub_trans (by decide) hm) ?_
            | refine State.settleInPlace_keeps (sub_trans (by decide) hm) ?_
            | refine State.roomOpened_keeps (sub_trans (by decide) hm) ?_
            | refine State.announce_keeps (sub_trans (by decide) hm) ?_
            | refine Keeps.each ?_ ?_
          | (intro t x ht)
          | (intro t ht)
          | (intro t y z ht)
          | (intro ht)
          | split
          | dsimp only
       clear_value x)
    | clear_value x)
  repeat' first
    | with_reducible first
      | assumption
      | refine Keeps.ite ?_ ?_
      | refine State.sendPending_keeps (sub_trans (by decide) hm) ?_
      | refine State.settleInPlace_keeps (sub_trans (by decide) hm) ?_
      | refine State.roomOpened_keeps (sub_trans (by decide) hm) ?_
      | refine State.announce_keeps (sub_trans (by decide) hm) ?_
      | refine Keeps.each ?_ ?_
    | (intro t x ht)
    | (intro t ht)
    | (intro t y z ht)
    | (intro ht)
    | split
    | dsimp only

theorem execDrainBoundExpired_keeps {a1 : _} (hm : 50 ||| m = m) (h : Keeps m r s) :
    KeepsO m r (execDrainBoundExpired a1 s) := by
  unfold execDrainBoundExpired
  repeat' first
    | with_reducible first
      | assumption
      | refine KeepsO.next ?_
      | exact KeepsO.fault
      | refine KeepsO.ite ?_ ?_
      | refine Keeps.ite ?_ ?_
      | refine State.bump_keeps (sub_trans (by decide) hm) ?_
      | refine State.setRing_keeps (sub_trans (by decide) hm) ?_
      | refine State.ringEvent_keeps (sub_trans (by decide) hm) ?_
    | split
    | dsimp only

theorem State.linkEvent_keeps {a2 : _} (hm : 16 ||| m = m) (h : Keeps m r s) :
    Keeps m r (State.linkEvent s a2) := by
  unfold State.linkEvent
  repeat' first
    | with_reducible first
      | assumption
      | refine State.event_keeps (sub_trans (by decide) hm) ?_
    | split
    | dsimp only

theorem execLinkTrained_keeps {a1 : _} {a2 : _} (hm : 9437238 ||| m = m) (h : Keeps m r s) :
    KeepsO m r (execLinkTrained a1 a2 s) := by
  unfold execLinkTrained
  repeat' first
    | with_reducible first
      | assumption
      | refine KeepsO.next ?_
      | exact KeepsO.fault
      | refine KeepsO.ite ?_ ?_
      | refine Keeps.ite ?_ ?_
      | refine State.bumpBy_keeps (sub_trans (by decide) hm) ?_
      | refine State.linkEvent_keeps (sub_trans (by decide) hm) ?_
      | refine State.setn_keeps (sub_trans (by decide) hm) ?_
      | refine State.setb_keeps (sub_trans (by decide) hm) ?_
      | refine State.masterOn_keeps (sub_trans (by decide) hm) ?_
      | (refine Keeps.pcie hm (by decide) ?_; assumption)
    | split
    | dsimp only

theorem State.discardIngest_keeps  (hm : 544 ||| m = m) (h : Keeps m r s) :
    Keeps m r (State.discardIngest s) := by
  unfold State.discardIngest
  try lift_lets
  repeat (intro x; first
    | (have hx : Keeps m r x := by
        dsimp only [x]
        repeat' first
          | with_reducible first
            | assumption
            | refine Keeps.ite ?_ ?_
            | refine State.setLane_keeps (sub_trans (by decide) hm) ?_
            | refine State.feedCheck_keeps (sub_trans (by decide) hm) ?_
            | refine State.setRing_keeps (sub_trans (by decide) hm) ?_
            | refine Keeps.each ?_ ?_
            | (refine Keeps.press hm (by decide) ?_; assumption)
          | (intro t x ht)
          | (intro t ht)
          | (intro t y z ht)
          | (intro ht)
          | split
          | dsimp only
       clear_value x)
    | clear_value x)
  repeat' first
    | with_reducible first
      | assumption
      | refine Keeps.ite ?_ ?_
      | refine State.setLane_keeps (sub_trans (by decide) hm) ?_
      | refine State.feedCheck_keeps (sub_trans (by decide) hm) ?_
      | refine State.setRing_keeps (sub_trans (by decide) hm) ?_
      | refine Keeps.each ?_ ?_
      | (refine Keeps.press hm (by decide) ?_; assumption)
    | (intro t x ht)
    | (intro t ht)
    | (intro t y z ht)
    | (intro ht)
    | split
    | dsimp only

theorem State.hostGone_keeps  (hm : 1377334 ||| m = m) (h : Keeps m r s) :
    Keeps m r (State.hostGone s) := by
  unfold State.hostGone
  try lift_lets
  repeat (intro x; first
    | (have hx : Keeps m r x := by
        dsimp only [x]
        repeat' first
          | with_reducible first
            | assumption
            | refine Keeps.ite ?_ ?_
            | refine State.stopLadle_keeps (sub_trans (by decide) hm) ?_
            | refine State.setLadleJob_keeps (sub_trans (by decide) hm) ?_
            | refine Keeps.each ?_ ?_
            | (refine Keeps.crock hm (by decide) ?_; assumption)
          | (intro t x ht)
          | (intro t ht)
          | (intro t y z ht)
          | (intro ht)
          | split
          | dsimp only
       clear_value x)
    | clear_value x)
  repeat' first
    | with_reducible first
      | assumption
      | refine Keeps.ite ?_ ?_
      | refine State.stopLadle_keeps (sub_trans (by decide) hm) ?_
      | refine State.setLadleJob_keeps (sub_trans (by decide) hm) ?_
      | refine Keeps.each ?_ ?_
      | (refine Keeps.crock hm (by decide) ?_; assumption)
    | (intro t x ht)
    | (intro t ht)
    | (intro t y z ht)
    | (intro ht)
    | split
    | dsimp only

theorem State.linkLost_keeps {a2 : _} (hm : 9772598 ||| m = m) (h : Keeps m r s) :
    Keeps m r (State.linkLost s a2) := by
  unfold State.linkLost
  try lift_lets
  repeat (intro x; first
    | (have hx : Keeps m r x := by
        dsimp only [x]
        repeat' first
          | with_reducible first
            | assumption
            | refine Keeps.ite ?_ ?_
            | refine State.hostGone_keeps (sub_trans (by decide) hm) ?_
            | refine State.discardIngest_keeps (sub_trans (by decide) hm) ?_
            | refine State.drainRingOut_keeps (sub_trans (by decide) hm) ?_
            | refine State.breakLocks_keeps (sub_trans (by decide) hm) ?_
            | refine State.disarm_keeps (sub_trans (by decide) hm) ?_
            | refine State.setRing_keeps (sub_trans (by decide) hm) ?_
            | refine State.setn_keeps (sub_trans (by decide) hm) ?_
            | refine State.setb_keeps (sub_trans (by decide) hm) ?_
            | refine State.startGranted_keeps (sub_trans (by decide) hm) ?_
            | refine State.fault_keeps (sub_trans (by decide) hm) ?_
            | refine State.linkEvent_keeps (sub_trans (by decide) hm) ?_
            | refine State.bump_keeps (sub_trans (by decide) hm) ?_
            | refine Keeps.each ?_ ?_
            | (refine Keeps.pcie hm (by decide) ?_; assumption)
          | (intro t x ht)
          | (intro t ht)
          | (intro t y z ht)
          | (intro ht)
          | split
          | dsimp only
       clear_value x)
    | clear_value x)
  repeat' first
    | with_reducible first
      | assumption
      | refine Keeps.ite ?_ ?_
      | refine State.hostGone_keeps (sub_trans (by decide) hm) ?_
      | refine State.discardIngest_keeps (sub_trans (by decide) hm) ?_
      | refine State.drainRingOut_keeps (sub_trans (by decide) hm) ?_
      | refine State.breakLocks_keeps (sub_trans (by decide) hm) ?_
      | refine State.disarm_keeps (sub_trans (by decide) hm) ?_
      | refine State.setRing_keeps (sub_trans (by decide) hm) ?_
      | refine State.setn_keeps (sub_trans (by decide) hm) ?_
      | refine State.setb_keeps (sub_trans (by decide) hm) ?_
      | refine State.startGranted_keeps (sub_trans (by decide) hm) ?_
      | refine State.fault_keeps (sub_trans (by decide) hm) ?_
      | refine State.linkEvent_keeps (sub_trans (by decide) hm) ?_
      | refine State.bump_keeps (sub_trans (by decide) hm) ?_
      | refine Keeps.each ?_ ?_
      | (refine Keeps.pcie hm (by decide) ?_; assumption)
    | (intro t x ht)
    | (intro t ht)
    | (intro t y z ht)
    | (intro ht)
    | split
    | dsimp only

theorem execLinkLoss_keeps {a1 : _} (hm : 9772598 ||| m = m) (h : Keeps m r s) :
    KeepsO m r (execLinkLoss a1 s) := by
  unfold execLinkLoss
  repeat' first
    | with_reducible first
      | assumption
      | refine KeepsO.next ?_
      | exact KeepsO.fault
      | refine KeepsO.ite ?_ ?_
      | refine Keeps.ite ?_ ?_
      | refine State.linkLost_keeps (sub_trans (by decide) hm) ?_
    | split
    | dsimp only

/-! ## Drives -/

theorem State.startEvent_keeps {a2 : _} {a3 : _} (hm : 16 ||| m = m) (h : Keeps m r s) :
    Keeps m r (State.startEvent s a2 a3) := by
  unfold State.startEvent
  repeat' first
    | with_reducible first
      | assumption
      | refine State.event_keeps (sub_trans (by decide) hm) ?_
    | split
    | dsimp only

theorem State.observerEvent_keeps {a2 : _} {a3 : _} (hm : 16 ||| m = m) (h : Keeps m r s) :
    Keeps m r (State.observerEvent s a2 a3) := by
  unfold State.observerEvent
  repeat' first
    | with_reducible first
      | assumption
      | refine State.event_keeps (sub_trans (by decide) hm) ?_
    | split
    | dsimp only

theorem State.speedEvent_keeps {a2 : _} {a3 : _} {a4 : _} (hm : 16 ||| m = m) (h : Keeps m r s) :
    Keeps m r (State.speedEvent s a2 a3 a4) := by
  unfold State.speedEvent
  repeat' first
    | with_reducible first
      | assumption
      | refine State.event_keeps (sub_trans (by decide) hm) ?_
    | split
    | dsimp only

theorem State.setAtSpeed_keeps {a2 : _} {a3 : _} (hm : 18 ||| m = m) (h : Keeps m r s) :
    Keeps m r (State.setAtSpeed s a2 a3) := by
  unfold State.setAtSpeed
  repeat' first
    | with_reducible first
      | assumption
      | refine Keeps.ite ?_ ?_
      | refine State.speedEvent_keeps (sub_trans (by decide) hm) ?_
      | refine State.setb_keeps (sub_trans (by decide) hm) ?_
    | split
    | dsimp only

theorem State.driveTo_keeps {a2 : _} {a3 : _} {a4 : _} (hm : 303830 ||| m = m) (h : Keeps m r s) :
    Keeps m r (State.driveTo s a2 a3 a4) := by
  unfold State.driveTo
  try lift_lets
  repeat (intro x; first
    | (have hx : Keeps m r x := by
        dsimp only [x]
        repeat' first
          | with_reducible first
            | assumption
            | refine Keeps.ite ?_ ?_
            | refine State.disarm_keeps (sub_trans (by decide) hm) ?_
            | refine State.event_keeps (sub_trans (by decide) hm) ?_
            | refine State.setn_keeps (sub_trans (by decide) hm) ?_
            | refine State.setDrive_keeps (sub_trans (by decide) hm) ?_
            | refine State.setAtSpeed_keeps (sub_trans (by decide) hm) ?_
            | refine State.stopSlot_keeps (sub_trans (by decide) hm) ?_
            | refine State.refreshPolygon_keeps (sub_trans (by decide) hm) ?_
            | refine Keeps.foldl ?_ ?_
          | (intro t x ht)
          | (intro t ht)
          | (intro t y z ht)
          | (intro ht)
          | split
          | dsimp only
       clear_value x)
    | clear_value x)
  repeat' first
    | with_reducible first
      | assumption
      | refine Keeps.ite ?_ ?_
      | refine State.disarm_keeps (sub_trans (by decide) hm) ?_
      | refine State.event_keeps (sub_trans (by decide) hm) ?_
      | refine State.setn_keeps (sub_trans (by decide) hm) ?_
      | refine State.setDrive_keeps (sub_trans (by decide) hm) ?_
      | refine State.setAtSpeed_keeps (sub_trans (by decide) hm) ?_
      | refine State.stopSlot_keeps (sub_trans (by decide) hm) ?_
      | refine State.refreshPolygon_keeps (sub_trans (by decide) hm) ?_
      | refine Keeps.foldl ?_ ?_
    | (intro t x ht)
    | (intro t ht)
    | (intro t y z ht)
    | (intro ht)
    | split
    | dsimp only

theorem State.enterRun_keeps {a2 : _} {a3 : _} {a4 : _} (hm : 303830 ||| m = m) (h : Keeps m r s) :
    Keeps m r (State.enterRun s a2 a3 a4) := by
  unfold State.enterRun
  repeat' first
    | with_reducible first
      | assumption
      | refine State.setn_keeps (sub_trans (by decide) hm) ?_
      | refine State.driveTo_keeps (sub_trans (by decide) hm) ?_
      | refine State.startSlot_keeps (sub_trans (by decide) hm) ?_
    | split
    | dsimp only

theorem State.enterCatch_keeps {a2 : _} {a3 : _} (hm : 303830 ||| m = m) (h : Keeps m r s) :
    Keeps m r (State.enterCatch s a2 a3) := by
  unfold State.enterCatch
  repeat' first
    | with_reducible first
      | assumption
      | refine Keeps.ite ?_ ?_
      | refine State.after_keeps (sub_trans (by decide) hm) ?_
      | refine State.driveTo_keeps (sub_trans (by decide) hm) ?_
    | split
    | dsimp only

theorem State.countAttempt_keeps {a2 : _} (hm : 18 ||| m = m) (h : Keeps m r s) :
    Keeps m r (State.countAttempt s a2) := by
  unfold State.countAttempt
  repeat' first
    | with_reducible first
      | assumption
      | refine State.startEvent_keeps (sub_trans (by decide) hm) ?_
      | refine State.setn_keeps (sub_trans (by decide) hm) ?_
    | split
    | dsimp only

theorem State.enterAlign_keeps {a2 : _} {a3 : _} (hm : 303830 ||| m = m) (h : Keeps m r s) :
    Keeps m r (State.enterAlign s a2 a3) := by
  unfold State.enterAlign
  repeat' first
    | with_reducible first
      | assumption
      | refine State.countAttempt_keeps (sub_trans (by decide) hm) ?_
      | refine State.driveTo_keeps (sub_trans (by decide) hm) ?_
      | refine State.after_keeps (sub_trans (by decide) hm) ?_
      | refine State.setn_keeps (sub_trans (by decide) hm) ?_
      | refine State.setDrive_keeps (sub_trans (by decide) hm) ?_
    | split
    | dsimp only

theorem State.startTest_keeps {a2 : _} {a3 : _} (hm : 303830 ||| m = m) (h : Keeps m r s) :
    Keeps m r (State.startTest s a2 a3).1 := by
  unfold State.startTest
  repeat' first
    | with_reducible first
      | assumption
      | refine Keeps.ite ?_ ?_
      | refine State.enterAlign_keeps (sub_trans (by decide) hm) ?_
      | refine State.countAttempt_keeps (sub_trans (by decide) hm) ?_
      | refine State.enterCatch_keeps (sub_trans (by decide) hm) ?_
    | split
    | dsimp only

theorem State.speedFollows_keeps {a2 : _} (hm : 303830 ||| m = m) (h : Keeps m r s) :
    Keeps m r (State.speedFollows s a2) := by
  unfold State.speedFollows
  repeat' first
    | with_reducible first
      | assumption
      | refine Keeps.ite ?_ ?_
      | refine State.setDrive_keeps (sub_trans (by decide) hm) ?_
      | refine State.setAtSpeed_keeps (sub_trans (by decide) hm) ?_
      | refine State.refreshPolygon_keeps (sub_trans (by decide) hm) ?_
    | split
    | dsimp only

theorem State.driveCheck_keeps {a2 : _} {a3 : _} (hm : 303830 ||| m = m) (h : Keeps m r s) :
    Keeps m r (State.driveCheck s a2 a3) := by
  unfold State.driveCheck
  repeat' first
    | with_reducible first
      | assumption
      | refine Keeps.ite ?_ ?_
      | refine State.startTest_keeps (sub_trans (by decide) hm) ?_
      | refine State.driveTo_keeps (sub_trans (by decide) hm) ?_
      | refine State.speedFollows_keeps (sub_trans (by decide) hm) ?_
    | split
    | dsimp only

theorem State.enterRetry_keeps {a2 : _} {a3 : _} (hm : 303830 ||| m = m) (h : Keeps m r s) :
    Keeps m r (State.enterRetry s a2 a3) := by
  unfold State.enterRetry
  repeat' first
    | with_reducible first
      | assumption
      | refine Keeps.ite ?_ ?_
      | refine State.driveTo_keeps (sub_trans (by decide) hm) ?_
      | refine State.startEvent_keeps (sub_trans (by decide) hm) ?_
      | refine State.fault_keeps (sub_trans (by decide) hm) ?_
      | refine State.after_keeps (sub_trans (by decide) hm) ?_
    | split
    | dsimp only

theorem execAlignTimeElapsed_keeps {a1 : _} (hm : 303830 ||| m = m) (h : Keeps m r s) :
    KeepsO m r (execAlignTimeElapsed a1 s) := by
  unfold execAlignTimeElapsed
  repeat' first
    | with_reducible first
      | assumption
      | refine KeepsO.next ?_
      | exact KeepsO.fault
      | refine KeepsO.ite ?_ ?_
      | refine Keeps.ite ?_ ?_
      | refine State.driveTo_keeps (sub_trans (by decide) hm) ?_
      | refine State.setDrive_keeps (sub_trans (by decide) hm) ?_
      | refine State.after_keeps (sub_trans (by decide) hm) ?_
    | split
    | dsimp only

theorem execRampStep_keeps {a1 : _} (hm : 303830 ||| m = m) (h : Keeps m r s) :
    KeepsO m r (execRampStep a1 s) := by
  unfold execRampStep
  repeat' first
    | with_reducible first
      | assumption
      | refine KeepsO.next ?_
      | exact KeepsO.fault
      | refine KeepsO.ite ?_ ?_
      | refine Keeps.ite ?_ ?_
      | refine State.enterRun_keeps (sub_trans (by decide) hm) ?_
      | refine State.startEvent_keeps (sub_trans (by decide) hm) ?_
      | refine State.setDrive_keeps (sub_trans (by decide) hm) ?_
      | refine State.after_keeps (sub_trans (by decide) hm) ?_
      | refine State.setn_keeps (sub_trans (by decide) hm) ?_
    | split
    | dsimp only

theorem execRampHandoverTimeout_keeps {a1 : _} (hm : 303830 ||| m = m) (h : Keeps m r s) :
    KeepsO m r (execRampHandoverTimeout a1 s) := by
  unfold execRampHandoverTimeout
  repeat' first
    | with_reducible first
      | assumption
      | refine KeepsO.next ?_
      | exact KeepsO.fault
      | refine KeepsO.ite ?_ ?_
      | refine Keeps.ite ?_ ?_
      | refine State.enterRetry_keeps (sub_trans (by decide) hm) ?_
    | split
    | dsimp only

theorem execRetryIntervalElapsed_keeps {a1 : _} (hm : 303830 ||| m = m) (h : Keeps m r s) :
    KeepsO m r (execRetryIntervalElapsed a1 s) := by
  unfold execRetryIntervalElapsed
  repeat' first
    | with_reducible first
      | assumption
      | refine KeepsO.next ?_
      | exact KeepsO.fault
      | refine KeepsO.ite ?_ ?_
      | refine Keeps.ite ?_ ?_
      | refine State.startTest_keeps (sub_trans (by decide) hm) ?_
      | refine State.driveTo_keeps (sub_trans (by decide) hm) ?_
    | split
    | dsimp only

theorem State.catchEstimate_keeps {a2 : _} {a3 : _} {a4 : _} {a5 : _} (hm : 303830 ||| m = m) (h : Keeps m r s) :
    Keeps m r (State.catchEstimate s a2 a3 a4 a5) := by
  unfold State.catchEstimate
  repeat' first
    | with_reducible first
      | assumption
      | refine Keeps.ite ?_ ?_
      | refine State.enterRun_keeps (sub_trans (by decide) hm) ?_
      | refine State.observerEvent_keeps (sub_trans (by decide) hm) ?_
      | refine State.bump_keeps (sub_trans (by decide) hm) ?_
      | refine State.setDrive_keeps (sub_trans (by decide) hm) ?_
    | split
    | dsimp only

theorem State.speedCheck_keeps {a2 : _} (hm : 303830 ||| m = m) (h : Keeps m r s) :
    Keeps m r (State.speedCheck s a2) := by
  unfold State.speedCheck
  repeat' first
    | with_reducible first
      | assumption
      | refine Keeps.ite ?_ ?_
      | refine State.setDrive_keeps (sub_trans (by decide) hm) ?_
      | refine State.setAtSpeed_keeps (sub_trans (by decide) hm) ?_
      | refine State.refreshPolygon_keeps (sub_trans (by decide) hm) ?_
    | split
    | dsimp only

theorem execZeroCrossing_keeps {a1 : _} {a2 : _} {a3 : _} (hm : 303830 ||| m = m) (h : Keeps m r s) :
    KeepsO m r (execZeroCrossing a1 a2 a3 s) := by
  unfold execZeroCrossing
  repeat' first
    | with_reducible first
      | assumption
      | refine KeepsO.next ?_
      | exact KeepsO.fault
      | refine KeepsO.ite ?_ ?_
      | refine Keeps.ite ?_ ?_
      | refine State.setDrive_keeps (sub_trans (by decide) hm) ?_
      | refine State.driveCheck_keeps (sub_trans (by decide) hm) ?_
      | refine State.speedCheck_keeps (sub_trans (by decide) hm) ?_
      | refine State.catchEstimate_keeps (sub_trans (by decide) hm) ?_
    | split
    | dsimp only

theorem execObserverLoss_keeps {a1 : _} (hm : 303830 ||| m = m) (h : Keeps m r s) :
    KeepsO m r (execObserverLoss a1 s) := by
  unfold execObserverLoss
  repeat' first
    | with_reducible first
      | assumption
      | refine KeepsO.next ?_
      | exact KeepsO.fault
      | refine KeepsO.ite ?_ ?_
      | refine Keeps.ite ?_ ?_
      | refine State.enterCatch_keeps (sub_trans (by decide) hm) ?_
      | refine State.observerEvent_keeps (sub_trans (by decide) hm) ?_
      | refine State.fault_keeps (sub_trans (by decide) hm) ?_
      | refine State.bump_keeps (sub_trans (by decide) hm) ?_
    | split
    | dsimp only

theorem execCatchPulse_keeps {a1 : _} {a2 : _} {a3 : _} (hm : 303830 ||| m = m) (h : Keeps m r s) :
    KeepsO m r (execCatchPulse a1 a2 a3 s) := by
  unfold execCatchPulse
  repeat' first
    | with_reducible first
      | assumption
      | refine KeepsO.next ?_
      | exact KeepsO.fault
      | refine KeepsO.ite ?_ ?_
      | refine Keeps.ite ?_ ?_
      | refine State.after_keeps (sub_trans (by decide) hm) ?_
      | refine State.setDrive_keeps (sub_trans (by decide) hm) ?_
      | refine State.catchEstimate_keeps (sub_trans (by decide) hm) ?_
    | split
    | dsimp only

theorem execCatchTimeout_keeps {a1 : _} (hm : 303830 ||| m = m) (h : Keeps m r s) :
    KeepsO m r (execCatchTimeout a1 s) := by
  unfold execCatchTimeout
  repeat' first
    | with_reducible first
      | assumption
      | refine KeepsO.next ?_
      | exact KeepsO.fault
      | refine KeepsO.ite ?_ ?_
      | refine Keeps.ite ?_ ?_
      | refine State.enterRetry_keeps (sub_trans (by decide) hm) ?_
      | refine State.observerEvent_keeps (sub_trans (by decide) hm) ?_
    | split
    | dsimp only

theorem execPwmPeriod_keeps {a1 : _} {a2 : _} {a3 : _} (hm : 8210 ||| m = m) (h : Keeps m r s) :
    KeepsO m r (execPwmPeriod a1 a2 a3 s) := by
  unfold execPwmPeriod
  repeat' first
    | with_reducible first
      | assumption
      | refine KeepsO.next ?_
      | exact KeepsO.fault
      | refine KeepsO.ite ?_ ?_
      | refine Keeps.ite ?_ ?_
      | refine State.setDrive_keeps (sub_trans (by decide) hm) ?_
      | refine State.setn_keeps (sub_trans (by decide) hm) ?_
      | refine State.setBytes_keeps (sub_trans (by decide) hm) ?_
      | refine State.bump_keeps (sub_trans (by decide) hm) ?_
      | refine State.event_keeps (sub_trans (by decide) hm) ?_
    | split
    | dsimp only

theorem execCurrentLimitExceeded_keeps {a1 : _} (hm : 8192 ||| m = m) (h : Keeps m r s) :
    KeepsO m r (execCurrentLimitExceeded a1 s) := by
  unfold execCurrentLimitExceeded
  repeat' first
    | with_reducible first
      | assumption
      | refine KeepsO.next ?_
      | exact KeepsO.fault
      | refine KeepsO.ite ?_ ?_
      | refine Keeps.ite ?_ ?_
      | refine State.setDrive_keeps (sub_trans (by decide) hm) ?_
    | split
    | dsimp only

theorem execTripCurrent_keeps {a1 : _} (hm : 262162 ||| m = m) (h : Keeps m r s) :
    KeepsO m r (execTripCurrent a1 s) := by
  unfold execTripCurrent
  repeat' first
    | with_reducible first
      | assumption
      | refine KeepsO.next ?_
      | exact KeepsO.fault
      | refine KeepsO.ite ?_ ?_
      | refine Keeps.ite ?_ ?_
      | refine State.fault_keeps (sub_trans (by decide) hm) ?_
    | split
    | dsimp only

theorem execSdInputInvalid_keeps {a1 : _} {a2 : _} (hm : 262162 ||| m = m) (h : Keeps m r s) :
    KeepsO m r (execSdInputInvalid a1 a2 s) := by
  unfold execSdInputInvalid
  repeat' first
    | with_reducible first
      | assumption
      | refine KeepsO.next ?_
      | exact KeepsO.fault
      | refine KeepsO.ite ?_ ?_
      | refine Keeps.ite ?_ ?_
      | refine State.event_keeps (sub_trans (by decide) hm) ?_
      | refine State.fault_keeps (sub_trans (by decide) hm) ?_
    | split
    | dsimp only

theorem State.startProfile_keeps {a2 : _} {a3 : _} {a4 : _} (hm : 303830 ||| m = m) (h : Keeps m r s) :
    Keeps m r (State.startProfile s a2 a3 a4) := by
  unfold State.startProfile
  repeat' first
    | with_reducible first
      | assumption
      | refine Keeps.ite ?_ ?_
      | refine State.speedEvent_keeps (sub_trans (by decide) hm) ?_
      | refine State.seti_keeps (sub_trans (by decide) hm) ?_
      | refine State.driveCheck_keeps (sub_trans (by decide) hm) ?_
      | refine State.setDrive_keeps (sub_trans (by decide) hm) ?_
    | split
    | dsimp only

theorem execDriveProfile_keeps {a1 : _} (hm : 303838 ||| m = m) (h : Keeps m r s) :
    KeepsO m r (execDriveProfile a1 s) := by
  unfold execDriveProfile
  try lift_lets
  repeat (intro x; first
    | (have hx : Keeps m r x := by
        dsimp only [x]
        repeat' first
          | with_reducible first
            | assumption
            | refine KeepsO.next ?_
            | exact KeepsO.fault
            | refine KeepsO.ite ?_ ?_
            | refine Keeps.ite ?_ ?_
            | refine State.fireSlot_keeps (sub_trans (by decide) hm) ?_ ?_
            | refine State.startProfile_keeps (sub_trans (by decide) hm) ?_
          | (intro t x ht)
          | (intro t ht)
          | (intro t y z ht)
          | (intro ht)
          | split
          | dsimp only
       clear_value x)
    | clear_value x)
  repeat' first
    | with_reducible first
      | assumption
      | refine KeepsO.next ?_
      | exact KeepsO.fault
      | refine KeepsO.ite ?_ ?_
      | refine Keeps.ite ?_ ?_
      | refine State.fireSlot_keeps (sub_trans (by decide) hm) ?_ ?_
      | refine State.startProfile_keeps (sub_trans (by decide) hm) ?_
    | (intro t x ht)
    | (intro t ht)
    | (intro t y z ht)
    | (intro ht)
    | split
    | dsimp only

theorem execCommandPinLost_keeps {k : Nat} (hm : 303830 ||| m = m) (h : Keeps m r s) :
    KeepsO m r (execCommandPinLost k s) := by
  unfold execCommandPinLost
  split
  · exact KeepsO.next h
  · split
    · exact KeepsO.next h
    · exact KeepsO.next (Keeps.each (fun t x ht => State.driveCheck_keeps (sub_trans (by decide) hm) ht)
        (State.speedEvent_keeps (sub_trans (by decide) hm) (State.fault_keeps (sub_trans (by decide) hm) (Keeps.drives hm (by decide) h))))

theorem execCommandPinReturn_keeps {a1 : _} (hm : 303830 ||| m = m) (h : Keeps m r s) :
    KeepsO m r (execCommandPinReturn a1 s) := by
  unfold execCommandPinReturn
  try lift_lets
  repeat (intro x; first
    | (have hx : Keeps m r x := by
        dsimp only [x]
        repeat' first
          | with_reducible first
            | assumption
            | refine KeepsO.next ?_
            | exact KeepsO.fault
            | refine KeepsO.ite ?_ ?_
            | refine Keeps.ite ?_ ?_
            | refine State.speedEvent_keeps (sub_trans (by decide) hm) ?_
            | refine State.driveCheck_keeps (sub_trans (by decide) hm) ?_
            | refine Keeps.each ?_ ?_
            | (refine Keeps.drives hm (by decide) ?_; assumption)
          | (intro t x ht)
          | (intro t ht)
          | (intro t y z ht)
          | (intro ht)
          | split
          | dsimp only
       clear_value x)
    | clear_value x)
  repeat' first
    | with_reducible first
      | assumption
      | refine KeepsO.next ?_
      | exact KeepsO.fault
      | refine KeepsO.ite ?_ ?_
      | refine Keeps.ite ?_ ?_
      | refine State.speedEvent_keeps (sub_trans (by decide) hm) ?_
      | refine State.driveCheck_keeps (sub_trans (by decide) hm) ?_
      | refine Keeps.each ?_ ?_
      | (refine Keeps.drives hm (by decide) ?_; assumption)
    | (intro t x ht)
    | (intro t ht)
    | (intro t y z ht)
    | (intro ht)
    | split
    | dsimp only

theorem State.driveSafe_keeps {a2 : _} {a3 : _} (hm : 303830 ||| m = m) (h : Keeps m r s) :
    Keeps m r (State.driveSafe s a2 a3) := by
  unfold State.driveSafe
  repeat' first
    | with_reducible first
      | assumption
      | refine Keeps.ite ?_ ?_
      | refine State.setb_keeps (sub_trans (by decide) hm) ?_
      | refine State.driveTo_keeps (sub_trans (by decide) hm) ?_
      | refine State.setDrive_keeps (sub_trans (by decide) hm) ?_
      | refine State.after_keeps (sub_trans (by decide) hm) ?_
    | split
    | dsimp only

theorem State.driveRelease_keeps {a2 : _} (hm : 303830 ||| m = m) (h : Keeps m r s) :
    Keeps m r (State.driveRelease s a2) := by
  unfold State.driveRelease
  repeat' first
    | with_reducible first
      | assumption
      | refine Keeps.ite ?_ ?_
      | refine State.driveTo_keeps (sub_trans (by decide) hm) ?_
    | split
    | dsimp only

theorem execBrakeTimeElapsed_keeps {a1 : _} (hm : 8196 ||| m = m) (h : Keeps m r s) :
    KeepsO m r (execBrakeTimeElapsed a1 s) := by
  unfold execBrakeTimeElapsed
  repeat' first
    | with_reducible first
      | assumption
      | refine KeepsO.next ?_
      | exact KeepsO.fault
      | refine KeepsO.ite ?_ ?_
      | refine Keeps.ite ?_ ?_
      | refine State.setDrive_keeps (sub_trans (by decide) hm) ?_
      | refine State.disarm_keeps (sub_trans (by decide) hm) ?_
    | split
    | dsimp only

theorem State.driveEnable_keeps {a2 : _} {a3 : _} (hm : 303830 ||| m = m) (h : Keeps m r s) :
    Keeps m r (State.driveEnable s a2 a3) := by
  unfold State.driveEnable
  repeat' first
    | with_reducible first
      | assumption
      | refine Keeps.ite ?_ ?_
      | refine State.slotEvent_keeps (sub_trans (by decide) hm) ?_
      | refine State.driveCheck_keeps (sub_trans (by decide) hm) ?_
      | refine State.driveTo_keeps (sub_trans (by decide) hm) ?_
    | split
    | dsimp only

theorem State.driveReinit_keeps {a2 : _} (hm : 303830 ||| m = m) (h : Keeps m r s) :
    Keeps m r (State.driveReinit s a2) := by
  unfold State.driveReinit
  repeat' first
    | with_reducible first
      | assumption
      | refine Keeps.ite ?_ ?_
      | refine State.setn_keeps (sub_trans (by decide) hm) ?_
      | refine State.setb_keeps (sub_trans (by decide) hm) ?_
      | refine State.setDrive_keeps (sub_trans (by decide) hm) ?_
      | refine State.driveTo_keeps (sub_trans (by decide) hm) ?_
    | split
    | dsimp only

theorem State.driveDown_keeps {a2 : _} (hm : 303830 ||| m = m) (h : Keeps m r s) :
    Keeps m r (State.driveDown s a2) := by
  unfold State.driveDown
  repeat' first
    | with_reducible first
      | assumption
      | refine State.setDrive_keeps (sub_trans (by decide) hm) ?_
      | refine State.driveTo_keeps (sub_trans (by decide) hm) ?_
    | split
    | dsimp only

theorem State.busEvent_keeps {a2 : _} (hm : 16 ||| m = m) (h : Keeps m r s) :
    Keeps m r (State.busEvent s a2) := by
  unfold State.busEvent
  repeat' first
    | with_reducible first
      | assumption
      | refine State.event_keeps (sub_trans (by decide) hm) ?_
    | split
    | dsimp only

theorem State.setChopper_keeps {a2 : _} (hm : 8196 ||| m = m) (h : Keeps m r s) :
    Keeps m r (State.setChopper s a2) := by
  unfold State.setChopper
  repeat' first
    | with_reducible first
      | assumption
      | refine Keeps.ite ?_ ?_
      | refine State.after_keeps (sub_trans (by decide) hm) ?_
      | (refine Keeps.drives hm (by decide) ?_; assumption)
    | split
    | dsimp only

theorem State.busChops_keeps {a2 : _} (hm : 8196 ||| m = m) (h : Keeps m r s) :
    Keeps m r (State.busChops s a2) := by
  unfold State.busChops
  repeat' first
    | with_reducible first
      | assumption
      | refine Keeps.ite ?_ ?_
      | refine State.setChopper_keeps (sub_trans (by decide) hm) ?_
      | (refine Keeps.drives hm (by decide) ?_; assumption)
    | split
    | dsimp only

theorem execBusSample_keeps {a1 : _} (hm : 303830 ||| m = m) (h : Keeps m r s) :
    KeepsO m r (execBusSample a1 s) := by
  unfold execBusSample
  try lift_lets
  repeat (intro x; first
    | (have hx : Keeps m r x := by
        dsimp only [x]
        repeat' first
          | with_reducible first
            | assumption
            | refine KeepsO.next ?_
            | exact KeepsO.fault
            | refine KeepsO.ite ?_ ?_
            | refine State.busChops_keeps (sub_trans (by decide) hm) ?_
            | refine State.setn_keeps (sub_trans (by decide) hm) ?_
            | refine State.driveCheck_keeps (sub_trans (by decide) hm) ?_
            | refine Keeps.each ?_ ?_
          | (intro t x ht)
          | (intro t ht)
          | (intro t y z ht)
          | (intro ht)
          | split
          | dsimp only
       clear_value x)
    | clear_value x)
  repeat' first
    | with_reducible first
      | assumption
      | refine KeepsO.next ?_
      | exact KeepsO.fault
      | refine KeepsO.ite ?_ ?_
      | refine State.busChops_keeps (sub_trans (by decide) hm) ?_
      | refine State.setn_keeps (sub_trans (by decide) hm) ?_
      | refine State.driveCheck_keeps (sub_trans (by decide) hm) ?_
      | refine Keeps.each ?_ ?_
    | (intro t x ht)
    | (intro t ht)
    | (intro t y z ht)
    | (intro ht)
    | split
    | dsimp only

theorem State.chopperFault_keeps {a2 : _} (hm : 262162 ||| m = m) (h : Keeps m r s) :
    Keeps m r (State.chopperFault s a2) := by
  unfold State.chopperFault
  repeat' first
    | with_reducible first
      | assumption
      | refine State.busEvent_keeps (sub_trans (by decide) hm) ?_
      | refine State.fault_keeps (sub_trans (by decide) hm) ?_
      | refine State.setb_keeps (sub_trans (by decide) hm) ?_
      | refine State.setn_keeps (sub_trans (by decide) hm) ?_
    | split
    | dsimp only

theorem State.chopperPassed_keeps  (hm : 18 ||| m = m) (h : Keeps m r s) :
    Keeps m r (State.chopperPassed s) := by
  unfold State.chopperPassed
  repeat' first
    | with_reducible first
      | assumption
      | refine State.busEvent_keeps (sub_trans (by decide) hm) ?_
      | refine State.setb_keeps (sub_trans (by decide) hm) ?_
      | refine State.setn_keeps (sub_trans (by decide) hm) ?_
    | split
    | dsimp only

theorem execChopperCheck_keeps {a1 : _} (hm : 270358 ||| m = m) (h : Keeps m r s) :
    KeepsO m r (execChopperCheck a1 s) := by
  unfold execChopperCheck
  try lift_lets
  repeat (intro x; first
    | (have hx : Keeps m r x := by
        dsimp only [x]
        repeat' first
          | with_reducible first
            | assumption
            | refine KeepsO.next ?_
            | exact KeepsO.fault
            | refine KeepsO.ite ?_ ?_
            | refine Keeps.ite ?_ ?_
            | refine State.disarm_keeps (sub_trans (by decide) hm) ?_
            | refine State.setChopper_keeps (sub_trans (by decide) hm) ?_
            | refine State.chopperFault_keeps (sub_trans (by decide) hm) ?_
            | refine State.chopperPassed_keeps (sub_trans (by decide) hm) ?_
            | (refine Keeps.drives hm (by decide) ?_; assumption)
          | split
          | dsimp only
       clear_value x)
    | clear_value x)
  repeat' first
    | with_reducible first
      | assumption
      | refine KeepsO.next ?_
      | exact KeepsO.fault
      | refine KeepsO.ite ?_ ?_
      | refine Keeps.ite ?_ ?_
      | refine State.disarm_keeps (sub_trans (by decide) hm) ?_
      | refine State.setChopper_keeps (sub_trans (by decide) hm) ?_
      | refine State.chopperFault_keeps (sub_trans (by decide) hm) ?_
      | refine State.chopperPassed_keeps (sub_trans (by decide) hm) ?_
      | (refine Keeps.drives hm (by decide) ?_; assumption)
    | split
    | dsimp only

theorem State.chopperTest_keeps  (hm : 8196 ||| m = m) (h : Keeps m r s) :
    Keeps m r (State.chopperTest s) := by
  unfold State.chopperTest
  repeat' first
    | with_reducible first
      | assumption
      | refine State.after_keeps (sub_trans (by decide) hm) ?_
      | refine State.setChopper_keeps (sub_trans (by decide) hm) ?_
      | (refine Keeps.drives hm (by decide) ?_; assumption)
    | split
    | dsimp only

theorem State.setBusSwitch_keeps {a2 : _} (hm : 18 ||| m = m) (h : Keeps m r s) :
    Keeps m r (State.setBusSwitch s a2) := by
  unfold State.setBusSwitch
  repeat' first
    | with_reducible first
      | assumption
      | refine Keeps.ite ?_ ?_
      | refine State.busEvent_keeps (sub_trans (by decide) hm) ?_
      | refine State.setb_keeps (sub_trans (by decide) hm) ?_
    | split
    | dsimp only

theorem execBusOvervoltageTrip_keeps  (hm : 270354 ||| m = m) (h : Keeps m r s) :
    KeepsO m r (execBusOvervoltageTrip s) := by
  unfold execBusOvervoltageTrip
  try lift_lets
  repeat (intro x; first
    | (have hx : Keeps m r x := by
        dsimp only [x]
        repeat' first
          | with_reducible first
            | assumption
            | refine KeepsO.next ?_
            | exact KeepsO.fault
            | refine KeepsO.ite ?_ ?_
            | refine State.setBusSwitch_keeps (sub_trans (by decide) hm) ?_
            | refine State.fault_keeps (sub_trans (by decide) hm) ?_
            | refine State.bump_keeps (sub_trans (by decide) hm) ?_
            | (refine Keeps.drives hm (by decide) ?_; assumption)
          | split
          | dsimp only
       clear_value x)
    | clear_value x)
  repeat' first
    | with_reducible first
      | assumption
      | refine KeepsO.next ?_
      | exact KeepsO.fault
      | refine KeepsO.ite ?_ ?_
      | refine State.setBusSwitch_keeps (sub_trans (by decide) hm) ?_
      | refine State.fault_keeps (sub_trans (by decide) hm) ?_
      | refine State.bump_keeps (sub_trans (by decide) hm) ?_
      | (refine Keeps.drives hm (by decide) ?_; assumption)
    | split
    | dsimp only

theorem State.closeBusSwitch_keeps {a2 : _} (hm : 18 ||| m = m) (h : Keeps m r s) :
    Keeps m r (State.closeBusSwitch s a2) := by
  unfold State.closeBusSwitch
  repeat' first
    | with_reducible first
      | assumption
      | refine Keeps.ite ?_ ?_
      | refine State.setBusSwitch_keeps (sub_trans (by decide) hm) ?_
    | split
    | dsimp only

/-! ## Loops -/

theorem State.hvEvent_keeps {a2 : _} {a3 : _} {a4 : _} {a5 : _} (hm : 16 ||| m = m) (h : Keeps m r s) :
    Keeps m r (State.hvEvent s a2 a3 a4 a5) := by
  unfold State.hvEvent
  repeat' first
    | with_reducible first
      | assumption
      | refine State.event_keeps (sub_trans (by decide) hm) ?_
    | split
    | dsimp only

theorem State.hvTo_keeps {a2 : _} {a3 : _} {a4 : _} (hm : 32790 ||| m = m) (h : Keeps m r s) :
    Keeps m r (State.hvTo s a2 a3 a4) := by
  unfold State.hvTo
  repeat' first
    | with_reducible first
      | assumption
      | refine Keeps.ite ?_ ?_
      | refine State.event_keeps (sub_trans (by decide) hm) ?_
      | refine State.setn_keeps (sub_trans (by decide) hm) ?_
      | refine State.setHv_keeps (sub_trans (by decide) hm) ?_
      | refine State.disarm_keeps (sub_trans (by decide) hm) ?_
      | refine State.stopSlot_keeps (sub_trans (by decide) hm) ?_
    | split
    | dsimp only

theorem State.hvAim_keeps {a2 : _} {a3 : _} (hm : 2 ||| m = m) (h : Keeps m r s) :
    Keeps m r (State.hvAim s a2 a3) := by
  unfold State.hvAim
  repeat' first
    | with_reducible first
      | assumption
      | refine State.setTarget_keeps (sub_trans (by decide) hm) ?_
    | split
    | dsimp only

theorem State.hvOn_keeps {a2 : _} {a3 : _} {a4 : _} {a5 : _} {a6 : _} (hm : 32790 ||| m = m) (h : Keeps m r s) :
    Keeps m r (State.hvOn s a2 a3 a4 a5 a6) := by
  unfold State.hvOn
  repeat' first
    | with_reducible first
      | assumption
      | refine Keeps.ite ?_ ?_
      | refine State.hvEvent_keeps (sub_trans (by decide) hm) ?_
      | refine State.hvTo_keeps (sub_trans (by decide) hm) ?_
      | refine State.startSlot_keeps (sub_trans (by decide) hm) ?_
      | refine State.hvAim_keeps (sub_trans (by decide) hm) ?_
      | refine State.setHv_keeps (sub_trans (by decide) hm) ?_
      | refine State.disarm_keeps (sub_trans (by decide) hm) ?_
      | refine State.setLoopSlot_keeps (sub_trans (by decide) hm) ?_
      | refine State.after_keeps (sub_trans (by decide) hm) ?_
    | split
    | dsimp only

theorem State.hvOff_keeps {a2 : _} {a3 : _} {a4 : _} (hm : 32790 ||| m = m) (h : Keeps m r s) :
    Keeps m r (State.hvOff s a2 a3 a4) := by
  unfold State.hvOff
  repeat' first
    | with_reducible first
      | assumption
      | refine Keeps.ite ?_ ?_
      | refine State.hvTo_keeps (sub_trans (by decide) hm) ?_
      | refine State.hvEvent_keeps (sub_trans (by decide) hm) ?_
    | split
    | dsimp only

theorem State.hostSwitch_keeps {a2 : _} {a3 : _} (hm : 32790 ||| m = m) (h : Keeps m r s) :
    Keeps m r (State.hostSwitch s a2 a3) := by
  unfold State.hostSwitch
  repeat' first
    | with_reducible first
      | assumption
      | refine Keeps.ite ?_ ?_
      | refine State.setHv_keeps (sub_trans (by decide) hm) ?_
      | refine State.hvOn_keeps (sub_trans (by decide) hm) ?_
      | refine State.hvOff_keeps (sub_trans (by decide) hm) ?_
    | split
    | dsimp only

theorem State.hostSwitchStands_keeps {a2 : _} (hm : 32790 ||| m = m) (h : Keeps m r s) :
    Keeps m r (State.hostSwitchStands s a2) := by
  unfold State.hostSwitchStands
  repeat' first
    | with_reducible first
      | assumption
      | refine Keeps.ite ?_ ?_
      | refine State.hostSwitch_keeps (sub_trans (by decide) hm) ?_
    | split
    | dsimp only

theorem execHvOn_keeps {a1 : _} (hm : 32798 ||| m = m) (h : Keeps m r s) :
    KeepsO m r (execHvOn a1 s) := by
  unfold execHvOn
  try lift_lets
  repeat (intro x; first
    | (have hx : Keeps m r x := by
        dsimp only [x]
        repeat' first
          | with_reducible first
            | assumption
            | refine KeepsO.next ?_
            | exact KeepsO.fault
            | refine KeepsO.ite ?_ ?_
            | refine State.fireSlot_keeps (sub_trans (by decide) hm) ?_ ?_
            | refine State.hostSwitchStands_keeps (sub_trans (by decide) hm) ?_
            | refine State.hvOn_keeps (sub_trans (by decide) hm) ?_
          | (intro t x ht)
          | (intro t ht)
          | (intro t y z ht)
          | (intro ht)
          | split
          | dsimp only
       clear_value x)
    | clear_value x)
  repeat' first
    | with_reducible first
      | assumption
      | refine KeepsO.next ?_
      | exact KeepsO.fault
      | refine KeepsO.ite ?_ ?_
      | refine State.fireSlot_keeps (sub_trans (by decide) hm) ?_ ?_
      | refine State.hostSwitchStands_keeps (sub_trans (by decide) hm) ?_
      | refine State.hvOn_keeps (sub_trans (by decide) hm) ?_
    | (intro t x ht)
    | (intro t ht)
    | (intro t y z ht)
    | (intro ht)
    | split
    | dsimp only

theorem execHvRamp_keeps {a1 : _} (hm : 32798 ||| m = m) (h : Keeps m r s) :
    KeepsO m r (execHvRamp a1 s) := by
  unfold execHvRamp
  try lift_lets
  repeat (intro x; first
    | (have hx : Keeps m r x := by
        dsimp only [x]
        repeat' first
          | with_reducible first
            | assumption
            | refine KeepsO.next ?_
            | exact KeepsO.fault
            | refine KeepsO.ite ?_ ?_
            | refine State.fireSlot_keeps (sub_trans (by decide) hm) ?_ ?_
            | refine State.hostSwitchStands_keeps (sub_trans (by decide) hm) ?_
            | refine State.hvOn_keeps (sub_trans (by decide) hm) ?_
          | (intro t x ht)
          | (intro t ht)
          | (intro t y z ht)
          | (intro ht)
          | split
          | dsimp only
       clear_value x)
    | clear_value x)
  repeat' first
    | with_reducible first
      | assumption
      | refine KeepsO.next ?_
      | exact KeepsO.fault
      | refine KeepsO.ite ?_ ?_
      | refine State.fireSlot_keeps (sub_trans (by decide) hm) ?_ ?_
      | refine State.hostSwitchStands_keeps (sub_trans (by decide) hm) ?_
      | refine State.hvOn_keeps (sub_trans (by decide) hm) ?_
    | (intro t x ht)
    | (intro t ht)
    | (intro t y z ht)
    | (intro ht)
    | split
    | dsimp only

theorem execHvOff_keeps {a1 : _} (hm : 32798 ||| m = m) (h : Keeps m r s) :
    KeepsO m r (execHvOff a1 s) := by
  unfold execHvOff
  try lift_lets
  repeat (intro x; first
    | (have hx : Keeps m r x := by
        dsimp only [x]
        repeat' first
          | with_reducible first
            | assumption
            | refine KeepsO.next ?_
            | exact KeepsO.fault
            | refine KeepsO.ite ?_ ?_
            | refine State.fireSlot_keeps (sub_trans (by decide) hm) ?_ ?_
            | refine State.hostSwitchStands_keeps (sub_trans (by decide) hm) ?_
            | refine State.hvOff_keeps (sub_trans (by decide) hm) ?_
          | (intro t x ht)
          | (intro t ht)
          | (intro t y z ht)
          | (intro ht)
          | split
          | dsimp only
       clear_value x)
    | clear_value x)
  repeat' first
    | with_reducible first
      | assumption
      | refine KeepsO.next ?_
      | exact KeepsO.fault
      | refine KeepsO.ite ?_ ?_
      | refine State.fireSlot_keeps (sub_trans (by decide) hm) ?_ ?_
      | refine State.hostSwitchStands_keeps (sub_trans (by decide) hm) ?_
      | refine State.hvOff_keeps (sub_trans (by decide) hm) ?_
    | (intro t x ht)
    | (intro t ht)
    | (intro t y z ht)
    | (intro ht)
    | split
    | dsimp only

theorem State.hvFails_keeps {a2 : _} {a3 : _} (hm : 294934 ||| m = m) (h : Keeps m r s) :
    Keeps m r (State.hvFails s a2 a3) := by
  unfold State.hvFails
  repeat' first
    | with_reducible first
      | assumption
      | refine State.hvTo_keeps (sub_trans (by decide) hm) ?_
      | refine State.fault_keeps (sub_trans (by decide) hm) ?_
    | split
    | dsimp only

theorem State.hvEvaluated_keeps {a2 : _} {a3 : _} (hm : 294934 ||| m = m) (h : Keeps m r s) :
    Keeps m r (State.hvEvaluated s a2 a3) := by
  unfold State.hvEvaluated
  repeat' first
    | with_reducible first
      | assumption
      | refine Keeps.ite ?_ ?_
      | refine State.setHv_keeps (sub_trans (by decide) hm) ?_
      | refine State.setn_keeps (sub_trans (by decide) hm) ?_
      | refine State.hvFails_keeps (sub_trans (by decide) hm) ?_
      | refine State.hvEvent_keeps (sub_trans (by decide) hm) ?_
      | refine State.hvAim_keeps (sub_trans (by decide) hm) ?_
    | split
    | dsimp only

theorem execHvOpenLoad_keeps {a1 : _} (hm : 294934 ||| m = m) (h : Keeps m r s) :
    KeepsO m r (execHvOpenLoad a1 s) := by
  unfold execHvOpenLoad
  repeat' first
    | with_reducible first
      | assumption
      | refine KeepsO.next ?_
      | exact KeepsO.fault
      | refine KeepsO.ite ?_ ?_
      | refine Keeps.ite ?_ ?_
      | refine State.hvFails_keeps (sub_trans (by decide) hm) ?_
    | split
    | dsimp only

theorem execHvRampComplete_keeps {a1 : _} (hm : 32790 ||| m = m) (h : Keeps m r s) :
    KeepsO m r (execHvRampComplete a1 s) := by
  unfold execHvRampComplete
  repeat' first
    | with_reducible first
      | assumption
      | refine KeepsO.next ?_
      | exact KeepsO.fault
      | refine KeepsO.ite ?_ ?_
      | refine Keeps.ite ?_ ?_
      | refine State.disarm_keeps (sub_trans (by decide) hm) ?_
      | refine State.hvEvent_keeps (sub_trans (by decide) hm) ?_
      | refine State.setLoopSlot_keeps (sub_trans (by decide) hm) ?_
      | refine State.setn_keeps (sub_trans (by decide) hm) ?_
    | split
    | dsimp only

theorem State.hvEnable_keeps {a2 : _} {a3 : _} (hm : 32790 ||| m = m) (h : Keeps m r s) :
    Keeps m r (State.hvEnable s a2 a3) := by
  unfold State.hvEnable
  repeat' first
    | with_reducible first
      | assumption
      | refine Keeps.ite ?_ ?_
      | refine State.hvTo_keeps (sub_trans (by decide) hm) ?_
    | split
    | dsimp only

theorem State.hvHold_keeps {a2 : _} (hm : 32790 ||| m = m) (h : Keeps m r s) :
    Keeps m r (State.hvHold s a2) := by
  unfold State.hvHold
  repeat' first
    | with_reducible first
      | assumption
      | refine Keeps.ite ?_ ?_
      | refine State.setb_keeps (sub_trans (by decide) hm) ?_
      | refine State.hvTo_keeps (sub_trans (by decide) hm) ?_
    | split
    | dsimp only

theorem State.hvRelease_keeps {a2 : _} (hm : 32790 ||| m = m) (h : Keeps m r s) :
    Keeps m r (State.hvRelease s a2) := by
  unfold State.hvRelease
  repeat' first
    | with_reducible first
      | assumption
      | refine Keeps.ite ?_ ?_
      | refine State.hvTo_keeps (sub_trans (by decide) hm) ?_
    | split
    | dsimp only

theorem State.refreshInBand_keeps {a2 : _} (hm : 18 ||| m = m) (h : Keeps m r s) :
    Keeps m r (State.refreshInBand s a2) := by
  unfold State.refreshInBand
  repeat' first
    | with_reducible first
      | assumption
      | refine Keeps.ite ?_ ?_
      | refine State.event_keeps (sub_trans (by decide) hm) ?_
      | refine State.setb_keeps (sub_trans (by decide) hm) ?_
    | split
    | dsimp only

theorem State.zoneTo_keeps {a2 : _} {a3 : _} {a4 : _} (hm : 32786 ||| m = m) (h : Keeps m r s) :
    Keeps m r (State.zoneTo s a2 a3 a4) := by
  unfold State.zoneTo
  repeat' first
    | with_reducible first
      | assumption
      | refine Keeps.ite ?_ ?_
      | refine State.event_keeps (sub_trans (by decide) hm) ?_
      | refine State.setn_keeps (sub_trans (by decide) hm) ?_
      | refine State.refreshInBand_keeps (sub_trans (by decide) hm) ?_
      | refine State.setZone_keeps (sub_trans (by decide) hm) ?_
      | refine State.stopSlot_keeps (sub_trans (by decide) hm) ?_
    | split
    | dsimp only

theorem State.startZoneSlot_keeps {a2 : _} (hm : 32786 ||| m = m) (h : Keeps m r s) :
    Keeps m r (State.startZoneSlot s a2) := by
  unfold State.startZoneSlot
  repeat' first
    | with_reducible first
      | assumption
      | refine State.startSlot_keeps (sub_trans (by decide) hm) ?_
      | refine State.setZone_keeps (sub_trans (by decide) hm) ?_
    | split
    | dsimp only

theorem State.zoneStarts_keeps {a2 : _} (hm : 32786 ||| m = m) (h : Keeps m r s) :
    Keeps m r (State.zoneStarts s a2) := by
  unfold State.zoneStarts
  repeat' first
    | with_reducible first
      | assumption
      | refine Keeps.ite ?_ ?_
      | refine State.zoneTo_keeps (sub_trans (by decide) hm) ?_
      | refine State.setZone_keeps (sub_trans (by decide) hm) ?_
      | refine State.startZoneSlot_keeps (sub_trans (by decide) hm) ?_
    | split
    | dsimp only

theorem State.zoneBroken_keeps {a2 : _} (hm : 294930 ||| m = m) (h : Keeps m r s) :
    Keeps m r (State.zoneBroken s a2) := by
  unfold State.zoneBroken
  repeat' first
    | with_reducible first
      | assumption
      | refine State.zoneTo_keeps (sub_trans (by decide) hm) ?_
      | refine State.fault_keeps (sub_trans (by decide) hm) ?_
    | split
    | dsimp only

theorem State.refreshSensor_keeps {a2 : _} {a3 : _} (hm : 294930 ||| m = m) (h : Keeps m r s) :
    Keeps m r (State.refreshSensor s a2 a3) := by
  unfold State.refreshSensor
  repeat' first
    | with_reducible first
      | assumption
      | refine Keeps.ite ?_ ?_
      | refine State.setn_keeps (sub_trans (by decide) hm) ?_
      | refine State.event_keeps (sub_trans (by decide) hm) ?_
      | refine State.bumpless_keeps (sub_trans (by decide) hm) ?_
      | refine State.seti_keeps (sub_trans (by decide) hm) ?_
      | refine State.zoneBroken_keeps (sub_trans (by decide) hm) ?_
      | refine State.refreshInBand_keeps (sub_trans (by decide) hm) ?_
    | split
    | dsimp only

theorem State.zoneCheck_keeps {a2 : _} (hm : 294930 ||| m = m) (h : Keeps m r s) :
    Keeps m r (State.zoneCheck s a2) := by
  unfold State.zoneCheck
  repeat' first
    | with_reducible first
      | assumption
      | refine Keeps.ite ?_ ?_
      | refine State.zoneStarts_keeps (sub_trans (by decide) hm) ?_
      | refine State.zoneTo_keeps (sub_trans (by decide) hm) ?_
      | refine State.fault_keeps (sub_trans (by decide) hm) ?_
    | split
    | dsimp only

theorem State.zoneAdvance_keeps {a2 : _} (hm : 32786 ||| m = m) (h : Keeps m r s) :
    Keeps m r (State.zoneAdvance s a2) := by
  unfold State.zoneAdvance
  repeat' first
    | with_reducible first
      | assumption
      | refine Keeps.ite ?_ ?_
      | refine State.startZoneSlot_keeps (sub_trans (by decide) hm) ?_
      | refine State.setLoopSlot_keeps (sub_trans (by decide) hm) ?_
      | refine State.zoneTo_keeps (sub_trans (by decide) hm) ?_
    | split
    | dsimp only

theorem State.refreshZones_keeps {a2 : _} (hm : 294930 ||| m = m) (h : Keeps m r s) :
    Keeps m r (State.refreshZones s a2) := by
  unfold State.refreshZones
  try lift_lets
  repeat (intro x; first
    | (have hx : Keeps m r x := by
        dsimp only [x]
        repeat' first
          | with_reducible first
            | assumption
            | refine Keeps.ite ?_ ?_
            | refine State.zoneAdvance_keeps (sub_trans (by decide) hm) ?_
            | refine State.zoneCheck_keeps (sub_trans (by decide) hm) ?_
            | refine State.refreshSensor_keeps (sub_trans (by decide) hm) ?_
            | refine Keeps.each ?_ ?_
          | (intro t x ht)
          | (intro t ht)
          | (intro t y z ht)
          | (intro ht)
          | split
          | dsimp only
       clear_value x)
    | clear_value x)
  repeat' first
    | with_reducible first
      | assumption
      | refine Keeps.ite ?_ ?_
      | refine State.zoneAdvance_keeps (sub_trans (by decide) hm) ?_
      | refine State.zoneCheck_keeps (sub_trans (by decide) hm) ?_
      | refine State.refreshSensor_keeps (sub_trans (by decide) hm) ?_
      | refine Keeps.each ?_ ?_
    | (intro t x ht)
    | (intro t ht)
    | (intro t y z ht)
    | (intro ht)
    | split
    | dsimp only

theorem State.zonesRead_keeps {a2 : _} (hm : 294930 ||| m = m) (h : Keeps m r s) :
    Keeps m r (State.zonesRead s a2) := by
  unfold State.zonesRead
  try lift_lets
  repeat (intro x; first
    | (have hx : Keeps m r x := by
        dsimp only [x]
        repeat' first
          | with_reducible first
            | assumption
            | refine Keeps.ite ?_ ?_
            | refine State.zoneCheck_keeps (sub_trans (by decide) hm) ?_
            | refine State.refreshSensor_keeps (sub_trans (by decide) hm) ?_
            | refine Keeps.each ?_ ?_
          | (intro t x ht)
          | (intro t ht)
          | (intro t y z ht)
          | (intro ht)
          | split
          | dsimp only
       clear_value x)
    | clear_value x)
  repeat' first
    | with_reducible first
      | assumption
      | refine Keeps.ite ?_ ?_
      | refine State.zoneCheck_keeps (sub_trans (by decide) hm) ?_
      | refine State.refreshSensor_keeps (sub_trans (by decide) hm) ?_
      | refine Keeps.each ?_ ?_
    | (intro t x ht)
    | (intro t ht)
    | (intro t y z ht)
    | (intro ht)
    | split
    | dsimp only

theorem State.decideHalfCycle_keeps {a2 : _} {a3 : _} (hm : 32770 ||| m = m) (h : Keeps m r s) :
    Keeps m r (State.decideHalfCycle s a2 a3) := by
  unfold State.decideHalfCycle
  repeat' first
    | with_reducible first
      | assumption
      | refine Keeps.ite ?_ ?_
      | refine State.setZone_keeps (sub_trans (by decide) hm) ?_
      | refine State.setn_keeps (sub_trans (by decide) hm) ?_
      | refine State.bump_keeps (sub_trans (by decide) hm) ?_
    | split
    | dsimp only

theorem execKettleGateEdge_keeps {a1 : _} (hm : 32786 ||| m = m) (h : Keeps m r s) :
    KeepsO m r (execKettleGateEdge a1 s) := by
  unfold execKettleGateEdge
  repeat' first
    | with_reducible first
      | assumption
      | refine KeepsO.next ?_
      | exact KeepsO.fault
      | refine KeepsO.ite ?_ ?_
      | refine Keeps.ite ?_ ?_
      | refine State.zoneAdvance_keeps (sub_trans (by decide) hm) ?_
      | refine State.setZone_keeps (sub_trans (by decide) hm) ?_
    | split
    | dsimp only

theorem execKettlePhaseFire_keeps {a1 : _} (hm : 32786 ||| m = m) (h : Keeps m r s) :
    KeepsO m r (execKettlePhaseFire a1 s) := by
  unfold execKettlePhaseFire
  repeat' first
    | with_reducible first
      | assumption
      | refine KeepsO.next ?_
      | exact KeepsO.fault
      | refine KeepsO.ite ?_ ?_
      | refine Keeps.ite ?_ ?_
      | refine State.zoneAdvance_keeps (sub_trans (by decide) hm) ?_
      | refine State.setZone_keeps (sub_trans (by decide) hm) ?_
    | split
    | dsimp only

theorem State.zoneEnable_keeps {a2 : _} {a3 : _} (hm : 294930 ||| m = m) (h : Keeps m r s) :
    Keeps m r (State.zoneEnable s a2 a3) := by
  unfold State.zoneEnable
  repeat' first
    | with_reducible first
      | assumption
      | refine Keeps.ite ?_ ?_
      | refine State.zoneCheck_keeps (sub_trans (by decide) hm) ?_
      | refine State.refreshSensor_keeps (sub_trans (by decide) hm) ?_
      | refine State.zoneTo_keeps (sub_trans (by decide) hm) ?_
    | split
    | dsimp only

theorem State.zoneSafe_keeps {a2 : _} (hm : 32786 ||| m = m) (h : Keeps m r s) :
    Keeps m r (State.zoneSafe s a2) := by
  unfold State.zoneSafe
  repeat' first
    | with_reducible first
      | assumption
      | refine Keeps.ite ?_ ?_
      | refine State.setb_keeps (sub_trans (by decide) hm) ?_
      | refine State.zoneTo_keeps (sub_trans (by decide) hm) ?_
    | split
    | dsimp only

theorem State.zoneRelease_keeps {a2 : _} (hm : 32786 ||| m = m) (h : Keeps m r s) :
    Keeps m r (State.zoneRelease s a2) := by
  unfold State.zoneRelease
  repeat' first
    | with_reducible first
      | assumption
      | refine Keeps.ite ?_ ?_
      | refine State.zoneTo_keeps (sub_trans (by decide) hm) ?_
    | split
    | dsimp only

theorem execMainsZeroCrossing_keeps {a1 : _} (hm : 294938 ||| m = m) (h : Keeps m r s) :
    KeepsO m r (execMainsZeroCrossing a1 s) := by
  unfold execMainsZeroCrossing
  repeat' first
    | with_reducible first
      | assumption
      | refine KeepsO.next ?_
      | exact KeepsO.fault
      | refine KeepsO.ite ?_ ?_
      | refine State.refreshZones_keeps (sub_trans (by decide) hm) ?_
      | refine State.mainsCrossing_keeps (sub_trans (by decide) hm) ?_
    | split
    | dsimp only

theorem execMainsCrossingMissing_keeps  (hm : 294938 ||| m = m) (h : Keeps m r s) :
    KeepsO m r (execMainsCrossingMissing s) := by
  unfold execMainsCrossingMissing
  repeat' first
    | with_reducible first
      | assumption
      | refine KeepsO.next ?_
      | exact KeepsO.fault
      | refine KeepsO.ite ?_ ?_
      | refine State.refreshZones_keeps (sub_trans (by decide) hm) ?_
      | refine State.crossingMissing_keeps (sub_trans (by decide) hm) ?_
    | split
    | dsimp only

theorem execMainsHoldoverExpired_keeps  (hm : 294938 ||| m = m) (h : Keeps m r s) :
    KeepsO m r (execMainsHoldoverExpired s) := by
  unfold execMainsHoldoverExpired
  repeat' first
    | with_reducible first
      | assumption
      | refine KeepsO.next ?_
      | exact KeepsO.fault
      | refine KeepsO.ite ?_ ?_
      | refine State.refreshZones_keeps (sub_trans (by decide) hm) ?_
      | refine State.holdoverExpired_keeps (sub_trans (by decide) hm) ?_
    | split
    | dsimp only

theorem State.readPin_keeps {a2 : _} {a3 : _} (hm : 8192 ||| m = m) (h : Keeps m r s) :
    Keeps m r (State.readPin s a2 a3) := by
  unfold State.readPin
  repeat' first
    | with_reducible first
      | assumption
      | refine Keeps.ite ?_ ?_
      | refine State.setDrive_keeps (sub_trans (by decide) hm) ?_
    | split
    | dsimp only

theorem State.idleTrigger_keeps {a2 : _} {a3 : _} (hm : 303830 ||| m = m) (h : Keeps m r s) :
    Keeps m r (State.idleTrigger s a2 a3) := by
  unfold State.idleTrigger
  repeat' first
    | with_reducible first
      | assumption
      | refine Keeps.ite ?_ ?_
      | refine State.driveCheck_keeps (sub_trans (by decide) hm) ?_
      | refine State.readPin_keeps (sub_trans (by decide) hm) ?_
      | refine State.setLoopSlot_keeps (sub_trans (by decide) hm) ?_
    | split
    | dsimp only

theorem State.driveTrigger_keeps {a2 : _} {a3 : _} {a4 : _} (hm : 303830 ||| m = m) (h : Keeps m r s) :
    Keeps m r (State.driveTrigger s a2 a3 a4) := by
  unfold State.driveTrigger
  repeat' first
    | with_reducible first
      | assumption
      | refine State.readPin_keeps (sub_trans (by decide) hm) ?_
      | refine State.driveCheck_keeps (sub_trans (by decide) hm) ?_
      | refine State.setTarget_keeps (sub_trans (by decide) hm) ?_
    | split
    | dsimp only

theorem State.holdCheck_keeps {a2 : _} (hm : 32786 ||| m = m) (h : Keeps m r s) :
    Keeps m r (State.holdCheck s a2) := by
  unfold State.holdCheck
  repeat' first
    | with_reducible first
      | assumption
      | refine Keeps.ite ?_ ?_
      | refine State.setSlotState_keeps (sub_trans (by decide) hm) ?_
      | refine State.setLoopSlot_keeps (sub_trans (by decide) hm) ?_
      | refine State.bumpless_keeps (sub_trans (by decide) hm) ?_
    | split
    | dsimp only

theorem State.joinQueue_keeps {a2 : _} (hm : 32768 ||| m = m) (h : Keeps m r s) :
    Keeps m r (State.joinQueue s a2) := by
  unfold State.joinQueue
  try lift_lets
  repeat (intro x; first
    | (have hx : Keeps m r x := by
        dsimp only [x]
        repeat' first
          | with_reducible first
            | assumption
            | refine State.setLoopSlot_keeps (sub_trans (by decide) hm) ?_
            | (refine Keeps.loops hm (by decide) ?_; assumption)
          | (intro t x ht)
          | (intro t ht)
          | (intro t y z ht)
          | (intro ht)
          | split
          | dsimp only
       clear_value x)
    | clear_value x)
  repeat' first
    | with_reducible first
      | assumption
      | refine State.setLoopSlot_keeps (sub_trans (by decide) hm) ?_
      | (refine Keeps.loops hm (by decide) ?_; assumption)
    | (intro t x ht)
    | (intro t ht)
    | (intro t y z ht)
    | (intro ht)
    | split
    | dsimp only

theorem State.triggered_keeps {k p f : Nat} (hm : 303830 ||| m = m) (h : Keeps m r s) :
    Keeps m r (match s.slotDrive k with
      | some c => s.driveTrigger k c p
      | none => if 0x200 < s.target k ∧ s.target k < 0x300 then s.setn (hk (s.target k - 0x200) 6) (min f 4095) else s) := by
  split
  · exact State.driveTrigger_keeps (sub_trans (by decide) hm) h
  · split
    · exact State.setn_keeps (sub_trans (by decide) hm) h
    · exact h

theorem State.zoned_keeps {k : Nat} (hm : 303830 ||| m = m) (h : Keeps m r s) :
    Keeps m r (match s.target k with
      | 0x301 => s.zoneAdvance 1
      | 0x302 => s.zoneAdvance 2
      | 0x303 => s.zoneAdvance 3
      | _ => s) := by
  split
  · exact State.zoneAdvance_keeps (sub_trans (by decide) hm) h
  · exact State.zoneAdvance_keeps (sub_trans (by decide) hm) h
  · exact State.zoneAdvance_keeps (sub_trans (by decide) hm) h
  · exact h

theorem execLoopTrigger_keeps {k p f : Nat} (hm : 303830 ||| m = m) (h : Keeps m r s) :
    KeepsO m r (execLoopTrigger k p f s) := by
  have h0 := State.zoned_keeps (k := k) hm h
  unfold execLoopTrigger
  extract_lets s0 x s1 t s2 s3 y s4
  have h0 : Keeps m r s0 := h0
  split
  · have h1 : Keeps m r s1 := State.setLoopSlot_keeps (sub_trans (by decide) hm) h0
    have h2 : Keeps m r s2 := State.triggered_keeps hm h1
    have h3 : Keeps m r s3 := State.holdCheck_keeps (sub_trans (by decide) hm) (State.setReal_keeps (sub_trans (by decide) hm) h2)
    have h4 : Keeps m r s4 := State.setLoopSlot_keeps (sub_trans (by decide) hm) (State.bump_keeps (sub_trans (by decide) hm) h3)
    split
    · exact KeepsO.next h3
    · split
      · exact KeepsO.next (Keeps.ite (State.slotEvent_keeps (sub_trans (by decide) hm) h4) h4)
      · exact KeepsO.next (State.joinQueue_keeps (sub_trans (by decide) hm) h3)
  · exact KeepsO.next (Keeps.ite (State.idleTrigger_keeps (sub_trans (by decide) hm) h) h)

theorem State.slotActs_keeps {a2 : _} (hm : 294934 ||| m = m) (h : Keeps m r s) :
    Keeps m r (State.slotActs s a2) := by
  unfold State.slotActs
  repeat' first
    | with_reducible first
      | assumption
      | refine Keeps.ite ?_ ?_
      | refine State.hvEvaluated_keeps (sub_trans (by decide) hm) ?_
      | refine State.refreshInBand_keeps (sub_trans (by decide) hm) ?_
      | refine State.decideHalfCycle_keeps (sub_trans (by decide) hm) ?_
    | split
    | dsimp only

theorem execLoopEvaluation_keeps {a1 : _} (hm : 294934 ||| m = m) (h : Keeps m r s) :
    KeepsO m r (execLoopEvaluation a1 s) := by
  unfold execLoopEvaluation
  repeat' first
    | with_reducible first
      | assumption
      | refine KeepsO.next ?_
      | exact KeepsO.fault
      | refine KeepsO.ite ?_ ?_
      | refine Keeps.ite ?_ ?_
      | refine State.bump_keeps (sub_trans (by decide) hm) ?_
      | refine State.setLoopSlot_keeps (sub_trans (by decide) hm) ?_
      | refine State.slotActs_keeps (sub_trans (by decide) hm) ?_
      | refine State.manualLaw_keeps (sub_trans (by decide) hm) ?_
      | refine State.controlLaw_keeps (sub_trans (by decide) hm) ?_
      | (refine Keeps.loops hm (by decide) ?_; assumption)
    | split
    | dsimp only

theorem State.slotEnable_keeps {a2 : _} {a3 : _} (hm : 32786 ||| m = m) (h : Keeps m r s) :
    Keeps m r (State.slotEnable s a2 a3) := by
  unfold State.slotEnable
  repeat' first
    | with_reducible first
      | assumption
      | refine Keeps.ite ?_ ?_
      | refine State.markSlot_keeps (sub_trans (by decide) hm) ?_
      | refine State.setSlotState_keeps (sub_trans (by decide) hm) ?_
      | refine State.bumpless_keeps (sub_trans (by decide) hm) ?_
      | refine State.stopSlot_keeps (sub_trans (by decide) hm) ?_
    | split
    | dsimp only

theorem State.slotMode_keeps {a2 : _} {a3 : _} (hm : 32786 ||| m = m) (h : Keeps m r s) :
    Keeps m r (State.slotMode s a2 a3) := by
  unfold State.slotMode
  repeat' first
    | with_reducible first
      | assumption
      | refine State.bumpless_keeps (sub_trans (by decide) hm) ?_
      | refine State.setSlotState_keeps (sub_trans (by decide) hm) ?_
      | refine State.setLoopSlot_keeps (sub_trans (by decide) hm) ?_
    | split
    | dsimp only

theorem State.loopsDown_keeps  (hm : 32790 ||| m = m) (h : Keeps m r s) :
    Keeps m r (State.loopsDown s) := by
  unfold State.loopsDown
  try lift_lets
  repeat (intro x; first
    | (have hx : Keeps m r x := by
        dsimp only [x]
        repeat' first
          | with_reducible first
            | assumption
            | refine State.hvTo_keeps (sub_trans (by decide) hm) ?_
            | refine State.zoneTo_keeps (sub_trans (by decide) hm) ?_
            | refine State.stopSlot_keeps (sub_trans (by decide) hm) ?_
            | refine Keeps.each ?_ ?_
            | (refine Keeps.loops hm (by decide) ?_; assumption)
          | (intro t x ht)
          | (intro t ht)
          | (intro t y z ht)
          | (intro ht)
          | split
          | dsimp only
       clear_value x)
    | clear_value x)
  repeat' first
    | with_reducible first
      | assumption
      | refine State.hvTo_keeps (sub_trans (by decide) hm) ?_
      | refine State.zoneTo_keeps (sub_trans (by decide) hm) ?_
      | refine State.stopSlot_keeps (sub_trans (by decide) hm) ?_
      | refine Keeps.each ?_ ?_
      | (refine Keeps.loops hm (by decide) ?_; assumption)
    | (intro t x ht)
    | (intro t ht)
    | (intro t y z ht)
    | (intro ht)
    | split
    | dsimp only

end Sys2Proof.Machine
end

