-- ==== Sys2Proof/Laws/Keeps4.lean ====
section
/-! SUPPORT. What every operation of these files of the model keeps: Steppers, Measure, Crock, Twin, Domains. -/

namespace Sys2Proof.Machine

variable {m : Nat} {r s : State}

/-! ## Steppers -/

theorem State.moveEvent_keeps {a2 : _} {a3 : _} {a4 : _} {a5 : _} {a6 : _} (hm : 16 ||| m = m) (h : Keeps m r s) :
    Keeps m r (State.moveEvent s a2 a3 a4 a5 a6) := by
  unfold State.moveEvent
  repeat' first
    | with_reducible first
      | assumption
      | refine State.event_keeps (sub_trans (by decide) hm) ?_
    | split
    | dsimp only

theorem State.loadEvent_keeps {a2 : _} {a3 : _} (hm : 16 ||| m = m) (h : Keeps m r s) :
    Keeps m r (State.loadEvent s a2 a3) := by
  unfold State.loadEvent
  repeat' first
    | with_reducible first
      | assumption
      | refine State.event_keeps (sub_trans (by decide) hm) ?_
    | split
    | dsimp only

theorem State.homeEvent_keeps {a2 : _} {a3 : _} {a4 : _} (hm : 16 ||| m = m) (h : Keeps m r s) :
    Keeps m r (State.homeEvent s a2 a3 a4) := by
  unfold State.homeEvent
  repeat' first
    | with_reducible first
      | assumption
      | refine State.event_keeps (sub_trans (by decide) hm) ?_
    | split
    | dsimp only

theorem State.positionEvent_keeps {a2 : _} {a3 : _} {a4 : _} (hm : 16 ||| m = m) (h : Keeps m r s) :
    Keeps m r (State.positionEvent s a2 a3 a4) := by
  unfold State.positionEvent
  repeat' first
    | with_reducible first
      | assumption
      | refine State.event_keeps (sub_trans (by decide) hm) ?_
    | split
    | dsimp only

theorem State.loseValid_keeps {a2 : _} {a3 : _} (hm : 18 ||| m = m) (h : Keeps m r s) :
    Keeps m r (State.loseValid s a2 a3) := by
  unfold State.loseValid
  repeat' first
    | with_reducible first
      | assumption
      | refine Keeps.ite ?_ ?_
      | refine State.positionEvent_keeps (sub_trans (by decide) hm) ?_
      | refine State.setb_keeps (sub_trans (by decide) hm) ?_
    | split
    | dsimp only

theorem State.recount_keeps {a2 : _} {a3 : _} (hm : 16386 ||| m = m) (h : Keeps m r s) :
    Keeps m r (State.recount s a2 a3) := by
  unfold State.recount
  repeat' first
    | with_reducible first
      | assumption
      | refine State.setStepper_keeps (sub_trans (by decide) hm) ?_
      | refine State.seti_keeps (sub_trans (by decide) hm) ?_
    | split
    | dsimp only

theorem State.feedStepper_keeps {a2 : _} {a3 : _} {a4 : _} (hm : 26 ||| m = m) (h : Keeps m r s) :
    Keeps m r (State.feedStepper s a2 a3 a4) := by
  unfold State.feedStepper
  try lift_lets
  repeat (intro x; first
    | (have hx : Keeps m r x := by
        dsimp only [x]
        repeat' first
          | with_reducible first
            | assumption
            | refine Keeps.ite ?_ ?_
            | refine State.seti_keeps (sub_trans (by decide) hm) ?_
            | refine State.moveAxis_keeps (sub_trans (by decide) hm) ?_
            | refine Keeps.each ?_ ?_
          | (intro t x ht)
          | (intro t ht)
          | (intro t y z ht)
          | (intro ht)
          | split
          | dsimp only
       clear_value x)
    | clear_value x)
  repeat' first
    | with_reducible first
      | assumption
      | refine Keeps.ite ?_ ?_
      | refine State.seti_keeps (sub_trans (by decide) hm) ?_
      | refine State.moveAxis_keeps (sub_trans (by decide) hm) ?_
      | refine Keeps.each ?_ ?_
    | (intro t x ht)
    | (intro t ht)
    | (intro t y z ht)
    | (intro ht)
    | split
    | dsimp only

theorem State.axisAdvance_keeps {a2 : _} (hm : 16410 ||| m = m) (h : Keeps m r s) :
    Keeps m r (State.axisAdvance s a2) := by
  unfold State.axisAdvance
  repeat' first
    | with_reducible first
      | assumption
      | refine Keeps.ite ?_ ?_
      | refine State.feedStepper_keeps (sub_trans (by decide) hm) ?_
      | refine State.seti_keeps (sub_trans (by decide) hm) ?_
      | refine State.moveEvent_keeps (sub_trans (by decide) hm) ?_
      | refine State.setStepper_keeps (sub_trans (by decide) hm) ?_
    | split
    | dsimp only

theorem State.axisHalt_keeps {a2 : _} (hm : 16414 ||| m = m) (h : Keeps m r s) :
    Keeps m r (State.axisHalt s a2) := by
  unfold State.axisHalt
  repeat' first
    | with_reducible first
      | assumption
      | refine Keeps.ite ?_ ?_
      | refine State.axisAdvance_keeps (sub_trans (by decide) hm) ?_
      | refine State.feedStepper_keeps (sub_trans (by decide) hm) ?_
      | refine State.seti_keeps (sub_trans (by decide) hm) ?_
      | refine State.disarm_keeps (sub_trans (by decide) hm) ?_
      | refine State.setStepper_keeps (sub_trans (by decide) hm) ?_
    | split
    | dsimp only

theorem State.runPlan_keeps {a2 : _} {a3 : _} {a4 : _} {a5 : _} (hm : 16384 ||| m = m) (h : Keeps m r s) :
    Keeps m r (State.runPlan s a2 a3 a4 a5) := by
  unfold State.runPlan
  repeat' first
    | with_reducible first
      | assumption
      | refine State.setStepper_keeps (sub_trans (by decide) hm) ?_
    | split
    | dsimp only

theorem State.axisTo_keeps {a2 : _} {a3 : _} {a4 : _} (hm : 16402 ||| m = m) (h : Keeps m r s) :
    Keeps m r (State.axisTo s a2 a3 a4) := by
  unfold State.axisTo
  repeat' first
    | with_reducible first
      | assumption
      | refine Keeps.ite ?_ ?_
      | refine State.event_keeps (sub_trans (by decide) hm) ?_
      | refine State.setn_keeps (sub_trans (by decide) hm) ?_
      | refine State.setStepper_keeps (sub_trans (by decide) hm) ?_
    | split
    | dsimp only

theorem State.endSearch_keeps {a2 : _} {a3 : _} (hm : 2 ||| m = m) (h : Keeps m r s) :
    Keeps m r (State.endSearch s a2 a3) := by
  unfold State.endSearch
  repeat' first
    | with_reducible first
      | assumption
      | refine Keeps.ite ?_ ?_
      | refine State.setn_keeps (sub_trans (by decide) hm) ?_
    | split
    | dsimp only

theorem State.axisFault_keeps {a2 : _} {a3 : _} (hm : 16414 ||| m = m) (h : Keeps m r s) :
    Keeps m r (State.axisFault s a2 a3) := by
  unfold State.axisFault
  repeat' first
    | with_reducible first
      | assumption
      | refine State.axisTo_keeps (sub_trans (by decide) hm) ?_
      | refine State.setn_keeps (sub_trans (by decide) hm) ?_
      | refine State.endSearch_keeps (sub_trans (by decide) hm) ?_
      | refine State.axisHalt_keeps (sub_trans (by decide) hm) ?_
    | split
    | dsimp only

theorem State.homeFails_keeps {a2 : _} {a3 : _} (hm : 278558 ||| m = m) (h : Keeps m r s) :
    Keeps m r (State.homeFails s a2 a3) := by
  unfold State.homeFails
  repeat' first
    | with_reducible first
      | assumption
      | refine State.axisFault_keeps (sub_trans (by decide) hm) ?_
      | refine State.fault_keeps (sub_trans (by decide) hm) ?_
      | refine State.homeEvent_keeps (sub_trans (by decide) hm) ?_
      | refine State.axisAdvance_keeps (sub_trans (by decide) hm) ?_
    | split
    | dsimp only

theorem State.axisStands_keeps {a2 : _} {a3 : _} (hm : 16402 ||| m = m) (h : Keeps m r s) :
    Keeps m r (State.axisStands s a2 a3) := by
  unfold State.axisStands
  repeat' first
    | with_reducible first
      | assumption
      | refine Keeps.ite ?_ ?_
      | refine State.axisTo_keeps (sub_trans (by decide) hm) ?_
      | refine State.positionEvent_keeps (sub_trans (by decide) hm) ?_
      | refine State.setStepper_keeps (sub_trans (by decide) hm) ?_
    | split
    | dsimp only

theorem State.runMove_keeps {a2 : _} {a3 : _} {a4 : _} {a5 : _} (hm : 16402 ||| m = m) (h : Keeps m r s) :
    Keeps m r (State.runMove s a2 a3 a4 a5) := by
  unfold State.runMove
  repeat' first
    | with_reducible first
      | assumption
      | refine Keeps.ite ?_ ?_
      | refine State.setStepper_keeps (sub_trans (by decide) hm) ?_
      | refine State.moveEvent_keeps (sub_trans (by decide) hm) ?_
      | refine State.axisTo_keeps (sub_trans (by decide) hm) ?_
      | refine State.runPlan_keeps (sub_trans (by decide) hm) ?_
    | split
    | dsimp only

theorem State.energise_keeps {a2 : _} {a3 : _} {a4 : _} {a5 : _} {a6 : _} (hm : 16400 ||| m = m) (h : Keeps m r s) :
    Keeps m r (State.energise s a2 a3 a4 a5 a6) := by
  unfold State.energise
  repeat' first
    | with_reducible first
      | assumption
      | refine Keeps.ite ?_ ?_
      | refine State.setStepper_keeps (sub_trans (by decide) hm) ?_
      | refine State.positionEvent_keeps (sub_trans (by decide) hm) ?_
    | split
    | dsimp only

theorem State.startMove_keeps {a2 : _} {a3 : _} {a4 : _} {a5 : _} {a6 : _} (hm : 16402 ||| m = m) (h : Keeps m r s) :
    Keeps m r (State.startMove s a2 a3 a4 a5 a6) := by
  unfold State.startMove
  repeat' first
    | with_reducible first
      | assumption
      | refine Keeps.ite ?_ ?_
      | refine State.energise_keeps (sub_trans (by decide) hm) ?_
      | refine State.runMove_keeps (sub_trans (by decide) hm) ?_
    | split
    | dsimp only

theorem State.hostActs_keeps {a2 : _} {a3 : _} (hm : 16384 ||| m = m) (h : Keeps m r s) :
    Keeps m r (State.hostActs s a2 a3) := by
  unfold State.hostActs
  repeat' first
    | with_reducible first
      | assumption
      | refine State.setStepper_keeps (sub_trans (by decide) hm) ?_
    | split
    | dsimp only

theorem State.notStarted_keeps {a2 : _} {a3 : _} {a4 : _} {a5 : _} (hm : 262162 ||| m = m) (h : Keeps m r s) :
    Keeps m r (State.notStarted s a2 a3 a4 a5) := by
  unfold State.notStarted
  repeat' first
    | with_reducible first
      | assumption
      | refine Keeps.ite ?_ ?_
      | refine State.fault_keeps (sub_trans (by decide) hm) ?_
      | refine State.moveEvent_keeps (sub_trans (by decide) hm) ?_
    | split
    | dsimp only

theorem State.targetWritten_keeps {a2 : _} {a3 : _} {a4 : _} (hm : 16402 ||| m = m) (h : Keeps m r s) :
    Keeps m r (State.targetWritten s a2 a3 a4) := by
  unfold State.targetWritten
  repeat' first
    | with_reducible first
      | assumption
      | refine Keeps.ite ?_ ?_
      | refine State.startMove_keeps (sub_trans (by decide) hm) ?_
      | refine State.hostActs_keeps (sub_trans (by decide) hm) ?_
    | split
    | dsimp only

theorem State.stopAxis_keeps {a2 : _} {a3 : _} (hm : 16390 ||| m = m) (h : Keeps m r s) :
    Keeps m r (State.stopAxis s a2 a3) := by
  unfold State.stopAxis
  repeat' first
    | with_reducible first
      | assumption
      | refine Keeps.ite ?_ ?_
      | refine State.setStepper_keeps (sub_trans (by decide) hm) ?_
      | refine State.runPlan_keeps (sub_trans (by decide) hm) ?_
      | refine State.disarm_keeps (sub_trans (by decide) hm) ?_
      | refine State.endSearch_keeps (sub_trans (by decide) hm) ?_
    | split
    | dsimp only

theorem State.hostStands_keeps {a2 : _} (hm : 16406 ||| m = m) (h : Keeps m r s) :
    Keeps m r (State.hostStands s a2) := by
  unfold State.hostStands
  repeat' first
    | with_reducible first
      | assumption
      | refine Keeps.ite ?_ ?_
      | refine State.stopAxis_keeps (sub_trans (by decide) hm) ?_
      | refine State.startMove_keeps (sub_trans (by decide) hm) ?_
    | split
    | dsimp only

theorem execStepMove_keeps {a1 : _} (hm : 278558 ||| m = m) (h : Keeps m r s) :
    KeepsO m r (execStepMove a1 s) := by
  unfold execStepMove
  try lift_lets
  repeat (intro x; first
    | (have hx : Keeps m r x := by
        dsimp only [x]
        repeat' first
          | with_reducible first
            | assumption
            | refine KeepsO.next ?_
            | exact KeepsO.fault
            | refine KeepsO.ite ?_ ?_
            | refine Keeps.ite ?_ ?_
            | refine State.fireSlot_keeps (sub_trans (by decide) hm) ?_ ?_
            | refine State.notStarted_keeps (sub_trans (by decide) hm) ?_
            | refine State.hostStands_keeps (sub_trans (by decide) hm) ?_
            | refine State.startMove_keeps (sub_trans (by decide) hm) ?_
          | (intro t x ht)
          | (intro t ht)
          | (intro t y z ht)
          | (intro ht)
          | split
          | dsimp only
       clear_value x)
    | clear_value x)
  repeat' first
    | with_reducible first
      | assumption
      | refine KeepsO.next ?_
      | exact KeepsO.fault
      | refine KeepsO.ite ?_ ?_
      | refine Keeps.ite ?_ ?_
      | refine State.fireSlot_keeps (sub_trans (by decide) hm) ?_ ?_
      | refine State.notStarted_keeps (sub_trans (by decide) hm) ?_
      | refine State.hostStands_keeps (sub_trans (by decide) hm) ?_
      | refine State.startMove_keeps (sub_trans (by decide) hm) ?_
    | (intro t x ht)
    | (intro t ht)
    | (intro t y z ht)
    | (intro ht)
    | split
    | dsimp only

theorem State.presetAxis_keeps {a2 : _} {a3 : _} (hm : 16402 ||| m = m) (h : Keeps m r s) :
    Keeps m r (State.presetAxis s a2 a3) := by
  unfold State.presetAxis
  repeat' first
    | with_reducible first
      | assumption
      | refine State.positionEvent_keeps (sub_trans (by decide) hm) ?_
      | refine State.setb_keeps (sub_trans (by decide) hm) ?_
      | refine State.recount_keeps (sub_trans (by decide) hm) ?_
    | split
    | dsimp only

theorem State.searchLeg_keeps {a2 : _} {a3 : _} (hm : 16384 ||| m = m) (h : Keeps m r s) :
    Keeps m r (State.searchLeg s a2 a3) := by
  unfold State.searchLeg
  repeat' first
    | with_reducible first
      | assumption
      | refine State.setStepper_keeps (sub_trans (by decide) hm) ?_
      | refine State.runPlan_keeps (sub_trans (by decide) hm) ?_
    | split
    | dsimp only

theorem State.searchReverses_keeps {a2 : _} (hm : 16402 ||| m = m) (h : Keeps m r s) :
    Keeps m r (State.searchReverses s a2) := by
  unfold State.searchReverses
  repeat' first
    | with_reducible first
      | assumption
      | refine State.homeEvent_keeps (sub_trans (by decide) hm) ?_
      | refine State.setn_keeps (sub_trans (by decide) hm) ?_
      | refine State.runPlan_keeps (sub_trans (by decide) hm) ?_
      | refine State.setStepper_keeps (sub_trans (by decide) hm) ?_
    | split
    | dsimp only

theorem State.homeFound_keeps {a2 : _} (hm : 16406 ||| m = m) (h : Keeps m r s) :
    Keeps m r (State.homeFound s a2) := by
  unfold State.homeFound
  repeat' first
    | with_reducible first
      | assumption
      | refine State.homeEvent_keeps (sub_trans (by decide) hm) ?_
      | refine State.setn_keeps (sub_trans (by decide) hm) ?_
      | refine State.disarm_keeps (sub_trans (by decide) hm) ?_
      | refine State.runPlan_keeps (sub_trans (by decide) hm) ?_
    | split
    | dsimp only

theorem State.homeLevel_keeps {a2 : _} {a3 : _} (hm : 278558 ||| m = m) (h : Keeps m r s) :
    Keeps m r (State.homeLevel s a2 a3) := by
  unfold State.homeLevel
  repeat' first
    | with_reducible first
      | assumption
      | refine Keeps.ite ?_ ?_
      | refine State.setStepper_keeps (sub_trans (by decide) hm) ?_
      | refine State.homeFound_keeps (sub_trans (by decide) hm) ?_
      | refine State.after_keeps (sub_trans (by decide) hm) ?_
      | refine State.setn_keeps (sub_trans (by decide) hm) ?_
      | refine State.disarm_keeps (sub_trans (by decide) hm) ?_
      | refine State.homeFails_keeps (sub_trans (by decide) hm) ?_
    | split
    | dsimp only

theorem State.runHoming_keeps {a2 : _} (hm : 278558 ||| m = m) (h : Keeps m r s) :
    Keeps m r (State.runHoming s a2) := by
  unfold State.runHoming
  repeat' first
    | with_reducible first
      | assumption
      | refine Keeps.ite ?_ ?_
      | refine State.setStepper_keeps (sub_trans (by decide) hm) ?_
      | refine State.setn_keeps (sub_trans (by decide) hm) ?_
      | refine State.homeEvent_keeps (sub_trans (by decide) hm) ?_
      | refine State.axisTo_keeps (sub_trans (by decide) hm) ?_
      | refine State.searchLeg_keeps (sub_trans (by decide) hm) ?_
      | refine State.homeLevel_keeps (sub_trans (by decide) hm) ?_
    | split
    | dsimp only

theorem State.startHoming_keeps {a2 : _} (hm : 278558 ||| m = m) (h : Keeps m r s) :
    Keeps m r (State.startHoming s a2) := by
  unfold State.startHoming
  repeat' first
    | with_reducible first
      | assumption
      | refine Keeps.ite ?_ ?_
      | refine State.energise_keeps (sub_trans (by decide) hm) ?_
      | refine State.runHoming_keeps (sub_trans (by decide) hm) ?_
    | split
    | dsimp only

theorem execReEnergiseDone_keeps {a1 : _} (hm : 278558 ||| m = m) (h : Keeps m r s) :
    KeepsO m r (execReEnergiseDone a1 s) := by
  unfold execReEnergiseDone
  repeat' first
    | with_reducible first
      | assumption
      | refine KeepsO.next ?_
      | exact KeepsO.fault
      | refine KeepsO.ite ?_ ?_
      | refine Keeps.ite ?_ ?_
      | refine State.runHoming_keeps (sub_trans (by decide) hm) ?_
      | refine State.setStepper_keeps (sub_trans (by decide) hm) ?_
      | refine State.notStarted_keeps (sub_trans (by decide) hm) ?_
      | refine State.moveEvent_keeps (sub_trans (by decide) hm) ?_
      | refine State.runMove_keeps (sub_trans (by decide) hm) ?_
    | split
    | dsimp only

theorem execStandstillReleaseElapsed_keeps {a1 : _} (hm : 16402 ||| m = m) (h : Keeps m r s) :
    KeepsO m r (execStandstillReleaseElapsed a1 s) := by
  unfold execStandstillReleaseElapsed
  repeat' first
    | with_reducible first
      | assumption
      | refine KeepsO.next ?_
      | exact KeepsO.fault
      | refine KeepsO.ite ?_ ?_
      | refine Keeps.ite ?_ ?_
      | refine State.positionEvent_keeps (sub_trans (by decide) hm) ?_
      | refine State.axisTo_keeps (sub_trans (by decide) hm) ?_
    | split
    | dsimp only

theorem State.homeDone_keeps {a2 : _} (hm : 16402 ||| m = m) (h : Keeps m r s) :
    Keeps m r (State.homeDone s a2) := by
  unfold State.homeDone
  repeat' first
    | with_reducible first
      | assumption
      | refine State.setb_keeps (sub_trans (by decide) hm) ?_
      | refine State.recount_keeps (sub_trans (by decide) hm) ?_
      | refine State.axisStands_keeps (sub_trans (by decide) hm) ?_
      | refine State.homeEvent_keeps (sub_trans (by decide) hm) ?_
      | refine State.setn_keeps (sub_trans (by decide) hm) ?_
    | split
    | dsimp only

theorem execMoveComplete_keeps {a1 : _} (hm : 278558 ||| m = m) (h : Keeps m r s) :
    KeepsO m r (execMoveComplete a1 s) := by
  unfold execMoveComplete
  repeat' first
    | with_reducible first
      | assumption
      | refine KeepsO.next ?_
      | exact KeepsO.fault
      | refine KeepsO.ite ?_ ?_
      | refine Keeps.ite ?_ ?_
      | refine State.axisHalt_keeps (sub_trans (by decide) hm) ?_
      | refine State.homeDone_keeps (sub_trans (by decide) hm) ?_
      | refine State.searchLeg_keeps (sub_trans (by decide) hm) ?_
      | refine State.setStepper_keeps (sub_trans (by decide) hm) ?_
      | refine State.axisFault_keeps (sub_trans (by decide) hm) ?_
      | refine State.fault_keeps (sub_trans (by decide) hm) ?_
      | refine State.homeFails_keeps (sub_trans (by decide) hm) ?_
      | refine State.moveEvent_keeps (sub_trans (by decide) hm) ?_
      | refine State.bump_keeps (sub_trans (by decide) hm) ?_
      | refine State.axisStands_keeps (sub_trans (by decide) hm) ?_
    | split
    | dsimp only

theorem execLimitInputActive_keeps {a1 : _} {a2 : _} {a3 : _} (hm : 16410 ||| m = m) (h : Keeps m r s) :
    KeepsO m r (execLimitInputActive a1 a2 a3 s) := by
  unfold execLimitInputActive
  repeat' first
    | with_reducible first
      | assumption
      | refine KeepsO.next ?_
      | exact KeepsO.fault
      | refine KeepsO.ite ?_ ?_
      | refine Keeps.ite ?_ ?_
      | refine State.senseInput_keeps (sub_trans (by decide) hm) ?_
      | refine State.setStepper_keeps (sub_trans (by decide) hm) ?_
      | refine State.runPlan_keeps (sub_trans (by decide) hm) ?_
      | refine State.searchReverses_keeps (sub_trans (by decide) hm) ?_
    | split
    | dsimp only

theorem execHomeInputEdge_keeps {a1 : _} {a2 : _} (hm : 278558 ||| m = m) (h : Keeps m r s) :
    KeepsO m r (execHomeInputEdge a1 a2 s) := by
  unfold execHomeInputEdge
  repeat' first
    | with_reducible first
      | assumption
      | refine KeepsO.next ?_
      | exact KeepsO.fault
      | refine KeepsO.ite ?_ ?_
      | refine Keeps.ite ?_ ?_
      | refine State.senseInput_keeps (sub_trans (by decide) hm) ?_
      | refine State.homeLevel_keeps (sub_trans (by decide) hm) ?_
    | split
    | dsimp only

theorem execHomeDebounceElapsed_keeps {a1 : _} (hm : 16406 ||| m = m) (h : Keeps m r s) :
    KeepsO m r (execHomeDebounceElapsed a1 s) := by
  unfold execHomeDebounceElapsed
  repeat' first
    | with_reducible first
      | assumption
      | refine KeepsO.next ?_
      | exact KeepsO.fault
      | refine KeepsO.ite ?_ ?_
      | refine Keeps.ite ?_ ?_
      | refine State.homeFound_keeps (sub_trans (by decide) hm) ?_
    | split
    | dsimp only

theorem State.driveModeStep_keeps {a2 : _} (hm : 18 ||| m = m) (h : Keeps m r s) :
    Keeps m r (State.driveModeStep s a2) := by
  unfold State.driveModeStep
  repeat' first
    | with_reducible first
      | assumption
      | refine Keeps.ite ?_ ?_
      | refine State.event_keeps (sub_trans (by decide) hm) ?_
      | refine State.setn_keeps (sub_trans (by decide) hm) ?_
    | split
    | dsimp only

theorem State.coilStep_keeps {a2 : _} {a3 : _} (hm : 278558 ||| m = m) (h : Keeps m r s) :
    Keeps m r (State.coilStep s a2 a3) := by
  unfold State.coilStep
  repeat' first
    | with_reducible first
      | assumption
      | refine Keeps.ite ?_ ?_
      | refine State.setStepper_keeps (sub_trans (by decide) hm) ?_
      | refine State.loseValid_keeps (sub_trans (by decide) hm) ?_
      | refine State.axisFault_keeps (sub_trans (by decide) hm) ?_
      | refine State.fault_keeps (sub_trans (by decide) hm) ?_
    | split
    | dsimp only

theorem State.loadStep_keeps {a2 : _} {a3 : _} (hm : 278558 ||| m = m) (h : Keeps m r s) :
    Keeps m r (State.loadStep s a2 a3) := by
  unfold State.loadStep
  try lift_lets
  repeat (intro x; first
    | (have hx : Keeps m r x := by
        dsimp only [x]
        repeat' first
          | with_reducible first
            | assumption
            | refine Keeps.ite ?_ ?_
            | refine State.setStepper_keeps (sub_trans (by decide) hm) ?_
            | refine State.seti_keeps (sub_trans (by decide) hm) ?_
            | refine State.loadEvent_keeps (sub_trans (by decide) hm) ?_
            | refine State.bump_keeps (sub_trans (by decide) hm) ?_
            | refine State.fault_keeps (sub_trans (by decide) hm) ?_
            | refine State.axisFault_keeps (sub_trans (by decide) hm) ?_
            | refine State.loseValid_keeps (sub_trans (by decide) hm) ?_
            | refine Keeps.each ?_ ?_
          | (intro t x ht)
          | (intro t ht)
          | (intro t y z ht)
          | (intro ht)
          | split
          | dsimp only
       clear_value x)
    | clear_value x)
  repeat' first
    | with_reducible first
      | assumption
      | refine Keeps.ite ?_ ?_
      | refine State.setStepper_keeps (sub_trans (by decide) hm) ?_
      | refine State.seti_keeps (sub_trans (by decide) hm) ?_
      | refine State.loadEvent_keeps (sub_trans (by decide) hm) ?_
      | refine State.bump_keeps (sub_trans (by decide) hm) ?_
      | refine State.fault_keeps (sub_trans (by decide) hm) ?_
      | refine State.axisFault_keeps (sub_trans (by decide) hm) ?_
      | refine State.loseValid_keeps (sub_trans (by decide) hm) ?_
      | refine Keeps.each ?_ ?_
    | (intro t x ht)
    | (intro t ht)
    | (intro t y z ht)
    | (intro ht)
    | split
    | dsimp only

theorem State.distanceStep_keeps {a2 : _} (hm : 278558 ||| m = m) (h : Keeps m r s) :
    Keeps m r (State.distanceStep s a2) := by
  unfold State.distanceStep
  repeat' first
    | with_reducible first
      | assumption
      | refine Keeps.ite ?_ ?_
      | refine State.homeFails_keeps (sub_trans (by decide) hm) ?_
    | split
    | dsimp only

theorem State.whileMoving_keeps {n : Nat} {f : State → State} (hm : 0 ||| m = m) (h : Keeps m r s)
    (hf : ∀ t, Keeps m r t → Keeps m r (f t)) : Keeps m r (s.whileMoving n f) := by
  unfold State.whileMoving
  split
  · exact hf s h
  · exact h

theorem execLoadAngleEstimate_keeps {a1 : _} {a2 : _} {a3 : _} (hm : 278558 ||| m = m) (h : Keeps m r s) :
    KeepsO m r (execLoadAngleEstimate a1 a2 a3 s) := by
  unfold execLoadAngleEstimate
  try lift_lets
  repeat (intro x; first
    | (have hx : Keeps m r x := by
        dsimp only [x]
        repeat' first
          | with_reducible first
            | assumption
            | refine KeepsO.next ?_
            | exact KeepsO.fault
            | refine KeepsO.ite ?_ ?_
            | refine Keeps.ite ?_ ?_
            | refine State.whileMoving_keeps (sub_trans (by decide) hm) ?_ ?_
            | refine State.driveModeStep_keeps (sub_trans (by decide) hm) ?_
            | refine State.axisAdvance_keeps (sub_trans (by decide) hm) ?_
            | refine State.loadStep_keeps (sub_trans (by decide) hm) ?_
            | refine State.coilStep_keeps (sub_trans (by decide) hm) ?_
            | refine State.distanceStep_keeps (sub_trans (by decide) hm) ?_
          | (intro t x ht)
          | (intro t ht)
          | (intro t y z ht)
          | (intro ht)
          | split
          | dsimp only
       clear_value x)
    | clear_value x)
  repeat' first
    | with_reducible first
      | assumption
      | refine KeepsO.next ?_
      | exact KeepsO.fault
      | refine KeepsO.ite ?_ ?_
      | refine Keeps.ite ?_ ?_
      | refine State.whileMoving_keeps (sub_trans (by decide) hm) ?_ ?_
      | refine State.driveModeStep_keeps (sub_trans (by decide) hm) ?_
      | refine State.axisAdvance_keeps (sub_trans (by decide) hm) ?_
      | refine State.loadStep_keeps (sub_trans (by decide) hm) ?_
      | refine State.coilStep_keeps (sub_trans (by decide) hm) ?_
      | refine State.distanceStep_keeps (sub_trans (by decide) hm) ?_
    | (intro t x ht)
    | (intro t ht)
    | (intro t y z ht)
    | (intro ht)
    | split
    | dsimp only

theorem State.bridgeFails_keeps {a2 : _} {a3 : _} (hm : 16414 ||| m = m) (h : Keeps m r s) :
    Keeps m r (State.bridgeFails s a2 a3) := by
  unfold State.bridgeFails
  repeat' first
    | with_reducible first
      | assumption
      | refine Keeps.ite ?_ ?_
      | refine State.axisFault_keeps (sub_trans (by decide) hm) ?_
      | refine State.positionEvent_keeps (sub_trans (by decide) hm) ?_
      | refine State.axisTo_keeps (sub_trans (by decide) hm) ?_
      | refine State.setStepper_keeps (sub_trans (by decide) hm) ?_
      | refine State.axisHalt_keeps (sub_trans (by decide) hm) ?_
      | refine State.loseValid_keeps (sub_trans (by decide) hm) ?_
    | split
    | dsimp only

theorem execBridgeOvercurrent_keeps {a1 : _} (hm : 278558 ||| m = m) (h : Keeps m r s) :
    KeepsO m r (execBridgeOvercurrent a1 s) := by
  unfold execBridgeOvercurrent
  repeat' first
    | with_reducible first
      | assumption
      | refine KeepsO.next ?_
      | exact KeepsO.fault
      | refine KeepsO.ite ?_ ?_
      | refine Keeps.ite ?_ ?_
      | refine State.bridgeFails_keeps (sub_trans (by decide) hm) ?_
      | refine State.fault_keeps (sub_trans (by decide) hm) ?_
    | split
    | dsimp only

theorem execBridgeThermalShutdown_keeps {a1 : _} (hm : 278558 ||| m = m) (h : Keeps m r s) :
    KeepsO m r (execBridgeThermalShutdown a1 s) := by
  unfold execBridgeThermalShutdown
  try lift_lets
  repeat (intro x; first
    | (have hx : Keeps m r x := by
        dsimp only [x]
        repeat' first
          | with_reducible first
            | assumption
            | refine KeepsO.next ?_
            | exact KeepsO.fault
            | refine KeepsO.ite ?_ ?_
            | refine Keeps.ite ?_ ?_
            | refine State.fault_keeps (sub_trans (by decide) hm) ?_
            | refine State.bridgeFails_keeps (sub_trans (by decide) hm) ?_
            | refine Keeps.each ?_ ?_
          | (intro t x ht)
          | (intro t ht)
          | (intro t y z ht)
          | (intro ht)
          | split
          | dsimp only
       clear_value x)
    | clear_value x)
  repeat' first
    | with_reducible first
      | assumption
      | refine KeepsO.next ?_
      | exact KeepsO.fault
      | refine KeepsO.ite ?_ ?_
      | refine Keeps.ite ?_ ?_
      | refine State.fault_keeps (sub_trans (by decide) hm) ?_
      | refine State.bridgeFails_keeps (sub_trans (by decide) hm) ?_
      | refine Keeps.each ?_ ?_
    | (intro t x ht)
    | (intro t ht)
    | (intro t y z ht)
    | (intro ht)
    | split
    | dsimp only

theorem State.axisEnable_keeps {a2 : _} {a3 : _} (hm : 16414 ||| m = m) (h : Keeps m r s) :
    Keeps m r (State.axisEnable s a2 a3) := by
  unfold State.axisEnable
  repeat' first
    | with_reducible first
      | assumption
      | refine Keeps.ite ?_ ?_
      | refine State.axisStands_keeps (sub_trans (by decide) hm) ?_
      | refine State.axisTo_keeps (sub_trans (by decide) hm) ?_
      | refine State.endSearch_keeps (sub_trans (by decide) hm) ?_
      | refine State.axisHalt_keeps (sub_trans (by decide) hm) ?_
    | split
    | dsimp only

theorem State.axisSafe_keeps {a2 : _} (hm : 16414 ||| m = m) (h : Keeps m r s) :
    Keeps m r (State.axisSafe s a2) := by
  unfold State.axisSafe
  repeat' first
    | with_reducible first
      | assumption
      | refine Keeps.ite ?_ ?_
      | refine State.endSearch_keeps (sub_trans (by decide) hm) ?_
      | refine State.axisHalt_keeps (sub_trans (by decide) hm) ?_
      | refine State.axisTo_keeps (sub_trans (by decide) hm) ?_
      | refine State.setb_keeps (sub_trans (by decide) hm) ?_
      | refine State.setStepper_keeps (sub_trans (by decide) hm) ?_
      | refine State.loseValid_keeps (sub_trans (by decide) hm) ?_
    | split
    | dsimp only

theorem State.axisRelease_keeps {a2 : _} (hm : 16402 ||| m = m) (h : Keeps m r s) :
    Keeps m r (State.axisRelease s a2) := by
  unfold State.axisRelease
  repeat' first
    | with_reducible first
      | assumption
      | refine Keeps.ite ?_ ?_
      | refine State.axisStands_keeps (sub_trans (by decide) hm) ?_
      | refine State.axisTo_keeps (sub_trans (by decide) hm) ?_
    | split
    | dsimp only

theorem State.steppersUnder_keeps  (hm : 278558 ||| m = m) (h : Keeps m r s) :
    Keeps m r (State.steppersUnder s) := by
  unfold State.steppersUnder
  try lift_lets
  repeat (intro x; first
    | (have hx : Keeps m r x := by
        dsimp only [x]
        repeat' first
          | with_reducible first
            | assumption
            | refine Keeps.ite ?_ ?_
            | refine State.axisTo_keeps (sub_trans (by decide) hm) ?_
            | refine State.positionEvent_keeps (sub_trans (by decide) hm) ?_
            | refine State.setStepper_keeps (sub_trans (by decide) hm) ?_
            | refine State.loseValid_keeps (sub_trans (by decide) hm) ?_
            | refine State.axisFault_keeps (sub_trans (by decide) hm) ?_
            | refine State.fault_keeps (sub_trans (by decide) hm) ?_
            | refine Keeps.each ?_ ?_
          | (intro t x ht)
          | (intro t ht)
          | (intro t y z ht)
          | (intro ht)
          | split
          | dsimp only
       clear_value x)
    | clear_value x)
  repeat' first
    | with_reducible first
      | assumption
      | refine Keeps.ite ?_ ?_
      | refine State.axisTo_keeps (sub_trans (by decide) hm) ?_
      | refine State.positionEvent_keeps (sub_trans (by decide) hm) ?_
      | refine State.setStepper_keeps (sub_trans (by decide) hm) ?_
      | refine State.loseValid_keeps (sub_trans (by decide) hm) ?_
      | refine State.axisFault_keeps (sub_trans (by decide) hm) ?_
      | refine State.fault_keeps (sub_trans (by decide) hm) ?_
      | refine Keeps.each ?_ ?_
    | (intro t x ht)
    | (intro t ht)
    | (intro t y z ht)
    | (intro ht)
    | split
    | dsimp only

theorem State.steppersBusOk_keeps  (hm : 16402 ||| m = m) (h : Keeps m r s) :
    Keeps m r (State.steppersBusOk s) := by
  unfold State.steppersBusOk
  try lift_lets
  repeat (intro x; first
    | (have hx : Keeps m r x := by
        dsimp only [x]
        repeat' first
          | with_reducible first
            | assumption
            | refine Keeps.ite ?_ ?_
            | refine State.positionEvent_keeps (sub_trans (by decide) hm) ?_
            | refine State.setStepper_keeps (sub_trans (by decide) hm) ?_
            | refine State.axisTo_keeps (sub_trans (by decide) hm) ?_
            | refine Keeps.each ?_ ?_
          | (intro t x ht)
          | (intro t ht)
          | (intro t y z ht)
          | (intro ht)
          | split
          | dsimp only
       clear_value x)
    | clear_value x)
  repeat' first
    | with_reducible first
      | assumption
      | refine Keeps.ite ?_ ?_
      | refine State.positionEvent_keeps (sub_trans (by decide) hm) ?_
      | refine State.setStepper_keeps (sub_trans (by decide) hm) ?_
      | refine State.axisTo_keeps (sub_trans (by decide) hm) ?_
      | refine Keeps.each ?_ ?_
    | (intro t x ht)
    | (intro t ht)
    | (intro t y z ht)
    | (intro ht)
    | split
    | dsimp only

theorem State.steppersDown_keeps  (hm : 16414 ||| m = m) (h : Keeps m r s) :
    Keeps m r (State.steppersDown s) := by
  unfold State.steppersDown
  try lift_lets
  repeat (intro x; first
    | (have hx : Keeps m r x := by
        dsimp only [x]
        repeat' first
          | with_reducible first
            | assumption
            | refine State.setStepper_keeps (sub_trans (by decide) hm) ?_
            | refine State.setb_keeps (sub_trans (by decide) hm) ?_
            | refine State.axisTo_keeps (sub_trans (by decide) hm) ?_
            | refine State.endSearch_keeps (sub_trans (by decide) hm) ?_
            | refine State.axisHalt_keeps (sub_trans (by decide) hm) ?_
            | refine Keeps.each ?_ ?_
          | (intro t x ht)
          | (intro t ht)
          | (intro t y z ht)
          | (intro ht)
          | split
          | dsimp only
       clear_value x)
    | clear_value x)
  repeat' first
    | with_reducible first
      | assumption
      | refine State.setStepper_keeps (sub_trans (by decide) hm) ?_
      | refine State.setb_keeps (sub_trans (by decide) hm) ?_
      | refine State.axisTo_keeps (sub_trans (by decide) hm) ?_
      | refine State.endSearch_keeps (sub_trans (by decide) hm) ?_
      | refine State.axisHalt_keeps (sub_trans (by decide) hm) ?_
      | refine Keeps.each ?_ ?_
    | (intro t x ht)
    | (intro t ht)
    | (intro t y z ht)
    | (intro ht)
    | split
    | dsimp only

theorem State.steppersUp_keeps  (hm : 16400 ||| m = m) (h : Keeps m r s) :
    Keeps m r (State.steppersUp s) := by
  unfold State.steppersUp
  try lift_lets
  repeat (intro x; first
    | (have hx : Keeps m r x := by
        dsimp only [x]
        repeat' first
          | with_reducible first
            | assumption
            | refine Keeps.ite ?_ ?_
            | refine State.positionEvent_keeps (sub_trans (by decide) hm) ?_
            | refine State.setStepper_keeps (sub_trans (by decide) hm) ?_
            | refine Keeps.each ?_ ?_
          | (intro t x ht)
          | (intro t ht)
          | (intro t y z ht)
          | (intro ht)
          | split
          | dsimp only
       clear_value x)
    | clear_value x)
  repeat' first
    | with_reducible first
      | assumption
      | refine Keeps.ite ?_ ?_
      | refine State.positionEvent_keeps (sub_trans (by decide) hm) ?_
      | refine State.setStepper_keeps (sub_trans (by decide) hm) ?_
      | refine Keeps.each ?_ ?_
    | (intro t x ht)
    | (intro t ht)
    | (intro t y z ht)
    | (intro ht)
    | split
    | dsimp only

theorem State.axisReinit_keeps {a2 : _} (hm : 16414 ||| m = m) (h : Keeps m r s) :
    Keeps m r (State.axisReinit s a2) := by
  unfold State.axisReinit
  repeat' first
    | with_reducible first
      | assumption
      | refine Keeps.ite ?_ ?_
      | refine State.setb_keeps (sub_trans (by decide) hm) ?_
      | refine State.axisHalt_keeps (sub_trans (by decide) hm) ?_
      | refine State.setStepper_keeps (sub_trans (by decide) hm) ?_
      | refine State.loseValid_keeps (sub_trans (by decide) hm) ?_
      | refine State.axisTo_keeps (sub_trans (by decide) hm) ?_
    | split
    | dsimp only

theorem State.stepperTick_keeps  (hm : 16410 ||| m = m) (h : Keeps m r s) :
    Keeps m r (State.stepperTick s) := by
  unfold State.stepperTick
  try lift_lets
  repeat (intro x; first
    | (have hx : Keeps m r x := by
        dsimp only [x]
        repeat' first
          | with_reducible first
            | assumption
            | refine State.axisAdvance_keeps (sub_trans (by decide) hm) ?_
            | refine Keeps.each ?_ ?_
          | (intro t x ht)
          | (intro t ht)
          | (intro t y z ht)
          | (intro ht)
          | split
          | dsimp only
       clear_value x)
    | clear_value x)
  repeat' first
    | with_reducible first
      | assumption
      | refine State.axisAdvance_keeps (sub_trans (by decide) hm) ?_
      | refine Keeps.each ?_ ?_
    | (intro t x ht)
    | (intro t ht)
    | (intro t y z ht)
    | (intro ht)
    | split
    | dsimp only

/-! ## Measure -/

theorem State.refreshGate_keeps  (hm : 18 ||| m = m) (h : Keeps m r s) :
    Keeps m r (State.refreshGate s) := by
  unfold State.refreshGate
  repeat' first
    | with_reducible first
      | assumption
      | refine Keeps.ite ?_ ?_
      | refine State.event_keeps (sub_trans (by decide) hm) ?_
      | refine State.setb_keeps (sub_trans (by decide) hm) ?_
    | split
    | dsimp only

theorem State.evaluateSlots_keeps  (hm : 18 ||| m = m) (h : Keeps m r s) :
    Keeps m r (State.evaluateSlots s) := by
  unfold State.evaluateSlots
  repeat' first
    | with_reducible first
      | assumption
      | refine State.refreshGate_keeps (sub_trans (by decide) hm) ?_
      | refine State.setn_keeps (sub_trans (by decide) hm) ?_
    | split
    | dsimp only

theorem State.unacknowledge_keeps {a2 : _} (hm : 1048576 ||| m = m) (h : Keeps m r s) :
    Keeps m r (State.unacknowledge s a2) := by
  unfold State.unacknowledge
  repeat' first
    | with_reducible first
      | assumption
      | (refine Keeps.trust hm (by decide) ?_; assumption)
    | split
    | dsimp only

theorem State.setMeasurement_keeps {k n : Nat} {v : Bytes} (hm : 1048594 ||| m = m) (h : Keeps m r s) :
    Keeps m r (s.setMeasurement k n v) := by
  unfold State.setMeasurement
  exact Keeps.when (fun t ht => State.evaluateSlots_keeps (sub_trans (by decide) hm) ht)
    (State.event_keeps (sub_trans (by decide) hm) (State.bump_keeps (sub_trans (by decide) hm) (State.unacknowledge_keeps (sub_trans (by decide) hm) (Keeps.trust hm (by decide) h))))

theorem State.extendMeasurement_keeps {a2 : _} {a3 : _} (hm : 1048594 ||| m = m) (h : Keeps m r s) :
    Keeps m r (State.extendMeasurement s a2 a3) := by
  unfold State.extendMeasurement
  repeat' first
    | with_reducible first
      | assumption
      | refine State.setMeasurement_keeps (sub_trans (by decide) hm) ?_
      | (refine Keeps.trust hm (by decide) ?_; assumption)
    | split
    | dsimp only

theorem State.acknowledge_keeps {a2 : _} (hm : 1048594 ||| m = m) (h : Keeps m r s) :
    Keeps m r (State.acknowledge s a2) := by
  unfold State.acknowledge
  repeat' first
    | with_reducible first
      | assumption
      | refine State.refreshGate_keeps (sub_trans (by decide) hm) ?_
      | (refine Keeps.trust hm (by decide) ?_; assumption)
    | split
    | dsimp only

theorem State.expectedWritten_keeps  (hm : 1048594 ||| m = m) (h : Keeps m r s) :
    Keeps m r (State.expectedWritten s) := by
  unfold State.expectedWritten
  repeat' first
    | with_reducible first
      | assumption
      | refine State.evaluateSlots_keeps (sub_trans (by decide) hm) ?_
      | (refine Keeps.trust hm (by decide) ?_; assumption)
    | split
    | dsimp only

theorem State.loadImage_keeps {a2 : _} {a3 : _} {a4 : _} (hm : 1572882 ||| m = m) (h : Keeps m r s) :
    Keeps m r (State.loadImage s a2 a3 a4) := by
  unfold State.loadImage
  repeat' first
    | with_reducible first
      | assumption
      | refine State.setUnit_keeps (sub_trans (by decide) hm) ?_
      | refine State.event_keeps (sub_trans (by decide) hm) ?_
      | refine State.setMeasurement_keeps (sub_trans (by decide) hm) ?_
    | split
    | dsimp only

theorem State.recordLoad_keeps {a2 : _} (hm : 1048594 ||| m = m) (h : Keeps m r s) :
    Keeps m r (State.recordLoad s a2) := by
  unfold State.recordLoad
  repeat' first
    | with_reducible first
      | assumption
      | refine State.extendMeasurement_keeps (sub_trans (by decide) hm) ?_
    | split
    | dsimp only

/-! ## Crock -/

theorem State.crockTo_keeps {a2 : _} (hm : 18 ||| m = m) (h : Keeps m r s) :
    Keeps m r (State.crockTo s a2) := by
  unfold State.crockTo
  repeat' first
    | with_reducible first
      | assumption
      | refine Keeps.ite ?_ ?_
      | refine State.event_keeps (sub_trans (by decide) hm) ?_
      | refine State.setn_keeps (sub_trans (by decide) hm) ?_
    | split
    | dsimp only

theorem State.cutCrock_keeps {a2 : _} {a3 : _} (hm : 65536 ||| m = m) (h : Keeps m r s) :
    Keeps m r (State.cutCrock s a2 a3) := by
  unfold State.cutCrock
  repeat' first
    | with_reducible first
      | assumption
      | refine Keeps.ite ?_ ?_
      | (refine Keeps.crock hm (by decide) ?_; assumption)
    | split
    | dsimp only

theorem State.crockSpare_keeps  (hm : 327698 ||| m = m) (h : Keeps m r s) :
    Keeps m r (State.crockSpare s) := by
  unfold State.crockSpare
  try lift_lets
  repeat (intro x; first
    | (have hx : Keeps m r x := by
        dsimp only [x]
        repeat' first
          | with_reducible first
            | assumption
            | refine Keeps.ite ?_ ?_
            | refine State.event_keeps (sub_trans (by decide) hm) ?_
            | refine State.faultOn_keeps (sub_trans (by decide) hm) ?_
            | refine State.crockTo_keeps (sub_trans (by decide) hm) ?_
            | (refine Keeps.crock hm (by decide) ?_; assumption)
          | split
          | dsimp only
       clear_value x)
    | clear_value x)
  repeat' first
    | with_reducible first
      | assumption
      | refine Keeps.ite ?_ ?_
      | refine State.event_keeps (sub_trans (by decide) hm) ?_
      | refine State.faultOn_keeps (sub_trans (by decide) hm) ?_
      | refine State.crockTo_keeps (sub_trans (by decide) hm) ?_
      | (refine Keeps.crock hm (by decide) ?_; assumption)
    | split
    | dsimp only

theorem State.crockUpPower_keeps  (hm : 18 ||| m = m) (h : Keeps m r s) :
    Keeps m r (State.crockUpPower s) := by
  unfold State.crockUpPower
  repeat' first
    | with_reducible first
      | assumption
      | refine State.crockTo_keeps (sub_trans (by decide) hm) ?_
    | split
    | dsimp only

theorem State.crockDown_keeps  (hm : 65554 ||| m = m) (h : Keeps m r s) :
    Keeps m r (State.crockDown s) := by
  unfold State.crockDown
  repeat' first
    | with_reducible first
      | assumption
      | refine State.crockTo_keeps (sub_trans (by decide) hm) ?_
      | refine State.cutCrock_keeps (sub_trans (by decide) hm) ?_
    | split
    | dsimp only

theorem State.crockQuiesce_keeps  (hm : 65554 ||| m = m) (h : Keeps m r s) :
    Keeps m r (State.crockQuiesce s) := by
  unfold State.crockQuiesce
  repeat' first
    | with_reducible first
      | assumption
      | refine Keeps.ite ?_ ?_
      | refine State.crockTo_keeps (sub_trans (by decide) hm) ?_
      | refine State.cutCrock_keeps (sub_trans (by decide) hm) ?_
      | (refine Keeps.crock hm (by decide) ?_; assumption)
    | split
    | dsimp only

theorem State.crockResume_keeps  (hm : 327698 ||| m = m) (h : Keeps m r s) :
    Keeps m r (State.crockResume s) := by
  unfold State.crockResume
  repeat' first
    | with_reducible first
      | assumption
      | refine Keeps.ite ?_ ?_
      | refine State.crockSpare_keeps (sub_trans (by decide) hm) ?_
      | refine State.crockTo_keeps (sub_trans (by decide) hm) ?_
    | split
    | dsimp only

theorem execCrockMount_keeps {a1 : _} (hm : 327698 ||| m = m) (h : Keeps m r s) :
    KeepsO m r (execCrockMount a1 s) := by
  unfold execCrockMount
  repeat' first
    | with_reducible first
      | assumption
      | refine KeepsO.next ?_
      | exact KeepsO.fault
      | refine KeepsO.ite ?_ ?_
      | refine Keeps.ite ?_ ?_
      | refine State.crockSpare_keeps (sub_trans (by decide) hm) ?_
      | refine State.crockTo_keeps (sub_trans (by decide) hm) ?_
      | refine State.crockQuiesce_keeps (sub_trans (by decide) hm) ?_
      | refine State.fault_keeps (sub_trans (by decide) hm) ?_
    | split
    | dsimp only

theorem State.crockRecovers_keeps  (hm : 327698 ||| m = m) (h : Keeps m r s) :
    Keeps m r (State.crockRecovers s) := by
  unfold State.crockRecovers
  repeat' first
    | with_reducible first
      | assumption
      | refine Keeps.ite ?_ ?_
      | refine State.faultOff_keeps (sub_trans (by decide) hm) ?_
      | refine State.crockTo_keeps (sub_trans (by decide) hm) ?_
      | (refine Keeps.crock hm (by decide) ?_; assumption)
    | split
    | dsimp only

theorem State.crockReinit_keeps  (hm : 65554 ||| m = m) (h : Keeps m r s) :
    Keeps m r (State.crockReinit s) := by
  unfold State.crockReinit
  repeat' first
    | with_reducible first
      | assumption
      | refine State.crockTo_keeps (sub_trans (by decide) hm) ?_
      | refine State.cutCrock_keeps (sub_trans (by decide) hm) ?_
    | split
    | dsimp only

theorem State.beginCrock_keeps {a2 : _} {a3 : _} {a4 : _} (hm : 65536 ||| m = m) (h : Keeps m r s) :
    Keeps m r (State.beginCrock s a2 a3 a4) := by
  unfold State.beginCrock
  repeat' first
    | with_reducible first
      | assumption
      | refine Keeps.ite ?_ ?_
      | (refine Keeps.crock hm (by decide) ?_; assumption)
    | split
    | dsimp only

theorem State.takeCrock_keeps {a2 : _} {a3 : _} {a4 : _} {a5 : _} (hm : 1376310 ||| m = m) (h : Keeps m r s) :
    Keeps m r (State.takeCrock s a2 a3 a4 a5) := by
  unfold State.takeCrock
  try lift_lets
  repeat (intro x; first
    | (have hx : Keeps m r x := by
        dsimp only [x]
        repeat' first
          | with_reducible first
            | assumption
            | refine Keeps.ite ?_ ?_
            | refine State.takeEntry_keeps (sub_trans (by decide) hm) ?_ ?_
            | refine State.beginCrock_keeps (sub_trans (by decide) hm) ?_
          | (intro t x ht)
          | (intro t ht)
          | (intro t y z ht)
          | (intro ht)
          | split
          | dsimp only
       clear_value x)
    | clear_value x)
  repeat' first
    | with_reducible first
      | assumption
      | refine Keeps.ite ?_ ?_
      | refine State.takeEntry_keeps (sub_trans (by decide) hm) ?_ ?_
      | refine State.beginCrock_keeps (sub_trans (by decide) hm) ?_
    | (intro t x ht)
    | (intro t ht)
    | (intro t y z ht)
    | (intro ht)
    | split
    | dsimp only

theorem execCrockRead_keeps {a1 : _} {a2 : _} {a3 : _} (hm : 1376310 ||| m = m) (h : Keeps m r s) :
    KeepsO m r (execCrockRead a1 a2 a3 s) := by
  unfold execCrockRead
  repeat' first
    | with_reducible first
      | assumption
      | refine KeepsO.next ?_
      | exact KeepsO.fault
      | refine KeepsO.ite ?_ ?_
      | refine State.takeCrock_keeps (sub_trans (by decide) hm) ?_
    | split
    | dsimp only

theorem execCrockWrite_keeps {a1 : _} {a2 : _} {a3 : _} (hm : 1376310 ||| m = m) (h : Keeps m r s) :
    KeepsO m r (execCrockWrite a1 a2 a3 s) := by
  unfold execCrockWrite
  repeat' first
    | with_reducible first
      | assumption
      | refine KeepsO.next ?_
      | exact KeepsO.fault
      | refine KeepsO.ite ?_ ?_
      | refine State.takeCrock_keeps (sub_trans (by decide) hm) ?_
    | split
    | dsimp only

theorem execTrim_keeps {a1 : _} {a2 : _} {a3 : _} (hm : 1376310 ||| m = m) (h : Keeps m r s) :
    KeepsO m r (execTrim a1 a2 a3 s) := by
  unfold execTrim
  repeat' first
    | with_reducible first
      | assumption
      | refine KeepsO.next ?_
      | exact KeepsO.fault
      | refine KeepsO.ite ?_ ?_
      | refine State.takeCrock_keeps (sub_trans (by decide) hm) ?_
    | split
    | dsimp only

theorem execSpoolPage_keeps {a1 : _} {a2 : _} {a3 : _} (hm : 1376310 ||| m = m) (h : Keeps m r s) :
    KeepsO m r (execSpoolPage a1 a2 a3 s) := by
  unfold execSpoolPage
  repeat' first
    | with_reducible first
      | assumption
      | refine KeepsO.next ?_
      | exact KeepsO.fault
      | refine KeepsO.ite ?_ ?_
      | refine State.takeCrock_keeps (sub_trans (by decide) hm) ?_
    | split
    | dsimp only

theorem execSpoolLoad_keeps {a1 : _} {a2 : _} {a3 : _} (hm : 1376310 ||| m = m) (h : Keeps m r s) :
    KeepsO m r (execSpoolLoad a1 a2 a3 s) := by
  unfold execSpoolLoad
  repeat' first
    | with_reducible first
      | assumption
      | refine KeepsO.next ?_
      | exact KeepsO.fault
      | refine KeepsO.ite ?_ ?_
      | refine State.takeCrock_keeps (sub_trans (by decide) hm) ?_
    | split
    | dsimp only

theorem execSpoolDelete_keeps {a1 : _} {a2 : _} {a3 : _} (hm : 1376310 ||| m = m) (h : Keeps m r s) :
    KeepsO m r (execSpoolDelete a1 a2 a3 s) := by
  unfold execSpoolDelete
  repeat' first
    | with_reducible first
      | assumption
      | refine KeepsO.next ?_
      | exact KeepsO.fault
      | refine KeepsO.ite ?_ ?_
      | refine State.takeCrock_keeps (sub_trans (by decide) hm) ?_
    | split
    | dsimp only

theorem execSpoolList_keeps {a1 : _} {a2 : _} {a3 : _} (hm : 1376310 ||| m = m) (h : Keeps m r s) :
    KeepsO m r (execSpoolList a1 a2 a3 s) := by
  unfold execSpoolList
  repeat' first
    | with_reducible first
      | assumption
      | refine KeepsO.next ?_
      | exact KeepsO.fault
      | refine KeepsO.ite ?_ ?_
      | refine State.takeCrock_keeps (sub_trans (by decide) hm) ?_
    | split
    | dsimp only

theorem execSlotCommit_keeps {a1 : _} {a2 : _} {a3 : _} (hm : 1376310 ||| m = m) (h : Keeps m r s) :
    KeepsO m r (execSlotCommit a1 a2 a3 s) := by
  unfold execSlotCommit
  repeat' first
    | with_reducible first
      | assumption
      | refine KeepsO.next ?_
      | exact KeepsO.fault
      | refine KeepsO.ite ?_ ?_
      | refine State.takeCrock_keeps (sub_trans (by decide) hm) ?_
    | split
    | dsimp only

theorem execSlotErase_keeps {a1 : _} {a2 : _} {a3 : _} (hm : 1376310 ||| m = m) (h : Keeps m r s) :
    KeepsO m r (execSlotErase a1 a2 a3 s) := by
  unfold execSlotErase
  repeat' first
    | with_reducible first
      | assumption
      | refine KeepsO.next ?_
      | exact KeepsO.fault
      | refine KeepsO.ite ?_ ?_
      | refine State.takeCrock_keeps (sub_trans (by decide) hm) ?_
    | split
    | dsimp only

theorem State.writeUnits_keeps {x : HostMem} {ws : List Nat} {k n : Nat} (hm : 328722 ||| m = m)
    (h : Keeps m r s) : Keeps m r (State.writeUnits s x ws k n).1 := by
  induction k generalizing s n with
  | zero => exact h
  | succ k ih =>
    unfold State.writeUnits
    extract_lets t
    have ht : Keeps m r t := Keeps.ite h (State.readRange_keeps (sub_trans (by decide) hm) h)
    clear_value t
    split
    · exact ht
    · exact ih (State.setFlashUnit_keeps (sub_trans (by decide) hm) ht)

theorem State.crockWrite_keeps {a2 : _} {a3 : _} (hm : 328722 ||| m = m) (h : Keeps m r s) :
    Keeps m r (State.crockWrite s a2 a3).1 := by
  unfold State.crockWrite
  repeat' first
    | with_reducible first
      | assumption
      | refine Keeps.ite ?_ ?_
      | refine State.writeUnits_keeps (sub_trans (by decide) hm) ?_
      | refine State.setn_keeps (sub_trans (by decide) hm) ?_
      | refine State.mramWrite_keeps (sub_trans (by decide) hm) ?_
      | refine State.program_keeps (sub_trans (by decide) hm) ?_
      | refine State.linkFault_keeps (sub_trans (by decide) hm) ?_
    | split
    | dsimp only

theorem State.crockOutFails_keeps {a2 : _} (hm : 262162 ||| m = m) (h : Keeps m r s) :
    Keeps m r (State.crockOutFails s a2) := by
  unfold State.crockOutFails
  repeat' first
    | with_reducible first
      | assumption
      | refine Keeps.ite ?_ ?_
      | refine State.linkFault_keeps (sub_trans (by decide) hm) ?_
    | split
    | dsimp only

theorem State.badRead_keeps {a2 : _} (hm : 262162 ||| m = m) (h : Keeps m r s) :
    Keeps m r (State.badRead s a2) := by
  unfold State.badRead
  repeat' first
    | with_reducible first
      | assumption
      | refine State.fault_keeps (sub_trans (by decide) hm) ?_
      | refine State.bump_keeps (sub_trans (by decide) hm) ?_
    | split
    | dsimp only

theorem State.crockOut_keeps {t : State} {c : CrockCommand} {b : Bytes} (hm : 269330 ||| m = m) (h : Keeps m r s)
    (e : s.crockOut c b = some t) : Keeps m r t := by
  unfold State.crockOut at e
  dsimp only at e
  repeat' split at e
  all_goals first
    | (cases e; done)
    | (injection e with e; rw [← e]; exact State.store_keeps (sub_trans (by decide) hm) h)

theorem State.crockRead_keeps {c : CrockCommand} {b : Option (Nat × Nat)} (hm : 269330 ||| m = m)
    (h : Keeps m r s) : Keeps m r (s.crockRead c b).1 := by
  unfold State.crockRead
  extract_lets n hit data
  clear_value data hit
  split
  · exact State.crockOutFails_keeps (sub_trans (by decide) hm) h
  · next e =>
    have h1 := State.crockOut_keeps (sub_trans (by decide) hm) h e
    split
    · exact State.badRead_keeps (sub_trans (by decide) hm) h1
    · exact h1

theorem State.countSpool_keeps {a2 : _} (hm : 512 ||| m = m) (h : Keeps m r s) :
    Keeps m r (State.countSpool s a2) := by
  unfold State.countSpool
  repeat' first
    | with_reducible first
      | assumption
      | refine State.setLane_keeps (sub_trans (by decide) hm) ?_
    | split
    | dsimp only

theorem State.addObject_keeps {a2 : _} {a3 : _} (hm : 328210 ||| m = m) (h : Keeps m r s) :
    Keeps m r (State.addObject s a2 a3) := by
  unfold State.addObject
  try lift_lets
  repeat (intro x; first
    | (have hx : Keeps m r x := by
        dsimp only [x]
        repeat' first
          | with_reducible first
            | assumption
            | refine Keeps.ite ?_ ?_
            | refine State.countSpool_keeps (sub_trans (by decide) hm) ?_
            | refine State.program_keeps (sub_trans (by decide) hm) ?_
            | refine State.setn_keeps (sub_trans (by decide) hm) ?_
            | refine State.spoolEvent_keeps (sub_trans (by decide) hm) ?_
            | refine State.mramWrite_keeps (sub_trans (by decide) hm) ?_
            | refine Keeps.each ?_ ?_
            | (refine Keeps.crock hm (by decide) ?_; assumption)
          | (intro t x ht)
          | (intro t ht)
          | (intro t y z ht)
          | (intro ht)
          | split
          | dsimp only
       clear_value x)
    | clear_value x)
  repeat' first
    | with_reducible first
      | assumption
      | refine Keeps.ite ?_ ?_
      | refine State.countSpool_keeps (sub_trans (by decide) hm) ?_
      | refine State.program_keeps (sub_trans (by decide) hm) ?_
      | refine State.setn_keeps (sub_trans (by decide) hm) ?_
      | refine State.spoolEvent_keeps (sub_trans (by decide) hm) ?_
      | refine State.mramWrite_keeps (sub_trans (by decide) hm) ?_
      | refine Keeps.each ?_ ?_
      | (refine Keeps.crock hm (by decide) ?_; assumption)
    | (intro t x ht)
    | (intro t ht)
    | (intro t y z ht)
    | (intro ht)
    | split
    | dsimp only

theorem State.loadBlocks_keeps {a2 : _} {a3 : _} (hm : 4194816 ||| m = m) (h : Keeps m r s) :
    Keeps m r (State.loadBlocks s a2 a3) := by
  unfold State.loadBlocks
  try lift_lets
  repeat (intro x; first
    | (have hx : Keeps m r x := by
        dsimp only [x]
        repeat' first
          | with_reducible first
            | assumption
            | refine State.draw_keeps (sub_trans (by decide) hm) ?_
            | refine Keeps.each ?_ ?_
            | (refine Keeps.press hm (by decide) ?_; assumption)
          | (intro t x ht)
          | (intro t ht)
          | (intro t y z ht)
          | (intro ht)
          | split
          | dsimp only
       clear_value x)
    | clear_value x)
  repeat' first
    | with_reducible first
      | assumption
      | refine State.draw_keeps (sub_trans (by decide) hm) ?_
      | refine Keeps.each ?_ ?_
      | (refine Keeps.press hm (by decide) ?_; assumption)
    | (intro t x ht)
    | (intro t ht)
    | (intro t y z ht)
    | (intro ht)
    | split
    | dsimp only

theorem State.crockLoad_keeps {c : CrockCommand} {b : Option (Nat × Nat)} (hm : 5505846 ||| m = m)
    (h : Keeps m r s) : Keeps m r (s.crockLoad c b).1 := by
  unfold State.crockLoad
  extract_lets tag
  split
  · exact h
  · split
    · exact State.badRead_keeps (sub_trans (by decide) hm) h
    · split
      · exact h
      · split
        · exact h
        · next i _ =>
          extract_lets p s1 src s2 s3
          have h1 : Keeps m r s1 := State.setPage_keeps (sub_trans (by decide) hm) h
          have h2 : Keeps m r s2 := Keeps.pages (s := s1) hm (by decide) h1
          clear_value s2
          have h3 : Keeps m r s3 := State.loadBlocks_keeps (sub_trans (by decide) hm) (State.reportPage_keeps (sub_trans (by decide) hm) h2)
          clear_value s3
          dsimp only
          exact State.feedCheck_keeps (sub_trans (by decide) hm) (State.spoolEvent_keeps (sub_trans (by decide) hm) h3)

theorem State.crockDelete_keeps {a2 : _} (hm : 65554 ||| m = m) (h : Keeps m r s) :
    Keeps m r (State.crockDelete s a2).1 := by
  unfold State.crockDelete
  repeat' first
    | with_reducible first
      | assumption
      | refine State.spoolEvent_keeps (sub_trans (by decide) hm) ?_
      | refine State.mramWrite_keeps (sub_trans (by decide) hm) ?_
      | refine State.setn_keeps (sub_trans (by decide) hm) ?_
      | (refine Keeps.crock hm (by decide) ?_; assumption)
    | split
    | dsimp only

theorem State.crockList_keeps {c : CrockCommand} (hm : 269330 ||| m = m)
    (h : Keeps m r s) : Keeps m r (s.crockList c).1 := by
  unfold State.crockList
  extract_lets b
  clear_value b
  split
  · exact State.crockOutFails_keeps (sub_trans (by decide) hm) h
  · next e => exact State.crockOut_keeps (sub_trans (by decide) hm) h e

theorem State.crockWork_keeps {a2 : _} {a3 : _} {a4 : _} (hm : 5578550 ||| m = m) (h : Keeps m r s) :
    Keeps m r (State.crockWork s a2 a3 a4).1 := by
  unfold State.crockWork
  try lift_lets
  repeat (intro x; first
    | (have hx : Keeps m r x := by
        dsimp only [x]
        repeat' first
          | with_reducible first
            | assumption
            | refine Keeps.ite ?_ ?_
            | refine State.crockWrite_keeps (sub_trans (by decide) hm) ?_
            | refine State.spoolEvent_keeps (sub_trans (by decide) hm) ?_
            | refine State.addObject_keeps (sub_trans (by decide) hm) ?_
            | refine State.crockRead_keeps (sub_trans (by decide) hm) ?_
            | refine State.trimUnit_keeps (sub_trans (by decide) hm) ?_
            | refine State.mramWrite_keeps (sub_trans (by decide) hm) ?_
            | refine State.setn_keeps (sub_trans (by decide) hm) ?_
            | refine State.crockLoad_keeps (sub_trans (by decide) hm) ?_
            | refine State.crockDelete_keeps (sub_trans (by decide) hm) ?_
            | refine State.crockList_keeps (sub_trans (by decide) hm) ?_
            | refine State.eraseSlot_keeps (sub_trans (by decide) hm) ?_
            | refine Keeps.each ?_ ?_
          | (intro t x ht)
          | (intro t ht)
          | (intro t y z ht)
          | (intro ht)
          | split
          | dsimp only
       clear_value x)
    | (have hx : Keeps m r x.1 := by
        dsimp only [x]
        repeat' first
          | with_reducible first
            | assumption
            | refine Keeps.ite ?_ ?_
            | refine State.crockWrite_keeps (sub_trans (by decide) hm) ?_
            | refine State.spoolEvent_keeps (sub_trans (by decide) hm) ?_
            | refine State.addObject_keeps (sub_trans (by decide) hm) ?_
            | refine State.crockRead_keeps (sub_trans (by decide) hm) ?_
            | refine State.trimUnit_keeps (sub_trans (by decide) hm) ?_
            | refine State.mramWrite_keeps (sub_trans (by decide) hm) ?_
            | refine State.setn_keeps (sub_trans (by decide) hm) ?_
            | refine State.crockLoad_keeps (sub_trans (by decide) hm) ?_
            | refine State.crockDelete_keeps (sub_trans (by decide) hm) ?_
            | refine State.crockList_keeps (sub_trans (by decide) hm) ?_
            | refine State.eraseSlot_keeps (sub_trans (by decide) hm) ?_
            | refine Keeps.each ?_ ?_
          | (intro t x ht)
          | (intro t ht)
          | (intro t y z ht)
          | (intro ht)
          | split
          | dsimp only
       clear_value x)
    | clear_value x)
  repeat' first
    | with_reducible first
      | assumption
      | refine Keeps.ite ?_ ?_
      | refine State.crockWrite_keeps (sub_trans (by decide) hm) ?_
      | refine State.spoolEvent_keeps (sub_trans (by decide) hm) ?_
      | refine State.addObject_keeps (sub_trans (by decide) hm) ?_
      | refine State.crockRead_keeps (sub_trans (by decide) hm) ?_
      | refine State.trimUnit_keeps (sub_trans (by decide) hm) ?_
      | refine State.mramWrite_keeps (sub_trans (by decide) hm) ?_
      | refine State.setn_keeps (sub_trans (by decide) hm) ?_
      | refine State.crockLoad_keeps (sub_trans (by decide) hm) ?_
      | refine State.crockDelete_keeps (sub_trans (by decide) hm) ?_
      | refine State.crockList_keeps (sub_trans (by decide) hm) ?_
      | refine State.eraseSlot_keeps (sub_trans (by decide) hm) ?_
      | refine Keeps.each ?_ ?_
    | (intro t x ht)
    | (intro t ht)
    | (intro t y z ht)
    | (intro ht)
    | split
    | dsimp only

theorem execCrockCommandComplete_keeps {a1 : _} {a2 : _} {a3 : _} {a4 : _} (hm : 5578550 ||| m = m) (h : Keeps m r s) :
    KeepsO m r (execCrockCommandComplete a1 a2 a3 a4 s) := by
  unfold execCrockCommandComplete
  repeat' first
    | with_reducible first
      | assumption
      | refine KeepsO.next ?_
      | exact KeepsO.fault
      | refine KeepsO.ite ?_ ?_
      | refine Keeps.ite ?_ ?_
      | refine State.crockWork_keeps (sub_trans (by decide) hm) ?_
      | refine State.bumpBy_keeps (sub_trans (by decide) hm) ?_
      | refine State.finishEntry_keeps (sub_trans (by decide) hm) ?_
      | refine State.produce_keeps (sub_trans (by decide) hm) ?_
      | (refine Keeps.crock hm (by decide) ?_; assumption)
    | split
    | dsimp only

theorem execAutomaticSpoolDone_keeps  (hm : 328210 ||| m = m) (h : Keeps m r s) :
    KeepsO m r (execAutomaticSpoolDone s) := by
  unfold execAutomaticSpoolDone
  repeat' first
    | with_reducible first
      | assumption
      | refine KeepsO.next ?_
      | exact KeepsO.fault
      | refine KeepsO.ite ?_ ?_
      | refine Keeps.ite ?_ ?_
      | refine State.addObject_keeps (sub_trans (by decide) hm) ?_
      | refine State.spoolEvent_keeps (sub_trans (by decide) hm) ?_
      | (refine Keeps.crock hm (by decide) ?_; assumption)
    | split
    | dsimp only

theorem execNandProgramFail_keeps {a1 : _} {a2 : _} (hm : 327698 ||| m = m) (h : Keeps m r s) :
    KeepsO m r (execNandProgramFail a1 a2 s) := by
  unfold execNandProgramFail
  try lift_lets
  repeat (intro x; first
    | (have hx : Keeps m r x := by
        dsimp only [x]
        repeat' first
          | with_reducible first
            | assumption
            | refine KeepsO.next ?_
            | exact KeepsO.fault
            | refine KeepsO.ite ?_ ?_
            | refine Keeps.ite ?_ ?_
            | refine State.event_keeps (sub_trans (by decide) hm) ?_
            | refine State.fault_keeps (sub_trans (by decide) hm) ?_
            | refine State.setn_keeps (sub_trans (by decide) hm) ?_
            | refine State.crockSpare_keeps (sub_trans (by decide) hm) ?_
            | refine State.program_keeps (sub_trans (by decide) hm) ?_
            | (refine Keeps.crock hm (by decide) ?_; assumption)
          | split
          | dsimp only
       clear_value x)
    | clear_value x)
  repeat' first
    | with_reducible first
      | assumption
      | refine KeepsO.next ?_
      | exact KeepsO.fault
      | refine KeepsO.ite ?_ ?_
      | refine Keeps.ite ?_ ?_
      | refine State.event_keeps (sub_trans (by decide) hm) ?_
      | refine State.fault_keeps (sub_trans (by decide) hm) ?_
      | refine State.setn_keeps (sub_trans (by decide) hm) ?_
      | refine State.crockSpare_keeps (sub_trans (by decide) hm) ?_
      | refine State.program_keeps (sub_trans (by decide) hm) ?_
      | (refine Keeps.crock hm (by decide) ?_; assumption)
    | split
    | dsimp only

theorem execCrockScrubPass_keeps {a1 : _} {a2 : _} {a3 : _} {a4 : _} (hm : 327698 ||| m = m) (h : Keeps m r s) :
    KeepsO m r (execCrockScrubPass a1 a2 a3 a4 s) := by
  unfold execCrockScrubPass
  try lift_lets
  repeat (intro x; first
    | (have hx : Keeps m r x := by
        dsimp only [x]
        repeat' first
          | with_reducible first
            | assumption
            | refine KeepsO.next ?_
            | exact KeepsO.fault
            | refine KeepsO.ite ?_ ?_
            | refine Keeps.ite ?_ ?_
            | refine State.event_keeps (sub_trans (by decide) hm) ?_
            | refine State.badRead_keeps (sub_trans (by decide) hm) ?_
            | refine State.program_keeps (sub_trans (by decide) hm) ?_
            | (refine Keeps.crock hm (by decide) ?_; assumption)
          | (intro t x ht)
          | (intro t ht)
          | (intro t y z ht)
          | (intro ht)
          | split
          | dsimp only
       clear_value x)
    | clear_value x)
  repeat' first
    | with_reducible first
      | assumption
      | refine KeepsO.next ?_
      | exact KeepsO.fault
      | refine KeepsO.ite ?_ ?_
      | refine Keeps.ite ?_ ?_
      | refine State.event_keeps (sub_trans (by decide) hm) ?_
      | refine State.badRead_keeps (sub_trans (by decide) hm) ?_
      | refine State.program_keeps (sub_trans (by decide) hm) ?_
      | (refine Keeps.crock hm (by decide) ?_; assumption)
    | (intro t x ht)
    | (intro t ht)
    | (intro t y z ht)
    | (intro ht)
    | split
    | dsimp only

theorem State.healthReport_keeps  (hm : 4194322 ||| m = m) (h : Keeps m r s) :
    Keeps m r (State.healthReport s) := by
  unfold State.healthReport
  repeat' first
    | with_reducible first
      | assumption
      | refine Keeps.ite ?_ ?_
      | refine State.setn_keeps (sub_trans (by decide) hm) ?_
      | refine State.bump_keeps (sub_trans (by decide) hm) ?_
      | refine State.setBytes_keeps (sub_trans (by decide) hm) ?_
      | refine State.event_keeps (sub_trans (by decide) hm) ?_
      | refine State.draw_keeps (sub_trans (by decide) hm) ?_
    | split
    | dsimp only

theorem State.dailyReport_keeps  (hm : 4259862 ||| m = m) (h : Keeps m r s) :
    Keeps m r (State.dailyReport s) := by
  unfold State.dailyReport
  repeat' first
    | with_reducible first
      | assumption
      | refine State.after_keeps (sub_trans (by decide) hm) ?_
      | refine State.healthReport_keeps (sub_trans (by decide) hm) ?_
      | (refine Keeps.crock hm (by decide) ?_; assumption)
    | split
    | dsimp only

/-! ## Twin -/

theorem State.setRole_keeps {a2 : _} {a3 : _} {a4 : _} (hm : 22 ||| m = m) (h : Keeps m r s) :
    Keeps m r (State.setRole s a2 a3 a4) := by
  unfold State.setRole
  repeat' first
    | with_reducible first
      | assumption
      | refine Keeps.ite ?_ ?_
      | refine State.event_keeps (sub_trans (by decide) hm) ?_
      | refine State.setn_keeps (sub_trans (by decide) hm) ?_
      | refine State.after_keeps (sub_trans (by decide) hm) ?_
    | split
    | dsimp only

theorem State.noteEligible_keeps  (hm : 524288 ||| m = m) (h : Keeps m r s) :
    Keeps m r (State.noteEligible s) := by
  unfold State.noteEligible
  repeat' first
    | with_reducible first
      | assumption
      | (refine Keeps.twin hm (by decide) ?_; assumption)
    | split
    | dsimp only

theorem State.setHealthy_keeps {a2 : _} {a3 : _} {a4 : _} (hm : 524304 ||| m = m) (h : Keeps m r s) :
    Keeps m r (State.setHealthy s a2 a3 a4) := by
  unfold State.setHealthy
  repeat' first
    | with_reducible first
      | assumption
      | refine Keeps.ite ?_ ?_
      | refine State.event_keeps (sub_trans (by decide) hm) ?_
      | refine State.setUnit_keeps (sub_trans (by decide) hm) ?_
    | split
    | dsimp only

theorem State.startUnit_keeps {a2 : _} {a3 : _} (hm : 524310 ||| m = m) (h : Keeps m r s) :
    Keeps m r (State.startUnit s a2 a3) := by
  unfold State.startUnit
  repeat' first
    | with_reducible first
      | assumption
      | refine State.setUnit_keeps (sub_trans (by decide) hm) ?_
      | refine State.setRole_keeps (sub_trans (by decide) hm) ?_
    | split
    | dsimp only

theorem State.unitDown_keeps {a2 : _} (hm : 525334 ||| m = m) (h : Keeps m r s) :
    Keeps m r (State.unitDown s a2) := by
  unfold State.unitDown
  repeat' first
    | with_reducible first
      | assumption
      | refine State.setHealthy_keeps (sub_trans (by decide) hm) ?_
      | refine State.breakLocks_keeps (sub_trans (by decide) hm) ?_
      | refine State.setRole_keeps (sub_trans (by decide) hm) ?_
      | refine State.setUnit_keeps (sub_trans (by decide) hm) ?_
    | split
    | dsimp only

theorem State.dropPlanned_keeps (hm : 524564 ||| m = m) (h : Keeps m r s) :
    Keeps m r s.dropPlanned := by
  unfold State.dropPlanned
  split
  · exact h
  · have h1 : Keeps m r { s with twin := { s.twin with planned := 0 }, pages := { s.pages with stopped := false } } := h.step rfl rfl id (fun p hp => by cases p <;> first | rfl | exact (sub_out hm (by decide) hp).elim)
    exact State.event_keeps (sub_trans (by decide) hm) (State.disarm_keeps (sub_trans (by decide) hm) h1)

theorem State.noStandby_keeps {a2 : _} {a3 : _} (hm : 1842230 ||| m = m) (h : Keeps m r s) :
    Keeps m r (State.noStandby s a2 a3) := by
  unfold State.noStandby
  try lift_lets
  repeat (intro x; first
    | (have hx : Keeps m r x := by
        dsimp only [x]
        repeat' first
          | with_reducible first
            | assumption
            | refine State.fault_keeps (sub_trans (by decide) hm) ?_
            | refine State.event_keeps (sub_trans (by decide) hm) ?_
            | refine State.startGranted_keeps (sub_trans (by decide) hm) ?_
            | refine State.startUnit_keeps (sub_trans (by decide) hm) ?_
            | refine State.breakLocks_keeps (sub_trans (by decide) hm) ?_
            | (refine Keeps.twin hm (by decide) ?_; assumption)
          | split
          | dsimp only
       clear_value x)
    | clear_value x)
  repeat' first
    | with_reducible first
      | assumption
      | refine State.fault_keeps (sub_trans (by decide) hm) ?_
      | refine State.event_keeps (sub_trans (by decide) hm) ?_
      | refine State.startGranted_keeps (sub_trans (by decide) hm) ?_
      | refine State.startUnit_keeps (sub_trans (by decide) hm) ?_
      | refine State.breakLocks_keeps (sub_trans (by decide) hm) ?_
      | (refine Keeps.twin hm (by decide) ?_; assumption)
    | split
    | dsimp only

theorem State.grant_keeps {a2 : _} (hm : 1842486 ||| m = m) (h : Keeps m r s) :
    Keeps m r (State.grant s a2) := by
  unfold State.grant
  try lift_lets
  repeat (intro x; first
    | (have hx : Keeps m r x := by
        dsimp only [x]
        repeat' first
          | with_reducible first
            | assumption
            | refine Keeps.ite ?_ ?_
            | refine State.dropPlanned_keeps (sub_trans (by decide) hm) ?_
            | refine State.setRole_keeps (sub_trans (by decide) hm) ?_
            | refine State.setUnit_keeps (sub_trans (by decide) hm) ?_
            | refine State.breakLocks_keeps (sub_trans (by decide) hm) ?_
            | refine State.fault_keeps (sub_trans (by decide) hm) ?_
            | refine State.startGranted_keeps (sub_trans (by decide) hm) ?_
            | refine State.after_keeps (sub_trans (by decide) hm) ?_
            | refine State.event_keeps (sub_trans (by decide) hm) ?_
            | refine State.noStandby_keeps (sub_trans (by decide) hm) ?_
            | (refine Keeps.twin hm (by decide) ?_; assumption)
          | split
          | dsimp only
       clear_value x)
    | clear_value x)
  repeat' first
    | with_reducible first
      | assumption
      | refine Keeps.ite ?_ ?_
      | refine State.dropPlanned_keeps (sub_trans (by decide) hm) ?_
      | refine State.setRole_keeps (sub_trans (by decide) hm) ?_
      | refine State.setUnit_keeps (sub_trans (by decide) hm) ?_
      | refine State.breakLocks_keeps (sub_trans (by decide) hm) ?_
      | refine State.fault_keeps (sub_trans (by decide) hm) ?_
      | refine State.startGranted_keeps (sub_trans (by decide) hm) ?_
      | refine State.after_keeps (sub_trans (by decide) hm) ?_
      | refine State.event_keeps (sub_trans (by decide) hm) ?_
      | refine State.noStandby_keeps (sub_trans (by decide) hm) ?_
      | (refine Keeps.twin hm (by decide) ?_; assumption)
    | split
    | dsimp only

theorem State.addCause_keeps {c : Nat} (hm : 786450 ||| m = m) (h : Keeps m r s) : Keeps m r (s.addCause c) := by
  unfold State.addCause
  extract_lets old src1 src2 s1
  have h1 : Keeps m r s1 := h.step rfl rfl id (fun p hp => by cases p <;> first | rfl | exact (sub_out hm (by decide) hp).elim)
  exact Keeps.ite (State.fault_keeps (sub_trans (by decide) hm) h1) h1

theorem State.takeover_keeps {a2 : _} (hm : 1842486 ||| m = m) (h : Keeps m r s) :
    Keeps m r (State.takeover s a2) := by
  unfold State.takeover
  repeat' first
    | with_reducible first
      | assumption
      | refine Keeps.ite ?_ ?_
      | refine State.grant_keeps (sub_trans (by decide) hm) ?_
      | refine State.addCause_keeps (sub_trans (by decide) hm) ?_
    | split
    | dsimp only

theorem execGapWatchdogExpired_keeps  (hm : 1842230 ||| m = m) (h : Keeps m r s) :
    KeepsO m r (execGapWatchdogExpired s) := by
  unfold execGapWatchdogExpired
  repeat' first
    | with_reducible first
      | assumption
      | refine KeepsO.next ?_
      | exact KeepsO.fault
      | refine KeepsO.ite ?_ ?_
      | refine Keeps.ite ?_ ?_
      | refine State.disarm_keeps (sub_trans (by decide) hm) ?_
      | refine State.event_keeps (sub_trans (by decide) hm) ?_
      | refine State.setRole_keeps (sub_trans (by decide) hm) ?_
      | refine State.setHealthy_keeps (sub_trans (by decide) hm) ?_
      | refine State.noStandby_keeps (sub_trans (by decide) hm) ?_
      | (refine Keeps.twin hm (by decide) ?_; assumption)
    | split
    | dsimp only

theorem State.beginPeriod_keeps  (hm : 524292 ||| m = m) (h : Keeps m r s) :
    Keeps m r (State.beginPeriod s) := by
  unfold State.beginPeriod
  repeat' first
    | with_reducible first
      | assumption
      | refine State.after_keeps (sub_trans (by decide) hm) ?_
      | (refine Keeps.twin hm (by decide) ?_; assumption)
    | split
    | dsimp only

theorem execHeartbeatWireBeat_keeps  (hm : 524288 ||| m = m) (h : Keeps m r s) :
    KeepsO m r (execHeartbeatWireBeat s) := by
  unfold execHeartbeatWireBeat
  repeat' first
    | with_reducible first
      | assumption
      | refine KeepsO.next ?_
      | exact KeepsO.fault
      | refine KeepsO.ite ?_ ?_
      | refine Keeps.ite ?_ ?_
      | (refine Keeps.twin hm (by decide) ?_; assumption)
    | split
    | dsimp only

theorem State.handOver_keeps  (hm : 6095670 ||| m = m) (h : Keeps m r s) :
    Keeps m r (State.handOver s) := by
  unfold State.handOver
  repeat' first
    | with_reducible first
      | assumption
      | refine State.readmit_keeps (sub_trans (by decide) hm) ?_
      | refine State.event_keeps (sub_trans (by decide) hm) ?_
      | refine State.checkpoint_keeps (sub_trans (by decide) hm) ?_
    | split
    | dsimp only

theorem execHeartbeatWord_keeps {a1 : _} (hm : 6102838 ||| m = m) (h : Keeps m r s) :
    KeepsO m r (execHeartbeatWord a1 s) := by
  unfold execHeartbeatWord
  repeat' first
    | with_reducible first
      | assumption
      | refine KeepsO.next ?_
      | exact KeepsO.fault
      | refine KeepsO.ite ?_ ?_
      | refine Keeps.ite ?_ ?_
      | refine State.spendInjection_keeps (sub_trans (by decide) hm) ?_
      | refine State.takeover_keeps (sub_trans (by decide) hm) ?_
      | refine State.handOver_keeps (sub_trans (by decide) hm) ?_
      | (refine Keeps.twin hm (by decide) ?_; assumption)
    | split
    | dsimp only

theorem State.endPath_keeps {a2 : _} {a3 : _} {a4 : _} {a5 : _} (hm : 262162 ||| m = m) (h : Keeps m r s) :
    Keeps m r (State.endPath s a2 a3 a4 a5) := by
  unfold State.endPath
  repeat' first
    | with_reducible first
      | assumption
      | refine Keeps.ite ?_ ?_
      | refine State.detect_keeps (sub_trans (by decide) hm) ?_
      | refine State.event_keeps (sub_trans (by decide) hm) ?_
      | refine State.bump_keeps (sub_trans (by decide) hm) ?_
      | refine State.setn_keeps (sub_trans (by decide) hm) ?_
      | refine State.faultOff_keeps (sub_trans (by decide) hm) ?_
    | split
    | dsimp only

theorem execHeartbeatPeriodEnd_keeps  (hm : 1842486 ||| m = m) (h : Keeps m r s) :
    KeepsO m r (execHeartbeatPeriodEnd s) := by
  unfold execHeartbeatPeriodEnd
  try lift_lets
  repeat (intro x; first
    | (have hx : Keeps m r x := by
        dsimp only [x]
        repeat' first
          | with_reducible first
            | assumption
            | refine KeepsO.next ?_
            | exact KeepsO.fault
            | refine KeepsO.ite ?_ ?_
            | refine Keeps.ite ?_ ?_
            | refine State.spendInjection_keeps (sub_trans (by decide) hm) ?_
            | refine State.endPath_keeps (sub_trans (by decide) hm) ?_
            | refine State.beginPeriod_keeps (sub_trans (by decide) hm) ?_
            | refine State.takeover_keeps (sub_trans (by decide) hm) ?_
            | (refine Keeps.twin hm (by decide) ?_; assumption)
          | split
          | dsimp only
       clear_value x)
    | clear_value x)
  repeat' first
    | with_reducible first
      | assumption
      | refine KeepsO.next ?_
      | exact KeepsO.fault
      | refine KeepsO.ite ?_ ?_
      | refine Keeps.ite ?_ ?_
      | refine State.spendInjection_keeps (sub_trans (by decide) hm) ?_
      | refine State.endPath_keeps (sub_trans (by decide) hm) ?_
      | refine State.beginPeriod_keeps (sub_trans (by decide) hm) ?_
      | refine State.takeover_keeps (sub_trans (by decide) hm) ?_
      | (refine Keeps.twin hm (by decide) ?_; assumption)
    | split
    | dsimp only

theorem execSequencerHwFailure_keeps {a1 : _} {a2 : _} {a3 : _} (hm : 1842486 ||| m = m) (h : Keeps m r s) :
    KeepsO m r (execSequencerHwFailure a1 a2 a3 s) := by
  unfold execSequencerHwFailure
  repeat' first
    | with_reducible first
      | assumption
      | refine KeepsO.next ?_
      | exact KeepsO.fault
      | refine KeepsO.ite ?_ ?_
      | refine Keeps.ite ?_ ?_
      | refine State.event_keeps (sub_trans (by decide) hm) ?_
      | refine State.fault_keeps (sub_trans (by decide) hm) ?_
      | refine State.takeover_keeps (sub_trans (by decide) hm) ?_
      | refine State.setRole_keeps (sub_trans (by decide) hm) ?_
      | refine State.setHealthy_keeps (sub_trans (by decide) hm) ?_
    | split
    | dsimp only

theorem State.sequencerLocks_keeps  (hm : 5512246 ||| m = m) (h : Keeps m r s) :
    Keeps m r (State.sequencerLocks s) := by
  unfold State.sequencerLocks
  try lift_lets
  repeat (intro x; first
    | (have hx : Keeps m r x := by
        dsimp only [x]
        repeat' first
          | with_reducible first
            | assumption
            | refine Keeps.ite ?_ ?_
            | refine State.startGranted_keeps (sub_trans (by decide) hm) ?_
            | refine State.draw_keeps (sub_trans (by decide) hm) ?_
            | refine State.releaseLock_keeps (sub_trans (by decide) hm) ?_
            | refine State.takeLock_keeps (sub_trans (by decide) hm) ?_
            | refine Keeps.each ?_ ?_
          | (intro t x ht)
          | (intro t ht)
          | (intro t y z ht)
          | (intro ht)
          | split
          | dsimp only
       clear_value x)
    | clear_value x)
  repeat' first
    | with_reducible first
      | assumption
      | refine Keeps.ite ?_ ?_
      | refine State.startGranted_keeps (sub_trans (by decide) hm) ?_
      | refine State.draw_keeps (sub_trans (by decide) hm) ?_
      | refine State.releaseLock_keeps (sub_trans (by decide) hm) ?_
      | refine State.takeLock_keeps (sub_trans (by decide) hm) ?_
      | refine Keeps.each ?_ ?_
    | (intro t x ht)
    | (intro t ht)
    | (intro t y z ht)
    | (intro ht)
    | split
    | dsimp only

theorem execCheckpointDelta_keeps  (hm : 6102582 ||| m = m) (h : Keeps m r s) :
    KeepsO m r (execCheckpointDelta s) := by
  unfold execCheckpointDelta
  repeat' first
    | with_reducible first
      | assumption
      | refine KeepsO.next ?_
      | exact KeepsO.fault
      | refine KeepsO.ite ?_ ?_
      | refine Keeps.ite ?_ ?_
      | refine State.after_keeps (sub_trans (by decide) hm) ?_
      | refine State.checkpoint_keeps (sub_trans (by decide) hm) ?_
      | refine State.sequencerLocks_keeps (sub_trans (by decide) hm) ?_
    | split
    | dsimp only

theorem State.publishReport_keeps {a2 : _} {a3 : _} (hm : 2 ||| m = m) (h : Keeps m r s) :
    Keeps m r (State.publishReport s a2 a3) := by
  unfold State.publishReport
  repeat' first
    | with_reducible first
      | assumption
      | refine State.setb_keeps (sub_trans (by decide) hm) ?_
      | refine State.setn_keeps (sub_trans (by decide) hm) ?_
      | refine State.bump_keeps (sub_trans (by decide) hm) ?_
    | split
    | dsimp only

theorem execHealthReport_keeps {a1 : _} {a2 : _} {a3 : _} (hm : 5046806 ||| m = m) (h : Keeps m r s) :
    KeepsO m r (execHealthReport a1 a2 a3 s) := by
  unfold execHealthReport
  try lift_lets
  repeat (intro x; first
    | (have hx : Keeps m r x := by
        dsimp only [x]
        repeat' first
          | with_reducible first
            | assumption
            | refine KeepsO.next ?_
            | exact KeepsO.fault
            | refine KeepsO.ite ?_ ?_
            | refine Keeps.ite ?_ ?_
            | refine State.after_keeps (sub_trans (by decide) hm) ?_
            | refine State.newBase_keeps (sub_trans (by decide) hm) ?_
            | refine State.faultInjected_keeps (sub_trans (by decide) hm) ?_
            | refine State.publishReport_keeps (sub_trans (by decide) hm) ?_
            | refine State.setUnit_keeps (sub_trans (by decide) hm) ?_
            | refine State.fault_keeps (sub_trans (by decide) hm) ?_
            | refine State.setHealthy_keeps (sub_trans (by decide) hm) ?_
            | refine State.setRole_keeps (sub_trans (by decide) hm) ?_
            | refine Keeps.foldl ?_ ?_
          | (intro t x ht)
          | (intro t ht)
          | (intro t y z ht)
          | (intro ht)
          | split
          | dsimp only
       clear_value x)
    | clear_value x)
  repeat' first
    | with_reducible first
      | assumption
      | refine KeepsO.next ?_
      | exact KeepsO.fault
      | refine KeepsO.ite ?_ ?_
      | refine Keeps.ite ?_ ?_
      | refine State.after_keeps (sub_trans (by decide) hm) ?_
      | refine State.newBase_keeps (sub_trans (by decide) hm) ?_
      | refine State.faultInjected_keeps (sub_trans (by decide) hm) ?_
      | refine State.publishReport_keeps (sub_trans (by decide) hm) ?_
      | refine State.setUnit_keeps (sub_trans (by decide) hm) ?_
      | refine State.fault_keeps (sub_trans (by decide) hm) ?_
      | refine State.setHealthy_keeps (sub_trans (by decide) hm) ?_
      | refine State.setRole_keeps (sub_trans (by decide) hm) ?_
      | refine Keeps.foldl ?_ ?_
    | (intro t x ht)
    | (intro t ht)
    | (intro t y z ht)
    | (intro ht)
    | split
    | dsimp only

theorem State.standbyReload_keeps {a2 : _} (hm : 524310 ||| m = m) (h : Keeps m r s) :
    Keeps m r (State.standbyReload s a2) := by
  unfold State.standbyReload
  repeat' first
    | with_reducible first
      | assumption
      | refine State.setUnit_keeps (sub_trans (by decide) hm) ?_
      | refine State.setHealthy_keeps (sub_trans (by decide) hm) ?_
      | refine State.event_keeps (sub_trans (by decide) hm) ?_
      | refine State.setRole_keeps (sub_trans (by decide) hm) ?_
    | split
    | dsimp only

theorem State.plannedSwitch_keeps {n : Nat} (hm : 1638710 ||| m = m) (h : Keeps m r s) :
    Keeps m r (s.plannedSwitch n) := by
  unfold State.plannedSwitch
  dsimp only
  have h1 : Keeps m r { s with twin := { s.twin with planned := n }, pages := { s.pages with stopped := true } } := h.step rfl rfl id (fun p hp => by cases p <;> first | rfl | exact (sub_out hm (by decide) hp).elim)
  split
  · exact State.after_keeps (sub_trans (by decide) hm) (State.event_keeps (sub_trans (by decide) hm) h1)
  · split
    · exact State.readmit_keeps (sub_trans (by decide) hm) (State.event_keeps (sub_trans (by decide) hm) h1)
    · exact State.event_keeps (sub_trans (by decide) hm) h1

theorem execPlannedWaitExpired_keeps  (hm : 1638710 ||| m = m) (h : Keeps m r s) :
    KeepsO m r (execPlannedWaitExpired s) := by
  unfold execPlannedWaitExpired
  repeat' first
    | with_reducible first
      | assumption
      | refine KeepsO.next ?_
      | exact KeepsO.fault
      | refine KeepsO.ite ?_ ?_
      | refine Keeps.ite ?_ ?_
      | refine State.disarm_keeps (sub_trans (by decide) hm) ?_
      | refine State.readmit_keeps (sub_trans (by decide) hm) ?_
      | (refine Keeps.twin hm (by decide) ?_; assumption)
    | split
    | dsimp only

theorem State.unitReinit_keeps {a2 : _} (hm : 525334 ||| m = m) (h : Keeps m r s) :
    Keeps m r (State.unitReinit s a2) := by
  unfold State.unitReinit
  repeat' first
    | with_reducible first
      | assumption
      | refine State.startUnit_keeps (sub_trans (by decide) hm) ?_
      | refine State.breakLocks_keeps (sub_trans (by decide) hm) ?_
      | refine State.setHealthy_keeps (sub_trans (by decide) hm) ?_
    | split
    | dsimp only

/-! ## Domains -/

theorem State.leaveOp_keeps  (hm : 1114422 ||| m = m) (h : Keeps m r s) :
    Keeps m r (State.leaveOp s) := by
  unfold State.leaveOp
  repeat' first
    | with_reducible first
      | assumption
      | refine Keeps.ite ?_ ?_
      | refine State.event_keeps (sub_trans (by decide) hm) ?_
      | refine State.commitOff_keeps (sub_trans (by decide) hm) ?_
    | split
    | dsimp only

theorem State.setEsm_keeps {a2 : _} {a3 : _} (hm : 3480886 ||| m = m) (h : Keeps m r s) :
    Keeps m r (State.setEsm s a2 a3) := by
  unfold State.setEsm
  try lift_lets
  repeat (intro x; first
    | (have hx : Keeps m r x := by
        dsimp only [x]
        repeat' first
          | with_reducible first
            | assumption
            | refine Keeps.ite ?_ ?_
            | refine State.event_keeps (sub_trans (by decide) hm) ?_
            | refine State.setn_keeps (sub_trans (by decide) hm) ?_
            | refine State.leaveOp_keeps (sub_trans (by decide) hm) ?_
            | refine State.startGranted_keeps (sub_trans (by decide) hm) ?_
            | refine State.breakLocks_keeps (sub_trans (by decide) hm) ?_
            | (refine Keeps.svc hm (by decide) ?_; assumption)
          | split
          | dsimp only
       clear_value x)
    | clear_value x)
  repeat' first
    | with_reducible first
      | assumption
      | refine Keeps.ite ?_ ?_
      | refine State.event_keeps (sub_trans (by decide) hm) ?_
      | refine State.setn_keeps (sub_trans (by decide) hm) ?_
      | refine State.leaveOp_keeps (sub_trans (by decide) hm) ?_
      | refine State.startGranted_keeps (sub_trans (by decide) hm) ?_
      | refine State.breakLocks_keeps (sub_trans (by decide) hm) ?_
      | (refine Keeps.svc hm (by decide) ?_; assumption)
    | split
    | dsimp only

theorem State.undoWrite_keeps {a2 : _} (hm : 2 ||| m = m) (h : Keeps m r s) :
    Keeps m r (State.undoWrite s a2) := by
  unfold State.undoWrite
  try lift_lets
  repeat (intro x; first
    | (have hx : Keeps m r x := by
        dsimp only [x]
        repeat' first
          | with_reducible first
            | assumption
            | refine State.put_keeps (sub_trans (by decide) hm) ?_
            | refine Keeps.each ?_ ?_
          | (intro t x ht)
          | (intro t ht)
          | (intro t y z ht)
          | (intro ht)
          | split
          | dsimp only
       clear_value x)
    | (have hx : Keeps m r x.1 := by
        dsimp only [x]
        repeat' first
          | with_reducible first
            | assumption
            | refine State.put_keeps (sub_trans (by decide) hm) ?_
            | refine Keeps.each ?_ ?_
          | (intro t x ht)
          | (intro t ht)
          | (intro t y z ht)
          | (intro ht)
          | split
          | dsimp only
       clear_value x)
    | clear_value x)
  repeat' first
    | with_reducible first
      | assumption
      | refine State.put_keeps (sub_trans (by decide) hm) ?_
      | refine Keeps.each ?_ ?_
    | (intro t x ht)
    | (intro t ht)
    | (intro t y z ht)
    | (intro ht)
    | split
    | dsimp only

theorem State.restoreEntries_keeps (hm : 524306 ||| m = m) (h : Keeps m r s) :
    Keeps m r s.restoreEntries := by
  unfold State.restoreEntries
  dsimp only
  have h1 : ∀ (l : List _) e, Keeps m r (((l.foldl State.undoWrite s).event 23 e)) :=
    fun l e => State.event_keeps (sub_trans (by decide) hm) (Keeps.foldl (fun t x ht => State.undoWrite_keeps (sub_trans (by decide) hm) ht) h)
  split
  · split
    · exact h
    · exact Keeps.twin hm (by decide) (h1 _ _)
  · refine State.event_keeps (sub_trans (by decide) hm) ?_
    split
    · exact h
    · exact Keeps.twin hm (by decide) (h1 _ _)

theorem State.reportLost_keeps {a2 : _} (hm : 1048886 ||| m = m) (h : Keeps m r s) :
    Keeps m r (State.reportLost s a2) := by
  unfold State.reportLost
  repeat' first
    | with_reducible first
      | assumption
      | refine Keeps.ite ?_ ?_
      | refine State.reportPage_keeps (sub_trans (by decide) hm) ?_
      | refine State.bump_keeps (sub_trans (by decide) hm) ?_
    | split
    | dsimp only

theorem State.reportTable_keeps {a2 : _} (hm : 1048886 ||| m = m) (h : Keeps m r s) :
    Keeps m r (State.reportTable s a2) := by
  unfold State.reportTable
  try lift_lets
  repeat (intro x; first
    | (have hx : Keeps m r x := by
        dsimp only [x]
        repeat' first
          | with_reducible first
            | assumption
            | refine State.reportLost_keeps (sub_trans (by decide) hm) ?_
            | refine Keeps.each ?_ ?_
            | (refine Keeps.pages hm (by decide) ?_; assumption)
          | (intro t x ht)
          | (intro t ht)
          | (intro t y z ht)
          | (intro ht)
          | split
          | dsimp only
       clear_value x)
    | clear_value x)
  repeat' first
    | with_reducible first
      | assumption
      | refine State.reportLost_keeps (sub_trans (by decide) hm) ?_
      | refine Keeps.each ?_ ?_
      | (refine Keeps.pages hm (by decide) ?_; assumption)
    | (intro t x ht)
    | (intro t ht)
    | (intro t y z ht)
    | (intro ht)
    | split
    | dsimp only

theorem State.readmitAll_keeps  (hm : 1114422 ||| m = m) (h : Keeps m r s) :
    Keeps m r (State.readmitAll s) := by
  unfold State.readmitAll
  try lift_lets
  repeat (intro x; first
    | (have hx : Keeps m r x := by
        dsimp only [x]
        repeat' first
          | with_reducible first
            | assumption
            | refine State.readmit_keeps (sub_trans (by decide) hm) ?_
            | refine Keeps.each ?_ ?_
          | (intro t x ht)
          | (intro t ht)
          | (intro t y z ht)
          | (intro ht)
          | split
          | dsimp only
       clear_value x)
    | clear_value x)
  repeat' first
    | with_reducible first
      | assumption
      | refine State.readmit_keeps (sub_trans (by decide) hm) ?_
      | refine Keeps.each ?_ ?_
    | (intro t x ht)
    | (intro t ht)
    | (intro t y z ht)
    | (intro ht)
    | split
    | dsimp only

theorem State.flushGap_keeps  (hm : 1048886 ||| m = m) (h : Keeps m r s) :
    Keeps m r (State.flushGap s) := by
  unfold State.flushGap
  try lift_lets
  repeat (intro x; first
    | (have hx : Keeps m r x := by
        dsimp only [x]
        repeat' first
          | with_reducible first
            | assumption
            | refine State.produce_keeps (sub_trans (by decide) hm) ?_
            | refine Keeps.each ?_ ?_
            | (refine Keeps.pages hm (by decide) ?_; assumption)
          | (intro t x ht)
          | (intro t ht)
          | (intro t y z ht)
          | (intro ht)
          | split
          | dsimp only
       clear_value x)
    | (have hx : Keeps m r x.1 := by
        dsimp only [x]
        repeat' first
          | with_reducible first
            | assumption
            | refine State.produce_keeps (sub_trans (by decide) hm) ?_
            | refine Keeps.each ?_ ?_
            | (refine Keeps.pages hm (by decide) ?_; assumption)
          | (intro t x ht)
          | (intro t ht)
          | (intro t y z ht)
          | (intro ht)
          | split
          | dsimp only
       clear_value x)
    | clear_value x)
  repeat' first
    | with_reducible first
      | assumption
      | refine State.produce_keeps (sub_trans (by decide) hm) ?_
      | refine Keeps.each ?_ ?_
      | (refine Keeps.pages hm (by decide) ?_; assumption)
    | (intro t x ht)
    | (intro t ht)
    | (intro t y z ht)
    | (intro ht)
    | split
    | dsimp only

theorem State.regate_keeps  (hm : 258 ||| m = m) (h : Keeps m r s) :
    Keeps m r (State.regate s) := by
  unfold State.regate
  repeat' first
    | with_reducible first
      | assumption
      | refine Keeps.ite ?_ ?_
      | refine State.setn_keeps (sub_trans (by decide) hm) ?_
      | refine Keeps.foldl ?_ ?_
      | (refine Keeps.pages hm (by decide) ?_; assumption)
    | split
    | dsimp only

theorem State.takeUp_keeps  (hm : 1638710 ||| m = m) (h : Keeps m r s) :
    Keeps m r (State.takeUp s) := by
  unfold State.takeUp
  try lift_lets
  repeat (intro x; first
    | (have hx : Keeps m r x := by
        dsimp only [x]
        repeat' first
          | with_reducible first
            | assumption
            | refine Keeps.ite ?_ ?_
            | refine State.restoreEntries_keeps (sub_trans (by decide) hm) ?_
            | refine State.reportTable_keeps (sub_trans (by decide) hm) ?_
            | refine State.readmitAll_keeps (sub_trans (by decide) hm) ?_
            | (refine Keeps.pages hm (by decide) ?_; assumption)
          | (intro t x ht)
          | (intro t ht)
          | (intro t y z ht)
          | (intro ht)
          | split
          | dsimp only
       clear_value x)
    | clear_value x)
  repeat' first
    | with_reducible first
      | assumption
      | refine Keeps.ite ?_ ?_
      | refine State.restoreEntries_keeps (sub_trans (by decide) hm) ?_
      | refine State.reportTable_keeps (sub_trans (by decide) hm) ?_
      | refine State.readmitAll_keeps (sub_trans (by decide) hm) ?_
      | (refine Keeps.pages hm (by decide) ?_; assumption)
    | (intro t x ht)
    | (intro t ht)
    | (intro t y z ht)
    | (intro ht)
    | split
    | dsimp only

theorem State.bringUp_keeps (hm : 4005174 ||| m = m) (h : Keeps m r s) :
    Keeps m r s.bringUp := by
  unfold State.bringUp
  split
  · have h1 : Keeps m r s.takeUp := State.takeUp_keeps (sub_trans (by decide) hm) h
    generalize s.takeUp = s1 at h1 ⊢
    have h2 : Keeps m r { s1 with twin := { s1.twin with dictionaryUp := true }, trust := { s1.trust with started := true } } := h1.step rfl rfl id (fun p hp => by cases p <;> first | rfl | exact (sub_out hm (by decide) hp).elim)
    have h3 := State.flushGap_keeps (m := m) (r := r) (sub_trans (by decide) hm) (State.setn_keeps (a2 := K 0x2011 8) (a3 := 0) (sub_trans (by decide) hm) (State.disarm_keeps (a2 := tmBoot) (sub_trans (by decide) hm) h2))
    dsimp only
    split
    · exact h3
    · exact State.setEsm_keeps (sub_trans (by decide) hm) (Keeps.svc hm (by decide) h3)
  · exact h

theorem State.restartObjects_keeps {l : List (Nat × Nat)} (hm : 2 ||| m = m) (h : Keeps m r s) :
    Keeps m r (s.restartObjects l) :=
  h.step rfl rfl (fun hs => ⟨Tab.ok_filter _ _ _ hs.1, hs.2⟩)
    (fun p hp => by cases p <;> first | rfl | exact (sub_out hm (by decide) hp).elim)

theorem State.restartPress_keeps {a2 : _} (hm : 2 ||| m = m) (h : Keeps m r s) :
    Keeps m r (State.restartPress s a2) := by
  unfold State.restartPress
  try lift_lets
  repeat (intro x; first
    | (have hx : Keeps m r x := by
        dsimp only [x]
        repeat' first
          | with_reducible first
            | assumption
            | refine Keeps.ite ?_ ?_
            | refine State.forgetOne_keeps (sub_trans (by decide) hm) ?_
            | refine Keeps.each ?_ ?_
          | (intro t x ht)
          | (intro t ht)
          | (intro t y z ht)
          | (intro ht)
          | split
          | dsimp only
       clear_value x)
    | clear_value x)
  repeat' first
    | with_reducible first
      | assumption
      | refine Keeps.ite ?_ ?_
      | refine State.forgetOne_keeps (sub_trans (by decide) hm) ?_
      | refine Keeps.each ?_ ?_
    | (intro t x ht)
    | (intro t ht)
    | (intro t y z ht)
    | (intro ht)
    | split
    | dsimp only

theorem Keeps.dramEmpty {c : Nat} (hm : c ||| m = m) (hc : c.testBit 10 = true) (hw : c.testBit 11 = true)
    (h8 : c.testBit 8 = true) (h9 : c.testBit 9 = true) (h19 : c.testBit 19 = true) {x : Fabric} {a : _} {b : _} {d : _}
    (he : x.window = []) (hh : x.host = s.fabric.host) (h : Keeps m r s) :
    Keeps m r { s with pages := a, press := b, fabric := x, twin := d } :=
  h.step rfl rfl (fun hs => ⟨hs.1, by rw [he]; rfl, by rw [hh]; exact hs.2.2⟩)
    (fun p hp => by
      cases p
      all_goals first
        | rfl
        | exact hh
        | exact (sub_out hm hc hp).elim
        | exact (sub_out hm hw hp).elim
        | exact (sub_out hm h8 hp).elim
        | exact (sub_out hm h9 hp).elim
        | exact (sub_out hm h19 hp).elim)

theorem State.dramDown_keeps (hm : 528262 ||| m = m) (h : Keeps m r s) :
    Keeps m r s.dramDown := by
  unfold State.dramDown
  have h1 := Keeps.each (l := upFrom 1 6) (f := fun t n =>
    if (t.station n).image.going ∨ (t.station n).image.closing = true then
      ((t.setStation n { t.station n with image := {} }).setn (sk n 2 8) 0).setn (sk n 0 7) 0
    else t) (fun t x ht => Keeps.ite (State.setn_keeps (sub_trans (by decide) hm) (State.setn_keeps (sub_trans (by decide) hm) (State.setStation_keeps (sub_trans (by decide) hm) ht))) ht) h
  have h2 := Keeps.each (l := pagePlaces) (f := fun t i => (t.disarm (tmDeadline i)).disarm (tmWindow i))
    (fun t x ht => State.disarm_keeps (sub_trans (by decide) hm) (State.disarm_keeps (sub_trans (by decide) hm) ht)) h1
  have h3 := Keeps.each (l := decodeCodes ++ checkCodes) (f := fun t c => t.setLane c { t.lane c with page := 0, block := 0 })
    (fun t x ht => State.setLane_keeps (sub_trans (by decide) hm) ht) h2
  dsimp only
  generalize State.each _ (decodeCodes ++ checkCodes) _ = s1 at h3 ⊢
  exact State.disarm_keeps (sub_trans (by decide) hm) (Keeps.dramEmpty hm (by decide) (by decide) (by decide) (by decide) (by decide) rfl rfl h3)

theorem State.positionDown_keeps  (hm : 30 ||| m = m) (h : Keeps m r s) :
    Keeps m r (State.positionDown s) := by
  unfold State.positionDown
  try lift_lets
  repeat (intro x; first
    | (have hx : Keeps m r x := by
        dsimp only [x]
        repeat' first
          | with_reducible first
            | assumption
            | refine State.freeSlots_keeps (sub_trans (by decide) hm) ?_
            | refine State.holdA1_keeps (sub_trans (by decide) hm) ?_
            | refine State.setEnc_keeps (sub_trans (by decide) hm) ?_
            | refine State.disarm_keeps (sub_trans (by decide) hm) ?_
            | refine State.setLoop_keeps (sub_trans (by decide) hm) ?_
            | refine Keeps.each ?_ ?_
            | (refine Keeps.pos hm (by decide) ?_; assumption)
          | (intro t x ht)
          | (intro t ht)
          | (intro t y z ht)
          | (intro ht)
          | split
          | dsimp only
       clear_value x)
    | clear_value x)
  repeat' first
    | with_reducible first
      | assumption
      | refine State.freeSlots_keeps (sub_trans (by decide) hm) ?_
      | refine State.holdA1_keeps (sub_trans (by decide) hm) ?_
      | refine State.setEnc_keeps (sub_trans (by decide) hm) ?_
      | refine State.disarm_keeps (sub_trans (by decide) hm) ?_
      | refine State.setLoop_keeps (sub_trans (by decide) hm) ?_
      | refine Keeps.each ?_ ?_
      | (refine Keeps.pos hm (by decide) ?_; assumption)
    | (intro t x ht)
    | (intro t ht)
    | (intro t y z ht)
    | (intro ht)
    | split
    | dsimp only

theorem State.scanDown_keeps  (hm : 303830 ||| m = m) (h : Keeps m r s) :
    Keeps m r (State.scanDown s) := by
  unfold State.scanDown
  try lift_lets
  repeat (intro x; first
    | (have hx : Keeps m r x := by
        dsimp only [x]
        repeat' first
          | with_reducible first
            | assumption
            | refine State.refreshPolygon_keeps (sub_trans (by decide) hm) ?_
            | refine State.polygonIdle_keeps (sub_trans (by decide) hm) ?_
            | refine State.setb_keeps (sub_trans (by decide) hm) ?_
            | refine State.driveDown_keeps (sub_trans (by decide) hm) ?_
            | refine Keeps.each ?_ ?_
          | (intro t x ht)
          | (intro t ht)
          | (intro t y z ht)
          | (intro ht)
          | split
          | dsimp only
       clear_value x)
    | clear_value x)
  repeat' first
    | with_reducible first
      | assumption
      | refine State.refreshPolygon_keeps (sub_trans (by decide) hm) ?_
      | refine State.polygonIdle_keeps (sub_trans (by decide) hm) ?_
      | refine State.setb_keeps (sub_trans (by decide) hm) ?_
      | refine State.driveDown_keeps (sub_trans (by decide) hm) ?_
      | refine Keeps.each ?_ ?_
    | (intro t x ht)
    | (intro t ht)
    | (intro t y z ht)
    | (intro ht)
    | split
    | dsimp only

theorem State.linkDown_keeps  (hm : 9772598 ||| m = m) (h : Keeps m r s) :
    Keeps m r (State.linkDown s) := by
  unfold State.linkDown
  repeat' first
    | with_reducible first
      | assumption
      | refine Keeps.ite ?_ ?_
      | refine State.linkLost_keeps (sub_trans (by decide) hm) ?_
      | refine State.startGranted_keeps (sub_trans (by decide) hm) ?_
      | refine State.endLadleJobs_keeps (sub_trans (by decide) hm) ?_
    | split
    | dsimp only

theorem State.domainDown_keeps {a2 : _} (hm : 16646142 ||| m = m) (h : Keeps m r s) :
    Keeps m r (State.domainDown s a2) := by
  unfold State.domainDown
  try lift_lets
  repeat (intro x; first
    | (have hx : Keeps m r x := by
        dsimp only [x]
        repeat' first
          | with_reducible first
            | assumption
            | refine State.unitDown_keeps (sub_trans (by decide) hm) ?_
            | refine State.dramDown_keeps (sub_trans (by decide) hm) ?_
            | refine State.pressDown_keeps (sub_trans (by decide) hm) ?_
            | refine State.linkDown_keeps (sub_trans (by decide) hm) ?_
            | refine State.setEsm_keeps (sub_trans (by decide) hm) ?_
            | refine State.stationDown_keeps (sub_trans (by decide) hm) ?_
            | refine State.scanDown_keeps (sub_trans (by decide) hm) ?_
            | refine State.driveDown_keeps (sub_trans (by decide) hm) ?_
            | refine State.steppersDown_keeps (sub_trans (by decide) hm) ?_
            | refine State.loopsDown_keeps (sub_trans (by decide) hm) ?_
            | refine State.positionDown_keeps (sub_trans (by decide) hm) ?_
            | refine Keeps.each ?_ ?_
            | (refine Keeps.svc hm (by decide) ?_; assumption)
          | (intro t x ht)
          | (intro t ht)
          | (intro t y z ht)
          | (intro ht)
          | split
          | dsimp only
       clear_value x)
    | clear_value x)
  repeat' first
    | with_reducible first
      | assumption
      | refine State.unitDown_keeps (sub_trans (by decide) hm) ?_
      | refine State.dramDown_keeps (sub_trans (by decide) hm) ?_
      | refine State.pressDown_keeps (sub_trans (by decide) hm) ?_
      | refine State.linkDown_keeps (sub_trans (by decide) hm) ?_
      | refine State.setEsm_keeps (sub_trans (by decide) hm) ?_
      | refine State.stationDown_keeps (sub_trans (by decide) hm) ?_
      | refine State.scanDown_keeps (sub_trans (by decide) hm) ?_
      | refine State.driveDown_keeps (sub_trans (by decide) hm) ?_
      | refine State.steppersDown_keeps (sub_trans (by decide) hm) ?_
      | refine State.loopsDown_keeps (sub_trans (by decide) hm) ?_
      | refine State.positionDown_keeps (sub_trans (by decide) hm) ?_
      | refine Keeps.each ?_ ?_
      | (refine Keeps.svc hm (by decide) ?_; assumption)
    | (intro t x ht)
    | (intro t ht)
    | (intro t y z ht)
    | (intro ht)
    | split
    | dsimp only

theorem State.domainOff_keeps {a2 : _} (hm : 65554 ||| m = m) (h : Keeps m r s) :
    Keeps m r (State.domainOff s a2) := by
  unfold State.domainOff
  repeat' first
    | with_reducible first
      | assumption
      | refine Keeps.ite ?_ ?_
      | refine State.crockDown_keeps (sub_trans (by decide) hm) ?_
    | split
    | dsimp only

theorem State.stationsUp_keeps {a2 : _} {a3 : _} (hm : 262290 ||| m = m) (h : Keeps m r s) :
    Keeps m r (State.stationsUp s a2 a3) := by
  unfold State.stationsUp
  try lift_lets
  repeat (intro x; first
    | (have hx : Keeps m r x := by
        dsimp only [x]
        repeat' first
          | with_reducible first
            | assumption
            | refine State.stationUp_keeps (sub_trans (by decide) hm) ?_
            | refine Keeps.each ?_ ?_
          | (intro t x ht)
          | (intro t ht)
          | (intro t y z ht)
          | (intro ht)
          | split
          | dsimp only
       clear_value x)
    | (have hx : Keeps m r x.1 := by
        dsimp only [x]
        repeat' first
          | with_reducible first
            | assumption
            | refine State.stationUp_keeps (sub_trans (by decide) hm) ?_
            | refine Keeps.each ?_ ?_
          | (intro t x ht)
          | (intro t ht)
          | (intro t y z ht)
          | (intro ht)
          | split
          | dsimp only
       clear_value x)
    | clear_value x)
  repeat' first
    | with_reducible first
      | assumption
      | refine State.stationUp_keeps (sub_trans (by decide) hm) ?_
      | refine Keeps.each ?_ ?_
    | (intro t x ht)
    | (intro t ht)
    | (intro t y z ht)
    | (intro ht)
    | split
    | dsimp only

theorem State.oldDriverState_keeps {a2 : _} {a3 : _} (hm : 2 ||| m = m) (h : Keeps m r s) :
    Keeps m r (State.oldDriverState s a2 a3) := by
  unfold State.oldDriverState
  try lift_lets
  repeat (intro x; first
    | (have hx : Keeps m r x := by
        dsimp only [x]
        repeat' first
          | with_reducible first
            | assumption
            | refine State.setn_keeps (sub_trans (by decide) hm) ?_
            | refine Keeps.each ?_ ?_
          | (intro t x ht)
          | (intro t ht)
          | (intro t y z ht)
          | (intro ht)
          | split
          | dsimp only
       clear_value x)
    | clear_value x)
  repeat' first
    | with_reducible first
      | assumption
      | refine State.setn_keeps (sub_trans (by decide) hm) ?_
      | refine Keeps.each ?_ ?_
    | (intro t x ht)
    | (intro t ht)
    | (intro t y z ht)
    | (intro ht)
    | split
    | dsimp only

theorem State.freshRings_keeps  (hm : 32 ||| m = m) (h : Keeps m r s) :
    Keeps m r (State.freshRings s) := by
  unfold State.freshRings
  repeat' first
    | with_reducible first
      | assumption
      | (refine Keeps.rings hm (by decide) ?_; assumption)
    | split
    | dsimp only

theorem State.domainUp_keeps {pd : Nat} {a : List (Nat × List Frame)} (hm : 4022270 ||| m = m) (h : Keeps m r s) :
    Keeps m r (s.domainUp pd a) := by
  unfold State.domainUp
  have h1 : Keeps m r (s.restartObjects (domainObjects pd)) := State.restartObjects_keeps (sub_trans (by decide) hm) h
  dsimp only
  refine State.bringUp_keeps (sub_trans (by decide) hm) ?_
  split
  · exact State.startUnit_keeps (sub_trans (by decide) hm) h1
  · exact State.startUnit_keeps (sub_trans (by decide) hm) h1
  · exact State.startScrub_keeps (sub_trans (by decide) hm) (Keeps.fabric hm (by decide) rfl rfl h1)
  · exact State.pressUp_keeps (sub_trans (by decide) hm) (State.restartPress_keeps (sub_trans (by decide) hm) h1)
  · exact State.pressUp_keeps (sub_trans (by decide) hm) (State.restartPress_keeps (sub_trans (by decide) hm) h1)
  · exact State.crockUpPower_keeps (sub_trans (by decide) hm) h1
  · exact State.freshRings_keeps (sub_trans (by decide) hm) h1
  · exact State.stationsUp_keeps (sub_trans (by decide) hm) (State.oldDriverState_keeps (sub_trans (by decide) hm) h1)
  · exact State.stationsUp_keeps (sub_trans (by decide) hm) (State.oldDriverState_keeps (sub_trans (by decide) hm) h1)
  · exact State.stationsUp_keeps (sub_trans (by decide) hm) (State.oldDriverState_keeps (sub_trans (by decide) hm) h1)
  · exact Keeps.polygons hm (by decide) h1
  · exact State.steppersUp_keeps (sub_trans (by decide) hm) h1
  · exact Keeps.pos hm (by decide) h1
  · exact h1

end Sys2Proof.Machine
end

