-- ==== Sys2Proof/Laws/Keeps5.lean ====
section
/-! SUPPORT. What every operation of these files of the model keeps: Power, Lid, Attest, Effects, Dictionary, Ownership. -/

namespace Sys2Proof.Machine

variable {m : Nat} {r s : State}

/-! ## Power -/

theorem State.setQuiesce_keeps {a2 : _} {a3 : _} (hm : 4653074 ||| m = m) (h : Keeps m r s) :
    Keeps m r (State.setQuiesce s a2 a3) := by
  unfold State.setQuiesce
  repeat' first
    | with_reducible first
      | assumption
      | refine Keeps.ite ?_ ?_
      | refine State.crockQuiesce_keeps (sub_trans (by decide) hm) ?_
      | refine State.event_keeps (sub_trans (by decide) hm) ?_
      | refine State.draw_keeps (sub_trans (by decide) hm) ?_
      | refine State.crockResume_keeps (sub_trans (by decide) hm) ?_
      | (refine Keeps.power hm (by decide) ?_; assumption)
    | split
    | dsimp only

theorem State.setDomainState_keeps {a2 : _} {a3 : _} {a4 : _} (hm : 131088 ||| m = m) (h : Keeps m r s) :
    Keeps m r (State.setDomainState s a2 a3 a4) := by
  unfold State.setDomainState
  repeat' first
    | with_reducible first
      | assumption
      | refine Keeps.ite ?_ ?_
      | refine State.event_keeps (sub_trans (by decide) hm) ?_
      | refine State.setDomain_keeps (sub_trans (by decide) hm) ?_
    | split
    | dsimp only

theorem State.setRequest_keeps {a2 : _} {a3 : _} (hm : 2 ||| m = m) (h : Keeps m r s) :
    Keeps m r (State.setRequest s a2 a3) := by
  unfold State.setRequest
  repeat' first
    | with_reducible first
      | assumption
      | refine State.setn_keeps (sub_trans (by decide) hm) ?_
    | split
    | dsimp only

theorem State.switchOn_keeps {a2 : _} {a3 : _} {a4 : _} (hm : 131092 ||| m = m) (h : Keeps m r s) :
    Keeps m r (State.switchOn s a2 a3 a4) := by
  unfold State.switchOn
  repeat' first
    | with_reducible first
      | assumption
      | refine State.after_keeps (sub_trans (by decide) hm) ?_
      | refine State.setDomainState_keeps (sub_trans (by decide) hm) ?_
    | split
    | dsimp only

theorem State.stopDomain_keeps {a2 : _} {a3 : _} (hm : 16777214 ||| m = m) (h : Keeps m r s) :
    Keeps m r (State.stopDomain s a2 a3) := by
  unfold State.stopDomain
  repeat' first
    | with_reducible first
      | assumption
      | refine Keeps.ite ?_ ?_
      | refine State.setDomainState_keeps (sub_trans (by decide) hm) ?_
      | refine State.domainDown_keeps (sub_trans (by decide) hm) ?_
      | refine State.setQuiesce_keeps (sub_trans (by decide) hm) ?_
    | split
    | dsimp only

theorem State.releaseDomain_keeps {a2 : _} {a3 : _} (hm : 16777214 ||| m = m) (h : Keeps m r s) :
    Keeps m r (State.releaseDomain s a2 a3) := by
  unfold State.releaseDomain
  repeat' first
    | with_reducible first
      | assumption
      | refine State.setRequest_keeps (sub_trans (by decide) hm) ?_
      | refine State.stopDomain_keeps (sub_trans (by decide) hm) ?_
      | refine State.setDomainState_keeps (sub_trans (by decide) hm) ?_
      | refine State.setDomain_keeps (sub_trans (by decide) hm) ?_
    | split
    | dsimp only

theorem State.switchOnAll_keeps {l : List Nat} {k c : Nat} (hm : 131092 ||| m = m) (h : Keeps m r s) :
    Keeps m r (State.switchOnAll l k c s) := by
  induction l generalizing s k with
  | nil => exact h
  | cons x l ih =>
    unfold State.switchOnAll
    split
    · exact ih (State.switchOn_keeps (sub_trans (by decide) hm) h)
    · exact ih h

theorem State.requestOwn_keeps {a2 : _} {a3 : _} (hm : 131094 ||| m = m) (h : Keeps m r s) :
    Keeps m r (State.requestOwn s a2 a3) := by
  unfold State.requestOwn
  try lift_lets
  repeat (intro x; first
    | (have hx : Keeps m r x := by
        dsimp only [x]
        repeat' first
          | with_reducible first
            | assumption
            | refine Keeps.ite ?_ ?_
            | refine State.setRequest_keeps (sub_trans (by decide) hm) ?_
            | refine State.setDomain_keeps (sub_trans (by decide) hm) ?_
            | refine State.switchOnAll_keeps (sub_trans (by decide) hm) ?_
            | refine Keeps.each ?_ ?_
          | (intro t x ht)
          | (intro t ht)
          | (intro t y z ht)
          | (intro ht)
          | split
          | dsimp only
       clear_value x)
    | clear_value x)
  repeat' first
    | with_reducible first
      | assumption
      | refine Keeps.ite ?_ ?_
      | refine State.setRequest_keeps (sub_trans (by decide) hm) ?_
      | refine State.setDomain_keeps (sub_trans (by decide) hm) ?_
      | refine State.switchOnAll_keeps (sub_trans (by decide) hm) ?_
      | refine Keeps.each ?_ ?_
    | (intro t x ht)
    | (intro t ht)
    | (intro t y z ht)
    | (intro ht)
    | split
    | dsimp only

theorem State.runDeferred_keeps (hm : 131092 ||| m = m) (h : Keeps m r s) : Keeps m r s.runDeferred := by
  unfold State.runDeferred
  dsimp only
  have key : ∀ (l : List Nat) (p : Nat × State), Keeps m r p.2 →
      Keeps m r (l.foldl (fun (p : Nat × State) pd => (p.1 + 1, p.2.switchOn pd p.1 (s.domain pd).cause)) p).2 := by
    intro l
    induction l with
    | nil => intro p hp; exact hp
    | cons x l ih => intro p hp; exact ih _ (State.switchOn_keeps (sub_trans (by decide) hm) hp)
  exact key _ _ h

theorem State.domainReady_keeps {a2 : _} {a3 : _} (hm : 16777214 ||| m = m) (h : Keeps m r s) :
    Keeps m r (State.domainReady s a2 a3) := by
  unfold State.domainReady
  repeat' first
    | with_reducible first
      | assumption
      | refine Keeps.ite ?_ ?_
      | refine State.domainUp_keeps (sub_trans (by decide) hm) ?_
      | refine State.setDomainState_keeps (sub_trans (by decide) hm) ?_
      | refine State.disarm_keeps (sub_trans (by decide) hm) ?_
      | refine State.stopDomain_keeps (sub_trans (by decide) hm) ?_
    | split
    | dsimp only

theorem execDomainRampTimeout_keeps {a1 : _} (hm : 393238 ||| m = m) (h : Keeps m r s) :
    KeepsO m r (execDomainRampTimeout a1 s) := by
  unfold execDomainRampTimeout
  repeat' first
    | with_reducible first
      | assumption
      | refine KeepsO.next ?_
      | exact KeepsO.fault
      | refine KeepsO.ite ?_ ?_
      | refine Keeps.ite ?_ ?_
      | refine State.fault_keeps (sub_trans (by decide) hm) ?_
      | refine State.setDomainState_keeps (sub_trans (by decide) hm) ?_
      | refine State.disarm_keeps (sub_trans (by decide) hm) ?_
    | split
    | dsimp only

theorem execDomainStopped_keeps {a1 : _} (hm : 4653078 ||| m = m) (h : Keeps m r s) :
    KeepsO m r (execDomainStopped a1 s) := by
  unfold execDomainStopped
  repeat' first
    | with_reducible first
      | assumption
      | refine KeepsO.next ?_
      | exact KeepsO.fault
      | refine KeepsO.ite ?_ ?_
      | refine Keeps.ite ?_ ?_
      | refine State.domainOff_keeps (sub_trans (by decide) hm) ?_
      | refine State.setDomainState_keeps (sub_trans (by decide) hm) ?_
      | refine State.setQuiesce_keeps (sub_trans (by decide) hm) ?_
      | refine State.requestOwn_keeps (sub_trans (by decide) hm) ?_
    | split
    | dsimp only

theorem State.setSupply_keeps {a2 : _} (hm : 131090 ||| m = m) (h : Keeps m r s) :
    Keeps m r (State.setSupply s a2) := by
  unfold State.setSupply
  repeat' first
    | with_reducible first
      | assumption
      | refine Keeps.ite ?_ ?_
      | refine State.event_keeps (sub_trans (by decide) hm) ?_
      | refine State.setn_keeps (sub_trans (by decide) hm) ?_
      | (refine Keeps.power hm (by decide) ?_; assumption)
    | split
    | dsimp only

theorem State.stopAdmission_keeps {a2 : _} (hm : 1114422 ||| m = m) (h : Keeps m r s) :
    Keeps m r (State.stopAdmission s a2) := by
  unfold State.stopAdmission
  repeat' first
    | with_reducible first
      | assumption
      | refine State.recordRefusal_keeps (sub_trans (by decide) hm) ?_
      | refine State.readmitAll_keeps (sub_trans (by decide) hm) ?_
    | split
    | dsimp only

theorem State.warningActions_keeps  (hm : 6226742 ||| m = m) (h : Keeps m r s) :
    Keeps m r (State.warningActions s) := by
  unfold State.warningActions
  repeat' first
    | with_reducible first
      | assumption
      | refine Keeps.ite ?_ ?_
      | refine State.fault_keeps (sub_trans (by decide) hm) ?_
      | refine State.bump_keeps (sub_trans (by decide) hm) ?_
      | refine State.stopAdmission_keeps (sub_trans (by decide) hm) ?_
      | refine State.checkpoint_keeps (sub_trans (by decide) hm) ?_
      | refine State.setQuiesce_keeps (sub_trans (by decide) hm) ?_
    | split
    | dsimp only

theorem State.dropDomain_keeps {a2 : _} (hm : 16777214 ||| m = m) (h : Keeps m r s) :
    Keeps m r (State.dropDomain s a2) := by
  unfold State.dropDomain
  repeat' first
    | with_reducible first
      | assumption
      | refine Keeps.ite ?_ ?_
      | refine State.setRequest_keeps (sub_trans (by decide) hm) ?_
      | refine State.setDomain_keeps (sub_trans (by decide) hm) ?_
      | refine State.domainOff_keeps (sub_trans (by decide) hm) ?_
      | refine State.disarm_keeps (sub_trans (by decide) hm) ?_
      | refine State.setDomainState_keeps (sub_trans (by decide) hm) ?_
      | refine State.domainDown_keeps (sub_trans (by decide) hm) ?_
    | split
    | dsimp only

theorem State.enterReset_keeps (hm : 16777214 ||| m = m) (h : Keeps m r s) : Keeps m r s.enterReset := by
  unfold State.enterReset
  extract_lets s1 s2
  have h1 : Keeps m r s1 := State.bump_keeps (sub_trans (by decide) hm) (State.setSupply_keeps (sub_trans (by decide) hm) h)
  have h2 : Keeps m r s2 := Keeps.each (fun t x ht => State.dropDomain_keeps (sub_trans (by decide) hm) ht) h1
  clear_value s2
  exact h2.step rfl rfl id (fun p hp => by cases p <;> first | rfl | exact (sub_out hm (by decide) hp).elim)

theorem execBulkSample_keeps {a1 : _} (hm : 16777214 ||| m = m) (h : Keeps m r s) :
    KeepsO m r (execBulkSample a1 s) := by
  unfold execBulkSample
  repeat' first
    | with_reducible first
      | assumption
      | refine KeepsO.next ?_
      | exact KeepsO.fault
      | refine KeepsO.ite ?_ ?_
      | refine Keeps.ite ?_ ?_
      | refine State.setn_keeps (sub_trans (by decide) hm) ?_
      | refine State.after_keeps (sub_trans (by decide) hm) ?_
      | refine State.disarm_keeps (sub_trans (by decide) hm) ?_
      | refine State.enterReset_keeps (sub_trans (by decide) hm) ?_
      | refine State.warningActions_keeps (sub_trans (by decide) hm) ?_
      | refine State.setSupply_keeps (sub_trans (by decide) hm) ?_
      | (refine Keeps.power hm (by decide) ?_; assumption)
    | split
    | dsimp only

theorem State.supplyNormal_keeps  (hm : 4653078 ||| m = m) (h : Keeps m r s) :
    Keeps m r (State.supplyNormal s) := by
  unfold State.supplyNormal
  repeat' first
    | with_reducible first
      | assumption
      | refine State.runDeferred_keeps (sub_trans (by decide) hm) ?_
      | refine State.setQuiesce_keeps (sub_trans (by decide) hm) ?_
      | refine State.setSupply_keeps (sub_trans (by decide) hm) ?_
      | refine State.disarm_keeps (sub_trans (by decide) hm) ?_
    | split
    | dsimp only

theorem execLogicRailFault_keeps {a1 : _} {a2 : _} {a3 : _} (hm : 262162 ||| m = m) (h : Keeps m r s) :
    KeepsO m r (execLogicRailFault a1 a2 a3 s) := by
  unfold execLogicRailFault
  repeat' first
    | with_reducible first
      | assumption
      | refine KeepsO.next ?_
      | exact KeepsO.fault
      | refine KeepsO.ite ?_ ?_
      | refine Keeps.ite ?_ ?_
      | refine State.event_keeps (sub_trans (by decide) hm) ?_
      | refine State.faultOn_keeps (sub_trans (by decide) hm) ?_
      | refine State.fault_keeps (sub_trans (by decide) hm) ?_
    | split
    | dsimp only

theorem State.setBus_keeps {a2 : _} {a3 : _} (hm : 278558 ||| m = m) (h : Keeps m r s) :
    Keeps m r (State.setBus s a2 a3) := by
  unfold State.setBus
  repeat' first
    | with_reducible first
      | assumption
      | refine Keeps.ite ?_ ?_
      | refine State.event_keeps (sub_trans (by decide) hm) ?_
      | refine State.setn_keeps (sub_trans (by decide) hm) ?_
      | refine State.steppersUnder_keeps (sub_trans (by decide) hm) ?_
      | refine State.fault_keeps (sub_trans (by decide) hm) ?_
      | refine State.steppersBusOk_keeps (sub_trans (by decide) hm) ?_
    | split
    | dsimp only

theorem execMotorBusSample_keeps {a1 : _} {a2 : _} (hm : 278558 ||| m = m) (h : Keeps m r s) :
    KeepsO m r (execMotorBusSample a1 a2 s) := by
  unfold execMotorBusSample
  repeat' first
    | with_reducible first
      | assumption
      | refine KeepsO.next ?_
      | exact KeepsO.fault
      | refine KeepsO.ite ?_ ?_
      | refine Keeps.ite ?_ ?_
      | refine State.closeBusSwitch_keeps (sub_trans (by decide) hm) ?_
      | refine State.setn_keeps (sub_trans (by decide) hm) ?_
      | refine State.setBus_keeps (sub_trans (by decide) hm) ?_
    | split
    | dsimp only

theorem State.refreshThrottle_keeps {a2 : _} (hm : 4653074 ||| m = m) (h : Keeps m r s) :
    Keeps m r (State.refreshThrottle s a2) := by
  unfold State.refreshThrottle
  repeat' first
    | with_reducible first
      | assumption
      | refine Keeps.ite ?_ ?_
      | refine State.event_keeps (sub_trans (by decide) hm) ?_
      | refine State.setb_keeps (sub_trans (by decide) hm) ?_
      | refine State.setQuiesce_keeps (sub_trans (by decide) hm) ?_
    | split
    | dsimp only

theorem State.evaluateChannel_keeps {a2 : _} {a3 : _} (hm : 4653074 ||| m = m) (h : Keeps m r s) :
    Keeps m r (State.evaluateChannel s a2 a3) := by
  unfold State.evaluateChannel
  repeat' first
    | with_reducible first
      | assumption
      | refine Keeps.ite ?_ ?_
      | refine State.setThermo_keeps (sub_trans (by decide) hm) ?_
      | refine State.event_keeps (sub_trans (by decide) hm) ?_
      | refine State.setn_keeps (sub_trans (by decide) hm) ?_
      | refine State.fault_keeps (sub_trans (by decide) hm) ?_
      | refine State.refreshThrottle_keeps (sub_trans (by decide) hm) ?_
    | split
    | dsimp only

theorem State.markChannel_keeps {a2 : _} {a3 : _} (hm : 393234 ||| m = m) (h : Keeps m r s) :
    Keeps m r (State.markChannel s a2 a3) := by
  unfold State.markChannel
  repeat' first
    | with_reducible first
      | assumption
      | refine Keeps.ite ?_ ?_
      | refine State.setThermo_keeps (sub_trans (by decide) hm) ?_
      | refine State.event_keeps (sub_trans (by decide) hm) ?_
      | refine State.fault_keeps (sub_trans (by decide) hm) ?_
      | refine State.setb_keeps (sub_trans (by decide) hm) ?_
    | split
    | dsimp only

theorem State.setPartner_keeps {a2 : _} {a3 : _} (hm : 131088 ||| m = m) (h : Keeps m r s) :
    Keeps m r (State.setPartner s a2 a3) := by
  unfold State.setPartner
  repeat' first
    | with_reducible first
      | assumption
      | refine Keeps.ite ?_ ?_
      | refine State.event_keeps (sub_trans (by decide) hm) ?_
      | refine State.setThermo_keeps (sub_trans (by decide) hm) ?_
    | split
    | dsimp only

theorem State.channelSample_keeps {a2 : _} {a3 : _} (hm : 4685842 ||| m = m) (h : Keeps m r s) :
    Keeps m r (State.channelSample s a2 a3) := by
  unfold State.channelSample
  repeat' first
    | with_reducible first
      | assumption
      | refine Keeps.ite ?_ ?_
      | refine State.markChannel_keeps (sub_trans (by decide) hm) ?_
      | refine State.seti_keeps (sub_trans (by decide) hm) ?_
      | refine State.zonesRead_keeps (sub_trans (by decide) hm) ?_
      | refine State.evaluateChannel_keeps (sub_trans (by decide) hm) ?_
      | refine State.setPartner_keeps (sub_trans (by decide) hm) ?_
    | split
    | dsimp only

theorem execTemperatureSample_keeps {a1 : _} {a2 : _} (hm : 4685842 ||| m = m) (h : Keeps m r s) :
    KeepsO m r (execTemperatureSample a1 a2 s) := by
  unfold execTemperatureSample
  repeat' first
    | with_reducible first
      | assumption
      | refine KeepsO.next ?_
      | refine KeepsO.ite ?_ ?_
      | refine State.channelSample_keeps (sub_trans (by decide) hm) ?_
    | split
    | dsimp only

theorem State.channelEnable_keeps {a2 : _} {a3 : _} {a4 : _} (hm : 4653074 ||| m = m) (h : Keeps m r s) :
    Keeps m r (State.channelEnable s a2 a3 a4) := by
  unfold State.channelEnable
  repeat' first
    | with_reducible first
      | assumption
      | refine Keeps.ite ?_ ?_
      | refine State.setThermo_keeps (sub_trans (by decide) hm) ?_
      | refine State.event_keeps (sub_trans (by decide) hm) ?_
      | refine State.refreshThrottle_keeps (sub_trans (by decide) hm) ?_
      | refine State.setb_keeps (sub_trans (by decide) hm) ?_
      | refine State.seti_keeps (sub_trans (by decide) hm) ?_
      | refine State.setn_keeps (sub_trans (by decide) hm) ?_
    | split
    | dsimp only

/-! ## Lid -/

theorem State.laserReaction_keeps {a2 : _} {a3 : _} (hm : 402 ||| m = m) (h : Keeps m r s) :
    Keeps m r (State.laserReaction s a2 a3) := by
  unfold State.laserReaction
  repeat' first
    | with_reducible first
      | assumption
      | refine Keeps.ite ?_ ?_
      | refine State.spoilImaging_keeps (sub_trans (by decide) hm) ?_
      | refine State.setb_keeps (sub_trans (by decide) hm) ?_
      | refine State.setStation_keeps (sub_trans (by decide) hm) ?_
      | refine State.laserLow_keeps (sub_trans (by decide) hm) ?_
    | split
    | dsimp only

theorem State.openWindows_keeps {a2 : _} (hm : 262144 ||| m = m) (h : Keeps m r s) :
    Keeps m r (State.openWindows s a2) := by
  unfold State.openWindows
  repeat' first
    | with_reducible first
      | assumption
      | (refine Keeps.lid hm (by decide) ?_; assumption)
    | split
    | dsimp only

theorem State.classD_keeps  (hm : 16777214 ||| m = m) (h : Keeps m r s) :
    Keeps m r (State.classD s) := by
  unfold State.classD
  try lift_lets
  repeat (intro x; first
    | (have hx : Keeps m r x := by
        dsimp only [x]
        repeat' first
          | with_reducible first
            | assumption
            | refine State.openWindows_keeps (sub_trans (by decide) hm) ?_
            | refine State.releaseDomain_keeps (sub_trans (by decide) hm) ?_
            | refine Keeps.each ?_ ?_
          | (intro t x ht)
          | (intro t ht)
          | (intro t y z ht)
          | (intro ht)
          | split
          | dsimp only
       clear_value x)
    | clear_value x)
  repeat' first
    | with_reducible first
      | assumption
      | refine State.openWindows_keeps (sub_trans (by decide) hm) ?_
      | refine State.releaseDomain_keeps (sub_trans (by decide) hm) ?_
      | refine Keeps.each ?_ ?_
    | (intro t x ht)
    | (intro t ht)
    | (intro t y z ht)
    | (intro ht)
    | split
    | dsimp only

theorem State.moveFunctions_keeps {a2 : _} (hm : 16777214 ||| m = m) (h : Keeps m r s) :
    Keeps m r (State.moveFunctions s a2) := by
  unfold State.moveFunctions
  try lift_lets
  repeat (intro x; first
    | (have hx : Keeps m r x := by
        dsimp only [x]
        repeat' first
          | with_reducible first
            | assumption
            | refine Keeps.ite ?_ ?_
            | refine State.hvHold_keeps (sub_trans (by decide) hm) ?_
            | refine State.driveSafe_keeps (sub_trans (by decide) hm) ?_
            | refine State.axisSafe_keeps (sub_trans (by decide) hm) ?_
            | refine State.zoneSafe_keeps (sub_trans (by decide) hm) ?_
            | refine State.classD_keeps (sub_trans (by decide) hm) ?_
            | refine Keeps.each ?_ ?_
          | (intro t x ht)
          | (intro t ht)
          | (intro t y z ht)
          | (intro ht)
          | split
          | dsimp only
       clear_value x)
    | clear_value x)
  repeat' first
    | with_reducible first
      | assumption
      | refine Keeps.ite ?_ ?_
      | refine State.hvHold_keeps (sub_trans (by decide) hm) ?_
      | refine State.driveSafe_keeps (sub_trans (by decide) hm) ?_
      | refine State.axisSafe_keeps (sub_trans (by decide) hm) ?_
      | refine State.zoneSafe_keeps (sub_trans (by decide) hm) ?_
      | refine State.classD_keeps (sub_trans (by decide) hm) ?_
      | refine Keeps.each ?_ ?_
    | (intro t x ht)
    | (intro t ht)
    | (intro t y z ht)
    | (intro ht)
    | split
    | dsimp only

theorem State.force_keeps {a2 : _} (hm : 16777214 ||| m = m) (h : Keeps m r s) :
    Keeps m r (State.force s a2) := by
  unfold State.force
  try lift_lets
  repeat (intro x; first
    | (have hx : Keeps m r x := by
        dsimp only [x]
        repeat' first
          | with_reducible first
            | assumption
            | refine Keeps.ite ?_ ?_
            | refine State.takeover_keeps (sub_trans (by decide) hm) ?_
            | refine State.setn_keeps (sub_trans (by decide) hm) ?_
            | refine State.eventHw_keeps (sub_trans (by decide) hm) ?_
            | refine State.laserReaction_keeps (sub_trans (by decide) hm) ?_
            | refine State.openWindows_keeps (sub_trans (by decide) hm) ?_
            | refine State.moveFunctions_keeps (sub_trans (by decide) hm) ?_
            | refine Keeps.each ?_ ?_
            | refine Keeps.foldl ?_ ?_
            | (refine Keeps.lid hm (by decide) ?_; assumption)
          | (intro t x ht)
          | (intro t ht)
          | (intro t y z ht)
          | (intro ht)
          | split
          | dsimp only
       clear_value x)
    | clear_value x)
  repeat' first
    | with_reducible first
      | assumption
      | refine Keeps.ite ?_ ?_
      | refine State.takeover_keeps (sub_trans (by decide) hm) ?_
      | refine State.setn_keeps (sub_trans (by decide) hm) ?_
      | refine State.eventHw_keeps (sub_trans (by decide) hm) ?_
      | refine State.laserReaction_keeps (sub_trans (by decide) hm) ?_
      | refine State.openWindows_keeps (sub_trans (by decide) hm) ?_
      | refine State.moveFunctions_keeps (sub_trans (by decide) hm) ?_
      | refine Keeps.each ?_ ?_
      | refine Keeps.foldl ?_ ?_
      | (refine Keeps.lid hm (by decide) ?_; assumption)
    | (intro t x ht)
    | (intro t ht)
    | (intro t y z ht)
    | (intro ht)
    | split
    | dsimp only

theorem State.setFaultState_keeps {a2 : _} {a3 : _} (hm : 18 ||| m = m) (h : Keeps m r s) :
    Keeps m r (State.setFaultState s a2 a3) := by
  unfold State.setFaultState
  repeat' first
    | with_reducible first
      | assumption
      | refine Keeps.ite ?_ ?_
      | refine State.eventHw_keeps (sub_trans (by decide) hm) ?_
      | refine State.setn_keeps (sub_trans (by decide) hm) ?_
    | split
    | dsimp only

theorem State.restartQuiet_keeps  (hm : 4 ||| m = m) (h : Keeps m r s) :
    Keeps m r (State.restartQuiet s) := by
  unfold State.restartQuiet
  repeat' first
    | with_reducible first
      | assumption
      | refine Keeps.ite ?_ ?_
      | refine State.disarm_keeps (sub_trans (by decide) hm) ?_
      | refine State.after_keeps (sub_trans (by decide) hm) ?_
    | split
    | dsimp only

theorem State.releaseFunctions_keeps  (hm : 320214 ||| m = m) (h : Keeps m r s) :
    Keeps m r (State.releaseFunctions s) := by
  unfold State.releaseFunctions
  try lift_lets
  repeat (intro x; first
    | (have hx : Keeps m r x := by
        dsimp only [x]
        repeat' first
          | with_reducible first
            | assumption
            | refine State.driveRelease_keeps (sub_trans (by decide) hm) ?_
            | refine State.axisRelease_keeps (sub_trans (by decide) hm) ?_
            | refine State.hvRelease_keeps (sub_trans (by decide) hm) ?_
            | refine State.zoneRelease_keeps (sub_trans (by decide) hm) ?_
            | refine State.refreshLaser_keeps (sub_trans (by decide) hm) ?_
            | refine State.setStation_keeps (sub_trans (by decide) hm) ?_
            | refine Keeps.each ?_ ?_
          | (intro t x ht)
          | (intro t ht)
          | (intro t y z ht)
          | (intro ht)
          | split
          | dsimp only
       clear_value x)
    | clear_value x)
  repeat' first
    | with_reducible first
      | assumption
      | refine State.driveRelease_keeps (sub_trans (by decide) hm) ?_
      | refine State.axisRelease_keeps (sub_trans (by decide) hm) ?_
      | refine State.hvRelease_keeps (sub_trans (by decide) hm) ?_
      | refine State.zoneRelease_keeps (sub_trans (by decide) hm) ?_
      | refine State.refreshLaser_keeps (sub_trans (by decide) hm) ?_
      | refine State.setStation_keeps (sub_trans (by decide) hm) ?_
      | refine Keeps.each ?_ ?_
    | (intro t x ht)
    | (intro t ht)
    | (intro t y z ht)
    | (intro ht)
    | split
    | dsimp only

theorem State.releaseAll_keeps {a2 : _} (hm : 451286 ||| m = m) (h : Keeps m r s) :
    Keeps m r (State.releaseAll s a2) := by
  unfold State.releaseAll
  try lift_lets
  repeat (intro x; first
    | (have hx : Keeps m r x := by
        dsimp only [x]
        repeat' first
          | with_reducible first
            | assumption
            | refine Keeps.ite ?_ ?_
            | refine State.bump16_keeps (sub_trans (by decide) hm) ?_
            | refine State.setn_keeps (sub_trans (by decide) hm) ?_
            | refine State.after_keeps (sub_trans (by decide) hm) ?_
            | refine State.disarm_keeps (sub_trans (by decide) hm) ?_
            | refine State.eventHw_keeps (sub_trans (by decide) hm) ?_
            | refine State.setFaultState_keeps (sub_trans (by decide) hm) ?_
            | refine State.releaseFunctions_keeps (sub_trans (by decide) hm) ?_
            | refine State.requestOwn_keeps (sub_trans (by decide) hm) ?_
            | (refine Keeps.lid hm (by decide) ?_; assumption)
          | split
          | dsimp only
       clear_value x)
    | clear_value x)
  repeat' first
    | with_reducible first
      | assumption
      | refine Keeps.ite ?_ ?_
      | refine State.bump16_keeps (sub_trans (by decide) hm) ?_
      | refine State.setn_keeps (sub_trans (by decide) hm) ?_
      | refine State.after_keeps (sub_trans (by decide) hm) ?_
      | refine State.disarm_keeps (sub_trans (by decide) hm) ?_
      | refine State.eventHw_keeps (sub_trans (by decide) hm) ?_
      | refine State.setFaultState_keeps (sub_trans (by decide) hm) ?_
      | refine State.releaseFunctions_keeps (sub_trans (by decide) hm) ?_
      | refine State.requestOwn_keeps (sub_trans (by decide) hm) ?_
      | (refine Keeps.lid hm (by decide) ?_; assumption)
    | split
    | dsimp only

theorem execQuietPeriodExpired_keeps  (hm : 451286 ||| m = m) (h : Keeps m r s) :
    KeepsO m r (execQuietPeriodExpired s) := by
  unfold execQuietPeriodExpired
  repeat' first
    | with_reducible first
      | assumption
      | refine KeepsO.next ?_
      | exact KeepsO.fault
      | refine KeepsO.ite ?_ ?_
      | refine Keeps.ite ?_ ?_
      | refine State.releaseAll_keeps (sub_trans (by decide) hm) ?_
      | refine State.setFaultState_keeps (sub_trans (by decide) hm) ?_
      | refine State.disarm_keeps (sub_trans (by decide) hm) ?_
    | split
    | dsimp only

theorem execConsequenceLimitExpired_keeps  (hm : 262148 ||| m = m) (h : Keeps m r s) :
    KeepsO m r (execConsequenceLimitExpired s) := by
  unfold execConsequenceLimitExpired
  repeat' first
    | with_reducible first
      | assumption
      | refine KeepsO.next ?_
      | exact KeepsO.fault
      | refine KeepsO.ite ?_ ?_
      | refine Keeps.ite ?_ ?_
      | refine State.disarm_keeps (sub_trans (by decide) hm) ?_
      | (refine Keeps.lid hm (by decide) ?_; assumption)
    | split
    | dsimp only

theorem State.faultClear_keeps  (hm : 451286 ||| m = m) (h : Keeps m r s) :
    Keeps m r (State.faultClear s) := by
  unfold State.faultClear
  try lift_lets
  repeat (intro x; first
    | (have hx : Keeps m r x := by
        dsimp only [x]
        repeat' first
          | with_reducible first
            | assumption
            | refine State.releaseAll_keeps (sub_trans (by decide) hm) ?_
            | (refine Keeps.lid hm (by decide) ?_; assumption)
          | split
          | dsimp only
       clear_value x)
    | clear_value x)
  repeat' first
    | with_reducible first
      | assumption
      | refine State.releaseAll_keeps (sub_trans (by decide) hm) ?_
      | (refine Keeps.lid hm (by decide) ?_; assumption)
    | split
    | dsimp only

theorem State.stick_keeps {a2 : _} {a3 : _} (hm : 2 ||| m = m) (h : Keeps m r s) :
    Keeps m r (State.stick s a2 a3) := by
  unfold State.stick
  repeat' first
    | with_reducible first
      | assumption
      | refine State.setBytes_keeps (sub_trans (by decide) hm) ?_
    | split
    | dsimp only

theorem State.capture_keeps {a2 : _} {a3 : _} {a4 : _} (hm : 2 ||| m = m) (h : Keeps m r s) :
    Keeps m r (State.capture s a2 a3 a4) := by
  unfold State.capture
  repeat' first
    | with_reducible first
      | assumption
      | refine Keeps.ite ?_ ?_
      | refine State.setBytes_keeps (sub_trans (by decide) hm) ?_
      | refine State.setn_keeps (sub_trans (by decide) hm) ?_
      | refine Keeps.foldl ?_ ?_
    | split
    | dsimp only

theorem State.takeMessage_keeps {a2 : _} {a3 : _} (hm : 262162 ||| m = m) (h : Keeps m r s) :
    Keeps m r (State.takeMessage s a2 a3) := by
  unfold State.takeMessage
  try lift_lets
  repeat (intro x; first
    | (have hx : Keeps m r x := by
        dsimp only [x]
        repeat' first
          | with_reducible first
            | assumption
            | refine Keeps.ite ?_ ?_
            | refine State.stick_keeps (sub_trans (by decide) hm) ?_
            | refine State.deliver_keeps (sub_trans (by decide) hm) ?_
            | (refine Keeps.lid hm (by decide) ?_; assumption)
          | (intro t x ht)
          | (intro t ht)
          | (intro t y z ht)
          | (intro ht)
          | split
          | dsimp only
       clear_value x)
    | (have hx : Keeps m r x.1 := by
        dsimp only [x]
        repeat' first
          | with_reducible first
            | assumption
            | refine Keeps.ite ?_ ?_
            | refine State.stick_keeps (sub_trans (by decide) hm) ?_
            | refine State.deliver_keeps (sub_trans (by decide) hm) ?_
            | (refine Keeps.lid hm (by decide) ?_; assumption)
          | (intro t x ht)
          | (intro t ht)
          | (intro t y z ht)
          | (intro ht)
          | split
          | dsimp only
       clear_value x)
    | clear_value x)
  repeat' first
    | with_reducible first
      | assumption
      | refine Keeps.ite ?_ ?_
      | refine State.stick_keeps (sub_trans (by decide) hm) ?_
      | refine State.deliver_keeps (sub_trans (by decide) hm) ?_
      | (refine Keeps.lid hm (by decide) ?_; assumption)
    | (intro t x ht)
    | (intro t ht)
    | (intro t y z ht)
    | (intro ht)
    | split
    | dsimp only

theorem State.takeCleared_keeps {a2 : _} (hm : 262164 ||| m = m) (h : Keeps m r s) :
    Keeps m r (State.takeCleared s a2) := by
  unfold State.takeCleared
  try lift_lets
  repeat (intro x; first
    | (have hx : Keeps m r x := by
        dsimp only [x]
        repeat' first
          | with_reducible first
            | assumption
            | refine Keeps.ite ?_ ?_
            | refine State.deliver_keeps (sub_trans (by decide) hm) ?_
            | refine State.restartQuiet_keeps (sub_trans (by decide) hm) ?_
            | (refine Keeps.lid hm (by decide) ?_; assumption)
          | (intro t x ht)
          | (intro t ht)
          | (intro t y z ht)
          | (intro ht)
          | split
          | dsimp only
       clear_value x)
    | (have hx : Keeps m r x.1 := by
        dsimp only [x]
        repeat' first
          | with_reducible first
            | assumption
            | refine Keeps.ite ?_ ?_
            | refine State.deliver_keeps (sub_trans (by decide) hm) ?_
            | refine State.restartQuiet_keeps (sub_trans (by decide) hm) ?_
            | (refine Keeps.lid hm (by decide) ?_; assumption)
          | (intro t x ht)
          | (intro t ht)
          | (intro t y z ht)
          | (intro ht)
          | split
          | dsimp only
       clear_value x)
    | clear_value x)
  repeat' first
    | with_reducible first
      | assumption
      | refine Keeps.ite ?_ ?_
      | refine State.deliver_keeps (sub_trans (by decide) hm) ?_
      | refine State.restartQuiet_keeps (sub_trans (by decide) hm) ?_
      | (refine Keeps.lid hm (by decide) ?_; assumption)
    | (intro t x ht)
    | (intro t ht)
    | (intro t y z ht)
    | (intro ht)
    | split
    | dsimp only

theorem State.deliverStep_keeps {a2 : _} (hm : 16777214 ||| m = m) (h : Keeps m r s) :
    Keeps m r (State.deliverStep s a2) := by
  unfold State.deliverStep
  try lift_lets
  repeat (intro x; first
    | (have hx : Keeps m r x := by
        dsimp only [x]
        repeat' first
          | with_reducible first
            | assumption
            | refine Keeps.ite ?_ ?_
            | refine State.fault_keeps (sub_trans (by decide) hm) ?_
            | refine State.takeMessage_keeps (sub_trans (by decide) hm) ?_
            | refine State.capture_keeps (sub_trans (by decide) hm) ?_
            | refine State.takeCleared_keeps (sub_trans (by decide) hm) ?_
            | refine State.force_keeps (sub_trans (by decide) hm) ?_
            | refine State.setFaultState_keeps (sub_trans (by decide) hm) ?_
            | refine State.restartQuiet_keeps (sub_trans (by decide) hm) ?_
            | refine Keeps.foldl ?_ ?_
          | (intro t x ht)
          | (intro t ht)
          | (intro t y z ht)
          | (intro ht)
          | split
          | dsimp only
       clear_value x)
    | clear_value x)
  repeat' first
    | with_reducible first
      | assumption
      | refine Keeps.ite ?_ ?_
      | refine State.fault_keeps (sub_trans (by decide) hm) ?_
      | refine State.takeMessage_keeps (sub_trans (by decide) hm) ?_
      | refine State.capture_keeps (sub_trans (by decide) hm) ?_
      | refine State.takeCleared_keeps (sub_trans (by decide) hm) ?_
      | refine State.force_keeps (sub_trans (by decide) hm) ?_
      | refine State.setFaultState_keeps (sub_trans (by decide) hm) ?_
      | refine State.restartQuiet_keeps (sub_trans (by decide) hm) ?_
      | refine Keeps.foldl ?_ ?_
    | (intro t x ht)
    | (intro t ht)
    | (intro t y z ht)
    | (intro ht)
    | split
    | dsimp only

theorem State.deliverAll_keeps {k : Nat} {l : List Detected} (hm : 16777214 ||| m = m) (h : Keeps m r s) :
    Keeps m r (State.deliverAll k s l) := by
  induction k generalizing s l with
  | zero => exact h
  | succ k ih =>
    unfold State.deliverAll
    split
    · exact h
    · exact h
    · next e => cases e; exact ih (State.deliverStep_keeps (sub_trans (by decide) hm) h)

theorem State.hardwareEffect_keeps {w : Nat} (hm : 6102582 ||| m = m) (h : Keeps m r s) :
    Keeps m r (s.hardwareEffect w) := by
  unfold State.hardwareEffect
  dsimp only
  have hr : ∀ l, Keeps m r (s.each l (fun u x => if (u.ring x).state = 1 then
      (u.ringError x).ringEvent (Config.ringSubcode 3 % 256) x (u.ring x).tail else u)) :=
    fun l => Keeps.each (fun t x ht => Keeps.ite (State.ringEvent_keeps (sub_trans (by decide) hm) (State.ringError_keeps (sub_trans (by decide) hm) ht)) ht) h
  split
  · exact State.startGranted_keeps (sub_trans (by decide) hm) (Keeps.each (fun t x ht => State.breakLock_keeps (sub_trans (by decide) hm) ht) h)
  · exact State.haltLadle_keeps (sub_trans (by decide) hm) h
  · split
    · exact hr _
    · exact h
  · exact hr _
  · split
    · exact State.newBase_keeps (sub_trans (by decide) hm) h
    · exact h
  · split
    · exact State.crockTo_keeps (sub_trans (by decide) hm) h
    · exact h
  · exact h

theorem State.outsideAll_keeps {l : List Message} (hm : 6102582 ||| m = m) (h : Keeps m r s) : Keeps m r (State.outsideAll s l).1 := by
  induction l generalizing s with
  | nil => exact h
  | cons x l ih =>
    unfold State.outsideAll
    extract_lets bad s1 d q
    have h1 : Keeps m r s1 := Keeps.ite (State.spendInjection_keeps (sub_trans (by decide) hm) h) h
    clear_value s1
    exact ih (Keeps.ite h1 (State.hardwareEffect_keeps (sub_trans (by decide) hm) h1))

theorem execFaultMessage_keeps {a1 : _} (hm : 16777214 ||| m = m) (h : Keeps m r s) :
    KeepsO m r (execFaultMessage a1 s) := by
  unfold execFaultMessage
  try lift_lets
  repeat (intro x; first
    | (have hx : Keeps m r x := by
        dsimp only [x]
        repeat' first
          | with_reducible first
            | assumption
            | refine KeepsO.next ?_
            | exact KeepsO.fault
            | refine KeepsO.ite ?_ ?_
            | refine Keeps.ite ?_ ?_
            | refine State.outsideAll_keeps (sub_trans (by decide) hm) ?_
            | refine State.deliverAll_keeps (sub_trans (by decide) hm) ?_
            | (refine Keeps.lid hm (by decide) ?_; assumption)
          | (intro t x ht)
          | (intro t ht)
          | (intro t y z ht)
          | (intro ht)
          | split
          | dsimp only
       clear_value x)
    | (have hx : Keeps m r x.1 := by
        dsimp only [x]
        repeat' first
          | with_reducible first
            | assumption
            | refine KeepsO.next ?_
            | exact KeepsO.fault
            | refine KeepsO.ite ?_ ?_
            | refine Keeps.ite ?_ ?_
            | refine State.outsideAll_keeps (sub_trans (by decide) hm) ?_
            | refine State.deliverAll_keeps (sub_trans (by decide) hm) ?_
            | (refine Keeps.lid hm (by decide) ?_; assumption)
          | (intro t x ht)
          | (intro t ht)
          | (intro t y z ht)
          | (intro ht)
          | split
          | dsimp only
       clear_value x)
    | clear_value x)
  repeat' first
    | with_reducible first
      | assumption
      | refine KeepsO.next ?_
      | exact KeepsO.fault
      | refine KeepsO.ite ?_ ?_
      | refine Keeps.ite ?_ ?_
      | refine State.outsideAll_keeps (sub_trans (by decide) hm) ?_
      | refine State.deliverAll_keeps (sub_trans (by decide) hm) ?_
      | (refine Keeps.lid hm (by decide) ?_; assumption)
    | (intro t x ht)
    | (intro t ht)
    | (intro t y z ht)
    | (intro ht)
    | split
    | dsimp only

theorem execWiredFaultCause_keeps {a1 : _} {a2 : _} {a3 : _} (hm : 16777214 ||| m = m) (h : Keeps m r s) :
    KeepsO m r (execWiredFaultCause a1 a2 a3 s) := by
  unfold execWiredFaultCause
  try lift_lets
  repeat (intro x; first
    | (have hx : Keeps m r x := by
        dsimp only [x]
        repeat' first
          | with_reducible first
            | assumption
            | refine KeepsO.next ?_
            | exact KeepsO.fault
            | refine KeepsO.ite ?_ ?_
            | refine Keeps.ite ?_ ?_
            | refine State.faultOn_keeps (sub_trans (by decide) hm) ?_
            | refine State.fault_keeps (sub_trans (by decide) hm) ?_
            | refine State.force_keeps (sub_trans (by decide) hm) ?_
            | (refine Keeps.lid hm (by decide) ?_; assumption)
          | (intro t x ht)
          | (intro t ht)
          | (intro t y z ht)
          | (intro ht)
          | split
          | dsimp only
       clear_value x)
    | clear_value x)
  repeat' first
    | with_reducible first
      | assumption
      | refine KeepsO.next ?_
      | exact KeepsO.fault
      | refine KeepsO.ite ?_ ?_
      | refine Keeps.ite ?_ ?_
      | refine State.faultOn_keeps (sub_trans (by decide) hm) ?_
      | refine State.fault_keeps (sub_trans (by decide) hm) ?_
      | refine State.force_keeps (sub_trans (by decide) hm) ?_
      | (refine Keeps.lid hm (by decide) ?_; assumption)
    | (intro t x ht)
    | (intro t ht)
    | (intro t y z ht)
    | (intro ht)
    | split
    | dsimp only

theorem State.stickyClear_keeps {a2 : _} (hm : 327698 ||| m = m) (h : Keeps m r s) :
    Keeps m r (State.stickyClear s a2) := by
  unfold State.stickyClear
  repeat' first
    | with_reducible first
      | assumption
      | refine Keeps.ite ?_ ?_
      | refine State.setBytes_keeps (sub_trans (by decide) hm) ?_
      | refine State.eventHw_keeps (sub_trans (by decide) hm) ?_
      | refine State.crockRecovers_keeps (sub_trans (by decide) hm) ?_
    | split
    | dsimp only

theorem State.senseChannels_keeps {a2 : _} {a3 : _} (hm : 262162 ||| m = m) (h : Keeps m r s) :
    Keeps m r (State.senseChannels s a2 a3) := by
  unfold State.senseChannels
  exact Keeps.each (fun _ _ ht => State.refreshLaser_keeps (sub_trans (by decide) hm) ht) (Keeps.lid hm (by decide) h)

theorem State.interlockOpens_keeps {a2 : _} (hm : 262162 ||| m = m) (h : Keeps m r s) :
    Keeps m r (State.interlockOpens s a2) := by
  unfold State.interlockOpens
  repeat' first
    | with_reducible first
      | assumption
      | refine Keeps.ite ?_ ?_
      | refine State.faultOn_keeps (sub_trans (by decide) hm) ?_
      | (refine Keeps.lid hm (by decide) ?_; assumption)
    | split
    | dsimp only

theorem State.interlockCloses_keeps {a2 : _} (hm : 262162 ||| m = m) (h : Keeps m r s) :
    Keeps m r (State.interlockCloses s a2) := by
  unfold State.interlockCloses
  repeat' first
    | with_reducible first
      | assumption
      | refine Keeps.ite ?_ ?_
      | refine State.faultOff_keeps (sub_trans (by decide) hm) ?_
      | (refine Keeps.lid hm (by decide) ?_; assumption)
    | split
    | dsimp only

theorem State.setInterlock_keeps {a2 : _} {a3 : _} (hm : 262166 ||| m = m) (h : Keeps m r s) :
    Keeps m r (State.setInterlock s a2 a3) := by
  unfold State.setInterlock
  try lift_lets
  repeat (intro x; first
    | (have hx : Keeps m r x := by
        dsimp only [x]
        repeat' first
          | with_reducible first
            | assumption
            | refine Keeps.ite ?_ ?_
            | refine State.interlockCloses_keeps (sub_trans (by decide) hm) ?_
            | refine State.interlockOpens_keeps (sub_trans (by decide) hm) ?_
            | refine State.senseChannels_keeps (sub_trans (by decide) hm) ?_
            | refine State.disarm_keeps (sub_trans (by decide) hm) ?_
            | refine State.after_keeps (sub_trans (by decide) hm) ?_
          | split
          | dsimp only
       clear_value x)
    | clear_value x)
  repeat' first
    | with_reducible first
      | assumption
      | refine Keeps.ite ?_ ?_
      | refine State.interlockCloses_keeps (sub_trans (by decide) hm) ?_
      | refine State.interlockOpens_keeps (sub_trans (by decide) hm) ?_
      | refine State.senseChannels_keeps (sub_trans (by decide) hm) ?_
      | refine State.disarm_keeps (sub_trans (by decide) hm) ?_
      | refine State.after_keeps (sub_trans (by decide) hm) ?_
    | split
    | dsimp only

theorem State.noteInterlock_keeps  (hm : 18 ||| m = m) (h : Keeps m r s) :
    Keeps m r (State.noteInterlock s) := by
  unfold State.noteInterlock
  repeat' first
    | with_reducible first
      | assumption
      | refine Keeps.ite ?_ ?_
      | refine State.eventHw_keeps (sub_trans (by decide) hm) ?_
      | refine State.setn_keeps (sub_trans (by decide) hm) ?_
    | split
    | dsimp only

theorem execInterlockTestPulse_keeps {a1 : _} {a2 : _} (hm : 262166 ||| m = m) (h : Keeps m r s) :
    KeepsO m r (execInterlockTestPulse a1 a2 s) := by
  unfold execInterlockTestPulse
  try lift_lets
  repeat (intro x; first
    | (have hx : Keeps m r x := by
        dsimp only [x]
        repeat' first
          | with_reducible first
            | assumption
            | refine KeepsO.next ?_
            | exact KeepsO.fault
            | refine KeepsO.ite ?_ ?_
            | refine Keeps.ite ?_ ?_
            | refine State.noteInterlock_keeps (sub_trans (by decide) hm) ?_
            | refine State.setInterlock_keeps (sub_trans (by decide) hm) ?_
            | refine State.fault_keeps (sub_trans (by decide) hm) ?_
            | (refine Keeps.lid hm (by decide) ?_; assumption)
          | split
          | dsimp only
       clear_value x)
    | clear_value x)
  repeat' first
    | with_reducible first
      | assumption
      | refine KeepsO.next ?_
      | exact KeepsO.fault
      | refine KeepsO.ite ?_ ?_
      | refine Keeps.ite ?_ ?_
      | refine State.noteInterlock_keeps (sub_trans (by decide) hm) ?_
      | refine State.setInterlock_keeps (sub_trans (by decide) hm) ?_
      | refine State.fault_keeps (sub_trans (by decide) hm) ?_
      | (refine Keeps.lid hm (by decide) ?_; assumption)
    | split
    | dsimp only

theorem execInterlockSenseChange_keeps {a1 : _} {a2 : _} (hm : 262166 ||| m = m) (h : Keeps m r s) :
    KeepsO m r (execInterlockSenseChange a1 a2 s) := by
  unfold execInterlockSenseChange
  repeat' first
    | with_reducible first
      | assumption
      | refine KeepsO.next ?_
      | exact KeepsO.fault
      | refine KeepsO.ite ?_ ?_
      | refine Keeps.ite ?_ ?_
      | refine State.noteInterlock_keeps (sub_trans (by decide) hm) ?_
      | refine State.setInterlock_keeps (sub_trans (by decide) hm) ?_
      | (refine Keeps.lid hm (by decide) ?_; assumption)
    | split
    | dsimp only

theorem execDiscrepancyTimeout_keeps  (hm : 262166 ||| m = m) (h : Keeps m r s) :
    KeepsO m r (execDiscrepancyTimeout s) := by
  unfold execDiscrepancyTimeout
  repeat' first
    | with_reducible first
      | assumption
      | refine KeepsO.next ?_
      | exact KeepsO.fault
      | refine KeepsO.ite ?_ ?_
      | refine Keeps.ite ?_ ?_
      | refine State.noteInterlock_keeps (sub_trans (by decide) hm) ?_
      | refine State.fault_keeps (sub_trans (by decide) hm) ?_
      | refine State.disarm_keeps (sub_trans (by decide) hm) ?_
      | (refine Keeps.lid hm (by decide) ?_; assumption)
    | split
    | dsimp only

theorem State.inject_keeps  (hm : 262162 ||| m = m) (h : Keeps m r s) :
    Keeps m r (State.inject s) := by
  unfold State.inject
  repeat' first
    | with_reducible first
      | assumption
      | refine Keeps.ite ?_ ?_
      | refine State.eventHw_keeps (sub_trans (by decide) hm) ?_
      | refine State.setn_keeps (sub_trans (by decide) hm) ?_
      | (refine Keeps.lid hm (by decide) ?_; assumption)
    | split
    | dsimp only

theorem State.lidMeets_keeps {a2 : _} (hm : 320222 ||| m = m) (h : Keeps m r s) :
    Keeps m r (State.lidMeets s a2) := by
  unfold State.lidMeets
  try lift_lets
  repeat (intro x; first
    | (have hx : Keeps m r x := by
        dsimp only [x]
        repeat' first
          | with_reducible first
            | assumption
            | refine Keeps.ite ?_ ?_
            | refine State.hvHold_keeps (sub_trans (by decide) hm) ?_
            | refine State.driveSafe_keeps (sub_trans (by decide) hm) ?_
            | refine State.axisSafe_keeps (sub_trans (by decide) hm) ?_
            | refine State.zoneSafe_keeps (sub_trans (by decide) hm) ?_
            | refine Keeps.each ?_ ?_
            | (refine Keeps.lid hm (by decide) ?_; assumption)
          | (intro t x ht)
          | (intro t ht)
          | (intro t y z ht)
          | (intro ht)
          | split
          | dsimp only
       clear_value x)
    | clear_value x)
  repeat' first
    | with_reducible first
      | assumption
      | refine Keeps.ite ?_ ?_
      | refine State.hvHold_keeps (sub_trans (by decide) hm) ?_
      | refine State.driveSafe_keeps (sub_trans (by decide) hm) ?_
      | refine State.axisSafe_keeps (sub_trans (by decide) hm) ?_
      | refine State.zoneSafe_keeps (sub_trans (by decide) hm) ?_
      | refine Keeps.each ?_ ?_
      | (refine Keeps.lid hm (by decide) ?_; assumption)
    | (intro t x ht)
    | (intro t ht)
    | (intro t y z ht)
    | (intro ht)
    | split
    | dsimp only

/-! ## Attest -/

theorem State.beginSigning_keeps  (hm : 1048576 ||| m = m) (h : Keeps m r s) :
    Keeps m r (State.beginSigning s) := by
  unfold State.beginSigning
  repeat' first
    | with_reducible first
      | assumption
      | (refine Keeps.trust hm (by decide) ?_; assumption)
    | split
    | dsimp only

theorem State.attest_keeps {a2 : _} {a3 : _} (hm : 1048576 ||| m = m) (h : Keeps m r s) :
    Keeps m r (State.attest s a2 a3) := by
  unfold State.attest
  repeat' first
    | with_reducible first
      | assumption
      | refine State.beginSigning_keeps (sub_trans (by decide) hm) ?_
      | (refine Keeps.trust hm (by decide) ?_; assumption)
    | split
    | dsimp only

theorem State.answerTrust_keeps {k : Nat} (hm : 1048630 ||| m = m) (h : Keeps m r s) :
    Keeps m r (State.answerTrust k s) := by
  induction k generalizing s with
  | zero => exact h
  | succ k ih =>
    unfold State.answerTrust
    split
    · split
      · exact ih (State.produce_keeps (sub_trans (by decide) hm) (State.finishEntry_keeps (sub_trans (by decide) hm) (Keeps.trust hm (by decide) h)))
      · exact h
    · exact h

theorem State.addTrust_keeps {a2 : _} (hm : 1048630 ||| m = m) (h : Keeps m r s) :
    Keeps m r (State.addTrust s a2) := by
  unfold State.addTrust
  repeat' first
    | with_reducible first
      | assumption
      | refine State.answerTrust_keeps (sub_trans (by decide) hm) ?_
      | (refine Keeps.trust hm (by decide) ?_; assumption)
    | split
    | dsimp only

theorem State.serveTrust_keeps {a2 : _} {a3 : _} (hm : 1314870 ||| m = m) (h : Keeps m r s) :
    Keeps m r (State.serveTrust s a2 a3) := by
  unfold State.serveTrust
  repeat' first
    | with_reducible first
      | assumption
      | refine Keeps.ite ?_ ?_
      | refine State.addTrust_keeps (sub_trans (by decide) hm) ?_
      | refine State.attest_keeps (sub_trans (by decide) hm) ?_
      | refine State.hostWrite_keeps (sub_trans (by decide) hm) ?_
      | refine State.hostFault_keeps (sub_trans (by decide) hm) ?_
    | split
    | dsimp only

theorem State.takeTrust_keeps {a2 : _} {a3 : _} {a4 : _} (hm : 1314870 ||| m = m) (h : Keeps m r s) :
    Keeps m r (State.takeTrust s a2 a3 a4) := by
  unfold State.takeTrust
  try lift_lets
  repeat (intro x; first
    | (have hx : Keeps m r x := by
        dsimp only [x]
        repeat' first
          | with_reducible first
            | assumption
            | refine Keeps.ite ?_ ?_
            | refine State.takeEntry_keeps (sub_trans (by decide) hm) ?_ ?_
            | refine State.serveTrust_keeps (sub_trans (by decide) hm) ?_
          | (intro t x ht)
          | (intro t ht)
          | (intro t y z ht)
          | (intro ht)
          | split
          | dsimp only
       clear_value x)
    | clear_value x)
  repeat' first
    | with_reducible first
      | assumption
      | refine Keeps.ite ?_ ?_
      | refine State.takeEntry_keeps (sub_trans (by decide) hm) ?_ ?_
      | refine State.serveTrust_keeps (sub_trans (by decide) hm) ?_
    | (intro t x ht)
    | (intro t ht)
    | (intro t y z ht)
    | (intro ht)
    | split
    | dsimp only

theorem execAttest_keeps {a1 : _} {a2 : _} (hm : 1314870 ||| m = m) (h : Keeps m r s) :
    KeepsO m r (execAttest a1 a2 s) := by
  unfold execAttest
  repeat' first
    | with_reducible first
      | assumption
      | refine KeepsO.next ?_
      | exact KeepsO.fault
      | refine KeepsO.ite ?_ ?_
      | refine State.takeTrust_keeps (sub_trans (by decide) hm) ?_
    | split
    | dsimp only

theorem execCertificates_keeps {a1 : _} {a2 : _} (hm : 1314870 ||| m = m) (h : Keeps m r s) :
    KeepsO m r (execCertificates a1 a2 s) := by
  unfold execCertificates
  repeat' first
    | with_reducible first
      | assumption
      | refine KeepsO.next ?_
      | exact KeepsO.fault
      | refine KeepsO.ite ?_ ?_
      | refine State.takeTrust_keeps (sub_trans (by decide) hm) ?_
    | split
    | dsimp only

theorem execModuleReset_keeps {a1 : _} (hm : 1314870 ||| m = m) (h : Keeps m r s) :
    KeepsO m r (execModuleReset a1 s) := by
  unfold execModuleReset
  repeat' first
    | with_reducible first
      | assumption
      | refine KeepsO.next ?_
      | exact KeepsO.fault
      | refine KeepsO.ite ?_ ?_
      | refine State.takeTrust_keeps (sub_trans (by decide) hm) ?_
    | split
    | dsimp only

theorem execPowerCycle_keeps {a1 : _} (hm : 1314870 ||| m = m) (h : Keeps m r s) :
    KeepsO m r (execPowerCycle a1 s) := by
  unfold execPowerCycle
  repeat' first
    | with_reducible first
      | assumption
      | refine KeepsO.next ?_
      | exact KeepsO.fault
      | refine KeepsO.ite ?_ ?_
      | refine State.takeTrust_keeps (sub_trans (by decide) hm) ?_
    | split
    | dsimp only

theorem State.deliverReport_keeps {b : Bool} {v : Bytes} (hm : 5509174 ||| m = m) (h : Keeps m r s) :
    Keeps m r (s.deliverReport b v) := by
  unfold State.deliverReport
  dsimp only
  split
  · split
    · exact State.draw_keeps (sub_trans (by decide) hm) h
    · refine State.answerTrust_keeps (sub_trans (by decide) hm) (Keeps.trust hm (by decide) (State.event_keeps (sub_trans (by decide) hm) ?_))
      split
      · exact State.hostWrite_keeps (sub_trans (by decide) hm) (State.draw_keeps (sub_trans (by decide) hm) h)
      · exact State.hostFault_keeps (sub_trans (by decide) hm) (State.draw_keeps (sub_trans (by decide) hm) h)
  · exact State.event_keeps (sub_trans (by decide) hm) (State.setBytes_keeps (sub_trans (by decide) hm) (State.bump_keeps (sub_trans (by decide) hm) (State.draw_keeps (sub_trans (by decide) hm) h)))

theorem execAttestationSigned_keeps  (hm : 5509174 ||| m = m) (h : Keeps m r s) :
    KeepsO m r (execAttestationSigned s) := by
  unfold execAttestationSigned
  repeat' first
    | with_reducible first
      | assumption
      | refine KeepsO.next ?_
      | exact KeepsO.fault
      | refine KeepsO.ite ?_ ?_
      | refine State.beginSigning_keeps (sub_trans (by decide) hm) ?_
      | refine State.deliverReport_keeps (sub_trans (by decide) hm) ?_
      | (refine Keeps.trust hm (by decide) ?_; assumption)
    | split
    | dsimp only

/-! ## Effects -/

theorem State.stationReinit_keeps {a2 : _} {a3 : _} (hm : 262290 ||| m = m) (h : Keeps m r s) :
    Keeps m r (State.stationReinit s a2 a3) := by
  unfold State.stationReinit
  repeat' first
    | with_reducible first
      | assumption
      | refine State.startStation_keeps (sub_trans (by decide) hm) ?_
      | refine State.laserLow_keeps (sub_trans (by decide) hm) ?_
      | refine State.setb_keeps (sub_trans (by decide) hm) ?_
    | split
    | dsimp only

theorem State.polygonReinit_keeps {a2 : _} (hm : 303830 ||| m = m) (h : Keeps m r s) :
    Keeps m r (State.polygonReinit s a2) := by
  unfold State.polygonReinit
  try lift_lets
  repeat (intro x; first
    | (have hx : Keeps m r x := by
        dsimp only [x]
        repeat' first
          | with_reducible first
            | assumption
            | refine State.refreshPolygon_keeps (sub_trans (by decide) hm) ?_
            | refine State.refreshSync_keeps (sub_trans (by decide) hm) ?_
            | refine State.polygonIdle_keeps (sub_trans (by decide) hm) ?_
            | refine Keeps.foldl ?_ ?_
          | (intro t x ht)
          | (intro t ht)
          | (intro t y z ht)
          | (intro ht)
          | split
          | dsimp only
       clear_value x)
    | clear_value x)
  repeat' first
    | with_reducible first
      | assumption
      | refine State.refreshPolygon_keeps (sub_trans (by decide) hm) ?_
      | refine State.refreshSync_keeps (sub_trans (by decide) hm) ?_
      | refine State.polygonIdle_keeps (sub_trans (by decide) hm) ?_
      | refine Keeps.foldl ?_ ?_
    | (intro t x ht)
    | (intro t ht)
    | (intro t y z ht)
    | (intro ht)
    | split
    | dsimp only

theorem State.positionReinit_keeps  (hm : 1377214 ||| m = m) (h : Keeps m r s) :
    Keeps m r (State.positionReinit s) := by
  unfold State.positionReinit
  try lift_lets
  repeat (intro x; first
    | (have hx : Keeps m r x := by
        dsimp only [x]
        repeat' first
          | with_reducible first
            | assumption
            | refine Keeps.ite ?_ ?_
            | refine State.freeSlots_keeps (sub_trans (by decide) hm) ?_
            | refine State.dropDecodes_keeps (sub_trans (by decide) hm) ?_
            | refine State.truncate_keeps (sub_trans (by decide) hm) ?_
            | refine State.spoilPage_keeps (sub_trans (by decide) hm) ?_
            | refine State.endPage_keeps (sub_trans (by decide) hm) ?_
            | refine Keeps.each ?_ ?_
            | refine Keeps.foldl ?_ ?_
          | (intro t x ht)
          | (intro t ht)
          | (intro t y z ht)
          | (intro ht)
          | split
          | dsimp only
       clear_value x)
    | clear_value x)
  repeat' first
    | with_reducible first
      | assumption
      | refine Keeps.ite ?_ ?_
      | refine State.freeSlots_keeps (sub_trans (by decide) hm) ?_
      | refine State.dropDecodes_keeps (sub_trans (by decide) hm) ?_
      | refine State.truncate_keeps (sub_trans (by decide) hm) ?_
      | refine State.spoilPage_keeps (sub_trans (by decide) hm) ?_
      | refine State.endPage_keeps (sub_trans (by decide) hm) ?_
      | refine Keeps.each ?_ ?_
      | refine Keeps.foldl ?_ ?_
    | (intro t x ht)
    | (intro t ht)
    | (intro t y z ht)
    | (intro ht)
    | split
    | dsimp only

theorem State.slotReinit_keeps {a2 : _} (hm : 32770 ||| m = m) (h : Keeps m r s) :
    Keeps m r (State.slotReinit s a2) := by
  unfold State.slotReinit
  repeat' first
    | with_reducible first
      | assumption
      | refine State.setLoopSlot_keeps (sub_trans (by decide) hm) ?_
      | refine State.setn_keeps (sub_trans (by decide) hm) ?_
    | split
    | dsimp only

theorem State.reinitFunction_keeps {a2 : _} {a3 : _} {a4 : _} (hm : 1966078 ||| m = m) (h : Keeps m r s) :
    Keeps m r (State.reinitFunction s a2 a3 a4) := by
  unfold State.reinitFunction
  repeat' first
    | with_reducible first
      | assumption
      | refine Keeps.ite ?_ ?_
      | refine State.startGranted_keeps (sub_trans (by decide) hm) ?_
      | refine State.unitReinit_keeps (sub_trans (by decide) hm) ?_
      | refine State.laneTests_keeps (sub_trans (by decide) hm) ?_
      | refine State.stationReinit_keeps (sub_trans (by decide) hm) ?_
      | refine State.polygonReinit_keeps (sub_trans (by decide) hm) ?_
      | refine State.encoderEnable_keeps (sub_trans (by decide) hm) ?_
      | refine State.positionReinit_keeps (sub_trans (by decide) hm) ?_
      | refine State.ladleReinit_keeps (sub_trans (by decide) hm) ?_
      | refine State.crockReinit_keeps (sub_trans (by decide) hm) ?_
      | refine State.driveReinit_keeps (sub_trans (by decide) hm) ?_
      | refine State.axisReinit_keeps (sub_trans (by decide) hm) ?_
      | refine State.slotReinit_keeps (sub_trans (by decide) hm) ?_
      | refine State.hvTo_keeps (sub_trans (by decide) hm) ?_
      | refine State.zoneTo_keeps (sub_trans (by decide) hm) ?_
    | split
    | dsimp only

theorem State.reinitialise_keeps {a2 : _} {a3 : _} (hm : 1966078 ||| m = m) (h : Keeps m r s) :
    Keeps m r (State.reinitialise s a2 a3) := by
  unfold State.reinitialise
  repeat' first
    | with_reducible first
      | assumption
      | refine State.reinitFunction_keeps (sub_trans (by decide) hm) ?_
      | refine State.event_keeps (sub_trans (by decide) hm) ?_
      | refine State.setn_keeps (sub_trans (by decide) hm) ?_
      | refine State.bump_keeps (sub_trans (by decide) hm) ?_
    | split
    | dsimp only

theorem State.beamsReturn_keeps {a2 : _} {a3 : _} (hm : 130 ||| m = m) (h : Keeps m r s) :
    Keeps m r (State.beamsReturn s a2 a3) := by
  unfold State.beamsReturn
  try lift_lets
  repeat (intro x; first
    | (have hx : Keeps m r x := by
        dsimp only [x]
        repeat' first
          | with_reducible first
            | assumption
            | refine Keeps.ite ?_ ?_
            | refine State.setBeamCurrent_keeps (sub_trans (by decide) hm) ?_
            | refine State.setStation_keeps (sub_trans (by decide) hm) ?_
            | refine Keeps.each ?_ ?_
            | refine Keeps.foldl ?_ ?_
          | (intro t x ht)
          | (intro t ht)
          | (intro t y z ht)
          | (intro ht)
          | split
          | dsimp only
       clear_value x)
    | clear_value x)
  repeat' first
    | with_reducible first
      | assumption
      | refine Keeps.ite ?_ ?_
      | refine State.setBeamCurrent_keeps (sub_trans (by decide) hm) ?_
      | refine State.setStation_keeps (sub_trans (by decide) hm) ?_
      | refine Keeps.each ?_ ?_
      | refine Keeps.foldl ?_ ?_
    | (intro t x ht)
    | (intro t ht)
    | (intro t y z ht)
    | (intro ht)
    | split
    | dsimp only

theorem State.restoreBeams_keeps {a2 : _} {a3 : _} (hm : 146 ||| m = m) (h : Keeps m r s) :
    Keeps m r (State.restoreBeams s a2 a3) := by
  unfold State.restoreBeams
  try lift_lets
  repeat (intro x; first
    | (have hx : Keeps m r x := by
        dsimp only [x]
        repeat' first
          | with_reducible first
            | assumption
            | refine State.beamsReturn_keeps (sub_trans (by decide) hm) ?_
            | refine State.setn_keeps (sub_trans (by decide) hm) ?_
            | refine State.beamEvent_keeps (sub_trans (by decide) hm) ?_
            | refine Keeps.each ?_ ?_
          | (intro t x ht)
          | (intro t ht)
          | (intro t y z ht)
          | (intro ht)
          | split
          | dsimp only
       clear_value x)
    | clear_value x)
  repeat' first
    | with_reducible first
      | assumption
      | refine State.beamsReturn_keeps (sub_trans (by decide) hm) ?_
      | refine State.setn_keeps (sub_trans (by decide) hm) ?_
      | refine State.beamEvent_keeps (sub_trans (by decide) hm) ?_
      | refine Keeps.each ?_ ?_
    | (intro t x ht)
    | (intro t ht)
    | (intro t y z ht)
    | (intro ht)
    | split
    | dsimp only

theorem State.retireBeams_keeps {a2 : _} {a3 : _} (hm : 146 ||| m = m) (h : Keeps m r s) :
    Keeps m r (State.retireBeams s a2 a3) := by
  unfold State.retireBeams
  repeat' first
    | with_reducible first
      | assumption
      | refine Keeps.ite ?_ ?_
      | refine State.setn_keeps (sub_trans (by decide) hm) ?_
      | refine State.setStation_keeps (sub_trans (by decide) hm) ?_
      | refine State.beamEvent_keeps (sub_trans (by decide) hm) ?_
      | refine State.beamsReturn_keeps (sub_trans (by decide) hm) ?_
    | split
    | dsimp only

theorem State.relearn_keeps {a2 : _} (hm : 210 ||| m = m) (h : Keeps m r s) :
    Keeps m r (State.relearn s a2) := by
  unfold State.relearn
  try lift_lets
  repeat (intro x; first
    | (have hx : Keeps m r x := by
        dsimp only [x]
        repeat' first
          | with_reducible first
            | assumption
            | refine State.setBytes_keeps (sub_trans (by decide) hm) ?_
            | refine State.setStation_keeps (sub_trans (by decide) hm) ?_
            | refine State.setIdentity_keeps (sub_trans (by decide) hm) ?_
            | refine State.setPolygon_keeps (sub_trans (by decide) hm) ?_
            | refine Keeps.each ?_ ?_
          | (intro t x ht)
          | (intro t ht)
          | (intro t y z ht)
          | (intro ht)
          | split
          | dsimp only
       clear_value x)
    | clear_value x)
  repeat' first
    | with_reducible first
      | assumption
      | refine State.setBytes_keeps (sub_trans (by decide) hm) ?_
      | refine State.setStation_keeps (sub_trans (by decide) hm) ?_
      | refine State.setIdentity_keeps (sub_trans (by decide) hm) ?_
      | refine State.setPolygon_keeps (sub_trans (by decide) hm) ?_
      | refine Keeps.each ?_ ?_
    | (intro t x ht)
    | (intro t ht)
    | (intro t y z ht)
    | (intro ht)
    | split
    | dsimp only

theorem State.signatureWritten_keeps {a2 : _} (hm : 18 ||| m = m) (h : Keeps m r s) :
    Keeps m r (State.signatureWritten s a2) := by
  unfold State.signatureWritten
  repeat' first
    | with_reducible first
      | assumption
      | refine Keeps.ite ?_ ?_
      | refine State.setIdentity_keeps (sub_trans (by decide) hm) ?_
    | split
    | dsimp only

theorem State.laserWritten_keeps {a2 : _} {a3 : _} (hm : 146 ||| m = m) (h : Keeps m r s) :
    Keeps m r (State.laserWritten s a2 a3) := by
  unfold State.laserWritten
  repeat' first
    | with_reducible first
      | assumption
      | refine Keeps.ite ?_ ?_
      | refine State.refreshLaser_keeps (sub_trans (by decide) hm) ?_
      | refine State.setb_keeps (sub_trans (by decide) hm) ?_
      | refine State.setStation_keeps (sub_trans (by decide) hm) ?_
    | split
    | dsimp only

theorem State.takeOut_keeps {a2 : _} (hm : 5571382 ||| m = m) (h : Keeps m r s) :
    Keeps m r (State.takeOut s a2) := by
  unfold State.takeOut
  repeat' first
    | with_reducible first
      | assumption
      | refine State.laneLeaves_keeps (sub_trans (by decide) hm) ?_
    | split
    | dsimp only

theorem State.hostLock_keeps {a2 : _} {a3 : _} (hm : 1040 ||| m = m) (h : Keeps m r s) :
    Keeps m r (State.hostLock s a2 a3) := by
  unfold State.hostLock
  repeat' first
    | with_reducible first
      | assumption
      | refine Keeps.ite ?_ ?_
      | refine State.takeLock_keeps (sub_trans (by decide) hm) ?_
    | split
    | dsimp only

theorem State.hostUnlock_keeps {a2 : _} (hm : 1317942 ||| m = m) (h : Keeps m r s) :
    Keeps m r (State.hostUnlock s a2) := by
  unfold State.hostUnlock
  repeat' first
    | with_reducible first
      | assumption
      | refine State.startGranted_keeps (sub_trans (by decide) hm) ?_
      | refine State.releaseLock_keeps (sub_trans (by decide) hm) ?_
    | split
    | dsimp only

theorem State.hostMove_keeps {a2 : _} {a3 : _} (hm : 16402 ||| m = m) (h : Keeps m r s) :
    Keeps m r (State.hostMove s a2 a3) := by
  unfold State.hostMove
  repeat' first
    | with_reducible first
      | assumption
      | refine State.startMove_keeps (sub_trans (by decide) hm) ?_
      | refine State.hostActs_keeps (sub_trans (by decide) hm) ?_
    | split
    | dsimp only

theorem State.commandLow_keeps {a2 : _} {a3 : _} {a4 : _} {a5 : _} (hm : 2097150 ||| m = m) (h : Keeps m r s) :
    Keeps m r (State.commandLow s a2 a3 a4 a5) := by
  unfold State.commandLow
  repeat' first
    | with_reducible first
      | assumption
      | refine State.reinitialise_keeps (sub_trans (by decide) hm) ?_
      | refine State.oneMs_keeps (sub_trans (by decide) hm) ?_
      | refine State.faultClear_keeps (sub_trans (by decide) hm) ?_
      | refine State.stickyClear_keeps (sub_trans (by decide) hm) ?_
      | refine State.inject_keeps (sub_trans (by decide) hm) ?_
      | refine State.plannedSwitch_keeps (sub_trans (by decide) hm) ?_
      | refine State.standbyReload_keeps (sub_trans (by decide) hm) ?_
      | refine State.eventFw_keeps (sub_trans (by decide) hm) ?_
      | refine State.acknowledge_keeps (sub_trans (by decide) hm) ?_
      | refine State.attest_keeps (sub_trans (by decide) hm) ?_
    | split
    | dsimp only

theorem State.command_keeps {a2 : _} {a3 : _} {a4 : _} {a5 : _} {a6 : _} (hm : 6291454 ||| m = m) (h : Keeps m r s) :
    Keeps m r (State.command s a2 a3 a4 a5 a6) := by
  unfold State.command
  repeat' first
    | with_reducible first
      | assumption
      | refine Keeps.ite ?_ ?_
      | refine State.commandLow_keeps (sub_trans (by decide) hm) ?_
      | refine State.setn_keeps (sub_trans (by decide) hm) ?_
      | refine State.relearn_keeps (sub_trans (by decide) hm) ?_
      | refine State.restoreBeams_keeps (sub_trans (by decide) hm) ?_
      | refine State.takeOut_keeps (sub_trans (by decide) hm) ?_
      | refine State.healthReport_keeps (sub_trans (by decide) hm) ?_
      | refine State.hostLock_keeps (sub_trans (by decide) hm) ?_
      | refine State.hostUnlock_keeps (sub_trans (by decide) hm) ?_
      | refine State.chopperTest_keeps (sub_trans (by decide) hm) ?_
      | refine State.setBusSwitch_keeps (sub_trans (by decide) hm) ?_
      | refine State.startProfile_keeps (sub_trans (by decide) hm) ?_
      | refine State.hostMove_keeps (sub_trans (by decide) hm) ?_
      | refine State.stopAxis_keeps (sub_trans (by decide) hm) ?_
      | refine State.hostActs_keeps (sub_trans (by decide) hm) ?_
      | refine State.presetAxis_keeps (sub_trans (by decide) hm) ?_
      | refine State.startHoming_keeps (sub_trans (by decide) hm) ?_
      | refine State.hostSwitch_keeps (sub_trans (by decide) hm) ?_
    | split
    | dsimp only

theorem State.requestDomains_keeps {a2 : _} {a3 : _} (hm : 16777214 ||| m = m) (h : Keeps m r s) :
    Keeps m r (State.requestDomains s a2 a3) := by
  unfold State.requestDomains
  try lift_lets
  repeat (intro x; first
    | (have hx : Keeps m r x := by
        dsimp only [x]
        repeat' first
          | with_reducible first
            | assumption
            | refine Keeps.ite ?_ ?_
            | refine State.releaseDomain_keeps (sub_trans (by decide) hm) ?_
            | refine State.switchOnAll_keeps (sub_trans (by decide) hm) ?_
            | refine State.setDomain_keeps (sub_trans (by decide) hm) ?_
            | refine Keeps.each ?_ ?_
          | (intro t x ht)
          | (intro t ht)
          | (intro t y z ht)
          | (intro ht)
          | split
          | dsimp only
       clear_value x)
    | clear_value x)
  repeat' first
    | with_reducible first
      | assumption
      | refine Keeps.ite ?_ ?_
      | refine State.releaseDomain_keeps (sub_trans (by decide) hm) ?_
      | refine State.switchOnAll_keeps (sub_trans (by decide) hm) ?_
      | refine State.setDomain_keeps (sub_trans (by decide) hm) ?_
      | refine Keeps.each ?_ ?_
    | (intro t x ht)
    | (intro t ht)
    | (intro t y z ht)
    | (intro ht)
    | split
    | dsimp only

theorem State.effectLow_keeps {a2 : _} {a3 : _} {a4 : _} {a5 : _} (hm : 16777214 ||| m = m) (h : Keeps m r s) :
    Keeps m r (State.effectLow s a2 a3 a4 a5) := by
  unfold State.effectLow
  repeat' first
    | with_reducible first
      | assumption
      | refine Keeps.ite ?_ ?_
      | refine State.channelEnable_keeps (sub_trans (by decide) hm) ?_
      | refine State.put_keeps (sub_trans (by decide) hm) ?_
      | refine State.requestDomains_keeps (sub_trans (by decide) hm) ?_
      | refine State.extendMeasurement_keeps (sub_trans (by decide) hm) ?_
      | refine State.event_keeps (sub_trans (by decide) hm) ?_
      | refine State.alignmentSource_keeps (sub_trans (by decide) hm) ?_
      | refine State.expectedWritten_keeps (sub_trans (by decide) hm) ?_
    | split
    | dsimp only

theorem State.refreshVelocity_keeps {a2 : _} (hm : 2 ||| m = m) (h : Keeps m r s) :
    Keeps m r (State.refreshVelocity s a2) := by
  unfold State.refreshVelocity
  repeat' first
    | with_reducible first
      | assumption
      | refine Keeps.ite ?_ ?_
      | refine State.seti_keeps (sub_trans (by decide) hm) ?_
    | split
    | dsimp only

theorem State.effectMid_keeps {a2 : _} {a3 : _} {a4 : _} {a5 : _} (hm : 1352414 ||| m = m) (h : Keeps m r s) :
    Keeps m r (State.effectMid s a2 a3 a4 a5) := by
  unfold State.effectMid
  repeat' first
    | with_reducible first
      | assumption
      | refine Keeps.ite ?_ ?_
      | refine State.encoderEnable_keeps (sub_trans (by decide) hm) ?_
      | refine State.presetPosition_keeps (sub_trans (by decide) hm) ?_
      | refine State.refreshVelocity_keeps (sub_trans (by decide) hm) ?_
      | refine State.refreshPolygon_keeps (sub_trans (by decide) hm) ?_
      | refine State.signatureWritten_keeps (sub_trans (by decide) hm) ?_
      | refine State.laserWritten_keeps (sub_trans (by decide) hm) ?_
      | refine State.extendMeasurement_keeps (sub_trans (by decide) hm) ?_
      | refine State.retireBeams_keeps (sub_trans (by decide) hm) ?_
    | split
    | dsimp only

theorem State.effectHigh_keeps {a2 : _} {a3 : _} {a4 : _} {a5 : _} (hm : 5628926 ||| m = m) (h : Keeps m r s) :
    Keeps m r (State.effectHigh s a2 a3 a4 a5) := by
  unfold State.effectHigh
  repeat' first
    | with_reducible first
      | assumption
      | refine Keeps.ite ?_ ?_
      | refine State.commitOff_keeps (sub_trans (by decide) hm) ?_
      | refine State.extendMeasurement_keeps (sub_trans (by decide) hm) ?_
      | refine State.followStreams_keeps (sub_trans (by decide) hm) ?_
      | refine State.event_keeps (sub_trans (by decide) hm) ?_
      | refine State.driveEnable_keeps (sub_trans (by decide) hm) ?_
      | refine State.driveCheck_keeps (sub_trans (by decide) hm) ?_
      | refine State.setDrive_keeps (sub_trans (by decide) hm) ?_
      | refine State.axisEnable_keeps (sub_trans (by decide) hm) ?_
      | refine State.targetWritten_keeps (sub_trans (by decide) hm) ?_
      | refine State.slotEnable_keeps (sub_trans (by decide) hm) ?_
      | refine State.slotMode_keeps (sub_trans (by decide) hm) ?_
      | refine State.refreshInBand_keeps (sub_trans (by decide) hm) ?_
      | refine State.zoneEnable_keeps (sub_trans (by decide) hm) ?_
      | refine State.zoneCheck_keeps (sub_trans (by decide) hm) ?_
      | refine State.hvEnable_keeps (sub_trans (by decide) hm) ?_
    | split
    | dsimp only

theorem State.effect_keeps {a2 : _} {a3 : _} {a4 : _} {a5 : _} (hm : 16777214 ||| m = m) (h : Keeps m r s) :
    Keeps m r (State.effect s a2 a3 a4 a5) := by
  unfold State.effect
  repeat' first
    | with_reducible first
      | assumption
      | refine Keeps.ite ?_ ?_
      | refine State.effectLow_keeps (sub_trans (by decide) hm) ?_
      | refine State.effectMid_keeps (sub_trans (by decide) hm) ?_
      | refine State.effectHigh_keeps (sub_trans (by decide) hm) ?_
    | split
    | dsimp only

theorem State.applyValue_keeps {a2 : _} {a3 : _} {a4 : _} (hm : 16777214 ||| m = m) (h : Keeps m r s) :
    Keeps m r (State.applyValue s a2 a3 a4) := by
  unfold State.applyValue
  repeat' first
    | with_reducible first
      | assumption
      | refine State.effect_keeps (sub_trans (by decide) hm) ?_
      | refine State.put_keeps (sub_trans (by decide) hm) ?_
    | split
    | dsimp only

/-! ## Dictionary -/

theorem State.writeRecord_keeps {a2 : _} (hm : 2424850 ||| m = m) (h : Keeps m r s) :
    Keeps m r (State.writeRecord s a2) := by
  unfold State.writeRecord
  repeat' first
    | with_reducible first
      | assumption
      | refine State.mramWrite_keeps (sub_trans (by decide) hm) ?_
      | refine State.program_keeps (sub_trans (by decide) hm) ?_
      | (refine Keeps.svc hm (by decide) ?_; assumption)
    | split
    | dsimp only

theorem State.storePart_keeps {a2 : _} (hm : 2424850 ||| m = m) (h : Keeps m r s) :
    Keeps m r (State.storePart s a2) := by
  unfold State.storePart
  repeat' first
    | with_reducible first
      | assumption
      | refine State.event_keeps (sub_trans (by decide) hm) ?_
      | refine State.writeRecord_keeps (sub_trans (by decide) hm) ?_
      | refine Keeps.foldl ?_ ?_
    | split
    | dsimp only

theorem State.restorePart_keeps {a2 : _} (hm : 2424850 ||| m = m) (h : Keeps m r s) :
    Keeps m r (State.restorePart s a2) := by
  unfold State.restorePart
  repeat' first
    | with_reducible first
      | assumption
      | refine State.event_keeps (sub_trans (by decide) hm) ?_
      | refine State.writeRecord_keeps (sub_trans (by decide) hm) ?_
    | split
    | dsimp only

theorem State.carryOut_keeps {a2 : _} {a3 : _} {a4 : _} {a5 : _} {a6 : _} {a7 : _} (hm : 16777214 ||| m = m) (h : Keeps m r s) :
    Keeps m r (State.carryOut s a2 a3 a4 a5 a6 a7) := by
  unfold State.carryOut
  try lift_lets
  repeat (intro x; first
    | (have hx : Keeps m r x := by
        dsimp only [x]
        repeat' first
          | with_reducible first
            | assumption
            | refine Keeps.ite ?_ ?_
            | refine State.command_keeps (sub_trans (by decide) hm) ?_
            | refine State.dictionaryEntry_keeps (sub_trans (by decide) hm) ?_
            | refine State.storePart_keeps (sub_trans (by decide) hm) ?_
            | refine State.restorePart_keeps (sub_trans (by decide) hm) ?_
            | refine State.applyValue_keeps (sub_trans (by decide) hm) ?_
            | (refine Keeps.svc hm (by decide) ?_; assumption)
          | split
          | dsimp only
       clear_value x)
    | clear_value x)
  repeat' first
    | with_reducible first
      | assumption
      | refine Keeps.ite ?_ ?_
      | refine State.command_keeps (sub_trans (by decide) hm) ?_
      | refine State.dictionaryEntry_keeps (sub_trans (by decide) hm) ?_
      | refine State.storePart_keeps (sub_trans (by decide) hm) ?_
      | refine State.restorePart_keeps (sub_trans (by decide) hm) ?_
      | refine State.applyValue_keeps (sub_trans (by decide) hm) ?_
      | (refine Keeps.svc hm (by decide) ?_; assumption)
    | split
    | dsimp only

theorem State.writeObject_keeps {a2 : _} {a3 : _} {a4 : _} {a5 : _} {a6 : _} {a7 : _} (hm : 16777214 ||| m = m) (h : Keeps m r s) :
    Keeps m r (State.writeObject s a2 a3 a4 a5 a6 a7).1 := by
  unfold State.writeObject
  repeat' first
    | with_reducible first
      | assumption
      | refine Keeps.ite ?_ ?_
      | refine State.event_keeps (sub_trans (by decide) hm) ?_
      | refine State.carryOut_keeps (sub_trans (by decide) hm) ?_
    | split
    | dsimp only

theorem State.applyParts_keeps {a2 : _} {a3 : _} (hm : 16777214 ||| m = m) (h : Keeps m r s) :
    Keeps m r (State.applyParts s a2 a3) := by
  unfold State.applyParts
  try lift_lets
  repeat (intro x; first
    | (have hx : Keeps m r x := by
        dsimp only [x]
        repeat' first
          | with_reducible first
            | assumption
            | refine Keeps.ite ?_ ?_
            | refine State.put_keeps (sub_trans (by decide) hm) ?_
            | refine State.effect_keeps (sub_trans (by decide) hm) ?_
            | refine Keeps.each ?_ ?_
            | (refine Keeps.svc hm (by decide) ?_; assumption)
          | (intro t x ht)
          | (intro t ht)
          | (intro t y z ht)
          | (intro ht)
          | split
          | dsimp only
       clear_value x)
    | (have hx : Keeps m r x.1 := by
        dsimp only [x]
        repeat' first
          | with_reducible first
            | assumption
            | refine Keeps.ite ?_ ?_
            | refine State.put_keeps (sub_trans (by decide) hm) ?_
            | refine State.effect_keeps (sub_trans (by decide) hm) ?_
            | refine Keeps.each ?_ ?_
            | (refine Keeps.svc hm (by decide) ?_; assumption)
          | (intro t x ht)
          | (intro t ht)
          | (intro t y z ht)
          | (intro ht)
          | split
          | dsimp only
       clear_value x)
    | clear_value x)
  repeat' first
    | with_reducible first
      | assumption
      | refine Keeps.ite ?_ ?_
      | refine State.put_keeps (sub_trans (by decide) hm) ?_
      | refine State.effect_keeps (sub_trans (by decide) hm) ?_
      | refine Keeps.each ?_ ?_
      | (refine Keeps.svc hm (by decide) ?_; assumption)
    | (intro t x ht)
    | (intro t ht)
    | (intro t y z ht)
    | (intro ht)
    | split
    | dsimp only

theorem State.writeComplete_keeps {a2 : _} {a3 : _} {a4 : _} {a5 : _} (hm : 16777214 ||| m = m) (h : Keeps m r s) :
    Keeps m r (State.writeComplete s a2 a3 a4 a5).1 := by
  unfold State.writeComplete
  try lift_lets
  repeat (intro x; first
    | (have hx : Keeps m r x := by
        dsimp only [x]
        repeat' first
          | with_reducible first
            | assumption
            | refine Keeps.ite ?_ ?_
            | refine State.event_keeps (sub_trans (by decide) hm) ?_
            | refine State.dictionaryEntry_keeps (sub_trans (by decide) hm) ?_
            | refine State.storePart_keeps (sub_trans (by decide) hm) ?_
            | refine State.restorePart_keeps (sub_trans (by decide) hm) ?_
            | refine State.applyParts_keeps (sub_trans (by decide) hm) ?_
            | refine Keeps.each ?_ ?_
          | (intro t x ht)
          | (intro t ht)
          | (intro t y z ht)
          | (intro ht)
          | split
          | dsimp only
       clear_value x)
    | (have hx : Keeps m r x.1 := by
        dsimp only [x]
        repeat' first
          | with_reducible first
            | assumption
            | refine Keeps.ite ?_ ?_
            | refine State.event_keeps (sub_trans (by decide) hm) ?_
            | refine State.dictionaryEntry_keeps (sub_trans (by decide) hm) ?_
            | refine State.storePart_keeps (sub_trans (by decide) hm) ?_
            | refine State.restorePart_keeps (sub_trans (by decide) hm) ?_
            | refine State.applyParts_keeps (sub_trans (by decide) hm) ?_
            | refine Keeps.each ?_ ?_
          | (intro t x ht)
          | (intro t ht)
          | (intro t y z ht)
          | (intro ht)
          | split
          | dsimp only
       clear_value x)
    | clear_value x)
  repeat' first
    | with_reducible first
      | assumption
      | refine Keeps.ite ?_ ?_
      | refine State.event_keeps (sub_trans (by decide) hm) ?_
      | refine State.dictionaryEntry_keeps (sub_trans (by decide) hm) ?_
      | refine State.storePart_keeps (sub_trans (by decide) hm) ?_
      | refine State.restorePart_keeps (sub_trans (by decide) hm) ?_
      | refine State.applyParts_keeps (sub_trans (by decide) hm) ?_
      | refine Keeps.each ?_ ?_
    | (intro t x ht)
    | (intro t ht)
    | (intro t y z ht)
    | (intro ht)
    | split
    | dsimp only

theorem State.noteWrite_keeps {a2 : _} {a3 : _} {a4 : _} {a5 : _} (hm : 2097152 ||| m = m) (h : Keeps m r s) :
    Keeps m r (State.noteWrite s a2 a3 a4 a5) := by
  unfold State.noteWrite
  repeat' first
    | with_reducible first
      | assumption
      | refine Keeps.ite ?_ ?_
      | (refine Keeps.svc hm (by decide) ?_; assumption)
    | split
    | dsimp only

theorem State.issueAnswers_keeps  (hm : 2097152 ||| m = m) (h : Keeps m r s) :
    Keeps m r (State.issueAnswers s) := by
  unfold State.issueAnswers
  repeat' first
    | with_reducible first
      | assumption
      | refine Keeps.ite ?_ ?_
      | (refine Keeps.svc hm (by decide) ?_; assumption)
    | split
    | dsimp only

theorem State.answerRecorded_keeps  (hm : 2097168 ||| m = m) (h : Keeps m r s) :
    Keeps m r (State.answerRecorded s) := by
  unfold State.answerRecorded
  try lift_lets
  repeat (intro x; first
    | (have hx : Keeps m r x := by
        dsimp only [x]
        repeat' first
          | with_reducible first
            | assumption
            | refine State.event_keeps (sub_trans (by decide) hm) ?_
            | refine Keeps.each ?_ ?_
            | (refine Keeps.svc hm (by decide) ?_; assumption)
          | (intro t x ht)
          | (intro t ht)
          | (intro t y z ht)
          | (intro ht)
          | split
          | dsimp only
       clear_value x)
    | (have hx : Keeps m r x.1 := by
        dsimp only [x]
        repeat' first
          | with_reducible first
            | assumption
            | refine State.event_keeps (sub_trans (by decide) hm) ?_
            | refine Keeps.each ?_ ?_
            | (refine Keeps.svc hm (by decide) ?_; assumption)
          | (intro t x ht)
          | (intro t ht)
          | (intro t y z ht)
          | (intro ht)
          | split
          | dsimp only
       clear_value x)
    | clear_value x)
  repeat' first
    | with_reducible first
      | assumption
      | refine State.event_keeps (sub_trans (by decide) hm) ?_
      | refine Keeps.each ?_ ?_
      | (refine Keeps.svc hm (by decide) ?_; assumption)
    | (intro t x ht)
    | (intro t ht)
    | (intro t y z ht)
    | (intro ht)
    | split
    | dsimp only

theorem State.answered_keeps {a2 : _} {a3 : _} (hm : 2097154 ||| m = m) (h : Keeps m r s) :
    Keeps m r (State.answered s a2 a3) := by
  unfold State.answered
  try lift_lets
  repeat (intro x; first
    | (have hx : Keeps m r x := by
        dsimp only [x]
        repeat' first
          | with_reducible first
            | assumption
            | refine Keeps.ite ?_ ?_
            | refine State.bump_keeps (sub_trans (by decide) hm) ?_
            | refine Keeps.when ?_ ?_
            | (refine Keeps.svc hm (by decide) ?_; assumption)
          | (intro t x ht)
          | (intro t ht)
          | (intro t y z ht)
          | (intro ht)
          | split
          | dsimp only
       clear_value x)
    | clear_value x)
  repeat' first
    | with_reducible first
      | assumption
      | refine Keeps.ite ?_ ?_
      | refine State.bump_keeps (sub_trans (by decide) hm) ?_
      | refine Keeps.when ?_ ?_
      | (refine Keeps.svc hm (by decide) ?_; assumption)
    | (intro t x ht)
    | (intro t ht)
    | (intro t y z ht)
    | (intro ht)
    | split
    | dsimp only

theorem State.stall_keeps {a2 : _} (hm : 2097154 ||| m = m) (h : Keeps m r s) :
    Keeps m r (State.stall s a2) := by
  unfold State.stall
  repeat' first
    | with_reducible first
      | assumption
      | refine Keeps.ite ?_ ?_
      | refine State.bump_keeps (sub_trans (by decide) hm) ?_
      | (refine Keeps.svc hm (by decide) ?_; assumption)
    | split
    | dsimp only

theorem State.request_keeps {p : Path} {i : Instr} {f : State → State} (hm : 2097154 ||| m = m) (h : Keeps m r s)
    (hf : ∀ t, Keeps m r t → Keeps m r (f t)) : Keeps m r (s.request p i f) := by
  unfold State.request
  split
  · split
    · exact hf s h
    · exact State.stall_keeps (sub_trans (by decide) hm) h
  · exact h

theorem State.serveWrite_keeps {a2 : _} {a3 : _} {a4 : _} {a5 : _} {a6 : _} (hm : 16777214 ||| m = m) (h : Keeps m r s) :
    Keeps m r (State.serveWrite s a2 a3 a4 a5 a6) := by
  unfold State.serveWrite
  repeat' first
    | with_reducible first
      | assumption
      | refine State.writeObject_keeps (sub_trans (by decide) hm) ?_
      | refine State.answered_keeps (sub_trans (by decide) hm) ?_
      | refine State.noteWrite_keeps (sub_trans (by decide) hm) ?_
    | split
    | dsimp only

theorem State.serveComplete_keeps {a2 : _} {a3 : _} {a4 : _} {a5 : _} (hm : 16777214 ||| m = m) (h : Keeps m r s) :
    Keeps m r (State.serveComplete s a2 a3 a4 a5) := by
  unfold State.serveComplete
  repeat' first
    | with_reducible first
      | assumption
      | refine State.writeComplete_keeps (sub_trans (by decide) hm) ?_
      | refine State.answered_keeps (sub_trans (by decide) hm) ?_
      | refine State.noteWrite_keeps (sub_trans (by decide) hm) ?_
    | split
    | dsimp only

theorem State.writeRow_keeps {a2 : _} {a3 : _} {a4 : _} {a5 : _} (hm : 16777214 ||| m = m) (h : Keeps m r s) :
    Keeps m r (State.writeRow s a2 a3 a4 a5) := by
  unfold State.writeRow
  try lift_lets
  repeat (intro x; first
    | (have hx : Keeps m r x := by
        dsimp only [x]
        repeat' first
          | with_reducible first
            | assumption
            | refine State.request_keeps (sub_trans (by decide) hm) ?_ ?_
            | refine State.serveWrite_keeps (sub_trans (by decide) hm) ?_
          | (intro t x ht)
          | (intro t ht)
          | (intro t y z ht)
          | (intro ht)
          | split
          | dsimp only
       clear_value x)
    | clear_value x)
  repeat' first
    | with_reducible first
      | assumption
      | refine State.request_keeps (sub_trans (by decide) hm) ?_ ?_
      | refine State.serveWrite_keeps (sub_trans (by decide) hm) ?_
    | (intro t x ht)
    | (intro t ht)
    | (intro t y z ht)
    | (intro ht)
    | split
    | dsimp only

theorem State.serveMail_keeps {a2 : _} {a3 : _} {a4 : _} {a5 : _} (hm : 16777214 ||| m = m) (h : Keeps m r s) :
    Keeps m r (State.serveMail s a2 a3 a4 a5) := by
  unfold State.serveMail
  repeat' first
    | with_reducible first
      | assumption
      | refine Keeps.ite ?_ ?_
      | refine State.hostFault_keeps (sub_trans (by decide) hm) ?_
      | refine State.writeObject_keeps (sub_trans (by decide) hm) ?_
      | refine State.writeComplete_keeps (sub_trans (by decide) hm) ?_
      | refine State.noteWrite_keeps (sub_trans (by decide) hm) ?_
      | refine State.hostWrite_keeps (sub_trans (by decide) hm) ?_
      | refine State.answered_keeps (sub_trans (by decide) hm) ?_
      | refine State.produce_keeps (sub_trans (by decide) hm) ?_
      | refine State.finishEntry_keeps (sub_trans (by decide) hm) ?_
    | split
    | dsimp only

theorem State.takeMail_keeps {a2 : _} {a3 : _} {a4 : _} {a5 : _} {a6 : _} (hm : 16777214 ||| m = m) (h : Keeps m r s) :
    Keeps m r (State.takeMail s a2 a3 a4 a5 a6) := by
  unfold State.takeMail
  try lift_lets
  repeat (intro x; first
    | (have hx : Keeps m r x := by
        dsimp only [x]
        repeat' first
          | with_reducible first
            | assumption
            | refine Keeps.ite ?_ ?_
            | refine State.takeEntry_keeps (sub_trans (by decide) hm) ?_ ?_
            | refine State.serveMail_keeps (sub_trans (by decide) hm) ?_
          | (intro t x ht)
          | (intro t ht)
          | (intro t y z ht)
          | (intro ht)
          | split
          | dsimp only
       clear_value x)
    | clear_value x)
  repeat' first
    | with_reducible first
      | assumption
      | refine Keeps.ite ?_ ?_
      | refine State.takeEntry_keeps (sub_trans (by decide) hm) ?_ ?_
      | refine State.serveMail_keeps (sub_trans (by decide) hm) ?_
    | (intro t x ht)
    | (intro t ht)
    | (intro t y z ht)
    | (intro ht)
    | split
    | dsimp only

theorem State.mailRow_keeps {i : Instr} {f : State → State} (hm : 2097154 ||| m = m) (h : Keeps m r s)
    (hf : ∀ t, Keeps m r t → Keeps m r (f t)) : Keeps m r (s.mailRow i f) := by
  unfold State.mailRow
  split
  · exact hf s h
  · split
    · exact State.stall_keeps (sub_trans (by decide) hm) h
    · exact h

theorem State.serveWaiting_keeps {a2 : _} (hm : 16777214 ||| m = m) (h : Keeps m r s) :
    Keeps m r (State.serveWaiting s a2) := by
  unfold State.serveWaiting
  repeat' first
    | with_reducible first
      | assumption
      | refine Keeps.ite ?_ ?_
      | refine State.serveWrite_keeps (sub_trans (by decide) hm) ?_
      | refine State.answered_keeps (sub_trans (by decide) hm) ?_
      | refine State.serveComplete_keeps (sub_trans (by decide) hm) ?_
      | refine State.takeMail_keeps (sub_trans (by decide) hm) ?_
    | split
    | dsimp only

theorem State.serveStalled_keeps  (hm : 16777214 ||| m = m) (h : Keeps m r s) :
    Keeps m r (State.serveStalled s) := by
  unfold State.serveStalled
  try lift_lets
  repeat (intro x; first
    | (have hx : Keeps m r x := by
        dsimp only [x]
        repeat' first
          | with_reducible first
            | assumption
            | refine Keeps.ite ?_ ?_
            | refine State.serveWaiting_keeps (sub_trans (by decide) hm) ?_
            | refine Keeps.each ?_ ?_
            | (refine Keeps.svc hm (by decide) ?_; assumption)
          | (intro t x ht)
          | (intro t ht)
          | (intro t y z ht)
          | (intro ht)
          | split
          | dsimp only
       clear_value x)
    | clear_value x)
  repeat' first
    | with_reducible first
      | assumption
      | refine Keeps.ite ?_ ?_
      | refine State.serveWaiting_keeps (sub_trans (by decide) hm) ?_
      | refine Keeps.each ?_ ?_
      | (refine Keeps.svc hm (by decide) ?_; assumption)
    | (intro t x ht)
    | (intro t ht)
    | (intro t y z ht)
    | (intro ht)
    | split
    | dsimp only

theorem State.applyEntry_keeps {a2 : _} {a3 : _} (hm : 16777214 ||| m = m) (h : Keeps m r s) :
    Keeps m r (State.applyEntry s a2 a3) := by
  unfold State.applyEntry
  try lift_lets
  repeat (intro x; first
    | (have hx : Keeps m r x := by
        dsimp only [x]
        repeat' first
          | with_reducible first
            | assumption
            | refine Keeps.ite ?_ ?_
            | refine State.writeObject_keeps (sub_trans (by decide) hm) ?_
            | refine State.event_keeps (sub_trans (by decide) hm) ?_
            | refine State.bump_keeps (sub_trans (by decide) hm) ?_
            | (refine Keeps.svc hm (by decide) ?_; assumption)
          | split
          | dsimp only
       clear_value x)
    | (have hx : Keeps m r x.1 := by
        dsimp only [x]
        repeat' first
          | with_reducible first
            | assumption
            | refine Keeps.ite ?_ ?_
            | refine State.writeObject_keeps (sub_trans (by decide) hm) ?_
            | refine State.event_keeps (sub_trans (by decide) hm) ?_
            | refine State.bump_keeps (sub_trans (by decide) hm) ?_
            | (refine Keeps.svc hm (by decide) ?_; assumption)
          | split
          | dsimp only
       clear_value x)
    | clear_value x)
  repeat' first
    | with_reducible first
      | assumption
      | refine Keeps.ite ?_ ?_
      | refine State.writeObject_keeps (sub_trans (by decide) hm) ?_
      | refine State.event_keeps (sub_trans (by decide) hm) ?_
      | refine State.bump_keeps (sub_trans (by decide) hm) ?_
      | (refine Keeps.svc hm (by decide) ?_; assumption)
    | split
    | dsimp only

theorem State.applyRx_keeps {a2 : _} (hm : 16777214 ||| m = m) (h : Keeps m r s) :
    Keeps m r (State.applyRx s a2) := by
  unfold State.applyRx
  try lift_lets
  repeat (intro x; first
    | (have hx : Keeps m r x := by
        dsimp only [x]
        repeat' first
          | with_reducible first
            | assumption
            | refine State.applyEntry_keeps (sub_trans (by decide) hm) ?_
            | refine Keeps.each ?_ ?_
            | (refine Keeps.svc hm (by decide) ?_; assumption)
          | (intro t x ht)
          | (intro t ht)
          | (intro t y z ht)
          | (intro ht)
          | split
          | dsimp only
       clear_value x)
    | (have hx : Keeps m r x.1 := by
        dsimp only [x]
        repeat' first
          | with_reducible first
            | assumption
            | refine State.applyEntry_keeps (sub_trans (by decide) hm) ?_
            | refine Keeps.each ?_ ?_
            | (refine Keeps.svc hm (by decide) ?_; assumption)
          | (intro t x ht)
          | (intro t ht)
          | (intro t y z ht)
          | (intro ht)
          | split
          | dsimp only
       clear_value x)
    | clear_value x)
  repeat' first
    | with_reducible first
      | assumption
      | refine State.applyEntry_keeps (sub_trans (by decide) hm) ?_
      | refine Keeps.each ?_ ?_
      | (refine Keeps.svc hm (by decide) ?_; assumption)
    | (intro t x ht)
    | (intro t ht)
    | (intro t y z ht)
    | (intro ht)
    | split
    | dsimp only

theorem State.applyGap_keeps  (hm : 16777214 ||| m = m) (h : Keeps m r s) :
    Keeps m r (State.applyGap s) := by
  unfold State.applyGap
  repeat' first
    | with_reducible first
      | assumption
      | refine Keeps.ite ?_ ?_
      | refine State.applyRx_keeps (sub_trans (by decide) hm) ?_
      | (refine Keeps.svc hm (by decide) ?_; assumption)
    | split
    | dsimp only

/-! ## Ownership -/

theorem State.resume_keeps  (hm : 16777214 ||| m = m) (h : Keeps m r s) :
    Keeps m r (State.resume s) := by
  unfold State.resume
  repeat' first
    | with_reducible first
      | assumption
      | refine Keeps.ite ?_ ?_
      | refine State.bringUp_keeps (sub_trans (by decide) hm) ?_
      | refine State.serveStalled_keeps (sub_trans (by decide) hm) ?_
      | refine State.serveGapPages_keeps (sub_trans (by decide) hm) ?_
      | refine State.applyGap_keeps (sub_trans (by decide) hm) ?_
    | split
    | dsimp only

theorem execDomainReady_keeps {a1 : _} {a2 : _} (hm : 16777214 ||| m = m) (h : Keeps m r s) :
    KeepsO m r (execDomainReady a1 a2 s) := by
  unfold execDomainReady
  repeat' first
    | with_reducible first
      | assumption
      | refine KeepsO.next ?_
      | exact KeepsO.fault
      | refine KeepsO.ite ?_ ?_
      | refine Keeps.ite ?_ ?_
      | refine State.serveStalled_keeps (sub_trans (by decide) hm) ?_
      | refine State.lidMeets_keeps (sub_trans (by decide) hm) ?_
      | refine State.domainReady_keeps (sub_trans (by decide) hm) ?_
    | split
    | dsimp only

theorem State.releaseUnit_keeps {u c : Nat} (hm : 1572886 ||| m = m) (h : Keeps m r s) :
    Keeps m r (s.releaseUnit u c) := by
  unfold State.releaseUnit
  extract_lets s1 t
  have h1 : Keeps m r s1 := State.setRole_keeps (sub_trans (by decide) hm) (State.setn_keeps (sub_trans (by decide) hm) h)
  clear_value s1
  refine State.refreshGate_keeps (sub_trans (by decide) hm) ?_
  exact h1.step rfl rfl id (fun p hp => by cases p <;> first | rfl | exact (sub_out hm (by decide) hp).elim)

theorem State.unitLoaded_keeps {a2 : _} {a3 : _} (hm : 1572886 ||| m = m) (h : Keeps m r s) :
    Keeps m r (State.unitLoaded s a2 a3) := by
  unfold State.unitLoaded
  repeat' first
    | with_reducible first
      | assumption
      | refine Keeps.ite ?_ ?_
      | refine State.setRole_keeps (sub_trans (by decide) hm) ?_
      | refine State.setUnit_keeps (sub_trans (by decide) hm) ?_
      | refine State.releaseUnit_keeps (sub_trans (by decide) hm) ?_
    | split
    | dsimp only

theorem State.startLoaded_keeps {a2 : _} {a3 : _} {a4 : _} (hm : 1572886 ||| m = m) (h : Keeps m r s) :
    Keeps m r (State.startLoaded s a2 a3 a4) := by
  unfold State.startLoaded
  repeat' first
    | with_reducible first
      | assumption
      | refine Keeps.ite ?_ ?_
      | refine State.setRole_keeps (sub_trans (by decide) hm) ?_
      | refine State.loadImage_keeps (sub_trans (by decide) hm) ?_
      | refine State.recordLoad_keeps (sub_trans (by decide) hm) ?_
      | refine State.unitLoaded_keeps (sub_trans (by decide) hm) ?_
    | split
    | dsimp only

theorem State.reloaded_keeps {a2 : _} {a3 : _} {a4 : _} (hm : 1572886 ||| m = m) (h : Keeps m r s) :
    Keeps m r (State.reloaded s a2 a3 a4) := by
  unfold State.reloaded
  repeat' first
    | with_reducible first
      | assumption
      | refine Keeps.ite ?_ ?_
      | refine State.event_keeps (sub_trans (by decide) hm) ?_
      | refine State.setRole_keeps (sub_trans (by decide) hm) ?_
      | refine State.recordLoad_keeps (sub_trans (by decide) hm) ?_
      | refine State.loadImage_keeps (sub_trans (by decide) hm) ?_
      | refine State.setn_keeps (sub_trans (by decide) hm) ?_
    | split
    | dsimp only

theorem execUnitLoadComplete_keeps {a1 : _} {a2 : _} {a3 : _} (hm : 16777214 ||| m = m) (h : Keeps m r s) :
    KeepsO m r (execUnitLoadComplete a1 a2 a3 s) := by
  unfold execUnitLoadComplete
  repeat' first
    | with_reducible first
      | assumption
      | refine KeepsO.next ?_
      | exact KeepsO.fault
      | refine KeepsO.ite ?_ ?_
      | refine Keeps.ite ?_ ?_
      | refine State.resume_keeps (sub_trans (by decide) hm) ?_
      | refine State.startLoaded_keeps (sub_trans (by decide) hm) ?_
      | refine State.reloaded_keeps (sub_trans (by decide) hm) ?_
    | split
    | dsimp only

theorem State.rebuild_keeps  (hm : 4195328 ||| m = m) (h : Keeps m r s) :
    Keeps m r (State.rebuild s) := by
  unfold State.rebuild
  repeat' first
    | with_reducible first
      | assumption
      | refine State.draw_keeps (sub_trans (by decide) hm) ?_
      | refine State.countGrants_keeps (sub_trans (by decide) hm) ?_
    | split
    | dsimp only

theorem State.takeOwnership_keeps (hm : 7931702 ||| m = m) (h : Keeps m r s) :
    Keeps m r s.takeOwnership := by
  unfold State.takeOwnership
  extract_lets new gap src0 twin src s1 s2 s3 s4
  have h0 : Keeps m r { s with twin := twin, pages := { s.pages with stopped := false } } := h.step rfl rfl id (fun p hp => by cases p <;> first | rfl | exact (sub_out hm (by decide) hp).elim)
  have h1 : Keeps m r s1 := State.disarm_keeps (sub_trans (by decide) hm) (State.disarm_keeps (sub_trans (by decide) hm) h0)
  clear_value s1
  have h2 : Keeps m r s2 := State.setn_keeps (sub_trans (by decide) hm) (State.bump_keeps (sub_trans (by decide) hm) (State.setRole_keeps (sub_trans (by decide) hm) (State.setn_keeps (sub_trans (by decide) hm) h1)))
  clear_value s2
  have h3 : Keeps m r s3 := State.answerRecorded_keeps (sub_trans (by decide) hm) (State.regate_keeps (sub_trans (by decide) hm) (State.readmitAll_keeps (sub_trans (by decide) hm) (State.flushGap_keeps (sub_trans (by decide) hm)
    (State.restoreEntries_keeps (sub_trans (by decide) hm) (State.event_keeps (sub_trans (by decide) hm) h2)))))
  clear_value s3
  refine State.beginPeriod_keeps (sub_trans (by decide) hm) (State.refreshGate_keeps (sub_trans (by decide) hm) (State.serveGapPages_keeps (sub_trans (by decide) hm) (State.rebuild_keeps (sub_trans (by decide) hm) ?_)))
  exact Keeps.ite h3 (State.recordLoad_keeps (sub_trans (by decide) hm) h3)

theorem execOwnershipTaken_keeps  (hm : 16777214 ||| m = m) (h : Keeps m r s) :
    KeepsO m r (execOwnershipTaken s) := by
  unfold execOwnershipTaken
  repeat' first
    | with_reducible first
      | assumption
      | refine KeepsO.next ?_
      | exact KeepsO.fault
      | refine KeepsO.ite ?_ ?_
      | refine Keeps.ite ?_ ?_
      | refine State.applyGap_keeps (sub_trans (by decide) hm) ?_
      | refine State.serveStalled_keeps (sub_trans (by decide) hm) ?_
      | refine State.takeOwnership_keeps (sub_trans (by decide) hm) ?_
    | split
    | dsimp only

end Sys2Proof.Machine
end

