-- ==== Sys2Proof/Laws/Keeps6.lean ====
section
/-! SUPPORT. What every operation of these files of the model keeps: Rows, Startup, Step. -/

namespace Sys2Proof.Machine

variable {m : Nat} {r s : State}

/-! ## Rows -/

theorem execDictionaryWrite_keeps {a1 : _} {a2 : _} {a3 : _} {a4 : _} {a5 : _} (hm : 16777214 ||| m = m) (h : Keeps m r s) :
    KeepsO m r (execDictionaryWrite a1 a2 a3 a4 a5 s) := by
  unfold execDictionaryWrite
  try lift_lets
  repeat (intro x; first
    | (have hx : Keeps m r x := by
        dsimp only [x]
        repeat' first
          | with_reducible first
            | assumption
            | refine KeepsO.next ?_
            | exact KeepsO.fault
            | refine KeepsO.ite ?_ ?_
            | refine State.request_keeps (sub_trans (by decide) hm) ?_ ?_
            | refine State.serveWrite_keeps (sub_trans (by decide) hm) ?_
          | (intro t x ht)
          | (intro t ht)
          | (intro t y z ht)
          | (intro ht)
          | split
          | dsimp only
       clear_value x)
    | clear_value x)
  repeat' first
    | with_reducible first
      | assumption
      | refine KeepsO.next ?_
      | exact KeepsO.fault
      | refine KeepsO.ite ?_ ?_
      | refine State.request_keeps (sub_trans (by decide) hm) ?_ ?_
      | refine State.serveWrite_keeps (sub_trans (by decide) hm) ?_
    | (intro t x ht)
    | (intro t ht)
    | (intro t y z ht)
    | (intro ht)
    | split
    | dsimp only

theorem execSdoDownload_keeps {a1 : _} {a2 : _} {a3 : _} {a4 : _} (hm : 16777214 ||| m = m) (h : Keeps m r s) :
    KeepsO m r (execSdoDownload a1 a2 a3 a4 s) := by
  unfold execSdoDownload
  try lift_lets
  repeat (intro x; first
    | (have hx : Keeps m r x := by
        dsimp only [x]
        repeat' first
          | with_reducible first
            | assumption
            | refine KeepsO.next ?_
            | exact KeepsO.fault
            | refine KeepsO.ite ?_ ?_
            | refine State.request_keeps (sub_trans (by decide) hm) ?_ ?_
            | refine State.serveWrite_keeps (sub_trans (by decide) hm) ?_
          | (intro t x ht)
          | (intro t ht)
          | (intro t y z ht)
          | (intro ht)
          | split
          | dsimp only
       clear_value x)
    | clear_value x)
  repeat' first
    | with_reducible first
      | assumption
      | refine KeepsO.next ?_
      | exact KeepsO.fault
      | refine KeepsO.ite ?_ ?_
      | refine State.request_keeps (sub_trans (by decide) hm) ?_ ?_
      | refine State.serveWrite_keeps (sub_trans (by decide) hm) ?_
    | (intro t x ht)
    | (intro t ht)
    | (intro t y z ht)
    | (intro ht)
    | split
    | dsimp only

theorem State.fieldRequest_keeps {a2 : _} (hm : 16777214 ||| m = m) (h : Keeps m r s) :
    Keeps m r (State.fieldRequest s a2) := by
  unfold State.fieldRequest
  try lift_lets
  repeat (intro x; first
    | (have hx : Keeps m r x := by
        dsimp only [x]
        repeat' first
          | with_reducible first
            | assumption
            | refine State.request_keeps (sub_trans (by decide) hm) ?_ ?_
            | refine State.serveWaiting_keeps (sub_trans (by decide) hm) ?_
          | (intro t x ht)
          | (intro t ht)
          | (intro t y z ht)
          | (intro ht)
          | split
          | dsimp only
       clear_value x)
    | clear_value x)
  repeat' first
    | with_reducible first
      | assumption
      | refine State.request_keeps (sub_trans (by decide) hm) ?_ ?_
      | refine State.serveWaiting_keeps (sub_trans (by decide) hm) ?_
    | (intro t x ht)
    | (intro t ht)
    | (intro t y z ht)
    | (intro ht)
    | split
    | dsimp only

theorem execSdoCompleteAccess_keeps {a1 : _} {a2 : _} {a3 : _} {a4 : _} (hm : 16777214 ||| m = m) (h : Keeps m r s) :
    KeepsO m r (execSdoCompleteAccess a1 a2 a3 a4 s) := by
  unfold execSdoCompleteAccess
  repeat' first
    | with_reducible first
      | assumption
      | refine KeepsO.next ?_
      | exact KeepsO.fault
      | refine KeepsO.ite ?_ ?_
      | refine State.fieldRequest_keeps (sub_trans (by decide) hm) ?_
    | split
    | dsimp only

theorem execMailboxRead_keeps {a1 : _} {a2 : _} (hm : 16777214 ||| m = m) (h : Keeps m r s) :
    KeepsO m r (execMailboxRead a1 a2 s) := by
  unfold execMailboxRead
  try lift_lets
  repeat (intro x; first
    | (have hx : Keeps m r x := by
        dsimp only [x]
        repeat' first
          | with_reducible first
            | assumption
            | refine KeepsO.next ?_
            | exact KeepsO.fault
            | refine KeepsO.ite ?_ ?_
            | refine State.mailRow_keeps (sub_trans (by decide) hm) ?_ ?_
            | refine State.takeMail_keeps (sub_trans (by decide) hm) ?_
          | (intro t x ht)
          | (intro t ht)
          | (intro t y z ht)
          | (intro ht)
          | split
          | dsimp only
       clear_value x)
    | clear_value x)
  repeat' first
    | with_reducible first
      | assumption
      | refine KeepsO.next ?_
      | exact KeepsO.fault
      | refine KeepsO.ite ?_ ?_
      | refine State.mailRow_keeps (sub_trans (by decide) hm) ?_ ?_
      | refine State.takeMail_keeps (sub_trans (by decide) hm) ?_
    | (intro t x ht)
    | (intro t ht)
    | (intro t y z ht)
    | (intro ht)
    | split
    | dsimp only

theorem execMailboxWrite_keeps {a1 : _} {a2 : _} {a3 : _} (hm : 16777214 ||| m = m) (h : Keeps m r s) :
    KeepsO m r (execMailboxWrite a1 a2 a3 s) := by
  unfold execMailboxWrite
  try lift_lets
  repeat (intro x; first
    | (have hx : Keeps m r x := by
        dsimp only [x]
        repeat' first
          | with_reducible first
            | assumption
            | refine KeepsO.next ?_
            | exact KeepsO.fault
            | refine KeepsO.ite ?_ ?_
            | refine State.mailRow_keeps (sub_trans (by decide) hm) ?_ ?_
            | refine State.takeMail_keeps (sub_trans (by decide) hm) ?_
          | (intro t x ht)
          | (intro t ht)
          | (intro t y z ht)
          | (intro ht)
          | split
          | dsimp only
       clear_value x)
    | clear_value x)
  repeat' first
    | with_reducible first
      | assumption
      | refine KeepsO.next ?_
      | exact KeepsO.fault
      | refine KeepsO.ite ?_ ?_
      | refine State.mailRow_keeps (sub_trans (by decide) hm) ?_ ?_
      | refine State.takeMail_keeps (sub_trans (by decide) hm) ?_
    | (intro t x ht)
    | (intro t ht)
    | (intro t y z ht)
    | (intro ht)
    | split
    | dsimp only

theorem execMailboxReadComplete_keeps {a1 : _} {a2 : _} (hm : 16777214 ||| m = m) (h : Keeps m r s) :
    KeepsO m r (execMailboxReadComplete a1 a2 s) := by
  unfold execMailboxReadComplete
  try lift_lets
  repeat (intro x; first
    | (have hx : Keeps m r x := by
        dsimp only [x]
        repeat' first
          | with_reducible first
            | assumption
            | refine KeepsO.next ?_
            | exact KeepsO.fault
            | refine KeepsO.ite ?_ ?_
            | refine State.mailRow_keeps (sub_trans (by decide) hm) ?_ ?_
            | refine State.takeMail_keeps (sub_trans (by decide) hm) ?_
          | (intro t x ht)
          | (intro t ht)
          | (intro t y z ht)
          | (intro ht)
          | split
          | dsimp only
       clear_value x)
    | clear_value x)
  repeat' first
    | with_reducible first
      | assumption
      | refine KeepsO.next ?_
      | exact KeepsO.fault
      | refine KeepsO.ite ?_ ?_
      | refine State.mailRow_keeps (sub_trans (by decide) hm) ?_ ?_
      | refine State.takeMail_keeps (sub_trans (by decide) hm) ?_
    | (intro t x ht)
    | (intro t ht)
    | (intro t y z ht)
    | (intro ht)
    | split
    | dsimp only

theorem execMailboxWriteComplete_keeps {a1 : _} {a2 : _} (hm : 16777214 ||| m = m) (h : Keeps m r s) :
    KeepsO m r (execMailboxWriteComplete a1 a2 s) := by
  unfold execMailboxWriteComplete
  try lift_lets
  repeat (intro x; first
    | (have hx : Keeps m r x := by
        dsimp only [x]
        repeat' first
          | with_reducible first
            | assumption
            | refine KeepsO.next ?_
            | exact KeepsO.fault
            | refine KeepsO.ite ?_ ?_
            | refine State.mailRow_keeps (sub_trans (by decide) hm) ?_ ?_
            | refine State.takeMail_keeps (sub_trans (by decide) hm) ?_
          | (intro t x ht)
          | (intro t ht)
          | (intro t y z ht)
          | (intro ht)
          | split
          | dsimp only
       clear_value x)
    | clear_value x)
  repeat' first
    | with_reducible first
      | assumption
      | refine KeepsO.next ?_
      | exact KeepsO.fault
      | refine KeepsO.ite ?_ ?_
      | refine State.mailRow_keeps (sub_trans (by decide) hm) ?_ ?_
      | refine State.takeMail_keeps (sub_trans (by decide) hm) ?_
    | (intro t x ht)
    | (intro t ht)
    | (intro t y z ht)
    | (intro ht)
    | split
    | dsimp only

theorem State.refuseEsm_keeps {a2 : _} (hm : 2097152 ||| m = m) (h : Keeps m r s) :
    Keeps m r (State.refuseEsm s a2) := by
  unfold State.refuseEsm
  repeat' first
    | with_reducible first
      | assumption
      | (refine Keeps.svc hm (by decide) ?_; assumption)
    | split
    | dsimp only

theorem State.requestEsm_keeps {a2 : _} {a3 : _} {a4 : _} (hm : 3480886 ||| m = m) (h : Keeps m r s) :
    Keeps m r (State.requestEsm s a2 a3 a4) := by
  unfold State.requestEsm
  repeat' first
    | with_reducible first
      | assumption
      | refine Keeps.ite ?_ ?_
      | refine State.setEsm_keeps (sub_trans (by decide) hm) ?_
      | refine State.refuseEsm_keeps (sub_trans (by decide) hm) ?_
      | (refine Keeps.svc hm (by decide) ?_; assumption)
    | split
    | dsimp only

theorem execEsmStateRequest_keeps {a1 : _} {a2 : _} {a3 : _} (hm : 3480886 ||| m = m) (h : Keeps m r s) :
    KeepsO m r (execEsmStateRequest a1 a2 a3 s) := by
  unfold execEsmStateRequest
  repeat' first
    | with_reducible first
      | assumption
      | refine KeepsO.next ?_
      | exact KeepsO.fault
      | refine KeepsO.ite ?_ ?_
      | refine Keeps.ite ?_ ?_
      | refine State.requestEsm_keeps (sub_trans (by decide) hm) ?_
    | split
    | dsimp only

theorem State.receivePdo_keeps {a2 : _} (hm : 16777214 ||| m = m) (h : Keeps m r s) :
    Keeps m r (State.receivePdo s a2) := by
  unfold State.receivePdo
  try lift_lets
  repeat (intro x; first
    | (have hx : Keeps m r x := by
        dsimp only [x]
        repeat' first
          | with_reducible first
            | assumption
            | refine Keeps.ite ?_ ?_
            | refine State.applyRx_keeps (sub_trans (by decide) hm) ?_
            | refine State.setn_keeps (sub_trans (by decide) hm) ?_
            | (refine Keeps.svc hm (by decide) ?_; assumption)
          | split
          | dsimp only
       clear_value x)
    | clear_value x)
  repeat' first
    | with_reducible first
      | assumption
      | refine Keeps.ite ?_ ?_
      | refine State.applyRx_keeps (sub_trans (by decide) hm) ?_
      | refine State.setn_keeps (sub_trans (by decide) hm) ?_
      | (refine Keeps.svc hm (by decide) ?_; assumption)
    | split
    | dsimp only

theorem execPdoCycle_keeps {a1 : _} (hm : 16777214 ||| m = m) (h : Keeps m r s) :
    KeepsO m r (execPdoCycle a1 s) := by
  unfold execPdoCycle
  repeat' first
    | with_reducible first
      | assumption
      | refine KeepsO.next ?_
      | exact KeepsO.fault
      | refine KeepsO.ite ?_ ?_
      | refine Keeps.ite ?_ ?_
      | refine State.receivePdo_keeps (sub_trans (by decide) hm) ?_
      | (refine Keeps.svc hm (by decide) ?_; assumption)
    | split
    | dsimp only

theorem execSm2WatchdogExpired_keeps  (hm : 3480886 ||| m = m) (h : Keeps m r s) :
    KeepsO m r (execSm2WatchdogExpired s) := by
  unfold execSm2WatchdogExpired
  repeat' first
    | with_reducible first
      | assumption
      | refine KeepsO.next ?_
      | exact KeepsO.fault
      | refine KeepsO.ite ?_ ?_
      | refine Keeps.ite ?_ ?_
      | refine State.setEsm_keeps (sub_trans (by decide) hm) ?_
    | split
    | dsimp only

theorem execPortLinkChange_keeps {a1 : _} (hm : 18 ||| m = m) (h : Keeps m r s) :
    KeepsO m r (execPortLinkChange a1 s) := by
  unfold execPortLinkChange
  repeat' first
    | with_reducible first
      | assumption
      | refine KeepsO.next ?_
      | exact KeepsO.fault
      | refine KeepsO.ite ?_ ?_
      | refine Keeps.ite ?_ ?_
      | refine State.bumpBy_keeps (sub_trans (by decide) hm) ?_
      | refine State.event_keeps (sub_trans (by decide) hm) ?_
      | refine State.setn_keeps (sub_trans (by decide) hm) ?_
    | split
    | dsimp only

theorem execHealthRun_keeps {a1 : _} (hm : 16777214 ||| m = m) (h : Keeps m r s) :
    KeepsO m r (execHealthRun a1 s) := by
  unfold execHealthRun
  repeat' first
    | with_reducible first
      | assumption
      | refine KeepsO.next ?_
      | exact KeepsO.fault
      | refine KeepsO.ite ?_ ?_
      | refine Keeps.ite ?_ ?_
      | refine State.writeRow_keeps (sub_trans (by decide) hm) ?_
      | refine State.dailyReport_keeps (sub_trans (by decide) hm) ?_
      | refine State.after_keeps (sub_trans (by decide) hm) ?_
    | split
    | dsimp only

/-! ## Startup -/

theorem State.loadStored_keeps {a2 : _} (hm : 2 ||| m = m) (h : Keeps m r s) :
    Keeps m r (State.loadStored s a2) := by
  unfold State.loadStored
  repeat' first
    | with_reducible first
      | assumption
      | refine Keeps.ite ?_ ?_
      | refine State.put_keeps (sub_trans (by decide) hm) ?_
    | split
    | dsimp only

theorem State.preload_keeps  (hm : 2 ||| m = m) (h : Keeps m r s) :
    Keeps m r (State.preload s) := by
  unfold State.preload
  try lift_lets
  repeat (intro x; first
    | (have hx : Keeps m r x := by
        dsimp only [x]
        repeat' first
          | with_reducible first
            | assumption
            | refine State.loadStored_keeps (sub_trans (by decide) hm) ?_
            | refine Keeps.each ?_ ?_
          | (intro t x ht)
          | (intro t ht)
          | (intro t y z ht)
          | (intro ht)
          | split
          | dsimp only
       clear_value x)
    | (have hx : Keeps m r x.1 := by
        dsimp only [x]
        repeat' first
          | with_reducible first
            | assumption
            | refine State.loadStored_keeps (sub_trans (by decide) hm) ?_
            | refine Keeps.each ?_ ?_
          | (intro t x ht)
          | (intro t ht)
          | (intro t y z ht)
          | (intro ht)
          | split
          | dsimp only
       clear_value x)
    | clear_value x)
  repeat' first
    | with_reducible first
      | assumption
      | refine State.loadStored_keeps (sub_trans (by decide) hm) ?_
      | refine Keeps.each ?_ ?_
    | (intro t x ht)
    | (intro t ht)
    | (intro t y z ht)
    | (intro ht)
    | split
    | dsimp only

theorem State.loadRecord_keeps  (hm : 2097174 ||| m = m) (h : Keeps m r s) :
    Keeps m r (State.loadRecord s) := by
  unfold State.loadRecord
  try lift_lets
  repeat (intro x; first
    | (have hx : Keeps m r x := by
        dsimp only [x]
        repeat' first
          | with_reducible first
            | assumption
            | refine State.loadStored_keeps (sub_trans (by decide) hm) ?_
            | refine State.forgetOne_keeps (sub_trans (by decide) hm) ?_
            | refine State.event_keeps (sub_trans (by decide) hm) ?_
            | refine State.alignmentSource_keeps (sub_trans (by decide) hm) ?_
            | refine Keeps.each ?_ ?_
            | (refine Keeps.svc hm (by decide) ?_; assumption)
          | (intro t x ht)
          | (intro t ht)
          | (intro t y z ht)
          | (intro ht)
          | split
          | dsimp only
       clear_value x)
    | (have hx : Keeps m r x.1 := by
        dsimp only [x]
        repeat' first
          | with_reducible first
            | assumption
            | refine State.loadStored_keeps (sub_trans (by decide) hm) ?_
            | refine State.forgetOne_keeps (sub_trans (by decide) hm) ?_
            | refine State.event_keeps (sub_trans (by decide) hm) ?_
            | refine State.alignmentSource_keeps (sub_trans (by decide) hm) ?_
            | refine Keeps.each ?_ ?_
            | (refine Keeps.svc hm (by decide) ?_; assumption)
          | (intro t x ht)
          | (intro t ht)
          | (intro t y z ht)
          | (intro ht)
          | split
          | dsimp only
       clear_value x)
    | clear_value x)
  repeat' first
    | with_reducible first
      | assumption
      | refine State.loadStored_keeps (sub_trans (by decide) hm) ?_
      | refine State.forgetOne_keeps (sub_trans (by decide) hm) ?_
      | refine State.event_keeps (sub_trans (by decide) hm) ?_
      | refine State.alignmentSource_keeps (sub_trans (by decide) hm) ?_
      | refine Keeps.each ?_ ?_
      | (refine Keeps.svc hm (by decide) ?_; assumption)
    | (intro t x ht)
    | (intro t ht)
    | (intro t y z ht)
    | (intro ht)
    | split
    | dsimp only

theorem State.cleared_keeps (hm : 3928046 ||| m = m) (h : Keeps m r s) : Keeps m r s.cleared :=
  h.step rfl rfl (fun hs => ⟨Tab.ok_filter _ _ _ hs.1, rfl, hs.2.2⟩)
    (fun p hp => by cases p <;> first | rfl | exact (sub_out hm (by decide) hp).elim)

theorem State.unpowered_keeps (hm : 12578815 ||| m = m) (h : Keeps m r s) : Keeps m r s.unpowered :=
  h.step rfl rfl (fun hs => ⟨Tab.ok_filter _ _ _ hs.1, rfl, hs.2.2⟩)
    (fun p hp => by cases p <;> first | rfl | exact (sub_out hm (by decide) hp).elim)

theorem State.stopNow_keeps {a2 : _} (hm : 16777214 ||| m = m) (h : Keeps m r s) :
    Keeps m r (State.stopNow s a2) := by
  unfold State.stopNow
  repeat' first
    | with_reducible first
      | assumption
      | refine Keeps.ite ?_ ?_
      | refine State.setRequest_keeps (sub_trans (by decide) hm) ?_
      | refine State.domainOff_keeps (sub_trans (by decide) hm) ?_
      | refine State.setDomainState_keeps (sub_trans (by decide) hm) ?_
      | refine State.setQuiesce_keeps (sub_trans (by decide) hm) ?_
      | refine State.disarm_keeps (sub_trans (by decide) hm) ?_
      | refine State.stopDomain_keeps (sub_trans (by decide) hm) ?_
      | refine State.setDomain_keeps (sub_trans (by decide) hm) ?_
    | split
    | dsimp only

theorem State.endInjection_keeps  (hm : 262162 ||| m = m) (h : Keeps m r s) :
    Keeps m r (State.endInjection s) := by
  unfold State.endInjection
  repeat' first
    | with_reducible first
      | assumption
      | refine Keeps.ite ?_ ?_
      | refine State.eventHw_keeps (sub_trans (by decide) hm) ?_
      | refine State.setn_keeps (sub_trans (by decide) hm) ?_
      | (refine Keeps.lid hm (by decide) ?_; assumption)
    | split
    | dsimp only

theorem State.dropLink_keeps  (hm : 9772598 ||| m = m) (h : Keeps m r s) :
    Keeps m r (State.dropLink s) := by
  unfold State.dropLink
  repeat' first
    | with_reducible first
      | assumption
      | refine Keeps.ite ?_ ?_
      | refine State.linkLost_keeps (sub_trans (by decide) hm) ?_
      | refine State.setn_keeps (sub_trans (by decide) hm) ?_
      | refine State.setb_keeps (sub_trans (by decide) hm) ?_
    | split
    | dsimp only

theorem State.goDown_keeps  (hm : 16777214 ||| m = m) (h : Keeps m r s) :
    Keeps m r (State.goDown s) := by
  unfold State.goDown
  try lift_lets
  repeat (intro x; first
    | (have hx : Keeps m r x := by
        dsimp only [x]
        repeat' first
          | with_reducible first
            | assumption
            | refine State.dropLink_keeps (sub_trans (by decide) hm) ?_
            | refine State.endInjection_keeps (sub_trans (by decide) hm) ?_
            | refine State.stopNow_keeps (sub_trans (by decide) hm) ?_
            | refine State.refreshThrottle_keeps (sub_trans (by decide) hm) ?_
            | refine State.setn_keeps (sub_trans (by decide) hm) ?_
            | refine State.cleared_keeps (sub_trans (by decide) hm) ?_
            | refine State.alignmentSource_keeps (sub_trans (by decide) hm) ?_
            | refine Keeps.each ?_ ?_
            | (refine Keeps.twin hm (by decide) ?_; assumption)
          | (intro t x ht)
          | (intro t ht)
          | (intro t y z ht)
          | (intro ht)
          | split
          | dsimp only
       clear_value x)
    | clear_value x)
  repeat' first
    | with_reducible first
      | assumption
      | refine State.dropLink_keeps (sub_trans (by decide) hm) ?_
      | refine State.endInjection_keeps (sub_trans (by decide) hm) ?_
      | refine State.stopNow_keeps (sub_trans (by decide) hm) ?_
      | refine State.refreshThrottle_keeps (sub_trans (by decide) hm) ?_
      | refine State.setn_keeps (sub_trans (by decide) hm) ?_
      | refine State.cleared_keeps (sub_trans (by decide) hm) ?_
      | refine State.alignmentSource_keeps (sub_trans (by decide) hm) ?_
      | refine Keeps.each ?_ ?_
      | (refine Keeps.twin hm (by decide) ?_; assumption)
    | (intro t x ht)
    | (intro t ht)
    | (intro t y z ht)
    | (intro ht)
    | split
    | dsimp only

theorem State.domainStarts_keeps {a2 : _} (hm : 4194302 ||| m = m) (h : Keeps m r s) :
    Keeps m r (State.domainStarts s a2) := by
  unfold State.domainStarts
  repeat' first
    | with_reducible first
      | assumption
      | refine State.lidMeets_keeps (sub_trans (by decide) hm) ?_
      | refine State.domainUp_keeps (sub_trans (by decide) hm) ?_
      | refine State.setDomainState_keeps (sub_trans (by decide) hm) ?_
      | refine State.setRequest_keeps (sub_trans (by decide) hm) ?_
    | split
    | dsimp only

theorem State.mounted_keeps {b : Bool} (hm : 327698 ||| m = m) (h : Keeps m r s) :
    Keeps m r (s.mounted b) := by
  unfold State.mounted
  split
  · next t e => exact execCrockMount_keeps (sub_trans (by decide) hm) h t e
  · exact h

theorem State.startAll_keeps {b : Boot} (hm : 16777214 ||| m = m) (h : Keeps m r s) :
    Keeps m r (s.startAll b) := by
  have hd : ∀ t l, Keeps m r t → Keeps m r (t.each l State.domainStarts) :=
    fun t l ht => Keeps.each (fun t x ht => State.domainStarts_keeps (sub_trans (by decide) hm) ht) ht
  unfold State.startAll
  extract_lets p load s1 s2 s3 s4 src s5
  have h1 : Keeps m r s1 := State.mounted_keeps (sub_trans (by decide) hm) (hd _ _ h)
  clear_value s1
  have h2 : Keeps m r s2 := Keeps.each (fun t x ht => State.startLoaded_keeps (sub_trans (by decide) hm) ht) (hd _ _ h1)
  clear_value s2
  have h3 : Keeps m r s3 := State.loadRecord_keeps (sub_trans (by decide) hm) (hd _ _ h2)
  clear_value s3
  have h4 : Keeps m r s4 := State.evaluateSlots_keeps (sub_trans (by decide) hm) (State.setMeasurement_keeps (sub_trans (by decide) hm) h3)
  clear_value s4
  have h5 : Keeps m r s5 := State.after_keeps (sub_trans (by decide) hm) (State.beginPeriod_keeps (sub_trans (by decide) hm) (Keeps.twin hm (by decide) h4))
  clear_value s5
  split
  · exact State.resume_keeps (sub_trans (by decide) hm) h5
  · exact h5

theorem State.startHeld_keeps  (hm : 4194302 ||| m = m) (h : Keeps m r s) :
    Keeps m r (State.startHeld s) := by
  unfold State.startHeld
  try lift_lets
  repeat (intro x; first
    | (have hx : Keeps m r x := by
        dsimp only [x]
        repeat' first
          | with_reducible first
            | assumption
            | refine Keeps.ite ?_ ?_
            | refine State.loadRecord_keeps (sub_trans (by decide) hm) ?_
            | refine State.evaluateSlots_keeps (sub_trans (by decide) hm) ?_
            | refine State.setMeasurement_keeps (sub_trans (by decide) hm) ?_
            | refine State.after_keeps (sub_trans (by decide) hm) ?_
            | refine State.beginPeriod_keeps (sub_trans (by decide) hm) ?_
            | refine State.requestOwn_keeps (sub_trans (by decide) hm) ?_
            | refine State.domainStarts_keeps (sub_trans (by decide) hm) ?_
            | (refine Keeps.twin hm (by decide) ?_; assumption)
          | (intro t x ht)
          | (intro t ht)
          | (intro t y z ht)
          | (intro ht)
          | split
          | dsimp only
       clear_value x)
    | clear_value x)
  repeat' first
    | with_reducible first
      | assumption
      | refine Keeps.ite ?_ ?_
      | refine State.loadRecord_keeps (sub_trans (by decide) hm) ?_
      | refine State.evaluateSlots_keeps (sub_trans (by decide) hm) ?_
      | refine State.setMeasurement_keeps (sub_trans (by decide) hm) ?_
      | refine State.after_keeps (sub_trans (by decide) hm) ?_
      | refine State.beginPeriod_keeps (sub_trans (by decide) hm) ?_
      | refine State.requestOwn_keeps (sub_trans (by decide) hm) ?_
      | refine State.domainStarts_keeps (sub_trans (by decide) hm) ?_
      | (refine Keeps.twin hm (by decide) ?_; assumption)
    | (intro t x ht)
    | (intro t ht)
    | (intro t y z ht)
    | (intro ht)
    | split
    | dsimp only

theorem State.startup_keeps {a2 : _} (hm : 16777214 ||| m = m) (h : Keeps m r s) :
    Keeps m r (State.startup s a2) := by
  unfold State.startup
  repeat' first
    | with_reducible first
      | assumption
      | refine Keeps.ite ?_ ?_
      | refine State.preload_keeps (sub_trans (by decide) hm) ?_
      | refine State.setMeasurement_keeps (sub_trans (by decide) hm) ?_
      | refine State.setn_keeps (sub_trans (by decide) hm) ?_
      | refine State.after_keeps (sub_trans (by decide) hm) ?_
      | refine State.startHeld_keeps (sub_trans (by decide) hm) ?_
      | refine State.startAll_keeps (sub_trans (by decide) hm) ?_
      | (refine Keeps.svc hm (by decide) ?_; assumption)
    | split
    | dsimp only

theorem State.resetDown_keeps {a2 : _} (hm : 16777214 ||| m = m) (h : Keeps m r s) :
    Keeps m r (State.resetDown s a2) := by
  unfold State.resetDown
  try lift_lets
  repeat (intro x; first
    | (have hx : Keeps m r x := by
        dsimp only [x]
        repeat' first
          | with_reducible first
            | assumption
            | refine Keeps.ite ?_ ?_
            | refine State.setn_keeps (sub_trans (by decide) hm) ?_
            | refine State.bump_keeps (sub_trans (by decide) hm) ?_
            | refine State.event_keeps (sub_trans (by decide) hm) ?_
            | refine State.goDown_keeps (sub_trans (by decide) hm) ?_
            | (refine Keeps.ev hm (by decide) ?_; assumption)
            | (refine Keeps.trust hm (by decide) ?_; assumption)
          | refine Keeps.step (by assumption) rfl rfl id (fun p hp => by cases p <;> first | rfl | exact (sub_out hm (by decide) hp).elim)
          | (intro t x ht)
          | (intro t ht)
          | (intro t y z ht)
          | (intro ht)
          | split
          | dsimp only
       clear_value x)
    | clear_value x)
  repeat' first
    | with_reducible first
      | assumption
      | refine Keeps.ite ?_ ?_
      | refine State.setn_keeps (sub_trans (by decide) hm) ?_
      | refine State.bump_keeps (sub_trans (by decide) hm) ?_
      | refine State.event_keeps (sub_trans (by decide) hm) ?_
      | refine State.goDown_keeps (sub_trans (by decide) hm) ?_
      | (refine Keeps.ev hm (by decide) ?_; assumption)
      | (refine Keeps.trust hm (by decide) ?_; assumption)
    | refine Keeps.step (by assumption) rfl rfl id (fun p hp => by cases p <;> first | rfl | exact (sub_out hm (by decide) hp).elim)
    | (intro t x ht)
    | (intro t ht)
    | (intro t y z ht)
    | (intro ht)
    | split
    | dsimp only

theorem State.moduleReset_keeps {a2 : _} {a3 : _} (hm : 16777214 ||| m = m) (h : Keeps m r s) :
    Keeps m r (State.moduleReset s a2 a3) := by
  unfold State.moduleReset
  repeat' first
    | with_reducible first
      | assumption
      | refine State.startup_keeps (sub_trans (by decide) hm) ?_
      | refine State.resetDown_keeps (sub_trans (by decide) hm) ?_
    | split
    | dsimp only

theorem State.requestCycle_keeps {a2 : _} {a3 : _} (hm : 16777214 ||| m = m) (h : Keeps m r s) :
    Keeps m r (State.requestCycle s a2 a3) := by
  unfold State.requestCycle
  try lift_lets
  repeat (intro x; first
    | (have hx : Keeps m r x := by
        dsimp only [x]
        repeat' first
          | with_reducible first
            | assumption
            | refine Keeps.ite ?_ ?_
            | refine State.goDown_keeps (sub_trans (by decide) hm) ?_
            | refine State.after_keeps (sub_trans (by decide) hm) ?_
            | refine State.event_keeps (sub_trans (by decide) hm) ?_
            | (refine Keeps.trust hm (by decide) ?_; assumption)
          | split
          | dsimp only
       clear_value x)
    | clear_value x)
  repeat' first
    | with_reducible first
      | assumption
      | refine Keeps.ite ?_ ?_
      | refine State.goDown_keeps (sub_trans (by decide) hm) ?_
      | refine State.after_keeps (sub_trans (by decide) hm) ?_
      | refine State.event_keeps (sub_trans (by decide) hm) ?_
      | (refine Keeps.trust hm (by decide) ?_; assumption)
    | split
    | dsimp only

theorem execModuleResetAct_keeps {a1 : _} (hm : 16777214 ||| m = m) (h : Keeps m r s) :
    KeepsO m r (execModuleResetAct a1 s) := by
  unfold execModuleResetAct
  repeat' first
    | with_reducible first
      | assumption
      | refine KeepsO.next ?_
      | exact KeepsO.fault
      | refine KeepsO.ite ?_ ?_
      | refine Keeps.ite ?_ ?_
      | refine State.moduleReset_keeps (sub_trans (by decide) hm) ?_
      | refine State.requestCycle_keeps (sub_trans (by decide) hm) ?_
      | refine State.disarm_keeps (sub_trans (by decide) hm) ?_
    | split
    | dsimp only

theorem execResetNLow_keeps {a1 : _} (hm : 16777214 ||| m = m) (h : Keeps m r s) :
    KeepsO m r (execResetNLow a1 s) := by
  unfold execResetNLow
  repeat' first
    | with_reducible first
      | assumption
      | refine KeepsO.next ?_
      | exact KeepsO.fault
      | refine KeepsO.ite ?_ ?_
      | refine Keeps.ite ?_ ?_
      | refine State.resetDown_keeps (sub_trans (by decide) hm) ?_
      | refine State.event_keeps (sub_trans (by decide) hm) ?_
      | (refine Keeps.trust hm (by decide) ?_; assumption)
    | split
    | dsimp only

theorem execResetNRelease_keeps {a1 : _} (hm : 16777214 ||| m = m) (h : Keeps m r s) :
    KeepsO m r (execResetNRelease a1 s) := by
  unfold execResetNRelease
  repeat' first
    | with_reducible first
      | assumption
      | refine KeepsO.next ?_
      | exact KeepsO.fault
      | refine KeepsO.ite ?_ ?_
      | refine Keeps.ite ?_ ?_
      | refine State.startup_keeps (sub_trans (by decide) hm) ?_
      | (refine Keeps.trust hm (by decide) ?_; assumption)
    | split
    | dsimp only

theorem execBootWatchdogExpired_keeps {a1 : _} (hm : 16777214 ||| m = m) (h : Keeps m r s) :
    KeepsO m r (execBootWatchdogExpired a1 s) := by
  unfold execBootWatchdogExpired
  repeat' first
    | with_reducible first
      | assumption
      | refine KeepsO.next ?_
      | exact KeepsO.fault
      | refine KeepsO.ite ?_ ?_
      | refine Keeps.ite ?_ ?_
      | refine State.disarm_keeps (sub_trans (by decide) hm) ?_
      | refine State.requestCycle_keeps (sub_trans (by decide) hm) ?_
      | refine State.moduleReset_keeps (sub_trans (by decide) hm) ?_
      | refine State.setn_keeps (sub_trans (by decide) hm) ?_
    | split
    | dsimp only

theorem execPowerCyclePulseExpired_keeps {a1 : _} (hm : 16777214 ||| m = m) (h : Keeps m r s) :
    KeepsO m r (execPowerCyclePulseExpired a1 s) := by
  unfold execPowerCyclePulseExpired
  repeat' first
    | with_reducible first
      | assumption
      | refine KeepsO.next ?_
      | exact KeepsO.fault
      | refine KeepsO.ite ?_ ?_
      | refine Keeps.ite ?_ ?_
      | refine State.event_keeps (sub_trans (by decide) hm) ?_
      | refine State.disarm_keeps (sub_trans (by decide) hm) ?_
      | refine State.startup_keeps (sub_trans (by decide) hm) ?_
      | (refine Keeps.trust hm (by decide) ?_; assumption)
    | split
    | dsimp only

theorem execSupplyRecoveryElapsed_keeps {a1 : _} (hm : 16777214 ||| m = m) (h : Keeps m r s) :
    KeepsO m r (execSupplyRecoveryElapsed a1 s) := by
  unfold execSupplyRecoveryElapsed
  repeat' first
    | with_reducible first
      | assumption
      | refine KeepsO.next ?_
      | exact KeepsO.fault
      | refine KeepsO.ite ?_ ?_
      | refine Keeps.ite ?_ ?_
      | refine State.supplyNormal_keeps (sub_trans (by decide) hm) ?_
      | refine State.moduleReset_keeps (sub_trans (by decide) hm) ?_
      | refine State.event_keeps (sub_trans (by decide) hm) ?_
      | refine State.disarm_keeps (sub_trans (by decide) hm) ?_
    | split
    | dsimp only

theorem execTrivetRailLost_keeps  (hm : 12578815 ||| m = m) (h : Keeps m r s) :
    KeepsO m r (execTrivetRailLost s) := by
  unfold execTrivetRailLost
  repeat' first
    | with_reducible first
      | assumption
      | refine KeepsO.next ?_
      | exact KeepsO.fault
      | refine KeepsO.ite ?_ ?_
      | refine State.unpowered_keeps (sub_trans (by decide) hm) ?_
    | split
    | dsimp only

theorem execColdPowerUp_keeps {b : Boot} (hm : 16777215 ||| m = m) (h : Keeps m r s) :
    KeepsO m r (execColdPowerUp b s) := by
  unfold execColdPowerUp
  extract_lets src src2 s1 mk s0 src3 s2 s3
  have h0 : Keeps m r s.unpowered := State.unpowered_keeps (sub_trans (by decide) hm) h
  have hs : Keeps m r { src with power := {}, trust := { src2 with resetAt := some 0 } } := h0.step rfl rfl id (fun p hp => by cases p <;> first | rfl | exact (sub_out hm (by decide) hp).elim)
  have h1 : Keeps m r s1 := State.bump_keeps (sub_trans (by decide) hm) hs
  clear_value s1
  have h2 : Keeps m r s0 := State.place_keeps (sub_trans (by decide) hm) h1
  clear_value s0
  have h3 : Keeps m r s2 := State.setn_keeps (sub_trans (by decide) hm) (Keeps.ev hm (by decide) h2)
  clear_value s2
  have h4 : Keeps m r s3 := by
    dsimp only [s3]
    split
    · exact State.event_keeps (sub_trans (by decide) hm) h3
    · exact h3
  clear_value s3
  exact KeepsO.next (State.startup_keeps (sub_trans (by decide) hm) (State.after_keeps (sub_trans (by decide) hm) (State.event_keeps (sub_trans (by decide) hm) h4)))

/-! ## Step -/

theorem State.idle_keeps  (hm : 2638107 ||| m = m) (h : Keeps m r s) :
    Keeps m r (State.idle s) := by
  unfold State.idle
  repeat' first
    | with_reducible first
      | assumption
      | refine Keeps.ite ?_ ?_
      | refine State.stepperTick_keeps (sub_trans (by decide) hm) ?_
      | refine State.tick_keeps (sub_trans (by decide) hm) ?_
      | refine State.issueAnswers_keeps (sub_trans (by decide) hm) ?_
      | refine State.noteGate_keeps (sub_trans (by decide) hm) ?_
      | refine State.noteEligible_keeps (sub_trans (by decide) hm) ?_
    | split
    | dsimp only

end Sys2Proof.Machine
end

