-- ==== Sys2Proof/Laws/State.lean ====
section
/-! SUPPORT. What each named update of the state leaves as it was, field by field and reading by reading, and what a reading gives
after the update of the same thing. Every lemma of the first kind is true by rfl, so that no proof unfolds an update. -/

namespace Sys2Proof.Machine

/-! ## Updates that are others -/

@[simp] theorem State.seti_eq (s : State) (k : Nat) (v : Int) : s.seti k v = s.put k (.num v) := rfl
@[simp] theorem State.setn_eq (s : State) (k v : Nat) : s.setn k v = s.put k (.num v) := rfl
@[simp] theorem State.setb_eq (s : State) (k : Nat) (v : Bool) : s.setb k v = s.put k (.num (b2n v)) := rfl
@[simp] theorem State.setBytes_eq (s : State) (k : Nat) (v : Bytes) : s.setBytes k v = s.put k (.dom v) := rfl
@[simp] theorem State.bump_eq (s : State) (k : Nat) : s.bump k = s.put k (.num ((s.n k + 1) % 2 ^ 32 : Nat)) := rfl
@[simp] theorem State.bumpBy_eq (s : State) (k d : Nat) : s.bumpBy k d = s.put k (.num ((s.n k + d) % 2 ^ 32 : Nat)) := rfl
@[simp] theorem State.bump16_eq (s : State) (k : Nat) : s.bump16 k = s.put k (.num ((s.n k + 1) % 2 ^ 16 : Nat)) := rfl
@[simp] theorem State.after_eq (s : State) (u d : Nat) : s.after u d = s.arm u (s.stamp + d) := rfl


/-! ## put -/

@[simp] theorem State.put_s6 (s : State) (k : Nat) (v : Val) : (s.put k v).s6 = s.s6 := rfl
@[simp] theorem State.put_stamp (s : State) (k : Nat) (v : Val) : (s.put k v).stamp = s.stamp := rfl
@[simp] theorem State.put_timers (s : State) (k : Nat) (v : Val) : (s.put k v).timers = s.timers := rfl
@[simp] theorem State.put_pos (s : State) (k : Nat) (v : Val) : (s.put k v).pos = s.pos := rfl
@[simp] theorem State.put_ev (s : State) (k : Nat) (v : Val) : (s.put k v).ev = s.ev := rfl
@[simp] theorem State.put_rings (s : State) (k : Nat) (v : Val) : (s.put k v).rings = s.rings := rfl
@[simp] theorem State.put_pcie (s : State) (k : Nat) (v : Val) : (s.put k v).pcie = s.pcie := rfl
@[simp] theorem State.put_polygons (s : State) (k : Nat) (v : Val) : (s.put k v).polygons = s.polygons := rfl
@[simp] theorem State.put_stations (s : State) (k : Nat) (v : Val) : (s.put k v).stations = s.stations := rfl
@[simp] theorem State.put_pages (s : State) (k : Nat) (v : Val) : (s.put k v).pages = s.pages := rfl
@[simp] theorem State.put_press (s : State) (k : Nat) (v : Val) : (s.put k v).press = s.press := rfl
@[simp] theorem State.put_fabric (s : State) (k : Nat) (v : Val) : (s.put k v).fabric = s.fabric := rfl
@[simp] theorem State.put_drives (s : State) (k : Nat) (v : Val) : (s.put k v).drives = s.drives := rfl
@[simp] theorem State.put_steppers (s : State) (k : Nat) (v : Val) : (s.put k v).steppers = s.steppers := rfl
@[simp] theorem State.put_loops (s : State) (k : Nat) (v : Val) : (s.put k v).loops = s.loops := rfl
@[simp] theorem State.put_crock (s : State) (k : Nat) (v : Val) : (s.put k v).crock = s.crock := rfl
@[simp] theorem State.put_power (s : State) (k : Nat) (v : Val) : (s.put k v).power = s.power := rfl
@[simp] theorem State.put_lid (s : State) (k : Nat) (v : Val) : (s.put k v).lid = s.lid := rfl
@[simp] theorem State.put_twin (s : State) (k : Nat) (v : Val) : (s.put k v).twin = s.twin := rfl
@[simp] theorem State.put_trust (s : State) (k : Nat) (v : Val) : (s.put k v).trust = s.trust := rfl
@[simp] theorem State.put_svc (s : State) (k : Nat) (v : Val) : (s.put k v).svc = s.svc := rfl
@[simp] theorem State.put_drawn (s : State) (k : Nat) (v : Val) : (s.put k v).drawn = s.drawn := rfl
@[simp] theorem State.put_pending (s : State) (k : Nat) (v : Val) : (s.put k v).pending = s.pending := rfl
@[simp] theorem State.armed_put (s : State) (k : Nat) (v : Val) (j : Nat) : (s.put k v).armed j = s.armed j := rfl
@[simp] theorem State.due_put (s : State) (k : Nat) (v : Val) (j : Nat) : (s.put k v).due j = s.due j := rfl
@[simp] theorem State.left_put (s : State) (k : Nat) (v : Val) (j : Nat) : (s.put k v).left j = s.left j := rfl
@[simp] theorem State.enc_put (s : State) (k : Nat) (v : Val) (j : Nat) : (s.put k v).enc j = s.enc j := rfl
@[simp] theorem State.slot_put (s : State) (k : Nat) (v : Val) (j : Nat) : (s.put k v).slot j = s.slot j := rfl
@[simp] theorem State.ring_put (s : State) (k : Nat) (v : Val) (j : Nat) : (s.put k v).ring j = s.ring j := rfl
@[simp] theorem State.domain_put (s : State) (k : Nat) (v : Val) (j : Nat) : (s.put k v).domain j = s.domain j := rfl
@[simp] theorem State.thermo_put (s : State) (k : Nat) (v : Val) (j : Nat) : (s.put k v).thermo j = s.thermo j := rfl
@[simp] theorem State.unit_put (s : State) (k : Nat) (v : Val) (j : Nat) : (s.put k v).unit j = s.unit j := rfl
@[simp] theorem State.polygon_put (s : State) (k : Nat) (v : Val) (j : Nat) : (s.put k v).polygon j = s.polygon j := rfl
@[simp] theorem State.station_put (s : State) (k : Nat) (v : Val) (j : Nat) : (s.put k v).station j = s.station j := rfl
@[simp] theorem State.page_put (s : State) (k : Nat) (v : Val) (j : Nat) : (s.put k v).page j = s.page j := rfl
@[simp] theorem State.lane_put (s : State) (k : Nat) (v : Val) (j : Nat) : (s.put k v).lane j = s.lane j := rfl
@[simp] theorem State.queue_put (s : State) (k : Nat) (v : Val) (j : Nat) : (s.put k v).queue j = s.queue j := rfl
@[simp] theorem State.buffer_put (s : State) (k : Nat) (v : Val) (j : Nat) : (s.put k v).buffer j = s.buffer j := rfl
@[simp] theorem State.jobsOf_put (s : State) (k : Nat) (v : Val) (j : Nat) : (s.put k v).jobsOf j = s.jobsOf j := rfl
@[simp] theorem State.turns_put (s : State) (k : Nat) (v : Val) (j : Nat) : (s.put k v).turns j = s.turns j := rfl
@[simp] theorem State.stream_put (s : State) (k : Nat) (v : Val) (j : Nat) : (s.put k v).stream j = s.stream j := rfl
@[simp] theorem State.lock_put (s : State) (k : Nat) (v : Val) (j : Nat) : (s.put k v).lock j = s.lock j := rfl
@[simp] theorem State.ladleJob_put (s : State) (k : Nat) (v : Val) (j : Nat) : (s.put k v).ladleJob j = s.ladleJob j := rfl
@[simp] theorem State.drive_put (s : State) (k : Nat) (v : Val) (j : Nat) : (s.put k v).drive j = s.drive j := rfl
@[simp] theorem State.stepper_put (s : State) (k : Nat) (v : Val) (j : Nat) : (s.put k v).stepper j = s.stepper j := rfl
@[simp] theorem State.loop_put (s : State) (k : Nat) (v : Val) (j : Nat) : (s.put k v).loop j = s.loop j := rfl
@[simp] theorem State.hv_put (s : State) (k : Nat) (v : Val) (j : Nat) : (s.put k v).hv j = s.hv j := rfl
@[simp] theorem State.zone_put (s : State) (k : Nat) (v : Val) (j : Nat) : (s.put k v).zone j = s.zone j := rfl
@[simp] theorem State.on_put (s : State) (k : Nat) (v : Val) (j : Nat) : (s.put k v).on j = s.on j := rfl

/-! ## forget -/

@[simp] theorem State.forget_s6 (s : State) (lo hi : Nat) : (s.forget lo hi).s6 = s.s6 := rfl
@[simp] theorem State.forget_stamp (s : State) (lo hi : Nat) : (s.forget lo hi).stamp = s.stamp := rfl
@[simp] theorem State.forget_timers (s : State) (lo hi : Nat) : (s.forget lo hi).timers = s.timers := rfl
@[simp] theorem State.forget_pos (s : State) (lo hi : Nat) : (s.forget lo hi).pos = s.pos := rfl
@[simp] theorem State.forget_ev (s : State) (lo hi : Nat) : (s.forget lo hi).ev = s.ev := rfl
@[simp] theorem State.forget_rings (s : State) (lo hi : Nat) : (s.forget lo hi).rings = s.rings := rfl
@[simp] theorem State.forget_pcie (s : State) (lo hi : Nat) : (s.forget lo hi).pcie = s.pcie := rfl
@[simp] theorem State.forget_polygons (s : State) (lo hi : Nat) : (s.forget lo hi).polygons = s.polygons := rfl
@[simp] theorem State.forget_stations (s : State) (lo hi : Nat) : (s.forget lo hi).stations = s.stations := rfl
@[simp] theorem State.forget_pages (s : State) (lo hi : Nat) : (s.forget lo hi).pages = s.pages := rfl
@[simp] theorem State.forget_press (s : State) (lo hi : Nat) : (s.forget lo hi).press = s.press := rfl
@[simp] theorem State.forget_fabric (s : State) (lo hi : Nat) : (s.forget lo hi).fabric = s.fabric := rfl
@[simp] theorem State.forget_drives (s : State) (lo hi : Nat) : (s.forget lo hi).drives = s.drives := rfl
@[simp] theorem State.forget_steppers (s : State) (lo hi : Nat) : (s.forget lo hi).steppers = s.steppers := rfl
@[simp] theorem State.forget_loops (s : State) (lo hi : Nat) : (s.forget lo hi).loops = s.loops := rfl
@[simp] theorem State.forget_crock (s : State) (lo hi : Nat) : (s.forget lo hi).crock = s.crock := rfl
@[simp] theorem State.forget_power (s : State) (lo hi : Nat) : (s.forget lo hi).power = s.power := rfl
@[simp] theorem State.forget_lid (s : State) (lo hi : Nat) : (s.forget lo hi).lid = s.lid := rfl
@[simp] theorem State.forget_twin (s : State) (lo hi : Nat) : (s.forget lo hi).twin = s.twin := rfl
@[simp] theorem State.forget_trust (s : State) (lo hi : Nat) : (s.forget lo hi).trust = s.trust := rfl
@[simp] theorem State.forget_svc (s : State) (lo hi : Nat) : (s.forget lo hi).svc = s.svc := rfl
@[simp] theorem State.forget_drawn (s : State) (lo hi : Nat) : (s.forget lo hi).drawn = s.drawn := rfl
@[simp] theorem State.forget_pending (s : State) (lo hi : Nat) : (s.forget lo hi).pending = s.pending := rfl
@[simp] theorem State.armed_forget (s : State) (lo hi : Nat) (j : Nat) : (s.forget lo hi).armed j = s.armed j := rfl
@[simp] theorem State.due_forget (s : State) (lo hi : Nat) (j : Nat) : (s.forget lo hi).due j = s.due j := rfl
@[simp] theorem State.left_forget (s : State) (lo hi : Nat) (j : Nat) : (s.forget lo hi).left j = s.left j := rfl
@[simp] theorem State.enc_forget (s : State) (lo hi : Nat) (j : Nat) : (s.forget lo hi).enc j = s.enc j := rfl
@[simp] theorem State.slot_forget (s : State) (lo hi : Nat) (j : Nat) : (s.forget lo hi).slot j = s.slot j := rfl
@[simp] theorem State.ring_forget (s : State) (lo hi : Nat) (j : Nat) : (s.forget lo hi).ring j = s.ring j := rfl
@[simp] theorem State.domain_forget (s : State) (lo hi : Nat) (j : Nat) : (s.forget lo hi).domain j = s.domain j := rfl
@[simp] theorem State.thermo_forget (s : State) (lo hi : Nat) (j : Nat) : (s.forget lo hi).thermo j = s.thermo j := rfl
@[simp] theorem State.unit_forget (s : State) (lo hi : Nat) (j : Nat) : (s.forget lo hi).unit j = s.unit j := rfl
@[simp] theorem State.polygon_forget (s : State) (lo hi : Nat) (j : Nat) : (s.forget lo hi).polygon j = s.polygon j := rfl
@[simp] theorem State.station_forget (s : State) (lo hi : Nat) (j : Nat) : (s.forget lo hi).station j = s.station j := rfl
@[simp] theorem State.page_forget (s : State) (lo hi : Nat) (j : Nat) : (s.forget lo hi).page j = s.page j := rfl
@[simp] theorem State.lane_forget (s : State) (lo hi : Nat) (j : Nat) : (s.forget lo hi).lane j = s.lane j := rfl
@[simp] theorem State.queue_forget (s : State) (lo hi : Nat) (j : Nat) : (s.forget lo hi).queue j = s.queue j := rfl
@[simp] theorem State.buffer_forget (s : State) (lo hi : Nat) (j : Nat) : (s.forget lo hi).buffer j = s.buffer j := rfl
@[simp] theorem State.jobsOf_forget (s : State) (lo hi : Nat) (j : Nat) : (s.forget lo hi).jobsOf j = s.jobsOf j := rfl
@[simp] theorem State.turns_forget (s : State) (lo hi : Nat) (j : Nat) : (s.forget lo hi).turns j = s.turns j := rfl
@[simp] theorem State.stream_forget (s : State) (lo hi : Nat) (j : Nat) : (s.forget lo hi).stream j = s.stream j := rfl
@[simp] theorem State.lock_forget (s : State) (lo hi : Nat) (j : Nat) : (s.forget lo hi).lock j = s.lock j := rfl
@[simp] theorem State.ladleJob_forget (s : State) (lo hi : Nat) (j : Nat) : (s.forget lo hi).ladleJob j = s.ladleJob j := rfl
@[simp] theorem State.drive_forget (s : State) (lo hi : Nat) (j : Nat) : (s.forget lo hi).drive j = s.drive j := rfl
@[simp] theorem State.stepper_forget (s : State) (lo hi : Nat) (j : Nat) : (s.forget lo hi).stepper j = s.stepper j := rfl
@[simp] theorem State.loop_forget (s : State) (lo hi : Nat) (j : Nat) : (s.forget lo hi).loop j = s.loop j := rfl
@[simp] theorem State.hv_forget (s : State) (lo hi : Nat) (j : Nat) : (s.forget lo hi).hv j = s.hv j := rfl
@[simp] theorem State.zone_forget (s : State) (lo hi : Nat) (j : Nat) : (s.forget lo hi).zone j = s.zone j := rfl
@[simp] theorem State.on_forget (s : State) (lo hi : Nat) (j : Nat) : (s.forget lo hi).on j = s.on j := rfl

/-! ## forgetOne -/

@[simp] theorem State.forgetOne_s6 (s : State) (k : Nat) : (s.forgetOne k).s6 = s.s6 := rfl
@[simp] theorem State.forgetOne_stamp (s : State) (k : Nat) : (s.forgetOne k).stamp = s.stamp := rfl
@[simp] theorem State.forgetOne_timers (s : State) (k : Nat) : (s.forgetOne k).timers = s.timers := rfl
@[simp] theorem State.forgetOne_pos (s : State) (k : Nat) : (s.forgetOne k).pos = s.pos := rfl
@[simp] theorem State.forgetOne_ev (s : State) (k : Nat) : (s.forgetOne k).ev = s.ev := rfl
@[simp] theorem State.forgetOne_rings (s : State) (k : Nat) : (s.forgetOne k).rings = s.rings := rfl
@[simp] theorem State.forgetOne_pcie (s : State) (k : Nat) : (s.forgetOne k).pcie = s.pcie := rfl
@[simp] theorem State.forgetOne_polygons (s : State) (k : Nat) : (s.forgetOne k).polygons = s.polygons := rfl
@[simp] theorem State.forgetOne_stations (s : State) (k : Nat) : (s.forgetOne k).stations = s.stations := rfl
@[simp] theorem State.forgetOne_pages (s : State) (k : Nat) : (s.forgetOne k).pages = s.pages := rfl
@[simp] theorem State.forgetOne_press (s : State) (k : Nat) : (s.forgetOne k).press = s.press := rfl
@[simp] theorem State.forgetOne_fabric (s : State) (k : Nat) : (s.forgetOne k).fabric = s.fabric := rfl
@[simp] theorem State.forgetOne_drives (s : State) (k : Nat) : (s.forgetOne k).drives = s.drives := rfl
@[simp] theorem State.forgetOne_steppers (s : State) (k : Nat) : (s.forgetOne k).steppers = s.steppers := rfl
@[simp] theorem State.forgetOne_loops (s : State) (k : Nat) : (s.forgetOne k).loops = s.loops := rfl
@[simp] theorem State.forgetOne_crock (s : State) (k : Nat) : (s.forgetOne k).crock = s.crock := rfl
@[simp] theorem State.forgetOne_power (s : State) (k : Nat) : (s.forgetOne k).power = s.power := rfl
@[simp] theorem State.forgetOne_lid (s : State) (k : Nat) : (s.forgetOne k).lid = s.lid := rfl
@[simp] theorem State.forgetOne_twin (s : State) (k : Nat) : (s.forgetOne k).twin = s.twin := rfl
@[simp] theorem State.forgetOne_trust (s : State) (k : Nat) : (s.forgetOne k).trust = s.trust := rfl
@[simp] theorem State.forgetOne_svc (s : State) (k : Nat) : (s.forgetOne k).svc = s.svc := rfl
@[simp] theorem State.forgetOne_drawn (s : State) (k : Nat) : (s.forgetOne k).drawn = s.drawn := rfl
@[simp] theorem State.forgetOne_pending (s : State) (k : Nat) : (s.forgetOne k).pending = s.pending := rfl
@[simp] theorem State.armed_forgetOne (s : State) (k : Nat) (j : Nat) : (s.forgetOne k).armed j = s.armed j := rfl
@[simp] theorem State.due_forgetOne (s : State) (k : Nat) (j : Nat) : (s.forgetOne k).due j = s.due j := rfl
@[simp] theorem State.left_forgetOne (s : State) (k : Nat) (j : Nat) : (s.forgetOne k).left j = s.left j := rfl
@[simp] theorem State.enc_forgetOne (s : State) (k : Nat) (j : Nat) : (s.forgetOne k).enc j = s.enc j := rfl
@[simp] theorem State.slot_forgetOne (s : State) (k : Nat) (j : Nat) : (s.forgetOne k).slot j = s.slot j := rfl
@[simp] theorem State.ring_forgetOne (s : State) (k : Nat) (j : Nat) : (s.forgetOne k).ring j = s.ring j := rfl
@[simp] theorem State.domain_forgetOne (s : State) (k : Nat) (j : Nat) : (s.forgetOne k).domain j = s.domain j := rfl
@[simp] theorem State.thermo_forgetOne (s : State) (k : Nat) (j : Nat) : (s.forgetOne k).thermo j = s.thermo j := rfl
@[simp] theorem State.unit_forgetOne (s : State) (k : Nat) (j : Nat) : (s.forgetOne k).unit j = s.unit j := rfl
@[simp] theorem State.polygon_forgetOne (s : State) (k : Nat) (j : Nat) : (s.forgetOne k).polygon j = s.polygon j := rfl
@[simp] theorem State.station_forgetOne (s : State) (k : Nat) (j : Nat) : (s.forgetOne k).station j = s.station j := rfl
@[simp] theorem State.page_forgetOne (s : State) (k : Nat) (j : Nat) : (s.forgetOne k).page j = s.page j := rfl
@[simp] theorem State.lane_forgetOne (s : State) (k : Nat) (j : Nat) : (s.forgetOne k).lane j = s.lane j := rfl
@[simp] theorem State.queue_forgetOne (s : State) (k : Nat) (j : Nat) : (s.forgetOne k).queue j = s.queue j := rfl
@[simp] theorem State.buffer_forgetOne (s : State) (k : Nat) (j : Nat) : (s.forgetOne k).buffer j = s.buffer j := rfl
@[simp] theorem State.jobsOf_forgetOne (s : State) (k : Nat) (j : Nat) : (s.forgetOne k).jobsOf j = s.jobsOf j := rfl
@[simp] theorem State.turns_forgetOne (s : State) (k : Nat) (j : Nat) : (s.forgetOne k).turns j = s.turns j := rfl
@[simp] theorem State.stream_forgetOne (s : State) (k : Nat) (j : Nat) : (s.forgetOne k).stream j = s.stream j := rfl
@[simp] theorem State.lock_forgetOne (s : State) (k : Nat) (j : Nat) : (s.forgetOne k).lock j = s.lock j := rfl
@[simp] theorem State.ladleJob_forgetOne (s : State) (k : Nat) (j : Nat) : (s.forgetOne k).ladleJob j = s.ladleJob j := rfl
@[simp] theorem State.drive_forgetOne (s : State) (k : Nat) (j : Nat) : (s.forgetOne k).drive j = s.drive j := rfl
@[simp] theorem State.stepper_forgetOne (s : State) (k : Nat) (j : Nat) : (s.forgetOne k).stepper j = s.stepper j := rfl
@[simp] theorem State.loop_forgetOne (s : State) (k : Nat) (j : Nat) : (s.forgetOne k).loop j = s.loop j := rfl
@[simp] theorem State.hv_forgetOne (s : State) (k : Nat) (j : Nat) : (s.forgetOne k).hv j = s.hv j := rfl
@[simp] theorem State.zone_forgetOne (s : State) (k : Nat) (j : Nat) : (s.forgetOne k).zone j = s.zone j := rfl
@[simp] theorem State.on_forgetOne (s : State) (k : Nat) (j : Nat) : (s.forgetOne k).on j = s.on j := rfl

/-! ## arm -/

@[simp] theorem State.arm_s6 (s : State) (u d : Nat) : (s.arm u d).s6 = s.s6 := rfl
@[simp] theorem State.arm_stamp (s : State) (u d : Nat) : (s.arm u d).stamp = s.stamp := rfl
@[simp] theorem State.arm_od (s : State) (u d : Nat) : (s.arm u d).od = s.od := rfl
@[simp] theorem State.arm_pos (s : State) (u d : Nat) : (s.arm u d).pos = s.pos := rfl
@[simp] theorem State.arm_ev (s : State) (u d : Nat) : (s.arm u d).ev = s.ev := rfl
@[simp] theorem State.arm_rings (s : State) (u d : Nat) : (s.arm u d).rings = s.rings := rfl
@[simp] theorem State.arm_pcie (s : State) (u d : Nat) : (s.arm u d).pcie = s.pcie := rfl
@[simp] theorem State.arm_polygons (s : State) (u d : Nat) : (s.arm u d).polygons = s.polygons := rfl
@[simp] theorem State.arm_stations (s : State) (u d : Nat) : (s.arm u d).stations = s.stations := rfl
@[simp] theorem State.arm_pages (s : State) (u d : Nat) : (s.arm u d).pages = s.pages := rfl
@[simp] theorem State.arm_press (s : State) (u d : Nat) : (s.arm u d).press = s.press := rfl
@[simp] theorem State.arm_fabric (s : State) (u d : Nat) : (s.arm u d).fabric = s.fabric := rfl
@[simp] theorem State.arm_drives (s : State) (u d : Nat) : (s.arm u d).drives = s.drives := rfl
@[simp] theorem State.arm_steppers (s : State) (u d : Nat) : (s.arm u d).steppers = s.steppers := rfl
@[simp] theorem State.arm_loops (s : State) (u d : Nat) : (s.arm u d).loops = s.loops := rfl
@[simp] theorem State.arm_crock (s : State) (u d : Nat) : (s.arm u d).crock = s.crock := rfl
@[simp] theorem State.arm_power (s : State) (u d : Nat) : (s.arm u d).power = s.power := rfl
@[simp] theorem State.arm_lid (s : State) (u d : Nat) : (s.arm u d).lid = s.lid := rfl
@[simp] theorem State.arm_twin (s : State) (u d : Nat) : (s.arm u d).twin = s.twin := rfl
@[simp] theorem State.arm_trust (s : State) (u d : Nat) : (s.arm u d).trust = s.trust := rfl
@[simp] theorem State.arm_svc (s : State) (u d : Nat) : (s.arm u d).svc = s.svc := rfl
@[simp] theorem State.arm_drawn (s : State) (u d : Nat) : (s.arm u d).drawn = s.drawn := rfl
@[simp] theorem State.arm_pending (s : State) (u d : Nat) : (s.arm u d).pending = s.pending := rfl
@[simp] theorem State.val_arm (s : State) (u d : Nat) (j : Nat) : (s.arm u d).val j = s.val j := rfl
@[simp] theorem State.i_arm (s : State) (u d : Nat) (j : Nat) : (s.arm u d).i j = s.i j := rfl
@[simp] theorem State.n_arm (s : State) (u d : Nat) (j : Nat) : (s.arm u d).n j = s.n j := rfl
@[simp] theorem State.flag_arm (s : State) (u d : Nat) (j : Nat) : (s.arm u d).flag j = s.flag j := rfl
@[simp] theorem State.bytes_arm (s : State) (u d : Nat) (j : Nat) : (s.arm u d).bytes j = s.bytes j := rfl
@[simp] theorem State.enc_arm (s : State) (u d : Nat) (j : Nat) : (s.arm u d).enc j = s.enc j := rfl
@[simp] theorem State.slot_arm (s : State) (u d : Nat) (j : Nat) : (s.arm u d).slot j = s.slot j := rfl
@[simp] theorem State.ring_arm (s : State) (u d : Nat) (j : Nat) : (s.arm u d).ring j = s.ring j := rfl
@[simp] theorem State.domain_arm (s : State) (u d : Nat) (j : Nat) : (s.arm u d).domain j = s.domain j := rfl
@[simp] theorem State.thermo_arm (s : State) (u d : Nat) (j : Nat) : (s.arm u d).thermo j = s.thermo j := rfl
@[simp] theorem State.unit_arm (s : State) (u d : Nat) (j : Nat) : (s.arm u d).unit j = s.unit j := rfl
@[simp] theorem State.polygon_arm (s : State) (u d : Nat) (j : Nat) : (s.arm u d).polygon j = s.polygon j := rfl
@[simp] theorem State.station_arm (s : State) (u d : Nat) (j : Nat) : (s.arm u d).station j = s.station j := rfl
@[simp] theorem State.page_arm (s : State) (u d : Nat) (j : Nat) : (s.arm u d).page j = s.page j := rfl
@[simp] theorem State.lane_arm (s : State) (u d : Nat) (j : Nat) : (s.arm u d).lane j = s.lane j := rfl
@[simp] theorem State.queue_arm (s : State) (u d : Nat) (j : Nat) : (s.arm u d).queue j = s.queue j := rfl
@[simp] theorem State.buffer_arm (s : State) (u d : Nat) (j : Nat) : (s.arm u d).buffer j = s.buffer j := rfl
@[simp] theorem State.jobsOf_arm (s : State) (u d : Nat) (j : Nat) : (s.arm u d).jobsOf j = s.jobsOf j := rfl
@[simp] theorem State.turns_arm (s : State) (u d : Nat) (j : Nat) : (s.arm u d).turns j = s.turns j := rfl
@[simp] theorem State.stream_arm (s : State) (u d : Nat) (j : Nat) : (s.arm u d).stream j = s.stream j := rfl
@[simp] theorem State.lock_arm (s : State) (u d : Nat) (j : Nat) : (s.arm u d).lock j = s.lock j := rfl
@[simp] theorem State.ladleJob_arm (s : State) (u d : Nat) (j : Nat) : (s.arm u d).ladleJob j = s.ladleJob j := rfl
@[simp] theorem State.drive_arm (s : State) (u d : Nat) (j : Nat) : (s.arm u d).drive j = s.drive j := rfl
@[simp] theorem State.stepper_arm (s : State) (u d : Nat) (j : Nat) : (s.arm u d).stepper j = s.stepper j := rfl
@[simp] theorem State.loop_arm (s : State) (u d : Nat) (j : Nat) : (s.arm u d).loop j = s.loop j := rfl
@[simp] theorem State.hv_arm (s : State) (u d : Nat) (j : Nat) : (s.arm u d).hv j = s.hv j := rfl
@[simp] theorem State.zone_arm (s : State) (u d : Nat) (j : Nat) : (s.arm u d).zone j = s.zone j := rfl
@[simp] theorem State.on_arm (s : State) (u d : Nat) (j : Nat) : (s.arm u d).on j = s.on j := rfl

/-! ## disarm -/

@[simp] theorem State.disarm_s6 (s : State) (u : Nat) : (s.disarm u).s6 = s.s6 := rfl
@[simp] theorem State.disarm_stamp (s : State) (u : Nat) : (s.disarm u).stamp = s.stamp := rfl
@[simp] theorem State.disarm_od (s : State) (u : Nat) : (s.disarm u).od = s.od := rfl
@[simp] theorem State.disarm_pos (s : State) (u : Nat) : (s.disarm u).pos = s.pos := rfl
@[simp] theorem State.disarm_ev (s : State) (u : Nat) : (s.disarm u).ev = s.ev := rfl
@[simp] theorem State.disarm_rings (s : State) (u : Nat) : (s.disarm u).rings = s.rings := rfl
@[simp] theorem State.disarm_pcie (s : State) (u : Nat) : (s.disarm u).pcie = s.pcie := rfl
@[simp] theorem State.disarm_polygons (s : State) (u : Nat) : (s.disarm u).polygons = s.polygons := rfl
@[simp] theorem State.disarm_stations (s : State) (u : Nat) : (s.disarm u).stations = s.stations := rfl
@[simp] theorem State.disarm_pages (s : State) (u : Nat) : (s.disarm u).pages = s.pages := rfl
@[simp] theorem State.disarm_press (s : State) (u : Nat) : (s.disarm u).press = s.press := rfl
@[simp] theorem State.disarm_fabric (s : State) (u : Nat) : (s.disarm u).fabric = s.fabric := rfl
@[simp] theorem State.disarm_drives (s : State) (u : Nat) : (s.disarm u).drives = s.drives := rfl
@[simp] theorem State.disarm_steppers (s : State) (u : Nat) : (s.disarm u).steppers = s.steppers := rfl
@[simp] theorem State.disarm_loops (s : State) (u : Nat) : (s.disarm u).loops = s.loops := rfl
@[simp] theorem State.disarm_crock (s : State) (u : Nat) : (s.disarm u).crock = s.crock := rfl
@[simp] theorem State.disarm_power (s : State) (u : Nat) : (s.disarm u).power = s.power := rfl
@[simp] theorem State.disarm_lid (s : State) (u : Nat) : (s.disarm u).lid = s.lid := rfl
@[simp] theorem State.disarm_twin (s : State) (u : Nat) : (s.disarm u).twin = s.twin := rfl
@[simp] theorem State.disarm_trust (s : State) (u : Nat) : (s.disarm u).trust = s.trust := rfl
@[simp] theorem State.disarm_svc (s : State) (u : Nat) : (s.disarm u).svc = s.svc := rfl
@[simp] theorem State.disarm_drawn (s : State) (u : Nat) : (s.disarm u).drawn = s.drawn := rfl
@[simp] theorem State.disarm_pending (s : State) (u : Nat) : (s.disarm u).pending = s.pending := rfl
@[simp] theorem State.val_disarm (s : State) (u : Nat) (j : Nat) : (s.disarm u).val j = s.val j := rfl
@[simp] theorem State.i_disarm (s : State) (u : Nat) (j : Nat) : (s.disarm u).i j = s.i j := rfl
@[simp] theorem State.n_disarm (s : State) (u : Nat) (j : Nat) : (s.disarm u).n j = s.n j := rfl
@[simp] theorem State.flag_disarm (s : State) (u : Nat) (j : Nat) : (s.disarm u).flag j = s.flag j := rfl
@[simp] theorem State.bytes_disarm (s : State) (u : Nat) (j : Nat) : (s.disarm u).bytes j = s.bytes j := rfl
@[simp] theorem State.enc_disarm (s : State) (u : Nat) (j : Nat) : (s.disarm u).enc j = s.enc j := rfl
@[simp] theorem State.slot_disarm (s : State) (u : Nat) (j : Nat) : (s.disarm u).slot j = s.slot j := rfl
@[simp] theorem State.ring_disarm (s : State) (u : Nat) (j : Nat) : (s.disarm u).ring j = s.ring j := rfl
@[simp] theorem State.domain_disarm (s : State) (u : Nat) (j : Nat) : (s.disarm u).domain j = s.domain j := rfl
@[simp] theorem State.thermo_disarm (s : State) (u : Nat) (j : Nat) : (s.disarm u).thermo j = s.thermo j := rfl
@[simp] theorem State.unit_disarm (s : State) (u : Nat) (j : Nat) : (s.disarm u).unit j = s.unit j := rfl
@[simp] theorem State.polygon_disarm (s : State) (u : Nat) (j : Nat) : (s.disarm u).polygon j = s.polygon j := rfl
@[simp] theorem State.station_disarm (s : State) (u : Nat) (j : Nat) : (s.disarm u).station j = s.station j := rfl
@[simp] theorem State.page_disarm (s : State) (u : Nat) (j : Nat) : (s.disarm u).page j = s.page j := rfl
@[simp] theorem State.lane_disarm (s : State) (u : Nat) (j : Nat) : (s.disarm u).lane j = s.lane j := rfl
@[simp] theorem State.queue_disarm (s : State) (u : Nat) (j : Nat) : (s.disarm u).queue j = s.queue j := rfl
@[simp] theorem State.buffer_disarm (s : State) (u : Nat) (j : Nat) : (s.disarm u).buffer j = s.buffer j := rfl
@[simp] theorem State.jobsOf_disarm (s : State) (u : Nat) (j : Nat) : (s.disarm u).jobsOf j = s.jobsOf j := rfl
@[simp] theorem State.turns_disarm (s : State) (u : Nat) (j : Nat) : (s.disarm u).turns j = s.turns j := rfl
@[simp] theorem State.stream_disarm (s : State) (u : Nat) (j : Nat) : (s.disarm u).stream j = s.stream j := rfl
@[simp] theorem State.lock_disarm (s : State) (u : Nat) (j : Nat) : (s.disarm u).lock j = s.lock j := rfl
@[simp] theorem State.ladleJob_disarm (s : State) (u : Nat) (j : Nat) : (s.disarm u).ladleJob j = s.ladleJob j := rfl
@[simp] theorem State.drive_disarm (s : State) (u : Nat) (j : Nat) : (s.disarm u).drive j = s.drive j := rfl
@[simp] theorem State.stepper_disarm (s : State) (u : Nat) (j : Nat) : (s.disarm u).stepper j = s.stepper j := rfl
@[simp] theorem State.loop_disarm (s : State) (u : Nat) (j : Nat) : (s.disarm u).loop j = s.loop j := rfl
@[simp] theorem State.hv_disarm (s : State) (u : Nat) (j : Nat) : (s.disarm u).hv j = s.hv j := rfl
@[simp] theorem State.zone_disarm (s : State) (u : Nat) (j : Nat) : (s.disarm u).zone j = s.zone j := rfl
@[simp] theorem State.on_disarm (s : State) (u : Nat) (j : Nat) : (s.disarm u).on j = s.on j := rfl

/-! ## draw -/

@[simp] theorem State.draw_s6 (s : State) : (s.draw).s6 = s.s6 := rfl
@[simp] theorem State.draw_stamp (s : State) : (s.draw).stamp = s.stamp := rfl
@[simp] theorem State.draw_od (s : State) : (s.draw).od = s.od := rfl
@[simp] theorem State.draw_timers (s : State) : (s.draw).timers = s.timers := rfl
@[simp] theorem State.draw_pos (s : State) : (s.draw).pos = s.pos := rfl
@[simp] theorem State.draw_ev (s : State) : (s.draw).ev = s.ev := rfl
@[simp] theorem State.draw_rings (s : State) : (s.draw).rings = s.rings := rfl
@[simp] theorem State.draw_pcie (s : State) : (s.draw).pcie = s.pcie := rfl
@[simp] theorem State.draw_polygons (s : State) : (s.draw).polygons = s.polygons := rfl
@[simp] theorem State.draw_stations (s : State) : (s.draw).stations = s.stations := rfl
@[simp] theorem State.draw_pages (s : State) : (s.draw).pages = s.pages := rfl
@[simp] theorem State.draw_press (s : State) : (s.draw).press = s.press := rfl
@[simp] theorem State.draw_fabric (s : State) : (s.draw).fabric = s.fabric := rfl
@[simp] theorem State.draw_drives (s : State) : (s.draw).drives = s.drives := rfl
@[simp] theorem State.draw_steppers (s : State) : (s.draw).steppers = s.steppers := rfl
@[simp] theorem State.draw_loops (s : State) : (s.draw).loops = s.loops := rfl
@[simp] theorem State.draw_crock (s : State) : (s.draw).crock = s.crock := rfl
@[simp] theorem State.draw_power (s : State) : (s.draw).power = s.power := rfl
@[simp] theorem State.draw_lid (s : State) : (s.draw).lid = s.lid := rfl
@[simp] theorem State.draw_twin (s : State) : (s.draw).twin = s.twin := rfl
@[simp] theorem State.draw_trust (s : State) : (s.draw).trust = s.trust := rfl
@[simp] theorem State.draw_svc (s : State) : (s.draw).svc = s.svc := rfl
@[simp] theorem State.draw_pending (s : State) : (s.draw).pending = s.pending := rfl
@[simp] theorem State.val_draw (s : State) (j : Nat) : (s.draw).val j = s.val j := rfl
@[simp] theorem State.i_draw (s : State) (j : Nat) : (s.draw).i j = s.i j := rfl
@[simp] theorem State.n_draw (s : State) (j : Nat) : (s.draw).n j = s.n j := rfl
@[simp] theorem State.flag_draw (s : State) (j : Nat) : (s.draw).flag j = s.flag j := rfl
@[simp] theorem State.bytes_draw (s : State) (j : Nat) : (s.draw).bytes j = s.bytes j := rfl
@[simp] theorem State.armed_draw (s : State) (j : Nat) : (s.draw).armed j = s.armed j := rfl
@[simp] theorem State.due_draw (s : State) (j : Nat) : (s.draw).due j = s.due j := rfl
@[simp] theorem State.left_draw (s : State) (j : Nat) : (s.draw).left j = s.left j := rfl
@[simp] theorem State.enc_draw (s : State) (j : Nat) : (s.draw).enc j = s.enc j := rfl
@[simp] theorem State.slot_draw (s : State) (j : Nat) : (s.draw).slot j = s.slot j := rfl
@[simp] theorem State.ring_draw (s : State) (j : Nat) : (s.draw).ring j = s.ring j := rfl
@[simp] theorem State.domain_draw (s : State) (j : Nat) : (s.draw).domain j = s.domain j := rfl
@[simp] theorem State.thermo_draw (s : State) (j : Nat) : (s.draw).thermo j = s.thermo j := rfl
@[simp] theorem State.unit_draw (s : State) (j : Nat) : (s.draw).unit j = s.unit j := rfl
@[simp] theorem State.polygon_draw (s : State) (j : Nat) : (s.draw).polygon j = s.polygon j := rfl
@[simp] theorem State.station_draw (s : State) (j : Nat) : (s.draw).station j = s.station j := rfl
@[simp] theorem State.page_draw (s : State) (j : Nat) : (s.draw).page j = s.page j := rfl
@[simp] theorem State.lane_draw (s : State) (j : Nat) : (s.draw).lane j = s.lane j := rfl
@[simp] theorem State.queue_draw (s : State) (j : Nat) : (s.draw).queue j = s.queue j := rfl
@[simp] theorem State.buffer_draw (s : State) (j : Nat) : (s.draw).buffer j = s.buffer j := rfl
@[simp] theorem State.jobsOf_draw (s : State) (j : Nat) : (s.draw).jobsOf j = s.jobsOf j := rfl
@[simp] theorem State.turns_draw (s : State) (j : Nat) : (s.draw).turns j = s.turns j := rfl
@[simp] theorem State.stream_draw (s : State) (j : Nat) : (s.draw).stream j = s.stream j := rfl
@[simp] theorem State.lock_draw (s : State) (j : Nat) : (s.draw).lock j = s.lock j := rfl
@[simp] theorem State.ladleJob_draw (s : State) (j : Nat) : (s.draw).ladleJob j = s.ladleJob j := rfl
@[simp] theorem State.drive_draw (s : State) (j : Nat) : (s.draw).drive j = s.drive j := rfl
@[simp] theorem State.stepper_draw (s : State) (j : Nat) : (s.draw).stepper j = s.stepper j := rfl
@[simp] theorem State.loop_draw (s : State) (j : Nat) : (s.draw).loop j = s.loop j := rfl
@[simp] theorem State.hv_draw (s : State) (j : Nat) : (s.draw).hv j = s.hv j := rfl
@[simp] theorem State.zone_draw (s : State) (j : Nat) : (s.draw).zone j = s.zone j := rfl
@[simp] theorem State.on_draw (s : State) (j : Nat) : (s.draw).on j = s.on j := rfl

/-! ## deliver -/

@[simp] theorem State.deliver_s6 (s : State) (r : Rec) : (s.deliver r).s6 = s.s6 := rfl
@[simp] theorem State.deliver_stamp (s : State) (r : Rec) : (s.deliver r).stamp = s.stamp := rfl
@[simp] theorem State.deliver_od (s : State) (r : Rec) : (s.deliver r).od = s.od := rfl
@[simp] theorem State.deliver_timers (s : State) (r : Rec) : (s.deliver r).timers = s.timers := rfl
@[simp] theorem State.deliver_pos (s : State) (r : Rec) : (s.deliver r).pos = s.pos := rfl
@[simp] theorem State.deliver_ev_trace (s : State) (r : Rec) : (s.deliver r).ev.trace = s.ev.trace := rfl
@[simp] theorem State.deliver_ev_sequence (s : State) (r : Rec) : (s.deliver r).ev.sequence = s.ev.sequence := rfl
@[simp] theorem State.deliver_ev_newest (s : State) (r : Rec) : (s.deliver r).ev.newest = s.ev.newest := rfl
@[simp] theorem State.deliver_ev_samples (s : State) (r : Rec) : (s.deliver r).ev.samples = s.ev.samples := rfl
@[simp] theorem State.deliver_ev_lost (s : State) (r : Rec) : (s.deliver r).ev.lost = s.ev.lost := rfl
@[simp] theorem State.deliver_ev_warned (s : State) (r : Rec) : (s.deliver r).ev.warned = s.ev.warned := rfl
@[simp] theorem State.deliver_ev_step (s : State) (r : Rec) : (s.deliver r).ev.step = s.ev.step := rfl
@[simp] theorem State.deliver_ev_entered (s : State) (r : Rec) : (s.deliver r).ev.entered = s.ev.entered := rfl
@[simp] theorem State.deliver_ev_syncLast (s : State) (r : Rec) : (s.deliver r).ev.syncLast = s.ev.syncLast := rfl
@[simp] theorem State.deliver_ev_syncGood (s : State) (r : Rec) : (s.deliver r).ev.syncGood = s.ev.syncGood := rfl
@[simp] theorem State.deliver_rings (s : State) (r : Rec) : (s.deliver r).rings = s.rings := rfl
@[simp] theorem State.deliver_pcie (s : State) (r : Rec) : (s.deliver r).pcie = s.pcie := rfl
@[simp] theorem State.deliver_polygons (s : State) (r : Rec) : (s.deliver r).polygons = s.polygons := rfl
@[simp] theorem State.deliver_stations (s : State) (r : Rec) : (s.deliver r).stations = s.stations := rfl
@[simp] theorem State.deliver_pages (s : State) (r : Rec) : (s.deliver r).pages = s.pages := rfl
@[simp] theorem State.deliver_press (s : State) (r : Rec) : (s.deliver r).press = s.press := rfl
@[simp] theorem State.deliver_fabric (s : State) (r : Rec) : (s.deliver r).fabric = s.fabric := rfl
@[simp] theorem State.deliver_drives (s : State) (r : Rec) : (s.deliver r).drives = s.drives := rfl
@[simp] theorem State.deliver_steppers (s : State) (r : Rec) : (s.deliver r).steppers = s.steppers := rfl
@[simp] theorem State.deliver_loops (s : State) (r : Rec) : (s.deliver r).loops = s.loops := rfl
@[simp] theorem State.deliver_crock (s : State) (r : Rec) : (s.deliver r).crock = s.crock := rfl
@[simp] theorem State.deliver_power (s : State) (r : Rec) : (s.deliver r).power = s.power := rfl
@[simp] theorem State.deliver_lid (s : State) (r : Rec) : (s.deliver r).lid = s.lid := rfl
@[simp] theorem State.deliver_twin (s : State) (r : Rec) : (s.deliver r).twin = s.twin := rfl
@[simp] theorem State.deliver_trust (s : State) (r : Rec) : (s.deliver r).trust = s.trust := rfl
@[simp] theorem State.deliver_svc (s : State) (r : Rec) : (s.deliver r).svc = s.svc := rfl
@[simp] theorem State.deliver_drawn (s : State) (r : Rec) : (s.deliver r).drawn = s.drawn := rfl
@[simp] theorem State.deliver_pending (s : State) (r : Rec) : (s.deliver r).pending = s.pending := rfl
@[simp] theorem State.val_deliver (s : State) (r : Rec) (j : Nat) : (s.deliver r).val j = s.val j := rfl
@[simp] theorem State.i_deliver (s : State) (r : Rec) (j : Nat) : (s.deliver r).i j = s.i j := rfl
@[simp] theorem State.n_deliver (s : State) (r : Rec) (j : Nat) : (s.deliver r).n j = s.n j := rfl
@[simp] theorem State.flag_deliver (s : State) (r : Rec) (j : Nat) : (s.deliver r).flag j = s.flag j := rfl
@[simp] theorem State.bytes_deliver (s : State) (r : Rec) (j : Nat) : (s.deliver r).bytes j = s.bytes j := rfl
@[simp] theorem State.armed_deliver (s : State) (r : Rec) (j : Nat) : (s.deliver r).armed j = s.armed j := rfl
@[simp] theorem State.due_deliver (s : State) (r : Rec) (j : Nat) : (s.deliver r).due j = s.due j := rfl
@[simp] theorem State.left_deliver (s : State) (r : Rec) (j : Nat) : (s.deliver r).left j = s.left j := rfl
@[simp] theorem State.enc_deliver (s : State) (r : Rec) (j : Nat) : (s.deliver r).enc j = s.enc j := rfl
@[simp] theorem State.slot_deliver (s : State) (r : Rec) (j : Nat) : (s.deliver r).slot j = s.slot j := rfl
@[simp] theorem State.ring_deliver (s : State) (r : Rec) (j : Nat) : (s.deliver r).ring j = s.ring j := rfl
@[simp] theorem State.domain_deliver (s : State) (r : Rec) (j : Nat) : (s.deliver r).domain j = s.domain j := rfl
@[simp] theorem State.thermo_deliver (s : State) (r : Rec) (j : Nat) : (s.deliver r).thermo j = s.thermo j := rfl
@[simp] theorem State.unit_deliver (s : State) (r : Rec) (j : Nat) : (s.deliver r).unit j = s.unit j := rfl
@[simp] theorem State.polygon_deliver (s : State) (r : Rec) (j : Nat) : (s.deliver r).polygon j = s.polygon j := rfl
@[simp] theorem State.station_deliver (s : State) (r : Rec) (j : Nat) : (s.deliver r).station j = s.station j := rfl
@[simp] theorem State.page_deliver (s : State) (r : Rec) (j : Nat) : (s.deliver r).page j = s.page j := rfl
@[simp] theorem State.lane_deliver (s : State) (r : Rec) (j : Nat) : (s.deliver r).lane j = s.lane j := rfl
@[simp] theorem State.queue_deliver (s : State) (r : Rec) (j : Nat) : (s.deliver r).queue j = s.queue j := rfl
@[simp] theorem State.buffer_deliver (s : State) (r : Rec) (j : Nat) : (s.deliver r).buffer j = s.buffer j := rfl
@[simp] theorem State.jobsOf_deliver (s : State) (r : Rec) (j : Nat) : (s.deliver r).jobsOf j = s.jobsOf j := rfl
@[simp] theorem State.turns_deliver (s : State) (r : Rec) (j : Nat) : (s.deliver r).turns j = s.turns j := rfl
@[simp] theorem State.stream_deliver (s : State) (r : Rec) (j : Nat) : (s.deliver r).stream j = s.stream j := rfl
@[simp] theorem State.lock_deliver (s : State) (r : Rec) (j : Nat) : (s.deliver r).lock j = s.lock j := rfl
@[simp] theorem State.ladleJob_deliver (s : State) (r : Rec) (j : Nat) : (s.deliver r).ladleJob j = s.ladleJob j := rfl
@[simp] theorem State.drive_deliver (s : State) (r : Rec) (j : Nat) : (s.deliver r).drive j = s.drive j := rfl
@[simp] theorem State.stepper_deliver (s : State) (r : Rec) (j : Nat) : (s.deliver r).stepper j = s.stepper j := rfl
@[simp] theorem State.loop_deliver (s : State) (r : Rec) (j : Nat) : (s.deliver r).loop j = s.loop j := rfl
@[simp] theorem State.hv_deliver (s : State) (r : Rec) (j : Nat) : (s.deliver r).hv j = s.hv j := rfl
@[simp] theorem State.zone_deliver (s : State) (r : Rec) (j : Nat) : (s.deliver r).zone j = s.zone j := rfl
@[simp] theorem State.on_deliver (s : State) (r : Rec) (j : Nat) : (s.deliver r).on j = s.on j := rfl

/-! ## event -/

@[simp] theorem State.event_s6 (s : State) (e p : Nat) : (s.event e p).s6 = s.s6 := rfl
@[simp] theorem State.event_stamp (s : State) (e p : Nat) : (s.event e p).stamp = s.stamp := rfl
@[simp] theorem State.event_od (s : State) (e p : Nat) : (s.event e p).od = s.od := rfl
@[simp] theorem State.event_timers (s : State) (e p : Nat) : (s.event e p).timers = s.timers := rfl
@[simp] theorem State.event_pos (s : State) (e p : Nat) : (s.event e p).pos = s.pos := rfl
@[simp] theorem State.event_ev_trace (s : State) (e p : Nat) : (s.event e p).ev.trace = s.ev.trace := rfl
@[simp] theorem State.event_ev_sequence (s : State) (e p : Nat) : (s.event e p).ev.sequence = s.ev.sequence := rfl
@[simp] theorem State.event_ev_newest (s : State) (e p : Nat) : (s.event e p).ev.newest = s.ev.newest := rfl
@[simp] theorem State.event_ev_samples (s : State) (e p : Nat) : (s.event e p).ev.samples = s.ev.samples := rfl
@[simp] theorem State.event_ev_lost (s : State) (e p : Nat) : (s.event e p).ev.lost = s.ev.lost := rfl
@[simp] theorem State.event_ev_warned (s : State) (e p : Nat) : (s.event e p).ev.warned = s.ev.warned := rfl
@[simp] theorem State.event_ev_step (s : State) (e p : Nat) : (s.event e p).ev.step = s.ev.step := rfl
@[simp] theorem State.event_ev_entered (s : State) (e p : Nat) : (s.event e p).ev.entered = s.ev.entered := rfl
@[simp] theorem State.event_ev_syncLast (s : State) (e p : Nat) : (s.event e p).ev.syncLast = s.ev.syncLast := rfl
@[simp] theorem State.event_ev_syncGood (s : State) (e p : Nat) : (s.event e p).ev.syncGood = s.ev.syncGood := rfl
@[simp] theorem State.event_rings (s : State) (e p : Nat) : (s.event e p).rings = s.rings := rfl
@[simp] theorem State.event_pcie (s : State) (e p : Nat) : (s.event e p).pcie = s.pcie := rfl
@[simp] theorem State.event_polygons (s : State) (e p : Nat) : (s.event e p).polygons = s.polygons := rfl
@[simp] theorem State.event_stations (s : State) (e p : Nat) : (s.event e p).stations = s.stations := rfl
@[simp] theorem State.event_pages (s : State) (e p : Nat) : (s.event e p).pages = s.pages := rfl
@[simp] theorem State.event_press (s : State) (e p : Nat) : (s.event e p).press = s.press := rfl
@[simp] theorem State.event_fabric (s : State) (e p : Nat) : (s.event e p).fabric = s.fabric := rfl
@[simp] theorem State.event_drives (s : State) (e p : Nat) : (s.event e p).drives = s.drives := rfl
@[simp] theorem State.event_steppers (s : State) (e p : Nat) : (s.event e p).steppers = s.steppers := rfl
@[simp] theorem State.event_loops (s : State) (e p : Nat) : (s.event e p).loops = s.loops := rfl
@[simp] theorem State.event_crock (s : State) (e p : Nat) : (s.event e p).crock = s.crock := rfl
@[simp] theorem State.event_power (s : State) (e p : Nat) : (s.event e p).power = s.power := rfl
@[simp] theorem State.event_lid (s : State) (e p : Nat) : (s.event e p).lid = s.lid := rfl
@[simp] theorem State.event_twin (s : State) (e p : Nat) : (s.event e p).twin = s.twin := rfl
@[simp] theorem State.event_trust (s : State) (e p : Nat) : (s.event e p).trust = s.trust := rfl
@[simp] theorem State.event_svc (s : State) (e p : Nat) : (s.event e p).svc = s.svc := rfl
@[simp] theorem State.event_drawn (s : State) (e p : Nat) : (s.event e p).drawn = s.drawn := rfl
@[simp] theorem State.event_pending (s : State) (e p : Nat) : (s.event e p).pending = s.pending := rfl
@[simp] theorem State.val_event (s : State) (e p : Nat) (j : Nat) : (s.event e p).val j = s.val j := rfl
@[simp] theorem State.i_event (s : State) (e p : Nat) (j : Nat) : (s.event e p).i j = s.i j := rfl
@[simp] theorem State.n_event (s : State) (e p : Nat) (j : Nat) : (s.event e p).n j = s.n j := rfl
@[simp] theorem State.flag_event (s : State) (e p : Nat) (j : Nat) : (s.event e p).flag j = s.flag j := rfl
@[simp] theorem State.bytes_event (s : State) (e p : Nat) (j : Nat) : (s.event e p).bytes j = s.bytes j := rfl
@[simp] theorem State.armed_event (s : State) (e p : Nat) (j : Nat) : (s.event e p).armed j = s.armed j := rfl
@[simp] theorem State.due_event (s : State) (e p : Nat) (j : Nat) : (s.event e p).due j = s.due j := rfl
@[simp] theorem State.left_event (s : State) (e p : Nat) (j : Nat) : (s.event e p).left j = s.left j := rfl
@[simp] theorem State.enc_event (s : State) (e p : Nat) (j : Nat) : (s.event e p).enc j = s.enc j := rfl
@[simp] theorem State.slot_event (s : State) (e p : Nat) (j : Nat) : (s.event e p).slot j = s.slot j := rfl
@[simp] theorem State.ring_event (s : State) (e p : Nat) (j : Nat) : (s.event e p).ring j = s.ring j := rfl
@[simp] theorem State.domain_event (s : State) (e p : Nat) (j : Nat) : (s.event e p).domain j = s.domain j := rfl
@[simp] theorem State.thermo_event (s : State) (e p : Nat) (j : Nat) : (s.event e p).thermo j = s.thermo j := rfl
@[simp] theorem State.unit_event (s : State) (e p : Nat) (j : Nat) : (s.event e p).unit j = s.unit j := rfl
@[simp] theorem State.polygon_event (s : State) (e p : Nat) (j : Nat) : (s.event e p).polygon j = s.polygon j := rfl
@[simp] theorem State.station_event (s : State) (e p : Nat) (j : Nat) : (s.event e p).station j = s.station j := rfl
@[simp] theorem State.page_event (s : State) (e p : Nat) (j : Nat) : (s.event e p).page j = s.page j := rfl
@[simp] theorem State.lane_event (s : State) (e p : Nat) (j : Nat) : (s.event e p).lane j = s.lane j := rfl
@[simp] theorem State.queue_event (s : State) (e p : Nat) (j : Nat) : (s.event e p).queue j = s.queue j := rfl
@[simp] theorem State.buffer_event (s : State) (e p : Nat) (j : Nat) : (s.event e p).buffer j = s.buffer j := rfl
@[simp] theorem State.jobsOf_event (s : State) (e p : Nat) (j : Nat) : (s.event e p).jobsOf j = s.jobsOf j := rfl
@[simp] theorem State.turns_event (s : State) (e p : Nat) (j : Nat) : (s.event e p).turns j = s.turns j := rfl
@[simp] theorem State.stream_event (s : State) (e p : Nat) (j : Nat) : (s.event e p).stream j = s.stream j := rfl
@[simp] theorem State.lock_event (s : State) (e p : Nat) (j : Nat) : (s.event e p).lock j = s.lock j := rfl
@[simp] theorem State.ladleJob_event (s : State) (e p : Nat) (j : Nat) : (s.event e p).ladleJob j = s.ladleJob j := rfl
@[simp] theorem State.drive_event (s : State) (e p : Nat) (j : Nat) : (s.event e p).drive j = s.drive j := rfl
@[simp] theorem State.stepper_event (s : State) (e p : Nat) (j : Nat) : (s.event e p).stepper j = s.stepper j := rfl
@[simp] theorem State.loop_event (s : State) (e p : Nat) (j : Nat) : (s.event e p).loop j = s.loop j := rfl
@[simp] theorem State.hv_event (s : State) (e p : Nat) (j : Nat) : (s.event e p).hv j = s.hv j := rfl
@[simp] theorem State.zone_event (s : State) (e p : Nat) (j : Nat) : (s.event e p).zone j = s.zone j := rfl
@[simp] theorem State.on_event (s : State) (e p : Nat) (j : Nat) : (s.event e p).on j = s.on j := rfl

/-! ## eventHw -/

@[simp] theorem State.eventHw_s6 (s : State) (e p : Nat) : (s.eventHw e p).s6 = s.s6 := rfl
@[simp] theorem State.eventHw_stamp (s : State) (e p : Nat) : (s.eventHw e p).stamp = s.stamp := rfl
@[simp] theorem State.eventHw_od (s : State) (e p : Nat) : (s.eventHw e p).od = s.od := rfl
@[simp] theorem State.eventHw_timers (s : State) (e p : Nat) : (s.eventHw e p).timers = s.timers := rfl
@[simp] theorem State.eventHw_pos (s : State) (e p : Nat) : (s.eventHw e p).pos = s.pos := rfl
@[simp] theorem State.eventHw_ev_trace (s : State) (e p : Nat) : (s.eventHw e p).ev.trace = s.ev.trace := rfl
@[simp] theorem State.eventHw_ev_sequence (s : State) (e p : Nat) : (s.eventHw e p).ev.sequence = s.ev.sequence := rfl
@[simp] theorem State.eventHw_ev_newest (s : State) (e p : Nat) : (s.eventHw e p).ev.newest = s.ev.newest := rfl
@[simp] theorem State.eventHw_ev_samples (s : State) (e p : Nat) : (s.eventHw e p).ev.samples = s.ev.samples := rfl
@[simp] theorem State.eventHw_ev_lost (s : State) (e p : Nat) : (s.eventHw e p).ev.lost = s.ev.lost := rfl
@[simp] theorem State.eventHw_ev_warned (s : State) (e p : Nat) : (s.eventHw e p).ev.warned = s.ev.warned := rfl
@[simp] theorem State.eventHw_ev_step (s : State) (e p : Nat) : (s.eventHw e p).ev.step = s.ev.step := rfl
@[simp] theorem State.eventHw_ev_entered (s : State) (e p : Nat) : (s.eventHw e p).ev.entered = s.ev.entered := rfl
@[simp] theorem State.eventHw_ev_syncLast (s : State) (e p : Nat) : (s.eventHw e p).ev.syncLast = s.ev.syncLast := rfl
@[simp] theorem State.eventHw_ev_syncGood (s : State) (e p : Nat) : (s.eventHw e p).ev.syncGood = s.ev.syncGood := rfl
@[simp] theorem State.eventHw_rings (s : State) (e p : Nat) : (s.eventHw e p).rings = s.rings := rfl
@[simp] theorem State.eventHw_pcie (s : State) (e p : Nat) : (s.eventHw e p).pcie = s.pcie := rfl
@[simp] theorem State.eventHw_polygons (s : State) (e p : Nat) : (s.eventHw e p).polygons = s.polygons := rfl
@[simp] theorem State.eventHw_stations (s : State) (e p : Nat) : (s.eventHw e p).stations = s.stations := rfl
@[simp] theorem State.eventHw_pages (s : State) (e p : Nat) : (s.eventHw e p).pages = s.pages := rfl
@[simp] theorem State.eventHw_press (s : State) (e p : Nat) : (s.eventHw e p).press = s.press := rfl
@[simp] theorem State.eventHw_fabric (s : State) (e p : Nat) : (s.eventHw e p).fabric = s.fabric := rfl
@[simp] theorem State.eventHw_drives (s : State) (e p : Nat) : (s.eventHw e p).drives = s.drives := rfl
@[simp] theorem State.eventHw_steppers (s : State) (e p : Nat) : (s.eventHw e p).steppers = s.steppers := rfl
@[simp] theorem State.eventHw_loops (s : State) (e p : Nat) : (s.eventHw e p).loops = s.loops := rfl
@[simp] theorem State.eventHw_crock (s : State) (e p : Nat) : (s.eventHw e p).crock = s.crock := rfl
@[simp] theorem State.eventHw_power (s : State) (e p : Nat) : (s.eventHw e p).power = s.power := rfl
@[simp] theorem State.eventHw_lid (s : State) (e p : Nat) : (s.eventHw e p).lid = s.lid := rfl
@[simp] theorem State.eventHw_twin (s : State) (e p : Nat) : (s.eventHw e p).twin = s.twin := rfl
@[simp] theorem State.eventHw_trust (s : State) (e p : Nat) : (s.eventHw e p).trust = s.trust := rfl
@[simp] theorem State.eventHw_svc (s : State) (e p : Nat) : (s.eventHw e p).svc = s.svc := rfl
@[simp] theorem State.eventHw_drawn (s : State) (e p : Nat) : (s.eventHw e p).drawn = s.drawn := rfl
@[simp] theorem State.eventHw_pending (s : State) (e p : Nat) : (s.eventHw e p).pending = s.pending := rfl
@[simp] theorem State.val_eventHw (s : State) (e p : Nat) (j : Nat) : (s.eventHw e p).val j = s.val j := rfl
@[simp] theorem State.i_eventHw (s : State) (e p : Nat) (j : Nat) : (s.eventHw e p).i j = s.i j := rfl
@[simp] theorem State.n_eventHw (s : State) (e p : Nat) (j : Nat) : (s.eventHw e p).n j = s.n j := rfl
@[simp] theorem State.flag_eventHw (s : State) (e p : Nat) (j : Nat) : (s.eventHw e p).flag j = s.flag j := rfl
@[simp] theorem State.bytes_eventHw (s : State) (e p : Nat) (j : Nat) : (s.eventHw e p).bytes j = s.bytes j := rfl
@[simp] theorem State.armed_eventHw (s : State) (e p : Nat) (j : Nat) : (s.eventHw e p).armed j = s.armed j := rfl
@[simp] theorem State.due_eventHw (s : State) (e p : Nat) (j : Nat) : (s.eventHw e p).due j = s.due j := rfl
@[simp] theorem State.left_eventHw (s : State) (e p : Nat) (j : Nat) : (s.eventHw e p).left j = s.left j := rfl
@[simp] theorem State.enc_eventHw (s : State) (e p : Nat) (j : Nat) : (s.eventHw e p).enc j = s.enc j := rfl
@[simp] theorem State.slot_eventHw (s : State) (e p : Nat) (j : Nat) : (s.eventHw e p).slot j = s.slot j := rfl
@[simp] theorem State.ring_eventHw (s : State) (e p : Nat) (j : Nat) : (s.eventHw e p).ring j = s.ring j := rfl
@[simp] theorem State.domain_eventHw (s : State) (e p : Nat) (j : Nat) : (s.eventHw e p).domain j = s.domain j := rfl
@[simp] theorem State.thermo_eventHw (s : State) (e p : Nat) (j : Nat) : (s.eventHw e p).thermo j = s.thermo j := rfl
@[simp] theorem State.unit_eventHw (s : State) (e p : Nat) (j : Nat) : (s.eventHw e p).unit j = s.unit j := rfl
@[simp] theorem State.polygon_eventHw (s : State) (e p : Nat) (j : Nat) : (s.eventHw e p).polygon j = s.polygon j := rfl
@[simp] theorem State.station_eventHw (s : State) (e p : Nat) (j : Nat) : (s.eventHw e p).station j = s.station j := rfl
@[simp] theorem State.page_eventHw (s : State) (e p : Nat) (j : Nat) : (s.eventHw e p).page j = s.page j := rfl
@[simp] theorem State.lane_eventHw (s : State) (e p : Nat) (j : Nat) : (s.eventHw e p).lane j = s.lane j := rfl
@[simp] theorem State.queue_eventHw (s : State) (e p : Nat) (j : Nat) : (s.eventHw e p).queue j = s.queue j := rfl
@[simp] theorem State.buffer_eventHw (s : State) (e p : Nat) (j : Nat) : (s.eventHw e p).buffer j = s.buffer j := rfl
@[simp] theorem State.jobsOf_eventHw (s : State) (e p : Nat) (j : Nat) : (s.eventHw e p).jobsOf j = s.jobsOf j := rfl
@[simp] theorem State.turns_eventHw (s : State) (e p : Nat) (j : Nat) : (s.eventHw e p).turns j = s.turns j := rfl
@[simp] theorem State.stream_eventHw (s : State) (e p : Nat) (j : Nat) : (s.eventHw e p).stream j = s.stream j := rfl
@[simp] theorem State.lock_eventHw (s : State) (e p : Nat) (j : Nat) : (s.eventHw e p).lock j = s.lock j := rfl
@[simp] theorem State.ladleJob_eventHw (s : State) (e p : Nat) (j : Nat) : (s.eventHw e p).ladleJob j = s.ladleJob j := rfl
@[simp] theorem State.drive_eventHw (s : State) (e p : Nat) (j : Nat) : (s.eventHw e p).drive j = s.drive j := rfl
@[simp] theorem State.stepper_eventHw (s : State) (e p : Nat) (j : Nat) : (s.eventHw e p).stepper j = s.stepper j := rfl
@[simp] theorem State.loop_eventHw (s : State) (e p : Nat) (j : Nat) : (s.eventHw e p).loop j = s.loop j := rfl
@[simp] theorem State.hv_eventHw (s : State) (e p : Nat) (j : Nat) : (s.eventHw e p).hv j = s.hv j := rfl
@[simp] theorem State.zone_eventHw (s : State) (e p : Nat) (j : Nat) : (s.eventHw e p).zone j = s.zone j := rfl
@[simp] theorem State.on_eventHw (s : State) (e p : Nat) (j : Nat) : (s.eventHw e p).on j = s.on j := rfl

/-! ## eventFw -/

@[simp] theorem State.eventFw_s6 (s : State) (e p : Nat) : (s.eventFw e p).s6 = s.s6 := rfl
@[simp] theorem State.eventFw_stamp (s : State) (e p : Nat) : (s.eventFw e p).stamp = s.stamp := rfl
@[simp] theorem State.eventFw_od (s : State) (e p : Nat) : (s.eventFw e p).od = s.od := rfl
@[simp] theorem State.eventFw_timers (s : State) (e p : Nat) : (s.eventFw e p).timers = s.timers := rfl
@[simp] theorem State.eventFw_pos (s : State) (e p : Nat) : (s.eventFw e p).pos = s.pos := rfl
@[simp] theorem State.eventFw_ev_trace (s : State) (e p : Nat) : (s.eventFw e p).ev.trace = s.ev.trace := rfl
@[simp] theorem State.eventFw_ev_sequence (s : State) (e p : Nat) : (s.eventFw e p).ev.sequence = s.ev.sequence := rfl
@[simp] theorem State.eventFw_ev_newest (s : State) (e p : Nat) : (s.eventFw e p).ev.newest = s.ev.newest := rfl
@[simp] theorem State.eventFw_ev_samples (s : State) (e p : Nat) : (s.eventFw e p).ev.samples = s.ev.samples := rfl
@[simp] theorem State.eventFw_ev_lost (s : State) (e p : Nat) : (s.eventFw e p).ev.lost = s.ev.lost := rfl
@[simp] theorem State.eventFw_ev_warned (s : State) (e p : Nat) : (s.eventFw e p).ev.warned = s.ev.warned := rfl
@[simp] theorem State.eventFw_ev_step (s : State) (e p : Nat) : (s.eventFw e p).ev.step = s.ev.step := rfl
@[simp] theorem State.eventFw_ev_entered (s : State) (e p : Nat) : (s.eventFw e p).ev.entered = s.ev.entered := rfl
@[simp] theorem State.eventFw_ev_syncLast (s : State) (e p : Nat) : (s.eventFw e p).ev.syncLast = s.ev.syncLast := rfl
@[simp] theorem State.eventFw_ev_syncGood (s : State) (e p : Nat) : (s.eventFw e p).ev.syncGood = s.ev.syncGood := rfl
@[simp] theorem State.eventFw_rings (s : State) (e p : Nat) : (s.eventFw e p).rings = s.rings := rfl
@[simp] theorem State.eventFw_pcie (s : State) (e p : Nat) : (s.eventFw e p).pcie = s.pcie := rfl
@[simp] theorem State.eventFw_polygons (s : State) (e p : Nat) : (s.eventFw e p).polygons = s.polygons := rfl
@[simp] theorem State.eventFw_stations (s : State) (e p : Nat) : (s.eventFw e p).stations = s.stations := rfl
@[simp] theorem State.eventFw_pages (s : State) (e p : Nat) : (s.eventFw e p).pages = s.pages := rfl
@[simp] theorem State.eventFw_press (s : State) (e p : Nat) : (s.eventFw e p).press = s.press := rfl
@[simp] theorem State.eventFw_fabric (s : State) (e p : Nat) : (s.eventFw e p).fabric = s.fabric := rfl
@[simp] theorem State.eventFw_drives (s : State) (e p : Nat) : (s.eventFw e p).drives = s.drives := rfl
@[simp] theorem State.eventFw_steppers (s : State) (e p : Nat) : (s.eventFw e p).steppers = s.steppers := rfl
@[simp] theorem State.eventFw_loops (s : State) (e p : Nat) : (s.eventFw e p).loops = s.loops := rfl
@[simp] theorem State.eventFw_crock (s : State) (e p : Nat) : (s.eventFw e p).crock = s.crock := rfl
@[simp] theorem State.eventFw_power (s : State) (e p : Nat) : (s.eventFw e p).power = s.power := rfl
@[simp] theorem State.eventFw_lid (s : State) (e p : Nat) : (s.eventFw e p).lid = s.lid := rfl
@[simp] theorem State.eventFw_twin (s : State) (e p : Nat) : (s.eventFw e p).twin = s.twin := rfl
@[simp] theorem State.eventFw_trust (s : State) (e p : Nat) : (s.eventFw e p).trust = s.trust := rfl
@[simp] theorem State.eventFw_svc (s : State) (e p : Nat) : (s.eventFw e p).svc = s.svc := rfl
@[simp] theorem State.eventFw_drawn (s : State) (e p : Nat) : (s.eventFw e p).drawn = s.drawn := rfl
@[simp] theorem State.eventFw_pending (s : State) (e p : Nat) : (s.eventFw e p).pending = s.pending := rfl
@[simp] theorem State.val_eventFw (s : State) (e p : Nat) (j : Nat) : (s.eventFw e p).val j = s.val j := rfl
@[simp] theorem State.i_eventFw (s : State) (e p : Nat) (j : Nat) : (s.eventFw e p).i j = s.i j := rfl
@[simp] theorem State.n_eventFw (s : State) (e p : Nat) (j : Nat) : (s.eventFw e p).n j = s.n j := rfl
@[simp] theorem State.flag_eventFw (s : State) (e p : Nat) (j : Nat) : (s.eventFw e p).flag j = s.flag j := rfl
@[simp] theorem State.bytes_eventFw (s : State) (e p : Nat) (j : Nat) : (s.eventFw e p).bytes j = s.bytes j := rfl
@[simp] theorem State.armed_eventFw (s : State) (e p : Nat) (j : Nat) : (s.eventFw e p).armed j = s.armed j := rfl
@[simp] theorem State.due_eventFw (s : State) (e p : Nat) (j : Nat) : (s.eventFw e p).due j = s.due j := rfl
@[simp] theorem State.left_eventFw (s : State) (e p : Nat) (j : Nat) : (s.eventFw e p).left j = s.left j := rfl
@[simp] theorem State.enc_eventFw (s : State) (e p : Nat) (j : Nat) : (s.eventFw e p).enc j = s.enc j := rfl
@[simp] theorem State.slot_eventFw (s : State) (e p : Nat) (j : Nat) : (s.eventFw e p).slot j = s.slot j := rfl
@[simp] theorem State.ring_eventFw (s : State) (e p : Nat) (j : Nat) : (s.eventFw e p).ring j = s.ring j := rfl
@[simp] theorem State.domain_eventFw (s : State) (e p : Nat) (j : Nat) : (s.eventFw e p).domain j = s.domain j := rfl
@[simp] theorem State.thermo_eventFw (s : State) (e p : Nat) (j : Nat) : (s.eventFw e p).thermo j = s.thermo j := rfl
@[simp] theorem State.unit_eventFw (s : State) (e p : Nat) (j : Nat) : (s.eventFw e p).unit j = s.unit j := rfl
@[simp] theorem State.polygon_eventFw (s : State) (e p : Nat) (j : Nat) : (s.eventFw e p).polygon j = s.polygon j := rfl
@[simp] theorem State.station_eventFw (s : State) (e p : Nat) (j : Nat) : (s.eventFw e p).station j = s.station j := rfl
@[simp] theorem State.page_eventFw (s : State) (e p : Nat) (j : Nat) : (s.eventFw e p).page j = s.page j := rfl
@[simp] theorem State.lane_eventFw (s : State) (e p : Nat) (j : Nat) : (s.eventFw e p).lane j = s.lane j := rfl
@[simp] theorem State.queue_eventFw (s : State) (e p : Nat) (j : Nat) : (s.eventFw e p).queue j = s.queue j := rfl
@[simp] theorem State.buffer_eventFw (s : State) (e p : Nat) (j : Nat) : (s.eventFw e p).buffer j = s.buffer j := rfl
@[simp] theorem State.jobsOf_eventFw (s : State) (e p : Nat) (j : Nat) : (s.eventFw e p).jobsOf j = s.jobsOf j := rfl
@[simp] theorem State.turns_eventFw (s : State) (e p : Nat) (j : Nat) : (s.eventFw e p).turns j = s.turns j := rfl
@[simp] theorem State.stream_eventFw (s : State) (e p : Nat) (j : Nat) : (s.eventFw e p).stream j = s.stream j := rfl
@[simp] theorem State.lock_eventFw (s : State) (e p : Nat) (j : Nat) : (s.eventFw e p).lock j = s.lock j := rfl
@[simp] theorem State.ladleJob_eventFw (s : State) (e p : Nat) (j : Nat) : (s.eventFw e p).ladleJob j = s.ladleJob j := rfl
@[simp] theorem State.drive_eventFw (s : State) (e p : Nat) (j : Nat) : (s.eventFw e p).drive j = s.drive j := rfl
@[simp] theorem State.stepper_eventFw (s : State) (e p : Nat) (j : Nat) : (s.eventFw e p).stepper j = s.stepper j := rfl
@[simp] theorem State.loop_eventFw (s : State) (e p : Nat) (j : Nat) : (s.eventFw e p).loop j = s.loop j := rfl
@[simp] theorem State.hv_eventFw (s : State) (e p : Nat) (j : Nat) : (s.eventFw e p).hv j = s.hv j := rfl
@[simp] theorem State.zone_eventFw (s : State) (e p : Nat) (j : Nat) : (s.eventFw e p).zone j = s.zone j := rfl
@[simp] theorem State.on_eventFw (s : State) (e p : Nat) (j : Nat) : (s.eventFw e p).on j = s.on j := rfl

/-! ## setEnc -/

@[simp] theorem State.setEnc_s6 (s : State) (n : Nat) (x : Encoder) : (s.setEnc n x).s6 = s.s6 := rfl
@[simp] theorem State.setEnc_stamp (s : State) (n : Nat) (x : Encoder) : (s.setEnc n x).stamp = s.stamp := rfl
@[simp] theorem State.setEnc_od (s : State) (n : Nat) (x : Encoder) : (s.setEnc n x).od = s.od := rfl
@[simp] theorem State.setEnc_timers (s : State) (n : Nat) (x : Encoder) : (s.setEnc n x).timers = s.timers := rfl
@[simp] theorem State.setEnc_pos_axes (s : State) (n : Nat) (x : Encoder) : (s.setEnc n x).pos.axes = s.pos.axes := rfl
@[simp] theorem State.setEnc_pos_past (s : State) (n : Nat) (x : Encoder) : (s.setEnc n x).pos.past = s.pos.past := rfl
@[simp] theorem State.setEnc_pos_mains (s : State) (n : Nat) (x : Encoder) : (s.setEnc n x).pos.mains = s.pos.mains := rfl
@[simp] theorem State.setEnc_pos_a1Held (s : State) (n : Nat) (x : Encoder) : (s.setEnc n x).pos.a1Held = s.pos.a1Held := rfl
@[simp] theorem State.setEnc_pos_slots (s : State) (n : Nat) (x : Encoder) : (s.setEnc n x).pos.slots = s.pos.slots := rfl
@[simp] theorem State.setEnc_pos_slotOut (s : State) (n : Nat) (x : Encoder) : (s.setEnc n x).pos.slotOut = s.pos.slotOut := rfl
@[simp] theorem State.setEnc_pos_inputs (s : State) (n : Nat) (x : Encoder) : (s.setEnc n x).pos.inputs = s.pos.inputs := rfl
@[simp] theorem State.setEnc_ev (s : State) (n : Nat) (x : Encoder) : (s.setEnc n x).ev = s.ev := rfl
@[simp] theorem State.setEnc_rings (s : State) (n : Nat) (x : Encoder) : (s.setEnc n x).rings = s.rings := rfl
@[simp] theorem State.setEnc_pcie (s : State) (n : Nat) (x : Encoder) : (s.setEnc n x).pcie = s.pcie := rfl
@[simp] theorem State.setEnc_polygons (s : State) (n : Nat) (x : Encoder) : (s.setEnc n x).polygons = s.polygons := rfl
@[simp] theorem State.setEnc_stations (s : State) (n : Nat) (x : Encoder) : (s.setEnc n x).stations = s.stations := rfl
@[simp] theorem State.setEnc_pages (s : State) (n : Nat) (x : Encoder) : (s.setEnc n x).pages = s.pages := rfl
@[simp] theorem State.setEnc_press (s : State) (n : Nat) (x : Encoder) : (s.setEnc n x).press = s.press := rfl
@[simp] theorem State.setEnc_fabric (s : State) (n : Nat) (x : Encoder) : (s.setEnc n x).fabric = s.fabric := rfl
@[simp] theorem State.setEnc_drives (s : State) (n : Nat) (x : Encoder) : (s.setEnc n x).drives = s.drives := rfl
@[simp] theorem State.setEnc_steppers (s : State) (n : Nat) (x : Encoder) : (s.setEnc n x).steppers = s.steppers := rfl
@[simp] theorem State.setEnc_loops (s : State) (n : Nat) (x : Encoder) : (s.setEnc n x).loops = s.loops := rfl
@[simp] theorem State.setEnc_crock (s : State) (n : Nat) (x : Encoder) : (s.setEnc n x).crock = s.crock := rfl
@[simp] theorem State.setEnc_power (s : State) (n : Nat) (x : Encoder) : (s.setEnc n x).power = s.power := rfl
@[simp] theorem State.setEnc_lid (s : State) (n : Nat) (x : Encoder) : (s.setEnc n x).lid = s.lid := rfl
@[simp] theorem State.setEnc_twin (s : State) (n : Nat) (x : Encoder) : (s.setEnc n x).twin = s.twin := rfl
@[simp] theorem State.setEnc_trust (s : State) (n : Nat) (x : Encoder) : (s.setEnc n x).trust = s.trust := rfl
@[simp] theorem State.setEnc_svc (s : State) (n : Nat) (x : Encoder) : (s.setEnc n x).svc = s.svc := rfl
@[simp] theorem State.setEnc_drawn (s : State) (n : Nat) (x : Encoder) : (s.setEnc n x).drawn = s.drawn := rfl
@[simp] theorem State.setEnc_pending (s : State) (n : Nat) (x : Encoder) : (s.setEnc n x).pending = s.pending := rfl
@[simp] theorem State.val_setEnc (s : State) (n : Nat) (x : Encoder) (j : Nat) : (s.setEnc n x).val j = s.val j := rfl
@[simp] theorem State.i_setEnc (s : State) (n : Nat) (x : Encoder) (j : Nat) : (s.setEnc n x).i j = s.i j := rfl
@[simp] theorem State.n_setEnc (s : State) (n : Nat) (x : Encoder) (j : Nat) : (s.setEnc n x).n j = s.n j := rfl
@[simp] theorem State.flag_setEnc (s : State) (n : Nat) (x : Encoder) (j : Nat) : (s.setEnc n x).flag j = s.flag j := rfl
@[simp] theorem State.bytes_setEnc (s : State) (n : Nat) (x : Encoder) (j : Nat) : (s.setEnc n x).bytes j = s.bytes j := rfl
@[simp] theorem State.armed_setEnc (s : State) (n : Nat) (x : Encoder) (j : Nat) : (s.setEnc n x).armed j = s.armed j := rfl
@[simp] theorem State.due_setEnc (s : State) (n : Nat) (x : Encoder) (j : Nat) : (s.setEnc n x).due j = s.due j := rfl
@[simp] theorem State.left_setEnc (s : State) (n : Nat) (x : Encoder) (j : Nat) : (s.setEnc n x).left j = s.left j := rfl
@[simp] theorem State.slot_setEnc (s : State) (n : Nat) (x : Encoder) (j : Nat) : (s.setEnc n x).slot j = s.slot j := rfl
@[simp] theorem State.ring_setEnc (s : State) (n : Nat) (x : Encoder) (j : Nat) : (s.setEnc n x).ring j = s.ring j := rfl
@[simp] theorem State.domain_setEnc (s : State) (n : Nat) (x : Encoder) (j : Nat) : (s.setEnc n x).domain j = s.domain j := rfl
@[simp] theorem State.thermo_setEnc (s : State) (n : Nat) (x : Encoder) (j : Nat) : (s.setEnc n x).thermo j = s.thermo j := rfl
@[simp] theorem State.unit_setEnc (s : State) (n : Nat) (x : Encoder) (j : Nat) : (s.setEnc n x).unit j = s.unit j := rfl
@[simp] theorem State.polygon_setEnc (s : State) (n : Nat) (x : Encoder) (j : Nat) : (s.setEnc n x).polygon j = s.polygon j := rfl
@[simp] theorem State.station_setEnc (s : State) (n : Nat) (x : Encoder) (j : Nat) : (s.setEnc n x).station j = s.station j := rfl
@[simp] theorem State.page_setEnc (s : State) (n : Nat) (x : Encoder) (j : Nat) : (s.setEnc n x).page j = s.page j := rfl
@[simp] theorem State.lane_setEnc (s : State) (n : Nat) (x : Encoder) (j : Nat) : (s.setEnc n x).lane j = s.lane j := rfl
@[simp] theorem State.queue_setEnc (s : State) (n : Nat) (x : Encoder) (j : Nat) : (s.setEnc n x).queue j = s.queue j := rfl
@[simp] theorem State.buffer_setEnc (s : State) (n : Nat) (x : Encoder) (j : Nat) : (s.setEnc n x).buffer j = s.buffer j := rfl
@[simp] theorem State.jobsOf_setEnc (s : State) (n : Nat) (x : Encoder) (j : Nat) : (s.setEnc n x).jobsOf j = s.jobsOf j := rfl
@[simp] theorem State.turns_setEnc (s : State) (n : Nat) (x : Encoder) (j : Nat) : (s.setEnc n x).turns j = s.turns j := rfl
@[simp] theorem State.stream_setEnc (s : State) (n : Nat) (x : Encoder) (j : Nat) : (s.setEnc n x).stream j = s.stream j := rfl
@[simp] theorem State.lock_setEnc (s : State) (n : Nat) (x : Encoder) (j : Nat) : (s.setEnc n x).lock j = s.lock j := rfl
@[simp] theorem State.ladleJob_setEnc (s : State) (n : Nat) (x : Encoder) (j : Nat) : (s.setEnc n x).ladleJob j = s.ladleJob j := rfl
@[simp] theorem State.drive_setEnc (s : State) (n : Nat) (x : Encoder) (j : Nat) : (s.setEnc n x).drive j = s.drive j := rfl
@[simp] theorem State.stepper_setEnc (s : State) (n : Nat) (x : Encoder) (j : Nat) : (s.setEnc n x).stepper j = s.stepper j := rfl
@[simp] theorem State.loop_setEnc (s : State) (n : Nat) (x : Encoder) (j : Nat) : (s.setEnc n x).loop j = s.loop j := rfl
@[simp] theorem State.hv_setEnc (s : State) (n : Nat) (x : Encoder) (j : Nat) : (s.setEnc n x).hv j = s.hv j := rfl
@[simp] theorem State.zone_setEnc (s : State) (n : Nat) (x : Encoder) (j : Nat) : (s.setEnc n x).zone j = s.zone j := rfl
@[simp] theorem State.on_setEnc (s : State) (n : Nat) (x : Encoder) (j : Nat) : (s.setEnc n x).on j = s.on j := rfl

/-! ## setSlot -/

@[simp] theorem State.setSlot_s6 (s : State) (n : Nat) (x : Slot) : (s.setSlot n x).s6 = s.s6 := rfl
@[simp] theorem State.setSlot_stamp (s : State) (n : Nat) (x : Slot) : (s.setSlot n x).stamp = s.stamp := rfl
@[simp] theorem State.setSlot_od (s : State) (n : Nat) (x : Slot) : (s.setSlot n x).od = s.od := rfl
@[simp] theorem State.setSlot_timers (s : State) (n : Nat) (x : Slot) : (s.setSlot n x).timers = s.timers := rfl
@[simp] theorem State.setSlot_pos_enc (s : State) (n : Nat) (x : Slot) : (s.setSlot n x).pos.enc = s.pos.enc := rfl
@[simp] theorem State.setSlot_pos_axes (s : State) (n : Nat) (x : Slot) : (s.setSlot n x).pos.axes = s.pos.axes := rfl
@[simp] theorem State.setSlot_pos_past (s : State) (n : Nat) (x : Slot) : (s.setSlot n x).pos.past = s.pos.past := rfl
@[simp] theorem State.setSlot_pos_mains (s : State) (n : Nat) (x : Slot) : (s.setSlot n x).pos.mains = s.pos.mains := rfl
@[simp] theorem State.setSlot_pos_a1Held (s : State) (n : Nat) (x : Slot) : (s.setSlot n x).pos.a1Held = s.pos.a1Held := rfl
@[simp] theorem State.setSlot_pos_slotOut (s : State) (n : Nat) (x : Slot) : (s.setSlot n x).pos.slotOut = s.pos.slotOut := rfl
@[simp] theorem State.setSlot_pos_inputs (s : State) (n : Nat) (x : Slot) : (s.setSlot n x).pos.inputs = s.pos.inputs := rfl
@[simp] theorem State.setSlot_ev (s : State) (n : Nat) (x : Slot) : (s.setSlot n x).ev = s.ev := rfl
@[simp] theorem State.setSlot_rings (s : State) (n : Nat) (x : Slot) : (s.setSlot n x).rings = s.rings := rfl
@[simp] theorem State.setSlot_pcie (s : State) (n : Nat) (x : Slot) : (s.setSlot n x).pcie = s.pcie := rfl
@[simp] theorem State.setSlot_polygons (s : State) (n : Nat) (x : Slot) : (s.setSlot n x).polygons = s.polygons := rfl
@[simp] theorem State.setSlot_stations (s : State) (n : Nat) (x : Slot) : (s.setSlot n x).stations = s.stations := rfl
@[simp] theorem State.setSlot_pages (s : State) (n : Nat) (x : Slot) : (s.setSlot n x).pages = s.pages := rfl
@[simp] theorem State.setSlot_press (s : State) (n : Nat) (x : Slot) : (s.setSlot n x).press = s.press := rfl
@[simp] theorem State.setSlot_fabric (s : State) (n : Nat) (x : Slot) : (s.setSlot n x).fabric = s.fabric := rfl
@[simp] theorem State.setSlot_drives (s : State) (n : Nat) (x : Slot) : (s.setSlot n x).drives = s.drives := rfl
@[simp] theorem State.setSlot_steppers (s : State) (n : Nat) (x : Slot) : (s.setSlot n x).steppers = s.steppers := rfl
@[simp] theorem State.setSlot_loops (s : State) (n : Nat) (x : Slot) : (s.setSlot n x).loops = s.loops := rfl
@[simp] theorem State.setSlot_crock (s : State) (n : Nat) (x : Slot) : (s.setSlot n x).crock = s.crock := rfl
@[simp] theorem State.setSlot_power (s : State) (n : Nat) (x : Slot) : (s.setSlot n x).power = s.power := rfl
@[simp] theorem State.setSlot_lid (s : State) (n : Nat) (x : Slot) : (s.setSlot n x).lid = s.lid := rfl
@[simp] theorem State.setSlot_twin (s : State) (n : Nat) (x : Slot) : (s.setSlot n x).twin = s.twin := rfl
@[simp] theorem State.setSlot_trust (s : State) (n : Nat) (x : Slot) : (s.setSlot n x).trust = s.trust := rfl
@[simp] theorem State.setSlot_svc (s : State) (n : Nat) (x : Slot) : (s.setSlot n x).svc = s.svc := rfl
@[simp] theorem State.setSlot_drawn (s : State) (n : Nat) (x : Slot) : (s.setSlot n x).drawn = s.drawn := rfl
@[simp] theorem State.setSlot_pending (s : State) (n : Nat) (x : Slot) : (s.setSlot n x).pending = s.pending := rfl
@[simp] theorem State.val_setSlot (s : State) (n : Nat) (x : Slot) (j : Nat) : (s.setSlot n x).val j = s.val j := rfl
@[simp] theorem State.i_setSlot (s : State) (n : Nat) (x : Slot) (j : Nat) : (s.setSlot n x).i j = s.i j := rfl
@[simp] theorem State.n_setSlot (s : State) (n : Nat) (x : Slot) (j : Nat) : (s.setSlot n x).n j = s.n j := rfl
@[simp] theorem State.flag_setSlot (s : State) (n : Nat) (x : Slot) (j : Nat) : (s.setSlot n x).flag j = s.flag j := rfl
@[simp] theorem State.bytes_setSlot (s : State) (n : Nat) (x : Slot) (j : Nat) : (s.setSlot n x).bytes j = s.bytes j := rfl
@[simp] theorem State.armed_setSlot (s : State) (n : Nat) (x : Slot) (j : Nat) : (s.setSlot n x).armed j = s.armed j := rfl
@[simp] theorem State.due_setSlot (s : State) (n : Nat) (x : Slot) (j : Nat) : (s.setSlot n x).due j = s.due j := rfl
@[simp] theorem State.left_setSlot (s : State) (n : Nat) (x : Slot) (j : Nat) : (s.setSlot n x).left j = s.left j := rfl
@[simp] theorem State.enc_setSlot (s : State) (n : Nat) (x : Slot) (j : Nat) : (s.setSlot n x).enc j = s.enc j := rfl
@[simp] theorem State.ring_setSlot (s : State) (n : Nat) (x : Slot) (j : Nat) : (s.setSlot n x).ring j = s.ring j := rfl
@[simp] theorem State.domain_setSlot (s : State) (n : Nat) (x : Slot) (j : Nat) : (s.setSlot n x).domain j = s.domain j := rfl
@[simp] theorem State.thermo_setSlot (s : State) (n : Nat) (x : Slot) (j : Nat) : (s.setSlot n x).thermo j = s.thermo j := rfl
@[simp] theorem State.unit_setSlot (s : State) (n : Nat) (x : Slot) (j : Nat) : (s.setSlot n x).unit j = s.unit j := rfl
@[simp] theorem State.polygon_setSlot (s : State) (n : Nat) (x : Slot) (j : Nat) : (s.setSlot n x).polygon j = s.polygon j := rfl
@[simp] theorem State.station_setSlot (s : State) (n : Nat) (x : Slot) (j : Nat) : (s.setSlot n x).station j = s.station j := rfl
@[simp] theorem State.page_setSlot (s : State) (n : Nat) (x : Slot) (j : Nat) : (s.setSlot n x).page j = s.page j := rfl
@[simp] theorem State.lane_setSlot (s : State) (n : Nat) (x : Slot) (j : Nat) : (s.setSlot n x).lane j = s.lane j := rfl
@[simp] theorem State.queue_setSlot (s : State) (n : Nat) (x : Slot) (j : Nat) : (s.setSlot n x).queue j = s.queue j := rfl
@[simp] theorem State.buffer_setSlot (s : State) (n : Nat) (x : Slot) (j : Nat) : (s.setSlot n x).buffer j = s.buffer j := rfl
@[simp] theorem State.jobsOf_setSlot (s : State) (n : Nat) (x : Slot) (j : Nat) : (s.setSlot n x).jobsOf j = s.jobsOf j := rfl
@[simp] theorem State.turns_setSlot (s : State) (n : Nat) (x : Slot) (j : Nat) : (s.setSlot n x).turns j = s.turns j := rfl
@[simp] theorem State.stream_setSlot (s : State) (n : Nat) (x : Slot) (j : Nat) : (s.setSlot n x).stream j = s.stream j := rfl
@[simp] theorem State.lock_setSlot (s : State) (n : Nat) (x : Slot) (j : Nat) : (s.setSlot n x).lock j = s.lock j := rfl
@[simp] theorem State.ladleJob_setSlot (s : State) (n : Nat) (x : Slot) (j : Nat) : (s.setSlot n x).ladleJob j = s.ladleJob j := rfl
@[simp] theorem State.drive_setSlot (s : State) (n : Nat) (x : Slot) (j : Nat) : (s.setSlot n x).drive j = s.drive j := rfl
@[simp] theorem State.stepper_setSlot (s : State) (n : Nat) (x : Slot) (j : Nat) : (s.setSlot n x).stepper j = s.stepper j := rfl
@[simp] theorem State.loop_setSlot (s : State) (n : Nat) (x : Slot) (j : Nat) : (s.setSlot n x).loop j = s.loop j := rfl
@[simp] theorem State.hv_setSlot (s : State) (n : Nat) (x : Slot) (j : Nat) : (s.setSlot n x).hv j = s.hv j := rfl
@[simp] theorem State.zone_setSlot (s : State) (n : Nat) (x : Slot) (j : Nat) : (s.setSlot n x).zone j = s.zone j := rfl
@[simp] theorem State.on_setSlot (s : State) (n : Nat) (x : Slot) (j : Nat) : (s.setSlot n x).on j = s.on j := rfl

/-! ## setRing -/

@[simp] theorem State.setRing_s6 (s : State) (n : Nat) (x : Ring) : (s.setRing n x).s6 = s.s6 := rfl
@[simp] theorem State.setRing_stamp (s : State) (n : Nat) (x : Ring) : (s.setRing n x).stamp = s.stamp := rfl
@[simp] theorem State.setRing_od (s : State) (n : Nat) (x : Ring) : (s.setRing n x).od = s.od := rfl
@[simp] theorem State.setRing_timers (s : State) (n : Nat) (x : Ring) : (s.setRing n x).timers = s.timers := rfl
@[simp] theorem State.setRing_pos (s : State) (n : Nat) (x : Ring) : (s.setRing n x).pos = s.pos := rfl
@[simp] theorem State.setRing_ev (s : State) (n : Nat) (x : Ring) : (s.setRing n x).ev = s.ev := rfl
@[simp] theorem State.setRing_pcie (s : State) (n : Nat) (x : Ring) : (s.setRing n x).pcie = s.pcie := rfl
@[simp] theorem State.setRing_polygons (s : State) (n : Nat) (x : Ring) : (s.setRing n x).polygons = s.polygons := rfl
@[simp] theorem State.setRing_stations (s : State) (n : Nat) (x : Ring) : (s.setRing n x).stations = s.stations := rfl
@[simp] theorem State.setRing_pages (s : State) (n : Nat) (x : Ring) : (s.setRing n x).pages = s.pages := rfl
@[simp] theorem State.setRing_press (s : State) (n : Nat) (x : Ring) : (s.setRing n x).press = s.press := rfl
@[simp] theorem State.setRing_fabric (s : State) (n : Nat) (x : Ring) : (s.setRing n x).fabric = s.fabric := rfl
@[simp] theorem State.setRing_drives (s : State) (n : Nat) (x : Ring) : (s.setRing n x).drives = s.drives := rfl
@[simp] theorem State.setRing_steppers (s : State) (n : Nat) (x : Ring) : (s.setRing n x).steppers = s.steppers := rfl
@[simp] theorem State.setRing_loops (s : State) (n : Nat) (x : Ring) : (s.setRing n x).loops = s.loops := rfl
@[simp] theorem State.setRing_crock (s : State) (n : Nat) (x : Ring) : (s.setRing n x).crock = s.crock := rfl
@[simp] theorem State.setRing_power (s : State) (n : Nat) (x : Ring) : (s.setRing n x).power = s.power := rfl
@[simp] theorem State.setRing_lid (s : State) (n : Nat) (x : Ring) : (s.setRing n x).lid = s.lid := rfl
@[simp] theorem State.setRing_twin (s : State) (n : Nat) (x : Ring) : (s.setRing n x).twin = s.twin := rfl
@[simp] theorem State.setRing_trust (s : State) (n : Nat) (x : Ring) : (s.setRing n x).trust = s.trust := rfl
@[simp] theorem State.setRing_svc (s : State) (n : Nat) (x : Ring) : (s.setRing n x).svc = s.svc := rfl
@[simp] theorem State.setRing_drawn (s : State) (n : Nat) (x : Ring) : (s.setRing n x).drawn = s.drawn := rfl
@[simp] theorem State.setRing_pending (s : State) (n : Nat) (x : Ring) : (s.setRing n x).pending = s.pending := rfl
@[simp] theorem State.val_setRing (s : State) (n : Nat) (x : Ring) (j : Nat) : (s.setRing n x).val j = s.val j := rfl
@[simp] theorem State.i_setRing (s : State) (n : Nat) (x : Ring) (j : Nat) : (s.setRing n x).i j = s.i j := rfl
@[simp] theorem State.n_setRing (s : State) (n : Nat) (x : Ring) (j : Nat) : (s.setRing n x).n j = s.n j := rfl
@[simp] theorem State.flag_setRing (s : State) (n : Nat) (x : Ring) (j : Nat) : (s.setRing n x).flag j = s.flag j := rfl
@[simp] theorem State.bytes_setRing (s : State) (n : Nat) (x : Ring) (j : Nat) : (s.setRing n x).bytes j = s.bytes j := rfl
@[simp] theorem State.armed_setRing (s : State) (n : Nat) (x : Ring) (j : Nat) : (s.setRing n x).armed j = s.armed j := rfl
@[simp] theorem State.due_setRing (s : State) (n : Nat) (x : Ring) (j : Nat) : (s.setRing n x).due j = s.due j := rfl
@[simp] theorem State.left_setRing (s : State) (n : Nat) (x : Ring) (j : Nat) : (s.setRing n x).left j = s.left j := rfl
@[simp] theorem State.enc_setRing (s : State) (n : Nat) (x : Ring) (j : Nat) : (s.setRing n x).enc j = s.enc j := rfl
@[simp] theorem State.slot_setRing (s : State) (n : Nat) (x : Ring) (j : Nat) : (s.setRing n x).slot j = s.slot j := rfl
@[simp] theorem State.domain_setRing (s : State) (n : Nat) (x : Ring) (j : Nat) : (s.setRing n x).domain j = s.domain j := rfl
@[simp] theorem State.thermo_setRing (s : State) (n : Nat) (x : Ring) (j : Nat) : (s.setRing n x).thermo j = s.thermo j := rfl
@[simp] theorem State.unit_setRing (s : State) (n : Nat) (x : Ring) (j : Nat) : (s.setRing n x).unit j = s.unit j := rfl
@[simp] theorem State.polygon_setRing (s : State) (n : Nat) (x : Ring) (j : Nat) : (s.setRing n x).polygon j = s.polygon j := rfl
@[simp] theorem State.station_setRing (s : State) (n : Nat) (x : Ring) (j : Nat) : (s.setRing n x).station j = s.station j := rfl
@[simp] theorem State.page_setRing (s : State) (n : Nat) (x : Ring) (j : Nat) : (s.setRing n x).page j = s.page j := rfl
@[simp] theorem State.lane_setRing (s : State) (n : Nat) (x : Ring) (j : Nat) : (s.setRing n x).lane j = s.lane j := rfl
@[simp] theorem State.queue_setRing (s : State) (n : Nat) (x : Ring) (j : Nat) : (s.setRing n x).queue j = s.queue j := rfl
@[simp] theorem State.buffer_setRing (s : State) (n : Nat) (x : Ring) (j : Nat) : (s.setRing n x).buffer j = s.buffer j := rfl
@[simp] theorem State.jobsOf_setRing (s : State) (n : Nat) (x : Ring) (j : Nat) : (s.setRing n x).jobsOf j = s.jobsOf j := rfl
@[simp] theorem State.turns_setRing (s : State) (n : Nat) (x : Ring) (j : Nat) : (s.setRing n x).turns j = s.turns j := rfl
@[simp] theorem State.stream_setRing (s : State) (n : Nat) (x : Ring) (j : Nat) : (s.setRing n x).stream j = s.stream j := rfl
@[simp] theorem State.lock_setRing (s : State) (n : Nat) (x : Ring) (j : Nat) : (s.setRing n x).lock j = s.lock j := rfl
@[simp] theorem State.ladleJob_setRing (s : State) (n : Nat) (x : Ring) (j : Nat) : (s.setRing n x).ladleJob j = s.ladleJob j := rfl
@[simp] theorem State.drive_setRing (s : State) (n : Nat) (x : Ring) (j : Nat) : (s.setRing n x).drive j = s.drive j := rfl
@[simp] theorem State.stepper_setRing (s : State) (n : Nat) (x : Ring) (j : Nat) : (s.setRing n x).stepper j = s.stepper j := rfl
@[simp] theorem State.loop_setRing (s : State) (n : Nat) (x : Ring) (j : Nat) : (s.setRing n x).loop j = s.loop j := rfl
@[simp] theorem State.hv_setRing (s : State) (n : Nat) (x : Ring) (j : Nat) : (s.setRing n x).hv j = s.hv j := rfl
@[simp] theorem State.zone_setRing (s : State) (n : Nat) (x : Ring) (j : Nat) : (s.setRing n x).zone j = s.zone j := rfl
@[simp] theorem State.on_setRing (s : State) (n : Nat) (x : Ring) (j : Nat) : (s.setRing n x).on j = s.on j := rfl

/-! ## setDomain -/

@[simp] theorem State.setDomain_s6 (s : State) (n : Nat) (x : Domain) : (s.setDomain n x).s6 = s.s6 := rfl
@[simp] theorem State.setDomain_stamp (s : State) (n : Nat) (x : Domain) : (s.setDomain n x).stamp = s.stamp := rfl
@[simp] theorem State.setDomain_od (s : State) (n : Nat) (x : Domain) : (s.setDomain n x).od = s.od := rfl
@[simp] theorem State.setDomain_timers (s : State) (n : Nat) (x : Domain) : (s.setDomain n x).timers = s.timers := rfl
@[simp] theorem State.setDomain_pos (s : State) (n : Nat) (x : Domain) : (s.setDomain n x).pos = s.pos := rfl
@[simp] theorem State.setDomain_ev (s : State) (n : Nat) (x : Domain) : (s.setDomain n x).ev = s.ev := rfl
@[simp] theorem State.setDomain_rings (s : State) (n : Nat) (x : Domain) : (s.setDomain n x).rings = s.rings := rfl
@[simp] theorem State.setDomain_pcie (s : State) (n : Nat) (x : Domain) : (s.setDomain n x).pcie = s.pcie := rfl
@[simp] theorem State.setDomain_polygons (s : State) (n : Nat) (x : Domain) : (s.setDomain n x).polygons = s.polygons := rfl
@[simp] theorem State.setDomain_stations (s : State) (n : Nat) (x : Domain) : (s.setDomain n x).stations = s.stations := rfl
@[simp] theorem State.setDomain_pages (s : State) (n : Nat) (x : Domain) : (s.setDomain n x).pages = s.pages := rfl
@[simp] theorem State.setDomain_press (s : State) (n : Nat) (x : Domain) : (s.setDomain n x).press = s.press := rfl
@[simp] theorem State.setDomain_fabric (s : State) (n : Nat) (x : Domain) : (s.setDomain n x).fabric = s.fabric := rfl
@[simp] theorem State.setDomain_drives (s : State) (n : Nat) (x : Domain) : (s.setDomain n x).drives = s.drives := rfl
@[simp] theorem State.setDomain_steppers (s : State) (n : Nat) (x : Domain) : (s.setDomain n x).steppers = s.steppers := rfl
@[simp] theorem State.setDomain_loops (s : State) (n : Nat) (x : Domain) : (s.setDomain n x).loops = s.loops := rfl
@[simp] theorem State.setDomain_crock (s : State) (n : Nat) (x : Domain) : (s.setDomain n x).crock = s.crock := rfl
@[simp] theorem State.setDomain_power_trivet (s : State) (n : Nat) (x : Domain) : (s.setDomain n x).power.trivet = s.power.trivet := rfl
@[simp] theorem State.setDomain_power_supply (s : State) (n : Nat) (x : Domain) : (s.setDomain n x).power.supply = s.power.supply := rfl
@[simp] theorem State.setDomain_power_belowWarning (s : State) (n : Nat) (x : Domain) : (s.setDomain n x).power.belowWarning = s.power.belowWarning := rfl
@[simp] theorem State.setDomain_power_belowReset (s : State) (n : Nat) (x : Domain) : (s.setDomain n x).power.belowReset = s.power.belowReset := rfl
@[simp] theorem State.setDomain_power_aboveRecovery (s : State) (n : Nat) (x : Domain) : (s.setDomain n x).power.aboveRecovery = s.power.aboveRecovery := rfl
@[simp] theorem State.setDomain_power_belowRecovery (s : State) (n : Nat) (x : Domain) : (s.setDomain n x).power.belowRecovery = s.power.belowRecovery := rfl
@[simp] theorem State.setDomain_power_resetAt (s : State) (n : Nat) (x : Domain) : (s.setDomain n x).power.resetAt = s.power.resetAt := rfl
@[simp] theorem State.setDomain_power_lostAfter (s : State) (n : Nat) (x : Domain) : (s.setDomain n x).power.lostAfter = s.power.lostAfter := rfl
@[simp] theorem State.setDomain_power_thermo (s : State) (n : Nat) (x : Domain) : (s.setDomain n x).power.thermo = s.power.thermo := rfl
@[simp] theorem State.setDomain_power_quiesce (s : State) (n : Nat) (x : Domain) : (s.setDomain n x).power.quiesce = s.power.quiesce := rfl
@[simp] theorem State.setDomain_lid (s : State) (n : Nat) (x : Domain) : (s.setDomain n x).lid = s.lid := rfl
@[simp] theorem State.setDomain_twin (s : State) (n : Nat) (x : Domain) : (s.setDomain n x).twin = s.twin := rfl
@[simp] theorem State.setDomain_trust (s : State) (n : Nat) (x : Domain) : (s.setDomain n x).trust = s.trust := rfl
@[simp] theorem State.setDomain_svc (s : State) (n : Nat) (x : Domain) : (s.setDomain n x).svc = s.svc := rfl
@[simp] theorem State.setDomain_drawn (s : State) (n : Nat) (x : Domain) : (s.setDomain n x).drawn = s.drawn := rfl
@[simp] theorem State.setDomain_pending (s : State) (n : Nat) (x : Domain) : (s.setDomain n x).pending = s.pending := rfl
@[simp] theorem State.val_setDomain (s : State) (n : Nat) (x : Domain) (j : Nat) : (s.setDomain n x).val j = s.val j := rfl
@[simp] theorem State.i_setDomain (s : State) (n : Nat) (x : Domain) (j : Nat) : (s.setDomain n x).i j = s.i j := rfl
@[simp] theorem State.n_setDomain (s : State) (n : Nat) (x : Domain) (j : Nat) : (s.setDomain n x).n j = s.n j := rfl
@[simp] theorem State.flag_setDomain (s : State) (n : Nat) (x : Domain) (j : Nat) : (s.setDomain n x).flag j = s.flag j := rfl
@[simp] theorem State.bytes_setDomain (s : State) (n : Nat) (x : Domain) (j : Nat) : (s.setDomain n x).bytes j = s.bytes j := rfl
@[simp] theorem State.armed_setDomain (s : State) (n : Nat) (x : Domain) (j : Nat) : (s.setDomain n x).armed j = s.armed j := rfl
@[simp] theorem State.due_setDomain (s : State) (n : Nat) (x : Domain) (j : Nat) : (s.setDomain n x).due j = s.due j := rfl
@[simp] theorem State.left_setDomain (s : State) (n : Nat) (x : Domain) (j : Nat) : (s.setDomain n x).left j = s.left j := rfl
@[simp] theorem State.enc_setDomain (s : State) (n : Nat) (x : Domain) (j : Nat) : (s.setDomain n x).enc j = s.enc j := rfl
@[simp] theorem State.slot_setDomain (s : State) (n : Nat) (x : Domain) (j : Nat) : (s.setDomain n x).slot j = s.slot j := rfl
@[simp] theorem State.ring_setDomain (s : State) (n : Nat) (x : Domain) (j : Nat) : (s.setDomain n x).ring j = s.ring j := rfl
@[simp] theorem State.thermo_setDomain (s : State) (n : Nat) (x : Domain) (j : Nat) : (s.setDomain n x).thermo j = s.thermo j := rfl
@[simp] theorem State.unit_setDomain (s : State) (n : Nat) (x : Domain) (j : Nat) : (s.setDomain n x).unit j = s.unit j := rfl
@[simp] theorem State.polygon_setDomain (s : State) (n : Nat) (x : Domain) (j : Nat) : (s.setDomain n x).polygon j = s.polygon j := rfl
@[simp] theorem State.station_setDomain (s : State) (n : Nat) (x : Domain) (j : Nat) : (s.setDomain n x).station j = s.station j := rfl
@[simp] theorem State.page_setDomain (s : State) (n : Nat) (x : Domain) (j : Nat) : (s.setDomain n x).page j = s.page j := rfl
@[simp] theorem State.lane_setDomain (s : State) (n : Nat) (x : Domain) (j : Nat) : (s.setDomain n x).lane j = s.lane j := rfl
@[simp] theorem State.queue_setDomain (s : State) (n : Nat) (x : Domain) (j : Nat) : (s.setDomain n x).queue j = s.queue j := rfl
@[simp] theorem State.buffer_setDomain (s : State) (n : Nat) (x : Domain) (j : Nat) : (s.setDomain n x).buffer j = s.buffer j := rfl
@[simp] theorem State.jobsOf_setDomain (s : State) (n : Nat) (x : Domain) (j : Nat) : (s.setDomain n x).jobsOf j = s.jobsOf j := rfl
@[simp] theorem State.turns_setDomain (s : State) (n : Nat) (x : Domain) (j : Nat) : (s.setDomain n x).turns j = s.turns j := rfl
@[simp] theorem State.stream_setDomain (s : State) (n : Nat) (x : Domain) (j : Nat) : (s.setDomain n x).stream j = s.stream j := rfl
@[simp] theorem State.lock_setDomain (s : State) (n : Nat) (x : Domain) (j : Nat) : (s.setDomain n x).lock j = s.lock j := rfl
@[simp] theorem State.ladleJob_setDomain (s : State) (n : Nat) (x : Domain) (j : Nat) : (s.setDomain n x).ladleJob j = s.ladleJob j := rfl
@[simp] theorem State.drive_setDomain (s : State) (n : Nat) (x : Domain) (j : Nat) : (s.setDomain n x).drive j = s.drive j := rfl
@[simp] theorem State.stepper_setDomain (s : State) (n : Nat) (x : Domain) (j : Nat) : (s.setDomain n x).stepper j = s.stepper j := rfl
@[simp] theorem State.loop_setDomain (s : State) (n : Nat) (x : Domain) (j : Nat) : (s.setDomain n x).loop j = s.loop j := rfl
@[simp] theorem State.hv_setDomain (s : State) (n : Nat) (x : Domain) (j : Nat) : (s.setDomain n x).hv j = s.hv j := rfl
@[simp] theorem State.zone_setDomain (s : State) (n : Nat) (x : Domain) (j : Nat) : (s.setDomain n x).zone j = s.zone j := rfl

/-! ## setThermo -/

@[simp] theorem State.setThermo_s6 (s : State) (n : Nat) (x : Thermometer) : (s.setThermo n x).s6 = s.s6 := rfl
@[simp] theorem State.setThermo_stamp (s : State) (n : Nat) (x : Thermometer) : (s.setThermo n x).stamp = s.stamp := rfl
@[simp] theorem State.setThermo_od (s : State) (n : Nat) (x : Thermometer) : (s.setThermo n x).od = s.od := rfl
@[simp] theorem State.setThermo_timers (s : State) (n : Nat) (x : Thermometer) : (s.setThermo n x).timers = s.timers := rfl
@[simp] theorem State.setThermo_pos (s : State) (n : Nat) (x : Thermometer) : (s.setThermo n x).pos = s.pos := rfl
@[simp] theorem State.setThermo_ev (s : State) (n : Nat) (x : Thermometer) : (s.setThermo n x).ev = s.ev := rfl
@[simp] theorem State.setThermo_rings (s : State) (n : Nat) (x : Thermometer) : (s.setThermo n x).rings = s.rings := rfl
@[simp] theorem State.setThermo_pcie (s : State) (n : Nat) (x : Thermometer) : (s.setThermo n x).pcie = s.pcie := rfl
@[simp] theorem State.setThermo_polygons (s : State) (n : Nat) (x : Thermometer) : (s.setThermo n x).polygons = s.polygons := rfl
@[simp] theorem State.setThermo_stations (s : State) (n : Nat) (x : Thermometer) : (s.setThermo n x).stations = s.stations := rfl
@[simp] theorem State.setThermo_pages (s : State) (n : Nat) (x : Thermometer) : (s.setThermo n x).pages = s.pages := rfl
@[simp] theorem State.setThermo_press (s : State) (n : Nat) (x : Thermometer) : (s.setThermo n x).press = s.press := rfl
@[simp] theorem State.setThermo_fabric (s : State) (n : Nat) (x : Thermometer) : (s.setThermo n x).fabric = s.fabric := rfl
@[simp] theorem State.setThermo_drives (s : State) (n : Nat) (x : Thermometer) : (s.setThermo n x).drives = s.drives := rfl
@[simp] theorem State.setThermo_steppers (s : State) (n : Nat) (x : Thermometer) : (s.setThermo n x).steppers = s.steppers := rfl
@[simp] theorem State.setThermo_loops (s : State) (n : Nat) (x : Thermometer) : (s.setThermo n x).loops = s.loops := rfl
@[simp] theorem State.setThermo_crock (s : State) (n : Nat) (x : Thermometer) : (s.setThermo n x).crock = s.crock := rfl
@[simp] theorem State.setThermo_power_trivet (s : State) (n : Nat) (x : Thermometer) : (s.setThermo n x).power.trivet = s.power.trivet := rfl
@[simp] theorem State.setThermo_power_domains (s : State) (n : Nat) (x : Thermometer) : (s.setThermo n x).power.domains = s.power.domains := rfl
@[simp] theorem State.setThermo_power_supply (s : State) (n : Nat) (x : Thermometer) : (s.setThermo n x).power.supply = s.power.supply := rfl
@[simp] theorem State.setThermo_power_belowWarning (s : State) (n : Nat) (x : Thermometer) : (s.setThermo n x).power.belowWarning = s.power.belowWarning := rfl
@[simp] theorem State.setThermo_power_belowReset (s : State) (n : Nat) (x : Thermometer) : (s.setThermo n x).power.belowReset = s.power.belowReset := rfl
@[simp] theorem State.setThermo_power_aboveRecovery (s : State) (n : Nat) (x : Thermometer) : (s.setThermo n x).power.aboveRecovery = s.power.aboveRecovery := rfl
@[simp] theorem State.setThermo_power_belowRecovery (s : State) (n : Nat) (x : Thermometer) : (s.setThermo n x).power.belowRecovery = s.power.belowRecovery := rfl
@[simp] theorem State.setThermo_power_resetAt (s : State) (n : Nat) (x : Thermometer) : (s.setThermo n x).power.resetAt = s.power.resetAt := rfl
@[simp] theorem State.setThermo_power_lostAfter (s : State) (n : Nat) (x : Thermometer) : (s.setThermo n x).power.lostAfter = s.power.lostAfter := rfl
@[simp] theorem State.setThermo_power_quiesce (s : State) (n : Nat) (x : Thermometer) : (s.setThermo n x).power.quiesce = s.power.quiesce := rfl
@[simp] theorem State.setThermo_lid (s : State) (n : Nat) (x : Thermometer) : (s.setThermo n x).lid = s.lid := rfl
@[simp] theorem State.setThermo_twin (s : State) (n : Nat) (x : Thermometer) : (s.setThermo n x).twin = s.twin := rfl
@[simp] theorem State.setThermo_trust (s : State) (n : Nat) (x : Thermometer) : (s.setThermo n x).trust = s.trust := rfl
@[simp] theorem State.setThermo_svc (s : State) (n : Nat) (x : Thermometer) : (s.setThermo n x).svc = s.svc := rfl
@[simp] theorem State.setThermo_drawn (s : State) (n : Nat) (x : Thermometer) : (s.setThermo n x).drawn = s.drawn := rfl
@[simp] theorem State.setThermo_pending (s : State) (n : Nat) (x : Thermometer) : (s.setThermo n x).pending = s.pending := rfl
@[simp] theorem State.val_setThermo (s : State) (n : Nat) (x : Thermometer) (j : Nat) : (s.setThermo n x).val j = s.val j := rfl
@[simp] theorem State.i_setThermo (s : State) (n : Nat) (x : Thermometer) (j : Nat) : (s.setThermo n x).i j = s.i j := rfl
@[simp] theorem State.n_setThermo (s : State) (n : Nat) (x : Thermometer) (j : Nat) : (s.setThermo n x).n j = s.n j := rfl
@[simp] theorem State.flag_setThermo (s : State) (n : Nat) (x : Thermometer) (j : Nat) : (s.setThermo n x).flag j = s.flag j := rfl
@[simp] theorem State.bytes_setThermo (s : State) (n : Nat) (x : Thermometer) (j : Nat) : (s.setThermo n x).bytes j = s.bytes j := rfl
@[simp] theorem State.armed_setThermo (s : State) (n : Nat) (x : Thermometer) (j : Nat) : (s.setThermo n x).armed j = s.armed j := rfl
@[simp] theorem State.due_setThermo (s : State) (n : Nat) (x : Thermometer) (j : Nat) : (s.setThermo n x).due j = s.due j := rfl
@[simp] theorem State.left_setThermo (s : State) (n : Nat) (x : Thermometer) (j : Nat) : (s.setThermo n x).left j = s.left j := rfl
@[simp] theorem State.enc_setThermo (s : State) (n : Nat) (x : Thermometer) (j : Nat) : (s.setThermo n x).enc j = s.enc j := rfl
@[simp] theorem State.slot_setThermo (s : State) (n : Nat) (x : Thermometer) (j : Nat) : (s.setThermo n x).slot j = s.slot j := rfl
@[simp] theorem State.ring_setThermo (s : State) (n : Nat) (x : Thermometer) (j : Nat) : (s.setThermo n x).ring j = s.ring j := rfl
@[simp] theorem State.domain_setThermo (s : State) (n : Nat) (x : Thermometer) (j : Nat) : (s.setThermo n x).domain j = s.domain j := rfl
@[simp] theorem State.unit_setThermo (s : State) (n : Nat) (x : Thermometer) (j : Nat) : (s.setThermo n x).unit j = s.unit j := rfl
@[simp] theorem State.polygon_setThermo (s : State) (n : Nat) (x : Thermometer) (j : Nat) : (s.setThermo n x).polygon j = s.polygon j := rfl
@[simp] theorem State.station_setThermo (s : State) (n : Nat) (x : Thermometer) (j : Nat) : (s.setThermo n x).station j = s.station j := rfl
@[simp] theorem State.page_setThermo (s : State) (n : Nat) (x : Thermometer) (j : Nat) : (s.setThermo n x).page j = s.page j := rfl
@[simp] theorem State.lane_setThermo (s : State) (n : Nat) (x : Thermometer) (j : Nat) : (s.setThermo n x).lane j = s.lane j := rfl
@[simp] theorem State.queue_setThermo (s : State) (n : Nat) (x : Thermometer) (j : Nat) : (s.setThermo n x).queue j = s.queue j := rfl
@[simp] theorem State.buffer_setThermo (s : State) (n : Nat) (x : Thermometer) (j : Nat) : (s.setThermo n x).buffer j = s.buffer j := rfl
@[simp] theorem State.jobsOf_setThermo (s : State) (n : Nat) (x : Thermometer) (j : Nat) : (s.setThermo n x).jobsOf j = s.jobsOf j := rfl
@[simp] theorem State.turns_setThermo (s : State) (n : Nat) (x : Thermometer) (j : Nat) : (s.setThermo n x).turns j = s.turns j := rfl
@[simp] theorem State.stream_setThermo (s : State) (n : Nat) (x : Thermometer) (j : Nat) : (s.setThermo n x).stream j = s.stream j := rfl
@[simp] theorem State.lock_setThermo (s : State) (n : Nat) (x : Thermometer) (j : Nat) : (s.setThermo n x).lock j = s.lock j := rfl
@[simp] theorem State.ladleJob_setThermo (s : State) (n : Nat) (x : Thermometer) (j : Nat) : (s.setThermo n x).ladleJob j = s.ladleJob j := rfl
@[simp] theorem State.drive_setThermo (s : State) (n : Nat) (x : Thermometer) (j : Nat) : (s.setThermo n x).drive j = s.drive j := rfl
@[simp] theorem State.stepper_setThermo (s : State) (n : Nat) (x : Thermometer) (j : Nat) : (s.setThermo n x).stepper j = s.stepper j := rfl
@[simp] theorem State.loop_setThermo (s : State) (n : Nat) (x : Thermometer) (j : Nat) : (s.setThermo n x).loop j = s.loop j := rfl
@[simp] theorem State.hv_setThermo (s : State) (n : Nat) (x : Thermometer) (j : Nat) : (s.setThermo n x).hv j = s.hv j := rfl
@[simp] theorem State.zone_setThermo (s : State) (n : Nat) (x : Thermometer) (j : Nat) : (s.setThermo n x).zone j = s.zone j := rfl
@[simp] theorem State.on_setThermo (s : State) (n : Nat) (x : Thermometer) (j : Nat) : (s.setThermo n x).on j = s.on j := rfl

/-! ## setUnit -/

@[simp] theorem State.setUnit_s6 (s : State) (n : Nat) (x : Unit) : (s.setUnit n x).s6 = s.s6 := rfl
@[simp] theorem State.setUnit_stamp (s : State) (n : Nat) (x : Unit) : (s.setUnit n x).stamp = s.stamp := rfl
@[simp] theorem State.setUnit_od (s : State) (n : Nat) (x : Unit) : (s.setUnit n x).od = s.od := rfl
@[simp] theorem State.setUnit_timers (s : State) (n : Nat) (x : Unit) : (s.setUnit n x).timers = s.timers := rfl
@[simp] theorem State.setUnit_pos (s : State) (n : Nat) (x : Unit) : (s.setUnit n x).pos = s.pos := rfl
@[simp] theorem State.setUnit_ev (s : State) (n : Nat) (x : Unit) : (s.setUnit n x).ev = s.ev := rfl
@[simp] theorem State.setUnit_rings (s : State) (n : Nat) (x : Unit) : (s.setUnit n x).rings = s.rings := rfl
@[simp] theorem State.setUnit_pcie (s : State) (n : Nat) (x : Unit) : (s.setUnit n x).pcie = s.pcie := rfl
@[simp] theorem State.setUnit_polygons (s : State) (n : Nat) (x : Unit) : (s.setUnit n x).polygons = s.polygons := rfl
@[simp] theorem State.setUnit_stations (s : State) (n : Nat) (x : Unit) : (s.setUnit n x).stations = s.stations := rfl
@[simp] theorem State.setUnit_pages (s : State) (n : Nat) (x : Unit) : (s.setUnit n x).pages = s.pages := rfl
@[simp] theorem State.setUnit_press (s : State) (n : Nat) (x : Unit) : (s.setUnit n x).press = s.press := rfl
@[simp] theorem State.setUnit_fabric (s : State) (n : Nat) (x : Unit) : (s.setUnit n x).fabric = s.fabric := rfl
@[simp] theorem State.setUnit_drives (s : State) (n : Nat) (x : Unit) : (s.setUnit n x).drives = s.drives := rfl
@[simp] theorem State.setUnit_steppers (s : State) (n : Nat) (x : Unit) : (s.setUnit n x).steppers = s.steppers := rfl
@[simp] theorem State.setUnit_loops (s : State) (n : Nat) (x : Unit) : (s.setUnit n x).loops = s.loops := rfl
@[simp] theorem State.setUnit_crock (s : State) (n : Nat) (x : Unit) : (s.setUnit n x).crock = s.crock := rfl
@[simp] theorem State.setUnit_power (s : State) (n : Nat) (x : Unit) : (s.setUnit n x).power = s.power := rfl
@[simp] theorem State.setUnit_lid (s : State) (n : Nat) (x : Unit) : (s.setUnit n x).lid = s.lid := rfl
@[simp] theorem State.setUnit_twin_switching (s : State) (n : Nat) (x : Unit) : (s.setUnit n x).twin.switching = s.twin.switching := rfl
@[simp] theorem State.setUnit_twin_grantAt (s : State) (n : Nat) (x : Unit) : (s.setUnit n x).twin.grantAt = s.twin.grantAt := rfl
@[simp] theorem State.setUnit_twin_causes (s : State) (n : Nat) (x : Unit) : (s.setUnit n x).twin.causes = s.twin.causes := rfl
@[simp] theorem State.setUnit_twin_leaving (s : State) (n : Nat) (x : Unit) : (s.setUnit n x).twin.leaving = s.twin.leaving := rfl
@[simp] theorem State.setUnit_twin_eligible (s : State) (n : Nat) (x : Unit) : (s.setUnit n x).twin.eligible = s.twin.eligible := rfl
@[simp] theorem State.setUnit_twin_planned (s : State) (n : Nat) (x : Unit) : (s.setUnit n x).twin.planned = s.twin.planned := rfl
@[simp] theorem State.setUnit_twin_wireBeat (s : State) (n : Nat) (x : Unit) : (s.setUnit n x).twin.wireBeat = s.twin.wireBeat := rfl
@[simp] theorem State.setUnit_twin_wordBeat (s : State) (n : Nat) (x : Unit) : (s.setUnit n x).twin.wordBeat = s.twin.wordBeat := rfl
@[simp] theorem State.setUnit_twin_wireMisses (s : State) (n : Nat) (x : Unit) : (s.setUnit n x).twin.wireMisses = s.twin.wireMisses := rfl
@[simp] theorem State.setUnit_twin_wordMisses (s : State) (n : Nat) (x : Unit) : (s.setUnit n x).twin.wordMisses = s.twin.wordMisses := rfl
@[simp] theorem State.setUnit_twin_wireGood (s : State) (n : Nat) (x : Unit) : (s.setUnit n x).twin.wireGood = s.twin.wireGood := rfl
@[simp] theorem State.setUnit_twin_wordGood (s : State) (n : Nat) (x : Unit) : (s.setUnit n x).twin.wordGood = s.twin.wordGood := rfl
@[simp] theorem State.setUnit_twin_lastBeat (s : State) (n : Nat) (x : Unit) : (s.setUnit n x).twin.lastBeat = s.twin.lastBeat := rfl
@[simp] theorem State.setUnit_twin_period (s : State) (n : Nat) (x : Unit) : (s.setUnit n x).twin.period = s.twin.period := rfl
@[simp] theorem State.setUnit_twin_entries (s : State) (n : Nat) (x : Unit) : (s.setUnit n x).twin.entries = s.twin.entries := rfl
@[simp] theorem State.setUnit_twin_used (s : State) (n : Nat) (x : Unit) : (s.setUnit n x).twin.used = s.twin.used := rfl
@[simp] theorem State.setUnit_twin_bank (s : State) (n : Nat) (x : Unit) : (s.setUnit n x).twin.bank = s.twin.bank := rfl
@[simp] theorem State.setUnit_twin_sequence (s : State) (n : Nat) (x : Unit) : (s.setUnit n x).twin.sequence = s.twin.sequence := rfl
@[simp] theorem State.setUnit_twin_mramBase (s : State) (n : Nat) (x : Unit) : (s.setUnit n x).twin.mramBase = s.twin.mramBase := rfl
@[simp] theorem State.setUnit_twin_mramFinal (s : State) (n : Nat) (x : Unit) : (s.setUnit n x).twin.mramFinal = s.twin.mramFinal := rfl
@[simp] theorem State.setUnit_twin_dictionaryUp (s : State) (n : Nat) (x : Unit) : (s.setUnit n x).twin.dictionaryUp = s.twin.dictionaryUp := rfl
@[simp] theorem State.setUnit_twin_held (s : State) (n : Nat) (x : Unit) : (s.setUnit n x).twin.held = s.twin.held := rfl
@[simp] theorem State.setUnit_trust (s : State) (n : Nat) (x : Unit) : (s.setUnit n x).trust = s.trust := rfl
@[simp] theorem State.setUnit_svc (s : State) (n : Nat) (x : Unit) : (s.setUnit n x).svc = s.svc := rfl
@[simp] theorem State.setUnit_drawn (s : State) (n : Nat) (x : Unit) : (s.setUnit n x).drawn = s.drawn := rfl
@[simp] theorem State.setUnit_pending (s : State) (n : Nat) (x : Unit) : (s.setUnit n x).pending = s.pending := rfl
@[simp] theorem State.val_setUnit (s : State) (n : Nat) (x : Unit) (j : Nat) : (s.setUnit n x).val j = s.val j := rfl
@[simp] theorem State.i_setUnit (s : State) (n : Nat) (x : Unit) (j : Nat) : (s.setUnit n x).i j = s.i j := rfl
@[simp] theorem State.n_setUnit (s : State) (n : Nat) (x : Unit) (j : Nat) : (s.setUnit n x).n j = s.n j := rfl
@[simp] theorem State.flag_setUnit (s : State) (n : Nat) (x : Unit) (j : Nat) : (s.setUnit n x).flag j = s.flag j := rfl
@[simp] theorem State.bytes_setUnit (s : State) (n : Nat) (x : Unit) (j : Nat) : (s.setUnit n x).bytes j = s.bytes j := rfl
@[simp] theorem State.armed_setUnit (s : State) (n : Nat) (x : Unit) (j : Nat) : (s.setUnit n x).armed j = s.armed j := rfl
@[simp] theorem State.due_setUnit (s : State) (n : Nat) (x : Unit) (j : Nat) : (s.setUnit n x).due j = s.due j := rfl
@[simp] theorem State.left_setUnit (s : State) (n : Nat) (x : Unit) (j : Nat) : (s.setUnit n x).left j = s.left j := rfl
@[simp] theorem State.enc_setUnit (s : State) (n : Nat) (x : Unit) (j : Nat) : (s.setUnit n x).enc j = s.enc j := rfl
@[simp] theorem State.slot_setUnit (s : State) (n : Nat) (x : Unit) (j : Nat) : (s.setUnit n x).slot j = s.slot j := rfl
@[simp] theorem State.ring_setUnit (s : State) (n : Nat) (x : Unit) (j : Nat) : (s.setUnit n x).ring j = s.ring j := rfl
@[simp] theorem State.domain_setUnit (s : State) (n : Nat) (x : Unit) (j : Nat) : (s.setUnit n x).domain j = s.domain j := rfl
@[simp] theorem State.thermo_setUnit (s : State) (n : Nat) (x : Unit) (j : Nat) : (s.setUnit n x).thermo j = s.thermo j := rfl
@[simp] theorem State.polygon_setUnit (s : State) (n : Nat) (x : Unit) (j : Nat) : (s.setUnit n x).polygon j = s.polygon j := rfl
@[simp] theorem State.station_setUnit (s : State) (n : Nat) (x : Unit) (j : Nat) : (s.setUnit n x).station j = s.station j := rfl
@[simp] theorem State.page_setUnit (s : State) (n : Nat) (x : Unit) (j : Nat) : (s.setUnit n x).page j = s.page j := rfl
@[simp] theorem State.lane_setUnit (s : State) (n : Nat) (x : Unit) (j : Nat) : (s.setUnit n x).lane j = s.lane j := rfl
@[simp] theorem State.queue_setUnit (s : State) (n : Nat) (x : Unit) (j : Nat) : (s.setUnit n x).queue j = s.queue j := rfl
@[simp] theorem State.buffer_setUnit (s : State) (n : Nat) (x : Unit) (j : Nat) : (s.setUnit n x).buffer j = s.buffer j := rfl
@[simp] theorem State.jobsOf_setUnit (s : State) (n : Nat) (x : Unit) (j : Nat) : (s.setUnit n x).jobsOf j = s.jobsOf j := rfl
@[simp] theorem State.turns_setUnit (s : State) (n : Nat) (x : Unit) (j : Nat) : (s.setUnit n x).turns j = s.turns j := rfl
@[simp] theorem State.stream_setUnit (s : State) (n : Nat) (x : Unit) (j : Nat) : (s.setUnit n x).stream j = s.stream j := rfl
@[simp] theorem State.lock_setUnit (s : State) (n : Nat) (x : Unit) (j : Nat) : (s.setUnit n x).lock j = s.lock j := rfl
@[simp] theorem State.ladleJob_setUnit (s : State) (n : Nat) (x : Unit) (j : Nat) : (s.setUnit n x).ladleJob j = s.ladleJob j := rfl
@[simp] theorem State.drive_setUnit (s : State) (n : Nat) (x : Unit) (j : Nat) : (s.setUnit n x).drive j = s.drive j := rfl
@[simp] theorem State.stepper_setUnit (s : State) (n : Nat) (x : Unit) (j : Nat) : (s.setUnit n x).stepper j = s.stepper j := rfl
@[simp] theorem State.loop_setUnit (s : State) (n : Nat) (x : Unit) (j : Nat) : (s.setUnit n x).loop j = s.loop j := rfl
@[simp] theorem State.hv_setUnit (s : State) (n : Nat) (x : Unit) (j : Nat) : (s.setUnit n x).hv j = s.hv j := rfl
@[simp] theorem State.zone_setUnit (s : State) (n : Nat) (x : Unit) (j : Nat) : (s.setUnit n x).zone j = s.zone j := rfl
@[simp] theorem State.on_setUnit (s : State) (n : Nat) (x : Unit) (j : Nat) : (s.setUnit n x).on j = s.on j := rfl

/-! ## setPolygon -/

@[simp] theorem State.setPolygon_s6 (s : State) (n : Nat) (x : Polygon) : (s.setPolygon n x).s6 = s.s6 := rfl
@[simp] theorem State.setPolygon_stamp (s : State) (n : Nat) (x : Polygon) : (s.setPolygon n x).stamp = s.stamp := rfl
@[simp] theorem State.setPolygon_od (s : State) (n : Nat) (x : Polygon) : (s.setPolygon n x).od = s.od := rfl
@[simp] theorem State.setPolygon_timers (s : State) (n : Nat) (x : Polygon) : (s.setPolygon n x).timers = s.timers := rfl
@[simp] theorem State.setPolygon_pos (s : State) (n : Nat) (x : Polygon) : (s.setPolygon n x).pos = s.pos := rfl
@[simp] theorem State.setPolygon_ev (s : State) (n : Nat) (x : Polygon) : (s.setPolygon n x).ev = s.ev := rfl
@[simp] theorem State.setPolygon_rings (s : State) (n : Nat) (x : Polygon) : (s.setPolygon n x).rings = s.rings := rfl
@[simp] theorem State.setPolygon_pcie (s : State) (n : Nat) (x : Polygon) : (s.setPolygon n x).pcie = s.pcie := rfl
@[simp] theorem State.setPolygon_stations (s : State) (n : Nat) (x : Polygon) : (s.setPolygon n x).stations = s.stations := rfl
@[simp] theorem State.setPolygon_pages (s : State) (n : Nat) (x : Polygon) : (s.setPolygon n x).pages = s.pages := rfl
@[simp] theorem State.setPolygon_press (s : State) (n : Nat) (x : Polygon) : (s.setPolygon n x).press = s.press := rfl
@[simp] theorem State.setPolygon_fabric (s : State) (n : Nat) (x : Polygon) : (s.setPolygon n x).fabric = s.fabric := rfl
@[simp] theorem State.setPolygon_drives (s : State) (n : Nat) (x : Polygon) : (s.setPolygon n x).drives = s.drives := rfl
@[simp] theorem State.setPolygon_steppers (s : State) (n : Nat) (x : Polygon) : (s.setPolygon n x).steppers = s.steppers := rfl
@[simp] theorem State.setPolygon_loops (s : State) (n : Nat) (x : Polygon) : (s.setPolygon n x).loops = s.loops := rfl
@[simp] theorem State.setPolygon_crock (s : State) (n : Nat) (x : Polygon) : (s.setPolygon n x).crock = s.crock := rfl
@[simp] theorem State.setPolygon_power (s : State) (n : Nat) (x : Polygon) : (s.setPolygon n x).power = s.power := rfl
@[simp] theorem State.setPolygon_lid (s : State) (n : Nat) (x : Polygon) : (s.setPolygon n x).lid = s.lid := rfl
@[simp] theorem State.setPolygon_twin (s : State) (n : Nat) (x : Polygon) : (s.setPolygon n x).twin = s.twin := rfl
@[simp] theorem State.setPolygon_trust (s : State) (n : Nat) (x : Polygon) : (s.setPolygon n x).trust = s.trust := rfl
@[simp] theorem State.setPolygon_svc (s : State) (n : Nat) (x : Polygon) : (s.setPolygon n x).svc = s.svc := rfl
@[simp] theorem State.setPolygon_drawn (s : State) (n : Nat) (x : Polygon) : (s.setPolygon n x).drawn = s.drawn := rfl
@[simp] theorem State.setPolygon_pending (s : State) (n : Nat) (x : Polygon) : (s.setPolygon n x).pending = s.pending := rfl
@[simp] theorem State.val_setPolygon (s : State) (n : Nat) (x : Polygon) (j : Nat) : (s.setPolygon n x).val j = s.val j := rfl
@[simp] theorem State.i_setPolygon (s : State) (n : Nat) (x : Polygon) (j : Nat) : (s.setPolygon n x).i j = s.i j := rfl
@[simp] theorem State.n_setPolygon (s : State) (n : Nat) (x : Polygon) (j : Nat) : (s.setPolygon n x).n j = s.n j := rfl
@[simp] theorem State.flag_setPolygon (s : State) (n : Nat) (x : Polygon) (j : Nat) : (s.setPolygon n x).flag j = s.flag j := rfl
@[simp] theorem State.bytes_setPolygon (s : State) (n : Nat) (x : Polygon) (j : Nat) : (s.setPolygon n x).bytes j = s.bytes j := rfl
@[simp] theorem State.armed_setPolygon (s : State) (n : Nat) (x : Polygon) (j : Nat) : (s.setPolygon n x).armed j = s.armed j := rfl
@[simp] theorem State.due_setPolygon (s : State) (n : Nat) (x : Polygon) (j : Nat) : (s.setPolygon n x).due j = s.due j := rfl
@[simp] theorem State.left_setPolygon (s : State) (n : Nat) (x : Polygon) (j : Nat) : (s.setPolygon n x).left j = s.left j := rfl
@[simp] theorem State.enc_setPolygon (s : State) (n : Nat) (x : Polygon) (j : Nat) : (s.setPolygon n x).enc j = s.enc j := rfl
@[simp] theorem State.slot_setPolygon (s : State) (n : Nat) (x : Polygon) (j : Nat) : (s.setPolygon n x).slot j = s.slot j := rfl
@[simp] theorem State.ring_setPolygon (s : State) (n : Nat) (x : Polygon) (j : Nat) : (s.setPolygon n x).ring j = s.ring j := rfl
@[simp] theorem State.domain_setPolygon (s : State) (n : Nat) (x : Polygon) (j : Nat) : (s.setPolygon n x).domain j = s.domain j := rfl
@[simp] theorem State.thermo_setPolygon (s : State) (n : Nat) (x : Polygon) (j : Nat) : (s.setPolygon n x).thermo j = s.thermo j := rfl
@[simp] theorem State.unit_setPolygon (s : State) (n : Nat) (x : Polygon) (j : Nat) : (s.setPolygon n x).unit j = s.unit j := rfl
@[simp] theorem State.station_setPolygon (s : State) (n : Nat) (x : Polygon) (j : Nat) : (s.setPolygon n x).station j = s.station j := rfl
@[simp] theorem State.page_setPolygon (s : State) (n : Nat) (x : Polygon) (j : Nat) : (s.setPolygon n x).page j = s.page j := rfl
@[simp] theorem State.lane_setPolygon (s : State) (n : Nat) (x : Polygon) (j : Nat) : (s.setPolygon n x).lane j = s.lane j := rfl
@[simp] theorem State.queue_setPolygon (s : State) (n : Nat) (x : Polygon) (j : Nat) : (s.setPolygon n x).queue j = s.queue j := rfl
@[simp] theorem State.buffer_setPolygon (s : State) (n : Nat) (x : Polygon) (j : Nat) : (s.setPolygon n x).buffer j = s.buffer j := rfl
@[simp] theorem State.jobsOf_setPolygon (s : State) (n : Nat) (x : Polygon) (j : Nat) : (s.setPolygon n x).jobsOf j = s.jobsOf j := rfl
@[simp] theorem State.turns_setPolygon (s : State) (n : Nat) (x : Polygon) (j : Nat) : (s.setPolygon n x).turns j = s.turns j := rfl
@[simp] theorem State.stream_setPolygon (s : State) (n : Nat) (x : Polygon) (j : Nat) : (s.setPolygon n x).stream j = s.stream j := rfl
@[simp] theorem State.lock_setPolygon (s : State) (n : Nat) (x : Polygon) (j : Nat) : (s.setPolygon n x).lock j = s.lock j := rfl
@[simp] theorem State.ladleJob_setPolygon (s : State) (n : Nat) (x : Polygon) (j : Nat) : (s.setPolygon n x).ladleJob j = s.ladleJob j := rfl
@[simp] theorem State.drive_setPolygon (s : State) (n : Nat) (x : Polygon) (j : Nat) : (s.setPolygon n x).drive j = s.drive j := rfl
@[simp] theorem State.stepper_setPolygon (s : State) (n : Nat) (x : Polygon) (j : Nat) : (s.setPolygon n x).stepper j = s.stepper j := rfl
@[simp] theorem State.loop_setPolygon (s : State) (n : Nat) (x : Polygon) (j : Nat) : (s.setPolygon n x).loop j = s.loop j := rfl
@[simp] theorem State.hv_setPolygon (s : State) (n : Nat) (x : Polygon) (j : Nat) : (s.setPolygon n x).hv j = s.hv j := rfl
@[simp] theorem State.zone_setPolygon (s : State) (n : Nat) (x : Polygon) (j : Nat) : (s.setPolygon n x).zone j = s.zone j := rfl
@[simp] theorem State.on_setPolygon (s : State) (n : Nat) (x : Polygon) (j : Nat) : (s.setPolygon n x).on j = s.on j := rfl

/-! ## setStation -/

@[simp] theorem State.setStation_s6 (s : State) (n : Nat) (x : Station) : (s.setStation n x).s6 = s.s6 := rfl
@[simp] theorem State.setStation_stamp (s : State) (n : Nat) (x : Station) : (s.setStation n x).stamp = s.stamp := rfl
@[simp] theorem State.setStation_od (s : State) (n : Nat) (x : Station) : (s.setStation n x).od = s.od := rfl
@[simp] theorem State.setStation_timers (s : State) (n : Nat) (x : Station) : (s.setStation n x).timers = s.timers := rfl
@[simp] theorem State.setStation_pos (s : State) (n : Nat) (x : Station) : (s.setStation n x).pos = s.pos := rfl
@[simp] theorem State.setStation_ev (s : State) (n : Nat) (x : Station) : (s.setStation n x).ev = s.ev := rfl
@[simp] theorem State.setStation_rings (s : State) (n : Nat) (x : Station) : (s.setStation n x).rings = s.rings := rfl
@[simp] theorem State.setStation_pcie (s : State) (n : Nat) (x : Station) : (s.setStation n x).pcie = s.pcie := rfl
@[simp] theorem State.setStation_polygons (s : State) (n : Nat) (x : Station) : (s.setStation n x).polygons = s.polygons := rfl
@[simp] theorem State.setStation_pages (s : State) (n : Nat) (x : Station) : (s.setStation n x).pages = s.pages := rfl
@[simp] theorem State.setStation_press (s : State) (n : Nat) (x : Station) : (s.setStation n x).press = s.press := rfl
@[simp] theorem State.setStation_fabric (s : State) (n : Nat) (x : Station) : (s.setStation n x).fabric = s.fabric := rfl
@[simp] theorem State.setStation_drives (s : State) (n : Nat) (x : Station) : (s.setStation n x).drives = s.drives := rfl
@[simp] theorem State.setStation_steppers (s : State) (n : Nat) (x : Station) : (s.setStation n x).steppers = s.steppers := rfl
@[simp] theorem State.setStation_loops (s : State) (n : Nat) (x : Station) : (s.setStation n x).loops = s.loops := rfl
@[simp] theorem State.setStation_crock (s : State) (n : Nat) (x : Station) : (s.setStation n x).crock = s.crock := rfl
@[simp] theorem State.setStation_power (s : State) (n : Nat) (x : Station) : (s.setStation n x).power = s.power := rfl
@[simp] theorem State.setStation_lid (s : State) (n : Nat) (x : Station) : (s.setStation n x).lid = s.lid := rfl
@[simp] theorem State.setStation_twin (s : State) (n : Nat) (x : Station) : (s.setStation n x).twin = s.twin := rfl
@[simp] theorem State.setStation_trust (s : State) (n : Nat) (x : Station) : (s.setStation n x).trust = s.trust := rfl
@[simp] theorem State.setStation_svc (s : State) (n : Nat) (x : Station) : (s.setStation n x).svc = s.svc := rfl
@[simp] theorem State.setStation_drawn (s : State) (n : Nat) (x : Station) : (s.setStation n x).drawn = s.drawn := rfl
@[simp] theorem State.setStation_pending (s : State) (n : Nat) (x : Station) : (s.setStation n x).pending = s.pending := rfl
@[simp] theorem State.val_setStation (s : State) (n : Nat) (x : Station) (j : Nat) : (s.setStation n x).val j = s.val j := rfl
@[simp] theorem State.i_setStation (s : State) (n : Nat) (x : Station) (j : Nat) : (s.setStation n x).i j = s.i j := rfl
@[simp] theorem State.n_setStation (s : State) (n : Nat) (x : Station) (j : Nat) : (s.setStation n x).n j = s.n j := rfl
@[simp] theorem State.flag_setStation (s : State) (n : Nat) (x : Station) (j : Nat) : (s.setStation n x).flag j = s.flag j := rfl
@[simp] theorem State.bytes_setStation (s : State) (n : Nat) (x : Station) (j : Nat) : (s.setStation n x).bytes j = s.bytes j := rfl
@[simp] theorem State.armed_setStation (s : State) (n : Nat) (x : Station) (j : Nat) : (s.setStation n x).armed j = s.armed j := rfl
@[simp] theorem State.due_setStation (s : State) (n : Nat) (x : Station) (j : Nat) : (s.setStation n x).due j = s.due j := rfl
@[simp] theorem State.left_setStation (s : State) (n : Nat) (x : Station) (j : Nat) : (s.setStation n x).left j = s.left j := rfl
@[simp] theorem State.enc_setStation (s : State) (n : Nat) (x : Station) (j : Nat) : (s.setStation n x).enc j = s.enc j := rfl
@[simp] theorem State.slot_setStation (s : State) (n : Nat) (x : Station) (j : Nat) : (s.setStation n x).slot j = s.slot j := rfl
@[simp] theorem State.ring_setStation (s : State) (n : Nat) (x : Station) (j : Nat) : (s.setStation n x).ring j = s.ring j := rfl
@[simp] theorem State.domain_setStation (s : State) (n : Nat) (x : Station) (j : Nat) : (s.setStation n x).domain j = s.domain j := rfl
@[simp] theorem State.thermo_setStation (s : State) (n : Nat) (x : Station) (j : Nat) : (s.setStation n x).thermo j = s.thermo j := rfl
@[simp] theorem State.unit_setStation (s : State) (n : Nat) (x : Station) (j : Nat) : (s.setStation n x).unit j = s.unit j := rfl
@[simp] theorem State.polygon_setStation (s : State) (n : Nat) (x : Station) (j : Nat) : (s.setStation n x).polygon j = s.polygon j := rfl
@[simp] theorem State.page_setStation (s : State) (n : Nat) (x : Station) (j : Nat) : (s.setStation n x).page j = s.page j := rfl
@[simp] theorem State.lane_setStation (s : State) (n : Nat) (x : Station) (j : Nat) : (s.setStation n x).lane j = s.lane j := rfl
@[simp] theorem State.queue_setStation (s : State) (n : Nat) (x : Station) (j : Nat) : (s.setStation n x).queue j = s.queue j := rfl
@[simp] theorem State.buffer_setStation (s : State) (n : Nat) (x : Station) (j : Nat) : (s.setStation n x).buffer j = s.buffer j := rfl
@[simp] theorem State.jobsOf_setStation (s : State) (n : Nat) (x : Station) (j : Nat) : (s.setStation n x).jobsOf j = s.jobsOf j := rfl
@[simp] theorem State.turns_setStation (s : State) (n : Nat) (x : Station) (j : Nat) : (s.setStation n x).turns j = s.turns j := rfl
@[simp] theorem State.stream_setStation (s : State) (n : Nat) (x : Station) (j : Nat) : (s.setStation n x).stream j = s.stream j := rfl
@[simp] theorem State.lock_setStation (s : State) (n : Nat) (x : Station) (j : Nat) : (s.setStation n x).lock j = s.lock j := rfl
@[simp] theorem State.ladleJob_setStation (s : State) (n : Nat) (x : Station) (j : Nat) : (s.setStation n x).ladleJob j = s.ladleJob j := rfl
@[simp] theorem State.drive_setStation (s : State) (n : Nat) (x : Station) (j : Nat) : (s.setStation n x).drive j = s.drive j := rfl
@[simp] theorem State.stepper_setStation (s : State) (n : Nat) (x : Station) (j : Nat) : (s.setStation n x).stepper j = s.stepper j := rfl
@[simp] theorem State.loop_setStation (s : State) (n : Nat) (x : Station) (j : Nat) : (s.setStation n x).loop j = s.loop j := rfl
@[simp] theorem State.hv_setStation (s : State) (n : Nat) (x : Station) (j : Nat) : (s.setStation n x).hv j = s.hv j := rfl
@[simp] theorem State.zone_setStation (s : State) (n : Nat) (x : Station) (j : Nat) : (s.setStation n x).zone j = s.zone j := rfl
@[simp] theorem State.on_setStation (s : State) (n : Nat) (x : Station) (j : Nat) : (s.setStation n x).on j = s.on j := rfl

/-! ## setPage -/

@[simp] theorem State.setPage_s6 (s : State) (n : Nat) (x : Page) : (s.setPage n x).s6 = s.s6 := rfl
@[simp] theorem State.setPage_stamp (s : State) (n : Nat) (x : Page) : (s.setPage n x).stamp = s.stamp := rfl
@[simp] theorem State.setPage_od (s : State) (n : Nat) (x : Page) : (s.setPage n x).od = s.od := rfl
@[simp] theorem State.setPage_timers (s : State) (n : Nat) (x : Page) : (s.setPage n x).timers = s.timers := rfl
@[simp] theorem State.setPage_pos (s : State) (n : Nat) (x : Page) : (s.setPage n x).pos = s.pos := rfl
@[simp] theorem State.setPage_ev (s : State) (n : Nat) (x : Page) : (s.setPage n x).ev = s.ev := rfl
@[simp] theorem State.setPage_rings (s : State) (n : Nat) (x : Page) : (s.setPage n x).rings = s.rings := rfl
@[simp] theorem State.setPage_pcie (s : State) (n : Nat) (x : Page) : (s.setPage n x).pcie = s.pcie := rfl
@[simp] theorem State.setPage_polygons (s : State) (n : Nat) (x : Page) : (s.setPage n x).polygons = s.polygons := rfl
@[simp] theorem State.setPage_stations (s : State) (n : Nat) (x : Page) : (s.setPage n x).stations = s.stations := rfl
@[simp] theorem State.setPage_pages_order (s : State) (n : Nat) (x : Page) : (s.setPage n x).pages.order = s.pages.order := rfl
@[simp] theorem State.setPage_pages_previous (s : State) (n : Nat) (x : Page) : (s.setPage n x).pages.previous = s.pages.previous := rfl
@[simp] theorem State.setPage_pages_stopped (s : State) (n : Nat) (x : Page) : (s.setPage n x).pages.stopped = s.pages.stopped := rfl
@[simp] theorem State.setPage_pages_lost (s : State) (n : Nat) (x : Page) : (s.setPage n x).pages.lost = s.pages.lost := rfl
@[simp] theorem State.setPage_pages_gateFound (s : State) (n : Nat) (x : Page) : (s.setPage n x).pages.gateFound = s.pages.gateFound := rfl
@[simp] theorem State.setPage_pages_splicePending (s : State) (n : Nat) (x : Page) : (s.setPage n x).pages.splicePending = s.pages.splicePending := rfl
@[simp] theorem State.setPage_pages_spliceFrom (s : State) (n : Nat) (x : Page) : (s.setPage n x).pages.spliceFrom = s.pages.spliceFrom := rfl
@[simp] theorem State.setPage_pages_gapTaken (s : State) (n : Nat) (x : Page) : (s.setPage n x).pages.gapTaken = s.pages.gapTaken := rfl
@[simp] theorem State.setPage_pages_gapEntries (s : State) (n : Nat) (x : Page) : (s.setPage n x).pages.gapEntries = s.pages.gapEntries := rfl
@[simp] theorem State.setPage_press (s : State) (n : Nat) (x : Page) : (s.setPage n x).press = s.press := rfl
@[simp] theorem State.setPage_fabric (s : State) (n : Nat) (x : Page) : (s.setPage n x).fabric = s.fabric := rfl
@[simp] theorem State.setPage_drives (s : State) (n : Nat) (x : Page) : (s.setPage n x).drives = s.drives := rfl
@[simp] theorem State.setPage_steppers (s : State) (n : Nat) (x : Page) : (s.setPage n x).steppers = s.steppers := rfl
@[simp] theorem State.setPage_loops (s : State) (n : Nat) (x : Page) : (s.setPage n x).loops = s.loops := rfl
@[simp] theorem State.setPage_crock (s : State) (n : Nat) (x : Page) : (s.setPage n x).crock = s.crock := rfl
@[simp] theorem State.setPage_power (s : State) (n : Nat) (x : Page) : (s.setPage n x).power = s.power := rfl
@[simp] theorem State.setPage_lid (s : State) (n : Nat) (x : Page) : (s.setPage n x).lid = s.lid := rfl
@[simp] theorem State.setPage_twin (s : State) (n : Nat) (x : Page) : (s.setPage n x).twin = s.twin := rfl
@[simp] theorem State.setPage_trust (s : State) (n : Nat) (x : Page) : (s.setPage n x).trust = s.trust := rfl
@[simp] theorem State.setPage_svc (s : State) (n : Nat) (x : Page) : (s.setPage n x).svc = s.svc := rfl
@[simp] theorem State.setPage_drawn (s : State) (n : Nat) (x : Page) : (s.setPage n x).drawn = s.drawn := rfl
@[simp] theorem State.setPage_pending (s : State) (n : Nat) (x : Page) : (s.setPage n x).pending = s.pending := rfl
@[simp] theorem State.val_setPage (s : State) (n : Nat) (x : Page) (j : Nat) : (s.setPage n x).val j = s.val j := rfl
@[simp] theorem State.i_setPage (s : State) (n : Nat) (x : Page) (j : Nat) : (s.setPage n x).i j = s.i j := rfl
@[simp] theorem State.n_setPage (s : State) (n : Nat) (x : Page) (j : Nat) : (s.setPage n x).n j = s.n j := rfl
@[simp] theorem State.flag_setPage (s : State) (n : Nat) (x : Page) (j : Nat) : (s.setPage n x).flag j = s.flag j := rfl
@[simp] theorem State.bytes_setPage (s : State) (n : Nat) (x : Page) (j : Nat) : (s.setPage n x).bytes j = s.bytes j := rfl
@[simp] theorem State.armed_setPage (s : State) (n : Nat) (x : Page) (j : Nat) : (s.setPage n x).armed j = s.armed j := rfl
@[simp] theorem State.due_setPage (s : State) (n : Nat) (x : Page) (j : Nat) : (s.setPage n x).due j = s.due j := rfl
@[simp] theorem State.left_setPage (s : State) (n : Nat) (x : Page) (j : Nat) : (s.setPage n x).left j = s.left j := rfl
@[simp] theorem State.enc_setPage (s : State) (n : Nat) (x : Page) (j : Nat) : (s.setPage n x).enc j = s.enc j := rfl
@[simp] theorem State.slot_setPage (s : State) (n : Nat) (x : Page) (j : Nat) : (s.setPage n x).slot j = s.slot j := rfl
@[simp] theorem State.ring_setPage (s : State) (n : Nat) (x : Page) (j : Nat) : (s.setPage n x).ring j = s.ring j := rfl
@[simp] theorem State.domain_setPage (s : State) (n : Nat) (x : Page) (j : Nat) : (s.setPage n x).domain j = s.domain j := rfl
@[simp] theorem State.thermo_setPage (s : State) (n : Nat) (x : Page) (j : Nat) : (s.setPage n x).thermo j = s.thermo j := rfl
@[simp] theorem State.unit_setPage (s : State) (n : Nat) (x : Page) (j : Nat) : (s.setPage n x).unit j = s.unit j := rfl
@[simp] theorem State.polygon_setPage (s : State) (n : Nat) (x : Page) (j : Nat) : (s.setPage n x).polygon j = s.polygon j := rfl
@[simp] theorem State.station_setPage (s : State) (n : Nat) (x : Page) (j : Nat) : (s.setPage n x).station j = s.station j := rfl
@[simp] theorem State.lane_setPage (s : State) (n : Nat) (x : Page) (j : Nat) : (s.setPage n x).lane j = s.lane j := rfl
@[simp] theorem State.queue_setPage (s : State) (n : Nat) (x : Page) (j : Nat) : (s.setPage n x).queue j = s.queue j := rfl
@[simp] theorem State.buffer_setPage (s : State) (n : Nat) (x : Page) (j : Nat) : (s.setPage n x).buffer j = s.buffer j := rfl
@[simp] theorem State.jobsOf_setPage (s : State) (n : Nat) (x : Page) (j : Nat) : (s.setPage n x).jobsOf j = s.jobsOf j := rfl
@[simp] theorem State.turns_setPage (s : State) (n : Nat) (x : Page) (j : Nat) : (s.setPage n x).turns j = s.turns j := rfl
@[simp] theorem State.stream_setPage (s : State) (n : Nat) (x : Page) (j : Nat) : (s.setPage n x).stream j = s.stream j := rfl
@[simp] theorem State.lock_setPage (s : State) (n : Nat) (x : Page) (j : Nat) : (s.setPage n x).lock j = s.lock j := rfl
@[simp] theorem State.ladleJob_setPage (s : State) (n : Nat) (x : Page) (j : Nat) : (s.setPage n x).ladleJob j = s.ladleJob j := rfl
@[simp] theorem State.drive_setPage (s : State) (n : Nat) (x : Page) (j : Nat) : (s.setPage n x).drive j = s.drive j := rfl
@[simp] theorem State.stepper_setPage (s : State) (n : Nat) (x : Page) (j : Nat) : (s.setPage n x).stepper j = s.stepper j := rfl
@[simp] theorem State.loop_setPage (s : State) (n : Nat) (x : Page) (j : Nat) : (s.setPage n x).loop j = s.loop j := rfl
@[simp] theorem State.hv_setPage (s : State) (n : Nat) (x : Page) (j : Nat) : (s.setPage n x).hv j = s.hv j := rfl
@[simp] theorem State.zone_setPage (s : State) (n : Nat) (x : Page) (j : Nat) : (s.setPage n x).zone j = s.zone j := rfl
@[simp] theorem State.on_setPage (s : State) (n : Nat) (x : Page) (j : Nat) : (s.setPage n x).on j = s.on j := rfl

/-! ## setLane -/

@[simp] theorem State.setLane_s6 (s : State) (n : Nat) (x : Lane) : (s.setLane n x).s6 = s.s6 := rfl
@[simp] theorem State.setLane_stamp (s : State) (n : Nat) (x : Lane) : (s.setLane n x).stamp = s.stamp := rfl
@[simp] theorem State.setLane_od (s : State) (n : Nat) (x : Lane) : (s.setLane n x).od = s.od := rfl
@[simp] theorem State.setLane_timers (s : State) (n : Nat) (x : Lane) : (s.setLane n x).timers = s.timers := rfl
@[simp] theorem State.setLane_pos (s : State) (n : Nat) (x : Lane) : (s.setLane n x).pos = s.pos := rfl
@[simp] theorem State.setLane_ev (s : State) (n : Nat) (x : Lane) : (s.setLane n x).ev = s.ev := rfl
@[simp] theorem State.setLane_rings (s : State) (n : Nat) (x : Lane) : (s.setLane n x).rings = s.rings := rfl
@[simp] theorem State.setLane_pcie (s : State) (n : Nat) (x : Lane) : (s.setLane n x).pcie = s.pcie := rfl
@[simp] theorem State.setLane_polygons (s : State) (n : Nat) (x : Lane) : (s.setLane n x).polygons = s.polygons := rfl
@[simp] theorem State.setLane_stations (s : State) (n : Nat) (x : Lane) : (s.setLane n x).stations = s.stations := rfl
@[simp] theorem State.setLane_pages (s : State) (n : Nat) (x : Lane) : (s.setLane n x).pages = s.pages := rfl
@[simp] theorem State.setLane_press_queues (s : State) (n : Nat) (x : Lane) : (s.setLane n x).press.queues = s.press.queues := rfl
@[simp] theorem State.setLane_press_buffers (s : State) (n : Nat) (x : Lane) : (s.setLane n x).press.buffers = s.press.buffers := rfl
@[simp] theorem State.setLane_press_inbound (s : State) (n : Nat) (x : Lane) : (s.setLane n x).press.inbound = s.press.inbound := rfl
@[simp] theorem State.setLane_press_retries (s : State) (n : Nat) (x : Lane) : (s.setLane n x).press.retries = s.press.retries := rfl
@[simp] theorem State.setLane_press_jobs (s : State) (n : Nat) (x : Lane) : (s.setLane n x).press.jobs = s.press.jobs := rfl
@[simp] theorem State.setLane_press_turns (s : State) (n : Nat) (x : Lane) : (s.setLane n x).press.turns = s.press.turns := rfl
@[simp] theorem State.setLane_press_streams (s : State) (n : Nat) (x : Lane) : (s.setLane n x).press.streams = s.press.streams := rfl
@[simp] theorem State.setLane_press_ingestLast (s : State) (n : Nat) (x : Lane) : (s.setLane n x).press.ingestLast = s.press.ingestLast := rfl
@[simp] theorem State.setLane_press_nextBlock (s : State) (n : Nat) (x : Lane) : (s.setLane n x).press.nextBlock = s.press.nextBlock := rfl
@[simp] theorem State.setLane_press_nextJob (s : State) (n : Nat) (x : Lane) : (s.setLane n x).press.nextJob = s.press.nextJob := rfl
@[simp] theorem State.setLane_fabric (s : State) (n : Nat) (x : Lane) : (s.setLane n x).fabric = s.fabric := rfl
@[simp] theorem State.setLane_drives (s : State) (n : Nat) (x : Lane) : (s.setLane n x).drives = s.drives := rfl
@[simp] theorem State.setLane_steppers (s : State) (n : Nat) (x : Lane) : (s.setLane n x).steppers = s.steppers := rfl
@[simp] theorem State.setLane_loops (s : State) (n : Nat) (x : Lane) : (s.setLane n x).loops = s.loops := rfl
@[simp] theorem State.setLane_crock (s : State) (n : Nat) (x : Lane) : (s.setLane n x).crock = s.crock := rfl
@[simp] theorem State.setLane_power (s : State) (n : Nat) (x : Lane) : (s.setLane n x).power = s.power := rfl
@[simp] theorem State.setLane_lid (s : State) (n : Nat) (x : Lane) : (s.setLane n x).lid = s.lid := rfl
@[simp] theorem State.setLane_twin (s : State) (n : Nat) (x : Lane) : (s.setLane n x).twin = s.twin := rfl
@[simp] theorem State.setLane_trust (s : State) (n : Nat) (x : Lane) : (s.setLane n x).trust = s.trust := rfl
@[simp] theorem State.setLane_svc (s : State) (n : Nat) (x : Lane) : (s.setLane n x).svc = s.svc := rfl
@[simp] theorem State.setLane_drawn (s : State) (n : Nat) (x : Lane) : (s.setLane n x).drawn = s.drawn := rfl
@[simp] theorem State.setLane_pending (s : State) (n : Nat) (x : Lane) : (s.setLane n x).pending = s.pending := rfl
@[simp] theorem State.val_setLane (s : State) (n : Nat) (x : Lane) (j : Nat) : (s.setLane n x).val j = s.val j := rfl
@[simp] theorem State.i_setLane (s : State) (n : Nat) (x : Lane) (j : Nat) : (s.setLane n x).i j = s.i j := rfl
@[simp] theorem State.n_setLane (s : State) (n : Nat) (x : Lane) (j : Nat) : (s.setLane n x).n j = s.n j := rfl
@[simp] theorem State.flag_setLane (s : State) (n : Nat) (x : Lane) (j : Nat) : (s.setLane n x).flag j = s.flag j := rfl
@[simp] theorem State.bytes_setLane (s : State) (n : Nat) (x : Lane) (j : Nat) : (s.setLane n x).bytes j = s.bytes j := rfl
@[simp] theorem State.armed_setLane (s : State) (n : Nat) (x : Lane) (j : Nat) : (s.setLane n x).armed j = s.armed j := rfl
@[simp] theorem State.due_setLane (s : State) (n : Nat) (x : Lane) (j : Nat) : (s.setLane n x).due j = s.due j := rfl
@[simp] theorem State.left_setLane (s : State) (n : Nat) (x : Lane) (j : Nat) : (s.setLane n x).left j = s.left j := rfl
@[simp] theorem State.enc_setLane (s : State) (n : Nat) (x : Lane) (j : Nat) : (s.setLane n x).enc j = s.enc j := rfl
@[simp] theorem State.slot_setLane (s : State) (n : Nat) (x : Lane) (j : Nat) : (s.setLane n x).slot j = s.slot j := rfl
@[simp] theorem State.ring_setLane (s : State) (n : Nat) (x : Lane) (j : Nat) : (s.setLane n x).ring j = s.ring j := rfl
@[simp] theorem State.domain_setLane (s : State) (n : Nat) (x : Lane) (j : Nat) : (s.setLane n x).domain j = s.domain j := rfl
@[simp] theorem State.thermo_setLane (s : State) (n : Nat) (x : Lane) (j : Nat) : (s.setLane n x).thermo j = s.thermo j := rfl
@[simp] theorem State.unit_setLane (s : State) (n : Nat) (x : Lane) (j : Nat) : (s.setLane n x).unit j = s.unit j := rfl
@[simp] theorem State.polygon_setLane (s : State) (n : Nat) (x : Lane) (j : Nat) : (s.setLane n x).polygon j = s.polygon j := rfl
@[simp] theorem State.station_setLane (s : State) (n : Nat) (x : Lane) (j : Nat) : (s.setLane n x).station j = s.station j := rfl
@[simp] theorem State.page_setLane (s : State) (n : Nat) (x : Lane) (j : Nat) : (s.setLane n x).page j = s.page j := rfl
@[simp] theorem State.queue_setLane (s : State) (n : Nat) (x : Lane) (j : Nat) : (s.setLane n x).queue j = s.queue j := rfl
@[simp] theorem State.buffer_setLane (s : State) (n : Nat) (x : Lane) (j : Nat) : (s.setLane n x).buffer j = s.buffer j := rfl
@[simp] theorem State.jobsOf_setLane (s : State) (n : Nat) (x : Lane) (j : Nat) : (s.setLane n x).jobsOf j = s.jobsOf j := rfl
@[simp] theorem State.turns_setLane (s : State) (n : Nat) (x : Lane) (j : Nat) : (s.setLane n x).turns j = s.turns j := rfl
@[simp] theorem State.stream_setLane (s : State) (n : Nat) (x : Lane) (j : Nat) : (s.setLane n x).stream j = s.stream j := rfl
@[simp] theorem State.lock_setLane (s : State) (n : Nat) (x : Lane) (j : Nat) : (s.setLane n x).lock j = s.lock j := rfl
@[simp] theorem State.ladleJob_setLane (s : State) (n : Nat) (x : Lane) (j : Nat) : (s.setLane n x).ladleJob j = s.ladleJob j := rfl
@[simp] theorem State.drive_setLane (s : State) (n : Nat) (x : Lane) (j : Nat) : (s.setLane n x).drive j = s.drive j := rfl
@[simp] theorem State.stepper_setLane (s : State) (n : Nat) (x : Lane) (j : Nat) : (s.setLane n x).stepper j = s.stepper j := rfl
@[simp] theorem State.loop_setLane (s : State) (n : Nat) (x : Lane) (j : Nat) : (s.setLane n x).loop j = s.loop j := rfl
@[simp] theorem State.hv_setLane (s : State) (n : Nat) (x : Lane) (j : Nat) : (s.setLane n x).hv j = s.hv j := rfl
@[simp] theorem State.zone_setLane (s : State) (n : Nat) (x : Lane) (j : Nat) : (s.setLane n x).zone j = s.zone j := rfl
@[simp] theorem State.on_setLane (s : State) (n : Nat) (x : Lane) (j : Nat) : (s.setLane n x).on j = s.on j := rfl

/-! ## setQueue -/

@[simp] theorem State.setQueue_s6 (s : State) (n : Nat) (x : (List Queued)) : (s.setQueue n x).s6 = s.s6 := rfl
@[simp] theorem State.setQueue_stamp (s : State) (n : Nat) (x : (List Queued)) : (s.setQueue n x).stamp = s.stamp := rfl
@[simp] theorem State.setQueue_od (s : State) (n : Nat) (x : (List Queued)) : (s.setQueue n x).od = s.od := rfl
@[simp] theorem State.setQueue_timers (s : State) (n : Nat) (x : (List Queued)) : (s.setQueue n x).timers = s.timers := rfl
@[simp] theorem State.setQueue_pos (s : State) (n : Nat) (x : (List Queued)) : (s.setQueue n x).pos = s.pos := rfl
@[simp] theorem State.setQueue_ev (s : State) (n : Nat) (x : (List Queued)) : (s.setQueue n x).ev = s.ev := rfl
@[simp] theorem State.setQueue_rings (s : State) (n : Nat) (x : (List Queued)) : (s.setQueue n x).rings = s.rings := rfl
@[simp] theorem State.setQueue_pcie (s : State) (n : Nat) (x : (List Queued)) : (s.setQueue n x).pcie = s.pcie := rfl
@[simp] theorem State.setQueue_polygons (s : State) (n : Nat) (x : (List Queued)) : (s.setQueue n x).polygons = s.polygons := rfl
@[simp] theorem State.setQueue_stations (s : State) (n : Nat) (x : (List Queued)) : (s.setQueue n x).stations = s.stations := rfl
@[simp] theorem State.setQueue_pages (s : State) (n : Nat) (x : (List Queued)) : (s.setQueue n x).pages = s.pages := rfl
@[simp] theorem State.setQueue_press_lanes (s : State) (n : Nat) (x : (List Queued)) : (s.setQueue n x).press.lanes = s.press.lanes := rfl
@[simp] theorem State.setQueue_press_buffers (s : State) (n : Nat) (x : (List Queued)) : (s.setQueue n x).press.buffers = s.press.buffers := rfl
@[simp] theorem State.setQueue_press_inbound (s : State) (n : Nat) (x : (List Queued)) : (s.setQueue n x).press.inbound = s.press.inbound := rfl
@[simp] theorem State.setQueue_press_retries (s : State) (n : Nat) (x : (List Queued)) : (s.setQueue n x).press.retries = s.press.retries := rfl
@[simp] theorem State.setQueue_press_jobs (s : State) (n : Nat) (x : (List Queued)) : (s.setQueue n x).press.jobs = s.press.jobs := rfl
@[simp] theorem State.setQueue_press_turns (s : State) (n : Nat) (x : (List Queued)) : (s.setQueue n x).press.turns = s.press.turns := rfl
@[simp] theorem State.setQueue_press_streams (s : State) (n : Nat) (x : (List Queued)) : (s.setQueue n x).press.streams = s.press.streams := rfl
@[simp] theorem State.setQueue_press_ingestLast (s : State) (n : Nat) (x : (List Queued)) : (s.setQueue n x).press.ingestLast = s.press.ingestLast := rfl
@[simp] theorem State.setQueue_press_nextBlock (s : State) (n : Nat) (x : (List Queued)) : (s.setQueue n x).press.nextBlock = s.press.nextBlock := rfl
@[simp] theorem State.setQueue_press_nextJob (s : State) (n : Nat) (x : (List Queued)) : (s.setQueue n x).press.nextJob = s.press.nextJob := rfl
@[simp] theorem State.setQueue_fabric (s : State) (n : Nat) (x : (List Queued)) : (s.setQueue n x).fabric = s.fabric := rfl
@[simp] theorem State.setQueue_drives (s : State) (n : Nat) (x : (List Queued)) : (s.setQueue n x).drives = s.drives := rfl
@[simp] theorem State.setQueue_steppers (s : State) (n : Nat) (x : (List Queued)) : (s.setQueue n x).steppers = s.steppers := rfl
@[simp] theorem State.setQueue_loops (s : State) (n : Nat) (x : (List Queued)) : (s.setQueue n x).loops = s.loops := rfl
@[simp] theorem State.setQueue_crock (s : State) (n : Nat) (x : (List Queued)) : (s.setQueue n x).crock = s.crock := rfl
@[simp] theorem State.setQueue_power (s : State) (n : Nat) (x : (List Queued)) : (s.setQueue n x).power = s.power := rfl
@[simp] theorem State.setQueue_lid (s : State) (n : Nat) (x : (List Queued)) : (s.setQueue n x).lid = s.lid := rfl
@[simp] theorem State.setQueue_twin (s : State) (n : Nat) (x : (List Queued)) : (s.setQueue n x).twin = s.twin := rfl
@[simp] theorem State.setQueue_trust (s : State) (n : Nat) (x : (List Queued)) : (s.setQueue n x).trust = s.trust := rfl
@[simp] theorem State.setQueue_svc (s : State) (n : Nat) (x : (List Queued)) : (s.setQueue n x).svc = s.svc := rfl
@[simp] theorem State.setQueue_drawn (s : State) (n : Nat) (x : (List Queued)) : (s.setQueue n x).drawn = s.drawn := rfl
@[simp] theorem State.setQueue_pending (s : State) (n : Nat) (x : (List Queued)) : (s.setQueue n x).pending = s.pending := rfl
@[simp] theorem State.val_setQueue (s : State) (n : Nat) (x : (List Queued)) (j : Nat) : (s.setQueue n x).val j = s.val j := rfl
@[simp] theorem State.i_setQueue (s : State) (n : Nat) (x : (List Queued)) (j : Nat) : (s.setQueue n x).i j = s.i j := rfl
@[simp] theorem State.n_setQueue (s : State) (n : Nat) (x : (List Queued)) (j : Nat) : (s.setQueue n x).n j = s.n j := rfl
@[simp] theorem State.flag_setQueue (s : State) (n : Nat) (x : (List Queued)) (j : Nat) : (s.setQueue n x).flag j = s.flag j := rfl
@[simp] theorem State.bytes_setQueue (s : State) (n : Nat) (x : (List Queued)) (j : Nat) : (s.setQueue n x).bytes j = s.bytes j := rfl
@[simp] theorem State.armed_setQueue (s : State) (n : Nat) (x : (List Queued)) (j : Nat) : (s.setQueue n x).armed j = s.armed j := rfl
@[simp] theorem State.due_setQueue (s : State) (n : Nat) (x : (List Queued)) (j : Nat) : (s.setQueue n x).due j = s.due j := rfl
@[simp] theorem State.left_setQueue (s : State) (n : Nat) (x : (List Queued)) (j : Nat) : (s.setQueue n x).left j = s.left j := rfl
@[simp] theorem State.enc_setQueue (s : State) (n : Nat) (x : (List Queued)) (j : Nat) : (s.setQueue n x).enc j = s.enc j := rfl
@[simp] theorem State.slot_setQueue (s : State) (n : Nat) (x : (List Queued)) (j : Nat) : (s.setQueue n x).slot j = s.slot j := rfl
@[simp] theorem State.ring_setQueue (s : State) (n : Nat) (x : (List Queued)) (j : Nat) : (s.setQueue n x).ring j = s.ring j := rfl
@[simp] theorem State.domain_setQueue (s : State) (n : Nat) (x : (List Queued)) (j : Nat) : (s.setQueue n x).domain j = s.domain j := rfl
@[simp] theorem State.thermo_setQueue (s : State) (n : Nat) (x : (List Queued)) (j : Nat) : (s.setQueue n x).thermo j = s.thermo j := rfl
@[simp] theorem State.unit_setQueue (s : State) (n : Nat) (x : (List Queued)) (j : Nat) : (s.setQueue n x).unit j = s.unit j := rfl
@[simp] theorem State.polygon_setQueue (s : State) (n : Nat) (x : (List Queued)) (j : Nat) : (s.setQueue n x).polygon j = s.polygon j := rfl
@[simp] theorem State.station_setQueue (s : State) (n : Nat) (x : (List Queued)) (j : Nat) : (s.setQueue n x).station j = s.station j := rfl
@[simp] theorem State.page_setQueue (s : State) (n : Nat) (x : (List Queued)) (j : Nat) : (s.setQueue n x).page j = s.page j := rfl
@[simp] theorem State.lane_setQueue (s : State) (n : Nat) (x : (List Queued)) (j : Nat) : (s.setQueue n x).lane j = s.lane j := rfl
@[simp] theorem State.buffer_setQueue (s : State) (n : Nat) (x : (List Queued)) (j : Nat) : (s.setQueue n x).buffer j = s.buffer j := rfl
@[simp] theorem State.jobsOf_setQueue (s : State) (n : Nat) (x : (List Queued)) (j : Nat) : (s.setQueue n x).jobsOf j = s.jobsOf j := rfl
@[simp] theorem State.turns_setQueue (s : State) (n : Nat) (x : (List Queued)) (j : Nat) : (s.setQueue n x).turns j = s.turns j := rfl
@[simp] theorem State.stream_setQueue (s : State) (n : Nat) (x : (List Queued)) (j : Nat) : (s.setQueue n x).stream j = s.stream j := rfl
@[simp] theorem State.lock_setQueue (s : State) (n : Nat) (x : (List Queued)) (j : Nat) : (s.setQueue n x).lock j = s.lock j := rfl
@[simp] theorem State.ladleJob_setQueue (s : State) (n : Nat) (x : (List Queued)) (j : Nat) : (s.setQueue n x).ladleJob j = s.ladleJob j := rfl
@[simp] theorem State.drive_setQueue (s : State) (n : Nat) (x : (List Queued)) (j : Nat) : (s.setQueue n x).drive j = s.drive j := rfl
@[simp] theorem State.stepper_setQueue (s : State) (n : Nat) (x : (List Queued)) (j : Nat) : (s.setQueue n x).stepper j = s.stepper j := rfl
@[simp] theorem State.loop_setQueue (s : State) (n : Nat) (x : (List Queued)) (j : Nat) : (s.setQueue n x).loop j = s.loop j := rfl
@[simp] theorem State.hv_setQueue (s : State) (n : Nat) (x : (List Queued)) (j : Nat) : (s.setQueue n x).hv j = s.hv j := rfl
@[simp] theorem State.zone_setQueue (s : State) (n : Nat) (x : (List Queued)) (j : Nat) : (s.setQueue n x).zone j = s.zone j := rfl
@[simp] theorem State.on_setQueue (s : State) (n : Nat) (x : (List Queued)) (j : Nat) : (s.setQueue n x).on j = s.on j := rfl

/-! ## setBuffer -/

@[simp] theorem State.setBuffer_s6 (s : State) (n : Nat) (x : Buffer) : (s.setBuffer n x).s6 = s.s6 := rfl
@[simp] theorem State.setBuffer_stamp (s : State) (n : Nat) (x : Buffer) : (s.setBuffer n x).stamp = s.stamp := rfl
@[simp] theorem State.setBuffer_od (s : State) (n : Nat) (x : Buffer) : (s.setBuffer n x).od = s.od := rfl
@[simp] theorem State.setBuffer_timers (s : State) (n : Nat) (x : Buffer) : (s.setBuffer n x).timers = s.timers := rfl
@[simp] theorem State.setBuffer_pos (s : State) (n : Nat) (x : Buffer) : (s.setBuffer n x).pos = s.pos := rfl
@[simp] theorem State.setBuffer_ev (s : State) (n : Nat) (x : Buffer) : (s.setBuffer n x).ev = s.ev := rfl
@[simp] theorem State.setBuffer_rings (s : State) (n : Nat) (x : Buffer) : (s.setBuffer n x).rings = s.rings := rfl
@[simp] theorem State.setBuffer_pcie (s : State) (n : Nat) (x : Buffer) : (s.setBuffer n x).pcie = s.pcie := rfl
@[simp] theorem State.setBuffer_polygons (s : State) (n : Nat) (x : Buffer) : (s.setBuffer n x).polygons = s.polygons := rfl
@[simp] theorem State.setBuffer_stations (s : State) (n : Nat) (x : Buffer) : (s.setBuffer n x).stations = s.stations := rfl
@[simp] theorem State.setBuffer_pages (s : State) (n : Nat) (x : Buffer) : (s.setBuffer n x).pages = s.pages := rfl
@[simp] theorem State.setBuffer_press_lanes (s : State) (n : Nat) (x : Buffer) : (s.setBuffer n x).press.lanes = s.press.lanes := rfl
@[simp] theorem State.setBuffer_press_queues (s : State) (n : Nat) (x : Buffer) : (s.setBuffer n x).press.queues = s.press.queues := rfl
@[simp] theorem State.setBuffer_press_inbound (s : State) (n : Nat) (x : Buffer) : (s.setBuffer n x).press.inbound = s.press.inbound := rfl
@[simp] theorem State.setBuffer_press_retries (s : State) (n : Nat) (x : Buffer) : (s.setBuffer n x).press.retries = s.press.retries := rfl
@[simp] theorem State.setBuffer_press_jobs (s : State) (n : Nat) (x : Buffer) : (s.setBuffer n x).press.jobs = s.press.jobs := rfl
@[simp] theorem State.setBuffer_press_turns (s : State) (n : Nat) (x : Buffer) : (s.setBuffer n x).press.turns = s.press.turns := rfl
@[simp] theorem State.setBuffer_press_streams (s : State) (n : Nat) (x : Buffer) : (s.setBuffer n x).press.streams = s.press.streams := rfl
@[simp] theorem State.setBuffer_press_ingestLast (s : State) (n : Nat) (x : Buffer) : (s.setBuffer n x).press.ingestLast = s.press.ingestLast := rfl
@[simp] theorem State.setBuffer_press_nextBlock (s : State) (n : Nat) (x : Buffer) : (s.setBuffer n x).press.nextBlock = s.press.nextBlock := rfl
@[simp] theorem State.setBuffer_press_nextJob (s : State) (n : Nat) (x : Buffer) : (s.setBuffer n x).press.nextJob = s.press.nextJob := rfl
@[simp] theorem State.setBuffer_fabric (s : State) (n : Nat) (x : Buffer) : (s.setBuffer n x).fabric = s.fabric := rfl
@[simp] theorem State.setBuffer_drives (s : State) (n : Nat) (x : Buffer) : (s.setBuffer n x).drives = s.drives := rfl
@[simp] theorem State.setBuffer_steppers (s : State) (n : Nat) (x : Buffer) : (s.setBuffer n x).steppers = s.steppers := rfl
@[simp] theorem State.setBuffer_loops (s : State) (n : Nat) (x : Buffer) : (s.setBuffer n x).loops = s.loops := rfl
@[simp] theorem State.setBuffer_crock (s : State) (n : Nat) (x : Buffer) : (s.setBuffer n x).crock = s.crock := rfl
@[simp] theorem State.setBuffer_power (s : State) (n : Nat) (x : Buffer) : (s.setBuffer n x).power = s.power := rfl
@[simp] theorem State.setBuffer_lid (s : State) (n : Nat) (x : Buffer) : (s.setBuffer n x).lid = s.lid := rfl
@[simp] theorem State.setBuffer_twin (s : State) (n : Nat) (x : Buffer) : (s.setBuffer n x).twin = s.twin := rfl
@[simp] theorem State.setBuffer_trust (s : State) (n : Nat) (x : Buffer) : (s.setBuffer n x).trust = s.trust := rfl
@[simp] theorem State.setBuffer_svc (s : State) (n : Nat) (x : Buffer) : (s.setBuffer n x).svc = s.svc := rfl
@[simp] theorem State.setBuffer_drawn (s : State) (n : Nat) (x : Buffer) : (s.setBuffer n x).drawn = s.drawn := rfl
@[simp] theorem State.setBuffer_pending (s : State) (n : Nat) (x : Buffer) : (s.setBuffer n x).pending = s.pending := rfl
@[simp] theorem State.val_setBuffer (s : State) (n : Nat) (x : Buffer) (j : Nat) : (s.setBuffer n x).val j = s.val j := rfl
@[simp] theorem State.i_setBuffer (s : State) (n : Nat) (x : Buffer) (j : Nat) : (s.setBuffer n x).i j = s.i j := rfl
@[simp] theorem State.n_setBuffer (s : State) (n : Nat) (x : Buffer) (j : Nat) : (s.setBuffer n x).n j = s.n j := rfl
@[simp] theorem State.flag_setBuffer (s : State) (n : Nat) (x : Buffer) (j : Nat) : (s.setBuffer n x).flag j = s.flag j := rfl
@[simp] theorem State.bytes_setBuffer (s : State) (n : Nat) (x : Buffer) (j : Nat) : (s.setBuffer n x).bytes j = s.bytes j := rfl
@[simp] theorem State.armed_setBuffer (s : State) (n : Nat) (x : Buffer) (j : Nat) : (s.setBuffer n x).armed j = s.armed j := rfl
@[simp] theorem State.due_setBuffer (s : State) (n : Nat) (x : Buffer) (j : Nat) : (s.setBuffer n x).due j = s.due j := rfl
@[simp] theorem State.left_setBuffer (s : State) (n : Nat) (x : Buffer) (j : Nat) : (s.setBuffer n x).left j = s.left j := rfl
@[simp] theorem State.enc_setBuffer (s : State) (n : Nat) (x : Buffer) (j : Nat) : (s.setBuffer n x).enc j = s.enc j := rfl
@[simp] theorem State.slot_setBuffer (s : State) (n : Nat) (x : Buffer) (j : Nat) : (s.setBuffer n x).slot j = s.slot j := rfl
@[simp] theorem State.ring_setBuffer (s : State) (n : Nat) (x : Buffer) (j : Nat) : (s.setBuffer n x).ring j = s.ring j := rfl
@[simp] theorem State.domain_setBuffer (s : State) (n : Nat) (x : Buffer) (j : Nat) : (s.setBuffer n x).domain j = s.domain j := rfl
@[simp] theorem State.thermo_setBuffer (s : State) (n : Nat) (x : Buffer) (j : Nat) : (s.setBuffer n x).thermo j = s.thermo j := rfl
@[simp] theorem State.unit_setBuffer (s : State) (n : Nat) (x : Buffer) (j : Nat) : (s.setBuffer n x).unit j = s.unit j := rfl
@[simp] theorem State.polygon_setBuffer (s : State) (n : Nat) (x : Buffer) (j : Nat) : (s.setBuffer n x).polygon j = s.polygon j := rfl
@[simp] theorem State.station_setBuffer (s : State) (n : Nat) (x : Buffer) (j : Nat) : (s.setBuffer n x).station j = s.station j := rfl
@[simp] theorem State.page_setBuffer (s : State) (n : Nat) (x : Buffer) (j : Nat) : (s.setBuffer n x).page j = s.page j := rfl
@[simp] theorem State.lane_setBuffer (s : State) (n : Nat) (x : Buffer) (j : Nat) : (s.setBuffer n x).lane j = s.lane j := rfl
@[simp] theorem State.queue_setBuffer (s : State) (n : Nat) (x : Buffer) (j : Nat) : (s.setBuffer n x).queue j = s.queue j := rfl
@[simp] theorem State.jobsOf_setBuffer (s : State) (n : Nat) (x : Buffer) (j : Nat) : (s.setBuffer n x).jobsOf j = s.jobsOf j := rfl
@[simp] theorem State.turns_setBuffer (s : State) (n : Nat) (x : Buffer) (j : Nat) : (s.setBuffer n x).turns j = s.turns j := rfl
@[simp] theorem State.stream_setBuffer (s : State) (n : Nat) (x : Buffer) (j : Nat) : (s.setBuffer n x).stream j = s.stream j := rfl
@[simp] theorem State.lock_setBuffer (s : State) (n : Nat) (x : Buffer) (j : Nat) : (s.setBuffer n x).lock j = s.lock j := rfl
@[simp] theorem State.ladleJob_setBuffer (s : State) (n : Nat) (x : Buffer) (j : Nat) : (s.setBuffer n x).ladleJob j = s.ladleJob j := rfl
@[simp] theorem State.drive_setBuffer (s : State) (n : Nat) (x : Buffer) (j : Nat) : (s.setBuffer n x).drive j = s.drive j := rfl
@[simp] theorem State.stepper_setBuffer (s : State) (n : Nat) (x : Buffer) (j : Nat) : (s.setBuffer n x).stepper j = s.stepper j := rfl
@[simp] theorem State.loop_setBuffer (s : State) (n : Nat) (x : Buffer) (j : Nat) : (s.setBuffer n x).loop j = s.loop j := rfl
@[simp] theorem State.hv_setBuffer (s : State) (n : Nat) (x : Buffer) (j : Nat) : (s.setBuffer n x).hv j = s.hv j := rfl
@[simp] theorem State.zone_setBuffer (s : State) (n : Nat) (x : Buffer) (j : Nat) : (s.setBuffer n x).zone j = s.zone j := rfl
@[simp] theorem State.on_setBuffer (s : State) (n : Nat) (x : Buffer) (j : Nat) : (s.setBuffer n x).on j = s.on j := rfl

/-! ## setJobs -/

@[simp] theorem State.setJobs_s6 (s : State) (n : Nat) (x : (List Job)) : (s.setJobs n x).s6 = s.s6 := rfl
@[simp] theorem State.setJobs_stamp (s : State) (n : Nat) (x : (List Job)) : (s.setJobs n x).stamp = s.stamp := rfl
@[simp] theorem State.setJobs_od (s : State) (n : Nat) (x : (List Job)) : (s.setJobs n x).od = s.od := rfl
@[simp] theorem State.setJobs_timers (s : State) (n : Nat) (x : (List Job)) : (s.setJobs n x).timers = s.timers := rfl
@[simp] theorem State.setJobs_pos (s : State) (n : Nat) (x : (List Job)) : (s.setJobs n x).pos = s.pos := rfl
@[simp] theorem State.setJobs_ev (s : State) (n : Nat) (x : (List Job)) : (s.setJobs n x).ev = s.ev := rfl
@[simp] theorem State.setJobs_rings (s : State) (n : Nat) (x : (List Job)) : (s.setJobs n x).rings = s.rings := rfl
@[simp] theorem State.setJobs_pcie (s : State) (n : Nat) (x : (List Job)) : (s.setJobs n x).pcie = s.pcie := rfl
@[simp] theorem State.setJobs_polygons (s : State) (n : Nat) (x : (List Job)) : (s.setJobs n x).polygons = s.polygons := rfl
@[simp] theorem State.setJobs_stations (s : State) (n : Nat) (x : (List Job)) : (s.setJobs n x).stations = s.stations := rfl
@[simp] theorem State.setJobs_pages (s : State) (n : Nat) (x : (List Job)) : (s.setJobs n x).pages = s.pages := rfl
@[simp] theorem State.setJobs_press_lanes (s : State) (n : Nat) (x : (List Job)) : (s.setJobs n x).press.lanes = s.press.lanes := rfl
@[simp] theorem State.setJobs_press_queues (s : State) (n : Nat) (x : (List Job)) : (s.setJobs n x).press.queues = s.press.queues := rfl
@[simp] theorem State.setJobs_press_buffers (s : State) (n : Nat) (x : (List Job)) : (s.setJobs n x).press.buffers = s.press.buffers := rfl
@[simp] theorem State.setJobs_press_inbound (s : State) (n : Nat) (x : (List Job)) : (s.setJobs n x).press.inbound = s.press.inbound := rfl
@[simp] theorem State.setJobs_press_retries (s : State) (n : Nat) (x : (List Job)) : (s.setJobs n x).press.retries = s.press.retries := rfl
@[simp] theorem State.setJobs_press_turns (s : State) (n : Nat) (x : (List Job)) : (s.setJobs n x).press.turns = s.press.turns := rfl
@[simp] theorem State.setJobs_press_streams (s : State) (n : Nat) (x : (List Job)) : (s.setJobs n x).press.streams = s.press.streams := rfl
@[simp] theorem State.setJobs_press_ingestLast (s : State) (n : Nat) (x : (List Job)) : (s.setJobs n x).press.ingestLast = s.press.ingestLast := rfl
@[simp] theorem State.setJobs_press_nextBlock (s : State) (n : Nat) (x : (List Job)) : (s.setJobs n x).press.nextBlock = s.press.nextBlock := rfl
@[simp] theorem State.setJobs_press_nextJob (s : State) (n : Nat) (x : (List Job)) : (s.setJobs n x).press.nextJob = s.press.nextJob := rfl
@[simp] theorem State.setJobs_fabric (s : State) (n : Nat) (x : (List Job)) : (s.setJobs n x).fabric = s.fabric := rfl
@[simp] theorem State.setJobs_drives (s : State) (n : Nat) (x : (List Job)) : (s.setJobs n x).drives = s.drives := rfl
@[simp] theorem State.setJobs_steppers (s : State) (n : Nat) (x : (List Job)) : (s.setJobs n x).steppers = s.steppers := rfl
@[simp] theorem State.setJobs_loops (s : State) (n : Nat) (x : (List Job)) : (s.setJobs n x).loops = s.loops := rfl
@[simp] theorem State.setJobs_crock (s : State) (n : Nat) (x : (List Job)) : (s.setJobs n x).crock = s.crock := rfl
@[simp] theorem State.setJobs_power (s : State) (n : Nat) (x : (List Job)) : (s.setJobs n x).power = s.power := rfl
@[simp] theorem State.setJobs_lid (s : State) (n : Nat) (x : (List Job)) : (s.setJobs n x).lid = s.lid := rfl
@[simp] theorem State.setJobs_twin (s : State) (n : Nat) (x : (List Job)) : (s.setJobs n x).twin = s.twin := rfl
@[simp] theorem State.setJobs_trust (s : State) (n : Nat) (x : (List Job)) : (s.setJobs n x).trust = s.trust := rfl
@[simp] theorem State.setJobs_svc (s : State) (n : Nat) (x : (List Job)) : (s.setJobs n x).svc = s.svc := rfl
@[simp] theorem State.setJobs_drawn (s : State) (n : Nat) (x : (List Job)) : (s.setJobs n x).drawn = s.drawn := rfl
@[simp] theorem State.setJobs_pending (s : State) (n : Nat) (x : (List Job)) : (s.setJobs n x).pending = s.pending := rfl
@[simp] theorem State.val_setJobs (s : State) (n : Nat) (x : (List Job)) (j : Nat) : (s.setJobs n x).val j = s.val j := rfl
@[simp] theorem State.i_setJobs (s : State) (n : Nat) (x : (List Job)) (j : Nat) : (s.setJobs n x).i j = s.i j := rfl
@[simp] theorem State.n_setJobs (s : State) (n : Nat) (x : (List Job)) (j : Nat) : (s.setJobs n x).n j = s.n j := rfl
@[simp] theorem State.flag_setJobs (s : State) (n : Nat) (x : (List Job)) (j : Nat) : (s.setJobs n x).flag j = s.flag j := rfl
@[simp] theorem State.bytes_setJobs (s : State) (n : Nat) (x : (List Job)) (j : Nat) : (s.setJobs n x).bytes j = s.bytes j := rfl
@[simp] theorem State.armed_setJobs (s : State) (n : Nat) (x : (List Job)) (j : Nat) : (s.setJobs n x).armed j = s.armed j := rfl
@[simp] theorem State.due_setJobs (s : State) (n : Nat) (x : (List Job)) (j : Nat) : (s.setJobs n x).due j = s.due j := rfl
@[simp] theorem State.left_setJobs (s : State) (n : Nat) (x : (List Job)) (j : Nat) : (s.setJobs n x).left j = s.left j := rfl
@[simp] theorem State.enc_setJobs (s : State) (n : Nat) (x : (List Job)) (j : Nat) : (s.setJobs n x).enc j = s.enc j := rfl
@[simp] theorem State.slot_setJobs (s : State) (n : Nat) (x : (List Job)) (j : Nat) : (s.setJobs n x).slot j = s.slot j := rfl
@[simp] theorem State.ring_setJobs (s : State) (n : Nat) (x : (List Job)) (j : Nat) : (s.setJobs n x).ring j = s.ring j := rfl
@[simp] theorem State.domain_setJobs (s : State) (n : Nat) (x : (List Job)) (j : Nat) : (s.setJobs n x).domain j = s.domain j := rfl
@[simp] theorem State.thermo_setJobs (s : State) (n : Nat) (x : (List Job)) (j : Nat) : (s.setJobs n x).thermo j = s.thermo j := rfl
@[simp] theorem State.unit_setJobs (s : State) (n : Nat) (x : (List Job)) (j : Nat) : (s.setJobs n x).unit j = s.unit j := rfl
@[simp] theorem State.polygon_setJobs (s : State) (n : Nat) (x : (List Job)) (j : Nat) : (s.setJobs n x).polygon j = s.polygon j := rfl
@[simp] theorem State.station_setJobs (s : State) (n : Nat) (x : (List Job)) (j : Nat) : (s.setJobs n x).station j = s.station j := rfl
@[simp] theorem State.page_setJobs (s : State) (n : Nat) (x : (List Job)) (j : Nat) : (s.setJobs n x).page j = s.page j := rfl
@[simp] theorem State.lane_setJobs (s : State) (n : Nat) (x : (List Job)) (j : Nat) : (s.setJobs n x).lane j = s.lane j := rfl
@[simp] theorem State.queue_setJobs (s : State) (n : Nat) (x : (List Job)) (j : Nat) : (s.setJobs n x).queue j = s.queue j := rfl
@[simp] theorem State.buffer_setJobs (s : State) (n : Nat) (x : (List Job)) (j : Nat) : (s.setJobs n x).buffer j = s.buffer j := rfl
@[simp] theorem State.turns_setJobs (s : State) (n : Nat) (x : (List Job)) (j : Nat) : (s.setJobs n x).turns j = s.turns j := rfl
@[simp] theorem State.stream_setJobs (s : State) (n : Nat) (x : (List Job)) (j : Nat) : (s.setJobs n x).stream j = s.stream j := rfl
@[simp] theorem State.lock_setJobs (s : State) (n : Nat) (x : (List Job)) (j : Nat) : (s.setJobs n x).lock j = s.lock j := rfl
@[simp] theorem State.ladleJob_setJobs (s : State) (n : Nat) (x : (List Job)) (j : Nat) : (s.setJobs n x).ladleJob j = s.ladleJob j := rfl
@[simp] theorem State.drive_setJobs (s : State) (n : Nat) (x : (List Job)) (j : Nat) : (s.setJobs n x).drive j = s.drive j := rfl
@[simp] theorem State.stepper_setJobs (s : State) (n : Nat) (x : (List Job)) (j : Nat) : (s.setJobs n x).stepper j = s.stepper j := rfl
@[simp] theorem State.loop_setJobs (s : State) (n : Nat) (x : (List Job)) (j : Nat) : (s.setJobs n x).loop j = s.loop j := rfl
@[simp] theorem State.hv_setJobs (s : State) (n : Nat) (x : (List Job)) (j : Nat) : (s.setJobs n x).hv j = s.hv j := rfl
@[simp] theorem State.zone_setJobs (s : State) (n : Nat) (x : (List Job)) (j : Nat) : (s.setJobs n x).zone j = s.zone j := rfl
@[simp] theorem State.on_setJobs (s : State) (n : Nat) (x : (List Job)) (j : Nat) : (s.setJobs n x).on j = s.on j := rfl

/-! ## setTurns -/

@[simp] theorem State.setTurns_s6 (s : State) (n : Nat) (x : (List Nat)) : (s.setTurns n x).s6 = s.s6 := rfl
@[simp] theorem State.setTurns_stamp (s : State) (n : Nat) (x : (List Nat)) : (s.setTurns n x).stamp = s.stamp := rfl
@[simp] theorem State.setTurns_od (s : State) (n : Nat) (x : (List Nat)) : (s.setTurns n x).od = s.od := rfl
@[simp] theorem State.setTurns_timers (s : State) (n : Nat) (x : (List Nat)) : (s.setTurns n x).timers = s.timers := rfl
@[simp] theorem State.setTurns_pos (s : State) (n : Nat) (x : (List Nat)) : (s.setTurns n x).pos = s.pos := rfl
@[simp] theorem State.setTurns_ev (s : State) (n : Nat) (x : (List Nat)) : (s.setTurns n x).ev = s.ev := rfl
@[simp] theorem State.setTurns_rings (s : State) (n : Nat) (x : (List Nat)) : (s.setTurns n x).rings = s.rings := rfl
@[simp] theorem State.setTurns_pcie (s : State) (n : Nat) (x : (List Nat)) : (s.setTurns n x).pcie = s.pcie := rfl
@[simp] theorem State.setTurns_polygons (s : State) (n : Nat) (x : (List Nat)) : (s.setTurns n x).polygons = s.polygons := rfl
@[simp] theorem State.setTurns_stations (s : State) (n : Nat) (x : (List Nat)) : (s.setTurns n x).stations = s.stations := rfl
@[simp] theorem State.setTurns_pages (s : State) (n : Nat) (x : (List Nat)) : (s.setTurns n x).pages = s.pages := rfl
@[simp] theorem State.setTurns_press_lanes (s : State) (n : Nat) (x : (List Nat)) : (s.setTurns n x).press.lanes = s.press.lanes := rfl
@[simp] theorem State.setTurns_press_queues (s : State) (n : Nat) (x : (List Nat)) : (s.setTurns n x).press.queues = s.press.queues := rfl
@[simp] theorem State.setTurns_press_buffers (s : State) (n : Nat) (x : (List Nat)) : (s.setTurns n x).press.buffers = s.press.buffers := rfl
@[simp] theorem State.setTurns_press_inbound (s : State) (n : Nat) (x : (List Nat)) : (s.setTurns n x).press.inbound = s.press.inbound := rfl
@[simp] theorem State.setTurns_press_retries (s : State) (n : Nat) (x : (List Nat)) : (s.setTurns n x).press.retries = s.press.retries := rfl
@[simp] theorem State.setTurns_press_jobs (s : State) (n : Nat) (x : (List Nat)) : (s.setTurns n x).press.jobs = s.press.jobs := rfl
@[simp] theorem State.setTurns_press_streams (s : State) (n : Nat) (x : (List Nat)) : (s.setTurns n x).press.streams = s.press.streams := rfl
@[simp] theorem State.setTurns_press_ingestLast (s : State) (n : Nat) (x : (List Nat)) : (s.setTurns n x).press.ingestLast = s.press.ingestLast := rfl
@[simp] theorem State.setTurns_press_nextBlock (s : State) (n : Nat) (x : (List Nat)) : (s.setTurns n x).press.nextBlock = s.press.nextBlock := rfl
@[simp] theorem State.setTurns_press_nextJob (s : State) (n : Nat) (x : (List Nat)) : (s.setTurns n x).press.nextJob = s.press.nextJob := rfl
@[simp] theorem State.setTurns_fabric (s : State) (n : Nat) (x : (List Nat)) : (s.setTurns n x).fabric = s.fabric := rfl
@[simp] theorem State.setTurns_drives (s : State) (n : Nat) (x : (List Nat)) : (s.setTurns n x).drives = s.drives := rfl
@[simp] theorem State.setTurns_steppers (s : State) (n : Nat) (x : (List Nat)) : (s.setTurns n x).steppers = s.steppers := rfl
@[simp] theorem State.setTurns_loops (s : State) (n : Nat) (x : (List Nat)) : (s.setTurns n x).loops = s.loops := rfl
@[simp] theorem State.setTurns_crock (s : State) (n : Nat) (x : (List Nat)) : (s.setTurns n x).crock = s.crock := rfl
@[simp] theorem State.setTurns_power (s : State) (n : Nat) (x : (List Nat)) : (s.setTurns n x).power = s.power := rfl
@[simp] theorem State.setTurns_lid (s : State) (n : Nat) (x : (List Nat)) : (s.setTurns n x).lid = s.lid := rfl
@[simp] theorem State.setTurns_twin (s : State) (n : Nat) (x : (List Nat)) : (s.setTurns n x).twin = s.twin := rfl
@[simp] theorem State.setTurns_trust (s : State) (n : Nat) (x : (List Nat)) : (s.setTurns n x).trust = s.trust := rfl
@[simp] theorem State.setTurns_svc (s : State) (n : Nat) (x : (List Nat)) : (s.setTurns n x).svc = s.svc := rfl
@[simp] theorem State.setTurns_drawn (s : State) (n : Nat) (x : (List Nat)) : (s.setTurns n x).drawn = s.drawn := rfl
@[simp] theorem State.setTurns_pending (s : State) (n : Nat) (x : (List Nat)) : (s.setTurns n x).pending = s.pending := rfl
@[simp] theorem State.val_setTurns (s : State) (n : Nat) (x : (List Nat)) (j : Nat) : (s.setTurns n x).val j = s.val j := rfl
@[simp] theorem State.i_setTurns (s : State) (n : Nat) (x : (List Nat)) (j : Nat) : (s.setTurns n x).i j = s.i j := rfl
@[simp] theorem State.n_setTurns (s : State) (n : Nat) (x : (List Nat)) (j : Nat) : (s.setTurns n x).n j = s.n j := rfl
@[simp] theorem State.flag_setTurns (s : State) (n : Nat) (x : (List Nat)) (j : Nat) : (s.setTurns n x).flag j = s.flag j := rfl
@[simp] theorem State.bytes_setTurns (s : State) (n : Nat) (x : (List Nat)) (j : Nat) : (s.setTurns n x).bytes j = s.bytes j := rfl
@[simp] theorem State.armed_setTurns (s : State) (n : Nat) (x : (List Nat)) (j : Nat) : (s.setTurns n x).armed j = s.armed j := rfl
@[simp] theorem State.due_setTurns (s : State) (n : Nat) (x : (List Nat)) (j : Nat) : (s.setTurns n x).due j = s.due j := rfl
@[simp] theorem State.left_setTurns (s : State) (n : Nat) (x : (List Nat)) (j : Nat) : (s.setTurns n x).left j = s.left j := rfl
@[simp] theorem State.enc_setTurns (s : State) (n : Nat) (x : (List Nat)) (j : Nat) : (s.setTurns n x).enc j = s.enc j := rfl
@[simp] theorem State.slot_setTurns (s : State) (n : Nat) (x : (List Nat)) (j : Nat) : (s.setTurns n x).slot j = s.slot j := rfl
@[simp] theorem State.ring_setTurns (s : State) (n : Nat) (x : (List Nat)) (j : Nat) : (s.setTurns n x).ring j = s.ring j := rfl
@[simp] theorem State.domain_setTurns (s : State) (n : Nat) (x : (List Nat)) (j : Nat) : (s.setTurns n x).domain j = s.domain j := rfl
@[simp] theorem State.thermo_setTurns (s : State) (n : Nat) (x : (List Nat)) (j : Nat) : (s.setTurns n x).thermo j = s.thermo j := rfl
@[simp] theorem State.unit_setTurns (s : State) (n : Nat) (x : (List Nat)) (j : Nat) : (s.setTurns n x).unit j = s.unit j := rfl
@[simp] theorem State.polygon_setTurns (s : State) (n : Nat) (x : (List Nat)) (j : Nat) : (s.setTurns n x).polygon j = s.polygon j := rfl
@[simp] theorem State.station_setTurns (s : State) (n : Nat) (x : (List Nat)) (j : Nat) : (s.setTurns n x).station j = s.station j := rfl
@[simp] theorem State.page_setTurns (s : State) (n : Nat) (x : (List Nat)) (j : Nat) : (s.setTurns n x).page j = s.page j := rfl
@[simp] theorem State.lane_setTurns (s : State) (n : Nat) (x : (List Nat)) (j : Nat) : (s.setTurns n x).lane j = s.lane j := rfl
@[simp] theorem State.queue_setTurns (s : State) (n : Nat) (x : (List Nat)) (j : Nat) : (s.setTurns n x).queue j = s.queue j := rfl
@[simp] theorem State.buffer_setTurns (s : State) (n : Nat) (x : (List Nat)) (j : Nat) : (s.setTurns n x).buffer j = s.buffer j := rfl
@[simp] theorem State.jobsOf_setTurns (s : State) (n : Nat) (x : (List Nat)) (j : Nat) : (s.setTurns n x).jobsOf j = s.jobsOf j := rfl
@[simp] theorem State.stream_setTurns (s : State) (n : Nat) (x : (List Nat)) (j : Nat) : (s.setTurns n x).stream j = s.stream j := rfl
@[simp] theorem State.lock_setTurns (s : State) (n : Nat) (x : (List Nat)) (j : Nat) : (s.setTurns n x).lock j = s.lock j := rfl
@[simp] theorem State.ladleJob_setTurns (s : State) (n : Nat) (x : (List Nat)) (j : Nat) : (s.setTurns n x).ladleJob j = s.ladleJob j := rfl
@[simp] theorem State.drive_setTurns (s : State) (n : Nat) (x : (List Nat)) (j : Nat) : (s.setTurns n x).drive j = s.drive j := rfl
@[simp] theorem State.stepper_setTurns (s : State) (n : Nat) (x : (List Nat)) (j : Nat) : (s.setTurns n x).stepper j = s.stepper j := rfl
@[simp] theorem State.loop_setTurns (s : State) (n : Nat) (x : (List Nat)) (j : Nat) : (s.setTurns n x).loop j = s.loop j := rfl
@[simp] theorem State.hv_setTurns (s : State) (n : Nat) (x : (List Nat)) (j : Nat) : (s.setTurns n x).hv j = s.hv j := rfl
@[simp] theorem State.zone_setTurns (s : State) (n : Nat) (x : (List Nat)) (j : Nat) : (s.setTurns n x).zone j = s.zone j := rfl
@[simp] theorem State.on_setTurns (s : State) (n : Nat) (x : (List Nat)) (j : Nat) : (s.setTurns n x).on j = s.on j := rfl

/-! ## setStream -/

@[simp] theorem State.setStream_s6 (s : State) (n : Nat) (x : Stream) : (s.setStream n x).s6 = s.s6 := rfl
@[simp] theorem State.setStream_stamp (s : State) (n : Nat) (x : Stream) : (s.setStream n x).stamp = s.stamp := rfl
@[simp] theorem State.setStream_od (s : State) (n : Nat) (x : Stream) : (s.setStream n x).od = s.od := rfl
@[simp] theorem State.setStream_timers (s : State) (n : Nat) (x : Stream) : (s.setStream n x).timers = s.timers := rfl
@[simp] theorem State.setStream_pos (s : State) (n : Nat) (x : Stream) : (s.setStream n x).pos = s.pos := rfl
@[simp] theorem State.setStream_ev (s : State) (n : Nat) (x : Stream) : (s.setStream n x).ev = s.ev := rfl
@[simp] theorem State.setStream_rings (s : State) (n : Nat) (x : Stream) : (s.setStream n x).rings = s.rings := rfl
@[simp] theorem State.setStream_pcie (s : State) (n : Nat) (x : Stream) : (s.setStream n x).pcie = s.pcie := rfl
@[simp] theorem State.setStream_polygons (s : State) (n : Nat) (x : Stream) : (s.setStream n x).polygons = s.polygons := rfl
@[simp] theorem State.setStream_stations (s : State) (n : Nat) (x : Stream) : (s.setStream n x).stations = s.stations := rfl
@[simp] theorem State.setStream_pages (s : State) (n : Nat) (x : Stream) : (s.setStream n x).pages = s.pages := rfl
@[simp] theorem State.setStream_press_lanes (s : State) (n : Nat) (x : Stream) : (s.setStream n x).press.lanes = s.press.lanes := rfl
@[simp] theorem State.setStream_press_queues (s : State) (n : Nat) (x : Stream) : (s.setStream n x).press.queues = s.press.queues := rfl
@[simp] theorem State.setStream_press_buffers (s : State) (n : Nat) (x : Stream) : (s.setStream n x).press.buffers = s.press.buffers := rfl
@[simp] theorem State.setStream_press_inbound (s : State) (n : Nat) (x : Stream) : (s.setStream n x).press.inbound = s.press.inbound := rfl
@[simp] theorem State.setStream_press_retries (s : State) (n : Nat) (x : Stream) : (s.setStream n x).press.retries = s.press.retries := rfl
@[simp] theorem State.setStream_press_jobs (s : State) (n : Nat) (x : Stream) : (s.setStream n x).press.jobs = s.press.jobs := rfl
@[simp] theorem State.setStream_press_turns (s : State) (n : Nat) (x : Stream) : (s.setStream n x).press.turns = s.press.turns := rfl
@[simp] theorem State.setStream_press_ingestLast (s : State) (n : Nat) (x : Stream) : (s.setStream n x).press.ingestLast = s.press.ingestLast := rfl
@[simp] theorem State.setStream_press_nextBlock (s : State) (n : Nat) (x : Stream) : (s.setStream n x).press.nextBlock = s.press.nextBlock := rfl
@[simp] theorem State.setStream_press_nextJob (s : State) (n : Nat) (x : Stream) : (s.setStream n x).press.nextJob = s.press.nextJob := rfl
@[simp] theorem State.setStream_fabric (s : State) (n : Nat) (x : Stream) : (s.setStream n x).fabric = s.fabric := rfl
@[simp] theorem State.setStream_drives (s : State) (n : Nat) (x : Stream) : (s.setStream n x).drives = s.drives := rfl
@[simp] theorem State.setStream_steppers (s : State) (n : Nat) (x : Stream) : (s.setStream n x).steppers = s.steppers := rfl
@[simp] theorem State.setStream_loops (s : State) (n : Nat) (x : Stream) : (s.setStream n x).loops = s.loops := rfl
@[simp] theorem State.setStream_crock (s : State) (n : Nat) (x : Stream) : (s.setStream n x).crock = s.crock := rfl
@[simp] theorem State.setStream_power (s : State) (n : Nat) (x : Stream) : (s.setStream n x).power = s.power := rfl
@[simp] theorem State.setStream_lid (s : State) (n : Nat) (x : Stream) : (s.setStream n x).lid = s.lid := rfl
@[simp] theorem State.setStream_twin (s : State) (n : Nat) (x : Stream) : (s.setStream n x).twin = s.twin := rfl
@[simp] theorem State.setStream_trust (s : State) (n : Nat) (x : Stream) : (s.setStream n x).trust = s.trust := rfl
@[simp] theorem State.setStream_svc (s : State) (n : Nat) (x : Stream) : (s.setStream n x).svc = s.svc := rfl
@[simp] theorem State.setStream_drawn (s : State) (n : Nat) (x : Stream) : (s.setStream n x).drawn = s.drawn := rfl
@[simp] theorem State.setStream_pending (s : State) (n : Nat) (x : Stream) : (s.setStream n x).pending = s.pending := rfl
@[simp] theorem State.val_setStream (s : State) (n : Nat) (x : Stream) (j : Nat) : (s.setStream n x).val j = s.val j := rfl
@[simp] theorem State.i_setStream (s : State) (n : Nat) (x : Stream) (j : Nat) : (s.setStream n x).i j = s.i j := rfl
@[simp] theorem State.n_setStream (s : State) (n : Nat) (x : Stream) (j : Nat) : (s.setStream n x).n j = s.n j := rfl
@[simp] theorem State.flag_setStream (s : State) (n : Nat) (x : Stream) (j : Nat) : (s.setStream n x).flag j = s.flag j := rfl
@[simp] theorem State.bytes_setStream (s : State) (n : Nat) (x : Stream) (j : Nat) : (s.setStream n x).bytes j = s.bytes j := rfl
@[simp] theorem State.armed_setStream (s : State) (n : Nat) (x : Stream) (j : Nat) : (s.setStream n x).armed j = s.armed j := rfl
@[simp] theorem State.due_setStream (s : State) (n : Nat) (x : Stream) (j : Nat) : (s.setStream n x).due j = s.due j := rfl
@[simp] theorem State.left_setStream (s : State) (n : Nat) (x : Stream) (j : Nat) : (s.setStream n x).left j = s.left j := rfl
@[simp] theorem State.enc_setStream (s : State) (n : Nat) (x : Stream) (j : Nat) : (s.setStream n x).enc j = s.enc j := rfl
@[simp] theorem State.slot_setStream (s : State) (n : Nat) (x : Stream) (j : Nat) : (s.setStream n x).slot j = s.slot j := rfl
@[simp] theorem State.ring_setStream (s : State) (n : Nat) (x : Stream) (j : Nat) : (s.setStream n x).ring j = s.ring j := rfl
@[simp] theorem State.domain_setStream (s : State) (n : Nat) (x : Stream) (j : Nat) : (s.setStream n x).domain j = s.domain j := rfl
@[simp] theorem State.thermo_setStream (s : State) (n : Nat) (x : Stream) (j : Nat) : (s.setStream n x).thermo j = s.thermo j := rfl
@[simp] theorem State.unit_setStream (s : State) (n : Nat) (x : Stream) (j : Nat) : (s.setStream n x).unit j = s.unit j := rfl
@[simp] theorem State.polygon_setStream (s : State) (n : Nat) (x : Stream) (j : Nat) : (s.setStream n x).polygon j = s.polygon j := rfl
@[simp] theorem State.station_setStream (s : State) (n : Nat) (x : Stream) (j : Nat) : (s.setStream n x).station j = s.station j := rfl
@[simp] theorem State.page_setStream (s : State) (n : Nat) (x : Stream) (j : Nat) : (s.setStream n x).page j = s.page j := rfl
@[simp] theorem State.lane_setStream (s : State) (n : Nat) (x : Stream) (j : Nat) : (s.setStream n x).lane j = s.lane j := rfl
@[simp] theorem State.queue_setStream (s : State) (n : Nat) (x : Stream) (j : Nat) : (s.setStream n x).queue j = s.queue j := rfl
@[simp] theorem State.buffer_setStream (s : State) (n : Nat) (x : Stream) (j : Nat) : (s.setStream n x).buffer j = s.buffer j := rfl
@[simp] theorem State.jobsOf_setStream (s : State) (n : Nat) (x : Stream) (j : Nat) : (s.setStream n x).jobsOf j = s.jobsOf j := rfl
@[simp] theorem State.turns_setStream (s : State) (n : Nat) (x : Stream) (j : Nat) : (s.setStream n x).turns j = s.turns j := rfl
@[simp] theorem State.lock_setStream (s : State) (n : Nat) (x : Stream) (j : Nat) : (s.setStream n x).lock j = s.lock j := rfl
@[simp] theorem State.ladleJob_setStream (s : State) (n : Nat) (x : Stream) (j : Nat) : (s.setStream n x).ladleJob j = s.ladleJob j := rfl
@[simp] theorem State.drive_setStream (s : State) (n : Nat) (x : Stream) (j : Nat) : (s.setStream n x).drive j = s.drive j := rfl
@[simp] theorem State.stepper_setStream (s : State) (n : Nat) (x : Stream) (j : Nat) : (s.setStream n x).stepper j = s.stepper j := rfl
@[simp] theorem State.loop_setStream (s : State) (n : Nat) (x : Stream) (j : Nat) : (s.setStream n x).loop j = s.loop j := rfl
@[simp] theorem State.hv_setStream (s : State) (n : Nat) (x : Stream) (j : Nat) : (s.setStream n x).hv j = s.hv j := rfl
@[simp] theorem State.zone_setStream (s : State) (n : Nat) (x : Stream) (j : Nat) : (s.setStream n x).zone j = s.zone j := rfl
@[simp] theorem State.on_setStream (s : State) (n : Nat) (x : Stream) (j : Nat) : (s.setStream n x).on j = s.on j := rfl

/-! ## setLock -/

@[simp] theorem State.setLock_s6 (s : State) (n : Nat) (x : Lock) : (s.setLock n x).s6 = s.s6 := rfl
@[simp] theorem State.setLock_stamp (s : State) (n : Nat) (x : Lock) : (s.setLock n x).stamp = s.stamp := rfl
@[simp] theorem State.setLock_od (s : State) (n : Nat) (x : Lock) : (s.setLock n x).od = s.od := rfl
@[simp] theorem State.setLock_timers (s : State) (n : Nat) (x : Lock) : (s.setLock n x).timers = s.timers := rfl
@[simp] theorem State.setLock_pos (s : State) (n : Nat) (x : Lock) : (s.setLock n x).pos = s.pos := rfl
@[simp] theorem State.setLock_ev (s : State) (n : Nat) (x : Lock) : (s.setLock n x).ev = s.ev := rfl
@[simp] theorem State.setLock_rings (s : State) (n : Nat) (x : Lock) : (s.setLock n x).rings = s.rings := rfl
@[simp] theorem State.setLock_pcie (s : State) (n : Nat) (x : Lock) : (s.setLock n x).pcie = s.pcie := rfl
@[simp] theorem State.setLock_polygons (s : State) (n : Nat) (x : Lock) : (s.setLock n x).polygons = s.polygons := rfl
@[simp] theorem State.setLock_stations (s : State) (n : Nat) (x : Lock) : (s.setLock n x).stations = s.stations := rfl
@[simp] theorem State.setLock_pages (s : State) (n : Nat) (x : Lock) : (s.setLock n x).pages = s.pages := rfl
@[simp] theorem State.setLock_press (s : State) (n : Nat) (x : Lock) : (s.setLock n x).press = s.press := rfl
@[simp] theorem State.setLock_fabric_grants (s : State) (n : Nat) (x : Lock) : (s.setLock n x).fabric.grants = s.fabric.grants := rfl
@[simp] theorem State.setLock_fabric_preemptions (s : State) (n : Nat) (x : Lock) : (s.setLock n x).fabric.preemptions = s.fabric.preemptions := rfl
@[simp] theorem State.setLock_fabric_scrubbed (s : State) (n : Nat) (x : Lock) : (s.setLock n x).fabric.scrubbed = s.fabric.scrubbed := rfl
@[simp] theorem State.setLock_fabric_late (s : State) (n : Nat) (x : Lock) : (s.setLock n x).fabric.late = s.fabric.late := rfl
@[simp] theorem State.setLock_fabric_lockQueue (s : State) (n : Nat) (x : Lock) : (s.setLock n x).fabric.lockQueue = s.fabric.lockQueue := rfl
@[simp] theorem State.setLock_fabric_jobs (s : State) (n : Nat) (x : Lock) : (s.setLock n x).fabric.jobs = s.fabric.jobs := rfl
@[simp] theorem State.setLock_fabric_window (s : State) (n : Nat) (x : Lock) : (s.setLock n x).fabric.window = s.fabric.window := rfl
@[simp] theorem State.setLock_fabric_marks (s : State) (n : Nat) (x : Lock) : (s.setLock n x).fabric.marks = s.fabric.marks := rfl
@[simp] theorem State.setLock_fabric_host (s : State) (n : Nat) (x : Lock) : (s.setLock n x).fabric.host = s.fabric.host := rfl
@[simp] theorem State.setLock_drives (s : State) (n : Nat) (x : Lock) : (s.setLock n x).drives = s.drives := rfl
@[simp] theorem State.setLock_steppers (s : State) (n : Nat) (x : Lock) : (s.setLock n x).steppers = s.steppers := rfl
@[simp] theorem State.setLock_loops (s : State) (n : Nat) (x : Lock) : (s.setLock n x).loops = s.loops := rfl
@[simp] theorem State.setLock_crock (s : State) (n : Nat) (x : Lock) : (s.setLock n x).crock = s.crock := rfl
@[simp] theorem State.setLock_power (s : State) (n : Nat) (x : Lock) : (s.setLock n x).power = s.power := rfl
@[simp] theorem State.setLock_lid (s : State) (n : Nat) (x : Lock) : (s.setLock n x).lid = s.lid := rfl
@[simp] theorem State.setLock_twin (s : State) (n : Nat) (x : Lock) : (s.setLock n x).twin = s.twin := rfl
@[simp] theorem State.setLock_trust (s : State) (n : Nat) (x : Lock) : (s.setLock n x).trust = s.trust := rfl
@[simp] theorem State.setLock_svc (s : State) (n : Nat) (x : Lock) : (s.setLock n x).svc = s.svc := rfl
@[simp] theorem State.setLock_drawn (s : State) (n : Nat) (x : Lock) : (s.setLock n x).drawn = s.drawn := rfl
@[simp] theorem State.setLock_pending (s : State) (n : Nat) (x : Lock) : (s.setLock n x).pending = s.pending := rfl
@[simp] theorem State.val_setLock (s : State) (n : Nat) (x : Lock) (j : Nat) : (s.setLock n x).val j = s.val j := rfl
@[simp] theorem State.i_setLock (s : State) (n : Nat) (x : Lock) (j : Nat) : (s.setLock n x).i j = s.i j := rfl
@[simp] theorem State.n_setLock (s : State) (n : Nat) (x : Lock) (j : Nat) : (s.setLock n x).n j = s.n j := rfl
@[simp] theorem State.flag_setLock (s : State) (n : Nat) (x : Lock) (j : Nat) : (s.setLock n x).flag j = s.flag j := rfl
@[simp] theorem State.bytes_setLock (s : State) (n : Nat) (x : Lock) (j : Nat) : (s.setLock n x).bytes j = s.bytes j := rfl
@[simp] theorem State.armed_setLock (s : State) (n : Nat) (x : Lock) (j : Nat) : (s.setLock n x).armed j = s.armed j := rfl
@[simp] theorem State.due_setLock (s : State) (n : Nat) (x : Lock) (j : Nat) : (s.setLock n x).due j = s.due j := rfl
@[simp] theorem State.left_setLock (s : State) (n : Nat) (x : Lock) (j : Nat) : (s.setLock n x).left j = s.left j := rfl
@[simp] theorem State.enc_setLock (s : State) (n : Nat) (x : Lock) (j : Nat) : (s.setLock n x).enc j = s.enc j := rfl
@[simp] theorem State.slot_setLock (s : State) (n : Nat) (x : Lock) (j : Nat) : (s.setLock n x).slot j = s.slot j := rfl
@[simp] theorem State.ring_setLock (s : State) (n : Nat) (x : Lock) (j : Nat) : (s.setLock n x).ring j = s.ring j := rfl
@[simp] theorem State.domain_setLock (s : State) (n : Nat) (x : Lock) (j : Nat) : (s.setLock n x).domain j = s.domain j := rfl
@[simp] theorem State.thermo_setLock (s : State) (n : Nat) (x : Lock) (j : Nat) : (s.setLock n x).thermo j = s.thermo j := rfl
@[simp] theorem State.unit_setLock (s : State) (n : Nat) (x : Lock) (j : Nat) : (s.setLock n x).unit j = s.unit j := rfl
@[simp] theorem State.polygon_setLock (s : State) (n : Nat) (x : Lock) (j : Nat) : (s.setLock n x).polygon j = s.polygon j := rfl
@[simp] theorem State.station_setLock (s : State) (n : Nat) (x : Lock) (j : Nat) : (s.setLock n x).station j = s.station j := rfl
@[simp] theorem State.page_setLock (s : State) (n : Nat) (x : Lock) (j : Nat) : (s.setLock n x).page j = s.page j := rfl
@[simp] theorem State.lane_setLock (s : State) (n : Nat) (x : Lock) (j : Nat) : (s.setLock n x).lane j = s.lane j := rfl
@[simp] theorem State.queue_setLock (s : State) (n : Nat) (x : Lock) (j : Nat) : (s.setLock n x).queue j = s.queue j := rfl
@[simp] theorem State.buffer_setLock (s : State) (n : Nat) (x : Lock) (j : Nat) : (s.setLock n x).buffer j = s.buffer j := rfl
@[simp] theorem State.jobsOf_setLock (s : State) (n : Nat) (x : Lock) (j : Nat) : (s.setLock n x).jobsOf j = s.jobsOf j := rfl
@[simp] theorem State.turns_setLock (s : State) (n : Nat) (x : Lock) (j : Nat) : (s.setLock n x).turns j = s.turns j := rfl
@[simp] theorem State.stream_setLock (s : State) (n : Nat) (x : Lock) (j : Nat) : (s.setLock n x).stream j = s.stream j := rfl
@[simp] theorem State.ladleJob_setLock (s : State) (n : Nat) (x : Lock) (j : Nat) : (s.setLock n x).ladleJob j = s.ladleJob j := rfl
@[simp] theorem State.drive_setLock (s : State) (n : Nat) (x : Lock) (j : Nat) : (s.setLock n x).drive j = s.drive j := rfl
@[simp] theorem State.stepper_setLock (s : State) (n : Nat) (x : Lock) (j : Nat) : (s.setLock n x).stepper j = s.stepper j := rfl
@[simp] theorem State.loop_setLock (s : State) (n : Nat) (x : Lock) (j : Nat) : (s.setLock n x).loop j = s.loop j := rfl
@[simp] theorem State.hv_setLock (s : State) (n : Nat) (x : Lock) (j : Nat) : (s.setLock n x).hv j = s.hv j := rfl
@[simp] theorem State.zone_setLock (s : State) (n : Nat) (x : Lock) (j : Nat) : (s.setLock n x).zone j = s.zone j := rfl
@[simp] theorem State.on_setLock (s : State) (n : Nat) (x : Lock) (j : Nat) : (s.setLock n x).on j = s.on j := rfl

/-! ## setLadleJob -/

@[simp] theorem State.setLadleJob_s6 (s : State) (n : Nat) (x : (Option LadleJob)) : (s.setLadleJob n x).s6 = s.s6 := rfl
@[simp] theorem State.setLadleJob_stamp (s : State) (n : Nat) (x : (Option LadleJob)) : (s.setLadleJob n x).stamp = s.stamp := rfl
@[simp] theorem State.setLadleJob_od (s : State) (n : Nat) (x : (Option LadleJob)) : (s.setLadleJob n x).od = s.od := rfl
@[simp] theorem State.setLadleJob_timers (s : State) (n : Nat) (x : (Option LadleJob)) : (s.setLadleJob n x).timers = s.timers := rfl
@[simp] theorem State.setLadleJob_pos (s : State) (n : Nat) (x : (Option LadleJob)) : (s.setLadleJob n x).pos = s.pos := rfl
@[simp] theorem State.setLadleJob_ev (s : State) (n : Nat) (x : (Option LadleJob)) : (s.setLadleJob n x).ev = s.ev := rfl
@[simp] theorem State.setLadleJob_rings (s : State) (n : Nat) (x : (Option LadleJob)) : (s.setLadleJob n x).rings = s.rings := rfl
@[simp] theorem State.setLadleJob_pcie (s : State) (n : Nat) (x : (Option LadleJob)) : (s.setLadleJob n x).pcie = s.pcie := rfl
@[simp] theorem State.setLadleJob_polygons (s : State) (n : Nat) (x : (Option LadleJob)) : (s.setLadleJob n x).polygons = s.polygons := rfl
@[simp] theorem State.setLadleJob_stations (s : State) (n : Nat) (x : (Option LadleJob)) : (s.setLadleJob n x).stations = s.stations := rfl
@[simp] theorem State.setLadleJob_pages (s : State) (n : Nat) (x : (Option LadleJob)) : (s.setLadleJob n x).pages = s.pages := rfl
@[simp] theorem State.setLadleJob_press (s : State) (n : Nat) (x : (Option LadleJob)) : (s.setLadleJob n x).press = s.press := rfl
@[simp] theorem State.setLadleJob_fabric_grants (s : State) (n : Nat) (x : (Option LadleJob)) : (s.setLadleJob n x).fabric.grants = s.fabric.grants := rfl
@[simp] theorem State.setLadleJob_fabric_preemptions (s : State) (n : Nat) (x : (Option LadleJob)) : (s.setLadleJob n x).fabric.preemptions = s.fabric.preemptions := rfl
@[simp] theorem State.setLadleJob_fabric_scrubbed (s : State) (n : Nat) (x : (Option LadleJob)) : (s.setLadleJob n x).fabric.scrubbed = s.fabric.scrubbed := rfl
@[simp] theorem State.setLadleJob_fabric_late (s : State) (n : Nat) (x : (Option LadleJob)) : (s.setLadleJob n x).fabric.late = s.fabric.late := rfl
@[simp] theorem State.setLadleJob_fabric_locks (s : State) (n : Nat) (x : (Option LadleJob)) : (s.setLadleJob n x).fabric.locks = s.fabric.locks := rfl
@[simp] theorem State.setLadleJob_fabric_lockQueue (s : State) (n : Nat) (x : (Option LadleJob)) : (s.setLadleJob n x).fabric.lockQueue = s.fabric.lockQueue := rfl
@[simp] theorem State.setLadleJob_fabric_window (s : State) (n : Nat) (x : (Option LadleJob)) : (s.setLadleJob n x).fabric.window = s.fabric.window := rfl
@[simp] theorem State.setLadleJob_fabric_marks (s : State) (n : Nat) (x : (Option LadleJob)) : (s.setLadleJob n x).fabric.marks = s.fabric.marks := rfl
@[simp] theorem State.setLadleJob_fabric_host (s : State) (n : Nat) (x : (Option LadleJob)) : (s.setLadleJob n x).fabric.host = s.fabric.host := rfl
@[simp] theorem State.setLadleJob_drives (s : State) (n : Nat) (x : (Option LadleJob)) : (s.setLadleJob n x).drives = s.drives := rfl
@[simp] theorem State.setLadleJob_steppers (s : State) (n : Nat) (x : (Option LadleJob)) : (s.setLadleJob n x).steppers = s.steppers := rfl
@[simp] theorem State.setLadleJob_loops (s : State) (n : Nat) (x : (Option LadleJob)) : (s.setLadleJob n x).loops = s.loops := rfl
@[simp] theorem State.setLadleJob_crock (s : State) (n : Nat) (x : (Option LadleJob)) : (s.setLadleJob n x).crock = s.crock := rfl
@[simp] theorem State.setLadleJob_power (s : State) (n : Nat) (x : (Option LadleJob)) : (s.setLadleJob n x).power = s.power := rfl
@[simp] theorem State.setLadleJob_lid (s : State) (n : Nat) (x : (Option LadleJob)) : (s.setLadleJob n x).lid = s.lid := rfl
@[simp] theorem State.setLadleJob_twin (s : State) (n : Nat) (x : (Option LadleJob)) : (s.setLadleJob n x).twin = s.twin := rfl
@[simp] theorem State.setLadleJob_trust (s : State) (n : Nat) (x : (Option LadleJob)) : (s.setLadleJob n x).trust = s.trust := rfl
@[simp] theorem State.setLadleJob_svc (s : State) (n : Nat) (x : (Option LadleJob)) : (s.setLadleJob n x).svc = s.svc := rfl
@[simp] theorem State.setLadleJob_drawn (s : State) (n : Nat) (x : (Option LadleJob)) : (s.setLadleJob n x).drawn = s.drawn := rfl
@[simp] theorem State.setLadleJob_pending (s : State) (n : Nat) (x : (Option LadleJob)) : (s.setLadleJob n x).pending = s.pending := rfl
@[simp] theorem State.val_setLadleJob (s : State) (n : Nat) (x : (Option LadleJob)) (j : Nat) : (s.setLadleJob n x).val j = s.val j := rfl
@[simp] theorem State.i_setLadleJob (s : State) (n : Nat) (x : (Option LadleJob)) (j : Nat) : (s.setLadleJob n x).i j = s.i j := rfl
@[simp] theorem State.n_setLadleJob (s : State) (n : Nat) (x : (Option LadleJob)) (j : Nat) : (s.setLadleJob n x).n j = s.n j := rfl
@[simp] theorem State.flag_setLadleJob (s : State) (n : Nat) (x : (Option LadleJob)) (j : Nat) : (s.setLadleJob n x).flag j = s.flag j := rfl
@[simp] theorem State.bytes_setLadleJob (s : State) (n : Nat) (x : (Option LadleJob)) (j : Nat) : (s.setLadleJob n x).bytes j = s.bytes j := rfl
@[simp] theorem State.armed_setLadleJob (s : State) (n : Nat) (x : (Option LadleJob)) (j : Nat) : (s.setLadleJob n x).armed j = s.armed j := rfl
@[simp] theorem State.due_setLadleJob (s : State) (n : Nat) (x : (Option LadleJob)) (j : Nat) : (s.setLadleJob n x).due j = s.due j := rfl
@[simp] theorem State.left_setLadleJob (s : State) (n : Nat) (x : (Option LadleJob)) (j : Nat) : (s.setLadleJob n x).left j = s.left j := rfl
@[simp] theorem State.enc_setLadleJob (s : State) (n : Nat) (x : (Option LadleJob)) (j : Nat) : (s.setLadleJob n x).enc j = s.enc j := rfl
@[simp] theorem State.slot_setLadleJob (s : State) (n : Nat) (x : (Option LadleJob)) (j : Nat) : (s.setLadleJob n x).slot j = s.slot j := rfl
@[simp] theorem State.ring_setLadleJob (s : State) (n : Nat) (x : (Option LadleJob)) (j : Nat) : (s.setLadleJob n x).ring j = s.ring j := rfl
@[simp] theorem State.domain_setLadleJob (s : State) (n : Nat) (x : (Option LadleJob)) (j : Nat) : (s.setLadleJob n x).domain j = s.domain j := rfl
@[simp] theorem State.thermo_setLadleJob (s : State) (n : Nat) (x : (Option LadleJob)) (j : Nat) : (s.setLadleJob n x).thermo j = s.thermo j := rfl
@[simp] theorem State.unit_setLadleJob (s : State) (n : Nat) (x : (Option LadleJob)) (j : Nat) : (s.setLadleJob n x).unit j = s.unit j := rfl
@[simp] theorem State.polygon_setLadleJob (s : State) (n : Nat) (x : (Option LadleJob)) (j : Nat) : (s.setLadleJob n x).polygon j = s.polygon j := rfl
@[simp] theorem State.station_setLadleJob (s : State) (n : Nat) (x : (Option LadleJob)) (j : Nat) : (s.setLadleJob n x).station j = s.station j := rfl
@[simp] theorem State.page_setLadleJob (s : State) (n : Nat) (x : (Option LadleJob)) (j : Nat) : (s.setLadleJob n x).page j = s.page j := rfl
@[simp] theorem State.lane_setLadleJob (s : State) (n : Nat) (x : (Option LadleJob)) (j : Nat) : (s.setLadleJob n x).lane j = s.lane j := rfl
@[simp] theorem State.queue_setLadleJob (s : State) (n : Nat) (x : (Option LadleJob)) (j : Nat) : (s.setLadleJob n x).queue j = s.queue j := rfl
@[simp] theorem State.buffer_setLadleJob (s : State) (n : Nat) (x : (Option LadleJob)) (j : Nat) : (s.setLadleJob n x).buffer j = s.buffer j := rfl
@[simp] theorem State.jobsOf_setLadleJob (s : State) (n : Nat) (x : (Option LadleJob)) (j : Nat) : (s.setLadleJob n x).jobsOf j = s.jobsOf j := rfl
@[simp] theorem State.turns_setLadleJob (s : State) (n : Nat) (x : (Option LadleJob)) (j : Nat) : (s.setLadleJob n x).turns j = s.turns j := rfl
@[simp] theorem State.stream_setLadleJob (s : State) (n : Nat) (x : (Option LadleJob)) (j : Nat) : (s.setLadleJob n x).stream j = s.stream j := rfl
@[simp] theorem State.lock_setLadleJob (s : State) (n : Nat) (x : (Option LadleJob)) (j : Nat) : (s.setLadleJob n x).lock j = s.lock j := rfl
@[simp] theorem State.drive_setLadleJob (s : State) (n : Nat) (x : (Option LadleJob)) (j : Nat) : (s.setLadleJob n x).drive j = s.drive j := rfl
@[simp] theorem State.stepper_setLadleJob (s : State) (n : Nat) (x : (Option LadleJob)) (j : Nat) : (s.setLadleJob n x).stepper j = s.stepper j := rfl
@[simp] theorem State.loop_setLadleJob (s : State) (n : Nat) (x : (Option LadleJob)) (j : Nat) : (s.setLadleJob n x).loop j = s.loop j := rfl
@[simp] theorem State.hv_setLadleJob (s : State) (n : Nat) (x : (Option LadleJob)) (j : Nat) : (s.setLadleJob n x).hv j = s.hv j := rfl
@[simp] theorem State.zone_setLadleJob (s : State) (n : Nat) (x : (Option LadleJob)) (j : Nat) : (s.setLadleJob n x).zone j = s.zone j := rfl
@[simp] theorem State.on_setLadleJob (s : State) (n : Nat) (x : (Option LadleJob)) (j : Nat) : (s.setLadleJob n x).on j = s.on j := rfl

/-! ## setDrive -/

@[simp] theorem State.setDrive_s6 (s : State) (n : Nat) (x : Drive) : (s.setDrive n x).s6 = s.s6 := rfl
@[simp] theorem State.setDrive_stamp (s : State) (n : Nat) (x : Drive) : (s.setDrive n x).stamp = s.stamp := rfl
@[simp] theorem State.setDrive_od (s : State) (n : Nat) (x : Drive) : (s.setDrive n x).od = s.od := rfl
@[simp] theorem State.setDrive_timers (s : State) (n : Nat) (x : Drive) : (s.setDrive n x).timers = s.timers := rfl
@[simp] theorem State.setDrive_pos (s : State) (n : Nat) (x : Drive) : (s.setDrive n x).pos = s.pos := rfl
@[simp] theorem State.setDrive_ev (s : State) (n : Nat) (x : Drive) : (s.setDrive n x).ev = s.ev := rfl
@[simp] theorem State.setDrive_rings (s : State) (n : Nat) (x : Drive) : (s.setDrive n x).rings = s.rings := rfl
@[simp] theorem State.setDrive_pcie (s : State) (n : Nat) (x : Drive) : (s.setDrive n x).pcie = s.pcie := rfl
@[simp] theorem State.setDrive_polygons (s : State) (n : Nat) (x : Drive) : (s.setDrive n x).polygons = s.polygons := rfl
@[simp] theorem State.setDrive_stations (s : State) (n : Nat) (x : Drive) : (s.setDrive n x).stations = s.stations := rfl
@[simp] theorem State.setDrive_pages (s : State) (n : Nat) (x : Drive) : (s.setDrive n x).pages = s.pages := rfl
@[simp] theorem State.setDrive_press (s : State) (n : Nat) (x : Drive) : (s.setDrive n x).press = s.press := rfl
@[simp] theorem State.setDrive_fabric (s : State) (n : Nat) (x : Drive) : (s.setDrive n x).fabric = s.fabric := rfl
@[simp] theorem State.setDrive_drives_lost (s : State) (n : Nat) (x : Drive) : (s.setDrive n x).drives.lost = s.drives.lost := rfl
@[simp] theorem State.setDrive_drives_edges (s : State) (n : Nat) (x : Drive) : (s.setDrive n x).drives.edges = s.drives.edges := rfl
@[simp] theorem State.setDrive_drives_chopper (s : State) (n : Nat) (x : Drive) : (s.setDrive n x).drives.chopper = s.drives.chopper := rfl
@[simp] theorem State.setDrive_drives_chopperAt (s : State) (n : Nat) (x : Drive) : (s.setDrive n x).drives.chopperAt = s.drives.chopperAt := rfl
@[simp] theorem State.setDrive_drives_chopperNs (s : State) (n : Nat) (x : Drive) : (s.setDrive n x).drives.chopperNs = s.drives.chopperNs := rfl
@[simp] theorem State.setDrive_drives_testing (s : State) (n : Nat) (x : Drive) : (s.setDrive n x).drives.testing = s.drives.testing := rfl
@[simp] theorem State.setDrive_drives_tripped (s : State) (n : Nat) (x : Drive) : (s.setDrive n x).drives.tripped = s.drives.tripped := rfl
@[simp] theorem State.setDrive_steppers (s : State) (n : Nat) (x : Drive) : (s.setDrive n x).steppers = s.steppers := rfl
@[simp] theorem State.setDrive_loops (s : State) (n : Nat) (x : Drive) : (s.setDrive n x).loops = s.loops := rfl
@[simp] theorem State.setDrive_crock (s : State) (n : Nat) (x : Drive) : (s.setDrive n x).crock = s.crock := rfl
@[simp] theorem State.setDrive_power (s : State) (n : Nat) (x : Drive) : (s.setDrive n x).power = s.power := rfl
@[simp] theorem State.setDrive_lid (s : State) (n : Nat) (x : Drive) : (s.setDrive n x).lid = s.lid := rfl
@[simp] theorem State.setDrive_twin (s : State) (n : Nat) (x : Drive) : (s.setDrive n x).twin = s.twin := rfl
@[simp] theorem State.setDrive_trust (s : State) (n : Nat) (x : Drive) : (s.setDrive n x).trust = s.trust := rfl
@[simp] theorem State.setDrive_svc (s : State) (n : Nat) (x : Drive) : (s.setDrive n x).svc = s.svc := rfl
@[simp] theorem State.setDrive_drawn (s : State) (n : Nat) (x : Drive) : (s.setDrive n x).drawn = s.drawn := rfl
@[simp] theorem State.setDrive_pending (s : State) (n : Nat) (x : Drive) : (s.setDrive n x).pending = s.pending := rfl
@[simp] theorem State.val_setDrive (s : State) (n : Nat) (x : Drive) (j : Nat) : (s.setDrive n x).val j = s.val j := rfl
@[simp] theorem State.i_setDrive (s : State) (n : Nat) (x : Drive) (j : Nat) : (s.setDrive n x).i j = s.i j := rfl
@[simp] theorem State.n_setDrive (s : State) (n : Nat) (x : Drive) (j : Nat) : (s.setDrive n x).n j = s.n j := rfl
@[simp] theorem State.flag_setDrive (s : State) (n : Nat) (x : Drive) (j : Nat) : (s.setDrive n x).flag j = s.flag j := rfl
@[simp] theorem State.bytes_setDrive (s : State) (n : Nat) (x : Drive) (j : Nat) : (s.setDrive n x).bytes j = s.bytes j := rfl
@[simp] theorem State.armed_setDrive (s : State) (n : Nat) (x : Drive) (j : Nat) : (s.setDrive n x).armed j = s.armed j := rfl
@[simp] theorem State.due_setDrive (s : State) (n : Nat) (x : Drive) (j : Nat) : (s.setDrive n x).due j = s.due j := rfl
@[simp] theorem State.left_setDrive (s : State) (n : Nat) (x : Drive) (j : Nat) : (s.setDrive n x).left j = s.left j := rfl
@[simp] theorem State.enc_setDrive (s : State) (n : Nat) (x : Drive) (j : Nat) : (s.setDrive n x).enc j = s.enc j := rfl
@[simp] theorem State.slot_setDrive (s : State) (n : Nat) (x : Drive) (j : Nat) : (s.setDrive n x).slot j = s.slot j := rfl
@[simp] theorem State.ring_setDrive (s : State) (n : Nat) (x : Drive) (j : Nat) : (s.setDrive n x).ring j = s.ring j := rfl
@[simp] theorem State.domain_setDrive (s : State) (n : Nat) (x : Drive) (j : Nat) : (s.setDrive n x).domain j = s.domain j := rfl
@[simp] theorem State.thermo_setDrive (s : State) (n : Nat) (x : Drive) (j : Nat) : (s.setDrive n x).thermo j = s.thermo j := rfl
@[simp] theorem State.unit_setDrive (s : State) (n : Nat) (x : Drive) (j : Nat) : (s.setDrive n x).unit j = s.unit j := rfl
@[simp] theorem State.polygon_setDrive (s : State) (n : Nat) (x : Drive) (j : Nat) : (s.setDrive n x).polygon j = s.polygon j := rfl
@[simp] theorem State.station_setDrive (s : State) (n : Nat) (x : Drive) (j : Nat) : (s.setDrive n x).station j = s.station j := rfl
@[simp] theorem State.page_setDrive (s : State) (n : Nat) (x : Drive) (j : Nat) : (s.setDrive n x).page j = s.page j := rfl
@[simp] theorem State.lane_setDrive (s : State) (n : Nat) (x : Drive) (j : Nat) : (s.setDrive n x).lane j = s.lane j := rfl
@[simp] theorem State.queue_setDrive (s : State) (n : Nat) (x : Drive) (j : Nat) : (s.setDrive n x).queue j = s.queue j := rfl
@[simp] theorem State.buffer_setDrive (s : State) (n : Nat) (x : Drive) (j : Nat) : (s.setDrive n x).buffer j = s.buffer j := rfl
@[simp] theorem State.jobsOf_setDrive (s : State) (n : Nat) (x : Drive) (j : Nat) : (s.setDrive n x).jobsOf j = s.jobsOf j := rfl
@[simp] theorem State.turns_setDrive (s : State) (n : Nat) (x : Drive) (j : Nat) : (s.setDrive n x).turns j = s.turns j := rfl
@[simp] theorem State.stream_setDrive (s : State) (n : Nat) (x : Drive) (j : Nat) : (s.setDrive n x).stream j = s.stream j := rfl
@[simp] theorem State.lock_setDrive (s : State) (n : Nat) (x : Drive) (j : Nat) : (s.setDrive n x).lock j = s.lock j := rfl
@[simp] theorem State.ladleJob_setDrive (s : State) (n : Nat) (x : Drive) (j : Nat) : (s.setDrive n x).ladleJob j = s.ladleJob j := rfl
@[simp] theorem State.stepper_setDrive (s : State) (n : Nat) (x : Drive) (j : Nat) : (s.setDrive n x).stepper j = s.stepper j := rfl
@[simp] theorem State.loop_setDrive (s : State) (n : Nat) (x : Drive) (j : Nat) : (s.setDrive n x).loop j = s.loop j := rfl
@[simp] theorem State.hv_setDrive (s : State) (n : Nat) (x : Drive) (j : Nat) : (s.setDrive n x).hv j = s.hv j := rfl
@[simp] theorem State.zone_setDrive (s : State) (n : Nat) (x : Drive) (j : Nat) : (s.setDrive n x).zone j = s.zone j := rfl
@[simp] theorem State.on_setDrive (s : State) (n : Nat) (x : Drive) (j : Nat) : (s.setDrive n x).on j = s.on j := rfl

/-! ## setStepper -/

@[simp] theorem State.setStepper_s6 (s : State) (n : Nat) (x : StepAxis) : (s.setStepper n x).s6 = s.s6 := rfl
@[simp] theorem State.setStepper_stamp (s : State) (n : Nat) (x : StepAxis) : (s.setStepper n x).stamp = s.stamp := rfl
@[simp] theorem State.setStepper_od (s : State) (n : Nat) (x : StepAxis) : (s.setStepper n x).od = s.od := rfl
@[simp] theorem State.setStepper_timers (s : State) (n : Nat) (x : StepAxis) : (s.setStepper n x).timers = s.timers := rfl
@[simp] theorem State.setStepper_pos (s : State) (n : Nat) (x : StepAxis) : (s.setStepper n x).pos = s.pos := rfl
@[simp] theorem State.setStepper_ev (s : State) (n : Nat) (x : StepAxis) : (s.setStepper n x).ev = s.ev := rfl
@[simp] theorem State.setStepper_rings (s : State) (n : Nat) (x : StepAxis) : (s.setStepper n x).rings = s.rings := rfl
@[simp] theorem State.setStepper_pcie (s : State) (n : Nat) (x : StepAxis) : (s.setStepper n x).pcie = s.pcie := rfl
@[simp] theorem State.setStepper_polygons (s : State) (n : Nat) (x : StepAxis) : (s.setStepper n x).polygons = s.polygons := rfl
@[simp] theorem State.setStepper_stations (s : State) (n : Nat) (x : StepAxis) : (s.setStepper n x).stations = s.stations := rfl
@[simp] theorem State.setStepper_pages (s : State) (n : Nat) (x : StepAxis) : (s.setStepper n x).pages = s.pages := rfl
@[simp] theorem State.setStepper_press (s : State) (n : Nat) (x : StepAxis) : (s.setStepper n x).press = s.press := rfl
@[simp] theorem State.setStepper_fabric (s : State) (n : Nat) (x : StepAxis) : (s.setStepper n x).fabric = s.fabric := rfl
@[simp] theorem State.setStepper_drives (s : State) (n : Nat) (x : StepAxis) : (s.setStepper n x).drives = s.drives := rfl
@[simp] theorem State.setStepper_loops (s : State) (n : Nat) (x : StepAxis) : (s.setStepper n x).loops = s.loops := rfl
@[simp] theorem State.setStepper_crock (s : State) (n : Nat) (x : StepAxis) : (s.setStepper n x).crock = s.crock := rfl
@[simp] theorem State.setStepper_power (s : State) (n : Nat) (x : StepAxis) : (s.setStepper n x).power = s.power := rfl
@[simp] theorem State.setStepper_lid (s : State) (n : Nat) (x : StepAxis) : (s.setStepper n x).lid = s.lid := rfl
@[simp] theorem State.setStepper_twin (s : State) (n : Nat) (x : StepAxis) : (s.setStepper n x).twin = s.twin := rfl
@[simp] theorem State.setStepper_trust (s : State) (n : Nat) (x : StepAxis) : (s.setStepper n x).trust = s.trust := rfl
@[simp] theorem State.setStepper_svc (s : State) (n : Nat) (x : StepAxis) : (s.setStepper n x).svc = s.svc := rfl
@[simp] theorem State.setStepper_drawn (s : State) (n : Nat) (x : StepAxis) : (s.setStepper n x).drawn = s.drawn := rfl
@[simp] theorem State.setStepper_pending (s : State) (n : Nat) (x : StepAxis) : (s.setStepper n x).pending = s.pending := rfl
@[simp] theorem State.val_setStepper (s : State) (n : Nat) (x : StepAxis) (j : Nat) : (s.setStepper n x).val j = s.val j := rfl
@[simp] theorem State.i_setStepper (s : State) (n : Nat) (x : StepAxis) (j : Nat) : (s.setStepper n x).i j = s.i j := rfl
@[simp] theorem State.n_setStepper (s : State) (n : Nat) (x : StepAxis) (j : Nat) : (s.setStepper n x).n j = s.n j := rfl
@[simp] theorem State.flag_setStepper (s : State) (n : Nat) (x : StepAxis) (j : Nat) : (s.setStepper n x).flag j = s.flag j := rfl
@[simp] theorem State.bytes_setStepper (s : State) (n : Nat) (x : StepAxis) (j : Nat) : (s.setStepper n x).bytes j = s.bytes j := rfl
@[simp] theorem State.armed_setStepper (s : State) (n : Nat) (x : StepAxis) (j : Nat) : (s.setStepper n x).armed j = s.armed j := rfl
@[simp] theorem State.due_setStepper (s : State) (n : Nat) (x : StepAxis) (j : Nat) : (s.setStepper n x).due j = s.due j := rfl
@[simp] theorem State.left_setStepper (s : State) (n : Nat) (x : StepAxis) (j : Nat) : (s.setStepper n x).left j = s.left j := rfl
@[simp] theorem State.enc_setStepper (s : State) (n : Nat) (x : StepAxis) (j : Nat) : (s.setStepper n x).enc j = s.enc j := rfl
@[simp] theorem State.slot_setStepper (s : State) (n : Nat) (x : StepAxis) (j : Nat) : (s.setStepper n x).slot j = s.slot j := rfl
@[simp] theorem State.ring_setStepper (s : State) (n : Nat) (x : StepAxis) (j : Nat) : (s.setStepper n x).ring j = s.ring j := rfl
@[simp] theorem State.domain_setStepper (s : State) (n : Nat) (x : StepAxis) (j : Nat) : (s.setStepper n x).domain j = s.domain j := rfl
@[simp] theorem State.thermo_setStepper (s : State) (n : Nat) (x : StepAxis) (j : Nat) : (s.setStepper n x).thermo j = s.thermo j := rfl
@[simp] theorem State.unit_setStepper (s : State) (n : Nat) (x : StepAxis) (j : Nat) : (s.setStepper n x).unit j = s.unit j := rfl
@[simp] theorem State.polygon_setStepper (s : State) (n : Nat) (x : StepAxis) (j : Nat) : (s.setStepper n x).polygon j = s.polygon j := rfl
@[simp] theorem State.station_setStepper (s : State) (n : Nat) (x : StepAxis) (j : Nat) : (s.setStepper n x).station j = s.station j := rfl
@[simp] theorem State.page_setStepper (s : State) (n : Nat) (x : StepAxis) (j : Nat) : (s.setStepper n x).page j = s.page j := rfl
@[simp] theorem State.lane_setStepper (s : State) (n : Nat) (x : StepAxis) (j : Nat) : (s.setStepper n x).lane j = s.lane j := rfl
@[simp] theorem State.queue_setStepper (s : State) (n : Nat) (x : StepAxis) (j : Nat) : (s.setStepper n x).queue j = s.queue j := rfl
@[simp] theorem State.buffer_setStepper (s : State) (n : Nat) (x : StepAxis) (j : Nat) : (s.setStepper n x).buffer j = s.buffer j := rfl
@[simp] theorem State.jobsOf_setStepper (s : State) (n : Nat) (x : StepAxis) (j : Nat) : (s.setStepper n x).jobsOf j = s.jobsOf j := rfl
@[simp] theorem State.turns_setStepper (s : State) (n : Nat) (x : StepAxis) (j : Nat) : (s.setStepper n x).turns j = s.turns j := rfl
@[simp] theorem State.stream_setStepper (s : State) (n : Nat) (x : StepAxis) (j : Nat) : (s.setStepper n x).stream j = s.stream j := rfl
@[simp] theorem State.lock_setStepper (s : State) (n : Nat) (x : StepAxis) (j : Nat) : (s.setStepper n x).lock j = s.lock j := rfl
@[simp] theorem State.ladleJob_setStepper (s : State) (n : Nat) (x : StepAxis) (j : Nat) : (s.setStepper n x).ladleJob j = s.ladleJob j := rfl
@[simp] theorem State.drive_setStepper (s : State) (n : Nat) (x : StepAxis) (j : Nat) : (s.setStepper n x).drive j = s.drive j := rfl
@[simp] theorem State.loop_setStepper (s : State) (n : Nat) (x : StepAxis) (j : Nat) : (s.setStepper n x).loop j = s.loop j := rfl
@[simp] theorem State.hv_setStepper (s : State) (n : Nat) (x : StepAxis) (j : Nat) : (s.setStepper n x).hv j = s.hv j := rfl
@[simp] theorem State.zone_setStepper (s : State) (n : Nat) (x : StepAxis) (j : Nat) : (s.setStepper n x).zone j = s.zone j := rfl
@[simp] theorem State.on_setStepper (s : State) (n : Nat) (x : StepAxis) (j : Nat) : (s.setStepper n x).on j = s.on j := rfl

/-! ## setLoopSlot -/

@[simp] theorem State.setLoopSlot_s6 (s : State) (n : Nat) (x : LoopSlot) : (s.setLoopSlot n x).s6 = s.s6 := rfl
@[simp] theorem State.setLoopSlot_stamp (s : State) (n : Nat) (x : LoopSlot) : (s.setLoopSlot n x).stamp = s.stamp := rfl
@[simp] theorem State.setLoopSlot_od (s : State) (n : Nat) (x : LoopSlot) : (s.setLoopSlot n x).od = s.od := rfl
@[simp] theorem State.setLoopSlot_timers (s : State) (n : Nat) (x : LoopSlot) : (s.setLoopSlot n x).timers = s.timers := rfl
@[simp] theorem State.setLoopSlot_pos (s : State) (n : Nat) (x : LoopSlot) : (s.setLoopSlot n x).pos = s.pos := rfl
@[simp] theorem State.setLoopSlot_ev (s : State) (n : Nat) (x : LoopSlot) : (s.setLoopSlot n x).ev = s.ev := rfl
@[simp] theorem State.setLoopSlot_rings (s : State) (n : Nat) (x : LoopSlot) : (s.setLoopSlot n x).rings = s.rings := rfl
@[simp] theorem State.setLoopSlot_pcie (s : State) (n : Nat) (x : LoopSlot) : (s.setLoopSlot n x).pcie = s.pcie := rfl
@[simp] theorem State.setLoopSlot_polygons (s : State) (n : Nat) (x : LoopSlot) : (s.setLoopSlot n x).polygons = s.polygons := rfl
@[simp] theorem State.setLoopSlot_stations (s : State) (n : Nat) (x : LoopSlot) : (s.setLoopSlot n x).stations = s.stations := rfl
@[simp] theorem State.setLoopSlot_pages (s : State) (n : Nat) (x : LoopSlot) : (s.setLoopSlot n x).pages = s.pages := rfl
@[simp] theorem State.setLoopSlot_press (s : State) (n : Nat) (x : LoopSlot) : (s.setLoopSlot n x).press = s.press := rfl
@[simp] theorem State.setLoopSlot_fabric (s : State) (n : Nat) (x : LoopSlot) : (s.setLoopSlot n x).fabric = s.fabric := rfl
@[simp] theorem State.setLoopSlot_drives (s : State) (n : Nat) (x : LoopSlot) : (s.setLoopSlot n x).drives = s.drives := rfl
@[simp] theorem State.setLoopSlot_steppers (s : State) (n : Nat) (x : LoopSlot) : (s.setLoopSlot n x).steppers = s.steppers := rfl
@[simp] theorem State.setLoopSlot_loops_queue (s : State) (n : Nat) (x : LoopSlot) : (s.setLoopSlot n x).loops.queue = s.loops.queue := rfl
@[simp] theorem State.setLoopSlot_loops_hv (s : State) (n : Nat) (x : LoopSlot) : (s.setLoopSlot n x).loops.hv = s.loops.hv := rfl
@[simp] theorem State.setLoopSlot_loops_zones (s : State) (n : Nat) (x : LoopSlot) : (s.setLoopSlot n x).loops.zones = s.loops.zones := rfl
@[simp] theorem State.setLoopSlot_crock (s : State) (n : Nat) (x : LoopSlot) : (s.setLoopSlot n x).crock = s.crock := rfl
@[simp] theorem State.setLoopSlot_power (s : State) (n : Nat) (x : LoopSlot) : (s.setLoopSlot n x).power = s.power := rfl
@[simp] theorem State.setLoopSlot_lid (s : State) (n : Nat) (x : LoopSlot) : (s.setLoopSlot n x).lid = s.lid := rfl
@[simp] theorem State.setLoopSlot_twin (s : State) (n : Nat) (x : LoopSlot) : (s.setLoopSlot n x).twin = s.twin := rfl
@[simp] theorem State.setLoopSlot_trust (s : State) (n : Nat) (x : LoopSlot) : (s.setLoopSlot n x).trust = s.trust := rfl
@[simp] theorem State.setLoopSlot_svc (s : State) (n : Nat) (x : LoopSlot) : (s.setLoopSlot n x).svc = s.svc := rfl
@[simp] theorem State.setLoopSlot_drawn (s : State) (n : Nat) (x : LoopSlot) : (s.setLoopSlot n x).drawn = s.drawn := rfl
@[simp] theorem State.setLoopSlot_pending (s : State) (n : Nat) (x : LoopSlot) : (s.setLoopSlot n x).pending = s.pending := rfl
@[simp] theorem State.val_setLoopSlot (s : State) (n : Nat) (x : LoopSlot) (j : Nat) : (s.setLoopSlot n x).val j = s.val j := rfl
@[simp] theorem State.i_setLoopSlot (s : State) (n : Nat) (x : LoopSlot) (j : Nat) : (s.setLoopSlot n x).i j = s.i j := rfl
@[simp] theorem State.n_setLoopSlot (s : State) (n : Nat) (x : LoopSlot) (j : Nat) : (s.setLoopSlot n x).n j = s.n j := rfl
@[simp] theorem State.flag_setLoopSlot (s : State) (n : Nat) (x : LoopSlot) (j : Nat) : (s.setLoopSlot n x).flag j = s.flag j := rfl
@[simp] theorem State.bytes_setLoopSlot (s : State) (n : Nat) (x : LoopSlot) (j : Nat) : (s.setLoopSlot n x).bytes j = s.bytes j := rfl
@[simp] theorem State.armed_setLoopSlot (s : State) (n : Nat) (x : LoopSlot) (j : Nat) : (s.setLoopSlot n x).armed j = s.armed j := rfl
@[simp] theorem State.due_setLoopSlot (s : State) (n : Nat) (x : LoopSlot) (j : Nat) : (s.setLoopSlot n x).due j = s.due j := rfl
@[simp] theorem State.left_setLoopSlot (s : State) (n : Nat) (x : LoopSlot) (j : Nat) : (s.setLoopSlot n x).left j = s.left j := rfl
@[simp] theorem State.enc_setLoopSlot (s : State) (n : Nat) (x : LoopSlot) (j : Nat) : (s.setLoopSlot n x).enc j = s.enc j := rfl
@[simp] theorem State.slot_setLoopSlot (s : State) (n : Nat) (x : LoopSlot) (j : Nat) : (s.setLoopSlot n x).slot j = s.slot j := rfl
@[simp] theorem State.ring_setLoopSlot (s : State) (n : Nat) (x : LoopSlot) (j : Nat) : (s.setLoopSlot n x).ring j = s.ring j := rfl
@[simp] theorem State.domain_setLoopSlot (s : State) (n : Nat) (x : LoopSlot) (j : Nat) : (s.setLoopSlot n x).domain j = s.domain j := rfl
@[simp] theorem State.thermo_setLoopSlot (s : State) (n : Nat) (x : LoopSlot) (j : Nat) : (s.setLoopSlot n x).thermo j = s.thermo j := rfl
@[simp] theorem State.unit_setLoopSlot (s : State) (n : Nat) (x : LoopSlot) (j : Nat) : (s.setLoopSlot n x).unit j = s.unit j := rfl
@[simp] theorem State.polygon_setLoopSlot (s : State) (n : Nat) (x : LoopSlot) (j : Nat) : (s.setLoopSlot n x).polygon j = s.polygon j := rfl
@[simp] theorem State.station_setLoopSlot (s : State) (n : Nat) (x : LoopSlot) (j : Nat) : (s.setLoopSlot n x).station j = s.station j := rfl
@[simp] theorem State.page_setLoopSlot (s : State) (n : Nat) (x : LoopSlot) (j : Nat) : (s.setLoopSlot n x).page j = s.page j := rfl
@[simp] theorem State.lane_setLoopSlot (s : State) (n : Nat) (x : LoopSlot) (j : Nat) : (s.setLoopSlot n x).lane j = s.lane j := rfl
@[simp] theorem State.queue_setLoopSlot (s : State) (n : Nat) (x : LoopSlot) (j : Nat) : (s.setLoopSlot n x).queue j = s.queue j := rfl
@[simp] theorem State.buffer_setLoopSlot (s : State) (n : Nat) (x : LoopSlot) (j : Nat) : (s.setLoopSlot n x).buffer j = s.buffer j := rfl
@[simp] theorem State.jobsOf_setLoopSlot (s : State) (n : Nat) (x : LoopSlot) (j : Nat) : (s.setLoopSlot n x).jobsOf j = s.jobsOf j := rfl
@[simp] theorem State.turns_setLoopSlot (s : State) (n : Nat) (x : LoopSlot) (j : Nat) : (s.setLoopSlot n x).turns j = s.turns j := rfl
@[simp] theorem State.stream_setLoopSlot (s : State) (n : Nat) (x : LoopSlot) (j : Nat) : (s.setLoopSlot n x).stream j = s.stream j := rfl
@[simp] theorem State.lock_setLoopSlot (s : State) (n : Nat) (x : LoopSlot) (j : Nat) : (s.setLoopSlot n x).lock j = s.lock j := rfl
@[simp] theorem State.ladleJob_setLoopSlot (s : State) (n : Nat) (x : LoopSlot) (j : Nat) : (s.setLoopSlot n x).ladleJob j = s.ladleJob j := rfl
@[simp] theorem State.drive_setLoopSlot (s : State) (n : Nat) (x : LoopSlot) (j : Nat) : (s.setLoopSlot n x).drive j = s.drive j := rfl
@[simp] theorem State.stepper_setLoopSlot (s : State) (n : Nat) (x : LoopSlot) (j : Nat) : (s.setLoopSlot n x).stepper j = s.stepper j := rfl
@[simp] theorem State.hv_setLoopSlot (s : State) (n : Nat) (x : LoopSlot) (j : Nat) : (s.setLoopSlot n x).hv j = s.hv j := rfl
@[simp] theorem State.zone_setLoopSlot (s : State) (n : Nat) (x : LoopSlot) (j : Nat) : (s.setLoopSlot n x).zone j = s.zone j := rfl
@[simp] theorem State.on_setLoopSlot (s : State) (n : Nat) (x : LoopSlot) (j : Nat) : (s.setLoopSlot n x).on j = s.on j := rfl

/-! ## setHv -/

@[simp] theorem State.setHv_s6 (s : State) (n : Nat) (x : Hv) : (s.setHv n x).s6 = s.s6 := rfl
@[simp] theorem State.setHv_stamp (s : State) (n : Nat) (x : Hv) : (s.setHv n x).stamp = s.stamp := rfl
@[simp] theorem State.setHv_od (s : State) (n : Nat) (x : Hv) : (s.setHv n x).od = s.od := rfl
@[simp] theorem State.setHv_timers (s : State) (n : Nat) (x : Hv) : (s.setHv n x).timers = s.timers := rfl
@[simp] theorem State.setHv_pos (s : State) (n : Nat) (x : Hv) : (s.setHv n x).pos = s.pos := rfl
@[simp] theorem State.setHv_ev (s : State) (n : Nat) (x : Hv) : (s.setHv n x).ev = s.ev := rfl
@[simp] theorem State.setHv_rings (s : State) (n : Nat) (x : Hv) : (s.setHv n x).rings = s.rings := rfl
@[simp] theorem State.setHv_pcie (s : State) (n : Nat) (x : Hv) : (s.setHv n x).pcie = s.pcie := rfl
@[simp] theorem State.setHv_polygons (s : State) (n : Nat) (x : Hv) : (s.setHv n x).polygons = s.polygons := rfl
@[simp] theorem State.setHv_stations (s : State) (n : Nat) (x : Hv) : (s.setHv n x).stations = s.stations := rfl
@[simp] theorem State.setHv_pages (s : State) (n : Nat) (x : Hv) : (s.setHv n x).pages = s.pages := rfl
@[simp] theorem State.setHv_press (s : State) (n : Nat) (x : Hv) : (s.setHv n x).press = s.press := rfl
@[simp] theorem State.setHv_fabric (s : State) (n : Nat) (x : Hv) : (s.setHv n x).fabric = s.fabric := rfl
@[simp] theorem State.setHv_drives (s : State) (n : Nat) (x : Hv) : (s.setHv n x).drives = s.drives := rfl
@[simp] theorem State.setHv_steppers (s : State) (n : Nat) (x : Hv) : (s.setHv n x).steppers = s.steppers := rfl
@[simp] theorem State.setHv_loops_slots (s : State) (n : Nat) (x : Hv) : (s.setHv n x).loops.slots = s.loops.slots := rfl
@[simp] theorem State.setHv_loops_queue (s : State) (n : Nat) (x : Hv) : (s.setHv n x).loops.queue = s.loops.queue := rfl
@[simp] theorem State.setHv_loops_zones (s : State) (n : Nat) (x : Hv) : (s.setHv n x).loops.zones = s.loops.zones := rfl
@[simp] theorem State.setHv_crock (s : State) (n : Nat) (x : Hv) : (s.setHv n x).crock = s.crock := rfl
@[simp] theorem State.setHv_power (s : State) (n : Nat) (x : Hv) : (s.setHv n x).power = s.power := rfl
@[simp] theorem State.setHv_lid (s : State) (n : Nat) (x : Hv) : (s.setHv n x).lid = s.lid := rfl
@[simp] theorem State.setHv_twin (s : State) (n : Nat) (x : Hv) : (s.setHv n x).twin = s.twin := rfl
@[simp] theorem State.setHv_trust (s : State) (n : Nat) (x : Hv) : (s.setHv n x).trust = s.trust := rfl
@[simp] theorem State.setHv_svc (s : State) (n : Nat) (x : Hv) : (s.setHv n x).svc = s.svc := rfl
@[simp] theorem State.setHv_drawn (s : State) (n : Nat) (x : Hv) : (s.setHv n x).drawn = s.drawn := rfl
@[simp] theorem State.setHv_pending (s : State) (n : Nat) (x : Hv) : (s.setHv n x).pending = s.pending := rfl
@[simp] theorem State.val_setHv (s : State) (n : Nat) (x : Hv) (j : Nat) : (s.setHv n x).val j = s.val j := rfl
@[simp] theorem State.i_setHv (s : State) (n : Nat) (x : Hv) (j : Nat) : (s.setHv n x).i j = s.i j := rfl
@[simp] theorem State.n_setHv (s : State) (n : Nat) (x : Hv) (j : Nat) : (s.setHv n x).n j = s.n j := rfl
@[simp] theorem State.flag_setHv (s : State) (n : Nat) (x : Hv) (j : Nat) : (s.setHv n x).flag j = s.flag j := rfl
@[simp] theorem State.bytes_setHv (s : State) (n : Nat) (x : Hv) (j : Nat) : (s.setHv n x).bytes j = s.bytes j := rfl
@[simp] theorem State.armed_setHv (s : State) (n : Nat) (x : Hv) (j : Nat) : (s.setHv n x).armed j = s.armed j := rfl
@[simp] theorem State.due_setHv (s : State) (n : Nat) (x : Hv) (j : Nat) : (s.setHv n x).due j = s.due j := rfl
@[simp] theorem State.left_setHv (s : State) (n : Nat) (x : Hv) (j : Nat) : (s.setHv n x).left j = s.left j := rfl
@[simp] theorem State.enc_setHv (s : State) (n : Nat) (x : Hv) (j : Nat) : (s.setHv n x).enc j = s.enc j := rfl
@[simp] theorem State.slot_setHv (s : State) (n : Nat) (x : Hv) (j : Nat) : (s.setHv n x).slot j = s.slot j := rfl
@[simp] theorem State.ring_setHv (s : State) (n : Nat) (x : Hv) (j : Nat) : (s.setHv n x).ring j = s.ring j := rfl
@[simp] theorem State.domain_setHv (s : State) (n : Nat) (x : Hv) (j : Nat) : (s.setHv n x).domain j = s.domain j := rfl
@[simp] theorem State.thermo_setHv (s : State) (n : Nat) (x : Hv) (j : Nat) : (s.setHv n x).thermo j = s.thermo j := rfl
@[simp] theorem State.unit_setHv (s : State) (n : Nat) (x : Hv) (j : Nat) : (s.setHv n x).unit j = s.unit j := rfl
@[simp] theorem State.polygon_setHv (s : State) (n : Nat) (x : Hv) (j : Nat) : (s.setHv n x).polygon j = s.polygon j := rfl
@[simp] theorem State.station_setHv (s : State) (n : Nat) (x : Hv) (j : Nat) : (s.setHv n x).station j = s.station j := rfl
@[simp] theorem State.page_setHv (s : State) (n : Nat) (x : Hv) (j : Nat) : (s.setHv n x).page j = s.page j := rfl
@[simp] theorem State.lane_setHv (s : State) (n : Nat) (x : Hv) (j : Nat) : (s.setHv n x).lane j = s.lane j := rfl
@[simp] theorem State.queue_setHv (s : State) (n : Nat) (x : Hv) (j : Nat) : (s.setHv n x).queue j = s.queue j := rfl
@[simp] theorem State.buffer_setHv (s : State) (n : Nat) (x : Hv) (j : Nat) : (s.setHv n x).buffer j = s.buffer j := rfl
@[simp] theorem State.jobsOf_setHv (s : State) (n : Nat) (x : Hv) (j : Nat) : (s.setHv n x).jobsOf j = s.jobsOf j := rfl
@[simp] theorem State.turns_setHv (s : State) (n : Nat) (x : Hv) (j : Nat) : (s.setHv n x).turns j = s.turns j := rfl
@[simp] theorem State.stream_setHv (s : State) (n : Nat) (x : Hv) (j : Nat) : (s.setHv n x).stream j = s.stream j := rfl
@[simp] theorem State.lock_setHv (s : State) (n : Nat) (x : Hv) (j : Nat) : (s.setHv n x).lock j = s.lock j := rfl
@[simp] theorem State.ladleJob_setHv (s : State) (n : Nat) (x : Hv) (j : Nat) : (s.setHv n x).ladleJob j = s.ladleJob j := rfl
@[simp] theorem State.drive_setHv (s : State) (n : Nat) (x : Hv) (j : Nat) : (s.setHv n x).drive j = s.drive j := rfl
@[simp] theorem State.stepper_setHv (s : State) (n : Nat) (x : Hv) (j : Nat) : (s.setHv n x).stepper j = s.stepper j := rfl
@[simp] theorem State.loop_setHv (s : State) (n : Nat) (x : Hv) (j : Nat) : (s.setHv n x).loop j = s.loop j := rfl
@[simp] theorem State.zone_setHv (s : State) (n : Nat) (x : Hv) (j : Nat) : (s.setHv n x).zone j = s.zone j := rfl
@[simp] theorem State.on_setHv (s : State) (n : Nat) (x : Hv) (j : Nat) : (s.setHv n x).on j = s.on j := rfl

/-! ## setZone -/

@[simp] theorem State.setZone_s6 (s : State) (n : Nat) (x : Zone) : (s.setZone n x).s6 = s.s6 := rfl
@[simp] theorem State.setZone_stamp (s : State) (n : Nat) (x : Zone) : (s.setZone n x).stamp = s.stamp := rfl
@[simp] theorem State.setZone_od (s : State) (n : Nat) (x : Zone) : (s.setZone n x).od = s.od := rfl
@[simp] theorem State.setZone_timers (s : State) (n : Nat) (x : Zone) : (s.setZone n x).timers = s.timers := rfl
@[simp] theorem State.setZone_pos (s : State) (n : Nat) (x : Zone) : (s.setZone n x).pos = s.pos := rfl
@[simp] theorem State.setZone_ev (s : State) (n : Nat) (x : Zone) : (s.setZone n x).ev = s.ev := rfl
@[simp] theorem State.setZone_rings (s : State) (n : Nat) (x : Zone) : (s.setZone n x).rings = s.rings := rfl
@[simp] theorem State.setZone_pcie (s : State) (n : Nat) (x : Zone) : (s.setZone n x).pcie = s.pcie := rfl
@[simp] theorem State.setZone_polygons (s : State) (n : Nat) (x : Zone) : (s.setZone n x).polygons = s.polygons := rfl
@[simp] theorem State.setZone_stations (s : State) (n : Nat) (x : Zone) : (s.setZone n x).stations = s.stations := rfl
@[simp] theorem State.setZone_pages (s : State) (n : Nat) (x : Zone) : (s.setZone n x).pages = s.pages := rfl
@[simp] theorem State.setZone_press (s : State) (n : Nat) (x : Zone) : (s.setZone n x).press = s.press := rfl
@[simp] theorem State.setZone_fabric (s : State) (n : Nat) (x : Zone) : (s.setZone n x).fabric = s.fabric := rfl
@[simp] theorem State.setZone_drives (s : State) (n : Nat) (x : Zone) : (s.setZone n x).drives = s.drives := rfl
@[simp] theorem State.setZone_steppers (s : State) (n : Nat) (x : Zone) : (s.setZone n x).steppers = s.steppers := rfl
@[simp] theorem State.setZone_loops_slots (s : State) (n : Nat) (x : Zone) : (s.setZone n x).loops.slots = s.loops.slots := rfl
@[simp] theorem State.setZone_loops_queue (s : State) (n : Nat) (x : Zone) : (s.setZone n x).loops.queue = s.loops.queue := rfl
@[simp] theorem State.setZone_loops_hv (s : State) (n : Nat) (x : Zone) : (s.setZone n x).loops.hv = s.loops.hv := rfl
@[simp] theorem State.setZone_crock (s : State) (n : Nat) (x : Zone) : (s.setZone n x).crock = s.crock := rfl
@[simp] theorem State.setZone_power (s : State) (n : Nat) (x : Zone) : (s.setZone n x).power = s.power := rfl
@[simp] theorem State.setZone_lid (s : State) (n : Nat) (x : Zone) : (s.setZone n x).lid = s.lid := rfl
@[simp] theorem State.setZone_twin (s : State) (n : Nat) (x : Zone) : (s.setZone n x).twin = s.twin := rfl
@[simp] theorem State.setZone_trust (s : State) (n : Nat) (x : Zone) : (s.setZone n x).trust = s.trust := rfl
@[simp] theorem State.setZone_svc (s : State) (n : Nat) (x : Zone) : (s.setZone n x).svc = s.svc := rfl
@[simp] theorem State.setZone_drawn (s : State) (n : Nat) (x : Zone) : (s.setZone n x).drawn = s.drawn := rfl
@[simp] theorem State.setZone_pending (s : State) (n : Nat) (x : Zone) : (s.setZone n x).pending = s.pending := rfl
@[simp] theorem State.val_setZone (s : State) (n : Nat) (x : Zone) (j : Nat) : (s.setZone n x).val j = s.val j := rfl
@[simp] theorem State.i_setZone (s : State) (n : Nat) (x : Zone) (j : Nat) : (s.setZone n x).i j = s.i j := rfl
@[simp] theorem State.n_setZone (s : State) (n : Nat) (x : Zone) (j : Nat) : (s.setZone n x).n j = s.n j := rfl
@[simp] theorem State.flag_setZone (s : State) (n : Nat) (x : Zone) (j : Nat) : (s.setZone n x).flag j = s.flag j := rfl
@[simp] theorem State.bytes_setZone (s : State) (n : Nat) (x : Zone) (j : Nat) : (s.setZone n x).bytes j = s.bytes j := rfl
@[simp] theorem State.armed_setZone (s : State) (n : Nat) (x : Zone) (j : Nat) : (s.setZone n x).armed j = s.armed j := rfl
@[simp] theorem State.due_setZone (s : State) (n : Nat) (x : Zone) (j : Nat) : (s.setZone n x).due j = s.due j := rfl
@[simp] theorem State.left_setZone (s : State) (n : Nat) (x : Zone) (j : Nat) : (s.setZone n x).left j = s.left j := rfl
@[simp] theorem State.enc_setZone (s : State) (n : Nat) (x : Zone) (j : Nat) : (s.setZone n x).enc j = s.enc j := rfl
@[simp] theorem State.slot_setZone (s : State) (n : Nat) (x : Zone) (j : Nat) : (s.setZone n x).slot j = s.slot j := rfl
@[simp] theorem State.ring_setZone (s : State) (n : Nat) (x : Zone) (j : Nat) : (s.setZone n x).ring j = s.ring j := rfl
@[simp] theorem State.domain_setZone (s : State) (n : Nat) (x : Zone) (j : Nat) : (s.setZone n x).domain j = s.domain j := rfl
@[simp] theorem State.thermo_setZone (s : State) (n : Nat) (x : Zone) (j : Nat) : (s.setZone n x).thermo j = s.thermo j := rfl
@[simp] theorem State.unit_setZone (s : State) (n : Nat) (x : Zone) (j : Nat) : (s.setZone n x).unit j = s.unit j := rfl
@[simp] theorem State.polygon_setZone (s : State) (n : Nat) (x : Zone) (j : Nat) : (s.setZone n x).polygon j = s.polygon j := rfl
@[simp] theorem State.station_setZone (s : State) (n : Nat) (x : Zone) (j : Nat) : (s.setZone n x).station j = s.station j := rfl
@[simp] theorem State.page_setZone (s : State) (n : Nat) (x : Zone) (j : Nat) : (s.setZone n x).page j = s.page j := rfl
@[simp] theorem State.lane_setZone (s : State) (n : Nat) (x : Zone) (j : Nat) : (s.setZone n x).lane j = s.lane j := rfl
@[simp] theorem State.queue_setZone (s : State) (n : Nat) (x : Zone) (j : Nat) : (s.setZone n x).queue j = s.queue j := rfl
@[simp] theorem State.buffer_setZone (s : State) (n : Nat) (x : Zone) (j : Nat) : (s.setZone n x).buffer j = s.buffer j := rfl
@[simp] theorem State.jobsOf_setZone (s : State) (n : Nat) (x : Zone) (j : Nat) : (s.setZone n x).jobsOf j = s.jobsOf j := rfl
@[simp] theorem State.turns_setZone (s : State) (n : Nat) (x : Zone) (j : Nat) : (s.setZone n x).turns j = s.turns j := rfl
@[simp] theorem State.stream_setZone (s : State) (n : Nat) (x : Zone) (j : Nat) : (s.setZone n x).stream j = s.stream j := rfl
@[simp] theorem State.lock_setZone (s : State) (n : Nat) (x : Zone) (j : Nat) : (s.setZone n x).lock j = s.lock j := rfl
@[simp] theorem State.ladleJob_setZone (s : State) (n : Nat) (x : Zone) (j : Nat) : (s.setZone n x).ladleJob j = s.ladleJob j := rfl
@[simp] theorem State.drive_setZone (s : State) (n : Nat) (x : Zone) (j : Nat) : (s.setZone n x).drive j = s.drive j := rfl
@[simp] theorem State.stepper_setZone (s : State) (n : Nat) (x : Zone) (j : Nat) : (s.setZone n x).stepper j = s.stepper j := rfl
@[simp] theorem State.loop_setZone (s : State) (n : Nat) (x : Zone) (j : Nat) : (s.setZone n x).loop j = s.loop j := rfl
@[simp] theorem State.hv_setZone (s : State) (n : Nat) (x : Zone) (j : Nat) : (s.setZone n x).hv j = s.hv j := rfl
@[simp] theorem State.on_setZone (s : State) (n : Nat) (x : Zone) (j : Nat) : (s.setZone n x).on j = s.on j := rfl

/-! ## dramWrite -/

@[simp] theorem State.dramWrite_s6 (s : State) (a : Nat) (b : Bytes) : (s.dramWrite a b).s6 = s.s6 := rfl
@[simp] theorem State.dramWrite_stamp (s : State) (a : Nat) (b : Bytes) : (s.dramWrite a b).stamp = s.stamp := rfl
@[simp] theorem State.dramWrite_od (s : State) (a : Nat) (b : Bytes) : (s.dramWrite a b).od = s.od := rfl
@[simp] theorem State.dramWrite_timers (s : State) (a : Nat) (b : Bytes) : (s.dramWrite a b).timers = s.timers := rfl
@[simp] theorem State.dramWrite_pos (s : State) (a : Nat) (b : Bytes) : (s.dramWrite a b).pos = s.pos := rfl
@[simp] theorem State.dramWrite_ev (s : State) (a : Nat) (b : Bytes) : (s.dramWrite a b).ev = s.ev := rfl
@[simp] theorem State.dramWrite_rings (s : State) (a : Nat) (b : Bytes) : (s.dramWrite a b).rings = s.rings := rfl
@[simp] theorem State.dramWrite_pcie (s : State) (a : Nat) (b : Bytes) : (s.dramWrite a b).pcie = s.pcie := rfl
@[simp] theorem State.dramWrite_polygons (s : State) (a : Nat) (b : Bytes) : (s.dramWrite a b).polygons = s.polygons := rfl
@[simp] theorem State.dramWrite_stations (s : State) (a : Nat) (b : Bytes) : (s.dramWrite a b).stations = s.stations := rfl
@[simp] theorem State.dramWrite_pages (s : State) (a : Nat) (b : Bytes) : (s.dramWrite a b).pages = s.pages := rfl
@[simp] theorem State.dramWrite_press (s : State) (a : Nat) (b : Bytes) : (s.dramWrite a b).press = s.press := rfl
@[simp] theorem State.dramWrite_fabric_grants (s : State) (a : Nat) (b : Bytes) : (s.dramWrite a b).fabric.grants = s.fabric.grants := rfl
@[simp] theorem State.dramWrite_fabric_preemptions (s : State) (a : Nat) (b : Bytes) : (s.dramWrite a b).fabric.preemptions = s.fabric.preemptions := rfl
@[simp] theorem State.dramWrite_fabric_scrubbed (s : State) (a : Nat) (b : Bytes) : (s.dramWrite a b).fabric.scrubbed = s.fabric.scrubbed := rfl
@[simp] theorem State.dramWrite_fabric_late (s : State) (a : Nat) (b : Bytes) : (s.dramWrite a b).fabric.late = s.fabric.late := rfl
@[simp] theorem State.dramWrite_fabric_locks (s : State) (a : Nat) (b : Bytes) : (s.dramWrite a b).fabric.locks = s.fabric.locks := rfl
@[simp] theorem State.dramWrite_fabric_lockQueue (s : State) (a : Nat) (b : Bytes) : (s.dramWrite a b).fabric.lockQueue = s.fabric.lockQueue := rfl
@[simp] theorem State.dramWrite_fabric_jobs (s : State) (a : Nat) (b : Bytes) : (s.dramWrite a b).fabric.jobs = s.fabric.jobs := rfl
@[simp] theorem State.dramWrite_fabric_marks (s : State) (a : Nat) (b : Bytes) : (s.dramWrite a b).fabric.marks = s.fabric.marks := rfl
@[simp] theorem State.dramWrite_fabric_host (s : State) (a : Nat) (b : Bytes) : (s.dramWrite a b).fabric.host = s.fabric.host := rfl
@[simp] theorem State.dramWrite_drives (s : State) (a : Nat) (b : Bytes) : (s.dramWrite a b).drives = s.drives := rfl
@[simp] theorem State.dramWrite_steppers (s : State) (a : Nat) (b : Bytes) : (s.dramWrite a b).steppers = s.steppers := rfl
@[simp] theorem State.dramWrite_loops (s : State) (a : Nat) (b : Bytes) : (s.dramWrite a b).loops = s.loops := rfl
@[simp] theorem State.dramWrite_crock (s : State) (a : Nat) (b : Bytes) : (s.dramWrite a b).crock = s.crock := rfl
@[simp] theorem State.dramWrite_power (s : State) (a : Nat) (b : Bytes) : (s.dramWrite a b).power = s.power := rfl
@[simp] theorem State.dramWrite_lid (s : State) (a : Nat) (b : Bytes) : (s.dramWrite a b).lid = s.lid := rfl
@[simp] theorem State.dramWrite_twin (s : State) (a : Nat) (b : Bytes) : (s.dramWrite a b).twin = s.twin := rfl
@[simp] theorem State.dramWrite_trust (s : State) (a : Nat) (b : Bytes) : (s.dramWrite a b).trust = s.trust := rfl
@[simp] theorem State.dramWrite_svc (s : State) (a : Nat) (b : Bytes) : (s.dramWrite a b).svc = s.svc := rfl
@[simp] theorem State.dramWrite_drawn (s : State) (a : Nat) (b : Bytes) : (s.dramWrite a b).drawn = s.drawn := rfl
@[simp] theorem State.dramWrite_pending (s : State) (a : Nat) (b : Bytes) : (s.dramWrite a b).pending = s.pending := rfl
@[simp] theorem State.val_dramWrite (s : State) (a : Nat) (b : Bytes) (j : Nat) : (s.dramWrite a b).val j = s.val j := rfl
@[simp] theorem State.i_dramWrite (s : State) (a : Nat) (b : Bytes) (j : Nat) : (s.dramWrite a b).i j = s.i j := rfl
@[simp] theorem State.n_dramWrite (s : State) (a : Nat) (b : Bytes) (j : Nat) : (s.dramWrite a b).n j = s.n j := rfl
@[simp] theorem State.flag_dramWrite (s : State) (a : Nat) (b : Bytes) (j : Nat) : (s.dramWrite a b).flag j = s.flag j := rfl
@[simp] theorem State.bytes_dramWrite (s : State) (a : Nat) (b : Bytes) (j : Nat) : (s.dramWrite a b).bytes j = s.bytes j := rfl
@[simp] theorem State.armed_dramWrite (s : State) (a : Nat) (b : Bytes) (j : Nat) : (s.dramWrite a b).armed j = s.armed j := rfl
@[simp] theorem State.due_dramWrite (s : State) (a : Nat) (b : Bytes) (j : Nat) : (s.dramWrite a b).due j = s.due j := rfl
@[simp] theorem State.left_dramWrite (s : State) (a : Nat) (b : Bytes) (j : Nat) : (s.dramWrite a b).left j = s.left j := rfl
@[simp] theorem State.enc_dramWrite (s : State) (a : Nat) (b : Bytes) (j : Nat) : (s.dramWrite a b).enc j = s.enc j := rfl
@[simp] theorem State.slot_dramWrite (s : State) (a : Nat) (b : Bytes) (j : Nat) : (s.dramWrite a b).slot j = s.slot j := rfl
@[simp] theorem State.ring_dramWrite (s : State) (a : Nat) (b : Bytes) (j : Nat) : (s.dramWrite a b).ring j = s.ring j := rfl
@[simp] theorem State.domain_dramWrite (s : State) (a : Nat) (b : Bytes) (j : Nat) : (s.dramWrite a b).domain j = s.domain j := rfl
@[simp] theorem State.thermo_dramWrite (s : State) (a : Nat) (b : Bytes) (j : Nat) : (s.dramWrite a b).thermo j = s.thermo j := rfl
@[simp] theorem State.unit_dramWrite (s : State) (a : Nat) (b : Bytes) (j : Nat) : (s.dramWrite a b).unit j = s.unit j := rfl
@[simp] theorem State.polygon_dramWrite (s : State) (a : Nat) (b : Bytes) (j : Nat) : (s.dramWrite a b).polygon j = s.polygon j := rfl
@[simp] theorem State.station_dramWrite (s : State) (a : Nat) (b : Bytes) (j : Nat) : (s.dramWrite a b).station j = s.station j := rfl
@[simp] theorem State.page_dramWrite (s : State) (a : Nat) (b : Bytes) (j : Nat) : (s.dramWrite a b).page j = s.page j := rfl
@[simp] theorem State.lane_dramWrite (s : State) (a : Nat) (b : Bytes) (j : Nat) : (s.dramWrite a b).lane j = s.lane j := rfl
@[simp] theorem State.queue_dramWrite (s : State) (a : Nat) (b : Bytes) (j : Nat) : (s.dramWrite a b).queue j = s.queue j := rfl
@[simp] theorem State.buffer_dramWrite (s : State) (a : Nat) (b : Bytes) (j : Nat) : (s.dramWrite a b).buffer j = s.buffer j := rfl
@[simp] theorem State.jobsOf_dramWrite (s : State) (a : Nat) (b : Bytes) (j : Nat) : (s.dramWrite a b).jobsOf j = s.jobsOf j := rfl
@[simp] theorem State.turns_dramWrite (s : State) (a : Nat) (b : Bytes) (j : Nat) : (s.dramWrite a b).turns j = s.turns j := rfl
@[simp] theorem State.stream_dramWrite (s : State) (a : Nat) (b : Bytes) (j : Nat) : (s.dramWrite a b).stream j = s.stream j := rfl
@[simp] theorem State.lock_dramWrite (s : State) (a : Nat) (b : Bytes) (j : Nat) : (s.dramWrite a b).lock j = s.lock j := rfl
@[simp] theorem State.ladleJob_dramWrite (s : State) (a : Nat) (b : Bytes) (j : Nat) : (s.dramWrite a b).ladleJob j = s.ladleJob j := rfl
@[simp] theorem State.drive_dramWrite (s : State) (a : Nat) (b : Bytes) (j : Nat) : (s.dramWrite a b).drive j = s.drive j := rfl
@[simp] theorem State.stepper_dramWrite (s : State) (a : Nat) (b : Bytes) (j : Nat) : (s.dramWrite a b).stepper j = s.stepper j := rfl
@[simp] theorem State.loop_dramWrite (s : State) (a : Nat) (b : Bytes) (j : Nat) : (s.dramWrite a b).loop j = s.loop j := rfl
@[simp] theorem State.hv_dramWrite (s : State) (a : Nat) (b : Bytes) (j : Nat) : (s.dramWrite a b).hv j = s.hv j := rfl
@[simp] theorem State.zone_dramWrite (s : State) (a : Nat) (b : Bytes) (j : Nat) : (s.dramWrite a b).zone j = s.zone j := rfl
@[simp] theorem State.on_dramWrite (s : State) (a : Nat) (b : Bytes) (j : Nat) : (s.dramWrite a b).on j = s.on j := rfl

/-! ## hostWrite -/

@[simp] theorem State.hostWrite_s6 (s : State) (a : Nat) (b : Bytes) : (s.hostWrite a b).s6 = s.s6 := rfl
@[simp] theorem State.hostWrite_stamp (s : State) (a : Nat) (b : Bytes) : (s.hostWrite a b).stamp = s.stamp := rfl
@[simp] theorem State.hostWrite_od (s : State) (a : Nat) (b : Bytes) : (s.hostWrite a b).od = s.od := rfl
@[simp] theorem State.hostWrite_timers (s : State) (a : Nat) (b : Bytes) : (s.hostWrite a b).timers = s.timers := rfl
@[simp] theorem State.hostWrite_pos (s : State) (a : Nat) (b : Bytes) : (s.hostWrite a b).pos = s.pos := rfl
@[simp] theorem State.hostWrite_ev (s : State) (a : Nat) (b : Bytes) : (s.hostWrite a b).ev = s.ev := rfl
@[simp] theorem State.hostWrite_rings (s : State) (a : Nat) (b : Bytes) : (s.hostWrite a b).rings = s.rings := rfl
@[simp] theorem State.hostWrite_pcie (s : State) (a : Nat) (b : Bytes) : (s.hostWrite a b).pcie = s.pcie := rfl
@[simp] theorem State.hostWrite_polygons (s : State) (a : Nat) (b : Bytes) : (s.hostWrite a b).polygons = s.polygons := rfl
@[simp] theorem State.hostWrite_stations (s : State) (a : Nat) (b : Bytes) : (s.hostWrite a b).stations = s.stations := rfl
@[simp] theorem State.hostWrite_pages (s : State) (a : Nat) (b : Bytes) : (s.hostWrite a b).pages = s.pages := rfl
@[simp] theorem State.hostWrite_press (s : State) (a : Nat) (b : Bytes) : (s.hostWrite a b).press = s.press := rfl
@[simp] theorem State.hostWrite_fabric_grants (s : State) (a : Nat) (b : Bytes) : (s.hostWrite a b).fabric.grants = s.fabric.grants := rfl
@[simp] theorem State.hostWrite_fabric_preemptions (s : State) (a : Nat) (b : Bytes) : (s.hostWrite a b).fabric.preemptions = s.fabric.preemptions := rfl
@[simp] theorem State.hostWrite_fabric_scrubbed (s : State) (a : Nat) (b : Bytes) : (s.hostWrite a b).fabric.scrubbed = s.fabric.scrubbed := rfl
@[simp] theorem State.hostWrite_fabric_late (s : State) (a : Nat) (b : Bytes) : (s.hostWrite a b).fabric.late = s.fabric.late := rfl
@[simp] theorem State.hostWrite_fabric_locks (s : State) (a : Nat) (b : Bytes) : (s.hostWrite a b).fabric.locks = s.fabric.locks := rfl
@[simp] theorem State.hostWrite_fabric_lockQueue (s : State) (a : Nat) (b : Bytes) : (s.hostWrite a b).fabric.lockQueue = s.fabric.lockQueue := rfl
@[simp] theorem State.hostWrite_fabric_jobs (s : State) (a : Nat) (b : Bytes) : (s.hostWrite a b).fabric.jobs = s.fabric.jobs := rfl
@[simp] theorem State.hostWrite_fabric_window (s : State) (a : Nat) (b : Bytes) : (s.hostWrite a b).fabric.window = s.fabric.window := rfl
@[simp] theorem State.hostWrite_fabric_marks (s : State) (a : Nat) (b : Bytes) : (s.hostWrite a b).fabric.marks = s.fabric.marks := rfl
@[simp] theorem State.hostWrite_drives (s : State) (a : Nat) (b : Bytes) : (s.hostWrite a b).drives = s.drives := rfl
@[simp] theorem State.hostWrite_steppers (s : State) (a : Nat) (b : Bytes) : (s.hostWrite a b).steppers = s.steppers := rfl
@[simp] theorem State.hostWrite_loops (s : State) (a : Nat) (b : Bytes) : (s.hostWrite a b).loops = s.loops := rfl
@[simp] theorem State.hostWrite_crock (s : State) (a : Nat) (b : Bytes) : (s.hostWrite a b).crock = s.crock := rfl
@[simp] theorem State.hostWrite_power (s : State) (a : Nat) (b : Bytes) : (s.hostWrite a b).power = s.power := rfl
@[simp] theorem State.hostWrite_lid (s : State) (a : Nat) (b : Bytes) : (s.hostWrite a b).lid = s.lid := rfl
@[simp] theorem State.hostWrite_twin (s : State) (a : Nat) (b : Bytes) : (s.hostWrite a b).twin = s.twin := rfl
@[simp] theorem State.hostWrite_trust (s : State) (a : Nat) (b : Bytes) : (s.hostWrite a b).trust = s.trust := rfl
@[simp] theorem State.hostWrite_svc (s : State) (a : Nat) (b : Bytes) : (s.hostWrite a b).svc = s.svc := rfl
@[simp] theorem State.hostWrite_drawn (s : State) (a : Nat) (b : Bytes) : (s.hostWrite a b).drawn = s.drawn := rfl
@[simp] theorem State.hostWrite_pending (s : State) (a : Nat) (b : Bytes) : (s.hostWrite a b).pending = s.pending := rfl
@[simp] theorem State.val_hostWrite (s : State) (a : Nat) (b : Bytes) (j : Nat) : (s.hostWrite a b).val j = s.val j := rfl
@[simp] theorem State.i_hostWrite (s : State) (a : Nat) (b : Bytes) (j : Nat) : (s.hostWrite a b).i j = s.i j := rfl
@[simp] theorem State.n_hostWrite (s : State) (a : Nat) (b : Bytes) (j : Nat) : (s.hostWrite a b).n j = s.n j := rfl
@[simp] theorem State.flag_hostWrite (s : State) (a : Nat) (b : Bytes) (j : Nat) : (s.hostWrite a b).flag j = s.flag j := rfl
@[simp] theorem State.bytes_hostWrite (s : State) (a : Nat) (b : Bytes) (j : Nat) : (s.hostWrite a b).bytes j = s.bytes j := rfl
@[simp] theorem State.armed_hostWrite (s : State) (a : Nat) (b : Bytes) (j : Nat) : (s.hostWrite a b).armed j = s.armed j := rfl
@[simp] theorem State.due_hostWrite (s : State) (a : Nat) (b : Bytes) (j : Nat) : (s.hostWrite a b).due j = s.due j := rfl
@[simp] theorem State.left_hostWrite (s : State) (a : Nat) (b : Bytes) (j : Nat) : (s.hostWrite a b).left j = s.left j := rfl
@[simp] theorem State.enc_hostWrite (s : State) (a : Nat) (b : Bytes) (j : Nat) : (s.hostWrite a b).enc j = s.enc j := rfl
@[simp] theorem State.slot_hostWrite (s : State) (a : Nat) (b : Bytes) (j : Nat) : (s.hostWrite a b).slot j = s.slot j := rfl
@[simp] theorem State.ring_hostWrite (s : State) (a : Nat) (b : Bytes) (j : Nat) : (s.hostWrite a b).ring j = s.ring j := rfl
@[simp] theorem State.domain_hostWrite (s : State) (a : Nat) (b : Bytes) (j : Nat) : (s.hostWrite a b).domain j = s.domain j := rfl
@[simp] theorem State.thermo_hostWrite (s : State) (a : Nat) (b : Bytes) (j : Nat) : (s.hostWrite a b).thermo j = s.thermo j := rfl
@[simp] theorem State.unit_hostWrite (s : State) (a : Nat) (b : Bytes) (j : Nat) : (s.hostWrite a b).unit j = s.unit j := rfl
@[simp] theorem State.polygon_hostWrite (s : State) (a : Nat) (b : Bytes) (j : Nat) : (s.hostWrite a b).polygon j = s.polygon j := rfl
@[simp] theorem State.station_hostWrite (s : State) (a : Nat) (b : Bytes) (j : Nat) : (s.hostWrite a b).station j = s.station j := rfl
@[simp] theorem State.page_hostWrite (s : State) (a : Nat) (b : Bytes) (j : Nat) : (s.hostWrite a b).page j = s.page j := rfl
@[simp] theorem State.lane_hostWrite (s : State) (a : Nat) (b : Bytes) (j : Nat) : (s.hostWrite a b).lane j = s.lane j := rfl
@[simp] theorem State.queue_hostWrite (s : State) (a : Nat) (b : Bytes) (j : Nat) : (s.hostWrite a b).queue j = s.queue j := rfl
@[simp] theorem State.buffer_hostWrite (s : State) (a : Nat) (b : Bytes) (j : Nat) : (s.hostWrite a b).buffer j = s.buffer j := rfl
@[simp] theorem State.jobsOf_hostWrite (s : State) (a : Nat) (b : Bytes) (j : Nat) : (s.hostWrite a b).jobsOf j = s.jobsOf j := rfl
@[simp] theorem State.turns_hostWrite (s : State) (a : Nat) (b : Bytes) (j : Nat) : (s.hostWrite a b).turns j = s.turns j := rfl
@[simp] theorem State.stream_hostWrite (s : State) (a : Nat) (b : Bytes) (j : Nat) : (s.hostWrite a b).stream j = s.stream j := rfl
@[simp] theorem State.lock_hostWrite (s : State) (a : Nat) (b : Bytes) (j : Nat) : (s.hostWrite a b).lock j = s.lock j := rfl
@[simp] theorem State.ladleJob_hostWrite (s : State) (a : Nat) (b : Bytes) (j : Nat) : (s.hostWrite a b).ladleJob j = s.ladleJob j := rfl
@[simp] theorem State.drive_hostWrite (s : State) (a : Nat) (b : Bytes) (j : Nat) : (s.hostWrite a b).drive j = s.drive j := rfl
@[simp] theorem State.stepper_hostWrite (s : State) (a : Nat) (b : Bytes) (j : Nat) : (s.hostWrite a b).stepper j = s.stepper j := rfl
@[simp] theorem State.loop_hostWrite (s : State) (a : Nat) (b : Bytes) (j : Nat) : (s.hostWrite a b).loop j = s.loop j := rfl
@[simp] theorem State.hv_hostWrite (s : State) (a : Nat) (b : Bytes) (j : Nat) : (s.hostWrite a b).hv j = s.hv j := rfl
@[simp] theorem State.zone_hostWrite (s : State) (a : Nat) (b : Bytes) (j : Nat) : (s.hostWrite a b).zone j = s.zone j := rfl
@[simp] theorem State.on_hostWrite (s : State) (a : Nat) (b : Bytes) (j : Nat) : (s.hostWrite a b).on j = s.on j := rfl

/-! ## A reading after the update of the same thing -/

@[simp] theorem State.enc_setEnc_same (s : State) (n : Nat) (x : Encoder) : (s.setEnc n x).enc n = x := Tab.get_put_same _ _ _ _
theorem State.enc_setEnc_ne (s : State) {n j : Nat} (x : Encoder) (h : j ≠ n) : (s.setEnc n x).enc j = s.enc j := Tab.get_put_ne _ _ _ h
@[simp] theorem State.slot_setSlot_same (s : State) (n : Nat) (x : Slot) : (s.setSlot n x).slot n = x := Tab.get_put_same _ _ _ _
theorem State.slot_setSlot_ne (s : State) {n j : Nat} (x : Slot) (h : j ≠ n) : (s.setSlot n x).slot j = s.slot j := Tab.get_put_ne _ _ _ h
@[simp] theorem State.ring_setRing_same (s : State) (n : Nat) (x : Ring) : (s.setRing n x).ring n = x := Tab.get_put_same _ _ _ _
theorem State.ring_setRing_ne (s : State) {n j : Nat} (x : Ring) (h : j ≠ n) : (s.setRing n x).ring j = s.ring j := Tab.get_put_ne _ _ _ h
@[simp] theorem State.domain_setDomain_same (s : State) (n : Nat) (x : Domain) : (s.setDomain n x).domain n = x := Tab.get_put_same _ _ _ _
theorem State.domain_setDomain_ne (s : State) {n j : Nat} (x : Domain) (h : j ≠ n) : (s.setDomain n x).domain j = s.domain j := Tab.get_put_ne _ _ _ h
@[simp] theorem State.thermo_setThermo_same (s : State) (n : Nat) (x : Thermometer) : (s.setThermo n x).thermo n = x := Tab.get_put_same _ _ _ _
theorem State.thermo_setThermo_ne (s : State) {n j : Nat} (x : Thermometer) (h : j ≠ n) : (s.setThermo n x).thermo j = s.thermo j := Tab.get_put_ne _ _ _ h
@[simp] theorem State.unit_setUnit_same (s : State) (n : Nat) (x : Unit) : (s.setUnit n x).unit n = x := Tab.get_put_same _ _ _ _
theorem State.unit_setUnit_ne (s : State) {n j : Nat} (x : Unit) (h : j ≠ n) : (s.setUnit n x).unit j = s.unit j := Tab.get_put_ne _ _ _ h
@[simp] theorem State.polygon_setPolygon_same (s : State) (n : Nat) (x : Polygon) : (s.setPolygon n x).polygon n = x := Tab.get_put_same _ _ _ _
theorem State.polygon_setPolygon_ne (s : State) {n j : Nat} (x : Polygon) (h : j ≠ n) : (s.setPolygon n x).polygon j = s.polygon j := Tab.get_put_ne _ _ _ h
@[simp] theorem State.station_setStation_same (s : State) (n : Nat) (x : Station) : (s.setStation n x).station n = x := Tab.get_put_same _ _ _ _
theorem State.station_setStation_ne (s : State) {n j : Nat} (x : Station) (h : j ≠ n) : (s.setStation n x).station j = s.station j := Tab.get_put_ne _ _ _ h
@[simp] theorem State.page_setPage_same (s : State) (n : Nat) (x : Page) : (s.setPage n x).page n = x := Tab.get_put_same _ _ _ _
theorem State.page_setPage_ne (s : State) {n j : Nat} (x : Page) (h : j ≠ n) : (s.setPage n x).page j = s.page j := Tab.get_put_ne _ _ _ h
@[simp] theorem State.lane_setLane_same (s : State) (n : Nat) (x : Lane) : (s.setLane n x).lane n = x := Tab.get_put_same _ _ _ _
theorem State.lane_setLane_ne (s : State) {n j : Nat} (x : Lane) (h : j ≠ n) : (s.setLane n x).lane j = s.lane j := Tab.get_put_ne _ _ _ h
@[simp] theorem State.queue_setQueue_same (s : State) (n : Nat) (x : (List Queued)) : (s.setQueue n x).queue n = x := Tab.get_put_same _ _ _ _
theorem State.queue_setQueue_ne (s : State) {n j : Nat} (x : (List Queued)) (h : j ≠ n) : (s.setQueue n x).queue j = s.queue j := Tab.get_put_ne _ _ _ h
@[simp] theorem State.buffer_setBuffer_same (s : State) (n : Nat) (x : Buffer) : (s.setBuffer n x).buffer n = x := Tab.get_put_same _ _ _ _
theorem State.buffer_setBuffer_ne (s : State) {n j : Nat} (x : Buffer) (h : j ≠ n) : (s.setBuffer n x).buffer j = s.buffer j := Tab.get_put_ne _ _ _ h
@[simp] theorem State.jobsOf_setJobs_same (s : State) (n : Nat) (x : (List Job)) : (s.setJobs n x).jobsOf n = x := Tab.get_put_same _ _ _ _
theorem State.jobsOf_setJobs_ne (s : State) {n j : Nat} (x : (List Job)) (h : j ≠ n) : (s.setJobs n x).jobsOf j = s.jobsOf j := Tab.get_put_ne _ _ _ h
@[simp] theorem State.turns_setTurns_same (s : State) (n : Nat) (x : (List Nat)) : (s.setTurns n x).turns n = x := Tab.get_put_same _ _ _ _
theorem State.turns_setTurns_ne (s : State) {n j : Nat} (x : (List Nat)) (h : j ≠ n) : (s.setTurns n x).turns j = s.turns j := Tab.get_put_ne _ _ _ h
@[simp] theorem State.stream_setStream_same (s : State) (n : Nat) (x : Stream) : (s.setStream n x).stream n = x := Tab.get_put_same _ _ _ _
theorem State.stream_setStream_ne (s : State) {n j : Nat} (x : Stream) (h : j ≠ n) : (s.setStream n x).stream j = s.stream j := Tab.get_put_ne _ _ _ h
@[simp] theorem State.lock_setLock_same (s : State) (n : Nat) (x : Lock) : (s.setLock n x).lock n = x := Tab.get_put_same _ _ _ _
theorem State.lock_setLock_ne (s : State) {n j : Nat} (x : Lock) (h : j ≠ n) : (s.setLock n x).lock j = s.lock j := Tab.get_put_ne _ _ _ h
@[simp] theorem State.ladleJob_setLadleJob_same (s : State) (n : Nat) (x : (Option LadleJob)) : (s.setLadleJob n x).ladleJob n = x := Tab.get_put_same _ _ _ _
theorem State.ladleJob_setLadleJob_ne (s : State) {n j : Nat} (x : (Option LadleJob)) (h : j ≠ n) : (s.setLadleJob n x).ladleJob j = s.ladleJob j := Tab.get_put_ne _ _ _ h
@[simp] theorem State.drive_setDrive_same (s : State) (n : Nat) (x : Drive) : (s.setDrive n x).drive n = x := Tab.get_put_same _ _ _ _
theorem State.drive_setDrive_ne (s : State) {n j : Nat} (x : Drive) (h : j ≠ n) : (s.setDrive n x).drive j = s.drive j := Tab.get_put_ne _ _ _ h
@[simp] theorem State.stepper_setStepper_same (s : State) (n : Nat) (x : StepAxis) : (s.setStepper n x).stepper n = x := Tab.get_put_same _ _ _ _
theorem State.stepper_setStepper_ne (s : State) {n j : Nat} (x : StepAxis) (h : j ≠ n) : (s.setStepper n x).stepper j = s.stepper j := Tab.get_put_ne _ _ _ h
@[simp] theorem State.loop_setLoopSlot_same (s : State) (n : Nat) (x : LoopSlot) : (s.setLoopSlot n x).loop n = x := Tab.get_put_same _ _ _ _
theorem State.loop_setLoopSlot_ne (s : State) {n j : Nat} (x : LoopSlot) (h : j ≠ n) : (s.setLoopSlot n x).loop j = s.loop j := Tab.get_put_ne _ _ _ h
@[simp] theorem State.hv_setHv_same (s : State) (n : Nat) (x : Hv) : (s.setHv n x).hv n = x := Tab.get_put_same _ _ _ _
theorem State.hv_setHv_ne (s : State) {n j : Nat} (x : Hv) (h : j ≠ n) : (s.setHv n x).hv j = s.hv j := Tab.get_put_ne _ _ _ h
@[simp] theorem State.zone_setZone_same (s : State) (n : Nat) (x : Zone) : (s.setZone n x).zone n = x := Tab.get_put_same _ _ _ _
theorem State.zone_setZone_ne (s : State) {n j : Nat} (x : Zone) (h : j ≠ n) : (s.setZone n x).zone j = s.zone j := Tab.get_put_ne _ _ _ h

@[simp] theorem State.val_put_same (s : State) (k : Nat) (v : Val) : (s.put k v).val k = v := Tab.get_put_same _ _ _ _
theorem State.val_put_ne (s : State) {k j : Nat} (v : Val) (h : j ≠ k) : (s.put k v).val j = s.val j := Tab.get_put_ne _ _ _ h
@[simp] theorem State.i_put_same (s : State) (k : Nat) (v : Int) : (s.put k (.num v)).i k = v := by simp [State.i]
theorem State.i_put_ne (s : State) {k j : Nat} (v : Val) (h : j ≠ k) : (s.put k v).i j = s.i j := by
  simp [State.i, State.val_put_ne s v h]
@[simp] theorem State.n_put_same (s : State) (k : Nat) (v : Int) : (s.put k (.num v)).n k = v.toNat := by simp [State.n]
theorem State.n_put_ne (s : State) {k j : Nat} (v : Val) (h : j ≠ k) : (s.put k v).n j = s.n j := by
  simp [State.n, State.i_put_ne s v h]
@[simp] theorem State.flag_put_same (s : State) (k : Nat) (v : Int) : (s.put k (.num v)).flag k = decide (v ≠ 0) := by
  simp [State.flag]
theorem State.flag_put_ne (s : State) {k j : Nat} (v : Val) (h : j ≠ k) : (s.put k v).flag j = s.flag j := by
  simp [State.flag, State.i_put_ne s v h]
@[simp] theorem State.bytes_put_same (s : State) (k : Nat) (b : Bytes) : (s.put k (.dom b)).bytes k = b := by simp [State.bytes]
theorem State.bytes_put_ne (s : State) {k j : Nat} (v : Val) (h : j ≠ k) : (s.put k v).bytes j = s.bytes j := by
  simp [State.bytes, State.val_put_ne s v h]

@[simp] theorem State.armed_arm_same (s : State) (u d : Nat) : (s.arm u d).armed u = true := by simp [State.armed, State.arm]
theorem State.armed_arm_ne (s : State) {u j : Nat} (d : Nat) (h : j ≠ u) : (s.arm u d).armed j = s.armed j := by
  simp [State.armed, State.arm, Tab.get_put_ne _ _ _ h]
@[simp] theorem State.armed_disarm_same (s : State) (u : Nat) : (s.disarm u).armed u = false := by
  simp [State.armed, State.disarm]
theorem State.armed_disarm_ne (s : State) {u j : Nat} (h : j ≠ u) : (s.disarm u).armed j = s.armed j := by
  simp [State.armed, State.disarm, Tab.get_put_ne _ _ _ h]
@[simp] theorem State.due_disarm_same (s : State) (u : Nat) : (s.disarm u).due u = false := by simp [State.due]
@[simp] theorem State.due_arm_same (s : State) (u d : Nat) : (s.arm u d).due u = decide (d ≤ s.stamp) := by
  simp [State.due, State.arm, State.armed]

/-- A record delivered stands at the end of what the recorder holds. -/
@[simp] theorem State.deliver_held (s : State) (r : Rec) : (s.deliver r).ev.held = s.ev.held ++ [r] := rfl
@[simp] theorem State.event_held (s : State) (e p : Nat) :
    (s.event e p).ev.held = s.ev.held ++ [s.record 1 e p (Config.firmwareRaised e)] := rfl
@[simp] theorem State.eventHw_held (s : State) (e p : Nat) : (s.eventHw e p).ev.held = s.ev.held ++ [s.record 1 e p false] := rfl
@[simp] theorem State.eventFw_held (s : State) (e p : Nat) : (s.eventFw e p).ev.held = s.ev.held ++ [s.record 1 e p true] := rfl

/-- Domain pd is ON after an update of a domain. -/
@[simp] theorem State.on_setDomain_same (s : State) (n : Nat) (x : Domain) : (s.setDomain n x).on n = decide (x.state = 2) := by
  simp [State.on]
theorem State.on_setDomain_ne (s : State) {n j : Nat} (x : Domain) (h : j ≠ n) : (s.setDomain n x).on j = s.on j := by
  simp [State.on, State.domain_setDomain_ne s x h]

/-! ## Keys -/

/-- Two keys are the same where index and subindex are. -/
theorem K_inj {a b c d : Nat} (hb : b < 256) (hd : d < 256) : K a b = K c d ↔ a = c ∧ b = d := by
  unfold K; omega

end Sys2Proof.Machine
end

