-- ==== Sys2Proof/Laws/Reads.lean ====
section
/-! SUPPORT. What a reading gives after an object has been written, after an event record, and after a fault: a fault changes no object
but `Injection remaining`, and puts one message on the lanes. -/

namespace Sys2Proof.Machine

/-! ## Objects -/

@[simp] theorem State.flag_put_bool (s : State) (k : Nat) (b : Bool) : (s.put k (.num (b2n b))).flag k = b := by
  cases b <;> simp [State.flag, b2n]

/-- A reading goes by what the object holds. -/
theorem State.reads_eq {s t : State} {k : Nat} (h : t.val k = s.val k) :
    t.i k = s.i k ∧ t.n k = s.n k ∧ t.flag k = s.flag k ∧ t.bytes k = s.bytes k := by
  unfold State.flag State.n State.i State.bytes; rw [h]; exact ⟨rfl, rfl, rfl, rfl⟩

/-! ## Faults -/

/-- What a detected fault leaves: every object but one, and every part of the machine but the objects, the recorder and the Lid. -/
theorem State.detect_val (s : State) (w : Nat) {k : Nat} (h : k ≠ K 0x2220 5) : (s.detect w).val k = s.val k := by
  unfold State.detect State.spendInjection
  dsimp only
  repeat' split
  all_goals (try simp only [State.val_eventHw, State.setn_eq, State.val_put_ne _ _ h])
  all_goals rfl

theorem State.detect_net (s : State) (w : Nat) :
    ∃ d : Detected, (s.detect w).lid.net = s.lid.net ++ [d] ∧ d.word = w ∧ d.record = s.record 2 (w / 2 ^ 56) w false ∧ d.acted = false ∧
      d.crcBad = s.injects (0x400 + w / 2 ^ 56) := by
  refine ⟨{ word := w, record := s.record 2 (w / 2 ^ 56) w false, lane := w / 2 ^ 56, crcBad := s.injects (0x400 + w / 2 ^ 56) }, ?_, rfl, rfl, rfl, rfl⟩
  unfold State.detect State.spendInjection
  dsimp only
  repeat' split
  all_goals rfl

/-- With no injection in progress a detected fault changes the lanes and nothing else. -/
theorem State.detect_idle (s : State) (w : Nat) (h : s.lid.target = 0) :
    s.detect w = { s with lid := { s.lid with net := s.lid.net ++ [{ word := w, record := s.record 2 (w / 2 ^ 56) w false, lane := w / 2 ^ 56, crcBad := false }] } } := by
  have hb : s.injects (0x400 + w / 2 ^ 56) = false := by
    unfold State.injects; rw [h]; exact decide_eq_false (by omega)
  unfold State.detect
  dsimp only
  rw [hb, if_neg Bool.false_ne_true]

theorem State.detect_rest (s : State) (w : Nat) :
    (s.detect w).stamp = s.stamp ∧ (s.detect w).timers = s.timers ∧ (s.detect w).pos = s.pos ∧ (s.detect w).rings = s.rings ∧
      (s.detect w).polygons = s.polygons ∧ (s.detect w).stations = s.stations ∧ (s.detect w).pages = s.pages ∧
      (s.detect w).press = s.press ∧ (s.detect w).fabric = s.fabric ∧ (s.detect w).drives = s.drives ∧
      (s.detect w).steppers = s.steppers ∧ (s.detect w).loops = s.loops ∧ (s.detect w).crock = s.crock ∧
      (s.detect w).power = s.power ∧ (s.detect w).twin = s.twin ∧ (s.detect w).trust = s.trust ∧ (s.detect w).svc = s.svc ∧
      (s.detect w).drawn = s.drawn ∧ (s.detect w).pending = s.pending ∧ (s.detect w).s6 = s.s6 := by
  unfold State.detect State.spendInjection
  dsimp only
  repeat' split
  all_goals exact ⟨rfl, rfl, rfl, rfl, rfl, rfl, rfl, rfl, rfl, rfl, rfl, rfl, rfl, rfl, rfl, rfl, rfl, rfl, rfl, rfl⟩

@[simp] theorem State.detect_stamp (s : State) (w : Nat) : (s.detect w).stamp = s.stamp := (s.detect_rest w).1
@[simp] theorem State.detect_timers (s : State) (w : Nat) : (s.detect w).timers = s.timers := (s.detect_rest w).2.1
@[simp] theorem State.detect_pos (s : State) (w : Nat) : (s.detect w).pos = s.pos := (s.detect_rest w).2.2.1
@[simp] theorem State.detect_rings (s : State) (w : Nat) : (s.detect w).rings = s.rings := (s.detect_rest w).2.2.2.1
@[simp] theorem State.detect_polygons (s : State) (w : Nat) : (s.detect w).polygons = s.polygons := (s.detect_rest w).2.2.2.2.1
@[simp] theorem State.detect_stations (s : State) (w : Nat) : (s.detect w).stations = s.stations := (s.detect_rest w).2.2.2.2.2.1
@[simp] theorem State.detect_pages (s : State) (w : Nat) : (s.detect w).pages = s.pages := (s.detect_rest w).2.2.2.2.2.2.1
@[simp] theorem State.detect_press (s : State) (w : Nat) : (s.detect w).press = s.press := (s.detect_rest w).2.2.2.2.2.2.2.1
@[simp] theorem State.detect_fabric (s : State) (w : Nat) : (s.detect w).fabric = s.fabric := (s.detect_rest w).2.2.2.2.2.2.2.2.1
@[simp] theorem State.detect_drives (s : State) (w : Nat) : (s.detect w).drives = s.drives := (s.detect_rest w).2.2.2.2.2.2.2.2.2.1
@[simp] theorem State.detect_steppers (s : State) (w : Nat) : (s.detect w).steppers = s.steppers :=
  (s.detect_rest w).2.2.2.2.2.2.2.2.2.2.1
@[simp] theorem State.detect_loops (s : State) (w : Nat) : (s.detect w).loops = s.loops := (s.detect_rest w).2.2.2.2.2.2.2.2.2.2.2.1
@[simp] theorem State.detect_crock (s : State) (w : Nat) : (s.detect w).crock = s.crock := (s.detect_rest w).2.2.2.2.2.2.2.2.2.2.2.2.1
@[simp] theorem State.detect_power (s : State) (w : Nat) : (s.detect w).power = s.power :=
  (s.detect_rest w).2.2.2.2.2.2.2.2.2.2.2.2.2.1
@[simp] theorem State.detect_twin (s : State) (w : Nat) : (s.detect w).twin = s.twin :=
  (s.detect_rest w).2.2.2.2.2.2.2.2.2.2.2.2.2.2.1
@[simp] theorem State.detect_trust (s : State) (w : Nat) : (s.detect w).trust = s.trust :=
  (s.detect_rest w).2.2.2.2.2.2.2.2.2.2.2.2.2.2.2.1
@[simp] theorem State.detect_drawn (s : State) (w : Nat) : (s.detect w).drawn = s.drawn :=
  (s.detect_rest w).2.2.2.2.2.2.2.2.2.2.2.2.2.2.2.2.2.1
@[simp] theorem State.detect_s6 (s : State) (w : Nat) : (s.detect w).s6 = s.s6 :=
  (s.detect_rest w).2.2.2.2.2.2.2.2.2.2.2.2.2.2.2.2.2.2.2
@[simp] theorem State.detect_words (s : State) (w : Nat) : (s.detect w).lid.net.map Detected.word = s.lid.net.map Detected.word ++ [w] := by
  obtain ⟨d, h, hw, -⟩ := s.detect_net w
  simp [h, hw]

theorem State.detect_reads (s : State) (w : Nat) {k : Nat} (h : k ≠ K 0x2220 5) :
    (s.detect w).i k = s.i k ∧ (s.detect w).n k = s.n k ∧ (s.detect w).flag k = s.flag k ∧ (s.detect w).bytes k = s.bytes k :=
  State.reads_eq (s.detect_val w h)
theorem State.n_detect (s : State) (w : Nat) {k : Nat} (h : k ≠ K 0x2220 5) : (s.detect w).n k = s.n k := (s.detect_reads w h).2.1
theorem State.i_detect (s : State) (w : Nat) {k : Nat} (h : k ≠ K 0x2220 5) : (s.detect w).i k = s.i k := (s.detect_reads w h).1
theorem State.flag_detect (s : State) (w : Nat) {k : Nat} (h : k ≠ K 0x2220 5) : (s.detect w).flag k = s.flag k :=
  (s.detect_reads w h).2.2.1
theorem State.bytes_detect (s : State) (w : Nat) {k : Nat} (h : k ≠ K 0x2220 5) : (s.detect w).bytes k = s.bytes k :=
  (s.detect_reads w h).2.2.2

@[simp] theorem State.fault_eq (s : State) (a b c : Nat) : s.fault a b c = s.detect (faultWord a b c false false false) := rfl
@[simp] theorem State.faultInjected_eq (s : State) (a b c : Nat) (x : Bool) :
    s.faultInjected a b c x = s.detect (faultWord a b c false false x) := rfl
@[simp] theorem State.faultOn_eq (s : State) (a b c : Nat) : s.faultOn a b c = s.detect (faultWord a b c true false false) := rfl
@[simp] theorem State.faultOff_eq (s : State) (a b c : Nat) : s.faultOff a b c = s.detect (faultWord a b c false true false) := rfl

/-! ## What is recorded and what is sent -/

theorem State.logged_event (s : State) (e p : Nat) : (s.event e p).Logged e p :=
  ⟨s.record 1 e p (Config.firmwareRaised e), by simp, rfl, rfl, rfl, rfl⟩
theorem State.logged_eventHw (s : State) (e p : Nat) : (s.eventHw e p).Logged e p :=
  ⟨s.record 1 e p false, by simp, rfl, rfl, rfl, rfl⟩
theorem State.logged_of_held {s t : State} {e p : Nat} (h : s.Logged e p) (hs : t.stamp = s.stamp) (hh : ∀ r ∈ s.ev.held, r ∈ t.ev.held) :
    t.Logged e p := by
  obtain ⟨r, a, b, c, d, f⟩ := h
  exact ⟨r, hh r a, b, c, d, by rw [hs]; exact f⟩
theorem State.sent_iff (s : State) (a b c : Nat) : s.Sent a b c ↔ faultWord a b c false false false ∈ s.lid.net.map Detected.word := by
  unfold State.Sent; simp

end Sys2Proof.Machine
end

