-- ==== Sys2Proof/Laws/Memory.lean ====
section
/-! SUPPORT. The two memories, the host window of DRAM and host memory: every operation on them keeps the canonical form, and a read
gives what was written last. -/

namespace Sys2Proof.Machine

/-- The form of a memory that lists nothing. -/
theorem memory_wf_empty : Memory.wf [] = true := rfl

theorem memory_wf_dramWrite (s : State) (address : Nat) (b : Bytes) (h : Memory.wf s.fabric.window = true) :
    Memory.wf (s.dramWrite address b).fabric.window = true :=
  Tab.ok_write dramDefault b s.fabric.window address h

theorem memory_wf_hostWrite (s : State) (address : Nat) (b : Bytes) (h : Memory.wf s.fabric.host = true) :
    Memory.wf (s.hostWrite address b).fabric.host = true :=
  Tab.ok_write dramDefault b s.fabric.host address h

/-- A state holds the contents of both memories as another does. -/
def State.SameBytes (t s : State) : Prop := t.fabric.window = s.fabric.window ∧ t.fabric.host = s.fabric.host

theorem State.SameBytes.refl (s : State) : s.SameBytes s := ⟨rfl, rfl⟩
theorem State.SameBytes.trans {a b c : State} (h : a.SameBytes b) (k : b.SameBytes c) : a.SameBytes c := ⟨h.1.trans k.1, h.2.trans k.2⟩

theorem State.spendInjection_sameBytes (s : State) (n : Nat) : (s.spendInjection n).SameBytes s := by
  unfold State.spendInjection; dsimp only; split <;> exact ⟨rfl, rfl⟩

theorem State.eccError_sameBytes (s : State) (input g ecc : Nat) (x : Bool) : (s.eccError input g ecc x).SameBytes s := by
  unfold State.eccError
  split
  · refine ⟨?_, ?_⟩ <;> simp only [State.event_fabric, State.faultInjected_eq, State.detect_fabric] <;> rfl
  · exact .refl s

theorem State.readGranule_sameBytes (s : State) (input g : Nat) : (s.readGranule input g).SameBytes s := by
  unfold State.readGranule
  split
  · exact .refl s
  · exact s.eccError_sameBytes input g 1 true
  · exact s.eccError_sameBytes input g 2 true

theorem State.writeGranule_sameBytes (s : State) (g : Nat) : (s.writeGranule g).SameBytes s := by
  unfold State.writeGranule
  split
  · exact State.spendInjection_sameBytes _ _
  · split
    · exact State.spendInjection_sameBytes _ _
    · exact ⟨rfl, rfl⟩

theorem State.touchGranule_sameBytes (s : State) (input address length : Nat) (write : Bool) (g : Nat) :
    (s.touchGranule input address length write g).SameBytes s := by
  unfold State.touchGranule
  dsimp only
  split
  · exact s.readGranule_sameBytes input g
  · split
    · exact s.writeGranule_sameBytes g
    · split
      · exact s.readGranule_sameBytes input g
      · exact (State.writeGranule_sameBytes _ g).trans (s.readGranule_sameBytes input g)

theorem State.each_sameBytes {α : Type} (f : State → α → State) (h : ∀ u x, (f u x).SameBytes u) :
    ∀ (l : List α) (s : State), (s.each l f).SameBytes s
  | [], s => .refl s
  | x :: l, s => (State.each_sameBytes f h l (f s x)).trans (h s x)

/-- What a write to DRAM does to check bits and counts leaves the bytes as they are. -/
theorem State.touchRange_sameBytes (s : State) (input address length : Nat) : (s.touchRange input address length).SameBytes s := by
  unfold State.touchRange
  split <;> exact State.each_sameBytes _ (fun u g => u.touchGranule_sameBytes input address length true g) _ s

/-- A job's write keeps both memories in the canonical form, and changes only the one it goes to. -/
theorem memory_wf_store (s : State) (input : Nat) (host : Bool) (address : Nat) (b : Bytes) (hw : Memory.wf s.fabric.window = true)
    (hh : Memory.wf s.fabric.host = true) :
    Memory.wf (s.store input host address b).fabric.window = true ∧ Memory.wf (s.store input host address b).fabric.host = true := by
  cases host
  · simp only [State.store, Bool.false_eq_true, if_false]
    split
    · have e := (s.dramWrite address b).touchRange_sameBytes input address b.length
      rw [e.1, e.2]
      exact ⟨memory_wf_dramWrite s address b hw, hh⟩
    · have e := s.touchRange_sameBytes input address b.length
      rw [e.1, e.2]
      exact ⟨hw, hh⟩
  · exact ⟨hw, memory_wf_hostWrite s address b hh⟩

/-- A byte after a write to DRAM: what was written there, or what stood there. -/
theorem get_dramWrite (s : State) (address : Nat) (b : Bytes) (a : Nat) :
    Tab.get dramDefault (s.dramWrite address b).fabric.window a =
      if h : address ≤ a ∧ a < address + b.length then b[a - address] else Tab.get dramDefault s.fabric.window a :=
  Tab.get_write dramDefault b s.fabric.window address a

/-- A byte after a write to host memory. -/
theorem get_hostWrite (s : State) (address : Nat) (b : Bytes) (a : Nat) :
    Tab.get dramDefault (s.hostWrite address b).fabric.host a =
      if h : address ≤ a ∧ a < address + b.length then b[a - address] else Tab.get dramDefault s.fabric.host a :=
  Tab.get_write dramDefault b s.fabric.host address a

/-- What has been written to DRAM reads back. -/
theorem dram_dramWrite (s : State) (address : Nat) (b : Bytes) : (s.dramWrite address b).dram address b.length = b :=
  Tab.read_write dramDefault b s.fabric.window address

end Sys2Proof.Machine
end

