-- ==== Sys2Proof/Laws/Rows.lean ====
section
/-! SUPPORT. An accepted write of one object, once for all the commands that are writes. -/

namespace Sys2Proof.Machine

/-- What the table says of an object: its access class and its type. -/
def rowKind (index sub : Nat) : Option (Acc × Ty) := (rowOf index sub).map (fun r => (r.acc, r.ty))

/-- A write that is accepted gives an object its value, which acts, and is answered as done. -/
theorem State.writeRow_value {s : State} {path : Path} {index sub : Nat} {data : Bytes} {ty : Ty} {acc : Acc}
    (h : s.Accepts path index sub data) (hr : rowKind index sub = some (acc, ty)) (hc : acc ≠ .cmd)
    (h0 : index ≠ 0x1010) (h1 : index ≠ 0x1011) (h2 : index ≠ 0x1600) :
    s.writeRow path index sub data =
      ((s.taken index sub (ty.decode data)).effect index sub (s.before index sub) (ty.decode data)).done path index sub := by
  obtain ⟨ho, hs, ha⟩ := h
  unfold rowKind at hr
  cases hro : rowOf index sub with
  | none => rw [hro] at hr; cases hr
  | some r =>
    rw [hro] at hr
    injection hr with hr
    injection hr with e1 e2
    subst e1; subst e2
    unfold State.writeRow State.request State.serveWrite State.writeObject State.carryOut State.applyValue
    simp only [ho, hs, ha, hro, if_true, h0, h1, h2, hc, false_or, false_and, if_false]
    rfl

/-- A command that is accepted is carried out and answered as done. -/
theorem State.writeRow_command {s : State} {path : Path} {index sub : Nat} {data : Bytes} {ty : Ty}
    (h : s.Accepts path index sub data) (hr : rowKind index sub = some (.cmd, ty))
    (h0 : index ≠ 0x1010) (h1 : index ≠ 0x1011) :
    s.writeRow path index sub data = (s.noted.command path index sub (ty.decode data) []).done path index sub := by
  obtain ⟨ho, hs, ha⟩ := h
  unfold rowKind at hr
  cases hro : rowOf index sub with
  | none => rw [hro] at hr; cases hr
  | some r =>
    rw [hro] at hr
    injection hr with hr
    injection hr with e1 e2
    subst e2
    unfold State.writeRow State.request State.serveWrite State.writeObject State.carryOut
    simp only [ho, hs, ha, hro, if_true, h0, h1, e1, false_or, false_and, if_false]
    rfl

end Sys2Proof.Machine
end

