-- ==== Sys2Proof/Laws/Writes.lean ====
section
/-! SUPPORT. What the rows that write one object keep: an accepted write changes what the service itself changes and what the object's own
operation changes, and no other part of the machine. -/

set_option linter.unusedSimpArgs false

namespace Sys2Proof.Machine

variable {m : Nat} {r s : State}

theorem State.serveWrite_command {s : State} {path : Path} {index sub : Nat} {data : Bytes} {ty : Ty} {a : List Frame}
    (ha : s.writeAbort path false index sub data = none) (hr : rowKind index sub = some (.cmd, ty))
    (h0 : index ≠ 0x1010) (h1 : index ≠ 0x1011) :
    s.serveWrite path index sub data a = (s.noted.command path index sub (ty.decode data) a).done path index sub := by
  unfold rowKind at hr
  cases hro : rowOf index sub with
  | none => rw [hro] at hr; cases hr
  | some r =>
    rw [hro] at hr
    injection hr with hr
    injection hr with e1 e2
    subst e2
    unfold State.serveWrite State.writeObject State.carryOut
    simp only [ha, hro, if_true, h0, h1, e1, false_or, false_and, if_false]
    rfl

theorem State.rejected_keeps {path : Path} {index sub : Nat} {data : Bytes} (hm : 7143954 ||| m = m) (h : Keeps m r s)
    (hn : ¬ s.Accepts path index sub data) : Keeps m r (s.writeRow path index sub data) := by
  unfold State.Accepts at hn
  unfold State.writeRow State.request
  split
  · next ho =>
    split
    · next hs =>
      unfold State.serveWrite State.writeObject
      cases ha : s.writeAbort path false index sub data with
      | none => exact (hn ⟨ho, hs, ha⟩).elim
      | some a => simp only [ha]; exact State.answered_keeps (sub_trans (by decide) hm) (State.noteWrite_keeps (sub_trans (by decide) hm) h)
    · exact State.stall_keeps (sub_trans (by decide) hm) h
  · exact h

theorem State.value_keeps {path : Path} {index sub : Nat} {data : Bytes} {acc : Acc} {ty : Ty}
    (hk : rowKind index sub = some (acc, ty)) (hc : acc ≠ .cmd) (h0 : index ≠ 0x1010) (h1 : index ≠ 0x1011) (h2 : index ≠ 0x1600)
    (hm : 7143954 ||| m = m) (h : Keeps m r s) (he : ∀ t old v, Keeps m r t → Keeps m r (t.effect index sub old v)) :
    Keeps m r (s.writeRow path index sub data) := by
  by_cases ha : s.Accepts path index sub data
  · rw [State.writeRow_value ha hk hc h0 h1 h2]
    exact State.answered_keeps (sub_trans (by decide) hm) (State.noteWrite_keeps (sub_trans (by decide) hm)
      (he _ _ _ (State.put_keeps (sub_trans (by decide) hm) (State.dictionaryEntry_keeps (sub_trans (by decide) hm) h))))
  · exact State.rejected_keeps hm h ha

theorem State.command_row_keeps {path : Path} {index sub : Nat} {data : Bytes} {ty : Ty}
    (hk : rowKind index sub = some (.cmd, ty)) (h0 : index ≠ 0x1010) (h1 : index ≠ 0x1011)
    (hm : 7143954 ||| m = m) (h : Keeps m r s) (he : ∀ t v, Keeps m r t → Keeps m r (t.command path index sub v [])) :
    Keeps m r (s.writeRow path index sub data) := by
  by_cases ha : s.Accepts path index sub data
  · rw [State.writeRow_command ha hk h0 h1]
    exact State.answered_keeps (sub_trans (by decide) hm) (State.noteWrite_keeps (sub_trans (by decide) hm)
      (he _ _ (State.dictionaryEntry_keeps (sub_trans (by decide) hm) h)))
  · exact State.rejected_keeps hm h ha

theorem rk_encoderEnableWrite : ∀ n < 9, 1 ≤ n → rowKind (0x3000 + n) 1 = some (.rw, Ty.bool) := by decide

theorem execEncoderEnableWrite_keeps {path : Path} {n : Nat} {data : Bytes} (hm : 7143966 ||| m = m) (h : Keeps m r s) :
    KeepsO m r (execEncoderEnableWrite path n data s) := by
  unfold execEncoderEnableWrite
  split
  · next hu =>
    refine KeepsO.next (State.value_keeps (rk_encoderEnableWrite n (by omega) (by omega)) (by decide) (by omega) (by omega) (by omega) (sub_trans (by decide) hm) h (fun t old v ht => ?_))
    simp only [State.effect]
    have hx : n = 1 ∨ n = 2 ∨ n = 3 ∨ n = 4 ∨ n = 5 ∨ n = 6 ∨ n = 7 ∨ n = 8 := by omega
    rcases hx with rfl | rfl | rfl | rfl | rfl | rfl | rfl | rfl <;> simp [State.effectLow, State.effectMid, State.effectHigh, State.commandLow, driveOf, axisOf, stationOfIndex] <;> (
      first | with_reducible exact State.encoderEnable_keeps (sub_trans (by decide) hm) ht | with_reducible exact ht)
  · exact KeepsO.next h

theorem rk_axisPreset : ∀ n < 9, 1 ≤ n → rowKind (0x300F + n) 3 = some (.idle, Ty.u64) := by decide

theorem execAxisPreset_keeps {path : Path} {n : Nat} {data : Bytes} (hm : 7143962 ||| m = m) (h : Keeps m r s) :
    KeepsO m r (execAxisPreset path n data s) := by
  unfold execAxisPreset
  split
  · next hu =>
    refine KeepsO.next (State.value_keeps (rk_axisPreset n (by omega) (by omega)) (by decide) (by omega) (by omega) (by omega) (sub_trans (by decide) hm) h (fun t old v ht => ?_))
    simp only [State.effect]
    have hx : n = 1 ∨ n = 2 ∨ n = 3 ∨ n = 4 ∨ n = 5 ∨ n = 6 ∨ n = 7 ∨ n = 8 := by omega
    rcases hx with rfl | rfl | rfl | rfl | rfl | rfl | rfl | rfl <;> simp [State.effectLow, State.effectMid, State.effectHigh, State.commandLow, driveOf, axisOf, stationOfIndex] <;> (
      first | with_reducible exact State.presetPosition_keeps (sub_trans (by decide) hm) ht | with_reducible exact ht)
  · exact KeepsO.next h

theorem rk_captureConfigWrite : ∀ ch < 16, 0 ≤ ch → rowKind 0x3030 (ch + 1) = some (.rw, Ty.u32) := by decide

theorem execCaptureConfigWrite_keeps {path : Path} {ch : Nat} {data : Bytes} (hm : 7143954 ||| m = m) (h : Keeps m r s) :
    KeepsO m r (execCaptureConfigWrite path ch data s) := by
  unfold execCaptureConfigWrite
  split
  · next hu =>
    refine KeepsO.next (State.value_keeps (rk_captureConfigWrite ch (by omega) (by omega)) (by decide) (by omega) (by omega) (by omega) (sub_trans (by decide) hm) h (fun t old v ht => ?_))
    simp only [State.effect]
    repeat (first | rw [if_pos (by omega)] | rw [if_neg (by omega)] | rw [if_pos (by simp only [ne_eq]; omega)] | simp only [State.effectLow, State.effectMid, State.effectHigh, State.commandLow])
    first | (first | with_reducible exact ht) | (simp [driveOf, axisOf]; first | with_reducible exact ht) | (simp [driveOf, axisOf]; split <;> (first | with_reducible exact ht))
  · exact KeepsO.next h

theorem rk_overcurrentClear : rowKind 0x3050 6 = some (.cmd, Ty.u32) := by decide

theorem execOvercurrentClear_keeps {path : Path} {data : Bytes} (hm : 7143954 ||| m = m) (h : Keeps m r s) :
    KeepsO m r (execOvercurrentClear path data s) := by
  unfold execOvercurrentClear
  refine KeepsO.next (State.command_row_keeps (rk_overcurrentClear) (by omega) (by omega) (sub_trans (by decide) hm) h (fun t v ht => ?_))
  simp only [State.command]
  first | (first | with_reducible exact State.setn_keeps (sub_trans (by decide) hm) ht | with_reducible exact ht | with_reducible exact State.put_keeps (sub_trans (by decide) hm) ht) | (simp [State.effectLow, State.effectMid, State.effectHigh, State.commandLow, driveOf, axisOf, stationOfIndex]; first | with_reducible exact State.setn_keeps (sub_trans (by decide) hm) ht | with_reducible exact ht | with_reducible exact State.put_keeps (sub_trans (by decide) hm) ht)

theorem rk_alignmentSourceWrite : rowKind 0x2400 2 = some (.rw, Ty.u8) := by decide

theorem execAlignmentSourceWrite_keeps {path : Path} {data : Bytes} (hm : 7143958 ||| m = m) (h : Keeps m r s) :
    KeepsO m r (execAlignmentSourceWrite path data s) := by
  unfold execAlignmentSourceWrite
  refine KeepsO.next (State.value_keeps (rk_alignmentSourceWrite) (by decide) (by omega) (by omega) (by omega) (sub_trans (by decide) hm) h (fun t old v ht => ?_))
  simp only [State.effect]
  first | (first | with_reducible exact State.alignmentSource_keeps (sub_trans (by decide) hm) ht | with_reducible exact ht) | (simp [State.effectLow, State.effectMid, State.effectHigh, State.commandLow, driveOf, axisOf, stationOfIndex]; first | with_reducible exact State.alignmentSource_keeps (sub_trans (by decide) hm) ht | with_reducible exact ht)

theorem rk_hostMarker : rowKind 0x2401 7 = some (.cmd, Ty.u32) := by decide

theorem execHostMarker_keeps {path : Path} {data : Bytes} (hm : 7143954 ||| m = m) (h : Keeps m r s) :
    KeepsO m r (execHostMarker path data s) := by
  unfold execHostMarker
  refine KeepsO.next (State.command_row_keeps (rk_hostMarker) (by omega) (by omega) (sub_trans (by decide) hm) h (fun t v ht => ?_))
  simp only [State.command]
  first | (first | with_reducible exact State.eventFw_keeps (sub_trans (by decide) hm) ht | with_reducible exact ht) | (simp [State.effectLow, State.effectMid, State.effectHigh, State.commandLow, driveOf, axisOf, stationOfIndex]; first | with_reducible exact State.eventFw_keeps (sub_trans (by decide) hm) ht | with_reducible exact ht)

theorem rk_lockEnableWrite : ∀ p < 4, 1 ≤ p → rowKind (0x3100 + p) 1 = some (.rw, Ty.bool) := by decide

theorem execLockEnableWrite_keeps {path : Path} {p : Nat} {data : Bytes} (hm : 7185110 ||| m = m) (h : Keeps m r s) :
    KeepsO m r (execLockEnableWrite path p data s) := by
  unfold execLockEnableWrite
  split
  · next hu =>
    refine KeepsO.next (State.value_keeps (rk_lockEnableWrite p (by omega) (by omega)) (by decide) (by omega) (by omega) (by omega) (sub_trans (by decide) hm) h (fun t old v ht => ?_))
    simp only [State.effect]
    have hx : p = 1 ∨ p = 2 ∨ p = 3 := by omega
    rcases hx with rfl | rfl | rfl <;> simp [State.effectLow, State.effectMid, State.effectHigh, State.commandLow, driveOf, axisOf, stationOfIndex] <;> (
      first | with_reducible exact State.refreshPolygon_keeps (sub_trans (by decide) hm) ht | with_reducible exact ht)
  · exact KeepsO.next h

theorem rk_relearn : ∀ p < 4, 1 ≤ p → rowKind (0x3100 + p) 0xE = some (.cmd, Ty.bool) := by decide

theorem execRelearn_keeps {path : Path} {p : Nat} {data : Bytes} (hm : 7144146 ||| m = m) (h : Keeps m r s) :
    KeepsO m r (execRelearn path p data s) := by
  unfold execRelearn
  split
  · next hu =>
    refine KeepsO.next (State.command_row_keeps (rk_relearn p (by omega) (by omega)) (by omega) (by omega) (sub_trans (by decide) hm) h (fun t v ht => ?_))
    simp only [State.command]
    have hx : p = 1 ∨ p = 2 ∨ p = 3 := by omega
    rcases hx with rfl | rfl | rfl <;> simp [State.effectLow, State.effectMid, State.effectHigh, State.commandLow, driveOf, axisOf, stationOfIndex] <;> (
      first | with_reducible exact State.relearn_keeps (sub_trans (by decide) hm) ht | with_reducible exact ht)
  · exact KeepsO.next h

theorem rk_facetSignatureWrite : ∀ p < 4, 1 ≤ p → rowKind (0x3100 + p) 0xD = some (.idle, Ty.dom) := by decide

theorem execFacetSignatureWrite_keeps {path : Path} {p : Nat} {data : Bytes} (hm : 7143954 ||| m = m) (h : Keeps m r s) :
    KeepsO m r (execFacetSignatureWrite path p data s) := by
  unfold execFacetSignatureWrite
  split
  · next hu =>
    refine KeepsO.next (State.value_keeps (rk_facetSignatureWrite p (by omega) (by omega)) (by decide) (by omega) (by omega) (by omega) (sub_trans (by decide) hm) h (fun t old v ht => ?_))
    simp only [State.effect]
    have hx : p = 1 ∨ p = 2 ∨ p = 3 := by omega
    rcases hx with rfl | rfl | rfl <;> simp [State.effectLow, State.effectMid, State.effectHigh, State.commandLow, driveOf, axisOf, stationOfIndex] <;> (
      first | with_reducible exact State.signatureWritten_keeps (sub_trans (by decide) hm) ht | with_reducible exact ht)
  · exact KeepsO.next h

theorem rk_engageRequestWrite : ∀ n < 7, 1 ≤ n → rowKind (0x3300 + 16 * n) 1 = some (.rw, Ty.bool) := by decide

theorem execEngageRequestWrite_keeps {path : Path} {n : Nat} {data : Bytes} (hm : 7143954 ||| m = m) (h : Keeps m r s) :
    KeepsO m r (execEngageRequestWrite path n data s) := by
  unfold execEngageRequestWrite
  split
  · next hu =>
    refine KeepsO.next (State.value_keeps (rk_engageRequestWrite n (by omega) (by omega)) (by decide) (by omega) (by omega) (by omega) (sub_trans (by decide) hm) h (fun t old v ht => ?_))
    simp only [State.effect]
    have hx : n = 1 ∨ n = 2 ∨ n = 3 ∨ n = 4 ∨ n = 5 ∨ n = 6 := by omega
    rcases hx with rfl | rfl | rfl | rfl | rfl | rfl <;> simp [State.effectLow, State.effectMid, State.effectHigh, State.commandLow, driveOf, axisOf, stationOfIndex] <;> (
      first | with_reducible exact ht)
  · exact KeepsO.next h

theorem rk_laserEnableWrite : ∀ n < 7, 1 ≤ n → rowKind (0x3300 + 16 * n) 3 = some (.rw, Ty.bool) := by decide

theorem execLaserEnableWrite_keeps {path : Path} {n : Nat} {data : Bytes} (hm : 7144082 ||| m = m) (h : Keeps m r s) :
    KeepsO m r (execLaserEnableWrite path n data s) := by
  unfold execLaserEnableWrite
  split
  · next hu =>
    refine KeepsO.next (State.value_keeps (rk_laserEnableWrite n (by omega) (by omega)) (by decide) (by omega) (by omega) (by omega) (sub_trans (by decide) hm) h (fun t old v ht => ?_))
    simp only [State.effect]
    have hx : n = 1 ∨ n = 2 ∨ n = 3 ∨ n = 4 ∨ n = 5 ∨ n = 6 := by omega
    rcases hx with rfl | rfl | rfl | rfl | rfl | rfl <;> simp [State.effectLow, State.effectMid, State.effectHigh, State.commandLow, driveOf, axisOf, stationOfIndex] <;> (
      first | with_reducible exact State.laserWritten_keeps (sub_trans (by decide) hm) ht | with_reducible exact ht)
  · exact KeepsO.next h

theorem rk_beamRestore : ∀ n < 7, 1 ≤ n → rowKind (0x3304 + 16 * n) 4 = some (.cmd, Ty.u32) := by decide

theorem execBeamRestore_keeps {path : Path} {n : Nat} {data : Bytes} (hm : 7144082 ||| m = m) (h : Keeps m r s) :
    KeepsO m r (execBeamRestore path n data s) := by
  unfold execBeamRestore
  split
  · next hu =>
    refine KeepsO.next (State.command_row_keeps (rk_beamRestore n (by omega) (by omega)) (by omega) (by omega) (sub_trans (by decide) hm) h (fun t v ht => ?_))
    simp only [State.command]
    have hx : n = 1 ∨ n = 2 ∨ n = 3 ∨ n = 4 ∨ n = 5 ∨ n = 6 := by omega
    rcases hx with rfl | rfl | rfl | rfl | rfl | rfl <;> simp [State.effectLow, State.effectMid, State.effectHigh, State.commandLow, driveOf, axisOf, stationOfIndex] <;> (
      first | with_reducible exact State.restoreBeams_keeps (sub_trans (by decide) hm) ht | with_reducible exact ht)
  · exact KeepsO.next h

theorem rk_retiredBeamsWrite : ∀ n < 7, 1 ≤ n → rowKind (0x3304 + 16 * n) 3 = some (.idle, Ty.u32) := by decide

theorem execRetiredBeamsWrite_keeps {path : Path} {n : Nat} {data : Bytes} (hm : 7144082 ||| m = m) (h : Keeps m r s) :
    KeepsO m r (execRetiredBeamsWrite path n data s) := by
  unfold execRetiredBeamsWrite
  split
  · next hu =>
    refine KeepsO.next (State.value_keeps (rk_retiredBeamsWrite n (by omega) (by omega)) (by decide) (by omega) (by omega) (by omega) (sub_trans (by decide) hm) h (fun t old v ht => ?_))
    simp only [State.effect]
    have hx : n = 1 ∨ n = 2 ∨ n = 3 ∨ n = 4 ∨ n = 5 ∨ n = 6 := by omega
    rcases hx with rfl | rfl | rfl | rfl | rfl | rfl <;> simp [State.effectLow, State.effectMid, State.effectHigh, State.commandLow, driveOf, axisOf, stationOfIndex] <;> (
      first | with_reducible exact State.retireBeams_keeps (sub_trans (by decide) hm) ht | with_reducible exact ht)
  · exact KeepsO.next h

theorem rk_recipeWrite : ∀ k < 32, 0 ≤ k → rowKind (0x3510 + k) 1 = some (.rw, Ty.dom) := by decide

theorem execRecipeWrite_keeps {path : Path} {k : Nat} {data : Bytes} (hm : 8192530 ||| m = m) (h : Keeps m r s) :
    KeepsO m r (execRecipeWrite path k data s) := by
  unfold execRecipeWrite
  split
  · next hu =>
    refine KeepsO.next (State.value_keeps (rk_recipeWrite k (by omega) (by omega)) (by decide) (by omega) (by omega) (by omega) (sub_trans (by decide) hm) h (fun t old v ht => ?_))
    simp only [State.effect]
    repeat (first | rw [if_pos (by omega)] | rw [if_neg (by omega)] | rw [if_pos (by simp only [ne_eq]; omega)] | simp only [State.effectLow, State.effectMid, State.effectHigh, State.commandLow])
    first | (first | with_reducible exact State.extendMeasurement_keeps (sub_trans (by decide) hm) ht | with_reducible exact ht) | (simp [driveOf, axisOf]; first | with_reducible exact State.extendMeasurement_keeps (sub_trans (by decide) hm) ht | with_reducible exact ht) | (simp [driveOf, axisOf]; split <;> (first | with_reducible exact State.extendMeasurement_keeps (sub_trans (by decide) hm) ht | with_reducible exact ht))
  · exact KeepsO.next h

theorem rk_takeOutOfService : rowKind 0x3600 0xB = some (.cmd, Ty.u8) := by decide

theorem execTakeOutOfService_keeps {path : Path} {data : Bytes} (hm : 8192822 ||| m = m) (h : Keeps m r s) :
    KeepsO m r (execTakeOutOfService path data s) := by
  unfold execTakeOutOfService
  refine KeepsO.next (State.command_row_keeps (rk_takeOutOfService) (by omega) (by omega) (sub_trans (by decide) hm) h (fun t v ht => ?_))
  simp only [State.command]
  first | (first | with_reducible exact State.takeOut_keeps (sub_trans (by decide) hm) ht | with_reducible exact ht) | (simp [State.effectLow, State.effectMid, State.effectHigh, State.commandLow, driveOf, axisOf, stationOfIndex]; first | with_reducible exact State.takeOut_keeps (sub_trans (by decide) hm) ht | with_reducible exact ht)

theorem rk_lockAcquire : rowKind 0x3820 1 = some (.cmd, Ty.u8) := by decide

theorem execLockAcquire_keeps {path : Path} {data : Bytes} (hm : 7144978 ||| m = m) (h : Keeps m r s) :
    KeepsO m r (execLockAcquire path data s) := by
  unfold execLockAcquire
  refine KeepsO.next (State.command_row_keeps (rk_lockAcquire) (by omega) (by omega) (sub_trans (by decide) hm) h (fun t v ht => ?_))
  simp only [State.command]
  first | (first | with_reducible exact State.hostLock_keeps (sub_trans (by decide) hm) ht | with_reducible exact ht) | (simp [State.effectLow, State.effectMid, State.effectHigh, State.commandLow, driveOf, axisOf, stationOfIndex]; first | with_reducible exact State.hostLock_keeps (sub_trans (by decide) hm) ht | with_reducible exact ht)

theorem rk_lockRelease : rowKind 0x3820 2 = some (.cmd, Ty.u8) := by decide

theorem execLockRelease_keeps {path : Path} {data : Bytes} (hm : 8199734 ||| m = m) (h : Keeps m r s) :
    KeepsO m r (execLockRelease path data s) := by
  unfold execLockRelease
  refine KeepsO.next (State.command_row_keeps (rk_lockRelease) (by omega) (by omega) (sub_trans (by decide) hm) h (fun t v ht => ?_))
  simp only [State.command]
  first | (first | with_reducible exact State.hostUnlock_keeps (sub_trans (by decide) hm) ht | with_reducible exact ht) | (simp [State.effectLow, State.effectMid, State.effectHigh, State.commandLow, driveOf, axisOf, stationOfIndex]; first | with_reducible exact State.hostUnlock_keeps (sub_trans (by decide) hm) ht | with_reducible exact ht)

theorem rk_channelInputWrite : ∀ ch < 17, 1 ≤ ch → rowKind 0x3810 ch = some (.rw, Ty.u8) := by decide

theorem execChannelInputWrite_keeps {path : Path} {ch : Nat} {data : Bytes} (hm : 7143954 ||| m = m) (h : Keeps m r s) :
    KeepsO m r (execChannelInputWrite path ch data s) := by
  unfold execChannelInputWrite
  split
  · next hu =>
    refine KeepsO.next (State.value_keeps (rk_channelInputWrite ch (by omega) (by omega)) (by decide) (by omega) (by omega) (by omega) (sub_trans (by decide) hm) h (fun t old v ht => ?_))
    simp only [State.effect]
    repeat (first | rw [if_pos (by omega)] | rw [if_neg (by omega)] | rw [if_pos (by simp only [ne_eq]; omega)] | simp only [State.effectLow, State.effectMid, State.effectHigh, State.commandLow])
    first | (first | exact Keeps.ite (State.event_keeps (sub_trans (by decide) hm) ht) ht | with_reducible exact State.event_keeps (sub_trans (by decide) hm) ht | with_reducible exact ht) | (simp [driveOf, axisOf]; first | exact Keeps.ite (State.event_keeps (sub_trans (by decide) hm) ht) ht | with_reducible exact State.event_keeps (sub_trans (by decide) hm) ht | with_reducible exact ht) | (simp [driveOf, axisOf]; split <;> (first | exact Keeps.ite (State.event_keeps (sub_trans (by decide) hm) ht) ht | with_reducible exact State.event_keeps (sub_trans (by decide) hm) ht | with_reducible exact ht))
  · exact KeepsO.next h

theorem rk_driveEnableWrite : ∀ c < 11, 0 ≤ c → rowKind (0x4100 + 16 * c) 1 = some (.rw, Ty.bool) := by decide

theorem execDriveEnableWrite_keeps {path : Path} {c : Nat} {data : Bytes} (hm : 7185110 ||| m = m) (h : Keeps m r s) :
    KeepsO m r (execDriveEnableWrite path c data s) := by
  unfold execDriveEnableWrite
  split
  · next hu =>
    refine KeepsO.next (State.value_keeps (rk_driveEnableWrite c (by omega) (by omega)) (by decide) (by omega) (by omega) (by omega) (sub_trans (by decide) hm) h (fun t old v ht => ?_))
    simp only [State.effect]
    repeat (first | rw [if_pos (by omega)] | rw [if_neg (by omega)] | rw [if_pos (by simp only [ne_eq]; omega)] | simp only [State.effectLow, State.effectMid, State.effectHigh, State.commandLow])
    first | (first | with_reducible exact State.driveEnable_keeps (sub_trans (by decide) hm) ht | with_reducible exact ht) | (simp [driveOf, axisOf]; first | with_reducible exact State.driveEnable_keeps (sub_trans (by decide) hm) ht | with_reducible exact ht) | (simp [driveOf, axisOf]; split <;> (first | with_reducible exact State.driveEnable_keeps (sub_trans (by decide) hm) ht | with_reducible exact ht))
  · exact KeepsO.next h

theorem rk_startProfile : ∀ c < 11, 0 ≤ c → rowKind (0x4100 + 16 * c) 0x14 = some (.cmd, Ty.u8) := by decide

theorem execStartProfile_keeps {path : Path} {c : Nat} {data : Bytes} (hm : 7185110 ||| m = m) (h : Keeps m r s) :
    KeepsO m r (execStartProfile path c data s) := by
  unfold execStartProfile
  split
  · next hu =>
    refine KeepsO.next (State.command_row_keeps (rk_startProfile c (by omega) (by omega)) (by omega) (by omega) (sub_trans (by decide) hm) h (fun t v ht => ?_))
    simp only [State.command]
    repeat (first | rw [if_pos (by omega)] | rw [if_neg (by omega)] | rw [if_pos (by simp only [ne_eq]; omega)] | simp only [State.effectLow, State.effectMid, State.effectHigh, State.commandLow])
    first | (first | with_reducible exact State.startProfile_keeps (sub_trans (by decide) hm) ht | with_reducible exact ht) | (simp [driveOf, axisOf]; first | with_reducible exact State.startProfile_keeps (sub_trans (by decide) hm) ht | with_reducible exact ht) | (simp [driveOf, axisOf]; split <;> (first | with_reducible exact State.startProfile_keeps (sub_trans (by decide) hm) ht | with_reducible exact ht))
  · exact KeepsO.next h

theorem rk_chopperTest : rowKind 0x410F 5 = some (.cmd, Ty.bool) := by decide

theorem execChopperTest_keeps {path : Path} {data : Bytes} (hm : 7152150 ||| m = m) (h : Keeps m r s) :
    KeepsO m r (execChopperTest path data s) := by
  unfold execChopperTest
  refine KeepsO.next (State.command_row_keeps (rk_chopperTest) (by omega) (by omega) (sub_trans (by decide) hm) h (fun t v ht => ?_))
  simp only [State.command]
  first | (first | with_reducible exact State.chopperTest_keeps (sub_trans (by decide) hm) ht | with_reducible exact ht) | (simp [State.effectLow, State.effectMid, State.effectHigh, State.commandLow, driveOf, axisOf, stationOfIndex]; first | with_reducible exact State.chopperTest_keeps (sub_trans (by decide) hm) ht | with_reducible exact ht)

theorem rk_busReconnect : rowKind 0x410F 9 = some (.cmd, Ty.bool) := by decide

theorem execBusReconnect_keeps {path : Path} {data : Bytes} (hm : 7143954 ||| m = m) (h : Keeps m r s) :
    KeepsO m r (execBusReconnect path data s) := by
  unfold execBusReconnect
  refine KeepsO.next (State.command_row_keeps (rk_busReconnect) (by omega) (by omega) (sub_trans (by decide) hm) h (fun t v ht => ?_))
  simp only [State.command]
  first | (first | with_reducible exact State.setBusSwitch_keeps (sub_trans (by decide) hm) ht | with_reducible exact ht) | (simp [State.effectLow, State.effectMid, State.effectHigh, State.commandLow, driveOf, axisOf, stationOfIndex]; first | with_reducible exact State.setBusSwitch_keeps (sub_trans (by decide) hm) ht | with_reducible exact ht)

theorem rk_axisEnableWrite : ∀ n < 13, 1 ≤ n → rowKind (0x43F0 + 16 * n) 1 = some (.rw, Ty.bool) := by decide

theorem execAxisEnableWrite_keeps {path : Path} {n : Nat} {data : Bytes} (hm : 7160350 ||| m = m) (h : Keeps m r s) :
    KeepsO m r (execAxisEnableWrite path n data s) := by
  unfold execAxisEnableWrite
  split
  · next hu =>
    refine KeepsO.next (State.value_keeps (rk_axisEnableWrite n (by omega) (by omega)) (by decide) (by omega) (by omega) (by omega) (sub_trans (by decide) hm) h (fun t old v ht => ?_))
    simp only [State.effect]
    have hx : n = 1 ∨ n = 2 ∨ n = 3 ∨ n = 4 ∨ n = 5 ∨ n = 6 ∨ n = 7 ∨ n = 8 ∨ n = 9 ∨ n = 10 ∨ n = 11 ∨ n = 12 := by omega
    rcases hx with rfl | rfl | rfl | rfl | rfl | rfl | rfl | rfl | rfl | rfl | rfl | rfl <;> simp [State.effectLow, State.effectMid, State.effectHigh, State.commandLow, driveOf, axisOf, stationOfIndex] <;> (
      first | with_reducible exact State.axisEnable_keeps (sub_trans (by decide) hm) ht | with_reducible exact ht)
  · exact KeepsO.next h

theorem rk_startMove : ∀ n < 13, 1 ≤ n → rowKind (0x43F0 + 16 * n) 7 = some (.cmd, Ty.u8) := by decide

theorem execStartMove_keeps {path : Path} {n : Nat} {data : Bytes} (hm : 7160338 ||| m = m) (h : Keeps m r s) :
    KeepsO m r (execStartMove path n data s) := by
  unfold execStartMove
  split
  · next hu =>
    refine KeepsO.next (State.command_row_keeps (rk_startMove n (by omega) (by omega)) (by omega) (by omega) (sub_trans (by decide) hm) h (fun t v ht => ?_))
    simp only [State.command]
    have hx : n = 1 ∨ n = 2 ∨ n = 3 ∨ n = 4 ∨ n = 5 ∨ n = 6 ∨ n = 7 ∨ n = 8 ∨ n = 9 ∨ n = 10 ∨ n = 11 ∨ n = 12 := by omega
    rcases hx with rfl | rfl | rfl | rfl | rfl | rfl | rfl | rfl | rfl | rfl | rfl | rfl <;> simp [State.effectLow, State.effectMid, State.effectHigh, State.commandLow, driveOf, axisOf, stationOfIndex] <;> (
      first | with_reducible exact State.hostMove_keeps (sub_trans (by decide) hm) ht | with_reducible exact ht)
  · exact KeepsO.next h

theorem rk_targetPositionWrite : ∀ n < 13, 1 ≤ n → rowKind (0x43F0 + 16 * n) 6 = some (.rw, Ty.i32) := by decide

theorem execTargetPositionWrite_keeps {path : Path} {n : Nat} {data : Bytes} (hm : 7160338 ||| m = m) (h : Keeps m r s) :
    KeepsO m r (execTargetPositionWrite path n data s) := by
  unfold execTargetPositionWrite
  split
  · next hu =>
    refine KeepsO.next (State.value_keeps (rk_targetPositionWrite n (by omega) (by omega)) (by decide) (by omega) (by omega) (by omega) (sub_trans (by decide) hm) h (fun t old v ht => ?_))
    simp only [State.effect]
    have hx : n = 1 ∨ n = 2 ∨ n = 3 ∨ n = 4 ∨ n = 5 ∨ n = 6 ∨ n = 7 ∨ n = 8 ∨ n = 9 ∨ n = 10 ∨ n = 11 ∨ n = 12 := by omega
    rcases hx with rfl | rfl | rfl | rfl | rfl | rfl | rfl | rfl | rfl | rfl | rfl | rfl <;> simp [State.effectLow, State.effectMid, State.effectHigh, State.commandLow, driveOf, axisOf, stationOfIndex] <;> (
      first | with_reducible exact State.targetWritten_keeps (sub_trans (by decide) hm) ht | with_reducible exact ht)
  · exact KeepsO.next h

theorem rk_stop : ∀ n < 13, 1 ≤ n → rowKind (0x43F0 + 16 * n) 8 = some (.cmd, Ty.u8) := by decide

theorem execStop_keeps {path : Path} {n : Nat} {data : Bytes} (hm : 7160342 ||| m = m) (h : Keeps m r s) :
    KeepsO m r (execStop path n data s) := by
  unfold execStop
  split
  · next hu =>
    refine KeepsO.next (State.command_row_keeps (rk_stop n (by omega) (by omega)) (by omega) (by omega) (sub_trans (by decide) hm) h (fun t v ht => ?_))
    simp only [State.command]
    have hx : n = 1 ∨ n = 2 ∨ n = 3 ∨ n = 4 ∨ n = 5 ∨ n = 6 ∨ n = 7 ∨ n = 8 ∨ n = 9 ∨ n = 10 ∨ n = 11 ∨ n = 12 := by omega
    rcases hx with rfl | rfl | rfl | rfl | rfl | rfl | rfl | rfl | rfl | rfl | rfl | rfl <;> simp [State.effectLow, State.effectMid, State.effectHigh, State.commandLow, driveOf, axisOf, stationOfIndex] <;> (
      first | exact State.stopAxis_keeps (sub_trans (by decide) hm) (State.hostActs_keeps (sub_trans (by decide) hm) ht) | with_reducible exact State.hostActs_keeps (sub_trans (by decide) hm) ht | with_reducible exact State.stopAxis_keeps (sub_trans (by decide) hm) ht | with_reducible exact ht)
  · exact KeepsO.next h

theorem rk_positionPreset : ∀ n < 13, 1 ≤ n → rowKind (0x43F0 + 16 * n) 9 = some (.cmd, Ty.i32) := by decide

theorem execPositionPreset_keeps {path : Path} {n : Nat} {data : Bytes} (hm : 7160338 ||| m = m) (h : Keeps m r s) :
    KeepsO m r (execPositionPreset path n data s) := by
  unfold execPositionPreset
  split
  · next hu =>
    refine KeepsO.next (State.command_row_keeps (rk_positionPreset n (by omega) (by omega)) (by omega) (by omega) (sub_trans (by decide) hm) h (fun t v ht => ?_))
    simp only [State.command]
    have hx : n = 1 ∨ n = 2 ∨ n = 3 ∨ n = 4 ∨ n = 5 ∨ n = 6 ∨ n = 7 ∨ n = 8 ∨ n = 9 ∨ n = 10 ∨ n = 11 ∨ n = 12 := by omega
    rcases hx with rfl | rfl | rfl | rfl | rfl | rfl | rfl | rfl | rfl | rfl | rfl | rfl <;> simp [State.effectLow, State.effectMid, State.effectHigh, State.commandLow, driveOf, axisOf, stationOfIndex] <;> (
      first | with_reducible exact State.presetAxis_keeps (sub_trans (by decide) hm) ht | with_reducible exact ht)
  · exact KeepsO.next h

theorem rk_startHoming : ∀ n < 13, 1 ≤ n → rowKind (0x43F0 + 16 * n) 0xA = some (.cmd, Ty.bool) := by decide

theorem execStartHoming_keeps {path : Path} {n : Nat} {data : Bytes} (hm : 7160350 ||| m = m) (h : Keeps m r s) :
    KeepsO m r (execStartHoming path n data s) := by
  unfold execStartHoming
  split
  · next hu =>
    refine KeepsO.next (State.command_row_keeps (rk_startHoming n (by omega) (by omega)) (by omega) (by omega) (sub_trans (by decide) hm) h (fun t v ht => ?_))
    simp only [State.command]
    have hx : n = 1 ∨ n = 2 ∨ n = 3 ∨ n = 4 ∨ n = 5 ∨ n = 6 ∨ n = 7 ∨ n = 8 ∨ n = 9 ∨ n = 10 ∨ n = 11 ∨ n = 12 := by omega
    rcases hx with rfl | rfl | rfl | rfl | rfl | rfl | rfl | rfl | rfl | rfl | rfl | rfl <;> simp [State.effectLow, State.effectMid, State.effectHigh, State.commandLow, driveOf, axisOf, stationOfIndex] <;> (
      first | with_reducible exact State.startHoming_keeps (sub_trans (by decide) hm) ht | with_reducible exact ht)
  · exact KeepsO.next h

theorem rk_slotEnableWrite : ∀ slot < 64, 0 ≤ slot → rowKind (0x4800 + slot) 1 = some (.rw, Ty.bool) := by decide

theorem execSlotEnableWrite_keeps {path : Path} {slot : Nat} {data : Bytes} (hm : 7176722 ||| m = m) (h : Keeps m r s) :
    KeepsO m r (execSlotEnableWrite path slot data s) := by
  unfold execSlotEnableWrite
  split
  · next hu =>
    refine KeepsO.next (State.value_keeps (rk_slotEnableWrite slot (by omega) (by omega)) (by decide) (by omega) (by omega) (by omega) (sub_trans (by decide) hm) h (fun t old v ht => ?_))
    simp only [State.effect]
    repeat (first | rw [if_pos (by omega)] | rw [if_neg (by omega)] | rw [if_pos (by simp only [ne_eq]; omega)] | simp only [State.effectLow, State.effectMid, State.effectHigh, State.commandLow])
    first | (first | with_reducible exact State.slotEnable_keeps (sub_trans (by decide) hm) ht | with_reducible exact ht) | (simp [driveOf, axisOf]; first | with_reducible exact State.slotEnable_keeps (sub_trans (by decide) hm) ht | with_reducible exact ht) | (simp [driveOf, axisOf]; split <;> (first | with_reducible exact State.slotEnable_keeps (sub_trans (by decide) hm) ht | with_reducible exact ht))
  · exact KeepsO.next h

theorem rk_modeWrite : ∀ slot < 64, 0 ≤ slot → rowKind (0x4800 + slot) 7 = some (.rw, Ty.u8) := by decide

theorem execModeWrite_keeps {path : Path} {slot : Nat} {data : Bytes} (hm : 7176722 ||| m = m) (h : Keeps m r s) :
    KeepsO m r (execModeWrite path slot data s) := by
  unfold execModeWrite
  split
  · next hu =>
    refine KeepsO.next (State.value_keeps (rk_modeWrite slot (by omega) (by omega)) (by decide) (by omega) (by omega) (by omega) (sub_trans (by decide) hm) h (fun t old v ht => ?_))
    simp only [State.effect]
    repeat (first | rw [if_pos (by omega)] | rw [if_neg (by omega)] | rw [if_pos (by simp only [ne_eq]; omega)] | simp only [State.effectLow, State.effectMid, State.effectHigh, State.commandLow])
    first | (first | with_reducible exact State.slotMode_keeps (sub_trans (by decide) hm) ht | with_reducible exact ht) | (simp [driveOf, axisOf]; first | with_reducible exact State.slotMode_keeps (sub_trans (by decide) hm) ht | with_reducible exact ht) | (simp [driveOf, axisOf]; split <;> (first | with_reducible exact State.slotMode_keeps (sub_trans (by decide) hm) ht | with_reducible exact ht))
  · exact KeepsO.next h

theorem rk_loopTargetWrite : ∀ slot < 64, 0 ≤ slot → rowKind (0x4800 + slot) 8 = some (.rw, Ty.real) := by decide

theorem execLoopTargetWrite_keeps {path : Path} {slot : Nat} {data : Bytes} (hm : 7143954 ||| m = m) (h : Keeps m r s) :
    KeepsO m r (execLoopTargetWrite path slot data s) := by
  unfold execLoopTargetWrite
  split
  · next hu =>
    refine KeepsO.next (State.value_keeps (rk_loopTargetWrite slot (by omega) (by omega)) (by decide) (by omega) (by omega) (by omega) (sub_trans (by decide) hm) h (fun t old v ht => ?_))
    simp only [State.effect]
    repeat (first | rw [if_pos (by omega)] | rw [if_neg (by omega)] | rw [if_pos (by simp only [ne_eq]; omega)] | simp only [State.effectLow, State.effectMid, State.effectHigh, State.commandLow])
    first | (first | exact Keeps.ite (State.refreshInBand_keeps (sub_trans (by decide) hm) ht) ht | with_reducible exact State.refreshInBand_keeps (sub_trans (by decide) hm) ht | with_reducible exact ht) | (simp [driveOf, axisOf]; first | exact Keeps.ite (State.refreshInBand_keeps (sub_trans (by decide) hm) ht) ht | with_reducible exact State.refreshInBand_keeps (sub_trans (by decide) hm) ht | with_reducible exact ht) | (simp [driveOf, axisOf]; split <;> (first | exact Keeps.ite (State.refreshInBand_keeps (sub_trans (by decide) hm) ht) ht | with_reducible exact State.refreshInBand_keeps (sub_trans (by decide) hm) ht | with_reducible exact ht))
  · exact KeepsO.next h

theorem rk_hvEnableWrite : ∀ k < 21, 1 ≤ k → rowKind (0x4D00 + k) 1 = some (.rw, Ty.bool) := by decide

theorem execHvEnableWrite_keeps {path : Path} {k : Nat} {data : Bytes} (hm : 7176726 ||| m = m) (h : Keeps m r s) :
    KeepsO m r (execHvEnableWrite path k data s) := by
  unfold execHvEnableWrite
  split
  · next hu =>
    refine KeepsO.next (State.value_keeps (rk_hvEnableWrite k (by omega) (by omega)) (by decide) (by omega) (by omega) (by omega) (sub_trans (by decide) hm) h (fun t old v ht => ?_))
    simp only [State.effect]
    repeat (first | rw [if_pos (by omega)] | rw [if_neg (by omega)] | rw [if_pos (by simp only [ne_eq]; omega)] | simp only [State.effectLow, State.effectMid, State.effectHigh, State.commandLow])
    first | (first | with_reducible exact State.hvEnable_keeps (sub_trans (by decide) hm) ht | with_reducible exact ht) | (simp [driveOf, axisOf]; first | with_reducible exact State.hvEnable_keeps (sub_trans (by decide) hm) ht | with_reducible exact ht) | (simp [driveOf, axisOf]; split <;> (first | with_reducible exact State.hvEnable_keeps (sub_trans (by decide) hm) ht | with_reducible exact ht))
  · exact KeepsO.next h

theorem rk_hostSwitch : ∀ k < 21, 1 ≤ k → rowKind (0x4D00 + k) 5 = some (.cmd, Ty.u8) := by decide

theorem execHostSwitch_keeps {path : Path} {k : Nat} {data : Bytes} (hm : 7176726 ||| m = m) (h : Keeps m r s) :
    KeepsO m r (execHostSwitch path k data s) := by
  unfold execHostSwitch
  split
  · next hu =>
    refine KeepsO.next (State.command_row_keeps (rk_hostSwitch k (by omega) (by omega)) (by omega) (by omega) (sub_trans (by decide) hm) h (fun t v ht => ?_))
    simp only [State.command]
    repeat (first | rw [if_pos (by omega)] | rw [if_neg (by omega)] | rw [if_pos (by simp only [ne_eq]; omega)] | simp only [State.effectLow, State.effectMid, State.effectHigh, State.commandLow])
    first | (first | with_reducible exact State.hostSwitch_keeps (sub_trans (by decide) hm) ht | with_reducible exact ht) | (simp [driveOf, axisOf]; first | with_reducible exact State.hostSwitch_keeps (sub_trans (by decide) hm) ht | with_reducible exact ht) | (simp [driveOf, axisOf]; split <;> (first | with_reducible exact State.hostSwitch_keeps (sub_trans (by decide) hm) ht | with_reducible exact ht))
  · exact KeepsO.next h

theorem rk_zoneEnableWrite : ∀ z < 4, 1 ≤ z → rowKind (0x4C00 + z) 1 = some (.rw, Ty.bool) := by decide

theorem execZoneEnableWrite_keeps {path : Path} {z : Nat} {data : Bytes} (hm : 7176722 ||| m = m) (h : Keeps m r s) :
    KeepsO m r (execZoneEnableWrite path z data s) := by
  unfold execZoneEnableWrite
  split
  · next hu =>
    refine KeepsO.next (State.value_keeps (rk_zoneEnableWrite z (by omega) (by omega)) (by decide) (by omega) (by omega) (by omega) (sub_trans (by decide) hm) h (fun t old v ht => ?_))
    simp only [State.effect]
    have hx : z = 1 ∨ z = 2 ∨ z = 3 := by omega
    rcases hx with rfl | rfl | rfl <;> simp [State.effectLow, State.effectMid, State.effectHigh, State.commandLow, driveOf, axisOf, stationOfIndex] <;> (
      first | with_reducible exact State.zoneEnable_keeps (sub_trans (by decide) hm) ht | with_reducible exact ht)
  · exact KeepsO.next h

theorem rk_domainRequestWrite : rowKind 0x2040 1 = some (.rw, Ty.u16) := by decide

theorem execDomainRequestWrite_keeps {path : Path} {data : Bytes} (hm : 16777214 ||| m = m) (h : Keeps m r s) :
    KeepsO m r (execDomainRequestWrite path data s) := by
  unfold execDomainRequestWrite
  refine KeepsO.next (State.value_keeps (rk_domainRequestWrite) (by decide) (by omega) (by omega) (by omega) (sub_trans (by decide) hm) h (fun t old v ht => ?_))
  simp only [State.effect]
  first | (first | with_reducible exact State.requestDomains_keeps (sub_trans (by decide) hm) ht | with_reducible exact ht) | (simp [State.effectLow, State.effectMid, State.effectHigh, State.commandLow, driveOf, axisOf, stationOfIndex]; first | with_reducible exact State.requestDomains_keeps (sub_trans (by decide) hm) ht | with_reducible exact ht)

theorem rk_channelEnableWrite : ∀ k < 37, 1 ≤ k → rowKind (0x210F + k) 1 = some (.rw, Ty.bool) := by decide

theorem execChannelEnableWrite_keeps {path : Path} {k : Nat} {data : Bytes} (hm : 7275026 ||| m = m) (h : Keeps m r s) :
    KeepsO m r (execChannelEnableWrite path k data s) := by
  unfold execChannelEnableWrite
  split
  · next hu =>
    refine KeepsO.next (State.value_keeps (rk_channelEnableWrite k (by omega) (by omega)) (by decide) (by omega) (by omega) (by omega) (sub_trans (by decide) hm) h (fun t old v ht => ?_))
    simp only [State.effect]
    repeat (first | rw [if_pos (by omega)] | rw [if_neg (by omega)] | rw [if_pos (by simp only [ne_eq]; omega)] | simp only [State.effectLow, State.effectMid, State.effectHigh, State.commandLow])
    first | (first | with_reducible exact State.channelEnable_keeps (sub_trans (by decide) hm) ht | with_reducible exact ht) | (simp [driveOf, axisOf]; first | with_reducible exact State.channelEnable_keeps (sub_trans (by decide) hm) ht | with_reducible exact ht) | (simp [driveOf, axisOf]; split <;> (first | with_reducible exact State.channelEnable_keeps (sub_trans (by decide) hm) ht | with_reducible exact ht))
  · exact KeepsO.next h

theorem rk_faultClear : rowKind 0x2200 9 = some (.cmd, Ty.bool) := by decide

theorem execFaultClear_keeps {path : Path} {data : Bytes} (hm : 7332566 ||| m = m) (h : Keeps m r s) :
    KeepsO m r (execFaultClear path data s) := by
  unfold execFaultClear
  refine KeepsO.next (State.command_row_keeps (rk_faultClear) (by omega) (by omega) (sub_trans (by decide) hm) h (fun t v ht => ?_))
  simp only [State.command]
  first | (first | with_reducible exact State.faultClear_keeps (sub_trans (by decide) hm) ht | with_reducible exact ht) | (simp [State.effectLow, State.effectMid, State.effectHigh, State.commandLow, driveOf, axisOf, stationOfIndex]; first | with_reducible exact State.faultClear_keeps (sub_trans (by decide) hm) ht | with_reducible exact ht)

theorem rk_stickyClear : rowKind 0x2201 3 = some (.cmd, Ty.dom) := by decide

theorem execStickyClear_keeps {path : Path} {data : Bytes} (hm : 7143954 ||| m = m) (h : Keeps m r s) :
    KeepsO m r (execStickyClear path data s) := by
  unfold execStickyClear
  refine KeepsO.next (State.command_row_keeps (rk_stickyClear) (by omega) (by omega) (sub_trans (by decide) hm) h (fun t v ht => ?_))
  simp only [State.command]
  first | (first | with_reducible exact State.stickyClear_keeps (sub_trans (by decide) hm) ht | with_reducible exact ht) | (simp [State.effectLow, State.effectMid, State.effectHigh, State.commandLow, driveOf, axisOf, stationOfIndex]; first | with_reducible exact State.stickyClear_keeps (sub_trans (by decide) hm) ht | with_reducible exact ht)

theorem rk_reactionMapWrite : rowKind 0x2210 1 = some (.rw, Ty.dom) := by decide

theorem execReactionMapWrite_keeps {path : Path} {data : Bytes} (hm : 8192530 ||| m = m) (h : Keeps m r s) :
    KeepsO m r (execReactionMapWrite path data s) := by
  unfold execReactionMapWrite
  refine KeepsO.next (State.value_keeps (rk_reactionMapWrite) (by decide) (by omega) (by omega) (by omega) (sub_trans (by decide) hm) h (fun t old v ht => ?_))
  simp only [State.effect]
  first | (first | exact State.extendMeasurement_keeps (sub_trans (by decide) hm) (State.event_keeps (sub_trans (by decide) hm) ht)) | (simp [State.effectLow, State.effectMid, State.effectHigh, State.commandLow, driveOf, axisOf, stationOfIndex]; first | exact State.extendMeasurement_keeps (sub_trans (by decide) hm) (State.event_keeps (sub_trans (by decide) hm) ht))

theorem rk_inject : rowKind 0x2220 4 = some (.cmd, Ty.bool) := by decide

theorem execInject_keeps {path : Path} {data : Bytes} (hm : 7143954 ||| m = m) (h : Keeps m r s) :
    KeepsO m r (execInject path data s) := by
  unfold execInject
  refine KeepsO.next (State.command_row_keeps (rk_inject) (by omega) (by omega) (sub_trans (by decide) hm) h (fun t v ht => ?_))
  simp only [State.command]
  first | (first | with_reducible exact State.inject_keeps (sub_trans (by decide) hm) ht | with_reducible exact ht) | (simp [State.effectLow, State.effectMid, State.effectHigh, State.commandLow, driveOf, axisOf, stationOfIndex]; first | with_reducible exact State.inject_keeps (sub_trans (by decide) hm) ht | with_reducible exact ht)

theorem rk_standbyReload : rowKind 0x2300 0xC = some (.cmd, Ty.u8) := by decide

theorem execStandbyReload_keeps {path : Path} {data : Bytes} (hm : 7143958 ||| m = m) (h : Keeps m r s) :
    KeepsO m r (execStandbyReload path data s) := by
  unfold execStandbyReload
  refine KeepsO.next (State.command_row_keeps (rk_standbyReload) (by omega) (by omega) (sub_trans (by decide) hm) h (fun t v ht => ?_))
  simp only [State.command]
  first | (first | with_reducible exact State.standbyReload_keeps (sub_trans (by decide) hm) ht | with_reducible exact ht) | (simp [State.effectLow, State.effectMid, State.effectHigh, State.commandLow, driveOf, axisOf, stationOfIndex]; first | with_reducible exact State.standbyReload_keeps (sub_trans (by decide) hm) ht | with_reducible exact ht)

theorem rk_plannedSwitchOver : rowKind 0x2300 0xB = some (.cmd, Ty.u8) := by decide

theorem execPlannedSwitchOver_keeps {path : Path} {data : Bytes} (hm : 8192822 ||| m = m) (h : Keeps m r s) :
    KeepsO m r (execPlannedSwitchOver path data s) := by
  unfold execPlannedSwitchOver
  refine KeepsO.next (State.command_row_keeps (rk_plannedSwitchOver) (by omega) (by omega) (sub_trans (by decide) hm) h (fun t v ht => ?_))
  simp only [State.command]
  first | (first | with_reducible exact State.plannedSwitch_keeps (sub_trans (by decide) hm) ht | with_reducible exact ht) | (simp [State.effectLow, State.effectMid, State.effectHigh, State.commandLow, driveOf, axisOf, stationOfIndex]; first | with_reducible exact State.plannedSwitch_keeps (sub_trans (by decide) hm) ht | with_reducible exact ht)

theorem rk_attestObject : rowKind 0x2440 2 = some (.cmd, Ty.dom) := by decide

theorem execAttestObject_keeps {path : Path} {data : Bytes} (hm : 8192530 ||| m = m) (h : Keeps m r s) :
    KeepsO m r (execAttestObject path data s) := by
  unfold execAttestObject
  refine KeepsO.next (State.command_row_keeps (rk_attestObject) (by omega) (by omega) (sub_trans (by decide) hm) h (fun t v ht => ?_))
  simp only [State.command]
  first | (first | with_reducible exact State.attest_keeps (sub_trans (by decide) hm) ht | with_reducible exact ht) | (simp [State.effectLow, State.effectMid, State.effectHigh, State.commandLow, driveOf, axisOf, stationOfIndex]; first | with_reducible exact State.attest_keeps (sub_trans (by decide) hm) ht | with_reducible exact ht)

theorem rk_moduleResetObject : rowKind 0x2011 1 = some (.cmd, Ty.u32) := by decide

theorem execModuleResetObject_keeps {path : Path} {data : Bytes} (hm : 7143958 ||| m = m) (h : Keeps m r s) :
    KeepsO m r (execModuleResetObject path data s) := by
  unfold execModuleResetObject
  refine KeepsO.next (State.command_row_keeps (rk_moduleResetObject) (by omega) (by omega) (sub_trans (by decide) hm) h (fun t v ht => ?_))
  simp only [State.command]
  first | (first | with_reducible exact State.oneMs_keeps (sub_trans (by decide) hm) ht | with_reducible exact ht) | (simp [State.effectLow, State.effectMid, State.effectHigh, State.commandLow, driveOf, axisOf, stationOfIndex]; first | with_reducible exact State.oneMs_keeps (sub_trans (by decide) hm) ht | with_reducible exact ht)

theorem rk_powerCycleRequest : rowKind 0x2011 2 = some (.cmd, Ty.u32) := by decide

theorem execPowerCycleRequest_keeps {path : Path} {data : Bytes} (hm : 7143958 ||| m = m) (h : Keeps m r s) :
    KeepsO m r (execPowerCycleRequest path data s) := by
  unfold execPowerCycleRequest
  refine KeepsO.next (State.command_row_keeps (rk_powerCycleRequest) (by omega) (by omega) (sub_trans (by decide) hm) h (fun t v ht => ?_))
  simp only [State.command]
  first | (first | with_reducible exact State.oneMs_keeps (sub_trans (by decide) hm) ht | with_reducible exact ht) | (simp [State.effectLow, State.effectMid, State.effectHigh, State.commandLow, driveOf, axisOf, stationOfIndex]; first | with_reducible exact State.oneMs_keeps (sub_trans (by decide) hm) ht | with_reducible exact ht)

theorem rk_expectedMeasurementsWrite : ∀ sub < 3, 1 ≤ sub → rowKind 0x2420 sub = some (.rw, if sub = 1 then Ty.u8 else Ty.dom) := by decide

theorem execExpectedMeasurementsWrite_keeps {path : Path} {sub : Nat} {data : Bytes} (hm : 8192530 ||| m = m) (h : Keeps m r s) :
    KeepsO m r (execExpectedMeasurementsWrite path sub data s) := by
  unfold execExpectedMeasurementsWrite
  split
  · next hu =>
    refine KeepsO.next (State.value_keeps (rk_expectedMeasurementsWrite sub (by omega) (by omega)) (by decide) (by omega) (by omega) (by omega) (sub_trans (by decide) hm) h (fun t old v ht => ?_))
    simp only [State.effect]
    have hx : sub = 1 ∨ sub = 2 := by omega
    rcases hx with rfl | rfl <;> simp [State.effectLow, State.effectMid, State.effectHigh, State.commandLow, driveOf, axisOf, stationOfIndex] <;> (
      first | with_reducible exact State.expectedWritten_keeps (sub_trans (by decide) hm) ht | with_reducible exact ht)
  · exact KeepsO.next h

theorem rk_mismatchAcknowledge : rowKind 0x2420 4 = some (.cmd, Ty.u8) := by decide

theorem execMismatchAcknowledge_keeps {path : Path} {data : Bytes} (hm : 8192530 ||| m = m) (h : Keeps m r s) :
    KeepsO m r (execMismatchAcknowledge path data s) := by
  unfold execMismatchAcknowledge
  refine KeepsO.next (State.command_row_keeps (rk_mismatchAcknowledge) (by omega) (by omega) (sub_trans (by decide) hm) h (fun t v ht => ?_))
  simp only [State.command]
  first | (first | with_reducible exact State.acknowledge_keeps (sub_trans (by decide) hm) ht | with_reducible exact ht) | (simp [State.effectLow, State.effectMid, State.effectHigh, State.commandLow, driveOf, axisOf, stationOfIndex]; first | with_reducible exact State.acknowledge_keeps (sub_trans (by decide) hm) ht | with_reducible exact ht)

theorem State.reinitRow_keeps {path : Path} {c i : Nat} {a : List Frame} (hc : c < 256) (hm : 7143954 ||| m = m) (h : Keeps m r s)
    (he : ∀ t n, Keeps m r t → Keeps m r (t.reinitFunction c n a)) : Keeps m r (s.reinitRow path c i a) := by
  unfold State.reinitRow
  dsimp only
  split
  · next hi =>
    unfold State.request
    split
    · split
      · have hb : ofLe (leBytes 2 (c * 256 + i)) = c * 256 + i := by
          simp only [leBytes, ofLe, BitVec.toNat_ofNat]; omega
        have he1 : ∀ t : State, Keeps m r t → Keeps m r (t.command path 0x2010 1 (Ty.u16.decode (leBytes 2 (c * 256 + i))) a) := by
          intro t ht
          have e0 : (Ty.u16.decode (leBytes 2 (c * 256 + i))).nat = c * 256 + i := by
            simp only [Ty.decode, Val.nat, Val.int, hb]; rfl
          have e1 : (c * 256 + i) / 256 = c := by omega
          simp only [State.command, State.commandLow, Nat.reduceLT, reduceIte, State.reinitialise, e0, e1]
          exact State.event_keeps (sub_trans (by decide) hm) (State.setn_keeps (sub_trans (by decide) hm)
            (State.bump_keeps (sub_trans (by decide) hm) (he _ _ ht)))
        cases ha : s.writeAbort path false 0x2010 1 (leBytes 2 (c * 256 + i)) with
        | some x =>
          unfold State.serveWrite State.writeObject
          simp only [ha]
          exact State.answered_keeps (sub_trans (by decide) hm) (State.noteWrite_keeps (sub_trans (by decide) hm) h)
        | none =>
          dsimp only
          rw [State.serveWrite_command (ty := .u16) ha (by decide) (by omega) (by omega)]
          exact State.answered_keeps (sub_trans (by decide) hm) (State.noteWrite_keeps (sub_trans (by decide) hm)
            (he1 _ (State.dictionaryEntry_keeps (sub_trans (by decide) hm) h)))
      · exact State.stall_keeps (sub_trans (by decide) hm) h
    · exact h
  · exact h

theorem execReinitSequencerUnit_keeps {path : Path} {i : Nat} (hm : 8199734 ||| m = m) (h : Keeps m r s) :
    KeepsO m r (execReinitSequencerUnit path i s) := by
  unfold execReinitSequencerUnit
  refine KeepsO.next (State.reinitRow_keeps (by decide) (sub_trans (by decide) hm) h (fun t n ht => ?_))
  unfold State.reinitFunction
  exact State.startGranted_keeps (sub_trans (by decide) hm) (State.unitReinit_keeps (sub_trans (by decide) hm) ht)

theorem execReinitPressLane_keeps {path : Path} {i : Nat} (hm : 7143954 ||| m = m) (h : Keeps m r s) :
    KeepsO m r (execReinitPressLane path i s) := by
  unfold execReinitPressLane
  refine KeepsO.next (State.reinitRow_keeps (by decide) (sub_trans (by decide) hm) h (fun t n ht => ?_))
  unfold State.reinitFunction
  exact State.laneTests_keeps (sub_trans (by decide) hm) ht

theorem execReinitStation_keeps {path : Path} {i : Nat} {a : List Frame} (hm : 7144082 ||| m = m) (h : Keeps m r s) :
    KeepsO m r (execReinitStation path i a s) := by
  unfold execReinitStation
  refine KeepsO.next (State.reinitRow_keeps (by decide) (sub_trans (by decide) hm) h (fun t n ht => ?_))
  unfold State.reinitFunction
  exact State.stationReinit_keeps (sub_trans (by decide) hm) ht

theorem execReinitPolygonTiming_keeps {path : Path} {i : Nat} (hm : 7185110 ||| m = m) (h : Keeps m r s) :
    KeepsO m r (execReinitPolygonTiming path i s) := by
  unfold execReinitPolygonTiming
  refine KeepsO.next (State.reinitRow_keeps (by decide) (sub_trans (by decide) hm) h (fun t n ht => ?_))
  unfold State.reinitFunction
  exact State.polygonReinit_keeps (sub_trans (by decide) hm) ht

theorem execReinitEncoder_keeps {path : Path} {i : Nat} (hm : 7143966 ||| m = m) (h : Keeps m r s) :
    KeepsO m r (execReinitEncoder path i s) := by
  unfold execReinitEncoder
  refine KeepsO.next (State.reinitRow_keeps (by decide) (sub_trans (by decide) hm) h (fun t n ht => ?_))
  unfold State.reinitFunction
  exact Keeps.ite (State.encoderEnable_keeps (sub_trans (by decide) hm) ht) ht

theorem execReinitPositionBase_keeps {path : Path} (hm : 8192958 ||| m = m) (h : Keeps m r s) :
    KeepsO m r (execReinitPositionBase path s) := by
  unfold execReinitPositionBase
  refine KeepsO.next (State.reinitRow_keeps (by decide) (sub_trans (by decide) hm) h (fun t n ht => ?_))
  unfold State.reinitFunction
  exact State.positionReinit_keeps (sub_trans (by decide) hm) ht

theorem execReinitLadle_keeps {path : Path} (hm : 8199734 ||| m = m) (h : Keeps m r s) :
    KeepsO m r (execReinitLadle path s) := by
  unfold execReinitLadle
  refine KeepsO.next (State.reinitRow_keeps (by decide) (sub_trans (by decide) hm) h (fun t n ht => ?_))
  unfold State.reinitFunction
  exact State.startGranted_keeps (sub_trans (by decide) hm) (State.ladleReinit_keeps (sub_trans (by decide) hm) ht)

theorem execReinitCrock_keeps {path : Path} (hm : 7143954 ||| m = m) (h : Keeps m r s) :
    KeepsO m r (execReinitCrock path s) := by
  unfold execReinitCrock
  refine KeepsO.next (State.reinitRow_keeps (by decide) (sub_trans (by decide) hm) h (fun t n ht => ?_))
  unfold State.reinitFunction
  exact State.crockReinit_keeps (sub_trans (by decide) hm) ht

theorem execReinitDriveChannel_keeps {path : Path} {i : Nat} (hm : 7185110 ||| m = m) (h : Keeps m r s) :
    KeepsO m r (execReinitDriveChannel path i s) := by
  unfold execReinitDriveChannel
  refine KeepsO.next (State.reinitRow_keeps (by decide) (sub_trans (by decide) hm) h (fun t n ht => ?_))
  unfold State.reinitFunction
  exact State.driveReinit_keeps (sub_trans (by decide) hm) ht

theorem execReinitStepperAxis_keeps {path : Path} {i : Nat} (hm : 7160350 ||| m = m) (h : Keeps m r s) :
    KeepsO m r (execReinitStepperAxis path i s) := by
  unfold execReinitStepperAxis
  refine KeepsO.next (State.reinitRow_keeps (by decide) (sub_trans (by decide) hm) h (fun t n ht => ?_))
  unfold State.reinitFunction
  exact State.axisReinit_keeps (sub_trans (by decide) hm) ht

theorem execReinitLoopSlot_keeps {path : Path} {i : Nat} (hm : 7176722 ||| m = m) (h : Keeps m r s) :
    KeepsO m r (execReinitLoopSlot path i s) := by
  unfold execReinitLoopSlot
  refine KeepsO.next (State.reinitRow_keeps (by decide) (sub_trans (by decide) hm) h (fun t n ht => ?_))
  unfold State.reinitFunction
  exact State.slotReinit_keeps (sub_trans (by decide) hm) ht

theorem execReinitHvChannel_keeps {path : Path} {i : Nat} (hm : 7176726 ||| m = m) (h : Keeps m r s) :
    KeepsO m r (execReinitHvChannel path i s) := by
  unfold execReinitHvChannel
  refine KeepsO.next (State.reinitRow_keeps (by decide) (sub_trans (by decide) hm) h (fun t n ht => ?_))
  unfold State.reinitFunction
  exact State.hvTo_keeps (sub_trans (by decide) hm) ht

theorem execReinitKettleZone_keeps {path : Path} {i : Nat} (hm : 7176722 ||| m = m) (h : Keeps m r s) :
    KeepsO m r (execReinitKettleZone path i s) := by
  unfold execReinitKettleZone
  refine KeepsO.next (State.reinitRow_keeps (by decide) (sub_trans (by decide) hm) h (fun t n ht => ?_))
  unfold State.reinitFunction
  exact State.zoneTo_keeps (sub_trans (by decide) hm) ht

theorem execSdoUpload_keeps {i k : Nat} (hm : 2097154 ||| m = m) (h : Keeps m r s) :
    KeepsO m r (execSdoUpload i k s) := by
  unfold execSdoUpload State.fieldRequest
  refine KeepsO.next (State.request_keeps (sub_trans (by decide) hm) h (fun t ht => ?_))
  unfold State.serveWaiting
  exact Keeps.ite (State.answered_keeps (sub_trans (by decide) hm) ht) ht

theorem execGetOdList_keeps (hm : 2097154 ||| m = m) (h : Keeps m r s) :
    KeepsO m r (execGetOdList  s) := by
  unfold execGetOdList State.fieldRequest
  refine KeepsO.next (State.request_keeps (sub_trans (by decide) hm) h (fun t ht => ?_))
  unfold State.serveWaiting
  exact Keeps.ite (State.answered_keeps (sub_trans (by decide) hm) ht) ht

theorem execGetObjectDescription_keeps {i : Nat} (hm : 2097154 ||| m = m) (h : Keeps m r s) :
    KeepsO m r (execGetObjectDescription i s) := by
  unfold execGetObjectDescription State.fieldRequest
  refine KeepsO.next (State.request_keeps (sub_trans (by decide) hm) h (fun t ht => ?_))
  unfold State.serveWaiting
  exact Keeps.ite (State.answered_keeps (sub_trans (by decide) hm) ht) ht

theorem execGetEntryDescription_keeps {i k : Nat} (hm : 2097154 ||| m = m) (h : Keeps m r s) :
    KeepsO m r (execGetEntryDescription i k s) := by
  unfold execGetEntryDescription State.fieldRequest
  refine KeepsO.next (State.request_keeps (sub_trans (by decide) hm) h (fun t ht => ?_))
  unfold State.serveWaiting
  exact Keeps.ite (State.answered_keeps (sub_trans (by decide) hm) ht) ht

theorem execStoreParameters_keeps {path : Path} {k v : Nat} (hm : 7143954 ||| m = m) (h : Keeps m r s) :
    KeepsO m r (execStoreParameters path k v s) := by
  unfold execStoreParameters State.writeRow
  refine KeepsO.next (State.request_keeps (sub_trans (by decide) hm) h (fun t ht => ?_))
  unfold State.serveWrite State.writeObject
  cases t.writeAbort path false 0x1010 k (leBytes 4 v) with
  | some x => cases rowOf 0x1010 k <;> exact State.answered_keeps (sub_trans (by decide) hm) (State.noteWrite_keeps (sub_trans (by decide) hm) ht)
  | none =>
    cases hr : rowOf 0x1010 k with
    | none => exact State.answered_keeps (sub_trans (by decide) hm) (State.noteWrite_keeps (sub_trans (by decide) hm) ht)
    | some x =>
      dsimp only
      split
      · exact State.answered_keeps (sub_trans (by decide) hm) (State.noteWrite_keeps (sub_trans (by decide) hm) (State.event_keeps (sub_trans (by decide) hm) ht))
      · refine State.answered_keeps (sub_trans (by decide) hm) (State.noteWrite_keeps (sub_trans (by decide) hm) ?_)
        have hk : x.acc ≠ .cmd := by
          have h1 := List.mem_of_find?_eq_some hr
          have h2 := List.find?_some hr
          have h3 : (objectsNear 0x1010).all (fun y => decide (y.acc ≠ .cmd) || !(decide (y.index ≤ 0x1010) &&
            (decide ((0x1010 - y.index) % y.stride = 0) && decide ((0x1010 - y.index) / y.stride < y.count)))) = true := by decide
          have h4 := List.all_eq_true.mp h3 x h1
          simp only [Row.covers, Bool.and_eq_true, decide_eq_true_eq] at h2
          simp only [Bool.or_eq_true, decide_eq_true_eq, Bool.not_eq_true', Bool.and_eq_false_iff, decide_eq_false_iff_not] at h4
          rcases h4 with h4 | h4
          · exact h4
          · omega
        unfold State.carryOut
        simp only [hk, if_false, if_true, Nat.reduceEqDiff]
        exact State.storePart_keeps (sub_trans (by decide) hm) (State.dictionaryEntry_keeps (sub_trans (by decide) hm) ht)

theorem execRestoreDefaultParameters_keeps {path : Path} {k v : Nat} (hm : 7143954 ||| m = m) (h : Keeps m r s) :
    KeepsO m r (execRestoreDefaultParameters path k v s) := by
  unfold execRestoreDefaultParameters State.writeRow
  refine KeepsO.next (State.request_keeps (sub_trans (by decide) hm) h (fun t ht => ?_))
  unfold State.serveWrite State.writeObject
  cases t.writeAbort path false 0x1011 k (leBytes 4 v) with
  | some x => cases rowOf 0x1011 k <;> exact State.answered_keeps (sub_trans (by decide) hm) (State.noteWrite_keeps (sub_trans (by decide) hm) ht)
  | none =>
    cases hr : rowOf 0x1011 k with
    | none => exact State.answered_keeps (sub_trans (by decide) hm) (State.noteWrite_keeps (sub_trans (by decide) hm) ht)
    | some x =>
      dsimp only
      split
      · exact State.answered_keeps (sub_trans (by decide) hm) (State.noteWrite_keeps (sub_trans (by decide) hm) (State.event_keeps (sub_trans (by decide) hm) ht))
      · refine State.answered_keeps (sub_trans (by decide) hm) (State.noteWrite_keeps (sub_trans (by decide) hm) ?_)
        have hk : x.acc ≠ .cmd := by
          have h1 := List.mem_of_find?_eq_some hr
          have h2 := List.find?_some hr
          have h3 : (objectsNear 0x1011).all (fun y => decide (y.acc ≠ .cmd) || !(decide (y.index ≤ 0x1011) &&
            (decide ((0x1011 - y.index) % y.stride = 0) && decide ((0x1011 - y.index) / y.stride < y.count)))) = true := by decide
          have h4 := List.all_eq_true.mp h3 x h1
          simp only [Row.covers, Bool.and_eq_true, decide_eq_true_eq] at h2
          simp only [Bool.or_eq_true, decide_eq_true_eq, Bool.not_eq_true', Bool.and_eq_false_iff, decide_eq_false_iff_not] at h4
          rcases h4 with h4 | h4
          · exact h4
          · omega
        unfold State.carryOut
        simp only [hk, if_false, if_true, Nat.reduceEqDiff]
        exact State.restorePart_keeps (sub_trans (by decide) hm) (State.dictionaryEntry_keeps (sub_trans (by decide) hm) ht)

end Sys2Proof.Machine
end

