-- ==== Sys2Proof/Machine/Bar0.lean ====
section
/-! DEFINITION. What the host reads through BAR0 (R246 to R250, R253). No row of the operation table is a read of BAR0: these are
functions of the state that say what such a read is answered with while the link is up. -/

namespace Sys2Proof.Machine

/-! ## Identity -/

/-- The identity in configuration space (R3, R246), the same on both variants. -/
def pciVendor : Nat := 0x1F3B
def pciDevice : Nat := 0x8640
def pciSubsystemVendor : Nat := 0x1F3B
def pciSubsystem : Nat := 0x8640
def pciClass : Nat := 0x0B4000

/-! ## Registers -/

/-- A mask over the 64 rings. -/
def ringMask (p : Nat → Bool) : Nat := maskOf ((upFrom 0 64).filter p)

/-- The entries a ring holds that its consumer has not yet taken (R249, R252). -/
def State.ringHolds (s : State) (r : Nat) : Bool := (s.ring r).head != (s.ring r).tail

/-- The identity and status registers (R249), by offset / 8. -/
def State.bar0Status (s : State) (k : Nat) : Nat :=
  match k with
  | 0 => (if s.s6 then 3 else 2) * 2 ^ 24 + (if s.s6 then 6 else 4) * 2 ^ 16 + pciDevice
  | 1 => revisionNumber
  | 2 => s.stamp
  | 3 => b2n s.seqB + 2 * b2n s.twin.switching + 4 * b2n s.twin.dictionaryUp + 8 * s.n (ladk 0x11)
  | 4 => ringMask (fun r => (s.ring r).state == 3)
  | _ => 0

/-- The event summary (R249), by offset / 8. -/
def State.bar0Summary (s : State) (k : Nat) : Nat :=
  match k with
  | 0 => ringMask s.ringHolds
  | 1 => b2n (s.flag (K 0x3500 1)) * 2 ^ 24 + s.pagesHeld % 256 * 2 ^ 16 + s.pagesInFlight % 256 * 2 ^ 8 + s.pagesQueued % 256
  | 2 => leAt 0 8 (s.bytes (K 0x2201 1))
  | 3 => leAt 8 8 (s.bytes (K 0x2201 1))
  | 4 => leAt 16 4 (s.bytes (K 0x2201 1))
  | _ => 0

/-- The doorbell page of a ring (R253), by offset / 8; HOST_POINTER is write-only and reads 0. -/
def State.bar0Doorbell (s : State) (r k : Nat) : Nat :=
  match k with
  | 1 => if moduleToHost r then (s.ring r).tail else (s.ring r).head
  | 2 => (s.ring r).state
  | _ => 0

/-- An entry of the MSI-X table (R248), by offset / 8: the message address; its data, and the mask bit in the control word. -/
def State.bar0Vector (s : State) (v k : Nat) : Nat :=
  let e := Tab.get (fun _ => (0, 0)) s.pcie.table v
  if k = 0 then e.1 else e.2 + b2n (s.ring v).masked * 2 ^ 32

/-- The 64-bit register of BAR0 at an offset that is a multiple of 8 (R248); reserved space reads 0. -/
def State.bar0 (s : State) (offset : Nat) : Nat :=
  let o := offset / 8 * 8
  if o < 0x10000 then s.bar0Status (o / 8)
  else if o < 0x11000 then ((s.ring ((o - 0x10000) / 64)).descriptor ((o - 0x10000) / 64)).getD (o % 64 / 8) 0
  else if o < 0x20000 then 0
  else if o < 0x24000 then s.bar0Doorbell ((o - 0x20000) / 256) (o % 256 / 8)
  else if o < 0x30000 then 0
  else if o < 0x30400 then s.bar0Vector ((o - 0x30000) / 16) (o % 16 / 8)
  else if o = 0x31000 then ringMask (fun r => (s.ring r).msixPending)
  else if o < 0x100000 then 0
  else if o < 0x110000 then s.bar0Summary ((o - 0x100000) / 8)
  else 0

/-- What an aligned read of 4 or 8 bytes is answered with (R248); nothing answers while the link is down. -/
def State.bar0Read (s : State) (offset size : Nat) : Option Nat :=
  if s.linkUp = false then none
  else if size = 8 then some (s.bar0 offset)
  else if offset % 8 = 4 then some (s.bar0 offset / 2 ^ 32)
  else some (s.bar0 offset % 2 ^ 32)

end Sys2Proof.Machine
end

