-- ==== Sys2Proof/Tests/Slice0.lean ====
section
/-! SUPPORT. Tests: every row's command within its ranges and an ill-formed one for each check; the worked examples of the
manual; and, for every statement with hypotheses, a state and operands that meet all of them, one for each clause. -/

set_option maxRecDepth 20000

namespace Sys2Proof.Machine

/-- A timer that is due. -/
def State.withDue (s : State) (t : Nat) : State := s.arm t s.stamp

end Sys2Proof.Machine

namespace Sys2Proof.Tests

open Sys2Proof.Machine

/-! ## Small states -/

/-- A state with these domains ON. -/
def up (pds : List Nat) : State := { power := { domains := pds.map (fun p => (p, { state := 2 })) } }

/-- After reset, with the state machine of EtherCAT in PREOP and these domains ON beside the base ones. -/
def ready (pds : List Nat) : State :=
  (State.reset.setn (K 0x2060 1) 2).each pds (fun t p => t.setDomain p { state := 2 })

/-- The link is up on PD07, and a ring has an entry waiting. -/
def linked : State := { (up [7]).setb (K 0x3830 1) true with pcie := { busMaster := true } }
def waiting (r : Nat) : State := linked.setRing r { state := 1, log2 := 4, tail := 1 }


/-- A slot that is due, alone and with the page of place 0. -/
def firing (k : Nat) (x : Slot) : State := { up [16] with pos := { slots := [(k, { x with state := 1 })] } }
def onPage (k : Nat) (x : Slot) : State :=
  (firing k { x with page := 1, tag := 7 }).setPage 0 { tag := 7, state := 3 }

/-- A page without images that waits at an open gate, with every condition of its admission met. -/
def atGate (state : Nat) : State :=
  ({ up [16] with pages := { table := [(0, { tag := 7, state := state, steps := List.replicate 16 0 })], order := [0] } }).setb (K 0x3500 1) true

/-- A SYNCED station whose facets are predicted. -/
def scanning (n : Nat) : State := ((up [9, 10, 11]).setn (sc n 6) 1).setStation n { measured := 2 }
def serving (code : Nat) : State := ({} : State).setLane code { state := 2 }

/-- Every domain ON. -/
def allOn : State := ready [4, 5, 9, 10, 11, 12, 13, 14, 15, 16]

/-- An archive stream is fed on lane 7. -/
def feeding : State :=
  { serving 0x87 with press := { lanes := [(0x87, { state := 2 })], streams := [(1, { on := true, lane := 7, parts := [[]] })] } }

/-- A block whose body is still to be read from the host. -/
def fetching : State × Inbound :=
  let x : Inbound := { page := 1, block := { id := 3, head := [0, 0, 0, 0], length := 64, ring := 16 } }
  ({ linked with press := { inbound := [x] } }, x)

/-- A drive channel, a stepper axis in this state; loop slot 63 in this state with a trigger standing. -/
def driving (c state : Nat) : State := (up [12, 13]).setn (dk c 0 0xC) state
def moving (n state : Nat) : State := (up [14]).setn (axk n 0 2) state
def triggered (state : Nat) : State := ((up [15]).setn (lk 63 2) state).setLoopSlot 63 { mark := 7 }

/-- Unit 1 is ACTIVE and unit 2 STANDBY; a heartbeat word of unit 1. -/
def twins : State := (((up [1, 2, 3, 6, 7]).setn (K 0x2300 1) 1).setn (K 0x2300 2) 2).setn (K 0x2300 3) 3
def beatWord (kind beat : Nat) : Nat :=
  let x := beat * 2 ^ 24 + 2 ^ 16 + kind * 256
  x * 256 + crc8 7 x 0

/-! ## Well-formed commands -/

/-- One command of every row, with operands inside their ranges. -/
theorem test_well_formed_1 : ([
    .coldPowerUp ⟨true, true, true, [], []⟩, .trivetRailLost, .dictionaryWrite .ethercat 0 0 [] [], .sdoDownload 0 0 [] [],
    .sdoUpload 0 0, .sdoCompleteAccess true 0 0 [], .getOdList, .getObjectDescription 0, .getEntryDescription 0 0,
    .mailboxRead none true, .mailboxWrite none none [], .mailboxReadComplete none true, .mailboxWriteComplete none none,
    .esmStateRequest 1 [] true, .pdoCycle none, .sm2WatchdogExpired, .portLinkChange ⟨0, 0⟩, .storeParameters .ethercat 1 0,
    .restoreDefaultParameters .ethercat 1 0, .encoderEdge 1 .illegal .small, .encoderStandstillTimeout 1,
    .encoderSignalInvalid 1, .encoderEnableWrite .ethercat 1 [], .axisPreset .ethercat 1 [], .capture 0 true 0,
    .captureConfigWrite .ethercat 0 [], .mainsZeroCrossing true, .mainsCrossingMissing, .mainsHoldoverExpired, .setOutput 0,
    .clearOutput 0, .divert 0] : List Instr).all Instr.wf = true := by decide

theorem test_well_formed_2 : ([
    .startImage 0, .stopImage 0, .releaseBands 0, .hvOn 0, .hvRamp 0, .hvOff 0, .stepMove 0, .driveProfile 0, .raiseEvent 0,
    .checkInput 0 true, .deliveryCheck 0, .pageState 0, .outputOvercurrent 0, .overcurrentClear .ethercat [],
    .stampSyncEdge true 0, .dcSyncCycle 0, .alignmentSyncLost, .alignmentSourceWrite .ethercat [], .hostMarker .ethercat [],
    .traceEntry, .drainHoldoffExpired 52, .sosWindowOpen 1, .facetSos 1 [], .eosMeasured 1 [],
    .lockEnableWrite .ethercat 1 [], .seekTimeout 1, .relearn .ethercat 1 [], .facetSignatureWrite .ethercat 1 [],
    .engageRequestWrite .ethercat 1 [], .stationEngageChange 1, .laserEnableWrite .ethercat 1 [], .apcSequence 1 []] : List Instr).all Instr.wf = true := by decide

theorem test_well_formed_3 : ([
    .readCurrent 1 0 [], .driverStatusPoll 1 0 [], .beamRestore .ethercat 1 [], .retiredBeamsWrite .ethercat 1 [],
    .vcselThermistorSample 1 0, .laserOffEndOfLine 1, .pagePlanSubmit none, .release none, .cancel none, .reprint none,
    .markSpoiled none, .recipeWrite .ethercat 0 [], .admissionTest 0, .commit, .gateSkip, .deliveryEdge 0 true,
    .deliveryWindowExpired 0, .pageDeadlineExpired 0, .webBreak, .splice, .spliceCleared, .checkLaneComplete 1 none,
    .decodeBlockComplete 1 true 0, .laneFault 0 2, .laneSelfTestDone 0 0, .takeOutOfService .ethercat [],
    .encodeBuffer 1 none ⟨[], false, true⟩ true, .encodeBand 1 none ⟨[], false, true⟩ true,
    .encodeJobComplete 1 true true 0, .streamInput 1, .streamFlush 1, .streamClose 1] : List Instr).all Instr.wf = true := by decide

theorem test_well_formed_4 : ([
    .fabricTransactionComplete 0 0 0 true [] ⟨0, 0⟩, .scrubRead 0 0, .scrubPeriodExpired, .lockAcquire .ethercat [],
    .lockRelease .ethercat [], .fenceOnly 1 none ⟨[], false, true⟩, .copyList 1 none ⟨[], false, true⟩,
    .copyIndex 1 none ⟨[], false, true⟩, .ladleJobComplete 1, .ladlePaceRequest 1, .ladleLockWaitExpired 1,
    .ladleBusError 2 0, .channelInputWrite .ethercat 1 [], .linkTrained 1 ⟨1, 0, true⟩, .linkLoss 1,
    .ringDescriptorWrite 0 0 ⟨0, 0⟩, .ringEnable 0 ⟨0, 0⟩, .ringDrained 0, .doorbellWrite 0 0, .msixHoldoffExpired 0,
    .vectorUnmask ⟨0, 0, 0, 0⟩, .ingestBlock 16 none ⟨[], false, true⟩, .ingestDataRead 16 ⟨[], false, true⟩ true,
    .drainBoundExpired 0, .driveEnableWrite .ethercat 0 [], .alignTimeElapsed 0, .rampStep 0, .zeroCrossing 0 true ⟨0, 0⟩,
    .rampHandoverTimeout 0, .observerLoss 0, .catchPulse 3 0 ⟨0, 0⟩, .catchTimeout 0] : List Instr).all Instr.wf = true := by decide

theorem test_well_formed_5 : ([
    .retryIntervalElapsed 0, .currentLimitExceeded 0, .tripCurrent 0, .sdInputInvalid 3 1, .startProfile .ethercat 0 [],
    .commandPinLost 1, .commandPinReturn 1, .brakeTimeElapsed 0, .busSample 0, .chopperCheck 0, .chopperTest .ethercat [],
    .busOvervoltageTrip, .busReconnect .ethercat [], .axisEnableWrite .ethercat 1 [], .startMove .ethercat 1 [],
    .targetPositionWrite .ethercat 1 [], .stop .ethercat 1 [], .positionPreset .ethercat 1 [], .startHoming .ethercat 1 [],
    .standstillReleaseElapsed 1, .reEnergiseDone 1, .moveComplete 1, .loadAngleEstimate 1 0 0,
    .limitInputActive 1 true true, .homeInputEdge 1 true, .homeDebounceElapsed 1, .bridgeOvercurrent 1,
    .bridgeThermalShutdown 1, .loopTrigger 0 0 0, .loopEvaluation 0, .slotEnableWrite .ethercat 0 [],
    .modeWrite .ethercat 0 []] : List Instr).all Instr.wf = true := by decide

theorem test_well_formed_6 : ([
    .loopTargetWrite .ethercat 0 [], .hvEnableWrite .ethercat 1 [], .hostSwitch .ethercat 1 [], .hvOpenLoad 1,
    .hvRampComplete 1, .zoneEnableWrite .ethercat 1 [], .kettleGateEdge 1, .kettlePhaseFire 1, .bulkSample 0,
    .supplyRecoveryElapsed ⟨true, true, true, [], []⟩, .logicRailFault 0 true true, .motorBusSample 0 0,
    .domainRequestWrite .ethercat [], .domainReady 1 [], .domainRampTimeout 1, .domainStopped 1, .temperatureSample 1 0,
    .channelEnableWrite .ethercat 1 [], .faultMessage [], .wiredFaultCause 0 0 0, .quietPeriodExpired,
    .consequenceLimitExpired, .faultClear .ethercat [], .stickyClear .ethercat [], .reactionMapWrite .ethercat [],
    .interlockTestPulse 0 true, .interlockSenseChange 0 true, .discrepancyTimeout, .inject .ethercat [], .heartbeatWireBeat,
    .heartbeatWord 0, .heartbeatPeriodEnd] : List Instr).all Instr.wf = true := by decide

theorem test_well_formed_7 : ([
    .sequencerHwFailure 1 2 0, .ownershipTaken, .gapWatchdogExpired, .checkpointDelta, .healthReport 0 4 true,
    .standbyReload .ethercat [], .unitLoadComplete 1 true [], .plannedSwitchOver .ethercat [], .plannedWaitExpired,
    .crockMount true, .crockRead 44 none ⟨[], false, true⟩, .crockWrite 44 none ⟨[], false, true⟩,
    .trim 44 none ⟨[], false, true⟩, .spoolPage 44 none ⟨[], false, true⟩, .spoolLoad 44 none ⟨[], false, true⟩,
    .spoolDelete 44 none ⟨[], false, true⟩, .spoolList 44 none ⟨[], false, true⟩, .slotCommit 44 none ⟨[], false, true⟩,
    .slotErase 44 none ⟨[], false, true⟩, .crockCommandComplete 44 0 0 none, .nandProgramFail 0 ⟨0, 0⟩,
    .crockScrubPass 2 0 ⟨0, 0⟩ none, .healthRun none, .attest none true, .attestObject .ethercat [],
    .certificates none true, .moduleReset none, .powerCycle none, .moduleResetObject .ethercat [],
    .powerCycleRequest .ethercat [], .moduleResetAct ⟨true, true, true, [], []⟩, .resetNLow 0] : List Instr).all Instr.wf = true := by decide

theorem test_well_formed_8 : ([
    .resetNRelease ⟨true, true, true, [], []⟩, .bootWatchdogExpired ⟨true, true, true, [], []⟩,
    .powerCyclePulseExpired ⟨true, true, true, [], []⟩, .expectedMeasurementsWrite .ethercat 1 [],
    .mismatchAcknowledge .ethercat [], .reinitSequencerUnit .ethercat 0, .reinitPressLane .ethercat 0,
    .reinitStation .ethercat 0 [], .reinitPolygonTiming .ethercat 0, .reinitEncoder .ethercat 0,
    .reinitPositionBase .ethercat, .reinitLadle .ethercat, .reinitCrock .ethercat, .reinitDriveChannel .ethercat 0,
    .reinitStepperAxis .ethercat 0, .reinitLoopSlot .ethercat 0, .reinitHvChannel .ethercat 0,
    .reinitKettleZone .ethercat 0, .spliceDeactivation, .pwmPeriod 0 0 0, .seekingBlankingElapsed 1, .eosWindowOpen 1,
    .attestationSigned, .automaticSpoolDone] : List Instr).all Instr.wf = true := by decide

/-! An ill-formed command for each check of each row: the check refuses it. -/

theorem test_ill_formed_1 : ([
    .coldPowerUp ⟨true, true, true, [256], []⟩, .dictionaryWrite .ethercat (2 ^ 16) 0 [] [],
    .dictionaryWrite .ethercat 0 256 [] [], .dictionaryWrite .ethercat 0 0 [] [some (2 ^ 32)],
    .sdoDownload (2 ^ 16) 0 [] [], .sdoDownload 0 256 [] [], .sdoDownload 0 0 [] [some (2 ^ 32)], .sdoUpload (2 ^ 16) 0,
    .sdoUpload 0 256, .sdoCompleteAccess true (2 ^ 16) 0 [], .sdoCompleteAccess true 0 256 [],
    .getObjectDescription (2 ^ 16), .getEntryDescription (2 ^ 16) 0, .getEntryDescription 0 256,
    .mailboxRead (some [2 ^ 64]) true, .mailboxWrite (some [2 ^ 64]) none [], .mailboxWrite none none [some (2 ^ 32)],
    .mailboxReadComplete (some [2 ^ 64]) true, .mailboxWriteComplete (some [2 ^ 64]) none, .esmStateRequest 99 [] true,
    .portLinkChange ⟨4, 0⟩, .portLinkChange ⟨0, (2 ^ 32)⟩, .storeParameters .ethercat 4 0,
    .storeParameters .ethercat 1 (2 ^ 32), .restoreDefaultParameters .ethercat 4 0,
    .restoreDefaultParameters .ethercat 1 (2 ^ 32), .encoderEdge 9 .illegal .small, .encoderStandstillTimeout 9,
    .encoderSignalInvalid 9, .encoderEnableWrite .ethercat 9 []] : List Instr).any Instr.wf = false := by decide

theorem test_ill_formed_2 : ([
    .axisPreset .ethercat 9 [], .capture 16 true 0, .capture 0 true 4, .captureConfigWrite .ethercat 16 [], .setOutput 256,
    .clearOutput 256, .divert 256, .startImage 256, .stopImage 256, .releaseBands 256, .hvOn 256, .hvRamp 256, .hvOff 256,
    .stepMove 256, .driveProfile 256, .raiseEvent 256, .checkInput 256 true, .deliveryCheck 256, .pageState 256,
    .outputOvercurrent (2 ^ 32), .stampSyncEdge true 4, .dcSyncCycle (2 ^ 64), .drainHoldoffExpired 56, .sosWindowOpen 7,
    .facetSos 7 [], .facetSos 1 [⟨32, 0, 0⟩], .eosMeasured 7 [], .eosMeasured 1 [⟨32, 0, 0⟩],
    .lockEnableWrite .ethercat 4 [], .seekTimeout 4] : List Instr).any Instr.wf = false := by decide

theorem test_ill_formed_3 : ([
    .relearn .ethercat 4 [], .facetSignatureWrite .ethercat 4 [], .engageRequestWrite .ethercat 7 [],
    .stationEngageChange 7, .laserEnableWrite .ethercat 7 [], .apcSequence 7 [], .apcSequence 1 [some (2 ^ 32)],
    .readCurrent 7 0 [], .readCurrent 1 32 [], .readCurrent 1 0 [some (2 ^ 32)], .driverStatusPoll 7 0 [],
    .driverStatusPoll 1 4 [], .driverStatusPoll 1 0 [some (2 ^ 32)], .beamRestore .ethercat 7 [],
    .retiredBeamsWrite .ethercat 7 [], .vcselThermistorSample 7 0, .laserOffEndOfLine 7, .pagePlanSubmit (some [2 ^ 64]),
    .release (some [2 ^ 64]), .cancel (some [2 ^ 64]), .reprint (some [2 ^ 64]), .markSpoiled (some [2 ^ 64]),
    .recipeWrite .ethercat 32 [], .admissionTest (2 ^ 48), .deliveryEdge 64 true, .deliveryWindowExpired (2 ^ 32),
    .pageDeadlineExpired (2 ^ 32), .checkLaneComplete 9 none, .decodeBlockComplete 25 true 0, .laneFault 256 2] : List Instr).any Instr.wf = false := by decide

theorem test_ill_formed_4 : ([
    .laneFault 0 5, .laneSelfTestDone 256 0, .laneSelfTestDone 0 256, .encodeBuffer 9 none ⟨[], false, true⟩ true,
    .encodeBuffer 1 (some [2 ^ 64]) ⟨[], false, true⟩ true, .encodeBuffer 1 none ⟨[(2 ^ 64, [0])], false, true⟩ true,
    .encodeBand 9 none ⟨[], false, true⟩ true, .encodeBand 1 (some [2 ^ 64]) ⟨[], false, true⟩ true,
    .encodeBand 1 none ⟨[(2 ^ 64, [0])], false, true⟩ true, .encodeJobComplete 9 true true 0, .streamInput 3,
    .streamFlush 3, .streamClose 3, .fabricTransactionComplete 256 0 0 true [] ⟨0, 0⟩,
    .fabricTransactionComplete 0 (2 ^ 64) 0 true [] ⟨0, 0⟩, .fabricTransactionComplete 0 0 0 true [] ⟨3, 0⟩,
    .scrubRead (2 ^ 35) 0, .scrubRead 0 3, .fenceOnly 17 none ⟨[], false, true⟩,
    .fenceOnly 1 (some [2 ^ 64]) ⟨[], false, true⟩, .fenceOnly 1 none ⟨[(2 ^ 64, [0])], false, true⟩,
    .copyList 17 none ⟨[], false, true⟩, .copyList 1 (some [2 ^ 64]) ⟨[], false, true⟩,
    .copyList 1 none ⟨[(2 ^ 64, [0])], false, true⟩, .copyIndex 17 none ⟨[], false, true⟩,
    .copyIndex 1 (some [2 ^ 64]) ⟨[], false, true⟩, .copyIndex 1 none ⟨[(2 ^ 64, [0])], false, true⟩, .ladleJobComplete 17,
    .ladlePaceRequest 17, .ladleLockWaitExpired 17] : List Instr).any Instr.wf = false := by decide

theorem test_ill_formed_5 : ([
    .ladleBusError 99 0, .ladleBusError 2 (2 ^ 64), .channelInputWrite .ethercat 17 [], .linkTrained 6 ⟨1, 0, true⟩,
    .linkTrained 1 ⟨99, 0, true⟩, .linkTrained 1 ⟨1, (2 ^ 32), true⟩, .linkLoss 5, .ringDescriptorWrite 64 0 ⟨0, 0⟩,
    .ringDescriptorWrite 0 3 ⟨0, 0⟩, .ringDescriptorWrite 0 0 ⟨3, 0⟩, .ringDescriptorWrite 0 0 ⟨0, (2 ^ 64)⟩,
    .ringEnable 64 ⟨0, 0⟩, .ringEnable 0 ⟨3, 0⟩, .ringEnable 0 ⟨0, (2 ^ 64)⟩, .ringDrained 64, .doorbellWrite 64 0,
    .doorbellWrite 0 (2 ^ 64), .msixHoldoffExpired 64, .vectorUnmask ⟨64, 0, 0, 0⟩, .ingestBlock 28 none ⟨[], false, true⟩,
    .ingestBlock 16 (some [2 ^ 64]) ⟨[], false, true⟩, .ingestBlock 16 none ⟨[(2 ^ 64, [0])], false, true⟩,
    .ingestDataRead 28 ⟨[], false, true⟩ true, .ingestDataRead 16 ⟨[(2 ^ 64, [0])], false, true⟩ true,
    .drainBoundExpired 64, .driveEnableWrite .ethercat 11 [], .alignTimeElapsed 11, .rampStep 11,
    .zeroCrossing 11 true ⟨0, 0⟩, .rampHandoverTimeout 11] : List Instr).any Instr.wf = false := by decide

theorem test_ill_formed_6 : ([
    .observerLoss 11, .catchPulse 11 0 ⟨0, 0⟩, .catchTimeout 11, .retryIntervalElapsed 11, .currentLimitExceeded 11,
    .tripCurrent 11, .sdInputInvalid 11 1, .sdInputInvalid 3 3, .startProfile .ethercat 11 [], .commandPinLost 5,
    .commandPinReturn 5, .brakeTimeElapsed 11, .axisEnableWrite .ethercat 13 [], .startMove .ethercat 13 [],
    .targetPositionWrite .ethercat 13 [], .stop .ethercat 13 [], .positionPreset .ethercat 13 [],
    .startHoming .ethercat 13 [], .standstillReleaseElapsed 13, .reEnergiseDone 13, .moveComplete 13,
    .loadAngleEstimate 13 0 0, .loadAngleEstimate 1 0 1001, .limitInputActive 13 true true, .homeInputEdge 13 true,
    .homeDebounceElapsed 13, .bridgeOvercurrent 13, .bridgeThermalShutdown 4, .loopTrigger 64 0 0, .loopEvaluation 64] : List Instr).any Instr.wf = false := by decide

theorem test_ill_formed_7 : ([
    .slotEnableWrite .ethercat 64 [], .modeWrite .ethercat 64 [], .loopTargetWrite .ethercat 64 [],
    .hvEnableWrite .ethercat 21 [], .hostSwitch .ethercat 21 [], .hvOpenLoad 21, .hvRampComplete 21,
    .zoneEnableWrite .ethercat 4 [], .kettleGateEdge 4, .kettlePhaseFire 4,
    .supplyRecoveryElapsed ⟨true, true, true, [256], []⟩, .logicRailFault 256 true true, .domainReady 17 [],
    .domainReady 1 [(7, [])], .domainRampTimeout 17, .domainStopped 17, .temperatureSample 37 0,
    .channelEnableWrite .ethercat 37 [], .faultMessage [⟨160, 0, 0⟩], .wiredFaultCause 256 0 0, .wiredFaultCause 0 16 0,
    .wiredFaultCause 0 0 (2 ^ 32), .interlockTestPulse 2 true, .interlockSenseChange 2 true, .heartbeatWord (2 ^ 64),
    .sequencerHwFailure 3 2 0, .sequencerHwFailure 1 99 0, .sequencerHwFailure 1 2 (2 ^ 32), .healthReport 16 4 true,
    .healthReport 0 99 true] : List Instr).any Instr.wf = false := by decide

theorem test_ill_formed_8 : ([
    .unitLoadComplete 3 true [], .crockRead 48 none ⟨[], false, true⟩, .crockRead 44 (some [2 ^ 64]) ⟨[], false, true⟩,
    .crockRead 44 none ⟨[(2 ^ 64, [0])], false, true⟩, .crockWrite 48 none ⟨[], false, true⟩,
    .crockWrite 44 (some [2 ^ 64]) ⟨[], false, true⟩, .crockWrite 44 none ⟨[(2 ^ 64, [0])], false, true⟩,
    .trim 48 none ⟨[], false, true⟩, .trim 44 (some [2 ^ 64]) ⟨[], false, true⟩,
    .trim 44 none ⟨[(2 ^ 64, [0])], false, true⟩, .spoolPage 48 none ⟨[], false, true⟩,
    .spoolPage 44 (some [2 ^ 64]) ⟨[], false, true⟩, .spoolPage 44 none ⟨[(2 ^ 64, [0])], false, true⟩,
    .spoolLoad 48 none ⟨[], false, true⟩, .spoolLoad 44 (some [2 ^ 64]) ⟨[], false, true⟩,
    .spoolLoad 44 none ⟨[(2 ^ 64, [0])], false, true⟩, .spoolDelete 48 none ⟨[], false, true⟩,
    .spoolDelete 44 (some [2 ^ 64]) ⟨[], false, true⟩, .spoolDelete 44 none ⟨[(2 ^ 64, [0])], false, true⟩,
    .spoolList 48 none ⟨[], false, true⟩, .spoolList 44 (some [2 ^ 64]) ⟨[], false, true⟩,
    .spoolList 44 none ⟨[(2 ^ 64, [0])], false, true⟩, .slotCommit 48 none ⟨[], false, true⟩,
    .slotCommit 44 (some [2 ^ 64]) ⟨[], false, true⟩, .slotCommit 44 none ⟨[(2 ^ 64, [0])], false, true⟩,
    .slotErase 48 none ⟨[], false, true⟩, .slotErase 44 (some [2 ^ 64]) ⟨[], false, true⟩,
    .slotErase 44 none ⟨[(2 ^ 64, [0])], false, true⟩, .crockCommandComplete 48 0 0 none, .nandProgramFail 8 ⟨0, 0⟩] : List Instr).any Instr.wf = false := by decide

theorem test_ill_formed_9 : ([
    .nandProgramFail 0 ⟨(2 ^ 24), 0⟩, .crockScrubPass 5 0 ⟨0, 0⟩ none, .crockScrubPass 2 8 ⟨0, 0⟩ none,
    .crockScrubPass 2 0 ⟨(2 ^ 24), 0⟩ none, .attest (some [2 ^ 64]) true, .certificates (some [2 ^ 64]) true,
    .moduleReset (some [2 ^ 64]), .powerCycle (some [2 ^ 64]), .moduleResetAct ⟨true, true, true, [256], []⟩,
    .resetNRelease ⟨true, true, true, [256], []⟩, .bootWatchdogExpired ⟨true, true, true, [256], []⟩,
    .powerCyclePulseExpired ⟨true, true, true, [256], []⟩, .expectedMeasurementsWrite .ethercat 3 [],
    .reinitSequencerUnit .ethercat 256, .reinitPressLane .ethercat 256, .reinitStation .ethercat 256 [],
    .reinitStation .ethercat 0 [some (2 ^ 32)], .reinitPolygonTiming .ethercat 256, .reinitEncoder .ethercat 256,
    .reinitDriveChannel .ethercat 256, .reinitStepperAxis .ethercat 256, .reinitLoopSlot .ethercat 256,
    .reinitHvChannel .ethercat 256, .reinitKettleZone .ethercat 256, .pwmPeriod 11 0 0, .seekingBlankingElapsed 7,
    .eosWindowOpen 7, .domainReady 1 [(1, [some (2 ^ 32)])], .faultMessage [⟨0, 2 ^ 64, 0⟩],
    .mailboxRead (some [0, 0, 0, 0, 0, 0, 0, 2 ^ 64]) true] : List Instr).any Instr.wf = false := by decide

theorem test_ill_formed_10 : ([
    .coldPowerUp ⟨true, true, true, [], [3]⟩] : List Instr).any Instr.wf = false := by decide

/-! ## Worked examples of the manual -/

/-- The state a command leaves. -/
def after (c : Instr) (s : State) : State :=
  match exec c s with
  | .next t => t
  | _ => s

/-- The frames of 05_beam_health_and_drivers, R130: WRITE_CURRENT and APC_STEP of beam 5 with 0x74E and SEQ 3. -/
theorem test_frame_crc : mosi 3 5 0x74E 3 = 0x32BA73A4 ∧ mosi 5 5 0x74E 3 = 0x52BA7361 := by decide

/-- The check value of CRC-32 (IEEE 802.3) over the digits 1 to 9. -/
theorem test_crc32 : crc32 [0x31, 0x32, 0x33, 0x34, 0x35, 0x36, 0x37, 0x38, 0x39] = 0xCBF43926 := by decide

/-- The letter a in one fixed DEFLATE block (RFC 1951): 32 + 4 + 1 + 1 cycles under R182. -/
theorem test_decode_cost :
    (match inflate [0x4B, 0x04, 0x00] with
    | .done d _ => (d.rev, d.cost)
    | _ => ([], 0)) = ([0x61], 38) := by decide

/-- R183: the ceiling of a full-width band. -/
theorem test_cost_ceiling : costCeiling 499200 = 501976 := by decide

/-- The sheet at the registration sensor (02_position_and_time): the capture on IN7 resolves slot 17. -/
def sheet : State :=
  let s := { (up [16]).setn (K 0x3030 4) 0xA0101406 with stamp := 3601250020000 }
  let x : Slot := { state := 2, base := 3, channel := 3, action := 1, target := 5, aim := 307200 }
  let p := { s.pos with slots := [(17, x)], axes := [(2, 0x12A05F200 + 77)], past := [(3601250010000, 2, 0x12A05F200)] }
  { s with pos := p }
theorem test_sheet_capture :
    (after (.capture 3 true 0) sheet).n (K 0x3030 0x14) = 0x12A05F200 ∧
    (after (.capture 3 true 0) sheet).n (K 0x3030 0x24) = 3601250000000 := by decide
theorem test_sheet_slot :
    ((after (.capture 3 true 0) sheet).slot 17).state = 1 ∧
    ((after (.capture 3 true 0) sheet).slot 17).aim = 0x12A0AA200 := by decide

/-- Correcting facets 3 and 4 (03_scan_timing): the clocks of D = 31,800 px, and one step of learning by 0.001 µs. -/
def scanLength : State := ({} : State).setn (sc 1 1) 0x7C380000
theorem test_mean_clock : scanLength.clockHz 1 (193902000 * 256) = 164000371 := by decide
theorem test_facet_clocks :
    scanLength.clockHz 1 (193881000 * 256) = 164018135 ∧ scanLength.clockHz 1 (193925000 * 256) = 163980920 := by decide
theorem test_learning : learnInterval (193925000 * 256) (193941000 * 256) 4 false = 193926000 * 256 := by decide

/-- A page starting at 1.20 m/s (04_beam_video): the image on station 1 with frontier w, a − O = d, and the next facet Δ on. -/
def writing (d : Nat) (w : Int) (extent : Nat) : State :=
  let s := ((up [9, 16]).setn (K 0x3001 7) 2).setStation 1
    { image := { page := 1, going := true, extent := extent, frontier := w } }
  { s.setPage 0 { tag := 7, state := 4, lines := 28063 } with pos := { axes := [(1, d * 65536)] } }
def assigned (d : Nat) (w : Int) (extent : Nat) (delta : Int) : Int × Nat × Nat × Int :=
  let m := (((writing d w extent).assignLines 1 delta).station 1).image
  (m.y0, m.first, m.count, m.frontier)
theorem test_facet_0 : assigned 2903 (-9) 9 7679 = (-7337, 20, 10, 1) := by decide
theorem test_facet_1 : assigned 10582 1 9 7679 = (342, 0, 30, 31) := by decide
/-- The same station at 1.27 m/s: 32 lines from frontier 33, and 31 lines from frontier 97. -/
theorem test_fast_facets :
    assigned (8469 + 10240) 33 9 8127 = (8469, 0, 32, 65) ∧ assigned (24723 + 10240) 97 9 8127 = (24723, 0, 31, 128) := by decide

/-- The APC step of 05_beam_health_and_drivers: set-point 2,400, code 1,848, gain 1,024 and a sample of 2,312 give 1,870. -/
def beamFive : State :=
  (((({} : State).setn (sk 1 5 1) 1024).setn (sk 1 5 2) 4095).setBytes (K 0x3411 1)
    (List.replicate 10 0 ++ leBytes 2 2400 ++ List.replicate 52 0)).setBytes (sk 1 5 5)
      (List.replicate 10 0 ++ leBytes 2 1848 ++ List.replicate 52 0)
theorem test_apc_step : (beamFive.apcSample 1 5 2312).beamCurrent 1 5 = 1870 := by decide

/-- A duplex reversal (12_step_motion): entry 3, then the way back of entry 4. -/
def out : List Segment := movePlan (fullSteps 2000 2000 400) (512000 * micro) {}
def back : List Segment := movePlan (fullSteps 2000 2000 400) (204800 * micro) (planAt out (512000 * micro) 500000000)
theorem test_ramp : (planAt out (512000 * micro) 150000000).microstep = 150 * 256 := by decide
theorem test_cruise : (planAt out (512000 * micro) 500000000).microstep = 850 * 256 := by decide
theorem test_reversal :
    moveReverses (fullSteps 2000 2000 400) (204800 * micro) (planAt out (512000 * micro) 500000000) = true := by decide
theorem test_turning_point : (planAt back (204800 * micro) 150000000).microstep = 1000 * 256 := by decide
theorem test_return_time : 406100000 ≤ planTime back ∧ planTime back < 406250000 := by decide

/-- The move entries of that example as the table holds them: 0x0007_D000_0000_0000 and 0x07D0_07D0_0190_0000. -/
theorem test_move_entry :
    (({} : State).setBytes (axk 7 4 1) (List.replicate 48 0 ++ leBytes 8 0x0007D00000000000 ++ leBytes 8 0x07D007D001900000 ++
      List.replicate 960 0)).moveOf 7 3 0 = some ⟨false, false, 512000, fullSteps 2000 2000 400⟩ := by decide

/-- R126: a reading that passes several thresholds moves the state at once, up or down. -/
theorem test_temperature_states :
    temperatureState 0 1300 1000 1100 1250 20 = 3 ∧ temperatureState 3 1229 1000 1100 1250 20 = 2 ∧
    temperatureState 3 979 1000 1100 1250 20 = 0 ∧ temperatureState 1 981 1000 1100 1250 20 = 1 := by decide

/-- SHA-384 of "abc" (FIPS 180-4): its first eight bytes. -/
theorem test_sha384 : (sha384 [0x61, 0x62, 0x63]).take 8 = [0xCB, 0x00, 0x75, 0x3F, 0x45, 0xA3, 0x5E, 0x8B] := by decide

/-- REAL32 arithmetic (IEEE 754): 1.5 + 2.25, 1 / 3 and 0.1 × 3. -/
theorem test_real32 :
    ((Real32.ofBits 0x3FC00000).add (Real32.ofBits 0x40100000)).bits = 0x40700000 ∧
    ((Real32.ofInt 1).div (Real32.ofInt 3)).bits = 0x3EAAAAAB ∧
    ((Real32.ofBits 0x3DCCCCCD).mul (Real32.ofInt 3)).bits = 0x3E99999A := by decide

/-! ## One command -/

theorem test_output : (after (.setOutput 17) (firing 17 { action := 1, target := 5 })).pos.slotOut = 16 := by decide
theorem test_lower_slot_first : after (.setOutput 17)
    ((firing 17 { action := 1, target := 5 }).setSlot 3 { state := 1, action := 2, target := 5 }) =
      (firing 17 { action := 1, target := 5 }).setSlot 3 { state := 1, action := 2, target := 5 } := by decide
theorem test_doorbell : ((after (.doorbellWrite 62 3) (waiting 62)).ring 62).tail = 3 := by decide
theorem test_doorbell_past_ring : ((after (.doorbellWrite 62 17) (waiting 62)).ring 62).state = 3 := by decide
theorem test_wrong_signature :
    (after (.storeParameters .ethercat 1 0x64616F6C) (ready [])).svc.ethercat.abort = 0x08000020 := by decide
theorem test_read_only :
    (after (.sdoDownload 0x2401 6 [1, 0, 0, 0] []) (ready [])).svc.ethercat.abort = 0x06010002 := by decide
theorem test_absent_object : (after (.sdoUpload 0x5FFF 1) (ready [])).svc.ethercat.abort = 0x06020000 := by decide
theorem test_marker_event :
    ((after (.hostMarker .ethercat (leBytes 4 9)) (ready [])).ev.held.map (fun r => (r.source, r.payload))).getLast? = some (31, 9) := by
  decide
theorem test_link_up : (after (.linkTrained 5 ⟨4, 0, true⟩) (up [7])).n (K 0x3830 2) = 5 := by decide
theorem test_bus_hysteresis :
    (after (.busSample 55000) (({} : State).setn (K 0x410F 1) 55000)).drives.chopper = true := by decide
theorem test_sensor_broken : (after (.temperatureSample 36 3001) (({} : State).setb (tk 36 1) true)).flag (tk 36 5) = true := by
  decide
theorem test_heartbeat : (after .heartbeatWireBeat twins).twin.wireBeat = true := by decide
theorem test_reset_n_short : (after (.resetNLow 999) (up [])).ev.held = [] := by decide
theorem test_bus_fault : exec (.motorBusSample 0 60001) {} = .fault .absoluteMaximum := rfl
/-- R249, R250: BAR0 identity of an S6, word 2 of ring 58's descriptor, and the pointer of its doorbell page. -/
theorem test_bar0 :
    (waiting 58).bar0Read 0 8 = some 0x03068640 ∧ (waiting 58).bar0Read 0x10E94 4 = some 0xB03A0000 ∧
    (waiting 58).bar0Read 0x23A08 4 = some 1 ∧ (waiting 58).bar0Read 0x100000 8 = some (2 ^ 58) ∧
    (up [7]).bar0Read 0 8 = none := by decide
/-- R469: before DICTIONARY_UP only the rings of the Trust Anchor can be enabled. -/
theorem test_early_ring :
    ((after (.ringEnable 62 ⟨0, 2 ^ 63 + 4⟩) ({ linked.setRing 62 { base := 4096 } with twin := { dictionaryUp := false } })).ring 62).state = 1 ∧
    ((after (.ringEnable 60 ⟨0, 2 ^ 63 + 4⟩) ({ linked.setRing 60 { base := 4096 } with twin := { dictionaryUp := false } })).ring 60).state = 0 := by
  decide

/-! ## The hypotheses of the statements can be met -/

theorem test_meets_StepOnEmptyQueue :
    (∃ (s : State), s.pending = []) :=
  ⟨(ready []), by decide⟩

theorem test_meets_EveryCommandGoes :
    (∃ (c : Instr), (∀ bus j2, c = .motorBusSample bus j2 → j2 ≤ 60000)) ∧
    (∃ (j2 : Nat), 60000 < j2) :=
  ⟨⟨(.hostMarker .ethercat []), by intro bus j2 h; cases h⟩,
   ⟨60001, by decide⟩⟩

theorem test_meets_CommandsLeaveTheQueue :
    (∃ (c : Instr) (s : State) (t : State), exec c s = .next t) :=
  ⟨(.capture 16 true 0), (({} : State)), {}, by rfl⟩

theorem test_meets_StepKeepsSound :
    (∃ (s : State) (t : State), s.Sound ∧ step s = .next t) :=
  ⟨(up [16]), ((up [16]).idle), by unfold State.Sound; exact ⟨⟨by decide, by decide, by decide⟩, rfl⟩⟩

theorem test_meets_ResetValues :
    (∃ (pd : _), 1 ≤ pd ∧ pd ≤ 16) :=
  ⟨16, by decide⟩

theorem test_meets_CommandFrames :
    (∃ (c : Instr) (s : State) (t : State) (p : Area), exec c s = .next t ∧ p ∉ touches c) :=
  ⟨(.capture 16 true 0), (({} : State)), {}, .rings, by (exact ⟨rfl, by decide⟩)⟩

theorem test_meets_DictionaryWritesDone :
    (∃ (path : Path) (index : Nat) (sub : Nat) (data : Bytes) (r : Row) (s : State), rowOf index sub = some r ∧ index ≠ 0x1010 ∧
      index ≠ 0x1011 ∧ s.Accepts path index sub data) ∧
    (∃ (index : Nat) (sub : Nat) (data : Bytes) (r : Row) (s : State), rowOf index sub = some r ∧ index ≠ 0x1010 ∧
      index ≠ 0x1011 ∧ s.Accepts .ethercat index sub data) ∧
    (∃ (path : Path) (sub : Nat) (value : Nat) (s : State), 1 ≤ sub ∧ sub ≤ 3 ∧ s.Accepts path 0x1010 sub (leBytes 4 value) ∧
      s.storeFails = false) ∧
    (∃ (path : Path) (sub : Nat) (value : Nat) (s : State), 1 ≤ sub ∧ sub ≤ 3 ∧ s.Accepts path 0x1011 sub (leBytes 4 value) ∧
      s.storeFails = false) ∧
    (∃ (path : Path) (sub : Nat) (value : Nat) (s : State), 1 ≤ sub ∧ sub ≤ 3 ∧ s.Accepts path 0x1010 sub (leBytes 4 value) ∧
      s.storeFails = true) :=
  ⟨⟨Path.ethercat, 0x2401, 7, (leBytes 4 9), ((rowOf 0x2401 7).getD ⟨0, 0, 0, 0, 0, "", .u8, .ro, .num 0, .any⟩), (ready []),
    by unfold State.Accepts; decide⟩,
   ⟨0x2401, 7, (leBytes 4 9), ((rowOf 0x2401 7).getD ⟨0, 0, 0, 0, 0, "", .u8, .ro, .num 0, .any⟩), (ready []),
     by unfold State.Accepts; decide⟩,
   ⟨Path.ethercat, 1, 0x65766173, (ready []), by unfold State.Accepts; decide⟩,
   ⟨Path.ethercat, 3, 0x64616F6C, (ready []), by unfold State.Accepts; decide⟩,
   ⟨Path.ethercat, 3, 0x65766173, ((ready []).setn (K 0x3700 1) 1), by unfold State.Accepts; decide⟩⟩

theorem test_meets_RejectedWriteChangesNothing :
    (∃ (path : Path) (index : Nat) (sub : Nat) (data : Bytes) (a : Abort) (s : State), s.pathOpen path = true ∧
      s.served = true ∧ s.writeAbort path false index sub data = some a) :=
  ⟨Path.ethercat, 0x2401, 7, [], (((ready []).writeAbort .ethercat false 0x2401 7 []).getD default), (ready []), by decide⟩

theorem test_meets_SdoReads :
    (∃ (s : State), s.pathOpen .ethercat = true ∧ s.served = true) ∧
    (∃ (s : State), s.pathOpen .ethercat = true ∧ s.served = true) ∧
    (∃ (s : State), s.pathOpen .ethercat = true ∧ s.served = true) ∧
    (∃ (s : State), s.pathOpen .ethercat = true ∧ s.served = true) ∧
    (∃ (s : State), s.pathOpen .ethercat = true ∧ s.served = true) ∧
    (∃ (s : State), s.pathOpen .ethercat = true ∧ s.served = true) :=
  ⟨⟨(ready []), by decide⟩,
   ⟨(ready []), by decide⟩,
   ⟨(ready []), by decide⟩,
   ⟨(ready []), by decide⟩,
   ⟨(ready []), by decide⟩,
   ⟨(ready []), by decide⟩⟩

theorem test_meets_CompleteWriteIsWholeOrNothing :
    (∃ (path : Path) (index : Nat) (sub : Nat) (data : Bytes) (s : State), index ≠ 0x1010 ∧ index ≠ 0x1011 ∧
      (s.writeComplete path index sub data).2.status ≠ 0) ∧
    (∃ (path : Path) (index : Nat) (sub : Nat) (data : Bytes) (answers : List Frame) (s : State), index ≠ 0x1010 ∧
      index ≠ 0x1011 ∧ (s.writeObject path false index sub data answers).2.status ≠ 0) :=
  ⟨⟨Path.ethercat, 0x2401, 0, [], (ready []), by decide⟩,
   ⟨Path.ethercat, 0x2401, 6, [], [], (ready []), by decide⟩⟩

theorem test_meets_MailboxRequests :
    (∃ (ws : List Nat) (s : State), s.served = true ∧ s.hasEntry 60 = true ∧ s.linkUp = true ∧
      (s.ring 61).waiting.isEmpty = true ∧ mailOp ws = 1) ∧
    (∃ (ws : List Nat) (s : State), s.served = true ∧ s.hasEntry 60 = true ∧ s.linkUp = true ∧
      (s.ring 61).waiting.isEmpty = true ∧ mailOp ws = 2) ∧
    (∃ (ws : List Nat) (s : State), s.served = true ∧ s.hasEntry 60 = true ∧ s.linkUp = true ∧
      (s.ring 61).waiting.isEmpty = true ∧ mailOp ws = 3) ∧
    (∃ (ws : List Nat) (s : State), s.served = true ∧ s.hasEntry 60 = true ∧ s.linkUp = true ∧
      (s.ring 61).waiting.isEmpty = true ∧ mailOp ws = 4) ∧
    (∃ (ws : List Nat) (s : State), s.served = true ∧ s.hasEntry 60 = true ∧ s.linkUp = true ∧
      (s.ring 61).waiting.isEmpty = true ∧ mailMalformed ws = true) ∧
    (∃ (ws : List Nat) (s : State) (u : State) (b : Bytes), s.served = true ∧ s.hasEntry 60 = true ∧ s.linkUp = true ∧
      (s.ring 61).waiting.isEmpty = true ∧ u = s.consumed 60 ∧ mailMalformed ws = false ∧ mailBuffer ws = 0 ∧ b.length ≤ 32 ∧
      mailOp ws = 1 ∧ u.readAbort (mailIndex ws) (mailSub ws) = none ∧ b = u.readBytes .mailbox (mailIndex ws) (mailSub ws)) ∧
    (∃ (ws : List Nat) (s : State) (u : State) (b : Bytes), s.served = true ∧ s.hasEntry 60 = true ∧ s.linkUp = true ∧
      (s.ring 61).waiting.isEmpty = true ∧ u = s.consumed 60 ∧ mailMalformed ws = false ∧ mailBuffer ws = 0 ∧ b.length ≤ 32 ∧
      mailOp ws = 3 ∧ u.readComplete .mailbox (mailIndex ws) (mailSub ws) = { data := b }) ∧
    (∃ (ws : List Nat) (hostOk : Bool) (s : State) (u : State) (b : Bytes), s.served = true ∧ s.hasEntry 60 = true ∧
      s.linkUp = true ∧ (s.ring 61).waiting.isEmpty = true ∧ u = s.consumed 60 ∧ mailMalformed ws = false ∧ mailBuffer ws ≠ 0 ∧
      b.length ≤ mailLength ws ∧ hostOk = true ∧ u.masters = true ∧ mailOp ws = 1 ∧
      u.readAbort (mailIndex ws) (mailSub ws) = none ∧ b = u.readBytes .mailbox (mailIndex ws) (mailSub ws)) ∧
    (∃ (ws : List Nat) (hostOk : Bool) (s : State) (u : State) (b : Bytes), s.served = true ∧ s.hasEntry 60 = true ∧
      s.linkUp = true ∧ (s.ring 61).waiting.isEmpty = true ∧ u = s.consumed 60 ∧ mailMalformed ws = false ∧ mailBuffer ws ≠ 0 ∧
      b.length ≤ mailLength ws ∧ hostOk = true ∧ u.masters = true ∧ mailOp ws = 3 ∧
      u.readComplete .mailbox (mailIndex ws) (mailSub ws) = { data := b }) ∧
    (∃ (ws : List Nat) (host : Option Bytes) (answers : List Frame) (s : State) (u : State) (v : State) (b : Bytes) (r : Row),
      s.served = true ∧ s.hasEntry 60 = true ∧ s.linkUp = true ∧ (s.ring 61).waiting.isEmpty = true ∧ u = s.consumed 60 ∧
      mailOp ws = 2 ∧ mailMalformed ws = false ∧ mailData ws host = some b ∧ rowOf (mailIndex ws) (mailSub ws) = some r ∧
      mailIndex ws ≠ 0x1010 ∧ mailIndex ws ≠ 0x1011 ∧ u.writeAbort .mailbox false (mailIndex ws) (mailSub ws) b = none ∧
      v = (u.carryOut .mailbox r (mailIndex ws) (mailSub ws) (r.ty.decode b) answers).done .mailbox (mailIndex ws) (mailSub ws)) ∧
    (∃ (ws : List Nat) (host : Option Bytes) (s : State) (u : State) (v : State) (w : State) (b : Bytes), s.served = true ∧
      s.hasEntry 60 = true ∧ s.linkUp = true ∧ (s.ring 61).waiting.isEmpty = true ∧ u = s.consumed 60 ∧ mailOp ws = 4 ∧
      mailMalformed ws = false ∧ mailData ws host = some b ∧ u.writeComplete .mailbox (mailIndex ws) (mailSub ws) b = (v, {}) ∧
      w = v.done .mailbox (mailIndex ws) (mailSub ws)) ∧
    (∃ (s : State) (u : State), s.served = true ∧ s.hasEntry 60 = true ∧ s.linkUp = true ∧ (s.ring 61).waiting.isEmpty = true ∧
      u.ringRoom 61 = true ∧ (u.ring 61).waiting.isEmpty = true) ∧
    (∃ (s : State), s.served = true ∧ s.hasEntry 60 = true ∧ s.linkUp = true ∧ (s.ring 61).waiting.isEmpty = true) :=
  ⟨⟨([2 ^ 56, 0, 0, 0, 0, 0, 0, 0]), ((ready []).setb (K 0x3830 1) true |>.setRing 60 { state := 1, log2 := 4, tail := 1 }),
    by decide⟩,
   ⟨([2 * 2 ^ 56, 0, 0, 0, 0, 0, 0, 0]),
     ((ready []).setb (K 0x3830 1) true |>.setRing 60 { state := 1, log2 := 4, tail := 1 }), by decide⟩,
   ⟨([3 * 2 ^ 56, 0, 0, 0, 0, 0, 0, 0]),
     ((ready []).setb (K 0x3830 1) true |>.setRing 60 { state := 1, log2 := 4, tail := 1 }),
     by ((repeat' apply And.intro) <;> first | decide | rfl)⟩,
   ⟨([4 * 2 ^ 56, 0, 0, 0, 0, 0, 0, 0]),
     ((ready []).setb (K 0x3830 1) true |>.setRing 60 { state := 1, log2 := 4, tail := 1 }),
     by ((repeat' apply And.intro) <;> first | decide | rfl)⟩,
   ⟨([0, 0, 0, 0, 0, 0, 0, 0]), ((ready []).setb (K 0x3830 1) true |>.setRing 60 { state := 1, log2 := 4, tail := 1 }),
     by ((repeat' apply And.intro) <;> first | decide | rfl)⟩,
   ⟨([2 ^ 56 + 6 * 2 ^ 40 + 0x2401 * 2 ^ 24 + 5, 0, 0, 0, 0, 0, 0, 0]),
     ((ready []).setb (K 0x3830 1) true |>.setRing 60 { state := 1, log2 := 4, tail := 1 }),
     (((ready []).setb (K 0x3830 1) true |>.setRing 60 { state := 1, log2 := 4, tail := 1 }).consumed 60), (leBytes 4 1),
     by ((repeat' apply And.intro) <;> first | decide | rfl)⟩,
   ⟨([3 * 2 ^ 56 + 1 * 2 ^ 40 + 0x2040 * 2 ^ 24 + 5, 0, 0, 0, 0, 0, 0, 0]),
     ((ready []).setb (K 0x3830 1) true |>.setRing 60 { state := 1, log2 := 4, tail := 1 }),
     (((ready []).setb (K 0x3830 1) true |>.setRing 60 { state := 1, log2 := 4, tail := 1 }).consumed 60),
     ((((ready []).setb (K 0x3830 1) true |>.setRing 60 { state := 1, log2 := 4, tail := 1 }).consumed 60 |>.readComplete .mailbox 0x2040 1).data), by ((repeat' apply And.intro) <;> first | decide | rfl)⟩,
   ⟨([2 ^ 56 + 6 * 2 ^ 40 + 0x2401 * 2 ^ 24 + 5, 4096, 4, 0, 0, 0, 0, 0]), true,
     (({ (ready []).setb (K 0x3830 1) true |>.setRing 60 { state := 1, log2 := 4, tail := 1 } with pcie := { busMaster := true } } : State)), (({ (ready []).setb (K 0x3830 1) true |>.setRing 60 { state := 1, log2 := 4, tail := 1 } with pcie := { busMaster := true } } : State).consumed 60), (leBytes 4 1), by ((repeat' apply And.intro) <;> first | decide | rfl)⟩,
   ⟨([3 * 2 ^ 56 + 1 * 2 ^ 40 + 0x2040 * 2 ^ 24 + 5, 4096, 6, 0, 0, 0, 0, 0]), true,
     (({ (ready []).setb (K 0x3830 1) true |>.setRing 60 { state := 1, log2 := 4, tail := 1 } with pcie := { busMaster := true } } : State)), (({ (ready []).setb (K 0x3830 1) true |>.setRing 60 { state := 1, log2 := 4, tail := 1 } with pcie := { busMaster := true } } : State).consumed 60), ((({ (ready []).setb (K 0x3830 1) true |>.setRing 60 { state := 1, log2 := 4, tail := 1 } with pcie := { busMaster := true } } : State).consumed 60 |>.readComplete .mailbox 0x2040 1).data), by ((repeat' apply And.intro) <;> first | decide | rfl)⟩,
   ⟨([2 * 2 ^ 56 + 7 * 2 ^ 40 + 0x2401 * 2 ^ 24 + 5, 0, 4, 0, 9, 0, 0, 0]), none, [],
     ((ready []).setb (K 0x3830 1) true |>.setRing 60 { state := 1, log2 := 4, tail := 1 }),
     (((ready []).setb (K 0x3830 1) true |>.setRing 60 { state := 1, log2 := 4, tail := 1 }).consumed 60),
     (((((ready []).setb (K 0x3830 1) true |>.setRing 60 { state := 1, log2 := 4, tail := 1 }).consumed 60).carryOut .mailbox ((rowOf 0x2401 7).getD ⟨0, 0, 0, 0, 0, "", .u8, .ro, .num 0, .any⟩) 0x2401 7 (.num 9) []).done .mailbox 0x2401 7), (leBytes 4 9), ((rowOf 0x2401 7).getD ⟨0, 0, 0, 0, 0, "", .u8, .ro, .num 0, .any⟩), by ((repeat' apply And.intro) <;> first | decide | rfl)⟩,
   ⟨([4 * 2 ^ 56 + 1 * 2 ^ 40 + 0x2040 * 2 ^ 24 + 5, 0, 6, 0, 0xE700E7, 0, 0, 0]), none,
     ((ready []).setb (K 0x3830 1) true |>.setRing 60 { state := 1, log2 := 4, tail := 1 }),
     (((ready []).setb (K 0x3830 1) true |>.setRing 60 { state := 1, log2 := 4, tail := 1 }).consumed 60),
     (((((ready []).setb (K 0x3830 1) true |>.setRing 60 { state := 1, log2 := 4, tail := 1 }).consumed 60).writeComplete .mailbox 0x2040 1 [0xE7, 0, 0xE7, 0, 0, 0]).1), (((((ready []).setb (K 0x3830 1) true |>.setRing 60 { state := 1, log2 := 4, tail := 1 }).consumed 60).writeComplete .mailbox 0x2040 1 [0xE7, 0, 0xE7, 0, 0, 0]).1.done .mailbox 0x2040 1), ([0xE7, 0, 0xE7, 0, 0, 0]), by ((repeat' apply And.intro) <;> first | decide | rfl)⟩,
   ⟨((ready []).setb (K 0x3830 1) true |>.setRing 60 { state := 1, log2 := 4, tail := 1 }),
     ({ linked with pcie := { busMaster := true } } |>.setRing 61 { state := 1, log2 := 4 }), by decide⟩,
   ⟨((ready []).setb (K 0x3830 1) true |>.setRing 60 { state := 1, log2 := 4, tail := 1 }), by decide⟩⟩

theorem test_meets_FieldNetwork :
    (∃ (s : State) (managers : List Nat), s.on 8 = true ∧ s.n (K 0x2060 1) = 1 ∧ managers = mailboxBytes ∧
      s.twin.dictionaryUp = true) ∧
    (∃ (s : State) (sync0 : Bool), s.on 8 = true ∧ s.n (K 0x2060 1) = 2 ∧ s.safeopRefusal sync0 = 0) ∧
    (∃ (s : State), s.on 8 = true ∧ s.n (K 0x2060 1) = 4 ∧ s.svc.rxSeen = true) ∧
    (∃ (s : State), s.on 8 = true ∧ s.n (K 0x2060 1) = 4 ∧ s.svc.rxSeen = false) ∧
    (∃ (s : State), s.on 8 = true ∧ 4 ≤ s.n (K 0x2060 1) ∧ s.served = true) ∧
    (∃ (s : State), s.on 8 = true ∧ s.n (K 0x2060 1) = 8 ∧ s.n (K 0x2060 2) ≠ 1) ∧
    (∃ (s : State), s.on 8 = true ∧ s.n (K 0x2060 1) = 8 ∧ s.n (K 0x2060 2) = 1) ∧
    (∃ (s : State) (links : Nat), s.on 8 = true ∧ links < 4 ∧ s.n (K 0x2060 8) ≠ links) ∧
    (∃ (s : State), s.on 8 = true ∧ s.n (K 0x2060 1) = 4 ∧ s.served = true) ∧
    (∃ (s : State), s.on 8 = true ∧ s.n (K 0x2060 1) = 8 ∧ s.served = true) ∧
    (∃ (s : State) (new : Nat), s.on 8 = true ∧ (new = 2 ∨ new = 4) ∧ new < s.n (K 0x2060 1) ∧
      (s.n (K 0x2060 1) < 8 ∨ s.n (K 0x2060 2) ≠ 1)) :=
  ⟨⟨((ready []).setn (K 0x2060 1) 1), mailboxBytes, by decide⟩,
   ⟨(ready []), false, by decide⟩,
   ⟨({ (ready []).setn (K 0x2060 1) 4 with svc := { rxSeen := true } }), by decide⟩,
   ⟨((ready []).setn (K 0x2060 1) 4), by decide⟩,
   ⟨((ready []).setn (K 0x2060 1) 4), by decide⟩,
   ⟨(((ready []).setn (K 0x2060 1) 8).setn (K 0x2060 2) 0), by decide⟩,
   ⟨(((ready []).setn (K 0x2060 1) 8).setn (K 0x2060 2) 1), by decide⟩,
   ⟨((ready []).setn (K 0x2060 1) 1), 3, by decide⟩,
   ⟨((ready []).setn (K 0x2060 1) 4), by decide⟩,
   ⟨((ready []).setn (K 0x2060 1) 8), by decide⟩,
   ⟨((ready []).setn (K 0x2060 1) 4), 2, by decide⟩⟩

theorem test_meets_RequestsWaitInTheGap :
    (∃ (path : Path) (s : State), s.pathOpen path = true ∧ s.served = false) :=
  ⟨Path.ethercat, ({ ready [] with twin := { (ready []).twin with switching := true } }), by decide⟩

theorem test_meets_Reinitialisations :
    (∃ (path : Path) (k : Nat) (s : State), k < 256 ∧ s.Accepts path 0x2010 1 (leBytes 2 (0x100 + k))) ∧
    (∃ (path : Path) (k : Nat) (s : State), k < 256 ∧ s.Accepts path 0x2010 1 (leBytes 2 (0x200 + k))) ∧
    (∃ (path : Path) (k : Nat) (s : State), k < 256 ∧ s.Accepts path 0x2010 1 (leBytes 2 (0x300 + k))) ∧
    (∃ (path : Path) (k : Nat) (s : State), k < 256 ∧ s.Accepts path 0x2010 1 (leBytes 2 (0x400 + k))) ∧
    (∃ (path : Path) (k : Nat) (s : State), k < 256 ∧ s.Accepts path 0x2010 1 (leBytes 2 (0x500 + k))) ∧
    (∃ (path : Path) (k : Nat) (s : State), k < 256 ∧ s.Accepts path 0x2010 1 (leBytes 2 0x600)) ∧
    (∃ (path : Path) (k : Nat) (s : State), k < 256 ∧ s.Accepts path 0x2010 1 (leBytes 2 0x700)) ∧
    (∃ (path : Path) (k : Nat) (s : State), k < 256 ∧ s.Accepts path 0x2010 1 (leBytes 2 0x800)) ∧
    (∃ (path : Path) (k : Nat) (s : State), k < 256 ∧ s.Accepts path 0x2010 1 (leBytes 2 (0x900 + k))) ∧
    (∃ (path : Path) (k : Nat) (s : State), k < 256 ∧ s.Accepts path 0x2010 1 (leBytes 2 (0xA00 + k))) ∧
    (∃ (path : Path) (k : Nat) (s : State), k < 256 ∧ s.Accepts path 0x2010 1 (leBytes 2 (0xB00 + k))) ∧
    (∃ (path : Path) (k : Nat) (s : State), k < 256 ∧ s.Accepts path 0x2010 1 (leBytes 2 (0xC00 + k))) ∧
    (∃ (path : Path) (k : Nat) (s : State), k < 256 ∧ s.Accepts path 0x2010 1 (leBytes 2 (0xD00 + k))) ∧
    (∃ (k : Nat), k < 256) ∧
    (∃ (k : Nat) (u : State), k < 256 ∧ 1 ≤ k ∧ k ≤ 8 ∧ u.flag (K (0x3000 + k) 1) = true) ∧
    (∃ (k : Nat), k < 256) ∧
    (∃ (k : Nat), k < 256 ∧ k < 64) ∧
    (∃ (k : Nat), k < 256 ∧ 1 ≤ k ∧ k ≤ 20) ∧
    (∃ (k : Nat), k < 256 ∧ 1 ≤ k ∧ k ≤ 3) :=
  ⟨⟨Path.ethercat, 2, ((ready [4, 5, 12, 13, 14, 15, 16]).setn (K 0x3700 1) 2), by unfold State.Accepts; decide⟩,
   ⟨Path.ethercat, 0x81, ((ready [4, 5]).setLane 0x81 { state := 3 }), by unfold State.Accepts; decide⟩,
   ⟨Path.ethercat, 1, (ready [9, 12]), by unfold State.Accepts; decide⟩,
   ⟨Path.ethercat, 1, ((ready [4, 5, 12, 13, 14, 15, 16]).setn (K 0x3700 1) 2), by unfold State.Accepts; decide⟩,
   ⟨Path.ethercat, 8, ((ready [16]).setb (K 0x3008 1) true), by unfold State.Accepts; decide⟩,
   ⟨Path.ethercat, 0, ((ready [4, 5, 12, 13, 14, 15, 16]).setn (K 0x3700 1) 2), by unfold State.Accepts; decide⟩,
   ⟨Path.ethercat, 0, ((ready [4, 5, 12, 13, 14, 15, 16]).setn (K 0x3700 1) 2), by unfold State.Accepts; decide⟩,
   ⟨Path.ethercat, 0, ((ready [4, 5, 12, 13, 14, 15, 16]).setn (K 0x3700 1) 2), by unfold State.Accepts; decide⟩,
   ⟨Path.ethercat, 10, ((ready [4, 5, 12, 13, 14, 15, 16]).setn (K 0x3700 1) 2), by unfold State.Accepts; decide⟩,
   ⟨Path.ethercat, 12, ((ready [4, 5, 12, 13, 14, 15, 16]).setn (K 0x3700 1) 2), by unfold State.Accepts; decide⟩,
   ⟨Path.ethercat, 63, ((ready [4, 5, 12, 13, 14, 15, 16]).setn (K 0x3700 1) 2), by unfold State.Accepts; decide⟩,
   ⟨Path.ethercat, 20, ((ready [4, 5, 12, 13, 14, 15, 16]).setn (K 0x3700 1) 2), by unfold State.Accepts; decide⟩,
   ⟨Path.ethercat, 3, ((ready [4, 5, 12, 13, 14, 15, 16]).setn (K 0x3700 1) 2), by unfold State.Accepts; decide⟩,
   ⟨255, by decide⟩,
   ⟨8, ((up [16]).setb (K 0x3008 1) true), by decide⟩,
   ⟨0, by decide⟩,
   ⟨63, by decide⟩,
   ⟨20, by decide⟩,
   ⟨3, by decide⟩⟩

theorem test_meets_EncoderEvents :
    (∃ (n : Nat) (s : State), 1 ≤ n ∧ n ≤ 8 ∧ s.on 16 = true ∧ s.flag (K (0x3000 + n) 1) = true ∧ s.n (K (0x3000 + n) 3) = 0) ∧
    (∃ (n : Nat) (s : State), 1 ≤ n ∧ n ≤ 8 ∧ s.on 16 = true ∧ s.flag (K (0x3000 + n) 1) = true ∧ s.n (K (0x3000 + n) 3) = 0) ∧
    (∃ (n : Nat) (err : PhaseError) (s : State), 1 ≤ n ∧ n ≤ 8 ∧ s.on 16 = true ∧ s.flag (K (0x3000 + n) 1) = true ∧
      s.loopState n = 2 ∧ s.n (K (0x3000 + n) 3) = 0 ∧ err ≠ .large) ∧
    (∃ (n : Nat) (s : State), 1 ≤ n ∧ n ≤ 8 ∧ s.on 16 = true ∧ s.flag (K (0x3000 + n) 1) = true ∧ s.loopState n ≠ 2) ∧
    (∃ (n : Nat) (s : State), 1 ≤ n ∧ n ≤ 8 ∧ s.on 16 = true ∧ s.flag (K (0x3000 + n) 1) = true ∧ s.loopState n = 2) ∧
    (∃ (n : Nat) (s : State), 1 ≤ n ∧ n ≤ 8 ∧ s.on 16 = true ∧ s.flag (K (0x3000 + n) 1) = true ∧
      (s.loopState n = 1 ∨ s.loopState n = 2) ∧ s.due (tmStandstill n) = true) ∧
    (∃ (n : Nat) (s : State), 1 ≤ n ∧ n ≤ 8 ∧ s.on 16 = true ∧ s.flag (K (0x3000 + n) 1) = false) ∧
    (∃ (n : Nat) (s : State), 1 ≤ n ∧ n ≤ 8 ∧ s.on 16 = true) :=
  ⟨⟨1, (((up [16]).setn (K 0x3001 7) 1).setb (K 0x3001 1) true), by decide⟩,
   ⟨8, (((up [16]).setn (K 0x3008 7) 2).setb (K 0x3008 1) true), by decide⟩,
   ⟨8, .small, (((up [16]).setn (K 0x3008 7) 2).setb (K 0x3008 1) true), by decide⟩,
   ⟨8, (((up [16]).setn (K 0x3008 7) 3).setb (K 0x3008 1) true), by decide⟩,
   ⟨8, (((up [16]).setn (K 0x3008 7) 2).setb (K 0x3008 1) true), by decide⟩,
   ⟨8, ((((up [16]).setn (K 0x3008 7) 2).setb (K 0x3008 1) true).withDue (tmStandstill 8)), by decide⟩,
   ⟨8, (up [16]), by decide⟩,
   ⟨8, (((up [16]).setn (K 0x3008 7) 2).setb (K 0x3008 1) true), by decide⟩⟩

theorem test_meets_PositionInputs :
    (∃ (ch : Nat) (rising : Bool) (s : State), ch < 16 ∧ s.on 16 = true ∧ bitOf (s.captureWord ch) 31 = true ∧
      bitOf (s.captureWord ch) (if rising then 29 else 30) = true) ∧
    (∃ (ch : Nat) (rising : Bool) (s : State),
      (16 ≤ ch ∨ s.on 16 = false ∨ bitOf (s.captureWord ch) 31 = false ∨ bitOf (s.captureWord ch) (if rising then 29 else 30) = false)) ∧
    (∃ (mask : Nat) (s : State), mask &&& s.outputPins ≠ 0) ∧
    (∃ (mask : Nat) (s : State), mask &&& s.outputPins = 0) :=
  ⟨⟨15, true, ((up [16]).setn (K 0x3030 0x10) 0xE0000000), by decide⟩,
   ⟨16, false, ((up [16]).setn (K 0x3030 0x10) 0xE0000000), by decide⟩,
   ⟨1, (((up [16]).setn (K 0x3050 1) 1).setn (K 0x3050 3) 1), by decide⟩,
   ⟨1, ((up [16]).setn (K 0x3030 0x10) 0xE0000000), by decide⟩⟩

theorem test_meets_AlignmentEvents :
    (∃ (rising : Bool) (s : State), decide (s.n (K 0x2400 9) = 0) = rising ∧ s.n (K 0x2400 2) ≠ 2) ∧
    (∃ (rising : Bool) (s : State), decide (s.n (K 0x2400 9) = 0) = rising ∧ s.n (K 0x2400 2) = 2 ∧ s.ev.syncLast = none) ∧
    (∃ (rising : Bool) (s : State), decide (s.n (K 0x2400 9) = 0) ≠ rising) ∧
    (∃ (time : Nat) (s : State), s.n (K 0x2400 2) = 1 ∧ s.on 8 = true ∧
      50 < (signed 64 (time + 2 ^ 65 - s.stamp - s.n (K 0x2400 4))).natAbs) ∧
    (∃ (s : State), (s.n (K 0x2400 2) ≠ 1 ∨ s.on 8 = false)) ∧
    (∃ (s : State), s.n (K 0x2400 3) = 2 ∧ s.due tmSync = true) ∧
    (∃ (rising : Bool) (s : State) (last : _), decide (s.n (K 0x2400 9) = 0) = rising ∧ s.n (K 0x2400 2) = 2 ∧
      s.ev.syncLast = some last) :=
  ⟨⟨true, {}, by decide⟩,
   ⟨true, (({} : State).setn (K 0x2400 2) 2), by decide⟩,
   ⟨false, {}, by decide⟩,
   ⟨51, (((up [8]).setn (K 0x2400 2) 1)), by decide⟩,
   ⟨{}, by decide⟩,
   ⟨((({} : State).setn (K 0x2400 3) 2).withDue tmSync), by decide⟩,
   ⟨true, ({ ({} : State).setn (K 0x2400 2) 2 with ev := { syncLast := some 2 }, stamp := 10 ^ 9 }), 2, by decide⟩⟩

theorem test_meets_RecorderDrains :
    (∃ (r : Rec) (rest : List Rec) (s : State), nextHeld s.ev.held = some (r, rest) ∧ r.stamp + 64 ≤ s.stamp ∧
      (s.ev.step = s.stamp → s.ev.entered < 4)) ∧
    (∃ (r : Rec) (rest : List Rec) (s : State), nextHeld s.ev.held = some (r, rest) ∧ s.stamp < r.stamp + 64) ∧
    (∃ (s : State), nextHeld s.ev.held = none) ∧
    (∃ (ring : Nat) (s : State), s.due (tmDrain ring) = true ∧ s.ringRoom ring = true ∧ waitingFor ring 1 s.ev.trace ≠ []) ∧
    (∃ (ring : Nat) (s : State), s.due (tmDrain ring) = false) ∧
    (∃ (r : Rec) (rest : List Rec) (s : State), nextHeld s.ev.held = some (r, rest) ∧ r.stamp + 64 ≤ s.stamp ∧
      (s.ev.step = s.stamp → s.ev.entered < 4) ∧ s.ev.trace.length < 16000 ∧ s.ev.lost = 0) :=
  ⟨⟨({ stamp := 4 }), [], ({ ({} : State) with stamp := 68, ev := { held := [{ stamp := 4 }] } }), by decide⟩,
   ⟨({ stamp := 4 }), [], ({ ({} : State) with stamp := 67, ev := { held := [{ stamp := 4 }] } }), by decide⟩,
   ⟨{}, by decide⟩,
   ⟨55, ({ { up [] with pcie := { busMaster := true } }.setRing 55 { state := 1, log2 := 4 } with ev := { trace := [{ ring := 55, since := 0 }] } }.withDue (tmDrain 55)), by decide⟩,
   ⟨55, ({ ({} : State) with stamp := 68, ev := { held := [{ stamp := 4 }] } }), by decide⟩,
   ⟨({ stamp := 4 }), [], ({ ({} : State) with stamp := 68, ev := { held := [{ stamp := 4 }] } }), by decide⟩⟩

theorem test_meets_MainsEvents :
    (∃ (s : State) (t0 : _), s.on 15 = false ∧ s.pos.mains.last = some t0 ∧ s.n (K 0x3020 1) = 1 ∧
      3 * 10 ^ 12 ≤ 2 * (s.stamp - t0) * s.n (K 0x3020 4)) ∧
    (∃ (s : State), s.on 15 = false ∧ s.n (K 0x3020 1) = 2 ∧ s.n (K 0x3020 6) ≤ s.pos.mains.held) ∧
    (∃ (s : State), s.on 15 = false ∧ s.n (K 0x3020 1) ≠ 2) ∧
    (∃ (s : State) (t0 : _), s.on 15 = false ∧ s.pos.mains.last = some t0 ∧ s.n (K 0x3020 1) = 1) :=
  ⟨⟨({ (({} : State).setn (K 0x3020 1) 1).setn (K 0x3020 4) 50000 with stamp := 30000000, pos := { mains := { last := some 0 } } }), 0, by decide⟩,
   ⟨({ (({} : State).setn (K 0x3020 1) 2).setn (K 0x3020 6) 50 with pos := { mains := { held := 50 } } }), by decide⟩,
   ⟨{}, by decide⟩,
   ⟨({ (({} : State).setn (K 0x3020 1) 1).setn (K 0x3020 4) 50000 with stamp := 10 ^ 9 + 20000000, pos := { mains := { last := some (10 ^ 9) } } }), (10 ^ 9), by decide⟩⟩

theorem test_meets_SlotOutputs :
    (∃ (k : Nat) (s : State), s.Fires k 1) ∧
    (∃ (k : Nat) (s : State), s.Fires k 2) ∧
    (∃ (k : Nat) (s : State), s.Fires k 3 ∧ (s.slot k).page ≠ 0 ∧ (s.page ((s.slot k).page - 1)).tag = (s.slot k).tag ∧
      (s.page ((s.slot k).page - 1)).spoil ≠ 0) ∧
    (∃ (k : Nat) (s : State), s.Fires k 3 ∧ (s.slot k).page = 0) ∧
    (∃ (k : Nat) (s : State), s.Fires k 0x40) ∧
    (∃ (k : Nat) (s : State), s.slotDue k = false) :=
  ⟨⟨255, (firing 255 { action := 1, target := 32 }), by unfold State.Fires; decide⟩,
   ⟨255, (firing 255 { action := 2, target := 1 }), by unfold State.Fires; decide⟩,
   ⟨0, ((firing 0 { action := 3, target := 32, page := 64, tag := 7 }).setPage 63 { tag := 7, state := 3, spoil := 1 }),
     by unfold State.Fires; decide⟩,
   ⟨255, (firing 255 { action := 3, target := 32 }), by unfold State.Fires; decide⟩,
   ⟨255, (firing 255 { action := 0x40, arg := 65535, tag := 5 }), by unfold State.Fires; decide⟩,
   ⟨255, (up []), by decide⟩⟩

theorem test_meets_SlotChecks :
    (∃ (k : Nat) (i : Nat) (level : Bool) (s : State), s.Fires k 0x41 ∧ (s.fired k).slotPage (s.slot k) = some i ∧
      bitOf (s.slot k).arg 0 = level) ∧
    (∃ (k : Nat) (i : Nat) (level : Bool) (s : State), s.Fires k 0x41 ∧ s.slotPage (s.slot k) = some i ∧
      bitOf (s.slot k).arg 0 ≠ level ∧ bitOf (s.slot k).arg 1 = false) ∧
    (∃ (k : Nat) (i : Nat) (level : Bool) (s : State), s.Fires k 0x41 ∧ (s.fired k).slotPage (s.slot k) = some i ∧
      bitOf (s.slot k).arg 0 ≠ level ∧ bitOf (s.slot k).arg 1 = true) ∧
    (∃ (k : Nat) (i : Nat) (s : State), s.Fires k 0x42 ∧ s.slotPage (s.slot k) = some i) ∧
    (∃ (k : Nat) (s : State), s.Fires k 0x42 ∧ s.slotPage (s.slot k) = none) ∧
    (∃ (k : Nat) (i : Nat) (s : State), s.Fires k 0x50 ∧ s.slotPage (s.slot k) = some i ∧ (s.slot k).target = 6 ∧
      (s.page i).state < 6) ∧
    (∃ (k : Nat) (i : Nat) (s : State), s.Fires k 0x50 ∧ (s.fired k).slotPage (s.slot k) = some i ∧ (s.slot k).target ≠ 5 ∧
      (s.slot k).target ≠ 6) ∧
    (∃ (k : Nat) (s : State), s.Fires k 0x50 ∧ s.slotPage (s.slot k) = none) :=
  ⟨⟨3, 0, true, (onPage 3 { action := 0x41, target := 1, arg := 1 }), by unfold State.Fires; decide⟩,
   ⟨3, 0, false, (onPage 3 { action := 0x41, target := 1, arg := 1 }), by unfold State.Fires; decide⟩,
   ⟨3, 0, false, (onPage 3 { action := 0x41, target := 48, arg := 3 }), by unfold State.Fires; decide⟩,
   ⟨3, 0, (onPage 3 { action := 0x42, target := 48, arg := 0x8005 }), by unfold State.Fires; decide⟩,
   ⟨3, (firing 3 { action := 0x42, target := 48, arg := 0x8005 }), by unfold State.Fires; decide⟩,
   ⟨3, 0, (onPage 3 { action := 0x50, target := 6 }), by unfold State.Fires; decide⟩,
   ⟨3, 0, (onPage 3 { action := 0x50, target := 7 }), by unfold State.Fires; decide⟩,
   ⟨3, (firing 3 { action := 0x50, target := 7 }), by unfold State.Fires; decide⟩⟩

theorem test_meets_SlotImages :
    (∃ (k : Nat) (i : Nat) (s : State), s.Fires k 0x10 ∧ (s.fired k).slotPage (s.slot k) = some i ∧
      (s.fired k).stationOn (s.slot k).target = true) ∧
    (∃ (k : Nat) (i : Nat) (s : State), s.Fires k 0x10 ∧ s.slotPage (s.slot k) = some i ∧
      s.stationOn (s.slot k).target = false ∧ (s.page i).state < 4) ∧
    (∃ (k : Nat) (s : State), s.Fires k 0x10 ∧ s.slotPage (s.slot k) = none) ∧
    (∃ (k : Nat) (i : Nat) (s : State), s.Fires k 0x10 ∧ s.slotPage (s.slot k) = some i ∧
      s.stationOn (s.slot k).target = true) ∧
    (∃ (k : Nat) (i : Nat) (s : State), s.Fires k 0x11 ∧ s.slotPage (s.slot k) = some i ∧
      (s.station (s.slot k).target).image.page = i + 1) ∧
    (∃ (k : Nat) (i : Nat) (s : State), s.Fires k 0x11 ∧ (s.fired k).slotPage (s.slot k) = some i ∧
      (s.station (s.slot k).target).image.page = i + 1) ∧
    (∃ (k : Nat) (i : Nat) (s : State), s.Fires k 0x11 ∧ (s.fired k).slotPage (s.slot k) = some i ∧
      (s.station (s.slot k).target).image.page ≠ i + 1) ∧
    (∃ (k : Nat) (i : Nat) (s : State), s.Fires k 0x12 ∧ (s.fired k).slotPage (s.slot k) = some i) :=
  ⟨⟨3, 0, ((onPage 3 { action := 0x10, target := 1 }).setDomain 9 { state := 2 }), by unfold State.Fires; decide⟩,
   ⟨3, 0, (onPage 3 { action := 0x10, target := 6 }), by unfold State.Fires; decide⟩,
   ⟨3, (firing 3 { action := 0x10, target := 1 }), by unfold State.Fires; decide⟩,
   ⟨3, 0, ((onPage 3 { action := 0x10, target := 1 }).setDomain 9 { state := 2 }), by unfold State.Fires; decide⟩,
   ⟨3, 0, ((onPage 3 { action := 0x11, target := 1 }).setStation 1 { image := { page := 1, going := true } }),
     by unfold State.Fires; decide⟩,
   ⟨3, 0, ((onPage 3 { action := 0x11, target := 1 }).setStation 1 { image := { page := 1, going := true } }),
     by unfold State.Fires; decide⟩,
   ⟨3, 0, (onPage 3 { action := 0x11, target := 6 }), by unfold State.Fires; decide⟩,
   ⟨3, 0, (onPage 3 { action := 0x12, target := 6 }), by unfold State.Fires; decide⟩⟩

theorem test_meets_SlotMotion :
    (∃ (k : Nat) (s : State), s.Fires k 0x20) ∧
    (∃ (k : Nat) (s : State), s.Fires k 0x21) ∧
    (∃ (k : Nat) (s : State), s.Fires k 0x20 ∧ s.hvState (s.slot k).target ≠ 1 ∧ s.hvState (s.slot k).target ≠ 2 ∧
      (s.hv (s.slot k).target).hostAt ≠ some s.stamp) ∧
    (∃ (k : Nat) (s : State), s.Fires k 0x22 ∧ s.hvState (s.slot k).target = 2) ∧
    (∃ (k : Nat) (s : State), s.Fires k 0x22 ∧ s.hvState (s.slot k).target = 1) ∧
    (∃ (k : Nat) (s : State), s.Fires k 0x20 ∧ (s.hvState (s.slot k).target = 1 ∨ s.hvState (s.slot k).target = 2) ∧
      (s.hv (s.slot k).target).hostAt ≠ some s.stamp) ∧
    (∃ (k : Nat) (s : State), s.Fires k 0x21 ∧ (s.hvState (s.slot k).target = 1 ∨ s.hvState (s.slot k).target = 2) ∧
      (s.hv (s.slot k).target).hostAt ≠ some s.stamp) ∧
    (∃ (k : Nat) (s : State), s.Fires k 0x22 ∧ s.hvState (s.slot k).target = 2 ∧
      (s.hv (s.slot k).target).hostAt ≠ some s.stamp) ∧
    (∃ (k : Nat) (s : State), s.Fires k 0x30 ∧ s.axisOn (s.slot k).target = true ∧
      (s.fired k).moveRefusal (s.slot k).target ((s.slot k).arg % 64) 0 = none) ∧
    (∃ (k : Nat) (s : State), s.Fires k 0x30 ∧ s.axisOn (s.slot k).target = true ∧
      (s.fired k).moveRefusal (s.slot k).target ((s.slot k).arg % 64) 0 = none ∧ s.axisState (s.slot k).target ≠ 2 ∧
      (s.stepper (s.slot k).target).hostAt ≠ some s.stamp) ∧
    (∃ (k : Nat) (s : State), s.Fires k 0x30 ∧ s.axisOn (s.slot k).target = true ∧
      (s.fired k).moveRefusal (s.slot k).target ((s.slot k).arg % 64) 0 = none ∧ s.axisState (s.slot k).target = 2 ∧
      (s.stepper (s.slot k).target).hostAt ≠ some s.stamp) ∧
    (∃ (k : Nat) (s : State) (c : _), s.Fires k 0x30 ∧ s.axisOn (s.slot k).target = true ∧
      (s.fired k).moveRefusal (s.slot k).target ((s.slot k).arg % 64) 0 = some c) ∧
    (∃ (k : Nat) (s : State), s.Fires k 0x30 ∧ s.axisOn (s.slot k).target = false) ∧
    (∃ (k : Nat) (s : State), s.Fires k 0x31 ∧ s.driveOn (s.slot k).target = true) ∧
    (∃ (u : State) (c : Nat) (e : Nat), u.n (dk c 0 2) = 0 ∧ leAt 4 4 (slice (16 * e) 16 (u.bytes (dk c 3 1))) ≠ 0 ∧
      (u.drive c).written ≠ some u.stamp) ∧
    (∃ (k : Nat) (s : State), s.Fires k 0x31 ∧ s.driveOn (s.slot k).target = false) :=
  ⟨⟨3, ((firing 3 { action := 0x20, target := 8, arg := 4095 })), by unfold State.Fires; decide⟩,
   ⟨3, (firing 3 { action := 0x21, target := 8, arg := 65535 }), by unfold State.Fires; decide⟩,
   ⟨3, (firing 3 { action := 0x20, target := 8, arg := 4095 }), by unfold State.Fires; decide⟩,
   ⟨3, ((firing 3 { action := 0x22, target := 8 }).setn (hk 8 2) 2), by unfold State.Fires; decide⟩,
   ⟨3, ((firing 3 { action := 0x22, target := 8 }).setn (hk 8 2) 1), by unfold State.Fires; decide⟩,
   ⟨3, ((firing 3 { action := 0x20, target := 8, arg := 4095, tag := 9 }).setn (hk 8 2) 1), by unfold State.Fires; decide⟩,
   ⟨3, ((firing 3 { action := 0x21, target := 8, arg := 65535, tag := 9 }).setn (hk 8 2) 2), by unfold State.Fires; decide⟩,
   ⟨3, ((firing 3 { action := 0x22, target := 8 }).setn (hk 8 2) 2), by unfold State.Fires; decide⟩,
   ⟨3, (((((firing 3 { action := 0x30, target := 12, arg := 63 }).setDomain 14 { state := 2 }).setb (axk 12 0 1) true).setb (axk 12 0 3) true).put (axk 12 4 1) (.dom (List.replicate 1008 0 ++ leBytes 8 1 ++ leBytes 8 (2 ^ 48)))), by unfold State.Fires; decide⟩,
   ⟨3, ((((((firing 3 { action := 0x30, target := 12, arg := 63 }).setDomain 14 { state := 2 }).setb (axk 12 0 1) true).setn (axk 12 0 2) 1).setb (axk 12 0 3) true).put (axk 12 4 1) (.dom (List.replicate 1008 0 ++ leBytes 8 1 ++ leBytes 8 (2 ^ 48)))), by unfold State.Fires; decide⟩,
   ⟨3, ((((((firing 3 { action := 0x30, target := 12, arg := 63 }).setDomain 14 { state := 2 }).setb (axk 12 0 1) true).setn (axk 12 0 2) 2).setb (axk 12 0 3) true).put (axk 12 4 1) (.dom (List.replicate 1008 0 ++ leBytes 8 1 ++ leBytes 8 (2 ^ 48)))), by unfold State.Fires; decide⟩,
   ⟨3, ((firing 3 { action := 0x30, target := 12, arg := 63 }).setDomain 14 { state := 2 }), 6, by unfold State.Fires; decide⟩,
   ⟨3, (firing 3 { action := 0x30, target := 12, arg := 63 }), by unfold State.Fires; decide⟩,
   ⟨3, ((firing 3 { action := 0x31, target := 10 }).setDomain 13 { state := 2 }), by unfold State.Fires; decide⟩,
   ⟨(((up [13]).put (dk 10 3 1) (.dom (List.replicate 1008 0 ++ leBytes 4 500 ++ leBytes 12 9)))), 10, 63, by decide⟩,
   ⟨3, (firing 3 { action := 0x31, target := 2 }), by unfold State.Fires; decide⟩⟩

theorem test_meets_PageRings :
    (∃ (s : State), s.linkUp = true ∧ s.served = false ∧ s.twin.switching = true ∧ s.hasEntry 56 = true) ∧
    (∃ (ws : List Nat) (i : Nat) (s : State), s.linkUp = true ∧ s.served = true ∧ s.hasEntry 56 = true ∧
      (s.consumed 56).planStatus ws = 0 ∧ s.freePlace = some i) ∧
    (∃ (ws : List Nat) (s : State), s.linkUp = true ∧ s.served = true ∧ s.hasEntry 56 = true ∧
      (s.consumed 56).planStatus ws ≠ 0) ∧
    (∃ (ws : List Nat) (s : State), s.linkUp = true ∧ s.served = true ∧ s.hasEntry 57 = true ∧ field (wordAt ws 0) 39 32 = 1 ∧
      (s.consumed 57).commandStatus ws = 0) ∧
    (∃ (ws : List Nat) (s : State), s.linkUp = true ∧ s.served = true ∧ s.hasEntry 57 = true ∧ field (wordAt ws 0) 39 32 = 2 ∧
      (s.consumed 57).commandStatus ws = 0) ∧
    (∃ (ws : List Nat) (s : State), s.linkUp = true ∧ s.served = true ∧ s.hasEntry 57 = true ∧ field (wordAt ws 0) 39 32 = 3 ∧
      (s.consumed 57).commandStatus ws = 0) ∧
    (∃ (ws : List Nat) (i : Nat) (s : State), s.linkUp = true ∧ s.served = true ∧ s.hasEntry 57 = true ∧
      field (wordAt ws 0) 39 32 = 4 ∧ (s.consumed 57).commandStatus ws = 0 ∧ s.placeOf (field (wordAt ws 0) 15 0) = some i ∧
      (s.page i).running = true ∧ (s.page i).spoil = 0) ∧
    (∃ (ws : List Nat) (s : State), s.linkUp = true ∧ s.served = true ∧ s.hasEntry 57 = true ∧ field (wordAt ws 0) 39 32 = 4 ∧
      (s.consumed 57).commandStatus ws ≠ 0) ∧
    (∃ (ws : List Nat) (i : Nat) (s : State), s.linkUp = true ∧ s.served = true ∧ s.hasEntry 57 = true ∧
      field (wordAt ws 0) 39 32 = 1 ∧ (s.consumed 57).commandStatus ws = 0 ∧ s.placeOf (field (wordAt ws 0) 15 0) = some i) ∧
    (∃ (ws : List Nat) (i : Nat) (s : State), s.linkUp = true ∧ s.served = true ∧ s.hasEntry 57 = true ∧
      field (wordAt ws 0) 39 32 = 2 ∧ (s.consumed 57).commandStatus ws = 0 ∧ s.placeOf (field (wordAt ws 0) 15 0) = some i) ∧
    (∃ (ws : List Nat) (i : Nat) (s : State) (j : _), s.linkUp = true ∧ s.served = true ∧ s.hasEntry 57 = true ∧
      field (wordAt ws 0) 39 32 = 3 ∧ (s.consumed 57).commandStatus ws = 0 ∧ s.placeOf (field (wordAt ws 0) 15 0) = some i ∧
      s.freePlace = some j) :=
  ⟨⟨({ waiting 56 with twin := { switching := true } }), by decide⟩,
   ⟨([1, 5, 0, 0, 0, 0, 0, 0]), 0, ((waiting 56).put (K 0x3510 1) (.dom [1])), by decide⟩,
   ⟨([0, 0, 0, 0, 0, 0, 0, 0]), (waiting 56), by decide⟩,
   ⟨([2 ^ 32 + 7, 0, 0, 0, 0, 0, 0, 0]), ((waiting 57).setPage 63 { tag := 7, state := 7 }), by decide⟩,
   ⟨([2 * 2 ^ 32 + 7, 0, 0, 0, 0, 0, 0, 0]), (((waiting 57).setPage 63 { tag := 7, state := 1 })), by decide⟩,
   ⟨([3 * 2 ^ 32 + 9 * 2 ^ 16 + 7, 0, 0, 0, 0, 0, 0, 0]), ((waiting 57).setPage 63 { tag := 7, state := 8 }), by decide⟩,
   ⟨([4 * 2 ^ 32 + 7, 0, 0, 0, 0, 0, 0, 0]), 63, ((waiting 57).setPage 63 { tag := 7, state := 3 }), by decide⟩,
   ⟨([4 * 2 ^ 32 + 7, 0, 0, 0, 0, 0, 0, 0]), (waiting 57), by decide⟩,
   ⟨([2 ^ 32 + 7, 0, 0, 0, 0, 0, 0, 0]), 63, ((waiting 57).setPage 63 { tag := 7, state := 7 }), by decide⟩,
   ⟨([2 * 2 ^ 32 + 7, 0, 0, 0, 0, 0, 0, 0]), 63, ((waiting 57).setPage 63 { tag := 7, state := 1 }), by decide⟩,
   ⟨([3 * 2 ^ 32 + 9 * 2 ^ 16 + 7, 0, 0, 0, 0, 0, 0, 0]), 63, ((waiting 57).setPage 63 { tag := 7, state := 8 }), 0, by decide⟩⟩

theorem test_meets_AdmissionAndCommit :
    (∃ (inputs : Nat) (i : Nat) (s : State) (u : State), s.on 16 = true ∧ s.served = true ∧ s.admittedPage = none ∧
      s.pages.order.head? = some i ∧ (s.page i).state = 1 ∧ s.pages.stopped = false ∧
      u = { s with pos := { s.pos with inputs := s.pos.inputs / 2 ^ 48 * 2 ^ 48 + inputs % 2 ^ 48 } } ∧ u.gateNear = true ∧
      u.refusalOf i inputs = none) ∧
    (∃ (inputs : Nat) (i : Nat) (s : State) (u : State) (r : _), s.on 16 = true ∧ s.served = true ∧ s.admittedPage = none ∧
      s.pages.order.head? = some i ∧ (s.page i).state = 1 ∧ s.pages.stopped = false ∧
      u = { s with pos := { s.pos with inputs := s.pos.inputs / 2 ^ 48 * 2 ^ 48 + inputs % 2 ^ 48 } } ∧ u.gateNear = true ∧
      u.refusalOf i inputs = some r) ∧
    (∃ (inputs : Nat) (i : Nat) (s : State) (u : _) (r : _), s.on 16 = true ∧ s.served = true ∧ s.admittedPage = some i ∧
      u = { s with pos := { s.pos with inputs := s.pos.inputs / 2 ^ 48 * 2 ^ 48 + inputs % 2 ^ 48 } } ∧
      u.refusalOf i inputs = some r) ∧
    (∃ (i : Nat) (s : State) (r : _), s.on 16 = true ∧ s.served = true ∧ s.admittedPage = some i ∧ (s.page i).state = 2 ∧
      s.gateReached = true ∧ (s.gateOpen = true ∨ s.gateJudged = 1) ∧ s.refusalOf i (s.pos.inputs % 2 ^ 48) = some r) ∧
    (∃ (i : Nat) (s : State), s.on 16 = true ∧ s.served = true ∧ s.admittedPage = some i ∧ s.gateReached = true ∧
      (s.gateOpen = true ∨ s.gateJudged = 1) ∧ s.refusalOf i (s.pos.inputs % 2 ^ 48) = none ∧ s.slotsShort i = true) ∧
    (∃ (i : Nat) (s : State), s.on 16 = true ∧ s.served = true ∧ s.admittedPage = some i ∧ s.gateReached = true ∧
      (s.gateOpen = true ∨ s.gateJudged = 1) ∧ s.refusalOf i (s.pos.inputs % 2 ^ 48) = none ∧ s.slotsShort i = false ∧
      s.slotsLate i = true) ∧
    (∃ (i : Nat) (s : State), s.on 16 = true ∧ s.served = true ∧ s.admittedPage = some i ∧ s.gateReached = true ∧
      (s.gateOpen = true ∨ s.gateJudged = 1) ∧ s.refusalOf i (s.pos.inputs % 2 ^ 48) = none ∧ s.slotsShort i = false ∧
      s.slotsLate i = false ∧ s.stamp < (s.page i).notBefore) ∧
    (∃ (i : Nat) (s : State), s.on 16 = true ∧ s.served = true ∧ s.admittedPage = some i ∧ s.gateReached = true ∧
      (s.gateOpen = true ∨ s.gateJudged = 1) ∧ s.refusalOf i (s.pos.inputs % 2 ^ 48) = none ∧ s.slotsShort i = false ∧
      s.slotsLate i = false ∧ (s.page i).notBefore ≤ s.stamp ∧ s.captureBusy i = true) ∧
    (∃ (i : Nat) (s : State), s.on 16 = true ∧ s.served = true ∧ s.admittedPage = some i ∧ s.gateReached = true ∧
      (s.gateOpen = true ∨ s.gateJudged = 1) ∧ s.refusalOf i (s.pos.inputs % 2 ^ 48) = none ∧ s.slotsShort i = false ∧
      s.slotsLate i = false ∧ (s.page i).notBefore ≤ s.stamp ∧ s.captureBusy i = false) ∧
    (∃ (i : Nat) (s : State), s.on 16 = true ∧ s.served = true ∧ s.admittedPage = some i ∧ s.gateReached = true ∧
      (s.gateOpen = true ∨ s.gateJudged = 1) ∧ s.refusalOf i (s.pos.inputs % 2 ^ 48) = none ∧ s.slotsShort i = false ∧
      s.slotsLate i = false ∧ (s.page i).notBefore ≤ s.stamp ∧ s.captureBusy i = false ∧ (s.page i).state = 2) ∧
    (∃ (s : State), s.on 16 = true ∧ s.gateReached = false) ∧
    (∃ (s : State), s.on 16 = true ∧ s.gateOpen = false ∧ s.gateReached = true ∧ s.gateJudged = 2) ∧
    (∃ (s : State), s.on 16 = true ∧ s.pages.gateFound = 0 ∧ s.throttled = true) ∧
    (∃ (s : State), s.on 16 = true ∧ s.pages.gateFound = 0 ∧ s.throttled = false) :=
  ⟨⟨0, 0, (atGate 1), (atGate 1), by decide⟩,
   ⟨0, 0, ((atGate 1).setb (K 0x3500 1) false), ((atGate 1).setb (K 0x3500 1) false), ((0xC, 0, 0)), by decide⟩,
   ⟨0, 0, ((atGate 2).setb (K 0x3500 1) false), ((atGate 2).setb (K 0x3500 1) false), ((0xC, 0, 0)), by decide⟩,
   ⟨0, ((atGate 2).setb (K 0x3500 1) false), ((0xC, 0, 0)), by decide⟩,
   ⟨0, ({ (atGate 2).setPage 0 { tag := 7, state := 2, steps := leBytes 2 1 ++ List.replicate 22 0 ++ leBytes 8 (3 * 2 ^ 56) } with pos := { slots := (upFrom 0 256).map (fun k => (k, ({ state := 1, base := 2, action := 0x40 } : Slot))) } }), by decide⟩,
   ⟨0, ((atGate 2).setPage 0 { tag := 7, state := 2, steps := leBytes 2 1 ++ List.replicate 22 0 ++ leBytes 8 (2 ^ 56) }),
     by decide⟩,
   ⟨0, ((atGate 2).setPage 0 { tag := 7, state := 2, notBefore := 1, steps := List.replicate 16 0 }), by decide⟩,
   ⟨0, ({ (atGate 2).setPage 0 { tag := 7, state := 2, steps := leBytes 2 1 ++ List.replicate 22 0 ++ leBytes 8 (3 * 2 ^ 56) } with pos := { slots := [(9, { state := 2, base := 3, channel := 0 })] } }), by decide⟩,
   ⟨0, (atGate 2), by decide⟩,
   ⟨0, (atGate 2), by decide⟩,
   ⟨({ (up [16]).setPage 0 { state := 3 } with pages := { table := [(0, { tag := 7, state := 3 })], previous := some 0 } } |>.setn (K 0x3500 0xF) 256), by decide⟩,
   ⟨({ up [16] with pages := { table := [(0, { tag := 7, state := 3 })], previous := some 0 } } |>.setb (K 0x2100 0xD) true),
     by decide⟩,
   ⟨((up [16]).setb (K 0x2100 0xD) true), by decide⟩,
   ⟨(up [16]), by decide⟩⟩

theorem test_meets_PageEnds :
    (∃ (s : State), s.on 16 = true) ∧
    (∃ (input : Nat) (i : Nat) (rising : Bool) (s : State), s.on 16 = true ∧
      s.pagesWith (fun p => p.running && p.window == some (input, rising)) = [i] ∧ (s.page i).spoil = 0 ∧
      (s.page i).running = true) ∧
    (∃ (input : Nat) (rising : Bool) (s : State), s.on 16 = true ∧ s.pagesWith (fun p => p.running && p.window == some (input,
      rising)) = []) ∧
    (∃ (tag : Nat) (i : Nat) (s : State) (w : _), s.on 16 = true ∧ s.placeOf tag = some i ∧ (s.page i).window = some w ∧
      (s.page i).running = true ∧ s.due (tmWindow i) = true) ∧
    (∃ (tag : Nat) (i : Nat) (s : State), s.on 16 = true ∧ s.placeOf tag = some i ∧ s.due (tmWindow i) = false) ∧
    (∃ (tag : Nat) (i : Nat) (s : State), s.on 16 = true ∧ s.placeOf tag = some i ∧ (s.page i).running = true ∧
      s.due (tmDeadline i) = true) ∧
    (∃ (tag : Nat) (i : Nat) (s : State), s.on 16 = true ∧ s.placeOf tag = some i ∧ s.due (tmDeadline i) = false) ∧
    (∃ (i : Nat) (s : State), s.on 16 = true ∧ (s.page i).running = true ∧ (s.page i).spoil = 0) :=
  ⟨⟨((up [16]).setPage 63 { tag := 7, state := 3, window := some (48, true) }), by decide⟩,
   ⟨48, 63, true, ((up [16]).setPage 63 { tag := 7, state := 3, window := some (48, true) }), by decide⟩,
   ⟨48, false, ((up [16]).setPage 63 { tag := 7, state := 3, window := some (48, true) }), by decide⟩,
   ⟨7, 63, (((up [16]).setPage 63 { tag := 7, state := 3, window := some (48, true) }).withDue (tmWindow 63)), ((48, true)),
     by decide⟩,
   ⟨7, 63, ((up [16]).setPage 63 { tag := 7, state := 3, window := some (48, true) }), by decide⟩,
   ⟨7, 63, (((up [16]).setPage 63 { tag := 7, state := 3 }).withDue (tmDeadline 63)), by decide⟩,
   ⟨7, 63, ((up [16]).setPage 63 { tag := 7, state := 3, window := some (48, true) }), by decide⟩,
   ⟨63, ((up [16]).setPage 63 { tag := 7, state := 3, window := some (48, true) }), by decide⟩⟩

theorem test_meets_WebEvents :
    (∃ (s : State), s.on 16 = true ∧ s.flag (K 0x3500 8) = true ∧ s.n (K 0x3500 9) % 64 ≠ 0 ∧ s.pagesWith Page.running = []) ∧
    (∃ (s : State) (i : _), s.on 16 = true ∧ s.flag (K 0x3500 8) = true ∧ s.n (K 0x3500 9) % 64 ≠ 0 ∧
      s.pagesWith Page.running = [i] ∧ (s.page i).spoil = 0 ∧ (s.page i).running = true) ∧
    (∃ (s : State), s.on 16 = true ∧ s.flag (K 0x3500 8) = true ∧ s.n (K 0x3500 0xA) % 64 ≠ 0) ∧
    (∃ (s : State), s.on 16 = true ∧ s.flag (K 0x3500 8) = false) ∧
    (∃ (s : State), s.on 16 = true ∧ s.pages.splicePending = true) ∧
    (∃ (s : State) (a : _), s.on 16 = true ∧ s.pages.spliceFrom = some a ∧ s.pages.splicePending = true ∧
      256 * s.n (K 0x3500 0xB) ≤ distance 48 (s.axisPos 1) a) ∧
    (∃ (s : State), s.on 16 = true ∧ s.pages.spliceFrom = none) :=
  ⟨⟨(((up [16]).setb (K 0x3500 8) true).setn (K 0x3500 9) 48 |>.setn (K 0x3500 0xA) 1), by decide⟩,
   ⟨((((up [16]).setb (K 0x3500 8) true).setn (K 0x3500 9) 48).setPage 63 { tag := 7, state := 3 }), 63, by decide⟩,
   ⟨(((up [16]).setb (K 0x3500 8) true).setn (K 0x3500 9) 48 |>.setn (K 0x3500 0xA) 1), by decide⟩,
   ⟨(up [16]), by decide⟩,
   ⟨({ up [16] with pages := { splicePending := true } }), by decide⟩,
   ⟨({ (up [16]).setn (K 0x3500 0xB) 0 with pages := { splicePending := true, spliceFrom := some 0 } }), 0, by decide⟩,
   ⟨(((up [16]).setb (K 0x3500 8) true).setn (K 0x3500 9) 48 |>.setn (K 0x3500 0xA) 1), by decide⟩⟩

theorem test_meets_ScanWindows :
    (∃ (n : Nat) (s : State), s.predicting n = true ∧ (s.station n).sosOpen = false ∧
      (s.station n).predicted ≤ s.fine + 64 * s.n (sc n 2) ∧ (s.station n).image.going = false ∧
      (s.station n).image.closing = false ∧ s.n (K (0x3400 + 16 * n) 7) = (s.station n).band) ∧
    (∃ (n : Nat) (s : State), s.fine + 64 * s.n (sc n 2) < (s.station n).predicted) ∧
    (∃ (n : Nat) (s : State) (e : _), s.stationOn n = true ∧ (s.syncState n = 1 ∨ s.syncState n = 2) ∧
      (s.lockState (polygonOf n) = 2 ∨ s.lockState (polygonOf n) = 3) ∧ (s.station n).awaitEos = true ∧
      (s.station n).eosOpen = false ∧ s.predictedEos n = some e ∧ e ≤ s.fine + 64 * s.n (sc n 3)) ∧
    (∃ (n : Nat) (s : State), (s.station n).awaitEos = false) ∧
    (∃ (n : Nat) (s : State), (s.station n).eosOpen = false) ∧
    (∃ (n : Nat) (s : State) (e : _), s.stationOn n = true ∧ (s.station n).eosOpen = true ∧ s.predictedEos n = some e ∧
      e + 64 * s.n (sc n 3) ≤ s.fine) :=
  ⟨⟨6, (scanning 6), by decide⟩,
   ⟨6, ((scanning 6).setStation 6 { measured := 2, predicted := 2 ^ 40 }), by decide⟩,
   ⟨6, (((scanning 6).setn (pk 3 7) 3).setStation 6 { measured := 2, awaitEos := true, sos := some 4, interval := 4000 }), 5,
     by decide⟩,
   ⟨6, (scanning 6), by decide⟩,
   ⟨6, (scanning 6), by decide⟩,
   ⟨6, ({ (scanning 6).setStation 6 { measured := 2, eosOpen := true, sos := some 4, interval := 4000 } with stamp := 100000 }), 5, by decide⟩⟩

theorem test_meets_FacetMeasured :
    (∃ (n : Nat) (s : State), s.stationOn n = true ∧ (s.syncState n = 1 ∨ s.syncState n = 2) ∧ (s.station n).measured = 2 ∧
      (s.station n).sosOpen = true ∧ (s.station n).predicted + 64 * s.n (sc n 2) ≤ s.fine) ∧
    (∃ (n : Nat) (cs : List Crossing) (s : State), s.stationOn n = true ∧ (s.syncState n = 1 ∨ s.syncState n = 2) ∧
      (s.station n).measured < 2 ∧ s.n (sc n 5) ≤ (s.crossings n (s.n (sc n 2)) none cs).length ∧
      s.crossings n (s.n (sc n 2)) none cs ≠ []) ∧
    (∃ (n : Nat) (s : State), s.stationOn n = true ∧ s.syncState n = 0) ∧
    (∃ (n : Nat) (s : State), (s.station n).measured = 2 ∧ (s.station n).sosOpen = false) ∧
    (∃ (p : Nat) (s : State), s.due (tmSeek p) = true ∧ s.lockState p = 1) ∧
    (∃ (p : Nat) (s : State), s.lockState p ≠ 1) ∧
    (∃ (n : Nat) (s : State), s.due (tmBlank n) = true ∧ s.stationOn n = true ∧ s.lockState (polygonOf n) = 1) :=
  ⟨⟨6, ({ (scanning 6).setStation 6 { measured := 2, sosOpen := true } with stamp := 100000 }), by decide⟩,
   ⟨6, ((upFrom 0 8).map (fun k => ⟨k, 256, 100⟩)), (((up [11]).setn (sc 6 6) 1).setn (pk 3 7) 1), by decide⟩,
   ⟨6, (up [11]), by decide⟩,
   ⟨6, (scanning 6), by decide⟩,
   ⟨3, (((up [11]).setn (pk 3 7) 1).withDue (tmSeek 3)), by decide⟩,
   ⟨3, (({} : State)), by decide⟩,
   ⟨6, (((up [11]).setn (pk 3 7) 1).withDue (tmBlank 6)), by decide⟩⟩

theorem test_meets_StationChecks :
    (∃ (n : Nat) (s : State), s.stationOn n = true) ∧
    (∃ (n : Nat) (reading : Int) (s : State), s.stationOn n = true ∧ (reading < -400 ∨ 1500 < reading) ∧
      s.flag (sk n 7 7) = false) ∧
    (∃ (n : Nat) (reading : Int) (s : State), s.stationOn n = true ∧ (reading < -400 ∨ 1500 < reading) ∧
      s.flag (sk n 7 7) = false) ∧
    (∃ (n : Nat) (reading : Int) (s : State), s.stationOn n = true ∧ (reading < -400 ∨ 1500 < reading) ∧
      s.flag (sk n 7 7) = true) ∧
    (∃ (n : Nat) (reading : Int) (s : State), s.stationOn n = true ∧ -400 ≤ reading ∧ reading ≤ 1500 ∧
      s.flag (sk n 7 7) = false ∧ (s.station n).fresh = false ∧
      temperatureState (s.n (sk n 7 2)) reading (s.i (sk n 7 3)) (s.i (sk n 7 4)) (s.i (sk n 7 5)) (s.i (sk n 7 6)) = s.n (sk n 7 2)) ∧
    (∃ (n : Nat) (s : State), s.stationOn n = true ∧ (s.station n).lineEnd = true ∧ (s.station n).writing = false) ∧
    (∃ (n : Nat) (s : State), s.stationOn n = true ∧ (s.station n).lineEnd = false) ∧
    (∃ (n : Nat) (s : State), s.stationOn n = true ∧ s.boundaryHolds n = true ∧ s.flag (sk n 0 1) ≠ s.engaged n) ∧
    (∃ (n : Nat) (s : State), s.stationOn n = true ∧ s.boundaryHolds n = false) ∧
    (∃ (n : Nat) (beam : Nat) (s : State), s.stationOn n = true ∧ beam < 32) ∧
    (∃ (n : Nat) (driver : Nat) (s : State), s.stationOn n = true ∧ s.pollDue n driver = true) ∧
    (∃ (n : Nat) (driver : Nat) (s : State), s.stationOn n = true ∧ s.pollDue n driver = false) ∧
    (∃ (n : Nat) (s : State), s.stationOn n = true ∧ (s.syncState n = 1 ∨ s.syncState n = 2) ∧ s.laserOn n = true ∧
      (s.station n).porch = true ∧ (s.station n).eos + 640000 ≤ s.fine ∧ s.apcRoom n = 0) ∧
    (∃ (n : Nat) (s : State), s.stationOn n = true ∧ (s.syncState n = 1 ∨ s.syncState n = 2) ∧ s.laserOn n = true ∧
      (s.station n).porch = true ∧ (s.station n).eos + 640000 ≤ s.fine ∧ s.apcRoom n ≠ 0 ∧
      (s.station n).slot < s.beamsServed n ∧ s.beamsServed n ≤ (s.station n).slot + s.apcRoom n) ∧
    (∃ (n : Nat) (s : State), s.stationOn n = true ∧ (s.syncState n = 1 ∨ s.syncState n = 2) ∧ s.laserOn n = true ∧
      (s.station n).porch = true ∧ (s.station n).eos + 640000 ≤ s.fine ∧ s.apcRoom n ≠ 0 ∧
      (s.station n).slot < s.beamsServed n ∧ (s.station n).slot + s.apcRoom n < s.beamsServed n) ∧
    (∃ (n : Nat) (s : State), s.stationOn n = true ∧ (s.station n).porch = false) :=
  ⟨⟨6, (up [11]), by decide⟩,
   ⟨6, 1501, (up [11]), by decide⟩,
   ⟨6, (-401), (up [11]), by decide⟩,
   ⟨6, 1501, ((up [11]).setb (sk 6 7 7) true), by decide⟩,
   ⟨6, (-400), (((up [11]).setStation 6 { fresh := false })), by decide⟩,
   ⟨6, ((up [11]).setStation 6 { lineEnd := true }), by decide⟩,
   ⟨6, (up [11]), by decide⟩,
   ⟨6, ((up [11]).setb (sk 6 0 1) true), by decide⟩,
   ⟨6, ((up [11]).setPage 0 { state := 3, steps := [0, 0, 0, 0, 32] }), by decide⟩,
   ⟨6, 31, (up [11]), by decide⟩,
   ⟨6, 0, ({ up [11] with stamp := 10 ^ 9 }), by decide⟩,
   ⟨6, 0, (up [11]), by decide⟩,
   ⟨6, ({ ((scanning 6).setb (sk 6 0 4) true).setStation 6 { measured := 2, porch := true } with stamp := 10000 }), by decide⟩,
   ⟨6, ({ (((scanning 6).setb (sk 6 0 4) true).setn (sk 6 4 1) 1).setStation 6 { measured := 2, porch := true, predicted := 2 ^ 30 } with stamp := 10000 }), by decide⟩,
   ⟨6, ({ ((scanning 6).setb (sk 6 0 4) true).setStation 6 { measured := 2, porch := true, predicted := 1010000 * 2 } with stamp := 10000 }), by decide⟩,
   ⟨6, (up [11]), by decide⟩⟩

theorem test_meets_PressLanes :
    (∃ (code : Nat) (kind : Nat) (s : State), laneCode code = true ∧ s.laneServes code = true ∧
      (kind = 2 ∨ kind = 3 ∨ kind = 4)) ∧
    (∃ (code : Nat) (s : State), s.laneServes code = false) ∧
    (∃ (code : Nat) (result : Nat) (s : State), laneCode code = true ∧ s.laneState code = 1 ∧ result ≠ 0) ∧
    (∃ (code : Nat) (s : State), laneCode code = true ∧ s.laneState code = 1 ∧ code < 0x41) ∧
    (∃ (code : Nat) (s : State), laneCode code = true ∧ s.laneState code = 1 ∧ 0x41 ≤ code ∧ code < 0x81) ∧
    (∃ (code : Nat) (s : State), laneCode code = true ∧ s.laneState code = 1 ∧ 0x81 ≤ code) ∧
    (∃ (code : Nat) (s : State), s.laneState code ≠ 1) ∧
    (∃ (lane : Nat) (s : State), (s.lane lane).page = 0) ∧
    (∃ (s : State), s.press.inbound = []) :=
  ⟨⟨0x18, 4, (serving 0x18), by decide⟩,
   ⟨0x43, (serving 0x18), by decide⟩,
   ⟨0x48, 255, (({} : State).setLane 0x48 { state := 1 }), by decide⟩,
   ⟨0x18, (({} : State).setLane 0x18 { state := 1 }), by decide⟩,
   ⟨0x48, (({} : State).setLane 0x48 { state := 1 }), by decide⟩,
   ⟨0x88, (({} : State).setLane 0x88 { state := 1 }), by decide⟩,
   ⟨0x18, (serving 0x18), by decide⟩,
   ⟨0, (serving 0x18), by decide⟩,
   ⟨(serving 0x18), by decide⟩⟩

theorem test_meets_DecodedBlocks :
    (∃ (lane : Nat) (b : Block) (s : State), decodeCodes.contains lane = true ∧ s.laneServes lane = true ∧
      (s.lane lane).page ≠ 0 ∧ (s.page ((s.lane lane).page - 1)).block (s.lane lane).block = some b ∧ s.barredLane b.id = 0) ∧
    (∃ (lane : Nat) (s : State), decodeCodes.contains lane = true ∧ s.laneServes lane = true ∧ (s.lane lane).page ≠ 0 ∧
      (s.page ((s.lane lane).page - 1)).block (s.lane lane).block = none) ∧
    (∃ (lane : Nat) (x : Inbound) (s : State) (k : _), decodeCodes.contains lane = true ∧
      checkCodes.contains (0x40 + k) = true ∧ s.laneServes (0x40 + k) = true ∧ (s.lane (0x40 + k)).page ≠ 0 ∧
      s.press.inbound = [x] ∧ x.block.state = 2 ∧ x.block.id = (s.lane (0x40 + k)).block ∧ x.page = 0) ∧
    (∃ (lane : Nat) (b : Block) (s : State), decodeCodes.contains lane = true ∧ s.laneServes lane = true ∧
      (s.lane lane).page ≠ 0 ∧ (s.page ((s.lane lane).page - 1)).block (s.lane lane).block = some b ∧ s.barredLane b.id = 0 ∧
      (s.otherLanes (laneStation lane) lane).isEmpty = false) ∧
    (∃ (lane : Nat) (x : Inbound) (s : State) (k : _), decodeCodes.contains lane = true ∧
      checkCodes.contains (0x40 + k) = true ∧ s.laneServes (0x40 + k) = true ∧ (s.lane (0x40 + k)).page ≠ 0 ∧
      s.press.inbound = [x] ∧ x.block.state = 2 ∧ x.block.id = (s.lane (0x40 + k)).block ∧ x.page ≠ 0) :=
  ⟨⟨0x18, ({ id := 3, head := [0, 0, 0, 0], state := 3 }),
    ((({} : State).setLane 0x18 { state := 2, page := 64, block := 3 }).setPage 63 { state := 3, blocks := [{ id := 3, head := [0, 0, 0, 0], state := 3 }] }), by decide⟩,
   ⟨0x18, (({} : State).setLane 0x18 { state := 2, page := 64, block := 3 }), by decide⟩,
   ⟨0x18, ({ block := { id := 3, state := 2 } }),
     ({ ({} : State).setLane 0x41 { state := 2, page := 1, block := 3 } with press := { lanes := [(0x41, { state := 2, page := 1, block := 3 })], inbound := [{ block := { id := 3, state := 2 } }] } }), 1, by decide⟩,
   ⟨0x18, ({ id := 3, head := [0, 0, 0, 0], state := 3 }),
     ({ ({} : State) with press := { lanes := [(0x17, { state := 2 }), (0x18, { state := 2, page := 64, block := 3 })] } }.setPage 63 { state := 3, blocks := [{ id := 3, head := [0, 0, 0, 0], state := 3 }] }), by decide⟩,
   ⟨0x18, ({ page := 1, block := { id := 3, state := 2 } }),
     ({ ({} : State).setLane 0x41 { state := 2, page := 1, block := 3 } with press := { lanes := [(0x41, { state := 2, page := 1, block := 3 })], inbound := [{ page := 1, block := { id := 3, state := 2 } }] } }), 1, by decide⟩⟩

theorem test_meets_EncodeAndStreams :
    (∃ (lane : Nat) (ws : List Nat) (s : State), s.servesRing lane = true ∧ s.hasEntry (27 + lane) = true ∧ s.linkUp = true ∧
      field (wordAt ws 0) 63 56 = 2) ∧
    (∃ (lane : Nat) (ws : List Nat) (s : State), s.servesRing lane = true ∧ s.hasEntry (27 + lane) = true ∧ s.linkUp = true ∧
      field (wordAt ws 0) 63 56 = 1) ∧
    (∃ (lane : Nat) (r : Nat) (j : Job) (s : State), 1 ≤ lane ∧ lane ≤ 8 ∧ s.laneServes (0x80 + lane) = true ∧
      (s.inWork lane).bind s.jobRing = some (r, j)) ∧
    (∃ (lane : Nat) (r : Nat) (j : Job) (s : State), 1 ≤ lane ∧ lane ≤ 8 ∧ s.laneServes (0x80 + lane) = true ∧
      (s.inWork lane).bind s.jobRing = some (r, j) ∧ j.page = 0) ∧
    (∃ (lane : Nat) (r : Nat) (j : Job) (s : State), 1 ≤ lane ∧ lane ≤ 8 ∧ s.laneServes (0x80 + lane) = true ∧
      (s.inWork lane).bind s.jobRing = some (r, j) ∧ j.page ≠ 0) ∧
    (∃ (lane : Nat) (s : State), s.inWork lane = none) ∧
    (∃ (lane : Nat) (ws : List Nat) (host : HostMem) (u : State) (l : Nat) (cb : Bytes) (source : Bytes) (chain : List (Nat × Nat × Bool)), jobFieldsBad ws = false ∧ jobLengthsBad ws = false ∧ field (wordAt ws 0) 63 56 = 1 ∧ u.jobLane lane = some l ∧ bitOf (wordAt ws 0) 41 = true ∧ bitOf (wordAt ws 0) 42 = true ∧ hostRead host (wordAt ws 3) (16 * field (wordAt ws 2) 47 40) = some cb ∧ chainOf (field (wordAt ws 2) 47 40) cb = some chain ∧ hostRead host (wordAt ws 1) (field (wordAt ws 2) 31 0) = some source) ∧
    (∃ (lane : Nat) (ws : List Nat) (host : HostMem) (u : State) (l : Nat) (source : Bytes), jobFieldsBad ws = false ∧
      jobLengthsBad ws = false ∧ field (wordAt ws 0) 63 56 = 2 ∧ u.bandStatus ws = 0 ∧ u.jobLane lane = some l ∧
      bitOf (wordAt ws 0) 41 = true ∧ field (wordAt ws 2) 47 40 = 0 ∧
      hostRead host (wordAt ws 1) (field (wordAt ws 2) 31 0) = some source) ∧
    (∃ (k : Nat) (s : State), s.streamFed k = true) ∧
    (∃ (k : Nat) (s : State), s.streamFed k = true) ∧
    (∃ (s : State), s.streamFed 1 = true ∧ s.streamTurn 1 = true ∧
      (s.stream 1).parts.flatten.length + (s.stream 1).waiting.length < 1048576) ∧
    (∃ (k : Nat) (s : State), s.streamTurn k = false) ∧
    (∃ (k : Nat) (u : State), (u.stream k).parts.flatten ≠ []) ∧
    (∃ (k : Nat) (s : State), s.streamFed k = false) :=
  ⟨⟨6, ([2 * 2 ^ 56, 0, 0, 0, 0, 0, 0, 0]), ((waiting 33).setDomain 4 { state := 2 }), by decide⟩,
   ⟨6, ([2 ^ 56, 0, 0, 0, 0, 0, 0, 0]), ((waiting 33).setDomain 4 { state := 2 }), by decide⟩,
   ⟨8, 28, ({ id := 5 }), ({ serving 0x88 with press := { lanes := [(0x88, { state := 2 })], jobs := [(28, [{ id := 5 }])], turns := [(8, [5])] } }), by decide⟩,
   ⟨8, 28, ({ id := 5 }), ({ serving 0x88 with press := { lanes := [(0x88, { state := 2 })], jobs := [(28, [{ id := 5 }])], turns := [(8, [5])] } }), by decide⟩,
   ⟨8, 28, ({ id := 5, page := 1 }),
     ({ serving 0x88 with press := { lanes := [(0x88, { state := 2 })], jobs := [(28, [{ id := 5, page := 1 }])], turns := [(8, [5])] } }), by decide⟩,
   ⟨6, (({} : State)), by decide⟩,
   ⟨1, ([2 ^ 56 + 9 * 2 ^ 52 + 3 * 2 ^ 41, 4096, 2 ^ 40 + 2, 8192, 0, 0, 0, 0]), (⟨[(4096, [7, 7]), (8192,
     leBytes 8 4096 ++ leBytes 8 64)], true, true⟩), (serving 0x81), 1, (leBytes 8 4096 ++ leBytes 8 64), ([7, 7]), ([(4096,
     64, false)]), by decide⟩,
   ⟨1, ([2 * 2 ^ 56 + 9 * 2 ^ 52 + 2 ^ 41 + 2 ^ 32 + 7 * 2 ^ 16, 4096, 2, 0, 512, 0, 0, 0]), (⟨[(4096, [7, 7])], true, true⟩),
     (({ serving 0x81 with pages := { table := [(0, { tag := 7, state := 0, lines := 32, steps := [0, 0, 0, 0, 1, 0] })] } }).setn (sk 1 1 2) 2), 1, ([7, 7]), by decide⟩,
   ⟨1, feeding, by decide⟩,
   ⟨1, feeding, by decide⟩,
   ⟨feeding, by decide⟩,
   ⟨1, ({ feeding with press := { streams := [(1, { on := true, lane := 7, parts := [[]] }), (2, { on := true, lane := 7, parts := [[5]] })] } }), by decide⟩,
   ⟨1, ({ feeding with press := { lanes := [(0x87, { state := 2 })], streams := [(1, { on := true, lane := 7, parts := [[5]] })] } }), by decide⟩,
   ⟨2, (({} : State)), by decide⟩⟩

theorem test_meets_BandIngest :
    (∃ (ring : Nat) (ws : List Nat) (s : State), ingestRing ring = true ∧ s.ringPresent ring = true ∧ s.on 3 = true ∧
      s.inFetch = [] ∧ s.ingestTurn ring = true ∧ (s.ring ring).state = 1 ∧ (s.ring ring).open_ < (s.ring ring).used ∧
      s.linkUp = true ∧ field (wordAt ws 0) 63 56 ≠ 1) ∧
    (∃ (ring : Nat) (s : State), (s.ring ring).state ≠ 1) ∧
    (∃ (ring : Nat) (s : State), s.inFetch.find? (fun y => y.block.ring == ring) = none) ∧
    (∃ (ring : Nat) (x : Inbound) (s : State), s.inFetch.find? (fun y => y.block.ring == ring) = some x) ∧
    (∃ (ring : Nat) (host : HostMem) (x : Inbound) (s : State), s.inFetch.find? (fun y => y.block.ring == ring) = some x ∧
      hostRead host (x.block.address + 32) (x.block.length - 32) = none) ∧
    (∃ (ring : Nat) (host : HostMem) (x : Inbound) (body : Bytes) (s : State),
      s.inFetch.find? (fun y => y.block.ring == ring) = some x ∧
      hostRead host (x.block.address + 32) (x.block.length - 32) = some body) ∧
    (∃ (ring : Nat) (ws : List Nat) (host : HostMem) (s : State) (u : State) (hb : Bytes) (b : Block), ingestRing ring = true ∧
      s.ringPresent ring = true ∧ s.on 3 = true ∧ s.inFetch = [] ∧ s.ingestTurn ring = true ∧ (s.ring ring).state = 1 ∧
      (s.ring ring).open_ < (s.ring ring).used ∧ s.linkUp = true ∧ field (wordAt ws 0) 63 32 = 2 ^ 24 ∧ wordAt ws 3 = 0 ∧
      wordAt ws 4 = 0 ∧ wordAt ws 5 = 0 ∧ 33 ≤ wordAt ws 2 ∧ wordAt ws 2 ≤ 1048693 ∧ hostRead host (wordAt ws 1) 32 = some hb ∧
      leAt 0 3 hb = 0x19E55 ∧
      b = { ring := ring, entry := (s.ring ring).nextTaken, id := s.press.nextBlock, head := leWords 4 8 hb, length := wordAt ws 2, address := wordAt ws 1 } ∧ field (wordAt b.head 0) 31 25 = 0 ∧ field (wordAt b.head 2) 15 8 = 0 ∧ field (wordAt b.head 3) 63 40 = 0 ∧ field (wordAt b.head 3) 23 16 = 0 ∧ u = { s.setRing ring { s.ring ring with open_ := (s.ring ring).open_ + 1 } with press := { s.press with ingestLast := ring } } ∧ u.ingestStatus ring (field (wordAt ws 0) 15 0) (wordAt ws 2) b = 0) :=
  ⟨⟨16, ([0, 0, 0, 0, 0, 0, 0, 0]), ((waiting 16).setDomain 3 { state := 2 }), by decide⟩,
   ⟨16, (({} : State)), by decide⟩,
   ⟨16, (({} : State)), by decide⟩,
   ⟨16, fetching.2, fetching.1, by decide⟩,
   ⟨16, (⟨[], false, true⟩), fetching.2, fetching.1, by decide⟩,
   ⟨16, (⟨[(32, List.replicate 32 1)], true, true⟩), fetching.2, (List.replicate 32 1), fetching.1, by decide⟩,
   ⟨16, ([2 ^ 56, 4096, 33, 0, 0, 0, 0, 0]), (⟨[(4096, [0x55, 0x9E, 1, 0, 0, 0, 0,
     0] ++ List.replicate 8 0 ++ [1] ++ List.replicate 15 0)], true, true⟩),
     (((waiting 16).setDomain 3 { state := 2 }).setPage 0 { tag := 0, state := 0, lines := 32 }),
     ({ (((waiting 16).setDomain 3 { state := 2 }).setPage 0 { tag := 0, state := 0, lines := 32 }).setRing 16 { state := 1, log2 := 4, tail := 1, open_ := 1 } with press := { ingestLast := 16 } }), ([0x55, 0x9E, 1, 0, 0, 0, 0, 0] ++ List.replicate 8 0 ++ [1] ++ List.replicate 15 0), ({ ring := 16, head := [0x19E55, 0, 1, 0], length := 33, address := 4096 }), by decide⟩⟩

theorem test_meets_PositionWrites :
    (∃ (path : Path) (data : Bytes) (s : State) (n : _), 1 ≤ n ∧ n ≤ 8 ∧ s.Accepts path (0x3000 + n) 1 data) ∧
    (∃ (path : Path) (data : Bytes) (s : State) (n : _), 1 ≤ n ∧ n ≤ 8 ∧ s.Accepts path (0x300F + n) 3 data) ∧
    (∃ (path : Path) (data : Bytes) (s : State) (ch : _), ch ≤ 15 ∧ s.Accepts path 0x3030 (ch + 1) data) ∧
    (∃ (path : Path) (data : Bytes) (s : State), s.Accepts path 0x3050 6 data) ∧
    (∃ (path : Path) (data : Bytes) (s : State), s.Accepts path 0x2400 2 data) ∧
    (∃ (path : Path) (data : Bytes) (s : State), s.Accepts path 0x2401 7 data) ∧
    (∃ (n : Nat), 1 ≤ n ∧ n ≤ 8) :=
  ⟨⟨Path.ethercat, ([1]), allOn, 8, by unfold State.Accepts; decide⟩,
   ⟨Path.ethercat, (leBytes 8 (2 ^ 48 - 1)), allOn, 8, by unfold State.Accepts; decide⟩,
   ⟨Path.ethercat, (leBytes 4 0x80000000), allOn, 15, by unfold State.Accepts; decide⟩,
   ⟨Path.ethercat, (leBytes 4 7), allOn, by unfold State.Accepts; decide⟩,
   ⟨Path.ethercat, ([2]), allOn, by unfold State.Accepts; decide⟩,
   ⟨Path.ethercat, (leBytes 4 9), allOn, by unfold State.Accepts; decide⟩,
   ⟨8, by decide⟩⟩

theorem test_meets_ScanWrites :
    (∃ (path : Path) (data : Bytes) (s : State) (p : _), 1 ≤ p ∧ p ≤ 3 ∧ s.Accepts path (0x3100 + p) 1 data) ∧
    (∃ (path : Path) (data : Bytes) (s : State) (p : _), 1 ≤ p ∧ p ≤ 3 ∧ s.Accepts path (0x3100 + p) 0xE data) ∧
    (∃ (path : Path) (data : Bytes) (s : State) (p : _), 1 ≤ p ∧ p ≤ 3 ∧ s.Accepts path (0x3100 + p) 0xD data) ∧
    (∃ (path : Path) (data : Bytes) (s : State) (n : _), 1 ≤ n ∧ n ≤ 6 ∧ s.Accepts path (0x3300 + 16 * n) 1 data) ∧
    (∃ (path : Path) (data : Bytes) (s : State) (n : _), 1 ≤ n ∧ n ≤ 6 ∧ s.Accepts path (0x3300 + 16 * n) 3 data) ∧
    (∃ (path : Path) (data : Bytes) (s : State) (n : _), 1 ≤ n ∧ n ≤ 6 ∧ s.Accepts path (0x3304 + 16 * n) 4 data) ∧
    (∃ (path : Path) (data : Bytes) (s : State) (n : _), 1 ≤ n ∧ n ≤ 6 ∧ s.Accepts path (0x3304 + 16 * n) 3 data) ∧
    (∃ (u : State) (p : Nat), u.lockState p = 0 ∧ u.flag (pk p 1) = true ∧ u.on 12 = true ∧ u.driveStopped (p - 1) = false ∧
      u.atSpeed p = true ∧ (servedBy p).filter u.engaged ≠ []) ∧
    (∃ (u : State) (p : Nat), u.flag (pk p 1) = false ∧ u.lockState p ≠ 0) ∧
    (∃ (u : State) (p : Nat), u.identity p = 4) ∧
    (∃ (u : State) (n : Nat), u.stationOn n = true ∧ u.laserCause n = 0 ∧ u.n (sk n 7 2) ≠ 3) ∧
    (∃ (u : State) (n : Nat), u.stationOn n = true ∧ u.laserCause n ≠ 0) :=
  ⟨⟨Path.ethercat, ([1]), allOn, 3, by unfold State.Accepts; decide⟩,
   ⟨Path.ethercat, ([1]), allOn, 3, by unfold State.Accepts; decide⟩,
   ⟨Path.ethercat, (List.replicate 32 0), allOn, 3, by unfold State.Accepts; decide⟩,
   ⟨Path.ethercat, ([1]), allOn, 6, by unfold State.Accepts; decide⟩,
   ⟨Path.ethercat, ([0]), allOn, 6, by unfold State.Accepts; decide⟩,
   ⟨Path.ethercat, (leBytes 4 (2 ^ 32 - 1)), allOn, 6, by unfold State.Accepts; decide⟩,
   ⟨Path.ethercat, (leBytes 4 0), allOn, 6, by unfold State.Accepts; decide⟩,
   ⟨(((((up [12, 11]).setb (pk 3 1) true).setn (sk 6 0 2) 2).setb (dk 2 0 0xE) true).setn (dk 2 0 0xC) 3), 3, by decide⟩,
   ⟨(({} : State).setn (pk 3 7) 3), 3, by decide⟩,
   ⟨(({} : State).setn (pk 3 8) 4), 3, by decide⟩,
   ⟨({ (((up [11]).setb (sk 6 0 3) true).setn (sk 6 0 2) 2) with lid := { ilkOpen := 0 } }), 6, by decide⟩,
   ⟨(((up [11]).setn (sk 6 7 2) 3)), 6, by decide⟩⟩

theorem test_meets_StoreWrites :
    (∃ (path : Path) (data : Bytes) (s : State) (r : _), r ≤ 31 ∧ s.Accepts path (0x3510 + r) 1 data) ∧
    (∃ (path : Path) (data : Bytes) (s : State), s.Accepts path 0x3600 0xB data) ∧
    (∃ (path : Path) (data : Bytes) (s : State), s.Accepts path 0x3820 1 data) ∧
    (∃ (path : Path) (data : Bytes) (s : State), s.Accepts path 0x3820 2 data) ∧
    (∃ (path : Path) (data : Bytes) (s : State) (ch : _), 1 ≤ ch ∧ ch ≤ 16 ∧ s.Accepts path 0x3810 ch data) ∧
    (∃ (u : State) (n : Nat), u.waiters n = []) :=
  ⟨⟨Path.ethercat, [], allOn, 31, by unfold State.Accepts; decide⟩,
   ⟨Path.ethercat, ([1]), (allOn.setLane 1 { state := 2 }), by unfold State.Accepts; decide⟩,
   ⟨Path.ethercat, ([31]), allOn, by unfold State.Accepts; decide⟩,
   ⟨Path.ethercat, ([31]), (allOn.setLock 31 { owner := 4 }), by unfold State.Accepts; decide⟩,
   ⟨Path.ethercat, ([8]), allOn, 16, by unfold State.Accepts; decide⟩,
   ⟨(({} : State).setLock 31 { owner := 4, broken := true }), 31, by decide⟩⟩

theorem test_meets_DriveWrites :
    (∃ (path : Path) (data : Bytes) (s : State) (c : _), c ≤ 10 ∧ s.Accepts path (0x4100 + 16 * c) 1 data) ∧
    (∃ (path : Path) (data : Bytes) (s : State) (c : _), c ≤ 10 ∧ s.Accepts path (0x4100 + 16 * c) 0x14 data) ∧
    (∃ (path : Path) (data : Bytes) (s : State), s.Accepts path 0x410F 5 data) ∧
    (∃ (path : Path) (data : Bytes) (s : State), s.Accepts path 0x410F 9 data) ∧
    (∃ (u : State) (c : Nat) (new : Nat), c ≤ 10 ∧ u.driveState c ≠ new) ∧
    (∃ (u : State) (c : Nat), u.driveSlot c ≠ none ∧ u.driveOn c = true ∧ u.driveState c = 0 ∧ u.mayStart c = true ∧
      u.belowMinimum c (u.observed c) = true) ∧
    (∃ (u : State) (c : Nat), 3 ≤ c ∧ c ≤ 10 ∧ u.driveState c ≠ 7) ∧
    (∃ (u : State), u.drives.chopper = false) :=
  ⟨⟨Path.ethercat, ([1]), allOn, 10, by unfold State.Accepts; decide⟩,
   ⟨Path.ethercat, ([15]), allOn, 10, by unfold State.Accepts; decide⟩,
   ⟨Path.ethercat, ([1]), allOn, by unfold State.Accepts; decide⟩,
   ⟨Path.ethercat, ([1]), allOn, by unfold State.Accepts; decide⟩,
   ⟨(driving 10 3), 10, 7, by decide⟩,
   ⟨(((((up [13]).setn (lk 63 3) 0).setn (dk 10 1 5) 1000).setb (dk 10 0 1) true).setn (K 0x2100 0xB) 2 |>.seti (dk 10 0 3) 5000), 10, by decide⟩,
   ⟨(driving 10 3), 10, by decide⟩,
   ⟨{}, by decide⟩⟩

theorem test_meets_StepperWrites :
    (∃ (path : Path) (data : Bytes) (s : State) (n : _), 1 ≤ n ∧ n ≤ 12 ∧ s.Accepts path (0x43F0 + 16 * n) 1 data) ∧
    (∃ (path : Path) (data : Bytes) (s : State) (n : _), 1 ≤ n ∧ n ≤ 12 ∧ s.Accepts path (0x43F0 + 16 * n) 7 data) ∧
    (∃ (path : Path) (data : Bytes) (s : State) (n : _), 1 ≤ n ∧ n ≤ 12 ∧ s.Accepts path (0x43F0 + 16 * n) 6 data) ∧
    (∃ (path : Path) (data : Bytes) (s : State) (n : _), 1 ≤ n ∧ n ≤ 12 ∧ s.Accepts path (0x43F0 + 16 * n) 8 data) ∧
    (∃ (path : Path) (data : Bytes) (s : State) (n : _), 1 ≤ n ∧ n ≤ 12 ∧ s.Accepts path (0x43F0 + 16 * n) 9 data) ∧
    (∃ (path : Path) (data : Bytes) (s : State) (n : _), 1 ≤ n ∧ n ≤ 12 ∧ s.Accepts path (0x43F0 + 16 * n) 0xA data) ∧
    (∃ (u : State) (n : Nat), 1 ≤ n ∧ n ≤ 12 ∧ u.axisState n = 0 ∧ u.busLow = false) ∧
    (∃ (u : State) (n : Nat), 1 ≤ n ∧ n ≤ 12 ∧ u.axisState n ≠ 6) ∧
    (∃ (u : State) (n : Nat) (e : Nat) (m : Move), 1 ≤ n ∧ n ≤ 12 ∧ u.axisState n ≠ 2 ∧ u.moveOf n e 0 = some m) ∧
    (∃ (u : State) (n : Nat), u.axisState n = 2) ∧
    (∃ (u : State) (n : Nat) (old : Int) (new : Int), 1 ≤ n ∧ n ≤ 12 ∧ old ≠ new ∧ u.axisState n ≠ 2) ∧
    (∃ (u : State) (n : Nat), (u.axisState n = 3 ∨ u.axisState n = 4) ∧ (u.stepper n).waiting = 0 ∧ (u.stepper n).purpose ≠ 6 ∧
      (u.stepper n).purpose ≠ 7) ∧
    (∃ (u : State) (n : Nat), u.axisState n = 2) ∧
    (∃ (u : State) (n : Nat), 1 ≤ n ∧ n ≤ 12 ∧ u.axisState n ≠ 2 ∧ u.limitActive n true = false ∧
      u.limitActive n false = false ∧ inputActive (u.n (axk n 3 1)) u.pos.inputs = false) :=
  ⟨⟨Path.ethercat, ([1]), allOn, 12, by unfold State.Accepts; decide⟩,
   ⟨Path.ethercat, ([63]), (((allOn.setb (axk 12 0 1) true).setn (axk 12 0 2) 2).put (axk 12 4 1) (.dom (List.replicate 1008 0 ++ leBytes 8 1 ++ leBytes 8 (2 ^ 48)))), 12, by unfold State.Accepts; decide⟩,
   ⟨Path.ethercat, (leBytes 4 5), (((allOn.setb (axk 12 0 1) true).setn (axk 12 0 2) 2).setb (axk 12 0 3) true), 12,
     by unfold State.Accepts; decide⟩,
   ⟨Path.ethercat, ([1]), allOn, 12, by unfold State.Accepts; decide⟩,
   ⟨Path.ethercat, (leBytes 4 (2 ^ 32 - 1)), allOn, 12, by unfold State.Accepts; decide⟩,
   ⟨Path.ethercat, ([1]), (((allOn.setb (axk 12 0 1) true).setn (axk 12 0 2) 2).setn (axk 12 3 1) 1), 12,
     by unfold State.Accepts; decide⟩,
   ⟨((moving 12 0).setn (K 0x2100 0xB) 2), 12, by decide⟩,
   ⟨(moving 12 3), 12, by decide⟩,
   ⟨((moving 12 1).put (axk 12 4 1) (.dom (List.replicate 1008 0 ++ leBytes 8 1 ++ leBytes 8 (2 ^ 48)))), 12, 63, (⟨true,
     false, 0, fullSteps 1 0 0⟩), by decide⟩,
   ⟨(moving 12 2), 12, by decide⟩,
   ⟨(moving 12 1), 12, 0, (-5), by decide⟩,
   ⟨(moving 12 3), 12, by decide⟩,
   ⟨(moving 12 2), 12, by decide⟩,
   ⟨(moving 12 1), 12, by decide⟩⟩

theorem test_meets_LoopWrites :
    (∃ (path : Path) (data : Bytes) (s : State) (slot : _), slot ≤ 63 ∧ s.Accepts path (0x4800 + slot) 1 data) ∧
    (∃ (path : Path) (data : Bytes) (s : State) (slot : _), slot ≤ 63 ∧ s.Accepts path (0x4800 + slot) 7 data) ∧
    (∃ (path : Path) (data : Bytes) (s : State) (slot : _), slot ≤ 63 ∧ s.Accepts path (0x4800 + slot) 8 data) ∧
    (∃ (path : Path) (data : Bytes) (s : State) (h : _), 1 ≤ h ∧ h ≤ 20 ∧ s.Accepts path (0x4D00 + h) 1 data) ∧
    (∃ (path : Path) (data : Bytes) (s : State) (h : _), 1 ≤ h ∧ h ≤ 20 ∧ s.Accepts path (0x4D00 + h) 5 data) ∧
    (∃ (path : Path) (data : Bytes) (s : State) (z : _), 1 ≤ z ∧ z ≤ 3 ∧ s.Accepts path (0x4C00 + z) 1 data) ∧
    (∃ (u : State) (k : Nat), u.n (lk k 2) = 0 ∧ u.n (lk k 7) = 0) ∧
    (∃ (u : State) (k : Nat), u.n (lk k 2) = 0 ∧ u.n (lk k 7) ≠ 0) ∧
    (∃ (u : State) (k : Nat), u.n (lk k 2) = 1) ∧
    (∃ (u : State) (k : Nat), u.n (lk k 2) = 2) ∧
    (∃ (u : State) (h : Nat), 1 ≤ h ∧ h ≤ 20 ∧ u.hvState h = 0 ∧ u.on 15 = true) ∧
    (∃ (u : State) (h : Nat), 1 ≤ h ∧ h ≤ 20 ∧ u.hvState h ≠ 4) ∧
    (∃ (u : State) (h : Nat), 1 ≤ h ∧ h ≤ 20 ∧ (u.hvState h = 1 ∨ u.hvState h = 2)) ∧
    (∃ (u : State) (z : Nat), 1 ≤ z ∧ z ≤ 3 ∧ u.zoneState z ≠ 5) ∧
    (∃ (u : State) (z : Nat), 1 ≤ z ∧ z ≤ 3 ∧ u.zoneState z = 0 ∧ u.flag (zk z 1) = true ∧ u.on 15 = true ∧
      u.zoneSlot z ≠ none ∧ u.n (zk z 0xA) ≠ 0 ∧ u.n (K 0x3020 1) = 1 ∧ u.n (zk z 3) = 1) ∧
    (∃ (u : State) (z : Nat), 1 ≤ z ∧ z ≤ 3 ∧ u.zoneState z = 0 ∧ u.flag (zk z 1) = true ∧ u.on 15 = true ∧
      u.zoneSlot z ≠ none ∧ u.n (zk z 0xA) ≠ 0 ∧ u.n (K 0x3020 1) = 1 ∧ u.n (zk z 3) ≠ 1) ∧
    (∃ (u : State) (z : Nat), 1 ≤ z ∧ z ≤ 3 ∧ u.zoneState z = 0 ∧ u.flag (zk z 1) = true ∧ u.on 15 = true ∧
      u.zoneSlot z ≠ none ∧ u.n (zk z 0xA) ≠ 0 ∧ u.n (K 0x3020 1) ≠ 1) :=
  ⟨⟨Path.ethercat, ([1]), allOn, 63, by unfold State.Accepts; decide⟩,
   ⟨Path.ethercat, ([1]), allOn, 63, by unfold State.Accepts; decide⟩,
   ⟨Path.ethercat, (leBytes 4 0), allOn, 63, by unfold State.Accepts; decide⟩,
   ⟨Path.ethercat, ([1]), allOn, 20, by unfold State.Accepts; decide⟩,
   ⟨Path.ethercat, ([1]), allOn, 20, by unfold State.Accepts; decide⟩,
   ⟨Path.ethercat, ([1]), allOn, 3, by unfold State.Accepts; decide⟩,
   ⟨(({} : State).setn (lk 63 7) 0), 63, by decide⟩,
   ⟨(({} : State).setn (lk 63 7) 1), 63, by decide⟩,
   ⟨(triggered 1), 63, by decide⟩,
   ⟨(triggered 2), 63, by decide⟩,
   ⟨(up [15]), 20, by decide⟩,
   ⟨((up [15]).setn (hk 20 2) 2), 20, by decide⟩,
   ⟨((up [15]).setn (hk 20 2) 2), 20, by decide⟩,
   ⟨((up [15]).setn (zk 3 2) 2), 3, by decide⟩,
   ⟨(((((up [15]).setb (zk 3 1) true).setn (lk 0 3) 0x303).setn (zk 3 0xA) 2000).setn (K 0x3020 1) 1 |>.setn (zk 3 3) 1), 3,
     by decide⟩,
   ⟨(((((up [15]).setb (zk 3 1) true).setn (lk 0 3) 0x303).setn (zk 3 0xA) 2000).setn (K 0x3020 1) 1 |>.setn (zk 3 3) 0), 3,
     by decide⟩,
   ⟨(((((up [15]).setb (zk 3 1) true).setn (lk 0 3) 0x303).setn (zk 3 0xA) 2000).setn (K 0x3020 1) 0), 3, by decide⟩⟩

theorem test_meets_SupervisionWrites :
    (∃ (path : Path) (data : Bytes) (s : State), s.Accepts path 0x2040 1 data) ∧
    (∃ (path : Path) (data : Bytes) (s : State) (t : _), 1 ≤ t ∧ t ≤ 36 ∧ s.Accepts path (0x210F + t) 1 data) ∧
    (∃ (path : Path) (data : Bytes) (s : State), s.Accepts path 0x2200 9 data) ∧
    (∃ (path : Path) (data : Bytes) (s : State), s.Accepts path 0x2201 3 data) ∧
    (∃ (path : Path) (data : Bytes) (s : State), s.Accepts path 0x2210 1 data) ∧
    (∃ (path : Path) (data : Bytes) (s : State), s.Accepts path 0x2220 4 data) ∧
    (∃ (u : State) (pd : Nat), (u.domain pd).state = 0) ∧
    (∃ (u : State) (pd : Nat), (u.domain pd).state = 2) ∧
    (∃ (u : State) (pd : Nat), (u.domain pd).state = 4) :=
  ⟨⟨Path.ethercat, (leBytes 2 0x80E7), allOn, by unfold State.Accepts; decide⟩,
   ⟨Path.ethercat, ([1]), allOn, 24, by unfold State.Accepts; decide⟩,
   ⟨Path.ethercat, ([1]), (allOn.setn (K 0x2200 1) 2), by unfold State.Accepts; decide⟩,
   ⟨Path.ethercat, (List.replicate 40 0), allOn, by unfold State.Accepts; decide⟩,
   ⟨Path.ethercat, (allOn.bytes (K 0x2210 1)), allOn, by unfold State.Accepts; decide⟩,
   ⟨Path.ethercat, ([1]), allOn, by unfold State.Accepts; decide⟩,
   ⟨{}, 16, by decide⟩,
   ⟨(up [16]), 16, by decide⟩,
   ⟨(({} : State).setDomain 16 { state := 4 }), 16, by decide⟩⟩

theorem test_meets_TrustWrites :
    (∃ (path : Path) (data : Bytes) (s : State), s.Accepts path 0x2300 0xC data) ∧
    (∃ (path : Path) (data : Bytes) (s : State), s.Accepts path 0x2300 0xB data) ∧
    (∃ (path : Path) (data : Bytes) (s : State), s.Accepts path 0x2440 2 data) ∧
    (∃ (path : Path) (data : Bytes) (s : State), s.Accepts path 0x2011 1 data) ∧
    (∃ (path : Path) (data : Bytes) (s : State), s.Accepts path 0x2011 2 data) ∧
    (∃ (path : Path) (data : Bytes) (s : State) (sub : _), 1 ≤ sub ∧ sub ≤ 2 ∧ s.Accepts path 0x2420 sub data) ∧
    (∃ (path : Path) (data : Bytes) (s : State) (sub : _), 1 ≤ sub ∧ sub ≤ 2 ∧ s.Accepts path 0x2420 sub data) ∧
    (∃ (path : Path) (data : Bytes) (s : State), s.Accepts path 0x2420 4 data) ∧
    (∃ (mode : Nat), mode = 1) :=
  ⟨⟨Path.ethercat, ([1]), ({ allOn with twin := {} }), by unfold State.Accepts; decide⟩,
   ⟨Path.ethercat, ([2]), (allOn.setUnit 2 { healthy := true }), by unfold State.Accepts; decide⟩,
   ⟨Path.ethercat, (List.replicate 32 7), allOn, by unfold State.Accepts; decide⟩,
   ⟨Path.ethercat, (leBytes 4 1952805746), allOn, by unfold State.Accepts; decide⟩,
   ⟨Path.ethercat, (leBytes 4 1668899696), allOn, by unfold State.Accepts; decide⟩,
   ⟨Path.ethercat, ([0]), allOn, 1, by unfold State.Accepts; decide⟩,
   ⟨Path.ethercat, (List.replicate 192 0), allOn, 2, by unfold State.Accepts; decide⟩,
   ⟨Path.ethercat, ([0]), allOn, by unfold State.Accepts; decide⟩,
   ⟨1, by decide⟩⟩

theorem test_meets_FabricAndScrub :
    (∃ (input : Nat) (address : Nat) (length : Nat) (revokers : List Nat) (s : State), s.on 3 = true ∧
      s.transactionGood input address length = true ∧ revokersGood input revokers = true) ∧
    (∃ (input : Nat) (address : Nat) (length : Nat) (ecc : Nat) (error : Nat) (revokers : List Nat) (write : Bool) (s : State),
      s.on 3 = true ∧ s.transactionGood input address length = true ∧ revokersGood input revokers = true ∧ s.fabric.marks = [] ∧
      s.lid.target = 0 ∧ ecc = 1 ∧ (granulesOf address length).contains (error / 64) = true ∧
      (write = false ∨ wholeGranule address length (error / 64) = false)) ∧
    (∃ (input : Nat) (address : Nat) (length : Nat) (error : Nat) (revokers : List Nat) (write : Bool) (s : State),
      s.on 3 = true ∧ s.transactionGood input address length = true ∧ revokersGood input revokers = true ∧ s.fabric.marks = [] ∧
      s.lid.target = 0 ∧ write = true ∧ wholeGranule address length (error / 64) = true) ∧
    (∃ (input : Nat) (address : Nat) (length : Nat) (ecc : Nat) (error : Nat) (revokers : List Nat) (write : Bool) (s : State),
      s.on 3 = true ∧ s.transactionGood input address length = true ∧ revokersGood input revokers = true ∧
      (input = 7 ∨ input = 8) ∧ s.on 7 = true ∧ s.n (K 0x3810 0x11) = 0 ∧ ecc = 2 ∧
      (granulesOf address length).contains (error / 64) = true ∧ write = false) ∧
    (∃ (input : Nat) (address : Nat) (length : Nat) (revokers : List Nat) (s : State), s.on 3 = true ∧
      (s.transactionGood input address length = false ∨ revokersGood input revokers = false)) ∧
    (∃ (address : Nat) (s : State), s.on 3 = true ∧ s.fabric.scrubbed + 1 < granules ∧ address / 64 = s.fabric.scrubbed) ∧
    (∃ (address : Nat) (ecc : Nat) (s : State), s.on 3 = true ∧ s.fabric.scrubbed + 1 = granules ∧
      address / 64 = s.fabric.scrubbed ∧ s.fabric.late = false ∧ ecc = 0 ∧ s.mark s.fabric.scrubbed = 0) ∧
    (∃ (address : Nat) (s : State), s.on 3 = true ∧ (s.fabric.scrubbed = granules ∨ address / 64 ≠ s.fabric.scrubbed)) ∧
    (∃ (s : State), s.on 3 = true ∧ s.due tmScrub = true ∧ s.fabric.scrubbed < granules) ∧
    (∃ (s : State), s.on 3 = true ∧ s.due tmScrub = true ∧ s.fabric.scrubbed = granules) :=
  ⟨⟨4, 0x7FFFFFFC0, 64, ([15, 14, 5]), (up [3]), by decide⟩,
   ⟨15, 0x7FFFFFFC0, 64, 1, 0x7FFFFFFC5, (([] : List Nat)), false, (up [3]), by decide⟩,
   ⟨15, 0x7FFFFFFC0, 64, 0x7FFFFFFC5, (([] : List Nat)), true, (up [3]), by decide⟩,
   ⟨8, 0x7FFFFFFC0, 64, 2, 0x7FFFFFFC5, (([] : List Nat)), false, (up [3, 7]), by decide⟩,
   ⟨15, 0x7FFFFFFC0, 65, (([] : List Nat)), (up [3]), by decide⟩,
   ⟨(64 * granules - 65), ({ up [3] with fabric := { scrubbed := granules - 2 } }), by decide⟩,
   ⟨(64 * granules - 64), 0, ({ up [3] with fabric := { scrubbed := granules - 1 } }), by decide⟩,
   ⟨0x7FFFFFFC0, ({ up [3] with fabric := { scrubbed := granules } }), by decide⟩,
   ⟨({ up [3] with fabric := { scrubbed := granules - 1 } } |>.withDue tmScrub), by decide⟩,
   ⟨({ up [3] with fabric := { scrubbed := granules } } |>.withDue tmScrub), by decide⟩⟩

theorem test_meets_LadleJobs :
    (∃ (ch : Nat) (ws : List Nat) (s : State), s.channelTakes ch = true ∧ (s.ring (ch - 1)).state = 1 ∧
      (s.ring (ch - 1)).open_ < (s.ring (ch - 1)).used ∧ s.linkUp = true ∧ LadleJob.opcode { words := ws } = 1) ∧
    (∃ (ch : Nat) (ws : List Nat) (s : State), s.channelTakes ch = true ∧ (s.ring (ch - 1)).state = 1 ∧
      (s.ring (ch - 1)).open_ < (s.ring (ch - 1)).used ∧ s.linkUp = true ∧ LadleJob.opcode { words := ws } = 2) ∧
    (∃ (ch : Nat) (ws : List Nat) (s : State), s.channelTakes ch = true ∧ (s.ring (ch - 1)).state = 1 ∧
      (s.ring (ch - 1)).open_ < (s.ring (ch - 1)).used ∧ s.linkUp = true ∧ LadleJob.opcode { words := ws } ≠ 1 ∧
      LadleJob.opcode { words := ws } ≠ 2) ∧
    (∃ (ch : Nat) (s : State), s.channelTakes ch = true ∧ (s.ring (ch - 1)).state = 1 ∧
      (s.ring (ch - 1)).open_ < (s.ring (ch - 1)).used ∧ s.linkUp = true) ∧
    (∃ (ws : List Nat), LadleJob.fieldsBad { words := ws } = true) ∧
    (∃ (ws : List Nat), LadleJob.fieldsBad { words := ws } = false ∧ LadleJob.countBad { words := ws } = true) ∧
    (∃ (ws : List Nat) (s : State), LadleJob.fieldsBad { words := ws } = false ∧ LadleJob.countBad { words := ws } = false ∧
      LadleJob.opcode { words := ws } = 2 ∧ s.pagesInFlight ≠ 0) ∧
    (∃ (ch : Nat) (ws : List Nat) (s : State), LadleJob.fieldsBad { words := ws } = false ∧
      LadleJob.countBad { words := ws } = false ∧ (LadleJob.opcode { words := ws } ≠ 2 ∨ s.pagesInFlight = 0) ∧
      LadleJob.flag { words := ws } 2 = true ∧ (s.lock (LadleJob.lockNumber { words := ws })).owner ≠ 0 ∧
      s.ladleJob ch = none) ∧
    (∃ (ws : List Nat), LadleJob.fieldsBad { words := ws } = false ∧ LadleJob.countBad { words := ws } = false ∧
      LadleJob.opcode { words := ws } = 0 ∧ LadleJob.flag { words := ws } 2 = false) ∧
    (∃ (ws : List Nat) (s : State), LadleJob.fieldsBad { words := ws } = false ∧ LadleJob.countBad { words := ws } = false ∧
      (LadleJob.opcode { words := ws } = 1 ∨ LadleJob.opcode { words := ws } = 2 ∧ s.pagesInFlight = 0) ∧
      LadleJob.flag { words := ws } 2 = false ∧ LadleJob.flag { words := ws } 3 = false) ∧
    (∃ (ws : List Nat) (s : State), LadleJob.fieldsBad { words := ws } = false ∧ LadleJob.countBad { words := ws } = false ∧
      (LadleJob.opcode { words := ws } = 1 ∨ LadleJob.opcode { words := ws } = 2 ∧ s.pagesInFlight = 0) ∧
      LadleJob.flag { words := ws } 2 = false ∧ LadleJob.flag { words := ws } 3 = true ∧
      LadleJob.paceSource { words := ws } = 1) ∧
    (∃ (ws : List Nat) (s : State), LadleJob.fieldsBad { words := ws } = false ∧ LadleJob.countBad { words := ws } = false ∧
      LadleJob.opcode { words := ws } = 0 ∧ LadleJob.flag { words := ws } 2 = true ∧
      (s.lock (LadleJob.lockNumber { words := ws })).owner = 0) ∧
    (∃ (ch : Nat) (u : State) (v : State) (x : LadleJob) (y : LadleJob) (budget : Nat), u.ladleJob ch = some x ∧
      State.moveJob (2 * x.transfers + 2) u ch x budget = (v, .ok y)) ∧
    (∃ (u : State) (x : LadleJob) (budget : Nat), x.finished = false ∧ x.left ≠ [] ∧ x.left.length ≤ budget ∧ x.down = false ∧
      u.writeBlocked (x.dest + (x.size - x.left.length)) x.left.length = none ∧ x.destHost = false ∧
      x.dest + x.size ≤ 0x800000000 ∧ 0x7C0000000 ≤ x.dest ∧ x.left.length ≤ x.size) ∧
    (∃ (ch : Nat) (j : LadleJob) (s : State), s.ladleJob ch = some j ∧ j.finished = true ∧ j.flag 2 = false) ∧
    (∃ (ch : Nat) (j : LadleJob) (s : State), s.ladleJob ch = some j ∧ j.finished = true ∧ j.flag 2 = true ∧
      (s.lock j.lockNumber).owner = ladleOwner ch ∧ s.waiters j.lockNumber = [] ∧ s.fabric.lockQueue = []) ∧
    (∃ (ch : Nat) (j : LadleJob) (s : State), s.ladleJob ch = some j ∧ j.finished = false) ∧
    (∃ (ch : Nat) (j : LadleJob) (s : State), s.ladleJob ch = some j ∧ j.waiting = true ∧ s.due (tmLockWait ch) = true) ∧
    (∃ (ch : Nat) (j : LadleJob) (s : State), s.ladleJob ch = some j ∧ j.waiting = false) :=
  ⟨⟨15, ([2 ^ 56]), (waiting 14), by decide⟩,
   ⟨15, ([2 * 2 ^ 56]), ((waiting 14)), by decide⟩,
   ⟨15, ([0]), ((waiting 14)), by decide⟩,
   ⟨15, ((waiting 14)), by decide⟩,
   ⟨([3 * 2 ^ 56]), by decide⟩,
   ⟨([2 ^ 56]), by decide⟩,
   ⟨([2 * 2 ^ 56, 0, 2 ^ 32 + 1]), (({} : State).setPage 0 { state := 3 }), by decide⟩,
   ⟨15, ([31 * 2 ^ 32 + 2 ^ 50]), (({} : State).setLock 31 { owner := 4 }), by decide⟩,
   ⟨([0]), by decide⟩,
   ⟨([2 ^ 56, 0, 2]), {}, by decide⟩,
   ⟨([2 ^ 56 + 2 ^ 51 + 2 ^ 24, 0, 2, 0, 0, 1000 * 2 ^ 32 + 64]), {}, by decide⟩,
   ⟨([31 * 2 ^ 32 + 2 ^ 50]), {}, by decide⟩,
   ⟨15, ({ ({} : State) with fabric := { jobs := [(15, some {})] } }),
     ((State.moveJob 2 { ({} : State) with fabric := { jobs := [(15, some {})] } } 15 {} 64).1), {},
     (match (State.moveJob 2 { ({} : State) with fabric := { jobs := [(15, some {})] } } 15 {} 64).2 with | .ok z => z | _ => {}), 64, by decide⟩,
   ⟨{}, ({ left := [1, 2], dest := 0x7C0000000, size := 2 }), 64, by decide⟩,
   ⟨15, ({ words := [0], finished := true }),
     ({ ({} : State) with fabric := { jobs := [(15, some { words := [0], finished := true })] } }), by decide⟩,
   ⟨15, ({ words := [31 * 2 ^ 32 + 2 ^ 50], finished := true }),
     (({ ({} : State) with fabric := { jobs := [(15, some { words := [31 * 2 ^ 32 + 2 ^ 50], finished := true })] } }).setLock 31 { owner := 0x1F }), by decide⟩,
   ⟨15, {}, ({ ({} : State) with fabric := { jobs := [(15, some {})] } }), by decide⟩,
   ⟨15, ({ waiting := true }),
     (({ ({} : State) with fabric := { jobs := [(15, some { waiting := true })] } }).withDue (tmLockWait 15)), by decide⟩,
   ⟨15, {}, ({ ({} : State) with fabric := { jobs := [(15, some {})] } }), by decide⟩⟩

theorem test_meets_LadleStops :
    (∃ (ch : Nat) (j : LadleJob) (s : State), s.ladleJob ch = some j ∧ j.flag 3 = true ∧ j.waiting = false ∧
      j.finished = false ∧ j.paceSource = 1 ∧ s.due (tmPace ch) = true) ∧
    (∃ (ch : Nat) (j : LadleJob) (s : State), s.ladleJob ch = some j ∧ j.paceSource = 1 ∧ s.due (tmPace ch) = false) ∧
    (∃ (ch : Nat) (j : LadleJob) (s : State), s.ladleJob ch = some j ∧ j.flag 3 = true ∧ j.waiting = false ∧
      j.finished = false ∧ j.paceSource ≠ 1 ∧ s.paceInput j.paceSource = true) ∧
    (∃ (ch : Nat) (j : LadleJob) (s : State), s.ladleJob ch = some j ∧ j.paceSource ≠ 1 ∧ s.paceInput j.paceSource = false) ∧
    (∃ (kind : Nat) (s : State), s.on 7 = true ∧ s.n (K 0x3810 0x11) = 0 ∧ (kind = 2 ∨ kind = 4 ∨ kind = 5)) ∧
    (∃ (s : State), s.n (K 0x3810 0x11) ≠ 0) :=
  ⟨⟨15, ({ words := [2 ^ 51 + 2 ^ 24] }),
    (({ ({} : State) with fabric := { jobs := [(15, some { words := [2 ^ 51 + 2 ^ 24] })] } }).withDue (tmPace 15)), by decide⟩,
   ⟨15, ({ words := [2 ^ 51 + 2 ^ 24] }),
     ({ ({} : State) with fabric := { jobs := [(15, some { words := [2 ^ 51 + 2 ^ 24] })] } }), by decide⟩,
   ⟨15, ({ words := [2 ^ 51 + 0x11 * 2 ^ 24] }),
     ({ ({} : State) with fabric := { jobs := [(15, some { words := [2 ^ 51 + 0x11 * 2 ^ 24] })] }, pos := { inputs := 1 } }),
     by decide⟩,
   ⟨15, ({ words := [2 ^ 51 + 0x11 * 2 ^ 24] }),
     ({ ({} : State) with fabric := { jobs := [(15, some { words := [2 ^ 51 + 0x11 * 2 ^ 24] })] } }), by decide⟩,
   ⟨5, ({ up [7] with fabric := { jobs := [(15, some {})] } }), by decide⟩,
   ⟨((up [7]).setn (K 0x3810 0x11) 1), by decide⟩⟩

theorem test_meets_MemoryReadsBack :
    (∃ (address : Nat) (b : Bytes) (a : _), (a < address ∨ address + b.length ≤ a)) ∧
    (∃ (address : Nat) (b : Bytes) (a : _), (a < address ∨ address + b.length ≤ a)) ∧
    (∃ (s : State), Memory.wf s.fabric.window = true) ∧
    (∃ (address : Nat) (b : Bytes) (a : _), (a < address ∨ address + b.length ≤ a)) ∧
    (∃ (s : State), Memory.wf s.fabric.host = true) :=
  ⟨⟨4, ([1, 2]), 3, by decide⟩,
   ⟨4, ([1, 2]), 6, by decide⟩,
   ⟨(({} : State)), by decide⟩,
   ⟨4, ([1, 2]), 3, by decide⟩,
   ⟨(({} : State)), by decide⟩⟩

theorem test_meets_LinkAndRings :
    (∃ (r : Nat) (word : Nat) (part : Nat) (value : Nat) (w : Nat) (s : State), r < 64 ∧
      w = s.descriptorWord r word part value ∧ s.linkUp = true ∧ (s.ring r).state = 0 ∧ word = 0) ∧
    (∃ (r : Nat) (word : Nat) (part : Nat) (value : Nat) (w : Nat) (s : State), r < 64 ∧
      w = s.descriptorWord r word part value ∧ s.linkUp = true ∧ (s.ring r).state = 0 ∧ word = 1) ∧
    (∃ (r : Nat) (word : Nat) (part : Nat) (value : Nat) (w : Nat) (s : State), r < 64 ∧
      w = s.descriptorWord r word part value ∧ s.linkUp = true ∧ (s.ring r).state = 0 ∧ word = 2) ∧
    (∃ (r : Nat) (word : Nat) (part : Nat) (value : Nat) (w : Nat) (s : State), r < 64 ∧
      w = s.descriptorWord r word part value ∧ part = 0) ∧
    (∃ (r : Nat) (word : Nat) (part : Nat) (value : Nat) (w : Nat) (s : State), r < 64 ∧
      w = s.descriptorWord r word part value ∧ part = 1) ∧
    (∃ (r : Nat) (word : Nat) (part : Nat) (value : Nat) (w : Nat) (s : State), r < 64 ∧
      w = s.descriptorWord r word part value ∧ s.linkUp = true ∧ (s.ring r).state ≠ 0 ∧ word ≤ 2) ∧
    (∃ (r : Nat) (word : Nat) (part : Nat) (value : Nat) (w : Nat) (s : State), r < 64 ∧
      w = s.descriptorWord r word part value ∧ (2 < word ∨ s.linkUp = false)) ∧
    (∃ (r : Nat) (word : Nat) (part : Nat) (value : Nat) (w : Nat) (s : State), r < 64 ∧
      w = s.descriptorWord r word part value ∧ s.linkUp = true ∧ (s.ring r).state = 0 ∧ word = 2 ∧ bitOf w 63 = true ∧
      (s.setRing r ((s.ring r).withWord2 w)).enableGood r = true) ∧
    (∃ (r : Nat) (word : Nat) (part : Nat) (value : Nat) (w : Nat) (s : State), r < 64 ∧
      w = s.descriptorWord r word part value ∧ s.linkUp = true ∧ (s.ring r).state = 0 ∧ word = 2 ∧ bitOf w 63 = true ∧
      (s.setRing r ((s.ring r).withWord2 w)).enableGood r = false ∧ s.ringPresent r = true) ∧
    (∃ (r : Nat) (word : Nat) (part : Nat) (value : Nat) (w : Nat) (s : State), r < 64 ∧
      w = s.descriptorWord r word part value ∧ s.linkUp = true ∧ ((s.ring r).state = 1 ∨ (s.ring r).state = 3) ∧ word = 2 ∧
      bitOf w 63 = false) ∧
    (∃ (r : Nat) (word : Nat) (part : Nat) (value : Nat) (w : Nat) (s : State), r < 64 ∧
      w = s.descriptorWord r word part value ∧ (s.ring r).state = 2 ∧ (s.ring r).open_ = 0) ∧
    (∃ (r : Nat) (word : Nat) (part : Nat) (value : Nat) (w : Nat) (s : State), r < 64 ∧
      w = s.descriptorWord r word part value ∧ ((s.ring r).state ≠ 2 ∨ (s.ring r).open_ ≠ 0)) ∧
    (∃ (r : Nat) (word : Nat) (part : Nat) (value : Nat) (w : Nat) (s : State), r < 64 ∧
      w = s.descriptorWord r word part value ∧ s.linkUp = true ∧ (s.ring r).state = 1 ∧ moduleToHost r = false ∧
      (s.ring r).used + (value % 2 ^ 32 + 2 ^ 32 - (s.ring r).tail) % 2 ^ 32 ≤ (s.ring r).size) ∧
    (∃ (r : Nat) (word : Nat) (part : Nat) (value : Nat) (w : Nat) (s : State), r < 64 ∧
      w = s.descriptorWord r word part value ∧ s.linkUp = true ∧ (s.ring r).state = 1 ∧ moduleToHost r = false ∧
      (s.ring r).size < (s.ring r).used + (value % 2 ^ 32 + 2 ^ 32 - (s.ring r).tail) % 2 ^ 32) ∧
    (∃ (r : Nat) (word : Nat) (part : Nat) (value : Nat) (w : Nat) (s : State), r < 64 ∧
      w = s.descriptorWord r word part value ∧ s.linkUp = true ∧ (s.ring r).state = 1 ∧ moduleToHost r = true ∧
      (s.ring r).used < (value % 2 ^ 32 + 2 ^ 32 - (s.ring r).head) % 2 ^ 32) ∧
    (∃ (r : Nat) (word : Nat) (part : Nat) (value : Nat) (w : Nat) (s : State), r < 64 ∧
      w = s.descriptorWord r word part value ∧ s.linkUp = true ∧ (s.ring r).state = 1 ∧ moduleToHost r = true ∧
      (value % 2 ^ 32 + 2 ^ 32 - (s.ring r).head) % 2 ^ 32 ≤ (s.ring r).used) ∧
    (∃ (r : Nat) (word : Nat) (part : Nat) (value : Nat) (w : Nat) (s : State), r < 64 ∧
      w = s.descriptorWord r word part value ∧ (s.ring r).state ≠ 1) ∧
    (∃ (r : Nat) (word : Nat) (part : Nat) (value : Nat) (w : Nat) (s : State), r < 64 ∧
      w = s.descriptorWord r word part value ∧ s.due (tmMsix r) = true ∧ s.masters = true) ∧
    (∃ (r : Nat) (word : Nat) (part : Nat) (value : Nat) (w : Nat) (s : State), r < 64 ∧
      w = s.descriptorWord r word part value ∧ s.due (tmMsix r) = true ∧ s.masters = true ∧ (s.ring r).masked = false ∧
      r ≠ 63) ∧
    (∃ (r : Nat) (word : Nat) (part : Nat) (value : Nat) (w : Nat) (s : State), r < 64 ∧
      w = s.descriptorWord r word part value ∧ s.due (tmMsix r) = false) ∧
    (∃ (r : Nat) (word : Nat) (part : Nat) (value : Nat) (w : Nat) (s : State), r < 64 ∧
      w = s.descriptorWord r word part value ∧ s.linkUp = true ∧ (s.ring r).msixPending = false) ∧
    (∃ (r : Nat) (word : Nat) (part : Nat) (value : Nat) (control : Nat) (w : Nat) (s : State), r < 64 ∧
      w = s.descriptorWord r word part value ∧ s.linkUp = true ∧ (s.ring r).msixPending = true ∧ r ≠ 63 ∧ s.masters = true ∧
      bitOf control 0 = false) ∧
    (∃ (r : Nat) (word : Nat) (part : Nat) (value : Nat) (w : Nat) (s : State) (t0 : _) (l : _), r < 64 ∧
      w = s.descriptorWord r word part value ∧ moduleToHost r = true ∧ (s.ring r).state = 1 ∧
      (s.ring r).size ≤ (s.ring r).used ∧ (s.ring r).overrun = false ∧ (s.ring r).told = t0 :: l ∧
      t0 + s.n (K 0x3830 6) * 1000 < s.stamp) ∧
    (∃ (r : Nat) (word : Nat) (part : Nat) (value : Nat) (w : Nat) (s : State), r < 64 ∧
      w = s.descriptorWord r word part value ∧ ((s.ring r).overrun = true ∨ moduleToHost r = false)) ∧
    (∃ (r : Nat) (word : Nat) (part : Nat) (value : Nat) (speed : Nat) (width : Nat) (w : Nat) (s : State), r < 64 ∧
      w = s.descriptorWord r word part value ∧ s.on 7 = true ∧ 1 ≤ speed ∧ speed ≤ 5 ∧ (width = 1 ∨ width = 2 ∨ width = 4)) ∧
    (∃ (r : Nat) (word : Nat) (part : Nat) (value : Nat) (speed : Nat) (width : Nat) (w : Nat) (s : State), r < 64 ∧
      w = s.descriptorWord r word part value ∧ s.on 7 = true ∧ 1 ≤ speed ∧ speed ≤ 5 ∧ (width = 1 ∨ width = 2 ∨ width = 4) ∧
      s.flag (K 0x3830 1) = false) ∧
    (∃ (r : Nat) (word : Nat) (part : Nat) (value : Nat) (speed : Nat) (width : Nat) (w : Nat) (s : State), r < 64 ∧
      w = s.descriptorWord r word part value ∧ s.on 7 = true ∧ s.flag (K 0x3830 1) = true ∧ s.n (K 0x3830 2) = speed ∧
      s.n (K 0x3830 3) = width) ∧
    (∃ (r : Nat) (word : Nat) (part : Nat) (value : Nat) (cause : Nat) (w : Nat) (s : State), r < 64 ∧
      w = s.descriptorWord r word part value ∧ s.linkUp = true ∧ 1 ≤ cause ∧ cause ≤ 4) ∧
    (∃ (r : Nat) (word : Nat) (part : Nat) (value : Nat) (cause : Nat) (w : Nat) (s : State), r < 64 ∧
      w = s.descriptorWord r word part value ∧ s.linkUp = true ∧ 1 ≤ cause ∧ cause ≤ 4) ∧
    (∃ (r : Nat) (word : Nat) (part : Nat) (value : Nat) (cause : Nat) (w : Nat) (s : State), r < 64 ∧
      w = s.descriptorWord r word part value ∧ s.linkUp = true ∧ 1 ≤ cause ∧ cause ≤ 4 ∧ s.fabric.lockQueue = []) ∧
    (∃ (r : Nat) (word : Nat) (part : Nat) (value : Nat) (w : Nat) (s : State), r < 64 ∧
      w = s.descriptorWord r word part value ∧ s.linkUp = false) :=
  ⟨⟨63, 0, 0, (2 ^ 64 - 1), ((linked).descriptorWord (63) (0) (0) (2 ^ 64 - 1)), linked, by decide⟩,
   ⟨63, 1, 0, (2 ^ 64 - 1), ((linked).descriptorWord (63) (1) (0) (2 ^ 64 - 1)), linked, by decide⟩,
   ⟨63, 2, 0, 31, ((linked).descriptorWord (63) (2) (0) (31)), linked, by decide⟩,
   ⟨63, 0, 0, (2 ^ 64 + 5), ((linked).descriptorWord (63) (0) (0) (2 ^ 64 + 5)), linked, by decide⟩,
   ⟨63, 2, 1, (2 ^ 32 + 5), ((linked).descriptorWord (63) (2) (1) (2 ^ 32 + 5)), linked, by decide⟩,
   ⟨63, 2, 0, 0, ((waiting 63).descriptorWord (63) (2) (0) (0)), (waiting 63), by decide⟩,
   ⟨63, 3, 0, 0, ((linked).descriptorWord (63) (3) (0) (0)), linked, by decide⟩,
   ⟨63, 2, 0, (2 ^ 63 + 4), ((linked.setRing 63 { base := 4096, shadow := 64 }).descriptorWord (63) (2) (0) (2 ^ 63 + 4)),
     (linked.setRing 63 { base := 4096, shadow := 64 }), by decide⟩,
   ⟨63, 2, 0, (2 ^ 63 + 31), ((linked).descriptorWord (63) (2) (0) (2 ^ 63 + 31)), linked, by decide⟩,
   ⟨63, 2, 0, 0, ((waiting 63).descriptorWord (63) (2) (0) (0)), (waiting 63), by decide⟩,
   ⟨63, 0, 0, 0, ((linked.setRing 63 { state := 2, tail := 5, head := 5 }).descriptorWord (63) (0) (0) (0)),
     (linked.setRing 63 { state := 2, tail := 5, head := 5 }), by decide⟩,
   ⟨63, 0, 0, 0, ((linked.setRing 63 { state := 2, tail := 5, head := 5, open_ := 1 }).descriptorWord (63) (0) (0) (0)),
     (linked.setRing 63 { state := 2, tail := 5, head := 5, open_ := 1 }), by decide⟩,
   ⟨62, 0, 0, 16, ((waiting 62).descriptorWord (62) (0) (0) (16)), (waiting 62), by decide⟩,
   ⟨62, 0, 0, 17, ((waiting 62).descriptorWord (62) (0) (0) (17)), (waiting 62), by decide⟩,
   ⟨63, 0, 0, 2, ((waiting 63).descriptorWord (63) (0) (0) (2)), (waiting 63), by decide⟩,
   ⟨63, 0, 0, 1, ((waiting 63).descriptorWord (63) (0) (0) (1)), (waiting 63), by decide⟩,
   ⟨63, 0, 0, 0, ((linked).descriptorWord (63) (0) (0) (0)), linked, by decide⟩,
   ⟨63, 0, 0, 0, ((linked.withDue (tmMsix 63)).descriptorWord (63) (0) (0) (0)), (linked.withDue (tmMsix 63)), by decide⟩,
   ⟨62, 0, 0, 0, ((linked.withDue (tmMsix 62) |>.setRing 62 { masked := false }).descriptorWord (62) (0) (0) (0)),
     (linked.withDue (tmMsix 62) |>.setRing 62 { masked := false }), by decide⟩,
   ⟨63, 0, 0, 0, ((linked).descriptorWord (63) (0) (0) (0)), linked, by decide⟩,
   ⟨63, 0, 0, 0, ((linked).descriptorWord (63) (0) (0) (0)), linked, by decide⟩,
   ⟨62, 0, 0, 0, 0, ((linked.setRing 62 { msixPending := true }).descriptorWord (62) (0) (0) (0)),
     (linked.setRing 62 { msixPending := true }), by decide⟩,
   ⟨63, 0, 0, 0, (({ (linked.setn (K 0x3830 6) 0).setRing 63 { state := 1, log2 := 4, tail := 16, told := [5] } with stamp := 6 }).descriptorWord (63) (0) (0) (0)), ({ (linked.setn (K 0x3830 6) 0).setRing 63 { state := 1, log2 := 4, tail := 16, told := [5] } with stamp := 6 }), 5, (([] : List Nat)), by decide⟩,
   ⟨63, 0, 0, 0, ((linked.setRing 63 { overrun := true }).descriptorWord (63) (0) (0) (0)),
     (linked.setRing 63 { overrun := true }), by decide⟩,
   ⟨63, 0, 0, 0, 5, 4, ((up [7]).descriptorWord (63) (0) (0) (0)), (up [7]), by decide⟩,
   ⟨63, 0, 0, 0, 5, 4, ((up [7]).descriptorWord (63) (0) (0) (0)), (up [7]), by decide⟩,
   ⟨63, 0, 0, 0, 0, 0, ((linked).descriptorWord (63) (0) (0) (0)), linked, by decide⟩,
   ⟨63, 0, 0, 0, 4, ((linked).descriptorWord (63) (0) (0) (0)), linked, by decide⟩,
   ⟨63, 0, 0, 0, 1, ((linked).descriptorWord (63) (0) (0) (0)), linked, by decide⟩,
   ⟨63, 0, 0, 0, 4, ((linked).descriptorWord (63) (0) (0) (0)), linked, by decide⟩,
   ⟨63, 0, 0, 0, ((({} : State)).descriptorWord (63) (0) (0) (0)), (({} : State)), by decide⟩⟩

theorem test_meets_DriveStarting :
    (∃ (c : Nat) (new : Nat) (s : State), s.driveOn c = true ∧ s.driveState c ≠ new) ∧
    (∃ (c : Nat) (new : Nat) (s : State), s.driveOn c = true ∧ s.driveState c ≠ new) ∧
    (∃ (c : Nat) (s : State), s.driveOn c = true ∧ s.driveState c = 1 ∧ s.due (tmAlign c) = true) ∧
    (∃ (c : Nat) (s : State), s.driveState c ≠ 1) ∧
    (∃ (c : Nat) (s : State), s.driveOn c = true ∧ s.driveState c = 2 ∧ s.due (tmStep c) = true ∧
      s.n (dk c 1 7) ≤ (if (s.drive c).seen then (s.drive c).good + 1 else 0)) ∧
    (∃ (c : Nat) (s : State), s.driveOn c = true ∧ s.driveState c = 2 ∧ s.due (tmStep c) = true ∧
      (if (s.drive c).seen then (s.drive c).good + 1 else 0) < s.n (dk c 1 7)) ∧
    (∃ (c : Nat) (s : State), s.driveState c ≠ 2) ∧
    (∃ (c : Nat) (s : State), s.driveOn c = true ∧ s.driveState c = 2 ∧ s.due (tmHandover c) = true) ∧
    (∃ (c : Nat) (s : State), s.driveOn c = true ∧ s.driveState c = 4 ∧ s.due (tmCatch c) = true) ∧
    (∃ (c : Nat) (s : State), s.driveOn c = true ∧ 3 ≤ c ∧ (s.driveState c = 2 ∨ s.driveState c = 4) ∧
      1 + s.n (dk c 1 8) ≤ s.n (dk c 0 0x11)) ∧
    (∃ (c : Nat) (s : State), s.driveOn c = true ∧ 3 ≤ c ∧ (s.driveState c = 2 ∨ s.driveState c = 4) ∧
      s.n (dk c 0 0x11) < 1 + s.n (dk c 1 8)) ∧
    (∃ (c : Nat) (s : State), s.driveOn c = true ∧ s.driveState c = 5 ∧ s.due (tmRetry c) = true ∧ s.mayStart c = false) ∧
    (∃ (c : Nat) (s : State), s.driveOn c = true ∧ s.driveState c = 5 ∧ s.due (tmRetry c) = true ∧ s.mayStart c = true ∧
      s.belowMinimum c (s.observed c) = true) ∧
    (∃ (c : Nat) (s : State), s.driveOn c = true ∧ s.driveState c = 2 ∧ 3 ≤ (s.drive c).steps ∧
      20 * s.rampInterval c ((s.drive c).stepAt - (s.drive c).rampAt) ≤ (s.stamp - (s.drive c).stepAt) * 100 ∧
      (s.stamp - (s.drive c).stepAt) * 100 ≤ 80 * s.rampInterval c ((s.drive c).stepAt - (s.drive c).rampAt)) ∧
    (∃ (c : Nat) (s : State), s.driveOn c = true ∧ (s.driveState c = 1 ∨ 5 ≤ s.driveState c)) ∧
    (∃ (c : Nat) (s : State), s.driveOn c = true ∧ s.driveState c = 3) ∧
    (∃ (c : Nat) (s : State), s.driveOn c = true ∧ c < 3 ∧ s.driveState c = 4 ∧ (s.drive c).firstCrossing = true) ∧
    (∃ (c : Nat) (s : State) (v : Int), sameWay v (s.commanded c) = true ∧ s.belowMinimum c v = false ∧
      (s.drive c).estimates.all (fun x => agree x v) = true ∧ (s.drive c).estimates.length + 1 = catchNeeds c) ∧
    (∃ (c : Nat) (s : State), s.driveOn c = false) ∧
    (∃ (c : Nat) (s : State) (t0 : _), s.driveOn c = true ∧ s.driveState c = 3 ∧ (s.drive c).last = some t0 ∧
      t0 + 12 * (s.drive c).interval ≤ s.stamp) ∧
    (∃ (c : Nat) (s : State) (t0 : _), (s.drive c).last = some t0 ∧ s.stamp < t0 + 12 * (s.drive c).interval) ∧
    (∃ (c : Nat) (speed : Int) (s : State), s.driveOn c = true ∧ 3 ≤ c ∧ s.driveState c = 4 ∧ s.due (tmPulse c) = true ∧
      s.belowMinimum c speed = true) ∧
    (∃ (c : Nat) (s : State), (c < 3 ∨ s.driveState c ≠ 4)) :=
  ⟨⟨10, 6, (driving 10 3), by decide⟩,
   ⟨0, 0, (driving 0 3), by decide⟩,
   ⟨10, ((driving 10 1).withDue (tmAlign 10)), by decide⟩,
   ⟨10, (driving 10 2), by decide⟩,
   ⟨10, (((driving 10 2).withDue (tmStep 10)).setn (dk 10 1 7) 0), by decide⟩,
   ⟨10, (((driving 10 2).withDue (tmStep 10)).setn (dk 10 1 7) 1), by decide⟩,
   ⟨10, (driving 10 3), by decide⟩,
   ⟨10, ((driving 10 2).withDue (tmHandover 10)), by decide⟩,
   ⟨10, ((driving 10 4).withDue (tmCatch 10)), by decide⟩,
   ⟨10, (((driving 10 4).setn (dk 10 1 8) 1).setn (dk 10 0 0x11) 2), by decide⟩,
   ⟨10, (((driving 10 4).setn (dk 10 1 8) 2).setn (dk 10 0 0x11) 2), by decide⟩,
   ⟨10, ((driving 10 5).withDue (tmRetry 10)), by decide⟩,
   ⟨10, ((((driving 10 5).withDue (tmRetry 10)).setb (dk 10 0 1) true).setn (dk 10 1 5) 1000 |>.setn (K 0x2100 0xB) 2 |>.setn (dk 10 0 2) 0 |>.seti (dk 10 0 3) 5000), by decide⟩,
   ⟨10, ({ (driving 10 2).setDrive 10 { steps := 3 } with stamp := 4000000 } |>.setn (dk 10 1 1) 4), by decide⟩,
   ⟨10, (driving 10 5), by decide⟩,
   ⟨10, (driving 10 3), by decide⟩,
   ⟨2, ((driving 2 4).setDrive 2 { firstCrossing := true }), by decide⟩,
   ⟨10, (((driving 10 4).setn (dk 10 1 5) 1000).seti (dk 10 0 3) 5000 |>.setDrive 10 { estimates := [4999, 5000] }), 5000,
     by decide⟩,
   ⟨10, {}, by decide⟩,
   ⟨10, ((driving 10 3).setDrive 10 { last := some 0 }), 0, by decide⟩,
   ⟨10, ((driving 10 3).setDrive 10 { last := some 0, interval := 1 }), 0, by decide⟩,
   ⟨10, (-499), (((driving 10 4).withDue (tmPulse 10)).setn (dk 10 1 5) 1000), by decide⟩,
   ⟨10, (driving 10 3), by decide⟩⟩

theorem test_meets_DrivePower :
    (∃ (c : Nat) (s : State), s.driveOn c = true ∧ 3 ≤ c ∧ 1 ≤ s.driveState c ∧ s.driveState c ≤ 3) ∧
    (∃ (c : Nat) (s : State), s.driveOn c = true ∧ c < 3 ∧ 1 ≤ s.driveState c ∧ s.driveState c ≤ 3 ∧
      (s.setn (dk c 0 0xF) (s.nextDuty c)).onTime c < s.n (dk c 2 2) ∧ (s.drive c).unskipped ≠ 1024) ∧
    (∃ (c : Nat) (s : State), s.driveOn c = true ∧ c < 3 ∧ 1 ≤ s.driveState c ∧ s.driveState c ≤ 3 ∧
      s.n (dk c 2 2) ≤ (s.setn (dk c 0 0xF) (s.nextDuty c)).onTime c) ∧
    (∃ (c : Nat) (s : State), (s.driveState c = 0 ∨ 4 ≤ s.driveState c) ∧ (s.drive c).braking = false) ∧
    (∃ (c : Nat) (s : State), (s.driveState c = 0 ∨ 4 ≤ s.driveState c) ∧ (s.drive c).braking = true) ∧
    (∃ (c : Nat) (s : State), s.driveOn c = true ∧ 1 ≤ s.driveState c ∧ s.driveState c ≤ 3) ∧
    (∃ (c : Nat) (s : State), s.driveOn c = true) ∧
    (∃ (c : Nat) (s : State), s.driveOn c = false) ∧
    (∃ (c : Nat) (input : Nat) (s : State), s.driveOn c = true ∧ 3 ≤ c ∧ (input = 1 ∨ input = 2)) ∧
    (∃ (c : Nat), c < 3) ∧
    (∃ (k : Nat) (s : State), s.pinReaders k ≠ [] ∧ bitOf s.drives.lost (k - 1) = false ∧
      (s.pinReaders k).any (s.pinSilent k) = true) ∧
    (∃ (k : Nat) (s : State),
      (s.pinReaders k = [] ∨ bitOf s.drives.lost (k - 1) = true ∨ (s.pinReaders k).any (s.pinSilent k) = false)) ∧
    (∃ (k : Nat) (s : State), 1 ≤ k ∧ bitOf s.drives.lost (k - 1) = true) ∧
    (∃ (k : Nat) (s : State), bitOf s.drives.lost (k - 1) = false) ∧
    (∃ (c : Nat) (s : State), s.driveOn c = true ∧ s.driveState c = 7 ∧ s.due (tmBrake c) = true) ∧
    (∃ (bus : Nat) (s : State), s.n (K 0x410F 1) ≤ bus) ∧
    (∃ (bus : Nat) (s : State), bus + s.n (K 0x410F 2) < s.n (K 0x410F 1) ∧ s.drives.testing ≠ 1) ∧
    (∃ (bus : Nat) (s : State), bus < s.n (K 0x410F 1) ∧ s.n (K 0x410F 1) ≤ bus + s.n (K 0x410F 2)) ∧
    (∃ (current : Nat) (s : State), s.due tmChopper = true ∧ s.drives.testing = 0 ∧ s.drives.chopper = true ∧ current < 500) ∧
    (∃ (current : Nat) (s : State), s.due tmChopper = true ∧ s.drives.testing = 0 ∧ s.drives.chopper = false ∧ 500 ≤ current) ∧
    (∃ (current : Nat) (s : State), s.due tmChopper = true ∧ s.drives.testing = 0 ∧ (s.drives.chopper = true ↔ 500 ≤ current)) ∧
    (∃ (current : Nat) (s : State), s.due tmChopper = true ∧ s.drives.testing = 1 ∧ s.drives.chopper = true ∧ 500 ≤ current) ∧
    (∃ (current : Nat) (s : State), s.due tmChopper = true ∧ s.drives.testing = 2 ∧ s.drives.chopper = false ∧ current < 500) ∧
    (∃ (s : State), s.due tmChopper = false) :=
  ⟨⟨10, (driving 10 1), by decide⟩,
   ⟨2, ((driving 2 1).setn (dk 2 2 2) 1), by decide⟩,
   ⟨2, ((driving 2 1).setn (dk 2 0 0xF) 4095), by decide⟩,
   ⟨10, (driving 10 4), by decide⟩,
   ⟨10, ((driving 10 7).setDrive 10 { braking := true, cut := true }), by decide⟩,
   ⟨10, (driving 10 3), by decide⟩,
   ⟨10, (driving 10 0), by decide⟩,
   ⟨10, {}, by decide⟩,
   ⟨10, 2, (driving 10 3), by decide⟩,
   ⟨2, by decide⟩,
   ⟨5, ({ ((driving 10 3).setn (dk 10 0 2) 2).setn (dk 10 0 5) 5 with stamp := 10 ^ 12 }), by decide⟩,
   ⟨5, (driving 10 3), by decide⟩,
   ⟨5, ({ ({} : State) with drives := { lost := 16 } }), by decide⟩,
   ⟨5, {}, by decide⟩,
   ⟨10, ((driving 10 7).withDue (tmBrake 10)), by decide⟩,
   ⟨55000, (({} : State).setn (K 0x410F 1) 55000), by decide⟩,
   ⟨52999, ((({} : State).setn (K 0x410F 1) 55000).setn (K 0x410F 2) 2000), by decide⟩,
   ⟨53000, ((({} : State).setn (K 0x410F 1) 55000).setn (K 0x410F 2) 2000), by decide⟩,
   ⟨499, ({ (({} : State).withDue tmChopper) with drives := { chopper := true } }), by decide⟩,
   ⟨500, ((({} : State).withDue tmChopper)), by decide⟩,
   ⟨499, ((({} : State).withDue tmChopper)), by decide⟩,
   ⟨500, ({ (({} : State).withDue tmChopper) with drives := { chopper := true, testing := 1 } }), by decide⟩,
   ⟨499, ({ (({} : State).withDue tmChopper) with drives := { testing := 2 } }), by decide⟩,
   ⟨(({} : State)), by decide⟩⟩

theorem test_meets_StepperMotion :
    (∃ (n : Nat) (s : State), s.axisOn n = true ∧ s.axisState n = 1 ∧ s.n (axk n 1 3) ≠ 0 ∧
      (s.stepper n).stillAt + s.n (axk n 1 3) * 1000000 ≤ s.stamp) ∧
    (∃ (n : Nat) (s : State), (s.axisState n ≠ 1 ∨ s.n (axk n 1 3) = 0)) ∧
    (∃ (n : Nat) (s : State), s.axisOn n = true ∧ s.axisState n = 2 ∧ s.busLow = false ∧
      (s.stepper n).energisedAt + s.n (axk n 1 4) * 1000000 ≤ s.stamp ∧ (s.stepper n).waiting = 3) ∧
    (∃ (n : Nat) (m : Move) (s : State), s.axisOn n = true ∧ s.axisState n = 2 ∧ s.busLow = false ∧
      (s.stepper n).energisedAt + s.n (axk n 1 4) * 1000000 ≤ s.stamp ∧
      ((s.stepper n).waiting = 1 ∨ (s.stepper n).waiting = 2) ∧
      s.moveRefusal n (s.stepper n).entry (s.stepper n).target = none ∧
      s.moveOf n (s.stepper n).entry (s.stepper n).target = some m) ∧
    (∃ (n : Nat) (s : State) (code : _), s.axisOn n = true ∧ s.axisState n = 2 ∧ s.busLow = false ∧
      (s.stepper n).energisedAt + s.n (axk n 1 4) * 1000000 ≤ s.stamp ∧ (s.stepper n).waiting = 2 ∧
      s.moveRefusal n (s.stepper n).entry (s.stepper n).target = some code) ∧
    (∃ (n : Nat) (s : State), ((s.stepper n).waiting = 0 ∨ s.busLow = true)) ∧
    (∃ (n : Nat) (s : State), s.axisOn n = true ∧ (s.stepper n).plan ≠ [] ∧
      (s.stepper n).begun + planTime (s.stepper n).plan ≤ s.stamp ∧ (s.stepper n).purpose < 4) ∧
    (∃ (n : Nat) (s : State), s.axisOn n = true ∧ (s.stepper n).plan ≠ [] ∧
      (s.stepper n).begun + planTime (s.stepper n).plan ≤ s.stamp ∧ (s.stepper n).purpose = 4) ∧
    (∃ (n : Nat) (s : State), s.axisOn n = true ∧ (s.stepper n).plan ≠ [] ∧
      (s.stepper n).begun + planTime (s.stepper n).plan ≤ s.stamp ∧ (s.stepper n).purpose = 7) ∧
    (∃ (n : Nat) (s : State), ((s.stepper n).plan = [] ∨ s.stamp < (s.stepper n).begun + planTime (s.stepper n).plan)) ∧
    (∃ (s : State), s.busLow = false) ∧
    (∃ (s : State), s.busLow = false) ∧
    (∃ (n : Nat) (lag : Int) (s : State) (u : _), u = ((s.axisAdvance n).driveModeStep n).loadStep n lag ∧ s.axisOn n = true ∧
      (s.axisState n = 3 ∨ s.axisState n = 4) ∧ u.axisState n = 5) ∧
    (∃ (n : Nat) (lag : Int) (s : State) (u : _), u = ((s.axisAdvance n).driveModeStep n).loadStep n lag ∧ s.axisOn n = true ∧
      (s.axisState n = 3 ∨ s.axisState n = 4) ∧ (u.axisState n = 3 ∨ u.axisState n = 4)) ∧
    (∃ (n : Nat) (coil : Nat) (s : State), 16 ≤ (s.stepper n).open_ + 1 ∧ s.n (axk n 0 0xC) = 1 ∧ coil < 25) ∧
    (∃ (n : Nat) (s : State), s.axisOn n = true ∧ s.axisState n ≠ 3 ∧ s.axisState n ≠ 4) ∧
    (∃ (n : Nat) (lag : Int) (s : State), s.n (axk n 2 3) * 256 ≤ (s.i (axk n 0 5)).natAbs ∧ 180 < lag) ∧
    (∃ (n : Nat) (lag : Int) (s : State), s.n (axk n 2 3) * 256 ≤ (s.i (axk n 0 5)).natAbs ∧ lag ≤ 180 ∧ lag < s.n (axk n 2 1) ∧
      (s.stepper n).stalled = false ∧ s.n (axk n 2 2) ≠ 0) ∧
    (∃ (n : Nat) (s : State), (s.i (axk n 0 5)).natAbs < s.n (axk n 2 3) * 256) ∧
    (∃ (n : Nat) (s : State), s.axisOn n = true ∧ s.axisState n = 3 ∧ (s.stepper n).purpose ≠ 6 ∧ s.n (axk n 3 3) % 64 ≠ 0 ∧
      bitOf (s.stepper n).levels 1 = false ∧ 0 < (if (s.motion n).v = 0 then (s.motion n).a else (s.motion n).v)) ∧
    (∃ (n : Nat) (s : State), s.axisOn n = true ∧ s.axisState n = 3 ∧ (s.stepper n).purpose ≠ 6 ∧ s.n (axk n 3 2) % 64 ≠ 0 ∧
      bitOf (s.stepper n).levels 0 = false ∧ (if (s.motion n).v = 0 then (s.motion n).a else (s.motion n).v) < 0) ∧
    (∃ (n : Nat) (s : State), s.axisOn n = true ∧ s.n (axk n 3 3) % 64 ≠ 0) ∧
    (∃ (n : Nat) (s : State), s.axisOn n = true ∧ s.n (axk n 3 1) % 64 ≠ 0 ∧ s.searching n = true) ∧
    (∃ (n : Nat) (s : State), s.searching n = false ∧ s.axisOn n = true ∧ s.n (axk n 3 1) % 64 ≠ 0) ∧
    (∃ (n : Nat) (s : State), s.armed (tmDebounce n) = false ∧ s.n (axk n 3 6) ≠ 0) ∧
    (∃ (n : Nat) (s : State), s.axisOn n = true ∧ s.searching n = true ∧ s.due (tmDebounce n) = true) ∧
    (∃ (n : Nat) (s : State), s.searching n = false) ∧
    (∃ (n : Nat) (s : State), s.bridgesOn n = true ∧ s.axisState n ≠ 5 ∧ s.axisState n ≠ 6) ∧
    (∃ (n : Nat) (s : State), s.bridgesOn n = false) ∧
    (∃ (g : Nat) (s : State), s.on 14 = true ∧ 1 ≤ g ∧ g ≤ 3) :=
  ⟨⟨12, ({ (moving 12 1).setn (axk 12 1 3) 1 with stamp := 1000000 }), by decide⟩,
   ⟨12, (moving 12 3), by decide⟩,
   ⟨12, (((moving 12 2).setStepper 12 { waiting := 3 }).setn (axk 12 1 4) 0 |>.setn (K 0x2100 0xB) 2), by decide⟩,
   ⟨12, (⟨true, false, 0, fullSteps 1 0 0⟩),
     (((((moving 12 2).setStepper 12 { waiting := 1, entry := 63 }).setn (axk 12 1 4) 0 |>.setn (K 0x2100 0xB) 2).setb (axk 12 0 1) true).put (axk 12 4 1) (.dom (List.replicate 1008 0 ++ leBytes 8 1 ++ leBytes 8 (2 ^ 48)))), by decide⟩,
   ⟨12, (((moving 12 2).setStepper 12 { waiting := 2 }).setn (axk 12 1 4) 0 |>.setn (K 0x2100 0xB) 2), 6, by decide⟩,
   ⟨12, (moving 12 3), by decide⟩,
   ⟨12, ((moving 12 3).setStepper 12 { plan := [{ time := 0 }], purpose := 1 }), by decide⟩,
   ⟨12, ((moving 12 4).setStepper 12 { plan := [{ time := 0 }], purpose := 4 }), by decide⟩,
   ⟨12, ((moving 12 4).setStepper 12 { plan := [{ time := 0 }], purpose := 7 }), by decide⟩,
   ⟨12, (moving 12 3), by decide⟩,
   ⟨(moving 12 3), by decide⟩,
   ⟨(moving 12 3), by decide⟩,
   ⟨12, 181, (moving 12 3 |>.setn (axk 12 2 3) 0),
     ((((moving 12 3 |>.setn (axk 12 2 3) 0).axisAdvance 12).driveModeStep 12).loadStep 12 181),
     by ((repeat' apply And.intro) <;> first | decide | rfl)⟩,
   ⟨12, 0, (moving 12 3 |>.setn (axk 12 2 3) 1),
     ((((moving 12 3 |>.setn (axk 12 2 3) 1).axisAdvance 12).driveModeStep 12).loadStep 12 0), by decide⟩,
   ⟨12, 24, ((moving 12 3).setn (axk 12 0 0xC) 1 |>.setStepper 12 { open_ := 15 }), by decide⟩,
   ⟨12, (moving 12 5), by decide⟩,
   ⟨12, 181, (moving 12 3 |>.setn (axk 12 2 3) 0), by decide⟩,
   ⟨12, (-32769), (moving 12 3 |>.setn (axk 12 2 3) 0 |>.setn (axk 12 2 1) 90 |>.setn (axk 12 2 2) 4), by decide⟩,
   ⟨12, ((moving 12 3).setn (axk 12 2 3) 1), by decide⟩,
   ⟨12, (((moving 12 3).setStepper 12 { plan := [{ time := 10, start := { v := 1 } }] }).setn (axk 12 3 3) 1), by decide⟩,
   ⟨12, (((moving 12 3).setStepper 12 { plan := [{ time := 10, start := { v := -1 } }] }).setn (axk 12 3 2) 1), by decide⟩,
   ⟨12, ((moving 12 3).setn (axk 12 3 3) 1), by decide⟩,
   ⟨12, (((moving 12 4).setStepper 12 { purpose := 3 }).setn (axk 12 3 1) 48), by decide⟩,
   ⟨12, ((moving 12 3).setn (axk 12 3 1) 48), by decide⟩,
   ⟨12, ((moving 12 4).setn (axk 12 3 6) 1), by decide⟩,
   ⟨12, (((moving 12 4).setStepper 12 { purpose := 5 }).withDue (tmDebounce 12)), by decide⟩,
   ⟨12, (moving 12 3), by decide⟩,
   ⟨12, (moving 12 3), by decide⟩,
   ⟨12, (moving 12 0), by decide⟩,
   ⟨3, (moving 12 3), by decide⟩⟩

theorem test_meets_LoopsAndKettle :
    (∃ (slot : Nat) (s : State), s.on 15 = true ∧ slot < 64 ∧ s.n (lk slot 2) = 1 ∧ s.slotDrive slot = none ∧
      s.target slot = 0 ∧ s.triggerDue slot = true ∧ (s.loop slot).queued = false ∧ (∀ i ∈ s.loops.queue,
      (s.loop i).joined = some s.stamp → i ≤ slot)) ∧
    (∃ (slot : Nat) (s : State), s.on 15 = true ∧ slot < 64 ∧ s.n (lk slot 2) = 1 ∧ s.slotDrive slot = none ∧
      s.target slot = 0 ∧ s.triggerDue slot = true ∧ (s.loop slot).queued = true ∧ (s.loop slot).sinceOverrun ≠ 1024) ∧
    (∃ (slot : Nat) (s : State), (s.on 15 = false ∨ 64 ≤ slot)) ∧
    (∃ (slot : Nat) (s : State), s.on 15 = true ∧ s.loops.queue.head? = some slot ∧ s.n (lk slot 2) = 1 ∧ s.target slot = 0) ∧
    (∃ (slot : Nat) (s : State), s.on 15 = true ∧ s.loops.queue.head? = some slot ∧ s.n (lk slot 2) = 2) ∧
    (∃ (slot : Nat) (s : State), s.loops.queue.head? ≠ some slot) ∧
    (∃ (h : Nat) (s : State) (t0 : _), s.on 15 = true ∧ s.hvState h = 2 ∧ (s.hv h).openSince = some t0 ∧
      t0 + 10000000 ≤ s.stamp) ∧
    (∃ (h : Nat) (s : State), (s.hv h).openSince = none) ∧
    (∃ (h : Nat) (s : State) (i : _) (f0 : _) (goal : _) (at0 : _) (length : _) (tag : _), s.on 15 = true ∧ s.hvState h = 2 ∧
      s.due (tmHvRamp h) = true ∧ s.hvSlot h = some i ∧ (s.loop i).ramp = some (f0, goal, at0, length, tag)) ∧
    (∃ (h : Nat) (s : State), s.due (tmHvRamp h) = false) ∧
    (∃ (z : Nat) (s : State), 1 ≤ z ∧ z ≤ 3 ∧ s.on 15 = true ∧ s.mainsRuns = true ∧ s.zoneState z = 2 ∧
      (s.zone z).edge ≠ (s.halfCycle + 1) % 2 ^ 25 ∧
      (32768 - s.mainsPhase % 32768) * 10 ^ 9 ≤ s.n (K 0x4C00 1) * 65536 * s.n (K 0x3020 4)) ∧
    (∃ (z : Nat) (s : State), s.zoneState z = 2 ∧ (s.zone z).edge = (s.halfCycle + 1) % 2 ^ 25) ∧
    (∃ (z : Nat) (s : State) (u : _), u = s.zoneAdvance z ∧ 1 ≤ z ∧ z ≤ 3 ∧ s.on 15 = true ∧ u.zoneState z = 1 ∧
      (u.halfCycle + 2 ^ 25 - (u.zone z).first) % 2 ^ 25 < (u.zone z).count ∧
      (u.zone z).fired ≤ (u.halfCycle + 2 ^ 25 - (u.zone z).first) % 2 ^ 25 ∧ (u.zone z).edge ≠ (u.halfCycle + 1) % 2 ^ 25 ∧
      u.fireAngle z ((u.halfCycle + 2 ^ 25 - (u.zone z).first) % 2 ^ 25) ≤ u.mainsPhase % 32768) ∧
    (∃ (z : Nat) (s : State), s.zoneState z ≠ 1) :=
  ⟨⟨63, ((triggered 1)), by decide⟩,
   ⟨63, ((triggered 1).setLoopSlot 63 { queued := true, mark := 7 }), by decide⟩,
   ⟨63, {}, by decide⟩,
   ⟨63, ({ (triggered 1) with loops := { queue := [63] } }), by decide⟩,
   ⟨63, ({ (triggered 2) with loops := { queue := [63] } }), by decide⟩,
   ⟨63, {}, by decide⟩,
   ⟨20, ({ ((up [15]).setn (hk 20 2) 2).setHv 20 { openSince := some 0 } with stamp := 10000000 }), 0, by decide⟩,
   ⟨20, (({} : State)), by decide⟩,
   ⟨20, ((((up [15]).setn (hk 20 2) 2).setLoopSlot 43 { ramp := some (0, 7, 0, 1, 9) }).withDue (tmHvRamp 20)), 43, 0, 7, 0, 1,
     9, by decide⟩,
   ⟨20, (({} : State)), by decide⟩,
   ⟨3, (((up [15]).setn (zk 3 2) 2).setn (K 0x3020 1) 1 |>.setn (K 0x4C00 1) 1000000 |>.setn (K 0x3020 4) 50000), by decide⟩,
   ⟨3, (((up [15]).setn (zk 3 2) 2).setZone 3 { edge := 1 }), by decide⟩,
   ⟨3, ((((up [15]).setn (zk 3 2) 1).setn (zk 3 4) 0).setZone 3 { count := 5, running := true }),
     (((((up [15]).setn (zk 3 2) 1).setn (zk 3 4) 0).setZone 3 { count := 5, running := true })), by decide⟩,
   ⟨3, (({} : State)), by decide⟩⟩

theorem test_meets_CrockCommands :
    (∃ (r : Nat) (ws : List Nat) (s : State), 44 ≤ r ∧ r ≤ 47 ∧ (s.crockCommands r).length < 8 ∧ (s.ring (r + 4)).waiting = [] ∧
      s.hasEntry r = true ∧ s.linkUp = true ∧ field (wordAt ws 0) 63 56 = 0x01) ∧
    (∃ (r : Nat) (ws : List Nat) (s : State), 44 ≤ r ∧ r ≤ 47 ∧ (s.crockCommands r).length < 8 ∧ (s.ring (r + 4)).waiting = [] ∧
      s.hasEntry r = true ∧ s.linkUp = true ∧ field (wordAt ws 0) 63 56 = 0x02) ∧
    (∃ (r : Nat) (ws : List Nat) (s : State), 44 ≤ r ∧ r ≤ 47 ∧ (s.crockCommands r).length < 8 ∧ (s.ring (r + 4)).waiting = [] ∧
      s.hasEntry r = true ∧ s.linkUp = true ∧ field (wordAt ws 0) 63 56 = 0x03) ∧
    (∃ (r : Nat) (ws : List Nat) (s : State), 44 ≤ r ∧ r ≤ 47 ∧ (s.crockCommands r).length < 8 ∧ (s.ring (r + 4)).waiting = [] ∧
      s.hasEntry r = true ∧ s.linkUp = true ∧ field (wordAt ws 0) 63 56 = 0x10) ∧
    (∃ (r : Nat) (ws : List Nat) (s : State), 44 ≤ r ∧ r ≤ 47 ∧ (s.crockCommands r).length < 8 ∧ (s.ring (r + 4)).waiting = [] ∧
      s.hasEntry r = true ∧ s.linkUp = true ∧ field (wordAt ws 0) 63 56 = 0x11) ∧
    (∃ (r : Nat) (ws : List Nat) (s : State), 44 ≤ r ∧ r ≤ 47 ∧ (s.crockCommands r).length < 8 ∧ (s.ring (r + 4)).waiting = [] ∧
      s.hasEntry r = true ∧ s.linkUp = true ∧ field (wordAt ws 0) 63 56 = 0x12) ∧
    (∃ (r : Nat) (ws : List Nat) (s : State), 44 ≤ r ∧ r ≤ 47 ∧ (s.crockCommands r).length < 8 ∧ (s.ring (r + 4)).waiting = [] ∧
      s.hasEntry r = true ∧ s.linkUp = true ∧ field (wordAt ws 0) 63 56 = 0x13) ∧
    (∃ (r : Nat) (ws : List Nat) (s : State), 44 ≤ r ∧ r ≤ 47 ∧ (s.crockCommands r).length < 8 ∧ (s.ring (r + 4)).waiting = [] ∧
      s.hasEntry r = true ∧ s.linkUp = true ∧ field (wordAt ws 0) 63 56 = 0x20) ∧
    (∃ (r : Nat) (ws : List Nat) (s : State), 44 ≤ r ∧ r ≤ 47 ∧ (s.crockCommands r).length < 8 ∧ (s.ring (r + 4)).waiting = [] ∧
      s.hasEntry r = true ∧ s.linkUp = true ∧ field (wordAt ws 0) 63 56 = 0x21) ∧
    (∃ (r : Nat) (s : State), 44 ≤ r ∧ r ≤ 47 ∧ (s.crockCommands r).length < 8 ∧ (s.ring (r + 4)).waiting = [] ∧
      s.hasEntry r = true ∧ s.linkUp = true) ∧
    (∃ (r : Nat) (s : State), 44 ≤ r ∧ r ≤ 47 ∧ (s.crockCommands r).length < 8 ∧ (s.ring (r + 4)).waiting = [] ∧
      s.hasEntry r = true ∧ s.linkUp = true) ∧
    (∃ (ws : List Nat), field (wordAt ws 0) 63 56 ≠ 0x10) ∧
    (∃ (ws : List Nat), crockOpcodes.contains (field (wordAt ws 0) 63 56) = true ∧ field (wordAt ws 0) 63 56 ≠ 1) ∧
    (∃ (r : Nat) (s : State), 8 ≤ (s.crockCommands r).length) ∧
    (∃ (r : Nat) (s : State), s.crock.commands.find? (fun x => x.ring == r) = none) ∧
    (∃ (r : Nat) (c : CrockCommand) (s : State), s.crock.commands.find? (fun x => x.ring == r) = some c ∧ c.status ≠ 0 ∧
      c.opcode ≠ 2 ∧ c.opcode ≠ 0x10) ∧
    (∃ (ws : List Nat) (m : HostMem) (b : Bytes) (s : State), s.fetch m (crockHost ws) (wordAt ws 1) 4096 = some b) ∧
    (∃ (c : CrockCommand) (s : State), (s.spoolObject (crockSpoolId c.words)).isSome = true) ∧
    (∃ (c : CrockCommand) (s : State), (s.spoolObject (crockSpoolId c.words)) = none) ∧
    (∃ (r : Nat) (c : CrockCommand) (s : State), s.crock.commands.find? (fun x => x.ring == r) = some c ∧ c.status = 0 ∧
      s.crockStatus c.words = 0 ∧ c.opcode = 0x12 ∧ (s.spoolObject (crockSpoolId c.words)).isSome = true) ∧
    (∃ (r : Nat) (c : CrockCommand) (s : State), s.crock.commands.find? (fun x => x.ring == r) = some c ∧ c.status = 0 ∧
      s.crockStatus c.words = 0 ∧ c.opcode = 0x20 ∧ s.containerValid (crockPartition c.words) = false ∧
      slotObject (crockPartition c.words) ≠ 0) :=
  ⟨⟨47, ([0x01 * 2 ^ 56]), (waiting 47), by decide⟩,
   ⟨47, ([0x02 * 2 ^ 56]), (waiting 47), by decide⟩,
   ⟨47, ([0x03 * 2 ^ 56]), (waiting 47), by decide⟩,
   ⟨47, ([0x10 * 2 ^ 56]), (waiting 47), by decide⟩,
   ⟨47, ([0x11 * 2 ^ 56]), (waiting 47), by decide⟩,
   ⟨47, ([0x12 * 2 ^ 56]), (waiting 47), by decide⟩,
   ⟨47, ([0x13 * 2 ^ 56]), (waiting 47), by decide⟩,
   ⟨47, ([0x20 * 2 ^ 56]), (waiting 47), by decide⟩,
   ⟨47, ([0x21 * 2 ^ 56]), (waiting 47), by decide⟩,
   ⟨47, (waiting 47), by decide⟩,
   ⟨47, (waiting 47), by decide⟩,
   ⟨([0x13 * 2 ^ 56]), by decide⟩,
   ⟨([0x13 * 2 ^ 56]), by decide⟩,
   ⟨47, ({ waiting 47 with crock := { commands := List.replicate 8 { ring := 47 } } }), by decide⟩,
   ⟨47, (waiting 47), by decide⟩,
   ⟨47, ({ ring := 47, words := [3 * 2 ^ 56], status := 1 }),
     ({ waiting 47 with crock := { commands := [{ ring := 47, words := [3 * 2 ^ 56], status := 1 }] } }), by decide⟩,
   ⟨([2 * 2 ^ 56 + 0x40 * 2 ^ 48 + 2 ^ 40, 4096, 5 * 2 ^ 32 + 1]), (⟨[(4096, List.replicate 4096 7)], false, true⟩),
     (List.replicate 4096 7), (waiting 47), by decide⟩,
   ⟨({ words := [0, 0, 0, 9 * 2 ^ 32] }), ({ ({} : State) with crock := { objects := [{ id := 9 }] } }), by decide⟩,
   ⟨({ words := [0, 0, 0, 9 * 2 ^ 32] }), (waiting 47), by decide⟩,
   ⟨47, ({ ring := 47, words := [0x12 * 2 ^ 56, 0, 0, 9 * 2 ^ 32] }),
     ({ (waiting 47).setn (K 0x3700 1) 2 with crock := { commands := [{ ring := 47, words := [0x12 * 2 ^ 56, 0, 0, 9 * 2 ^ 32] }], objects := [{ id := 9 }] } }), by decide⟩,
   ⟨47, ({ ring := 47, words := [0x20 * 2 ^ 56 + 0x12 * 2 ^ 48] }),
     ({ (waiting 47).setn (K 0x3700 1) 2 with crock := { commands := [{ ring := 47, words := [0x20 * 2 ^ 56 + 0x12 * 2 ^ 48] }], blank := [0x12] } }), by decide⟩⟩

theorem test_meets_CrockMedia :
    (∃ (s : State), s.crockState = 1 ∧ 128 ≤ s.n (K 0x3700 7) ∧ s.power.quiesce = 0) ∧
    (∃ (s : State), s.crockState = 1) ∧
    (∃ (s : State), s.crockState ≠ 1) ∧
    (∃ (lun : Nat) (pages : Nat) (s : State), s.on 6 = true ∧ (s.crockState = 2 ∨ s.crockState = 3) ∧ lun < 8 ∧
      s.lid.target = 0 ∧ 129 ≤ s.n (K 0x3700 7) ∧ s.n (K 0x3700 6) < s.n (K 0x3700 7) - 1 ∧
      s.n (K 0x3700 8) + nandPage * pages < 9000000000000000) ∧
    (∃ (lun : Nat) (s : State), (s.on 6 = false ∨ 8 ≤ lun)) ∧
    (∃ (lun : Nat) (what : Nat) (s : State), s.crockState = 2 ∧ (what = 2 ∨ what = 4) ∧ lun < 8) ∧
    (∃ (lun : Nat) (s : State), s.crockState = 2 ∧ lun < 8 ∧ s.scrubOpen = true) ∧
    (∃ (s : State), s.scrubOpen = false) ∧
    (∃ (lun : Nat) (what : Nat) (s : State), s.crockState = 2 ∧ (what = 2 ∨ what = 4) ∧ lun < 8) ∧
    (∃ (s : State), s.crockState ≠ 2) ∧
    (∃ (s : State), s.crock.copies = []) ∧
    (∃ (c : SpoolCopy) (rest : List SpoolCopy) (s : State), s.crock.copies = c :: rest ∧ c.status = 0) ∧
    (∃ (c : SpoolCopy) (rest : List SpoolCopy) (s : State), s.crock.copies = c :: rest ∧ c.status ≠ 0) ∧
    (∃ (path : Path) (data : Bytes) (s : State), s.Accepts path 0x3700 0xC data) ∧
    (∃ (s : State), s.due tmHealth = true ∧ s.on 6 = true) ∧
    (∃ (s : State), s.due tmHealth = false) :=
  ⟨⟨(((up [6]).setn (K 0x3700 1) 1).setn (K 0x3700 7) 128), by decide⟩,
   ⟨((up [6]).setn (K 0x3700 1) 1), by decide⟩,
   ⟨(up [6]), by decide⟩,
   ⟨7, 512, (((up [6]).setn (K 0x3700 1) 2).setn (K 0x3700 7) 129 |>.setn (K 0x3700 6) 127), by decide⟩,
   ⟨8, ((up [6]).setn (K 0x3700 1) 1), by decide⟩,
   ⟨7, 4, ((up [6]).setn (K 0x3700 1) 2), by decide⟩,
   ⟨7, ({ (up [6]).setn (K 0x3700 1) 2 with stamp := 30 * 86400000000000 }), by decide⟩,
   ⟨(up [6]), by decide⟩,
   ⟨7, 2, ((up [6]).setn (K 0x3700 1) 2), by decide⟩,
   ⟨((up [6]).setn (K 0x3700 1) 1), by decide⟩,
   ⟨((up [6]).setn (K 0x3700 1) 1), by decide⟩,
   ⟨({ page := { tag := 7 }, link := 2 }), [],
     ({ (up [6]) with crock := { copies := [{ page := { tag := 7 }, link := 2 }] } }), by decide⟩,
   ⟨({ page := { tag := 7 }, status := 7 }), [],
     ({ (up [6]) with crock := { copies := [{ page := { tag := 7 }, status := 7 }] } }), by decide⟩,
   ⟨Path.ethercat, ([1]), ((ready []).setn (K 0x3700 1) 2), by unfold State.Accepts; decide⟩,
   ⟨((up [6]).withDue tmHealth), by decide⟩,
   ⟨((up [6]).setn (K 0x3700 1) 1), by decide⟩⟩

theorem test_meets_TwinHeartbeats :
    (∃ (s : State), s.beating = true) ∧
    (∃ (s : State), s.beating = false) ∧
    (∃ (word : Nat) (s : State), s.lid.target = 0 ∧ s.beating = true ∧ s.on 3 = true ∧ crc8 7 (word / 256) 0 = word % 256 ∧
      field word 31 24 = s.activeUnit ∧ (s.twin.lastBeat = none ∨ ∃ b, s.twin.lastBeat = some b ∧
      field word 63 32 = (b + 1) % 2 ^ 32) ∧ field word 23 16 ≠ 1 ∧ field word 23 16 ≠ 2) ∧
    (∃ (word : Nat) (s : State), s.lid.target = 0 ∧ (crc8 7 (word / 256) 0 ≠ word % 256 ∨ field word 31 24 ≠ s.activeUnit)) ∧
    (∃ (s : State), s.lid.target = 0 ∧ s.due tmBeat = true ∧ s.beating = true ∧ s.on 3 = true ∧ s.twin.wireBeat = true ∧
      s.twin.wordBeat = true ∧ bitOf (s.n (K 0x2300 5)) 0 = true ∧ bitOf (s.n (K 0x2300 5)) 1 = true) ∧
    (∃ (s : State), s.lid.target = 0 ∧ s.due tmBeat = true ∧ s.beating = true ∧ s.on 3 = true ∧ s.twin.wireBeat = false ∧
      s.twin.wordBeat = false ∧ 2 ≤ s.twin.wireMisses ∧ 2 ≤ s.twin.wordMisses ∧ bitOf (s.n (K 0x2300 5)) 0 = true ∧
      bitOf (s.n (K 0x2300 5)) 1 = true) ∧
    (∃ (s : State), s.due tmBeat = false) ∧
    (∃ (causes : Nat) (s : State), s.wasEligible s.standby = true ∧ s.twin.planned = 0 ∧ s.fabric.lockQueue = [] ∧
      (s.activeUnit = 1 ∨ s.activeUnit = 2) ∧ s.role s.activeUnit ≠ 6 ∧ causes % 8 ≠ 0) ∧
    (∃ (u : Nat) (kind : Nat) (s : State), (u = 1 ∨ u = 2) ∧ (kind = 2 ∨ kind = 3 ∨ kind = 0xF) ∧ s.on u = true ∧ s.role u = 3 ∧
      s.justGranted = false) ∧
    (∃ (u : Nat) (kind : Nat) (s : State), (u = 1 ∨ u = 2) ∧ (kind = 2 ∨ kind = 3 ∨ kind = 0xF) ∧ s.on u = true ∧
      s.role u = 2) ∧
    (∃ (s : State), s.twin.switching = true ∧ s.due tmGap = true ∧ (s.twin.leaving = 1 ∨ s.twin.leaving = 2)) ∧
    (∃ (s : State), s.twin.switching = false) ∧
    (∃ (s : State), s.justGranted = true) ∧
    (∃ (s : State), s.wasEligible s.standby = false ∧ s.twin.planned = 0 ∧ s.anyActive = true ∧ s.twin.switching = false) ∧
    (∃ (s : State), s.anyActive = true ∧ (s.activeUnit = 1 ∨ s.activeUnit = 2) ∧ s.fabric.lockQueue = []) :=
  ⟨⟨twins, by decide⟩,
   ⟨{}, by decide⟩,
   ⟨(beatWord 3 5), twins, by decide⟩,
   ⟨0x1234, twins, by decide⟩,
   ⟨(({ twins with twin := { wireBeat := true, wordBeat := true } }).setn (K 0x2300 5) 3 |>.withDue tmBeat), by decide⟩,
   ⟨(({ twins with twin := { wireMisses := 2, wordMisses := 2 } }).setn (K 0x2300 5) 3 |>.withDue tmBeat), by decide⟩,
   ⟨twins, by decide⟩,
   ⟨1, ((twins.setUnit 2 { healthy := true }).noteEligible), by decide⟩,
   ⟨2, 2, twins, by decide⟩,
   ⟨1, 0xF, twins, by decide⟩,
   ⟨({ twins with twin := { switching := true, leaving := 1 } } |>.withDue tmGap), by decide⟩,
   ⟨twins, by decide⟩,
   ⟨({ twins with twin := { switching := true, causes := 1 } }), by decide⟩,
   ⟨twins, by decide⟩,
   ⟨twins, by decide⟩⟩

theorem test_meets_TwinRhythm :
    (∃ (s : State), s.due tmDelta = true ∧ s.beating = true ∧ s.on 3 = true) ∧
    (∃ (s : State), s.due tmDelta = true ∧ (s.beating = false ∨ s.on 3 = false)) ∧
    (∃ (s : State), s.due tmDelta = false) ∧
    (∃ (s : State), s.lid.target = 0) ∧
    (∃ (passed : Nat) (link : Nat) (s : State), s.due tmReport = true ∧ s.role s.standby = 3 ∧
      (s.unit s.standby).healthy = false ∧ (link = 4 ∨ link = 5) ∧ s.twin.entries.any (fun e => !e.valid) = false ∧
      s.reportTests s.standby passed = 127) ∧
    (∃ (passed : Nat) (link : Nat) (s : State), s.due tmReport = true ∧ s.role s.standby = 3 ∧
      (s.activeUnit = 1 ∨ s.activeUnit = 2) ∧ (link = 4 ∨ link = 5) ∧ s.twin.entries.any (fun e => !e.valid) = false ∧
      s.reportTests s.standby passed ≠ 127) ∧
    (∃ (s : State), s.due tmReport = false) ∧
    (∃ (s : State), s.twin.planned = 1 ∧ s.due tmPlanned = true ∧ s.admittedPage = none) ∧
    (∃ (s : State), s.twin.planned ≠ 1) ∧
    (∃ (u : Nat) (bad : List Nat) (s : State), s.role u = 7 ∧ (u = 1 ∨ u = 2) ∧ s.on u = true ∧ s.on 6 = true ∧
      s.crockUp = true ∧ s.slotLoads bad (slotPartition u (s.unit u).loading) = true ∧
      ((s.loadImage u (s.unit u).loading 0).recordLoad u).imageRestores u = true) ∧
    (∃ (u : Nat) (bad : List Nat) (s : State), s.role u = 7 ∧ (u = 1 ∨ u = 2) ∧ s.on u = true ∧ s.on 6 = true ∧
      s.crockState ≠ 1 ∧ s.slotLoads bad (slotPartition u (s.unit u).loading) = false) ∧
    (∃ (u : Nat) (s : State), s.role u = 1 ∧ (u = 1 ∨ u = 2) ∧ s.on u = true ∧ s.on 6 = true ∧ s.crockState ≠ 1 ∧
      s.waitsForPreferred u = false) ∧
    (∃ (u : Nat) (s : State), (s.on u = false ∨ s.on 6 = false)) ∧
    (∃ (s : State), s.twin.switching = true ∧ s.role (otherUnit s.twin.leaving) = 5) ∧
    (∃ (s : State), s.twin.switching = false) ∧
    (∃ (pd : Nat) (s : State), 1 ≤ pd ∧ pd ≤ 16 ∧ (s.domain pd).state = 1) ∧
    (∃ (pd : Nat) (s : State), (s.domain pd).state ≠ 1) :=
  ⟨⟨(twins.withDue tmDelta), by decide⟩,
   ⟨((up []).withDue tmDelta), by decide⟩,
   ⟨twins, by decide⟩,
   ⟨twins, by decide⟩,
   ⟨15, 4, (twins.withDue tmReport), by decide⟩,
   ⟨7, 5, ((twins.setUnit 2 { healthy := true }).withDue tmReport), by decide⟩,
   ⟨twins, by decide⟩,
   ⟨({ twins with twin := { planned := 1 } } |>.withDue tmPlanned), by decide⟩,
   ⟨twins, by decide⟩,
   ⟨2, [], ((((twins.setn (K 0x2300 3) 7).setUnit 2 { loading := 1 }).setn (K 0x3700 1) 2).setn (slotObject 0x21) 2),
     by decide⟩,
   ⟨2, ([0x21]), ((((twins.setn (K 0x2300 3) 7).setUnit 2 { loading := 1 }).setn (K 0x3700 1) 2).setn (slotObject 0x21) 2),
     by decide⟩,
   ⟨2, (((twins.setn (K 0x2300 3) 1).setn (K 0x3700 1) 2)), by decide⟩,
   ⟨2, {}, by decide⟩,
   ⟨({ twins with twin := { switching := true, leaving := 1 } } |>.setn (K 0x2300 3) 5), by decide⟩,
   ⟨twins, by decide⟩,
   ⟨16, ((up []).setDomain 16 { state := 1 }), by decide⟩,
   ⟨16, twins, by decide⟩⟩

theorem test_meets_PowerEvents :
    (∃ (pd : Nat) (s : State), (s.domain pd).state = 1 ∧ s.due (tmRamp pd) = true ∧ s.requested pd = true) ∧
    (∃ (pd : Nat) (s : State), (s.domain pd).state = 1 ∧ s.due (tmRamp pd) = true ∧ s.requested pd = false) ∧
    (∃ (pd : Nat) (s : State), ((s.domain pd).state ≠ 1 ∨ s.due (tmRamp pd) = false)) ∧
    (∃ (pd : Nat) (s : State), (s.domain pd).state = 3 ∧ pd ≠ 6 ∧ s.requested pd = false) ∧
    (∃ (pd : Nat) (s : State), (s.domain pd).state ≠ 3) ∧
    (∃ (volts : Nat) (s : State), s.power.supply = 0 ∧ volts < s.n (K 0x2100 3) ∧ s.power.belowWarning = 0 ∧
      s.power.belowReset = 0) ∧
    (∃ (volts : Nat) (s : State), s.power.supply = 0 ∧ s.n (K 0x2100 3) ≤ volts ∧ 80 ≤ volts) ∧
    (∃ (volts : Nat) (s : State), s.power.supply = 0 ∧ volts < s.n (K 0x2100 3) ∧ 1 ≤ s.power.belowWarning ∧ 80 ≤ volts) ∧
    (∃ (volts : Nat) (s : State), s.power.supply = 1 ∧ volts < 80 ∧ 1 ≤ s.power.belowReset) ∧
    (∃ (s : State), s.due tmSupply = true ∧ s.power.supply = 1) ∧
    (∃ (s : State), s.due tmSupply = true ∧ s.power.supply = 2) ∧
    (∃ (s : State), s.due tmSupply = false) ∧
    (∃ (bus : Nat) (j2 : Nat) (s : State), j2 ≤ 60000 ∧ s.flag (K 0x410F 8) = true ∧ s.n (K 0x2100 0xB) = 0 ∧
      s.n (K 0x2100 8) ≤ bus ∧ bus < s.n (K 0x2100 9)) ∧
    (∃ (bus : Nat) (j2 : Nat) (s : State), j2 ≤ 60000 ∧ s.flag (K 0x410F 8) = true ∧ s.n (K 0x2100 0xB) = 0 ∧
      s.n (K 0x2100 8) ≤ bus ∧ s.n (K 0x2100 9) ≤ bus) ∧
    (∃ (bus : Nat) (j2 : Nat) (s : State), j2 ≤ 60000 ∧ s.flag (K 0x410F 8) = true ∧ s.n (K 0x2100 0xB) = 0 ∧
      bus < s.n (K 0x2100 8)) ∧
    (∃ (c : Nat) (reading : Int) (s : State), s.channelOn c = true ∧ s.channelPowered c = true ∧ s.flag (tk c 5) = false ∧
      -400 ≤ reading ∧ reading ≤ 3000) ∧
    (∃ (c : Nat) (reading : Int) (s : State), s.channelOn c = true ∧ s.channelPowered c = true ∧ s.flag (tk c 5) = false ∧
      s.n (tk c 0xA) = 0 ∧ (reading < -400 ∨ 3000 < reading)) ∧
    (∃ (c : Nat) (s : State), (s.channelOn c = false ∨ s.channelPowered c = false)) ∧
    (∃ (c : Nat) (s : State), s.channelOn c = true ∧ s.channelPowered c = true) ∧
    (∃ (c : Nat), c < 25) ∧
    (∃ (c : Nat), 25 ≤ c) ∧
    (∃ (c : Nat) (reading : Int) (s : State), s.channelOn c = true ∧ (s.thermo c).fresh = false ∧ s.n (tk c 3) ≠ 3 ∧
      temperatureState (s.n (tk c 3)) reading (s.i (tk c 6)) (s.i (tk c 7)) (s.i (tk c 8)) (s.i (tk c 9)) = 3) :=
  ⟨⟨16, ((((up []).setDomain 16 { state := 1 }).setn (K 0x2040 1) 65535).withDue (tmRamp 16)), by decide⟩,
   ⟨16, ((((up []).setDomain 16 { state := 1 }).setn (K 0x2040 1) 0).withDue (tmRamp 16)), by decide⟩,
   ⟨16, {}, by decide⟩,
   ⟨16, (((up []).setDomain 16 { state := 3, cause := 1 }).setn (K 0x2040 1) 0), by decide⟩,
   ⟨16, {}, by decide⟩,
   ⟨99, (({} : State).setn (K 0x2100 3) 100), by decide⟩,
   ⟨100, (({} : State).setn (K 0x2100 3) 100), by decide⟩,
   ⟨80, ({ ({} : State).setn (K 0x2100 3) 100 with power := { belowWarning := 1 } }), by decide⟩,
   ⟨79, ({ ({} : State).setn (K 0x2100 3) 100 with power := { supply := 1, belowReset := 1 } }), by decide⟩,
   ⟨({ ({} : State) with power := { supply := 1 } } |>.withDue tmSupply), by decide⟩,
   ⟨({ ({} : State) with power := { supply := 2 } } |>.withDue tmSupply), by decide⟩,
   ⟨{}, by decide⟩,
   ⟨40000, 60000, ((({} : State).setb (K 0x410F 8) true).setn (K 0x2100 8) 40000 |>.setn (K 0x2100 9) 55000 |>.setn (K 0x2100 0xB) 0), by decide⟩,
   ⟨55000, 60000, ((({} : State).setb (K 0x410F 8) true).setn (K 0x2100 8) 40000 |>.setn (K 0x2100 9) 55000 |>.setn (K 0x2100 0xB) 0), by decide⟩,
   ⟨39999, 60000, ((({} : State).setb (K 0x410F 8) true).setn (K 0x2100 8) 40000 |>.setn (K 0x2100 9) 55000 |>.setn (K 0x2100 0xB) 0), by decide⟩,
   ⟨36, 3000, (((up []).setb (tk 36 1) true)), by decide⟩,
   ⟨36, 3001, (((up []).setb (tk 36 1) true)), by decide⟩,
   ⟨37, {}, by decide⟩,
   ⟨36, (((up []).setb (tk 36 1) true)), by decide⟩,
   ⟨24, by decide⟩,
   ⟨25, by decide⟩,
   ⟨3, 32767, ((({ ({} : State) with power := { thermo := [(3, { fresh := false })] } }).setb (tk 3 1) true)), by decide⟩⟩

theorem test_meets_LidEvents :
    (∃ (s : State), s.n (K 0x2200 1) = 1 ∧ s.due tmQuiet = true ∧ s.recentReleases.length < s.n (K 0x2200 7)) ∧
    (∃ (s : State), s.n (K 0x2200 1) = 1 ∧ s.due tmQuiet = true ∧ s.n (K 0x2200 7) ≤ s.recentReleases.length) ∧
    (∃ (s : State), (s.n (K 0x2200 1) ≠ 1 ∨ s.due tmQuiet = false)) ∧
    (∃ (s : State), s.due tmWindows = true) ∧
    (∃ (s : State), s.due tmWindows = false) ∧
    (∃ (s : State), s.lid.net = []) ∧
    (∃ (d : Detected) (s : State), s.lid.net = [d] ∧ s.stamp < d.record.stamp + 24) ∧
    (∃ (d : Detected) (s : State), s.lid.net = [d] ∧ d.record.stamp + 24 ≤ s.stamp ∧ d.crcBad = false ∧ d.acted = false ∧
      msgCleared d.word = false ∧ msgPersistent d.word = false ∧ s.windowOpen (msgSource d.word) = false ∧
      s.mapByte d.word % 8 = 0) ∧
    (∃ (source : Nat) (kind : Nat) (s : State), (wiredCause source kind = false ∨ s.sourceAbsent source = true)) ∧
    (∃ (source : Nat) (kind : Nat) (s : State), wiredCause source kind = true ∧ s.sourceAbsent source = false ∧ source ≠ 0 ∧
      s.lid.net = [] ∧ s.lid.target = 0 ∧ s.windowOpen source = false) ∧
    (∃ (source : Nat) (kind : Nat) (s : State), wiredCause source kind = true ∧ s.sourceAbsent source = false ∧ source ≠ 0 ∧
      s.lid.net = [] ∧ s.windowOpen source = true) ∧
    (∃ (ch : Nat) (s : State), (ch = 0 ∨ ch = 1) ∧ bitOf s.lid.sense ch = true ∧ bitOf s.lid.ilkShort ch = false) ∧
    (∃ (ch : Nat) (s : State), (ch = 0 ∨ ch = 1) ∧ bitOf s.lid.sense ch = true) ∧
    (∃ (ch : Nat) (s : State), (bitOf s.lid.sense ch = false ∨ 2 ≤ ch)) ∧
    (∃ (ch : Nat) (s : State), (ch = 0 ∨ ch = 1) ∧ bitOf s.lid.sense ch = true) ∧
    (∃ (ch : Nat) (s : State), (ch = 0 ∨ ch = 1) ∧ bitOf s.lid.sense ch = false ∧ bitOf s.lid.ilkShort ch = false) ∧
    (∃ (ch : Nat) (level : Bool) (s : State), (bitOf s.lid.sense ch = level ∨ 2 ≤ ch)) ∧
    (∃ (s : State), s.due tmDiscrepancy = true) ∧
    (∃ (s : State), s.due tmDiscrepancy = false) ∧
    (∃ (m : Message) (s : State), s.lid.net = [] ∧ (s.sourceAbsent m.lane = true ∨ 160 ≤ m.lane)) ∧
    (∃ (m : Message) (s : State), s.lid.net = [] ∧ s.lid.target = 0 ∧ s.sourceAbsent m.lane = false ∧ m.lane < 160 ∧
      crcGood m = false ∧ msgCleared m.word = true) ∧
    (∃ (m : Message) (s : State), s.lid.net = [] ∧ s.lid.target = 0 ∧ s.sourceAbsent m.lane = false ∧ m.lane < 160 ∧
      crcGood m = true ∧ msgSource m.word = m.lane) :=
  ⟨⟨((((up []).setn (K 0x2200 1) 1).setn (K 0x2200 7) 1).withDue tmQuiet), by decide⟩,
   ⟨((((up []).setn (K 0x2200 1) 1).setn (K 0x2200 7) 0).withDue tmQuiet), by decide⟩,
   ⟨((up []).setn (K 0x2200 1) 2), by decide⟩,
   ⟨({ (up []) with lid := { closing := [1, 2] } } |>.withDue tmWindows), by decide⟩,
   ⟨{}, by decide⟩,
   ⟨{}, by decide⟩,
   ⟨({ word := 5 }), ({ ({} : State) with lid := { net := [{ word := 5 }] }, stamp := 23 }), by decide⟩,
   ⟨({ word := faultWord 0x13 4 5 false false false }),
     (({ ({} : State) with lid := { net := [{ word := faultWord 0x13 4 5 false false false }] }, stamp := 24 }).put (K 0x2210 1) (.dom (List.replicate 2560 0))), by decide⟩,
   ⟨0x13, 4, {}, by decide⟩,
   ⟨0x8E, 0xA, (up []), by decide⟩,
   ⟨0x8E, 0xA, ({ (up []) with lid := { closing := [0x8E] } }), by decide⟩,
   ⟨1, ({ ({} : State) with lid := { sense := 3 } }), by decide⟩,
   ⟨1, ({ ({} : State) with lid := { sense := 2 } }), by decide⟩,
   ⟨2, {}, by decide⟩,
   ⟨0, ({ ({} : State) with lid := { sense := 1 } }), by decide⟩,
   ⟨1, {}, by decide⟩,
   ⟨2, false, {}, by decide⟩,
   ⟨(({} : State).withDue tmDiscrepancy), by decide⟩,
   ⟨{}, by decide⟩,
   ⟨(⟨160, 0, 0⟩), {}, by decide⟩,
   ⟨(⟨159, 2 ^ 51, 300⟩), {}, by decide⟩,
   ⟨(⟨0x80, 0x80 * 2 ^ 56, crc8 8 (0x80 * 2 ^ 56) 0⟩), {}, by decide⟩⟩

theorem test_meets_TrustAndRestarts :
    (∃ (ws : List Nat) (s : State), s.hasEntry 62 = true ∧ s.linkUp = true ∧ (s.ring 63).waiting = [] ∧
      field (wordAt ws 0) 63 56 = 1) ∧
    (∃ (ws : List Nat) (s : State), s.hasEntry 62 = true ∧ s.linkUp = true ∧ (s.ring 63).waiting = [] ∧
      field (wordAt ws 0) 63 56 = 2) ∧
    (∃ (ws : List Nat) (s : State), s.hasEntry 62 = true ∧ s.linkUp = true ∧ (s.ring 63).waiting = [] ∧
      field (wordAt ws 0) 63 56 = 3) ∧
    (∃ (ws : List Nat) (s : State), s.hasEntry 62 = true ∧ s.linkUp = true ∧ (s.ring 63).waiting = [] ∧
      field (wordAt ws 0) 63 56 = 4) ∧
    (∃ (s : State), s.hasEntry 62 = true ∧ s.linkUp = true ∧ (s.ring 63).waiting = []) ∧
    (∃ (ws : List Nat), trustStatus ws ≠ 0) ∧
    (∃ (body : Bytes) (a : Attestation) (l : List Attestation) (s : State), s.trust.signing = some body ∧
      s.trust.queue = a :: l ∧ a.ring = false) ∧
    (∃ (s : State), s.trust.signing = none) ∧
    (∃ (s : State), (s.due (tmReset 0) = true ∨ s.due (tmReset 1) = true)) ∧
    (∃ (s : State), s.due (tmReset 0) = false ∧ s.due (tmReset 1) = false ∧ s.due (tmCycle 1) = true) ∧
    (∃ (s : State), s.due (tmReset 0) = false ∧ s.due (tmReset 1) = false ∧ s.due (tmCycle 1) = false ∧
      s.due (tmCycle 0) = false) ∧
    (∃ (ns : Nat), 10000 ≤ ns) ∧
    (∃ (ns : Nat), 1000 ≤ ns ∧ ns < 9960) ∧
    (∃ (ns : Nat), 9960 ≤ ns ∧ ns < 10000) ∧
    (∃ (ns : Nat), ns < 1000) ∧
    (∃ (s : State), s.trust.resetLow = true) ∧
    (∃ (s : State), s.trust.resetLow = true ∧ s.twin.held = true) ∧
    (∃ (s : State), s.trust.resetLow = false) ∧
    (∃ (s : State), s.due tmBoot = true ∧ s.twin.dictionaryUp = false ∧ (s.n (K 0x2011 5) = 0 ∨ s.trust.automatic = false)) ∧
    (∃ (s : State), s.due tmBoot = true ∧ s.twin.dictionaryUp = false ∧ s.n (K 0x2011 5) ≠ 0 ∧ s.trust.automatic = true ∧
      s.n (K 0x2011 5) ≤ s.n (K 0x2011 8)) ∧
    (∃ (s : State), s.due tmBoot = true ∧ s.twin.dictionaryUp = false ∧ s.trust.automatic = true ∧
      s.n (K 0x2011 8) < s.n (K 0x2011 5)) ∧
    (∃ (s : State), (s.due tmBoot = false ∨ s.twin.dictionaryUp = true)) ∧
    (∃ (s : State), s.trust.cyclePin = true ∧ s.due tmPowerPulse = true) ∧
    (∃ (s : State), s.trust.cyclePin = false) :=
  ⟨⟨([2 ^ 56]), (waiting 62), by decide⟩,
   ⟨([2 * 2 ^ 56]), (waiting 62), by decide⟩,
   ⟨([3 * 2 ^ 56]), (waiting 62), by decide⟩,
   ⟨([4 * 2 ^ 56]), (waiting 62), by decide⟩,
   ⟨(waiting 62), by decide⟩,
   ⟨([5 * 2 ^ 56]), by decide⟩,
   ⟨([1]), ({ ring := false }), [], ({ (up []) with trust := { signing := some [1], queue := [{ ring := false }] } }),
     by decide⟩,
   ⟨(waiting 62), by decide⟩,
   ⟨((up []).withDue (tmReset 1)), by decide⟩,
   ⟨((up []).withDue (tmCycle 1)), by decide⟩,
   ⟨(up []), by decide⟩,
   ⟨10000, by decide⟩,
   ⟨1000, by decide⟩,
   ⟨9999, by decide⟩,
   ⟨999, by decide⟩,
   ⟨({ (up []) with trust := { resetLow := true } }), by decide⟩,
   ⟨({ (up []) with trust := { resetLow := true }, twin := { held := true } }), by decide⟩,
   ⟨(up []), by decide⟩,
   ⟨({ (up []) with twin := { dictionaryUp := false } } |>.withDue tmBoot |>.setn (K 0x2011 5) 0), by decide⟩,
   ⟨(({ (up []) with twin := { dictionaryUp := false }, trust := { automatic := true } } |>.withDue tmBoot).setn (K 0x2011 5) 3 |>.setn (K 0x2011 8) 3), by decide⟩,
   ⟨(({ (up []) with twin := { dictionaryUp := false }, trust := { automatic := true } } |>.withDue tmBoot).setn (K 0x2011 5) 3 |>.setn (K 0x2011 8) 2), by decide⟩,
   ⟨(waiting 62), by decide⟩,
   ⟨({ (up []) with trust := { cyclePin := true } } |>.withDue tmPowerPulse), by decide⟩,
   ⟨(waiting 62), by decide⟩⟩

end Sys2Proof.Tests
end

section
/-! PROOFS. What every command keeps, in the terms of `touches`, and the queue and the variant among it (R1). -/

open Sys2Proof Sys2Proof.Machine

namespace Sys2Proof.Machine

/-! ## Sets of parts as masks -/

/-- The set of a list of parts, as `Keeps` writes it. -/
def Area.mask (l : List Area) : Nat := l.foldr (fun p m => 2 ^ p.bit ||| m) 0

/-- `everything` lists the parts by their numbers, so that no two parts share one. -/
theorem Area.everything_getElem_bit (p : Area) : everything[p.bit]? = some p := by cases p <;> rfl

theorem Area.bit_injective : Function.Injective Area.bit := fun p q h =>
  Option.some.inj (by rw [← p.everything_getElem_bit, h, q.everything_getElem_bit])

theorem Area.testBit_mask (p : Area) (l : List Area) : (Area.mask l).testBit p.bit = decide (p ∈ l) := by
  induction l with
  | nil => simp [Area.mask]
  | cons q l ih =>
    have hq : (q.bit = p.bit) = (p = q) := propext ⟨fun h => Area.bit_injective h.symm, fun h => h ▸ rfl⟩
    rw [show Area.mask (q :: l) = 2 ^ q.bit ||| Area.mask l from rfl, Nat.testBit_or, Nat.testBit_two_pow, ih]
    simp [hq]

/-- A part outside a list reads as before where only the list's parts may have changed. -/
theorem Keeps.same_of_notMem {l : List Area} {s t : State} (h : Keeps (Area.mask l) s t) {p : Area} (hp : p ∉ l) :
    State.same p s t :=
  h.part p (by simp [Area.testBit_mask, hp])

/-! ## Every command -/

/-- A command changes no part but those `touches` lists for it, and keeps the variant, the queue and the canonical forms. -/
theorem exec_keeps_touches (c : Instr) (s : State) : KeepsO (Area.mask (touches c)) s (exec c s) := by
  cases c with dsimp only [touches]
  | coldPowerUp => exact execColdPowerUp_keeps (by decide) (Keeps.refl _ _)
  | trivetRailLost => exact execTrivetRailLost_keeps (by decide) (Keeps.refl _ _)
  | dictionaryWrite => exact execDictionaryWrite_keeps (by decide) (Keeps.refl _ _)
  | sdoDownload => exact execSdoDownload_keeps (by decide) (Keeps.refl _ _)
  | sdoUpload => exact execSdoUpload_keeps (by decide) (Keeps.refl _ _)
  | sdoCompleteAccess => exact execSdoCompleteAccess_keeps (by decide) (Keeps.refl _ _)
  | getOdList => exact execGetOdList_keeps (by decide) (Keeps.refl _ _)
  | getObjectDescription => exact execGetObjectDescription_keeps (by decide) (Keeps.refl _ _)
  | getEntryDescription => exact execGetEntryDescription_keeps (by decide) (Keeps.refl _ _)
  | mailboxRead => exact execMailboxRead_keeps (by decide) (Keeps.refl _ _)
  | mailboxWrite => exact execMailboxWrite_keeps (by decide) (Keeps.refl _ _)
  | mailboxReadComplete => exact execMailboxReadComplete_keeps (by decide) (Keeps.refl _ _)
  | mailboxWriteComplete => exact execMailboxWriteComplete_keeps (by decide) (Keeps.refl _ _)
  | esmStateRequest => exact execEsmStateRequest_keeps (by decide) (Keeps.refl _ _)
  | pdoCycle => exact execPdoCycle_keeps (by decide) (Keeps.refl _ _)
  | sm2WatchdogExpired => exact execSm2WatchdogExpired_keeps (by decide) (Keeps.refl _ _)
  | portLinkChange => exact execPortLinkChange_keeps (by decide) (Keeps.refl _ _)
  | storeParameters => exact execStoreParameters_keeps (by decide) (Keeps.refl _ _)
  | restoreDefaultParameters => exact execRestoreDefaultParameters_keeps (by decide) (Keeps.refl _ _)
  | encoderEdge => exact execEncoderEdge_keeps (by decide) (Keeps.refl _ _)
  | encoderStandstillTimeout => exact execEncoderStandstillTimeout_keeps (by decide) (Keeps.refl _ _)
  | encoderSignalInvalid => exact execEncoderSignalInvalid_keeps (by decide) (Keeps.refl _ _)
  | encoderEnableWrite => exact execEncoderEnableWrite_keeps (by decide) (Keeps.refl _ _)
  | axisPreset => exact execAxisPreset_keeps (by decide) (Keeps.refl _ _)
  | capture => exact execCapture_keeps (by decide) (Keeps.refl _ _)
  | captureConfigWrite => exact execCaptureConfigWrite_keeps (by decide) (Keeps.refl _ _)
  | mainsZeroCrossing => exact execMainsZeroCrossing_keeps (by decide) (Keeps.refl _ _)
  | mainsCrossingMissing => exact execMainsCrossingMissing_keeps (by decide) (Keeps.refl _ _)
  | mainsHoldoverExpired => exact execMainsHoldoverExpired_keeps (by decide) (Keeps.refl _ _)
  | setOutput => exact execSetOutput_keeps (by decide) (Keeps.refl _ _)
  | clearOutput => exact execClearOutput_keeps (by decide) (Keeps.refl _ _)
  | divert => exact execDivert_keeps (by decide) (Keeps.refl _ _)
  | startImage => exact execStartImage_keeps (by decide) (Keeps.refl _ _)
  | stopImage => exact execStopImage_keeps (by decide) (Keeps.refl _ _)
  | releaseBands => exact execReleaseBands_keeps (by decide) (Keeps.refl _ _)
  | hvOn => exact execHvOn_keeps (by decide) (Keeps.refl _ _)
  | hvRamp => exact execHvRamp_keeps (by decide) (Keeps.refl _ _)
  | hvOff => exact execHvOff_keeps (by decide) (Keeps.refl _ _)
  | stepMove => exact execStepMove_keeps (by decide) (Keeps.refl _ _)
  | driveProfile => exact execDriveProfile_keeps (by decide) (Keeps.refl _ _)
  | raiseEvent => exact execRaiseEvent_keeps (by decide) (Keeps.refl _ _)
  | checkInput => exact execCheckInput_keeps (by decide) (Keeps.refl _ _)
  | deliveryCheck => exact execDeliveryCheck_keeps (by decide) (Keeps.refl _ _)
  | pageState => exact execPageState_keeps (by decide) (Keeps.refl _ _)
  | outputOvercurrent => exact execOutputOvercurrent_keeps (by decide) (Keeps.refl _ _)
  | overcurrentClear => exact execOvercurrentClear_keeps (by decide) (Keeps.refl _ _)
  | stampSyncEdge => exact execStampSyncEdge_keeps (by decide) (Keeps.refl _ _)
  | dcSyncCycle => exact execDcSyncCycle_keeps (by decide) (Keeps.refl _ _)
  | alignmentSyncLost => exact execAlignmentSyncLost_keeps (by decide) (Keeps.refl _ _)
  | alignmentSourceWrite => exact execAlignmentSourceWrite_keeps (by decide) (Keeps.refl _ _)
  | hostMarker => exact execHostMarker_keeps (by decide) (Keeps.refl _ _)
  | traceEntry => exact execTraceEntry_keeps (by decide) (Keeps.refl _ _)
  | drainHoldoffExpired => exact execDrainHoldoffExpired_keeps (by decide) (Keeps.refl _ _)
  | sosWindowOpen => exact execSosWindowOpen_keeps (by decide) (Keeps.refl _ _)
  | facetSos => exact execFacetSos_keeps (by decide) (Keeps.refl _ _)
  | eosMeasured => exact execEosMeasured_keeps (by decide) (Keeps.refl _ _)
  | lockEnableWrite => exact execLockEnableWrite_keeps (by decide) (Keeps.refl _ _)
  | seekTimeout => exact execSeekTimeout_keeps (by decide) (Keeps.refl _ _)
  | relearn => exact execRelearn_keeps (by decide) (Keeps.refl _ _)
  | facetSignatureWrite => exact execFacetSignatureWrite_keeps (by decide) (Keeps.refl _ _)
  | engageRequestWrite => exact execEngageRequestWrite_keeps (by decide) (Keeps.refl _ _)
  | stationEngageChange => exact execStationEngageChange_keeps (by decide) (Keeps.refl _ _)
  | laserEnableWrite => exact execLaserEnableWrite_keeps (by decide) (Keeps.refl _ _)
  | apcSequence => exact execApcSequence_keeps (by decide) (Keeps.refl _ _)
  | readCurrent => exact execReadCurrent_keeps (by decide) (Keeps.refl _ _)
  | driverStatusPoll => exact execDriverStatusPoll_keeps (by decide) (Keeps.refl _ _)
  | beamRestore => exact execBeamRestore_keeps (by decide) (Keeps.refl _ _)
  | retiredBeamsWrite => exact execRetiredBeamsWrite_keeps (by decide) (Keeps.refl _ _)
  | vcselThermistorSample => exact execVcselThermistorSample_keeps (by decide) (Keeps.refl _ _)
  | laserOffEndOfLine => exact execLaserOffEndOfLine_keeps (by decide) (Keeps.refl _ _)
  | pagePlanSubmit => exact execPagePlanSubmit_keeps (by decide) (Keeps.refl _ _)
  | release => exact execRelease_keeps (by decide) (Keeps.refl _ _)
  | cancel => exact execCancel_keeps (by decide) (Keeps.refl _ _)
  | reprint => exact execReprint_keeps (by decide) (Keeps.refl _ _)
  | markSpoiled => exact execMarkSpoiled_keeps (by decide) (Keeps.refl _ _)
  | recipeWrite => exact execRecipeWrite_keeps (by decide) (Keeps.refl _ _)
  | admissionTest => exact execAdmissionTest_keeps (by decide) (Keeps.refl _ _)
  | commit => exact execCommit_keeps (by decide) (Keeps.refl _ _)
  | gateSkip => exact execGateSkip_keeps (by decide) (Keeps.refl _ _)
  | deliveryEdge => exact execDeliveryEdge_keeps (by decide) (Keeps.refl _ _)
  | deliveryWindowExpired => exact execDeliveryWindowExpired_keeps (by decide) (Keeps.refl _ _)
  | pageDeadlineExpired => exact execPageDeadlineExpired_keeps (by decide) (Keeps.refl _ _)
  | webBreak => exact execWebBreak_keeps (by decide) (Keeps.refl _ _)
  | splice => exact execSplice_keeps (by decide) (Keeps.refl _ _)
  | spliceCleared => exact execSpliceCleared_keeps (by decide) (Keeps.refl _ _)
  | checkLaneComplete => exact execCheckLaneComplete_keeps (by decide) (Keeps.refl _ _)
  | decodeBlockComplete => exact execDecodeBlockComplete_keeps (by decide) (Keeps.refl _ _)
  | laneFault => exact execLaneFault_keeps (by decide) (Keeps.refl _ _)
  | laneSelfTestDone => exact execLaneSelfTestDone_keeps (by decide) (Keeps.refl _ _)
  | takeOutOfService => exact execTakeOutOfService_keeps (by decide) (Keeps.refl _ _)
  | encodeBuffer => exact execEncodeBuffer_keeps (by decide) (Keeps.refl _ _)
  | encodeBand => exact execEncodeBand_keeps (by decide) (Keeps.refl _ _)
  | encodeJobComplete => exact execEncodeJobComplete_keeps (by decide) (Keeps.refl _ _)
  | streamInput => exact execStreamInput_keeps (by decide) (Keeps.refl _ _)
  | streamFlush => exact execStreamFlush_keeps (by decide) (Keeps.refl _ _)
  | streamClose => exact execStreamClose_keeps (by decide) (Keeps.refl _ _)
  | fabricTransactionComplete => exact execFabricTransactionComplete_keeps (by decide) (Keeps.refl _ _)
  | scrubRead => exact execScrubRead_keeps (by decide) (Keeps.refl _ _)
  | scrubPeriodExpired => exact execScrubPeriodExpired_keeps (by decide) (Keeps.refl _ _)
  | lockAcquire => exact execLockAcquire_keeps (by decide) (Keeps.refl _ _)
  | lockRelease => exact execLockRelease_keeps (by decide) (Keeps.refl _ _)
  | fenceOnly => exact execFenceOnly_keeps (by decide) (Keeps.refl _ _)
  | copyList => exact execCopyList_keeps (by decide) (Keeps.refl _ _)
  | copyIndex => exact execCopyIndex_keeps (by decide) (Keeps.refl _ _)
  | ladleJobComplete => exact execLadleJobComplete_keeps (by decide) (Keeps.refl _ _)
  | ladlePaceRequest => exact execLadlePaceRequest_keeps (by decide) (Keeps.refl _ _)
  | ladleLockWaitExpired => exact execLadleLockWaitExpired_keeps (by decide) (Keeps.refl _ _)
  | ladleBusError => exact execLadleBusError_keeps (by decide) (Keeps.refl _ _)
  | channelInputWrite => exact execChannelInputWrite_keeps (by decide) (Keeps.refl _ _)
  | linkTrained => exact execLinkTrained_keeps (by decide) (Keeps.refl _ _)
  | linkLoss => exact execLinkLoss_keeps (by decide) (Keeps.refl _ _)
  | ringDescriptorWrite => exact execRingDescriptorWrite_keeps (by decide) (Keeps.refl _ _)
  | ringEnable => exact execRingEnable_keeps (by decide) (Keeps.refl _ _)
  | ringDrained => exact execRingDrained_keeps (by decide) (Keeps.refl _ _)
  | doorbellWrite => exact execDoorbellWrite_keeps (by decide) (Keeps.refl _ _)
  | msixHoldoffExpired => exact execMsixHoldoffExpired_keeps (by decide) (Keeps.refl _ _)
  | vectorUnmask => exact execVectorUnmask_keeps (by decide) (Keeps.refl _ _)
  | ingestBlock => exact execIngestBlock_keeps (by decide) (Keeps.refl _ _)
  | ingestDataRead => exact execIngestDataRead_keeps (by decide) (Keeps.refl _ _)
  | drainBoundExpired => exact execDrainBoundExpired_keeps (by decide) (Keeps.refl _ _)
  | driveEnableWrite => exact execDriveEnableWrite_keeps (by decide) (Keeps.refl _ _)
  | alignTimeElapsed => exact execAlignTimeElapsed_keeps (by decide) (Keeps.refl _ _)
  | rampStep => exact execRampStep_keeps (by decide) (Keeps.refl _ _)
  | zeroCrossing => exact execZeroCrossing_keeps (by decide) (Keeps.refl _ _)
  | rampHandoverTimeout => exact execRampHandoverTimeout_keeps (by decide) (Keeps.refl _ _)
  | observerLoss => exact execObserverLoss_keeps (by decide) (Keeps.refl _ _)
  | catchPulse => exact execCatchPulse_keeps (by decide) (Keeps.refl _ _)
  | catchTimeout => exact execCatchTimeout_keeps (by decide) (Keeps.refl _ _)
  | retryIntervalElapsed => exact execRetryIntervalElapsed_keeps (by decide) (Keeps.refl _ _)
  | currentLimitExceeded => exact execCurrentLimitExceeded_keeps (by decide) (Keeps.refl _ _)
  | tripCurrent => exact execTripCurrent_keeps (by decide) (Keeps.refl _ _)
  | sdInputInvalid => exact execSdInputInvalid_keeps (by decide) (Keeps.refl _ _)
  | startProfile => exact execStartProfile_keeps (by decide) (Keeps.refl _ _)
  | commandPinLost => exact execCommandPinLost_keeps (by decide) (Keeps.refl _ _)
  | commandPinReturn => exact execCommandPinReturn_keeps (by decide) (Keeps.refl _ _)
  | brakeTimeElapsed => exact execBrakeTimeElapsed_keeps (by decide) (Keeps.refl _ _)
  | busSample => exact execBusSample_keeps (by decide) (Keeps.refl _ _)
  | chopperCheck => exact execChopperCheck_keeps (by decide) (Keeps.refl _ _)
  | chopperTest => exact execChopperTest_keeps (by decide) (Keeps.refl _ _)
  | busOvervoltageTrip => exact execBusOvervoltageTrip_keeps (by decide) (Keeps.refl _ _)
  | busReconnect => exact execBusReconnect_keeps (by decide) (Keeps.refl _ _)
  | axisEnableWrite => exact execAxisEnableWrite_keeps (by decide) (Keeps.refl _ _)
  | startMove => exact execStartMove_keeps (by decide) (Keeps.refl _ _)
  | targetPositionWrite => exact execTargetPositionWrite_keeps (by decide) (Keeps.refl _ _)
  | stop => exact execStop_keeps (by decide) (Keeps.refl _ _)
  | positionPreset => exact execPositionPreset_keeps (by decide) (Keeps.refl _ _)
  | startHoming => exact execStartHoming_keeps (by decide) (Keeps.refl _ _)
  | standstillReleaseElapsed => exact execStandstillReleaseElapsed_keeps (by decide) (Keeps.refl _ _)
  | reEnergiseDone => exact execReEnergiseDone_keeps (by decide) (Keeps.refl _ _)
  | moveComplete => exact execMoveComplete_keeps (by decide) (Keeps.refl _ _)
  | loadAngleEstimate => exact execLoadAngleEstimate_keeps (by decide) (Keeps.refl _ _)
  | limitInputActive => exact execLimitInputActive_keeps (by decide) (Keeps.refl _ _)
  | homeInputEdge => exact execHomeInputEdge_keeps (by decide) (Keeps.refl _ _)
  | homeDebounceElapsed => exact execHomeDebounceElapsed_keeps (by decide) (Keeps.refl _ _)
  | bridgeOvercurrent => exact execBridgeOvercurrent_keeps (by decide) (Keeps.refl _ _)
  | bridgeThermalShutdown => exact execBridgeThermalShutdown_keeps (by decide) (Keeps.refl _ _)
  | loopTrigger => exact execLoopTrigger_keeps (by decide) (Keeps.refl _ _)
  | loopEvaluation => exact execLoopEvaluation_keeps (by decide) (Keeps.refl _ _)
  | slotEnableWrite => exact execSlotEnableWrite_keeps (by decide) (Keeps.refl _ _)
  | modeWrite => exact execModeWrite_keeps (by decide) (Keeps.refl _ _)
  | loopTargetWrite => exact execLoopTargetWrite_keeps (by decide) (Keeps.refl _ _)
  | hvEnableWrite => exact execHvEnableWrite_keeps (by decide) (Keeps.refl _ _)
  | hostSwitch => exact execHostSwitch_keeps (by decide) (Keeps.refl _ _)
  | hvOpenLoad => exact execHvOpenLoad_keeps (by decide) (Keeps.refl _ _)
  | hvRampComplete => exact execHvRampComplete_keeps (by decide) (Keeps.refl _ _)
  | zoneEnableWrite => exact execZoneEnableWrite_keeps (by decide) (Keeps.refl _ _)
  | kettleGateEdge => exact execKettleGateEdge_keeps (by decide) (Keeps.refl _ _)
  | kettlePhaseFire => exact execKettlePhaseFire_keeps (by decide) (Keeps.refl _ _)
  | bulkSample => exact execBulkSample_keeps (by decide) (Keeps.refl _ _)
  | supplyRecoveryElapsed => exact execSupplyRecoveryElapsed_keeps (by decide) (Keeps.refl _ _)
  | logicRailFault => exact execLogicRailFault_keeps (by decide) (Keeps.refl _ _)
  | motorBusSample => exact execMotorBusSample_keeps (by decide) (Keeps.refl _ _)
  | domainRequestWrite => exact execDomainRequestWrite_keeps (by decide) (Keeps.refl _ _)
  | domainReady => exact execDomainReady_keeps (by decide) (Keeps.refl _ _)
  | domainRampTimeout => exact execDomainRampTimeout_keeps (by decide) (Keeps.refl _ _)
  | domainStopped => exact execDomainStopped_keeps (by decide) (Keeps.refl _ _)
  | temperatureSample => exact execTemperatureSample_keeps (by decide) (Keeps.refl _ _)
  | channelEnableWrite => exact execChannelEnableWrite_keeps (by decide) (Keeps.refl _ _)
  | faultMessage => exact execFaultMessage_keeps (by decide) (Keeps.refl _ _)
  | wiredFaultCause => exact execWiredFaultCause_keeps (by decide) (Keeps.refl _ _)
  | quietPeriodExpired => exact execQuietPeriodExpired_keeps (by decide) (Keeps.refl _ _)
  | consequenceLimitExpired => exact execConsequenceLimitExpired_keeps (by decide) (Keeps.refl _ _)
  | faultClear => exact execFaultClear_keeps (by decide) (Keeps.refl _ _)
  | stickyClear => exact execStickyClear_keeps (by decide) (Keeps.refl _ _)
  | reactionMapWrite => exact execReactionMapWrite_keeps (by decide) (Keeps.refl _ _)
  | interlockTestPulse => exact execInterlockTestPulse_keeps (by decide) (Keeps.refl _ _)
  | interlockSenseChange => exact execInterlockSenseChange_keeps (by decide) (Keeps.refl _ _)
  | discrepancyTimeout => exact execDiscrepancyTimeout_keeps (by decide) (Keeps.refl _ _)
  | inject => exact execInject_keeps (by decide) (Keeps.refl _ _)
  | heartbeatWireBeat => exact execHeartbeatWireBeat_keeps (by decide) (Keeps.refl _ _)
  | heartbeatWord => exact execHeartbeatWord_keeps (by decide) (Keeps.refl _ _)
  | heartbeatPeriodEnd => exact execHeartbeatPeriodEnd_keeps (by decide) (Keeps.refl _ _)
  | sequencerHwFailure => exact execSequencerHwFailure_keeps (by decide) (Keeps.refl _ _)
  | ownershipTaken => exact execOwnershipTaken_keeps (by decide) (Keeps.refl _ _)
  | gapWatchdogExpired => exact execGapWatchdogExpired_keeps (by decide) (Keeps.refl _ _)
  | checkpointDelta => exact execCheckpointDelta_keeps (by decide) (Keeps.refl _ _)
  | healthReport => exact execHealthReport_keeps (by decide) (Keeps.refl _ _)
  | standbyReload => exact execStandbyReload_keeps (by decide) (Keeps.refl _ _)
  | unitLoadComplete => exact execUnitLoadComplete_keeps (by decide) (Keeps.refl _ _)
  | plannedSwitchOver => exact execPlannedSwitchOver_keeps (by decide) (Keeps.refl _ _)
  | plannedWaitExpired => exact execPlannedWaitExpired_keeps (by decide) (Keeps.refl _ _)
  | crockMount => exact execCrockMount_keeps (by decide) (Keeps.refl _ _)
  | crockRead => exact execCrockRead_keeps (by decide) (Keeps.refl _ _)
  | crockWrite => exact execCrockWrite_keeps (by decide) (Keeps.refl _ _)
  | trim => exact execTrim_keeps (by decide) (Keeps.refl _ _)
  | spoolPage => exact execSpoolPage_keeps (by decide) (Keeps.refl _ _)
  | spoolLoad => exact execSpoolLoad_keeps (by decide) (Keeps.refl _ _)
  | spoolDelete => exact execSpoolDelete_keeps (by decide) (Keeps.refl _ _)
  | spoolList => exact execSpoolList_keeps (by decide) (Keeps.refl _ _)
  | slotCommit => exact execSlotCommit_keeps (by decide) (Keeps.refl _ _)
  | slotErase => exact execSlotErase_keeps (by decide) (Keeps.refl _ _)
  | crockCommandComplete => exact execCrockCommandComplete_keeps (by decide) (Keeps.refl _ _)
  | nandProgramFail => exact execNandProgramFail_keeps (by decide) (Keeps.refl _ _)
  | crockScrubPass => exact execCrockScrubPass_keeps (by decide) (Keeps.refl _ _)
  | healthRun => exact execHealthRun_keeps (by decide) (Keeps.refl _ _)
  | attest => exact execAttest_keeps (by decide) (Keeps.refl _ _)
  | attestObject => exact execAttestObject_keeps (by decide) (Keeps.refl _ _)
  | certificates => exact execCertificates_keeps (by decide) (Keeps.refl _ _)
  | moduleReset => exact execModuleReset_keeps (by decide) (Keeps.refl _ _)
  | powerCycle => exact execPowerCycle_keeps (by decide) (Keeps.refl _ _)
  | moduleResetObject => exact execModuleResetObject_keeps (by decide) (Keeps.refl _ _)
  | powerCycleRequest => exact execPowerCycleRequest_keeps (by decide) (Keeps.refl _ _)
  | moduleResetAct => exact execModuleResetAct_keeps (by decide) (Keeps.refl _ _)
  | resetNLow => exact execResetNLow_keeps (by decide) (Keeps.refl _ _)
  | resetNRelease => exact execResetNRelease_keeps (by decide) (Keeps.refl _ _)
  | bootWatchdogExpired => exact execBootWatchdogExpired_keeps (by decide) (Keeps.refl _ _)
  | powerCyclePulseExpired => exact execPowerCyclePulseExpired_keeps (by decide) (Keeps.refl _ _)
  | expectedMeasurementsWrite => exact execExpectedMeasurementsWrite_keeps (by decide) (Keeps.refl _ _)
  | mismatchAcknowledge => exact execMismatchAcknowledge_keeps (by decide) (Keeps.refl _ _)
  | reinitSequencerUnit => exact execReinitSequencerUnit_keeps (by decide) (Keeps.refl _ _)
  | reinitPressLane => exact execReinitPressLane_keeps (by decide) (Keeps.refl _ _)
  | reinitStation => exact execReinitStation_keeps (by decide) (Keeps.refl _ _)
  | reinitPolygonTiming => exact execReinitPolygonTiming_keeps (by decide) (Keeps.refl _ _)
  | reinitEncoder => exact execReinitEncoder_keeps (by decide) (Keeps.refl _ _)
  | reinitPositionBase => exact execReinitPositionBase_keeps (by decide) (Keeps.refl _ _)
  | reinitLadle => exact execReinitLadle_keeps (by decide) (Keeps.refl _ _)
  | reinitCrock => exact execReinitCrock_keeps (by decide) (Keeps.refl _ _)
  | reinitDriveChannel => exact execReinitDriveChannel_keeps (by decide) (Keeps.refl _ _)
  | reinitStepperAxis => exact execReinitStepperAxis_keeps (by decide) (Keeps.refl _ _)
  | reinitLoopSlot => exact execReinitLoopSlot_keeps (by decide) (Keeps.refl _ _)
  | reinitHvChannel => exact execReinitHvChannel_keeps (by decide) (Keeps.refl _ _)
  | reinitKettleZone => exact execReinitKettleZone_keeps (by decide) (Keeps.refl _ _)
  | spliceDeactivation => exact execSpliceDeactivation_keeps (by decide) (Keeps.refl _ _)
  | pwmPeriod => exact execPwmPeriod_keeps (by decide) (Keeps.refl _ _)
  | seekingBlankingElapsed => exact execSeekingBlankingElapsed_keeps (by decide) (Keeps.refl _ _)
  | eosWindowOpen => exact execEosWindowOpen_keeps (by decide) (Keeps.refl _ _)
  | attestationSigned => exact execAttestationSigned_keeps (by decide) (Keeps.refl _ _)
  | automaticSpoolDone => exact execAutomaticSpoolDone_keeps (by decide) (Keeps.refl _ _)

end Sys2Proof.Machine

/-- Settles O4: every command keeps the queue and the variant, since its own operation does. That the variant stands as
state that nothing changes and the queue is the model's own are its choices (log entries 1, 3 and 160). -/
theorem commandsLeaveTheQueue : Obligations.CommandsLeaveTheQueue := by
  unfold Obligations.CommandsLeaveTheQueue
  intro c s t h
  have hk : Keeps (Area.mask (touches c)) s t := exec_keeps_touches c s t h
  exact ⟨hk.queue, hk.variant⟩
end

section
/-! PROOFS. A request that is answered, and a write that the checks reject (R8, R274). -/

open Sys2Proof Sys2Proof.Machine

namespace Sys2Proof.Machine

/-! ## Answering a request -/

theorem State.val_when {f : State → State} {k : Nat} (hf : ∀ t, (f t).val k = t.val k) (s : State) (c : Bool) :
    (s.when c f).val k = s.val k := by
  unfold State.when
  split
  · exact hf s
  · rfl

theorem State.svc_when {f : State → State} (hf : ∀ t, (f t).svc = t.svc) (s : State) (c : Bool) : (s.when c f).svc = s.svc := by
  unfold State.when
  split
  · exact hf s
  · rfl

/-- An answer changes no object but the counts of requests and aborts of the field network (R289). -/
theorem State.val_answered (s : State) (path : Path) (r : Reply) {k : Nat} (h4 : k ≠ K 0x2060 4) (h5 : k ≠ K 0x2060 5)
    (h6 : k ≠ K 0x2060 6) (h7 : k ≠ K 0x2060 7) : (s.answered path r).val k = s.val k := by
  cases path with
  | ethercat => exact (State.val_when (fun t => t.val_put_ne _ h5) _ _).trans (State.val_put_ne s _ h4)
  | mailbox => exact (State.val_when (fun t => t.val_put_ne _ h7) _ _).trans (State.val_put_ne s _ h6)

theorem State.svc_answered_ethercat (s : State) (r : Reply) : (s.answered .ethercat r).svc =
    { s.svc with ethercat := r, detailEthercat := if r.status ≠ 0 then r.detail else s.svc.detailEthercat } := by
  simp [State.answered, viaEthercat, State.svc_when fun t => t.put_svc _ _]

theorem State.svc_answered_mailbox (s : State) (r : Reply) : (s.answered .mailbox r).svc =
    { s.svc with mailbox := r, detailMailbox := if r.status ≠ 0 then r.detail else s.svc.detailMailbox } := by
  simp [State.answered, viaEthercat, State.svc_when fun t => t.put_svc _ _]

/-- An answer leaves every part but the objects and the dictionary service as it was. -/
theorem State.same_answered (s : State) (path : Path) (r : Reply) {p : Area} (ho : p ≠ .objects) (hs : p ≠ .service) :
    State.same p s (s.answered path r) :=
  Keeps.same_of_notMem (l := [.objects, .service]) (State.answered_keeps rfl (Keeps.refl _ _)) (by simp [ho, hs])

/-! ## A write that is rejected -/

theorem State.request_of_served {s : State} {path : Path} (ho : s.pathOpen path = true) (hs : s.served = true) (i : Instr)
    (f : State → State) : s.request path i f = f s := by
  simp [State.request, ho, hs]

theorem State.serveWrite_of_writeAbort {s : State} {path : Path} {index sub : Nat} {data : Bytes} {a : Abort}
    (ha : s.writeAbort path false index sub data = some a) (answers : List Frame) :
    s.serveWrite path index sub data answers = s.answered path (Reply.aborted a) := by
  have hw : s.writeObject path false index sub data answers = (s, Reply.aborted a) := by
    unfold State.writeObject
    rw [ha]
  simp [State.serveWrite, hw, State.noteWrite, Reply.aborted]

/-- A write that the checks reject is answered with the abort of the first check that fails, and does nothing else (R8, R274). -/
theorem exec_dictionaryWrite_of_writeAbort {s : State} {path : Path} {index sub : Nat} {data : Bytes} {a : Abort}
    (ho : s.pathOpen path = true) (hs : s.served = true) (ha : s.writeAbort path false index sub data = some a) (answers : List Frame) :
    exec (.dictionaryWrite path index sub data answers) s = .next (s.answered path (Reply.aborted a)) := by
  rw [exec_dictionaryWrite, execDictionaryWrite, State.request_of_served ho hs, State.serveWrite_of_writeAbort ha]

end Sys2Proof.Machine

/-- Settles O10: a rejected write is its answer and nothing else, and an answer changes the four counts and what the
service last answered on the path. -/
theorem rejectedWriteChangesNothing : Obligations.RejectedWriteChangesNothing := by
  unfold Obligations.RejectedWriteChangesNothing
  intro path index sub data answers a s ho hs ha
  refine ⟨_, exec_dictionaryWrite_of_writeAbort ho hs ha answers, fun _ => State.val_answered s path _, ?_, ?_,
    fun _ => State.same_answered s path _, ?_⟩
  · rintro rfl
    simp [State.svc_answered_ethercat, Reply.aborted]
  · rintro rfl
    simp [State.svc_answered_mailbox, Reply.aborted]
  · cases path with
    | ethercat => simp [State.svc_answered_ethercat]
    | mailbox => simp [State.svc_answered_mailbox]
end

section
/-! PROOFS. What the first start leaves, group by group (R7, R467; log entries 6 and 7). -/

open Sys2Proof Sys2Proof.Machine

namespace Sys2Proof.Machine

/-- The base domains, and no other, are ON (R382). -/
theorem State.on_reset : ∀ pd < 17, 1 ≤ pd → State.reset.on pd = [1, 2, 3, 6, 7, 8].contains pd := by decide

theorem State.enginePinsInert_reset : State.reset.enginePinsInert = true := by decide

/-- Of the outputs without an enable, those that go with the Trivet are driven, and those of PD13 and PD16 are not (R7). -/
theorem State.freePins_reset :
    State.reset.clockPin = none ∧ State.reset.supplyPins = (false, false, true) ∧ State.reset.interlockPins = true := by
  decide

/-- The EtherCAT state machine is in INIT, no fault stands, no reaction is applied, A is active and B standby (R55, R422). -/
theorem State.stateObjects_reset :
    State.reset.n (K 0x2060 1) = 1 ∧ State.reset.n (K 0x2200 1) = 0 ∧ State.reset.n (K 0x2200 2) = 0 ∧
      State.reset.n (K 0x2300 1) = 1 ∧ State.reset.n (K 0x2300 2) = 2 ∧ State.reset.n (K 0x2300 3) = 3 := by
  decide

end Sys2Proof.Machine

/-- Settles O7: the fields the start leaves at their initial values stand so in `State.reset`, and the objects, the
pins and the domains read as the lemmas above evaluate them. -/
theorem resetValues : Obligations.ResetValues := by
  unfold Obligations.ResetValues
  obtain ⟨hesm, hfault, hreaction, hactive, ha, hb⟩ := State.stateObjects_reset
  obtain ⟨hclock, hsupply, hlock⟩ := State.freePins_reset
  exact ⟨rfl, rfl, rfl, rfl, rfl, rfl, hesm, hfault, hreaction, hactive, ha, hb, rfl, State.enginePinsInert_reset, hclock,
    hsupply, hlock, fun pd h1 h16 => State.on_reset pd (Nat.lt_succ_of_le h16) h1⟩
end

section
/-! PROOFS. One step: the command at the front of the queue, or one step of the 4 ns grid (R12, R47; log entry 3). -/

open Sys2Proof Sys2Proof.Machine

namespace Sys2Proof.Machine

/-! ## The step -/

theorem step_cons (c : Instr) (s : State) (rest : List Instr) :
    step { s with pending := c :: rest } = exec c { s with pending := rest } := rfl

theorem step_nil {s : State} (h : s.pending = []) : step s = .next s.idle := by
  unfold step
  rw [h]

/-! ## A step of the grid -/

theorem State.idle_of_powered {s : State} (h : s.power.trivet = true) :
    s.idle = s.noteEligible.noteGate.issueAnswers.tick.stepperTick := if_pos h

theorem State.idle_of_unpowered {s : State} (h : s.power.trivet = false) : s.idle = s := by
  simp [State.idle, h]

/-- Of a state the end of a grid step notes only the units' eligibility and how the gate was judged (R160, R426). -/
theorem State.noteGate_noteEligible (s : State) : ∃ e g, s.noteEligible.noteGate =
    { s with twin := { s.twin with eligible := e }, pages := { s.pages with gateFound := g } } := by
  unfold State.noteGate
  split
  · exact ⟨_, _, rfl⟩
  · exact ⟨_, s.pages.gateFound, rfl⟩

/-- The interpolation and the mains phase run without the clock, so a tick is one step of 4 ns (R12, R47). -/
theorem State.stamp_tick (s : State) : s.tick.stamp = s.stamp + 4 := by
  unfold State.tick
  extract_lets _ s1 s2
  have h2 : Keeps (Area.mask [.objects, .position, .recorder]) s1 s2 :=
    Keeps.ite (Keeps.each (fun _ _ ht => State.interpolate_keeps rfl ht) (Keeps.refl _ _)) (Keeps.refl _ _)
  exact (State.runMains_keeps rfl h2).part .clock rfl

theorem State.stamp_stepperTick (s : State) : s.stepperTick.stamp = s.stamp :=
  (State.stepperTick_keeps (m := Area.mask [.objects, .position, .recorder, .steppers]) rfl (Keeps.refl _ _)).part .clock rfl

theorem State.stamp_issueAnswers (s : State) : s.issueAnswers.stamp = s.stamp :=
  (State.issueAnswers_keeps (m := Area.mask [.service]) rfl (Keeps.refl _ _)).part .clock rfl

/-- The parts of the machine that run on with the grid once the step's end is noted. -/
def gridParts : List Area := [.clock, .objects, .position, .recorder, .steppers, .service]

theorem State.grid_keeps (s : State) : Keeps (Area.mask gridParts) s s.issueAnswers.tick.stepperTick :=
  State.stepperTick_keeps rfl (State.tick_keeps rfl (State.issueAnswers_keeps rfl (Keeps.refl _ _)))

/-- The memory controller as a whole is its registers and the two memories. -/
theorem State.fabric_eq_of_same {s t : State} (hr : State.same .fabric s t) (hw : State.same .window s t)
    (hh : State.same .host s t) : t.fabric = s.fabric := by
  have h := congrArg (fun f : Fabric => { f with window := s.fabric.window, host := s.fabric.host }) hr
  change { t.fabric with window := s.fabric.window, host := s.fabric.host } = s.fabric at h
  rw [← show t.fabric.window = s.fabric.window from hw, ← show t.fabric.host = s.fabric.host from hh] at h
  exact h

end Sys2Proof.Machine

/-- Settles O1: the front of the queue is what the step takes. -/
theorem stepTakesFront : Obligations.StepTakesFront := by
  unfold Obligations.StepTakesFront
  exact fun c s => step_cons c s s.pending

/-- Settles O2: a powered step of the grid notes the eligibility and the gate, and what then runs on leaves every part
outside `gridParts` as it was. -/
theorem stepOnEmptyQueue : Obligations.StepOnEmptyQueue := by
  unfold Obligations.StepOnEmptyQueue
  intro s hq
  refine ⟨s.idle, step_nil hq, ?_⟩
  cases hp : s.power.trivet with
  | false =>
    rw [State.idle_of_unpowered hp]
    exact ⟨hq, nofun, fun _ => rfl, rfl, rfl, rfl, rfl, rfl, rfl, rfl, rfl, rfl, rfl, rfl, rfl, rfl⟩
  | true =>
    obtain ⟨e, g, hn⟩ := s.noteGate_noteEligible
    rw [State.idle_of_powered hp, hn]
    have hk := State.grid_keeps { s with twin := { s.twin with eligible := e }, pages := { s.pages with gateFound := g } }
    have same : ∀ p, p ∉ gridParts → State.same p _ _ := fun p => hk.same_of_notMem
    refine ⟨hk.queue.trans hq, fun _ => ?_, nofun, ?_, same .press (by decide), same .rings (by decide), same .lid (by decide),
      ?_, same .trust (by decide), same .crock (by decide), ?_, same .polygons (by decide), same .stations (by decide),
      same .drives (by decide), same .loops (by decide), same .power (by decide)⟩
    · rw [State.stamp_stepperTick, State.stamp_tick, State.stamp_issueAnswers]
    · rw [show _ = _ from same .pages (by decide)]
    · rw [show _ = _ from same .twin (by decide)]
    · exact State.fabric_eq_of_same (same .fabric (by decide)) (same .window (by decide)) (same .host (by decide))
end

section
/-! PROOFS. A slot that fires, and the actions on outputs and on the recorder (R11, R12, R40, R143). -/

open Sys2Proof Sys2Proof.Machine

namespace Sys2Proof.Machine

/-! ## Firing -/

/-- A slot that fires is freed, counted and recorded, and its action acts on what that leaves. -/
theorem State.fireSlot_of_fires {s : State} {k action : Nat} (h : s.Fires k action) (effect : State → Slot → State) :
    s.fireSlot k action effect = effect (s.fired k) (s.slot k) := by
  obtain ⟨hon, hk, hdue, rfl, hfirst⟩ := h
  simp [State.fireSlot, State.fired, hon, hk, hdue, hfirst]

theorem State.fireSlot_of_not_due {s : State} {k : Nat} (h : s.slotDue k = false) (action : Nat) (effect : State → Slot → State) :
    s.fireSlot k action effect = s := by
  simp [State.fireSlot, h]

/-! ## What firing leaves -/

@[simp] theorem State.slot_fired (s : State) (k : Nat) : (s.fired k).slot k = {} := by simp [State.fired]

@[simp] theorem State.slotOut_fired (s : State) (k : Nat) : (s.fired k).pos.slotOut = s.pos.slotOut := rfl

@[simp] theorem State.page_fired (s : State) (k i : Nat) : (s.fired k).page i = s.page i := rfl

@[simp] theorem State.n_fired_count (s : State) (k : Nat) :
    (s.fired k).n (K 0x3040 4) = (s.n (K 0x3040 4) + 1) % 2 ^ 32 := by
  simp only [State.fired, State.n_eventHw, State.bump_eq, State.n_put_same, Int.toNat_natCast, State.n_setSlot]

/-- Firing changes no object but the count of slots fired. -/
theorem State.val_fired (s : State) (k : Nat) {j : Nat} (h : j ≠ K 0x3040 4) : (s.fired k).val j = s.val j := by
  rw [State.fired, State.val_eventHw, State.bump_eq, State.val_put_ne _ _ h, State.val_setSlot]

/-- A record carries neither the slots nor their count. -/
theorem State.record_fired (s : State) (k type source payload : Nat) (firmware : Bool) :
    (s.fired k).record type source payload firmware = s.record type source payload firmware := by
  have hn : ∀ j, j ≠ K 0x3040 4 → (s.fired k).n j = s.n j := fun j h => (State.reads_eq (s.val_fired k h)).2.1
  have hinvalid : (s.fired k).a1Invalid = s.a1Invalid := by
    unfold State.a1Invalid
    rw [hn _ (by decide)]
    rfl
  have ha1 : (s.fired k).a1 = s.a1 := by
    unfold State.a1
    rw [hinvalid]
    rfl
  have hseq : (s.fired k).seqB = s.seqB := by
    unfold State.seqB
    rw [hn _ (by decide)]
  unfold State.record
  rw [hinvalid, ha1, hseq, hn _ (by decide), hn _ (by decide)]
  rfl

/-! ## The output of a slot -/

@[simp] theorem State.slot_slotOutput (s : State) (out : Nat) (on : Bool) (k : Nat) : (s.slotOutput out on).slot k = s.slot k := rfl

@[simp] theorem State.n_slotOutput (s : State) (out : Nat) (on : Bool) (k : Nat) : (s.slotOutput out on).n k = s.n k := rfl

@[simp] theorem State.val_slotOutput (s : State) (out : Nat) (on : Bool) (k : Nat) : (s.slotOutput out on).val k = s.val k := rfl

@[simp] theorem State.slotOut_slotOutput (s : State) (out : Nat) (on : Bool) :
    (s.slotOutput out on).pos.slotOut = putBit s.pos.slotOut (out - 1) on := rfl

theorem State.diverts_fired (s : State) (k : Nat) (x : Slot) : (s.fired k).diverts x = s.diverts x := rfl

theorem State.diverts_iff {s : State} {x : Slot} : s.diverts x = true ↔
    x.page ≠ 0 ∧ (s.page (x.page - 1)).tag = x.tag ∧ (s.page (x.page - 1)).spoil ≠ 0 := by
  simp [State.diverts]

/-! ## The commands -/

theorem exec_setOutput_of_fires {s : State} {k : Nat} (h : s.Fires k 1) :
    exec (.setOutput k) s = .next ((s.fired k).slotOutput (s.slot k).target true) := by
  rw [exec_setOutput, execSetOutput, State.fireSlot_of_fires h]

theorem exec_clearOutput_of_fires {s : State} {k : Nat} (h : s.Fires k 2) :
    exec (.clearOutput k) s = .next ((s.fired k).slotOutput (s.slot k).target false) := by
  rw [exec_clearOutput, execClearOutput, State.fireSlot_of_fires h]

theorem exec_divert_of_fires {s : State} {k : Nat} (h : s.Fires k 3) : exec (.divert k) s =
    .next (if s.diverts (s.slot k) then (s.fired k).slotOutput (s.slot k).target true else s.fired k) := by
  rw [exec_divert, execDivert, State.fireSlot_of_fires h, State.diverts_fired]

theorem exec_raiseEvent_of_fires {s : State} {k : Nat} (h : s.Fires k 0x40) : exec (.raiseEvent k) s =
    .next ((s.fired k).event 85 ((s.slot k).arg + (s.slot k).step * 65536 + (s.slot k).tag * 2 ^ 32)) := by
  rw [exec_raiseEvent, execRaiseEvent, State.fireSlot_of_fires h]

end Sys2Proof.Machine

/-- Settles O22: each command is its slot fired and then the action on the output or the recorder, whose effect on the
slot, the outputs and the objects the lemmas above say. -/
theorem slotOutputs : Obligations.SlotOutputs := by
  unfold Obligations.SlotOutputs
  intro k s
  refine ⟨fun h => ?_, fun h => ?_, fun h hp ht hs => ?_, fun h hp => ?_, fun h => ?_, fun h => ?_⟩
  · exact ⟨_, exec_setOutput_of_fires h, rfl, by simp, by simp, by simp, fun j hj => by simp [s.val_fired k hj]⟩
  · exact ⟨_, exec_clearOutput_of_fires h, rfl, by simp, by simp, fun j hj => by simp [s.val_fired k hj]⟩
  · have hd : s.diverts (s.slot k) = true := State.diverts_iff.mpr ⟨hp, ht, hs⟩
    exact ⟨_, by rw [exec_divert_of_fires h, if_pos hd], rfl, by simp, by simp⟩
  · have hd : ¬ s.diverts (s.slot k) = true := fun hd => (State.diverts_iff.mp hd).1 hp
    rw [exec_divert_of_fires h, if_neg hd]
  · exact ⟨_, exec_raiseEvent_of_fires h, by simp, by simp, by rw [State.event_held, State.record_fired]⟩
  · simp [execSetOutput, execClearOutput, execDivert, execRaiseEvent, State.fireSlot_of_not_due h]
end

section
/-! PROOFS. The tests of admission and commit, and the gate skip (R153, R155 to R158, R160). -/

open Sys2Proof Sys2Proof.Machine

namespace Sys2Proof.Machine

/-! ## What a page entry and a page state leave of the page table -/

/-- An entry of a page's ring is put on the ring, or kept for the unit that takes over; the pages stay as they are. -/
theorem State.sendPage_pages (s : State) (ring : Nat) (e : List Nat) :
    ∃ g, (s.sendPage ring e).pages = { s.pages with gapEntries := g } := by
  unfold State.sendPage
  split
  · exact ⟨_, rfl⟩
  · have hk : Keeps (Area.mask [.objects, .timers, .recorder, .rings, .trust]) s (s.produce ring e) :=
      State.produce_keeps rfl (Keeps.refl _ _)
    exact ⟨s.pages.gapEntries, hk.part .pages rfl⟩

theorem State.page_of_table {s t : State} (h : t.pages.table = s.pages.table) (i : Nat) : t.page i = s.page i := by
  unfold State.page
  rw [h]

@[simp] theorem State.page_sendPage (s : State) (ring : Nat) (e : List Nat) (i : Nat) : (s.sendPage ring e).page i = s.page i := by
  obtain ⟨g, h⟩ := s.sendPage_pages ring e
  exact State.page_of_table (by rw [h]) i

@[simp] theorem State.sendPage_order (s : State) (ring : Nat) (e : List Nat) : (s.sendPage ring e).pages.order = s.pages.order := by
  obtain ⟨g, h⟩ := s.sendPage_pages ring e
  rw [h]

@[simp] theorem State.page_reportPage (s : State) (p : Page) (new old i : Nat) : (s.reportPage p new old).page i = s.page i := by
  simp [State.reportPage]

@[simp] theorem State.reportPage_order (s : State) (p : Page) (new old : Nat) :
    (s.reportPage p new old).pages.order = s.pages.order := by
  simp [State.reportPage]

theorem State.autoSpool_pages (s : State) (i : Nat) (p : Page) : (s.autoSpool i p).pages = s.pages :=
  (State.autoSpool_keeps (m := Area.mask [.recorder, .crock]) rfl (Keeps.refl _ s)).part .pages rfl

@[simp] theorem State.page_setPageState (s : State) (i new : Nat) : (s.setPageState i new).page i = { s.page i with state := new } := by
  unfold State.setPageState
  dsimp only
  split
  · rw [State.page_of_table (congrArg Pages.table (State.autoSpool_pages ..)), State.page_reportPage, State.page_setPage_same]
  · rw [State.page_reportPage, State.page_setPage_same]

@[simp] theorem State.setPageState_order (s : State) (i new : Nat) : (s.setPageState i new).pages.order = s.pages.order := by
  unfold State.setPageState
  dsimp only
  split
  · rw [State.autoSpool_pages, State.reportPage_order, State.setPage_pages_order]
  · rw [State.reportPage_order, State.setPage_pages_order]

/-- A refusal that is recorded stands in the page, and nothing else of the page changes (R155). -/
@[simp] theorem State.page_recordRefusal (s : State) (i : Nat) (r : Nat × Nat × Nat) :
    (s.recordRefusal i r).page i = { s.page i with refusal := r.1 } := by
  unfold State.recordRefusal
  dsimp only
  split
  · next h => rw [State.setn_eq, State.page_put, ← h]
  · rw [State.page_sendPage, State.page_event, State.page_setPage_same]

@[simp] theorem State.page_readmit (s : State) (i : Nat) : (s.readmit i).page i = { s.page i with steps := [], state := 1 } := by
  rw [State.readmit, State.page_setPageState, State.page_setPage_same]

/-! ## Commit -/

/-- Arming the steps of a page fills slots and leaves the axes where they stand (R157). -/
theorem State.axes_armSteps (i : Nat) (l : List Step) (s : State) (j : Nat) : (s.armSteps i l j).pos.axes = s.pos.axes := by
  induction l generalizing s j with
  | nil => rfl
  | cons x l ih =>
    unfold State.armSteps
    split
    · rw [ih, State.setSlot_pos_axes]
    · rfl

theorem State.axisPos_armSteps (s : State) (i : Nat) (l : List Step) (j n : Nat) : (s.armSteps i l j).axisPos n = s.axisPos n := by
  rw [State.axisPos, State.axes_armSteps, State.axisPos]

theorem State.page_armSteps (s : State) (i : Nat) (l : List Step) (j k : Nat) : (s.armSteps i l j).page k = s.page k :=
  State.page_of_table (congrArg _ ((State.armSteps_keeps (m := Area.mask [.position]) rfl (Keeps.refl _ s)).part .pages rfl)) k

/-- What commit writes into the page's place (R157 step 5). -/
theorem State.page_commitEntry (s : State) (i : Nat) : (s.commitEntry i).page i =
    { s.page i with reference := s.axisPos 1, banks := s.commitBanks (s.page i), images := 0, spoil := 0, refusal := 0, gate := 2 } := by
  rw [State.commitEntry, State.page_setPage_same]

theorem State.queueDecodes_pages (s : State) (i : Nat) : (s.queueDecodes i).pages = s.pages :=
  (State.queueDecodes_keeps (m := Area.mask [.objects, .recorder, .press, .lid]) rfl (Keeps.refl _ s)).part .pages rfl

@[simp] theorem State.page_unorder (s : State) (i j : Nat) : (s.unorder i).page j = s.page j := rfl

theorem State.not_mem_unorder (s : State) (i : Nat) : i ∉ (s.unorder i).pages.order := by
  simp [State.unorder]

/-- A page's steps armed, its entry written, and the page COMMITTED out of the plan order (R157 steps 3, 5 and 6). -/
def State.committed (s : State) (i : Nat) : State :=
  (((s.armSteps i (recipeSteps (s.page i).steps) 0).commitEntry i).unorder i).setPageState i 3

theorem State.pages_after_setn_setn (s : State) (u d k v k' v' : Nat) :
    (((s.after u d).setn k v).setn k' v').pages = s.pages := rfl

/-- The rest of commit notes where A1 stands and that the next gate is not found yet, and changes no page (R156, R157). -/
theorem State.commit_pages (s : State) (i : Nat) : (s.commit i).pages =
    { (s.committed i).pages with previous := some (s.axisPos 1), gateFound := 0 } := by
  unfold State.commit
  extract_lets p a s3 s4 s5
  have hdeadline : s5.pages = s4.pages := State.pages_after_setn_setn s4 ..
  clear_value s5
  have hevent : s4.pages = (s.committed i).pages := State.event_pages ..
  clear_value s4
  rw [State.queueDecodes_pages]
  exact congrArg (fun P : Pages => { P with previous := some a, gateFound := 0 }) (hdeadline.trans hevent)

theorem State.page_committed (s : State) (i : Nat) : (s.committed i).page i =
    { s.page i with reference := s.axisPos 1, banks := (s.armSteps i (recipeSteps (s.page i).steps) 0).commitBanks (s.page i),
                    images := 0, spoil := 0, refusal := 0, gate := 2, state := 3 } := by
  rw [State.committed, State.page_setPageState, State.page_unorder, State.page_commitEntry, State.page_armSteps,
    State.axisPos_armSteps]

theorem State.page_commit (s : State) (i : Nat) : (s.commit i).page i = (s.committed i).page i :=
  State.page_of_table (by rw [State.commit_pages]) i

theorem State.commit_previous (s : State) (i : Nat) : (s.commit i).pages.previous = some (s.axisPos 1) := by
  rw [State.commit_pages]

theorem State.not_mem_commit_order (s : State) (i : Nat) : i ∉ (s.commit i).pages.order := by
  rw [State.commit_pages]
  change i ∉ (s.committed i).pages.order
  rw [State.committed, State.setPageState_order]
  exact State.not_mem_unorder _ i

/-! ## The conditions of the commands -/

theorem State.gateJudged_of_unfound {s : State} (h : s.pages.gateFound = 0) : s.gateJudged = 1 + b2n s.throttled := if_pos h

/-- The inputs of the test are those of the grid step it is made in. -/
def State.sampledInputs (s : State) (inputs : Nat) : State :=
  { s with pos := { s.pos with inputs := s.pos.inputs / 2 ^ 48 * 2 ^ 48 + inputs % 2 ^ 48 } }

/-! ## The admission test -/

/-- A RESIDENT page becomes ADMITTED, with the recipe as it stands (R145, R153). -/
def State.admitted (s : State) (i : Nat) : State :=
  (s.setPage i { s.page i with refusal := 0, steps := s.bytes (K (0x3510 + (s.page i).recipe) 1) }).setPageState i 2

@[simp] theorem State.page_admitted (s : State) (i : Nat) : (s.admitted i).page i =
    { s.page i with refusal := 0, steps := s.bytes (K (0x3510 + (s.page i).recipe) 1), state := 2 } := by
  rw [State.admitted, State.page_setPageState, State.page_setPage_same]

/-- The ADMITTED page is tested again, and goes back to RESIDENT where a condition has ceased (R153). -/
theorem execAdmissionTest_of_admitted {s : State} {inputs i : Nat} (hs : s.served = true) (hon : s.on 16 = true)
    (ha : s.admittedPage = some i) : execAdmissionTest inputs s =
      .next (((s.sampledInputs inputs).refusalOf i inputs).elim (s.sampledInputs inputs)
        (fun r => ((s.sampledInputs inputs).recordRefusal i r).readmit i)) := by
  have ha' : (s.sampledInputs inputs).admittedPage = some i := ha
  rw [execAdmissionTest, if_pos (by rw [hs, hon]; rfl)]
  extract_lets _ u
  rw [show u = s.sampledInputs inputs from rfl]
  simp only [ha']
  cases (s.sampledInputs inputs).refusalOf i inputs <;> rfl

/-- With no page admitted the RESIDENT page at the head of the order is tested, and admitted where no cause refuses it (R153). -/
theorem execAdmissionTest_of_resident {s : State} {inputs i : Nat} (hs : s.served = true) (hon : s.on 16 = true)
    (ha : s.admittedPage = none) (hi : s.pages.order.head? = some i) (hp : (s.page i).state = 1) (hstop : s.pages.stopped = false)
    (hn : (s.sampledInputs inputs).gateNear = true) : execAdmissionTest inputs s =
      .next (((s.sampledInputs inputs).refusalOf i inputs).elim ((s.sampledInputs inputs).admitted i)
        ((s.sampledInputs inputs).recordRefusal i)) := by
  have ha' : (s.sampledInputs inputs).admittedPage = none := ha
  have hi' : (s.sampledInputs inputs).pages.order.head? = some i := hi
  have ht : ((s.sampledInputs inputs).page i).state = 1 ∧ (s.sampledInputs inputs).gateNear = true ∧
      (s.sampledInputs inputs).pages.stopped = false := ⟨hp, hn, hstop⟩
  rw [execAdmissionTest, if_pos (by rw [hs, hon]; rfl)]
  extract_lets _ u
  rw [show u = s.sampledInputs inputs from rfl]
  simp only [ha', hi', if_pos ht]
  cases (s.sampledInputs inputs).refusalOf i inputs <;> rfl

/-! ## The test of commit -/

/-- A commit is tried of the admitted page, at its gate, where the gate was not reached under a throttle (R155, R156, R160). -/
def State.Tries (s : State) (i : Nat) : Prop :=
  s.admittedPage = some i ∧ s.served = true ∧ s.on 16 = true ∧ s.gateReached = true ∧ (s.gateOpen = true ∨ s.gateJudged = 1)

section
variable {s : State} {i : Nat}

/-- The conditions of admission are tested first; where they hold, those of commit decide (R155, R156, R157). -/
theorem execCommit_of_tries (h : s.Tries i) : execCommit s = .next ((s.refusalOf i (s.pos.inputs % 2 ^ 48)).elim
    ((s.commitRefusal i).elim (s.commit i) (fun c => (s.undoCommit i c).recordRefusal i (c, 0, 0))) (s.recordRefusal i)) := by
  obtain ⟨ha, hs, hon, hg, hj⟩ := h
  have ht : (s.served && s.on 16 && s.gateReached && (s.gateOpen || decide (s.gateJudged = 1))) = true := by
    simpa [hs, hon, hg] using hj
  simp only [execCommit, ha, if_pos ht]
  cases s.refusalOf i (s.pos.inputs % 2 ^ 48) with
  | some r => rfl
  | none => cases s.commitRefusal i <;> rfl

theorem execCommit_of_not_reached (h : s.gateReached = false) : execCommit s = .next s := by
  unfold execCommit
  cases s.admittedPage <;> simp [h]

/-- Only a late slot has armed slots to free (R157). -/
theorem State.undoCommit_of_ne {c : Nat} (h : c ≠ 0x11) : s.undoCommit i c = s := by
  rw [State.undoCommit, if_neg (fun hc => h hc.1)]

/-! The causes of a refused commit, in the order of the table. -/

theorem State.commitRefusal_of_short (h : s.slotsShort i = true) : s.commitRefusal i = some 0x10 := by
  simp [State.commitRefusal, h]

theorem State.commitRefusal_of_late (h : s.slotsShort i = false) (hl : s.slotsLate i = true) : s.commitRefusal i = some 0x11 := by
  simp [State.commitRefusal, h, hl]

theorem State.commitRefusal_of_early (h : s.slotsShort i = false) (hl : s.slotsLate i = false) (hb : s.stamp < (s.page i).notBefore) :
    s.commitRefusal i = some 0x12 := by
  simp [State.commitRefusal, h, hl, hb]

theorem State.commitRefusal_of_timely (h : s.slotsShort i = false) (hl : s.slotsLate i = false) (hb : (s.page i).notBefore ≤ s.stamp) :
    s.commitRefusal i = if s.captureBusy i then some 0x13 else none := by
  simp [State.commitRefusal, h, hl, Nat.not_lt.mpr hb]

end

/-! ## The gate skip -/

/-- The next gate lies 256 times `Page pitch` further, the skip is counted and recorded, and the new gate is not found yet (R160). -/
def State.skipGate (s : State) (tag : Nat) : State :=
  let k := (s.n (K 0x3500 0x10) + 1) % 256
  ((({ s with pages := { s.pages with gateFound := 0 } }).setn (K 0x3500 0x10) k).setn (K 0x3500 0xF)
    ((s.n (K 0x3500 0xF) + 256 * s.n (K 0x3500 2)) % 2 ^ 48)).event 84 (1 + k * 256 + tag * 2 ^ 32)

theorem execGateSkip_of_throttled {s : State} (hon : s.on 16 = true) (ho : s.gateOpen = false) (hg : s.gateReached = true)
    (hj : s.gateJudged = 2) : ∃ tag, execGateSkip s = .next (s.skipGate tag) := by
  rw [execGateSkip, if_pos (by simp [hon, ho, hg, hj])]
  exact ⟨_, rfl⟩

theorem State.skips_skipGate (s : State) (tag : Nat) : (s.skipGate tag).n (K 0x3500 0x10) = (s.n (K 0x3500 0x10) + 1) % 256 := by
  rw [State.skipGate, State.n_event, State.setn_eq, State.n_put_ne _ _ (by decide), State.setn_eq, State.n_put_same, Int.toNat_natCast]

theorem State.nextGate_skipGate (s : State) (tag : Nat) :
    (s.skipGate tag).n (K 0x3500 0xF) = (s.n (K 0x3500 0xF) + 256 * s.n (K 0x3500 2)) % 2 ^ 48 := by
  rw [State.skipGate, State.n_event, State.setn_eq, State.n_put_same, Int.toNat_natCast]

theorem State.val_skipGate (s : State) (tag : Nat) {k : Nat} (hc : k ≠ K 0x3500 0x10) (hg : k ≠ K 0x3500 0xF) :
    (s.skipGate tag).val k = s.val k := by
  rw [State.skipGate, State.val_event, State.setn_eq, State.val_put_ne _ _ hg, State.setn_eq, State.val_put_ne _ _ hc]
  rfl

end Sys2Proof.Machine

/-- Settles O27: the tests as the equations above give them, a refusal as `page_recordRefusal` leaves the page, a commit as
`commit_pages` leaves the page table and the order, and the skip as the lemmas on `skipGate` say. -/
theorem admissionAndCommit : Obligations.AdmissionAndCommit := by
  unfold Obligations.AdmissionAndCommit
  intro inputs i s hon
  simp only [exec_admissionTest, exec_commit, exec_gateSkip]
  refine ⟨fun hs ha hi hp hstop u hu hn => ?_, fun hs ha u r hu hr => ?_, fun r hs ha hp hg hj hr => ?_,
    fun hs ha hg hj hr => ?_, execCommit_of_not_reached, fun ho hg hj => ?_, fun h0 ht => ?_, fun h0 ht => ?_⟩
  · obtain rfl : u = s.sampledInputs inputs := hu
    have he := execAdmissionTest_of_resident hs hon ha hi hp hstop hn
    refine ⟨fun hr => ⟨_, he, ?_⟩, fun r hr => ⟨_, he, ?_⟩⟩
    · simp [hr]
    · simp [hr, show ((s.sampledInputs inputs).page i).state = 1 from hp]
  · obtain rfl : u = s.sampledInputs inputs := hu
    exact ⟨_, execAdmissionTest_of_admitted hs hon ha, by simp [hr], by simp [hr]⟩
  · have he := execCommit_of_tries ⟨ha, hs, hon, hg, hj⟩
    rw [hr, Option.elim] at he
    exact ⟨_, he, by simp [hp], by simp⟩
  · have he := execCommit_of_tries ⟨ha, hs, hon, hg, hj⟩
    rw [hr, Option.elim] at he
    have hdone : s.slotsShort i = false → s.slotsLate i = false → (s.page i).notBefore ≤ s.stamp → s.captureBusy i = false →
        execCommit s = .next (s.commit i) := fun h hl hb hc => by
      rw [he, State.commitRefusal_of_timely h hl hb, if_neg (by simp [hc]), Option.elim]
    refine ⟨fun h => ?_, fun h hl => ?_, fun h hl hb => ?_, fun h hl hb hc => ?_, hdone,
      fun h hl hb hc _ => ⟨_, hdone h hl hb hc, ?_⟩⟩
    · rw [he, State.commitRefusal_of_short h, Option.elim, State.undoCommit_of_ne (by decide)]
    · rw [he, State.commitRefusal_of_late h hl, Option.elim]
    · rw [he, State.commitRefusal_of_early h hl hb, Option.elim, State.undoCommit_of_ne (by decide)]
    · rw [he, State.commitRefusal_of_timely h hl hb, if_pos hc, Option.elim, State.undoCommit_of_ne (by decide)]
    · simp [State.page_commit, State.page_committed, State.commit_previous, State.not_mem_commit_order]
  · obtain ⟨tag, he⟩ := execGateSkip_of_throttled hon ho hg hj
    exact ⟨_, he, s.skips_skipGate tag, s.nextGate_skipGate tag, rfl, fun k => s.val_skipGate tag⟩
  · rw [State.gateJudged_of_unfound h0, ht, b2n]
    rfl
  · rw [State.gateJudged_of_unfound h0, ht, b2n]
    rfl
end

section
/-! PROOFS. What an operation leaves of one part of the machine, where it writes the others only. -/

open Sys2Proof Sys2Proof.Machine

namespace Sys2Proof.Machine

/-- Every part of the machine but one. -/
def Area.allBut (p : Area) : Nat := Area.mask (everything.filter (· ≠ p))

theorem Keeps.same_of_allBut {p : Area} {s t : State} (h : Keeps p.allBut s t) : State.same p s t :=
  Keeps.same_of_notMem h (by simp)

/-- An operation that writes no object leaves every object as it was. -/
theorem Keeps.val_eq {s t : State} (h : Keeps Area.objects.allBut s t) (k : Nat) : t.val k = s.val k := by
  unfold State.val
  rw [h.variant, show t.od = s.od from h.same_of_allBut]

theorem Keeps.n_eq {s t : State} (h : Keeps Area.objects.allBut s t) (k : Nat) : t.n k = s.n k :=
  (State.reads_eq (h.val_eq k)).2.1

theorem Keeps.station_eq {s t : State} (h : Keeps Area.stations.allBut s t) (n : Nat) : t.station n = s.station n := by
  unfold State.station
  rw [show t.stations = s.stations from h.same_of_allBut]

theorem Keeps.armed_eq {s t : State} (h : Keeps Area.timers.allBut s t) (u : Nat) : t.armed u = s.armed u := by
  unfold State.armed
  rw [show t.timers = s.timers from h.same_of_allBut]

end Sys2Proof.Machine
end

section
/-! PROOFS. What the accepted writes of polygons and stations do (R67, R71, R77, R84, R86, R124; log entry 127). -/

open Sys2Proof Sys2Proof.Machine

namespace Sys2Proof.Machine

/-! ## The rows of the table, and what the written objects do -/

/-- The polygons, and the stations (R61). -/
theorem polygon_cases {p : Nat} (h1 : 1 ≤ p) (h3 : p ≤ 3) : p = 1 ∨ p = 2 ∨ p = 3 := by omega

theorem station_cases {n : Nat} (h1 : 1 ≤ n) (h6 : n ≤ 6) : n = 1 ∨ n = 2 ∨ n = 3 ∨ n = 4 ∨ n = 5 ∨ n = 6 := by omega

section
variable {p : Nat} (h1 : 1 ≤ p) (h3 : p ≤ 3)
include h1 h3

theorem rowKind_lockEnable : rowKind (0x3100 + p) 1 = some (.rw, .bool) :=
  (by decide : ∀ q ≤ 3, 1 ≤ q → rowKind (0x3100 + q) 1 = some (.rw, .bool)) p h3 h1

theorem rowKind_relearn : rowKind (0x3100 + p) 0xE = some (.cmd, .bool) :=
  (by decide : ∀ q ≤ 3, 1 ≤ q → rowKind (0x3100 + q) 0xE = some (.cmd, .bool)) p h3 h1

theorem rowKind_facetSignature : rowKind (0x3100 + p) 0xD = some (.idle, .dom) :=
  (by decide : ∀ q ≤ 3, 1 ≤ q → rowKind (0x3100 + q) 0xD = some (.idle, .dom)) p h3 h1

/-- Of a polygon's objects `Lock enable` and `Facet signature` act as they are written (R67, R71). -/
theorem State.effect_polygon (s : State) (sub : Nat) (old new : Val) : s.effect (0x3100 + p) sub old new =
    if sub = 1 then s.refreshPolygon p else if sub = 0xD then s.signatureWritten p else s := by
  rw [State.effect, if_neg (by omega), if_pos (by omega), State.effectMid, if_neg (by omega), if_neg (by omega),
    if_neg (by omega), if_pos (by omega), Nat.add_sub_cancel_left]

theorem State.command_relearn (s : State) (path : Path) (v : Val) (answers : List Frame) :
    s.command path (0x3100 + p) 0xE v answers = s.relearn p := by
  obtain rfl | rfl | rfl := polygon_cases h1 h3 <;> rfl

end

section
variable {n : Nat} (h1 : 1 ≤ n) (h6 : n ≤ 6)
include h1 h6

theorem rowKind_engageRequest : rowKind (0x3300 + 16 * n) 1 = some (.rw, .bool) :=
  (by decide : ∀ q ≤ 6, 1 ≤ q → rowKind (0x3300 + 16 * q) 1 = some (.rw, .bool)) n h6 h1

theorem rowKind_laserEnable : rowKind (0x3300 + 16 * n) 3 = some (.rw, .bool) :=
  (by decide : ∀ q ≤ 6, 1 ≤ q → rowKind (0x3300 + 16 * q) 3 = some (.rw, .bool)) n h6 h1

theorem rowKind_beamRestore : rowKind (0x3304 + 16 * n) 4 = some (.cmd, .u32) :=
  (by decide : ∀ q ≤ 6, 1 ≤ q → rowKind (0x3304 + 16 * q) 4 = some (.cmd, .u32)) n h6 h1

theorem rowKind_retiredBeams : rowKind (0x3304 + 16 * n) 3 = some (.idle, .u32) :=
  (by decide : ∀ q ≤ 6, 1 ≤ q → rowKind (0x3304 + 16 * q) 3 = some (.idle, .u32)) n h6 h1

/-- `Engage request` acts at the page boundary, not as it is written (R84). -/
theorem State.effect_engageRequest (s : State) (old new : Val) : s.effect (0x3300 + 16 * n) 1 old new = s := by
  obtain rfl | rfl | rfl | rfl | rfl | rfl := station_cases h1 h6 <;> rfl

theorem State.effect_laserEnable (s : State) (old new : Val) :
    s.effect (0x3300 + 16 * n) 3 old new = s.laserWritten n (decide (new.int ≠ 0)) := by
  obtain rfl | rfl | rfl | rfl | rfl | rfl := station_cases h1 h6 <;> rfl

theorem State.effect_retiredBeams (s : State) (old new : Val) :
    s.effect (0x3304 + 16 * n) 3 old new = s.retireBeams n old.nat := by
  obtain rfl | rfl | rfl | rfl | rfl | rfl := station_cases h1 h6 <;> rfl

theorem State.command_beamRestore (s : State) (path : Path) (v : Val) (answers : List Frame) :
    s.command path (0x3304 + 16 * n) 4 v answers = s.restoreBeams n v.nat := by
  obtain rfl | rfl | rfl | rfl | rfl | rfl := station_cases h1 h6 <;> rfl

end

/-! ## Keys -/

/-- Two objects of a polygon, or of a station, are two where their subindexes or their indices are. -/
theorem pk_ne_pk {p a b : Nat} (h : a ≠ b) : pk p a ≠ pk p b :=
  fun e => h (Nat.add_left_cancel e)

theorem sk_ne_sk {n m a m' a' : Nat} (h : m * 256 + a ≠ m' * 256 + a') : sk n m a ≠ sk n m' a' := by
  intro e
  have e' : (0x3300 + 16 * n + m) * 256 + a = (0x3300 + 16 * n + m') * 256 + a' := e
  omega

/-! ## The lock state of a polygon -/

@[simp] theorem State.lockState_setLock_ (s : State) (p new : Nat) : (s.setLock_ p new).lockState p = new := by
  unfold State.setLock_
  dsimp only
  split
  · next h => exact h
  · simp [State.lockState]

@[simp] theorem State.identity_setIdentity (s : State) (p new rotation : Nat) :
    (s.setIdentity p new rotation).identity p = new := by
  unfold State.setIdentity
  dsimp only
  split
  · next h => exact h
  · simp [State.identity]

theorem State.val_setIdentity (s : State) (p new rotation : Nat) {k : Nat} (h : k ≠ pk p 8) :
    (s.setIdentity p new rotation).val k = s.val k := by
  unfold State.setIdentity
  dsimp only
  split
  · rfl
  · rw [State.val_event, State.setn_eq, State.val_put_ne _ _ h]

theorem State.polygon_setIdentity (s : State) (p new rotation q : Nat) :
    (s.setIdentity p new rotation).polygon q = s.polygon q := by
  unfold State.setIdentity
  dsimp only
  split <;> rfl

theorem State.val_setReference (s : State) (p new : Nat) {k : Nat} (h : k ≠ pk p 0xA) :
    (s.setReference p new).val k = s.val k := by
  unfold State.setReference
  dsimp only
  split
  · rfl
  · rw [State.val_event, State.setn_eq, State.val_put_ne _ _ h]
    rfl

/-- Lighting the beams of the stations a polygon serves changes no part of the machine but the stations (R68). -/
theorem State.lightServed_keeps {m : Nat} (hm : 128 ||| m = m) (s : State) (p : Nat) : Keeps m s
    (s.each (servedBy p) (fun t n => if t.engaged n then t.light n (t.usableMask n) else t)) :=
  Keeps.each (fun _ _ ht => Keeps.ite (State.light_keeps hm ht) ht) (Keeps.refl _ _)

theorem State.lockState_seek (s : State) (p : Nat) : (s.seek p).lockState p = 1 := by
  unfold State.seek State.lockState
  extract_lets s1 s2 s3
  have hreference : s3.n (pk p 7) = s2.n (pk p 7) :=
    (State.reads_eq (s2.val_setReference p _ (pk_ne_pk (by decide)))).2.1
  rw [(s3.lightServed_keeps (by decide) p).n_eq, hreference, State.n_setPolygon]
  exact (State.n_arm ..).trans (s.lockState_setLock_ p 1)

theorem State.armed_seek (s : State) (p : Nat) : (s.seek p).armed (tmSeek p) = true := by
  unfold State.seek
  extract_lets s1 s2 s3
  have hreference : s3.armed (tmSeek p) = s2.armed (tmSeek p) :=
    (State.setReference_keeps (by decide) (Keeps.refl _ s2)).armed_eq _
  rw [(s3.lightServed_keeps (by decide) p).armed_eq, hreference, State.armed_setPolygon]
  exact State.armed_arm_same ..

theorem State.refreshLock_of_ready {s : State} {p : Nat} (h0 : s.lockState p = 0) (he : s.flag (pk p 1) = true)
    (hon : s.on 12 = true) (hd : s.driveStopped (p - 1) = false) (hs : s.atSpeed p = true)
    (hne : (servedBy p).filter s.engaged ≠ []) : s.refreshLock p = s.seek p := by
  simp only [State.refreshLock, h0, he, hon, hd, hs]
  simp [hne]

theorem State.refreshLock_of_disabled {s : State} {p : Nat} (he : s.flag (pk p 1) = false) (h0 : s.lockState p ≠ 0) :
    s.refreshLock p = s.polygonIdle p := by
  simp [State.refreshLock, h0, he]

/-! ## Re-learning -/

/-- Re-learning clears the signature and what was learned for it, and the identity is UNKNOWN (R71, R77). -/
theorem State.relearn_clears (s : State) (p : Nat) : (s.relearn p).identity p = 0 ∧
    (s.relearn p).bytes (pk p 0xD) = List.replicate 32 0 ∧ ((s.relearn p).polygon p).learned = 0 := by
  unfold State.relearn
  extract_lets s1 s2
  have hintervals : s2.val (pk p 0xD) = s1.val (pk p 0xD) :=
    Keeps.val_eq (Keeps.each (fun _ _ ht => State.setStation_keeps (by decide) ht) (Keeps.refl _ s1)) _
  refine ⟨State.identity_setIdentity .., ?_, ?_⟩
  · rw [(State.reads_eq (State.val_setIdentity _ p 0 0 (pk_ne_pk (by decide)))).2.2.2]
    refine (State.reads_eq hintervals).2.2.2.trans ?_
    exact State.bytes_put_same ..
  · rw [State.polygon_setIdentity, State.polygon_setPolygon_same]

/-! ## The laser pin -/

theorem State.flag_pinEvent (s : State) (n new old k : Nat) : (s.pinEvent n new old).flag k = s.flag k := rfl

theorem State.flag_refreshLaser_of_high {s : State} {n : Nat} (hon : s.stationOn n = true) (hc : s.laserCause n = 0) :
    (s.refreshLaser n).flag (sk n 0 4) = true := by
  unfold State.refreshLaser
  rw [if_pos hon]
  simp only [hc]
  split
  · next h => simpa using h
  · rw [if_neg (by simp), State.flag_pinEvent]
    exact State.flag_put_bool _ _ _

/-- The pin goes low at once where it does not wait for the end of the line (R85, R86). -/
theorem State.flag_refreshLaser_of_low {s : State} {n : Nat} (hon : s.stationOn n = true) (hc : s.laserCause n ≠ 0)
    (hw : s.waitsLineEnd n = false) : (s.refreshLaser n).flag (sk n 0 4) = false := by
  unfold State.refreshLaser
  rw [if_pos hon]
  simp only [hc, hw]
  split
  · next h => simpa using h
  · rw [if_neg (by simp), State.flag_pinEvent]
    exact State.flag_put_bool _ _ _

/-- A write of `Laser enable` that leaves it as written ends the wait for the end of the line (R86). -/
theorem State.laserWritten_eq {s : State} {n : Nat} {on : Bool} (h : ¬ (on = true ∧ s.n (sk n 7 2) = 3)) :
    s.laserWritten n on = (s.setStation n { s.station n with lineEnd := false }).refreshLaser n := by
  rw [State.laserWritten, if_neg h]

/-! ## Beams -/

theorem State.n_beamEvent (s : State) (n sub beam value k : Nat) : (s.beamEvent n sub beam value).n k = s.n k := rfl

/-- Beams that return to GOOD take a current, and no other object changes (R124). -/
theorem State.n_beamsReturn (s : State) (n : Nat) (beams : List Nat) {k : Nat} (h : k ≠ sk n 5 5) :
    (s.beamsReturn n beams).n k = s.n k := by
  unfold State.beamsReturn
  extract_lets s1 g now
  refine List.foldlRecOn (motive := fun t : State => t.n k = s.n k) beams _ rfl fun t ht b _ => ?_
  split
  · exact (State.n_put_ne _ _ h).trans ht
  · exact ht

theorem State.n_each_beamEvent (s : State) (n : Nat) (beams : List Nat) (k : Nat) :
    (s.each beams (fun t b => t.beamEvent n 5 b 0)).n k = s.n k :=
  List.foldlRecOn (motive := fun t : State => t.n k = s.n k) beams _ rfl fun t ht _ _ => (t.n_beamEvent ..).trans ht

theorem State.deadBeams_restoreBeams (s : State) (n mask : Nat) :
    (s.restoreBeams n mask).n (sk n 4 2) = maskOff (s.n (sk n 4 2)) mask := by
  unfold State.restoreBeams
  dsimp only
  rw [State.n_each_beamEvent, State.n_beamsReturn _ _ _ (sk_ne_sk (by decide))]
  simp

/-- A DEAD beam is not listed as retired as well: `Retired beams` is masked by the dead ones (R120, R124, log entry 127). -/
theorem State.retiredBeams_retireBeams (s : State) (n old : Nat) :
    (s.retireBeams n old).n (sk n 4 3) = maskOff (s.n (sk n 4 3)) (s.n (sk n 4 2)) := by
  unfold State.retireBeams
  extract_lets new s1 g2 s2
  have hs2 : s2.n (sk n 4 3) = new := by
    rw [State.n_setStation]
    refine (State.n_put_ne _ _ (sk_ne_sk (by decide))).trans ?_
    simp
  split
  · exact hs2
  · rw [State.n_beamEvent, State.n_beamsReturn _ _ _ (sk_ne_sk (by decide)), hs2]

end Sys2Proof.Machine

/-- Settles O38: an accepted write is its object's row of the table with the effect found there, and the lemmas above say
what the effects leave. That `Retired beams` is masked by the dead beams is the model's reading (log entry 127). -/
theorem scanWrites : Obligations.ScanWrites := by
  unfold Obligations.ScanWrites
  intro path data s
  refine ⟨fun p h1 h3 ha => ?_, fun p h1 h3 ha => ?_, fun p h1 h3 ha => ?_, fun n h1 h6 ha => ?_, fun n h1 h6 ha => ?_,
    fun n h1 h6 ha => ?_, fun n h1 h6 ha => ?_, fun u p h0 he hon hd hs hne => ?_, fun u p he h0 => ?_, fun u p => ?_,
    fun u p hi => ?_, fun u n hon hc ht => ?_, fun u n hon hc => ?_, fun u n mask => ?_, fun u n old => ?_⟩
  · rw [exec_lockEnableWrite, execLockEnableWrite, if_pos ⟨h1, h3⟩,
      State.writeRow_value ha (rowKind_lockEnable h1 h3) nofun (by omega) (by omega) (by omega),
      State.effect_polygon h1 h3, if_pos rfl]
    rfl
  · rw [exec_relearn, execRelearn, if_pos ⟨h1, h3⟩,
      State.writeRow_command ha (rowKind_relearn h1 h3) (by omega) (by omega), State.command_relearn h1 h3]
  · rw [exec_facetSignatureWrite, execFacetSignatureWrite, if_pos ⟨h1, h3⟩,
      State.writeRow_value ha (rowKind_facetSignature h1 h3) nofun (by omega) (by omega) (by omega),
      State.effect_polygon h1 h3, if_neg (by decide), if_pos rfl]
    rfl
  · rw [exec_engageRequestWrite, execEngageRequestWrite, if_pos ⟨h1, h6⟩,
      State.writeRow_value ha (rowKind_engageRequest h1 h6) nofun (by omega) (by omega) (by omega),
      State.effect_engageRequest h1 h6]
    rfl
  · rw [exec_laserEnableWrite, execLaserEnableWrite, if_pos ⟨h1, h6⟩,
      State.writeRow_value ha (rowKind_laserEnable h1 h6) nofun (by omega) (by omega) (by omega),
      State.effect_laserEnable h1 h6]
    simp [Ty.decode, Val.int]
  · rw [exec_beamRestore, execBeamRestore, if_pos ⟨h1, h6⟩,
      State.writeRow_command ha (rowKind_beamRestore h1 h6) (by omega) (by omega), State.command_beamRestore h1 h6]
    simp [Ty.decode, Val.nat, Val.int]
  · rw [exec_retiredBeamsWrite, execRetiredBeamsWrite, if_pos ⟨h1, h6⟩,
      State.writeRow_value ha (rowKind_retiredBeams h1 h6) nofun (by omega) (by omega) (by omega),
      State.effect_retiredBeams h1 h6]
    rfl
  · exact ⟨State.refreshLock_of_ready h0 he hon hd hs hne, u.lockState_seek p, u.armed_seek p⟩
  · exact State.refreshLock_of_disabled he h0
  · exact u.relearn_clears p
  · rw [State.signatureWritten, if_pos hi, State.identity_setIdentity]
  · rw [State.laserWritten_eq (fun h => ht h.2)]
    exact State.flag_refreshLaser_of_high hon hc
  · rw [State.laserWritten_eq (fun h => Bool.noConfusion h.1)]
    exact State.flag_refreshLaser_of_low hon hc (by simp [State.waitsLineEnd])
  · exact u.deadBeams_restoreBeams n mask
  · exact u.retiredBeams_retireBeams n old
end

section
/-! PROOFS. The windows of a station's line clock, and its end of line (R63 to R65, R91, R113; log entry 178). -/

open Sys2Proof Sys2Proof.Machine

namespace Sys2Proof.Machine

/-! ## The time a line begins or ends at -/

/-- The crossings are enough to form an SOS or an EOS of: as many as `Minimum SOS crossings`, and one at least (R63). -/
def State.formsLine (s : State) (n : Nat) (valid : List Crossing) : Bool :=
  decide (s.n (sc n 5) ≤ valid.length) && !valid.isEmpty

/-- The time formed of enough crossings is their mean, and that of too few the predicted one (R63, R64). -/
def State.lineTime (s : State) (n predicted : Nat) (valid : List Crossing) : Nat :=
  if s.formsLine n valid then s.meanCrossing n valid else predicted

section
variable {s : State} {n : Nat} {valid : List Crossing}

theorem State.formsLine_of_enough (h : s.n (sc n 5) ≤ valid.length) (h0 : valid ≠ []) : s.formsLine n valid = true := by
  simp [State.formsLine, h, h0]

theorem State.lineTime_of_enough (h : s.n (sc n 5) ≤ valid.length) (h0 : valid ≠ []) (predicted : Nat) :
    s.lineTime n predicted valid = s.meanCrossing n valid := if_pos (State.formsLine_of_enough h h0)

theorem State.lineTime_of_few (h : valid.length < s.n (sc n 5)) (predicted : Nat) : s.lineTime n predicted valid = predicted := by
  simp [State.lineTime, State.formsLine, Nat.not_le.mpr h]

end

/-! ## The SOS window -/

theorem State.closeImage_of_not_closing {s : State} {n : Nat} (h : (s.station n).image.closing = false) : s.closeImage n = s := by
  simp [State.closeImage, h]

theorem State.takeBand_of_taken {s : State} {n : Nat} (h : s.n (K (0x3400 + 16 * n) 7) = (s.station n).band) : s.takeBand n = s :=
  if_pos h

/-- Of the station, an advance that is noted changes the list of the last advances (R93). -/
theorem State.station_noteAdvance (s : State) (n : Nat) (delta : Int) : (s.noteAdvance n delta).station n =
    { s.station n with advances := (delta :: (s.station n).advances).take 8 } := by
  unfold State.noteAdvance
  extract_lets g l sum k margin s1 w
  have h1 : s1.station n = { s.station n with advances := (delta :: (s.station n).advances).take 8 } :=
    (State.station_put ..).trans ((State.station_put ..).trans (State.station_setStation_same ..))
  have hwarn : ∀ v sub tag value, ((s1.setn (K 0x3200 3) v).lineEvent n sub tag value).station n = s1.station n :=
    fun _ _ _ _ => (State.station_event ..).trans (State.station_put ..)
  split
  · exact (hwarn ..).trans h1
  · split
    · exact (hwarn ..).trans h1
    · exact h1

theorem execSosWindowOpen_of_early {s : State} {n : Nat} (h : s.fine + 64 * s.n (sc n 2) < (s.station n).predicted) :
    execSosWindowOpen n s = .next s := by
  simp [execSosWindowOpen, Nat.not_le.mpr h]

theorem execSosWindowOpen_of_due {s : State} {n : Nat} (hp : s.predicting n = true) (ho : (s.station n).sosOpen = false)
    (hd : (s.station n).predicted ≤ s.fine + 64 * s.n (sc n 2)) (hg : (s.station n).image.going = false)
    (hc : (s.station n).image.closing = false) (hb : s.n (K (0x3400 + 16 * n) 7) = (s.station n).band) :
    ∃ t, execSosWindowOpen n s = .next t ∧ (t.station n).sosOpen = true ∧ (t.station n).lit = s.usableMask n ∧
      (t.station n).writing = false ∧ (t.station n).image.count = 0 ∧ (t.station n).lastA = some (s.axisPos 1) := by
  unfold execSosWindowOpen
  rw [State.closeImage_of_not_closing hc, State.takeBand_of_taken hb]
  extract_lets g s1 a delta s2 g2 s3 g3 m3
  rw [if_pos (by simp [g, hp, hd, ho])]
  obtain ⟨hstation, hmask⟩ : s2.station n = s.station n ∧ s2.usableMask n = s.usableMask n := by
    unfold s2
    split <;> exact ⟨rfl, rfl⟩
  obtain ⟨hopen, hlit, hwriting, hlast, himage⟩ : (s3.station n).sosOpen = true ∧ (s3.station n).lit = s.usableMask n ∧
      (s3.station n).writing = false ∧ (s3.station n).lastA = some a ∧ (s3.station n).image = (s.station n).image := by
    unfold s3
    rw [State.station_noteAdvance, State.station_setStation_same]
    have himage : g2.image = (s.station n).image := congrArg Station.image hstation
    exact ⟨rfl, hmask, rfl, rfl, himage⟩
  rw [if_neg (by simp [himage, hg])]
  refine ⟨_, rfl, ?_⟩
  rw [State.station_setStation_same]
  exact ⟨hopen, hlit, hwriting, rfl, hlast⟩

/-! ## The EOS window -/

theorem execEosWindowOpen_of_not_awaited {s : State} {n : Nat} (h : (s.station n).awaitEos = false) :
    execEosWindowOpen n s = .next s := by
  simp [execEosWindowOpen, h]

/-- The EOS window opens: the beams are lit for the crossings, and no line is written any more (R63). -/
theorem execEosWindowOpen_of_due {s : State} {n e : Nat} (hon : s.stationOn n = true)
    (hy : s.syncState n = 1 ∨ s.syncState n = 2) (hl : s.lockState (polygonOf n) = 2 ∨ s.lockState (polygonOf n) = 3)
    (ha : (s.station n).awaitEos = true) (ho : (s.station n).eosOpen = false) (he : s.predictedEos n = some e)
    (hd : e ≤ s.fine + 64 * s.n (sc n 3)) :
    execEosWindowOpen n s =
      .next (s.setStation n { s.station n with eosOpen := true, writing := false, lit := s.usableMask n }) := by
  simp [execEosWindowOpen, hon, hy, hl, ha, ho, he, hd]

/-! ## The end of line -/

/-- What the end of a line leaves of the station's line clock: its two EOS conditions, the beams lit, the porch and the EOS
time. -/
def State.eosMark (s : State) (n : Nat) : Bool × Bool × Nat × Bool × Nat :=
  let g := s.station n
  (g.eosOpen, g.awaitEos, g.lit, g.porch, g.eos)

theorem State.eosMark_setStation (s : State) (n : Nat) (x : Station) :
    (s.setStation n x).eosMark n = (x.eosOpen, x.awaitEos, x.lit, x.porch, x.eos) := by
  unfold State.eosMark
  rw [State.station_setStation_same]

theorem State.eosMark_event (s : State) (ev payload n : Nat) : (s.event ev payload).eosMark n = s.eosMark n := rfl

theorem State.eosMark_fault (s : State) (source kind address n : Nat) :
    (s.fault source kind address).eosMark n = s.eosMark n := by
  unfold State.eosMark State.station
  rw [State.fault_eq, State.detect_stations]

theorem State.eosMark_learnIntervals (s : State) (n eos sos : Nat) : (s.learnIntervals n eos sos).eosMark n = s.eosMark n := by
  unfold State.learnIntervals
  extract_lets g t shift g1 g2
  have hg2 : (g2.eosOpen, g2.awaitEos, g2.lit, g2.porch, g2.eos) = s.eosMark n := by
    unfold g2
    repeat' split
    all_goals rfl
  rw [State.eosMark_setStation, hg2]

theorem execEosMeasured_of_closed {s : State} {n : Nat} (h : (s.station n).eosOpen = false) (cs : List Crossing) :
    execEosMeasured n cs s = .next s := by
  simp [execEosMeasured, h]

/-- The end of line of a station at its EOS window's end. Too few crossings are fewer than `Minimum SOS crossings`, the
model's choice (R63, R66, log entry 178). -/
theorem execEosMeasured_of_due {s : State} {n e : Nat} (hon : s.stationOn n = true) (ho : (s.station n).eosOpen = true)
    (he : s.predictedEos n = some e) (hd : e + 64 * s.n (sc n 3) ≤ s.fine) (cs : List Crossing) :
    ∃ u, execEosMeasured n cs s = .next (execEosMeasured.release n u) ∧
      u.eosMark n = (false, false, 0, true, s.lineTime n e (s.crossings n (s.n (sc n 3)) (some e) cs)) := by
  unfold execEosMeasured
  rw [he]
  extract_lets g predicted window time valid good at_ s1 s2 g2 s3 run g1 s4 s5
  have htime : time = true := decide_eq_true hd
  rw [if_pos (by simp [g, hon, ho, htime])]
  have h1 : s1.eosMark n = (false, false, 0, true, s.lineTime n e valid) := by
    rw [State.eosMark_setStation]
    simp [predicted, at_, State.lineTime, State.formsLine, good]
  split
  · have h2 : s2.eosMark n = s1.eosMark n := s1.eosMark_learnIntervals n at_ _
    refine ⟨s3, rfl, Eq.trans ?_ (h2.trans h1)⟩
    unfold s3
    split
    · rfl
    · exact (State.eosMark_event ..).trans (State.eosMark_setStation ..)
  · refine ⟨_, rfl, Eq.trans ?_ h1⟩
    have h4 : s4.eosMark n = s1.eosMark n := State.eosMark_setStation ..
    have h5 : s5.eosMark n = s1.eosMark n := by
      unfold s5
      split
      · exact (s4.eosMark_event ..).trans h4
      · exact h4
    split
    · exact (s5.eosMark_fault ..).trans h5
    · exact h5

end Sys2Proof.Machine

/-- Settles O30: the windows and the end of line as the equations above give them. That an EOS of fewer crossings than
`Minimum SOS crossings` has too few is the model's choice (log entry 178). -/
theorem scanWindows : Obligations.ScanWindows := by
  unfold Obligations.ScanWindows
  intro n cs s
  simp only [exec_sosWindowOpen, exec_eosWindowOpen, exec_eosMeasured]
  refine ⟨execSosWindowOpen_of_due, execSosWindowOpen_of_early, fun e hon hy hl ha ho he hd => ?_,
    execEosWindowOpen_of_not_awaited, fun h => execEosMeasured_of_closed h cs, fun e hon ho he hd => ?_⟩
  · refine ⟨_, execEosWindowOpen_of_due hon hy hl ha ho he hd, ?_, ?_, ?_, ?_,
      fun m hm => State.station_setStation_ne _ _ hm⟩
    all_goals rw [State.station_setStation_same]
  · obtain ⟨u, hu, hmark⟩ := execEosMeasured_of_due hon ho he hd cs
    simp only [State.eosMark, Prod.mk.injEq] at hmark
    obtain ⟨hopen, hawait, hlit, hporch, heos⟩ := hmark
    exact ⟨u, _, hu, rfl, hopen, hawait, hlit, hporch, fun hfew => heos.trans (State.lineTime_of_few hfew e),
      fun hneed hne => heos.trans (State.lineTime_of_enough hneed hne e)⟩
end

section
/-! PROOFS. A facet's start of line, and the ends of a polygon's seeking (R63 to R68). -/

open Sys2Proof Sys2Proof.Machine

namespace Sys2Proof.Machine

/-! ## The start of line through the judgements of its facet -/

/-- What the start of a line leaves of the station's line clock, until the station's scan itself begins or ends: the SOS, its
window, the EOS that is awaited, and the facets measured. -/
def Station.sosMark (g : Station) : Option Nat × Bool × Bool × Nat := (g.sos, g.sosOpen, g.awaitEos, g.measured)

def State.sosMark (s : State) (n : Nat) : Option Nat × Bool × Bool × Nat := (s.station n).sosMark

theorem Keeps.sosMark_eq {s t : State} (h : Keeps Area.stations.allBut s t) (n : Nat) : t.sosMark n = s.sosMark n :=
  congrArg Station.sosMark (h.station_eq n)

theorem State.sosMark_setStation (s : State) {m : Nat} {x : Station} (h : x.sosMark = s.sosMark m) (n : Nat) :
    (s.setStation m x).sosMark n = s.sosMark n := by
  unfold State.sosMark
  by_cases hn : n = m
  · rw [hn, State.station_setStation_same, h, State.sosMark]
  · rw [State.station_setStation_ne _ _ hn]

theorem State.sosMark_predict (s : State) (m time n : Nat) :
    (s.setStation m { s.station m with predicted := time }).sosMark n = s.sosMark n :=
  s.sosMark_setStation (by rfl) n

theorem State.sosMark_each {α : Type} {f : State → α → State} {n : Nat} (hf : ∀ t x, (f t x).sosMark n = t.sosMark n)
    (s : State) (l : List α) : (s.each l f).sosMark n = s.sosMark n :=
  List.foldlRecOn (motive := fun t : State => t.sosMark n = s.sosMark n) l f rfl fun t ht x _ => (hf t x).trans ht

theorem State.sosMark_reacquire (s : State) (p n : Nat) : (s.reacquire p).sosMark n = s.sosMark n := by
  unfold State.reacquire
  extract_lets g s1
  have h1 : s1.sosMark n = s.sosMark n := (State.setLock__keeps (by decide) (Keeps.refl _ s)).sosMark_eq n
  exact (State.sosMark_each (fun t _ => t.sosMark_setStation (by rfl) n) s1 _).trans h1

theorem State.sosMark_acquire (s : State) (p n : Nat) : (s.acquire p).sosMark n = s.sosMark n := by
  unfold State.acquire
  extract_lets g s1 s2
  have h1 : s1.sosMark n = s.sosMark n := (State.setLock__keeps (by decide) (Keeps.refl _ s)).sosMark_eq n
  have h2 : s2.sosMark n = s.sosMark n := (State.sosMark_each (fun t _ => t.sosMark_setStation (by rfl) n) s1 _).trans h1
  split
  · exact h2
  · exact ((State.beginLearning_keeps (by decide) (Keeps.refl _ s2)).sosMark_eq n).trans h2

theorem State.sosMark_lockBoundary (s : State) (p n : Nat) : (s.lockBoundary p).sosMark n = s.sosMark n := by
  unfold State.lockBoundary
  extract_lets g rev target s1 good s2 g2 bad s3
  split
  · split
    · exact (State.setLock__keeps (by decide) (Keeps.refl _ _)).sosMark_eq n
    · rfl
  · split
    · exact s3.sosMark_reacquire p n
    · rfl
  · rfl

theorem State.sosMark_setReference (s : State) (p new n : Nat) : (s.setReference p new).sosMark n = s.sosMark n :=
  (State.setReference_keeps (by decide) (Keeps.refl _ s)).sosMark_eq n

theorem State.sosMark_boundary (s : State) (p : Nat) (revolution : Bool) (n : Nat) :
    (s.boundary p revolution).sosMark n = s.sosMark n := by
  unfold State.boundary
  extract_lets s1
  have h1 : s1.sosMark n = s.sosMark n := by
    unfold s1
    split
    · have hk : Keeps Area.stations.allBut (s.lockBoundary p) (((s.lockBoundary p).identityBoundary p).feedback (p - 1) true) :=
        State.feedback_keeps (by decide) (State.identityBoundary_keeps (by decide) (Keeps.refl _ _))
      exact (hk.sosMark_eq n).trans (s.sosMark_lockBoundary p n)
    · rfl
  exact (s1.sosMark_setReference p _ n).trans h1

theorem State.sosMark_countFacet (s : State) (p : Nat) (g : Polygon) (n : Nat) :
    (State.referenceFacet.step p g s).sosMark n = s.sosMark n := by
  unfold State.referenceFacet.step
  split
  · dsimp only
    split
    · exact State.sosMark_boundary ..
    · rfl
  · exact State.sosMark_boundary ..

theorem State.sosMark_referenceFacet (s : State) (p : Nat) (iv : Option Nat) (n : Nat) :
    (s.referenceFacet p iv).sosMark n = s.sosMark n := by
  unfold State.referenceFacet
  extract_lets g intervals g1 s1 s2
  split
  · split
    · exact (s2.sosMark_acquire p n).trans (s1.sosMark_setReference p _ n)
    · exact s1.sosMark_setReference p _ n
  · exact s.sosMark_countFacet p g1 n
  · exact s.sosMark_countFacet p g1 n
  · rfl

theorem State.sosMark_polygonFacet (s : State) (m : Nat) (iv : Option Nat) (n : Nat) :
    (s.polygonFacet m iv).sosMark n = s.sosMark n := by
  unfold State.polygonFacet
  dsimp only
  split
  · exact State.sosMark_referenceFacet ..
  · rfl

theorem State.sosMark_beamDies (s : State) (m b n : Nat) : (s.beamDies m b).sosMark n = s.sosMark n := by
  unfold State.beamDies
  extract_lets s1 g1 s2 u low
  have h2 : s2.sosMark n = s.sosMark n := s1.sosMark_setStation (by rfl) n
  clear_value low
  split
  · exact (Keeps.sosMark_eq (State.spoilImaging_keeps (by decide) (State.beamEvent_keeps (by decide)
      (State.fault_keeps (by decide) (Keeps.refl _ s2)))) n).trans h2
  · exact h2

theorem State.sosMark_beamHealth (s : State) (m b : Nat) (crossing : Option Crossing) (n : Nat) :
    (s.beamHealth m b crossing).sosMark n = s.sosMark n := by
  unfold State.beamHealth
  extract_lets g suspect widths failed k s1 s2 g2
  split
  · split
    · rfl
    · split
      · exact s1.sosMark_beamDies m b n
      · exact s1.sosMark_setStation (by rfl) n
  · have h2 : s2.sosMark n = s.sosMark n := by
      unfold s2
      split
      · exact State.sosMark_setStation _ (by rfl) n
      · rfl
    split
    · split
      · exact h2
      · exact (s2.sosMark_setStation (by rfl) n).trans h2
    · exact h2

theorem State.sosMark_evaluateHealth (s : State) (m : Nat) (valid : List Crossing) (n : Nat) :
    (s.evaluateHealth m valid).sosMark n = s.sosMark n := by
  unfold State.evaluateHealth
  dsimp only
  split
  · exact State.sosMark_each (fun t b => t.sosMark_beamHealth m b _ n) s _
  · rfl

theorem State.sosMark_loadClock (s : State) (m n : Nat) : (s.loadClock m).sosMark n = s.sosMark n := by
  unfold State.loadClock
  extract_lets p c hz f g s0 s1 s2
  have h0 : s0.sosMark n = s.sosMark n := s.sosMark_setStation (by rfl) n
  split
  · have h1 : s1.sosMark n = s.sosMark n :=
      ((State.spoilImaging_keeps (by decide) (State.setn_keeps (by decide) (Keeps.refl _ s0))).sosMark_eq n).trans h0
    have h2 : s2.sosMark n = s.sosMark n := by
      unfold s2
      split <;> exact h1
    split
    · exact (s2.sosMark_reacquire p n).trans h2
    · exact h2
  · exact h0

/-! ## The facet -/

/-- The crossings a facet's start of line is formed of: those near the prediction, or the first group while there is none. -/
def State.facetCrossings (s : State) (n : Nat) (cs : List Crossing) : List Crossing :=
  s.crossings n (s.n (sc n 2)) (if decide ((s.station n).measured < 2) then none else some (s.station n).predicted) cs

/-- A facet can be measured: each of the first two with crossings to form it of, a later one when its window has closed
(R64, R515). -/
def State.facetReady (s : State) (n : Nat) (cs : List Crossing) : Prop :=
  (s.station n).measured < 2 ∧ s.facetCrossings n cs ≠ [] ∨
    ¬ (s.station n).measured < 2 ∧ (s.station n).sosOpen = true ∧ (s.station n).predicted + 64 * s.n (sc n 2) ≤ s.fine

/-- A measured facet: the start of its line, one interval after which the next is predicted (R63, R65). -/
theorem execFacetSos_of_ready {s : State} {n : Nat} {cs : List Crossing} (hon : s.stationOn n = true)
    (hy : s.syncState n = 1 ∨ s.syncState n = 2) (hr : s.facetReady n cs) : ∃ (u : State) (iv : Nat),
    execFacetSos n cs s = .next (u.refreshPolygon (polygonOf n)) ∧
      u.sosMark n = (some (s.lineTime n (s.station n).predicted (s.facetCrossings n cs)), false, true,
        min 2 ((s.station n).measured + 1)) ∧
      (u.station n).predicted = s.lineTime n (s.station n).predicted (s.facetCrossings n cs) + iv := by
  unfold execFacetSos
  extract_lets g p first window ready valid measured at_ iv last lit s1 s2 s3 s4 s5 g5 s6 s7
  have hready : ready = true ∧ (first && valid.isEmpty) = false := by
    rcases hr with ⟨hm, hc⟩ | ⟨hm, ho, hd⟩
    · have hv : valid.isEmpty = false := List.isEmpty_eq_false_iff.mpr hc
      simp [ready, first, g, hm, hv]
    · simp [ready, first, g, window, hm, ho, hd]
  rw [if_pos (by simp [hon, hy, hready])]
  have ht : s.lineTime n (s.station n).predicted (s.facetCrossings n cs) = at_ := rfl
  have h1 : s1.sosMark n = (some at_, false, true, min 2 (g.measured + 1)) :=
    congrArg Station.sosMark (s.station_setStation_same n _)
  have h3 : s3.sosMark n = s1.sosMark n :=
    ((State.syncFacet_keeps (by decide) (Keeps.refl _ s2)).sosMark_eq n).trans (s1.sosMark_polygonFacet n iv n)
  have h4 : s4.sosMark n = s3.sosMark n := by
    unfold s4
    split
    · exact (State.sosMark_evaluateHealth _ n valid n).trans
        ((State.learnStagger_keeps (by decide) (Keeps.refl _ s3)).sosMark_eq n)
    · rfl
  have h5 : s5.sosMark n = s4.sosMark n :=
    ((State.countSubstitution_keeps (by decide) (Keeps.refl _ _)).sosMark_eq n).trans (s4.sosMark_loadClock n n)
  have h6 : s6.sosMark n = s5.sosMark n := s5.sosMark_predict n _ n
  have hnext : (s6.station n).predicted = at_ + s5.nextInterval n last :=
    congrArg Station.predicted (State.station_setStation_same ..)
  have h7 : s7.station n = s6.station n := by
    unfold s7
    split
    · exact State.station_arm ..
    · rfl
  refine ⟨s7, s5.nextInterval n last, rfl, ?_, ?_⟩
  · rw [ht]
    exact (congrArg Station.sosMark h7).trans (h6.trans (h5.trans (h4.trans (h3.trans h1))))
  · rw [h7, hnext, ht]

theorem execFacetSos_of_out_of_sync {s : State} {n : Nat} (h : s.syncState n = 0) (cs : List Crossing) :
    execFacetSos n cs s = .next s := by
  simp [execFacetSos, h]

theorem execFacetSos_of_closed {s : State} {n : Nat} (hm : (s.station n).measured = 2) (ho : (s.station n).sosOpen = false)
    (cs : List Crossing) : execFacetSos n cs s = .next s := by
  simp [execFacetSos, hm, ho]

/-! ## A fault on its way to the Lid -/

section
variable {s : State} {a b c : Nat}

theorem State.sent_fault (s : State) (a b c : Nat) : (s.fault a b c).Sent a b c := by
  rw [State.sent_iff, State.fault_eq, State.detect_words]
  simp

/-- A further fault joins those on their way, and takes none of them (R399). -/
theorem State.Sent.fault (h : s.Sent a b c) (source kind address : Nat) : (s.fault source kind address).Sent a b c := by
  rw [State.sent_iff] at h ⊢
  rw [State.fault_eq, State.detect_words]
  exact List.mem_append_left _ h

theorem State.Sent.of_keeps {t : State} (h : s.Sent a b c) (hk : Keeps Area.lid.allBut s t) : t.Sent a b c := by
  unfold State.Sent
  rw [show t.lid = s.lid from hk.same_of_allBut]
  exact h

theorem State.Sent.foldl {α : Type} {f : State → α → State} (hf : ∀ t x, t.Sent a b c → (f t x).Sent a b c)
    (h : s.Sent a b c) (l : List α) : (l.foldl f s).Sent a b c :=
  List.foldlRecOn (motive := fun t : State => t.Sent a b c) l f h fun t ht x _ => hf t x ht

theorem State.Sent.laneTakes (h : s.Sent a b c) (n code : Nat) : (s.laneTakes n code).Sent a b c := by
  unfold State.laneTakes
  split
  · exact h
  · split
    · exact h
    · split
      · exact h
      · dsimp only
        split
        · split
          · exact State.Sent.fault (s := s.setQueue n _) h _ _ _
          · split <;> exact h
        · exact h

theorem State.Sent.feedLanes (h : s.Sent a b c) (k n : Nat) : (State.feedLanes k s n).Sent a b c := by
  induction k generalizing s with
  | zero => exact h
  | succ k ih => exact ih (State.Sent.foldl (fun _ code ht => ht.laneTakes n code) h _)

theorem State.Sent.dropDecodes (h : s.Sent a b c) (i n : Nat) : (s.dropDecodes i n).Sent a b c := by
  unfold State.dropDecodes
  extract_lets s1 s2 s3
  have h2 : s2.Sent a b c := State.Sent.foldl (s := s1) (fun t x ht => by split <;> exact ht) h _
  have h3 : s3.Sent a b c := State.Sent.foldl (fun t x ht => by split <;> exact ht) h2 _
  exact h3.feedLanes _ _

theorem State.Sent.closeImage (h : s.Sent a b c) (n : Nat) : (s.closeImage n).Sent a b c := by
  unfold State.closeImage
  extract_lets g
  split
  · exact State.Sent.dropDecodes (s := s.setStation n _) h _ _
  · exact h

theorem State.Sent.leaveScan (h : s.Sent a b c) (n : Nat) : (s.leaveScan n).Sent a b c := by
  unfold State.leaveScan
  extract_lets g
  exact State.Sent.closeImage (h.of_keeps (State.setSync_keeps (by decide) (State.disarm_keeps (by decide)
    (State.setStation_keeps (by decide) (Keeps.refl _ s))))) n

theorem State.Sent.refreshSync (h : s.Sent a b c) (n : Nat) : (s.refreshSync n).Sent a b c := by
  unfold State.refreshSync
  extract_lets l
  split
  · split
    · exact h.of_keeps (State.enterSynced_keeps (by decide) (Keeps.refl _ s))
    · exact h
  · split
    · exact h.leaveScan n
    · exact h

end

/-! ## The ends of seeking -/

theorem execSeekTimeout_of_not_seeking {s : State} {p : Nat} (h : s.lockState p ≠ 1) : execSeekTimeout p s = .next s := by
  simp [execSeekTimeout, h]

theorem execSeekTimeout_of_due {s : State} {p : Nat} (hd : s.due (tmSeek p) = true) (hl : s.lockState p = 1) :
    execSeekTimeout p s = .next (((servedBy p).foldl State.refreshSync
      (((s.disarm (tmSeek p)).polygonIdle p).fault (0x67 + p) 0x8 0)).refreshPolygon p) := by
  simp [execSeekTimeout, hd, hl]

theorem execSeekingBlankingElapsed_of_due {s : State} {n : Nat} (hd : s.due (tmBlank n) = true) (hon : s.stationOn n = true)
    (hl : s.lockState (polygonOf n) = 1) :
    execSeekingBlankingElapsed n s = .next ((s.disarm (tmBlank n)).light n (s.usableMask n)) := by
  simp [execSeekingBlankingElapsed, hd, hon, hl]

end Sys2Proof.Machine

/-- Settles O31: a facet that is ready leaves its start of line as `execFacetSos_of_ready` says, the fault of the seek time
stays on its way while the stations go out of use, and the blanking's end lights the beams of its station. -/
theorem facetMeasured : Obligations.FacetMeasured := by
  unfold Obligations.FacetMeasured
  intro n p cs s
  simp only [exec_facetSos, exec_seekTimeout, exec_seekingBlankingElapsed]
  refine ⟨fun hon hy hm ho hd => ?_, fun hon hy hm hneed hne => ?_, fun _ hy => execFacetSos_of_out_of_sync hy cs,
    fun hm ho => execFacetSos_of_closed hm ho cs, fun hd hl => ?_, execSeekTimeout_of_not_seeking, fun hd hon hl => ?_⟩
  · have hc : s.facetCrossings n cs = s.crossings n (s.n (sc n 2)) (some (s.station n).predicted) cs := by
      simp [State.facetCrossings, hm]
    obtain ⟨u, iv, hu, hmark, hnext⟩ := execFacetSos_of_ready hon hy (cs := cs) (.inr ⟨by omega, ho, hd⟩)
    simp only [hc, State.sosMark, Station.sosMark, Prod.mk.injEq] at hmark hnext
    obtain ⟨hsos, hopen, hawait, -⟩ := hmark
    refine ⟨u, hu, hopen, fun hfew => ?_, fun hneed hne => ⟨?_, hawait⟩⟩
    · rw [hnext, State.lineTime_of_few hfew]
      exact Nat.le_add_right ..
    · rw [hsos, State.lineTime_of_enough hneed hne]
  · have hc : s.facetCrossings n cs = s.crossings n (s.n (sc n 2)) none cs := by
      simp [State.facetCrossings, hm]
    obtain ⟨u, iv, hu, hmark, -⟩ := execFacetSos_of_ready hon hy (cs := cs) (.inl ⟨hm, by rwa [hc]⟩)
    simp only [hc, State.sosMark, Station.sosMark, Prod.mk.injEq] at hmark
    obtain ⟨hsos, -, hawait, hcount⟩ := hmark
    exact ⟨u, hu, by omega, hawait, by rw [hsos, State.lineTime_of_enough hneed hne]⟩
  · exact ⟨_, execSeekTimeout_of_due hd hl,
      State.Sent.foldl (fun _ m ht => ht.refreshSync m) (State.sent_fault ..) _⟩
  · refine ⟨_, execSeekingBlankingElapsed_of_due hd hon hl, ?_, ?_, fun m hm => State.station_setStation_ne _ _ hm⟩
    · rw [State.light, State.station_setStation_same]
    · rw [State.light, State.armed_setStation, State.armed_disarm_same]
end

section
/-! PROOFS. What the checks of a station do: its VCSEL thermistor, the frames exchanged with its beam drivers, and the
sequence on the back porch (R84, R86, R113, R114, R121, R125 to R127, R131, R134, R135; log entry 55). -/

open Sys2Proof Sys2Proof.Machine

namespace Sys2Proof.Machine

/-! ## The VCSEL temperature -/

theorem sk_ne_injectionRemaining (n m sub : Nat) : sk n m sub ≠ K 0x2220 5 := by
  simp only [sk, K]
  omega

theorem State.station_fault (s : State) (source kind address n : Nat) :
    (s.fault source kind address).station n = s.station n := by
  unfold State.station
  rw [State.fault_eq, State.detect_stations]

section
variable {s : State} {n : Nat} {reading : Int}

/-- A sensor that leaves its range is marked, with its fault and its event (R125). -/
theorem State.vcselSample_of_breaking (hr : reading < -400 ∨ 1500 < reading) (hv : s.flag (sk n 7 7) = false) :
    s.vcselSample n reading = (((((s.seti (sk n 7 1) (clampInt (-32768) 32767 reading)).setStation n
      { s.station n with inRange := 0 }).setb (sk n 7 7) true).fault (stationSource n 3) 0x7 0).apcEvent n 5 0 0) := by
  rw [State.vcselSample, if_pos hr]
  exact if_neg (by simp [hv])

/-- A sensor that stays out of its range shows its reading, and its count of good readings begins again (R125). -/
theorem State.vcselSample_of_broken (hr : reading < -400 ∨ 1500 < reading) (hv : s.flag (sk n 7 7) = true) :
    s.vcselSample n reading = (s.seti (sk n 7 1) (clampInt (-32768) 32767 reading)).setStation n
      { s.station n with inRange := 0 } := by
  rw [State.vcselSample, if_pos hr]
  exact if_pos hv

/-- A good reading that keeps the temperature state is shown, and moves the band only (R126). -/
theorem State.vcselSample_of_steady (hlo : -400 ≤ reading) (hhi : reading ≤ 1500) (hv : s.flag (sk n 7 7) = false)
    (hf : (s.station n).fresh = false) (ht : temperatureState (s.n (sk n 7 2)) reading (s.i (sk n 7 3)) (s.i (sk n 7 4))
      (s.i (sk n 7 5)) (s.i (sk n 7 6)) = s.n (sk n 7 2)) :
    s.vcselSample n reading = (s.seti (sk n 7 1) reading).setStation n
      { s.station n with inRange := 0, fresh := false, band := temperatureBand (s.station n).band reading } := by
  have hclamp : clampInt (-32768) 32767 reading = reading := by
    unfold clampInt
    omega
  rw [State.vcselSample, if_neg (by omega), if_neg (by simp [hv])]
  simp only [hv, hf, ht, hclamp, Bool.false_eq_true, if_false, if_true]

end

/-! ## Frames to the beam drivers -/

section
variable {s : State} {n : Nat}

theorem Keeps.sent_eq {t : State} (h : Keeps Area.stations.allBut s t) (n : Nat) :
    (t.station n).sent = (s.station n).sent := congrArg Station.sent (h.station_eq n)

/-- An update of a station that leaves its frames. -/
theorem State.sent_setStation {x : Station} (h : x.sent = (s.station n).sent) :
    ((s.setStation n x).station n).sent = (s.station n).sent := by
  rw [State.station_setStation_same, h]

theorem State.sent_setDriver (s : State) (n k : Nat) (d : Driver) :
    ((s.setDriver n k d).station n).sent = (s.station n).sent := State.sent_setStation rfl

theorem State.sent_spiError (s : State) (n k : Nat) : ((s.spiError n k).station n).sent = (s.station n).sent := by
  unfold State.spiError
  extract_lets d s1
  have h1 : (s1.station n).sent = (s.station n).sent := State.sent_setDriver (s.bump _) n k _
  split
  · exact ((State.driverFails_keeps (by decide) (Keeps.refl _ s1)).sent_eq n).trans h1
  · exact h1

/-- Each exchange sends one frame, whatever comes back (R130, R134). -/
theorem State.sent_exchange (s : State) (n k cmd beam data : Nat) (ans : Frame) :
    ((s.exchange n k cmd beam data ans).1.station n).sent =
      (s.station n).sent ++ [mosi cmd beam data ((s.station n).driver k).seq] := by
  unfold State.exchange
  extract_lets g d f s1
  have h1 : (s1.station n).sent = (s.station n).sent ++ [f] :=
    (State.sent_setDriver _ n k _).trans (congrArg Station.sent (State.station_setStation_same ..))
  split
  · exact h1
  · split
    · split
      · exact (s1.sent_setDriver n k _).trans h1
      · exact (s1.sent_spiError n k).trans h1
    · exact (s1.sent_spiError n k).trans h1

theorem State.sent_saturation (s : State) (n b sample : Nat) :
    ((s.saturation n b sample).station n).sent = (s.station n).sent := by
  unfold State.saturation
  extract_lets g low run s1 marks
  have h1 : (s1.station n).sent = (s.station n).sent := State.sent_setStation rfl
  split
  · exact h1
  · split <;> exact h1

theorem State.sent_apcSample (s : State) (n b sample : Nat) :
    ((s.apcSample n b sample).station n).sent = (s.station n).sent :=
  State.sent_saturation (s.setBytes _ _) n b sample

/-- What is done with an answer sends nothing. -/
theorem State.sent_takeAnswer (s : State) (n k : Nat) (r : Option (Nat × Nat)) :
    ((s.takeAnswer n k r).station n).sent = (s.station n).sent := by
  unfold State.takeAnswer
  split
  · rfl
  · next f a =>
    extract_lets data status s1
    have h1 : (s1.station n).sent = (s.station n).sent := by
      unfold s1
      split <;> rfl
    split
    · exact h1
    · exact h1
    · exact (congrArg Station.sent (s1.station_setStation_same n _)).trans h1
    · split
      · exact h1
      · exact (s1.sent_apcSample n _ data).trans h1
    · exact h1
    · exact h1

theorem State.length_sent_exchangeAll (s : State) (n : Nat) (l : List (Nat × Nat × Nat × Nat)) (answers : List Frame) :
    ((s.exchangeAll n l answers).station n).sent.length = (s.station n).sent.length + l.length := by
  induction l generalizing s answers with
  | nil => rfl
  | cons x l ih =>
    obtain ⟨k, cmd, beam, data⟩ := x
    rw [State.exchangeAll, ih, State.sent_takeAnswer, State.sent_exchange, List.length_append, List.length_singleton,
      List.length_cons]
    omega

/-- From a station whose list of frames was cleared, the list holds the frames of the exchange alone. -/
theorem State.length_sent_cleared (s : State) (n : Nat) (l : List (Nat × Nat × Nat × Nat)) (answers : List Frame) :
    (((s.setStation n { s.station n with sent := [] }).exchangeAll n l answers).station n).sent.length = l.length := by
  rw [State.length_sent_exchangeAll, State.station_setStation_same, List.length_nil, Nat.zero_add]

theorem execReadCurrent_of_on (hon : s.stationOn n = true) {beam : Nat} (hb : beam < 32) (answers : List Frame) :
    ∃ t, execReadCurrent n beam answers s = .next t ∧ (t.station n).sent.length = 2 :=
  ⟨_, if_pos (by simp [hon, hb]), State.length_sent_cleared ..⟩

theorem execDriverStatusPoll_of_due (hon : s.stationOn n = true) {driver : Nat} (hd : s.pollDue n driver = true)
    (answers : List Frame) :
    ∃ t, execDriverStatusPoll n driver answers s = .next t ∧ (t.station n).sent.length = 3 :=
  ⟨_, if_pos (by simp [hon, hd]), State.length_sent_cleared ..⟩

theorem execDriverStatusPoll_of_not_due {driver : Nat} (hd : s.pollDue n driver = false) (answers : List Frame) :
    execDriverStatusPoll n driver answers s = .next s := by
  simp [execDriverStatusPoll, hd]

end

/-! ## The sequence on the back porch -/

/-- The slot a sequence starts from: where the last one stopped, or the first (R113). -/
def State.apcFirst (s : State) (n : Nat) : Nat := if (s.station n).slot < s.beamsServed n then (s.station n).slot else 0

/-- The slots a sequence has: those left, as far as there is room (R114; log entry 55). -/
def State.apcCount (s : State) (n : Nat) : Nat := min (s.apcRoom n) (s.beamsServed n - s.apcFirst n)

/-- The slot a sequence ends before. -/
def State.apcEnd (s : State) (n : Nat) : Nat := s.apcFirst n + s.apcCount n

/-- The porch is taken, and the slot to resume at is kept (R114). -/
def State.apcTaken (s : State) (n : Nat) : State :=
  s.setStation n { s.station n with
    porch := false, sent := [], slot := if s.apcEnd n < s.beamsServed n then s.apcEnd n else 0 }

/-- A sequence begins: one that will be cut short is counted, with its event (R114). -/
def State.apcBegun (s : State) (n : Nat) : State :=
  if s.apcEnd n < s.beamsServed n then ((s.apcTaken n).bump (sk n 5 8)).apcEvent n 3 0 (s.apcEnd n) else s.apcTaken n

section
variable {s : State} {n : Nat}

theorem State.station_apcBegun (s : State) (n : Nat) : (s.apcBegun n).station n = { s.station n with
    porch := false, sent := [], slot := if s.apcEnd n < s.beamsServed n then s.apcEnd n else 0 } := by
  have h : (s.apcBegun n).station n = (s.apcTaken n).station n := by
    unfold State.apcBegun
    split <;> rfl
  rw [h, State.apcTaken, State.station_setStation_same]

/-- A sequence that comes to its end counts nothing and writes no event. -/
theorem State.apcBegun_of_whole (h : s.beamsServed n ≤ s.apcEnd n) : s.apcBegun n = s.apcTaken n :=
  if_neg (Nat.not_lt.mpr h)

theorem State.overruns_apcBegun_of_cut (h : s.apcEnd n < s.beamsServed n) :
    (s.apcBegun n).n (sk n 5 8) = (s.n (sk n 5 8) + 1) % 2 ^ 32 := by
  rw [State.apcBegun, if_pos h, State.apcEvent, State.n_event, State.bump_eq, State.n_put_same, Int.toNat_natCast,
    State.apcTaken, State.n_setStation]

theorem State.apcCount_of_no_room (h : s.apcRoom n = 0) : s.apcCount n = 0 := by
  rw [State.apcCount, h, Nat.zero_min]

section
variable (hs : (s.station n).slot < s.beamsServed n)
include hs

theorem State.apcFirst_of_slot : s.apcFirst n = (s.station n).slot := if_pos hs

theorem State.apcCount_of_slot : s.apcCount n = min (s.apcRoom n) (s.beamsServed n - (s.station n).slot) := by
  rw [State.apcCount, State.apcFirst_of_slot hs]

theorem State.apcEnd_of_slot : s.apcEnd n = min ((s.station n).slot + s.apcRoom n) (s.beamsServed n) := by
  rw [State.apcEnd, State.apcFirst_of_slot hs, State.apcCount_of_slot hs]
  omega

end

/-- The porch is taken 10.0 µs after the EOS on a station in use whose laser is on (R113). -/
def State.PorchDue (s : State) (n : Nat) : Prop :=
  s.stationOn n = true ∧ (s.syncState n = 1 ∨ s.syncState n = 2) ∧ s.laserOn n = true ∧ (s.station n).porch = true ∧
    (s.station n).eos + 640000 ≤ s.fine

theorem execApcSequence_of_due (h : s.PorchDue n) (answers : List Frame) : execApcSequence n answers s = .next
    (if s.apcCount n = 0 then s.apcBegun n
      else (s.apcBegun n).apcSlots n (upFrom (s.apcFirst n) (s.apcCount n)) answers) := by
  obtain ⟨hon, hy, hl, hp, he⟩ := h
  exact if_pos (by simp [hon, hy, hl, hp, he])

theorem execApcSequence_of_no_room (h : s.PorchDue n) (h0 : s.apcRoom n = 0) (answers : List Frame) :
    execApcSequence n answers s = .next (s.apcBegun n) := by
  rw [execApcSequence_of_due h, if_pos (State.apcCount_of_no_room h0)]

theorem execApcSequence_of_room (h : s.PorchDue n) (h0 : s.apcRoom n ≠ 0) (hs : (s.station n).slot < s.beamsServed n)
    (answers : List Frame) : execApcSequence n answers s = .next
      ((s.apcBegun n).apcSlots n (upFrom (s.station n).slot (s.apcCount n)) answers) := by
  have hc : s.apcCount n ≠ 0 := by
    rw [State.apcCount_of_slot hs]
    omega
  rw [execApcSequence_of_due h, if_neg hc, State.apcFirst_of_slot hs]

theorem execApcSequence_of_no_porch (h : (s.station n).porch = false) (answers : List Frame) :
    execApcSequence n answers s = .next s := by
  simp [execApcSequence, h]

end

/-! ## The laser's end of line, and engaging -/

section
variable {s : State} {n : Nat}

theorem execLaserOffEndOfLine_of_due (hon : s.stationOn n = true) (hl : (s.station n).lineEnd = true)
    (hw : (s.station n).writing = false) : execLaserOffEndOfLine n s = .next (s.laserLow n) :=
  if_pos (by simp [hon, hl, hw])

theorem execLaserOffEndOfLine_of_not_waiting (hl : (s.station n).lineEnd = false) :
    execLaserOffEndOfLine n s = .next s := by
  simp [execLaserOffEndOfLine, hl]

theorem execStationEngageChange_of_boundary (hon : s.stationOn n = true) (hb : s.boundaryHolds n = true)
    (hr : s.flag (sk n 0 1) ≠ s.engaged n) : execStationEngageChange n s =
      .next ((s.setStationState n (if s.engaged n then 1 else 2)).refreshPolygon (polygonOf n)) :=
  if_pos (by simp [hon, hb, hr])

theorem execStationEngageChange_of_no_boundary (hb : s.boundaryHolds n = false) :
    execStationEngageChange n s = .next s := by
  simp [execStationEngageChange, hb]

end

end Sys2Proof.Machine

/-- Settles O32: the readings of the thermistor by their three equations, the frames by `length_sent_exchangeAll`, the
back porch by `execApcSequence_of_room` and what its beginning leaves. The room, the slot to resume at and the count of
sequences cut short are R114's as log entry 55 reads it. -/
theorem stationChecks : Obligations.StationChecks := by
  unfold Obligations.StationChecks
  intro n beam driver ohms reading answers s hon
  simp only [exec_vcselThermistorSample, exec_laserOffEndOfLine, exec_stationEngageChange, exec_readCurrent,
    exec_driverStatusPoll, exec_apcSequence]
  refine ⟨if_pos hon, fun hr hv => ?_, fun hr hv => ?_, fun hlo hhi hv hf ht => ?_, execLaserOffEndOfLine_of_due hon,
    execLaserOffEndOfLine_of_not_waiting, execStationEngageChange_of_boundary hon, execStationEngageChange_of_no_boundary,
    fun hb => execReadCurrent_of_on hon hb answers, fun hd => execDriverStatusPoll_of_due hon hd answers,
    fun hd => execDriverStatusPoll_of_not_due hd answers, fun hy hl hp he => ?_,
    fun hp => execApcSequence_of_no_porch hp answers⟩
  · rw [State.vcselSample_of_breaking hr hv]
    refine ⟨?_, ?_, State.sent_fault ..⟩
    · exact (State.flag_detect _ _ (sk_ne_injectionRemaining n 7 7)).trans (State.flag_put_bool ..)
    · rw [State.apcEvent, State.station_event, State.station_fault, State.setb_eq, State.station_put,
        State.station_setStation_same]
  · rw [State.vcselSample_of_broken hr hv]
    exact ⟨(State.i_setStation ..).trans (State.i_put_same ..),
      congrArg Station.inRange (State.station_setStation_same ..), rfl, rfl⟩
  · rw [State.vcselSample_of_steady hlo hhi hv hf ht]
    exact ⟨(State.i_setStation ..).trans (State.i_put_same ..), rfl, rfl,
      congrArg Station.fresh (State.station_setStation_same ..),
      fun k hk => (State.val_setStation ..).trans (State.val_put_ne _ _ hk)⟩
  · have hdue : s.PorchDue n := ⟨hon, hy, hl, hp, he⟩
    have hstation := s.station_apcBegun n
    refine ⟨fun h0 => ⟨_, execApcSequence_of_no_room hdue h0 answers, ?_, ?_⟩, fun h0 hs hw => ?_, fun h0 hs hc => ?_⟩
    · rw [hstation]
    · rw [hstation]
    · have hcount : s.apcCount n = s.beamsServed n - (s.station n).slot := by
        rw [State.apcCount_of_slot hs]
        omega
      have hend : s.apcEnd n = s.beamsServed n := by rw [State.apcEnd_of_slot hs, Nat.min_eq_right hw]
      have hwhole : s.beamsServed n ≤ s.apcEnd n := Nat.le_of_eq hend.symm
      rw [if_neg (Nat.not_lt.mpr hwhole)] at hstation
      have hbegun : s.apcBegun n = s.apcTaken n := State.apcBegun_of_whole hwhole
      exact ⟨s.apcBegun n, by rw [hstation], by rw [hstation], by rw [hstation], by rw [hbegun]; rfl,
        by rw [hbegun]; rfl, by rw [execApcSequence_of_room hdue h0 hs, hcount]⟩
    · have hcount : s.apcCount n = s.apcRoom n := by
        rw [State.apcCount_of_slot hs]
        omega
      have hend : s.apcEnd n = (s.station n).slot + s.apcRoom n := by
        rw [State.apcEnd_of_slot hs, Nat.min_eq_left (Nat.le_of_lt hc)]
      have hcut : s.apcEnd n < s.beamsServed n := hend ▸ hc
      rw [if_pos hcut, hend] at hstation
      exact ⟨s.apcBegun n, by rw [hstation], by rw [hstation], by rw [hstation], State.overruns_apcBegun_of_cut hcut,
        by rw [execApcSequence_of_room hdue h0 hs, hcount]⟩
end

section
/-! PROOFS. What an operation leaves of the page table, and the members of a run of numbers. -/

open Sys2Proof Sys2Proof.Machine

namespace Sys2Proof.Machine

theorem mem_upFrom {k lo n : Nat} : k ∈ upFrom lo n ↔ lo ≤ k ∧ k < lo + n := by
  induction n generalizing lo with
  | zero => simp [upFrom]
  | succ n ih =>
    rw [upFrom, List.mem_cons, ih]
    omega

theorem Keeps.pages_eq {s t : State} (h : Keeps Area.pages.allBut s t) : t.pages = s.pages := h.same_of_allBut

theorem State.page_of_pages {s t : State} (h : t.pages = s.pages) (i : Nat) : t.page i = s.page i :=
  State.page_of_table (congrArg Pages.table h) i

theorem State.pagesWith_of_pages {s t : State} (h : t.pages = s.pages) (c : Page → Bool) : t.pagesWith c = s.pagesWith c := by
  unfold State.pagesWith
  simp only [State.page_of_pages h]

theorem State.each_singleton {α : Type} (s : State) (x : α) (f : State → α → State) : s.each [x] f = f s x := rfl

/-! ## The spoil flag -/

section
variable {s : State} {i : Nat}

theorem State.spoilPage_of_running (hr : (s.page i).running = true) (h0 : (s.page i).spoil = 0) (cause who : Nat) :
    s.spoilPage i cause who =
      (s.setPage i { s.page i with spoil := cause }).event 82 (cause + who * 256 + (s.page i).tag * 2 ^ 32) :=
  if_pos (by simp [hr, h0])

/-- A page in flight that is not spoiled yet takes the cause given, and nothing else of it changes (R152, R161). -/
theorem State.page_spoilPage_same (hr : (s.page i).running = true) (h0 : (s.page i).spoil = 0) (cause who : Nat) :
    (s.spoilPage i cause who).page i = { s.page i with spoil := cause } := by
  rw [State.spoilPage_of_running hr h0, State.page_event, State.page_setPage_same]

theorem State.page_spoilPage_ne {j : Nat} (hj : j ≠ i) (cause who : Nat) :
    (s.spoilPage i cause who).page j = s.page j := by
  unfold State.spoilPage
  dsimp only
  split
  · rw [State.page_event, State.page_setPage_ne _ _ hj]
  · rfl

end

/-- Whether a splice is pending, and from where it is cleared (R170). -/
def State.splice (s : State) : Bool × Option Nat := (s.pages.splicePending, s.pages.spliceFrom)

theorem State.splice_spoilPage (s : State) (i cause who : Nat) : (s.spoilPage i cause who).splice = s.splice := by
  unfold State.spoilPage
  dsimp only
  split <;> rfl

/-- Pages that are spoiled leave the splice as it stands. -/
theorem State.splice_each_spoilPage (s : State) (l : List Nat) (cause who : Nat) :
    (s.each l (fun t i => t.spoilPage i cause who)).splice = s.splice :=
  List.foldlRecOn (motive := fun t : State => t.splice = s.splice) l _ rfl
    fun t ht i _ => (t.splice_spoilPage i cause who).trans ht

end Sys2Proof.Machine
end

section
/-! PROOFS. What ends a page (R151, R152, R161 to R164). -/

open Sys2Proof Sys2Proof.Machine

namespace Sys2Proof.Machine

/-- A page that is not spoiled ends as DELIVERED, with its delivery window closed (R151). -/
theorem State.page_endPage_of_unspoiled {s : State} {i : Nat} (h0 : (s.page i).spoil = 0) :
    (s.endPage i).page i = { s.page i with window := none, state := 7 } := by
  unfold State.endPage
  extract_lets p new s0 q s1 s2
  have hnew : new = 7 := if_pos h0
  have hs0 : s0.pages = s.pages :=
    (Keeps.each (fun _ _ ht => Keeps.ite (State.endImage_keeps (by decide) ht) ht) (Keeps.refl _ s)).pages_eq
  clear_value s0
  have hs2 : s2.page i = { s0.page i with window := none, state := new } := by
    simp only [s2, s1, q, State.bump_eq, State.page_put, State.page_setPageState, State.page_disarm, State.page_setPage_same]
  rw [if_neg (by simp [hnew]), hs2, hnew, State.page_of_pages hs0]

section
variable {s : State}

theorem execDeliveryEdge_of_on (hon : s.on 16 = true) (input : Nat) (rising : Bool) :
    execDeliveryEdge input rising s = .next ((s.sampleInput input rising).each
      (s.pagesWith (fun p => p.running && p.window == some (input, rising))) State.endPage) :=
  if_pos hon

variable {tag i : Nat} (hi : s.placeOf tag = some i)
include hi

theorem execDeliveryWindowExpired_of_due (hon : s.on 16 = true) {w : Nat × Bool} (hw : (s.page i).window = some w)
    (hr : (s.page i).running = true) (hd : s.due (tmWindow i) = true) :
    execDeliveryWindowExpired tag s = .next (s.endPageBadly i 10 w.1 2) := by
  simp [execDeliveryWindowExpired, hi, hw, hon, hr, hd]

theorem execDeliveryWindowExpired_of_not_due (hd : s.due (tmWindow i) = false) :
    execDeliveryWindowExpired tag s = .next s := by
  cases hw : (s.page i).window <;> simp [execDeliveryWindowExpired, hi, hw, hd]

theorem execPageDeadlineExpired_of_due (hon : s.on 16 = true) (hr : (s.page i).running = true)
    (hd : s.due (tmDeadline i) = true) :
    execPageDeadlineExpired tag s = .next ((s.bump (K 0x3500 0x15)).endPageBadly i 11 0 1) := by
  simp [execPageDeadlineExpired, hi, hon, hr, hd]

theorem execPageDeadlineExpired_of_not_due (hd : s.due (tmDeadline i) = false) :
    execPageDeadlineExpired tag s = .next s := by
  simp [execPageDeadlineExpired, hi, hd]

end

end Sys2Proof.Machine

/-- Settles O28: the three commands by their equations, the page a delivery edge ends by `page_endPage_of_unspoiled`, and
the spoil flag by what `spoilPage` writes. -/
theorem pageEnds : Obligations.PageEnds := by
  unfold Obligations.PageEnds
  intro input tag i rising s hon
  simp only [exec_deliveryEdge, exec_deliveryWindowExpired, exec_pageDeadlineExpired]
  have hedge := execDeliveryEdge_of_on hon input rising
  refine ⟨hedge, fun hl h0 _ => ?_, fun hl => ?_, fun w hi hw hr hd => execDeliveryWindowExpired_of_due hi hon hw hr hd,
    execDeliveryWindowExpired_of_not_due, fun hi hr hd => execPageDeadlineExpired_of_due hi hon hr hd,
    execPageDeadlineExpired_of_not_due, fun cause who hr h0 => ?_⟩
  · rw [hl] at hedge
    have hpage : ((s.sampleInput input rising).endPage i).page i = { s.page i with window := none, state := 7 } :=
      State.page_endPage_of_unspoiled (s := s.sampleInput input rising) h0
    refine ⟨_, hedge, ?_⟩
    rw [State.each_singleton, hpage]
    exact ⟨rfl, rfl, rfl⟩
  · rw [hl] at hedge
    exact ⟨_, hedge, rfl, rfl⟩
  · rw [State.page_spoilPage_same hr h0]
    exact ⟨rfl, rfl, fun j hj => State.page_spoilPage_ne hj cause who⟩
end

section
/-! PROOFS. Web breaks and splices (R161, R170, R171). -/

open Sys2Proof Sys2Proof.Machine

namespace Sys2Proof.Machine

/-! ## An input that is sensed -/

theorem State.pages_senseInput (s : State) (code : Nat) (active : Bool) : (s.senseInput code active).pages = s.pages := by
  unfold State.senseInput
  split <;> rfl

theorem State.held_senseInput (s : State) (code : Nat) (active : Bool) :
    (s.senseInput code active).ev.held = s.ev.held := by
  unfold State.senseInput
  split <;> rfl

theorem State.axisPos_senseInput (s : State) (code : Nat) (active : Bool) (n : Nat) :
    (s.senseInput code active).axisPos n = s.axisPos n := by
  unfold State.senseInput
  split <;> rfl

/-- A record carries no input. -/
theorem State.record_senseInput (s : State) (code : Nat) (active : Bool) (type source payload : Nat) (firmware : Bool) :
    (s.senseInput code active).record type source payload firmware = s.record type source payload firmware := by
  unfold State.senseInput
  split <;> rfl

/-! ## The commands -/

/-- The input of a web break has been sampled, and the break is recorded (R170). -/
def State.webBroken (s : State) : State := (s.senseInput (s.n (K 0x3500 9)) true).event 87 1

/-- The input of a splice has been sampled, the splice is recorded, and it is pending (R170). -/
def State.spliced (s : State) : State :=
  let t := (s.senseInput (s.n (K 0x3500 0xA)) true).event 87 2
  { t with pages := { t.pages with splicePending := true, spliceFrom := none } }

section
variable {s : State}

theorem State.pages_webBroken (s : State) : s.webBroken.pages = s.pages := State.pages_senseInput ..

theorem State.held_webBroken (s : State) :
    s.webBroken.ev.held = s.ev.held ++ [s.record 1 87 1 (Config.firmwareRaised 87)] := by
  rw [State.webBroken, State.event_held, State.record_senseInput, State.held_senseInput]

theorem execWebBreak_of_web (hon : s.on 16 = true) (hw : s.flag (K 0x3500 8) = true) (hn : s.n (K 0x3500 9) % 64 ≠ 0) :
    execWebBreak s = .next (s.webBroken.each (s.pagesWith Page.running)
      (fun t i => t.spoilPage i 12 (s.n (K 0x3500 9) % 64))) := by
  rw [execWebBreak, if_pos (by simp [hon, hw, hn]), ← State.pagesWith_of_pages s.pages_webBroken]
  rfl

theorem execSplice_of_web (hon : s.on 16 = true) (hw : s.flag (K 0x3500 8) = true) (hn : s.n (K 0x3500 0xA) % 64 ≠ 0) :
    execSplice s = .next (s.spliced.each (s.spliced.pagesWith (fun p => p.state == 3 || p.state == 4))
      (fun t i => t.spoilPage i 13 (s.n (K 0x3500 0xA) % 64))) :=
  if_pos (by simp [hon, hw, hn])

theorem execWebBreak_of_not_web (hw : s.flag (K 0x3500 8) = false) : execWebBreak s = .next s := by
  simp [execWebBreak, hw]

theorem execSplice_of_not_web (hw : s.flag (K 0x3500 8) = false) : execSplice s = .next s := by
  simp [execSplice, hw]

theorem execSpliceDeactivation_of_pending (hon : s.on 16 = true) (hp : s.pages.splicePending = true) :
    ∃ t, execSpliceDeactivation s = .next t ∧ t.pages = { s.pages with spliceFrom := some (s.axisPos 1) } := by
  refine ⟨_, if_pos (by simp [hon, hp]), ?_⟩
  rw [State.axisPos_senseInput, State.pages_senseInput]

theorem execSpliceCleared_of_passed (hon : s.on 16 = true) {a : Nat} (ha : s.pages.spliceFrom = some a)
    (hp : s.pages.splicePending = true) (hd : 256 * s.n (K 0x3500 0xB) ≤ distance 48 (s.axisPos 1) a) :
    execSpliceCleared s =
      .next ({ s with pages := { s.pages with splicePending := false, spliceFrom := none } }.event 87 3) := by
  simp only [execSpliceCleared, ha]
  exact if_pos (by simp [hon, hp, hd])

theorem execSpliceCleared_of_signal (h : s.pages.spliceFrom = none) : execSpliceCleared s = .next s := by
  simp [execSpliceCleared, h]

end

end Sys2Proof.Machine

/-- Settles O29: each command by its equation. A break of no page in flight is its record alone, and spoiling the pages of
a splice leaves the splice pending. -/
theorem webEvents : Obligations.WebEvents := by
  unfold Obligations.WebEvents
  intro s hon
  simp only [exec_webBreak, exec_splice, exec_spliceDeactivation, exec_spliceCleared]
  refine ⟨fun hw hn hl => ?_, fun i hw hn hl h0 hr => ?_, fun hw hn => ?_,
    fun hw => ⟨execWebBreak_of_not_web hw, execSplice_of_not_web hw⟩, fun hp => ?_,
    fun a ha hp hd => ⟨_, execSpliceCleared_of_passed hon ha hp hd, rfl, rfl, State.event_held ..⟩,
    execSpliceCleared_of_signal⟩
  · have hbreak := execWebBreak_of_web hon hw hn
    rw [hl] at hbreak
    exact ⟨_, hbreak, s.held_webBroken, s.pages_webBroken⟩
  · have hbreak := execWebBreak_of_web hon hw hn
    rw [hl] at hbreak
    have hi : s.webBroken.page i = s.page i := State.page_of_pages s.pages_webBroken i
    refine ⟨_, hbreak, ?_⟩
    rw [State.each_singleton, State.page_spoilPage_same (hi ▸ hr) (hi ▸ h0), hi]
    exact ⟨rfl, rfl⟩
  · have hsplice := s.spliced.splice_each_spoilPage (s.spliced.pagesWith (fun p => p.state == 3 || p.state == 4)) 13
      (s.n (K 0x3500 0xA) % 64)
    exact ⟨_, execSplice_of_web hon hw hn, congrArg Prod.fst hsplice, congrArg Prod.snd hsplice⟩
  · obtain ⟨t, ht, hpages⟩ := execSpliceDeactivation_of_pending hon hp
    exact ⟨t, ht, congrArg Pages.spliceFrom hpages, (congrArg Pages.splicePending hpages).trans hp⟩
end

section
/-! PROOFS. The commands of the page rings (R146 to R149, R152, R167, R168, R257; log entry 59). -/

open Sys2Proof Sys2Proof.Machine

namespace Sys2Proof.Machine

/-! ## An entry is taken and answered -/

theorem State.consumed_pages (s : State) (ring : Nat) : (s.consumed ring).pages = s.pages :=
  (State.consumed_keeps (by decide) (Keeps.refl _ s)).pages_eq

theorem State.placeOf_of_pages {s t : State} (h : t.pages = s.pages) (tag : Nat) : t.placeOf tag = s.placeOf tag := by
  unfold State.placeOf
  simp only [State.page_of_pages h]

theorem State.freePlace_of_table {s t : State} (h : t.pages.table = s.pages.table) : t.freePlace = s.freePlace := by
  unfold State.freePlace
  simp only [State.page_of_table h]

theorem State.sendPage_table (s : State) (ring : Nat) (e : List Nat) : (s.sendPage ring e).pages.table = s.pages.table := by
  obtain ⟨g, h⟩ := s.sendPage_pages ring e
  rw [h]

theorem State.answerPage_table (s : State) (ring index tag status : Nat) :
    (s.answerPage ring index tag status).pages.table = s.pages.table := State.sendPage_table ..

theorem State.answerPage_order (s : State) (ring index tag status : Nat) :
    (s.answerPage ring index tag status).pages.order = s.pages.order := State.sendPage_order ..

section
variable {s : State} {ring : Nat} (hl : s.linkUp = true) (he : s.hasEntry ring = true)
include hl he

theorem State.takePage_of_served (hs : s.served = true) (ws : List Nat) (serve : State → Nat → List Nat → State) :
    s.takePage ring (some ws) serve = serve (s.consumed ring) (s.headIndex ring) ws := by
  simp [State.takePage, State.takeEntry, hs, he, hl]

/-- In a switch-over gap an entry is taken and kept for the unit that takes over (R257). -/
theorem State.takePage_of_gap (hs : s.served = false) (hg : s.twin.switching = true) (ws : List Nat)
    (serve : State → Nat → List Nat → State) : (s.takePage ring (some ws) serve).pages =
      { s.pages with gapTaken := s.pages.gapTaken ++ [(ring, s.headIndex ring, ws)] } := by
  simp [State.takePage, State.takeEntry, hs, hg, he, hl, State.consumed_pages]

end

/-! ## Page plans -/

/-- The page that a plan entry asks for, QUEUED (R146, R149). -/
def planPage (ws : List Nat) : Page :=
  { tag := field (wordAt ws 0) 15 0, state := 0, recipe := field (wordAt ws 0) 39 32, flags := field (wordAt ws 0) 47 40,
    partner := field (wordAt ws 0) 31 16, job := field (wordAt ws 1) 63 32, lines := field (wordAt ws 1) 31 0,
    notBefore := wordAt ws 2 }

section
variable {s : State} {index : Nat} {ws : List Nat}

theorem State.servePlan_of_refused (h : s.planStatus ws ≠ 0) :
    s.servePlan index ws = s.answerPage 56 index (field (wordAt ws 0) 15 0) (s.planStatus ws) := if_neg h

/-- A plan that passes its tests puts its page in the lowest free place, and last in the plan order (R148, R149). -/
theorem State.servePlan_of_accepted (h : s.planStatus ws = 0) {i : Nat} (hi : s.freePlace = some i) :
    (s.servePlan index ws).page i = planPage ws ∧ (s.servePlan index ws).pages.order = s.pages.order ++ [i] := by
  unfold State.servePlan
  extract_lets st w0 tag s1 i' p s2 s3
  obtain rfl : i' = i := congrArg (Option.getD · 0) hi
  rw [if_pos h, State.page_reportPage, State.reportPage_order]
  have horder : s2.pages.order = s.pages.order := State.answerPage_order ..
  exact ⟨State.page_setPage_same .., congrArg (· ++ [i']) horder⟩

end

/-! ## Page commands -/

section
variable {s : State} {cmd : Nat} {ws : List Nat}

theorem State.takeCommand_of_own (hc : field (wordAt ws 0) 39 32 = cmd) :
    s.takeCommand cmd (some ws) = s.takePage 57 (some ws) State.serveCommand := by
  simp [State.takeCommand, hc]

/-- The state in which a page command that passes its test is carried out: its entry taken, and answered with status 0. -/
def State.commandTaken (s : State) (ws : List Nat) : State :=
  (s.consumed 57).answerPage 57 (s.headIndex 57) (field (wordAt ws 0) 15 0) 0

theorem State.commandTaken_table (s : State) (ws : List Nat) : (s.commandTaken ws).pages.table = s.pages.table :=
  (State.answerPage_table ..).trans (congrArg Pages.table (s.consumed_pages 57))

variable (hl : s.linkUp = true) (hs : s.served = true) (he : s.hasEntry 57 = true) (hc : field (wordAt ws 0) 39 32 = cmd)
include hl hs he hc

theorem State.takeCommand_of_accepted (h0 : (s.consumed 57).commandStatus ws = 0) : s.takeCommand cmd (some ws) =
    (s.commandTaken ws).pageCommand cmd (((s.consumed 57).placeOf (field (wordAt ws 0) 15 0)).getD 0)
      (field (wordAt ws 0) 31 16) := by
  rw [State.takeCommand_of_own hc, State.takePage_of_served hl he hs, State.serveCommand]
  simp only [h0, hc, if_true]
  rfl

theorem State.takeCommand_of_accepted_at (h0 : (s.consumed 57).commandStatus ws = 0) {i : Nat}
    (hi : s.placeOf (field (wordAt ws 0) 15 0) = some i) :
    s.takeCommand cmd (some ws) = (s.commandTaken ws).pageCommand cmd i (field (wordAt ws 0) 31 16) := by
  rw [State.takeCommand_of_accepted hl hs he hc h0, State.placeOf_of_pages (s.consumed_pages 57), hi, Option.getD_some]

theorem State.takeCommand_of_refused (h0 : (s.consumed 57).commandStatus ws ≠ 0) :
    (s.takeCommand cmd (some ws)).pages.table = s.pages.table := by
  rw [State.takeCommand_of_own hc, State.takePage_of_served hl he hs, State.serveCommand]
  simp only [h0, if_false]
  exact (State.answerPage_table ..).trans (congrArg Pages.table (s.consumed_pages 57))

end

/-! ## What a page command leaves of its page -/

theorem State.pageCommand_markSpoiled (s : State) (i new : Nat) : s.pageCommand 4 i new = s.spoilPage i 14 0 := rfl

theorem State.pageCommand_reprint {s : State} {j : Nat} (hj : s.freePlace = some j) (i new : Nat) :
    s.pageCommand 3 i new = s.makeReprint i j new := by
  rw [State.pageCommand, hj, Option.getD_some]

/-- A purged page's place is empty, and the page stands in the plan order no more (R149, R167). -/
theorem State.purge_empties (s : State) (i : Nat) : (s.purge i).page i = {} ∧ i ∉ (s.purge i).pages.order := by
  have hpages : (s.purge i).pages = (((s.setPageState i 9).unorder i).setPage i {}).pages := rfl
  rw [State.page_of_pages hpages, State.page_setPage_same, hpages, State.setPage_pages_order]
  exact ⟨rfl, State.not_mem_unorder _ i⟩

theorem Tab.get_map_snd {α : Type} (d : Nat → α) (f : α → α) (t : Tab α) (k : Nat) :
    Tab.get d (t.map fun x => (x.1, f x.2)) k = f (Tab.get d t k) ∨
      Tab.get d (t.map fun x => (x.1, f x.2)) k = Tab.get d t k := by
  induction t with
  | nil => exact .inr rfl
  | cons x t ih =>
    obtain ⟨a, v⟩ := x
    by_cases h : a = k
    · simp [Tab.get, h]
    · simpa [Tab.get, h] using ih

/-- Of a page, a reprint's tag changes the partner at most (R169). -/
theorem State.page_rePartner (s : State) (old new k : Nat) :
    ∃ m, (s.rePartner old new).page k = { s.page k with partner := m } := by
  obtain h | h := Tab.get_map_snd (fun _ => ({} : Page))
    (fun p => if p.partner = old ∧ bitOf p.flags 1 = true then { p with partner := new } else p) s.pages.table k
  · refine ⟨(if (s.page k).partner = old ∧ bitOf (s.page k).flags 1 = true then new else (s.page k).partner), h.trans ?_⟩
    unfold State.page
    split <;> rfl
  · exact ⟨_, h⟩

/-- A reprint is a RESIDENT page with the recipe, the lines and the blocks of the page it replaces, first in the plan
order (R168). -/
theorem State.makeReprint_makes (s : State) (i new tag : Nat) :
    (∃ m, (s.makeReprint i new tag).page new =
      { tag := tag, state := 1, recipe := (s.page i).recipe, lines := (s.page i).lines, flags := (s.page i).flags, partner := m,
        job := (s.page i).job, reprints := (s.page i).reprints + 1, blocks := (s.page i).blocks }) ∧
      (s.makeReprint i new tag).pages.order.head? = some new := by
  unfold State.makeReprint
  extract_lets p auto q s1 s2 s3
  constructor
  · obtain ⟨m, hm⟩ := ((s1.purge i).setPage new q).page_rePartner p.tag tag new
    rw [State.page_setPage_same] at hm
    exact ⟨m, (State.page_of_pages (State.autoSpool_pages ..) new).trans ((State.page_reportPage ..).trans hm)⟩
  · rw [State.autoSpool_pages, State.reportPage_order]
    rfl

end Sys2Proof.Machine

/-- Settles O26: an entry is taken and its plan or its command served, by the lemmas above; the commands then act on the
page of the tag as `purge`, `makeReprint` and `spoilPage` do. The order of the statuses of a plan is log entry 59's. -/
theorem pageRings : Obligations.PageRings := by
  unfold Obligations.PageRings
  intro ws i s hl
  simp only [exec_pagePlanSubmit, exec_release, exec_cancel, exec_reprint, exec_markSpoiled]
  refine ⟨fun hs hg he => ?_, fun hs he h0 hi => ?_, fun hs he h0 => ?_,
    fun hs he hc h0 => congrArg Host.Outcome.next (State.takeCommand_of_accepted hl hs he hc h0),
    fun hs he hc h0 => congrArg Host.Outcome.next (State.takeCommand_of_accepted hl hs he hc h0),
    fun hs he hc h0 => congrArg Host.Outcome.next (State.takeCommand_of_accepted hl hs he hc h0), fun hs he hc h0 hi hr hsp => ?_,
    fun hs he hc h0 => ⟨_, rfl, State.takeCommand_of_refused hl hs he hc h0⟩, fun hs he hc h0 hi => ⟨_, rfl, ?_⟩,
    fun hs he hc h0 hi => ⟨_, rfl, ?_⟩, fun j hs he hc h0 hi hj => ⟨_, rfl, ?_⟩⟩
  · have hgap := State.takePage_of_gap hl he hs hg ws State.servePlan
    refine ⟨_, rfl, ?_⟩
    rw [hgap]
    exact ⟨rfl, rfl⟩
  · have hfree : (s.consumed 56).freePlace = some i :=
      (State.freePlace_of_table (congrArg Pages.table (s.consumed_pages 56))).trans hi
    obtain ⟨hpage, horder⟩ := State.servePlan_of_accepted (index := s.headIndex 56) h0 hfree
    rw [s.consumed_pages 56] at horder
    refine ⟨_, congrArg Host.Outcome.next (State.takePage_of_served hl he hs ws State.servePlan), ?_⟩
    rw [hpage]
    exact ⟨rfl, rfl, rfl, rfl, rfl, rfl, horder⟩
  · refine ⟨_, congrArg Host.Outcome.next ((State.takePage_of_served hl he hs ws State.servePlan).trans
      (State.servePlan_of_refused h0)), ?_⟩
    rw [State.answerPage_table, State.answerPage_order, s.consumed_pages 56]
    exact ⟨rfl, rfl⟩
  · have hpage : (s.commandTaken ws).page i = s.page i := State.page_of_table (s.commandTaken_table ws) i
    refine ⟨_, congrArg Host.Outcome.next (State.takeCommand_of_accepted_at hl hs he hc h0 hi), ?_⟩
    rw [State.pageCommand_markSpoiled, State.page_spoilPage_same (hpage ▸ hr) (hpage ▸ hsp), hpage]
    exact ⟨rfl, rfl⟩
  · rw [State.takeCommand_of_accepted_at hl hs he hc h0 hi]
    exact State.purge_empties _ i
  · rw [State.takeCommand_of_accepted_at hl hs he hc h0 hi]
    exact State.purge_empties _ i
  · have hpage : (s.commandTaken ws).page i = s.page i := State.page_of_table (s.commandTaken_table ws) i
    have hfree : (s.commandTaken ws).freePlace = some j := (State.freePlace_of_table (s.commandTaken_table ws)).trans hj
    obtain ⟨⟨m, hm⟩, horder⟩ := (s.commandTaken ws).makeReprint_makes i j (field (wordAt ws 0) 31 16)
    rw [State.takeCommand_of_accepted_at hl hs he hc h0 hi, State.pageCommand_reprint hfree, hm, hpage]
    exact ⟨rfl, rfl, rfl, rfl, rfl, rfl, horder⟩
end

section
/-! PROOFS. How a band block comes in (R178, R179, R183, R184, R254, R255, R259 to R261, R266; log entry 16). -/

open Sys2Proof Sys2Proof.Machine

namespace Sys2Proof.Machine

/-! ## The next entry of a band ingest ring -/

/-- The engine can take the next entry of a band ingest ring: it is the ring's turn, no block is in fetch, and an entry is
open for reading (R260). -/
def State.IngestOpen (s : State) (ring : Nat) : Prop :=
  ingestRing ring = true ∧ s.ringPresent ring = true ∧ s.on 3 = true ∧ s.inFetch = [] ∧ s.ingestTurn ring = true ∧
    (s.ring ring).state = 1 ∧ (s.ring ring).open_ < (s.ring ring).used ∧ s.linkUp = true

/-- The entry is read, in its place, and it is the last one taken of the band ingest rings (R255, R260). -/
def State.ingestTaken (s : State) (ring : Nat) : State :=
  { s.setRing ring { s.ring ring with open_ := (s.ring ring).open_ + 1 } with
    press := { s.press with ingestLast := ring } }

/-- An entry's fields that are not free stand as R259 asks, and its length is one that a block can have. -/
def ingestEntryGood (ws : List Nat) : Prop :=
  field (wordAt ws 0) 63 56 = 1 ∧ field (wordAt ws 0) 55 32 = 0 ∧ field (wordAt ws 2) 63 32 = 0 ∧
    (wordAt ws 3 = 0 ∧ wordAt ws 4 = 0 ∧ wordAt ws 5 = 0) ∧ 33 ≤ field (wordAt ws 2) 31 0 ∧ field (wordAt ws 2) 31 0 ≤ 1048693

/-- A header's marker and the fields that are to be 0 stand (R183, R184). -/
def ingestHeaderGood (hb : Bytes) (b : Block) : Prop :=
  leAt 0 3 hb = 0x19E55 ∧ field (wordAt b.head 0) 31 25 = 0 ∧ field (wordAt b.head 2) 15 8 = 0 ∧
    field (wordAt b.head 3) 63 40 = 0 ∧ field (wordAt b.head 3) 23 16 = 0

/-- The block that an entry names, with its header. -/
def State.ingestBlock (s : State) (ring : Nat) (ws : List Nat) (hb : Bytes) : Block :=
  { ring := ring, entry := (s.ring ring).nextTaken, id := s.press.nextBlock, head := leWords 4 8 hb,
    length := field (wordAt ws 2) 31 0, address := wordAt ws 1 }

/-- The block is in fetch: its space is reserved, and it counts as the page's from now on (R260). -/
def State.ingestBegun (s : State) (ring : Nat) (ws : List Nat) (hb : Bytes) : State :=
  let t := s.ingestTaken ring
  { t with press := { t.press with
      nextBlock := t.press.nextBlock + 1,
      inbound := t.press.inbound ++
        [{ page := (t.placeOf (field (wordAt ws 0) 15 0)).getD 0 + 1, block := s.ingestBlock ring ws hb }] } }

/-- A word whose upper half is the ingest opcode alone (R259). -/
theorem opcode_of_upper_half {w : Nat} (h : field w 63 32 = 2 ^ 24) : field w 63 56 = 1 ∧ field w 55 32 = 0 := by
  simp only [field] at *
  omega

/-- A word of 32 bits is its lower half. -/
theorem halves_of_lt {w : Nat} (h : w < 2 ^ 32) : field w 31 0 = w ∧ field w 63 32 = 0 := by
  simp only [field]
  omega

section
variable {s : State} {ring : Nat}

theorem State.readInPlace_of_open (hs : (s.ring ring).state = 1) (ho : (s.ring ring).open_ < (s.ring ring).used)
    (hl : s.linkUp = true) (ws : List Nat) (k : State → Nat → List Nat → State) : s.readInPlace ring (some ws) k =
      k (s.setRing ring { s.ring ring with open_ := (s.ring ring).open_ + 1 }) (s.ring ring).nextTaken ws := by
  simp [State.readInPlace, hs, ho, hl]

theorem execIngestBlock_of_disabled (hs : (s.ring ring).state ≠ 1) (entry : Entry) (host : HostMem) :
    execIngestBlock ring entry host s = .next s := by
  unfold execIngestBlock State.readInPlace
  simp [hs]

variable (h : s.IngestOpen ring) (host : HostMem) {ws : List Nat}
include h

/-- A malformed entry is answered with status 0x13, and makes no block (R259, R261). -/
theorem execIngestBlock_of_malformed (hw : field (wordAt ws 0) 63 56 ≠ 1) : execIngestBlock ring (some ws) host s =
    .next ((s.ingestTaken ring).ingestDone { ring := ring, entry := (s.ring ring).nextTaken } 0x13 0 0) := by
  obtain ⟨hring, hpresent, hon, hfetch, hturn, hstate, hopen, hlink⟩ := h
  rw [execIngestBlock, if_pos (by simp [hring, hpresent, hon, hfetch, hturn]), State.readInPlace_of_open hstate hopen hlink]
  exact congrArg _ (if_pos (.inl hw))

/-- A block whose entry, header, page, ring and space are good is in fetch from then on (R260). -/
theorem execIngestBlock_of_good {hb : Bytes} (hw : ingestEntryGood ws) (hr : hostRead host (wordAt ws 1) 32 = some hb)
    (hh : ingestHeaderGood hb (s.ingestBlock ring ws hb))
    (h0 : (s.ingestTaken ring).ingestStatus ring (field (wordAt ws 0) 15 0) (field (wordAt ws 2) 31 0)
      (s.ingestBlock ring ws hb) = 0) :
    execIngestBlock ring (some ws) host s = .next (s.ingestBegun ring ws hb) := by
  obtain ⟨hring, hpresent, hon, hfetch, hturn, hstate, hopen, hlink⟩ := h
  obtain ⟨hop, hzero, hupper, ⟨h3, h4, h5⟩, hmin, hmax⟩ := hw
  obtain ⟨hmark, hhead0, hhead2, hhead3, hhead3'⟩ := hh
  rw [execIngestBlock, if_pos (by simp [hring, hpresent, hon, hfetch, hturn]), State.readInPlace_of_open hstate hopen hlink]
  refine congrArg _ ((if_neg ?_).trans ?_)
  · have hfree : (upFrom 3 3).any (fun i => wordAt ws i != 0) = false := by simp [upFrom, h3, h4, h5]
    simp only [hop, hzero, hupper, hfree, ne_eq, not_true_eq_false, Bool.false_eq_true, false_or]
    omega
  · have hearly : (if leAt 0 3 hb ≠ 0x19E55 then 1 else if field (wordAt (s.ingestBlock ring ws hb).head 0) 31 25 ≠ 0 ∨
        field (wordAt (s.ingestBlock ring ws hb).head 2) 15 8 ≠ 0 ∨ field (wordAt (s.ingestBlock ring ws hb).head 3) 63 40 ≠ 0 ∨
        field (wordAt (s.ingestBlock ring ws hb).head 3) 23 16 ≠ 0 then 2 else 0) = 0 := by
      simp [hmark, hhead0, hhead2, hhead3, hhead3']
    rw [hr]
    exact (if_neg (fun hne => hne hearly)).trans (if_neg (fun hne => hne h0))

end

/-! ## The data of the block in fetch -/

section
variable {s : State} {ring : Nat} {host : HostMem}

theorem execIngestDataRead_of_none (h : s.inFetch.find? (fun y => y.block.ring == ring) = none) (parity : Bool) :
    execIngestDataRead ring host parity s = .next s := by
  simp [execIngestDataRead, h]

variable {x : Inbound} (h : s.inFetch.find? (fun y => y.block.ring == ring) = some x)
include h

theorem execIngestDataRead_of_parity : execIngestDataRead ring host true s =
    .next (((s.dropInbound x.block.id).fault 0x7C 0x3 ring).ingestDone x.block 0x15 0 0) := by
  simp only [execIngestDataRead, h, if_true]

theorem execIngestDataRead_of_no_answer (hr : hostRead host (x.block.address + 32) (x.block.length - 32) = none) :
    execIngestDataRead ring host false s =
      .next (((s.dropInbound x.block.id).linkFault host (x.block.address + 32)).ingestDone x.block 0x14 0 0) := by
  simp only [execIngestDataRead, h, hr, Bool.false_eq_true, if_false]

/-- The place of DRAM that the block takes is the model's free value (log entry 16). -/
theorem execIngestDataRead_of_data {body : Bytes}
    (hr : hostRead host (x.block.address + 32) (x.block.length - 32) = some body) :
    ∃ u : State, execIngestDataRead ring host false s = .next u.feedCheck ∧ u.drawn = s.drawn + 1 ∧
      u.press.inbound = (s.dropInbound x.block.id).press.inbound ++
        [{ x with block := { x.block with body := body, state := 1, address := Config.blockAddress s.drawn } }] := by
  simp only [execIngestDataRead, h, hr, Bool.false_eq_true, if_false]
  exact ⟨_, rfl, rfl, rfl⟩

end

end Sys2Proof.Machine

/-- Settles O36: an entry of a band ingest ring and the data of the block in fetch, case by case as above. The place that
the data take is the free value of log entry 16. -/
theorem bandIngest : Obligations.BandIngest := by
  unfold Obligations.BandIngest
  intro ring ws host parity x body s
  simp only [exec_ingestBlock, exec_ingestDataRead]
  refine ⟨fun hring hpresent hon hfetch hturn hstate hopen hlink hw => ?_,
    fun hs => execIngestBlock_of_disabled hs (some ws) host, fun h => execIngestDataRead_of_none h parity,
    execIngestDataRead_of_parity, execIngestDataRead_of_no_answer,
    fun hx hr => execIngestDataRead_of_data hx hr, ?_⟩
  · refine ⟨s.ingestTaken ring, execIngestBlock_of_malformed ⟨hring, hpresent, hon, hfetch, hturn, hstate, hopen, hlink⟩ host hw,
      ?_, rfl⟩
    exact congrArg Ring.open_ (s.ring_setRing_same ring _)
  · rintro u hb b hring hpresent hon hfetch hturn hstate hopen hlink hop h3 h4 h5 hmin hmax hr hmark rfl hh0 hh2 hh3 hh3' rfl h0
    obtain ⟨hcode, hzero⟩ := opcode_of_upper_half hop
    obtain ⟨hlower, hupper⟩ := halves_of_lt (w := wordAt ws 2) (by omega)
    have hblock : s.ingestBlock ring ws hb =
        { ring := ring, entry := (s.ring ring).nextTaken, id := s.press.nextBlock, head := leWords 4 8 hb,
          length := wordAt ws 2, address := wordAt ws 1 } := by
      rw [State.ingestBlock, hlower]
    have hgood := execIngestBlock_of_good ⟨hring, hpresent, hon, hfetch, hturn, hstate, hopen, hlink⟩ host
      (ws := ws) (hb := hb) ⟨hcode, hzero, hupper, ⟨h3, h4, h5⟩, by omega, by omega⟩ hr ⟨hmark, hh0, hh2, hh3, hh3'⟩
      (by rw [hlower, hblock]; exact h0)
    exact ⟨_, hgood, rfl, by rw [← hblock]; rfl⟩
end

section
/-! PROOFS. What the accepted writes of recipes, lanes, locks and channel inputs do (R144, R178, R212, R221, R226, R227). -/

open Sys2Proof Sys2Proof.Machine

namespace Sys2Proof.Machine

/-! ## What the written objects do -/

/-- A recipe that is written enters the configuration measurement (R478). -/
theorem State.effect_recipe (s : State) {r : Nat} (h : r ≤ 31) (old new : Val) :
    s.effect (0x3510 + r) 1 old new = s.extendMeasurement 4 new.bytes := by
  rw [State.effect, if_neg (by omega), if_neg (by omega), State.effectHigh, if_pos (by omega), if_neg (by omega),
    if_pos (by omega)]

/-- A `Channel input` that changes is recorded (R221, R244). -/
theorem State.effect_channelInput (s : State) {ch : Nat} (h : ch ≤ 16) (old new : Val) :
    s.effect 0x3810 ch old new = s.when (decide (old.int ≠ new.int)) (fun t => t.event 98 (3 + ch * 256)) := by
  simp [State.effect, State.effectHigh, State.when, h]

theorem State.command_takeOutOfService (s : State) (path : Path) (v : Val) (answers : List Frame) :
    s.command path 0x3600 0xB v answers = s.takeOut v.nat := rfl

theorem State.command_lockAcquire (s : State) (path : Path) (v : Val) (answers : List Frame) :
    s.command path 0x3820 1 v answers = s.hostLock path v.nat := rfl

theorem State.command_lockRelease (s : State) (path : Path) (v : Val) (answers : List Frame) :
    s.command path 0x3820 2 v answers = s.hostUnlock v.nat := rfl

/-! ## Locks -/

theorem State.owner_takeLock (s : State) (n owner : Nat) : ((s.takeLock n owner).lock n).owner = owner := by
  unfold State.takeLock
  dsimp only
  split
  · rw [State.lockEvent, State.lock_event, State.lock_setLock_same]
  · rw [State.lock_setLock_same]

theorem State.owner_hostLock (s : State) (path : Path) (n : Nat) : ((s.hostLock path n).lock n).owner = pathOwner path := by
  unfold State.hostLock
  split
  · next h => exact h
  · exact s.owner_takeLock n _

theorem State.passLock_of_no_waiter {s : State} {n : Nat} (h : s.waiters n = []) : s.passLock n = s := by
  rw [State.passLock, h]

/-- A lock that is released and that no job waits for is free and not broken (R226). -/
theorem State.releaseLock_of_no_waiter {s : State} {n : Nat} (h : s.waiters n = []) : s.releaseLock n =
    s.setLock n { s.lock n with lastOwner := (s.lock n).owner, owner := 0, broken := false } :=
  State.passLock_of_no_waiter h

end Sys2Proof.Machine

/-- Settles O39: an accepted write is its object's row of the table with the effect found there, and the lemmas above say
whose a lock is. -/
theorem storeWrites : Obligations.StoreWrites := by
  unfold Obligations.StoreWrites
  intro path data s
  refine ⟨fun r hr ha => ?_, fun ha => ?_, fun ha => ?_, fun ha => ?_, fun ch h1 h16 ha => ?_,
    fun u n => u.owner_hostLock path n, fun u n h => ?_⟩
  · rw [exec_recipeWrite, execRecipeWrite, if_pos hr,
      State.writeRow_value ha (rk_recipeWrite r (by omega) (by omega)) nofun (by omega) (by omega) (by omega),
      State.effect_recipe _ hr]
    rfl
  · rw [exec_takeOutOfService, execTakeOutOfService, State.writeRow_command ha rk_takeOutOfService (by omega) (by omega),
      State.command_takeOutOfService]
    simp [Ty.decode, Val.nat, Val.int]
  · rw [exec_lockAcquire, execLockAcquire, State.writeRow_command ha rk_lockAcquire (by omega) (by omega),
      State.command_lockAcquire]
    simp [Ty.decode, Val.nat, Val.int]
  · rw [exec_lockRelease, execLockRelease, State.writeRow_command ha rk_lockRelease (by omega) (by omega),
      State.command_lockRelease]
    simp [Ty.decode, Val.nat, Val.int]
  · rw [exec_channelInputWrite, execChannelInputWrite, if_pos ⟨h1, h16⟩,
      State.writeRow_value ha (rk_channelInputWrite ch (by omega) h1) nofun (by omega) (by omega) (by omega),
      State.effect_channelInput _ h16]
    rfl
  · rw [State.releaseLock_of_no_waiter h, State.lock_setLock_same]
    exact ⟨rfl, rfl, rfl⟩
end

section
/-! PROOFS. What each function re-initialisation does (R165, R207, R238, R299, R341, R421, R484, R491; log entry 171). -/

open Sys2Proof Sys2Proof.Machine

namespace Sys2Proof.Machine

/-! ## The write -/

/-- A class and an instance, written as a word of two bytes. -/
theorem decode_leBytes_two {code : Nat} (h : code < 65536) : (Ty.u16.decode (leBytes 2 code)).nat = code := by
  have hcode : ofLe (leBytes 2 code) = code := by
    simp only [leBytes, ofLe, BitVec.toNat_ofNat]
    omega
  simp [Ty.decode, Val.nat, Val.int, hcode]

theorem State.command_reinitialise (s : State) (path : Path) (v : Val) (answers : List Frame) :
    s.command path 0x2010 1 v answers = s.reinitialise v.nat answers := rfl

/-- An accepted write of `Reinitialise function` re-initialises the function it names, and is answered as done (R484). -/
theorem State.reinitRow_of_accepted {s : State} {path : Path} {cls i code : Nat} (hc : cls < 256) (hi : i < 256)
    (hcode : cls * 256 + i = code) (ha : s.Accepts path 0x2010 1 (leBytes 2 code)) (answers : List Frame) :
    s.reinitRow path cls i answers = (s.noted.reinitialise code answers).done path 0x2010 1 := by
  obtain ⟨hopen, hserved, hgood⟩ := ha
  rw [State.reinitRow, if_pos hi, hcode, State.request_of_served hopen hserved,
    State.serveWrite_command (ty := .u16) hgood (by decide) (by omega) (by omega), State.command_reinitialise,
    decode_leBytes_two (by omega)]

section
variable (s : State) (code : Nat) (answers : List Frame)

theorem State.last_reinitialise : (s.reinitialise code answers).n (K 0x2010 3) = code := by
  rw [State.reinitialise, State.n_event, State.setn_eq, State.n_put_same, Int.toNat_natCast]

theorem State.logged_reinitialise :
    (s.reinitialise code answers).Logged 34 (7 + code * 65536 + s.n (K 0x2011 7) * 2 ^ 32) := State.logged_event ..

end

/-! ## Encoders -/

theorem State.loopState_setLoop (s : State) (n new : Nat) : (s.setLoop n new).loopState n = new := by
  have hput : ∀ t : State, (t.setn (K (0x3000 + n) 7) new).loopState n = new := fun t => by
    rw [State.loopState, State.setn_eq, State.n_put_same, Int.toNat_natCast]
  unfold State.setLoop
  extract_lets old s1 s2
  split
  · next h => exact h
  · split <;> exact hput s1

theorem State.n_setLoop (s : State) (n new : Nat) {k : Nat} (h : k ≠ K (0x3000 + n) 7) : (s.setLoop n new).n k = s.n k := by
  unfold State.setLoop
  extract_lets old s1 s2
  have h1 : s1.n k = s.n k := by
    unfold s1
    split <;> rfl
  have h2 : s2.n k = s.n k := (State.n_put_ne s1 _ h).trans h1
  split
  · rfl
  · split <;> exact h2

theorem State.encoderEnable_eq (s : State) (n : Nat) : s.encoderEnable n false true =
    (((s.setn (K (0x3000 + n) 8) 0).setEnc n {}).setLoop n 1).after (tmStandstill n) (s.n (K (0x3000 + n) 6) * 1000) := rfl

/-- An encoder that is enabled is in ACQUIRING, with an `Edge count` of 0 (R27). -/
theorem State.encoderEnable_starts (s : State) (n : Nat) :
    (s.encoderEnable n false true).loopState n = 1 ∧ (s.encoderEnable n false true).n (K (0x3000 + n) 8) = 0 := by
  rw [State.encoderEnable_eq]
  refine ⟨State.loopState_setLoop _ n 1, ?_⟩
  rw [State.after_eq, State.n_arm, State.n_setLoop _ _ _ (by simp [K]), State.n_setEnc, State.setn_eq, State.n_put_same]
  rfl

theorem State.reinitFunction_encoder (s : State) {n : Nat} (h : s.flag (K (0x3000 + n) 1) = true) (answers : List Frame) :
    s.reinitFunction 5 n answers = s.encoderEnable n false true := if_pos h

/-! ## The Ladle -/

/-- The Ladle is STOPPED no more (R238). -/
theorem State.stopped_ladleReinit (s : State) : s.ladleReinit.n (K 0x3810 0x11) = 0 := by
  rw [State.ladleReinit, State.n_event, State.setn_eq]
  exact State.n_put_same ..

/-! ## Loop slots and their owners -/

theorem lk_ne_lk {slot a b : Nat} (h : a ≠ b) : lk slot a ≠ lk slot b := fun e => h (Nat.add_left_cancel e)

/-- A disabled slot's integral, derivative and counts are 0 (R484). -/
theorem State.slotReinit_clears (s : State) (slot : Nat) : ((s.slotReinit slot).loop slot).integral = 0 ∧
    ((s.slotReinit slot).loop slot).derivative = 0 ∧ (s.slotReinit slot).n (lk slot 0x1C) = 0 := by
  unfold State.slotReinit
  extract_lets x s1
  have hloop : (((s1.setn (lk slot 0x1C) 0).setn (lk slot 0x1D) 0).setn (lk slot 0x1E) 0).loop slot = s1.loop slot := rfl
  rw [hloop, State.loop_setLoopSlot_same, State.setn_eq, State.n_put_ne _ _ (lk_ne_lk (by decide)), State.setn_eq,
    State.n_put_ne _ _ (lk_ne_lk (by decide)), State.setn_eq, State.n_put_same]
  exact ⟨rfl, rfl, rfl⟩

theorem State.slotOf_lt {s : State} {target i : Nat} (h : s.slotOf target = some i) : i < 64 :=
  (mem_upFrom.mp (List.mem_of_find?_eq_some h)).2

/-- A slot that stops changes its state and its output, and no other object. -/
theorem State.n_stopSlot (s : State) (slot cause : Nat) {k : Nat} (h2 : k ≠ lk slot 2) (hB : k ≠ lk slot 0xB) :
    (s.stopSlot slot cause).n k = s.n k := by
  have hstate : (s.setSlotState slot 0 cause).n k = s.n k := by
    unfold State.setSlotState
    dsimp only
    split
    · rfl
    · exact (State.n_event ..).trans (State.n_put_ne _ _ h2)
  exact (State.n_put_ne _ _ hB).trans hstate

/-- The slots' objects are none of the HV channels', nor of the zones'. -/
theorem owner_ne_lk {slot index a b : Nat} (hs : slot < 64) (hi : 0x4C00 ≤ index) (ha : a < 256) (hb : b < 256) :
    K index a ≠ lk slot b := by
  simp only [lk, K]
  omega

theorem State.hvState_hvTo (s : State) (h new cause : Nat) : (s.hvTo h new cause).hvState h = new := by
  unfold State.hvTo
  extract_lets old s1 x s2
  have h1 : s1.hvState h = new := by
    rw [State.hvState, State.n_event, State.setn_eq, State.n_put_same, Int.toNat_natCast]
  have h2 : s2.hvState h = new := by
    rw [← h1]
    exact State.n_put_ne s1 _ (show hk h 2 ≠ hk h 7 by simp [hk, K])
  split
  · next heq => exact heq
  · split
    · exact h1
    · split
      · next i hi =>
        have hlt : i < 64 := State.slotOf_lt hi
        exact (State.n_stopSlot _ _ _ (owner_ne_lk hlt (by omega) (by decide) (by decide))
          (owner_ne_lk hlt (by omega) (by decide) (by decide))).trans h2
      · exact h2

/-- `In band` changes no other object. -/
theorem State.n_refreshInBand (s : State) (z : Nat) {k : Nat} (h : k ≠ zk z 0xC) : (s.refreshInBand z).n k = s.n k := by
  unfold State.refreshInBand
  extract_lets t good
  split
  · rfl
  · exact (State.n_event ..).trans (State.n_put_ne _ _ h)

theorem State.zoneState_refreshInBand (s : State) (z : Nat) : (s.refreshInBand z).zoneState z = s.zoneState z :=
  s.n_refreshInBand z (by simp [zk, K])

theorem State.zoneState_zoneTo (s : State) (z new cause : Nat) : (s.zoneTo z new cause).zoneState z = new := by
  unfold State.zoneTo
  extract_lets old s1 g s2 s3
  have h1 : s1.zoneState z = new := by
    rw [State.zoneState, State.n_event, State.setn_eq, State.n_put_same, Int.toNat_natCast]
  have h2 : s2.zoneState z = new := by
    rw [← h1]
    exact State.n_put_ne (s1.setZone z _) _ (show zk z 2 ≠ zk z 0xE by simp [zk, K])
  have h3 : s3.zoneState z = new := by
    unfold s3
    split
    · next i _ hi =>
      have hlt : i < 64 := State.slotOf_lt hi
      exact (State.n_stopSlot _ _ _ (owner_ne_lk hlt (by omega) (by decide) (by decide))
        (owner_ne_lk hlt (by omega) (by decide) (by decide))).trans h2
    · exact h2
  split
  · next heq => exact heq
  · split
    · exact (s1.zoneState_refreshInBand z).trans h1
    · exact (s3.zoneState_refreshInBand z).trans h3

end Sys2Proof.Machine

/-- Settles O16: an accepted write of each class is `reinitRow_of_accepted`, and the lemmas above say what the functions
read as afterwards. That an encoder's `Edge count` is 0 is the model's choice (log entry 171). -/
theorem reinitialisations : Obligations.Reinitialisations := by
  unfold Obligations.Reinitialisations
  intro path k answers s hk
  simp only [exec_reinitSequencerUnit, exec_reinitPressLane, exec_reinitStation, exec_reinitPolygonTiming, exec_reinitEncoder,
    exec_reinitPositionBase, exec_reinitLadle, exec_reinitCrock, exec_reinitDriveChannel, exec_reinitStepperAxis,
    exec_reinitLoopSlot, exec_reinitHvChannel, exec_reinitKettleZone]
  have hrow : ∀ cls < 256, ∀ i < 256, ∀ l code, cls * 256 + i = code → s.Accepts path 0x2010 1 (leBytes 2 code) →
      (.next (s.reinitRow path cls i l) : Host.Outcome State Fault Refusal) =
        .next ((s.noted.reinitialise code l).done path 0x2010 1) :=
    fun cls hc i hi l code hcode ha => congrArg _ (State.reinitRow_of_accepted hc hi hcode ha l)
  exact ⟨hrow 1 (by decide) k hk [] _ (by omega), hrow 2 (by decide) k hk [] _ (by omega),
    hrow 3 (by decide) k hk answers _ (by omega), hrow 4 (by decide) k hk [] _ (by omega),
    hrow 5 (by decide) k hk [] _ (by omega), hrow 6 (by decide) 0 (by decide) [] _ (by omega),
    hrow 7 (by decide) 0 (by decide) [] _ (by omega), hrow 8 (by decide) 0 (by decide) [] _ (by omega),
    hrow 9 (by decide) k hk [] _ (by omega), hrow 10 (by decide) k hk [] _ (by omega),
    hrow 11 (by decide) k hk [] _ (by omega), hrow 12 (by decide) k hk [] _ (by omega),
    hrow 13 (by decide) k hk [] _ (by omega),
    fun u code => ⟨u.last_reinitialise code answers, u.logged_reinitialise code answers⟩,
    fun u _ _ he => by rw [u.reinitFunction_encoder he]; exact u.encoderEnable_starts k, State.stopped_ladleReinit,
    fun u _ => u.slotReinit_clears k, fun u _ _ => u.hvState_hvTo k 0 1, fun u _ _ => u.zoneState_zoneTo k 0 2⟩
end

section
/-! PROOFS. What a lane of the Press reads as after a change of its state (R2, R207, R208). -/

open Sys2Proof Sys2Proof.Machine

namespace Sys2Proof.Machine

/-- A lane takes its new state, unless the variant lacks it: an absent lane reads as 4 whatever becomes of it (R207). -/
theorem State.laneState_laneTo (s : State) (code new kind : Nat) :
    (s.laneTo code new kind).laneState code = if s.laneAbsent code then 4 else new := by
  have habsent : (s.laneTo code new kind).laneAbsent code = s.laneAbsent code := rfl
  rw [State.laneState, habsent, State.laneTo, State.lane_event, State.lane_setLane_same]

end Sys2Proof.Machine

/-- Refutes O33: decode lane 17 is absent on a THR-8640-S4, so that its state reads as 4 and not as the state it is taken
to. The statement's clause on a change of state asks it of every lane code and every state, the variant included. -/
theorem not_pressLanes : ¬ Obligations.PressLanes := by
  unfold Obligations.PressLanes
  intro h
  obtain ⟨-, -, -, -, -, -, hstate, -⟩ := h 17 0 0 0 0 true none {}
  have h2 := hstate { s6 := false } 2 0
  rw [State.laneState_laneTo] at h2
  exact absurd h2 (by decide)
end

section
/-! PROOFS. The ends of decode lanes' and check lanes' blocks (R184, R185, R188 to R190; log entry 68). -/

open Sys2Proof Sys2Proof.Machine

namespace Sys2Proof.Machine

/-! ## Decode lanes -/

/-- A decode lane in service is at work on a block (R188). -/
def State.Decodes (s : State) (lane : Nat) : Prop :=
  lane ∈ decodeCodes ∧ s.laneServes lane = true ∧ (s.lane lane).page ≠ 0

/-- The block that a decode lane is at work on, while its page still holds it. -/
def State.blockInWork (s : State) (lane : Nat) : Option Block := (s.page ((s.lane lane).page - 1)).block (s.lane lane).block

/-- A decode lane is free after its block, which it has counted with its raw length and its stalls (R189, R193, R209). -/
def State.decodeEnded (s : State) (lane : Nat) (b : Block) (stalls : Nat) : State :=
  s.setLane lane { s.lane lane with
    page := 0, block := 0, blocks := ((s.lane lane).blocks + 1) % 2 ^ 32,
    bytes := ((s.lane lane).bytes + b.rawLength) % 2 ^ 64,
    stalls := ((s.lane lane).stalls + min stalls b.mostStalls) % 2 ^ 64 }

/-- A block that a lane has decoded badly is bound to another lane (R190). -/
def State.bindRetry (s : State) (id lane : Nat) : State :=
  { s with press := { s.press with retries := s.press.retries ++ [(id, lane)] } }

/-- Which other lanes of its station are in service does not depend on the lane itself. -/
theorem State.otherLanes_setLane (s : State) (n code : Nat) (x : Lane) :
    (s.setLane code x).otherLanes n code = s.otherLanes n code := by
  refine List.filter_congr fun c _ => ?_
  by_cases hc : c = code
  · simp [hc]
  · have hserves : (s.setLane code x).laneServes c = s.laneServes c := by
      unfold State.laneServes State.laneState
      rw [State.lane_setLane_ne _ _ hc]
      rfl
    rw [hserves]

section
variable {s : State} {lane : Nat} (h : s.Decodes lane) (stalls : Nat)
include h

/-- A lane whose block has left its page is free (R188). -/
theorem execDecodeBlockComplete_of_gone (hb : s.blockInWork lane = none) (good : Bool) :
    execDecodeBlockComplete lane good stalls s =
      .next ((s.setLane lane { s.lane lane with page := 0, block := 0 }).feedDecode (laneStation lane)) := by
  obtain ⟨hcode, hserves, hpage⟩ := h
  unfold State.blockInWork at hb
  simp [execDecodeBlockComplete, hcode, hserves, hpage, hb]

variable {b : Block} (hb : s.blockInWork lane = some b) (hbar : s.barredLane b.id = 0)
include hb hbar

/-- The rows of a block that is decoded well, at the first lane that takes it, go into its band buffer (R189). -/
theorem execDecodeBlockComplete_of_good : execDecodeBlockComplete lane true stalls s =
    .next ((((s.decodeEnded lane b stalls).writeRows (laneStation lane) b).forgetRetry b.id).feedDecode (laneStation lane)) := by
  obtain ⟨hcode, hserves, hpage⟩ := h
  unfold State.blockInWork at hb
  simp [execDecodeBlockComplete, hcode, hserves, hpage, hb, hbar, State.decodeEnded]

/-- A block that is decoded badly goes back to the head of its queue, bound to another lane, the first time (R190). -/
theorem execDecodeBlockComplete_of_bad (hothers : (s.otherLanes (laneStation lane) lane).isEmpty = false) :
    execDecodeBlockComplete lane false stalls s =
      .next (((((s.decodeEnded lane b stalls).bindRetry b.id lane).requeue (laneStation lane) ((s.lane lane).page - 1) b.id).reissueEvent
        lane 0 (laneStation lane) (s.page ((s.lane lane).page - 1)).tag b.band).feedDecode (laneStation lane)) := by
  obtain ⟨hcode, hserves, hpage⟩ := h
  unfold State.blockInWork at hb
  simp [execDecodeBlockComplete, hcode, hserves, hpage, hb, hbar, State.otherLanes_setLane, hothers, State.decodeEnded,
    State.bindRetry]

end

/-! ## Check lanes -/

/-- Check lane k, in service, is at work on the only block that is on its way into the page store (R185). -/
def State.ChecksOnly (s : State) (k : Nat) (x : Inbound) : Prop :=
  0x40 + k ∈ checkCodes ∧ s.laneServes (0x40 + k) = true ∧ (s.lane (0x40 + k)).page ≠ 0 ∧
    s.press.inbound = [x] ∧ x.block.state = 2 ∧ x.block.id = (s.lane (0x40 + k)).block

/-- What the check of a block finds that is on its way (R185). -/
def State.checked (s : State) (x : Inbound) (poison : Option Nat) : Checked :=
  s.checkBlock (s.page (x.page - 1)) x.block poison

/-- A check lane is free after its block, which is counted with the bytes the lane has put out and is no longer on its
way (R185, R209). -/
def State.checkEnded (s : State) (k : Nat) (x : Inbound) (poison : Option Nat) : State :=
  ((s.dropInbound x.block.id).setLane (0x40 + k) { s.lane (0x40 + k) with
    page := 0, block := 0, blocks := ((s.lane (0x40 + k)).blocks + 1) % 2 ^ 32,
    bytes := ((s.lane (0x40 + k)).bytes + (s.checked x poison).out) % 2 ^ 64 }).bump (qk 0xC)

/-- What a check lane holds once its block has ended. -/
theorem State.lane_checkEnded (s : State) (k : Nat) (x : Inbound) (poison : Option Nat) :
    (s.checkEnded k x poison).lane (0x40 + k) = { s.lane (0x40 + k) with
      page := 0, block := 0, blocks := ((s.lane (0x40 + k)).blocks + 1) % 2 ^ 32,
      bytes := ((s.lane (0x40 + k)).bytes + (s.checked x poison).out) % 2 ^ 64 } :=
  State.lane_setLane_same ..

section
variable {s : State} {k : Nat} {x : Inbound} (h : s.ChecksOnly k x) (poison : Option Nat)
include h

theorem State.inbound_checkEnded : (s.checkEnded k x poison).press.inbound = [] := by
  obtain ⟨-, -, -, hx, -, -⟩ := h
  have hdrop : (s.checkEnded k x poison).press.inbound = s.press.inbound.filter (fun y => y.block.id != x.block.id) := rfl
  simp [hdrop, hx]

/-- The lane's block is the one that CHECK_LANE_COMPLETE finds. -/
theorem State.find?_of_checksOnly : s.press.inbound.find? (fun y => checkCodes.contains (0x40 + k) && (s.laneServes (0x40 + k) &&
    (decide ((s.lane (0x40 + k)).page ≠ 0) && (y.block.state == 2 && y.block.id == (s.lane (0x40 + k)).block)))) = some x := by
  obtain ⟨hcode, hserves, hpage, hx, hstate, hid⟩ := h
  simp [hcode, hserves, hpage, hx, hstate, hid]

/-- A block whose page has left the table is answered with status 0x10 (R185, R261; log entry 68). -/
theorem execCheckLaneComplete_of_gone (hp : x.page = 0) : execCheckLaneComplete k poison s =
    .next ((((s.dropInbound x.block.id).setLane (0x40 + k) { s.lane (0x40 + k) with page := 0, block := 0 }).ingestDone
      x.block 0x10 k 0).feedCheck) := by
  rw [execCheckLaneComplete]
  simp only [State.find?_of_checksOnly h, hp, if_true]

variable (hp : x.page ≠ 0)
include hp

/-- A block that passes its check is an accepted block of its page, with its cost filled in (R184, R185). -/
theorem execCheckLaneComplete_of_pass (hr : (s.checked x poison).status = 0) : execCheckLaneComplete k poison s =
    .next ((((s.checkEnded k x poison).acceptBlock (x.page - 1) (x.block.fillCost (s.checked x poison).cost)).ingestDone
      x.block 0 k (x.block.fillCost (s.checked x poison).cost).cost).feedCheck) := by
  unfold State.checked at hr
  rw [execCheckLaneComplete]
  simp only [State.find?_of_checksOnly h, hp, if_false, hr, if_true]
  rfl

/-- A block that fails its check is refused with EV090 and answered with the status of the first test it fails (R185). -/
theorem execCheckLaneComplete_of_fail (hr : (s.checked x poison).status ≠ 0) : execCheckLaneComplete k poison s =
    .next ((((s.checkEnded k x poison).rejectEvent x.block (s.page (x.page - 1)).tag (s.checked x poison).status).ingestDone
      x.block (s.checked x poison).status k 0).feedCheck) := by
  unfold State.checked at hr
  rw [execCheckLaneComplete]
  simp only [State.find?_of_checksOnly h, hp, if_false, hr]
  rfl

end

end Sys2Proof.Machine

/-- Settles O34: each clause is the equation above for its case, with the state in which the lane has ended its block. That
a block whose page is gone is answered with status 0x10 is the model's reading (log entry 68). -/
theorem decodedBlocks : Obligations.DecodedBlocks := by
  unfold Obligations.DecodedBlocks
  intro lane stalls poison b x s hcode
  simp only [exec_decodeBlockComplete, exec_checkLaneComplete, List.contains_iff_mem] at hcode ⊢
  refine ⟨fun hserves hpage hb hbar => ?_, fun hserves hpage hb => ?_, fun k hk hserves hpage hx hstate hid hp => ?_,
    fun hserves hpage hb hbar hothers => ?_, fun k hk hserves hpage hx hstate hid hp => ?_⟩
  · refine ⟨s.decodeEnded lane b stalls, execDecodeBlockComplete_of_good ⟨hcode, hserves, hpage⟩ stalls hb hbar, ?_⟩
    rw [State.decodeEnded, State.lane_setLane_same]
    exact ⟨rfl, rfl, rfl, rfl, rfl⟩
  · exact execDecodeBlockComplete_of_gone ⟨hcode, hserves, hpage⟩ stalls hb true
  · exact execCheckLaneComplete_of_gone ⟨hk, hserves, hpage, hx, hstate, hid⟩ poison hp
  · refine ⟨(s.decodeEnded lane b stalls).bindRetry b.id lane,
      execDecodeBlockComplete_of_bad ⟨hcode, hserves, hpage⟩ stalls hb hbar hothers, ?_, rfl, rfl⟩
    exact congrArg Lane.page (s.lane_setLane_same lane _)
  · have h : s.ChecksOnly k x := ⟨hk, hserves, hpage, hx, hstate, hid⟩
    refine ⟨s.checkEnded k x poison, ?_, ?_, State.inbound_checkEnded h poison, rfl,
      execCheckLaneComplete_of_pass h poison hp, execCheckLaneComplete_of_fail h poison hp⟩
    · rw [State.lane_checkEnded]
    · rw [State.lane_checkEnded]
end

section
/-! PROOFS. Encode jobs and archive streams (R197, R199 to R206; log entries 13, 72 and 187). -/

open Sys2Proof Sys2Proof.Machine

namespace Sys2Proof.Machine

/-! ## An entry of an encode ring -/

section
variable {s : State} {lane : Nat} {ws : List Nat} (host : HostMem) (poison : Bool)

/-- An ENCODE_BAND entry stays for the row of its own opcode (R201). -/
theorem execEncodeBuffer_of_band (hop : field (wordAt ws 0) 63 56 = 2) :
    execEncodeBuffer lane (some ws) host poison s = .next s := by
  simp [execEncodeBuffer, entryOpcode, hop]

/-- The row of ENCODE_BAND leaves an entry of another opcode (R201). -/
theorem execEncodeBand_of_other (hop : field (wordAt ws 0) 63 56 ≠ 2) :
    execEncodeBand lane (some ws) host poison s = .next s := by
  simp [execEncodeBand, entryOpcode, hop]

variable (hring : s.servesRing lane = true) (he : s.hasEntry (27 + lane) = true) (hl : s.linkUp = true)
include hring he hl

theorem execEncodeBand_of_band (hop : field (wordAt ws 0) 63 56 = 2) :
    execEncodeBand lane (some ws) host poison s = .next ((s.consumed (27 + lane)).takeJob (27 + lane) lane ws host poison) := by
  simp [execEncodeBand, State.takeEntry, entryOpcode, hring, he, hl, hop]

theorem execEncodeBuffer_of_other (hop : field (wordAt ws 0) 63 56 ≠ 2) :
    execEncodeBuffer lane (some ws) host poison s = .next ((s.consumed (27 + lane)).takeJob (27 + lane) lane ws host poison) := by
  simp [execEncodeBuffer, State.takeEntry, entryOpcode, hring, he, hl, hop]

end

/-! ## A job is taken -/

/-- One more job has its number. -/
def State.jobNumbered (s : State) : State := { s with press := { s.press with nextJob := s.press.nextJob + 1 } }

section
variable {s : State} {r lane l : Nat} {ws : List Nat} {host : HostMem} {source : Bytes}
  (hfields : jobFieldsBad ws = false) (hlengths : jobLengthsBad ws = false) (hl : s.jobLane lane = some l)
  (h41 : bitOf (wordAt ws 0) 41 = true) (hs : hostRead host (wordAt ws 1) (field (wordAt ws 2) 31 0) = some source)
  (poison : Bool)
include hfields hlengths hl h41 hs

/-- An ENCODE_BUFFER job whose chain and source the host delivers is queued with both (R199, R201). -/
theorem State.takeJob_of_buffer {cb : Bytes} {chain : List (Nat × Nat × Bool)} (hop : field (wordAt ws 0) 63 56 = 1)
    (h42 : bitOf (wordAt ws 0) 42 = true) (hc : hostRead host (wordAt ws 3) (16 * field (wordAt ws 2) 47 40) = some cb)
    (hchain : chainOf (field (wordAt ws 2) 47 40) cb = some chain) :
    s.takeJob r lane ws host poison =
      s.jobNumbered.queueJob r l { id := s.press.nextJob, words := ws, source := source, chain := chain } := by
  simp [State.takeJob, State.fetch, hfields, hlengths, hop, hl, h41, h42, hc, hchain, hs, State.jobNumbered]

/-- An ENCODE_BAND job that passes its validation is queued with its source, its page and the bytes it reserves (R202). -/
theorem State.takeJob_of_band (hop : field (wordAt ws 0) 63 56 = 2) (hstatus : s.bandStatus ws = 0)
    (hcount : field (wordAt ws 2) 47 40 = 0) :
    s.takeJob r lane ws host poison = s.jobNumbered.queueJob r l
      { id := s.press.nextJob, words := ws, source := source, page := (s.placeOf (field (wordAt ws 0) 31 16)).getD 0 + 1,
        reserved := blockBound source.length } := by
  simp [State.takeJob, State.fetch, hfields, hlengths, hop, hstatus, hl, hcount, chainOf, h41, hs, State.jobNumbered]

end

/-! ## A job ends -/

/-- The verify decoder's stalls are counted at an encode lane (R192, R209). -/
def State.encodeStalled (s : State) (lane stalls : Nat) : State :=
  s.setLane (0x80 + lane) { s.lane (0x80 + lane) with stalls := ((s.lane (0x80 + lane)).stalls + stalls) % 2 ^ 64 }

/-- A job's blocks, its bytes and its stalls are counted at its encode lane (R200, R209). -/
def State.encodeEnded (s : State) (lane stalls : Nat) (out : Nat × Nat) : State :=
  (s.encodeStalled lane stalls).setLane (0x80 + lane) { s.lane (0x80 + lane) with
    blocks := ((s.lane (0x80 + lane)).blocks + out.1) % 2 ^ 32, bytes := ((s.lane (0x80 + lane)).bytes + out.2) % 2 ^ 64,
    stalls := ((s.lane (0x80 + lane)).stalls + stalls) % 2 ^ 64 }

/-- An encode lane in service is at work on a job of a ring. -/
def State.Encodes (s : State) (lane r : Nat) (j : Job) : Prop :=
  1 ≤ lane ∧ lane ≤ 8 ∧ s.laneServes (0x80 + lane) = true ∧ (s.inWork lane).bind s.jobRing = some (r, j)

theorem execEncodeJobComplete_of_idle {s : State} {lane : Nat} (h : s.inWork lane = none) (writeOk : Bool) (stalls : Nat) :
    execEncodeJobComplete lane true writeOk stalls s = .next s := by
  simp [execEncodeJobComplete, h]

section
variable {s : State} {lane r : Nat} {j : Job} (h : s.Encodes lane r j) (writeOk : Bool) (stalls : Nat)
include h

/-- A job that the lane cannot verify takes the lane out of service (R197). -/
theorem execEncodeJobComplete_of_mismatch : execEncodeJobComplete lane false writeOk stalls s =
    .next ((s.encodeStalled lane stalls).mismatch lane) := by
  obtain ⟨h1, h8, hserves, hj⟩ := h
  simp [execEncodeJobComplete, h1, h8, hserves, hj, State.encodeStalled]

/-- A job that is verified ends by its kind (R199, R202). -/
theorem execEncodeJobComplete_of_verified : execEncodeJobComplete lane true writeOk stalls s =
    .next (if j.page = 0 then (s.encodeEnded lane stalls (s.jobOutput j writeOk)).endBuffer r lane j writeOk
      else (s.encodeEnded lane stalls (s.jobOutput j writeOk)).endBand r lane j) := by
  obtain ⟨h1, h8, hserves, hj⟩ := h
  simp [execEncodeJobComplete, h1, h8, hserves, hj, State.encodeEnded, State.encodeStalled]

end

/-- The lane of an ENCODE_BAND job has always put out one block (R200). -/
theorem State.jobOutput_of_band {j : Job} (hj : j.page ≠ 0) (s : State) (writeOk : Bool) : (s.jobOutput j writeOk).1 = 1 := by
  simp [State.jobOutput, hj]

/-! ## Archive streams -/

/-- Bytes that are given to the last part of a stream's open block follow all its bytes (R205). -/
theorem flatten_dropLast_append_getLast (parts : List Bytes) (data : Bytes) :
    (parts.dropLast ++ [parts.getLast?.getD [] ++ data]).flatten = parts.flatten ++ data := by
  obtain rfl | ⟨front, last, rfl⟩ := parts.eq_nil_or_concat <;> simp

/-- The parts of a stream's open block after a flush: what comes next goes to a new part (R205). -/
def Stream.flushed (g : Stream) : List Bytes := (if g.parts.isEmpty then [[]] else g.parts) ++ [[]]

theorem Stream.flatten_flushed (g : Stream) : g.flushed.flatten = g.parts.flatten := by
  unfold Stream.flushed
  split
  · next hp => simp [List.isEmpty_iff.mp hp]
  · simp

section
variable {s : State} {k : Nat}

theorem execStreamFlush_of_fed (h : s.streamFed k = true) :
    execStreamFlush k s = .next (s.setStream k { s.stream k with parts := (s.stream k).flushed }) := if_pos h

theorem execStreamClose_of_fed (h : s.streamFed k = true) : execStreamClose k s = .next (s.closeStream k) := if_pos h

theorem execStreamInput_of_not_turn (h : s.streamTurn k = false) : execStreamInput k s = .next s := by
  simp [execStreamInput, h]

/-- A stream that is not fed is left by its three commands (R206). -/
theorem execStream_of_not_fed (h : s.streamFed k = false) :
    execStreamInput k s = .next s ∧ execStreamFlush k s = .next s ∧ execStreamClose k s = .next s := by
  simp [execStreamInput, execStreamFlush, execStreamClose, h]

/-- Input that leaves room in the open block of a stream joins its last part (R205). -/
theorem State.feedStream_of_room {data : Bytes} (h : (s.stream k).parts.flatten.length + data.length < 1048576) (fuel : Nat) :
    State.feedStream (fuel + 1) s k data = s.setStream k { s.stream k with
      parts := (s.stream k).parts.dropLast ++ [(s.stream k).parts.getLast?.getD [] ++ data] } := by
  have hroom : data.length < 1048576 - (s.stream k).parts.flatten.length := by omega
  rw [State.feedStream]
  simp only [hroom, if_true, List.take_of_length_le (Nat.le_of_lt hroom)]

/-- The checkpoint archive is fed the entries that wait for it (R205, R460). -/
theorem execStreamInput_of_checkpoint (hf : s.streamFed 1 = true) (ht : s.streamTurn 1 = true) :
    execStreamInput 1 s = .next (State.feedStream ((s.stream 1).waiting.length / 1048576 + 2)
      (s.setStream 1 { s.stream 1 with waiting := [], next := s.ev.sequence }) 1 (s.stream 1).waiting) := by
  simp [execStreamInput, hf, ht]

/-- The bytes of the archive block that the open block of a stream makes (R205, R460). -/
def State.streamBlock (s : State) (k : Nat) : Bytes :=
  let g := s.stream k
  blockBytes (moduleHeader g.parts.flatten (streamBody g.level g.parts) 8 0 0 0 0 0) (streamBody g.level g.parts)

/-- A stream has no open block, and its lane has counted the one that it had (R205, R209; log entry 187). -/
def State.streamCounted (s : State) (k : Nat) : State :=
  let x := s.lane (0x80 + (s.stream k).lane)
  ((s.setStream k { s.stream k with parts := [] }).setLane (0x80 + (s.stream k).lane)
    { x with blocks := (x.blocks + 1) % 2 ^ 32, bytes := (x.bytes + (s.streamBlock k).length) % 2 ^ 64,
             stalls := (x.stalls + Config.verifyStalls s.drawn) % 2 ^ 64 }).draw

/-- A block that holds bytes goes to the stream's archive as it is closed (R205, R460). -/
theorem State.closeStream_of_open (h : (s.stream k).parts.flatten ≠ []) :
    s.closeStream k = (s.streamCounted k).archiveBlock k (s.streamBlock k) := by
  unfold State.closeStream
  dsimp only
  rw [if_neg (by simpa using h)]
  rfl

theorem State.stream_streamCounted (s : State) (k : Nat) : (s.streamCounted k).stream k = { s.stream k with parts := [] } :=
  s.stream_setStream_same k _

theorem State.blocks_streamCounted (s : State) (k : Nat) : ((s.streamCounted k).lane (0x80 + (s.stream k).lane)).blocks =
    ((s.lane (0x80 + (s.stream k).lane)).blocks + 1) % 2 ^ 32 :=
  congrArg Lane.blocks (State.lane_setLane_same ..)

end

end Sys2Proof.Machine

/-- Settles O35: an entry is taken by the row of its opcode and queued as `takeJob_of_buffer` and `takeJob_of_band` say, a
job ends by the two equations of its command, and a stream's commands by those above. -/
theorem encodeAndStreams : Obligations.EncodeAndStreams := by
  unfold Obligations.EncodeAndStreams
  intro lane k stalls r ws host poison writeOk j s
  simp only [exec_encodeBand, exec_encodeBuffer, exec_encodeJobComplete, exec_streamInput, exec_streamFlush, exec_streamClose]
  refine ⟨fun hring he hl hop => ?_, fun hring he hl hop => ?_, fun h1 h8 hserves hj => ?_, fun h1 h8 hserves hj hp => ?_,
    fun h1 h8 hserves hj hp => ?_, fun h => execEncodeJobComplete_of_idle h writeOk stalls,
    fun u l cb source chain hfields hlengths hop hl h41 h42 hc hchain hs =>
      State.takeJob_of_buffer hfields hlengths hl h41 hs poison hop h42 hc hchain,
    fun u l source hfields hlengths hop hstatus hl h41 hcount hs =>
      State.takeJob_of_band hfields hlengths hl h41 hs poison hop hstatus hcount,
    fun hf => ?_, execStreamClose_of_fed, fun hf ht hroom => ?_, execStreamInput_of_not_turn, fun u hu => ?_,
    execStream_of_not_fed⟩
  · exact ⟨execEncodeBand_of_band host poison hring he hl hop, execEncodeBuffer_of_band host poison hop⟩
  · have hother : field (wordAt ws 0) 63 56 ≠ 2 := by omega
    exact ⟨execEncodeBuffer_of_other host poison hring he hl hother, execEncodeBand_of_other host poison hother⟩
  · refine ⟨s.encodeStalled lane stalls, execEncodeJobComplete_of_mismatch ⟨h1, h8, hserves, hj⟩ writeOk stalls, ?_, rfl, rfl⟩
    exact congrArg Lane.stalls (State.lane_setLane_same ..)
  · refine ⟨s.encodeEnded lane stalls (s.jobOutput j writeOk), ?_, ?_⟩
    · rw [execEncodeJobComplete_of_verified ⟨h1, h8, hserves, hj⟩, if_pos hp]
    · rw [State.encodeEnded, State.lane_setLane_same]
      exact ⟨rfl, rfl, rfl⟩
  · refine ⟨s.encodeEnded lane stalls (s.jobOutput j writeOk), ?_, ?_⟩
    · rw [execEncodeJobComplete_of_verified ⟨h1, h8, hserves, hj⟩, if_neg hp]
    · rw [State.encodeEnded, State.lane_setLane_same, State.jobOutput_of_band hp]
  · refine ⟨_, execStreamFlush_of_fed hf, ?_, ?_, fun m hm => s.stream_setStream_ne _ hm⟩
    · rw [State.stream_setStream_same]
      exact List.getLast?_concat
    · rw [State.stream_setStream_same]
      exact (s.stream k).flatten_flushed
  · refine ⟨_, execStreamInput_of_checkpoint hf ht, ?_⟩
    rw [State.feedStream_of_room (by rwa [State.stream_setStream_same]), State.stream_setStream_same, State.stream_setStream_same]
    exact ⟨rfl, rfl, flatten_dropLast_append_getLast ..⟩
  · exact ⟨u.streamCounted k, u.streamBlock k, State.closeStream_of_open hu, congrArg Stream.parts (u.stream_streamCounted k),
      u.blocks_streamCounted k⟩
end

section
/-! PROOFS. The canonical form of the dictionary and of the two memories over a step, and the memories read back
(R213, R214, R229, R271). -/

open Sys2Proof Sys2Proof.Machine

namespace Sys2Proof.Machine

theorem State.sound_idle {s : State} (h : s.Sound) : s.idle.Sound :=
  (State.idle_keeps (m := Area.mask everything) rfl (Keeps.refl _ _)).sound h

end Sys2Proof.Machine

/-- Settles O5: an empty queue lets the grid run, and a queue of commands takes its front; both keep the canonical form, of
which the queue is no part. -/
theorem stepKeepsSound : Obligations.StepKeepsSound := by
  unfold Obligations.StepKeepsSound
  intro s t hs h
  unfold step at h
  split at h
  · cases h
    exact State.sound_idle hs
  · exact (exec_keeps_touches _ _ t h).sound hs

/-- Settles O48: a written run of bytes reads back, every key outside it reads as before, and a write of one memory names
the other nowhere. -/
theorem memoryReadsBack : Obligations.MemoryReadsBack := by
  unfold Obligations.MemoryReadsBack
  intro address b s
  refine ⟨dram_dramWrite s address b, fun a ha => ?_, rfl, memory_wf_dramWrite s address b, Tab.read_write .., fun a ha => ?_, rfl,
    memory_wf_hostWrite s address b⟩
  · rw [get_dramWrite, dif_neg (by omega)]
  · rw [get_hostWrite, dif_neg (by omega)]
end

section
/-! PROOFS. What the ends of Ladle jobs and the stop of the Ladle leave of the fabric, and paced bursts (R227, R236 to R238;
log entry 74). -/

open Sys2Proof Sys2Proof.Machine

namespace Sys2Proof.Machine

/-! ## Readings of the fabric -/

theorem State.ladleJob_of_fabric {s t : State} (h : t.fabric = s.fabric) (ch : Nat) : t.ladleJob ch = s.ladleJob ch := by
  rw [State.ladleJob, h, State.ladleJob]

theorem State.lock_of_fabric {s t : State} (h : t.fabric = s.fabric) (n : Nat) : t.lock n = s.lock n := by
  rw [State.lock, h, State.lock]

/-! ## A completion -/

/-- A completion is written to the ring, which is no part of the fabric (R255). -/
theorem State.fabric_completeInPlace (s : State) (r entry w6 w7 : Nat) : (s.completeInPlace r entry w6 w7).fabric = s.fabric := by
  have h : Keeps (Area.mask [.timers, .rings, .trust]) s (s.completeInPlace r entry w6 w7) :=
    State.completeInPlace_keeps rfl (Keeps.refl _ _)
  exact State.fabric_eq_of_same (h.same_of_notMem (by decide)) (h.same_of_notMem (by decide)) (h.same_of_notMem (by decide))

theorem State.fabric_completeLadle (s : State) (ch : Nat) (j : LadleJob) (status w7 : Nat) :
    (s.completeLadle ch j status w7).fabric = (s.setLadleJob ch none).fabric := State.fabric_completeInPlace ..

theorem State.ladleJob_completeLadle (s : State) (ch : Nat) (j : LadleJob) (status w7 : Nat) :
    (s.completeLadle ch j status w7).ladleJob ch = none := by
  rw [State.ladleJob_of_fabric (s.fabric_completeLadle ..), State.ladleJob_setLadleJob_same]

theorem State.lock_completeLadle (s : State) (ch : Nat) (j : LadleJob) (status w7 n : Nat) :
    (s.completeLadle ch j status w7).lock n = s.lock n := by
  rw [State.lock_of_fabric (s.fabric_completeLadle ..), State.lock_setLadleJob]

/-! ## The end of jobs where no channel waits for a lock -/

/-- From s to t the jobs of the channels chs have ended, and of the fabric only locks and jobs have changed. -/
def State.EndsJobs (chs : List Nat) (s t : State) : Prop :=
  (∃ locks jobs, t.fabric = { s.fabric with locks := locks, jobs := jobs }) ∧
    ∀ c, t.ladleJob c = if c ∈ chs then none else s.ladleJob c

theorem State.EndsJobs.refl (s : State) : State.EndsJobs [] s s := ⟨⟨_, _, rfl⟩, fun _ => rfl⟩

theorem State.EndsJobs.lockQueue {chs : List Nat} {s t : State} (h : State.EndsJobs chs s t) :
    t.fabric.lockQueue = s.fabric.lockQueue := by
  obtain ⟨⟨_, _, hf⟩, _⟩ := h
  rw [hf]

theorem State.EndsJobs.trans {a b : List Nat} {s t u : State} (h : State.EndsJobs a s t) (k : State.EndsJobs b t u) :
    State.EndsJobs (a ++ b) s u := by
  obtain ⟨⟨_, _, hf⟩, hj⟩ := h
  obtain ⟨⟨_, _, kf⟩, kj⟩ := k
  refine ⟨⟨_, _, kf.trans (by rw [hf])⟩, fun c => ?_⟩
  rw [kj, hj]
  by_cases ha : c ∈ a <;> simp [ha]

theorem State.EndsJobs.each {f : State → Nat → State} {g : Nat → List Nat}
    (hf : ∀ t x, t.fabric.lockQueue = [] → State.EndsJobs (g x) t (f t x)) (l : List Nat) {s : State} (hq : s.fabric.lockQueue = []) :
    State.EndsJobs (l.flatMap g) s (s.each l f) := by
  induction l generalizing s with
  | nil => exact .refl s
  | cons x l ih =>
    have hx := hf s x hq
    exact hx.trans (ih (hx.lockQueue.trans hq))

section
variable {s : State} (hq : s.fabric.lockQueue = [])
include hq

theorem State.waiters_of_no_queue (n : Nat) : s.waiters n = [] := by
  rw [State.waiters, hq, List.filter_nil]

theorem State.breakLock_endsJobs (n : Nat) : State.EndsJobs [] s (s.breakLock n) := by
  rw [State.breakLock, State.passLock_of_no_waiter (State.waiters_of_no_queue (by exact hq) n)]
  exact ⟨⟨_, _, rfl⟩, fun _ => rfl⟩

theorem State.breakLocks_endsJobs (owner : Nat) : State.EndsJobs [] s (s.breakLocks owner) := by
  have h := State.EndsJobs.each (f := fun t n => if (t.lock n).owner = owner then t.breakLock n else t) (g := fun _ => [])
    (fun t n ht => by
      split
      · exact State.breakLock_endsJobs ht n
      · exact .refl t) (upFrom 0 32) hq
  rwa [List.flatMap_eq_nil_iff.mpr fun _ _ => rfl] at h

theorem State.fabric_unwait_of_no_queue (ch : Nat) : (s.unwait ch).fabric = s.fabric :=
  calc (s.unwait ch).fabric = { s.fabric with lockQueue := s.fabric.lockQueue.filter (fun c => c != ch) } := rfl
    _ = { s.fabric with lockQueue := s.fabric.lockQueue } := by rw [hq]; rfl
    _ = s.fabric := rfl

end

theorem State.completeLadle_endsJobs (s : State) (ch : Nat) (j : LadleJob) (status w7 : Nat) :
    State.EndsJobs [ch] s (s.completeLadle ch j status w7) := by
  refine ⟨⟨_, _, s.fabric_completeLadle ch j status w7⟩, fun c => ?_⟩
  rw [State.ladleJob_of_fabric (s.fabric_completeLadle ..)]
  by_cases hc : c = ch
  · simp [hc]
  · simp [hc, State.ladleJob_setLadleJob_ne s _ hc]

/-- The job of one channel completes and its locks break, as `endLadleJobs` has it for each (R227, R238). -/
def State.endLadleJob (s : State) (status address ch : Nat) : State :=
  match s.ladleJob ch with
  | some j => ((s.unwait ch).completeLadle ch j status (if status = 0x0A then address else s.stamp)).breakLocks (ladleOwner ch)
  | none => s

theorem State.endLadleJobs_eq (s : State) (status address : Nat) : s.endLadleJobs status address =
    { s with fabric := { s.fabric with lockQueue := [] } }.each (upFrom 1 16) (fun t ch => t.endLadleJob status address ch) := rfl

theorem State.endLadleJob_endsJobs {s : State} (hq : s.fabric.lockQueue = []) (status address ch : Nat) :
    State.EndsJobs [ch] s (s.endLadleJob status address ch) := by
  unfold State.endLadleJob
  split
  · next j _ =>
    have hw : State.EndsJobs [] s (s.unwait ch) :=
      ⟨⟨_, _, State.fabric_unwait_of_no_queue hq ch⟩, State.ladleJob_of_fabric (State.fabric_unwait_of_no_queue hq ch)⟩
    have hc := hw.trans (State.completeLadle_endsJobs _ ch j status (if status = 0x0A then address else s.stamp))
    exact hc.trans (State.breakLocks_endsJobs (hc.lockQueue.trans hq) _)
  · next hnone =>
    refine ⟨⟨_, _, rfl⟩, fun c => ?_⟩
    by_cases hc : c = ch
    · simp [hc, hnone]
    · simp [hc]

/-- Every job ends, no channel waits for a lock, and the rest of the fabric but its locks stays (R227, R238). -/
theorem State.endLadleJobs_endsJobs (s : State) (status address : Nat) :
    State.EndsJobs (upFrom 1 16) { s with fabric := { s.fabric with lockQueue := [] } } (s.endLadleJobs status address) := by
  have h := State.EndsJobs.each (g := fun ch => [ch]) (fun t ch ht => State.endLadleJob_endsJobs ht status address ch) (upFrom 1 16)
    (s := { s with fabric := { s.fabric with lockQueue := [] } }) rfl
  rwa [List.flatMap_singleton' (upFrom 1 16)] at h

/-! ## The stop of the Ladle -/

section
variable (s : State) (kind address : Nat)

theorem State.stopLadle_endsJobs :
    State.EndsJobs (upFrom 1 16) { s with fabric := { s.fabric with lockQueue := [] } } (s.stopLadle kind address) := by
  obtain ⟨⟨locks, jobs, hf⟩, hj⟩ := s.endLadleJobs_endsJobs 0x0A address
  have h : (s.stopLadle kind address).fabric = (s.endLadleJobs 0x0A address).fabric := by
    rw [State.stopLadle, State.fault_eq, State.detect_fabric, State.haltLadle, State.event_fabric, State.setn_eq, State.put_fabric,
      State.setn_eq, State.put_fabric]
  exact ⟨⟨locks, jobs, h.trans hf⟩, fun c => (State.ladleJob_of_fabric h c).trans (hj c)⟩

theorem State.lockQueue_stopLadle : (s.stopLadle kind address).fabric.lockQueue = [] := (s.stopLadle_endsJobs kind address).lockQueue

theorem State.ladleJob_stopLadle {c : Nat} (h1 : 1 ≤ c) (h16 : c ≤ 16) : (s.stopLadle kind address).ladleJob c = none := by
  rw [(s.stopLadle_endsJobs kind address).2 c, if_pos (mem_upFrom.mpr ⟨h1, by omega⟩)]

theorem State.n_stopLadle {k : Nat} (hk : k ≠ K 0x2220 5) : (s.stopLadle kind address).n k = (s.haltLadle address).n k := by
  rw [State.stopLadle, State.fault_eq, State.n_detect _ _ hk]

/-- `Ladle state` reads STOPPED (R238). -/
theorem State.stopped_stopLadle : (s.stopLadle kind address).n (K 0x3810 0x11) = 1 := by
  rw [State.n_stopLadle _ _ _ (by decide), State.haltLadle, State.n_event, State.setn_eq, State.setn_eq, State.n_put_ne _ _ (by decide)]
  exact State.n_put_same ..

/-- `Stop address` holds the address of the error (R238). -/
theorem State.stopAddress_stopLadle : (s.stopLadle kind address).n (K 0x3810 0x12) = address := by
  rw [State.n_stopLadle _ _ _ (by decide), State.haltLadle, State.n_event, State.setn_eq]
  exact State.n_put_same ..

theorem State.sent_stopLadle : (s.stopLadle kind address).Sent 0x78 kind address := by
  rw [State.sent_iff, State.stopLadle, State.fault_eq, State.detect_words]
  simp

/-- A detected fault adds to what the recorder holds and takes nothing from it. -/
theorem State.mem_held_detect {s : State} {r : Rec} (h : r ∈ s.ev.held) (w : Nat) : r ∈ (s.detect w).ev.held := by
  unfold State.detect State.spendInjection
  dsimp only
  split
  · split
    · exact h
    · exact List.mem_append_left _ h
  · exact h

theorem State.logged_stopLadle : (s.stopLadle kind address).Logged 98 (1 + address % 2 ^ 48 * 65536) := by
  have h : (s.haltLadle address).Logged 98 (1 + address % 2 ^ 48 * 65536) := by
    rw [State.haltLadle]
    exact State.logged_event ..
  rw [State.stopLadle, State.fault_eq]
  exact State.logged_of_held h (State.detect_stamp ..) fun _ hr => State.mem_held_detect hr _

end

theorem execLadleBusError_of_running {s : State} {kind : Nat} (hon : s.on 7 = true) (hrun : s.n (K 0x3810 0x11) = 0)
    (hk : kind = 2 ∨ kind = 4 ∨ kind = 5) (address : Nat) : execLadleBusError kind address s =
      .next ((if kind = 4 then s.fault 0x7B 4 address else s).stopLadle kind address) := by
  have hn : s.n (ladk 0x11) = 0 := hrun
  unfold execLadleBusError
  rw [if_pos]
  rcases hk with rfl | rfl | rfl <;> simp [hon, hn]

theorem execLadleBusError_of_stopped {s : State} (h : s.n (K 0x3810 0x11) ≠ 0) (kind address : Nat) :
    execLadleBusError kind address s = .next s := by
  have hn : s.n (ladk 0x11) ≠ 0 := h
  simp [execLadleBusError, hn]

/-! ## Paced bursts -/

section
variable {s : State} {ch : Nat} {j : LadleJob} (hj : s.ladleJob ch = some j)
include hj

theorem execLadlePaceRequest_of_due (hp : j.flag 3 = true) (hw : j.waiting = false) (hf : j.finished = false)
    (hsrc : j.paceSource = 1) (hd : s.due (tmPace ch) = true) : execLadlePaceRequest ch s =
      .next ((s.arm (tmPace ch) (nextRequest s.stamp (s.deadline (tmPace ch)) j.period)).advanceJob ch j.burst) := by
  simp [execLadlePaceRequest, hj, hp, hw, hf, hsrc, hd]

theorem execLadlePaceRequest_of_not_due (hsrc : j.paceSource = 1) (hd : s.due (tmPace ch) = false) :
    execLadlePaceRequest ch s = .next s := by
  simp [execLadlePaceRequest, hj, hsrc, hd]

theorem execLadlePaceRequest_of_active (hp : j.flag 3 = true) (hw : j.waiting = false) (hf : j.finished = false)
    (hsrc : j.paceSource ≠ 1) (hi : s.paceInput j.paceSource = true) :
    execLadlePaceRequest ch s = .next (s.advanceJob ch j.burst) := by
  simp [execLadlePaceRequest, hj, hp, hw, hf, hsrc, hi]

theorem execLadlePaceRequest_of_inactive (hsrc : j.paceSource ≠ 1) (hi : s.paceInput j.paceSource = false) :
    execLadlePaceRequest ch s = .next s := by
  simp [execLadlePaceRequest, hj, hsrc, hi]

end

end Sys2Proof.Machine

/-- Settles O47: the pace requests by their four equations, and the stop by what ending every job leaves: with no channel
waiting, a broken lock passes to none. That EV098 names channel 0 is log entry 74. -/
theorem ladleStops : Obligations.LadleStops := by
  unfold Obligations.LadleStops
  intro ch kind address j s
  simp only [exec_ladlePaceRequest, exec_ladleBusError]
  refine ⟨fun hj hp hw hf => execLadlePaceRequest_of_due hj hp hw hf, fun hj => execLadlePaceRequest_of_not_due hj,
    fun hj hp hw hf => execLadlePaceRequest_of_active hj hp hw hf, fun hj => execLadlePaceRequest_of_inactive hj,
    fun hon hrun hk => ?_, fun h => execLadleBusError_of_stopped h kind address⟩
  obtain ⟨u, hu, hwindow⟩ : ∃ u, (if kind = 4 then s.fault 0x7B 4 address else s) = u ∧ u.fabric.window = s.fabric.window :=
    ⟨_, rfl, by split <;> simp⟩
  have hexec := hu ▸ execLadleBusError_of_running hon hrun hk address
  obtain ⟨⟨_, _, hf⟩, _⟩ := u.stopLadle_endsJobs kind address
  exact ⟨_, hexec, u.stopped_stopLadle kind address, u.stopAddress_stopLadle kind address,
    fun c h1 h16 => u.ladleJob_stopLadle kind address h1 h16, u.lockQueue_stopLadle kind address, u.sent_stopLadle kind address,
    u.logged_stopLadle kind address, by rw [hf]; exact hwindow⟩
end

section
/-! PROOFS. How the Ladle takes, moves and completes its jobs (R228 to R240; log entries 58 and 73). -/

open Sys2Proof Sys2Proof.Machine

namespace Sys2Proof.Machine

/-! ## An entry that cannot be read -/

section
variable (s : State) (r slot : Nat)

theorem State.fabric_entryFails : (s.entryFails r slot).fabric = s.fabric := by
  simp [State.entryFails, State.hostFault, State.ringEvent, State.ringError]

theorem State.state_entryFails : ((s.entryFails r slot).ring r).state = 3 := by
  have h : (s.entryFails r slot).rings = (s.ringError r).rings := by
    simp [State.entryFails, State.hostFault, State.ringEvent]
  rw [State.ring, h]
  exact congrArg Ring.state (State.ring_setRing_same ..)

theorem State.sent_entryFails : (s.entryFails r slot).Sent 0x7A 5 r := by
  simp [State.sent_iff, State.entryFails, State.hostFault, State.ringEvent]

end

/-! ## The next entry of a channel's ring -/

/-- One more entry of an in-place ring is open: HEAD has not passed it (R228, R255). -/
abbrev State.openedEntry (s : State) (r : Nat) : State := s.setRing r { s.ring r with open_ := (s.ring r).open_ + 1 }

section
variable {s : State} {ch : Nat} (ht : s.channelTakes ch = true) (hs : (s.ring (ch - 1)).state = 1)
  (ho : (s.ring (ch - 1)).open_ < (s.ring (ch - 1)).used) (hl : s.linkUp = true)
include ht hs ho hl

/-- The job of a channel's next entry goes into validation, and HEAD stands (R228). -/
theorem execCopyList_of_own {ws : List Nat} (hop : LadleJob.opcode { words := ws } = 1) (host : HostMem) :
    execCopyList ch (some ws) host s =
      .next ((s.openedEntry (ch - 1)).takeLadleJob ch (s.ring (ch - 1)).nextTaken ws host) := by
  have hentry : entryOpcode (some ws) = some 1 := congrArg some hop
  rw [execCopyList, if_pos (by simp [ht, hentry]), State.readInPlace_of_open hs ho hl]

theorem execCopyIndex_of_own {ws : List Nat} (hop : LadleJob.opcode { words := ws } = 2) (host : HostMem) :
    execCopyIndex ch (some ws) host s =
      .next ((s.openedEntry (ch - 1)).takeLadleJob ch (s.ring (ch - 1)).nextTaken ws host) := by
  have hentry : entryOpcode (some ws) = some 2 := congrArg some hop
  rw [execCopyIndex, if_pos (by simp [ht, hentry]), State.readInPlace_of_open hs ho hl]

theorem execFenceOnly_of_other {ws : List Nat} (h1 : LadleJob.opcode { words := ws } ≠ 1) (h2 : LadleJob.opcode { words := ws } ≠ 2)
    (host : HostMem) : execFenceOnly ch (some ws) host s =
      .next ((s.openedEntry (ch - 1)).takeLadleJob ch (s.ring (ch - 1)).nextTaken ws host) := by
  have hentry : entryOpcode (some ws) = some (LadleJob.opcode { words := ws }) := rfl
  rw [execFenceOnly, if_pos (by simp [ht, hentry, h1, h2]), State.readInPlace_of_open hs ho hl]

theorem execFenceOnly_of_unreadable (host : HostMem) :
    execFenceOnly ch none host s = .next (s.entryFails (ch - 1) (s.ring (ch - 1)).nextTaken) := by
  simp [execFenceOnly, entryOpcode, State.readInPlace, ht, hs, ho, hl]

end

/-! ## A job goes on -/

theorem LadleJob.transfers_of_fence {j : LadleJob} (h : j.opcode = 0) : j.transfers = 0 := by
  simp [LadleJob.transfers, h]

/-- A copy whose count is in range has a transfer to make (R230, R231). -/
theorem LadleJob.transfers_ne_zero {j : LadleJob} (hc : j.countBad = false) (h : j.opcode = 1 ∨ j.opcode = 2) : j.transfers ≠ 0 := by
  rcases h with h | h
  · have h2 : 2 ≤ j.count := by
      simp only [LadleJob.countBad, h, Bool.or_eq_false_iff, decide_eq_false_iff_not] at hc
      omega
    simp only [LadleJob.transfers, h, if_true]
    omega
  · simp only [LadleJob.countBad, h, Bool.or_eq_false_iff, beq_eq_false_iff_ne] at hc
    simpa [LadleJob.transfers, h] using hc.2.2.1

section
variable {s : State} {ch : Nat} {j : LadleJob}

/-- A job whose transfers are all written is finished. -/
theorem State.moveJob_of_all_written (hf : j.finished = false) (hl : j.left = []) (hn : j.next = j.transfers) (fuel budget : Nat) :
    State.moveJob (fuel + 1) s ch j budget = (s, .ok { j with finished := true }) := by
  simp [State.moveJob, hf, hl, hn]

theorem State.dram_of_window {t : State} (h : t.fabric.window = s.fabric.window) (a n : Nat) : t.dram a n = s.dram a n := by
  rw [State.dram, h, State.dram]

/-- A part for the host window that no uncorrectable granule blocks is written whole (R215, R229). -/
theorem State.writePart_of_unblocked {a : Nat} {b : Bytes} (h : s.writeBlocked a b.length = none) : s.writePart ch false a b =
    (((s.dramWrite a b).touchRange (s.channelInput ch) a b.length).channelGrants ch a b.length, none) := by
  simp [State.writePart, State.store, h]

theorem State.dram_writePart_of_unblocked {a : Nat} {b : Bytes} (h : s.writeBlocked a b.length = none) :
    (s.writePart ch false a b).1.dram a b.length = b := by
  rw [State.writePart_of_unblocked h]
  exact (State.dram_of_window (s := s.dramWrite a b) (State.touchRange_sameBytes ..).1 ..).trans (dram_dramWrite s a b)

/-- The rest of an upward transfer to the host window is written in one part where the budget covers it (R230). -/
theorem State.moveJob_of_rest (hf : j.finished = false) (hne : j.left ≠ []) {budget : Nat} (hb : j.left.length ≤ budget)
    (hd : j.down = false) (hu : s.writeBlocked (j.dest + (j.size - j.left.length)) j.left.length = none)
    (hh : j.destHost = false) (fuel : Nat) : State.moveJob (fuel + 1) s ch j budget =
      State.moveJob fuel (s.writePart ch false (j.dest + (j.size - j.left.length)) j.left).1 ch
        { j with left := [], done := j.done + j.size } (budget - j.left.length) := by
  have hpos := List.length_pos_iff.mpr hne
  have hbudget : budget ≠ 0 := by omega
  rw [State.moveJob]
  simp [hf, hne, hbudget, hd, hh, Nat.min_eq_right hb, State.writePart_of_unblocked hu]

/-- A channel's job reads as it was set where the jobs stand since. -/
theorem State.ladleJob_of_set {s t : State} {ch : Nat} {x : Option LadleJob} (h : t.fabric.jobs = (s.setLadleJob ch x).fabric.jobs) :
    t.ladleJob ch = x := by
  rw [State.ladleJob, h]
  exact s.ladleJob_setLadleJob_same ch x

theorem State.ladleJob_takeLock (s : State) (n owner c : Nat) : (s.takeLock n owner).ladleJob c = s.ladleJob c := by
  unfold State.takeLock
  dsimp only
  split <;> rfl

section
variable (hj : s.ladleJob ch = some j)
include hj

theorem State.advanceJob_of_ok {budget : Nat} {t : State} {x : LadleJob}
    (hm : State.moveJob (2 * j.transfers + 2) s ch j budget = (t, .ok x)) : s.advanceJob ch budget = t.setLadleJob ch (some x) := by
  simp only [State.advanceJob, hj, hm]

theorem State.startJob_of_unpaced (hw : j.waiting = false) (h : j.flag 3 = false ∨ j.transfers = 0) :
    s.startJob ch = s.advanceJob ch (2 ^ 64) := by
  rcases h with h | h <;> simp [State.startJob, hj, hw, h]

/-- A job that its timer paces waits for the first of its periods (R237). -/
theorem State.startJob_of_timed (hw : j.waiting = false) (hp : j.flag 3 = true) (ht : j.transfers ≠ 0) (hsrc : j.paceSource = 1) :
    s.startJob ch = s.after (tmPace ch) j.period := by
  simp [State.startJob, hj, hw, hp, ht, hsrc]

/-- A job with no transfer to make is finished at once (R234). -/
theorem State.startJob_of_fence (hw : j.waiting = false) (hf : j.finished = false) (hl : j.left = []) (hn : j.next = 0)
    (h0 : j.transfers = 0) : s.startJob ch = s.setLadleJob ch (some { j with finished := true }) := by
  rw [State.startJob_of_unpaced hj hw (.inr h0)]
  exact State.advanceJob_of_ok hj (State.moveJob_of_all_written hf hl (hn.trans h0.symm) _ _)

/-- The job of a channel that takes a lock waits no more, and knows whether the lock was broken (R227, R236). -/
theorem State.ladleJob_grantLock (n : Nat) :
    (s.grantLock ch n).ladleJob ch = some { j with waiting := false, brokenSeen := (s.lock n).broken } := by
  rw [State.grantLock, hj]
  exact (State.ladleJob_takeLock ..).trans (State.ladleJob_of_set (s := s) rfl)

theorem State.owner_grantLock (n : Nat) : ((s.grantLock ch n).lock n).owner = ladleOwner ch := by
  rw [State.grantLock, hj]
  exact State.owner_takeLock ..

end

end

/-! ## The validation of jobs -/

/-- The job that an entry of a channel's ring makes (R229). -/
abbrev LadleJob.ofEntry (ws : List Nat) (e : Nat) (host : HostMem) : LadleJob := { words := ws, entry := e, host := host }

/-- The job of a channel begins to wait for its lock (R236). -/
def State.awaitLock (s : State) (ch : Nat) (j : LadleJob) : State :=
  let s1 := s.setLadleJob ch (some { j with waiting := true })
  { s1 with fabric := { s1.fabric with lockQueue := s1.fabric.lockQueue ++ [ch] } }.after (tmLockWait ch) (s.n (ladk 0x13) * 1000000)

theorem State.ladleJob_awaitLock (s : State) (ch : Nat) (j : LadleJob) :
    (s.awaitLock ch j).ladleJob ch = some { j with waiting := true } :=
  State.ladleJob_of_set (s := s) rfl

/-- A job passes the validation (R229, R239, R240). -/
def State.jobValid (s : State) (j : LadleJob) : Prop :=
  j.fieldsBad = false ∧ j.countBad = false ∧ (j.opcode ≠ 2 ∨ s.pagesInFlight = 0)

theorem State.jobValid_of_fence {s : State} {j : LadleJob} (hf : j.fieldsBad = false) (hc : j.countBad = false) (h : j.opcode = 0) :
    s.jobValid j := ⟨hf, hc, by omega⟩

theorem State.jobValid_of_copy {s : State} {j : LadleJob} (hf : j.fieldsBad = false) (hc : j.countBad = false)
    (h : j.opcode = 1 ∨ j.opcode = 2 ∧ s.pagesInFlight = 0) : s.jobValid j := ⟨hf, hc, by omega⟩

section
variable {s : State} {ch e : Nat} {ws : List Nat} {host : HostMem}

theorem State.takeLadleJob_of_fieldsBad (h : (LadleJob.ofEntry ws e host).fieldsBad = true) :
    s.takeLadleJob ch e ws host = s.completeLadle ch (.ofEntry ws e host) 0x01 s.stamp := if_pos h

theorem State.takeLadleJob_of_countBad (hf : (LadleJob.ofEntry ws e host).fieldsBad = false)
    (h : (LadleJob.ofEntry ws e host).countBad = true) :
    s.takeLadleJob ch e ws host = s.completeLadle ch (.ofEntry ws e host) 0x02 s.stamp := by
  simp [State.takeLadleJob, hf, h]

theorem State.takeLadleJob_of_pages (hf : (LadleJob.ofEntry ws e host).fieldsBad = false)
    (hc : (LadleJob.ofEntry ws e host).countBad = false) (hop : (LadleJob.ofEntry ws e host).opcode = 2) (hp : s.pagesInFlight ≠ 0) :
    s.takeLadleJob ch e ws host = s.completeLadle ch (.ofEntry ws e host) 0x03 s.stamp := by
  simp [State.takeLadleJob, hf, hc, hop, hp]

section
variable (hv : s.jobValid (.ofEntry ws e host))
include hv

theorem State.takeLadleJob_of_valid : s.takeLadleJob ch e ws host =
    if (LadleJob.ofEntry ws e host).flag 2 then
      if (s.lock (LadleJob.ofEntry ws e host).lockNumber).owner = 0 then
        ((s.setLadleJob ch (some (.ofEntry ws e host))).grantLock ch (LadleJob.ofEntry ws e host).lockNumber).startJob ch
      else
        s.awaitLock ch (.ofEntry ws e host)
    else (s.setLadleJob ch (some (.ofEntry ws e host))).startJob ch := by
  obtain ⟨hf, hc, hpages⟩ := hv
  have h : ¬ ((LadleJob.ofEntry ws e host).opcode = 2 ∧ s.pagesInFlight ≠ 0) :=
    fun ⟨hop, hne⟩ => hpages.elim (fun h2 => h2 hop) hne
  rw [State.takeLadleJob]
  simp only [hf, hc, h, Bool.false_eq_true, if_false]
  rfl

theorem State.takeLadleJob_of_unlocked (hlock : (LadleJob.ofEntry ws e host).flag 2 = false) :
    s.takeLadleJob ch e ws host = (s.setLadleJob ch (some (.ofEntry ws e host))).startJob ch := by
  rw [State.takeLadleJob_of_valid hv, if_neg (by simp [hlock])]

theorem State.takeLadleJob_of_free_lock (hlock : (LadleJob.ofEntry ws e host).flag 2 = true)
    (ho : (s.lock (LadleJob.ofEntry ws e host).lockNumber).owner = 0) : s.takeLadleJob ch e ws host =
      ((s.setLadleJob ch (some (.ofEntry ws e host))).grantLock ch (LadleJob.ofEntry ws e host).lockNumber).startJob ch := by
  rw [State.takeLadleJob_of_valid hv, if_pos hlock, if_pos ho]

/-- A job whose lock is held waits for it, and its `Lock wait limit` runs (R236). -/
theorem State.takeLadleJob_of_held_lock (hlock : (LadleJob.ofEntry ws e host).flag 2 = true)
    (ho : (s.lock (LadleJob.ofEntry ws e host).lockNumber).owner ≠ 0) :
    (s.takeLadleJob ch e ws host).fabric.lockQueue = s.fabric.lockQueue ++ [ch] ∧
      (s.takeLadleJob ch e ws host).ladleJob ch = some { LadleJob.ofEntry ws e host with waiting := true } ∧
      (s.takeLadleJob ch e ws host).armed (tmLockWait ch) = true ∧
      (s.takeLadleJob ch e ws host).fabric.window = s.fabric.window := by
  rw [State.takeLadleJob_of_valid hv, if_pos hlock, if_neg ho]
  exact ⟨rfl, s.ladleJob_awaitLock ch _, State.armed_arm_same .., rfl⟩

/-- A FENCE_ONLY job without a lock is finished at once and moves nothing (R234). -/
theorem State.takeLadleJob_of_fence (hop : (LadleJob.ofEntry ws e host).opcode = 0)
    (hlock : (LadleJob.ofEntry ws e host).flag 2 = false) : s.takeLadleJob ch e ws host =
      (s.setLadleJob ch (some (.ofEntry ws e host))).setLadleJob ch (some { LadleJob.ofEntry ws e host with finished := true }) := by
  rw [State.takeLadleJob_of_unlocked hv hlock]
  exact State.startJob_of_fence (s.ladleJob_setLadleJob_same ch _) rfl rfl rfl rfl (LadleJob.transfers_of_fence hop)

theorem State.owner_takeLadleJob_of_fence (hop : (LadleJob.ofEntry ws e host).opcode = 0)
    (hlock : (LadleJob.ofEntry ws e host).flag 2 = true) (ho : (s.lock (LadleJob.ofEntry ws e host).lockNumber).owner = 0) :
    ((s.takeLadleJob ch e ws host).lock (LadleJob.ofEntry ws e host).lockNumber).owner = ladleOwner ch := by
  rw [State.takeLadleJob_of_free_lock hv hlock ho]
  have hj := s.ladleJob_setLadleJob_same ch (some (.ofEntry ws e host))
  rw [State.startJob_of_fence (State.ladleJob_grantLock hj _) rfl rfl rfl rfl (LadleJob.transfers_of_fence hop),
    State.lock_setLadleJob, State.owner_grantLock hj]

theorem State.takeLadleJob_of_timed_copy (hop : (LadleJob.ofEntry ws e host).opcode = 1 ∨ (LadleJob.ofEntry ws e host).opcode = 2)
    (hlock : (LadleJob.ofEntry ws e host).flag 2 = false) (hp : (LadleJob.ofEntry ws e host).flag 3 = true)
    (hsrc : (LadleJob.ofEntry ws e host).paceSource = 1) : s.takeLadleJob ch e ws host =
      (s.setLadleJob ch (some (.ofEntry ws e host))).after (tmPace ch) (LadleJob.ofEntry ws e host).period := by
  rw [State.takeLadleJob_of_unlocked hv hlock]
  exact State.startJob_of_timed (s.ladleJob_setLadleJob_same ch _) rfl hp (LadleJob.transfers_ne_zero hv.2.1 hop) hsrc

end

end

/-! ## The completion of jobs -/

section
variable {s : State} {ch : Nat} {j : LadleJob} (hj : s.ladleJob ch = some j)
include hj

theorem execLadleJobComplete_of_unlocked (hf : j.finished = true) (hlock : j.flag 2 = false) :
    execLadleJobComplete ch s = .next (s.completeLadle ch j j.status s.stamp) := by
  simp [execLadleJobComplete, hj, hf, hlock]

theorem execLadleJobComplete_of_unfinished (hf : j.finished = false) : execLadleJobComplete ch s = .next s := by
  simp [execLadleJobComplete, hj, hf]

/-- A finished job gives its lock back; where no channel waits for one, no other job begins (R236). -/
theorem execLadleJobComplete_of_locked (hf : j.finished = true) (hlock : j.flag 2 = true)
    (ho : (s.lock j.lockNumber).owner = ladleOwner ch) (hq : s.fabric.lockQueue = []) : execLadleJobComplete ch s =
      .next ((s.completeLadle ch j j.status s.stamp).setLock j.lockNumber
        { s.lock j.lockNumber with lastOwner := ladleOwner ch, owner := 0, broken := false }) := by
  have hq1 : (s.completeLadle ch j j.status s.stamp).fabric.lockQueue = [] := by
    rw [State.fabric_completeLadle]
    exact hq
  simp only [execLadleJobComplete, hj, hf, hlock, State.lock_completeLadle, ho, and_self, if_true, hq1,
    State.releaseLock_of_no_waiter (State.waiters_of_no_queue hq1 _)]
  rfl

theorem execLadleLockWaitExpired_of_due (hw : j.waiting = true) (hd : s.due (tmLockWait ch) = true) :
    execLadleLockWaitExpired ch s = .next ((s.unwait ch).completeLadle ch j 0x06 s.stamp) := by
  simp [execLadleLockWaitExpired, hj, hw, hd]

theorem execLadleLockWaitExpired_of_running (hw : j.waiting = false) : execLadleLockWaitExpired ch s = .next s := by
  simp [execLadleLockWaitExpired, hj, hw]

end

end Sys2Proof.Machine

/-- Settles O46: an entry goes into the validation, whose cases are the equations above, and a completion leaves the fabric
but for the channel's job and lock. That undefined opcodes come with FENCE_ONLY is log entry 58, and that a channel takes one
job at a time log entry 73. -/
theorem ladleJobs : Obligations.LadleJobs := by
  unfold Obligations.LadleJobs
  intro ch e ws host j s
  simp only [exec_copyList, exec_copyIndex, exec_fenceOnly, exec_ladleJobComplete, exec_ladleLockWaitExpired]
  refine ⟨fun ht hs ho hl => ⟨fun hop => execCopyList_of_own ht hs ho hl hop host,
      fun hop => execCopyIndex_of_own ht hs ho hl hop host, fun h1 h2 => execFenceOnly_of_other ht hs ho hl h1 h2 host,
      _, execFenceOnly_of_unreadable ht hs ho hl host, s.state_entryFails _ _, s.sent_entryFails _ _, s.fabric_entryFails _ _⟩,
    State.takeLadleJob_of_fieldsBad (e := e) (host := host), State.takeLadleJob_of_countBad (e := e) (host := host),
    State.takeLadleJob_of_pages (e := e) (host := host),
    fun hf hc hp hlock ho _ => State.takeLadleJob_of_held_lock (e := e) (host := host) ⟨hf, hc, hp⟩ hlock ho,
    fun hf hc hop hlock => ?_, fun hf hc hop hlock => ⟨fun hp => ?_, fun hp hsrc => ?_⟩,
    fun hf hc hop hlock ho => State.owner_takeLadleJob_of_fence (e := e) (host := host)
      (State.jobValid_of_fence hf hc hop) hop hlock ho,
    fun u v x y budget hx hm => ?_, fun u x fuel budget hf hne hb hd hu hh _ _ _ => ?_,
    fun hj hf hlock => ⟨execLadleJobComplete_of_unlocked hj hf hlock, s.ladleJob_completeLadle ..⟩,
    fun hj hf hlock ho _ hq => ⟨_, execLadleJobComplete_of_locked hj hf hlock ho hq, ?_⟩,
    fun hj => execLadleJobComplete_of_unfinished hj, fun hj => execLadleLockWaitExpired_of_due hj,
    fun hj => execLadleLockWaitExpired_of_running hj⟩
  · rw [State.takeLadleJob_of_fence (e := e) (host := host) (State.jobValid_of_fence hf hc hop) hop hlock]
    exact ⟨State.ladleJob_setLadleJob_same .., rfl, rfl⟩
  · rw [State.takeLadleJob_of_unlocked (e := e) (host := host) (State.jobValid_of_copy hf hc hop) hlock]
    exact State.startJob_of_unpaced (s.ladleJob_setLadleJob_same ch _) rfl (.inl hp)
  · rw [State.takeLadleJob_of_timed_copy (e := e) (host := host) (State.jobValid_of_copy hf hc hop) (hop.imp_right And.left) hlock hp hsrc]
    exact ⟨s.ladleJob_setLadleJob_same ch _, State.armed_arm_same ..⟩
  · have h := State.advanceJob_of_ok hx hm
    exact ⟨h, h ▸ v.ladleJob_setLadleJob_same ch _⟩
  · exact ⟨_, State.moveJob_of_rest hf hne hb hd hu hh fuel, State.dram_writePart_of_unblocked hu⟩
  · rw [State.lock_setLock_same, State.ladleJob_setLock]
    exact ⟨rfl, rfl, rfl, s.ladleJob_completeLadle ..⟩
end

section
/-! PROOFS. The transactions of the Memory Fabric and its scrubber (R215 to R222, R238; log entry 188). -/

open Sys2Proof Sys2Proof.Machine

namespace Sys2Proof.Machine

/-! ## What goes into a record -/

/-- A record is made of the Stamp time, the position base, PD16 and four objects (R23, R52). -/
theorem State.record_of_same {s t : State} (hstamp : t.stamp = s.stamp) (hpos : t.pos = s.pos) (hon : t.on 16 = s.on 16)
    (hn : ∀ k ∈ [K 0x3001 7, K 0x2300 1, K 0x2400 3, K 0x3020 1], t.n k = s.n k) (type source payload : Nat) (firmware : Bool) :
    t.record type source payload firmware = s.record type source payload firmware := by
  have hloop := hn (K 0x3001 7) (by simp)
  have hactive := hn (K 0x2300 1) (by simp)
  have haligned := hn (K 0x2400 3) (by simp)
  have hmains := hn (K 0x3020 1) (by simp)
  simp only [State.record, State.a1, State.a1Invalid, State.seqB, State.axisPos, State.mainsPhase, hstamp, hpos, hon, hloop, hactive,
    haligned, hmains]
  rfl

theorem State.on_of_power {s t : State} (h : t.power = s.power) (pd : Nat) : t.on pd = s.on pd := by
  rw [State.on, State.domain, h, State.on, State.domain]

/-! ## Granules read and written -/

/-- Of the fabric only marks of inverted check bits differ. -/
def State.SameButMarks (s t : State) : Prop := ∃ marks, t.fabric = { s.fabric with marks := marks }

theorem State.SameButMarks.trans {s t u : State} (h : s.SameButMarks t) (k : t.SameButMarks u) : s.SameButMarks u := by
  obtain ⟨_, hf⟩ := h
  obtain ⟨_, kf⟩ := k
  exact ⟨_, kf.trans (by rw [hf])⟩

theorem State.SameButMarks.of_fabric {s t : State} (h : t.fabric = s.fabric) : s.SameButMarks t := ⟨_, h⟩

theorem State.SameButMarks.each {α : Type} {f : State → α → State} (hf : ∀ (t : State) x, t.SameButMarks (f t x)) (l : List α)
    (s : State) : s.SameButMarks (s.each l f) := by
  induction l generalizing s with
  | nil => exact .of_fabric rfl
  | cons x l ih => exact (hf s x).trans (ih _)

section
variable {s t : State} (h : s.SameButMarks t)
include h

theorem State.SameButMarks.scrubbed : t.fabric.scrubbed = s.fabric.scrubbed := by
  obtain ⟨_, hf⟩ := h
  rw [hf]

theorem State.SameButMarks.grants : t.fabric.grants = s.fabric.grants := by
  obtain ⟨_, hf⟩ := h
  rw [hf]

theorem State.SameButMarks.preemptions : t.fabric.preemptions = s.fabric.preemptions := by
  obtain ⟨_, hf⟩ := h
  rw [hf]

theorem State.SameButMarks.window : t.fabric.window = s.fabric.window := by
  obtain ⟨_, hf⟩ := h
  rw [hf]

end

theorem State.fabric_eccError (s : State) (input g ecc : Nat) (injected : Bool) : (s.eccError input g ecc injected).fabric = s.fabric := by
  unfold State.eccError
  split
  · simp
  · rfl

theorem State.readGranule_sameButMarks (s : State) (input g : Nat) : s.SameButMarks (s.readGranule input g) := by
  unfold State.readGranule
  split
  · exact .of_fabric rfl
  · exact (State.SameButMarks.of_fabric (s.fabric_eccError input g 1 true)).trans ⟨_, rfl⟩
  · exact .of_fabric (s.fabric_eccError input g 2 true)

theorem State.spendInjection_sameButMarks (s : State) (n : Nat) : s.SameButMarks (s.spendInjection n) := by
  unfold State.spendInjection
  dsimp only
  split <;> exact ⟨_, rfl⟩

theorem State.writeGranule_sameButMarks (s : State) (g : Nat) : s.SameButMarks (s.writeGranule g) := by
  have hmark : ∀ m, s.SameButMarks (s.setMark g m) := fun _ => ⟨_, rfl⟩
  unfold State.writeGranule
  split
  · exact (hmark 1).trans (State.spendInjection_sameButMarks _ 1)
  · split
    · exact (hmark 2).trans (State.spendInjection_sameButMarks _ 1)
    · exact hmark 0

theorem State.touchGranule_sameButMarks (s : State) (input address length : Nat) (write : Bool) (g : Nat) :
    s.SameButMarks (s.touchGranule input address length write g) := by
  have hread := s.readGranule_sameButMarks input g
  unfold State.touchGranule
  dsimp only
  split
  · exact hread
  · split
    · exact s.writeGranule_sameButMarks g
    · split
      · exact hread
      · exact hread.trans (State.writeGranule_sameButMarks _ g)

/-- The objects that an ECC error changes, and the count of injections left. -/
def eccObjects : List Nat := [fk 2, fk 3, fk 4, K 0x2220 5]

theorem State.n_eccError (s : State) (input g ecc : Nat) (injected : Bool) {k : Nat} (hk : k ∉ eccObjects) :
    (s.eccError input g ecc injected).n k = s.n k := by
  simp only [eccObjects, List.mem_cons, List.not_mem_nil, or_false, not_or] at hk
  obtain ⟨h2, h3, h4, hinj⟩ := hk
  unfold State.eccError
  split
  · next h =>
    have hcount : k ≠ fk (1 + ecc) := by rcases h with rfl | rfl <;> assumption
    rw [State.n_event, State.faultInjected_eq, State.n_detect _ _ hinj, State.setn_eq, State.n_put_ne _ _ h4, State.bump_eq,
      State.n_put_ne _ _ hcount]
  · rfl

theorem State.n_readGranule (s : State) (input g : Nat) {k : Nat} (hk : k ∉ eccObjects) : (s.readGranule input g).n k = s.n k := by
  unfold State.readGranule
  split
  · rfl
  · exact s.n_eccError input g 1 true hk
  · exact s.n_eccError input g 2 true hk

theorem State.n_each_readGranule (s : State) (input : Nat) (l : List Nat) {k : Nat} (hk : k ∉ eccObjects) :
    (s.each l (fun t g => t.readGranule input g)).n k = s.n k := by
  induction l generalizing s with
  | nil => rfl
  | cons g l ih => exact (ih _).trans (s.n_readGranule input g hk)

/-! ## Granules without a mark, and no injection in progress -/

theorem State.each_of_fixed {α : Type} {s : State} {f : State → α → State} {l : List α} (h : ∀ x, f s x = s) : s.each l f = s := by
  induction l with
  | nil => rfl
  | cons x l ih => rwa [State.each, List.foldl_cons, h x]

theorem State.injects_of_idle {s : State} (h : s.lid.target = 0) (target : Nat) : s.injects target = false :=
  decide_eq_false (by omega)

theorem State.ev_detect_of_idle {s : State} (h : s.lid.target = 0) (w : Nat) : (s.detect w).ev = s.ev := by
  rw [s.detect_idle w h]

theorem State.target_detect_of_idle {s : State} (h : s.lid.target = 0) (w : Nat) : (s.detect w).lid.target = 0 := by
  rw [s.detect_idle w h]
  exact h

theorem State.target_eccError_of_idle {s : State} (ht : s.lid.target = 0) (input g ecc : Nat) (injected : Bool) :
    (s.eccError input g ecc injected).lid.target = 0 := by
  unfold State.eccError
  split
  · exact State.target_detect_of_idle (by exact ht) _
  · exact ht

theorem State.readGranule_of_unmarked {s : State} {g : Nat} (h : s.mark g = 0) (input : Nat) : s.readGranule input g = s := by
  simp [State.readGranule, h]

section
variable {s : State} (hm : s.fabric.marks = []) (ht : s.lid.target = 0)
include hm

theorem State.mark_of_no_marks (g : Nat) : s.mark g = 0 := by
  rw [State.mark, hm, Tab.get]

theorem State.setMark_of_no_marks (g : Nat) : s.setMark g 0 = s := by
  have h : Tab.put (fun _ => 0) s.fabric.marks g 0 = s.fabric.marks := by
    rw [hm]
    rfl
  rw [State.setMark, h]

theorem State.writeBlocked_of_no_marks (address length : Nat) : s.writeBlocked address length = none := by
  simp [State.writeBlocked, State.markedIn, hm]

theorem State.poisoned_of_no_marks (address length : Nat) : s.poisoned address length = none := by
  simp [State.poisoned, State.markedIn, hm]

include ht

theorem State.writeGranule_of_no_marks (g : Nat) : s.writeGranule g = s := by
  simp [State.writeGranule, State.injects_of_idle ht, State.setMark_of_no_marks hm]

theorem State.touchGranule_of_no_marks (input address length : Nat) (write : Bool) (g : Nat) :
    s.touchGranule input address length write g = s := by
  simp [State.touchGranule, State.readGranule_of_unmarked (State.mark_of_no_marks hm g), State.writeGranule_of_no_marks hm ht]

end

/-! ## An ECC error -/

theorem State.eccError_of_none (s : State) (input g : Nat) (injected : Bool) : s.eccError input g 0 injected = s := if_neg (by decide)

/-- A correctable error is counted, its granule is kept, it is recorded in EV096 and it goes to the Lid (R215). -/
theorem State.eccError_correctable {s : State} (ht : s.lid.target = 0) (input g : Nat) :
    (s.eccError input g 1 false).n (K 0x3800 2) = (s.n (K 0x3800 2) + 1) % 2 ^ 32 ∧
      (s.eccError input g 1 false).n (K 0x3800 4) = 64 * g ∧
      (s.eccError input g 1 false).ev.held = s.ev.held ++
        [s.record 1 96 (1 + input * 256 + 64 * g % 2 ^ 40 * 2 ^ 24) (Config.firmwareRaised 96)] ∧
      (s.eccError input g 1 false).Sent 0x30 1 g := by
  have heq : s.eccError input g 1 false = ((((s.bump (fk 2)).setn (fk 4) (64 * g)).detect (faultWord 0x30 1 g false false false)).event 96
      (1 + input * 256 + 64 * g % 2 ^ 40 * 2 ^ 24)) := if_pos (.inl rfl)
  have hrecord := State.record_of_same (s := s) (t := ((s.bump (fk 2)).setn (fk 4) (64 * g)).detect (faultWord 0x30 1 g false false false))
    (State.detect_stamp ..) (State.detect_pos ..) (State.on_of_power (State.detect_power ..) 16) (fun k hk => by
      have h : k ≠ fk 2 ∧ k ≠ fk 4 ∧ k ≠ K 0x2220 5 := by
        revert k
        decide
      obtain ⟨h2, h4, h5⟩ := h
      rw [State.n_detect _ _ h5, State.setn_eq, State.n_put_ne _ _ h4, State.bump_eq, State.n_put_ne _ _ h2])
  rw [heq]
  refine ⟨?_, ?_, ?_, ?_⟩
  · rw [State.n_event, State.n_detect _ _ (by decide), State.setn_eq, State.n_put_ne _ _ (by decide), State.bump_eq]
    exact State.n_put_same ..
  · rw [State.n_event, State.n_detect _ _ (by decide), State.setn_eq]
    exact State.n_put_same ..
  · rw [State.event_held, hrecord, State.ev_detect_of_idle (by exact ht)]
    rfl
  · simp [State.sent_iff]

/-! ## Transactions -/

/-- The error of a transaction counts where the transaction reads its granule: not for one that it writes whole (R215). -/
def errorRead (address length : Nat) (write : Bool) (ecc error : Nat) : Nat :=
  if (granulesOf address length).contains (error / 64) && !(write && wholeGranule address length (error / 64)) then ecc else 0

theorem errorRead_of_read {address length error : Nat} {write : Bool} (hc : (granulesOf address length).contains (error / 64) = true)
    (h : write = false ∨ wholeGranule address length (error / 64) = false) (ecc : Nat) :
    errorRead address length write ecc error = ecc := by
  refine if_pos ?_
  rw [hc]
  rcases h with h | h <;> simp [h]

theorem errorRead_of_whole {address length error : Nat} (h : wholeGranule address length (error / 64) = true) (ecc : Nat) :
    errorRead address length true ecc error = 0 := by
  simp [errorRead, h]

/-- A transaction has counted its grants, its error is noted, and its granules are read or written (R215, R219). -/
def State.transacted (s : State) (input address length : Nat) (write : Bool) (revokers : List Nat) (ecc error : Nat) : State :=
  ((s.countGrants input (1 + revokers.length) revokers.length).eccError input (error / 64) (errorRead address length write ecc error)
    false).each (granulesOf address length) (fun t g =>
      if write && (errorRead address length write ecc error == 2 && g == error / 64) then t
      else t.touchGranule input address length write g)

/-- The granule that a transaction finds uncorrectable. -/
def State.uncorrectable (s : State) (address length : Nat) (write : Bool) (ecc error : Nat) : Option Nat :=
  if errorRead address length write ecc error = 2 then some (error / 64)
  else if write then s.writeBlocked address length else s.poisoned address length

theorem State.uncorrectable_of_error {address length ecc error : Nat} {write : Bool}
    (h : errorRead address length write ecc error = 2) (s : State) :
    s.uncorrectable address length write ecc error = some (error / 64) := if_pos h

theorem State.uncorrectable_of_no_marks {s : State} (hm : s.fabric.marks = []) {address length ecc error : Nat} {write : Bool}
    (h : errorRead address length write ecc error ≠ 2) : s.uncorrectable address length write ecc error = none := by
  rw [State.uncorrectable, if_neg h, State.writeBlocked_of_no_marks hm, State.poisoned_of_no_marks hm, ite_self]

theorem State.transacted_sameButMarks (s : State) (input address length : Nat) (write : Bool) (revokers : List Nat) (ecc error : Nat) :
    (s.countGrants input (1 + revokers.length) revokers.length).SameButMarks
      (s.transacted input address length write revokers ecc error) := by
  refine (State.SameButMarks.of_fabric (State.fabric_eccError ..)).trans (State.SameButMarks.each (fun t g => ?_) _ _)
  split
  · exact .of_fabric rfl
  · exact t.touchGranule_sameButMarks ..

/-- With no mark and no injection a transaction is its counts and its error. -/
theorem State.transacted_of_no_marks {s : State} (hm : s.fabric.marks = []) (ht : s.lid.target = 0) (input address length : Nat)
    (write : Bool) (revokers : List Nat) (ecc error : Nat) : s.transacted input address length write revokers ecc error =
      (s.countGrants input (1 + revokers.length) revokers.length).eccError input (error / 64) (errorRead address length write ecc error)
        false := by
  have hmarks : ((s.countGrants input (1 + revokers.length) revokers.length).eccError input (error / 64)
      (errorRead address length write ecc error) false).fabric.marks = [] := by
    rw [State.fabric_eccError]
    exact hm
  have htarget := State.target_eccError_of_idle (s := s.countGrants input (1 + revokers.length) revokers.length) ht input
    (error / 64) (errorRead address length write ecc error) false
  refine State.each_of_fixed fun g => ?_
  rw [State.touchGranule_of_no_marks hmarks htarget, ite_self]

theorem State.n_transacted_of_read (s : State) (input address length : Nat) (revokers : List Nat) (ecc error : Nat) {k : Nat}
    (hk : k ∉ eccObjects) : (s.transacted input address length false revokers ecc error).n k = s.n k :=
  (State.n_each_readGranule _ input (granulesOf address length) hk).trans (State.n_eccError _ input _ _ false hk)

theorem State.counts_stopLadle (s : State) (kind address : Nat) : (s.stopLadle kind address).fabric.grants = s.fabric.grants ∧
    (s.stopLadle kind address).fabric.preemptions = s.fabric.preemptions := by
  obtain ⟨⟨_, _, hf⟩, _⟩ := s.stopLadle_endsJobs kind address
  rw [hf]
  exact ⟨rfl, rfl⟩

/-- A transaction counts its grants and preemptions, whether or not it stops the Ladle (R219, R240). -/
theorem State.counts_transacted {s t : State} {input address length : Nat} {write : Bool} {revokers : List Nat} {ecc error : Nat}
    (h : t = s.transacted input address length write revokers ecc error ∨
      ∃ a, t = (s.transacted input address length write revokers ecc error).stopLadle 2 a) :
    t.fabric.grants = (s.countGrants input (1 + revokers.length) revokers.length).fabric.grants ∧
      t.fabric.preemptions = (s.countGrants input (1 + revokers.length) revokers.length).fabric.preemptions := by
  have hsame := s.transacted_sameButMarks input address length write revokers ecc error
  rcases h with h | ⟨a, h⟩
  · rw [h]
    exact ⟨hsame.grants, hsame.preemptions⟩
  · rw [h]
    obtain ⟨hg, hp⟩ := (s.transacted input address length write revokers ecc error).counts_stopLadle 2 a
    exact ⟨hg.trans hsame.grants, hp.trans hsame.preemptions⟩

theorem State.power_transacted (s : State) (input address length : Nat) (write : Bool) (revokers : List Nat) (ecc error : Nat) :
    (s.transacted input address length write revokers ecc error).power = s.power := by
  have h : Keeps (Area.mask [.objects, .recorder, .fabric, .lid]) s (s.transacted input address length write revokers ecc error) :=
    Keeps.each (fun _ _ ht => .ite ht (State.touchGranule_keeps rfl ht))
      (State.eccError_keeps rfl (Keeps.fabric (c := Area.mask [.fabric]) rfl rfl rfl rfl (Keeps.refl _ _)))
  exact h.same_of_notMem (p := .power) (by decide)

section
variable {input address length ecc error : Nat} {revokers : List Nat} {write : Bool} {s : State} (hon : s.on 3 = true)
  (hg : s.transactionGood input address length = true) (hr : revokersGood input revokers = true)
include hon hg hr

/-- A transaction within the limits is made, and may stop the Ladle (R218, R219, R238). -/
theorem execFabricTransactionComplete_of_good :
    ∃ t, execFabricTransactionComplete input address length write revokers ⟨ecc, error⟩ s = .next t ∧
      (t = s.transacted input address length write revokers ecc error ∨
        ∃ a, t = (s.transacted input address length write revokers ecc error).stopLadle 2 a) := by
  rw [execFabricTransactionComplete, if_pos (by simp [hon, hg, hr])]
  dsimp only
  split
  · exact ⟨_, rfl, iteInduction
      (motive := fun t => t = s.transacted input address length write revokers ecc error ∨
        ∃ a, t = (s.transacted input address length write revokers ecc error).stopLadle 2 a)
      (fun _ => .inr ⟨_, rfl⟩) (fun _ => .inl rfl)⟩
  · exact ⟨_, rfl, .inl rfl⟩

theorem execFabricTransactionComplete_of_readable (hu : s.uncorrectable address length write ecc error = none) :
    execFabricTransactionComplete input address length write revokers ⟨ecc, error⟩ s =
      .next (s.transacted input address length write revokers ecc error) := by
  rw [execFabricTransactionComplete, if_pos (by simp [hon, hg, hr])]
  dsimp only
  split
  · next h => exact absurd (hu.symm.trans h) nofun
  · rfl

/-- An uncorrectable granule on an input of the Ladle stops the Ladle while it runs (R238). -/
theorem execFabricTransactionComplete_of_uncorrectable {g : Nat} (hu : s.uncorrectable address length write ecc error = some g)
    (hin : input = 7 ∨ input = 8) (hon7 : (s.transacted input address length write revokers ecc error).on 7 = true)
    (hrun : (s.transacted input address length write revokers ecc error).n (K 0x3810 0x11) = 0) :
    execFabricTransactionComplete input address length write revokers ⟨ecc, error⟩ s =
      .next ((s.transacted input address length write revokers ecc error).stopLadle 2 (max address (64 * g))) := by
  rw [execFabricTransactionComplete, if_pos (by simp [hon, hg, hr])]
  dsimp only
  split
  · next h =>
    obtain rfl := Option.some.inj (hu.symm.trans h)
    exact congrArg Host.Outcome.next (if_pos ⟨hin, hon7, hrun⟩)
  · next h => exact absurd (hu.symm.trans h) nofun

end

theorem execFabricTransactionComplete_of_bad {input address length : Nat} {revokers : List Nat} {s : State}
    (h : s.transactionGood input address length = false ∨ revokersGood input revokers = false) (write : Bool) (ecc : Ecc) :
    execFabricTransactionComplete input address length write revokers ecc s = .next s := by
  rcases h with h | h <;> simp [execFabricTransactionComplete, h]

/-! ## The scrubber -/

/-- The next granule of the scrub pass is read, and an error it has is noted (R215, R216). -/
def State.scrubGranule (s : State) (ecc : Nat) : State := (s.eccError 0 s.fabric.scrubbed ecc false).readGranule 0 s.fabric.scrubbed

theorem State.scrubGranule_sameButMarks (s : State) (ecc : Nat) : s.SameButMarks (s.scrubGranule ecc) :=
  (State.SameButMarks.of_fabric (s.fabric_eccError 0 s.fabric.scrubbed ecc false)).trans (State.readGranule_sameButMarks ..)

/-- A scrub pass has read every granule and is counted (R216). -/
def State.scrubPassed (s : State) : State := { s with fabric := { s.fabric with scrubbed := granules } }.bump (fk 6)

theorem State.n_scrubPassed (s : State) : s.scrubPassed.n (fk 6) = (s.n (fk 6) + 1) % 2 ^ 32 := by
  rw [State.scrubPassed, State.bump_eq]
  exact State.n_put_same ..

theorem State.record_scrubPassed (s : State) (type source payload : Nat) (firmware : Bool) :
    s.scrubPassed.record type source payload firmware = s.record type source payload firmware := by
  refine State.record_of_same (s := s) (t := s.scrubPassed) rfl rfl rfl (fun k hk => ?_) type source payload firmware
  have h6 : k ≠ fk 6 := by
    revert k
    decide
  rw [State.scrubPassed, State.bump_eq, State.n_put_ne _ _ h6]
  rfl

section
variable {s : State} {address : Nat} (hon : s.on 3 = true)

theorem execScrubRead_of_other (h : s.fabric.scrubbed = granules ∨ address / 64 ≠ s.fabric.scrubbed) (ecc : Nat) :
    execScrubRead address ecc s = .next s := by
  rcases h with h | h <;> simp [execScrubRead, h]

include hon

theorem execScrubRead_of_inner (hlt : s.fabric.scrubbed + 1 < granules) (ht : address / 64 = s.fabric.scrubbed) (ecc : Nat) :
    ∃ t, execScrubRead address ecc s = .next t ∧ t.fabric.scrubbed = s.fabric.scrubbed + 1 ∧ t.fabric.window = s.fabric.window := by
  have hsame := s.scrubGranule_sameButMarks ecc
  have hlt1 : (s.scrubGranule ecc).fabric.scrubbed + 1 < granules := hsame.scrubbed.symm ▸ hlt
  rw [execScrubRead, if_pos (by simp [hon, ht, Nat.lt_of_succ_lt hlt])]
  exact ⟨_, if_pos hlt1, congrArg (· + 1) hsame.scrubbed, hsame.window⟩

/-- The last granule of a pass in time, without an error: the pass is counted and recorded (R216, R243). -/
theorem execScrubRead_of_last (hlast : s.fabric.scrubbed + 1 = granules) (ht : address / 64 = s.fabric.scrubbed)
    (hl : s.fabric.late = false) (hm : s.mark s.fabric.scrubbed = 0) : execScrubRead address 0 s =
      .next (s.scrubPassed.event 99 (1 + s.scrubPassed.n (fk 6) * 2 ^ 32)) := by
  have hg : (s.eccError 0 s.fabric.scrubbed 0 false).readGranule 0 s.fabric.scrubbed = s := State.readGranule_of_unmarked hm 0
  have hlt : s.fabric.scrubbed < granules := by omega
  rw [execScrubRead, if_pos (by simp [hon, ht, hlt])]
  dsimp only
  rw [hg, hlast, if_neg (Nat.lt_irrefl _)]
  exact congrArg Host.Outcome.next (if_neg (by simp [hl]))

theorem execScrubPeriodExpired_of_late (hd : s.due tmScrub = true) (hlt : s.fabric.scrubbed < granules) :
    ∃ t, execScrubPeriodExpired s = .next t ∧ t.fabric = { s.fabric with late := true } ∧
      t.ev = (s.event 99 (2 + s.n (fk 6) * 2 ^ 32)).ev := by
  rw [execScrubPeriodExpired, if_pos (by simp [hon, hd]), if_pos hlt]
  exact ⟨_, rfl, State.arm_fabric .., State.arm_ev ..⟩

theorem execScrubPeriodExpired_of_finished (hd : s.due tmScrub = true) (hfull : s.fabric.scrubbed = granules) :
    execScrubPeriodExpired s = .next s.startScrub := by
  rw [execScrubPeriodExpired, if_pos (by simp [hon, hd]), if_neg (by omega)]

end

end Sys2Proof.Machine

/-- Settles O45: a transaction is its counts, its error and its granules, of which bytes are no part, and may stop the Ladle;
with no mark and no injection only the error tells. The scrubber's order, and that another granule does nothing, is log
entry 188. -/
theorem fabricAndScrub : Obligations.FabricAndScrub := by
  unfold Obligations.FabricAndScrub
  intro input address length ecc error revokers write s hon
  simp only [exec_fabricTransactionComplete, exec_scrubRead, exec_scrubPeriodExpired]
  refine ⟨fun hg hr => ?_, fun hg hr hm ht hecc hin hread => ?_, fun hg hr hm ht hw hwhole => ?_,
    fun hg hr hin hon7 hrun hecc hcontains hw => ?_, fun h => execFabricTransactionComplete_of_bad h write _, fun hlt ht => ?_,
    fun hlast ht hl hecc hmark => ?_, fun h => execScrubRead_of_other h ecc, fun hd hlt => ?_, fun hd hfull => ?_⟩
  · obtain ⟨t, ht, hcase⟩ := execFabricTransactionComplete_of_good (ecc := ecc) (error := error) (write := write) hon hg hr
    obtain ⟨hgrants, hpreemptions⟩ := State.counts_transacted hcase
    have hframe : Keeps (Area.mask [.objects, .timers, .recorder, .rings, .fabric, .lid, .trust]) s t :=
      execFabricTransactionComplete_keeps rfl (Keeps.refl _ _) t ht
    refine ⟨t, ht, ?_, ?_, fun i hi => ?_, hframe.same_of_notMem (p := .window) (by decide),
      hframe.same_of_notMem (p := .host) (by decide)⟩
    · rw [hgrants]
      exact Tab.get_put_same ..
    · rw [hpreemptions]
      exact Tab.get_put_same ..
    · rw [hgrants]
      exact Tab.get_put_ne _ _ _ hi
  · have he : errorRead address length write ecc error = 1 := (errorRead_of_read hin hread ecc).trans hecc
    refine ⟨_, execFabricTransactionComplete_of_readable hon hg hr (State.uncorrectable_of_no_marks hm (by rw [he]; decide)), ?_⟩
    rw [State.transacted_of_no_marks hm ht, he]
    exact State.eccError_correctable (s := s.countGrants input (1 + revokers.length) revokers.length) ht input (error / 64)
  · subst hw
    have he := errorRead_of_whole hwhole ecc
    refine ⟨_, execFabricTransactionComplete_of_readable hon hg hr (State.uncorrectable_of_no_marks hm (by rw [he]; decide)), ?_⟩
    rw [State.transacted_of_no_marks hm ht, he, State.eccError_of_none]
    exact ⟨rfl, rfl, rfl⟩
  · subst hw
    have hu := State.uncorrectable_of_error ((errorRead_of_read hcontains (.inl rfl) ecc).trans hecc) s
    have hexec := execFabricTransactionComplete_of_uncorrectable hon hg hr hu hin
      ((State.on_of_power (s.power_transacted ..) 7).trans hon7) ((s.n_transacted_of_read _ _ _ _ _ _ (by decide)).trans hrun)
    exact ⟨_, hexec, State.stopped_stopLadle .., State.stopAddress_stopLadle ..⟩
  · exact execScrubRead_of_inner hon hlt ht ecc
  · subst hecc
    refine ⟨_, execScrubRead_of_last hon hlast ht hl hmark, rfl, s.n_scrubPassed, ?_⟩
    rw [State.event_held, State.record_scrubPassed]
    rfl
  · obtain ⟨t, ht, hfabric, hev⟩ := execScrubPeriodExpired_of_late hon hd hlt
    exact ⟨t, ht, by rw [hfabric], by rw [hfabric], by rw [hev]; exact s.event_held ..⟩
  · exact ⟨_, execScrubPeriodExpired_of_finished hon hd hfull, rfl, rfl⟩
end

section
/-! PROOFS. How the requests of ring 60 are served and answered on ring 61 (R255, R263, R285 to R287). -/

open Sys2Proof Sys2Proof.Machine

namespace Sys2Proof.Machine

/-! ## The row that takes a request -/

/-- A row of ring 60 takes the entry of its own opcode, where the service serves and no response is held back (R263, R285). -/
theorem State.mailRow_takeMail_of_own {s : State} {ws : List Nat} {op : Nat} (hs : s.served = true) (he : s.hasEntry 60 = true)
    (hl : s.linkUp = true) (hw : (s.ring 61).waiting.isEmpty = true) (hop : mailOp ws = op) (i : Instr) (hostOk : Bool)
    (host : Option Bytes) (answers : List Frame) :
    s.mailRow i (fun t => t.takeMail op (some ws) hostOk host answers) = (s.consumed 60).serveMail hostOk host answers ws := by
  rw [State.mailRow, if_pos hs, State.takeMail, if_pos ⟨hw, .inr (.inl (congrArg some hop))⟩, State.takeEntry,
    if_pos (by simp [he, hl])]

/-! ## The answer -/

/-- Of the state an answer on ring 61 takes the Stamp time (R286). -/
theorem State.mailEntry_of_stamp {s t : State} (h : t.stamp = s.stamp) (ws : List Nat) (r : Reply) :
    t.mailEntry ws r = s.mailEntry ws r := by
  rw [State.mailEntry, h, State.mailEntry]

theorem State.mailEntry_answered (s : State) (path : Path) (ws : List Nat) (r r' : Reply) :
    (s.answered path r').mailEntry ws r = s.mailEntry ws r :=
  State.mailEntry_of_stamp (s.same_answered path r' (p := .clock) (by decide) (by decide)) ws r

/-- Word 0 of an answer: its status, and the subindex, index and REQUEST_ID of its request (R286). -/
theorem State.wordAt_mailEntry_zero (s : State) (ws : List Nat) (r : Reply) : wordAt (s.mailEntry ws r) 0 =
    r.status * 2 ^ 56 + mailSub ws * 2 ^ 40 + mailIndex ws * 2 ^ 24 + field (wordAt ws 0) 15 0 := rfl

/-- An entry goes into a ring that has room and holds nothing back (R263). -/
theorem State.produce_of_room {s : State} {r : Nat} (hroom : s.ringRoom r = true) (hw : (s.ring r).waiting.isEmpty = true)
    (e : List Nat) : s.produce r e = s.writeEntry r e := by
  rw [State.produce, if_pos (by simp [hroom, hw])]

/-! ## What becomes of a request -/

section
variable {s : State} {ws : List Nat}

theorem State.serveMail_of_malformed (hm : mailMalformed ws = true) (hostOk : Bool) (host : Option Bytes) (answers : List Frame) :
    s.serveMail hostOk host answers ws =
      ((s.answered .mailbox { status := 2, abort := 0x05040001, detail := 0x0D0F }).finishEntry 60).produce 61
        (s.mailEntry ws { status := 2, abort := 0x05040001, detail := 0x0D0F }) := by
  rw [State.serveMail, if_pos hm, State.mailEntry_answered]

/-! ### Reads -/

/-- What a read of either kind finds, before its data go out. -/
def State.mailRead (s : State) (ws : List Nat) : Reply :=
  if mailOp ws = 1 then s.readObject .mailbox (mailIndex ws) (mailSub ws) else s.readComplete .mailbox (mailIndex ws) (mailSub ws)

theorem State.mailRead_of_object {u : State} (hop : mailOp ws = 1) (ha : u.readAbort (mailIndex ws) (mailSub ws) = none) :
    u.mailRead ws = { data := u.readBytes .mailbox (mailIndex ws) (mailSub ws) } := by
  rw [State.mailRead, if_pos hop, State.readObject, ha]

theorem State.mailRead_of_record {u : State} (hop : mailOp ws = 3) : u.mailRead ws = u.readComplete .mailbox (mailIndex ws) (mailSub ws) :=
  if_neg (by simp [hop])

/-- Data for which there is room go out as they are, to a buffer where host memory takes them (R287). -/
theorem mailReply_of_room {hostOk : Bool} {b : Bytes} (hlen : b.length ≤ if mailBuffer ws = 0 then 32 else mailLength ws)
    (hhost : mailBuffer ws ≠ 0 → hostOk = true) : mailReply ws hostOk { data := b } = { data := b } := by
  have hbuffer : ¬ (mailBuffer ws ≠ 0 ∧ hostOk = false) := fun h => Bool.false_ne_true (h.2.symm.trans (hhost h.1))
  rw [mailReply, if_neg (fun h => h rfl), if_neg (Nat.not_lt.mpr hlen), if_neg hbuffer]

section
variable {u : State} {b : Bytes} (hm : mailMalformed ws = false) (hop : mailWrites (mailOp ws) = false)
  (hr : u.mailRead ws = { data := b })
include hm hop hr

/-- Data of at most 32 bytes go into the answer where the request names no buffer (R286). -/
theorem State.serveMail_of_inline_read (hb : mailBuffer ws = 0) (hlen : b.length ≤ 32) (hostOk : Bool) (host : Option Bytes)
    (answers : List Frame) : u.serveMail hostOk host answers ws =
      ((u.answered .mailbox { data := b }).finishEntry 60).produce 61 (u.mailEntry ws { data := b }) := by
  have hreply : mailReply ws (hostOk && u.masters) { data := b } = { data := b } :=
    mailReply_of_room (by rwa [if_pos hb]) fun h => (h hb).elim
  rw [State.mailRead] at hr
  simp [State.serveMail, hm, hop, hr, hreply, hb, State.mailEntry_answered]

/-- Data that the buffer holds are written to it before the answer (R286). -/
theorem State.serveMail_of_buffered_read (hb : mailBuffer ws ≠ 0) (hlen : b.length ≤ mailLength ws) (hmaster : u.masters = true)
    (host : Option Bytes) (answers : List Frame) : u.serveMail true host answers ws =
      (((u.hostWrite (mailBuffer ws) b).answered .mailbox { data := b }).finishEntry 60).produce 61
        (u.mailEntry ws { data := b }) := by
  have hreply : mailReply ws u.masters { data := b } = { data := b } :=
    mailReply_of_room (by rwa [if_neg hb]) fun _ => hmaster
  have hentry : (u.hostWrite (mailBuffer ws) b).mailEntry ws { data := b } = u.mailEntry ws { data := b } :=
    State.mailEntry_of_stamp rfl ws _
  rw [State.mailRead] at hr
  simp [State.serveMail, hm, hop, hr, hreply, hb, State.mailEntry_answered, hentry]

end

/-! ### Writes -/

/-- An accepted write of one object is carried out. -/
theorem State.writeObject_of_accepted {u : State} {path : Path} {index sub : Nat} {b : Bytes} {r : Row}
    (hrow : rowOf index sub = some r) (h0 : index ≠ 0x1010) (h1 : index ≠ 0x1011)
    (ha : u.writeAbort path false index sub b = none) (answers : List Frame) :
    u.writeObject path false index sub b answers = (u.carryOut path r index sub (r.ty.decode b) answers, {}) := by
  unfold State.writeObject
  rw [ha, hrow]
  simp [h0, h1]

/-- What a write of either kind does and finds. -/
def State.mailWrite (s : State) (ws : List Nat) (b : Bytes) (answers : List Frame) : State × Reply :=
  if mailOp ws = 2 then s.writeObject .mailbox false (mailIndex ws) (mailSub ws) b answers
  else s.writeComplete .mailbox (mailIndex ws) (mailSub ws) b

/-- A write that is carried out is answered from the state it leaves (R287, R288). -/
theorem State.serveMail_of_write {u v : State} {b : Bytes} {host : Option Bytes} {answers : List Frame}
    (hm : mailMalformed ws = false) (hop : mailWrites (mailOp ws) = true) (hd : mailData ws host = some b)
    (hw : u.mailWrite ws b answers = (v, {})) (hostOk : Bool) : u.serveMail hostOk host answers ws =
      ((v.done .mailbox (mailIndex ws) (mailSub ws)).finishEntry 60).produce 61
        ((v.done .mailbox (mailIndex ws) (mailSub ws)).mailEntry ws {}) := by
  rw [State.mailWrite] at hw
  simp only [State.serveMail, hm, hop, hd, hw, State.done]
  rfl

end

end Sys2Proof.Machine

/-- Settles O13: each row takes the entry of its opcode, and what becomes of it is, case by case, an equation of
`State.serveMail` above. -/
theorem mailboxRequests : Obligations.MailboxRequests := by
  unfold Obligations.MailboxRequests
  intro ws hostOk host answers s hs he hl hw
  have take : ∀ {op}, mailOp ws = op → ∀ i hostOk host answers,
      s.mailRow i (fun t => t.takeMail op (some ws) hostOk host answers) = (s.consumed 60).serveMail hostOk host answers ws :=
    fun hop => State.mailRow_takeMail_of_own hs he hl hw hop
  have hread : mailOp ws = 1 → exec (.mailboxRead (some ws) hostOk) s = .next ((s.consumed 60).serveMail hostOk none [] ws) :=
    fun hop => congrArg _ (take hop ..)
  have hwrite : mailOp ws = 2 → exec (.mailboxWrite (some ws) host answers) s =
      .next ((s.consumed 60).serveMail true host answers ws) := fun hop => congrArg _ (take hop ..)
  have hreadAll : mailOp ws = 3 → exec (.mailboxReadComplete (some ws) hostOk) s =
      .next ((s.consumed 60).serveMail hostOk none [] ws) := fun hop => congrArg _ (take hop ..)
  have hwriteAll : mailOp ws = 4 → exec (.mailboxWriteComplete (some ws) host) s =
      .next ((s.consumed 60).serveMail true host [] ws) := fun hop => congrArg _ (take hop ..)
  refine ⟨hread, hwrite, hreadAll, hwriteAll, fun hm => State.serveMail_of_malformed hm .., ?_, ?_, ?_, ?_,
    fun _ e hroom hempty => State.produce_of_room hroom hempty e, fun u r => u.wordAt_mailEntry_zero ws r⟩
  · rintro u b rfl hm hb hlen
    refine ⟨fun hop ha hbytes => ?_, fun hop hr => ?_⟩
    · subst hbytes
      rw [hread hop, State.serveMail_of_inline_read hm (by simp [hop, mailWrites]) (State.mailRead_of_object hop ha) hb hlen]
    · rw [hreadAll hop, State.serveMail_of_inline_read hm (by simp [hop, mailWrites]) ((State.mailRead_of_record hop).trans hr) hb hlen]
  · rintro u b rfl hm hb hlen rfl hmaster
    refine ⟨fun hop ha hbytes => ?_, fun hop hr => ?_⟩
    · subst hbytes
      rw [hread hop, State.serveMail_of_buffered_read hm (by simp [hop, mailWrites]) (State.mailRead_of_object hop ha) hb hlen hmaster]
    · rw [hreadAll hop, State.serveMail_of_buffered_read hm (by simp [hop, mailWrites]) ((State.mailRead_of_record hop).trans hr) hb
        hlen hmaster]
  · rintro u v b r rfl hop hm hd hrow h0 h1 ha rfl
    rw [hwrite hop, State.serveMail_of_write hm (by simp [hop, mailWrites]) hd
      ((if_pos hop).trans (State.writeObject_of_accepted hrow h0 h1 ha answers))]
  · rintro u v w b rfl hop hm hd hr rfl
    rw [hwriteAll hop, State.serveMail_of_write hm (by simp [hop, mailWrites]) hd ((if_neg (by simp [hop])).trans hr)]
end

section
/-! PROOFS. What the host does to the rings: descriptors, doorbells and the vectors' table (R248, R250 to R256, R262, R263; log
entries 95 and 192). -/

open Sys2Proof Sys2Proof.Machine

namespace Sys2Proof.Machine

/-! ## Readings of the rings -/

theorem State.ring_of_rings {s t : State} (h : t.rings = s.rings) (r : Nat) : t.ring r = s.ring r := by
  rw [State.ring, h, State.ring]

@[simp] theorem State.rings_ringEvent (s : State) (sub r value : Nat) : (s.ringEvent sub r value).rings = s.rings := rfl

@[simp] theorem State.ring_ringEvent (s : State) (sub r value m : Nat) : (s.ringEvent sub r value).ring m = s.ring m := rfl

theorem State.logged_ringEvent (s : State) (sub r value : Nat) :
    (s.ringEvent sub r value).Logged 101 (sub + r * 256 + value % 2 ^ 32 * 2 ^ 32) := s.logged_event ..

/-! ## A word written whole, or by its halves -/

theorem mergePart_whole (old value : Nat) : mergePart 0 old value = value % 2 ^ 64 := rfl

theorem mergePart_low (old value : Nat) :
    mergePart 1 old value % 2 ^ 32 = value % 2 ^ 32 ∧ mergePart 1 old value / 2 ^ 32 = old / 2 ^ 32 := by
  simp only [mergePart]
  omega

theorem State.barWrite_of_lt {s : State} {r : Nat} (hl : s.linkUp = true) (hr : r < 64) : s.barWrite r = true := by
  simp [State.barWrite, hl, hr]

/-! ## Descriptor words -/

section
variable {s : State} {r : Nat} {data : BarWrite}

theorem execRingDescriptorWrite_of_unwritable {word : Nat} (h : 2 < word ∨ s.linkUp = false) :
    execRingDescriptorWrite r word data s = .next s := by
  refine if_neg ?_
  rcases h with h | h
  · simp [show ¬ word ≤ 2 by omega]
  · simp [State.barWrite, h]

section
variable (hb : s.barWrite r = true)
include hb

/-- A ring that is not DISABLED keeps its fields (R250, R265). -/
theorem execRingDescriptorWrite_of_in_use {word : Nat} (hw : word ≤ 2) (h : (s.ring r).state ≠ 0) :
    execRingDescriptorWrite r word data s = .next (s.ringEvent 5 r word) := by
  simp [execRingDescriptorWrite, hb, hw, h]

theorem execRingDescriptorWrite_base (h : (s.ring r).state = 0) : execRingDescriptorWrite r 0 data s =
    .next (s.setRing r { s.ring r with base := s.descriptorWord r 0 data.part data.value }) := by
  simp [execRingDescriptorWrite, hb, h]

theorem execRingDescriptorWrite_shadow (h : (s.ring r).state = 0) : execRingDescriptorWrite r 1 data s =
    .next (s.setRing r { s.ring r with shadow := s.descriptorWord r 1 data.part data.value }) := by
  simp [execRingDescriptorWrite, hb, h]

theorem execRingDescriptorWrite_sizes (h : (s.ring r).state = 0) : execRingDescriptorWrite r 2 data s =
    .next (s.setRing r ((s.ring r).withWord2 (s.descriptorWord r 2 data.part data.value))) := by
  simp [execRingDescriptorWrite, hb, h]

end

/-! ## A ring comes into use -/

/-- A ring as it is enabled: its pointers at 0, and nothing in it or owed by it (R251). -/
def Ring.emptied (g : Ring) : Ring :=
  { g with head := 0, tail := 0, entries := [], open_ := 0, done := [], inPlace := [], told := [], shadowed := 0,
           unsignalled := false, overrun := false }

/-- A ring has become ENABLED with the word 2 just written. -/
def State.ringStarted (s : State) (r w : Nat) : State :=
  let g := (s.ring r).withWord2 w
  (((s.setRing r g).setRing r g.emptied).disarm (tmMsix r)).ringTo r 1

theorem State.ring_ringStarted_same (s : State) (r w : Nat) :
    (s.ringStarted r w).ring r = { ((s.ring r).withWord2 w).emptied with state := 1 } := by
  simp [State.ringStarted, State.ringTo]

theorem State.ring_ringStarted_ne (s : State) {r m : Nat} (w : Nat) (h : m ≠ r) : (s.ringStarted r w).ring m = s.ring m := by
  simp [State.ringStarted, State.ringTo, State.ring_setRing_ne _ _ h]

theorem State.logged_ringStarted (s : State) (r w : Nat) : (s.ringStarted r w).Logged 101 (1 + r * 256) := by
  have h := fun u : State => u.logged_ringEvent 1 r 0
  rw [Nat.zero_mod, Nat.zero_mul, Nat.add_zero] at h
  simp only [State.ringStarted, State.ringTo, if_true, State.ring_disarm, State.ring_setRing_same]
  exact h _

section
variable (hb : s.barWrite r = true) (h0 : (s.ring r).state = 0)
  (hen : bitOf (s.descriptorWord r 2 data.part data.value) 63 = true)
include hb h0 hen

theorem execRingEnable_of_good
    (hg : (s.setRing r ((s.ring r).withWord2 (s.descriptorWord r 2 data.part data.value))).enableGood r = true) :
    execRingEnable r data s = .next ((s.ringStarted r (s.descriptorWord r 2 data.part data.value)).roomOpened r) := by
  simp [execRingEnable, hb, h0, hen, hg, State.ringStarted, Ring.emptied]

theorem execRingEnable_of_bad
    (hg : (s.setRing r ((s.ring r).withWord2 (s.descriptorWord r 2 data.part data.value))).enableGood r = false)
    (hp : s.ringPresent r = true) : execRingEnable r data s =
      .next ((s.setRing r ((s.ring r).withWord2 (s.descriptorWord r 2 data.part data.value))).ringEvent 3 r
        (s.descriptorWord r 2 data.part data.value)) := by
  have hp' : (s.setRing r ((s.ring r).withWord2 (s.descriptorWord r 2 data.part data.value))).ringPresent r = true := hp
  simp [execRingEnable, hb, h0, hen, hg, hp']

end

/-! ## A ring goes out of use -/

theorem State.drainRingOut_of_open (h : (s.ring r).state = 1 ∨ (s.ring r).state = 3) : s.drainRingOut r =
    ((s.setRing r { s.ring r with state := 2 }).disarm (tmDrain r)).ringEvent (Config.ringSubcode 2 % 256) r (s.ring r).tail :=
  if_pos h

theorem State.drainRingOut_of_closed (h : ¬ ((s.ring r).state = 1 ∨ (s.ring r).state = 3)) : s.drainRingOut r = s := if_neg h

/-- ENABLE written 0 drains the ring, after EV101 subcode 5 where the word would change a field (R250, R251). -/
theorem execRingEnable_of_cleared (hb : s.barWrite r = true) (hs : (s.ring r).state = 1 ∨ (s.ring r).state = 3)
    (hen : bitOf (s.descriptorWord r 2 data.part data.value) 63 = false) :
    ∃ u : State, u.rings = s.rings ∧ execRingEnable r data s = .next (u.drainRingOut r) := by
  have h0 : (s.ring r).state ≠ 0 := by omega
  by_cases hw : (s.ring r).withWord2 (s.descriptorWord r 2 data.part data.value) = s.ring r
  · exact ⟨s, rfl, by simp [execRingEnable, hb, h0, hen, hw]⟩
  · exact ⟨s.ringEvent 5 r 2, rfl, by simp [execRingEnable, hb, h0, hen, hw]⟩

theorem execRingDrained_of_finished (hs : (s.ring r).state = 2) (ho : (s.ring r).open_ = 0) :
    execRingDrained r s = .next (s.ringTo r 0) := if_pos ⟨hs, ho⟩

theorem execRingDrained_of_other (h : (s.ring r).state ≠ 2 ∨ (s.ring r).open_ ≠ 0) : execRingDrained r s = .next s :=
  if_neg fun hboth => h.elim (fun hs => hs hboth.1) (fun ho => ho hboth.2)

theorem State.ringTo_disabled : s.ringTo r 0 = (s.setRing r { s.ring r with state := 0 }).ringEvent 2 r (s.ring r).tail := rfl

/-! ## Doorbells -/

/-- How far a doorbell moves a pointer of 32 bits (R253). -/
def doorbellStep (value pointer : Nat) : Nat := (value % 2 ^ 32 + 2 ^ 32 - pointer) % 2 ^ 32

/-- A doorbell out of range: the ring in ERROR, the fault of source 0x7A, and EV101 (R253, R266). -/
def State.doorbellFails (s : State) (r value : Nat) : State :=
  ((s.ringError r).fault 0x7A 0x5 r).ringEvent 4 r (value % 2 ^ 32)

theorem State.ring_doorbellFails (value : Nat) : (s.doorbellFails r value).ring r = { s.ring r with state := 3 } := by
  have h : (s.doorbellFails r value).rings = (s.ringError r).rings := by simp [State.doorbellFails]
  rw [State.ring_of_rings h, State.ringError, State.ring_setRing_same]

theorem State.sent_doorbellFails (value : Nat) : (s.doorbellFails r value).Sent 0x7A 5 r := State.sent_fault (s.ringError r) 0x7A 5 r

theorem State.logged_doorbellFails (value : Nat) :
    (s.doorbellFails r value).Logged 101 (4 + r * 256 + value % 2 ^ 32 * 2 ^ 32) := by
  have h := ((s.ringError r).fault 0x7A 0x5 r).logged_ringEvent 4 r (value % 2 ^ 32)
  rwa [Nat.mod_mod] at h

/-- The host has taken entries of a ring of the module, which leave it (R253). -/
def State.headMoved (s : State) (r value : Nat) : State :=
  let g := s.ring r
  let k := doorbellStep value g.head
  s.setRing r { g with head := value % 2 ^ 32, entries := g.entries.drop k, told := g.told.drop k,
                       overrun := g.overrun && decide (k = 0) }

section
variable {value : Nat} (hb : s.barWrite r = true) (hs : (s.ring r).state = 1)
include hb hs

theorem execDoorbellWrite_tail (hm : moduleToHost r = false)
    (h : (s.ring r).used + doorbellStep value (s.ring r).tail ≤ (s.ring r).size) :
    execDoorbellWrite r value s = .next (s.setRing r { s.ring r with tail := value % 2 ^ 32 }) := by
  rw [execDoorbellWrite, if_pos (by simp [hb, hs]), if_neg (by simp [hm])]
  exact if_neg (Nat.not_lt.mpr h)

theorem execDoorbellWrite_tail_beyond (hm : moduleToHost r = false)
    (h : (s.ring r).size < (s.ring r).used + doorbellStep value (s.ring r).tail) :
    execDoorbellWrite r value s = .next (s.doorbellFails r value) := by
  rw [execDoorbellWrite, if_pos (by simp [hb, hs]), if_neg (by simp [hm])]
  exact if_pos h

theorem execDoorbellWrite_head_beyond (hm : moduleToHost r = true) (h : (s.ring r).used < doorbellStep value (s.ring r).head) :
    execDoorbellWrite r value s = .next (s.doorbellFails r value) := by
  rw [execDoorbellWrite, if_pos (by simp [hb, hs]), if_pos hm]
  exact if_pos h

theorem execDoorbellWrite_head (hm : moduleToHost r = true) (h : doorbellStep value (s.ring r).head ≤ (s.ring r).used) :
    execDoorbellWrite r value s = .next ((s.headMoved r value).roomOpened r) := by
  rw [execDoorbellWrite, if_pos (by simp [hb, hs]), if_pos hm]
  exact if_neg (Nat.not_lt.mpr h)

end

theorem execDoorbellWrite_of_other (h : (s.ring r).state ≠ 1) (value : Nat) : execDoorbellWrite r value s = .next s := by
  simp [execDoorbellWrite, h]

end

end Sys2Proof.Machine
end

section
/-! PROOFS. Messages of the rings, the vectors' table and the drain bound (R248, R256, R262). -/

open Sys2Proof Sys2Proof.Machine

namespace Sys2Proof.Machine

/-! ## A message is sent -/

/-- A ring whose message is sent at a time, or left pending under its mask (R256, R262). -/
def Ring.messaged (g : Ring) (now : Nat) : Ring :=
  let told := g.told ++ List.replicate (g.entries.length - g.told.length) now
  if g.masked then { g with msixPending := true, unsignalled := false, told := told }
  else { g with messages := g.messages + 1, unsignalled := false, told := told }

theorem Ring.messaged_of_unmasked {g : Ring} (h : g.masked = false) (now : Nat) : g.messaged now =
    { g with messages := g.messages + 1, unsignalled := false,
             told := g.told ++ List.replicate (g.entries.length - g.told.length) now } := by
  simp [Ring.messaged, h]

/-- A message changes the rings as it changes its own, also where it starts what answers of ring 63 ask for (R480). -/
theorem State.rings_sendMessage (s : State) (r : Nat) :
    (s.sendMessage r).rings = (s.setRing r ((s.ring r).messaged s.stamp)).rings := by
  have hanswers : ∀ u : State, u.answersSent.rings = u.rings := fun u =>
    (State.answersSent_keeps (m := Area.mask [.timers, .trust]) rfl (Keeps.refl _ u)).same_of_notMem (p := .rings) (by decide)
  unfold State.sendMessage
  extract_lets
  split
  · exact hanswers _
  · rfl

theorem State.ring_sendMessage_same (s : State) (r : Nat) : (s.sendMessage r).ring r = (s.ring r).messaged s.stamp :=
  (State.ring_of_rings (s.rings_sendMessage r) r).trans (State.ring_setRing_same ..)

section
variable {s : State} {r : Nat}

/-- The HOLDOFF of a ring ends with its message (R256). -/
theorem State.armed_sendMessage (h : r ≠ 63) : (s.sendMessage r).armed (tmMsix r) = false := by
  rw [State.sendMessage, if_neg (fun hr => h hr.1)]
  exact State.armed_disarm_same ..

theorem execMsixHoldoffExpired_of_due (hd : s.due (tmMsix r) = true) (hm : s.masters = true) :
    execMsixHoldoffExpired r s = .next (s.sendMessage r) := by
  rw [execMsixHoldoffExpired, if_pos hd, if_pos hm]

theorem execMsixHoldoffExpired_of_running (hd : s.due (tmMsix r) = false) : execMsixHoldoffExpired r s = .next s :=
  if_neg (by simp [hd])

/-! ## The vectors' table -/

theorem State.sendPending_of_none (h : (s.ring r).msixPending = false) : s.sendPending r = s := by
  simp [State.sendPending, h]

theorem State.ring_sendPending_of_pending (hp : (s.ring r).msixPending = true) (hu : (s.ring r).masked = false)
    (hm : s.masters = true) : (s.sendPending r).ring r = { s.ring r with msixPending := false }.messaged s.stamp := by
  rw [State.sendPending, if_pos (by simp [hp, hu, hm]), State.ring_sendMessage_same, State.ring_setRing_same, State.setRing_stamp]

/-- A vector's entry of the table has been written, and its mask taken (R248). -/
def State.vectorWritten (s : State) (r address data control : Nat) : State :=
  { s with pcie := { s.pcie with table := Tab.put (fun _ => (0, 0)) s.pcie.table r (address % 2 ^ 64, data % 2 ^ 32) } }.setRing r
    { s.ring r with masked := bitOf control 0 }

section
variable (address data control : Nat)

theorem execVectorUnmask_of_write (hb : s.barWrite r = true) : execVectorUnmask ⟨r, address, data, control⟩ s =
    .next ((s.vectorWritten r address data control).sendPending r) := if_pos hb

theorem State.ring_vectorWritten_same :
    (s.vectorWritten r address data control).ring r = { s.ring r with masked := bitOf control 0 } := State.ring_setRing_same ..

theorem State.ring_vectorWritten_ne {m : Nat} (h : m ≠ r) : (s.vectorWritten r address data control).ring m = s.ring m :=
  State.ring_setRing_ne _ _ h

theorem State.table_vectorWritten :
    Tab.get (fun _ => (0, 0)) (s.vectorWritten r address data control).pcie.table r = (address % 2 ^ 64, data % 2 ^ 32) :=
  Tab.get_put_same ..

/-- A vector without a message that waits sends none by its write (R256). -/
theorem State.sendPending_vectorWritten_of_none (hp : (s.ring r).msixPending = false) :
    (s.vectorWritten r address data control).sendPending r = s.vectorWritten r address data control :=
  State.sendPending_of_none (by rw [State.ring_vectorWritten_same]; exact hp)

/-- Unmasking sends the message that waits, once (R256). -/
theorem State.ring_sendPending_vectorWritten_of_unmasked (hp : (s.ring r).msixPending = true) (hm : s.masters = true)
    (hc : bitOf control 0 = false) :
    (((s.vectorWritten r address data control).sendPending r).ring r).masked = false ∧
      (((s.vectorWritten r address data control).sendPending r).ring r).msixPending = false ∧
      (((s.vectorWritten r address data control).sendPending r).ring r).messages = (s.ring r).messages + 1 := by
  have hring := State.ring_vectorWritten_same (s := s) (r := r) address data control
  have hu : ((s.vectorWritten r address data control).ring r).masked = false := by
    rw [hring]
    exact hc
  rw [State.ring_sendPending_of_pending (by rw [hring]; exact hp) hu hm, hring]
  simp [Ring.messaged, hc]

end

/-! ## The drain bound -/

/-- A drain overrun of a ring has begun and been counted (R262). -/
def State.overrunCounted (s : State) (r : Nat) : State := (s.setRing r { s.ring r with overrun := true }).bump (K 0x3830 7)

theorem State.ring_overrunCounted (s : State) (r : Nat) : (s.overrunCounted r).ring r = { s.ring r with overrun := true } :=
  State.ring_setRing_same ..

theorem State.n_overrunCounted (s : State) (r : Nat) : (s.overrunCounted r).n (K 0x3830 7) = (s.n (K 0x3830 7) + 1) % 2 ^ 32 :=
  State.n_put_same ..

theorem execDrainBoundExpired_of_late {t0 : Nat} {l : List Nat} (hm : moduleToHost r = true) (hs : (s.ring r).state = 1)
    (hfull : (s.ring r).size ≤ (s.ring r).used) (ho : (s.ring r).overrun = false) (htold : (s.ring r).told = t0 :: l)
    (hlate : t0 + s.n (K 0x3830 6) * 1000 < s.stamp) : execDrainBoundExpired r s =
      .next ((s.overrunCounted r).ringEvent 6 r ((s.overrunCounted r).n (K 0x3830 7))) := by
  simp [execDrainBoundExpired, hm, hs, hfull, ho, htold, hlate, State.overrunCounted]

theorem execDrainBoundExpired_of_other (h : (s.ring r).overrun = true ∨ moduleToHost r = false) :
    execDrainBoundExpired r s = .next s :=
  if_neg (by rcases h with h | h <;> simp [h])

end

end Sys2Proof.Machine
end

section
/-! PROOFS. The link trained (R246, R247, R256, R264, R265; log entries 172 and 193). -/

open Sys2Proof Sys2Proof.Machine

namespace Sys2Proof.Machine

/-! ## A link that trains -/

section
variable {s : State} {speed : Nat} {link : Trained}

/-- The link is up as it has just been trained (R247). -/
def State.linkSame (s : State) (speed width : Nat) : Bool :=
  s.flag (K 0x3830 1) && (decide (s.n (K 0x3830 2) = speed) && decide (s.n (K 0x3830 3) = width))

/-- The link's errors are counted, its function is in D0, and Bus Master Enable is as the host sets it (R246, R256, R264). -/
def State.linkCounted (s : State) (link : Trained) : State :=
  { s with pcie := { s.pcie with busMaster := link.master, d3hot := false } }.bumpBy (K 0x3830 0xB) link.errors

/-- The link's objects show that it is up, and how it has been trained (R247). -/
def State.withLink (s : State) (speed width : Nat) : State :=
  ((s.setb (K 0x3830 1) true).setn (K 0x3830 2) speed).setn (K 0x3830 3) width

/-- The link has been trained, reported by EV100 where that is a change; what the module could not write before is still to follow
(R247, R265). -/
def State.trained (s : State) (speed : Nat) (link : Trained) : State :=
  if s.linkSame speed link.width then s.linkCounted link else ((s.linkCounted link).withLink speed link.width).linkEvent 5

/-- What the module could not write before follows, where it may write now (R256). -/
def State.madeUp (s : State) : State := if s.masters then s.masterOn else s

/-- Making up changes rings, timers, the recorder and the Trust Anchor's answers, and no object. -/
theorem State.madeUp_keeps (s : State) {m : Nat} (hm : Area.mask [.timers, .recorder, .rings, .trust] ||| m = m) : Keeps m s s.madeUp :=
  Keeps.ite (State.masterOn_keeps hm (Keeps.refl m s)) (Keeps.refl m s)

theorem State.n_madeUp (s : State) (k : Nat) : s.madeUp.n k = s.n k := (s.madeUp_keeps (m := Area.objects.allBut) (by decide)).n_eq k

theorem State.flag_madeUp (s : State) (k : Nat) : s.madeUp.flag k = s.flag k :=
  (State.reads_eq ((s.madeUp_keeps (m := Area.objects.allBut) (by decide)).val_eq k)).2.2.1

theorem State.pcie_madeUp (s : State) : s.madeUp.pcie = s.pcie :=
  (s.madeUp_keeps (m := Area.link.allBut) (by decide)).same_of_allBut

theorem State.power_madeUp (s : State) : s.madeUp.power = s.power :=
  (s.madeUp_keeps (m := Area.power.allBut) (by decide)).same_of_allBut

theorem State.madeUp_of_silent {s : State} (h : s.masters = false) : s.madeUp = s := if_neg (by simp [h])

theorem execLinkTrained_of_good (hon : s.on 7 = true) (h1 : 1 ≤ speed) (h5 : speed ≤ 5)
    (hw : link.width = 1 ∨ link.width = 2 ∨ link.width = 4) : execLinkTrained speed link s =
      .next (s.trained speed link).madeUp :=
  if_pos (by rcases hw with h | h | h <;> simp [hon, h1, h5, h])

/-- A speed or a width that there is not is no training. -/
theorem execLinkTrained_cases (speed : Nat) (link : Trained) (s : State) :
    execLinkTrained speed link s = .next s ∨ execLinkTrained speed link s = .next (s.trained speed link).madeUp := by
  unfold execLinkTrained
  split
  · exact .inr rfl
  · exact .inl rfl

theorem State.n_linkCounted {k : Nat} (h : k ≠ K 0x3830 0xB) : (s.linkCounted link).n k = s.n k := State.n_put_ne _ _ h

theorem State.flag_linkCounted {k : Nat} (h : k ≠ K 0x3830 0xB) : (s.linkCounted link).flag k = s.flag k := State.flag_put_ne _ _ h

theorem State.errors_linkCounted : (s.linkCounted link).n (K 0x3830 0xB) = (s.n (K 0x3830 0xB) + link.errors) % 2 ^ 32 :=
  State.n_put_same ..

theorem State.flag_withLink (s : State) (speed width : Nat) : (s.withLink speed width).flag (K 0x3830 1) = true := by
  rw [State.withLink, State.setn_eq, State.setn_eq, State.flag_put_ne _ _ (by decide), State.flag_put_ne _ _ (by decide)]
  exact State.flag_put_same ..

theorem State.n_withLink (s : State) (speed width : Nat) : (s.withLink speed width).n (K 0x3830 1) = 1 ∧
    (s.withLink speed width).n (K 0x3830 2) = speed ∧ (s.withLink speed width).n (K 0x3830 3) = width ∧
      (s.withLink speed width).n (K 0x3830 0xB) = s.n (K 0x3830 0xB) := by
  simp only [State.withLink, State.setn_eq, State.setb_eq]
  refine ⟨?_, ?_, State.n_put_same .., ?_⟩
  · rw [State.n_put_ne _ _ (by decide), State.n_put_ne _ _ (by decide)]
    exact State.n_put_same ..
  · rw [State.n_put_ne _ _ (by decide)]
    exact State.n_put_same ..
  · rw [State.n_put_ne _ _ (by decide), State.n_put_ne _ _ (by decide), State.n_put_ne _ _ (by decide)]

/-- EV100 shows the link as its objects do (R265). -/
theorem State.logged_withLink (s : State) (speed width cause : Nat) :
    ((s.withLink speed width).linkEvent cause).Logged 100 (1 + speed * 256 + width * 65536 + cause * 2 ^ 24) := by
  obtain ⟨hup, hspeed, hwidth, -⟩ := s.n_withLink speed width
  have hlog := (s.withLink speed width).logged_event 100 (1 + speed * 256 + width * 65536 + cause * 2 ^ 24)
  rwa [State.linkEvent, hup, hspeed, hwidth]

/-- A trained link shows that it is up, and its speed and width, and its errors are counted (R247, R264). -/
theorem State.objects_trained : (s.trained speed link).flag (K 0x3830 1) = true ∧ (s.trained speed link).n (K 0x3830 2) = speed ∧
    (s.trained speed link).n (K 0x3830 3) = link.width ∧
      (s.trained speed link).n (K 0x3830 0xB) = (s.n (K 0x3830 0xB) + link.errors) % 2 ^ 32 := by
  unfold State.trained
  split
  · next h =>
    obtain ⟨hup, hspeed, hwidth⟩ : s.flag (K 0x3830 1) = true ∧ s.n (K 0x3830 2) = speed ∧ s.n (K 0x3830 3) = link.width := by
      simpa [State.linkSame] using h
    exact ⟨(State.flag_linkCounted (by decide)).trans hup, (State.n_linkCounted (by decide)).trans hspeed,
      (State.n_linkCounted (by decide)).trans hwidth, State.errors_linkCounted⟩
  · obtain ⟨-, hspeed, hwidth, herrors⟩ := (s.linkCounted link).n_withLink speed link.width
    simp only [State.linkEvent, State.flag_event, State.n_event]
    exact ⟨State.flag_withLink .., hspeed, hwidth, herrors.trans State.errors_linkCounted⟩

theorem State.rest_trained : (s.trained speed link).rings = s.rings ∧ (s.trained speed link).power = s.power ∧
    (s.trained speed link).pcie = { s.pcie with busMaster := link.master, d3hot := false } := by
  unfold State.trained
  split <;> exact ⟨rfl, rfl, rfl⟩

theorem State.masters_trained_of_silent (h : link.master = false) : (s.trained speed link).masters = false := by
  simp [State.masters, s.rest_trained.2.2, h]

/-- A link that trains as it is reports nothing (R247). -/
theorem execLinkTrained_of_same (h : s.linkSame speed link.width = true) (hm : link.master = false) :
    ∃ t, execLinkTrained speed link s = .next t ∧ t.ev = s.ev ∧ t.rings = s.rings := by
  rcases execLinkTrained_cases speed link s with hexec | hexec
  · exact ⟨s, hexec, rfl, rfl⟩
  · refine ⟨_, hexec, ?_⟩
    rw [State.madeUp_of_silent (State.masters_trained_of_silent hm), State.trained, if_pos h]
    exact ⟨rfl, rfl⟩

/-- A trained link is up: PD07 is ON, and the function in D0 (R246, R247). -/
theorem State.linkUp_madeUp_trained (hon : s.on 7 = true) : (s.trained speed link).madeUp.linkUp = true := by
  obtain ⟨-, hpower, hpcie⟩ := s.rest_trained (speed := speed) (link := link)
  have hon' : (s.trained speed link).madeUp.on 7 = true :=
    (State.on_of_power ((State.power_madeUp _).trans hpower) 7).trans hon
  simp [State.linkUp, hon', State.flag_madeUp, State.objects_trained.1, State.pcie_madeUp, hpcie]

end

end Sys2Proof.Machine
end

section
/-! PROOFS. Operations that leave every ring in its state, and what an operation for each of a list brings about (R238, R251, R255,
R256). -/

open Sys2Proof Sys2Proof.Machine

namespace Sys2Proof.Machine

/-! ## An operation for each of a list -/

section
variable {α : Type} {P : State → Prop} {f : State → α → State}

theorem State.each_preserves (hk : ∀ t y, P t → P (f t y)) (l : List α) {s : State} (h : P s) : P (s.each l f) :=
  List.foldlRecOn l f h fun t ht y _ => hk t y ht

/-- What the operation of one member brings about, and no other undoes, holds at the end. -/
theorem State.each_establishes {x : α} (hx : ∀ t, P (f t x)) (hk : ∀ t y, P t → P (f t y)) {l : List α} (hl : x ∈ l) (s : State) :
    P (s.each l f) := by
  induction l generalizing s with
  | nil => cases hl
  | cons y l ih =>
    rcases List.mem_cons.mp hl with rfl | h
    · exact State.each_preserves hk l (hx s)
    · exact ih h (f s y)

end

/-! ## Operations that leave every ring's state -/

/-- Every ring is in the same state, as R251 has it, in both. -/
def State.SameRingStates (s t : State) : Prop := ∀ r, (t.ring r).state = (s.ring r).state

theorem State.SameRingStates.refl (s : State) : s.SameRingStates s := fun _ => rfl

theorem State.SameRingStates.trans {s t u : State} (h : s.SameRingStates t) (k : t.SameRingStates u) : s.SameRingStates u :=
  fun r => (k r).trans (h r)

theorem State.SameRingStates.of_rings {s t : State} (h : t.rings = s.rings) : s.SameRingStates t :=
  fun r => congrArg Ring.state (State.ring_of_rings h r)

theorem State.SameRingStates.of_keeps {s t : State} (h : Keeps Area.rings.allBut s t) : s.SameRingStates t :=
  .of_rings h.same_of_allBut

theorem State.SameRingStates.each {α : Type} {f : State → α → State} (h : ∀ (t : State) x, t.SameRingStates (f t x)) (l : List α)
    (s : State) : s.SameRingStates (s.each l f) :=
  State.each_preserves (P := s.SameRingStates) (fun t x ht => ht.trans (h t x)) l (.refl s)

theorem State.setRing_sameStates (s : State) {r : Nat} {g : Ring} (h : g.state = (s.ring r).state) :
    s.SameRingStates (s.setRing r g) := by
  intro m
  by_cases hm : m = r
  · rw [hm, State.ring_setRing_same, h]
  · rw [State.ring_setRing_ne s g hm]

theorem Ring.state_messaged (g : Ring) (now : Nat) : (g.messaged now).state = g.state := by
  unfold Ring.messaged
  split <;> rfl

theorem State.sendMessage_sameStates (s : State) (r : Nat) : s.SameRingStates (s.sendMessage r) :=
  (s.setRing_sameStates ((s.ring r).state_messaged s.stamp)).trans (.of_rings (s.rings_sendMessage r))

theorem State.announce_sameStates (s : State) (r : Nat) : s.SameRingStates (s.announce r) := by
  unfold State.announce
  extract_lets g ptr told s1
  have h1 : s.SameRingStates s1 := s.setRing_sameStates rfl
  split
  · split
    · exact h1.trans (s1.sendMessage_sameStates r)
    · split
      · exact h1
      · exact h1.trans (.of_rings rfl)
  · exact s.setRing_sameStates rfl

theorem Ring.state_passDone (fuel : Nat) (g : Ring) : (Ring.passDone fuel g).state = g.state := by
  induction fuel generalizing g with
  | zero => rfl
  | succ fuel ih =>
    unfold Ring.passDone
    split
    · rfl
    · exact ih _

theorem State.settleInPlace_sameStates (s : State) (r : Nat) : s.SameRingStates (s.settleInPlace r) := by
  unfold State.settleInPlace
  extract_lets g g1 g2 s1
  have h1 : s.SameRingStates s1 := s.setRing_sameStates (g1.state_passDone _)
  split
  · split
    · exact h1
    · exact h1.trans (s1.announce_sameStates r)
  · exact .refl s

theorem State.completeInPlace_sameStates (s : State) (r entry w6 w7 : Nat) : s.SameRingStates (s.completeInPlace r entry w6 w7) :=
  (s.setRing_sameStates (g := { s.ring r with done := (s.ring r).done ++ [(entry, w6, w7)] }) rfl).trans
    (State.settleInPlace_sameStates _ r)

theorem State.completeLadle_sameStates (s : State) (ch : Nat) (j : LadleJob) (status w7 : Nat) :
    s.SameRingStates (s.completeLadle ch j status w7) :=
  (State.SameRingStates.of_rings (t := ((s.setLadleJob ch none).disarm (tmPace ch)).disarm (tmLockWait ch)) rfl).trans
    (State.completeInPlace_sameStates _ _ _ _ _)

theorem State.endLadleJob_sameStates (s : State) (status address ch : Nat) : s.SameRingStates (s.endLadleJob status address ch) := by
  unfold State.endLadleJob
  split
  · next j _ =>
    have hc : s.SameRingStates ((s.unwait ch).completeLadle ch j status (if status = 0x0A then address else s.stamp)) :=
      (State.SameRingStates.of_rings (t := s.unwait ch) rfl).trans (State.completeLadle_sameStates _ _ _ _ _)
    exact hc.trans (.of_keeps (State.breakLocks_keeps rfl (Keeps.refl _ _)))
  · exact .refl s

theorem State.stopLadle_sameStates (s : State) (kind address : Nat) : s.SameRingStates (s.stopLadle kind address) := by
  have h : s.SameRingStates (s.endLadleJobs 0x0A address) :=
    (State.SameRingStates.of_rings (t := { s with fabric := { s.fabric with lockQueue := [] } }) rfl).trans
      (.each (fun t ch => t.endLadleJob_sameStates 0x0A address ch) _ _)
  refine h.trans (.of_rings ?_)
  simp [State.stopLadle, State.haltLadle]

end Sys2Proof.Machine
end

section
/-! PROOFS. The link lost (R227, R238, R246, R256, R258, R264 to R266; log entries 93 and 193). -/

open Sys2Proof Sys2Proof.Machine

namespace Sys2Proof.Machine

/-- What may change within a set of parts may change within a larger one. -/
theorem Keeps.mono {m m' : Nat} {s t : State} (h : Keeps m s t) (hm : m ||| m' = m') : Keeps m' s t :=
  ⟨h.variant, h.queue, h.sound, fun p hp => h.part p (by
    rw [← hm, Nat.testBit_or, Bool.or_eq_false_iff] at hp
    exact hp.1)⟩

theorem Keeps.trans {m : Nat} {s t u : State} (h : Keeps m s t) (k : Keeps m t u) : Keeps m s u :=
  h.step k.variant k.queue k.sound k.part

/-- When host memory is gone the Ladle may stop at an address, and then its jobs and those of the Crock find none (R238, R258). -/
theorem State.hostGone_cases (s : State) :
    ∃ u : State, (u = s ∨ ∃ a, u = s.stopLadle 5 a) ∧ Keeps (Area.mask [.fabric, .crock]) u s.hostGone := by
  unfold State.hostGone
  extract_lets writing s1 s2
  have h2 : Keeps (Area.mask [.fabric, .crock]) s1 s2 := by
    refine Keeps.each (fun t ch ht => ?_) (Keeps.refl _ s1)
    split
    · exact State.setLadleJob_keeps rfl ht
    · exact ht
  refine ⟨s1, ?_, Keeps.crock (c := Area.mask [.crock]) rfl (by decide) h2⟩
  cases hw : writing with
  | none => exact .inl (by simp only [s1, hw])
  | some a => exact .inr ⟨a, by simp only [s1, hw]⟩

theorem State.hostGone_sameStates (s : State) : s.SameRingStates s.hostGone := by
  obtain ⟨u, hu, hk⟩ := s.hostGone_cases
  have hr : Keeps Area.rings.allBut u s.hostGone := hk.mono (by decide)
  have hsame : s.SameRingStates u := by
    rcases hu with hu | ⟨a, hu⟩
    · rw [hu]
      exact .refl s
    · rw [hu]
      exact s.stopLadle_sameStates 5 a
  exact hsame.trans (.of_keeps hr)

/-- The stop of the Ladle shows in two objects, and a fault may use up an injection; no other object changes (R238, R415). -/
theorem State.n_hostGone (s : State) {k : Nat} (hk : k ∉ [ladk 0x11, ladk 0x12, K 0x2220 5]) : s.hostGone.n k = s.n k := by
  simp only [List.mem_cons, List.not_mem_nil, or_false, not_or] at hk
  obtain ⟨hstate, haddress, hinjection⟩ := hk
  obtain ⟨u, hu, hkeeps⟩ := s.hostGone_cases
  refine ((hkeeps.mono (m' := Area.objects.allBut) (by decide)).n_eq k).trans ?_
  rcases hu with hu | ⟨a, hu⟩
  · rw [hu]
  · rw [hu, State.n_stopLadle _ _ _ hinjection, State.haltLadle, State.n_event, State.setn_eq, State.setn_eq, State.n_put_ne _ _ haddress,
      State.n_put_ne _ _ hstate]
    exact (State.endLadleJobs_keeps (m := Area.objects.allBut) rfl (Keeps.refl _ _)).n_eq k

theorem State.discardIngest_sameStates (s : State) : s.SameRingStates s.discardIngest := by
  unfold State.discardIngest
  extract_lets gone press s1 s2
  have h1 : Keeps (Area.mask [.press]) s s1 := Keeps.press (c := Area.mask [.press]) rfl (by decide) (Keeps.refl _ s)
  have h2 : Keeps (Area.mask [.press]) s s2 := Keeps.each (fun t c ht => Keeps.ite (State.setLane_keeps rfl ht) ht) h1
  have h3 : s2.SameRingStates (s2.each (upFrom 16 12) (fun t r => t.setRing r { t.ring r with open_ := 0, done := [] })) :=
    .each (fun t r => t.setRing_sameStates (g := { t.ring r with open_ := 0, done := [] }) rfl) _ s2
  exact (State.SameRingStates.of_keeps (h2.mono (by decide))).trans (h3.trans (.of_keeps (State.feedCheck_keeps rfl (Keeps.refl _ _))))

/-! ## The steps of the loss -/

/-- The rings take no new entry, and what needed host memory has ended or finds it gone (R251, R258). -/
def State.workEnded (s : State) : State := (s.each (upFrom 0 64) State.drainRingOut).discardIngest.hostGone

/-- The locks of the host break, and the function is in the state that the loss leaves (R227, R246, R256). -/
def State.functionReset (s : State) (cause : Nat) : State :=
  { s.breakLocks 3 with
    pcie := { s.pcie with busMaster := s.pcie.busMaster && decide (cause = 4), d3hot := decide (cause = 4) } }

/-- A vector is masked, with no message pending or to come (R256). -/
def State.maskVector (s : State) (r : Nat) : State :=
  (s.setRing r { s.ring r with masked := true, msixPending := false, unsignalled := false }).disarm (tmMsix r)

/-- Every vector is masked (R256). -/
def State.vectorsMasked (s : State) : State := s.each (upFrom 0 64) State.maskVector

/-- A link that is down shows no speed and no width (R247). -/
def State.linkHidden (s : State) (cause : Nat) : State :=
  if cause = 1 then ((s.setb (K 0x3830 1) false).setn (K 0x3830 2) 0).setn (K 0x3830 3) 0 else s

/-- The loss is counted in `Link downs`, and reported (R264 to R266). -/
def State.lossReported (s : State) (cause : Nat) : State := ((s.bump (K 0x3830 0xC)).linkEvent cause).fault 0x7B 0x8 0

/-- The link has been lost; Ladle jobs to which a lock has passed are still to begin. -/
def State.linkCut (s : State) (cause : Nat) : State :=
  ((s.workEnded.functionReset cause).vectorsMasked.linkHidden cause).lossReported cause

theorem State.linkLost_eq (s : State) (cause : Nat) : s.linkLost cause = (s.linkCut cause).startGranted s.fabric.lockQueue := rfl

theorem State.linkLost_of_no_queue {s : State} (hq : s.fabric.lockQueue = []) (cause : Nat) : s.linkLost cause = s.linkCut cause := by
  rw [State.linkLost_eq, hq]
  rfl

theorem execLinkLoss_of_up {s : State} {cause : Nat} (hl : s.linkUp = true) (h1 : 1 ≤ cause) (h4 : cause ≤ 4) :
    execLinkLoss cause s = .next (s.linkLost cause) := if_pos (by simp [hl, h1, h4])

theorem execLinkLoss_of_down {s : State} (hl : s.linkUp = false) (cause : Nat) : execLinkLoss cause s = .next s :=
  if_neg (by simp [hl])

/-! ## What the loss leaves -/

theorem State.workEnded_keeps (s : State) :
    Keeps (Area.mask [.objects, .timers, .recorder, .rings, .press, .fabric, .crock, .lid, .trust]) s s.workEnded :=
  State.hostGone_keeps rfl (State.discardIngest_keeps rfl (Keeps.each (fun _ _ ht => State.drainRingOut_keeps rfl ht) (Keeps.refl _ s)))

theorem State.functionReset_keeps (s : State) (cause : Nat) :
    Keeps (Area.mask [.timers, .recorder, .fabric, .link]) s (s.functionReset cause) :=
  Keeps.pcie (c := Area.mask [.link]) rfl (by decide) (State.breakLocks_keeps rfl (Keeps.refl _ s))

theorem State.vectorsMasked_keeps (s : State) : Keeps (Area.mask [.timers, .rings]) s s.vectorsMasked :=
  Keeps.each (fun _ _ ht => State.disarm_keeps rfl (State.setRing_keeps rfl ht)) (Keeps.refl _ s)

theorem State.linkHidden_keeps (s : State) (cause : Nat) : Keeps (Area.mask [.objects]) s (s.linkHidden cause) :=
  Keeps.ite (State.setn_keeps rfl (State.setn_keeps rfl (State.setb_keeps rfl (Keeps.refl _ s)))) (Keeps.refl _ s)

theorem State.lossReported_keeps (s : State) (cause : Nat) :
    Keeps (Area.mask [.objects, .recorder, .lid]) s (s.lossReported cause) :=
  State.fault_keeps rfl (State.linkEvent_keeps rfl (State.bump_keeps rfl (Keeps.refl _ s)))

/-- The parts a loss of the link changes before any job begins: neither memory is among them (R258). -/
def lossParts : List Area := [.objects, .timers, .recorder, .rings, .press, .fabric, .crock, .lid, .trust, .link]

theorem State.linkCut_keeps (s : State) (cause : Nat) : Keeps (Area.mask lossParts) s (s.linkCut cause) := by
  have hend := s.workEnded_keeps.mono (m' := Area.mask lossParts) (by decide)
  have hreset := (s.workEnded.functionReset_keeps cause).mono (m' := Area.mask lossParts) (by decide)
  have hmask := (s.workEnded.functionReset cause).vectorsMasked_keeps.mono (m' := Area.mask lossParts) (by decide)
  have hhide := ((s.workEnded.functionReset cause).vectorsMasked.linkHidden_keeps cause).mono (m' := Area.mask lossParts) (by decide)
  exact (((hend.trans hreset).trans hmask).trans hhide).trans ((State.lossReported_keeps _ cause).mono (by decide))

/-- No page is among what a loss of the link changes, with what the jobs then do that begin (R258). -/
theorem State.pages_linkLost (s : State) (cause : Nat) : (s.linkLost cause).pages = s.pages :=
  (State.linkLost_keeps (m := Area.pages.allBut) (by decide) (Keeps.refl _ s)).pages_eq

theorem State.rings_linkCut (s : State) (cause : Nat) :
    (s.linkCut cause).rings = (s.workEnded.functionReset cause).vectorsMasked.rings :=
  ((State.lossReported_keeps _ cause).same_of_notMem (p := .rings) (by decide)).trans
    ((State.linkHidden_keeps _ cause).same_of_notMem (p := .rings) (by decide))

theorem State.ring_maskVector_same (s : State) (r : Nat) :
    (s.maskVector r).ring r = { s.ring r with masked := true, msixPending := false, unsignalled := false } :=
  State.ring_setRing_same ..

theorem State.ring_maskVector_ne (s : State) {y r : Nat} (hr : r ≠ y) : (s.maskVector y).ring r = s.ring r :=
  State.ring_setRing_ne _ _ hr

theorem State.maskVector_sameStates (s : State) (r : Nat) : s.SameRingStates (s.maskVector r) := by
  intro m
  by_cases hm : m = r
  · rw [hm, s.ring_maskVector_same]
  · rw [s.ring_maskVector_ne hm]

section
variable {r : Nat} (hr : r < 64)
include hr

theorem State.masked_vectorsMasked (s : State) : (s.vectorsMasked.ring r).masked = true := by
  refine State.each_establishes (P := fun t => (t.ring r).masked = true) (x := r) (fun t => ?_) (fun t y ht => ?_)
    (mem_upFrom.mpr (by omega)) s
  · rw [t.ring_maskVector_same]
  · by_cases hy : r = y
    · rw [hy, t.ring_maskVector_same]
    · rwa [t.ring_maskVector_ne hy]

theorem State.masked_linkCut (s : State) (cause : Nat) : ((s.linkCut cause).ring r).masked = true := by
  rw [State.ring_of_rings (s.rings_linkCut cause)]
  exact State.masked_vectorsMasked hr _

end

theorem State.state_drainRingOut_same (s : State) (r : Nat) : ((s.drainRingOut r).ring r).state ≠ 1 := by
  by_cases h : (s.ring r).state = 1 ∨ (s.ring r).state = 3
  · rw [State.drainRingOut_of_open h, State.ring_ringEvent, State.ring_disarm, State.ring_setRing_same]
    exact Nat.succ_ne_self 1
  · rw [State.drainRingOut_of_closed h]
    exact fun h1 => h (.inl h1)

theorem State.ring_drainRingOut_ne (s : State) {y r : Nat} (hr : r ≠ y) : (s.drainRingOut y).ring r = s.ring r := by
  by_cases h : (s.ring y).state = 1 ∨ (s.ring y).state = 3
  · rw [State.drainRingOut_of_open h, State.ring_ringEvent, State.ring_disarm, State.ring_setRing_ne _ _ hr]
  · rw [State.drainRingOut_of_closed h]

/-- No ring is ENABLED once each has been drained (R258). -/
theorem State.state_drained {r : Nat} (hr : r < 64) (s : State) : ((s.each (upFrom 0 64) State.drainRingOut).ring r).state ≠ 1 := by
  refine State.each_establishes (P := fun t => (t.ring r).state ≠ 1) (x := r) (fun t => t.state_drainRingOut_same r)
    (fun t y ht => ?_) (mem_upFrom.mpr (by omega)) s
  by_cases hy : r = y
  · exact hy ▸ t.state_drainRingOut_same r
  · rwa [t.ring_drainRingOut_ne hy]

theorem State.linkCut_sameStates (s : State) (cause : Nat) :
    (s.each (upFrom 0 64) State.drainRingOut).SameRingStates (s.linkCut cause) := by
  have hend := (State.discardIngest_sameStates (s.each (upFrom 0 64) State.drainRingOut)).trans (State.hostGone_sameStates _)
  have hreset : s.workEnded.SameRingStates (s.workEnded.functionReset cause) :=
    .of_keeps ((State.functionReset_keeps _ cause).mono (by decide))
  have hmask : (s.workEnded.functionReset cause).SameRingStates (s.workEnded.functionReset cause).vectorsMasked :=
    .each State.maskVector_sameStates _ _
  exact ((hend.trans hreset).trans hmask).trans (.of_rings (s.rings_linkCut cause))

theorem State.state_linkCut {r : Nat} (hr : r < 64) (s : State) (cause : Nat) : ((s.linkCut cause).ring r).state ≠ 1 := by
  rw [s.linkCut_sameStates cause r]
  exact State.state_drained hr s

theorem State.d3hot_linkCut (s : State) (cause : Nat) : (s.linkCut cause).pcie.d3hot = decide (cause = 4) := by
  have h : (s.linkCut cause).pcie = (s.workEnded.functionReset cause).pcie :=
    ((State.lossReported_keeps _ cause).same_of_notMem (p := .link) (by decide)).trans
      (((State.linkHidden_keeps _ cause).same_of_notMem (p := .link) (by decide)).trans
        ((State.vectorsMasked_keeps _).same_of_notMem (p := .link) (by decide)))
  rw [h]
  rfl

/-- `Link downs` counts the loss, whatever its cause (R264; log entry 93). -/
theorem State.linkDowns_linkCut (s : State) (cause : Nat) : (s.linkCut cause).n (K 0x3830 0xC) = (s.n (K 0x3830 0xC) + 1) % 2 ^ 32 := by
  have hreported : ∀ u : State, (u.lossReported cause).n (K 0x3830 0xC) = (u.n (K 0x3830 0xC) + 1) % 2 ^ 32 := fun u => by
    rw [State.lossReported, State.fault_eq, State.n_detect _ _ (by decide), State.linkEvent, State.n_event]
    exact State.n_put_same ..
  have hhidden : ∀ u : State, (u.linkHidden cause).n (K 0x3830 0xC) = u.n (K 0x3830 0xC) := fun u => by
    unfold State.linkHidden
    split
    · simp only [State.setn_eq, State.setb_eq]
      rw [State.n_put_ne _ _ (by decide), State.n_put_ne _ _ (by decide), State.n_put_ne _ _ (by decide)]
    · rfl
  have hended : s.workEnded.n (K 0x3830 0xC) = s.n (K 0x3830 0xC) := by
    have hkeeps : Keeps Area.objects.allBut s (s.each (upFrom 0 64) State.drainRingOut).discardIngest :=
      State.discardIngest_keeps (by decide) (Keeps.each (fun _ _ ht => State.drainRingOut_keeps (by decide) ht) (Keeps.refl _ s))
    exact (State.n_hostGone _ (by decide)).trans (hkeeps.n_eq _)
  have hreset : ((s.workEnded.functionReset cause).vectorsMasked).n (K 0x3830 0xC) = s.workEnded.n (K 0x3830 0xC) :=
    (((State.functionReset_keeps _ cause).mono (by decide)).trans ((State.vectorsMasked_keeps _).mono (by decide))).n_eq _
  rw [State.linkCut, hreported, hhidden, hreset, hended]

end Sys2Proof.Machine

/-- Settles O49: each command by its equation for the case, and what it leaves of the rings, the link's objects and the recorder
by the lemmas above. That a ring in ERROR discards a doorbell is log entry 95, that `Link downs` counts all four causes log
entry 93, the count of the link's errors log entry 172, the subcode of the entry to DRAINING log entry 192, and what becomes
of Bus Master Enable log entry 193. -/
theorem linkAndRings : Obligations.LinkAndRings := by
  unfold Obligations.LinkAndRings
  intro r word part value speed width cause errors address data control w s hr hw
  have hbar : s.linkUp = true → s.barWrite r = true := fun hl => State.barWrite_of_lt hl hr
  refine ⟨?_, ?_, ?_, ?_, ?_, ?_, fun h => execRingDescriptorWrite_of_unwritable h, ?_, ?_, ?_, ?_, fun h => execRingDrained_of_other h,
    fun hl hs hm h => execDoorbellWrite_tail (hbar hl) hs hm h, ?_, ?_, ?_, fun h => execDoorbellWrite_of_other h value,
    fun hd hm => execMsixHoldoffExpired_of_due hd hm, ?_, fun hd => execMsixHoldoffExpired_of_running hd, ?_, ?_, ?_,
    fun h => execDrainBoundExpired_of_other h, ?_, ?_, ?_, ?_, fun hl => execLinkLoss_of_down hl cause⟩
  · rintro hl h0 rfl
    exact hw ▸ execRingDescriptorWrite_base (hbar hl) h0
  · rintro hl h0 rfl
    exact hw ▸ execRingDescriptorWrite_shadow (hbar hl) h0
  · rintro hl h0 rfl
    refine ⟨_, execRingDescriptorWrite_sizes (hbar hl) h0, ?_⟩
    rw [State.ring_setRing_same, ← hw]
    exact ⟨rfl, rfl, h0, fun m hm => State.ring_setRing_ne _ _ hm⟩
  · rintro rfl
    exact hw.trans (mergePart_whole ..)
  · rintro rfl
    exact hw ▸ mergePart_low _ value
  · intro hl h0 hword
    refine ⟨_, execRingDescriptorWrite_of_in_use (hbar hl) hword h0, rfl, ?_⟩
    have hlog := s.logged_ringEvent 5 r word
    rwa [Nat.mod_eq_of_lt (by omega)] at hlog
  · rintro hl h0 rfl hen hgood
    rw [hw] at hen hgood
    have hring := s.ring_ringStarted_same r (s.descriptorWord r 2 part value)
    exact ⟨_, execRingEnable_of_good (hbar hl) h0 hen hgood, congrArg Ring.state hring, congrArg Ring.head hring,
      congrArg Ring.tail hring, by rw [hring]; rfl, s.logged_ringStarted r _, fun m hm => s.ring_ringStarted_ne _ hm⟩
  · rintro hl h0 rfl hen hgood hpresent
    rw [hw] at hen hgood ⊢
    refine ⟨_, execRingEnable_of_bad (hbar hl) h0 hen hgood hpresent, ?_, State.logged_ringEvent ..⟩
    rw [State.ring_ringEvent, State.ring_setRing_same]
    exact h0
  · rintro hl hs rfl hen
    rw [hw] at hen
    obtain ⟨u, hu, hexec⟩ := execRingEnable_of_cleared (data := ⟨part, value⟩) (hbar hl) hs hen
    have hring := State.ring_of_rings hu r
    refine ⟨_, hexec, ?_⟩
    rw [State.drainRingOut_of_open (by rwa [hring]), State.ring_ringEvent, State.ring_disarm, State.ring_setRing_same, hring]
    exact ⟨rfl, rfl, rfl, rfl, State.logged_ringEvent ..⟩
  · intro hs ho
    refine ⟨_, execRingDrained_of_finished hs ho, ?_⟩
    rw [State.ringTo_disabled, State.ring_ringEvent, State.ring_setRing_same]
    exact ⟨rfl, State.logged_ringEvent .., fun m hm => State.ring_setRing_ne _ _ hm⟩
  · intro hl hs hm h
    refine ⟨_, execDoorbellWrite_tail_beyond (hbar hl) hs hm h, ?_⟩
    rw [State.ring_doorbellFails]
    exact ⟨rfl, rfl, State.sent_doorbellFails value, State.logged_doorbellFails value⟩
  · intro hl hs hm h
    refine ⟨_, execDoorbellWrite_head_beyond (hbar hl) hs hm h, ?_⟩
    rw [State.ring_doorbellFails]
    exact ⟨rfl, rfl, State.sent_doorbellFails value⟩
  · intro hl hs hm h
    refine ⟨_, execDoorbellWrite_head (hbar hl) hs hm h, ?_⟩
    rw [State.headMoved, State.ring_setRing_same]
    exact ⟨rfl, rfl⟩
  · intro hd hm hu h63
    refine ⟨_, execMsixHoldoffExpired_of_due hd hm, ?_, ?_, State.armed_sendMessage h63⟩
    all_goals rw [State.ring_sendMessage_same, Ring.messaged_of_unmasked hu]
  · intro hl hp
    refine ⟨_, execVectorUnmask_of_write address data control (hbar hl), ?_⟩
    rw [State.sendPending_vectorWritten_of_none _ _ _ hp, State.ring_vectorWritten_same]
    exact ⟨rfl, rfl, State.table_vectorWritten .., fun m hm => State.ring_vectorWritten_ne _ _ _ hm⟩
  · intro hl hp _ hm hc
    exact ⟨_, execVectorUnmask_of_write address data control (hbar hl),
      State.ring_sendPending_vectorWritten_of_unmasked address data control hp hm hc⟩
  · intro t0 l hm hs hfull ho htold hlate
    refine ⟨_, execDrainBoundExpired_of_late hm hs hfull ho htold hlate, ?_, s.n_overrunCounted r, ?_⟩
    all_goals rw [State.ring_ringEvent, s.ring_overrunCounted]
  · intro master hon h1 h5 hwidth
    obtain ⟨-, hspeed, hwidth', herrors⟩ := s.objects_trained (speed := speed) (link := ⟨width, errors, master⟩)
    obtain ⟨hrings, -, hpcie⟩ := s.rest_trained (speed := speed) (link := ⟨width, errors, master⟩)
    refine ⟨_, execLinkTrained_of_good hon h1 h5 hwidth, State.linkUp_madeUp_trained hon, (State.n_madeUp ..).trans hspeed,
      (State.n_madeUp ..).trans hwidth', by rw [State.pcie_madeUp, hpcie], (State.n_madeUp ..).trans herrors, fun hmaster => ?_⟩
    rw [State.madeUp_of_silent (State.masters_trained_of_silent hmaster), hrings]
  · intro hon h1 h5 hwidth hdown
    refine ⟨_, execLinkTrained_of_good hon h1 h5 hwidth, ?_⟩
    rw [State.madeUp_of_silent (State.masters_trained_of_silent rfl), State.trained, if_neg (by simp [State.linkSame, hdown])]
    exact State.logged_withLink ..
  · intro _ hup hspeed hwidth
    exact execLinkTrained_of_same (by simp [State.linkSame, hup, hspeed, hwidth]) rfl
  · intro hl h1 h4
    refine ⟨execLinkLoss_of_up hl h1 h4, s.pages_linkLost cause, fun hq => ?_⟩
    rw [State.linkLost_of_no_queue hq]
    have hkeeps := s.linkCut_keeps cause
    exact ⟨hkeeps.same_of_notMem (p := .window) (by decide), hkeeps.same_of_notMem (p := .host) (by decide),
      State.masked_linkCut hr s cause, State.state_linkCut hr s cause, s.d3hot_linkCut cause, s.linkDowns_linkCut cause⟩
end

section
/-! PROOFS. The requests of the dictionary service: writes that are carried out, reads, what a rejected write leaves, and what waits
(R268, R270, R271, R273, R274, R276, R278, R279, R288). -/

open Sys2Proof Sys2Proof.Machine

namespace Sys2Proof.Machine

/-! ## Writes that are carried out -/

theorem State.serveWrite_of_writeObject {s t : State} {path : Path} {index sub : Nat} {b : Bytes} {answers : List Frame} {r : Reply}
    (h : s.writeObject path false index sub b answers = (t, r)) :
    s.serveWrite path index sub b answers = (t.noteWrite path index sub r).answered path r := by
  rw [State.serveWrite, h]

/-- An accepted write of an object is carried out and answered as done, whichever row asks for it (R270). -/
theorem State.request_serveWrite_of_accepted {s : State} {path : Path} {index sub : Nat} {b : Bytes} {r : Row}
    (hrow : rowOf index sub = some r) (h0 : index ≠ 0x1010) (h1 : index ≠ 0x1011) (h : s.Accepts path index sub b) (i : Instr)
    (answers : List Frame) : s.request path i (fun t => t.serveWrite path index sub b answers) =
      (s.carryOut path r index sub (r.ty.decode b) answers).done path index sub := by
  obtain ⟨hopen, hserved, ha⟩ := h
  rw [State.request_of_served hopen hserved,
    State.serveWrite_of_writeObject (State.writeObject_of_accepted hrow h0 h1 ha answers), State.done]

/-! ### Store and restore -/

/-- The two objects of the stored set take a UNSIGNED32 in each of the subindexes 1 to 3 (R278, R279). -/
theorem rowKind_storedSet : ∀ sub < 4, 1 ≤ sub →
    rowKind 0x1010 sub = some (.rw, .u32) ∧ rowKind 0x1011 sub = some (.rw, .u32) := by decide

theorem rowOf_of_rowKind {index sub : Nat} {acc : Acc} {ty : Ty} (h : rowKind index sub = some (acc, ty)) :
    ∃ r, rowOf index sub = some r ∧ r.acc = acc := by
  obtain ⟨r, hrow, hkind⟩ := Option.map_eq_some_iff.mp h
  exact ⟨r, hrow, congrArg Prod.fst hkind⟩

theorem State.carryOut_store {r : Row} (hr : r.acc ≠ .cmd) (s : State) (path : Path) (sub : Nat) (v : Val) (answers : List Frame) :
    s.carryOut path r 0x1010 sub v answers = s.noted.storePart sub := by
  rw [State.carryOut, if_neg hr, if_pos rfl, State.noted]

theorem State.carryOut_restore {r : Row} (hr : r.acc ≠ .cmd) (s : State) (path : Path) (sub : Nat) (v : Val)
    (answers : List Frame) : s.carryOut path r 0x1011 sub v answers = s.noted.restorePart sub := by
  rw [State.carryOut, if_neg hr, if_neg (by decide), if_pos rfl, State.noted]

section
variable {s : State} {path : Path} {index sub : Nat} {b : Bytes} {r : Row}

/-- With a partition that takes a record an accepted write is carried out, one of the stored set too (R278). -/
theorem State.writeObject_of_partition (hrow : rowOf index sub = some r) (hstore : s.storeFails = false)
    (ha : s.writeAbort path false index sub b = none) (answers : List Frame) :
    s.writeObject path false index sub b answers = (s.carryOut path r index sub (r.ty.decode b) answers, {}) := by
  unfold State.writeObject
  simp only [ha, hrow, hstore, Bool.false_eq_true, and_false, if_false]

/-- A store that the partition does not take is reported in EV103 subcode 4 and aborted (R278). -/
theorem State.writeObject_of_no_partition (hrow : rowOf 0x1010 sub = some r) (hstore : s.storeFails = true)
    (ha : s.writeAbort path false 0x1010 sub b = none) (answers : List Frame) :
    s.writeObject path false 0x1010 sub b answers = (s.event 103 4, Reply.aborted (0x08000020, 0x0D11)) := by
  unfold State.writeObject
  simp only [ha, hrow, hstore, true_or, true_and, if_true]

theorem State.writeRow_of_partition (h : s.Accepts path index sub b) (hrow : rowOf index sub = some r)
    (hstore : s.storeFails = false) :
    s.writeRow path index sub b = (s.carryOut path r index sub (r.ty.decode b) []).done path index sub := by
  obtain ⟨hopen, hserved, ha⟩ := h
  rw [State.writeRow, State.request_of_served hopen hserved,
    State.serveWrite_of_writeObject (State.writeObject_of_partition hrow hstore ha []), State.done]

theorem State.writeRow_store_of_no_partition (h : s.Accepts path 0x1010 sub b) (hrow : rowOf 0x1010 sub = some r)
    (hstore : s.storeFails = true) :
    s.writeRow path 0x1010 sub b = (s.event 103 4).answered path { status := 1, abort := 0x08000020, detail := 0x0D11 } := by
  obtain ⟨hopen, hserved, ha⟩ := h
  rw [State.writeRow, State.request_of_served hopen hserved,
    State.serveWrite_of_writeObject (State.writeObject_of_no_partition hrow hstore ha []), State.noteWrite, if_neg (by decide)]
  rfl

end

/-! ## Reads -/

theorem State.fieldRequest_of_served {s : State} (ho : s.pathOpen .ethercat = true) (hs : s.served = true) (i : Instr) :
    s.fieldRequest i = s.serveWaiting i := State.request_of_served ho hs i _

/-- Over EtherCAT an answer changes no object but the counts of SDO requests and aborts (R289). -/
theorem State.val_answered_ethercat (s : State) (r : Reply) {k : Nat} (h4 : k ≠ K 0x2060 4) (h5 : k ≠ K 0x2060 5) :
    (s.answered .ethercat r).val k = s.val k :=
  (State.val_when (fun t => t.val_put_ne _ h5) _ _).trans (State.val_put_ne s _ h4)

theorem State.ethercat_answered (s : State) (r : Reply) : (s.answered .ethercat r).svc.ethercat = r := by
  rw [State.svc_answered_ethercat]

/-- A command that is an answer over EtherCAT and nothing else leaves all but the two counts and the service as it was. -/
theorem exec_of_answered {c : Instr} {s : State} {r : Reply} (h : exec c s = .next (s.answered .ethercat r)) :
    ∃ t, exec c s = .next t ∧ t.svc.ethercat = r ∧ (∀ k, k ≠ K 0x2060 4 → k ≠ K 0x2060 5 → t.val k = s.val k) ∧
      (∀ p : Area, p ≠ .objects → p ≠ .service → State.same p s t) :=
  ⟨_, h, s.ethercat_answered r, fun _ => s.val_answered_ethercat r, fun _ => s.same_answered .ethercat r⟩

/-! ## Writes that are rejected -/

/-- A complete write is whole or nothing: of another record than the stored set it leaves the state or is answered as done (R276). -/
theorem State.writeComplete_whole (s : State) (path : Path) {index : Nat} (h0 : index ≠ 0x1010) (h1 : index ≠ 0x1011) (start : Nat)
    (b : Bytes) : (s.writeComplete path index start b).1 = s ∨ (s.writeComplete path index start b).2 = {} := by
  unfold State.writeComplete
  split
  · exact .inl rfl
  · extract_lets shape fixed varies parts values w
    split
    · exact .inl rfl
    · split
      · exact .inl rfl
      · rw [if_neg (not_or.mpr ⟨h0, h1⟩)]
        exact .inr rfl

/-- So is a write of one object (R274). -/
theorem State.writeObject_whole (s : State) (path : Path) (pdo : Bool) {index : Nat} (h0 : index ≠ 0x1010) (h1 : index ≠ 0x1011)
    (sub : Nat) (b : Bytes) (answers : List Frame) :
    (s.writeObject path pdo index sub b answers).1 = s ∨ (s.writeObject path pdo index sub b answers).2 = {} := by
  unfold State.writeObject
  split
  · exact .inl rfl
  · exact .inl rfl
  · rw [if_neg fun h => (not_or.mpr ⟨h0, h1⟩) h.1]
    exact .inr rfl

/-! ## Requests that wait -/

theorem State.request_of_unserved {s : State} {path : Path} (ho : s.pathOpen path = true) (hs : s.served = false) (i : Instr)
    (f : State → State) : s.request path i f = s.stall i := by
  simp [State.request, ho, hs]

/-- A request that waits stands behind those that wait already. -/
theorem State.stalled_stall (s : State) (i : Instr) : (s.stall i).svc.stalled = s.svc.stalled ++ [i] := by
  unfold State.stall
  split <;> rfl

/-- It changes no object but the count of stalls. -/
theorem State.val_stall (s : State) (i : Instr) {k : Nat} (h : k ≠ K 0x2060 0xA) : (s.stall i).val k = s.val k := by
  unfold State.stall
  split
  · exact State.val_put_ne _ _ h
  · rfl

theorem State.stalls_stall_of_gap {s : State} (h : s.twin.switching = true) (i : Instr) :
    (s.stall i).n (K 0x2060 0xA) = (s.n (K 0x2060 0xA) + 1) % 2 ^ 32 := by
  rw [State.stall, if_pos h, State.bump_eq]
  exact State.n_put_same ..

theorem State.stalls_stall_of_no_gap {s : State} (h : s.twin.switching = false) (i : Instr) :
    (s.stall i).n (K 0x2060 0xA) = s.n (K 0x2060 0xA) := by
  rw [State.stall, if_neg (by simp [h])]
  rfl

end Sys2Proof.Machine

/-- Settles O9: an accepted write is its object's row of the table carried out; the rows of the stored set are no commands, so
they store or restore, where the partition takes a record. That a restore needs such a partition, and how a store that finds none
is answered, is the model's reading (log entries 115 and 125; R275, R290). -/
theorem dictionaryWritesDone : Obligations.DictionaryWritesDone := by
  unfold Obligations.DictionaryWritesDone
  intro path index sub value data answers r s
  refine ⟨fun hrow h0 h1 h => ?_, fun hrow h0 h1 h => ?_, fun hlo hhi h hstore => ?_, fun hlo hhi h hstore => ?_,
    fun hlo hhi h hstore => ?_⟩
  · rw [exec_dictionaryWrite, execDictionaryWrite, State.request_serveWrite_of_accepted hrow h0 h1 h]
  · rw [exec_sdoDownload, execSdoDownload, State.request_serveWrite_of_accepted hrow h0 h1 h]
  · obtain ⟨row, hrow, hacc⟩ := rowOf_of_rowKind (rowKind_storedSet sub (by omega) hlo).1
    rw [exec_storeParameters, execStoreParameters, State.writeRow_of_partition h hrow hstore, State.carryOut_store (by simp [hacc])]
  · obtain ⟨row, hrow, hacc⟩ := rowOf_of_rowKind (rowKind_storedSet sub (by omega) hlo).2
    rw [exec_restoreDefaultParameters, execRestoreDefaultParameters, State.writeRow_of_partition h hrow hstore,
      State.carryOut_restore (by simp [hacc])]
  · obtain ⟨row, hrow, -⟩ := rowOf_of_rowKind (rowKind_storedSet sub (by omega) hlo).1
    rw [exec_storeParameters, execStoreParameters, State.writeRow_store_of_no_partition h hrow hstore]

/-- Settles O11: a read is its answer and nothing else, and a complete write is answered with the outcome of the record's. -/
theorem sdoReads : Obligations.SdoReads := by
  unfold Obligations.SdoReads
  intro index sub start data s ho hs
  have served : ∀ i, s.fieldRequest i = s.serveWaiting i := State.fieldRequest_of_served ho hs
  have answers : ∀ {c i r}, exec c s = .next (s.fieldRequest i) → s.serveWaiting i = s.answered .ethercat r →
      exec c s = .next (s.answered .ethercat r) := fun hc hi => hc.trans (congrArg _ ((served _).trans hi))
  refine ⟨exec_of_answered (answers (exec_sdoUpload ..) (if_pos ho)),
    exec_of_answered (answers (exec_sdoCompleteAccess ..) (if_pos ho)), ?_,
    exec_of_answered (answers (exec_getOdList ..) (if_pos ho)),
    exec_of_answered (answers (exec_getObjectDescription ..) (if_pos ho)),
    exec_of_answered (answers (exec_getEntryDescription ..) (if_pos ho))⟩
  have hwrite : s.serveWaiting (.sdoCompleteAccess true index start data) = s.serveComplete .ethercat index start data := if_pos ho
  rw [exec_sdoCompleteAccess, execSdoCompleteAccess, served, hwrite]
  exact ⟨_, rfl, State.ethercat_answered ..⟩

/-- Settles O12: what changes the state is answered as done, so that an abort stands for a state left as it was. -/
theorem completeWriteIsWholeOrNothing : Obligations.CompleteWriteIsWholeOrNothing := by
  unfold Obligations.CompleteWriteIsWholeOrNothing
  intro path index sub data answers s h0 h1
  have hdone : ∀ {r : Reply}, r.status ≠ 0 → r ≠ {} := by
    rintro r h rfl
    exact h rfl
  exact ⟨fun h => (s.writeComplete_whole path h0 h1 sub data).resolve_right (hdone h),
    fun h => (s.writeObject_whole path false h0 h1 sub data answers).resolve_right (hdone h)⟩

/-- Settles O15: a write that nothing serves is put behind those that wait. That the stall counts in a switch-over gap only is
the model's reading (log entry 120). -/
theorem requestsWaitInTheGap : Obligations.RequestsWaitInTheGap := by
  unfold Obligations.RequestsWaitInTheGap
  intro path index sub data answers s ho hs
  refine ⟨s.stall (.dictionaryWrite path index sub data answers), ?_, s.stalled_stall _, fun _ => s.val_stall _,
    fun h => State.stalls_stall_of_gap h _, fun h => State.stalls_stall_of_no_gap h _⟩
  rw [exec_dictionaryWrite, execDictionaryWrite, State.request_of_unserved ho hs]
end

section
/-! PROOFS. The EtherCAT state machine, its process data and its ports (R269, R283, R284, R289). -/

open Sys2Proof Sys2Proof.Machine

namespace Sys2Proof.Machine

/-! ## A change of state -/

/-- Leaving OP writes nothing of the service. -/
theorem State.svc_leaveOp (s : State) : s.leaveOp.svc = s.svc :=
  (State.leaveOp_keeps (m := 1114422) rfl (Keeps.refl _ s)).part .service (by decide)

/-- Unless admission is to stop, leaving OP is its event record (R284). -/
theorem State.leaveOp_of_other_action {s : State} (h : s.n (K 0x2060 2) ≠ 1) :
    s.leaveOp = s.event 102 (2 + s.n (K 0x2060 2) * 256) := by
  rw [State.leaveOp, if_neg h]

section
variable {s : State} {new : Nat} (hold : s.n (K 0x2060 1) ≠ new) (hnew : new ≠ 1)
include hold hnew

/-- A change to another state than INIT shows in the AL status code, and below SAFEOP what was received counts no more (R269). -/
theorem State.svc_setEsm (al : Nat) :
    (s.setEsm new al).svc = { s.svc with alStatus := al, rxSeen := s.svc.rxSeen && decide (4 ≤ new) } := by
  unfold State.setEsm
  extract_lets old q s1 s2 s3
  have h2 : s2.svc = s.svc := by
    unfold s2
    split
    · exact s1.svc_leaveOp
    · rfl
  rw [if_neg hold, if_neg hnew]
  exact congrArg (fun v : Service => { v with alStatus := al, rxSeen := v.rxSeen && decide (4 ≤ new) }) h2

/-- It changes the ESM state, and no other object unless OP is left with admission to stop (R284). -/
theorem State.val_setEsm (haction : s.n (K 0x2060 1) = 8 → s.n (K 0x2060 2) ≠ 1) (al k : Nat) :
    (s.setEsm new al).val k = (s.setn (K 0x2060 1) new).val k := by
  unfold State.setEsm
  extract_lets old q s1 s2 s3
  have h2 : s2.val k = s1.val k := by
    unfold s2
    split
    · next h =>
      have h1 : s1.n (K 0x2060 2) ≠ 1 := by
        rw [State.n_event, State.setn_eq, State.n_put_ne _ _ (by decide)]
        exact haction h
      rw [State.leaveOp_of_other_action h1, State.val_event]
    · rfl
  rw [if_neg hold, if_neg hnew]
  exact h2

theorem State.esm_setEsm (haction : s.n (K 0x2060 1) = 8 → s.n (K 0x2060 2) ≠ 1) (al : Nat) :
    (s.setEsm new al).n (K 0x2060 1) = new := by
  rw [(State.reads_eq (State.val_setEsm hold hnew haction al _)).2.1, State.setn_eq, State.n_put_same]
  rfl

theorem State.val_setEsm_ne (haction : s.n (K 0x2060 1) = 8 → s.n (K 0x2060 2) ≠ 1) (al : Nat) {k : Nat} (hk : k ≠ K 0x2060 1) :
    (s.setEsm new al).val k = s.val k :=
  (State.val_setEsm hold hnew haction al k).trans (s.val_put_ne _ hk)

end

/-! ## Requests of the master -/

/-- No transition waits: a new request replaces one that does (R269). -/
def State.unwaited (s : State) : State := { s with svc := { s.svc with esmWaiting := 0 } }

theorem State.n_unwaited (s : State) (k : Nat) : s.unwaited.n k = s.n k := rfl

/-- From a state below OP a change leads to the new state (R269). -/
theorem State.esm_unwaited_setEsm {s : State} {old new : Nat} (hold : s.n (K 0x2060 1) = old) (hop : old ≠ 8) (hne : old ≠ new)
    (hnew : new ≠ 1) (al : Nat) : (s.unwaited.setEsm new al).n (K 0x2060 1) = new := by
  rw [← s.n_unwaited] at hold
  subst hold
  exact State.esm_setEsm hne hnew (fun h => (hop h).elim) al

section
variable {s : State} {new : Nat}

/-- A fall is taken whatever the conditions (R269). -/
theorem State.requestEsm_of_fall (hnew : new = 1 ∨ new = 2 ∨ new = 4) (h : new < s.n (K 0x2060 1)) (managers : List Nat)
    (sync0 : Bool) : s.requestEsm new managers sync0 = s.unwaited.setEsm new 0 := by
  simp only [State.requestEsm, if_neg (Nat.ne_of_lt h), if_pos (And.intro h hnew), State.unwaited]

theorem State.requestEsm_of_init (hold : s.n (K 0x2060 1) = 1) (hup : s.twin.dictionaryUp = true) (sync0 : Bool) :
    s.requestEsm 2 mailboxBytes sync0 = s.unwaited.setEsm 2 0 := by
  simp [State.requestEsm, hold, hup, State.unwaited]

theorem State.requestEsm_of_preop (hold : s.n (K 0x2060 1) = 2) {sync0 : Bool} (h : s.safeopRefusal sync0 = 0)
    (managers : List Nat) : s.requestEsm 4 managers sync0 = s.unwaited.setEsm 4 0 := by
  have h' : s.unwaited.safeopRefusal sync0 = 0 := h
  rw [State.unwaited] at h'
  simp [State.requestEsm, hold, h', State.unwaited]

theorem State.requestEsm_of_safeop (hold : s.n (K 0x2060 1) = 4) (h : s.svc.rxSeen = true) (managers : List Nat) (sync0 : Bool) :
    s.requestEsm 8 managers sync0 = s.unwaited.setEsm 8 0 := by
  simp [State.requestEsm, hold, h, State.unwaited]

/-- SAFEOP is left for OP only once process data have been received (R269). -/
theorem State.requestEsm_of_nothing_received (hold : s.n (K 0x2060 1) = 4) (h : s.svc.rxSeen = false) (managers : List Nat)
    (sync0 : Bool) : s.requestEsm 8 managers sync0 = s.unwaited.refuseEsm 0x1B := by
  simp [State.requestEsm, hold, h, State.unwaited]

end

theorem execEsmStateRequest_of_on {s : State} (hon : s.on 8 = true) (new : Nat) (managers : List Nat) (sync0 : Bool) :
    execEsmStateRequest new managers sync0 s = .next (s.requestEsm new managers sync0) := if_pos hon

theorem execSm2WatchdogExpired_of_op {s : State} (hon : s.on 8 = true) (h : s.n (K 0x2060 1) = 8) :
    execSm2WatchdogExpired s = .next (s.setEsm 4 0x1B) := if_pos (by simp [hon, h])

/-! ## Process data -/

/-- The TxPDO image of this grid step is what goes out (R283). -/
def State.sampled (s : State) : State := { s with svc := { s.svc with txLast := s.txImage } }

theorem State.n_sampled (s : State) (k : Nat) : s.sampled.n k = s.n k := rfl

section
variable {s : State} (hon : s.on 8 = true) (hs : s.served = true)
include hon hs

theorem execPdoCycle_of_nothing_received (h : 4 ≤ s.n (K 0x2060 1)) : execPdoCycle none s = .next s.sampled := by
  simp [execPdoCycle, hon, hs, h, State.sampled]

/-- The image is sampled before what is received is applied (R283). -/
theorem execPdoCycle_of_received (h : 4 ≤ s.n (K 0x2060 1)) (rx : Bytes) :
    execPdoCycle (some rx) s = .next (s.sampled.receivePdo rx) := by
  simp [execPdoCycle, hon, hs, h, State.sampled]

end

theorem State.receivePdo_of_op {s : State} (h : s.n (K 0x2060 1) = 8) (hs : s.served = true) (rx : Bytes) :
    s.receivePdo rx = s.applyRx rx := by
  rw [State.receivePdo, if_pos h, if_pos hs]

theorem State.receivePdo_of_not_op {s : State} (h : s.n (K 0x2060 1) ≠ 8) (rx : Bytes) :
    s.receivePdo rx = { s with svc := { s.svc with rxSeen := true } } := if_neg h

/-! ## The ports -/

/-- `Port links` shows the links, and the receive errors are counted (R289). -/
def State.portsShown (s : State) (links errors : Nat) : State := (s.bumpBy (K 0x2060 9) errors).setn (K 0x2060 8) links

theorem State.links_portsShown (s : State) (links errors : Nat) : (s.portsShown links errors).n (K 0x2060 8) = links := by
  rw [State.portsShown, State.setn_eq, State.n_put_same, Int.toNat_natCast]

theorem State.errors_portsShown (s : State) (links errors : Nat) :
    (s.portsShown links errors).n (K 0x2060 9) = (s.n (K 0x2060 9) + errors) % 2 ^ 32 := by
  rw [State.portsShown, State.setn_eq, State.n_put_ne _ _ (by decide), State.bumpBy_eq, State.n_put_same, Int.toNat_natCast]

theorem State.val_portsShown (s : State) (links errors : Nat) {k : Nat} (h8 : k ≠ K 0x2060 8) (h9 : k ≠ K 0x2060 9) :
    (s.portsShown links errors).val k = s.val k :=
  (State.val_put_ne _ _ h8).trans (s.val_put_ne _ h9)

/-- A record carries nothing of the ports. -/
theorem State.record_portsShown (s : State) (links errors type source payload : Nat) (firmware : Bool) :
    (s.portsShown links errors).record type source payload firmware = s.record type source payload firmware := by
  refine State.record_of_same (s := s) (t := s.portsShown links errors) rfl rfl rfl (fun k hk => ?_) ..
  have hports : k ≠ K 0x2060 8 ∧ k ≠ K 0x2060 9 := by
    revert k
    decide
  exact (State.reads_eq (s.val_portsShown links errors hports.1 hports.2)).2.1

theorem execPortLinkChange_of_change {s : State} {links : Nat} (hon : s.on 8 = true) (hl : links < 4) (h : s.n (K 0x2060 8) ≠ links)
    (errors : Nat) : execPortLinkChange ⟨links, errors⟩ s = .next ((s.portsShown links errors).event 102 (4 + links * 256)) := by
  simp only [execPortLinkChange, hon, if_true, Nat.mod_eq_of_lt hl, if_neg h, State.portsShown]

end Sys2Proof.Machine

/-- Settles O14: a request that is taken is the change of state, whose effect on the service and on the objects
`State.svc_setEsm` and `State.val_setEsm` say; a cycle is the image sampled and what was received; a change of the links is
`State.portsShown` and its record. -/
theorem fieldNetwork : Obligations.FieldNetwork := by
  unfold Obligations.FieldNetwork
  intro s managers sync0 links errors new hon
  simp only [exec_esmStateRequest, exec_pdoCycle, exec_sm2WatchdogExpired, exec_portLinkChange, execEsmStateRequest_of_on hon]
  refine ⟨fun hold hm hup => ?_, fun hold h => ?_, fun hold h => ?_, fun hold h => ?_, fun hlo hs => ?_, fun hop haction => ?_,
    fun hop _ => ?_, fun hl hne => ?_, fun hsafe hs => ?_, fun rx hop hs => ?_, fun hnew hlt haction => ?_⟩
  · subst hm
    rw [State.requestEsm_of_init hold hup]
    exact ⟨_, rfl, State.esm_unwaited_setEsm hold (by decide) (by decide) (by decide) 0⟩
  · rw [State.requestEsm_of_preop hold h]
    exact ⟨_, rfl, State.esm_unwaited_setEsm hold (by decide) (by decide) (by decide) 0⟩
  · rw [State.requestEsm_of_safeop hold h]
    exact ⟨_, rfl, State.esm_unwaited_setEsm hold (by decide) (by decide) (by decide) 0⟩
  · rw [State.requestEsm_of_nothing_received hold h]
    exact ⟨_, rfl, hold, rfl⟩
  · exact ⟨_, execPdoCycle_of_nothing_received hon hs hlo, rfl, fun _ => rfl⟩
  · have hold : s.n (K 0x2060 1) ≠ 4 := by simp [hop]
    have hsvc := State.svc_setEsm hold (by decide) 0x1B
    exact ⟨_, execSm2WatchdogExpired_of_op hon hop, State.esm_setEsm hold (by decide) (fun _ => haction) _, by rw [hsvc],
      by simp [hsvc], fun _ => State.val_setEsm_ne hold (by decide) (fun _ => haction) _⟩
  · refine ⟨_, execSm2WatchdogExpired_of_op hon hop, ?_⟩
    rw [State.svc_setEsm (by simp [hop]) (by decide)]
  · refine ⟨_, execPortLinkChange_of_change hon hl hne errors, s.links_portsShown links errors, s.errors_portsShown links errors,
      ?_, fun _ => s.val_portsShown links errors⟩
    rw [State.event_held, State.record_portsShown]
    rfl
  · refine ⟨_, execPdoCycle_of_received hon hs (by omega) [], ?_⟩
    have hop : s.sampled.n (K 0x2060 1) ≠ 8 := by
      rw [State.n_sampled, hsafe]
      decide
    rw [State.receivePdo_of_not_op hop]
    exact ⟨rfl, rfl, fun _ => rfl⟩
  · rw [execPdoCycle_of_received hon hs (by omega), State.receivePdo_of_op (s := s.sampled) hop hs, State.sampled]
  · have hold : s.unwaited.n (K 0x2060 1) ≠ new := Nat.ne_of_gt hlt
    have hinit : new ≠ 1 := by omega
    have hop : s.unwaited.n (K 0x2060 1) = 8 → s.unwaited.n (K 0x2060 2) ≠ 1 := fun h =>
      haction.resolve_left (Nat.not_lt.mpr (Nat.le_of_eq (Eq.symm h)))
    rw [State.requestEsm_of_fall (.inr hnew) hlt]
    refine ⟨_, rfl, State.esm_setEsm hold hinit hop 0, ?_, fun k hk => State.val_setEsm_ne hold hinit hop 0 hk⟩
    rw [State.svc_setEsm hold hinit]
end

section
/-! PROOFS. What a change of a channel's drive state leaves, and the polygon that follows it (R67, R293, R297, R317). -/

open Sys2Proof Sys2Proof.Machine

namespace Sys2Proof.Machine

/-! ## The objects of a channel -/

/-- Two objects of a channel are one where module and subindex are. -/
theorem dk_ne_dk {c m a m' b : Nat} (h : m * 256 + a ≠ m' * 256 + b) : dk c m a ≠ dk c m' b := by
  intro e
  have e' : (0x4100 + 16 * c + m) * 256 + a = (0x4100 + 16 * c + m') * 256 + b := e
  omega

theorem dk_lt {c m sub : Nat} (hc : c ≤ 10) (hm : m ≤ 3) (hs : sub < 256) : dk c m sub < K 0x4800 0 := by
  simp only [dk, K]
  omega

/-- No object of a channel is the count of the injection that a fault may use up (R415). -/
theorem dk_ne_injection {c m sub : Nat} : dk c m sub ≠ K 0x2220 5 := by
  intro e
  have e' : (0x4100 + 16 * c + m) * 256 + sub = 0x2220 * 256 + 5 := e
  omega

theorem driveOf_channel (c : Nat) : driveOf (0x4100 + 16 * c) = c := by
  unfold driveOf
  omega

theorem channel_le_of_driveOn {s : State} {c : Nat} (h : s.driveOn c = true) : c ≤ 10 := by
  simp only [State.driveOn, State.driveThere, Bool.and_eq_true, decide_eq_true_eq] at h
  omega

/-! ## The polygon that follows -/

theorem Keeps.drive_eq {s t : State} (h : Keeps Area.drives.allBut s t) (c : Nat) : t.drive c = s.drive c := by
  unfold State.drive
  rw [show t.drives = s.drives from h.same_of_allBut]

/-- Where a channel's speed comes from is all of a drive that its polygon changes (R293). -/
theorem State.advance_feedback (s : State) (c : Nat) (byFacet : Bool) (j : Nat) :
    ((s.feedback c byFacet).drive j).advance = (s.drive j).advance := by
  have hset : ((s.setDrive c { s.drive c with byFacet := byFacet }).drive j).advance = (s.drive j).advance := by
    by_cases hj : j = c
    · rw [hj, State.drive_setDrive_same]
    · rw [State.drive_setDrive_ne _ _ hj]
  unfold State.feedback
  extract_lets s1
  split
  · rfl
  · split <;> exact hset

theorem State.advance_feedback_of_keeps {s t : State} (h : Keeps Area.drives.allBut s t) (c : Nat) (byFacet : Bool) (j : Nat) :
    ((t.feedback c byFacet).drive j).advance = (s.drive j).advance := by
  rw [State.advance_feedback, h.drive_eq]

theorem State.advance_refreshLock (s : State) (p j : Nat) : ((s.refreshLock p).drive j).advance = (s.drive j).advance := by
  have hidle : ((s.polygonIdle p).drive j).advance = (s.drive j).advance :=
    State.advance_feedback_of_keeps (State.setn_keeps (by decide) (State.setPolygon_keeps (by decide) (State.disarm_keeps (by decide)
      (State.setReference_keeps (by decide) (State.setIdentity_keeps (by decide) (State.setLock__keeps (by decide)
        (Keeps.refl _ s))))))) ..
  have hloss : ((s.syncLoss p).drive j).advance = (s.drive j).advance :=
    State.advance_feedback_of_keeps (State.fault_keeps (by decide) (State.setIdentity_keeps (by decide) (State.setLock__keeps (by decide)
      (Keeps.refl _ s)))) ..
  unfold State.refreshLock
  extract_lets eng l
  split
  · split
    · rw [(State.seek_keeps (by decide) (Keeps.refl _ s)).drive_eq]
    · rfl
  · split
    · exact hidle
    · split
      · exact hloss
      · rfl

theorem State.advance_refreshPolygon (s : State) (p j : Nat) :
    ((s.refreshPolygon p).drive j).advance = (s.drive j).advance := by
  rw [State.refreshPolygon, State.advance_refreshLock,
    (Keeps.foldl (fun _ _ ht => State.refreshSync_keeps (by decide) ht) (Keeps.refl _ (s.refreshLock p))).drive_eq,
    State.advance_refreshLock]

/-! ## A change of state -/

/-- A channel has gone to a state, with EV108 recorded and no sector announced; of the objects below the loop slots' its state,
`At speed` and `Duty` alone may have changed (R297, R317). -/
structure State.DriveMoved (s u : State) (c new cause : Nat) : Prop where
  state : u.driveState c = new
  logged : u.Logged 108 (new + s.driveState c * 256 + c * 65536 + cause * 2 ^ 24)
  advance : (u.drive c).advance = none
  lid : u.lid = s.lid
  n_eq : ∀ k < K 0x4800 0, k ∉ [dk c 0 0xC, dk c 0 0xE, dk c 0 0xF] → u.n k = s.n k

namespace State.DriveMoved

variable {s u : State} {c new cause : Nat}

/-- What changes `At speed`, `Duty` and objects of the loop slots at most, and no drive, leaves it so. -/
theorem step (h : s.DriveMoved u c new cause) {t : State} (hc : c ≤ 10) (hd : t.drives = u.drives) (hl : t.lid = u.lid)
    (hstamp : t.stamp = u.stamp) (hh : ∀ r ∈ u.ev.held, r ∈ t.ev.held)
    (hn : ∀ k < K 0x4800 0, k ≠ dk c 0 0xE → k ≠ dk c 0 0xF → t.n k = u.n k) : s.DriveMoved t c new cause where
  state := (hn _ (dk_lt hc (by decide) (by decide)) (dk_ne_dk (by decide)) (dk_ne_dk (by decide))).trans h.state
  logged := State.logged_of_held h.logged hstamp hh
  advance := by
    unfold State.drive
    rw [hd]
    exact h.advance
  lid := hl.trans h.lid
  n_eq k hk hne := by
    simp only [List.mem_cons, List.not_mem_nil, or_false, not_or] at hne
    rw [hn k hk hne.2.1 hne.2.2]
    exact h.n_eq k hk (by simp [hne])

theorem setAtSpeed (h : s.DriveMoved u c new cause) (hc : c ≤ 10) (b : Bool) : s.DriveMoved (u.setAtSpeed c b) c new cause := by
  unfold State.setAtSpeed
  split
  · exact h
  · exact h.step hc rfl rfl rfl (fun r hr => List.mem_append_left _ hr) (fun k _ hE _ => State.n_put_ne u _ hE)

theorem stopSlot (h : s.DriveMoved u c new cause) (hc : c ≤ 10) (slot why : Nat) :
    s.DriveMoved (u.stopSlot slot why) c new cause := by
  have hlk : ∀ k < K 0x4800 0, ∀ a, k ≠ lk slot a := fun k hk a => by
    simp only [lk, K] at hk ⊢
    omega
  have hheld : ∀ r ∈ u.ev.held, r ∈ (u.stopSlot slot why).ev.held := fun r hr => by
    unfold State.stopSlot State.setSlotState
    dsimp only
    split
    · exact hr
    · exact List.mem_append_left _ hr
  exact h.step hc (State.stopSlot_keeps (m := Area.drives.allBut) (by decide) (Keeps.refl _ u)).same_of_allBut
    (State.stopSlot_keeps (m := Area.lid.allBut) (by decide) (Keeps.refl _ u)).same_of_allBut
    (State.stopSlot_keeps (m := Area.clock.allBut) (by decide) (Keeps.refl _ u)).same_of_allBut hheld
    (fun k hk _ _ => State.n_stopSlot _ _ _ (hlk k hk _) (hlk k hk _))

theorem setDuty (h : s.DriveMoved u c new cause) (hc : c ≤ 10) (duty : Nat) :
    s.DriveMoved (u.setn (dk c 0 0xF) duty) c new cause :=
  h.step hc rfl rfl rfl (fun _ hr => hr) (fun _ _ _ hF => State.n_put_ne _ _ hF)

theorem n_dk (h : s.DriveMoved u c new cause) (hc : c ≤ 10) {m a : Nat} (hm : m ≤ 3) (ha : a < 256)
    (hne : m * 256 + a ∉ [0xC, 0xE, 0xF]) : u.n (dk c m a) = s.n (dk c m a) := by
  simp only [List.mem_cons, List.not_mem_nil, or_false, not_or] at hne
  refine h.n_eq _ (dk_lt hc hm ha) ?_
  simp only [List.mem_cons, List.not_mem_nil, or_false, not_or]
  exact ⟨dk_ne_dk (by omega), dk_ne_dk (by omega), dk_ne_dk (by omega)⟩

end State.DriveMoved

theorem State.foldl_disarm (s : State) (l : List Nat) : ∃ x, l.foldl State.disarm s = { s with timers := x } := by
  induction l generalizing s with
  | nil => exact ⟨s.timers, rfl⟩
  | cons u l ih => exact ih (s.disarm u)

/-- A channel that changes its state has moved to the new one, and the polygon of a P channel follows (R67, R297). -/
theorem State.driveTo_of_change {s : State} {c new : Nat} (hc : c ≤ 10) (h : s.driveState c ≠ new) (cause : Nat) :
    ∃ u : State, s.driveTo c new cause = (if c < 3 then u.refreshPolygon (c + 1) else u) ∧ s.DriveMoved u c new cause := by
  unfold State.driveTo
  extract_lets old s1 s2 d s3 s4 s5 s6
  have hs1 : s1.lid = s.lid ∧ ∀ k, s1.n k = s.n k := by
    obtain ⟨x, hx⟩ := s.foldl_disarm [tmAlign c, tmStep c, tmHandover c, tmCatch c, tmPulse c, tmRetry c, tmBrake c]
    unfold s1
    rw [hx]
    exact ⟨rfl, fun _ => rfl⟩
  clear_value s1
  have hstate : s2.driveState c = new := (State.n_put_same s1 _ _).trans (Int.toNat_natCast new)
  have hlogged : s2.Logged 108 (new + s.driveState c * 256 + c * 65536 + cause * 2 ^ 24) := State.logged_event ..
  have hlid : s2.lid = s.lid := hs1.1
  have hn : ∀ k ≠ dk c 0 0xC, s2.n k = s.n k := fun k hk => (State.n_put_ne s1 _ hk).trans (hs1.2 k)
  clear_value s2
  have h3 : s.DriveMoved s3 c new cause :=
    ⟨hstate, State.logged_of_held hlogged rfl fun _ hr => hr, congrArg Drive.advance (State.drive_setDrive_same ..), hlid,
      fun k _ hk => hn k (List.ne_of_not_mem_cons hk)⟩
  have h4 : s.DriveMoved s4 c new cause := by
    unfold s4
    split
    · exact h3
    · exact h3.setAtSpeed hc _
  have h5 : s.DriveMoved s5 c new cause := by
    unfold s5
    split
    · split
      · exact h4.stopSlot hc _ _
      · exact h4
    · exact h4
  have h6 : s.DriveMoved s6 c new cause := by
    unfold s6
    split
    · exact h5
    · exact h5.setDuty hc _
  exact ⟨s6, if_neg h, h6⟩

/-- A change that is no P channel's ends there. -/
theorem State.driveMoved_driveTo {s : State} {c new : Nat} (h3 : 3 ≤ c) (hc : c ≤ 10) (h : s.driveState c ≠ new) (cause : Nat) :
    s.DriveMoved (s.driveTo c new cause) c new cause := by
  obtain ⟨u, hu, hmoved⟩ := State.driveTo_of_change hc h cause
  rwa [hu, if_neg (by omega)]

theorem State.driveState_driveTo (s : State) {c : Nat} (h3 : 3 ≤ c) (hc : c ≤ 10) (new cause : Nat) :
    (s.driveTo c new cause).driveState c = new := by
  by_cases h : s.driveState c = new
  · rw [State.driveTo, if_pos h]
    exact h
  · exact (State.driveMoved_driveTo h3 hc h cause).state

theorem State.lid_driveTo (s : State) {c : Nat} (h3 : 3 ≤ c) (hc : c ≤ 10) (new cause : Nat) :
    (s.driveTo c new cause).lid = s.lid := by
  by_cases h : s.driveState c = new
  · rw [State.driveTo, if_pos h]
  · exact (State.driveMoved_driveTo h3 hc h cause).lid

/-- No sector is announced after a change of state (R292). -/
theorem State.advance_driveTo {s : State} {c new : Nat} (hc : c ≤ 10) (h : s.driveState c ≠ new) (cause : Nat) :
    ((s.driveTo c new cause).drive c).advance = none := by
  obtain ⟨u, hu, hmoved⟩ := State.driveTo_of_change hc h cause
  rw [hu]
  split
  · rw [State.advance_refreshPolygon]
    exact hmoved.advance
  · exact hmoved.advance

/-! ## The start test -/

/-- Where a start is due and the rotor is slow, the channel aligns (R297, R300). -/
theorem State.startTest_of_slow {s : State} {c : Nat} (hm : s.mayStart c = true) (hb : s.belowMinimum c (s.observed c) = true)
    (cause : Nat) : s.startTest c cause = (s.enterAlign c cause, true) := by
  simp [State.startTest, hm, hb]

end Sys2Proof.Machine
end

section
/-! PROOFS. What the accepted writes of the drives do (R297, R306, R310, R311). -/

open Sys2Proof Sys2Proof.Machine

namespace Sys2Proof.Machine

/-! ## What the written objects do -/

section
variable {c : Nat} (hc : c ≤ 10)
include hc

/-- `Drive enable` acts as it is written (R297). -/
theorem State.effect_driveEnable (s : State) (old new : Val) :
    s.effect (0x4100 + 16 * c) 1 old new = s.driveEnable c (decide (new.int ≠ 0)) := by
  rw [State.effect, if_neg (by omega), if_neg (by omega), State.effectHigh, if_neg (by omega), if_neg (by omega),
    if_pos (by omega), if_neg (by omega), if_pos rfl, driveOf_channel]

theorem State.command_startProfile (s : State) (path : Path) (v : Val) (answers : List Frame) :
    s.command path (0x4100 + 16 * c) 0x14 v answers = s.startProfile c v.nat false := by
  rw [State.command, if_neg (by omega), if_neg (by omega), if_neg (by omega), if_neg (by omega), if_neg (by omega),
    if_neg (by omega), if_neg (by omega), if_neg (by omega), if_pos (by omega), driveOf_channel]

end

theorem State.command_chopperTest (s : State) (path : Path) (v : Val) (answers : List Frame) :
    s.command path 0x410F 5 v answers = s.chopperTest := rfl

theorem State.command_busReconnect (s : State) (path : Path) (v : Val) (answers : List Frame) :
    s.command path 0x410F 9 v answers = s.setBusSwitch true := rfl

/-! ## A channel that is enabled or disabled -/

/-- An enabled channel at rest, with its slot its own and its rotor slow, aligns (R297, R300). -/
theorem State.driveEnable_of_rest {s : State} {c : Nat} (hslot : s.driveSlot c ≠ none) (hon : s.driveOn c = true)
    (hrest : s.driveState c = 0) (hm : s.mayStart c = true) (hb : s.belowMinimum c (s.observed c) = true) :
    s.driveEnable c true = s.enterAlign c 1 := by
  simp only [State.driveEnable, if_pos, if_neg hslot, State.driveCheck, hon, hrest, State.startTest_of_slow hm hb]

theorem State.driveEnable_of_off {s : State} {c : Nat} (h : s.driveState c ≠ 7) : s.driveEnable c false = s.driveTo c 0 1 := by
  rw [State.driveEnable, if_neg Bool.false_ne_true, if_neg h]

/-! ## The chopper and the bus input switch -/

theorem State.setChopper_of_same {s : State} {on : Bool} (h : s.drives.chopper = on) : s.setChopper on = s := if_pos h

/-- A chopper that is switched starts the 20 µs to its test (R310). -/
theorem State.setChopper_of_change {s : State} {on : Bool} (h : s.drives.chopper ≠ on) :
    s.setChopper on = { s with drives := { s.drives with
      chopper := on, chopperAt := s.stamp,
      chopperNs := if on then s.drives.chopperNs else s.drives.chopperNs + (s.stamp - s.drives.chopperAt) } }.after tmChopper 20000 :=
  if_neg h

@[simp] theorem State.chopper_setChopper (s : State) (on : Bool) : (s.setChopper on).drives.chopper = on := by
  by_cases h : s.drives.chopper = on
  · rw [State.setChopper_of_same h, h]
  · rw [State.setChopper_of_change h]
    rfl

/-- But for its switch and the times of it, a chopper that is commanded leaves the drives as they were. -/
theorem State.setChopper_rest (s : State) (on : Bool) : (s.setChopper on).drives.units = s.drives.units ∧
    (s.setChopper on).drives.testing = s.drives.testing ∧ (s.setChopper on).lid = s.lid := by
  by_cases h : s.drives.chopper = on
  · rw [State.setChopper_of_same h]
    exact ⟨rfl, rfl, rfl⟩
  · rw [State.setChopper_of_change h]
    exact ⟨rfl, rfl, rfl⟩

@[simp] theorem State.flag_setBusSwitch (s : State) (closed : Bool) : (s.setBusSwitch closed).flag (K 0x410F 8) = closed := by
  unfold State.setBusSwitch
  split
  · next h => exact h
  · rw [State.busEvent, State.flag_event, State.setb_eq, State.flag_put_bool]

end Sys2Proof.Machine

/-- Settles O40: an accepted write is its object's row of the table with the effect found there; a change of state is
`driveTo_of_change`, an enabled channel at rest `driveEnable_of_rest`, and the lemmas above say what the chopper and the switch read. -/
theorem driveWrites : Obligations.DriveWrites := by
  unfold Obligations.DriveWrites
  intro path data s
  refine ⟨fun c hc ha => ?_, fun c hc ha => ?_, fun ha => ?_, fun ha => ?_, fun u c new cause hc hne => ?_,
    fun u c hslot hon hrest hm hb => State.driveEnable_of_rest hslot hon hrest hm hb, fun u c h3 hc h7 => ?_,
    fun u _ => ⟨State.chopper_setChopper _ true, ?_, State.armed_arm_same ..⟩, fun u => u.flag_setBusSwitch true⟩
  · rw [exec_driveEnableWrite, execDriveEnableWrite, if_pos hc,
      State.writeRow_value ha (rk_driveEnableWrite c (by omega) (by omega)) nofun (by omega) (by omega) (by omega),
      State.effect_driveEnable hc]
    simp [Ty.decode, Val.int]
  · rw [exec_startProfile, execStartProfile, if_pos hc,
      State.writeRow_command ha (rk_startProfile c (by omega) (by omega)) (by omega) (by omega), State.command_startProfile hc]
    simp [Ty.decode, Val.nat, Val.int]
  · rw [exec_chopperTest, execChopperTest, State.writeRow_command ha rk_chopperTest (by omega) (by omega),
      State.command_chopperTest]
  · rw [exec_busReconnect, execBusReconnect, State.writeRow_command ha rk_busReconnect (by omega) (by omega),
      State.command_busReconnect]
  · obtain ⟨v, hv, hmoved⟩ := State.driveTo_of_change hc hne cause
    exact ⟨v, hmoved.state, fun hp => by rw [hv, if_pos hp], fun hm => by rw [hv, if_neg (Nat.not_lt.mpr hm)]⟩
  · rw [State.driveEnable_of_off h7]
    exact u.driveState_driveTo h3 hc 0 1
  · exact (State.setChopper_rest _ true).2.1
end

section
/-! PROOFS. How a drive channel starts, runs up, loses and catches its rotor (R292, R297, R300 to R302, R307). -/

open Sys2Proof Sys2Proof.Machine

namespace Sys2Proof.Machine

/-! ## The open-loop ramp -/

theorem State.rampInterval_setDrive (s : State) (n c t : Nat) (d : Drive) : (s.setDrive n d).rampInterval c t = s.rampInterval c t := rfl

/-- The ramp begins at its first step (R300). -/
def State.rampBegun (s : State) (c : Nat) : Drive :=
  { (s.driveTo c 2 2).drive c with rampAt := s.stamp, stepAt := s.stamp, steps := 0, seen := false, good := 0 }

/-- The crossings in a row, once the present step has ended: each step shows one (R300). -/
def Drive.crossings (d : Drive) : Nat := if d.seen then d.good + 1 else 0

/-- The next step of the ramp is taken (R300). -/
def State.rampStepped (s : State) (c : Nat) : State :=
  let d := s.drive c
  let t := s.stamp - d.rampAt
  ((s.setDrive c { d with sector := nextSector d.sector (decide (s.commanded c < 0)), stepAt := s.stamp, steps := d.steps + 1,
                          seen := false, good := d.crossings }).setn (dk c 0 0xF) (s.rampDuty c t)).after (tmStep c) (s.rampInterval c t)

theorem State.driveState_rampStepped (s : State) (c : Nat) : (s.rampStepped c).driveState c = s.driveState c := by
  rw [State.rampStepped, State.driveState, State.after_eq, State.n_arm, State.setn_eq, State.n_put_ne _ _ (dk_ne_dk (by decide)),
    State.n_setDrive, State.driveState]

theorem State.duty_rampStepped (s : State) (c : Nat) :
    (s.rampStepped c).n (dk c 0 0xF) = s.rampDuty c (s.stamp - (s.drive c).rampAt) := by
  rw [State.rampStepped, State.after_eq, State.n_arm, State.setn_eq, State.n_put_same, Int.toNat_natCast]

theorem State.drive_rampStepped (s : State) (c : Nat) : (s.rampStepped c).drive c =
    { s.drive c with
      sector := nextSector (s.drive c).sector (decide (s.commanded c < 0)), stepAt := s.stamp, steps := (s.drive c).steps + 1
      seen := false, good := (s.drive c).crossings } := by
  rw [State.rampStepped, State.after_eq, State.drive_arm, State.setn_eq, State.drive_put, State.drive_setDrive_same]

section
variable {s : State} {c : Nat} (hon : s.driveOn c = true)
include hon

theorem execAlignTimeElapsed_of_due (h : s.driveState c = 1) (hd : s.due (tmAlign c) = true) :
    execAlignTimeElapsed c s =
      .next (((s.driveTo c 2 2).setDrive c (s.rampBegun c)).after (tmStep c) ((s.driveTo c 2 2).rampInterval c 0)) := by
  simp only [execAlignTimeElapsed, hon, h, hd, decide_true, Bool.and_true, if_true, State.rampInterval_setDrive, State.rampBegun]

theorem execRampStep_of_enough (h : s.driveState c = 2) (hd : s.due (tmStep c) = true) (hg : s.n (dk c 1 7) ≤ (s.drive c).crossings) :
    execRampStep c s = .next (((s.startEvent c 2).enterRun c (s.n (dk c 0 0xF)) 2).setDrive c
      { ((s.startEvent c 2).enterRun c (s.n (dk c 0 0xF)) 2).drive c with
        advance := (s.drive c).last.map (· + (s.drive c).interval / 2) }) := by
  unfold execRampStep
  rw [if_pos (by simp [hon, h, hd])]
  exact if_pos hg

/-- A further step is taken, and past the ramp's length the handover time may start as well (R297, R300). -/
theorem execRampStep_of_few (h : s.driveState c = 2) (hd : s.due (tmStep c) = true) (hg : (s.drive c).crossings < s.n (dk c 1 7)) :
    ∃ t : State, execRampStep c s = .next t ∧ t.driveState c = (s.rampStepped c).driveState c ∧ t.drive c = (s.rampStepped c).drive c ∧
      t.n (dk c 0 0xF) = (s.rampStepped c).n (dk c 0 0xF) ∧ t.armed (tmStep c) = true := by
  have hexec : execRampStep c s = .next (if s.n (dk c 1 6) * 1000000 ≤ s.stamp - (s.drive c).rampAt ∧
      (s.rampStepped c).armed (tmHandover c) = false then (s.rampStepped c).after (tmHandover c) 200000000 else s.rampStepped c) := by
    unfold execRampStep
    rw [if_pos (by simp [hon, h, hd])]
    exact if_neg (Nat.not_le.mpr hg)
  have harmed : (s.rampStepped c).armed (tmStep c) = true := State.armed_arm_same ..
  refine ⟨_, hexec, ?_⟩
  split
  · rw [State.after_eq, State.drive_arm, State.n_arm]
    exact ⟨State.n_arm .., rfl, rfl, (State.armed_arm_ne _ _ (by unfold tmStep tmHandover timer; omega)).trans harmed⟩
  · exact ⟨rfl, rfl, rfl, harmed⟩

theorem execRampHandoverTimeout_of_due (h : s.driveState c = 2) (hd : s.due (tmHandover c) = true) :
    execRampHandoverTimeout c s = .next (s.enterRetry c 5) := if_pos (by simp [hon, h, hd])

theorem execCatchTimeout_of_due (h : s.driveState c = 4) (hd : s.due (tmCatch c) = true) :
    execCatchTimeout c s = .next ((s.observerEvent c 3).enterRetry c 4) := if_pos (by simp [hon, h, hd])

/-- The end of the retry interval is a start test, and a channel that may not start is STOPPED (R297; log entry 76). -/
theorem execRetryIntervalElapsed_of_due (h : s.driveState c = 5) (hd : s.due (tmRetry c) = true) :
    execRetryIntervalElapsed c s = .next (if (s.startTest c 2).2 then (s.startTest c 2).1 else s.driveTo c 0 2) :=
  if_pos (by simp [hon, h, hd])

end

theorem execAlignTimeElapsed_of_other {s : State} {c : Nat} (h : s.driveState c ≠ 1) : execAlignTimeElapsed c s = .next s :=
  if_neg (by simp [h])

theorem execRampStep_of_other {s : State} {c : Nat} (h : s.driveState c ≠ 2) : execRampStep c s = .next s := if_neg (by simp [h])

/-! ## Attempts -/

theorem State.armed_enterAlign (s : State) (c cause : Nat) : (s.enterAlign c cause).armed (tmAlign c) = true := by
  rw [State.enterAlign, State.after_eq, State.armed_arm_same]

/-- A channel that aligns drives its phases at `Align duty` (R300). -/
theorem State.duty_enterAlign (s : State) (c cause : Nat) : (s.enterAlign c cause).n (dk c 0 0xF) = s.n (dk c 1 4) := by
  rw [State.enterAlign, State.after_eq, State.n_arm, State.setn_eq, State.n_put_same, Int.toNat_natCast]

theorem State.startTest_of_barred {s : State} {c : Nat} (h : s.mayStart c = false) (cause : Nat) :
    s.startTest c cause = (s, false) := if_pos (by simp [h])

section
variable {s : State} {c : Nat} (h3 : 3 ≤ c) (hc : c ≤ 10) (h : s.driveState c ≠ 5) (cause : Nat)
include h3 hc h

/-- An M channel with its attempts used up is in FAULT, and sends it (R297). -/
theorem State.enterRetry_of_used_up (hn : 1 + s.n (dk c 1 8) ≤ s.n (dk c 0 0x11)) :
    (s.enterRetry c cause).driveState c = 6 ∧ (s.enterRetry c cause).Sent (driveSource c) 4 c := by
  have hmoved := State.driveMoved_driveTo h3 hc h cause
  rw [State.enterRetry, hmoved.n_dk hc (by decide) (by decide) (by decide), hmoved.n_dk hc (by decide) (by decide) (by decide), if_pos hn]
  refine ⟨State.driveState_driveTo _ h3 hc 6 5, ?_⟩
  unfold State.Sent
  rw [State.lid_driveTo _ h3 hc]
  exact State.sent_fault (s.driveTo c 5 cause) (driveSource c) 4 c

theorem State.enterRetry_of_left (hn : s.n (dk c 0 0x11) < 1 + s.n (dk c 1 8)) :
    (s.enterRetry c cause).driveState c = 5 ∧ (s.enterRetry c cause).armed (tmRetry c) = true := by
  have hmoved := State.driveMoved_driveTo h3 hc h cause
  rw [State.enterRetry, hmoved.n_dk hc (by decide) (by decide) (by decide), hmoved.n_dk hc (by decide) (by decide) (by decide),
    if_neg (Nat.not_le.mpr hn), State.after_eq]
  exact ⟨(State.n_arm ..).trans hmoved.state, State.armed_arm_same ..⟩

end

/-! ## Zero crossings -/

/-- What a crossing tells of the rotor: its time, the interval since the last one, and its direction (R292). -/
def State.crossed (s : State) (c : Nat) (forward : Bool) : State :=
  s.setDrive c { s.drive c with
    last := some s.stamp, backward := !forward, firstCrossing := false
    interval := match (s.drive c).last with
      | some t => s.stamp - t
      | none => 0 }

/-- In RUN the sector that was announced is in use, and the next one follows half an interval later (R292). -/
def State.sectorLeft (s : State) (c : Nat) (forward : Bool) : State :=
  let d := s.drive c
  let v := s.crossed c forward
  v.setDrive c { v.drive c with
    sector := if d.advance.isSome then nextSector d.sector d.backward else d.sector, advance := some (s.stamp + (v.drive c).interval / 2) }

theorem State.driveCheck_of_other {s : State} {c : Nat} (h0 : s.driveState c ≠ 0) (h3 : s.driveState c ≠ 3) (cause : Nat) :
    s.driveCheck c cause = s := by
  unfold State.driveCheck
  split
  · split
    · next h => exact (h0 h).elim
    · next h => exact (h3 h).elim
    · rfl
  · rfl

section
variable {s : State} {c : Nat} (hon : s.driveOn c = true) (forward : Bool) (sensed : BackEmf)
include hon

/-- Within the window of a ramp step a crossing counts for that step (R300). -/
theorem execZeroCrossing_of_window (h : s.driveState c = 2) (hs : 3 ≤ (s.drive c).steps)
    (hlo : 20 * s.rampInterval c ((s.drive c).stepAt - (s.drive c).rampAt) ≤ (s.stamp - (s.drive c).stepAt) * 100)
    (hhi : (s.stamp - (s.drive c).stepAt) * 100 ≤ 80 * s.rampInterval c ((s.drive c).stepAt - (s.drive c).rampAt)) :
    execZeroCrossing c forward sensed s =
      .next ((s.crossed c forward).setDrive c { (s.crossed c forward).drive c with seen := true }) := by
  simp only [execZeroCrossing, hon, h, if_true, if_pos (And.intro hs (And.intro hlo hhi))] <;> rfl

theorem execZeroCrossing_of_run (h : s.driveState c = 3) :
    execZeroCrossing c forward sensed s = .next (((s.sectorLeft c forward).speedCheck c).driveCheck c 2) := by
  simp only [execZeroCrossing, hon, h, if_true, State.sectorLeft, State.crossed, State.drive_setDrive_same] <;> rfl

/-- The first crossing of a CATCH measures nothing (R302). -/
theorem execZeroCrossing_of_first (h : s.driveState c = 4) (hf : (s.drive c).firstCrossing = true) :
    execZeroCrossing c forward sensed s = .next (s.crossed c forward) := by
  simp only [execZeroCrossing, hon, h, hf, if_true, Bool.true_eq_false, false_and, and_false, if_false] <;> rfl

/-- In a state that drives nothing by crossings one is noted, and that is all. -/
theorem execZeroCrossing_of_other (h : s.driveState c = 1 ∨ 5 ≤ s.driveState c) :
    execZeroCrossing c forward sensed s = .next (s.crossed c forward) := by
  have hcheck : (s.crossed c forward).driveCheck c 2 = s.crossed c forward :=
    have hstate : (s.crossed c forward).driveState c = s.driveState c := rfl
    State.driveCheck_of_other (by omega) (by omega) 2
  unfold execZeroCrossing
  rw [if_pos hon]
  dsimp only
  split
  · omega
  · omega
  · omega
  · exact congrArg _ hcheck

end

theorem execZeroCrossing_of_off {s : State} {c : Nat} (h : s.driveOn c = false) (forward : Bool) (sensed : BackEmf) :
    execZeroCrossing c forward sensed s = .next s := if_neg (by simp [h])

/-! ## Estimates in CATCH -/

theorem catchNeeds_ne_zero (c : Nat) : catchNeeds c ≠ 0 := by
  unfold catchNeeds
  split <;> decide

/-- An estimate that agrees with as many before it as are needed finds the rotor (R302). -/
theorem State.catchEstimate_of_found {s : State} {c : Nat} {v : Int} (hway : sameWay v (s.commanded c) = true)
    (hb : s.belowMinimum c v = false) (hall : (s.drive c).estimates.all (fun x => agree x v) = true)
    (hlen : (s.drive c).estimates.length + 1 = catchNeeds c) (emf sector : Nat) :
    s.catchEstimate c v emf sector =
      (((s.bump (dk c 0 0x13)).observerEvent c 2).enterRun c (s.emfDuty emf) 4).setDrive c
        { (((s.bump (dk c 0 0x13)).observerEvent c 2).enterRun c (s.emfDuty emf) 4).drive c with
          sector := sector % 6, advance := if c < 3 then some (s.stamp + (s.drive c).interval / 2) else none } := by
  simp only [State.catchEstimate, hway, hb, hall, Bool.not_false, Bool.and_self, if_true, List.length_cons, hlen]

/-- A speed that is too low ends the run of estimates (R302). -/
theorem State.catchEstimate_of_slow {s : State} {c : Nat} {v : Int} (hb : s.belowMinimum c v = true) (emf sector : Nat) :
    s.catchEstimate c v emf sector = s.setDrive c { s.drive c with estimates := [] } := by
  have hne : ([] : List Int).length ≠ catchNeeds c := (catchNeeds_ne_zero c).symm
  simp only [State.catchEstimate, hb, Bool.not_true, Bool.and_false, Bool.false_eq_true, if_false, if_neg hne]

/-- A zero-vector pulse: the next one follows, and a speed it measures is that of a crossing now (R302). -/
def State.pulsed (s : State) (c : Nat) (speed : Int) : State :=
  let s0 := s.after (tmPulse c) 200000
  let s1 := s0.setDrive c { s0.drive c with pulsed := some s.stamp }
  if speed = 0 then s1
  else s1.setDrive c { s1.drive c with last := some s.stamp, interval := 10 ^ 10 / max (s.n (dk c 1 1) * speed.natAbs) 1
                                       backward := decide (speed < 0) }

/-- It changes no object, and the next pulse is timed. -/
theorem State.pulsed_rest (s : State) (c : Nat) (speed : Int) :
    (s.pulsed c speed).od = s.od ∧ (s.pulsed c speed).armed (tmPulse c) = true ∧ ∀ k, (s.pulsed c speed).n k = s.n k := by
  rw [State.pulsed, State.after_eq]
  split
  · exact ⟨by rw [State.setDrive_od, State.arm_od], by rw [State.armed_setDrive, State.armed_arm_same],
      fun k => by rw [State.n_setDrive, State.n_arm]⟩
  · exact ⟨by rw [State.setDrive_od, State.setDrive_od, State.arm_od],
      by rw [State.armed_setDrive, State.armed_setDrive, State.armed_arm_same],
      fun k => by rw [State.n_setDrive, State.n_setDrive, State.n_arm]⟩

theorem execCatchPulse_of_due {s : State} {c : Nat} (hon : s.driveOn c = true) (h3 : 3 ≤ c) (h : s.driveState c = 4)
    (hd : s.due (tmPulse c) = true) (speed : Int) (sensed : BackEmf) : execCatchPulse c speed sensed s =
      .next ((s.pulsed c speed).catchEstimate c speed sensed.emf sensed.sector) :=
  if_pos (by simp [hon, h3, h, hd])

theorem execCatchPulse_of_other {s : State} {c : Nat} (h : c < 3 ∨ s.driveState c ≠ 4) (speed : Int) (sensed : BackEmf) :
    execCatchPulse c speed sensed s = .next s := by
  refine if_neg ?_
  simp only [Bool.and_eq_true, decide_eq_true_eq]
  omega

/-! ## A lost observer -/

/-- The loss is counted and sent (R302). -/
def State.observerLost (s : State) (c : Nat) : State :=
  ((s.bump (dk c 0 0x12)).fault (driveSource c) 0x8 c).observerEvent c 1

theorem State.losses_observerLost (s : State) (c : Nat) :
    (s.observerLost c).n (dk c 0 0x12) = (s.n (dk c 0 0x12) + 1) % 2 ^ 32 := by
  rw [State.observerLost, State.observerEvent, State.n_event, State.fault_eq, State.n_detect _ _ dk_ne_injection, State.bump_eq,
    State.n_put_same, Int.toNat_natCast]

theorem State.sent_observerLost (s : State) (c : Nat) : (s.observerLost c).Sent (driveSource c) 8 c :=
  State.sent_fault (s.bump (dk c 0 0x12)) (driveSource c) 8 c

section
variable {s : State} {c t0 : Nat} (hl : (s.drive c).last = some t0)
include hl

theorem execObserverLoss_of_silent (hon : s.driveOn c = true) (h : s.driveState c = 3)
    (hs : t0 + 12 * (s.drive c).interval ≤ s.stamp) : execObserverLoss c s = .next ((s.observerLost c).enterCatch c 4) := by
  simp only [execObserverLoss, hl, hon, h, hs, decide_true, Bool.and_self, if_true, State.observerLost]

theorem execObserverLoss_of_heard (hs : s.stamp < t0 + 12 * (s.drive c).interval) : execObserverLoss c s = .next s := by
  simp only [execObserverLoss, hl, decide_eq_false (Nat.not_le.mpr hs), Bool.and_false, Bool.false_eq_true, if_false]

end

end Sys2Proof.Machine

/-- Settles O50: each expiry and crossing is the equation above that its conditions choose, and a change of state is
`driveTo_of_change`. That a failed start test of RETRY WAIT leads to STOPPED, the cause of the ramp's entry, what the first crossing of a
CATCH gives and the sector that an early crossing takes are the model's reading (log entries 76, 77, 198 and 199). -/
theorem driveStarting : Obligations.DriveStarting := by
  unfold Obligations.DriveStarting
  intro c new cause emf sector forward speed s
  simp only [exec_alignTimeElapsed, exec_rampStep, exec_rampHandoverTimeout, exec_catchTimeout, exec_retryIntervalElapsed,
    exec_zeroCrossing, exec_observerLoss, exec_catchPulse]
  refine ⟨fun hon h => ?_, fun hon h hd => ?_, execAlignTimeElapsed_of_other, fun hon h hd hg => ?_, fun hon h hd hg => ?_,
    execRampStep_of_other, execRampHandoverTimeout_of_due, execCatchTimeout_of_due, fun hon h3 h hn => ?_, fun hon h3 h hn => ?_,
    fun hon h hd hm => ?_, fun hon h hd hm hb => ?_, fun hon h hs hlo hhi => ?_, fun hon h => ?_, fun hon h => ?_,
    fun hon _ h hf => ?_, fun v hway hb hall hlen => ⟨_, rfl, State.catchEstimate_of_found hway hb hall hlen emf sector⟩,
    fun hoff => execZeroCrossing_of_off hoff forward _, fun t0 hon h hl hs => ?_, fun t0 hl hs => execObserverLoss_of_heard hl hs,
    fun hon h3 h hd hb => ?_, fun h => execCatchPulse_of_other h speed _⟩
  · obtain ⟨u, hu, hmoved⟩ := State.driveTo_of_change (channel_le_of_driveOn hon) h cause
    exact ⟨u, hu, hmoved.state, hmoved.logged⟩
  · exact ⟨s.rampBegun c, execAlignTimeElapsed_of_due hon h hd, rfl,
      State.advance_driveTo (channel_le_of_driveOn hon) (by simp [h]) 2, rfl, rfl, rfl, rfl⟩
  · exact ⟨_, rfl, execRampStep_of_enough hon h hd hg⟩
  · obtain ⟨t, ht, hstate, hdrive, hduty, ha⟩ := execRampStep_of_few hon h hd hg
    rw [State.drive_rampStepped] at hdrive
    exact ⟨t, ht, by rw [hstate, State.driveState_rampStepped, h], by rw [hdrive], by rw [hdrive], by rw [hdrive],
      by rw [hduty, State.duty_rampStepped], ha⟩
  · exact State.enterRetry_of_used_up h3 (channel_le_of_driveOn hon) (by omega) cause hn
  · exact State.enterRetry_of_left h3 (channel_le_of_driveOn hon) (by omega) cause hn
  · rw [execRetryIntervalElapsed_of_due hon h hd, State.startTest_of_barred hm, if_neg Bool.false_ne_true]
  · rw [execRetryIntervalElapsed_of_due hon h hd, State.startTest_of_slow hm hb, if_pos rfl]
    exact ⟨_, rfl, rfl, s.armed_enterAlign c 2, s.duty_enterAlign c 2⟩
  · exact ⟨_, execZeroCrossing_of_window hon forward _ h hs hlo hhi, by simp [State.crossed], by simp [State.crossed], rfl⟩
  · exact ⟨_, execZeroCrossing_of_other hon forward _ h, by simp [State.crossed], by simp [State.crossed], by simp [State.crossed],
      rfl, rfl⟩
  · exact ⟨_, execZeroCrossing_of_run hon forward _ h, rfl, by simp [State.sectorLeft], by simp [State.sectorLeft],
      by simp [State.sectorLeft, State.crossed]⟩
  · exact ⟨_, execZeroCrossing_of_first hon forward _ h hf, by simp [State.crossed], by simp [State.crossed], by simp [State.crossed],
      rfl⟩
  · exact ⟨_, execObserverLoss_of_silent hl hon h hs, s.losses_observerLost c, s.sent_observerLost c⟩
  · obtain ⟨hod, ha, hn⟩ := s.pulsed_rest c speed
    have hslow : (s.pulsed c speed).belowMinimum c speed = true := by
      rw [State.belowMinimum, hn]
      exact hb
    rw [execCatchPulse_of_due hon h3 h hd, State.catchEstimate_of_slow hslow]
    exact ⟨_, rfl, hod, by rw [State.drive_setDrive_same], ha⟩
end

section
/-! PROOFS. What the power stage of the drives, its current limits and its bus do (R294 to R296, R305, R308 to R311). -/

open Sys2Proof Sys2Proof.Machine

namespace Sys2Proof.Machine

/-! ## PWM periods -/

theorem State.onTime_setDrive (s : State) (n c : Nat) (d : Drive) : (s.setDrive n d).onTime c = s.onTime c := rfl

/-- A channel that drives its phases takes the next duty, and its on-time is whole again (R292, R296). -/
def State.periodBegun (s : State) (c : Nat) : State :=
  (s.setn (dk c 0 0xF) (s.nextDuty c)).setDrive c { s.drive c with cut := false }

/-- The on-time is too short for the shunt: the period is skipped (R294). -/
def State.periodSkipped (s : State) (c : Nat) : State :=
  ((s.periodBegun c).bump (dk c 2 3)).setDrive c { (s.periodBegun c).drive c with unskipped := 0 }

/-- The shunt shows the current of the pair in use (R294). -/
def State.periodSensed (s : State) (c : Nat) (i : Int) : State :=
  let d := (s.periodBegun c).drive c
  ((s.periodBegun c).setDrive c { d with unskipped := min (d.unskipped + 1) 1024 }).setBytes (dk c 0 0x10)
    (shuntPhases (s.sectorNow c) i)

section
variable (s : State) (c : Nat)

theorem State.duty_periodBegun : (s.periodBegun c).n (dk c 0 0xF) = s.nextDuty c := by
  rw [State.periodBegun, State.n_setDrive, State.setn_eq, State.n_put_same, Int.toNat_natCast]

theorem State.val_periodBegun {k : Nat} (h : k ≠ dk c 0 0xF) : (s.periodBegun c).val k = s.val k := by
  rw [State.periodBegun, State.val_setDrive, State.setn_eq, State.val_put_ne _ _ h]

theorem State.n_periodBegun {k : Nat} (h : k ≠ dk c 0 0xF) : (s.periodBegun c).n k = s.n k :=
  (State.reads_eq (s.val_periodBegun c h)).2.1

theorem State.short_periodBegun : (s.periodBegun c).onTime c < (s.periodBegun c).n (dk c 2 2) ↔
    (s.setn (dk c 0 0xF) (s.nextDuty c)).onTime c < s.n (dk c 2 2) := by
  rw [s.n_periodBegun c (dk_ne_dk (by decide)), State.periodBegun, State.onTime_setDrive]

theorem State.drive_periodBegun : (s.periodBegun c).drive c = { s.drive c with cut := false } := State.drive_setDrive_same ..

theorem State.val_periodSkipped {k : Nat} (h : k ≠ dk c 2 3) : (s.periodSkipped c).val k = (s.periodBegun c).val k := by
  rw [State.periodSkipped, State.val_setDrive, State.bump_eq, State.val_put_ne _ _ h]

theorem State.skips_periodSkipped : (s.periodSkipped c).n (dk c 2 3) = (s.n (dk c 2 3) + 1) % 2 ^ 32 := by
  rw [State.periodSkipped, State.n_setDrive, State.bump_eq, State.n_put_same, Int.toNat_natCast,
    s.n_periodBegun c (dk_ne_dk (by decide))]

theorem State.val_periodSensed (i : Int) {k : Nat} (h : k ≠ dk c 0 0x10) : (s.periodSensed c i).val k = (s.periodBegun c).val k := by
  rw [State.periodSensed, State.setBytes_eq, State.val_put_ne _ _ h, State.val_setDrive]

end

section
variable {s : State} {c : Nat} (hon : s.driveOn c = true) (h1 : 1 ≤ s.driveState c) (h3 : s.driveState c ≤ 3) (ia ib : Int)
include hon h1 h3

theorem execPwmPeriod_of_motor (hm : 3 ≤ c) : execPwmPeriod c ia ib s =
    .next ((s.periodBegun c).setBytes (dk c 0 0x10) (deltaPhases (s.deltaCurrent c ia) (s.deltaCurrent c ib))) := by
  unfold execPwmPeriod
  rw [if_pos (by simp [hon, h1, h3])]
  exact if_pos hm

/-- A P channel skips the periods that are too short for its shunt, and records the first after many that were not (R294). -/
theorem execPwmPeriod_of_polygon (hp : c < 3) : execPwmPeriod c ia ib s =
    if (s.periodBegun c).onTime c < (s.periodBegun c).n (dk c 2 2) then
      .next (if ((s.periodBegun c).drive c).unskipped = 1024
        then (s.periodSkipped c).event 113 (1 + c * 65536 + (s.periodSkipped c).n (dk c 2 3) * 2 ^ 32) else s.periodSkipped c)
    else .next (s.periodSensed c ia) := by
  unfold execPwmPeriod
  rw [if_pos (by simp [hon, h1, h3])]
  exact if_neg (Nat.not_le.mpr hp)

end

theorem execPwmPeriod_of_rest {s : State} {c : Nat} (h : s.driveState c = 0 ∨ 4 ≤ s.driveState c) (ia ib : Int) :
    execPwmPeriod c ia ib s = .next (if (s.drive c).braking then s.setDrive c { s.drive c with cut := false } else s) := by
  refine if_neg ?_
  simp only [Bool.and_eq_true, decide_eq_true_eq]
  omega

/-! ## Current limits and inputs -/

section
variable {s : State} {c : Nat} (hon : s.driveOn c = true)
include hon

theorem execCurrentLimitExceeded_of_driven (h1 : 1 ≤ s.driveState c) (h3 : s.driveState c ≤ 3) :
    execCurrentLimitExceeded c s = .next (s.setDrive c { s.drive c with cut := true }) := if_pos (by simp [hon, h1, h3])

theorem execTripCurrent_of_on : execTripCurrent c s = .next (s.fault (driveSource c) 0x9 c) := if_pos hon

theorem execSdInputInvalid_of_motor (h3 : 3 ≤ c) {input : Nat} (hi : input = 1 ∨ input = 2) : execSdInputInvalid c input s =
    .next ((s.fault (driveSource c) 0x7 c).event 113 (2 + input * 256 + c * 65536)) := if_pos (by simp [hon, h3, hi])

theorem execBrakeTimeElapsed_of_due (h : s.driveState c = 7) (hd : s.due (tmBrake c) = true) :
    execBrakeTimeElapsed c s = .next ((s.disarm (tmBrake c)).setDrive c { s.drive c with braking := false }) :=
  if_pos (by simp [hon, h, hd])

end

/-! ## Command pins -/

theorem bitOf_withBit (w i : Nat) : bitOf (withBit w i) i = true := by
  simp [bitOf, withBit, Nat.testBit_or, Nat.testBit_two_pow_self]

theorem bitOf_withoutBit (w i : Nat) : bitOf (withoutBit w i) i = false := by
  unfold bitOf withoutBit
  split
  · next h =>
    have hsub : (w - 2 ^ i) / 2 ^ i = w / 2 ^ i - 1 := by simpa using Nat.sub_mul_div w (2 ^ i) 1
    rw [Nat.testBit_eq_decide_div_mod_eq, decide_eq_true_eq] at h
    rw [Nat.testBit_eq_decide_div_mod_eq, hsub, decide_eq_false_iff_not]
    omega
  · next h => simpa using h

/-- The loss of a pin is noted and sent, and recorded of the first channel that reads the pin (R305). -/
def State.pinLost (s : State) (k : Nat) : State :=
  ({ s with drives := { s.drives with lost := withBit s.drives.lost (k - 1) } }.fault 0x8D 0x7 k).speedEvent
    ((s.pinReaders k).headD 0) 3 k

/-- An edge is remembered (R305). -/
def State.edgeSeen (s : State) (k : Nat) : State :=
  { s with drives := { s.drives with edges := s.drives.edges.set (k - 1) s.stamp } }

/-- The first edge after a loss ends it, and is recorded (R305). -/
def State.pinBack (s : State) (k : Nat) : State :=
  { s.edgeSeen k with drives := { (s.edgeSeen k).drives with lost := withoutBit s.drives.lost (k - 1) } }.speedEvent
    ((s.pinReaders k).headD 0) 4 k

theorem State.lost_pinLost (s : State) (k : Nat) : bitOf (s.pinLost k).drives.lost (k - 1) = true := by
  rw [State.pinLost, State.speedEvent, State.event_drives, State.fault_eq, State.detect_drives]
  exact bitOf_withBit ..

theorem State.lost_pinBack (s : State) (k : Nat) : bitOf (s.pinBack k).drives.lost (k - 1) = false := by
  rw [State.pinBack, State.speedEvent, State.event_drives, bitOf_withoutBit]

theorem State.lid_pinBack (s : State) (k : Nat) : (s.pinBack k).lid = s.lid := by
  rw [State.pinBack, State.speedEvent, State.event_lid, State.edgeSeen]

theorem execCommandPinLost_of_silent {s : State} {k : Nat} (hr : s.pinReaders k ≠ []) (hl : bitOf s.drives.lost (k - 1) = false)
    (hs : (s.pinReaders k).any (s.pinSilent k) = true) :
    execCommandPinLost k s = .next ((s.pinLost k).each (s.pinReaders k) (fun t x => t.driveCheck x 2)) := by
  unfold execCommandPinLost State.pinLost
  split
  · next h => exact (hr h).elim
  · next c l h =>
    rw [h] at hs
    rw [if_neg (by rw [hl, hs]; decide), h]
    rfl

theorem execCommandPinLost_of_other {s : State} {k : Nat} (h : s.pinReaders k = [] ∨ bitOf s.drives.lost (k - 1) = true ∨
    (s.pinReaders k).any (s.pinSilent k) = false) : execCommandPinLost k s = .next s := by
  unfold execCommandPinLost
  split
  · rfl
  · next c l hr =>
    rw [hr] at h
    exact if_pos (by simpa using h)

theorem execCommandPinReturn_of_lost {s : State} {k : Nat} (hk : 1 ≤ k) (hl : bitOf s.drives.lost (k - 1) = true) :
    execCommandPinReturn k s = .next ((s.pinBack k).each (s.pinReaders k) (fun t x => t.driveCheck x 2)) := by
  unfold execCommandPinReturn
  exact if_pos (by simp [hk, hl])

theorem execCommandPinReturn_of_known {s : State} {k : Nat} (hl : bitOf s.drives.lost (k - 1) = false) :
    execCommandPinReturn k s = .next (s.edgeSeen k) := by
  unfold execCommandPinReturn
  exact if_neg (by simp [hl])

/-! ## The bus -/

/-- The bus voltage is known (R309). -/
def State.busMeasured (s : State) (bus : Nat) : State := s.setn (K 0x410F 7) (bus % 65536)

theorem State.bus_busMeasured (s : State) (bus : Nat) : (s.busMeasured bus).n (K 0x410F 7) = bus % 65536 := by
  rw [State.busMeasured, State.setn_eq, State.n_put_same, Int.toNat_natCast]

theorem State.n_busMeasured (s : State) (bus : Nat) {k : Nat} (h : k ≠ K 0x410F 7) : (s.busMeasured bus).n k = s.n k :=
  State.n_put_ne s _ h

theorem State.n_setChopper (s : State) (on : Bool) (k : Nat) : (s.setChopper on).n k = s.n k :=
  (State.setChopper_keeps (m := Area.objects.allBut) (by decide) (Keeps.refl _ s)).n_eq k

section
variable (s : State) {bus : Nat}

/-- From the threshold on the bus turns the chopper on (R309). -/
theorem State.busChops_of_high (h : s.n (K 0x410F 1) ≤ bus) : (s.busChops bus).drives.chopper = true ∧
    (s.busChops bus).drives.units = s.drives.units ∧ ∀ k, (s.busChops bus).n k = s.n k := by
  rw [State.busChops, if_pos h]
  refine ⟨State.chopper_setChopper _ true, (State.setChopper_rest _ true).1.trans ?_, fun k => (State.n_setChopper _ true k).trans ?_⟩
  · split <;> rfl
  · split <;> rfl

theorem State.busChops_of_low (h : bus + s.n (K 0x410F 2) < s.n (K 0x410F 1)) (ht : s.drives.testing ≠ 1) :
    s.busChops bus = s.setChopper false := by
  rw [State.busChops, if_neg (by omega), if_pos ⟨h, ht⟩]

theorem State.busChops_of_between (h : bus < s.n (K 0x410F 1)) (hh : s.n (K 0x410F 1) ≤ bus + s.n (K 0x410F 2)) :
    s.busChops bus = s := by
  rw [State.busChops, if_neg (by omega), if_neg (by omega)]

end

theorem execBusSample_eq (bus : Nat) (s : State) : execBusSample bus s =
    .next (((s.busMeasured bus).busChops bus).each (upFrom 0 11) (fun t c => t.driveCheck c 2)) := rfl

/-! ## The chopper -/

section
variable (s : State) (k : Nat)

/-- A faulty chopper shows how, disables its use and is sent (R310). -/
theorem State.state_chopperFault : (s.chopperFault k).n (K 0x410F 3) = k := by
  rw [State.chopperFault, State.busEvent, State.n_event, State.fault_eq, State.n_detect _ _ (by decide), State.setb_eq,
    State.n_put_ne _ _ (by decide), State.setn_eq, State.n_put_same, Int.toNat_natCast]

theorem State.coasts_chopperFault : (s.chopperFault k).flag (K 0x410F 4) = true := by
  rw [State.chopperFault, State.busEvent, State.flag_event, State.fault_eq, State.flag_detect _ _ (by decide), State.setb_eq,
    State.flag_put_bool]

theorem State.sent_chopperFault : (s.chopperFault k).Sent 0x8E 0xF k :=
  State.sent_fault ((s.setn (K 0x410F 3) k).setb (K 0x410F 4) true) 0x8E 0xF k

theorem State.state_chopperPassed : s.chopperPassed.n (K 0x410F 3) = 0 := by
  rw [State.chopperPassed, State.busEvent, State.n_event, State.setb_eq, State.n_put_ne _ _ (by decide), State.setn_eq,
    State.n_put_same]
  rfl

theorem State.coasts_chopperPassed : s.chopperPassed.flag (K 0x410F 4) = false := by
  rw [State.chopperPassed, State.busEvent, State.flag_event, State.setb_eq, State.flag_put_bool]

end

/-- The chopper's current has been looked at: a test goes on where it was seen in the pulse, and is over otherwise (R310). -/
def State.chopperSeen (s : State) (current : Nat) : State :=
  let s1 := s.disarm tmChopper
  { s1 with drives := { s.drives with testing := if s.drives.testing = 1 ∧ 500 ≤ current then 2 else 0 } }

section
variable {s : State} {current : Nat} (hd : s.due tmChopper = true)
include hd

theorem execChopperCheck_of_open (ht : s.drives.testing = 0) (hc : s.drives.chopper = true) (hi : current < 500) :
    execChopperCheck current s = .next ((s.chopperSeen current).chopperFault 1) := by
  unfold execChopperCheck
  rw [if_pos hd]
  exact (if_pos ⟨hc, hi⟩).trans (congrArg _ (if_neg (by simp [ht])))

theorem execChopperCheck_of_shorted (hc : s.drives.chopper = false) (hi : 500 ≤ current) :
    execChopperCheck current s = .next ((s.chopperSeen current).chopperFault 2) := by
  unfold execChopperCheck
  rw [if_pos hd]
  exact (if_neg (by simp [hc])).trans (if_pos ⟨hc, hi⟩)

/-- The current is as the chopper is commanded: no fault, and a test goes on or passes (R310). -/
theorem execChopperCheck_of_agreeing (h : s.drives.chopper = true ↔ 500 ≤ current) : execChopperCheck current s =
    .next (if s.drives.testing = 1 then (s.chopperSeen current).setChopper false
      else if s.drives.testing = 2 then (s.chopperSeen current).chopperPassed else s.chopperSeen current) := by
  have hopen : ¬ (s.drives.chopper = true ∧ current < 500) := fun ⟨hc, hi⟩ => absurd (h.mp hc) (Nat.not_le.mpr hi)
  have hshort : ¬ (s.drives.chopper = false ∧ 500 ≤ current) := fun ⟨hc, hi⟩ => by simp [h.mpr hi] at hc
  unfold execChopperCheck
  rw [if_pos hd]
  refine (if_neg hopen).trans ((if_neg hshort).trans ?_)
  split
  · rfl
  · split <;> rfl

end

/-! ## The overvoltage trip -/

theorem State.n_setBusSwitch (s : State) (closed : Bool) {k : Nat} (h : k ≠ K 0x410F 8) : (s.setBusSwitch closed).n k = s.n k := by
  unfold State.setBusSwitch
  split
  · rfl
  · rw [State.busEvent, State.n_event, State.setb_eq, State.n_put_ne _ _ h]

/-- The trip is counted and sent (R311). -/
def State.busTripped (s : State) : State := (s.bump (K 0x410F 0xB)).fault 0x8E 0xA (s.n (K 0x410F 7))

theorem State.trips_busTripped (s : State) : s.busTripped.n (K 0x410F 0xB) = (s.n (K 0x410F 0xB) + 1) % 2 ^ 32 := by
  rw [State.busTripped, State.fault_eq, State.n_detect _ _ (by decide), State.bump_eq, State.n_put_same, Int.toNat_natCast]

theorem State.sent_busTripped (s : State) (closed : Bool) :
    (s.busTripped.setBusSwitch closed).Sent 0x8E 0xA (s.n (K 0x410F 7)) :=
  have hsent : s.busTripped.Sent 0x8E 0xA (s.n (K 0x410F 7)) := State.sent_fault ..
  hsent.of_keeps (State.setBusSwitch_keeps (m := Area.lid.allBut) (by decide) (Keeps.refl _ _))

theorem execBusOvervoltageTrip_eq (s : State) : execBusOvervoltageTrip s =
    .next { s.busTripped.setBusSwitch false with drives := { (s.busTripped.setBusSwitch false).drives with tripped := true } } := rfl

end Sys2Proof.Machine

/-- Settles O51: each period, limit, edge and sample is the equation above that its conditions choose. That a pin is lost with any
of its readers silent, by the shortest of their timeouts, is the model's reading (log entry 197). -/
theorem drivePower : Obligations.DrivePower := by
  unfold Obligations.DrivePower
  intro c k input bus current ia ib s
  simp only [exec_pwmPeriod, exec_currentLimitExceeded, exec_tripCurrent, exec_sdInputInvalid, exec_commandPinLost,
    exec_commandPinReturn, exec_brakeTimeElapsed, exec_busSample, exec_chopperCheck, exec_busOvervoltageTrip]
  refine ⟨fun hon hm h1 h3 => ?_, fun hon hp h1 h3 hs hu => ?_, fun hon hp h1 h3 hs => ?_, fun h hb => ?_, fun h hb => ?_,
    fun hon h1 h3 => ?_, fun hon => ?_, fun hoff => if_neg (by simp [hoff]), fun hon h3 hi => ?_,
    fun hp => if_neg (by simp; omega), fun hr hl hs => ?_, execCommandPinLost_of_other, fun hk hl => ?_, fun hl => ?_,
    fun hon h hd => ?_, fun h => ?_, fun h ht => ?_, fun h hh => ?_, fun hd ht hc hi => ?_, fun hd ht hc hi => ?_,
    fun hd ht h => ?_, fun hd ht hc hi => ?_, fun hd ht hc hi => ?_, fun hd => if_neg (by simp [hd]), ?_⟩
  · refine ⟨_, execPwmPeriod_of_motor hon h1 h3 ia ib hm, ?_, State.bytes_put_same .., ?_, rfl⟩
    · rw [State.setBytes_eq, State.n_put_ne _ _ (dk_ne_dk (by decide)), State.duty_periodBegun]
    · rw [State.setBytes_eq, State.drive_put, State.drive_periodBegun]
  · have hunskipped : ((s.periodBegun c).drive c).unskipped ≠ 1024 := by
      rw [State.drive_periodBegun]
      exact hu
    rw [execPwmPeriod_of_polygon hon h1 h3 ia ib hp, if_pos ((s.short_periodBegun c).mpr hs), if_neg hunskipped]
    exact ⟨_, rfl, (State.reads_eq (s.val_periodSkipped c (dk_ne_dk (by decide)))).2.1.trans (s.duty_periodBegun c),
      s.skips_periodSkipped c, (s.val_periodSkipped c (dk_ne_dk (by decide))).trans (s.val_periodBegun c (dk_ne_dk (by decide))), rfl⟩
  · rw [execPwmPeriod_of_polygon hon h1 h3 ia ib hp, if_neg (mt (s.short_periodBegun c).mp (Nat.not_lt.mpr hs))]
    exact ⟨_, rfl, (State.reads_eq (s.val_periodSensed c ia (dk_ne_dk (by decide)))).2.1.trans (s.duty_periodBegun c),
      (s.val_periodSensed c ia (dk_ne_dk (by decide))).trans (s.val_periodBegun c (dk_ne_dk (by decide))), State.bytes_put_same ..⟩
  · rw [execPwmPeriod_of_rest h, hb, if_neg Bool.false_ne_true]
  · rw [execPwmPeriod_of_rest h, hb, if_pos rfl]
    exact ⟨_, rfl, by rw [State.drive_setDrive_same], rfl⟩
  · exact ⟨_, execCurrentLimitExceeded_of_driven hon h1 h3, by rw [State.drive_setDrive_same], rfl, rfl⟩
  · exact ⟨_, execTripCurrent_of_on hon, State.sent_fault .., State.detect_drives ..⟩
  · exact ⟨_, execSdInputInvalid_of_motor hon h3 hi, State.sent_fault s (driveSource c) 7 c, State.logged_event ..,
      State.detect_drives ..⟩
  · exact ⟨s.pinLost k, execCommandPinLost_of_silent hr hl hs, State.sent_fault _ 0x8D 7 k, s.lost_pinLost k, _, State.logged_event ..⟩
  · exact ⟨s.pinBack k, execCommandPinReturn_of_lost hk hl, s.lost_pinBack k, s.lid_pinBack k⟩
  · exact ⟨_, execCommandPinReturn_of_known hl, rfl, rfl⟩
  · exact ⟨_, execBrakeTimeElapsed_of_due hon h hd, by rw [State.drive_setDrive_same],
      by rw [State.armed_setDrive, State.armed_disarm_same], by rw [State.setDrive_od, State.disarm_od]⟩
  · have hth : (s.busMeasured bus).n (K 0x410F 1) ≤ bus := (s.n_busMeasured bus (by decide)).trans_le h
    obtain ⟨hc, hunits, hn⟩ := State.busChops_of_high _ hth
    exact ⟨_, execBusSample_eq bus s, (hn _).trans (s.bus_busMeasured bus), hc, hunits⟩
  · have hth : bus + (s.busMeasured bus).n (K 0x410F 2) < (s.busMeasured bus).n (K 0x410F 1) := by
      rw [s.n_busMeasured bus (by decide), s.n_busMeasured bus (by decide)]
      exact h
    refine ⟨_, execBusSample_eq bus s, ?_⟩
    rw [State.busChops_of_low _ hth ht]
    exact ⟨(State.n_setChopper ..).trans (s.bus_busMeasured bus), State.chopper_setChopper _ false, (State.setChopper_rest _ false).1⟩
  · have hth := s.n_busMeasured bus (k := K 0x410F 1) (by decide)
    have hhy := s.n_busMeasured bus (k := K 0x410F 2) (by decide)
    rw [execBusSample_eq, State.busChops_of_between _ (by rwa [hth]) (by rwa [hth, hhy]), State.busMeasured]
  · exact ⟨_, execChopperCheck_of_open hd ht hc hi, State.state_chopperFault .., State.coasts_chopperFault .., State.sent_chopperFault ..⟩
  · exact ⟨_, execChopperCheck_of_shorted hd hc hi, State.state_chopperFault .., State.coasts_chopperFault ..,
      State.sent_chopperFault ..⟩
  · refine ⟨_, execChopperCheck_of_agreeing hd h, ?_⟩
    rw [ht]
    exact ⟨rfl, rfl, rfl⟩
  · refine ⟨_, execChopperCheck_of_agreeing hd (iff_of_true hc hi), ?_⟩
    rw [if_pos ht]
    obtain ⟨-, htesting, hlid⟩ := State.setChopper_rest (s.chopperSeen current) false
    exact ⟨State.chopper_setChopper _ false, htesting.trans (if_pos ⟨ht, hi⟩), hlid⟩
  · refine ⟨_, execChopperCheck_of_agreeing hd (iff_of_false (by simp [hc]) (Nat.not_le.mpr hi)), ?_⟩
    rw [ht]
    exact ⟨State.state_chopperPassed _, State.coasts_chopperPassed _, if_neg (by simp [ht])⟩
  · exact ⟨_, execBusOvervoltageTrip_eq s, rfl, State.flag_setBusSwitch _ false,
      (State.n_setBusSwitch _ false (by decide)).trans s.trips_busTripped, s.sent_busTripped false⟩
end

section
/-! PROOFS. Every command goes on, and leaves the parts it does not touch; reset is in canonical form (R467, R507). -/

open Sys2Proof Sys2Proof.Machine

/-- Settles O8: the frame of each command is what `exec_keeps_touches` proves of its operation. -/
theorem commandFrames : Obligations.CommandFrames := by
  unfold Obligations.CommandFrames
  intro c s t h p hp
  exact (exec_keeps_touches c s t h).same_of_notMem hp

/-- Settles O6: the memories of reset are empty, and its listed objects are few enough to evaluate. -/
theorem resetIsSound : Obligations.ResetIsSound := by
  unfold Obligations.ResetIsSound State.Sound
  exact ⟨by decide, memory_wf_empty, memory_wf_empty⟩
end

section
/-! PROOFS. Every command goes on, but for one sample of the motor bus (R507). -/

open Sys2Proof Sys2Proof.Machine

namespace Sys2Proof.Machine

/-! ## A meaning that goes on in each of its branches -/

theorem exists_next_ite {c : Prop} [Decidable c] {a b : Host.Outcome State Fault Refusal} (ha : ∃ t, a = .next t)
    (hb : ∃ t, b = .next t) : ∃ t, (if c then a else b) = .next t := by
  split
  · exact ha
  · exact hb

/-- A sample of the motor bus goes on up to the maximum rating of J2 (R507). -/
theorem execMotorBusSample_goes {bus j2 : Nat} (h : j2 ≤ 60000) (s : State) : ∃ t, execMotorBusSample bus j2 s = .next t := by
  unfold execMotorBusSample
  rw [if_neg (Nat.not_lt.mpr h)]
  dsimp only
  split <;> repeat' split
  all_goals exact ⟨_, rfl⟩

/-- Every command goes on: most answer one next state, many one of two behind a guard, and the others choose among several. -/
theorem exec_goes (c : Instr) (s : State) (hc : ∀ bus j2, c = .motorBusSample bus j2 → j2 ≤ 60000) : ∃ t, exec c s = .next t := by
  cases c with
  | motorBusSample bus j2 => exact execMotorBusSample_goes (hc bus j2 rfl) s
  | coldPowerUp | trivetRailLost | dictionaryWrite | sdoDownload | sdoUpload | sdoCompleteAccess | getOdList |
  getObjectDescription | getEntryDescription | mailboxRead | mailboxWrite | mailboxReadComplete | mailboxWriteComplete |
  storeParameters | restoreDefaultParameters | mainsZeroCrossing | mainsCrossingMissing | mainsHoldoverExpired | setOutput |
  clearOutput | divert | startImage | stopImage | releaseBands | hvOn | hvRamp | hvOff | stepMove | driveProfile | raiseEvent |
  checkInput | deliveryCheck | pageState | overcurrentClear | alignmentSourceWrite | hostMarker | pagePlanSubmit | release |
  cancel | reprint | markSpoiled | takeOutOfService | lockAcquire | lockRelease | busSample | chopperTest | busOvervoltageTrip |
  busReconnect | logicRailFault | domainRequestWrite | faultMessage | faultClear | stickyClear | reactionMapWrite | inject |
  standbyReload | plannedSwitchOver | crockRead | crockWrite | trim | spoolPage | spoolLoad | spoolDelete | spoolList |
  slotCommit | slotErase | attest | attestObject | certificates | moduleReset | powerCycle | moduleResetObject |
  powerCycleRequest | mismatchAcknowledge | reinitSequencerUnit | reinitPressLane | reinitStation | reinitPolygonTiming |
  reinitEncoder | reinitPositionBase | reinitLadle | reinitCrock | reinitDriveChannel | reinitStepperAxis | reinitLoopSlot |
  reinitHvChannel | reinitKettleZone =>
    exact ⟨_, rfl⟩
  | esmStateRequest | sm2WatchdogExpired | portLinkChange | encoderStandstillTimeout | encoderSignalInvalid | encoderEnableWrite
  | axisPreset | capture | captureConfigWrite | outputOvercurrent | dcSyncCycle | alignmentSyncLost | drainHoldoffExpired |
  sosWindowOpen | facetSos | lockEnableWrite | seekTimeout | relearn | facetSignatureWrite | engageRequestWrite |
  stationEngageChange | laserEnableWrite | apcSequence | readCurrent | driverStatusPoll | beamRestore | retiredBeamsWrite |
  vcselThermistorSample | laserOffEndOfLine | recipeWrite | gateSkip | deliveryEdge | webBreak | splice | laneFault |
  encodeBuffer | encodeBand | streamInput | streamFlush | streamClose | fenceOnly | copyList | copyIndex | ladleBusError |
  channelInputWrite | linkTrained | linkLoss | ringDrained | msixHoldoffExpired | vectorUnmask | ingestBlock | drainBoundExpired
  | driveEnableWrite | alignTimeElapsed | rampHandoverTimeout | observerLoss | catchPulse | catchTimeout | retryIntervalElapsed
  | currentLimitExceeded | tripCurrent | sdInputInvalid | startProfile | commandPinReturn | brakeTimeElapsed | axisEnableWrite |
  startMove | targetPositionWrite | stop | positionPreset | startHoming | standstillReleaseElapsed | loadAngleEstimate |
  homeInputEdge | homeDebounceElapsed | bridgeOvercurrent | bridgeThermalShutdown | slotEnableWrite | modeWrite |
  loopTargetWrite | hvEnableWrite | hostSwitch | zoneEnableWrite | kettleGateEdge | kettlePhaseFire | domainReady |
  domainRampTimeout | domainStopped | consequenceLimitExpired | interlockSenseChange | discrepancyTimeout | heartbeatWireBeat |
  ownershipTaken | gapWatchdogExpired | checkpointDelta | plannedWaitExpired | nandProgramFail | crockScrubPass | resetNRelease
  | powerCyclePulseExpired | expectedMeasurementsWrite | spliceDeactivation | seekingBlankingElapsed | eosWindowOpen |
  temperatureSample | channelEnableWrite =>
    exact exists_next_ite ⟨_, rfl⟩ ⟨_, rfl⟩
  | resetNLow =>
    exact exists_next_ite ⟨_, rfl⟩ (exists_next_ite ⟨_, rfl⟩ ⟨_, rfl⟩)
  | eosMeasured | laneSelfTestDone | scrubRead | scrubPeriodExpired | rampStep | wiredFaultCause | quietPeriodExpired |
  heartbeatPeriodEnd | crockMount =>
    exact exists_next_ite (exists_next_ite ⟨_, rfl⟩ ⟨_, rfl⟩) ⟨_, rfl⟩
  | moduleResetAct =>
    exact exists_next_ite ⟨_, rfl⟩ (exists_next_ite ⟨_, rfl⟩ (exists_next_ite ⟨_, rfl⟩ ⟨_, rfl⟩))
  | loopTrigger | supplyRecoveryElapsed | interlockTestPulse | sequencerHwFailure | unitLoadComplete | bootWatchdogExpired |
  pwmPeriod =>
    exact exists_next_ite (exists_next_ite ⟨_, rfl⟩ (exists_next_ite ⟨_, rfl⟩ ⟨_, rfl⟩)) ⟨_, rfl⟩
  | ringDescriptorWrite =>
    exact exists_next_ite (exists_next_ite ⟨_, rfl⟩ (exists_next_ite ⟨_, rfl⟩ (exists_next_ite ⟨_, rfl⟩ ⟨_, rfl⟩))) ⟨_, rfl⟩
  | limitInputActive =>
    exact exists_next_ite (exists_next_ite (exists_next_ite ⟨_, rfl⟩ (exists_next_ite ⟨_, rfl⟩ ⟨_, rfl⟩)) ⟨_, rfl⟩) ⟨_, rfl⟩
  | doorbellWrite | healthReport =>
    exact exists_next_ite (exists_next_ite (exists_next_ite ⟨_, rfl⟩ ⟨_, rfl⟩) (exists_next_ite ⟨_, rfl⟩ ⟨_, rfl⟩)) ⟨_, rfl⟩
  | pdoCycle | encoderEdge | stampSyncEdge | traceEntry | admissionTest | commit | deliveryWindowExpired | pageDeadlineExpired |
  spliceCleared | checkLaneComplete | decodeBlockComplete | encodeJobComplete | fabricTransactionComplete | ladleJobComplete |
  ladlePaceRequest | ladleLockWaitExpired | ringEnable | ingestDataRead | zeroCrossing | commandPinLost | chopperCheck |
  reEnergiseDone | moveComplete | loopEvaluation | hvOpenLoad | hvRampComplete | bulkSample | heartbeatWord |
  crockCommandComplete | healthRun | attestationSigned | automaticSpoolDone =>
    simp only [exec_pdoCycle, execPdoCycle, exec_encoderEdge, execEncoderEdge, exec_stampSyncEdge, execStampSyncEdge,
      exec_traceEntry, execTraceEntry, exec_admissionTest, execAdmissionTest, exec_commit, execCommit,
      exec_deliveryWindowExpired, execDeliveryWindowExpired, exec_pageDeadlineExpired, execPageDeadlineExpired,
      exec_spliceCleared, execSpliceCleared, exec_checkLaneComplete, execCheckLaneComplete, exec_decodeBlockComplete,
      execDecodeBlockComplete, exec_encodeJobComplete, execEncodeJobComplete, exec_fabricTransactionComplete,
      execFabricTransactionComplete, exec_ladleJobComplete, execLadleJobComplete, exec_ladlePaceRequest, execLadlePaceRequest,
      exec_ladleLockWaitExpired, execLadleLockWaitExpired, exec_ringEnable, execRingEnable, exec_ingestDataRead,
      execIngestDataRead, exec_zeroCrossing, execZeroCrossing, exec_commandPinLost, execCommandPinLost, exec_chopperCheck,
      execChopperCheck, exec_reEnergiseDone, execReEnergiseDone, exec_moveComplete, execMoveComplete, exec_loopEvaluation,
      execLoopEvaluation, exec_hvOpenLoad, execHvOpenLoad, exec_hvRampComplete, execHvRampComplete, exec_bulkSample,
      execBulkSample, exec_heartbeatWord, execHeartbeatWord, exec_crockCommandComplete, execCrockCommandComplete,
      exec_healthRun, execHealthRun, exec_attestationSigned, execAttestationSigned, exec_automaticSpoolDone,
      execAutomaticSpoolDone]
    repeat' split
    all_goals exact ⟨_, rfl⟩

end Sys2Proof.Machine

/-- Settles O3: in every branch of its meaning a command answers a next state, and beyond the maximum rating of J2 the sample is
the fault. -/
theorem everyCommandGoes : Obligations.EveryCommandGoes := by
  unfold Obligations.EveryCommandGoes
  exact ⟨exec_goes, fun bus j2 s h => if_pos h⟩
end

section
/-! PROOFS. The states and profiles of a stepper axis, and what the accepted writes of the axes do (R323 to R325, R328, R329, R331,
R336, R338). -/

open Sys2Proof Sys2Proof.Machine

namespace Sys2Proof.Machine

/-! ## The objects of an axis -/

/-- Two objects of an axis are one where module and subindex are. -/
theorem axk_ne_axk {n m a m' b : Nat} (h : m * 256 + a ≠ m' * 256 + b) : axk n m a ≠ axk n m' b := by
  intro e
  have e' : (0x4400 + 0x10 * (n - 1) + m) * 256 + a = (0x4400 + 0x10 * (n - 1) + m') * 256 + b := e
  omega

/-- The objects below the axes', those of the supplies and of the injection among them, are none of an axis. -/
theorem ne_axk {n m a k : Nat} (h : k < K 0x4400 0) : k ≠ axk n m a := by
  simp only [axk, K] at h ⊢
  omega

theorem axisOf_axis {n : Nat} (h1 : 1 ≤ n) : axisOf (0x43F0 + 16 * n) = n := by
  unfold axisOf
  omega

/-! ## A change of state -/

theorem State.axisState_axisTo (s : State) (n new cause : Nat) : (s.axisTo n new cause).axisState n = new := by
  unfold State.axisTo
  extract_lets old s1
  split
  · next h => exact h
  · rw [State.axisState, State.n_setStepper, State.n_event, State.setn_eq, State.n_put_same, Int.toNat_natCast]

/-- A change of state changes no object but `Axis state`. -/
theorem State.val_axisTo (s : State) (n new cause : Nat) {k : Nat} (h : k ≠ axk n 0 2) :
    (s.axisTo n new cause).val k = s.val k := by
  unfold State.axisTo
  extract_lets old s1
  split
  · rfl
  · exact State.val_put_ne s _ h

/-- Of an axis' memory a change of state changes what the bridges are off for, and when the axis stood still. -/
theorem State.stepper_axisTo (s : State) (n new cause : Nat) : ∃ d b t, (s.axisTo n new cause).stepper n =
    { s.stepper n with dark := d, busDown := b, stillAt := t } := by
  unfold State.axisTo
  extract_lets old s1
  split
  · exact ⟨_, _, _, rfl⟩
  · exact ⟨_, _, _, State.stepper_setStepper_same ..⟩

theorem State.stamp_axisTo (s : State) (n new cause : Nat) : (s.axisTo n new cause).stamp = s.stamp :=
  (State.axisTo_keeps (m := Area.clock.allBut) (by decide) (Keeps.refl _ s)).same_of_allBut

/-- With the motor bus up an axis that comes to rest is in STANDSTILL (R335). -/
theorem State.axisStands_of_bus {s : State} (h : s.busLow = false) (n cause : Nat) : s.axisStands n cause = s.axisTo n 1 cause :=
  if_neg (by simp [h])

/-! ## Profiles -/

theorem State.stepper_runPlan (s : State) (n purpose : Nat) (plan : List Segment) (goal : Int) :
    (s.runPlan n purpose plan goal).stepper n =
      { s.stepper n with plan := plan, goal := goal, begun := s.stamp, purpose := purpose } :=
  State.stepper_setStepper_same ..

/-- A move that runs: the axis is MOVING to the target of its entry, from now, and the count stays (R328, R329). -/
theorem State.runMove_runs (s : State) (n e tag : Nat) (m : Move) : (s.runMove n e tag m).axisState n = 3 ∧
    ((s.runMove n e tag m).stepper n).goal = s.moveTarget n m * micro ∧ ((s.runMove n e tag m).stepper n).purpose = 1 ∧
    ((s.runMove n e tag m).stepper n).entry = e ∧ ((s.runMove n e tag m).stepper n).begun = s.stamp ∧
    (s.runMove n e tag m).i (axk n 0 4) = s.i (axk n 0 4) := by
  unfold State.runMove
  extract_lets now goal rev replaces x s1 s2
  obtain ⟨d, b, t, hx⟩ := s1.stepper_axisTo n 3 2
  have hentry : (s2.stepper n).entry = e := by
    rw [show s2.stepper n = _ from hx, State.stepper_setStepper_same]
  rw [State.stepper_runPlan]
  exact ⟨s1.axisState_axisTo n 3 2, rfl, rfl, hentry, s1.stamp_axisTo n 3 2,
    (State.reads_eq (s1.val_axisTo n 3 2 (axk_ne_axk (by decide)))).1⟩

theorem State.startMove_of_energised {s : State} {n e : Nat} {target : Int} {m : Move} (h : s.axisState n ≠ 2)
    (hm : s.moveOf n e target = some m) (tag : Nat) (slot : Bool) : s.startMove n e tag slot target = s.runMove n e tag m := by
  rw [State.startMove, if_neg h, hm]

theorem State.startMove_of_powered_down {s : State} {n : Nat} (h : s.axisState n = 2) (e tag : Nat) (slot : Bool) (target : Int) :
    s.startMove n e tag slot target = s.energise n (if slot then 2 else 1) e tag target := if_pos h

/-- What waits for the coils stands in the axis' memory (R324). -/
theorem State.stepper_energise (s : State) (n waiting e tag : Nat) (target : Int) : (s.energise n waiting e tag target).stepper n =
    { s.stepper n with waiting := waiting, entry := e, tag := tag, target := target, energisedAt := s.stamp } := by
  unfold State.energise
  extract_lets s1
  split <;> exact State.stepper_setStepper_same ..

/-! ## The rows of the table, and what the written objects do -/

section
variable {n : Nat} (h1 : 1 ≤ n) (h12 : n ≤ 12)
include h1 h12

theorem State.effect_axis (s : State) (sub : Nat) (old new : Val) : s.effect (0x43F0 + 16 * n) sub old new =
    if sub = 1 then s.axisEnable n (decide (new.int ≠ 0))
    else if sub = 6 then s.targetWritten n old.int new.int else s := by
  rw [State.effect, if_neg (by omega), if_neg (by omega), State.effectHigh, if_neg (by omega), if_neg (by omega),
    if_neg (by omega), if_pos (by omega), if_neg (by omega), axisOf_axis h1]

theorem State.command_axis (s : State) (path : Path) (sub : Nat) (v : Val) (answers : List Frame) :
    s.command path (0x43F0 + 16 * n) sub v answers =
      match sub with
      | 7 => s.hostMove n v.nat
      | 8 => (s.hostActs n (0x100 + v.nat)).stopAxis n v.nat
      | 9 => s.presetAxis n v.int
      | _ => s.startHoming n := by
  rw [State.command, if_neg (by omega), if_neg (by omega), if_neg (by omega), if_neg (by omega), if_neg (by omega),
    if_neg (by omega), if_neg (by omega), if_neg (by omega), if_neg (by omega), if_pos (by omega), axisOf_axis h1] <;> rfl

end

/-! ## Enable, moves, stops and homing -/

theorem State.axisState_enabled {s : State} {n : Nat} (h0 : s.axisState n = 0) (hb : s.busLow = false) :
    (s.axisEnable n true).axisState n = 1 := by
  rw [State.axisEnable, if_pos rfl, if_pos h0, State.axisStands_of_bus hb, State.axisState_axisTo]

theorem State.axisState_disabled {s : State} {n : Nat} (h6 : s.axisState n ≠ 6) : (s.axisEnable n false).axisState n = 0 := by
  rw [State.axisEnable, if_neg Bool.false_ne_true, if_neg h6, State.axisState_axisTo]

/-- A changed `Target position` is a new move (R328, R329). -/
theorem State.targetWritten_of_changed {s : State} {n : Nat} {old new : Int} (hne : old ≠ new) (h2 : s.axisState n ≠ 2) :
    s.targetWritten n old new = (s.hostActs n 0xFF).runMove n 0xFF 0
      { relative := false, rejectBehind := false, target := new, limits := s.followLimits n } := by
  rw [State.targetWritten, if_neg (fun h => hne h.1), State.startMove_of_energised (s := s.hostActs n 0xFF) h2 (if_pos rfl)]
  rfl

/-- A stop of what moves is the profile of the stop (R331). -/
theorem State.purpose_stopAxis {s : State} {n kind : Nat} (hm : s.axisState n = 3 ∨ s.axisState n = 4)
    (hw : (s.stepper n).waiting = 0) (h6 : (s.stepper n).purpose ≠ 6) (h7 : (s.stepper n).purpose ≠ 7) :
    ((s.stopAxis n kind).stepper n).purpose = 2 := by
  unfold State.stopAxis
  extract_lets x now halt
  rw [if_neg (not_not.mpr hw), if_pos ⟨hm, h6, h7⟩, State.stepper_runPlan]

theorem State.stepper_hostActs (s : State) (n what : Nat) : (s.hostActs n what).stepper n =
    { s.stepper n with hostAt := some s.stamp, hostWrote := what } := State.stepper_setStepper_same ..

/-- A preset sets the count and makes it valid (R325). -/
theorem State.presetAxis_sets (s : State) (n : Nat) (v : Int) :
    (s.presetAxis n v).i (axk n 0 4) = v ∧ (s.presetAxis n v).flag (axk n 0 3) = true := by
  have hcount : (s.recount n v).i (axk n 0 4) = v := State.i_put_same s _ v
  exact ⟨(State.i_put_ne (s.recount n v) _ (axk_ne_axk (by decide))).trans hcount, State.flag_put_bool (s.recount n v) _ true⟩

/-- With no input active homing searches from where the axis stands (R336). -/
theorem State.runHoming_of_free {s : State} {n : Nat} (hp : s.limitActive n true = false) (hn : s.limitActive n false = false)
    (hh : inputActive (s.n (axk n 3 1)) s.pos.inputs = false) :
    (s.runHoming n).axisState n = 4 ∧ ((s.runHoming n).stepper n).purpose = 3 ∧ (s.runHoming n).n (axk n 3 0xA) = 1 := by
  unfold State.runHoming
  extract_lets limited levels x s1 s2 up s4 y s3
  have hstate : s2.axisState n = 4 :=
    (State.n_put_ne (s1.axisTo n 4 1) _ (axk_ne_axk (by decide))).trans (s1.axisState_axisTo n 4 1)
  have h3 : s3 = s2.searchLeg n up := if_neg (by simp [limited, hp, hn])
  rw [if_neg (by simp [hh]), h3]
  refine ⟨hstate, ?_, State.n_put_same (s1.axisTo n 4 1) (axk n 3 0xA) 1⟩
  rw [State.searchLeg, State.stepper_runPlan]

end Sys2Proof.Machine

/-- Settles O41: an accepted write is its object's row of the table with the effect found there; an axis that is energised
runs the move or the search, and one that is POWERED DOWN keeps it waiting. That a stop notes what the host wrote is log entry 202. -/
theorem stepperWrites : Obligations.StepperWrites := by
  unfold Obligations.StepperWrites
  intro path data s
  refine ⟨fun n h1 h12 ha => ?_, fun n h1 h12 ha => ?_, fun n h1 h12 ha => ?_, fun n h1 h12 ha => ?_, fun n h1 h12 ha => ?_,
    fun n h1 h12 ha => ?_, fun u n _ _ h0 hb => State.axisState_enabled h0 hb, fun u n _ _ h6 => State.axisState_disabled h6,
    fun u n e m _ _ h2 hm => ?_, fun u n e h2 => ?_, fun u n old new _ _ hne h2 => ?_, fun u n kind hm hw h6 h7 => ?_,
    fun u n v => u.presetAxis_sets n v, fun u n h2 => ?_, fun u n _ _ h2 hp hn hh => ?_⟩
  · rw [exec_axisEnableWrite, execAxisEnableWrite, if_pos ⟨h1, h12⟩,
      State.writeRow_value ha (rk_axisEnableWrite n (by omega) h1) nofun (by omega) (by omega) (by omega), State.effect_axis h1 h12]
    simp [Ty.decode, Val.int]
  · rw [exec_startMove, execStartMove, if_pos ⟨h1, h12⟩,
      State.writeRow_command ha (rk_startMove n (by omega) h1) (by omega) (by omega), State.command_axis h1 h12]
    simp [Ty.decode, Val.nat, Val.int]
  · rw [exec_targetPositionWrite, execTargetPositionWrite, if_pos ⟨h1, h12⟩,
      State.writeRow_value ha (rk_targetPositionWrite n (by omega) h1) nofun (by omega) (by omega) (by omega),
      State.effect_axis h1 h12]
    simp [Ty.decode, Val.int]
  · rw [exec_stop, execStop, if_pos ⟨h1, h12⟩, State.writeRow_command ha (rk_stop n (by omega) h1) (by omega) (by omega),
      State.command_axis h1 h12]
    simp [Ty.decode, Val.nat, Val.int]
  · rw [exec_positionPreset, execPositionPreset, if_pos ⟨h1, h12⟩,
      State.writeRow_command ha (rk_positionPreset n (by omega) h1) (by omega) (by omega), State.command_axis h1 h12]
    simp [Ty.decode, Val.int]
  · rw [exec_startHoming, execStartHoming, if_pos ⟨h1, h12⟩,
      State.writeRow_command ha (rk_startHoming n (by omega) h1) (by omega) (by omega), State.command_axis h1 h12]
    rfl
  · have hrun : u.hostMove n e = (u.hostActs n e).runMove n e 0 m :=
      State.startMove_of_energised (s := u.hostActs n e) h2 hm 0 false
    obtain ⟨hstate, -, hpurpose, hentry, hbegun, -⟩ := (u.hostActs n e).runMove_runs n e 0 m
    rw [hrun]
    exact ⟨hstate, hentry, hpurpose, hbegun⟩
  · rw [State.hostMove, State.startMove_of_powered_down (s := u.hostActs n e) h2, State.stepper_energise]
    exact ⟨rfl, rfl⟩
  · obtain ⟨hstate, -, -, hentry, -, -⟩ := (u.hostActs n 0xFF).runMove_runs n 0xFF 0
      { relative := false, rejectBehind := false, target := new, limits := u.followLimits n }
    rw [State.targetWritten_of_changed hne h2]
    exact ⟨hstate, hentry⟩
  · refine State.purpose_stopAxis hm ?_ ?_ ?_ <;> rwa [State.stepper_hostActs]
  · rw [State.startHoming, if_pos h2, State.stepper_energise]
  · rw [State.startHoming, if_neg h2]
    exact State.runHoming_of_free hp hn hh
end

section
/-! PROOFS. How a stepper axis rests, moves, homes and fails (R323, R324, R328, R329, R333 to R337, R344). -/

open Sys2Proof Sys2Proof.Machine

namespace Sys2Proof.Machine

/-! ## What a change of state and a fault leave -/

/-- A change of state is recorded in EV114 (R323). -/
theorem State.logged_axisTo {s : State} {n new : Nat} (h : s.axisState n ≠ new) (cause : Nat) :
    (s.axisTo n new cause).Logged 114 (new + s.axisState n * 256 + n * 65536 + cause * 2 ^ 24) := by
  unfold State.axisTo
  extract_lets old s1
  rw [if_neg h]
  exact State.logged_of_held (State.logged_event (s.setn (axk n 0 2) new) 114 _) rfl (fun _ hr => hr)

theorem State.axisState_axisFault (s : State) (n kind : Nat) : (s.axisFault n kind).axisState n = 5 :=
  State.axisState_axisTo ..

theorem State.axisState_loseValid (s : State) (n cause : Nat) : (s.loseValid n cause).axisState n = s.axisState n := by
  unfold State.loseValid
  split
  · exact State.n_put_ne s _ (axk_ne_axk (by decide))
  · rfl

theorem State.flag_loseValid (s : State) (n cause : Nat) : (s.loseValid n cause).flag (axk n 0 3) = false := by
  unfold State.loseValid
  split
  · exact State.flag_put_bool s _ false
  · next h => exact Bool.eq_false_iff.mpr h

theorem State.Sent.axisFault {s : State} {a b c : Nat} (h : s.Sent a b c) (n kind : Nat) : (s.axisFault n kind).Sent a b c :=
  h.of_keeps (State.axisFault_keeps (by decide) (Keeps.refl _ s))

theorem State.Sent.loseValid {s : State} {a b c : Nat} (h : s.Sent a b c) (n cause : Nat) : (s.loseValid n cause).Sent a b c :=
  h.of_keeps (State.loseValid_keeps (by decide) (Keeps.refl _ s))

/-- An axis that fails and loses its position is in FAULT, with the message that was sent on its way (R325, R344). -/
theorem State.faulted {s : State} {a b c : Nat} (h : s.Sent a b c) (n kind cause : Nat) :
    ((s.axisFault n kind).loseValid n cause).axisState n = 5 ∧
      ((s.axisFault n kind).loseValid n cause).flag (axk n 0 3) = false ∧
      ((s.axisFault n kind).loseValid n cause).Sent a b c :=
  ⟨(State.axisState_loseValid ..).trans (State.axisState_axisFault ..), State.flag_loseValid .., (h.axisFault n kind).loseValid n cause⟩

theorem State.axisState_fault (s : State) (source kind address n : Nat) : (s.fault source kind address).axisState n = s.axisState n :=
  State.n_detect s _ (ne_axk (by decide)).symm

/-! ## Rest and re-energising -/

theorem execStandstillReleaseElapsed_of_due {s : State} {n : Nat} (hon : s.axisOn n = true) (h1 : s.axisState n = 1)
    (ht : s.n (axk n 1 3) ≠ 0) (hd : (s.stepper n).stillAt + s.n (axk n 1 3) * 1000000 ≤ s.stamp) :
    execStandstillReleaseElapsed n s = .next ((s.axisTo n 2 2).positionEvent n 3 0) := by
  simp [execStandstillReleaseElapsed, hon, h1, ht, hd]

theorem execStandstillReleaseElapsed_of_other {s : State} {n : Nat} (h : s.axisState n ≠ 1 ∨ s.n (axk n 1 3) = 0) :
    execStandstillReleaseElapsed n s = .next s := by
  refine if_neg ?_
  rcases h with h | h <;> simp [h]

/-- The standstill time is over: the axis is POWERED DOWN where it stands (R323). -/
theorem State.powered_down {s : State} {n : Nat} (h1 : s.axisState n = 1) :
    ((s.axisTo n 2 2).positionEvent n 3 0).axisState n = 2 ∧
      ((s.axisTo n 2 2).positionEvent n 3 0).i (axk n 0 4) = s.i (axk n 0 4) ∧
      ((s.axisTo n 2 2).positionEvent n 3 0).Logged 114 (2 + 256 + n * 65536 + 2 * 2 ^ 24) ∧
      ((s.axisTo n 2 2).positionEvent n 3 0).Logged 119 (3 + n * 65536 + unsigned 32 (s.i (axk n 0 4)) * 2 ^ 32) := by
  have hi : (s.axisTo n 2 2).i (axk n 0 4) = s.i (axk n 0 4) :=
    (State.reads_eq (s.val_axisTo n 2 2 (axk_ne_axk (by decide)))).1
  have hlog : (s.axisTo n 2 2).Logged 114 (2 + s.axisState n * 256 + n * 65536 + 2 * 2 ^ 24) :=
    State.logged_axisTo (by omega) 2
  rw [h1] at hlog
  refine ⟨s.axisState_axisTo n 2 2, hi, State.logged_of_held hlog rfl fun _ hr => List.mem_append_left _ hr, ?_⟩
  rw [← hi]
  exact State.logged_event (s.axisTo n 2 2) 119 _

section
variable {s : State} {n : Nat} (hon : s.axisOn n = true) (h2 : s.axisState n = 2) (hb : s.busLow = false)
  (hd : (s.stepper n).energisedAt + s.n (axk n 1 4) * 1000000 ≤ s.stamp)
include hon h2 hb hd

theorem execReEnergiseDone_of_homing (hw : (s.stepper n).waiting = 3) : execReEnergiseDone n s = .next (s.runHoming n) := by
  simp [execReEnergiseDone, hon, h2, hb, hd, hw]

theorem execReEnergiseDone_of_move {m : Move} (hw : (s.stepper n).waiting = 1 ∨ (s.stepper n).waiting = 2)
    (hr : s.moveRefusal n (s.stepper n).entry (s.stepper n).target = none)
    (hm : s.moveOf n (s.stepper n).entry (s.stepper n).target = some m) :
    execReEnergiseDone n s = .next (s.runMove n (s.stepper n).entry (s.stepper n).tag m) := by
  rcases hw with hw | hw <;> simp [execReEnergiseDone, hon, h2, hb, hd, hw, hr, hm]

theorem execReEnergiseDone_of_refused {code : Nat} (hw : (s.stepper n).waiting = 2)
    (hr : s.moveRefusal n (s.stepper n).entry (s.stepper n).target = some code) : execReEnergiseDone n s =
      .next ((s.setStepper n { s.stepper n with waiting := 0 }).notStarted n (s.stepper n).entry code (s.stepper n).tag) := by
  simp [execReEnergiseDone, hon, h2, hb, hd, hw, hr]

end

theorem execReEnergiseDone_of_other {s : State} {n : Nat} (h : (s.stepper n).waiting = 0 ∨ s.busLow = true) :
    execReEnergiseDone n s = .next s := by
  refine if_neg ?_
  rcases h with h | h <;> simp [h]

/-- A move that is not started is answered with kind 0x6, and the axis is as it was (R328). -/
theorem State.notStarted_rest (s : State) (n e code tag : Nat) : (s.notStarted n e code tag).axisState n = s.axisState n ∧
    (s.notStarted n e code tag).stepper n = s.stepper n ∧ (s.notStarted n e code tag).Sent (stepSource n) 6 n := by
  refine ⟨State.axisState_fault .., ?_, State.sent_fault ..⟩
  rw [State.notStarted, State.fault_eq, State.stepper, State.detect_steppers]
  rfl

/-! ## The end of a profile -/

section
variable {s : State} {n : Nat} (hon : s.axisOn n = true) (hp : (s.stepper n).plan ≠ [])
  (hd : (s.stepper n).begun + planTime (s.stepper n).plan ≤ s.stamp)
include hon hp hd

/-- A move, a stop or a search that has come to rest leaves the axis standing (R323, R329, R331). -/
theorem execMoveComplete_of_move (h : (s.stepper n).purpose < 4) : execMoveComplete n s =
    .next ((((s.axisHalt n).axisStands n 2).bump (axk n 0 0xF)).moveEvent n 2 (s.stepper n).entry 0 (s.stepper n).tag) := by
  have hx : (s.stepper n).purpose = 0 ∨ (s.stepper n).purpose = 1 ∨ (s.stepper n).purpose = 2 ∨ (s.stepper n).purpose = 3 := by omega
  rcases hx with hx | hx | hx | hx <;> simp [execMoveComplete, hon, hp, hd, hx]

theorem execMoveComplete_of_home (h : (s.stepper n).purpose = 4) : execMoveComplete n s = .next ((s.axisHalt n).homeDone n) := by
  simp [execMoveComplete, hon, hp, hd, h]

theorem execMoveComplete_of_limit (h : (s.stepper n).purpose = 7) : execMoveComplete n s =
    .next ((s.axisHalt n).homeFails n 6) := by
  simp [execMoveComplete, hon, hp, hd, h]

end

theorem execMoveComplete_of_other {s : State} {n : Nat} (h : (s.stepper n).plan = [] ∨
    s.stamp < (s.stepper n).begun + planTime (s.stepper n).plan) : execMoveComplete n s = .next s := by
  refine if_neg ?_
  rcases h with h | h
  · simp [h]
  · simp [Nat.not_le.mpr h]

/-- A halted axis has no profile, no load angle and no debounce time. -/
theorem State.axisHalt_halts (s : State) (n : Nat) : ((s.axisHalt n).stepper n).plan = [] ∧ (s.axisHalt n).i (axk n 0 0xB) = 0 ∧
    (s.axisHalt n).armed (tmDebounce n) = false := by
  unfold State.axisHalt
  extract_lets s1 s2 x
  refine ⟨?_, State.i_put_same (s2.setStepper n _) _ 0, State.armed_disarm_same ..⟩
  rw [State.stepper_disarm, State.seti_eq, State.stepper_put, State.stepper_setStepper_same]

/-- Homing that is done leaves the axis in STANDSTILL at a valid position (R336). -/
theorem State.homeDone_stands {s : State} (hb : s.busLow = false) (n : Nat) : (s.homeDone n).axisState n = 1 ∧
    (s.homeDone n).flag (axk n 0 3) = true ∧ (s.homeDone n).n (axk n 3 0xA) = 4 := by
  unfold State.homeDone
  extract_lets shift s1
  have hbus : ((s1.setn (axk n 3 0xA) 4).homeEvent n 4 0).busLow = false := by
    have hn : ((s1.setn (axk n 3 0xA) 4).homeEvent n 4 0).n (K 0x2100 0xB) = s.n (K 0x2100 0xB) :=
      (State.n_put_ne s1 _ (ne_axk (by decide))).trans ((State.n_put_ne (s.recount n _) _ (ne_axk (by decide))).trans
        (State.n_put_ne s _ (ne_axk (by decide))))
    rw [State.busLow, hn]
    exact hb
  rw [State.axisStands_of_bus hbus]
  refine ⟨State.axisState_axisTo .., ?_, ?_⟩
  · rw [(State.reads_eq (State.val_axisTo _ n 1 2 (axk_ne_axk (by decide)))).2.2.1]
    exact (State.flag_put_ne s1 _ (axk_ne_axk (by decide))).trans (State.flag_put_bool _ _ true)
  · rw [(State.reads_eq (State.val_axisTo _ n 1 2 (axk_ne_axk (by decide)))).2.1]
    exact State.n_put_same s1 _ 4

/-! ## A full step -/

theorem State.whileMoving_of_moving {s : State} {n : Nat} (h : s.axisState n = 3 ∨ s.axisState n = 4) (f : State → State) :
    s.whileMoving n f = f s := if_pos h

theorem State.whileMoving_of_rest {s : State} {n : Nat} (h3 : s.axisState n ≠ 3) (h4 : s.axisState n ≠ 4) (f : State → State) :
    s.whileMoving n f = s := if_neg (by simp [h3, h4])

theorem execLoadAngleEstimate_of_on {s : State} {n : Nat} (hon : s.axisOn n = true) (lag : Int) (coil : Nat) :
    execLoadAngleEstimate n lag coil s = .next (s.whileMoving n fun t =>
      ((((t.axisAdvance n).driveModeStep n).loadStep n lag).whileMoving n fun u => u.coilStep n coil).whileMoving n
        fun u => u.distanceStep n) := if_pos hon

/-- The sixteenth full step without coil current ends in FAULT (R335). -/
theorem State.coilStep_of_open {s : State} {n coil : Nat} (hk : 16 ≤ (s.stepper n).open_ + 1) (hm : s.n (axk n 0 0xC) = 1)
    (hc : coil < 25) : s.coilStep n coil =
      (((s.setStepper n { s.stepper n with open_ := (s.stepper n).open_ + 1 }).fault (stepSource n) 7 n).axisFault n 7).loseValid n 6 := by
  simp only [State.coilStep, hm, hc, and_self, if_true, hk]

section
variable {s : State} {n : Nat} {lag : Int}

/-- A lag beyond 180° is a lost step: kind 8 is sent first, and the axis fails (R333, R344). -/
theorem State.loadStep_of_lost (hv : s.n (axk n 2 3) * 256 ≤ (s.i (axk n 0 5)).natAbs) (hlag : 180 < lag) :
    (s.loadStep n lag).axisState n = 5 ∧ (s.loadStep n lag).Sent (stepSource n) 8 n := by
  have hl : decide (180 < lag) = true := decide_eq_true hlag
  unfold State.loadStep
  rw [if_pos hv]
  extract_lets x high above under lost stall clear s1 s2 s3 s4 stops trip s5 s6
  have hlost : lost = true := hl
  have hsent : s5.Sent (stepSource n) 8 n := by
    unfold s5
    rw [hlost, if_pos rfl, List.append_assoc, State.each, List.foldl_append]
    exact State.Sent.foldl (fun _ _ ht => ht.fault _ _ _) (State.sent_fault s4 _ _ _) _
  rw [if_pos (by simp [hlost]), if_pos hlost]
  obtain ⟨hstate, -, hs⟩ := State.faulted hsent n (if lost = false ∧ trip = true then 6 else 8) 2
  exact ⟨hstate, hs⟩

/-- A lag under the stall threshold sets the load angle and starts the run of high estimates again (R333). -/
theorem State.loadStep_of_low (hv : s.n (axk n 2 3) * 256 ≤ (s.i (axk n 0 5)).natAbs) (hlag : lag ≤ 180) (hlow : lag < s.n (axk n 2 1))
    (hs : (s.stepper n).stalled = false) (h0 : s.n (axk n 2 2) ≠ 0) :
    s.loadStep n lag = (s.seti (axk n 0 0xB) (clampInt (-32768) 32767 lag)).setStepper n
      { s.stepper n with above := 0, under := (s.stepper n).under + 1 } := by
  unfold State.loadStep
  rw [if_pos hv]
  extract_lets x high above under lost stall clear s1 s2 s3 s4 stops trip s5 s6
  have hhigh : high = false := decide_eq_false (by omega)
  have habove : above = 0 := if_neg (by simp [hhigh])
  have hunder : under = x.under + 1 := if_neg (by simp [hhigh])
  have hlost : lost = false := decide_eq_false (by omega)
  have hstall : stall = false := by simp [stall, habove, h0]
  have hclear : clear = false := by simp [clear, x, hs]
  have h4 : s4 = s1 := by simp [s4, s3, s2, hlost, hstall, hclear]
  have hstalled : ((x.stalled || stall) && !clear) = x.stalled := by simp [hstall, hclear]
  rw [if_neg (by simp [hlost, stops, hstall]), h4]
  unfold s1
  rw [habove, hunder, hstalled]

theorem State.loadStep_of_slow (hv : (s.i (axk n 0 5)).natAbs < s.n (axk n 2 3) * 256) :
    s.loadStep n lag = (s.seti (axk n 0 0xB) 0).setStepper n { s.stepper n with above := 0 } := if_neg (by omega)

end

/-! ## Limit and home inputs -/

/-- An input that is sensed leaves the objects and the axes as they were. -/
theorem State.senseInput_keeps_axes (s : State) (code : Nat) (active : Bool) : (s.senseInput code active).od = s.od ∧
    (s.senseInput code active).steppers = s.steppers ∧ ∀ n, (s.senseInput code active).axisState n = s.axisState n :=
  ⟨(State.senseInput_keeps (m := Area.objects.allBut) (by decide) (Keeps.refl _ s)).same_of_allBut,
    (State.senseInput_keeps (m := Area.steppers.allBut) (by decide) (Keeps.refl _ s)).same_of_allBut,
    fun _ => (State.senseInput_keeps (by decide) (Keeps.refl _ s)).n_eq _⟩

theorem State.stepper_senseInput (s : State) (code : Nat) (active : Bool) (n : Nat) :
    (s.senseInput code active).stepper n = s.stepper n := by
  rw [State.stepper, (s.senseInput_keeps_axes code active).2.1]
  rfl

/-- An axis notes the level of a limit input. -/
def State.limitNoted (s : State) (n code bit : Nat) (active : Bool) : State :=
  (s.senseInput code active).setStepper n { (s.senseInput code active).stepper n with
    levels := if active then withBit (s.stepper n).levels bit else withoutBit (s.stepper n).levels bit }

/-- A limit input that becomes active ahead of a move starts a quick stop, the trip of the move (R334). -/
theorem execLimitInputActive_of_trip {s : State} {n : Nat} {positive : Bool} (hon : s.axisOn n = true) (h3 : s.axisState n = 3)
    (h6 : (s.stepper n).purpose ≠ 6) (hc : s.n (axk n 3 (if positive then 3 else 2)) % 64 ≠ 0)
    (hl : bitOf (s.stepper n).levels (if positive then 1 else 0) = false)
    (hw : if positive then 0 < (if (s.motion n).v = 0 then (s.motion n).a else (s.motion n).v)
      else (if (s.motion n).v = 0 then (s.motion n).a else (s.motion n).v) < 0) :
    execLimitInputActive n positive true s =
      .next ((s.limitNoted n (s.n (axk n 3 (if positive then 3 else 2))) (if positive then 1 else 0) true).runPlan n 6
        (quickStop (2560 * s.n (axk n 1 0xC)) (s.motion n)).1 (quickStop (2560 * s.n (axk n 1 0xC)) (s.motion n)).2) := by
  unfold execLimitInputActive
  rw [if_pos (by simp [hon, hc]), if_pos (by simp [hl]), if_pos ⟨h3, h6, hw⟩]
  rfl

theorem State.limitTrip_runs (s : State) (n code bit : Nat) (active : Bool) (plan : List Segment) (goal : Int) :
    (((s.limitNoted n code bit active).runPlan n 6 plan goal).stepper n).purpose = 6 ∧
      ((s.limitNoted n code bit active).runPlan n 6 plan goal).axisState n = s.axisState n := by
  refine ⟨?_, (s.senseInput_keeps_axes code active).2.2 n⟩
  rw [State.stepper_runPlan]

theorem execLimitInputActive_of_inactive {s : State} {n : Nat} (hon : s.axisOn n = true) (hc : s.n (axk n 3 3) % 64 ≠ 0) :
    execLimitInputActive n true false s = .next (s.limitNoted n (s.n (axk n 3 3)) 1 false) :=
  if_pos (by simp [hon, hc])

theorem execHomeInputEdge_of_wired {s : State} {n : Nat} (hon : s.axisOn n = true) (hc : s.n (axk n 3 1) % 64 ≠ 0) (active : Bool) :
    execHomeInputEdge n active s = .next (if s.searching n then (s.senseInput (s.n (axk n 3 1)) active).homeLevel n active
      else s.senseInput (s.n (axk n 3 1)) active) := if_pos (by simp [hon, hc])

/-- An active home input takes the edge and starts the debounce time (R336). -/
theorem State.homeLevel_of_edge {s : State} {n : Nat} (ha : s.armed (tmDebounce n) = false) (ht : s.n (axk n 3 6) ≠ 0) :
    s.homeLevel n true = (s.setStepper n { s.stepper n with edge := s.i (axk n 0 4) }).after (tmDebounce n) (s.n (axk n 3 6) * 1000) := by
  simp only [State.homeLevel, ha, Bool.false_eq_true, if_false, if_true, if_neg ht]

/-- Home that is found ends the debounce time and begins the stop (R336). -/
theorem State.homeFound_stops (s : State) (n : Nat) : (s.homeFound n).n (axk n 3 0xA) = 3 ∧
    ((s.homeFound n).stepper n).purpose = 4 ∧ (s.homeFound n).armed (tmDebounce n) = false := by
  unfold State.homeFound
  extract_lets s1 halt
  refine ⟨State.n_put_same (s.disarm (tmDebounce n)) _ 3, ?_, State.armed_disarm_same ..⟩
  rw [State.stepper_runPlan]

/-! ## Bridges -/

theorem State.bridgeFails_of_overcurrent {s : State} {n : Nat} (h5 : s.axisState n ≠ 5) (h6 : s.axisState n ≠ 6) :
    s.bridgeFails n 9 = (s.axisFault n 9).loseValid n 6 := by
  unfold State.bridgeFails
  extract_lets st s1
  exact congrArg (State.loseValid · n 6) (if_pos (.inr (.inr ⟨rfl, h5, h6⟩)))

theorem execBridgeThermalShutdown_of_group {s : State} {g : Nat} (hon : s.on 14 = true) (h1 : 1 ≤ g) (h3 : g ≤ 3) :
    execBridgeThermalShutdown g s = .next ((s.fault 0x96 0xC g).each (upFrom (4 * g - 3) 4)
      (fun t n => if t.bridgesOn n then t.bridgeFails n 0xC else t)) := by
  have hg : g = 1 ∨ g = 2 ∨ g = 3 := by omega
  exact if_pos (by simpa [hon, or_assoc] using hg)

end Sys2Proof.Machine

/-- Settles O52: each command by its equation for the case. The move entry that is read again after re-energising and release
cause 2 are log entries 79 and 82. -/
theorem stepperMotion : Obligations.StepperMotion := by
  unfold Obligations.StepperMotion
  intro n e tag cause coil g lag active m s
  refine ⟨fun hon h1 ht hd => ⟨_, execStandstillReleaseElapsed_of_due hon h1 ht hd, State.powered_down h1⟩,
    execStandstillReleaseElapsed_of_other, fun hon h2 hb hd => ⟨execReEnergiseDone_of_homing hon h2 hb hd,
      execReEnergiseDone_of_move hon h2 hb hd, fun code hw hr => ?_⟩, execReEnergiseDone_of_other, ?_,
    fun hon hp hd => ⟨execMoveComplete_of_move hon hp hd, execMoveComplete_of_home hon hp hd, execMoveComplete_of_limit hon hp hd⟩,
    execMoveComplete_of_other, s.axisHalt_halts n,
    fun hb => ?_, fun hb => State.homeDone_stands hb n, fun u hu hon hm => ?_, fun hk hm hc => ?_, fun hon h3 h4 => ?_,
    State.loadStep_of_lost, State.loadStep_of_low, State.loadStep_of_slow, fun hon h3 h6 hc hl hw => ?_, fun hon h3 h6 hc hl hw => ?_,
    fun hon hc => ?_, fun hon hc hs => ?_, fun hs hon hc => ?_, fun ha ht => ?_, fun hon hs hd => ?_, fun hs => ?_,
    fun hb h5 h6 => ?_, fun hb => ?_, fun hon h1 h3 => ?_⟩
  · obtain ⟨hstate, hstepper, hsent⟩ := (s.setStepper n { s.stepper n with waiting := 0 }).notStarted_rest n (s.stepper n).entry code
      (s.stepper n).tag
    refine ⟨_, execReEnergiseDone_of_refused hon h2 hb hd hw hr, hstate.trans h2, ?_, hsent⟩
    rw [hstepper, State.stepper_setStepper_same]
  · obtain ⟨hstate, hgoal, hpurpose, -, -, hcount⟩ := s.runMove_runs n e tag m
    exact ⟨hstate, hgoal, hpurpose, hcount⟩
  · rw [State.axisStands_of_bus hb, State.axisState_axisTo]
  · rw [exec_loadAngleEstimate, execLoadAngleEstimate_of_on hon, State.whileMoving_of_moving hm, ← hu]
    refine ⟨fun h5 => ?_, fun hmu => ?_⟩
    · have h3 : u.axisState n ≠ 3 := by omega
      have h4 : u.axisState n ≠ 4 := by omega
      rw [State.whileMoving_of_rest h3 h4, State.whileMoving_of_rest h3 h4]
    · rw [State.whileMoving_of_moving hmu]
  · rw [State.coilStep_of_open hk hm hc]
    exact State.faulted (State.sent_fault ..) n 7 6
  · rw [exec_loadAngleEstimate, execLoadAngleEstimate_of_on hon, State.whileMoving_of_rest h3 h4]
  · obtain ⟨hpurpose, hstate⟩ := s.limitTrip_runs n (s.n (axk n 3 3)) 1 true _ _
    exact ⟨_, execLimitInputActive_of_trip (positive := true) hon h3 h6 hc hl hw, hpurpose, hstate.trans h3⟩
  · obtain ⟨hpurpose, hstate⟩ := s.limitTrip_runs n (s.n (axk n 3 2)) 0 true _ _
    exact ⟨_, execLimitInputActive_of_trip (positive := false) hon h3 h6 hc hl hw, hpurpose, hstate.trans h3⟩
  · refine ⟨_, execLimitInputActive_of_inactive hon hc, ?_, (s.senseInput_keeps_axes _ _).1⟩
    rw [State.limitNoted, State.stepper_setStepper_same, State.stepper_senseInput]
    rfl
  · rw [exec_homeInputEdge, execHomeInputEdge_of_wired hon hc, if_pos hs]
  · obtain ⟨hod, hsteppers, -⟩ := s.senseInput_keeps_axes (s.n (axk n 3 1)) active
    exact ⟨_, by rw [exec_homeInputEdge, execHomeInputEdge_of_wired hon hc, if_neg (by simp [hs])], hsteppers, hod⟩
  · rw [State.homeLevel_of_edge ha ht]
    refine ⟨?_, State.armed_arm_same .., rfl⟩
    rw [State.after_eq, State.stepper_arm, State.stepper_setStepper_same]
  · exact ⟨_, if_pos (by simp [hon, hs, hd]), s.homeFound_stops n⟩
  · exact if_neg (by simp [hs])
  · have hs5 : (s.fault (stepSource n) 9 n).axisState n ≠ 5 := by rwa [State.axisState_fault]
    have hs6 : (s.fault (stepSource n) 9 n).axisState n ≠ 6 := by rwa [State.axisState_fault]
    refine ⟨_, if_pos hb, ?_⟩
    rw [State.bridgeFails_of_overcurrent hs5 hs6]
    exact State.faulted (State.sent_fault ..) n 9 6
  · exact if_neg (by simp [hb])
  · refine ⟨_, execBridgeThermalShutdown_of_group hon h1 h3, ?_⟩
    refine State.Sent.foldl (fun t n ht => ?_) (State.sent_fault ..) _
    split
    · exact ht.of_keeps (State.bridgeFails_keeps (by decide) (Keeps.refl _ t))
    · exact ht
end

section
/-! PROOFS. What the accepted writes of loop slots, HV channels and Kettle zones do (R350, R351, R360, R361, R365). -/

open Sys2Proof Sys2Proof.Machine

namespace Sys2Proof.Machine

/-! ## The rows of the table, and what the written objects do -/

theorem State.effect_loopSlot {slot : Nat} (h : slot ≤ 63) (s : State) (sub : Nat) (old new : Val) :
    s.effect (0x4800 + slot) sub old new = if sub = 1 then s.slotEnable slot (decide (new.int ≠ 0))
      else if sub = 7 then s.slotMode slot new.nat
      else if sub = 8 ∧ 0x300 < s.target slot then s.refreshInBand (s.target slot - 0x300) else s := by
  rw [State.effect, if_neg (by omega), if_neg (by omega), State.effectHigh, if_neg (by omega), if_neg (by omega), if_neg (by omega),
    if_neg (by omega), if_pos (by omega), Nat.add_sub_cancel_left]

theorem State.effect_hvEnable {h : Nat} (h1 : 1 ≤ h) (s : State) (old new : Val) :
    s.effect (0x4D00 + h) 1 old new = s.hvEnable h (decide (new.int ≠ 0)) := by
  rw [State.effect, if_neg (by omega), if_neg (by omega), State.effectHigh, if_neg (by omega), if_neg (by omega), if_neg (by omega),
    if_neg (by omega), if_neg (by omega), if_neg (by omega), if_pos (by omega), Nat.add_sub_cancel_left]

theorem State.effect_zoneEnable {z : Nat} (h1 : 1 ≤ z) (h3 : z ≤ 3) (s : State) (old new : Val) :
    s.effect (0x4C00 + z) 1 old new = s.zoneEnable z (decide (new.int ≠ 0)) := by
  rw [State.effect, if_neg (by omega), if_neg (by omega), State.effectHigh, if_neg (by omega), if_neg (by omega), if_neg (by omega),
    if_neg (by omega), if_neg (by omega), if_pos (by omega), if_neg (by omega), if_pos rfl, Nat.add_sub_cancel_left]

theorem State.command_hostSwitch (s : State) (path : Path) (h sub : Nat) (v : Val) (answers : List Frame) :
    s.command path (0x4D00 + h) sub v answers = s.hostSwitch h v.nat := by
  rw [State.command, if_neg (by omega), if_neg (by omega), if_neg (by omega), if_neg (by omega), if_neg (by omega),
    if_neg (by omega), if_neg (by omega), if_neg (by omega), if_neg (by omega), if_neg (by omega), Nat.add_sub_cancel_left]

/-! ## Slots -/

theorem State.slotState_setSlotState (s : State) (slot new cause : Nat) : (s.setSlotState slot new cause).n (lk slot 2) = new := by
  unfold State.setSlotState
  extract_lets old
  split
  · next h => exact h
  · rw [State.n_event, State.setn_eq, State.n_put_same, Int.toNat_natCast]

/-- A change of its state changes no other object of a slot. -/
theorem State.val_setSlotState (s : State) (slot new cause : Nat) {k : Nat} (h : k ≠ lk slot 2) :
    (s.setSlotState slot new cause).val k = s.val k := by
  unfold State.setSlotState
  extract_lets old
  split
  · rfl
  · exact State.val_put_ne s _ h

theorem State.slotEnable_of_manual {s : State} {k : Nat} (h2 : s.n (lk k 2) = 0) (h7 : s.n (lk k 7) = 0) :
    s.slotEnable k true = (s.setSlotState k 1 1).markSlot k := by
  rw [State.slotEnable, if_pos rfl, if_pos h2, if_pos h7]

theorem State.slotEnable_of_automatic {s : State} {k : Nat} (h2 : s.n (lk k 2) = 0) (h7 : s.n (lk k 7) ≠ 0) :
    s.slotEnable k true = ((s.setSlotState k 2 1).markSlot k).bumpless k := by
  rw [State.slotEnable, if_pos rfl, if_pos h2, if_neg h7]

/-- A slot that stops is DISABLED and waits for no evaluation (R350). -/
theorem State.stopSlot_stops (s : State) (k cause : Nat) :
    (s.stopSlot k cause).n (lk k 2) = 0 ∧ ((s.stopSlot k cause).loop k).queued = false := by
  unfold State.stopSlot
  extract_lets s1 x s2
  have hstate : s1.n (lk k 2) = 0 := (State.n_put_ne _ _ (lk_ne_lk (by decide))).trans (s.slotState_setSlotState k 0 cause)
  have hloop : s2.loop k = _ := State.loop_setLoopSlot_same ..
  exact ⟨hstate, congrArg LoopSlot.queued hloop⟩

theorem State.slotMode_of_manual {s : State} {k : Nat} (h : s.n (lk k 2) = 1) :
    s.slotMode k 1 = (s.setSlotState k 2 1).bumpless k := by
  simp [State.slotMode, h]

theorem State.slotMode_of_automatic {s : State} {k : Nat} (h : s.n (lk k 2) = 2) : s.slotMode k 0 = s.setSlotState k 1 1 := by
  simp [State.slotMode, h]

/-! ## HV channels -/

/-- A slot that starts writes its own objects, none of its owner's (R350). -/
theorem State.n_startSlot {slot index a : Nat} (hs : slot < 64) (hi : 0x4C00 ≤ index) (ha : a < 256) (s : State) (u0 sp : Real32)
    (cause : Nat) : (s.startSlot slot u0 sp cause).n (K index a) = s.n (K index a) := by
  have hne : ∀ b < 256, K index a ≠ lk slot b := fun b hb => owner_ne_lk hs hi ha hb
  calc (s.startSlot slot u0 sp cause).n (K index a) = ((s.setSlotState slot 2 cause).setReal (lk slot 9) sp).n (K index a) :=
        State.n_put_ne ((s.setSlotState slot 2 cause).setReal (lk slot 9) sp) _ (hne 0xB (by decide))
    _ = (s.setSlotState slot 2 cause).n (K index a) := State.n_put_ne (s.setSlotState slot 2 cause) _ (hne 9 (by decide))
    _ = s.n (K index a) := (State.reads_eq (s.val_setSlotState slot 2 cause (hne 2 (by decide)))).2.1

/-- The set-point of a channel goes to its slot, and leaves the channel as it is. -/
theorem State.hvAim_rest (s : State) (h x g : Nat) : (s.hvAim h x).hvState g = s.hvState g ∧ (s.hvAim h x).hv g = s.hv g := by
  unfold State.hvAim
  split
  · next i hi =>
    exact ⟨State.n_put_ne _ _ (owner_ne_lk (State.slotOf_lt hi) (by omega) (by decide) (by decide)), rfl⟩
  · exact ⟨rfl, rfl⟩

/-- A channel that is ready is ON at the set-point of the code (R361). -/
theorem State.hvOn_of_ready {s : State} {h : Nat} (hr : s.hvState h = 1 ∨ s.hvState h = 2) (code tag cause : Nat) :
    (s.hvOn h code tag cause none).hvState h = 2 ∧ ((s.hvOn h code tag cause none).hv h).code = code := by
  have hready : ¬ (s.hvState h ≠ 1 ∧ s.hvState h ≠ 2) := fun hn => hr.elim hn.1 hn.2
  unfold State.hvOn
  rw [if_neg hready]
  extract_lets t s1 band aim x s2
  have ht : t.hvState h = 2 := s.hvState_hvTo h 2 cause
  have h1 : s1.hvState h = 2 := by
    unfold s1
    split
    · next h2 => exact h2
    · split
      · next i hi => exact (State.n_startSlot (State.slotOf_lt hi) (by omega) (by decide) t _ _ _).trans ht
      · exact ht
  obtain ⟨hstate, hhv⟩ := (s1.setHv h { x with code := code, band := band, tag := tag }).hvAim_rest h aim h
  have h2 : s2.hvState h = 2 ∧ (s2.hv h).code = code := by
    refine ⟨hstate.trans h1, ?_⟩
    rw [show s2.hv h = _ from hhv, State.hv_setHv_same]
  split <;> exact h2

theorem State.hvOff_of_ready {s : State} {h : Nat} (hr : s.hvState h = 1 ∨ s.hvState h = 2) (tag cause : Nat) :
    (s.hvOff h tag cause).hvState h = 1 := by
  unfold State.hvOff
  split
  · exact s.hvState_hvTo h 1 cause
  · next h2 =>
    have h1 : s.hvState h = 1 := hr.resolve_right h2
    rw [if_pos h1]
    exact h1

/-- A `Host switch` is noted, and acts on the channel as it is. -/
theorem State.hostSwitch_eq (s : State) (h v : Nat) : s.hostSwitch h v =
    if v = 1 then (s.setHv h { s.hv h with hostAt := some s.stamp, hostSwitch := v }).hvOn h (s.n (hk h 4)) 0 1 none
    else (s.setHv h { s.hv h with hostAt := some s.stamp, hostSwitch := v }).hvOff h 0 1 := rfl

/-! ## Kettle zones -/

section
variable {s : State} {z : Nat} (h0 : s.zoneState z = 0) (he : s.flag (zk z 1) = true) (hon : s.on 15 = true)
  (hslot : s.zoneSlot z ≠ none) (hsensor : s.n (zk z 0xA) ≠ 0)
include h0 he hon hslot hsensor

/-- An enabled zone that is OFF, with a slot and a sensor, starts at the mains or waits for it (R365). -/
theorem State.zoneCheck_of_enabled : s.zoneCheck z = if s.n (K 0x3020 1) = 1 then s.zoneStarts z else s.zoneTo z 3 2 := by
  simp [State.zoneCheck, h0, he, hon, hsensor, Option.isSome_iff_ne_none.mpr hslot]

end

/-- A zone that starts in the soft start is in START, and otherwise REGULATING (R365, R368). -/
theorem State.zoneState_zoneStarts (s : State) (z : Nat) : (s.zoneStarts z).zoneState z = if s.n (zk z 3) = 1 then 1 else 2 := by
  unfold State.zoneStarts
  extract_lets h s1
  split
  · exact s.zoneState_zoneTo z 1 2
  · exact State.zoneState_zoneTo _ z 2 2

end Sys2Proof.Machine

/-- Settles O42: an accepted write is its object's row of the table with the effect found there, and the lemmas above say which
state each effect leaves. -/
theorem loopWrites : Obligations.LoopWrites := by
  unfold Obligations.LoopWrites
  intro path data s
  refine ⟨fun k hk ha => ?_, fun k hk ha => ?_, fun k hk ha => ?_, fun h h1 h20 ha => ?_, fun h h1 h20 ha => ?_, fun z h1 h3 ha => ?_,
    fun u k h2 h7 => ?_, fun u k h2 h7 => ?_, fun u k => u.stopSlot_stops k 1, fun u k => ⟨fun h => ?_, fun h => ?_⟩,
    fun u h _ _ h0 hon => ?_, fun u h _ _ h4 => ?_, fun u h _ _ hr => ?_, fun u z _ _ h5 => ?_,
    fun u z _ _ h0 he hon hslot hsensor => ?_⟩
  · rw [exec_slotEnableWrite, execSlotEnableWrite, if_pos hk,
      State.writeRow_value ha (rk_slotEnableWrite k (by omega) (by omega)) nofun (by omega) (by omega) (by omega),
      State.effect_loopSlot hk]
    simp [Ty.decode, Val.int]
  · rw [exec_modeWrite, execModeWrite, if_pos hk,
      State.writeRow_value ha (rk_modeWrite k (by omega) (by omega)) nofun (by omega) (by omega) (by omega), State.effect_loopSlot hk]
    simp [Ty.decode, Val.nat, Val.int]
  · rw [exec_loopTargetWrite, execLoopTargetWrite, if_pos hk,
      State.writeRow_value ha (rk_loopTargetWrite k (by omega) (by omega)) nofun (by omega) (by omega) (by omega),
      State.effect_loopSlot hk]
    simp [Ty.decode, State.when]
  · rw [exec_hvEnableWrite, execHvEnableWrite, if_pos ⟨h1, h20⟩,
      State.writeRow_value ha (rk_hvEnableWrite h (by omega) h1) nofun (by omega) (by omega) (by omega), State.effect_hvEnable h1]
    simp [Ty.decode, Val.int]
  · rw [exec_hostSwitch, execHostSwitch, if_pos ⟨h1, h20⟩,
      State.writeRow_command ha (rk_hostSwitch h (by omega) h1) (by omega) (by omega), State.command_hostSwitch]
    simp [Ty.decode, Val.nat, Val.int]
  · rw [exec_zoneEnableWrite, execZoneEnableWrite, if_pos ⟨h1, h3⟩,
      State.writeRow_value ha (rk_zoneEnableWrite z (by omega) h1) nofun (by omega) (by omega) (by omega),
      State.effect_zoneEnable h1 h3]
    simp [Ty.decode, Val.int]
  · rw [State.slotEnable_of_manual h2 h7]
    exact u.slotState_setSlotState k 1 1
  · rw [State.slotEnable_of_automatic h2 h7]
    exact u.slotState_setSlotState k 2 1
  · rw [State.slotMode_of_manual h]
    exact u.slotState_setSlotState k 2 1
  · rw [State.slotMode_of_automatic h]
    exact u.slotState_setSlotState k 1 1
  · rw [State.hvEnable, if_pos rfl, if_pos ⟨h0, hon⟩, State.hvState_hvTo]
  · rw [State.hvEnable, if_neg Bool.false_ne_true, if_neg h4, State.hvState_hvTo]
  · obtain ⟨hon, hcode⟩ := State.hvOn_of_ready (s := u.setHv h { u.hv h with hostAt := some u.stamp, hostSwitch := 1 }) hr
      (u.n (hk h 4)) 0 1
    rw [u.hostSwitch_eq h 1, if_pos rfl, u.hostSwitch_eq h 0, if_neg (by decide)]
    exact ⟨hon, hcode,
      State.hvOff_of_ready (s := u.setHv h { u.hv h with hostAt := some u.stamp, hostSwitch := 0 }) hr 0 1⟩
  · rw [State.zoneEnable, if_neg Bool.false_ne_true, if_neg h5, State.zoneState_zoneTo]
  · rw [State.zoneCheck_of_enabled h0 he hon hslot hsensor]
    refine ⟨fun hm h3 => ?_, fun hm h3 => ?_, fun hm => ?_⟩
    · rw [if_pos hm, State.zoneState_zoneStarts, if_pos h3]
    · rw [if_pos hm, State.zoneState_zoneStarts, if_neg h3]
    · rw [if_neg hm, State.zoneState_zoneTo]
end

section
/-! PROOFS. What the accepted writes of power and of the Lid do (R383, R387, R402, R406, R412, R415). -/

open Sys2Proof Sys2Proof.Machine

namespace Sys2Proof.Machine

/-! ## What the written objects do -/

theorem State.effect_channelEnable {t : Nat} (h1 : 1 ≤ t) (h36 : t ≤ 36) (s : State) (old new : Val) :
    s.effect (0x210F + t) 1 old new = s.channelEnable t (decide (old.int ≠ 0)) (decide (new.int ≠ 0)) := by
  rw [State.effect, if_pos (by omega), State.effectLow.eq_def, if_pos (by omega), if_pos rfl, Nat.add_sub_cancel_left]

theorem State.effect_domainRequest (s : State) (old new : Val) :
    s.effect 0x2040 1 old new = s.requestDomains old.nat new.nat := rfl

theorem State.effect_reactionMap (s : State) (old new : Val) :
    s.effect 0x2210 1 old new = (s.event 16 (mapRaised new.bytes)).extendMeasurement 6 new.bytes := rfl

/-! ## Domains -/

theorem State.domain_setDomainState (s : State) (pd new cause : Nat) : ((s.setDomainState pd new cause).domain pd).state = new := by
  unfold State.setDomainState
  extract_lets d
  split
  · next h => exact h
  · simp

/-! ## Thermometers -/

theorem tk_ne_tk {t a b : Nat} (ha : a < 256) (hb : b < 256) (h : a ≠ b) : tk t a ≠ tk t b :=
  fun e => h ((K_inj ha hb).mp e).2

/-- A channel that is disabled shows neither a state, nor a band, nor a reading (R387). -/
theorem State.channelEnable_off (u : State) (t : Nat) (old : Bool) :
    ∃ v : State, u.channelEnable t old false = v.refreshThrottle t ∧ v.n (tk t 3) = 0 ∧ v.n (tk t 4) = 0 ∧ v.i (tk t 2) = 0 := by
  have h32 : tk t 3 ≠ tk t 2 := tk_ne_tk (by decide) (by decide) (by decide)
  have h34 : tk t 3 ≠ tk t 4 := tk_ne_tk (by decide) (by decide) (by decide)
  have h35 : tk t 3 ≠ tk t 5 := tk_ne_tk (by decide) (by decide) (by decide)
  have h42 : tk t 4 ≠ tk t 2 := tk_ne_tk (by decide) (by decide) (by decide)
  have h45 : tk t 4 ≠ tk t 5 := tk_ne_tk (by decide) (by decide) (by decide)
  have h25 : tk t 2 ≠ tk t 5 := tk_ne_tk (by decide) (by decide) (by decide)
  refine ⟨_, by rw [State.channelEnable, if_neg Bool.false_ne_true], ?_, ?_, ?_⟩ <;>
    simp [State.n_put_ne, State.i_put_ne, *]

/-! ## Sticky bits -/

theorem State.val_crockTo (s : State) (new : Nat) {k : Nat} (h : k ≠ ck 1) : (s.crockTo new).val k = s.val k := by
  unfold State.crockTo
  extract_lets old
  split
  · rfl
  · exact State.val_put_ne s _ h

/-- The recovery of the Crock writes its state, and what an injection has left (R450). -/
theorem State.val_crockRecovers (s : State) {k : Nat} (h1 : k ≠ ck 1) (h5 : k ≠ K 0x2220 5) : s.crockRecovers.val k = s.val k := by
  unfold State.crockRecovers
  extract_lets x s1
  have h : s1.val k = s.val k := State.detect_val _ _ h5
  split
  · split
    · exact (s1.val_crockTo 2 h1).trans h
    · exact h
  · rfl

/-- The sticky bits of a mask read 0 once they are cleared (R402). -/
theorem State.bytes_stickyClear (s : State) (d : Bytes) :
    (s.stickyClear d).bytes (K 0x2201 1) = clearBits (s.bytes (K 0x2201 1)) (d.take 20) ∧
      (s.stickyClear d).bytes (K 0x2201 2) = clearBits (s.bytes (K 0x2201 2)) ((d.drop 20).take 20) := by
  unfold State.stickyClear
  extract_lets p c gone which s1 s2
  have h1 : s2.bytes (K 0x2201 1) = clearBits (s.bytes (K 0x2201 1)) p :=
    (State.bytes_put_ne (s.setBytes (K 0x2201 1) _) _ (by decide)).trans (State.bytes_put_same s _ _)
  have h2 : s2.bytes (K 0x2201 2) = clearBits (s.bytes (K 0x2201 2)) c := State.bytes_put_same (s.setBytes (K 0x2201 1) _) _ _
  split
  · exact ⟨((State.reads_eq (s2.val_crockRecovers (by decide) (by decide))).2.2.2).trans h1,
      ((State.reads_eq (s2.val_crockRecovers (by decide) (by decide))).2.2.2).trans h2⟩
  · exact ⟨h1, h2⟩

/-! ## Injection -/

/-- An injection is armed for its count (R415). -/
theorem State.inject_arms (u : State) : u.inject.lid.target = u.n (K 0x2220 1) ∧ u.inject.lid.injected = u.n (K 0x2220 2) ∧
    u.inject.n (K 0x2220 5) = u.n (K 0x2220 2) ∧ u.inject.Logged 18 (1 + u.n (K 0x2220 1) * 65536 + u.n (K 0x2220 2) * 2 ^ 48) := by
  unfold State.inject
  extract_lets target count path
  exact ⟨rfl, rfl, by simp [count], State.logged_eventHw ..⟩

end Sys2Proof.Machine

/-- Settles O43: an accepted write is its object's row of the table with the effect found there; the other clauses are what each of
these effects writes. -/
theorem supervisionWrites : Obligations.SupervisionWrites := by
  unfold Obligations.SupervisionWrites
  intro path data s
  refine ⟨fun ha => ?_, fun t h1 h36 ha => ?_, fun ha => ?_, fun ha => ?_, fun ha => ?_, fun ha => ?_, fun u pd k cause h => ?_,
    fun u pd h => ?_, fun u pd h => ?_, fun u t old => u.channelEnable_off t old,
    fun u => rfl, fun u d => u.bytes_stickyClear d, fun u => u.inject_arms⟩
  · rw [exec_domainRequestWrite, execDomainRequestWrite,
      State.writeRow_value ha rk_domainRequestWrite nofun (by omega) (by omega) (by omega), State.effect_domainRequest]
    simp [Ty.decode, Val.nat, Val.int]
  · rw [exec_channelEnableWrite, execChannelEnableWrite, if_pos ⟨h1, h36⟩,
      State.writeRow_value ha (rk_channelEnableWrite t (by omega) h1) nofun (by omega) (by omega) (by omega),
      State.effect_channelEnable h1 h36]
    simp [Ty.decode, Val.int]
  · rw [exec_faultClear, execFaultClear, State.writeRow_command ha rk_faultClear (by omega) (by omega)]
    rfl
  · rw [exec_stickyClear, execStickyClear, State.writeRow_command ha rk_stickyClear (by omega) (by omega)]
    rfl
  · rw [exec_reactionMapWrite, execReactionMapWrite,
      State.writeRow_value ha rk_reactionMapWrite nofun (by omega) (by omega) (by omega), State.effect_reactionMap]
    rfl
  · rw [exec_inject, execInject, State.writeRow_command ha rk_inject (by omega) (by omega)]
    rfl
  · exact ⟨u.domain_setDomainState pd 1 cause, State.armed_arm_same ..⟩
  · simp only [State.releaseDomain, h]
  · simp only [State.releaseDomain, h]
    exact State.domain_setDomainState ..
end

section
/-! PROOFS. What the accepted writes of the Twin Sequencer and the Trust Anchor do (R438, R439, R473, R476, R478, R485, R490). -/

open Sys2Proof Sys2Proof.Machine

namespace Sys2Proof.Machine

/-! ## Roles -/

/-- A unit that takes a role has it. -/
theorem State.role_setRole (s : State) (u new cause : Nat) : (s.setRole u new cause).role u = new := by
  unfold State.setRole
  extract_lets old s1
  split
  · next h => exact h
  · have h : s1.role u = new := by rw [State.role, State.n_event, State.setn_eq, State.n_put_same, Int.toNat_natCast]
    split
    · rwa [State.role, State.after_eq, State.n_arm]
    · exact h

/-- The active unit's number is no unit's role. -/
theorem State.activeUnit_setRole {u : Nat} (h : u = 1 ∨ u = 2) (s : State) (new cause : Nat) :
    (s.setRole u new cause).activeUnit = s.activeUnit := by
  have hne : K 0x2300 1 ≠ K 0x2300 (1 + u) := by rcases h with rfl | rfl <;> decide
  unfold State.setRole
  extract_lets old s1
  split
  · rfl
  · have h1 : s1.activeUnit = s.activeUnit := by
      rw [State.activeUnit, State.n_event, State.setn_eq, State.n_put_ne s _ hne, State.activeUnit]
    split
    · rwa [State.activeUnit, State.after_eq, State.n_arm]
    · exact h1

/-! ## A planned switch-over -/

/-- A page's reports and its state leave what stops admission. -/
theorem State.stopped_reportPage (s : State) (p : Page) (new old : Nat) : (s.reportPage p new old).pages.stopped = s.pages.stopped := by
  unfold State.reportPage
  obtain ⟨g, hg⟩ := State.sendPage_pages (s.event 80 (new + old * 256 + p.spoil * 65536 + p.recipe * 2 ^ 24 + p.tag * 2 ^ 32 +
    (if new = 1 then p.refusal * 2 ^ 48 else 0))) 59 (s.statusEntry p new old)
  rw [hg, State.event_pages]

theorem State.stopped_setPageState (s : State) (i new : Nat) : (s.setPageState i new).pages.stopped = s.pages.stopped := by
  unfold State.setPageState
  extract_lets p s1
  have h : s1.pages.stopped = s.pages.stopped := State.stopped_reportPage (s.setPage i { p with state := new }) p new p.state
  split
  · rw [State.autoSpool_pages, h]
  · exact h

theorem State.stopped_readmit (s : State) (i : Nat) : (s.readmit i).pages.stopped = s.pages.stopped :=
  (State.stopped_setPageState ..).trans rfl

theorem State.readmit_twin (s : State) (i : Nat) : (s.readmit i).twin = s.twin :=
  (State.readmit_keeps (m := Area.allBut .twin) (by decide) (Keeps.refl _ s)).same_of_allBut

/-- A planned switch-over stops admission, and waits at most its time in mode 1 (R439). -/
theorem State.plannedSwitch_plans (u : State) (mode : Nat) : (u.plannedSwitch mode).twin.planned = mode ∧
    (u.plannedSwitch mode).pages.stopped = true ∧ (mode = 1 → (u.plannedSwitch mode).armed tmPlanned = true) := by
  unfold State.plannedSwitch
  extract_lets x y s1 s2
  split
  · exact ⟨rfl, rfl, fun _ => State.armed_arm_same ..⟩
  · next h1 =>
    split
    · exact ⟨congrArg Twin.planned (s2.readmit_twin _), s2.stopped_readmit _, fun h => absurd h h1⟩
    · exact ⟨rfl, rfl, fun h => absurd h h1⟩

/-! ## The Trust Anchor -/

/-- A report that is asked for is queued, and one of the queue is being signed (R478). -/
theorem State.attest_signs (u : State) (d : Bytes) (ring : Bool) :
    (u.attest d ring).trust.queue = u.trust.queue ++ [⟨d, ring⟩] ∧ (u.attest d ring).trust.signing ≠ none := by
  unfold State.attest State.beginSigning
  cases hs : u.trust.signing <;> cases u.trust.queue <;> simp [hs]

/-- A timer of 1.0 ms runs once it is asked for. -/
theorem State.armed_oneMs (u : State) (t : Nat) : (u.oneMs t).armed t = true := by
  unfold State.oneMs
  split
  · next h => exact h
  · exact State.armed_arm_same ..

theorem State.refreshGate_trust (s : State) : s.refreshGate.trust = s.trust :=
  (State.refreshGate_keeps (m := Area.allBut .trust) (by decide) (Keeps.refl _ s)).same_of_allBut

theorem State.evaluateSlots_trust (s : State) : s.evaluateSlots.trust = s.trust :=
  (State.evaluateSlots_keeps (m := Area.allBut .trust) (by decide) (Keeps.refl _ s)).same_of_allBut

end Sys2Proof.Machine

/-- Settles O44: an accepted write is its object's row of the table with the command or the effect found there; the other clauses are
the lemmas above. -/
theorem trustWrites : Obligations.TrustWrites := by
  unfold Obligations.TrustWrites
  intro path data s
  refine ⟨fun ha => ?_, fun ha => ?_, fun ha => ?_, fun ha => ?_, fun ha => ?_, fun sub h1 h2 ha => ?_, fun ha => ?_,
    fun u slot => (State.n_event ..).trans (State.role_setRole ..), fun u mode => u.plannedSwitch_plans mode,
    fun u d ring => u.attest_signs d ring, fun u t => u.armed_oneMs t, fun u => congrArg Trust.acked (State.evaluateSlots_trust _),
    fun u m => congrArg Trust.acked (State.refreshGate_trust _)⟩
  · rw [exec_standbyReload, execStandbyReload, State.writeRow_command ha rk_standbyReload (by omega) (by omega)]
    simp [State.command, State.commandLow, Ty.decode, Val.nat, Val.int]
  · rw [exec_plannedSwitchOver, execPlannedSwitchOver, State.writeRow_command ha rk_plannedSwitchOver (by omega) (by omega)]
    simp [State.command, State.commandLow, Ty.decode, Val.nat, Val.int]
  · rw [exec_attestObject, execAttestObject, State.writeRow_command ha rk_attestObject (by omega) (by omega)]
    rfl
  · rw [exec_moduleResetObject, execModuleResetObject, State.writeRow_command ha rk_moduleResetObject (by omega) (by omega)]
    rfl
  · rw [exec_powerCycleRequest, execPowerCycleRequest, State.writeRow_command ha rk_powerCycleRequest (by omega) (by omega)]
    rfl
  · have hsub : sub = 1 ∨ sub = 2 := by omega
    rw [exec_expectedMeasurementsWrite, execExpectedMeasurementsWrite, if_pos hsub,
      State.writeRow_value ha (rk_expectedMeasurementsWrite sub (by omega) h1) nofun (by omega) (by omega) (by omega)]
    rcases hsub with rfl | rfl <;> rfl
  · rw [exec_mismatchAcknowledge, execMismatchAcknowledge, State.writeRow_command ha rk_mismatchAcknowledge (by omega) (by omega)]
    simp [State.command, State.commandLow, Ty.decode, Val.nat, Val.int]
end

section
/-! PROOFS. The triggers and evaluations of the Loop Engine, the HV channels and the Kettle (R346, R347, R351, R352, R360, R361,
R366 to R368). -/

open Sys2Proof Sys2Proof.Machine

namespace Sys2Proof.Machine

/-! ## Triggers -/

/-- What the trigger of a free slot in MANUAL leaves before the slot joins the queue: its mark and its process value (R346). -/
def State.freeTriggered (s : State) (slot feedback : Nat) : State :=
  let x := s.loop slot
  let s1 := s.setLoopSlot slot { x with mark := s.nextMark slot,
                                        triggers := if s.triggerSource slot = 1 then (s.stamp :: x.triggers).take 65 else x.triggers }
  s1.setReal (lk slot 0xA) (s1.processNow slot (min feedback 4095))

theorem State.loop_freeTriggered (s : State) (slot feedback : Nat) :
    ((s.freeTriggered slot feedback).loop slot).queued = (s.loop slot).queued ∧
      ((s.freeTriggered slot feedback).loop slot).sinceOverrun = (s.loop slot).sinceOverrun ∧
      ((s.freeTriggered slot feedback).loop slot).mark = s.nextMark slot := by
  simp [State.freeTriggered, State.setReal]

theorem State.joined_freeTriggered (s : State) (slot feedback i : Nat) :
    ((s.freeTriggered slot feedback).loop i).joined = (s.loop i).joined := by
  unfold State.freeTriggered
  extract_lets x s1
  show (s1.loop i).joined = (s.loop i).joined
  by_cases h : i = slot
  · rw [h, State.loop_setLoopSlot_same]
  · rw [State.loop_setLoopSlot_ne s _ h]

theorem State.n_freeTriggered (s : State) (slot feedback : Nat) {k : Nat} (h : k ≠ lk slot 0xA) :
    (s.freeTriggered slot feedback).n k = s.n k :=
  State.n_put_ne (s.setLoopSlot slot _) _ h

/-- A slot in MANUAL does not wait for its process variable. -/
theorem State.holdCheck_of_manual {s : State} {slot : Nat} (h : s.n (lk slot 2) = 1) : s.holdCheck slot = s := by
  simp [State.holdCheck, h]

/-- An overrun is counted, and the count of evaluations since then starts (R347). -/
def State.countOverrun (s : State) (slot : Nat) : State :=
  (s.bump (lk slot 0x1D)).setLoopSlot slot { s.loop slot with sinceOverrun := 0 }

theorem State.countOverrun_counts (s : State) (slot : Nat) : (s.countOverrun slot).loops.queue = s.loops.queue ∧
    (s.countOverrun slot).n (lk slot 0x1D) = (s.n (lk slot 0x1D) + 1) % 2 ^ 32 :=
  ⟨rfl, (State.n_put_same s ..).trans (Int.toNat_natCast _)⟩

/-- With PD15 off, or beyond the slots, a trigger is none. -/
theorem execLoopTrigger_of_idle {s : State} {slot : Nat} (h : s.on 15 = false ∨ ¬ slot < 64) (pin feedback : Nat) :
    execLoopTrigger slot pin feedback s = .next s := by
  have hoff : (s.on 15 && decide (slot < 64)) = false := by
    rcases h with h | h <;> simp [h]
  unfold execLoopTrigger
  extract_lets s' x s1 t s2 s3 y s4
  rw [if_neg (by simp [hoff]), if_neg (by simp [hoff])]

/-- The trigger of a free slot in MANUAL: the slot joins the queue, or counts an overrun where it still waits there (R347). -/
theorem execLoopTrigger_of_free {s : State} {slot : Nat} (hon : s.on 15 = true) (hs : slot < 64) (hm : s.n (lk slot 2) = 1)
    (hd : s.slotDrive slot = none) (ht : s.target slot = 0) (hdue : s.triggerDue slot = true) (pin feedback : Nat) :
    execLoopTrigger slot pin feedback s = .next
      (if (s.loop slot).queued = true then
        if (s.loop slot).sinceOverrun = 1024 then ((s.freeTriggered slot feedback).countOverrun slot).slotEvent slot 3 0
        else (s.freeTriggered slot feedback).countOverrun slot
      else (s.freeTriggered slot feedback).joinQueue slot) := by
  have hm3 : (s.freeTriggered slot feedback).n (lk slot 2) = 1 := (s.n_freeTriggered slot feedback (lk_ne_lk (by decide))).trans hm
  obtain ⟨hq, ho, -⟩ := s.loop_freeTriggered slot feedback
  unfold execLoopTrigger
  extract_lets s' x s1 t s2 s3 y s4
  have hs' : s' = s := by simp [s', ht]
  have hgo : (s.on 15 && decide (slot < 64) && decide (s'.n (lk slot 2) ≠ 0) && s'.triggerDue slot) = true := by
    simp [hs', hon, hs, hm, hdue]
  rw [if_pos hgo]
  have hd1 : s1.slotDrive slot = none := by simp only [s1, hs']; exact hd
  have ht1 : t = 0 := by simp only [t, s1, hs']; exact ht
  have h2 : s2 = s1 := by
    simp only [s2, hd1, ht1]
    rfl
  have h3 : s3 = s.freeTriggered slot feedback := by
    simp only [s3, h2, s1, x, hs']
    exact State.holdCheck_of_manual hm3
  rw [if_neg (by rw [h3, hm3]; decide)]
  have h4 : s4 = (s.freeTriggered slot feedback).countOverrun slot := by
    simp only [s4, y, h3]
    rfl
  rw [h4, show y.queued = (s.loop slot).queued by simp only [y, h3, hq],
    show y.sinceOverrun = (s.loop slot).sinceOverrun by simp only [y, h3, ho], h3]
  split <;> rfl

/-- A slot joins the queue at its end, where no higher one has joined in the same grid step (R347). -/
theorem State.joinQueue_last {s : State} {slot : Nat} (h : ∀ i ∈ s.loops.queue, (s.loop i).joined = some s.stamp → i ≤ slot) :
    (s.joinQueue slot).loops.queue = s.loops.queue ++ [slot] := by
  unfold State.joinQueue
  extract_lets later x s1
  have hl : ∀ i ∈ s.loops.queue, later i = false := by
    intro i hi
    simp only [later, Bool.and_eq_false_iff, decide_eq_false_iff_not, not_lt]
    exact or_iff_not_imp_left.mpr fun hj => h i hi (not_not.mp hj)
  have h1 : s.loops.queue.filter (fun i => !later i) = s.loops.queue := List.filter_eq_self.mpr fun i hi => by simp [hl i hi]
  have h2 : s.loops.queue.filter later = [] := List.filter_eq_nil_iff.mpr fun i hi => by simp [hl i hi]
  rw [h1, h2]

/-- A slot that joins the queue waits there (R347). -/
theorem State.joinQueue_waits (s : State) (slot : Nat) :
    ((s.joinQueue slot).loop slot).queued = true ∧ ((s.joinQueue slot).loop slot).mark = (s.loop slot).mark ∧
      ∀ k, (s.joinQueue slot).n k = s.n k := by
  unfold State.joinQueue
  extract_lets later x s1
  have h1 : s1.loop slot = { x with queued := true, joined := some s.stamp } := s.loop_setLoopSlot_same slot _
  exact ⟨congrArg LoopSlot.queued h1, (congrArg LoopSlot.mark h1 :), fun _ => rfl⟩

/-! ## Evaluations -/

/-- The slot at the front of the queue is taken off it and counted, for its evaluation (R347). -/
def State.takenOff (s : State) (slot : Nat) : State :=
  ({ s with loops := { s.loops with queue := s.loops.queue.drop 1 } }.setLoopSlot slot
    { s.loop slot with queued := false, sinceOverrun := min ((s.loop slot).sinceOverrun + 1) 1024 }).bump (lk slot 0x1C)

/-- A slot's own objects but `Output target` do not choose its target (R349). -/
theorem State.target_put_lk (s : State) (slot : Nat) {b : Nat} (v : Val) (hb : b < 256) (h3 : b ≠ 3) :
    (s.put (lk slot b) v).target slot = s.target slot := by
  have hdrive : (s.put (lk slot b) v).slotDrive slot = s.slotDrive slot := by
    unfold State.slotDrive
    congr 1
    funext c
    by_cases hc : c < 11
    · have hne : dk c 0 9 ≠ lk slot b := by
        simp only [dk, lk, K]
        omega
      rw [State.n_put_ne s v hne]
      rfl
    · simp [State.driveThere, hc]
  unfold State.target
  rw [hdrive, State.n_put_ne s v (lk_ne_lk h3.symm)]

/-- A slot that is taken off the queue reads as before in all but its count. -/
theorem State.n_takenOff (s : State) (slot : Nat) {k : Nat} (h : k ≠ lk slot 0x1C) : (s.takenOff slot).n k = s.n k := by
  rw [State.takenOff, State.bump_eq, State.n_put_ne _ _ h]
  rfl

theorem State.target_takenOff (s : State) (slot : Nat) : (s.takenOff slot).target slot = s.target slot := by
  rw [State.takenOff, State.bump_eq, State.target_put_lk _ _ _ (by decide) (by decide)]
  rfl

section
variable {s : State} {slot : Nat} (hon : s.on 15 = true) (hq : s.loops.queue.head? = some slot)
include hon hq

theorem execLoopEvaluation_of_manual (hm : s.n (lk slot 2) = 1) :
    execLoopEvaluation slot s = .next (((s.takenOff slot).manualLaw slot).slotActs slot) := by
  have hm1 : (s.takenOff slot).n (lk slot 2) = 1 := (s.n_takenOff slot (lk_ne_lk (by decide))).trans hm
  unfold execLoopEvaluation
  rw [if_pos (by simp [hon, hq])]
  extract_lets x l s1
  simp only [show s1.n (lk slot 2) = 1 from hm1]
  rfl

theorem execLoopEvaluation_of_automatic (hm : s.n (lk slot 2) = 2) :
    execLoopEvaluation slot s = .next (((s.takenOff slot).controlLaw slot).slotActs slot) := by
  have hm1 : (s.takenOff slot).n (lk slot 2) = 2 := (s.n_takenOff slot (lk_ne_lk (by decide))).trans hm
  unfold execLoopEvaluation
  rw [if_pos (by simp [hon, hq])]
  extract_lets x l s1
  simp only [show s1.n (lk slot 2) = 2 from hm1]
  rfl

end

theorem State.takenOff_leaves (s : State) (slot : Nat) : (s.takenOff slot).loops.queue = s.loops.queue.drop 1 ∧
    ((s.takenOff slot).loop slot).queued = false ∧ (s.takenOff slot).n (lk slot 0x1C) = (s.n (lk slot 0x1C) + 1) % 2 ^ 32 := by
  refine ⟨rfl, ?_, ?_⟩
  · exact congrArg LoopSlot.queued (State.loop_setLoopSlot_same { s with loops := { s.loops with queue := s.loops.queue.drop 1 } } slot _)
  · exact (State.n_put_same ..).trans (Int.toNat_natCast _)

/-- A slot in MANUAL outputs `Manual output`, and its set-point follows the process value (R351). -/
theorem State.manualLaw_outputs (s : State) (slot : Nat) : (s.manualLaw slot).loops.queue = s.loops.queue ∧
    ((s.manualLaw slot).loop slot).queued = (s.loop slot).queued ∧ (s.manualLaw slot).n (lk slot 0xB) = s.n (lk slot 0xC) ∧
    (s.manualLaw slot).n (lk slot 9) = s.n (lk slot 0xA) ∧ (s.manualLaw slot).n (lk slot 0x1C) = s.n (lk slot 0x1C) ∧
    (s.manualLaw slot).target slot = s.target slot := by
  unfold State.manualLaw
  extract_lets s1 x
  have hB : s1.n (lk slot 0xB) = s.n (lk slot 0xC) :=
    (State.n_put_ne (s.setn (lk slot 0xB) (s.n (lk slot 0xC))) _ (lk_ne_lk (by decide))).trans
      ((State.n_put_same s ..).trans (Int.toNat_natCast _))
  have h9 : s1.n (lk slot 9) = s.n (lk slot 0xA) :=
    (State.n_put_same (s.setn (lk slot 0xB) (s.n (lk slot 0xC))) ..).trans (Int.toNat_natCast _)
  have hC : s1.n (lk slot 0x1C) = s.n (lk slot 0x1C) :=
    (State.n_put_ne (s.setn (lk slot 0xB) (s.n (lk slot 0xC))) _ (lk_ne_lk (by decide))).trans
      (State.n_put_ne s _ (lk_ne_lk (by decide)))
  have ht : s1.target slot = s.target slot :=
    (State.target_put_lk (s.setn (lk slot 0xB) (s.n (lk slot 0xC))) slot _ (by decide) (by decide)).trans
      (s.target_put_lk slot _ (by decide) (by decide))
  exact ⟨rfl, (congrArg LoopSlot.queued (s1.loop_setLoopSlot_same slot _) :), hB, h9, hC, ht⟩

/-- A slot without a target acts on none (R349). -/
theorem State.slotActs_of_none {s : State} {slot : Nat} (h : s.target slot = 0) : s.slotActs slot = s := by
  simp [State.slotActs, h]

/-! ## HV channels -/

/-- A channel that fails is in FAULT, its PWM at 0, and its fault is on its way (R360, R372). -/
theorem State.hvFails_of_on {s : State} {h : Nat} (hs : s.hvState h = 2) (kind : Nat) : (s.hvFails h kind).hvState h = 3 ∧
    (s.hvFails h kind).n (hk h 7) = 0 ∧ (s.hvFails h kind).Sent (hvSource h) kind h := by
  refine ⟨State.hvState_hvTo .., ?_, (State.sent_fault ..).of_keeps (State.hvTo_keeps (by decide) (Keeps.refl _ _))⟩
  have h2 : (s.fault (hvSource h) kind h).hvState h = 2 := by
    rw [State.hvState, State.fault_eq, State.n_detect _ _ (by simp only [hk, K]; omega)]
    exact hs
  unfold State.hvFails State.hvTo
  rw [h2, if_neg (by decide)]
  extract_lets s1 x s2
  have h7 : s2.n (hk h 7) = 0 := State.n_put_same s1 (hk h 7) 0
  rw [if_neg (by decide)]
  split
  · next i hi =>
    exact (s2.n_stopSlot i _ (owner_ne_lk (State.slotOf_lt hi) (by omega) (by decide) (by decide))
      (owner_ne_lk (State.slotOf_lt hi) (by omega) (by decide) (by decide))).trans h7
  · exact h7

/-- What the end of an HV_RAMP leaves: the slot at the goal, its rate limit back, EV123 (R361). -/
def State.hvRampEnds (s : State) (h i goal tag : Nat) : State :=
  let s1 := s.disarm (tmHvRamp h)
  ((s1.setn (lk i 9) goal).setLoopSlot i { s1.loop i with ramp := none, rate := 0 }).hvEvent h 3 0 tag

theorem execHvRampComplete_of_ramp {s : State} {h i f0 goal at0 length tag : Nat} (hon : s.on 15 = true) (h2 : s.hvState h = 2)
    (hdue : s.due (tmHvRamp h) = true) (hi : s.hvSlot h = some i) (hr : (s.loop i).ramp = some (f0, goal, at0, length, tag)) :
    execHvRampComplete h s = .next (s.hvRampEnds h i goal tag) := by
  unfold execHvRampComplete
  rw [if_pos ⟨hon, h2, hdue⟩]
  extract_lets s1
  simp only [show s1.hvSlot h = some i from hi, show (s1.loop i).ramp = some (f0, goal, at0, length, tag) from hr]
  rfl

theorem State.hvRampEnds_ends (s : State) (h i goal tag : Nat) : (s.hvRampEnds h i goal tag).n (lk i 9) = goal ∧
    ((s.hvRampEnds h i goal tag).loop i).ramp = none ∧ (s.hvRampEnds h i goal tag).armed (tmHvRamp h) = false ∧
    (s.hvRampEnds h i goal tag).Logged 123 (3 + h * 65536 + tag * 2 ^ 32) := by
  unfold State.hvRampEnds
  extract_lets s1 x
  refine ⟨(State.n_put_same s1 (lk i 9) goal).trans (Int.toNat_natCast _),
    (congrArg LoopSlot.ramp ((s1.setn (lk i 9) goal).loop_setLoopSlot_same i _) :), s.armed_disarm_same (tmHvRamp h), ?_⟩
  exact State.logged_event ((s1.setn (lk i 9) goal).setLoopSlot i { x with ramp := none, rate := 0 }) 123 (3 + h * 65536 + tag * 2 ^ 32)

/-! ## Kettle zones -/

theorem State.zoneAdvance_of_not_start {s : State} {z : Nat} (h : s.zoneState z ≠ 1) : s.zoneAdvance z = s := by
  simp [State.zoneAdvance, h]

end Sys2Proof.Machine

/-- Settles O53: the trigger, the evaluation, the failing channel and the ramp's end are the lemmas above; a gate edge and a firing are
their own definitions under the conditions given. -/
theorem loopsAndKettle : Obligations.LoopsAndKettle := by
  unfold Obligations.LoopsAndKettle
  intro slot pin feedback h z s
  refine ⟨fun hon hs hm hd ht hdue hq hlast => ?_, fun hon hs hm hd ht hdue hq ho => ?_, fun hoff => ?_, fun hon hq hm ht => ?_,
    fun hon hq hm => ?_, fun hq => ?_, fun t0 hon h2 hopen hlong => ?_, fun hopen => ?_,
    fun i f0 goal at0 length tag hon h2 hdue hi hramp => ?_, fun hdue => ?_, fun h1 h3 hon hruns h2 hedge hlead => ?_,
    fun h2 hedge => ?_, fun u hu h1 h3 hon h1' hk hf hedge hangle => ?_, fun h1 => ?_⟩
  · obtain ⟨-, -, hmark⟩ := s.loop_freeTriggered slot feedback
    obtain ⟨hwait, hkeep, hn⟩ := (s.freeTriggered slot feedback).joinQueue_waits slot
    refine ⟨(s.freeTriggered slot feedback).joinQueue slot, ?_, State.joinQueue_last ?_, hwait, hkeep.trans hmark,
      (hn _).trans ((s.n_freeTriggered slot feedback (lk_ne_lk (by decide))).trans hm)⟩
    · rw [exec_loopTrigger, execLoopTrigger_of_free hon hs hm hd ht hdue, if_neg (by rw [hq]; decide)]
    · exact fun i hi hj => hlast i hi ((s.joined_freeTriggered slot feedback i).symm.trans hj)
  · obtain ⟨hqueue, hn⟩ := (s.freeTriggered slot feedback).countOverrun_counts slot
    refine ⟨(s.freeTriggered slot feedback).countOverrun slot, ?_, hqueue,
      hn.trans (by rw [s.n_freeTriggered slot feedback (lk_ne_lk (by decide))])⟩
    rw [exec_loopTrigger, execLoopTrigger_of_free hon hs hm hd ht hdue, if_pos hq, if_neg ho]
  · rw [exec_loopTrigger, execLoopTrigger_of_idle (hoff.imp_right Nat.not_lt.mpr)]
  · obtain ⟨hqueue, hqueued, hcount⟩ := s.takenOff_leaves slot
    obtain ⟨hq', hqd, hB, h9, hC, ht'⟩ := (s.takenOff slot).manualLaw_outputs slot
    refine ⟨(s.takenOff slot).manualLaw slot, ?_, hq'.trans hqueue, hqd.trans hqueued,
      hB.trans (s.n_takenOff slot (lk_ne_lk (by decide))), h9.trans (s.n_takenOff slot (lk_ne_lk (by decide))), hC.trans hcount⟩
    rw [exec_loopEvaluation, execLoopEvaluation_of_manual hon hq hm,
      State.slotActs_of_none (ht'.trans ((s.target_takenOff slot).trans ht))]
  · obtain ⟨hqueue, hqueued, hcount⟩ := s.takenOff_leaves slot
    exact ⟨s.takenOff slot, by rw [exec_loopEvaluation, execLoopEvaluation_of_automatic hon hq hm], hqueue, hqueued, hcount⟩
  · rw [exec_loopEvaluation, execLoopEvaluation, if_neg (by simp [hq])]
  · refine ⟨s.hvFails h 7, ?_, State.hvFails_of_on h2 7⟩
    rw [exec_hvOpenLoad, execHvOpenLoad, hopen]
    exact if_pos ⟨hon, h2, hlong⟩
  · rw [exec_hvOpenLoad, execHvOpenLoad, hopen]
  · exact ⟨_, execHvRampComplete_of_ramp hon h2 hdue hi hramp, State.hvRampEnds_ends ..⟩
  · rw [exec_hvRampComplete, execHvRampComplete, if_neg (by simp [hdue])]
  · rw [exec_kettleGateEdge, execKettleGateEdge, State.zoneAdvance_of_not_start (by rw [h2]; decide)]
    refine ⟨s.setZone z { s.zone z with gate := _, edge := _ }, if_pos ?_, ?_, ?_, rfl⟩
    · simpa [h1, h3, hon, hruns, h2] using ⟨hedge, hlead⟩
    · rw [State.zone_setZone_same]
    · rw [State.zone_setZone_same]
  · rw [exec_kettleGateEdge, execKettleGateEdge, State.zoneAdvance_of_not_start (by rw [h2]; decide)]
    exact if_neg (by simp [hedge])
  · rw [exec_kettlePhaseFire, execKettlePhaseFire]
    refine ⟨u.setZone z { u.zone z with gate := true, fired := (u.halfCycle + 2 ^ 25 - (u.zone z).first) % 2 ^ 25 + 1 }, ?_, ?_, ?_, rfl⟩
    · rw [← hu]
      exact if_pos (by simpa [h1, h3, hon, h1'] using ⟨⟨⟨hk, hf⟩, hedge⟩, hangle⟩)
    · rw [State.zone_setZone_same]
    · rw [State.zone_setZone_same]
  · rw [exec_kettlePhaseFire, execKettlePhaseFire, State.zoneAdvance_of_not_start h1]
    exact if_neg (by simp [h1])
end

section
/-! PROOFS. Checkpoints, health reports, loads and the end of a gap (R384, R420, R430, R435, R438, R439, R441, R442; log entry 175). -/

open Sys2Proof Sys2Proof.Machine

namespace Sys2Proof.Machine

/-! ## The checkpoint writer -/

/-- With no injection, an entry is appended to the bank in use, valid, and shown as the newest (R430, R441). -/
theorem State.appendEntry_of_idle {s : State} (h : s.lid.target = 0) (type page length : Nat) :
    (s.appendEntry type page length).n (K 0x2300 7) = (s.appendEntry type page length).twin.sequence ∧
      (s.appendEntry type page length).n (K 0x2300 8) = s.stamp ∧
      (s.appendEntry type page length).lid = s.lid ∧
      ∃ e : Checkpoint, e.valid = true ∧ (s.appendEntry type page length).twin.entries = s.twin.entries ++ [e] := by
  unfold State.appendEntry
  extract_lets q e bad x s1 s2
  have hbad : bad = false := State.injects_of_idle h 0x300
  have htwin : s2.twin = s1.twin :=
    (State.archiveEntry_keeps (m := Area.allBut .twin) (by decide) (Keeps.refl _ s1)).same_of_allBut
  have hlid : s2.lid = s1.lid := (State.archiveEntry_keeps (m := Area.allBut .lid) (by decide) (Keeps.refl _ s1)).same_of_allBut
  rw [if_neg (by simp [hbad])]
  refine ⟨?_, ?_, hlid, { e with valid := !bad }, by simp [hbad], congrArg Twin.entries htwin⟩
  · calc (s2.newestEntry e).n (K 0x2300 7) = (s2.setn (K 0x2300 7) e.sequence).n (K 0x2300 7) :=
          State.n_put_ne (s2.setn (K 0x2300 7) e.sequence) _ (by decide)
      _ = q := (State.n_put_same s2 ..).trans (Int.toNat_natCast _)
      _ = (s2.newestEntry e).twin.sequence := (congrArg Twin.sequence htwin).symm
  · exact (State.n_put_same (s2.setn (K 0x2300 7) e.sequence) ..).trans (Int.toNat_natCast _)

/-- With no injection, a new base is written at the first attempt: the Lid stays as it was (R431). -/
theorem State.target_newBase {s : State} (h : s.lid.target = 0) : s.newBase.lid.target = 0 ∧ s.newBase.stamp = s.stamp := by
  refine ⟨?_, (State.newBase_keeps (m := Area.allBut .clock) (by decide) (Keeps.refl _ s)).same_of_allBut⟩
  unfold State.newBase State.writeBase
  extract_lets length x s1 s2 y
  obtain ⟨-, -, hlid, e, he, hentries⟩ := State.appendEntry_of_idle (s := s1.draw) h 1 0 length
  have hall : (s2.twin.entries.all fun e => e.valid) = true := by
    rw [hentries]
    simp [he, s1]
  rw [if_pos hall]
  have hw := (State.mramWrite_keeps (m := Area.allBut .lid) (a2 := 2) (a3 := length) (by decide)
    (Keeps.refl _ { s2 with twin := { s2.twin with mramBase := s2.twin.entries.head? } })).same_of_allBut
  exact (congrArg (fun l => l.target) (hw.trans hlid)).trans h

/-- An entry of type 2 stands in the bank in use as the newest (R430, R441). -/
theorem State.checkpoint_of_idle {s : State} (h : s.lid.target = 0) :
    (s.checkpoint 2 0).n (K 0x2300 7) = (s.checkpoint 2 0).twin.sequence ∧ (s.checkpoint 2 0).n (K 0x2300 8) = s.stamp ∧
      (s.checkpoint 2 0).twin.entries ≠ [] := by
  unfold State.checkpoint
  extract_lets free length s1 s2 s3
  have h2 : s2.lid.target = 0 ∧ s2.stamp = s.stamp := by
    unfold s2
    split
    · exact State.target_newBase (s := s1) h
    · exact ⟨h, rfl⟩
  obtain ⟨hseq, hstamp, -, e, -, hentries⟩ := State.appendEntry_of_idle h2.1 2 0 length
  rw [if_neg (by decide)]
  exact ⟨hseq, hstamp.trans h2.2, by rw [hentries]; simp⟩

/-! ## Health reports -/

/-- A report is published in 0x2310, and changes no other object (R442). -/
theorem State.publishReport_shows (s : State) (u tests : Nat) :
    (s.publishReport u tests).n (K 0x2310 1) = (s.n (K 0x2310 1) + 1) % 2 ^ 32 ∧ (s.publishReport u tests).n (K 0x2310 2) = u ∧
      (s.publishReport u tests).n (K 0x2310 3) = s.stamp ∧ (s.publishReport u tests).n (K 0x2310 4) = tests := by
  simp [State.publishReport, State.n_put_ne, K]
  omega

theorem State.role_publishReport {v : Nat} (h : v < 255) (s : State) (u tests : Nat) :
    (s.publishReport u tests).role v = s.role v := by
  have hne : ∀ b < 256, K 0x2300 (1 + v) ≠ K 0x2310 b := by
    simp only [K]
    omega
  simp [State.publishReport, State.role, State.n_put_ne, hne]

/-- What a report of the standby leaves before it acts on the standby's role: the report published, its faults sent (R435, R442). -/
def State.reported (s : State) (passed link : Nat) : State :=
  let u := s.standby
  let tests := s.reportTests u passed
  let s1 := s.after tmReport 10000000
  let s2 := (s1.setUnit u { s1.unit u with lastReport := some s.stamp }).publishReport u tests
  let s3 := if bitOf tests 3 then s2 else s2.fault 0x25 link u
  (upFrom 1 3).foldl (fun t k => if bitOf tests (k - 1) then t else t.fault 0x26 0xF k) s3

/-- A report of a standby that runs, with every entry valid (R435). -/
theorem execHealthReport_of_standby {s : State} {link : Nat} (hdue : s.due tmReport = true) (hrole : s.role s.standby = 3)
    (hlink : link = 4 ∨ link = 5) (hvalid : s.twin.entries.any (fun e => !e.valid) = false) (passed : Nat) :
    execHealthReport passed link false s = .next
      (if s.reportTests s.standby passed = 127 then (s.reported passed link).setHealthy s.standby true 0
      else ((((s.reported passed link).setUnit s.standby { (s.reported passed link).unit s.standby with
        onlySix := decide (s.reportTests s.standby passed = 95) }).setHealthy s.standby false
          (firstFailing (s.reportTests s.standby passed))).setRole s.standby 4
            (if bitOf (s.reportTests s.standby passed) 3 then 3 else 4))) := by
  have hgo : (s.due tmReport && (s.role s.standby == 3 || s.role s.standby == 4) && (link == 4 || link == 5)) = true := by
    rcases hlink with rfl | rfl <;> simp [hdue, hrole]
  unfold execHealthReport
  extract_lets u s0 broken s1 tests x s2 s3 s4 ok y s5
  have hbroken : (false || broken) = false := hvalid
  have h1 : s1 = s0 := if_neg (by simp [hbroken])
  have htests : tests = s.reportTests u passed := by simp only [tests, hbroken, Bool.false_eq_true, if_false]
  have h4 : s4 = s.reported passed link := by
    simp only [s4, s3, s2, x, h1, htests]
    rfl
  rw [if_pos hgo, if_pos hrole]
  simp only [ok, s5, y, h4, htests, decide_eq_true_eq]
  split <;> rfl

theorem State.standby_le (s : State) : s.standby ≤ 3 := Nat.sub_le 3 _

/-- A change of eligibility writes no object, and ends with the eligibility asked for (R435). -/
theorem State.healthy_setHealthy (s : State) (u : Nat) (b : Bool) (test : Nat) : ((s.setHealthy u b test).unit u).healthy = b := by
  unfold State.setHealthy
  extract_lets x
  split
  · next h => exact h
  · rw [State.unit_event, State.unit_setUnit_same]

theorem State.n_setHealthy (s : State) (u : Nat) (b : Bool) (test k : Nat) : (s.setHealthy u b test).n k = s.n k := by
  unfold State.setHealthy
  extract_lets x
  split <;> rfl

/-- A role is no part of a unit's own record. -/
theorem State.unit_setRole (s : State) (u new cause v : Nat) : (s.setRole u new cause).unit v = s.unit v := by
  unfold State.unit
  rw [show (s.setRole u new cause).twin = s.twin from
    (State.setRole_keeps (m := Area.allBut .twin) (by decide) (Keeps.refl _ s)).same_of_allBut]

/-- The standby's report is noted, and the next one timed (R435). -/
def State.reportNoted (s : State) : State :=
  (s.after tmReport 10000000).setUnit s.standby
    { (s.after tmReport 10000000).unit s.standby with lastReport := some s.stamp }

/-- A report whose tests all pass is published, and sends no fault (R435). -/
theorem State.reported_of_passed {s : State} {passed : Nat} (h : s.reportTests s.standby passed = 127) (link : Nat) :
    s.reported passed link = s.reportNoted.publishReport s.standby 127 := by
  unfold State.reported
  extract_lets u tests s1 x s2 s3
  have h127 : ∀ k < 7, bitOf 127 k = true := by decide
  simp only [s3, s2, s1, x, u, show tests = 127 from h, show upFrom 1 3 = [1, 2, 3] from rfl, List.foldl_cons, List.foldl_nil,
    h127 _ (show 3 < 7 by decide), h127 _ (show 1 - 1 < 7 by decide), h127 _ (show 2 - 1 < 7 by decide),
    h127 _ (show 3 - 1 < 7 by decide), if_true, State.reportNoted]

theorem State.n_setUnit_after (s : State) (t d u : Nat) (x : Unit) (k : Nat) : ((s.after t d).setUnit u x).n k = s.n k := rfl

theorem State.n_reportNoted (s : State) (k : Nat) : s.reportNoted.n k = s.n k := State.n_setUnit_after ..

theorem State.role_reportNoted (s : State) (u : Nat) : s.reportNoted.role u = s.role u := s.n_reportNoted _

theorem State.stamp_reportNoted (s : State) : s.reportNoted.stamp = s.stamp := by
  rw [State.reportNoted, State.setUnit_stamp, State.after_eq, State.arm_stamp]

theorem State.healthy_reportNoted (s : State) : (s.reportNoted.unit s.standby).healthy = (s.unit s.standby).healthy := by
  rw [State.reportNoted, State.unit_setUnit_same, State.after_eq, State.unit_arm]

theorem State.unit_publishReport (s : State) (u tests v : Nat) : (s.publishReport u tests).unit v = s.unit v := by
  simp [State.publishReport]

/-- A unit that becomes eligible is noted in EV024 (R435). -/
theorem State.logged_setHealthy {s : State} {u : Nat} (h : (s.unit u).healthy = false) :
    (s.setHealthy u true 0).Logged 24 (1 + u * 65536) := by
  unfold State.setHealthy
  extract_lets x
  rw [if_neg (by rw [show x.healthy = false from h]; decide)]
  exact State.logged_event ..

/-- A standby that was not eligible and whose report passes every test is eligible, and its report is shown (R435, R442). -/
theorem State.reported_passes {s : State} {passed : Nat} (hrole : s.role s.standby = 3) (hh : (s.unit s.standby).healthy = false)
    (h : s.reportTests s.standby passed = 127) (link : Nat) {t : State}
    (ht : t = (s.reported passed link).setHealthy s.standby true 0) :
    (t.unit s.standby).healthy = true ∧ t.role s.standby = 3 ∧ t.n (K 0x2310 1) = (s.n (K 0x2310 1) + 1) % 2 ^ 32 ∧
      t.n (K 0x2310 2) = s.standby ∧ t.n (K 0x2310 3) = s.stamp ∧ t.n (K 0x2310 4) = 127 ∧ t.Logged 24 (1 + s.standby * 65536) := by
  rw [State.reported_of_passed h] at ht
  obtain ⟨h1, h2, h3, h4⟩ := s.reportNoted.publishReport_shows s.standby 127
  have hn : ∀ k, t.n k = (s.reportNoted.publishReport s.standby 127).n k := fun k => by rw [ht, State.n_setHealthy]
  have hstandby : s.standby < 255 := by have := s.standby_le; omega
  have hr := State.role_publishReport hstandby s.reportNoted s.standby 127
  refine ⟨?_, ?_, ?_, ?_, ?_, ?_, ?_⟩
  · rw [ht, State.healthy_setHealthy]
  · rw [State.role, hn, ← State.role, hr, State.role_reportNoted, hrole]
  · rw [hn, h1, State.n_reportNoted]
  · rw [hn, h2]
  · rw [hn, h3, State.stamp_reportNoted]
  · rw [hn, h4]
  · rw [ht]
    exact State.logged_setHealthy (by rw [State.unit_publishReport, State.healthy_reportNoted, hh])

/-! ## Loads -/

theorem State.crockState_of_up {s : State} (h : s.crockUp = true) : s.crockState ≠ 1 := by
  unfold State.crockUp at h
  simp only [Bool.and_eq_true, decide_eq_true_eq] at h
  omega

/-- A unit that is powered can load once the Crock has mounted, or failed (R420, R438). -/
theorem loads_of_unit {s : State} {u : Nat} (hu : u = 1 ∨ u = 2) (hon : s.on u = true) (h6 : s.on 6 = true) (hc : s.crockState ≠ 1) :
    ((u == 1 || u == 2) && s.on u && (s.on 6 && s.crockState != 1)) = true := by
  rcases hu with rfl | rfl <;> simp [hon, h6, hc]

/-- A unit in RELOADING that has loaded its image and passed its tests is STANDBY (R438). -/
theorem State.reloaded_of_passed {s : State} {u : Nat} {bad : List Nat} (hup : s.crockUp = true)
    (hload : s.slotLoads bad (slotPartition u (s.unit u).loading) = true)
    (hrestores : ((s.loadImage u (s.unit u).loading 0).recordLoad u).imageRestores u = true) :
    (s.reloaded u true bad).role u = 3 ∧ (s.reloaded u true bad).Logged 25 (2 + u * 256 + (s.unit u).loading * 65536) := by
  unfold State.reloaded
  extract_lets k failed s1
  rw [if_pos (by rw [hup, hload]; rfl), if_pos (by rw [hrestores]; rfl)]
  exact ⟨(State.n_event ..).trans (State.role_setRole ..), State.logged_event ..⟩

/-- A unit in RELOADING that cannot load its image is FAILED (R438). -/
theorem State.reloaded_of_none {s : State} {u : Nat} {bad : List Nat}
    (hload : s.slotLoads bad (slotPartition u (s.unit u).loading) = false) (tested : Bool) :
    (s.reloaded u tested bad).role u = 6 ∧ (s.reloaded u tested bad).Logged 25 (3 + u * 256 + (s.unit u).loading * 65536) := by
  unfold State.reloaded
  extract_lets k failed s1
  rw [if_neg (by rw [hload]; simp)]
  exact ⟨(State.n_event ..).trans (State.role_setRole ..), State.logged_event ..⟩

/-! ## The end of a gap -/

/-- An operation that leaves the Twin Sequencer alone opens and closes no gap. -/
theorem Keeps.switching_eq {s t : State} (h : Keeps Area.twin.allBut s t) : t.twin.switching = s.twin.switching :=
  congrArg Twin.switching h.same_of_allBut

theorem State.twin_undoWrites (l : List Checkpoint) (s : State) : (l.foldl State.undoWrite s).twin = s.twin := by
  induction l generalizing s with
  | nil => rfl
  | cons e l ih =>
    exact (ih (s.undoWrite e)).trans
      (State.undoWrite_keeps (m := Area.allBut .twin) (by decide) (Keeps.refl _ s)).same_of_allBut

/-- A restore takes entries of the bank, and opens no gap (R433). -/
theorem State.switching_restoreEntries (s : State) : s.restoreEntries.twin.switching = s.twin.switching := by
  unfold State.restoreEntries
  extract_lets good s1
  have h1 : s1.twin.switching = s.twin.switching := by
    unfold s1
    split
    · rfl
    · next e l _ =>
      have h : ((e :: l).reverse.foldl State.undoWrite s).twin.switching = s.twin.switching := by rw [State.twin_undoWrites]
      exact h
  split <;> exact h1

/-- The gap is closed once the new unit owns the outputs (R429). -/
theorem State.switching_takeOwnership (s : State) : s.takeOwnership.twin.switching = false := by
  unfold State.takeOwnership
  extract_lets new gap twin x y s1 s2 s3 s4
  have h2 : s2.twin = s1.twin :=
    (State.setRole_keeps (m := Area.allBut .twin) (by decide) (Keeps.refl _ (s1.setn (K 0x2300 1) new))).same_of_allBut
  have h3 : Keeps Area.twin.allBut _ s3 := State.answerRecorded_keeps (by decide) (State.regate_keeps (by decide)
    (State.readmitAll_keeps (by decide) (State.flushGap_keeps (by decide) (Keeps.refl _ _))))
  have hs3 : s3.twin.switching = false :=
    h3.switching_eq.trans ((State.switching_restoreEntries _).trans (by rw [State.event_twin, h2]; rfl))
  have h4 : s4.twin.switching = false := by
    unfold s4
    split
    · exact hs3
    · exact (State.recordLoad_keeps (m := Area.allBut .twin) (by decide) (Keeps.refl _ s3)).switching_eq.trans hs3
  have h5 : Keeps Area.twin.allBut s4 s4.rebuild.serveGapPages.refreshGate :=
    State.refreshGate_keeps (by decide) (State.serveGapPages_keeps (by decide) (State.rebuild_keeps (by decide) (Keeps.refl _ s4)))
  exact h5.switching_eq.trans h4

end Sys2Proof.Machine

/-- Settles O57: the checkpoint writer, the passing and the failing report, the loads and the end of the gap are the lemmas above. The
locks that the sequencer holds at a checkpoint are the model's free value (log entry 175). -/
theorem twinRhythm : Obligations.TwinRhythm := by
  unfold Obligations.TwinRhythm
  intro passed link u pd tested bad answers s
  refine ⟨fun hdue hb hon => ?_, fun hdue hb => ?_, fun hdue => ?_, fun ht => State.checkpoint_of_idle ht,
    fun hdue hrole hh hlink hvalid htests => ?_, fun hdue hrole hact hlink hvalid htests => ?_, fun hdue => ?_, fun hp hdue hadm => ?_,
    fun hp => ?_, fun hrole hu hon h6 hup hload hres => ?_, fun hrole hu hon h6 hc hload => ?_, fun hrole hu hon h6 hc hw => ?_,
    fun hoff => ?_, fun hsw hrole => ⟨?_, s.switching_takeOwnership⟩, fun hsw => ?_, fun h1 h16 hst => ?_, fun hst => ?_⟩
  · rw [exec_checkpointDelta, execCheckpointDelta, if_pos hdue]
    simp [hb, hon]
  · rw [exec_checkpointDelta, execCheckpointDelta, if_pos hdue]
    rcases hb with h | h <;> simp [h]
  · rw [exec_checkpointDelta, execCheckpointDelta, if_neg (by simp [hdue])]
  · refine ⟨_, ?_, State.reported_passes hrole hh htests link rfl⟩
    rw [exec_healthReport, execHealthReport_of_standby hdue hrole hlink hvalid, if_pos htests]
  · refine ⟨_, by rw [exec_healthReport, execHealthReport_of_standby hdue hrole hlink hvalid, if_neg htests], ?_,
      State.role_setRole ..⟩
    rw [State.unit_setRole, State.healthy_setHealthy]
  · rw [exec_healthReport, execHealthReport, if_neg (by simp [hdue])]
  · refine ⟨{ s with twin := { s.twin with planned := 2 } }.disarm tmPlanned, ?_, rfl, State.armed_disarm_same .., rfl⟩
    rw [exec_plannedWaitExpired, execPlannedWaitExpired, if_pos ⟨hp, hdue⟩]
    extract_lets x s1
    rw [show s1.admittedPage = none from hadm]
  · rw [exec_plannedWaitExpired, execPlannedWaitExpired, if_neg (by simp [hp])]
  · have hgo := loads_of_unit hu hon h6 (State.crockState_of_up hup)
    obtain ⟨h3, hlog⟩ := State.reloaded_of_passed hup hload hres
    refine ⟨_, ?_, h3, hlog⟩
    rw [exec_unitLoadComplete, execUnitLoadComplete, if_pos hgo, if_neg (by rw [hrole]; decide), if_pos hrole]
  · have hgo := loads_of_unit hu hon h6 hc
    obtain ⟨hrole6, hlog⟩ := State.reloaded_of_none hload tested
    refine ⟨_, ?_, hrole6, hlog⟩
    rw [exec_unitLoadComplete, execUnitLoadComplete, if_pos hgo, if_neg (by rw [hrole]; decide), if_pos hrole]
  · have hgo := loads_of_unit hu hon h6 hc
    rw [exec_unitLoadComplete, execUnitLoadComplete, if_pos hgo, if_pos hrole, hw]
    rfl
  · rw [exec_unitLoadComplete, execUnitLoadComplete]
    rcases hoff with h | h <;> simp [h]
  · rw [exec_ownershipTaken, execOwnershipTaken, if_pos (by simp [hsw, hrole])]
  · rw [exec_ownershipTaken, execOwnershipTaken, if_neg (by simp [hsw])]
  · rw [exec_domainReady, execDomainReady, if_pos (by simp [h1, h16, hst])]
  · rw [exec_domainReady, execDomainReady, if_neg (by simp [hst])]
end

section
/-! PROOFS. Supplies, domains, the motor bus and temperatures (R375, R376, R380, R384, R387 to R390, R395, R396). -/

open Sys2Proof Sys2Proof.Machine

namespace Sys2Proof.Machine

/-! ## What a detected fault leaves -/

theorem State.Logged.detect {s : State} {e p : Nat} (h : s.Logged e p) (w : Nat) : (s.detect w).Logged e p :=
  State.logged_of_held h (State.detect_stamp ..) fun _ hr => State.mem_held_detect hr w

theorem State.Sent.detect {s : State} {a b c : Nat} (h : s.Sent a b c) (w : Nat) : (s.detect w).Sent a b c := by
  rw [State.sent_iff] at h ⊢
  rw [State.detect_words]
  exact List.mem_append_left _ h

theorem State.domain_detect (s : State) (w pd : Nat) : (s.detect w).domain pd = s.domain pd := by
  unfold State.domain
  rw [State.detect_power]

theorem State.armed_detect (s : State) (w u : Nat) : (s.detect w).armed u = s.armed u := by
  unfold State.armed
  rw [State.detect_timers]

/-! ## Domains -/

/-- A domain that changes state is recorded in EV002 (R395). -/
theorem State.logged_setDomainState {s : State} {pd new : Nat} (h : (s.domain pd).state ≠ new) (cause : Nat) :
    (s.setDomainState pd new cause).Logged 2 (pd + new * 256 + (s.domain pd).state * 65536 + cause * 2 ^ 24) := by
  unfold State.setDomainState
  extract_lets d
  rw [if_neg h]
  exact State.logged_event ..

/-- A change of a domain's state runs no timer and writes no object. -/
theorem State.setDomainState_rest (s : State) (pd new cause : Nat) :
    (s.setDomainState pd new cause).timers = s.timers ∧ (s.setDomainState pd new cause).od = s.od ∧
      (s.setDomainState pd new cause).lid = s.lid := by
  unfold State.setDomainState
  extract_lets d
  split <;> exact ⟨rfl, rfl, rfl⟩

/-- A domain that has not reported ready in time: FAILED, and its fault sent (R384). -/
def State.rampFailed (s : State) (pd : Nat) : State := ((s.disarm (tmRamp pd)).setDomainState pd 4 5).fault 0x13 0x4 pd

theorem State.rampFailed_fails {s : State} {pd : Nat} (h : (s.domain pd).state = 1) :
    ((s.rampFailed pd).domain pd).state = 4 ∧ (s.rampFailed pd).armed (tmRamp pd) = false ∧ (s.rampFailed pd).Sent 0x13 4 pd ∧
      (s.rampFailed pd).Logged 2 (pd + 4 * 256 + 65536 + 5 * 2 ^ 24) ∧ (s.rampFailed pd).requested pd = s.requested pd := by
  let u := (s.disarm (tmRamp pd)).setDomainState pd 4 5
  obtain ⟨htimers, hod, -⟩ := (s.disarm (tmRamp pd)).setDomainState_rest pd 4 5
  have hlog : u.Logged 2 (pd + 4 * 256 + (s.domain pd).state * 65536 + 5 * 2 ^ 24) :=
    State.logged_setDomainState (s := s.disarm (tmRamp pd)) (h.trans_ne (by decide)) 5
  rw [h] at hlog
  refine ⟨?_, ?_, State.sent_fault .., hlog.detect _, ?_⟩
  · exact (congrArg Domain.state (u.domain_detect _ pd)).trans (State.domain_setDomainState ..)
  · refine (u.armed_detect _ _).trans ?_
    unfold State.armed
    rw [htimers]
    exact s.armed_disarm_same (tmRamp pd)
  · unfold State.requested
    rw [State.rampFailed, State.fault_eq, State.n_detect _ _ (by decide),
      (State.setDomainState_keeps (m := Area.objects.allBut) (by decide) (Keeps.refl _ (s.disarm (tmRamp pd)))).n_eq]
    rfl

/-! ## The bulk supply -/

/-- What a bulk sample leaves of the counts of samples beyond the thresholds, and the voltage shown (R374, R376). -/
def State.bulkCounted (s : State) (volts : Nat) : State :=
  let p := s.power
  let bw := if volts < s.n (K 0x2100 3) then p.belowWarning + 1 else 0
  let br := if volts < 80 then p.belowReset + 1 else 0
  let ar := if s.bulkRecovered volts then p.aboveRecovery + 1 else 0
  let nr := if s.bulkRecovered volts then 0 else p.belowRecovery + 1
  { s with power := { p with belowWarning := bw, belowReset := br, aboveRecovery := ar, belowRecovery := nr } }.setn (K 0x2100 2) volts

theorem State.n_bulkCounted (s : State) (volts : Nat) : (s.bulkCounted volts).n (K 0x2100 2) = volts :=
  (State.n_put_same ..).trans (Int.toNat_natCast _)

/-- `Supply state` follows the supply, and no other object does (R376). -/
theorem State.setSupply_shows (s : State) (new : Nat) : (s.setSupply new).n (K 0x2100 4) = min new 1 ∧
    ∀ {k : Nat}, k ≠ K 0x2100 4 → (s.setSupply new).n k = s.n k := by
  unfold State.setSupply
  extract_lets x s1
  refine ⟨?_, fun h => ?_⟩
  · rw [State.n_event, State.setn_eq, State.n_put_same, Int.toNat_natCast]
  · rw [State.n_event, State.setn_eq, State.n_put_ne _ _ h]
    rfl

/-- A sample in NORMAL: the supply goes to RESET, to WARNING, or stays (R376). -/
theorem execBulkSample_of_normal {s : State} (h : s.power.supply = 0) (volts : Nat) : execBulkSample volts s = .next
    (if 2 ≤ (s.bulkCounted volts).power.belowReset then (((s.bulkCounted volts).setSupply 1).warningActions.enterReset)
    else if 2 ≤ (s.bulkCounted volts).power.belowWarning then ((s.bulkCounted volts).setSupply 1).warningActions
    else s.bulkCounted volts) := by
  unfold execBulkSample
  extract_lets p bw br ar nr s1 s2
  have h2 : s2 = s.bulkCounted volts := if_pos h
  rw [if_pos h, h2, show (s.bulkCounted volts).power.belowReset = br from rfl,
    show (s.bulkCounted volts).power.belowWarning = bw from rfl]
  split
  · rfl
  · split <;> rfl

/-- A sample in WARNING below the reset threshold, after one that was: the supply goes to RESET (R376). -/
theorem execBulkSample_of_warning {s : State} {volts : Nat} (h : s.power.supply = 1) (hv : volts < 80)
    (hr : 1 ≤ s.power.belowReset) : ∃ u : State, execBulkSample volts s = .next u.enterReset ∧ u.n (K 0x2100 2) = volts ∧
      u.armed tmSupply = false := by
  unfold execBulkSample
  extract_lets p bw br ar nr s1 s2
  have hbr : 2 ≤ br := by simp only [br, if_pos hv, p]; omega
  have hn : s2.n (K 0x2100 2) = volts := by
    have h1 : s1.n (K 0x2100 2) = volts := s.n_bulkCounted volts
    unfold s2
    split
    · exact h1
    · split
      · rwa [State.after_eq, State.n_arm]
      · split
        · rwa [State.n_disarm]
        · exact h1
  rw [if_neg (by rw [show p.supply = 1 from h]; decide), if_pos ⟨h, hbr⟩]
  exact ⟨_, rfl, (State.n_disarm ..).trans hn, State.armed_disarm_same ..⟩

theorem State.enterReset_holds (s : State) : s.enterReset.twin.held = true ∧ s.enterReset.twin.dictionaryUp = false ∧
    s.enterReset.power.resetAt = s.enterReset.stamp := by
  have h : s.enterReset.stamp = s.stamp := (State.enterReset_keeps (m := Area.clock.allBut) (by decide) (Keeps.refl _ s)).same_of_allBut
  exact ⟨rfl, rfl, h.symm⟩

/-! ## The motor bus -/

/-- With its switch closed the motor bus stays connected (R311). -/
theorem State.closeBusSwitch_of_closed {s : State} (h : s.flag (K 0x410F 8) = true) (j2 : Nat) : s.closeBusSwitch j2 = s := by
  unfold State.closeBusSwitch State.setBusSwitch
  rw [if_pos h]
  split <;> rfl

/-- A sample in NORMAL with the switch closed (R380). -/
theorem execMotorBusSample_of_normal {s : State} {j2 : Nat} (hj : j2 ≤ 60000) (hc : s.flag (K 0x410F 8) = true)
    (hb : s.n (K 0x2100 0xB) = 0) (bus : Nat) : execMotorBusSample bus j2 s = .next
      (if bus < s.n (K 0x2100 8) then (s.setn (K 0x2100 0xC) (j2 % 65536)).setBus 1 bus
      else if s.n (K 0x2100 9) ≤ bus then (s.setn (K 0x2100 0xC) (j2 % 65536)).setBus 2 bus
      else s.setn (K 0x2100 0xC) (j2 % 65536)) := by
  have hf : (s.setn (K 0x2100 0xC) (j2 % 65536)).flag (K 0x410F 8) = true := (State.flag_put_ne s _ (by decide)).trans hc
  unfold execMotorBusSample
  rw [if_neg (by omega)]
  extract_lets s1 hyst o
  have h1 : s1 = s.setn (K 0x2100 0xC) (j2 % 65536) := State.closeBusSwitch_of_closed hf j2
  have ho : o = false := by simp only [o, h1, hf]; rfl
  rw [hb]
  simp only [ho, h1, Bool.false_eq_true, false_or]
  split
  · rfl
  · split <;> rfl

/-- The bus in OVERVOLTAGE is recorded and sent (R380). -/
theorem State.setBus_over {s : State} (h : s.n (K 0x2100 0xB) = 0) (mv : Nat) : (s.setBus 2 mv).n (K 0x2100 0xB) = 2 ∧
    (s.setBus 2 mv).n (K 0x2100 0xC) = s.n (K 0x2100 0xC) ∧ (s.setBus 2 mv).Sent 0x12 0xA (mv / 100) ∧
    (s.setBus 2 mv).Logged 3 (2 + mv % 2 ^ 32 * 2 ^ 32) := by
  unfold State.setBus
  extract_lets s1
  have hlog : s1.Logged 3 (2 + s.n (K 0x2100 0xB) * 256 + mv % 2 ^ 32 * 2 ^ 32) := State.logged_event ..
  rw [h] at hlog
  rw [if_neg (by decide), if_pos rfl]
  refine ⟨(State.n_detect (k := K 0x2100 0xB) _ _ (by decide)).trans ?_, (State.n_detect (k := K 0x2100 0xC) _ _ (by decide)).trans ?_,
    State.sent_fault .., hlog.detect _⟩
  · exact (State.n_put_same s (K 0x2100 0xB) 2)
  · unfold s1
    rw [State.n_event, State.setn_eq, State.n_put_ne _ _ (by decide)]

/-! ## Temperatures -/

theorem tk_ne_K {c index a b : Nat} (hc : c ≤ 36) (hi : 0x2133 < index) (ha : a < 256) (hb : b < 256) : tk c a ≠ K index b := by
  simp only [tk, K]
  omega

theorem State.channel_le {s : State} {c : Nat} (h : s.channelOn c = true) : c ≤ 36 := by
  unfold State.channelOn at h
  simp only [Bool.and_eq_true, decide_eq_true_eq] at h
  exact h.1.2

/-- A reading in range of a channel that is not broken leaves its mark (R388). -/
theorem State.markChannel_of_good {s : State} {c : Nat} {x : Int} (hf : s.flag (tk c 5) = false) (hlo : -400 ≤ x) (hhi : x ≤ 3000) :
    s.markChannel c x = s := by
  unfold State.markChannel
  rw [if_neg (by omega), if_neg (by simp [hf])]

/-- A reading out of range marks a sound channel as broken: EV005 subcode 1, and the fault of its source (R388, R396). -/
theorem State.markChannel_of_bad {s : State} {c : Nat} {x : Int} (hc : c ≤ 36) (hf : s.flag (tk c 5) = false)
    (hx : x < -400 ∨ 3000 < x) : (s.markChannel c x).flag (tk c 5) = true ∧ (s.markChannel c x).Sent (channelSource c) 7 c ∧
      (s.markChannel c x).Logged 5 (1 + c * 65536) ∧ (s.markChannel c x).n (tk c 0xA) = s.n (tk c 0xA) := by
  unfold State.markChannel
  extract_lets g s1
  rw [if_pos hx, if_neg (ne_true_of_eq_false hf)]
  have h5 : tk c 5 ≠ K 0x2220 5 := tk_ne_K hc (by decide) (by decide) (by decide)
  have hA : tk c 0xA ≠ K 0x2220 5 := tk_ne_K hc (by decide) (by decide) (by decide)
  let t := s1.setb (tk c 5) true
  have hflag : (t.fault (channelSource c) 7 c).flag (tk c 5) = true :=
    (State.flag_detect t _ h5).trans (State.flag_put_bool s1 (tk c 5) true)
  have hn : (t.fault (channelSource c) 7 c).n (tk c 0xA) = s.n (tk c 0xA) :=
    (State.n_detect t _ hA).trans (State.n_put_ne s1 _ (tk_ne_tk (by decide) (by decide) (by decide)))
  exact ⟨hflag, State.sent_fault t .., State.logged_event .., hn⟩

theorem clampInt_of_mem {lo hi x : Int} (h1 : lo ≤ x) (h2 : x ≤ hi) : clampInt lo hi x = x := by
  unfold clampInt
  omega

/-- A reading in range of a sound channel is shown and evaluated (R387, R389). -/
theorem State.channelSample_of_good {s : State} {c : Nat} {x : Int} (hf : s.flag (tk c 5) = false) (hlo : -400 ≤ x) (hhi : x ≤ 3000) :
    s.channelSample c x = ((((s.seti (tk c 2) x).setPartner c false).evaluateChannel c x).zonesRead c) := by
  have hf2 : (s.seti (tk c 2) x).flag (tk c 5) = false :=
    (State.flag_put_ne s _ (tk_ne_tk (by decide) (by decide) (by decide))).trans hf
  unfold State.channelSample
  rw [clampInt_of_mem (by omega) (by omega), State.markChannel_of_good hf2 hlo hhi]
  exact if_neg (ne_true_of_eq_false hf2)

/-- A broken channel without a partner holds its state (R388). -/
theorem State.channelSample_of_broken {s : State} {c : Nat} {x : Int}
    (hb : ((s.seti (tk c 2) (clampInt (-32768) 32767 x)).markChannel c x).flag (tk c 5) = true)
    (hp : ((s.seti (tk c 2) (clampInt (-32768) 32767 x)).markChannel c x).n (tk c 0xA) = 0) : s.channelSample c x =
      (((s.seti (tk c 2) (clampInt (-32768) 32767 x)).markChannel c x).setPartner c false).zonesRead c := by
  unfold State.channelSample
  extract_lets s1 p
  rw [if_pos hb, if_neg fun h => h.1 hp]

/-! ### What quiesce writes -/

section
variable {k : Nat} (h1 : k ≠ ck 1) (h5 : k ≠ K 0x2220 5)
include h1

theorem State.val_crockQuiesce (s : State) : s.crockQuiesce.val k = s.val k := by
  unfold State.crockQuiesce
  extract_lets st
  split
  · exact State.val_crockTo _ 4 h1
  · rfl

include h5

theorem State.val_crockSpare (s : State) : s.crockSpare.val k = s.val k := by
  unfold State.crockSpare
  extract_lets n x s1 y s2
  have e1 : s1.val k = s.val k := by
    unfold s1
    split <;> rfl
  have e2 : s2.val k = s.val k := by
    unfold s2
    split
    · exact e1
    · exact (State.detect_val _ _ h5).trans e1
  split
  · split
    · exact (s2.val_crockTo 3 h1).trans e2
    · exact e2
  · exact e1

theorem State.val_crockResume (s : State) : s.crockResume.val k = s.val k := by
  unfold State.crockResume
  split
  · exact (State.val_crockSpare h1 h5 _).trans (State.val_crockTo _ _ h1)
  · rfl

/-- `Non-volatile quiesce` writes the state of the Crock, and no other object but what an injection has left (R392). -/
theorem State.val_setQuiesce (s : State) (bit : Nat) (on : Bool) : (s.setQuiesce bit on).val k = s.val k := by
  unfold State.setQuiesce
  extract_lets old new s1 erase
  split
  · exact State.val_crockQuiesce h1 _
  · split
    · exact State.val_crockResume h1 h5 _
    · rfl

end

theorem State.Sent.crockSpare {s : State} {a b c : Nat} (h : s.Sent a b c) : s.crockSpare.Sent a b c := by
  unfold State.crockSpare
  extract_lets n x s1 y s2
  have e1 : s1.Sent a b c := by
    unfold s1
    split <;> exact h
  have e2 : s2.Sent a b c := by
    unfold s2
    split
    · exact e1
    · exact State.Sent.detect (s := { s1 with crock := { s1.crock with low := true } }) e1 _
  split
  · split
    · exact e2.of_keeps (State.crockTo_keeps (by decide) (Keeps.refl _ s2))
    · exact e2
  · exact e1

/-- Quiesce takes no message off the lanes (R392). -/
theorem State.Sent.setQuiesce {s : State} {a b c : Nat} (h : s.Sent a b c) (bit : Nat) (on : Bool) :
    (s.setQuiesce bit on).Sent a b c := by
  unfold State.setQuiesce
  extract_lets old x new s1 erase
  have h1 : (s1.draw.event 8 (1 + (bit + 1) * 256 + erase)).Sent a b c := h
  have h2 : (s1.draw.event 8 (2 + (bit + 1) * 256 + erase)).Sent a b c := h
  split
  · exact h1.of_keeps (State.crockQuiesce_keeps (by decide) (Keeps.refl _ _))
  · split
    · unfold State.crockResume
      split
      · exact (h2.of_keeps (State.crockTo_keeps (by decide) (Keeps.refl _ _))).crockSpare
      · exact h2
    · exact h

/-! ### The evaluation of a reading -/

/-- The throttle writes `Thermal throttle` and what quiesce writes (R389, R392). -/
theorem State.val_refreshThrottle (s : State) (t : Nat) {k : Nat} (hD : k ≠ K 0x2100 0xD) (h1 : k ≠ ck 1) (h5 : k ≠ K 0x2220 5) :
    (s.refreshThrottle t).val k = s.val k := by
  unfold State.refreshThrottle
  extract_lets hot shut s1
  refine (State.val_setQuiesce h1 h5 s1 1 shut).trans ?_
  unfold s1
  split
  · rfl
  · exact State.val_put_ne s _ hD

theorem State.Sent.refreshThrottle {s : State} {a b c : Nat} (h : s.Sent a b c) (t : Nat) : (s.refreshThrottle t).Sent a b c := by
  unfold State.refreshThrottle
  extract_lets hot shut s1
  refine State.Sent.setQuiesce ?_ 1 shut
  unfold s1
  split <;> exact h

/-- A channel that enters SHUTDOWN shows it, and sends the fault of its source (R389, R390). -/
theorem State.evaluateChannel_shutdown {s : State} {c : Nat} {x : Int} (hc : c ≤ 36) (hf : (s.thermo c).fresh = false)
    (ho : s.n (tk c 3) ≠ 3)
    (hs : temperatureState (s.n (tk c 3)) x (s.i (tk c 6)) (s.i (tk c 7)) (s.i (tk c 8)) (s.i (tk c 9)) = 3) :
    (s.evaluateChannel c x).n (tk c 3) = 3 ∧ (s.evaluateChannel c x).Sent (channelSource c) 0xC c := by
  unfold State.evaluateChannel
  extract_lets g old oldBand new band s1 s2 s3 s4
  have hold : old = s.n (tk c 3) := if_neg (ne_true_of_eq_false hf)
  have hnew : new = 3 := by simp only [new, hold, hs]
  have hne : ∀ {index b : Nat}, 0x2133 < index → b < 256 → tk c 3 ≠ K index b := fun hi hb => tk_ne_K hc hi (by decide) hb
  have h2 : s2.n (tk c 3) = 3 := by
    unfold s2
    rw [if_neg (by rw [hnew, hold]; exact ho.symm), State.n_event, hnew]
    exact State.n_put_same s1 (tk c 3) 3
  have h3 : s3.n (tk c 3) = 3 ∧ s3.Sent (channelSource c) 0xC c := by
    unfold s3
    rw [if_pos ⟨hnew, hold ▸ ho⟩]
    exact ⟨(State.n_detect s2 _ (hne (by decide) (by decide))).trans h2, State.sent_fault ..⟩
  have h4 : s4.n (tk c 3) = 3 ∧ s4.Sent (channelSource c) 0xC c := by
    unfold s4
    split
    · exact h3
    · exact ⟨(State.n_put_ne s3 _ (tk_ne_tk (by decide) (by decide) (by decide))).trans h3.1, h3.2⟩
  refine ⟨(State.reads_eq (s4.val_refreshThrottle c ?_ ?_ ?_)).2.1.trans h4.1, h4.2.refreshThrottle c⟩
  · simp only [tk, K]
    omega
  · exact hne (by decide) (by decide)
  · exact hne (by decide) (by decide)

end Sys2Proof.Machine

/-- Settles O58: each event is its definition under the conditions given; what it leaves is in the lemmas above. -/
theorem powerEvents : Obligations.PowerEvents := by
  unfold Obligations.PowerEvents
  intro pd volts rail bus j2 c above persists sample reading boot s
  refine ⟨fun h1 hdue hreq => ?_, fun h1 hdue hreq => ?_, fun h => ?_, fun h3 h6 hreq => ?_, fun h3 => ?_, fun h0 hv hw hr => ?_,
    fun h0 hv h80 => ?_, fun h0 hv hw h80 => ?_, fun h1 hv hr => ?_, s.enterReset_holds, fun hdue h1 => ?_, fun hdue h2 => ?_,
    fun hdue => ?_, ?_, fun hj hc hb hlo hhi => ?_, fun hj hc hb hlo hhi => ?_, fun hj hc hb hlo => ?_, fun hon hpw hf hlo hhi => ?_,
    fun hon hpw hf hp hx => ?_, fun hoff => ?_, fun hon hpw => ?_, fun hc => if_pos hc, fun hc => if_neg (by omega),
    fun hon hf ho hs => ?_⟩
  · obtain ⟨hst, harm, hsent, hlog, hkeep⟩ := State.rampFailed_fails h1
    refine ⟨s.rampFailed pd, ?_, hst, harm, hsent, hlog⟩
    rw [exec_domainRampTimeout, execDomainRampTimeout, if_pos ⟨h1, hdue⟩]
    exact congrArg _ (if_pos (hkeep.trans hreq))
  · obtain ⟨-, -, hsent, -, hkeep⟩ := State.rampFailed_fails h1
    refine ⟨(s.rampFailed pd).setDomainState pd 0 (s.domain pd).cause, ?_, State.domain_setDomainState .., ?_⟩
    · rw [exec_domainRampTimeout, execDomainRampTimeout, if_pos ⟨h1, hdue⟩]
      exact congrArg _ (if_neg (ne_true_of_eq_false (hkeep.trans hreq)))
    · exact hsent.of_keeps (State.setDomainState_keeps (by decide) (Keeps.refl _ _))
  · rw [exec_domainRampTimeout, execDomainRampTimeout, if_neg]
    rintro ⟨h1, hdue⟩
    rcases h with h | h
    · exact h h1
    · simp [h] at hdue
  · refine ⟨s.setDomainState pd 0 (s.domain pd).cause, ?_, State.domain_setDomainState .., (s.setDomainState_rest ..).2.1, ?_⟩
    · have hn : (s.setDomainState pd 0 (s.domain pd).cause).requested pd = false := by
        unfold State.requested
        rw [(State.setDomainState_keeps (m := Area.objects.allBut) (by decide) (Keeps.refl _ s)).n_eq]
        exact hreq
      rw [exec_domainStopped, execDomainStopped, if_pos h3]
      simp [State.domainOff, h6, hn]
    · have hlog := State.logged_setDomainState (s := s) (pd := pd) (new := 0) (by rw [h3]; decide) (s.domain pd).cause
      rw [h3] at hlog
      exact hlog
  · rw [exec_domainStopped, execDomainStopped, if_neg h3]
  · have hbw : (s.bulkCounted volts).power.belowWarning = 1 := by simp [State.bulkCounted, hv, hw]
    have hbr : (s.bulkCounted volts).power.belowReset ≤ 1 := by
      rw [show (s.bulkCounted volts).power.belowReset = if volts < 80 then s.power.belowReset + 1 else 0 from rfl]
      split <;> omega
    refine ⟨s.bulkCounted volts, ?_, h0, hbw, s.n_bulkCounted volts, rfl⟩
    rw [exec_bulkSample, execBulkSample_of_normal h0, if_neg (by omega), if_neg (by omega)]
  · have hbw : (s.bulkCounted volts).power.belowWarning = 0 := if_neg (by omega)
    have hbr : (s.bulkCounted volts).power.belowReset = 0 := if_neg (by omega)
    refine ⟨s.bulkCounted volts, ?_, h0, hbw, s.n_bulkCounted volts, rfl⟩
    rw [exec_bulkSample, execBulkSample_of_normal h0, if_neg (by omega), if_neg (by omega)]
  · have hbw : (s.bulkCounted volts).power.belowWarning = s.power.belowWarning + 1 := if_pos hv
    have hbr : (s.bulkCounted volts).power.belowReset = 0 := if_neg (by omega)
    obtain ⟨hshown, hn⟩ := (s.bulkCounted volts).setSupply_shows 1
    refine ⟨(s.bulkCounted volts).setSupply 1, ?_, rfl, (hn (by decide)).trans (s.n_bulkCounted volts), hshown⟩
    rw [exec_bulkSample, execBulkSample_of_normal h0, if_neg (by omega), if_pos (by omega)]
  · rw [exec_bulkSample]
    exact execBulkSample_of_warning h1 hv hr
  · rw [exec_supplyRecoveryElapsed, execSupplyRecoveryElapsed, if_pos hdue, if_pos h1]
  · rw [exec_supplyRecoveryElapsed, execSupplyRecoveryElapsed, if_pos hdue, if_neg (by rw [h2]; decide), if_pos h2]
  · rw [exec_supplyRecoveryElapsed, execSupplyRecoveryElapsed, if_neg (by simp [hdue])]
  · rw [exec_logicRailFault, execLogicRailFault]
    cases persists
    · exact ⟨_, rfl, (State.logged_event ..).detect _, State.detect_words ..⟩
    · exact ⟨_, rfl, (State.logged_event ..).detect _, State.detect_words ..⟩
  · rw [exec_motorBusSample, execMotorBusSample_of_normal hj hc hb, if_neg (by omega), if_neg (by omega)]
  · obtain ⟨hB, hC, hsent, hlog⟩ := State.setBus_over (s := s.setn (K 0x2100 0xC) (j2 % 65536))
      ((State.n_put_ne s _ (by decide)).trans hb) bus
    refine ⟨_, ?_, hB, hC.trans ?_, hsent, hlog⟩
    · rw [exec_motorBusSample, execMotorBusSample_of_normal hj hc hb, if_neg (by omega), if_pos hhi]
    · exact (State.n_put_same s ..).trans (Int.toNat_natCast _)
  · rw [exec_motorBusSample, execMotorBusSample_of_normal hj hc hb, if_pos hlo]
  · exact State.channelSample_of_good hf hlo hhi
  · obtain ⟨hbroken, hsent, hlog, hn⟩ := State.markChannel_of_bad (s := s.seti (tk c 2) (clampInt (-32768) 32767 reading))
      (State.channel_le hon) ((State.flag_put_ne s _ (tk_ne_tk (by decide) (by decide) (by decide))).trans hf) hx
    refine ⟨_, State.channelSample_of_broken hbroken ?_, hbroken, hsent, hlog⟩
    exact hn.trans ((State.n_put_ne s _ (tk_ne_tk (by decide) (by decide) (by decide))).trans hp)
  · rw [exec_temperatureSample, execTemperatureSample]
    rcases hoff with h | h <;> simp [h]
  · rw [exec_temperatureSample, execTemperatureSample, if_pos (by rw [hon, hpw]; rfl)]
  · exact State.evaluateChannel_shutdown (State.channel_le hon) hf ho hs
end

section
/-! PROOFS. What the Safety Supervisor, the Lid and the interlock do (R399, R401, R402, R405, R407, R409, R410, R413, R414; log entries
102 and 103). -/

open Sys2Proof Sys2Proof.Machine

namespace Sys2Proof.Machine

/-! ## The fault state -/

/-- A change of the fault state is recorded in EV013, and changes no register of the Lid (R409). -/
theorem State.setFaultState_shows {s : State} {new : Nat} (h : s.n (K 0x2200 1) ≠ new) (cause : Nat) :
    (s.setFaultState new cause).n (K 0x2200 1) = new ∧
      (s.setFaultState new cause).Logged 13 (new + s.n (K 0x2200 1) * 256 + cause * 2 ^ 24) ∧ (s.setFaultState new cause).lid = s.lid ∧
      (s.setFaultState new cause).timers = s.timers := by
  unfold State.setFaultState
  extract_lets old
  rw [if_neg h]
  refine ⟨?_, State.logged_eventHw .., rfl, rfl⟩
  rw [State.n_eventHw, State.setn_eq, State.n_put_same, Int.toNat_natCast]

/-- No reaction acts where none of the messages has one (R404). -/
theorem State.force_of_none {s : State} {ws : List Nat} (h : ∀ w ∈ ws, s.classOf w = 0) : s.force ws = s := by
  have hf : ws.filter (fun w => s.classOf w != 0) = [] := List.filter_eq_nil_iff.mpr fun w hw => by simp [h w hw]
  unfold State.force
  extract_lets acting cls first setA s0 old oldA thermal s1 s2 low s3
  rw [if_pos (by simp [acting, hf])]

/-! ## One message -/

/-- Messages of one detection step are one delivery (R399). -/
theorem State.deliverAll_one (s : State) (d : Detected) : State.deliverAll 1 s [d] = s.deliverStep [d] := by
  simp [State.deliverAll]

/-- A message with a CRC error alone is discarded, with a fault for its lane (R399). -/
theorem State.deliverStep_of_bad {s : State} {d : Detected} (h : d.crcBad = true) : s.deliverStep [d] = s.fault 0x02 0x5 d.lane := by
  unfold State.deliverStep
  extract_lets lost good cleared rest primary fresh step joins s1 s2 s3 s4 s5 reacting latch s6
  have hlost : lost = [d] := by simp [lost, h]
  have hgood : good = [] := by simp [good, h]
  have hrest : rest = [] := by simp [rest, hgood]
  have hprimary : primary = [] := by simp [primary, hrest]
  have h1 : s1 = s.fault 0x02 0x5 d.lane := by simp only [s1, hlost, List.foldl_cons, List.foldl_nil]
  have h3 : s3 = s1 := by simp [s3, s2, hprimary, hrest]
  have h4 : s4 = s1 := by simp [s4, cleared, hgood, h3]
  have h5 : s5 = s1 := by
    simp only [s5, hprimary, h4, List.filter_nil, List.map_nil]
    exact State.force_of_none (by simp)
  rw [if_neg (by simp [reacting, hprimary]), h5, h1]

/-- What a message without CLEARED and PERSISTENT leaves in the records: its own record, and its sticky bit (R402). -/
theorem State.takeMessage_of_plain {s : State} {d : Detected} (h : msgPersistent d.word = false) :
    s.takeMessage d false = (s.deliver d.record).stick 1 (msgSource d.word) := by
  unfold State.takeMessage
  extract_lets w r s1
  exact if_neg (by simp [w, h])

/-- The first faults and the sticky bits are objects of 0x2201: a capture changes no other, and no other part (R403). -/
theorem State.capture_rest (s : State) (stamp : Nat) (primary : List Detected) (joins : Bool) :
    (s.capture stamp primary joins).lid = s.lid ∧ (s.capture stamp primary joins).ev = s.ev ∧
      (s.capture stamp primary joins).stations = s.stations ∧
      ∀ index sub, index ≠ 0x2201 → sub < 256 → (s.capture stamp primary joins).val (K index sub) = s.val (K index sub) := by
  unfold State.capture
  extract_lets kept count words
  refine ⟨rfl, rfl, rfl, fun index sub hi hs => ?_⟩
  have hne : ∀ b < 256, K index sub ≠ K 0x2201 b := fun b hb e => hi ((K_inj hs hb).mp e).1
  simp [State.val_put_ne, hne]

/-- A message whose byte of the reaction map is 0 has no reaction (R406). -/
theorem State.classOf_of_mapByte {s : State} {w : Nat} (h : s.mapByte w % 8 = 0) : s.classOf w = 0 := by
  unfold State.classOf
  rw [h]
  exact ite_self 0

/-- A message alone, with a good CRC, no window open and no reaction, is recorded as its source recorded it (R402, R406). -/
theorem State.deliverStep_of_good {s : State} {d : Detected} (hcrc : d.crcBad = false) (hacted : d.acted = false)
    (hcleared : msgCleared d.word = false) (hpersistent : msgPersistent d.word = false)
    (hwindow : s.windowOpen (msgSource d.word) = false) (hclass : s.mapByte d.word % 8 = 0) :
    (s.deliverStep [d]).lid = s.lid ∧ (s.deliverStep [d]).ev.held = s.ev.held ++ [d.record] ∧
      (s.deliverStep [d]).stations = s.stations ∧
      ∀ sub < 256, (s.deliverStep [d]).val (K 0x2200 sub) = s.val (K 0x2200 sub) := by
  unfold State.deliverStep
  extract_lets lost good cleared rest primary fresh step joins s1 s2 s3 s4 s5 reacting latch s6
  have hlost : lost = [] := by simp [lost, hcrc]
  have hgood : good = [d] := by simp [good, hcrc, insertDetected]
  have hc : cleared = [] := by simp [cleared, hgood, hcleared]
  have hrest : rest = [d] := by simp [rest, hgood, hcleared]
  have hprimary : primary = [d] := by simp [primary, hrest, hwindow]
  have h1 : s1 = s := by simp [s1, hlost]
  have h2 : s2 = (s.deliver d.record).stick 1 (msgSource d.word) := by
    simp only [s2, hrest, h1, List.foldl_cons, List.foldl_nil, hacted, hwindow]
    exact State.takeMessage_of_plain hpersistent
  have hs2 : s2.lid = s.lid ∧ s2.ev.held = s.ev.held ++ [d.record] ∧ s2.stations = s.stations ∧
      ∀ index sub, index ≠ 0x2201 → sub < 256 → s2.val (K index sub) = s.val (K index sub) := by
    rw [h2]
    refine ⟨rfl, rfl, rfl, fun index sub hi hs => ?_⟩
    exact State.val_put_ne (s.deliver d.record) _ fun e => hi ((K_inj hs (by decide)).mp e).1
  have hs3 : s3.lid = s.lid ∧ s3.ev.held = s.ev.held ++ [d.record] ∧ s3.stations = s.stations ∧
      ∀ index sub, index ≠ 0x2201 → sub < 256 → s3.val (K index sub) = s.val (K index sub) := by
    unfold s3
    split
    · obtain ⟨hlid, hev, hst, hval⟩ := s2.capture_rest step primary joins
      exact ⟨hlid.trans hs2.1, (congrArg Recorder.held hev).trans hs2.2.1, hst.trans hs2.2.2.1,
        fun index sub hi hs => (hval index sub hi hs).trans (hs2.2.2.2 index sub hi hs)⟩
    · exact hs2
  have h4 : s4 = s3 := by simp [s4, hc]
  have h5 : s5 = s3 := by
    simp only [s5, hprimary, h4]
    refine State.force_of_none fun w hw => ?_
    have hw : w = d.word := by simpa [hacted] using hw
    rw [hw]
    refine State.classOf_of_mapByte ?_
    rw [State.mapByte, (State.reads_eq (hs3.2.2.2 0x2210 1 (by decide) (by decide))).2.2.2]
    exact hclass
  have hreact : reacting = false := by simp [reacting, hprimary, State.classOf_of_mapByte hclass]
  rw [if_neg (by simp [hreact]), h5]
  exact ⟨hs3.1, hs3.2.1, hs3.2.2.1, fun sub hs => hs3.2.2.2 _ _ (by decide) hs⟩

/-! ## Messages of checkers outside the model -/

/-- The message as it would be on its lane has the Stamp time of its detection, and its own source (R399; log entry 103). -/
theorem State.outside_record (s : State) (m : Message) : (s.outside m).record.stamp = s.stamp - 24 ∧
    (s.outside m).record.source = msgSource m.word ∧ (s.outside m).record.type = 2 := by
  refine ⟨rfl, ?_, rfl⟩
  show msgSource (m.word % 2 ^ 64 - (if bitOf m.word 48 then 2 ^ 48 else 0)) = msgSource m.word
  simp only [msgSource, field, bitOf, Nat.testBit_eq_decide_div_mod_eq, decide_eq_true_eq]
  split <;> omega

/-- Nothing on the lanes of the module, and nothing that a checker outside can send: nothing happens (R399). -/
theorem execFaultMessage_of_quiet {s : State} {ms : List Message}
    (hnet : s.lid.net.takeWhile (fun d => decide (d.record.stamp + 24 ≤ s.stamp)) = [])
    (hms : ∀ m ∈ ms, s.laneCarries m = false) : execFaultMessage ms s = .next s := by
  unfold execFaultMessage
  extract_lets due checked new x r l
  have hdue : due = [] := hnet
  have hnew : new = [] := List.filter_eq_nil_iff.mpr fun m hm => by simp [hms m hm]
  have hr : r = (s, []) := by
    simp only [r, hnew, hdue, x]
    rfl
  have hl : l = [] := by simp [l, checked, hdue, hr]
  rw [hl, hr]
  rfl

/-- A message of the module's own that arrives alone is delivered (R399). -/
theorem execFaultMessage_of_due {s : State} {d : Detected} (hnet : s.lid.net = [d]) (hold : d.record.stamp + 24 ≤ s.stamp) :
    execFaultMessage [] s = .next ({ s with lid := { s.lid with net := [] } }.deliverStep [d]) := by
  unfold execFaultMessage
  extract_lets due checked new x r l
  have hdue : due = [d] := by simp [due, hnet, hold]
  have hr : r = ({ s with lid := { s.lid with net := [] } }, []) := by
    simp only [r, x, new, hdue, hnet]
    rfl
  have hl : l = [d] := by simp [l, checked, hdue, hr]
  rw [hl, hr]
  exact congrArg _ (State.deliverAll_one ..)

/-- A message that arrives with a CRC error on a lane that is there is delivered as such (R399; log entry 103). -/
theorem execFaultMessage_of_crc {s : State} {m : Message} (hnet : s.lid.net = []) (ht : s.lid.target = 0)
    (hthere : s.sourceAbsent m.lane = false) (hlane : m.lane < 160) (hcrc : crcGood m = false) (hcleared : msgCleared m.word = true) :
    execFaultMessage [m] s = .next (s.deliverStep [{ s.outside m with crcBad := true }]) := by
  have hcarry : s.laneCarries m = true := by simp [State.laneCarries, hthere, hlane, hcrc]
  unfold execFaultMessage
  extract_lets due checked new x r l
  have hdue : due = [] := by simp [due, hnet]
  have hnew : new = [m] := by simp [new, hcarry, hdue]
  have hr : r = (s, [{ s.outside m with crcBad := true }]) := by
    simp only [r, hnew, hdue, x]
    show State.outsideAll s [m] = _
    simp [State.outsideAll, State.injects_of_idle ht, hcleared, State.outside, hcrc]
  have hl : l = [{ s.outside m with crcBad := true }] := by simp [l, checked, hdue, hr]
  rw [hl, hr]
  exact congrArg _ (State.deliverAll_one ..)

/-! ## Wired causes -/

theorem faultWord_fields {source kind : Nat} (hs : source < 256) (hk : kind < 16) (address : Nat) :
    msgSource (faultWord source kind address false false false) = source ∧
      msgKind (faultWord source kind address false false false) = kind ∧
      msgCleared (faultWord source kind address false false false) = false := by
  simp only [msgSource, msgKind, msgCleared, field, bitOf, faultWord, b2n, Nat.testBit_eq_decide_div_mod_eq, decide_eq_false_iff_not]
  refine ⟨?_, ?_, ?_⟩ <;> simp only [Bool.false_eq_true, if_false] <;> omega

theorem wiredCause_lt {source kind : Nat} (h : wiredCause source kind = true) : source < 256 ∧ kind < 16 := by
  simp only [wiredCause, Bool.or_eq_true, Bool.and_eq_true, beq_iff_eq] at h
  omega

/-- The message of a wired cause on its lane, acted on already (R405; log entry 102). -/
def State.wiredSent (s : State) (w : Nat) : State :=
  { s with lid := { s.lid with net := [{ word := w, record := s.record 2 (w / 2 ^ 56) w false, lane := w / 2 ^ 56, acted := true }] } }

section
variable {source kind address : Nat} {s : State} (hw : wiredCause source kind = true) (hthere : s.sourceAbsent source = false)
  (h0 : source ≠ 0) (hnet : s.lid.net = [])
include hw hthere h0 hnet

/-- A wired cause without a consequence window is acted on at once (R405). -/
theorem execWiredFaultCause_of_closed (ht : s.lid.target = 0) (hwin : s.windowOpen source = false) :
    execWiredFaultCause source kind address s = .next
      ((s.wiredSent (faultWord source kind address false false false)).force [faultWord source kind address false false false]) := by
  obtain ⟨hs, hk, hc⟩ := faultWord_fields (wiredCause_lt hw).1 (wiredCause_lt hw).2 address
  unfold execWiredFaultCause
  rw [if_pos (by rw [hw, hthere]; rfl)]
  extract_lets same s1 x s2
  have h1 : s1 = s.fault source kind address := by simp [s1, hnet, h0]
  rw [State.fault_eq, State.detect_idle _ _ ht, hnet, List.nil_append] at h1
  rw [if_neg (ne_true_of_eq_false hwin)]
  have hsame : ∀ r b, same { word := faultWord source kind address false false false, record := r, lane := b, crcBad := false } = true :=
    fun r b => by simp [same, hs, hk, hc]
  have h2 : s2 = s.wiredSent (faultWord source kind address false false false) := by
    simp only [s2, x, h1, List.map_cons, List.map_nil, hsame, if_true]
    rfl
  rw [h2, h1]
  simp [hsame]

/-- A wired cause whose consequence window is open takes no reaction (R405, R407). -/
theorem execWiredFaultCause_of_open (hwin : s.windowOpen source = true) :
    execWiredFaultCause source kind address s = .next (s.fault source kind address) := by
  unfold execWiredFaultCause
  rw [if_pos (by rw [hw, hthere]; rfl)]
  extract_lets same s1 x s2
  have h1 : s1 = s.fault source kind address := by simp [s1, hnet, h0]
  rw [if_pos hwin, h1]

end

/-! ## The interlock -/

/-- The interlock as the Lid holds it: the senses, the open and the shorted channels, and the discrepancy (R413). -/
def Supervisor.lines (x : Supervisor) : Nat × Nat × Nat × Bool := (x.sense, x.ilkOpen, x.ilkShort, x.discrepant)

theorem State.lines_detect (s : State) (w : Nat) : (s.detect w).lid.lines = s.lid.lines := by
  unfold State.detect State.spendInjection
  extract_lets source bad d s1 left
  split
  · split <;> rfl
  · rfl

theorem State.lid_refreshLasers (s : State) (l : List Nat) : (s.each l (fun t n => t.refreshLaser n)).lid = s.lid :=
  (Keeps.each (m := Area.lid.allBut) (fun t _ ht => State.refreshLaser_keeps (a2 := _) (by decide) ht) (Keeps.refl _ s)).same_of_allBut

theorem State.lines_senseChannels (s : State) (new short : Nat) : (s.senseChannels new short).lid.lines =
    (s.lid.sense, new, short, if (new = 0 ∨ new = 3) ∧ short = 0 then false else s.lid.discrepant) := by
  unfold State.senseChannels
  rw [State.lid_refreshLasers]
  rfl

theorem State.lines_interlockOpens (s : State) (opened : Nat) : (s.interlockOpens opened).lid.lines = s.lid.lines := by
  unfold State.interlockOpens
  split
  · rfl
  · exact (State.lines_detect _ _).trans rfl

theorem State.lines_interlockCloses (s : State) (new : Nat) : (s.interlockCloses new).lid.lines = s.lid.lines := by
  unfold State.interlockCloses
  split
  · exact (State.lines_detect _ _).trans rfl
  · rfl

/-- The channels are open and shorted as given (R413). -/
theorem State.lines_setInterlock (s : State) (new short : Nat) : (s.setInterlock new short).lid.lines =
    (s.lid.sense, new, short, if (new = 0 ∨ new = 3) ∧ short = 0 then false else s.lid.discrepant) := by
  unfold State.setInterlock
  extract_lets s4
  have h4 : s4.lid.lines = _ :=
    (State.lines_interlockCloses _ _).trans ((State.lines_interlockOpens _ _).trans (s.lines_senseChannels new short))
  split
  · rwa [State.disarm_lid]
  · split
    · exact h4
    · rwa [State.after_eq, State.arm_lid]

/-- `Interlock state` shows the interlock as it is once it is noted (R416, R417). -/
theorem State.noteInterlock_shows (s : State) : s.noteInterlock.lid = s.lid ∧ s.noteInterlock.timers = s.timers ∧
    s.noteInterlock.n (K 0x2200 0xB) = s.noteInterlock.interlockWord := by
  unfold State.noteInterlock
  extract_lets old new
  split
  · next h => exact ⟨rfl, rfl, h.symm⟩
  · refine ⟨rfl, rfl, ?_⟩
    rw [State.n_eventHw, State.setn_eq, State.n_put_same, Int.toNat_natCast]
    rfl

/-- What the four readings of the interlock are, from the lines that hold them. -/
theorem Supervisor.of_lines {x : Supervisor} {a b c : Nat} {d : Bool} (h : x.lines = (a, b, c, d)) :
    x.sense = a ∧ x.ilkOpen = b ∧ x.ilkShort = c ∧ x.discrepant = d := by
  simpa [Supervisor.lines] using h

theorem interlockChannel_of {ch : Nat} (h : ch = 0 ∨ ch = 1) : interlockChannel ch = true := by
  rcases h with rfl | rfl <;> rfl

theorem interlockChannel_of_ge {ch : Nat} (h : 2 ≤ ch) : interlockChannel ch = false := by
  simp only [interlockChannel, Bool.or_eq_false_iff, beq_eq_false_iff_ne]
  omega

/-- A channel that does not follow its test pulse: open and shorted, discrepant, and the fault sent (R414). -/
def State.pulseMissed (s : State) (ch : Nat) : State :=
  let s1 := s.setInterlock (withBit s.lid.ilkOpen ch) (withBit s.lid.ilkShort ch)
  { s1 with lid := { s1.lid with discrepant := true } }.fault 0x01 0xE 2

theorem State.lines_pulseMissed (s : State) (ch : Nat) :
    (s.pulseMissed ch).lid.lines = (s.lid.sense, withBit s.lid.ilkOpen ch, withBit s.lid.ilkShort ch, true) := by
  obtain ⟨hs, ho, hh, -⟩ := Supervisor.of_lines (s.lines_setInterlock (withBit s.lid.ilkOpen ch) (withBit s.lid.ilkShort ch))
  unfold State.pulseMissed
  extract_lets s1 x
  refine (State.lines_detect _ _).trans ?_
  simp only [Supervisor.lines, x, s1, hs, ho, hh]

/-- A sense changes outside its test window (R413). -/
def State.senseSet (s : State) (ch : Nat) (level : Bool) (o : Nat) : State :=
  { s with lid := { s.lid with sense := putBit s.lid.sense ch level } }.setInterlock o s.lid.ilkShort

theorem State.senseSet_shows (s : State) (ch : Nat) (level : Bool) (o : Nat) :
    (s.senseSet ch level o).noteInterlock.lid.sense = putBit s.lid.sense ch level ∧
      (s.senseSet ch level o).noteInterlock.lid.ilkOpen = o ∧
      (s.senseSet ch level o).noteInterlock.n (K 0x2200 0xB) = (s.senseSet ch level o).noteInterlock.interlockWord := by
  obtain ⟨hlid, -, hn⟩ := (s.senseSet ch level o).noteInterlock_shows
  obtain ⟨hs, ho, -, -⟩ := Supervisor.of_lines
    (State.lines_setInterlock { s with lid := { s.lid with sense := putBit s.lid.sense ch level } } o s.lid.ilkShort)
  exact ⟨(congrArg Supervisor.sense hlid).trans hs, (congrArg Supervisor.ilkOpen hlid).trans ho, hn⟩

/-- The discrepancy time ends: the fault is sent (R414). -/
def State.discrepancyFound (s : State) : State :=
  ({ s with lid := { s.lid with discrepant := true } }.disarm tmDiscrepancy).fault 0x01 0xE 1

theorem State.discrepancyFound_shows (s : State) : s.discrepancyFound.lid.discrepant = true ∧
    s.discrepancyFound.armed tmDiscrepancy = false ∧ s.discrepancyFound.Sent 0x01 0xE 1 := by
  have h := State.lines_detect ({ s with lid := { s.lid with discrepant := true } }.disarm tmDiscrepancy)
    (faultWord 0x01 0xE 1 false false false)
  exact ⟨(Supervisor.of_lines (h.trans rfl)).2.2.2, (State.armed_detect ..).trans (State.armed_disarm_same ..), State.sent_fault ..⟩

end Sys2Proof.Machine

/-- Settles O59: each event is its definition under the conditions given, and the lemmas above say what it leaves. That the arrival is 24
ns after the detection is log entry 103, and that the message of a wired cause follows as acted is log entry 102. -/
theorem lidEvents : Obligations.LidEvents := by
  unfold Obligations.LidEvents
  intro source kind address ch level low d m s
  refine ⟨fun h1 hdue hleft => ?_, fun h1 hdue hused => ?_, fun h => ?_, fun hdue => ?_, fun hdue => ?_, fun hnet => ?_,
    fun hnet hyoung => ?_, fun hnet hold hcrc hacted hcl hper hwin hmap => ?_, fun h => ?_,
    fun hw hthere h0 hnet ht hwin => ?_, fun hw hthere h0 hnet hwin => ?_, fun hch hsense hshort => ?_, fun hch hsense => ?_,
    fun h => ?_, fun hch hsense => ?_, fun hch hsense hshort => ?_, fun h => ?_, fun hdue => ?_, fun hdue => ?_,
    fun hnet h => ?_, fun hnet ht hthere hlane hcrc hcl => ?_, fun hnet ht hthere hlane hcrc hsrc => ?_⟩
  · rw [exec_quietPeriodExpired, execQuietPeriodExpired, if_pos ⟨h1, hdue⟩, if_pos hleft]
  · obtain ⟨hst, hlog, hlid, htimers⟩ := State.setFaultState_shows (s := s.disarm tmQuiet) (new := 2) (by
      rw [State.n_disarm, h1]; decide) 3
    rw [State.n_disarm, h1] at hlog
    refine ⟨(s.disarm tmQuiet).setFaultState 2 3, ?_, hst, ?_, hlog, hlid⟩
    · rw [exec_quietPeriodExpired, execQuietPeriodExpired, if_pos ⟨h1, hdue⟩, if_neg (by omega)]
    · unfold State.armed
      rw [htimers]
      exact s.armed_disarm_same tmQuiet
  · rw [exec_quietPeriodExpired, execQuietPeriodExpired, if_neg]
    rintro ⟨h1, hdue⟩
    rcases h with h | h
    · exact h h1
    · simp [h] at hdue
  · refine ⟨{ s with lid := { s.lid with closing := [] } }.disarm tmWindows, ?_, rfl, State.armed_disarm_same .., rfl⟩
    rw [exec_consequenceLimitExpired, execConsequenceLimitExpired, if_pos hdue]
  · rw [exec_consequenceLimitExpired, execConsequenceLimitExpired, if_neg (by simp [hdue])]
  · rw [exec_faultMessage, execFaultMessage_of_quiet (by simp [hnet]) (by simp)]
  · rw [exec_faultMessage, execFaultMessage_of_quiet (by simp [hnet]; omega) (by simp)]
  · obtain ⟨hlid, hheld, hst, hval⟩ :=
      State.deliverStep_of_good (s := { s with lid := { s.lid with net := [] } }) hcrc hacted hcl hper hwin hmap
    refine ⟨_, by rw [exec_faultMessage, execFaultMessage_of_due hnet hold], ?_, hheld, ?_, ?_, hst⟩
    · rw [hlid]
    · exact (State.reads_eq (hval 1 (by decide))).2.1
    · exact (State.reads_eq (hval 2 (by decide))).2.1
  · rw [exec_wiredFaultCause, execWiredFaultCause, if_neg]
    rcases h with h | h <;> simp [h]
  · exact ⟨s.wiredSent (faultWord source kind address false false false),
      by rw [exec_wiredFaultCause, execWiredFaultCause_of_closed hw hthere h0 hnet ht hwin], rfl, rfl⟩
  · rw [exec_wiredFaultCause, execWiredFaultCause_of_open hw hthere h0 hnet hwin]
  · obtain ⟨hlid, -, hn⟩ := (s.pulseMissed ch).noteInterlock_shows
    obtain ⟨-, ho, hs, hd⟩ := Supervisor.of_lines (s.lines_pulseMissed ch)
    refine ⟨(s.pulseMissed ch).noteInterlock, ?_, ?_, ?_, ?_, ?_, hn⟩
    · rw [exec_interlockTestPulse, execInterlockTestPulse, if_pos (by rw [interlockChannel_of hch, hsense]; rfl), if_neg (by decide),
        if_neg (ne_true_of_eq_false hshort)]
      rfl
    · rw [hlid, ho, bitOf_withBit]
    · rw [hlid, hs, bitOf_withBit]
    · rw [hlid, hd]
    · unfold State.Sent
      rw [hlid]
      exact State.sent_fault ..
  · obtain ⟨hlid, -, hn⟩ := (s.setInterlock (withoutBit s.lid.ilkOpen ch) (withoutBit s.lid.ilkShort ch)).noteInterlock_shows
    obtain ⟨-, ho, hs, -⟩ := Supervisor.of_lines (s.lines_setInterlock (withoutBit s.lid.ilkOpen ch) (withoutBit s.lid.ilkShort ch))
    refine ⟨_, ?_, ?_, ?_, hn⟩
    · rw [exec_interlockTestPulse, execInterlockTestPulse, if_pos (by rw [interlockChannel_of hch, hsense]; rfl), if_pos rfl]
    · rw [hlid, ho, bitOf_withoutBit]
    · rw [hlid, hs, bitOf_withoutBit]
  · rw [exec_interlockTestPulse, execInterlockTestPulse, if_neg]
    rcases h with h | h
    · simp [h]
    · simp [interlockChannel_of_ge h]
  · obtain ⟨hs, ho, hn⟩ := s.senseSet_shows ch false (withBit s.lid.ilkOpen ch)
    refine ⟨_, ?_, by rw [ho, bitOf_withBit], by rw [hs]; exact bitOf_withoutBit .., hn⟩
    rw [exec_interlockSenseChange, execInterlockSenseChange, if_pos (by rw [interlockChannel_of hch, hsense]; rfl)]
    rfl
  · obtain ⟨hs, ho, -⟩ := s.senseSet_shows ch true (withoutBit s.lid.ilkOpen ch)
    refine ⟨_, ?_, by rw [ho, bitOf_withoutBit], by rw [hs]; exact bitOf_withBit ..⟩
    rw [exec_interlockSenseChange, execInterlockSenseChange, if_pos (by rw [interlockChannel_of hch, hsense]; rfl), hshort]
    rfl
  · rw [exec_interlockSenseChange, execInterlockSenseChange, if_neg]
    rcases h with h | h
    · simp [h]
    · simp [interlockChannel_of_ge h]
  · obtain ⟨hd, harm, hsent⟩ := s.discrepancyFound_shows
    obtain ⟨hlid, htimers, hn⟩ := s.discrepancyFound.noteInterlock_shows
    refine ⟨s.discrepancyFound.noteInterlock, ?_, by rw [hlid, hd], ?_, ?_, hn⟩
    · rw [exec_discrepancyTimeout, execDiscrepancyTimeout, if_pos hdue]
      rfl
    · unfold State.armed at harm ⊢
      rw [htimers, harm]
    · unfold State.Sent
      rw [hlid]
      exact hsent
  · rw [exec_discrepancyTimeout, execDiscrepancyTimeout, if_neg (by simp [hdue])]
  · rw [exec_faultMessage, execFaultMessage_of_quiet (by simp [hnet])]
    intro x hx
    rw [List.mem_singleton.mp hx, State.laneCarries]
    rcases h with h | h <;> simp [h]
  · refine ⟨s.fault 0x02 5 m.lane, ?_, State.sent_fault .., State.n_detect _ _ (by decide), State.detect_stations ..⟩
    rw [exec_faultMessage, execFaultMessage_of_crc hnet ht hthere hlane hcrc hcl, State.deliverStep_of_bad rfl]
    rfl
  · obtain ⟨hstamp, hsource, htype⟩ := s.outside_record m
    exact ⟨hstamp, hsource.trans hsrc, htype⟩
end

section
/-! PROOFS. Attestation, resets, the power cycle request and power (R376, R467, R477 to R480, R482, R485, R487 to R490; log entries 145,
148 and 195). -/

open Sys2Proof Sys2Proof.Machine

namespace Sys2Proof.Machine

/-! ## Ring 62 -/

section
variable {s : State} (he : s.hasEntry 62 = true) (hl : s.linkUp = true) (hw : (s.ring 63).waiting = [])
include he hl hw

/-- A row of ring 62 takes the entry of its own opcode (R479). -/
theorem State.takeTrust_of_own {op : Nat} {ws : List Nat} (hop : field (wordAt ws 0) 63 56 = op) (ok : Bool) :
    s.takeTrust op (some ws) ok = (s.consumed 62).serveTrust ok ws := by
  unfold State.takeTrust State.takeEntry
  extract_lets found
  have hfound : found = some op := by simp [found, hop]
  rw [if_pos ⟨by rw [hw]; rfl, .inr (.inl hfound)⟩, if_pos (by rw [he, hl]; rfl)]

/-- An entry of ring 62 that cannot be read takes the ring to ERROR (R251, R266). -/
theorem State.takeTrust_of_none (op : Nat) (ok : Bool) : s.takeTrust op none ok = s.entryFails 62 (s.ring 62).head := by
  unfold State.takeTrust State.takeEntry
  rw [if_pos ⟨by rw [hw]; rfl, .inl rfl⟩, if_pos (by rw [he, hl]; rfl)]

end

theorem State.trust_entryFails (s : State) (r slot : Nat) : (s.entryFails r slot).trust = s.trust :=
  (State.entryFails_keeps (m := Area.trust.allBut) (by decide) (Keeps.refl _ s)).same_of_allBut

/-! ## Reports -/

theorem State.beginSigning_queue (s : State) : s.beginSigning.trust.queue = s.trust.queue := by
  unfold State.beginSigning
  split <;> rfl

theorem State.beginSigning_rest (s : State) : s.beginSigning.od = s.od ∧ s.beginSigning.s6 = s.s6 ∧ s.beginSigning.ev = s.ev ∧
    s.beginSigning.stamp = s.stamp := by
  unfold State.beginSigning
  split <;> exact ⟨rfl, rfl, rfl, rfl⟩

/-- With no report asked for, none is signed next (R478). -/
theorem State.beginSigning_of_empty {s : State} (h : s.trust.queue = []) : s.beginSigning = s := by
  unfold State.beginSigning
  rw [h]
  split <;> simp_all

/-- A report asked for through the dictionary, signed (R477, R478). -/
def State.reportShown (s : State) (body : Bytes) (l : List Attestation) : State :=
  { s with trust := { s.trust with signing := none, queue := l } }.deliverReport false body

theorem State.reportShown_shows (s : State) (body : Bytes) (l : List Attestation) :
    (s.reportShown body l).trust = { s.trust with signing := none, queue := l } ∧
      (s.reportShown body l).n (K 0x2440 1) = (s.n (K 0x2440 1) + 1) % 2 ^ 32 ∧
      (s.reportShown body l).bytes (K 0x2440 3) = body ++ (upFrom 0 96).map (Config.signatureByte (sha384 body) s.drawn) ∧
      (s.reportShown body l).Logged 35 (1 + s.n (K 0x2420 3) * 256) := by
  unfold State.reportShown State.deliverReport
  extract_lets t report s1 mismatch
  rw [if_neg Bool.false_ne_true]
  refine ⟨rfl, ?_, ?_, State.logged_event ..⟩
  · rw [State.n_event, State.setBytes_eq, State.n_put_ne _ _ (by decide), State.bump_eq, State.n_put_same, Int.toNat_natCast]
    rfl
  · rw [State.bytes_event, State.setBytes_eq, State.bytes_put_same]
    rfl

/-! ## A module that goes down -/

theorem Keeps.domains_eq {s t : State} (h : Keeps Area.power.allBut s t) : t.power.domains = s.power.domains :=
  congrArg Power.domains h.same_of_allBut

/-- Quiesce is one bit of the power state (R392). -/
theorem State.domains_setQuiesce (s : State) (bit : Nat) (on : Bool) : (s.setQuiesce bit on).power.domains = s.power.domains := by
  unfold State.setQuiesce
  extract_lets old x new s1 erase
  split
  · exact (State.crockQuiesce_keeps (by decide) (Keeps.refl _ (s1.draw.event 8 _))).domains_eq
  · split
    · exact (State.crockResume_keeps (by decide) (Keeps.refl _ (s1.draw.event 8 _))).domains_eq
    · rfl

theorem State.domains_refreshThrottle (s : State) (t : Nat) : (s.refreshThrottle t).power.domains = s.power.domains := by
  unfold State.refreshThrottle
  extract_lets hot shut s1
  refine (s1.domains_setQuiesce 1 shut).trans ?_
  unfold s1
  split <;> rfl

/-- The parts of the machine that the throttle leaves (R389, R392). -/
theorem State.refreshThrottle_part (s : State) (t : Nat) (p : Area)
    (hp : p ∉ [Area.objects, .recorder, .crock, .power, .lid, .drawn]) : State.same p s (s.refreshThrottle t) :=
  (State.refreshThrottle_keeps (m := Area.mask [.objects, .recorder, .crock, .power, .lid, .drawn]) (by decide)
    (Keeps.refl _ s)).same_of_notMem hp

/-- A module that is down has no ring, page, station, axis, loop or domain left (R482, R485). -/
theorem State.goDown_clears (s : State) : s.goDown.rings = [] ∧ s.goDown.pages = { lost := true } ∧ s.goDown.stations = [] ∧
    s.goDown.polygons = [] ∧ s.goDown.steppers = [] ∧ s.goDown.loops = {} ∧ s.goDown.power.domains = [] ∧
    s.goDown.n (K 0x2040 1) = 0 ∧ s.goDown.twin.dictionaryUp = false ∧ s.goDown.fabric.window = [] := by
  unfold State.goDown
  extract_lets x s0 s1
  have hpart := ((s1.alignmentSource 1 0).cleared.setn (K 0x2040 1) 0).refreshThrottle_part 0
  refine ⟨hpart .rings (by decide), hpart .pages (by decide), hpart .stations (by decide), hpart .polygons (by decide),
    hpart .steppers (by decide), hpart .loops (by decide), State.domains_refreshThrottle _ 0, ?_,
    congrArg Twin.dictionaryUp (hpart .twin (by decide)), hpart .window (by decide)⟩
  rw [(State.reads_eq (State.val_refreshThrottle _ 0 (by decide) (by decide) (by decide))).2.1, State.setn_eq, State.n_put_same]
  rfl

/-! ## A cold power-up -/

theorem Tab.get_filter_of_mem {α : Type} (d : Nat → α) (p : Nat → Bool) (t : Tab α) {k : Nat} (h : p k = true) :
    Tab.get d (t.filter fun x => p x.1) k = Tab.get d t k := by
  induction t with
  | nil => rfl
  | cons x t ih =>
    obtain ⟨a, v⟩ := x
    by_cases ha : a = k
    · simp [Tab.get, ha, h]
    · by_cases hp : p a = true <;> simp [Tab.get, ha, hp, ih]

/-- The epoch is kept in MRAM (R54, R482). -/
theorem State.epoch_unpowered (s : State) : s.unpowered.n (K 0x2401 6) = s.n (K 0x2401 6) := by
  refine (State.reads_eq ?_).2.1
  exact Tab.get_filter_of_mem _ keepsPower s.od (by decide)

/-- A timer that starts leaves everything but the timers. -/
theorem State.after_rest (s : State) (u d : Nat) : (s.after u d).stamp = s.stamp ∧ (s.after u d).power = s.power ∧
    (s.after u d).ev = s.ev ∧ (s.after u d).crock = s.crock ∧ ∀ k, (s.after u d).n k = s.n k :=
  ⟨rfl, rfl, rfl, rfl, fun _ => rfl⟩

/-- A cold power-up starts from what the loss of power has left, with the Stamp Clock at 0 and the epoch marker as the first record
(R54, R467, R482). -/
theorem execColdPowerUp_starts (boot : Boot) (s : State) : ∃ (u : State) (p : Placed), execColdPowerUp boot s = .next (u.startup boot) ∧
    u.stamp = 0 ∧ u.power.trivet = true ∧ u.ev.trace = [p] ∧ p.record.type = 5 ∧ p.record.payload = u.n (K 0x2401 6) % 2 ^ 64 ∧
    u.n (K 0x2401 6) = (s.n (K 0x2401 6) + 1) % 2 ^ 32 ∧ u.n (K 0x2011 6) = 1 ∧ u.crock.units = s.crock.units := by
  unfold execColdPowerUp
  extract_lets x y s1 marker s0 z s2 s3
  have h1 : s1.n (K 0x2401 6) = (s.n (K 0x2401 6) + 1) % 2 ^ 32 := by
    refine (State.n_put_same _ _ _).trans ((Int.toNat_natCast _).trans ?_)
    rw [← s.epoch_unpowered]
    rfl
  have h2 : s2.n (K 0x2401 6) = s1.n (K 0x2401 6) :=
    State.n_put_ne { s0 with ev := { s0.ev with newest := some 0 } } _ (show K 0x2401 6 ≠ K 0x2011 6 by decide)
  have h3 : s3.stamp = s2.stamp ∧ s3.power = s2.power ∧ s3.ev.trace = s2.ev.trace ∧ s3.crock = s2.crock ∧
      ∀ k, s3.n k = s2.n k := by
    unfold s3
    split <;> exact ⟨rfl, rfl, rfl, rfl, fun _ => rfl⟩
  obtain ⟨hstamp, hpower, htrace, hcrock, hn⟩ := h3
  obtain ⟨astamp, apower, aev, acrock, an⟩ := (s3.event 34 (s3.resetPayload 1)).after_rest tmHealth 86400000000000
  have he : ((s3.event 34 (s3.resetPayload 1)).after tmHealth 86400000000000).n (K 0x2401 6) = s1.n (K 0x2401 6) :=
    (an _).trans ((State.n_event ..).trans ((hn _).trans h2))
  refine ⟨_, { record := marker, sequence := 0, ring := marker.ring, since := s1.stamp }, rfl, astamp.trans hstamp,
    (congrArg Power.trivet (apower.trans hpower)).trans rfl, (congrArg Recorder.trace aev).trans htrace, rfl, ?_, he.trans h1, ?_,
    (congrArg Crock.units (acrock.trans hcrock) :).trans rfl⟩
  · rw [he]
    rfl
  · exact (an _).trans ((State.n_event ..).trans ((hn _).trans (State.n_put_same ..)))

end Sys2Proof.Machine

/-- Settles O60: each event is its definition under the conditions given, and what a reset and a power-up leave is in the lemmas above.
That a low `RESET_N` of 1 us and more is EV034 subcode 8 with cause bit 1 is log entry 148, the level between 9.96 us and 10 us log entry
195, and the state of a cold power-up log entry 145: the model's choices where the manual leaves them open. -/
theorem trustAndRestarts : Obligations.TrustAndRestarts := by
  unfold Obligations.TrustAndRestarts
  intro ws ok boot ns body a l s
  refine ⟨fun he hl hw => ⟨fun h => ?_, fun h => ?_, fun h => ?_, fun h => ?_, ?_⟩, fun h => if_pos h, fun hsign hq hring => ?_,
    fun hsign => ?_, fun h => ?_, fun h0 h1 hc => ?_, fun h0 h1 hc1 hc0 => ?_, fun h => ?_, fun hlo hhi => ?_, fun hlo hhi => ?_,
    fun h => ?_, fun h => ?_, fun h hheld => ?_, fun h => ?_, fun hdue hup h => ?_, fun hdue hup hr hauto hle => ?_,
    fun hdue hup hauto hlt => ?_, fun h => ?_, fun hpin hdue => ?_, fun hpin => ?_, s.goDown_clears, ?_, ?_⟩
  · rw [exec_attest, execAttest, State.takeTrust_of_own he hl hw h]
  · rw [exec_certificates, execCertificates, State.takeTrust_of_own he hl hw h]
  · rw [exec_moduleReset, execModuleReset, State.takeTrust_of_own he hl hw h]
  · rw [exec_powerCycle, execPowerCycle, State.takeTrust_of_own he hl hw h]
  · refine ⟨_, by rw [exec_attest, execAttest, State.takeTrust_of_none he hl hw], State.state_entryFails .., State.sent_entryFails ..,
      State.trust_entryFails ..⟩
  · obtain ⟨htrust, hn, hbytes, hlog⟩ := s.reportShown_shows body l
    obtain ⟨hod, h6, hev, hstamp⟩ := (s.reportShown body l).beginSigning_rest
    have hval : ∀ k, (s.reportShown body l).beginSigning.val k = (s.reportShown body l).val k := fun k => by
      unfold State.val
      rw [hod, h6]
    refine ⟨(s.reportShown body l).beginSigning, ?_, ?_, ?_, ?_, ?_, ?_⟩
    · rw [exec_attestationSigned, execAttestationSigned]
      simp only [hsign, hq, hring]
      rfl
    · rw [State.beginSigning_queue, htrust]
    · rw [(State.reads_eq (hval _)).2.1, hn]
    · rw [(State.reads_eq (hval _)).2.2.2, hbytes]
    · exact State.logged_of_held hlog hstamp fun r hr => by rwa [hev]
    · intro hnil
      rw [State.beginSigning_of_empty (by rw [htrust]; exact hnil), htrust]
  · rw [exec_attestationSigned, execAttestationSigned]
    simp only [hsign]
  · rw [exec_moduleResetAct, execModuleResetAct]
    exact if_pos (by rcases h with h | h <;> simp [h, b2n])
  · rw [exec_moduleResetAct, execModuleResetAct]
    simp [h0, h1, hc, b2n]
  · rw [exec_moduleResetAct, execModuleResetAct]
    simp [h0, h1, hc1, hc0, b2n]
  · rw [exec_resetNLow, execResetNLow, if_pos (.inl h)]
  · rw [exec_resetNLow, execResetNLow, if_neg (by omega), if_pos hlo]
  · rw [exec_resetNLow, execResetNLow]
    by_cases hf : Config.resetFilter ns s.stamp = true
    · exact .inr (if_pos (.inr ⟨hlo, hf⟩))
    · left
      rw [if_neg (by rintro (h | ⟨-, h⟩); omega; exact hf h), if_pos (by omega)]
  · rw [exec_resetNLow, execResetNLow, if_neg (by omega), if_neg (by omega)]
  · unfold State.startup
    rw [if_pos (by rw [h]; rfl)]
  · rw [exec_resetNRelease, execResetNRelease, if_pos h]
    exact congrArg _ (if_pos hheld)
  · rw [exec_resetNRelease, execResetNRelease, if_neg (by simp [h])]
  · rw [exec_bootWatchdogExpired, execBootWatchdogExpired, if_pos (by rw [hdue, hup]; rfl)]
    exact if_pos h
  · rw [exec_bootWatchdogExpired, execBootWatchdogExpired, if_pos (by rw [hdue, hup]; rfl)]
    exact (if_neg (by simp [hr, hauto])).trans (if_pos hle)
  · rw [exec_bootWatchdogExpired, execBootWatchdogExpired, if_pos (by rw [hdue, hup]; rfl)]
    exact (if_neg (by simp [hauto]; omega)).trans (if_neg (by omega))
  · rw [exec_bootWatchdogExpired, execBootWatchdogExpired, if_neg]
    rcases h with h | h <;> simp [h]
  · refine ⟨({ s with trust := { s.trust with cyclePin := false } }.disarm tmPowerPulse).event 35
      (5 + s.n (K 0x2420 3) * 256 + s.trust.cycleId * 65536), ?_, rfl, State.logged_event ..⟩
    rw [exec_powerCyclePulseExpired, execPowerCyclePulseExpired, if_pos (by rw [hpin, hdue]; rfl)]
  · rw [exec_powerCyclePulseExpired, execPowerCyclePulseExpired, if_neg (by simp [hpin])]
  · exact ⟨s.unpowered, rfl, rfl, rfl, rfl, rfl, rfl, rfl, rfl, rfl, rfl⟩
  · exact execColdPowerUp_starts boot s
end

section
/-! PROOFS. A further condition in the grid step of a grant, under an injection (R399, R415, R428, R443). -/

open Sys2Proof Sys2Proof.Machine

namespace Sys2Proof.Machine

/-- In the grid step of a grant for a Class D, an injection of two operations is armed on the lane of source 0x22 (R415). -/
def grantUnderInjection : State :=
  { od := [(K 0x2220 5, .num 2)], twin := { switching := true, causes := 4, leaving := 1 }, lid := { target := 0x422, injected := 2 } }

theorem justGranted_grantUnderInjection : grantUnderInjection.justGranted = true := by decide

/-- A cause that joins a grant without a declared failure sends the fault of source 0x22, on whose lane the injection spends one
operation: `Injection count` left is an object, and is one less (R399, R415, R428). -/
theorem od_addCause_grantUnderInjection : (grantUnderInjection.addCause 1).od ≠ grantUnderInjection.od := by decide

end Sys2Proof.Machine

/-- Refutes O56: the clause for a further condition in the grid step of the grant has every object as it was, but the cause that joins
sends a fault of source 0x22, and an injection armed on that lane counts down in 0x2220. -/
theorem not_twinHeartbeats : ¬ Obligations.TwinHeartbeats := by
  unfold Obligations.TwinHeartbeats
  intro h
  obtain ⟨-, -, -, -, -, -, -, -, -, -, -, -, hcause, -, -⟩ := h 0 0 0 0 1 grantUnderInjection
  obtain ⟨-, -, -, hod⟩ := hcause justGranted_grantUnderInjection
  exact od_addCause_grantUnderInjection hod
end

section
/-! PROOFS. How the Crock takes its commands and answers them (R455 to R459, R462; log entries 58 and 84). -/

open Sys2Proof Sys2Proof.Machine

namespace Sys2Proof.Machine

/-! ## Entries taken and answered -/

/-- A message leaves HEAD and the open entries of its ring (R256). -/
theorem Ring.messaged_shows (g : Ring) (now : Nat) : (g.messaged now).head = g.head ∧ (g.messaged now).open_ = g.open_ := by
  unfold Ring.messaged
  extract_lets told
  split <;> exact ⟨rfl, rfl⟩

/-- So does all that the announcement of an advance does (R256). -/
theorem State.announce_shows (s : State) (r : Nat) : ((s.announce r).ring r).head = (s.ring r).head ∧
    ((s.announce r).ring r).open_ = (s.ring r).open_ := by
  unfold State.announce
  extract_lets g ptr told s1
  have h1 : (s1.ring r).head = g.head ∧ (s1.ring r).open_ = g.open_ := by
    unfold s1
    rw [State.ring_setRing_same]
    exact ⟨rfl, rfl⟩
  split
  · split
    · rw [State.ring_sendMessage_same]
      obtain ⟨hh, ho⟩ := (s1.ring r).messaged_shows s1.stamp
      exact ⟨hh.trans h1.1, ho.trans h1.2⟩
    · split <;> exact h1
  · rw [State.ring_setRing_same]
    exact ⟨rfl, rfl⟩

/-- HEAD of a ring whose entry has been copied is one further, and one more entry is open (R255). -/
theorem State.consumed_shows (s : State) (r : Nat) : ((s.consumed r).ring r).head = ((s.ring r).head + 1) % 2 ^ 32 ∧
    ((s.consumed r).ring r).open_ = (s.ring r).open_ + 1 := by
  unfold State.consumed
  obtain ⟨hh, ho⟩ := State.announce_shows
    (s.setRing r { s.ring r with head := ((s.ring r).head + 1) % 2 ^ 32, open_ := (s.ring r).open_ + 1 }) r
  rw [hh, ho, State.ring_setRing_same]
  exact ⟨rfl, rfl⟩

/-- Of the objects an answer changes none but the count of discarded entries (R263). -/
theorem State.n_produce (s : State) (r : Nat) (e : List Nat) {k : Nat} (h : k ≠ K 0x3830 8) : (s.produce r e).n k = s.n k := by
  unfold State.produce
  split
  · exact (State.writeEntry_keeps (m := Area.objects.allBut) (by decide) (Keeps.refl _ s)).n_eq k
  · unfold State.hold
    extract_lets g s1
    split
    · rfl
    · exact (State.n_event ..).trans (State.n_put_ne _ _ h)

/-- The answer of a ring, and what it leaves (R263). -/
def State.crockAnswered (s : State) (r : Nat) (e : List Nat) : State := (s.produce (r + 4) e).finishEntry r

theorem State.crockAnswered_crock (s : State) (r : Nat) (e : List Nat) : (s.crockAnswered r e).crock = s.crock :=
  (State.finishEntry_keeps (m := Area.crock.allBut) (by decide)
    (State.produce_keeps (by decide) (Keeps.refl _ s))).same_of_allBut

theorem State.crock_entryFails (s : State) (r slot : Nat) : (s.entryFails r slot).crock = s.crock :=
  (State.entryFails_keeps (m := Area.crock.allBut) (by decide) (Keeps.refl _ s)).same_of_allBut

/-! ## Taking a command -/

section
variable {s : State} {r : Nat}

theorem State.takeCrock_of_full (h : 8 ≤ (s.crockCommands r).length) (op : Nat) (e : Entry) (m : HostMem) :
    s.takeCrock r op e m = s := by
  unfold State.takeCrock
  extract_lets other
  rw [if_neg (by simp [Nat.not_lt.mpr h])]

/-- An entry of another command's opcode is left to that command (log entry 58). -/
theorem State.takeCrock_of_other {ws : List Nat} {op : Nat} (hdef : crockOpcodes.contains (field (wordAt ws 0) 63 56) = true)
    (hop : field (wordAt ws 0) 63 56 ≠ op) (m : HostMem) : s.takeCrock r op (some ws) m = s := by
  unfold State.takeCrock
  extract_lets other
  have hother : other = true := by
    simp only [other, hdef, Bool.true_and, bne_iff_ne]
    exact hop
  rw [if_neg (by simp [hother])]

variable (hlo : 44 ≤ r) (hhi : r ≤ 47) (hroom : (s.crockCommands r).length < 8) (hw : (s.ring (r + 4)).waiting = [])
  (he : s.hasEntry r = true) (hl : s.linkUp = true)
include hlo hhi hroom hw he hl

/-- A ring of the Crock with room takes the entry of the command's own opcode (R455). -/
theorem State.takeCrock_of_own {op : Nat} {ws : List Nat} (hop : field (wordAt ws 0) 63 56 = op) (m : HostMem) :
    s.takeCrock r op (some ws) m = (s.consumed r).beginCrock r ws m := by
  unfold State.takeCrock State.takeEntry
  extract_lets other
  have hother : other = false := by simp [other, hop]
  rw [if_pos (by simp [hlo, hhi, hother, hroom, hw]), if_pos (by rw [he, hl]; rfl)]

/-- An entry that cannot be read takes the ring to ERROR (R251, R266). -/
theorem State.takeCrock_of_none (op : Nat) (m : HostMem) : s.takeCrock r op none m = s.entryFails r (s.ring r).head := by
  unfold State.takeCrock State.takeEntry
  extract_lets other
  rw [if_pos (by simp [hlo, hhi, other, hroom, hw]), if_pos (by rw [he, hl]; rfl)]

end

/-- A command but SPOOL_PAGE joins the others with the status its fields and the Crock's state give it (R455, R456). -/
theorem State.commands_beginCrock {s : State} {r : Nat} {ws : List Nat} {m : HostMem} (h : field (wordAt ws 0) 63 56 ≠ 0x10) :
    (s.beginCrock r ws m).crock.commands =
      s.crock.commands ++ [{ ring := r, words := ws, host := m, status := s.crockStatus ws }] := by
  unfold State.beginCrock
  extract_lets st c c1
  have hc1 : c1 = c := if_neg fun hc => h hc.2
  rw [hc1]

/-! ## Units written and read -/

/-- What the link returns for a read is as long as what was asked for (R266). -/
theorem length_of_partRead {a n : Nat} {b : Bytes} : ∀ {l : List (Nat × Bytes)}, partRead l a n = some b → b.length = n
  | [], h => by simp [partRead] at h
  | (base, d) :: l, h => by
    rw [partRead] at h
    split at h
    next hin =>
      obtain rfl := Option.some.inj h
      rw [slice, List.length_take, List.length_drop]
      omega
    next => exact length_of_partRead h

/-- A job's read of n bytes returns n bytes (R214). -/
theorem State.length_of_fetch {s : State} {m : HostMem} {host : Bool} {a n : Nat} {b : Bytes} (h : s.fetch m host a n = some b) :
    b.length = n := by
  unfold State.fetch at h
  split at h
  · exact length_of_partRead h
  · split at h
    · obtain rfl := Option.some.inj h
      exact Tab.length_read ..
    · cases h

/-- A unit reads back as the data it took (R455). -/
theorem State.flashUnit_setFlashUnit (s : State) (p u : Nat) {b : Bytes} (h : b ≠ []) : (s.setFlashUnit p u b).flashUnit p u = b := by
  unfold State.flashUnit
  rw [show Tab.get (fun _ => []) (s.setFlashUnit p u b).crock.units (p * 2 ^ 28 + u) = b from Tab.get_put_same ..]
  cases b with
  | nil => exact absurd rfl h
  | cons x b => rfl

/-- A unit whose source reads is written, and nothing else of the memories changes (R455). -/
theorem State.writeUnits_one {s : State} {m : HostMem} {ws : List Nat} {b : Bytes}
    (h : s.fetch m (crockHost ws) (wordAt ws 1) 4096 = some b) :
    ∃ t : State, s.writeUnits m ws 1 0 = (t.setFlashUnit (crockPartition ws) (crockUnit ws) b, 1) ∧ t.fabric.window = s.fabric.window ∧
      t.fabric.host = s.fabric.host := by
  have hsame : (s.readRange 6 (wordAt ws 1) 4096).SameBytes s :=
    State.each_sameBytes _ (fun u g => u.readGranule_sameBytes 6 g) _ s
  refine ⟨if crockHost ws then s else s.readRange 6 (wordAt ws 1) 4096, ?_, ?_⟩
  · simp only [State.writeUnits, Nat.mul_zero, Nat.add_zero, h]
  · split
    · exact ⟨rfl, rfl⟩
    · exact hsame

/-! ## The spool directory -/

/-- A deleted object is in the directory no more, and neither the commands nor the units change (R455). -/
theorem State.crockDelete_of_some {s : State} {c : CrockCommand} (h : (s.spoolObject (crockSpoolId c.words)).isSome = true) :
    (s.crockDelete c).2.status = 0 ∧ (s.crockDelete c).1.spoolObject (crockSpoolId c.words) = none ∧
      (s.crockDelete c).1.crock.commands = s.crock.commands ∧ (s.crockDelete c).1.crock.units = s.crock.units := by
  obtain ⟨o, ho⟩ := Option.isSome_iff_exists.mp h
  have hid : o.id = crockSpoolId c.words := by simpa using List.find?_some ho
  unfold State.crockDelete
  rw [ho]
  refine ⟨rfl, ?_, rfl, rfl⟩
  refine List.find?_eq_none.mpr fun x hx => ?_
  have hne : x ∈ s.crock.objects.filter (fun x => x.id != o.id) := hx
  simpa [hid] using (List.mem_filter.mp hne).2

/-- An id the directory does not hold is answered with the status for it (R456). -/
theorem State.crockDelete_of_none {s : State} {c : CrockCommand} (h : s.spoolObject (crockSpoolId c.words) = none) :
    s.crockDelete c = (s, { status := 0xA }) := by
  unfold State.crockDelete
  rw [h]

/-! ## The oldest command of a ring -/

/-- The state in which a command's work begins: it is no longer among the commands, and the soft-decision retries of its reads are
counted (R447, R456). -/
def State.crockTurn (s : State) (c : CrockCommand) (soft : Nat) : State :=
  { s with crock := { s.crock with commands := s.crock.commands.erase c } }.bumpBy (ck 0xB) soft

/-- Its retries change nothing that decides a command's status (R456). -/
theorem State.crockStatus_crockTurn (s : State) (c : CrockCommand) (soft : Nat) (ws : List Nat) :
    (s.crockTurn c soft).crockStatus ws = s.crockStatus ws := by
  have hstate : (s.crockTurn c soft).crockState = s.crockState := State.n_put_ne _ _ (by decide)
  have hactive : (s.crockTurn c soft).activeUnit = s.activeUnit := State.n_put_ne _ _ (by decide)
  unfold State.crockStatus State.crockRefuses State.slotProtected
  rw [hstate, hactive]
  rfl

section
variable {s : State} {r : Nat} {c : CrockCommand}

/-- Without a command of its ring nothing completes. -/
theorem execCrockCommandComplete_of_none (h : s.crock.commands.find? (fun x => x.ring == r) = none) (units retried : Nat)
    (bad : Option (Nat × Nat)) : execCrockCommandComplete r units retried bad s = .next s := by
  unfold execCrockCommandComplete
  rw [h]

/-- The oldest command of a ring does its work and is answered on the ring 4 above (R455, R456). -/
theorem execCrockCommandComplete_of_some (h : s.crock.commands.find? (fun x => x.ring == r) = some c) (units retried : Nat)
    (bad : Option (Nat × Nat)) : ∃ soft, ∀ x, (s.crockTurn c soft).crockWork c units bad = x →
      execCrockCommandComplete r units retried bad s = .next (x.1.crockAnswered r (s.crockEntry c x.2 soft)) := by
  refine ⟨if c.opcode = 1 ∨ c.opcode = 0x11 then retried else 0, ?_⟩
  rintro _ rfl
  unfold execCrockCommandComplete
  rw [h]
  rfl

/-- A command with a status does no work, but for a WRITE that is cut and a SPOOL_PAGE, whose failure is recorded (R456). -/
theorem State.crockWork_of_status (hst : c.status ≠ 0) (h2 : c.opcode ≠ 2) (h10 : c.opcode ≠ 0x10) (units : Nat)
    (bad : Option (Nat × Nat)) : s.crockWork c units bad = (s, { status := c.status }) := by
  unfold State.crockWork
  extract_lets ws p now
  have hnow : now = c.status := if_neg hst
  rw [if_neg (fun h => h2 h.1), if_neg h10, if_pos (by rw [hnow]; exact hst), hnow]

/-- A SPOOL_DELETE that nothing refuses deletes (R455). -/
theorem State.crockWork_of_delete (hst : c.status = 0) (hs : s.crockStatus c.words = 0) (hop : c.opcode = 0x12) (units : Nat)
    (bad : Option (Nat × Nat)) : s.crockWork c units bad = s.crockDelete c := by
  unfold State.crockWork
  simp [hst, hs, hop]

/-- A SLOT_COMMIT that nothing refuses, of a container that fails its test, makes the slot INVALID (R459). -/
theorem State.crockWork_of_invalid (hst : c.status = 0) (hs : s.crockStatus c.words = 0) (hop : c.opcode = 0x20)
    (hv : s.containerValid (crockPartition c.words) = false) (units : Nat) (bad : Option (Nat × Nat)) :
    s.crockWork c units bad = (s.setn (slotObject (crockPartition c.words)) 3, { status := 0xC }) := by
  unfold State.crockWork
  simp [hst, hs, hop, hv]

end

/-- A slot's state is no count of discarded entries (R263, R462). -/
theorem slotObject_ne (p : Nat) : slotObject p ≠ K 0x3830 8 := by
  unfold slotObject
  split <;> decide

end Sys2Proof.Machine

/-- Settles O54: each command takes its own entry and does its work by its definition, and an answer changes neither the Crock nor an
object but the count of discarded entries. That an opcode which is not defined is any command's to refuse is log entry 58 (deduced), and
that a command takes its whole effect when it completes log entry 84 (the model's choice): the manual leaves both open. -/
theorem crockCommands : Obligations.CrockCommands := by
  unfold Obligations.CrockCommands
  intro r units retried ws m bad c b s
  refine ⟨fun hlo hhi hroom hw he hl => ?_, State.commands_beginCrock, fun hdef hop => ?_, fun h => ?_, fun h => ?_,
    fun h hst h2 h10 => ?_, fun h => ?_, fun h => ?_, State.crockDelete_of_none, fun h hst hs hop hsome => ?_,
    fun h hst hs hop hv _ => ?_⟩
  · have hown : ∀ op, field (wordAt ws 0) 63 56 = op → s.takeCrock r op (some ws) m = (s.consumed r).beginCrock r ws m :=
      fun op hop => State.takeCrock_of_own hlo hhi hroom hw he hl hop m
    refine ⟨fun h => congrArg _ (hown _ h), fun h => congrArg _ (hown _ h), fun h => congrArg _ (hown _ h),
      fun h => congrArg _ (hown _ h), fun h => congrArg _ (hown _ h), fun h => congrArg _ (hown _ h), fun h => congrArg _ (hown _ h),
      fun h => congrArg _ (hown _ h), fun h => congrArg _ (hown _ h), ?_, s.consumed_shows r⟩
    exact ⟨_, congrArg Host.Outcome.next (State.takeCrock_of_none hlo hhi hroom hw he hl 1 m), State.state_entryFails ..,
      State.sent_entryFails .., State.crock_entryFails ..⟩
  · exact congrArg _ (State.takeCrock_of_other hdef hop m)
  · exact congrArg _ (State.takeCrock_of_full h 2 (some ws) m)
  · exact execCrockCommandComplete_of_none h units retried bad
  · obtain ⟨soft, hexec⟩ := execCrockCommandComplete_of_some h units retried bad
    exact ⟨s.crockTurn c soft, soft, hexec _ (State.crockWork_of_status hst h2 h10 units bad), rfl, rfl, rfl, rfl⟩
  · obtain ⟨t, ht, hwindow, hhost⟩ := State.writeUnits_one h
    have hb : b ≠ [] := List.ne_nil_of_length_pos (by rw [State.length_of_fetch h]; decide)
    rw [ht]
    exact ⟨t.flashUnit_setFlashUnit _ _ hb, rfl, hwindow, hhost⟩
  · obtain ⟨hstatus, hgone, -, -⟩ := State.crockDelete_of_some h
    exact ⟨hstatus, hgone⟩
  · obtain ⟨soft, hexec⟩ := execCrockCommandComplete_of_some h units retried bad
    obtain ⟨-, hgone, hcommands, hunits⟩ := State.crockDelete_of_some (s := s.crockTurn c soft) (c := c) hsome
    refine ⟨_, hexec _ (State.crockWork_of_delete hst ((s.crockStatus_crockTurn c soft c.words).trans hs) hop units bad), ?_, ?_, ?_⟩
    · rw [State.crockAnswered_crock, hcommands]
      rfl
    · unfold State.spoolObject at hgone ⊢
      rw [State.crockAnswered_crock, hgone]
    · rw [State.crockAnswered_crock, hunits]
      rfl
  · obtain ⟨soft, hexec⟩ := execCrockCommandComplete_of_some h units retried bad
    refine ⟨_, hexec _ (State.crockWork_of_invalid hst ((s.crockStatus_crockTurn c soft c.words).trans hs) hop hv units bad), ?_, ?_, ?_⟩
    · rw [State.crockAnswered_crock]
      rfl
    · exact (State.n_produce _ _ _ (slotObject_ne _)).trans (State.n_put_same ..)
    · rw [State.crockAnswered_crock]
      rfl
end

section
/-! PROOFS. Mounting, media failures, scrubbing, copies and health reports of the Crock (R447 to R450, R457, R461, R464; log entries 28
and 110). -/

open Sys2Proof Sys2Proof.Machine

namespace Sys2Proof.Machine

/-! ## States -/

/-- The Crock goes to another state, which EV104 records (R450). -/
theorem State.crockTo_shows {s : State} {new : Nat} (h : s.crockState ≠ new) : (s.crockTo new).crockState = new ∧
    (s.crockTo new).Logged 104 (new + s.crockState * 256) ∧ (s.crockTo new).crock = s.crock := by
  unfold State.crockTo
  extract_lets old
  rw [if_neg h]
  exact ⟨(State.n_event ..).trans (State.n_put_same ..), State.logged_event .., rfl⟩

theorem execCrockMount_of_valid {s : State} (h : s.crockState = 1) (hpool : 128 ≤ s.n (ck 7)) (hq : s.power.quiesce = 0) :
    execCrockMount true s = .next (s.crockTo 2) := by
  unfold execCrockMount
  rw [if_pos h, if_pos rfl]
  extract_lets s1
  have h1 : s1 = s.crockTo 2 := if_neg (Nat.not_lt.mpr hpool)
  rw [if_pos hq, h1]

/-! ## Bytes programmed -/

/-- Below the warning of the wear budget, bytes that are not the host's count only in `Program volume` (R461; log entry 28). -/
theorem State.program_of_low {s : State} {bytes : Nat} (h : s.n (ck 8) + bytes < 9000000000000000) :
    s.program bytes false = s.setn (ck 8) (s.n (ck 8) + bytes) := by
  unfold State.program
  extract_lets old new s1 s2 s3
  have hnew : new = s.n (ck 8) + bytes := Nat.mod_eq_of_lt (by omega)
  have h3 : s3 = s1 := if_neg (by omega)
  rw [if_neg (by omega), h3]
  exact congrArg (s.setn (ck 8)) hnew

/-- Of the objects programming writes the two volumes, and what an injection has left (R399, R461). -/
theorem State.n_program (s : State) (bytes : Nat) (hosts : Bool) {k : Nat} (h8 : k ≠ ck 8) (h9 : k ≠ ck 9) (h5 : k ≠ K 0x2220 5) :
    (s.program bytes hosts).n k = s.n k := by
  unfold State.program
  extract_lets old new s1 s2 s3
  have e2 : s2.n k = s.n k := by
    unfold s2
    split
    · exact (State.n_put_ne s1 _ h9).trans (State.n_put_ne s _ h8)
    · exact State.n_put_ne s _ h8
  have e3 : s3.n k = s.n k := by
    unfold s3
    split <;> exact e2
  split
  · exact (State.n_detect _ _ h5).trans e3
  · exact e3

/-- Programming takes no message off the lanes. -/
theorem State.Sent.program {s : State} {a b c : Nat} (h : s.Sent a b c) (bytes : Nat) (hosts : Bool) :
    (s.program bytes hosts).Sent a b c := by
  unfold State.program
  extract_lets old new s1 s2 s3
  have e2 : s2.Sent a b c := by
    unfold s2
    split <;> exact h
  have e3 : s3.Sent a b c := by
    unfold s3
    split <;> exact e2
  split
  · exact State.Sent.detect (s := s3.event 107 _) e3 _
  · exact e3

theorem State.crock_program (s : State) (bytes : Nat) (hosts : Bool) : (s.program bytes hosts).crock = s.crock :=
  (State.program_keeps (m := Area.crock.allBut) (by decide) (Keeps.refl _ s)).same_of_allBut

/-! ## Blocks that fail -/

/-- A spare pool above its warning calls for nothing (R448). -/
theorem State.crockSpare_of_plenty {s : State} (hlow : 128 ≤ s.n (ck 7)) (hwarn : s.n (ck 6) < s.n (ck 7)) : s.crockSpare = s := by
  unfold State.crockSpare
  extract_lets n x s1 y s2
  have h1 : s1 = s := if_neg fun h => Nat.not_lt.mpr h.1 hwarn
  rw [if_neg (Nat.not_lt.mpr hlow), h1]

/-- A block that fails, sent and recorded (R448). -/
def State.blockFails (s : State) (lun block : Nat) : State :=
  (s.fault 0x81 0x5 (lun * 2 ^ 24 + block)).event 105 (1 + lun * 256 + block % 2 ^ 32 * 2 ^ 32)

/-- A grown-bad block is counted, and the spare pool is one block smaller (R448). -/
def State.spareTaken (s : State) (spares : Nat) : State :=
  { s with crock := { s.crock with bad := s.crock.bad + 1 } }.setn (ck 7) (spares - 1)

section
variable {s : State} {lun : Nat}

theorem execNandProgramFail_of_up (hon : s.on 6 = true) (hup : 1 ≤ s.crockState) (hl : lun < 8) (b : NandBlock) :
    execNandProgramFail lun b s =
      .next (((s.blockFails lun b.block).spareTaken (s.n (ck 7))).program (nandPage * b.pages) false).crockSpare := by
  unfold execNandProgramFail
  rw [if_pos (by simp [hon, hup, hl])]
  rfl

/-- The failure of a block with spares enough, below the wear budget (R448, R461). -/
theorem State.spareTaken_shows (block pages : Nat) (hpool : 129 ≤ s.n (ck 7)) (hwarn : s.n (ck 6) < s.n (ck 7) - 1)
    (hbudget : s.n (ck 8) + nandPage * pages < 9000000000000000) :
    ∃ t, (((s.blockFails lun block).spareTaken (s.n (ck 7))).program (nandPage * pages) false).crockSpare = t ∧
      t.n (ck 7) = s.n (ck 7) - 1 ∧ t.crock.bad = s.crock.bad + 1 ∧ t.Sent 0x81 5 (lun * 2 ^ 24 + block) ∧
      t.Logged 105 (1 + lun * 256 + block % 2 ^ 32 * 2 ^ 32) ∧ t.n (ck 8) = s.n (ck 8) + nandPage * pages ∧
      t.crock.units = s.crock.units ∧ t.crockState = s.crockState := by
  have hf : ∀ {k}, k ≠ K 0x2220 5 → (s.blockFails lun block).n k = s.n k := fun h => State.n_detect s _ h
  have hv : ∀ {k}, k ≠ ck 7 → k ≠ K 0x2220 5 → ((s.blockFails lun block).spareTaken (s.n (ck 7))).n k = s.n k := fun h7 h5 =>
    (State.n_put_ne _ _ h7).trans (hf h5)
  have h8 : ((s.blockFails lun block).spareTaken (s.n (ck 7))).n (ck 8) = s.n (ck 8) := hv (by decide) (by decide)
  have hcrock : (s.blockFails lun block).crock = s.crock :=
    (State.fault_keeps (m := Area.crock.allBut) (by decide) (Keeps.refl _ s)).same_of_allBut
  have hprog := State.program_of_low (s := (s.blockFails lun block).spareTaken (s.n (ck 7))) (by rw [h8]; exact hbudget)
  rw [hprog, h8]
  have h7 : (((s.blockFails lun block).spareTaken (s.n (ck 7))).setn (ck 8) (s.n (ck 8) + nandPage * pages)).n (ck 7) =
      s.n (ck 7) - 1 := (State.n_put_ne _ _ (by decide)).trans (State.n_put_same ..)
  have h6 : (((s.blockFails lun block).spareTaken (s.n (ck 7))).setn (ck 8) (s.n (ck 8) + nandPage * pages)).n (ck 6) =
      s.n (ck 6) := (State.n_put_ne _ _ (by decide)).trans (hv (by decide) (by decide))
  refine ⟨_, State.crockSpare_of_plenty (by rw [h7]; omega) (by rw [h7, h6]; exact hwarn), h7, ?_, ?_, ?_, State.n_put_same .., ?_, ?_⟩
  · exact congrArg (fun c : Crock => c.bad + 1) hcrock
  · exact State.sent_fault s 0x81 5 _
  · exact State.logged_event (s.fault 0x81 0x5 (lun * 2 ^ 24 + block)) 105 _
  · show (s.blockFails lun block).crock.units = s.crock.units
    rw [hcrock]
  · exact (State.n_put_ne _ _ (by decide)).trans (hv (by decide) (by decide))

theorem execNandProgramFail_of_down (h : s.on 6 = false ∨ 8 ≤ lun) (b : NandBlock) : execNandProgramFail lun b s = .next s := by
  unfold execNandProgramFail
  rw [if_neg]
  rcases h with h | h
  · simp [h]
  · simp [Nat.not_lt.mpr h]

end

/-! ## Scrub passes -/

section
variable {s : State} {what lun : Nat}

/-- A refresh and a move record the block and program its valid pages again (R449, R461). -/
theorem execCrockScrubPass_of_block (h : s.crockState = 2) (hw : what = 2 ∨ what = 4) (hl : lun < 8) (b : NandBlock)
    (bad : Option Nat) : execCrockScrubPass what lun b bad s =
      .next (((s.badRead (bad.map fun a => (0, a))).event 105 (what + lun * 256 + b.block % 2 ^ 32 * 2 ^ 32)).program
        (nandPage * min 512 b.pages) false) := by
  unfold execCrockScrubPass
  rcases hw with rfl | rfl <;> simp [h, hl]

/-- The state after the pass over the whole Crock has ended (R449). -/
def State.passEnded (s : State) (payload : Nat) : State :=
  { s.event 105 payload with crock := { s.crock with scrubbed := s.stamp } }

/-- The end of a pass records it, and starts the next interval (R449; log entry 110). -/
theorem execCrockScrubPass_of_end (h : s.crockState = 2) (ho : s.scrubOpen = true) (hl : lun < 8) (b : NandBlock) :
    ∃ t : State, execCrockScrubPass 3 lun b none s = .next t ∧ t.crock.scrubbed = s.stamp ∧ t.od = s.od ∧
      t.Logged 105 (3 + lun * 256 + b.block % 2 ^ 32 * 2 ^ 32) := by
  refine ⟨s.passEnded (3 + lun * 256 + b.block % 2 ^ 32 * 2 ^ 32), ?_, rfl, rfl, State.logged_event s 105 _⟩
  unfold execCrockScrubPass
  rw [if_pos (by simp [h, ho, hl])]
  rfl

theorem execCrockScrubPass_of_early (h : s.scrubOpen = false) (b : NandBlock) (bad : Option Nat) :
    execCrockScrubPass 3 lun b bad s = .next s := by
  unfold execCrockScrubPass
  simp [h]

theorem execCrockScrubPass_of_not_ready (h : s.crockState ≠ 2) (b : NandBlock) (bad : Option Nat) :
    execCrockScrubPass what lun b bad s = .next s := by
  unfold execCrockScrubPass
  simp [h]

end

/-- A unit that cannot be read is sent and counted (R447). -/
theorem State.badRead_shows (s : State) (n a : Nat) : (s.badRead (some (n, a))).Sent 0x80 2 a ∧
    (s.badRead (some (n, a))).n (ck 0xA) = (s.n (ck 0xA) + 1) % 2 ^ 32 := by
  refine ⟨State.sent_fault (s.bump (ck 0xA)) 0x80 2 a, ?_⟩
  exact (State.n_detect (k := ck 0xA) _ _ (by decide)).trans (State.n_put_same ..)

/-! ## Automatic copies -/

theorem State.countSpool_crock (s : State) (l : List Block) : (s.each l State.countSpool).crock = s.crock :=
  (Keeps.each (m := Area.crock.allBut) (fun _ _ ht => State.countSpool_keeps (by decide) ht) (Keeps.refl _ s)).same_of_allBut

/-- A page that is copied enters the directory under the next id (R457). -/
theorem State.addObject_shows (s : State) (p : Page) (link : Nat) :
    (s.addObject p link).crock.copies = s.crock.copies ∧ (s.addObject p link).crock.lastId = (s.crock.lastId + 1) % 2 ^ 32 ∧
      ∃ q, (s.addObject p link).crock.objects =
        s.crock.objects ++ [{ id := (s.crock.lastId + 1) % 2 ^ 32, page := q, link := link }] ∧ q.tag = p.tag ∧ q.recipe = p.recipe := by
  unfold State.addObject
  extract_lets bs q id o s0 x s1 s2
  have h0 : s0.crock = s.crock := s.countSpool_crock bs
  have h2 : s2.crock = s1.crock := State.crock_program _ _ _
  have hcopies : s1.crock.copies = s0.crock.copies := rfl
  have hobjects : s1.crock.objects = s0.crock.objects ++ [o] := rfl
  refine ⟨?_, congrArg Crock.lastId h2, q, ?_, rfl, rfl⟩
  · show s2.crock.copies = s.crock.copies
    rw [h2, hcopies, h0]
  · show s2.crock.objects = s.crock.objects ++ [o]
    rw [h2, hobjects, h0]

/-- A record of the spool that names no object (R464). -/
theorem State.logged_spoolEvent (s : State) (sub status tag : Nat) :
    (s.spoolEvent sub status tag 0).Logged 106 (sub + status * 256 + tag * 65536) := by
  unfold State.spoolEvent
  rw [Nat.zero_mod, Nat.zero_mul, Nat.add_zero]
  exact State.logged_event ..

/-! ## Health reports -/

/-- What a report shows of the wear: erase counts, amplification, the budget used and the days left (R463). -/
def State.wearShown (s : State) (counts : Bytes) (amplification used left : Nat) : State :=
  (((s.setBytes (K 0x3710 5) counts).setn (K 0x3710 6) amplification).setn (K 0x3710 7) used).setn (K 0x3710 8) left

theorem State.n_wearShown (s : State) (counts : Bytes) (amplification used left : Nat) {k : Nat} (h5 : k ≠ K 0x3710 5)
    (h6 : k ≠ K 0x3710 6) (h7 : k ≠ K 0x3710 7) (h8 : k ≠ K 0x3710 8) : (s.wearShown counts amplification used left).n k = s.n k := by
  unfold State.wearShown
  simp only [State.setn_eq, State.setBytes_eq, State.n_put_ne _ _ h5, State.n_put_ne _ _ h6, State.n_put_ne _ _ h7,
    State.n_put_ne _ _ h8]

/-- A report's number, Stamp time, spare pool and grown-bad blocks (R463). -/
def State.reportBegun (s : State) : State :=
  (((s.bump (K 0x3710 1)).setn (K 0x3710 2) s.stamp).setn (K 0x3710 3) (s.n (ck 7))).setn (K 0x3710 4) s.crock.bad

theorem State.reportBegun_shows (s : State) : s.reportBegun.n (K 0x3710 1) = (s.n (K 0x3710 1) + 1) % 2 ^ 32 ∧
    s.reportBegun.n (K 0x3710 2) = s.stamp ∧ s.reportBegun.n (K 0x3710 3) = s.n (ck 7) := by
  refine ⟨?_, ?_, ?_⟩
  · exact (State.n_put_ne _ _ (by decide)).trans
      ((State.n_put_ne _ _ (by decide)).trans ((State.n_put_ne _ _ (by decide)).trans (State.n_put_same ..)))
  · exact (State.n_put_ne _ _ (by decide)).trans ((State.n_put_ne _ _ (by decide)).trans (State.n_put_same ..))
  · exact (State.n_put_ne _ _ (by decide)).trans (State.n_put_same ..)

/-- A report is begun, shows the wear, and is recorded in EV107 (R461, R463). -/
theorem State.healthReport_parts (s : State) : ∃ counts amplification used left,
    s.healthReport = (s.reportBegun.wearShown counts amplification used left).draw.event 107 (4 + s.n (ck 7) * 2 ^ 32) := by
  unfold State.healthReport
  extract_lets hk counts left s1
  split
  next prog host _ =>
    extract_lets s2 s3
    have h3 : s3 = s1.wearShown counts (min 65535 (if host = 0 then Config.idleAmplification else 100 * prog / host))
      (min 65535 s.budgetUsed) (if prog = 0 then 2 ^ 32 - 1 else min (2 ^ 32 - 2) (30 * left / prog)) := rfl
    have h1 : s1 = s.reportBegun := rfl
    exact ⟨counts, _, _, _, by rw [h3, h1]⟩

/-- A report counts itself, and shows the Stamp time and the spare pool (R461, R463). -/
theorem State.healthReport_shows (s : State) : s.healthReport.n (K 0x3710 1) = (s.n (K 0x3710 1) + 1) % 2 ^ 32 ∧
    s.healthReport.n (K 0x3710 2) = s.stamp ∧ s.healthReport.n (K 0x3710 3) = s.n (ck 7) ∧
    s.healthReport.Logged 107 (4 + s.n (ck 7) * 2 ^ 32) := by
  obtain ⟨counts, amplification, used, left, hparts⟩ := s.healthReport_parts
  obtain ⟨hnumber, hstamp, hspares⟩ := s.reportBegun_shows
  rw [hparts]
  refine ⟨?_, ?_, ?_, State.logged_event (State.draw _) 107 _⟩
  · rw [State.n_event, State.n_draw, State.n_wearShown _ _ _ _ _ (by decide) (by decide) (by decide) (by decide), hnumber]
  · rw [State.n_event, State.n_draw, State.n_wearShown _ _ _ _ _ (by decide) (by decide) (by decide) (by decide), hstamp]
  · rw [State.n_event, State.n_draw, State.n_wearShown _ _ _ _ _ (by decide) (by decide) (by decide) (by decide), hspares]

/-- The report of the 24 h rhythm is a report, and starts the next 24 h (R461). -/
theorem State.dailyReport_shows (s : State) : s.dailyReport.n (K 0x3710 1) = (s.n (K 0x3710 1) + 1) % 2 ^ 32 ∧
    s.dailyReport.n (K 0x3710 2) = s.stamp ∧ s.dailyReport.n (K 0x3710 3) = s.n (ck 7) ∧
    s.dailyReport.Logged 107 (4 + s.n (ck 7) * 2 ^ 32) ∧ s.dailyReport.armed tmHealth = true := by
  unfold State.dailyReport
  extract_lets x s1
  obtain ⟨hnumber, hstamped, hspares, hlogged⟩ := s1.healthReport_shows
  obtain ⟨hstamp, -, hev, -, hn⟩ := s1.healthReport.after_rest tmHealth 86400000000000
  exact ⟨(hn _).trans hnumber, (hn _).trans hstamped, (hn _).trans hspares,
    State.logged_of_held hlogged hstamp fun r hr => by rwa [hev], State.armed_arm_same ..⟩

theorem rk_healthRun : rowKind 0x3700 0xC = some (.cmd, Ty.bool) := by decide

end Sys2Proof.Machine

/-- Settles O55: each event of the Crock is its definition under the conditions given. That the pass over the whole Crock ends once in its
interval is log entry 110, and that `Program volume` counts the pages programmed again and nothing for the array's own bookkeeping log
entry 28: the model's choices where the manual leaves them open. -/
theorem crockMedia : Obligations.CrockMedia := by
  unfold Obligations.CrockMedia
  intro lun block what pages path data c rest s
  refine ⟨fun h hpool hq => ?_, fun h => ?_, fun valid h => if_neg h, fun hon hup hl ht hpool hwarn hbudget => ?_,
    fun h => execNandProgramFail_of_down h _, fun h hw hl => execCrockScrubPass_of_block h hw hl _ none,
    fun h hl ho => execCrockScrubPass_of_end h ho hl _, fun h bad => execCrockScrubPass_of_early h _ bad, fun a h hw hl => ?_,
    fun bad h => execCrockScrubPass_of_not_ready h _ bad, fun h => ?_, fun h hst => ?_, fun h hst => ?_, fun ha => ?_,
    fun hdue hon => ?_, fun hdue => ?_⟩
  · obtain ⟨hstate, hlogged, hcrock⟩ := State.crockTo_shows (new := 2) (show s.crockState ≠ 2 by omega)
    rw [h] at hlogged
    exact ⟨_, execCrockMount_of_valid h hpool hq, hstate, hlogged, hcrock⟩
  · have hf : (s.fault 0x87 0xF 0).crockState = 1 := (State.n_detect (k := ck 1) _ _ (by decide)).trans h
    obtain ⟨hstate, -, hcrock⟩ := State.crockTo_shows (new := 5) (show (s.fault 0x87 0xF 0).crockState ≠ 5 by omega)
    refine ⟨_, if_pos h, hstate, ?_, hcrock.trans (State.detect_crock ..)⟩
    exact (s.sent_fault 0x87 0xF 0).of_keeps (State.crockTo_keeps (by decide) (Keeps.refl _ _))
  · obtain ⟨t, ht, h⟩ := State.spareTaken_shows (lun := lun) block pages hpool hwarn hbudget
    refine ⟨t, ?_, h⟩
    rw [exec_nandProgramFail, execNandProgramFail_of_up hon (by omega) hl, ht]
  · obtain ⟨hsent, hn⟩ := s.badRead_shows 0 a
    refine ⟨_, execCrockScrubPass_of_block h hw hl _ (some a), ?_, ?_⟩
    · exact State.Sent.program (s := (s.badRead (some (0, a))).event 105 _) hsent _ _
    · exact (State.n_program (k := ck 0xA) _ _ _ (by decide) (by decide) (by decide)).trans hn
  · rw [exec_automaticSpoolDone, execAutomaticSpoolDone]
    simp only [h]
  · obtain ⟨hcopies, hid, q, hobjects, htag, hrecipe⟩ :=
      State.addObject_shows { s with crock := { s.crock with copies := rest } } c.page c.link
    refine ⟨_, ?_, hcopies, hid, q, hobjects, htag, hrecipe⟩
    rw [exec_automaticSpoolDone, execAutomaticSpoolDone]
    simp only [h, if_pos hst]
  · refine ⟨({ s with crock := { s.crock with copies := rest } } : State).spoolEvent 4 c.status c.page.tag 0, ?_, rfl, rfl,
      State.logged_spoolEvent ..⟩
    rw [exec_automaticSpoolDone, execAutomaticSpoolDone]
    simp only [h, if_neg hst]
  · rw [exec_healthRun, execHealthRun]
    exact congrArg _ (State.writeRow_command ha rk_healthRun (by omega) (by omega))
  · refine ⟨s.dailyReport, ?_, s.dailyReport_shows⟩
    rw [exec_healthRun, execHealthRun]
    simp only [hdue, hon, if_true]
  · rw [exec_healthRun, execHealthRun]
    simp only [hdue, Bool.false_eq_true, if_false]
end

section
/-! PROOFS. What the accepted writes of the position system do (R27, R30, R33, R46, R49, R51; log entry 167). -/

open Sys2Proof Sys2Proof.Machine

namespace Sys2Proof.Machine

/-! ## What the written objects do -/

/-- Of an encoder's objects `Enable` acts as it is written (R27). -/
theorem State.effect_encoderEnable (s : State) {n : Nat} (h8 : n ≤ 8) (old new : Val) :
    s.effect (0x3000 + n) 1 old new = s.encoderEnable n (decide (old.int ≠ 0)) (decide (new.int ≠ 0)) := by
  rw [State.effect, if_neg (by omega), if_pos (by omega), State.effectMid, if_pos (by omega), if_pos rfl,
    Nat.add_sub_cancel_left]

theorem State.effect_axisPreset (s : State) {n : Nat} (h1 : 1 ≤ n) (h8 : n ≤ 8) (old new : Val) :
    s.effect (0x300F + n) 3 old new = s.presetPosition n new.nat := by
  rw [State.effect, if_neg (by omega), if_pos (by omega), State.effectMid, if_neg (by omega), if_pos (by omega), if_pos rfl,
    Nat.add_sub_cancel_left]

/-- The configuration of a capture channel is read as captures come, and does nothing as it is written (R33). -/
theorem State.effect_captureConfig (s : State) (sub : Nat) (old new : Val) : s.effect 0x3030 sub old new = s := by
  rw [State.effect, if_neg (by omega), if_pos (by omega), State.effectMid, if_neg (by omega), if_neg (by omega),
    if_pos (by omega)]

theorem State.effect_alignmentSource (s : State) (old new : Val) :
    s.effect 0x2400 2 old new = s.alignmentSource old.nat new.nat := rfl

theorem State.command_overcurrentClear (s : State) (path : Path) (v : Val) (answers : List Frame) :
    s.command path 0x3050 6 v answers = s.setn (K 0x3050 5) (maskOff (s.n (K 0x3050 5)) v.nat) := rfl

theorem State.command_hostMarker (s : State) (path : Path) (v : Val) (answers : List Frame) :
    s.command path 0x2401 7 v answers = s.eventFw 31 v.nat := rfl

/-! ## Encoders and axes -/

theorem State.n_setVelocity (s : State) (n : Nat) (speed : Int) {k : Nat} (h : ∀ a, k ≠ K (0x300F + a) 4) :
    (s.setVelocity n speed).n k = s.n k := by
  unfold State.setVelocity
  refine State.each_preserves (P := fun t => t.n k = s.n k) (fun t a ht => ?_) _ rfl
  split
  · exact (State.n_put_ne t _ (h a)).trans ht
  · exact ht

theorem State.loopState_setVelocity (s : State) (n : Nat) (speed : Int) (j : Nat) :
    (s.setVelocity n speed).loopState j = s.loopState j :=
  s.n_setVelocity n speed fun a => by simp only [K]; omega

/-- An encoder that is disabled is in DISABLED (R27). -/
theorem State.loopState_disabled (s : State) (n : Nat) : (s.encoderEnable n true false).loopState n = 0 := by
  unfold State.encoderEnable
  rw [if_neg (by decide), if_neg (by decide), State.loopState_setVelocity]
  exact s.loopState_setLoop n 0

/-- A preset axis stands at the value written (R30). -/
theorem State.axisPos_presetPosition (s : State) (a v : Nat) : (s.presetPosition a v).axisPos a = v % 2 ^ 48 := by
  have haxes : Tab.get (fun _ => 0) (s.presetPosition a v).pos.axes a = v % 2 ^ 48 * 65536 := Tab.get_put_same ..
  rw [State.axisPos, haxes, Nat.mul_div_cancel _ (by decide)]

/-! ## The alignment of the Stamp Clock -/

theorem State.n_setAlignment_same (s : State) (new : Nat) : (s.setAlignment new).n (K 0x2400 3) = new := by
  unfold State.setAlignment
  extract_lets old
  split
  · next h => exact h
  · rw [State.n_event, State.setn_eq, State.n_put_same, Int.toNat_natCast]

theorem State.val_setAlignment (s : State) (new : Nat) {k : Nat} (h : k ≠ K 0x2400 3) : (s.setAlignment new).val k = s.val k := by
  unfold State.setAlignment
  extract_lets old
  split
  · rfl
  · exact State.val_put_ne s _ h

/-- A source that is switched on makes the clock ACQUIRING (R49). -/
theorem State.alignmentSource_on (s : State) {new : Nat} (h0 : new ≠ 0) : (s.alignmentSource 0 new).n (K 0x2400 3) = 1 := by
  unfold State.alignmentSource
  extract_lets s1
  rw [if_neg h0, if_neg h0]
  split <;> exact State.n_setAlignment_same ..

/-- A source that is switched off makes the clock not aligned, with no rate correction (R48, R49). -/
theorem State.alignmentSource_off (s : State) {old : Nat} (h0 : old ≠ 0) :
    (s.alignmentSource old 0).n (K 0x2400 3) = 0 ∧ (s.alignmentSource old 0).n (K 0x2400 6) = 0 := by
  unfold State.alignmentSource
  extract_lets s1
  rw [if_neg h0.symm, if_pos rfl]
  refine ⟨State.n_setAlignment_same .., ?_⟩
  rw [(State.reads_eq (State.val_setAlignment _ 0 (by decide))).2.1]
  exact State.n_put_same ..

end Sys2Proof.Machine

/-- Settles O37: an accepted write is its object's row of the table with the effect found there, and the lemmas above say what
encoders, axes and the alignment read as. That a source takes the alignment to ACQUIRING from the other source too is the model's
choice (log entry 167). -/
theorem positionWrites : Obligations.PositionWrites := by
  unfold Obligations.PositionWrites
  intro path data s
  refine ⟨fun n h1 h8 ha => ?_, fun n h1 h8 ha => ?_, fun ch h15 ha => ?_, fun ha => ?_, fun ha => ?_, fun ha => ?_,
    fun u n _ _ => ?_, State.axisPos_presetPosition, fun u => ?_⟩
  · rw [exec_encoderEnableWrite, execEncoderEnableWrite, if_pos ⟨h1, h8⟩,
      State.writeRow_value ha (rk_encoderEnableWrite n (by omega) h1) nofun (by omega) (by omega) (by omega),
      State.effect_encoderEnable _ h8]
    simp [Ty.decode, Val.int]
  · rw [exec_axisPreset, execAxisPreset, if_pos ⟨h1, h8⟩,
      State.writeRow_value ha (rk_axisPreset n (by omega) h1) nofun (by omega) (by omega) (by omega),
      State.effect_axisPreset _ h1 h8]
    simp [Ty.decode, Val.nat, Val.int]
  · rw [exec_captureConfigWrite, execCaptureConfigWrite, if_pos h15,
      State.writeRow_value ha (rk_captureConfigWrite ch (by omega) (by omega)) nofun (by omega) (by omega) (by omega),
      State.effect_captureConfig]
    rfl
  · rw [exec_overcurrentClear, execOvercurrentClear, State.writeRow_command ha rk_overcurrentClear (by omega) (by omega),
      State.command_overcurrentClear]
    simp [Ty.decode, Val.nat, Val.int]
  · rw [exec_alignmentSourceWrite, execAlignmentSourceWrite,
      State.writeRow_value ha rk_alignmentSourceWrite nofun (by omega) (by omega) (by omega), State.effect_alignmentSource]
    simp [Ty.decode, Val.nat, Val.int]
  · rw [exec_hostMarker, execHostMarker, State.writeRow_command ha rk_hostMarker (by omega) (by omega), State.command_hostMarker]
    simp [Ty.decode, Val.nat, Val.int]
  · exact ⟨(u.encoderEnable_starts n).1, (u.encoderEnable_starts n).2, u.loopState_disabled n⟩
  · exact ⟨u.alignmentSource_on (by decide), u.alignmentSource_on (by decide), (u.alignmentSource_off (by decide)).1,
      (u.alignmentSource_off (by decide)).2⟩
end

section
/-! PROOFS. The slots that check inputs and step pages, and those that start, stop and feed images (R40, R90, R95, R143, R151,
R162). -/

open Sys2Proof Sys2Proof.Machine

namespace Sys2Proof.Machine

/-! ## Slots and their pages -/

theorem Keeps.pos_eq {s t : State} (h : Keeps Area.position.allBut s t) : t.pos = s.pos := h.same_of_allBut

theorem Keeps.slot_eq {s t : State} (h : Keeps Area.position.allBut s t) (k : Nat) : t.slot k = s.slot k := by
  unfold State.slot
  rw [h.pos_eq]

theorem State.slotPage_fired (s : State) (k : Nat) (x : Slot) : (s.fired k).slotPage x = s.slotPage x := rfl

theorem State.slotPage_sampleInput (s : State) (input : Nat) (level : Bool) (x : Slot) :
    (s.sampleInput input level).slotPage x = s.slotPage x := rfl

/-- The page that a slot acts on runs. -/
theorem State.running_of_slotPage {s : State} {x : Slot} {i : Nat} (h : s.slotPage x = some i) : (s.page i).running = true := by
  unfold State.slotPage at h
  split at h
  · next hx =>
    obtain ⟨-, -, hr⟩ := hx
    obtain rfl : x.page - 1 = i := Option.some.inj h
    exact hr
  · cases h

/-- A page in flight takes a cause where it has none, and nothing else of it changes (R161). -/
theorem State.page_spoilPage_of_running {s : State} {i : Nat} (hr : (s.page i).running = true) (cause who : Nat) :
    (s.spoilPage i cause who).page i = { s.page i with spoil := if (s.page i).spoil = 0 then cause else (s.page i).spoil } := by
  by_cases h0 : (s.page i).spoil = 0
  · rw [State.page_spoilPage_same hr h0, if_pos h0]
  · rw [State.spoilPage, if_neg (by simp [h0]), if_neg h0]

/-- A state later than a page's own is taken (R151). -/
theorem State.advancePage_of_earlier {s : State} {i new : Nat} (h : (s.page i).state < new) :
    s.advancePage i new = s.setPageState i new := if_pos h

theorem State.slot_advancePage (s : State) (i new k : Nat) : (s.advancePage i new).slot k = s.slot k :=
  (State.advancePage_keeps (by decide) (Keeps.refl _ s)).slot_eq k

/-! ## The slots that check -/

section
variable {s : State} {k i : Nat} {level : Bool}

theorem execCheckInput_of_expected (h : s.Fires k 0x41) (hp : s.slotPage (s.slot k) = some i) (hl : bitOf (s.slot k).arg 0 = level) :
    execCheckInput k level s = .next ((s.fired k).sampleInput (s.slot k).target level) := by
  rw [execCheckInput, State.fireSlot_of_fires h]
  simp only [State.slotPage_sampleInput, State.slotPage_fired, hp, if_pos hl]

theorem execCheckInput_of_unlike (h : s.Fires k 0x41) (hp : s.slotPage (s.slot k) = some i) (hl : bitOf (s.slot k).arg 0 ≠ level)
    (hj : bitOf (s.slot k).arg 1 = false) : execCheckInput k level s =
      .next (((s.fired k).sampleInput (s.slot k).target level).spoilPage i 9 (s.slot k).target) := by
  rw [execCheckInput, State.fireSlot_of_fires h]
  simp only [State.slotPage_sampleInput, State.slotPage_fired, hp, if_neg hl, hj, Bool.false_eq_true, if_false]

theorem execCheckInput_of_jam (h : s.Fires k 0x41) (hp : s.slotPage (s.slot k) = some i) (hl : bitOf (s.slot k).arg 0 ≠ level)
    (hj : bitOf (s.slot k).arg 1 = true) : execCheckInput k level s =
      .next (((s.fired k).sampleInput (s.slot k).target level).endPageBadly i 9 (s.slot k).target 3) := by
  rw [execCheckInput, State.fireSlot_of_fires h]
  simp only [State.slotPage_sampleInput, State.slotPage_fired, hp, if_neg hl, if_pos hj]

theorem execDeliveryCheck_of_page (h : s.Fires k 0x42) (hp : s.slotPage (s.slot k) = some i) : execDeliveryCheck k s =
    .next (((s.fired k).setPage i { s.page i with window := some ((s.slot k).target, bitOf (s.slot k).arg 15) }).after (tmWindow i)
      (field (s.slot k).arg 14 0 * 1000000)) := by
  rw [execDeliveryCheck, State.fireSlot_of_fires h]
  simp only [State.slotPage_fired, hp, State.page_fired]

theorem execDeliveryCheck_of_gone (h : s.Fires k 0x42) (hp : s.slotPage (s.slot k) = none) :
    execDeliveryCheck k s = .next (s.fired k) := by
  rw [execDeliveryCheck, State.fireSlot_of_fires h]
  simp only [State.slotPage_fired, hp]

theorem execPageState_of_fused (h : s.Fires k 0x50) (hp : s.slotPage (s.slot k) = some i) (h6 : (s.slot k).target = 6) :
    execPageState k s = .next ((s.fired k).advancePage i 6) := by
  rw [execPageState, State.fireSlot_of_fires h]
  simp only [State.slotPage_fired, hp]
  rw [if_neg (by omega), if_pos h6]

theorem execPageState_of_end (h : s.Fires k 0x50) (hp : s.slotPage (s.slot k) = some i) (h5 : (s.slot k).target ≠ 5)
    (h6 : (s.slot k).target ≠ 6) : execPageState k s = .next ((s.fired k).endPage i) := by
  rw [execPageState, State.fireSlot_of_fires h]
  simp only [State.slotPage_fired, hp, if_neg h5, if_neg h6]

theorem execPageState_of_gone (h : s.Fires k 0x50) (hp : s.slotPage (s.slot k) = none) : execPageState k s = .next (s.fired k) := by
  rw [execPageState, State.fireSlot_of_fires h]
  simp only [State.slotPage_fired, hp]

/-! ## The slots of images -/

theorem execStartImage_of_on (h : s.Fires k 0x10) (hp : s.slotPage (s.slot k) = some i) (hon : s.stationOn (s.slot k).target = true) :
    execStartImage k s = .next (((s.fired k).startImage i (s.slot k).target).advancePage i 4) := by
  have hon' : (s.fired k).stationOn (s.slot k).target = true := hon
  rw [execStartImage, State.fireSlot_of_fires h]
  simp only [State.slotPage_fired, hp, hon', if_true]

theorem execStartImage_of_off (h : s.Fires k 0x10) (hp : s.slotPage (s.slot k) = some i)
    (hoff : s.stationOn (s.slot k).target = false) : execStartImage k s = .next ((s.fired k).advancePage i 4) := by
  have hoff' : (s.fired k).stationOn (s.slot k).target = false := hoff
  rw [execStartImage, State.fireSlot_of_fires h]
  simp only [State.slotPage_fired, hp, hoff', Bool.false_eq_true, if_false]

theorem execStartImage_of_gone (h : s.Fires k 0x10) (hp : s.slotPage (s.slot k) = none) :
    execStartImage k s = .next (s.fired k) := by
  rw [execStartImage, State.fireSlot_of_fires h]
  simp only [State.slotPage_fired, hp]

theorem execStopImage_of_imaging (h : s.Fires k 0x11) (hp : s.slotPage (s.slot k) = some i)
    (hi : (s.station (s.slot k).target).image.page = i + 1) :
    execStopImage k s = .next ((s.fired k).truncate (s.slot k).target 1) := by
  have hi' : ((s.fired k).station (s.slot k).target).image.page = i + 1 := hi
  rw [execStopImage, State.fireSlot_of_fires h]
  simp only [State.slotPage_fired, hp, if_pos hi']

theorem execStopImage_of_other (h : s.Fires k 0x11) (hp : s.slotPage (s.slot k) = some i)
    (hi : (s.station (s.slot k).target).image.page ≠ i + 1) : execStopImage k s = .next (s.fired k) := by
  have hi' : ((s.fired k).station (s.slot k).target).image.page ≠ i + 1 := hi
  rw [execStopImage, State.fireSlot_of_fires h]
  simp only [State.slotPage_fired, hp, if_neg hi']

end

/-- The entries of a decode queue that belong to a page may be taken by the lanes (R157). -/
def releasedFor (i : Nat) (q : List Queued) : List Queued := q.map (fun e => if e.page = i then { e with released := true } else e)

theorem released_of_mem_releasedFor {i : Nat} {q : List Queued} {e : Queued} (h : e ∈ releasedFor i q) (hi : e.page = i) :
    e.released = true := by
  obtain ⟨e0, -, rfl⟩ := List.mem_map.mp h
  by_cases h0 : e0.page = i
  · rw [if_pos h0]
  · rw [if_neg h0] at hi
    exact absurd hi h0

theorem execReleaseBands_of_page {s : State} {k i : Nat} (h : s.Fires k 0x12) (hp : s.slotPage (s.slot k) = some i) :
    execReleaseBands k s = .next (((s.fired k).setQueue (s.slot k).target (releasedFor i (s.queue (s.slot k).target))).feedDecode
      (s.slot k).target) := by
  rw [execReleaseBands, State.fireSlot_of_fires h]
  simp only [State.slotPage_fired, hp]
  rfl

/-! ## Images -/

theorem State.image_closeImage (s : State) (n : Nat) :
    ((s.closeImage n).station n).image = { (s.station n).image with closing := false } := by
  unfold State.closeImage
  extract_lets g
  split
  · rw [(State.dropDecodes_keeps (by decide) (Keeps.refl _ _)).station_eq, State.station_setStation_same]
  · next hc =>
    have hfalse : (s.station n).image.closing = false := by simpa using hc
    rw [← hfalse]

/-- An image that ends is no longer going (R95). -/
theorem State.going_endImage (s : State) (n : Nat) : ((s.endImage n).station n).image.going = false := by
  unfold State.endImage
  extract_lets g image s1
  have h1 : (s1.station n).image.going = false := congrArg (fun x => x.image.going) (State.station_setStation_same s n _)
  split
  · exact h1
  · rw [State.image_closeImage]
    exact h1

/-- A truncated image is no longer going, and one that was not goes on not going (R95). -/
theorem State.going_truncate (s : State) (n why : Nat) : ((s.truncate n why).station n).image.going = false := by
  unfold State.truncate
  extract_lets g i s1
  split
  · exact State.going_endImage ..
  · next hg => simpa using hg

/-- An image that starts is the page's, is going, and begins where A1 stands (R90). -/
theorem State.startImage_starts (s : State) (i n : Nat) :
    ((s.startImage i n).station n).image.page = i + 1 ∧ ((s.startImage i n).station n).image.going = true ∧
      ((s.startImage i n).station n).image.origin = s.axisPos 1 := by
  unfold State.startImage
  extract_lets s0 p bank e g s1 s2
  have h0 : s0.axisPos 1 = s.axisPos 1 := by
    unfold State.axisPos
    rw [(State.closeImage_keeps (by decide)
      (Keeps.ite (Keeps.refl _ s) (State.truncate_keeps (by decide) (Keeps.refl _ s)))).pos_eq]
  have h2 : (s2.station n).image.page = i + 1 ∧ (s2.station n).image.going = true ∧
      (s2.station n).image.origin = s.axisPos 1 := by
    rw [show s2.station n = _ from State.station_setStation_same s0 n _]
    exact ⟨rfl, rfl, h0⟩
  have hspoil : (s2.spoilPage i 7 n).station n = s2.station n :=
    (State.spoilPage_keeps (by decide) (Keeps.refl _ s2)).station_eq n
  split
  · rwa [hspoil]
  · exact h2

end Sys2Proof.Machine

/-- Settles O23: each command is its slot fired and then the action on the page, whose effect the lemmas above say. -/
theorem slotChecks : Obligations.SlotChecks := by
  unfold Obligations.SlotChecks
  intro k i level s
  simp only [exec_checkInput, exec_deliveryCheck, exec_pageState]
  refine ⟨fun h hp hl => execCheckInput_of_expected h hp hl, fun h hp hl hj => ?_, fun h hp hl hj => execCheckInput_of_jam h hp hl hj,
    fun h hp => ?_, fun h hp => execDeliveryCheck_of_gone h hp, fun h hp h6 hs => ?_, fun h hp h5 h6 => execPageState_of_end h hp h5 h6,
    fun h hp => execPageState_of_gone h hp⟩
  · have hpage := State.page_spoilPage_of_running (s := (s.fired k).sampleInput (s.slot k).target level)
      (State.running_of_slotPage hp) 9 (s.slot k).target
    refine ⟨_, execCheckInput_of_unlike h hp hl hj, ?_⟩
    rw [hpage, (State.spoilPage_keeps (by decide) (Keeps.refl _ _)).pos_eq]
    exact ⟨fun h0 => if_pos h0, fun h0 => if_neg h0, rfl, rfl⟩
  · refine ⟨_, execDeliveryCheck_of_page h hp, ?_⟩
    rw [State.after_eq, State.page_arm, State.page_setPage_same, State.armed_arm_same, State.slot_arm, State.slot_setPage,
      State.slot_fired]
    exact ⟨rfl, rfl, rfl, rfl⟩
  · have hs' : ((s.fired k).page i).state < 6 := hs
    refine ⟨_, execPageState_of_fused h hp h6, ?_⟩
    rw [State.slot_advancePage, State.slot_fired, State.advancePage_of_earlier hs', State.page_setPageState]
    exact ⟨rfl, rfl⟩

/-- Settles O24: each command is its slot fired and then the action on the station, its image or its decode queue, whose effect the
lemmas above say. -/
theorem slotImages : Obligations.SlotImages := by
  unfold Obligations.SlotImages
  intro k i s
  simp only [exec_startImage, exec_stopImage, exec_releaseBands]
  refine ⟨fun h hp hon => execStartImage_of_on h hp hon, fun h hp hoff hs => ?_, fun h hp => execStartImage_of_gone h hp,
    fun h hp hon => ?_, fun h hp hi => ?_, fun h hp hi => execStopImage_of_imaging h hp hi,
    fun h hp hi => execStopImage_of_other h hp hi, fun h hp => ?_⟩
  · have hs' : ((s.fired k).page i).state < 4 := hs
    refine ⟨_, execStartImage_of_off h hp hoff, ?_⟩
    rw [State.slot_advancePage, State.slot_fired, State.advancePage_of_earlier hs', State.page_setPageState]
    exact ⟨rfl, rfl⟩
  · obtain ⟨hpage, hgoing, horigin⟩ := (s.fired k).startImage_starts i (s.slot k).target
    refine ⟨_, execStartImage_of_on h hp hon, ?_⟩
    rw [(State.advancePage_keeps (by decide) (Keeps.refl _ _)).station_eq, State.slot_advancePage,
      (State.startImage_keeps (by decide) (Keeps.refl _ (s.fired k))).slot_eq, State.slot_fired]
    exact ⟨hpage, hgoing, horigin, rfl⟩
  · refine ⟨_, execStopImage_of_imaging h hp hi, State.going_truncate .., ?_⟩
    rw [(State.truncate_keeps (by decide) (Keeps.refl _ (s.fired k))).slot_eq, State.slot_fired]
  · refine ⟨_, (s.fired k).setQueue (s.slot k).target (releasedFor i (s.queue (s.slot k).target)), execReleaseBands_of_page h hp, rfl,
      ?_⟩
    rw [State.slot_setQueue, State.slot_fired, State.queue_setQueue_same]
    exact ⟨rfl, fun e he hi => released_of_mem_releasedFor he hi, List.length_map ..⟩
end

section
/-! PROOFS. The slots that drive high voltage and steppers (R40, R143, R328, R329, R331, R361; log entry 202). -/

open Sys2Proof Sys2Proof.Machine

namespace Sys2Proof.Machine

/-! ## What firing leaves of channels and axes -/

theorem State.n_fired (s : State) (k : Nat) {j : Nat} (h : j ≠ K 0x3040 4) : (s.fired k).n j = s.n j :=
  (State.reads_eq (s.val_fired k h)).2.1

theorem State.hvState_fired (s : State) (k h : Nat) : (s.fired k).hvState h = s.hvState h :=
  s.n_fired k (by simp only [hk, K]; omega)

theorem State.axisState_fired (s : State) (k n : Nat) : (s.fired k).axisState n = s.axisState n :=
  have hne : K 0x3040 4 ≠ axk n 0 2 := ne_axk (by decide)
  s.n_fired k hne.symm

/-! ## HV channels -/

theorem State.hostSwitchStands_of_unwritten {s : State} {h : Nat} (hw : (s.hv h).hostAt ≠ some s.stamp) :
    s.hostSwitchStands h = s := if_neg hw

theorem State.hvOn_of_refusing {s : State} {h : Nat} (h1 : s.hvState h ≠ 1) (h2 : s.hvState h ≠ 2) (code tag cause : Nat)
    (ramp : Option Nat) : s.hvOn h code tag cause ramp = s.hvEvent h 1 0 tag := if_pos ⟨h1, h2⟩

/-- Starting and stopping a slot leaves the channels as they are (R350). -/
theorem State.hv_setSlotState (s : State) (slot new cause g : Nat) : (s.setSlotState slot new cause).hv g = s.hv g := by
  unfold State.setSlotState
  extract_lets old
  split <;> rfl

theorem State.hv_stopSlot (s : State) (slot cause g : Nat) : (s.stopSlot slot cause).hv g = s.hv g :=
  s.hv_setSlotState slot 0 cause g

theorem State.hv_startSlot (s : State) (slot : Nat) (u0 sp : Real32) (cause g : Nat) :
    (s.startSlot slot u0 sp cause).hv g = s.hv g :=
  s.hv_setSlotState slot 2 cause g

/-- A channel that changes state keeps what its code came from, and when the host wrote it. -/
theorem State.hv_hvTo (s : State) (h new cause : Nat) : ∃ above since,
    (s.hvTo h new cause).hv h = { s.hv h with above := above, openSince := since } := by
  unfold State.hvTo
  extract_lets old s1 x s2
  have h2 : s2.hv h = { s.hv h with above := 0, openSince := none } := State.hv_setHv_same ..
  clear_value s2
  split
  · exact ⟨_, _, rfl⟩
  · split
    · exact ⟨_, _, rfl⟩
    · split
      · exact ⟨_, _, (State.hv_stopSlot ..).trans h2⟩
      · exact ⟨_, _, h2⟩

/-- A channel that leaves ON has its PWM at 0 (R360). -/
theorem State.duty_hvTo {s : State} {h new : Nat} (h2 : s.hvState h = 2) (hn : new ≠ 2) (cause : Nat) :
    (s.hvTo h new cause).n (hk h 7) = 0 := by
  unfold State.hvTo
  extract_lets old s1 x s2
  have hduty : s2.n (hk h 7) = 0 := State.n_put_same s1 _ 0
  rw [if_neg (by omega), if_neg (not_not.mpr h2)]
  split
  · next i hi =>
    have hlt : i < 64 := State.slotOf_lt hi
    exact (State.n_stopSlot _ _ _ (owner_ne_lk hlt (by omega) (by decide) (by decide))
      (owner_ne_lk hlt (by omega) (by decide) (by decide))).trans hduty
  · exact hduty

/-- A channel is ON with a code and a tag, and remembers when the host wrote it last. -/
def State.HvOnWith (s : State) (h code tag : Nat) (hostAt : Option Nat) : Prop :=
  s.hvState h = 2 ∧ (s.hv h).code = code ∧ (s.hv h).tag = tag ∧ (s.hv h).hostAt = hostAt

section
variable {s : State} {h code tag : Nat} {hostAt : Option Nat} (hs : s.HvOnWith h code tag hostAt)
include hs

theorem State.HvOnWith.setLoopSlot (i : Nat) (x : LoopSlot) : (s.setLoopSlot i x).HvOnWith h code tag hostAt := hs
theorem State.HvOnWith.disarm (u : Nat) : (s.disarm u).HvOnWith h code tag hostAt := hs
theorem State.HvOnWith.after (u d : Nat) : (s.after u d).HvOnWith h code tag hostAt := hs

end

/-- A channel that is ready is ON with the code and the tag given, and remembers the host's writes as before (R361). -/
theorem State.hvOnWith_hvOn {s : State} {h : Nat} (hr : s.hvState h = 1 ∨ s.hvState h = 2) (code tag cause : Nat) (ramp : Option Nat) :
    (s.hvOn h code tag cause ramp).HvOnWith h code tag (s.hv h).hostAt := by
  have hready : ¬ (s.hvState h ≠ 1 ∧ s.hvState h ≠ 2) := fun hn => hr.elim hn.1 hn.2
  unfold State.hvOn
  rw [if_neg hready]
  extract_lets t s1 band aim x s2
  have ht : t.hvState h = 2 := s.hvState_hvTo h 2 cause
  have hhost : (t.hv h).hostAt = (s.hv h).hostAt := by
    obtain ⟨above, since, heq⟩ := s.hv_hvTo h 2 cause
    rw [show t.hv h = _ from heq]
  have h1 : s1.hvState h = 2 ∧ (s1.hv h).hostAt = (s.hv h).hostAt := by
    unfold s1
    split
    · next h2 => exact ⟨h2, rfl⟩
    · split
      · next i hi =>
        refine ⟨(State.n_startSlot (State.slotOf_lt hi) (by omega) (by decide) t _ _ _).trans ht, ?_⟩
        rw [State.hv_startSlot, hhost]
      · exact ⟨ht, hhost⟩
  obtain ⟨hstate, hhv⟩ := (s1.setHv h { x with code := code, band := band, tag := tag }).hvAim_rest h aim h
  have h2 : s2.HvOnWith h code tag (s.hv h).hostAt := by
    unfold State.HvOnWith
    rw [show s2.hv h = _ from hhv, State.hv_setHv_same]
    exact ⟨hstate.trans h1.1, rfl, rfl, h1.2⟩
  clear_value s2
  split
  · exact h2
  · split
    · exact (h2.setLoopSlot _ _).disarm _
    · exact (h2.setLoopSlot _ _).after _ _

section
variable {s : State} {k : Nat}

theorem execHvOn_of_fires (h : s.Fires k 0x20) : execHvOn k s = .next (((s.fired k).hvOn (s.slot k).target ((s.slot k).arg % 4096)
    (s.slot k).tag 2 none).hostSwitchStands (s.slot k).target) := by
  rw [execHvOn, State.fireSlot_of_fires h]

theorem execHvRamp_of_fires (h : s.Fires k 0x21) : execHvRamp k s = .next (((s.fired k).hvOn (s.slot k).target
    ((s.slot k).arg % 4096) (s.slot k).tag 2 (some (2 ^ ((s.slot k).arg / 4096)))).hostSwitchStands (s.slot k).target) := by
  rw [execHvRamp, State.fireSlot_of_fires h]

theorem execHvOff_of_on (h : s.Fires k 0x22) (h2 : s.hvState (s.slot k).target = 2) :
    execHvOff k s = .next (((s.fired k).hvTo (s.slot k).target 1 2).hostSwitchStands (s.slot k).target) := by
  rw [execHvOff, State.fireSlot_of_fires h, State.hvOff, if_pos (by rwa [State.hvState_fired])]

theorem execHvOff_of_standby (h : s.Fires k 0x22) (h1 : s.hvState (s.slot k).target = 1) :
    execHvOff k s = .next ((s.fired k).hostSwitchStands (s.slot k).target) := by
  rw [execHvOff, State.fireSlot_of_fires h, State.hvOff, if_neg (by rw [State.hvState_fired]; omega),
    if_pos (by rwa [State.hvState_fired])]

/-- What a slot leaves of a channel that takes it, where the host has not written in this grid step (R361). -/
theorem State.hvOn_stands (hr : s.hvState (s.slot k).target = 1 ∨ s.hvState (s.slot k).target = 2)
    (hw : (s.hv (s.slot k).target).hostAt ≠ some s.stamp) (code tag cause : Nat) (ramp : Option Nat) :
    let t := ((s.fired k).hvOn (s.slot k).target code tag cause ramp).hostSwitchStands (s.slot k).target
    t.slot k = {} ∧ t.hvState (s.slot k).target = 2 ∧ (t.hv (s.slot k).target).code = code ∧ (t.hv (s.slot k).target).tag = tag := by
  have hr' : (s.fired k).hvState (s.slot k).target = 1 ∨ (s.fired k).hvState (s.slot k).target = 2 := by
    rwa [State.hvState_fired]
  obtain ⟨hstate, hcode, htag, hhost⟩ := State.hvOnWith_hvOn hr' code tag cause ramp
  have hkeeps : ∀ m, 32790 ||| m = m → Keeps m (s.fired k) ((s.fired k).hvOn (s.slot k).target code tag cause ramp) :=
    fun m hm => State.hvOn_keeps hm (Keeps.refl _ _)
  have hstamp : ((s.fired k).hvOn (s.slot k).target code tag cause ramp).stamp = s.stamp :=
    (hkeeps Area.clock.allBut (by decide)).same_of_allBut
  have hslot := (hkeeps Area.position.allBut (by decide)).slot_eq k
  intro t
  have ht : t = (s.fired k).hvOn (s.slot k).target code tag cause ramp :=
    State.hostSwitchStands_of_unwritten (by rw [hhost, hstamp]; exact hw)
  rw [ht]
  exact ⟨hslot.trans (s.slot_fired k), hstate, hcode, htag⟩

end

/-! ## Steppers -/

/-- A move that nothing refuses has an entry (R328). -/
theorem State.moveOf_of_unrefused {s : State} {n e : Nat} {target : Int} (h : s.moveRefusal n e target = none) :
    ∃ m, s.moveOf n e target = some m := by
  unfold State.moveRefusal at h
  extract_lets st at h
  split at h
  · cases h
  · split at h
    · cases h
    · next m hm => exact ⟨m, hm⟩

theorem State.hostStands_of_unwritten {s : State} {n : Nat} (hw : (s.stepper n).hostAt ≠ some s.stamp) : s.hostStands n = s :=
  if_pos hw

/-- A move that runs carries the tag given, and the axis remembers the host's writes as before. -/
theorem State.runMove_tagged (s : State) (n e tag : Nat) (m : Move) : ((s.runMove n e tag m).stepper n).tag = tag ∧
    ((s.runMove n e tag m).stepper n).hostAt = (s.stepper n).hostAt := by
  unfold State.runMove
  extract_lets now goal rev replaces x s1 s2
  obtain ⟨d, b, t, hx⟩ := s1.stepper_axisTo n 3 2
  rw [State.stepper_runPlan, show s2.stepper n = _ from hx, State.stepper_setStepper_same]
  exact ⟨rfl, rfl⟩

theorem State.notStarted_steppers (s : State) (n e code tag : Nat) : (s.notStarted n e code tag).steppers = s.steppers := by
  rw [State.notStarted, State.fault_eq, State.detect_steppers]
  rfl

section
variable {s : State} {k : Nat} (h : s.Fires k 0x30)
include h

theorem execStepMove_of_off (hoff : s.axisOn (s.slot k).target = false) : execStepMove k s = .next (s.fired k) := by
  have hoff' : (s.fired k).axisOn (s.slot k).target = false := hoff
  rw [execStepMove, State.fireSlot_of_fires h]
  simp only [hoff', Bool.false_eq_true, if_false]

variable (hon : s.axisOn (s.slot k).target = true)
include hon

theorem execStepMove_of_refused {c : Nat} (hm : (s.fired k).moveRefusal (s.slot k).target ((s.slot k).arg % 64) 0 = some c) :
    execStepMove k s = .next ((s.fired k).notStarted (s.slot k).target ((s.slot k).arg % 64) c (s.slot k).tag) := by
  have hon' : (s.fired k).axisOn (s.slot k).target = true := hon
  rw [execStepMove, State.fireSlot_of_fires h]
  simp only [hon', if_true, hm]

theorem execStepMove_of_unrefused (hm : (s.fired k).moveRefusal (s.slot k).target ((s.slot k).arg % 64) 0 = none) :
    execStepMove k s = .next (((s.fired k).startMove (s.slot k).target ((s.slot k).arg % 64) (s.slot k).tag true 0).hostStands
      (s.slot k).target) := by
  have hon' : (s.fired k).axisOn (s.slot k).target = true := hon
  rw [execStepMove, State.fireSlot_of_fires h]
  simp only [hon', if_true, hm]

variable (hm : (s.fired k).moveRefusal (s.slot k).target ((s.slot k).arg % 64) 0 = none)
  (hw : (s.stepper (s.slot k).target).hostAt ≠ some s.stamp)
include hm hw

/-- An axis that is energised runs the move (R329). -/
theorem execStepMove_of_energised (h2 : s.axisState (s.slot k).target ≠ 2) : ∃ m, execStepMove k s =
    .next ((s.fired k).runMove (s.slot k).target ((s.slot k).arg % 64) (s.slot k).tag m) := by
  obtain ⟨m, hmove⟩ := State.moveOf_of_unrefused hm
  obtain ⟨-, hhost⟩ := (s.fired k).runMove_tagged (s.slot k).target ((s.slot k).arg % 64) (s.slot k).tag m
  have hstamp : ((s.fired k).runMove (s.slot k).target ((s.slot k).arg % 64) (s.slot k).tag m).stamp = s.stamp :=
    (State.runMove_keeps (m := Area.clock.allBut) (by decide) (Keeps.refl _ (s.fired k))).same_of_allBut
  refine ⟨m, ?_⟩
  rw [execStepMove_of_unrefused h hon hm, State.startMove_of_energised (by rwa [State.axisState_fired]) hmove,
    State.hostStands_of_unwritten (by rw [hhost, hstamp]; exact hw)]

/-- An axis that is POWERED DOWN is energised first (R324). -/
theorem execStepMove_of_powered_down (h2 : s.axisState (s.slot k).target = 2) : execStepMove k s =
    .next ((s.fired k).energise (s.slot k).target 2 ((s.slot k).arg % 64) (s.slot k).tag 0) := by
  have hstamp : ((s.fired k).energise (s.slot k).target 2 ((s.slot k).arg % 64) (s.slot k).tag 0).stamp = s.stamp :=
    (State.energise_keeps (m := Area.clock.allBut) (by decide) (Keeps.refl _ (s.fired k))).same_of_allBut
  rw [execStepMove_of_unrefused h hon hm, State.startMove_of_powered_down (by rwa [State.axisState_fired]), if_pos rfl,
    State.hostStands_of_unwritten (by rw [State.stepper_energise, hstamp]; exact hw)]

end

/-! ## Drives -/

/-- An entry of a channel's profile table (R306). -/
def State.profileEntry (s : State) (c e : Nat) : Bytes := slice (16 * e) 16 (s.bytes (dk c 3 1))

/-- A profile that starts gives `Speed command` the entry's speed, and the channel the entry's limits (R306). -/
theorem State.startProfile_sets {s : State} {c e : Nat} (h0 : s.n (dk c 0 2) = 0) (hlen : leAt 4 4 (s.profileEntry c e) ≠ 0)
    (hw : (s.drive c).written ≠ some s.stamp) (fired : Bool) : ∃ v : State, s.startProfile c e fired = v.driveCheck c 2 ∧
      v.i (dk c 0 3) = signed 32 (leAt 0 4 (s.profileEntry c e)) ∧ (v.drive c).limits.isSome = true := by
  have hgoes : ¬ (s.n (dk c 0 2) ≠ 0 ∨ leAt 4 4 (s.profileEntry c e) = 0) := fun h => h.elim (fun hn => hn h0) hlen
  unfold State.startProfile
  extract_lets b s1
  have h1 : s1 = s.seti (dk c 0 3) (signed 32 (leAt 0 4 (s.profileEntry c e))) := if_neg (by simp [hw])
  refine ⟨_, if_neg hgoes, ?_, ?_⟩
  · rw [State.i_setDrive, h1, State.seti_eq, State.i_put_same]
  · rw [State.drive_setDrive_same]
    rfl

section
variable {s : State} {k : Nat} (h : s.Fires k 0x31)
include h

theorem execDriveProfile_of_on (hon : s.driveOn (s.slot k).target = true) :
    execDriveProfile k s = .next ((s.fired k).startProfile (s.slot k).target (s.slot k).arg true) := by
  have hon' : (s.fired k).driveOn (s.slot k).target = true := hon
  rw [execDriveProfile, State.fireSlot_of_fires h]
  simp only [hon', if_true]

theorem execDriveProfile_of_off (hoff : s.driveOn (s.slot k).target = false) : execDriveProfile k s = .next (s.fired k) := by
  have hoff' : (s.fired k).driveOn (s.slot k).target = false := hoff
  rw [execDriveProfile, State.fireSlot_of_fires h]
  simp only [hoff', Bool.false_eq_true, if_false]

end

end Sys2Proof.Machine

/-- Settles O25: each command is its slot fired and then the action on the channel or the axis, whose effect the lemmas above say. That
a host's write of the same grid step acts again after the slot's is log entry 202, the model's reading. -/
theorem slotMotion : Obligations.SlotMotion := by
  unfold Obligations.SlotMotion
  intro k s
  simp only [exec_hvOn, exec_hvRamp, exec_hvOff, exec_stepMove, exec_driveProfile]
  refine ⟨execHvOn_of_fires, execHvRamp_of_fires, fun h h1 h2 hw => ?_, execHvOff_of_on, execHvOff_of_standby, fun h hr hw => ?_,
    fun h hr hw => ?_, fun h h2 hw => ?_, execStepMove_of_unrefused, fun h hon hm h2 hw => ?_, fun h hon hm h2 hw => ?_,
    fun c h hon hm => ?_, execStepMove_of_off, execDriveProfile_of_on, fun u c e fired hz hlen hw => State.startProfile_sets hz hlen hw fired,
    execDriveProfile_of_off⟩
  · rw [execHvOn_of_fires h, State.hvOn_of_refusing (by rwa [State.hvState_fired]) (by rwa [State.hvState_fired]),
      State.hostSwitchStands_of_unwritten (s := (s.fired k).hvEvent (s.slot k).target 1 0 (s.slot k).tag) hw]
  · exact ⟨_, execHvOn_of_fires h, State.hvOn_stands hr hw ..⟩
  · exact ⟨_, execHvRamp_of_fires h, State.hvOn_stands hr hw ..⟩
  · have hkeeps : ∀ m, 32790 ||| m = m → Keeps m (s.fired k) ((s.fired k).hvTo (s.slot k).target 1 2) :=
      fun m hm => State.hvTo_keeps hm (Keeps.refl _ _)
    have hstamp : ((s.fired k).hvTo (s.slot k).target 1 2).stamp = s.stamp :=
      (hkeeps Area.clock.allBut (by decide)).same_of_allBut
    obtain ⟨above, since, hhv⟩ := (s.fired k).hv_hvTo (s.slot k).target 1 2
    refine ⟨_, execHvOff_of_on h h2, ?_⟩
    rw [State.hostSwitchStands_of_unwritten (by rw [hhv, hstamp]; exact hw),
      (hkeeps Area.position.allBut (by decide)).slot_eq, State.slot_fired]
    exact ⟨rfl, State.hvState_hvTo .., State.duty_hvTo (by rwa [State.hvState_fired]) (by decide) 2⟩
  · obtain ⟨m, hexec⟩ := execStepMove_of_energised h hon hm hw h2
    obtain ⟨hstate, -, hpurpose, hentry, hbegun, -⟩ := (s.fired k).runMove_runs (s.slot k).target ((s.slot k).arg % 64) (s.slot k).tag m
    obtain ⟨htag, -⟩ := (s.fired k).runMove_tagged (s.slot k).target ((s.slot k).arg % 64) (s.slot k).tag m
    refine ⟨_, hexec, ?_, hstate, hentry, htag, hpurpose, hbegun⟩
    rw [(State.runMove_keeps (by decide) (Keeps.refl _ (s.fired k))).slot_eq, State.slot_fired]
  · refine ⟨_, execStepMove_of_powered_down h hon hm hw h2, ?_⟩
    rw [(State.energise_keeps (by decide) (Keeps.refl _ (s.fired k))).slot_eq, State.slot_fired, State.stepper_energise]
    exact ⟨rfl, rfl, rfl⟩
  · obtain ⟨-, -, hsent⟩ := (s.fired k).notStarted_rest (s.slot k).target ((s.slot k).arg % 64) c (s.slot k).tag
    exact ⟨_, execStepMove_of_refused h hon hm, hsent, State.notStarted_steppers ..⟩
end

section
/-! PROOFS. The edges and the lost signals of an encoder, and the axes it feeds (R25 to R27, R29, R31, R59; log entry 168). -/

open Sys2Proof Sys2Proof.Machine

namespace Sys2Proof.Machine

/-! ## The objects that moving axes write -/

/-- An object that is neither `Axis velocity` nor `Wrap count` of an axis (R31). -/
def NoMotion (k : Nat) : Prop := ∀ a, k ≠ K (0x300F + a) 4 ∧ k ≠ K (0x300F + a) 6

theorem noMotion_of_sub {index sub : Nat} (hs : sub < 256) (h4 : sub ≠ 4) (h6 : sub ≠ 6) : NoMotion (K index sub) :=
  fun _ => ⟨fun e => h4 ((K_inj hs (by decide)).mp e).2, fun e => h6 ((K_inj hs (by decide)).mp e).2⟩

theorem encoder_ne {n a b : Nat} (h : a ≠ b) : K (0x3000 + n) a ≠ K (0x3000 + n) b := fun e => h (Nat.add_left_cancel e)

theorem encoder_ne_injection (n a : Nat) : K (0x3000 + n) a ≠ K 0x2220 5 := by
  simp only [K]
  omega

/-! ## Axes -/

/-- The value of an axis in 1/65,536 subline (R31). -/
def State.axisValue (s : State) (a : Nat) : Nat := Tab.get (fun _ => 0) s.pos.axes a

theorem State.enc_of_pos {s t : State} (h : t.pos = s.pos) (n : Nat) : t.enc n = s.enc n := by
  unfold State.enc
  rw [h]

theorem State.axisValue_of_pos {s t : State} (h : t.pos = s.pos) (a : Nat) : t.axisValue a = s.axisValue a := by
  unfold State.axisValue
  rw [h]

/-- From r to s axes have moved: the encoders, and the objects that no motion writes, are as they were. -/
def State.Moved (r s : State) : Prop := s.pos.enc = r.pos.enc ∧ ∀ k, NoMotion k → s.n k = r.n k

theorem State.Moved.refl (s : State) : s.Moved s := ⟨rfl, fun _ _ => rfl⟩

theorem State.Moved.enc_eq {r s : State} (h : r.Moved s) (n : Nat) : s.enc n = r.enc n := by
  unfold State.enc
  rw [h.1]

theorem State.Moved.axisSource_eq {r s : State} (h : r.Moved s) (a : Nat) : s.axisSource a = r.axisSource a :=
  h.2 (K (0x300F + a) 1) (noMotion_of_sub (by decide) (by decide) (by decide))

theorem State.Moved.moveAxis {r s : State} (h : r.Moved s) (a : Nat) (d : Int) : r.Moved (s.moveAxis a d) := by
  unfold State.moveAxis
  extract_lets x s0 pos s1
  split
  · exact h
  · exact ⟨h.1, fun k hk => (State.n_put_ne s1 _ (hk a).2).trans (h.2 k hk)⟩

theorem State.axes_moveAxis (s : State) (a : Nat) (d : Int) : (s.moveAxis a d).pos.axes =
    Tab.put (fun _ => 0) s.pos.axes a (unsigned 64 ((s.axisValue a : Nat) + d)) := by
  unfold State.moveAxis
  extract_lets x s0 pos s1
  split <;> rfl

theorem State.axisValue_moveAxis_same (s : State) (a : Nat) (d : Int) :
    (s.moveAxis a d).axisValue a = unsigned 64 ((s.axisValue a : Nat) + d) := by
  rw [State.axisValue, State.axes_moveAxis, Tab.get_put_same]

theorem State.axisValue_moveAxis_ne (s : State) {a b : Nat} (hb : b ≠ a) (d : Int) : (s.moveAxis a d).axisValue b = s.axisValue b := by
  rw [State.axisValue, State.axes_moveAxis, Tab.get_put_ne _ _ _ hb, State.axisValue]

/-! ## The axes that a source feeds -/

/-- An axis moves if the source feeds it (R29). -/
def State.feedAxis (source : Nat) (d : Int) (s : State) (a : Nat) : State := if s.axisSource a = source then s.moveAxis a d else s

theorem State.feed_eq (s : State) (source : Nat) (d : Int) : s.feed source d = s.each (upFrom 1 8) (State.feedAxis source d) := rfl

theorem State.Moved.feedAxis {r s : State} (h : r.Moved s) (source : Nat) (d : Int) (a : Nat) :
    r.Moved (s.feedAxis source d a) := by
  unfold State.feedAxis
  split
  · exact h.moveAxis a d
  · exact h

theorem State.moved_feed (s : State) (source : Nat) (d : Int) : s.Moved (s.feed source d) := by
  rw [State.feed_eq]
  exact State.each_preserves (P := s.Moved) (fun t a ht => ht.feedAxis source d a) _ (State.Moved.refl s)

theorem State.axisSource_feedAxis (source : Nat) (d : Int) (s : State) (a b : Nat) :
    (s.feedAxis source d a).axisSource b = s.axisSource b :=
  ((State.Moved.refl s).feedAxis source d a).axisSource_eq b

/-- The axis itself takes the distance where the source feeds it, and the others stay. -/
theorem State.axisValue_feedAxis (source : Nat) (d : Int) (s : State) (a b : Nat) : (s.feedAxis source d a).axisValue b =
    if b = a ∧ s.axisSource b = source then unsigned 64 ((s.axisValue b : Nat) + d) else s.axisValue b := by
  unfold State.feedAxis
  by_cases hb : b = a
  · subst hb
    by_cases hs : s.axisSource b = source
    · rw [if_pos hs, if_pos ⟨rfl, hs⟩, State.axisValue_moveAxis_same]
    · rw [if_neg hs, if_neg (fun h => hs h.2)]
  · rw [if_neg (fun h : b = a ∧ s.axisSource b = source => hb h.1)]
    split
    · exact s.axisValue_moveAxis_ne hb d
    · rfl

/-- Of the axes listed those that the source feeds take the distance, each once, and no other axis moves (R29). -/
theorem State.axisValue_each_feedAxis (source : Nat) (d : Int) (b : Nat) (l : List Nat) (hl : l.Nodup) (s : State) :
    (s.each l (State.feedAxis source d)).axisValue b =
      if b ∈ l ∧ s.axisSource b = source then unsigned 64 ((s.axisValue b : Nat) + d) else s.axisValue b := by
  induction l generalizing s with
  | nil => simp [State.each]
  | cons a l ih =>
    obtain ⟨ha, hl'⟩ := List.nodup_cons.mp hl
    have hstep : s.each (a :: l) (State.feedAxis source d) = (s.feedAxis source d a).each l (State.feedAxis source d) := rfl
    rw [hstep, ih hl', State.axisSource_feedAxis, State.axisValue_feedAxis]
    by_cases hb : b = a
    · subst hb
      simp [ha]
    · simp [hb]

theorem State.axisValue_feed (s : State) (source : Nat) (d : Int) {a : Nat} (h1 : 1 ≤ a) (h8 : a ≤ 8) : (s.feed source d).axisValue a =
    if s.axisSource a = source then unsigned 64 ((s.axisValue a : Nat) + d) else s.axisValue a := by
  have hmem : a ∈ upFrom 1 8 := mem_upFrom.mpr ⟨h1, by omega⟩
  rw [State.feed_eq, State.axisValue_each_feedAxis source d a _ (by decide)]
  simp only [hmem, true_and]

/-! ## The tracking loop -/

theorem State.pos_setVelocity (s : State) (n : Nat) (speed : Int) : (s.setVelocity n speed).pos = s.pos :=
  (State.setVelocity_keeps (by decide) (Keeps.refl _ s)).pos_eq

theorem State.enc_setVelocity (s : State) (n : Nat) (speed : Int) (j : Nat) : (s.setVelocity n speed).enc j = s.enc j :=
  State.enc_of_pos (s.pos_setVelocity n speed) j

/-- The interpolated part of a position is given up (R27). -/
theorem State.enc_dropAhead (s : State) (n : Nat) : (s.dropAhead n).enc n = { s.enc n with ahead := 0 } :=
  ((State.moved_feed (s.setEnc n _) n _).enc_eq n).trans (State.enc_setEnc_same ..)

theorem State.n_dropAhead (s : State) (n : Nat) {k : Nat} (hk : NoMotion k) : (s.dropAhead n).n k = s.n k :=
  (State.moved_feed (s.setEnc n _) n _).2 k hk

theorem State.n_loopFault (s : State) (n : Nat) {k : Nat} (hk : NoMotion k) (h7 : k ≠ K (0x3000 + n) 7) :
    (s.loopFault n).n k = s.n k := by
  unfold State.loopFault
  extract_lets s1
  rw [State.n_setVelocity _ _ _ fun a => (hk a).1, State.n_setEnc, s1.n_dropAhead n hk]
  exact s.n_setLoop n 4 h7

/-- A loop that fails is in FAULT, and has no speed (R27). -/
theorem State.loopFault_fails (s : State) (n : Nat) : (s.loopFault n).loopState n = 4 ∧ ((s.loopFault n).enc n).speed = 0 := by
  unfold State.loopFault
  extract_lets s1
  constructor
  · rw [State.loopState_setVelocity, State.loopState, State.n_setEnc,
      s1.n_dropAhead n (noMotion_of_sub (by decide) (by decide) (by decide))]
    exact s.loopState_setLoop n 4
  · rw [State.enc_setVelocity, State.enc_setEnc_same]

/-! ## Edges -/

/-- Decoding an edge moves the axes by the scale, less what was interpolated, and gives the interpolation up (R26, R27). -/
theorem State.pos_countEdge (s : State) (n : Nat) (up : Bool) : ∃ x : Encoder, x.ahead = 0 ∧ (s.countEdge n up).pos =
    ((s.setEnc n x).draw.feed n ((if up then (s.n (K (0x3000 + n) 2) : Int) else -(s.n (K (0x3000 + n) 2) : Int)) -
      (s.enc n).ahead)).pos := by
  unfold State.countEdge
  extract_lets scale e m speed s1 s2 s3
  refine ⟨{ e with ahead := 0, speed := speed }, rfl, ?_⟩
  have h3 : s3.pos = s2.pos := by
    clear_value s2
    rfl
  rw [State.after_eq, State.arm_pos, State.pos_setVelocity, h3]

theorem State.ahead_countEdge (s : State) (n : Nat) (up : Bool) : ((s.countEdge n up).enc n).ahead = 0 := by
  obtain ⟨x, hx, hpos⟩ := s.pos_countEdge n up
  rw [State.enc_of_pos hpos, (State.moved_feed _ n _).enc_eq, State.enc_draw, State.enc_setEnc_same, hx]

theorem State.axisValue_countEdge (s : State) (n : Nat) (up : Bool) {a : Nat} (h1 : 1 ≤ a) (h8 : a ≤ 8) :
    (s.countEdge n up).axisValue a = if s.axisSource a = n then unsigned 64 ((s.axisValue a : Nat) +
      ((if up then (s.n (K (0x3000 + n) 2) : Int) else -(s.n (K (0x3000 + n) 2) : Int)) - (s.enc n).ahead)) else s.axisValue a := by
  obtain ⟨x, -, hpos⟩ := s.pos_countEdge n up
  rw [State.axisValue_of_pos hpos, State.axisValue_feed _ n _ h1 h8]
  rfl

/-- An edge that counts up moves the axes the encoder feeds by the scale, less what was interpolated (R26). -/
theorem State.axisValue_countEdge_up (s : State) (n : Nat) {a : Nat} (h1 : 1 ≤ a) (h8 : a ≤ 8) (hs : s.axisSource a = n) :
    (s.countEdge n true).axisValue a =
      unsigned 64 ((s.axisValue a : Nat) + ((s.n (K (0x3000 + n) 2) : Int) - (s.enc n).ahead)) := by
  rw [s.axisValue_countEdge n true h1 h8, if_pos hs, if_pos rfl]

/-- An edge is counted, modulo 2^32, by its direction (R28). -/
theorem State.count_countEdge (s : State) (n : Nat) (up : Bool) : (s.countEdge n up).n (K (0x3000 + n) 8) =
    if up then (s.n (K (0x3000 + n) 8) + 1) % 2 ^ 32 else (s.n (K (0x3000 + n) 8) + 2 ^ 32 - 1) % 2 ^ 32 := by
  unfold State.countEdge
  extract_lets scale e m speed s1 s2 s3
  have h3 : s3.n (K (0x3000 + n) 8) = _ := State.n_put_same s2 _ _
  rw [State.after_eq, State.n_arm,
    State.n_setVelocity _ _ _ fun a => (noMotion_of_sub (by decide) (by decide) (by decide) a).1, h3, Int.toNat_natCast]

theorem State.n_countEdge (s : State) (n : Nat) (up : Bool) {k : Nat} (hk : NoMotion k) (h8 : k ≠ K (0x3000 + n) 8) :
    (s.countEdge n up).n k = s.n k := by
  unfold State.countEdge
  extract_lets scale e m speed s1 s2 s3
  have h3 : s3.n k = s2.n k := State.n_put_ne s2 _ h8
  rw [State.after_eq, State.n_arm, State.n_setVelocity _ _ _ fun a => (hk a).1, h3]
  exact (s1.moved_feed n _).2 k hk

/-- What an edge does to the state of the loop leaves every object but the state and those of a motion (R27). -/
theorem State.n_loopEdge (s : State) (n : Nat) (err : PhaseError) {k : Nat} (hk : NoMotion k) (h7 : k ≠ K (0x3000 + n) 7)
    (h5 : k ≠ K 0x2220 5) : (s.loopEdge n err).n k = s.n k := by
  unfold State.loopEdge
  split
  · extract_lets good e s1
    split
    · exact s1.n_setLoop n 2 h7
    · rfl
  · split
    · exact (State.n_loopFault _ n hk h7).trans (State.n_detect _ _ h5)
    · rfl
  · exact State.n_setLoop _ n 1 h7
  · rfl

theorem State.loopEdge_of_locked {s : State} {n : Nat} {err : PhaseError} (h2 : s.loopState n = 2) (he : err ≠ .large) :
    s.loopEdge n err = s := by
  unfold State.loopEdge
  simp only [h2, if_neg he]

/-! ## The commands -/

section
variable {s : State} {n : Nat}

theorem State.encoderRuns_of_enabled (h1 : 1 ≤ n) (h8 : n ≤ 8) (hon : s.on 16 = true) (he : s.flag (K (0x3000 + n) 1) = true) :
    s.encoderRuns n = true := by
  simp [State.encoderRuns, h1, h8, hon, he]

variable (hr : s.encoderRuns n = true) (err : PhaseError)
include hr

/-- A forward edge counts up at `Direction` 0 (R25). -/
theorem execEncoderEdge_forward (h3 : s.n (K (0x3000 + n) 3) = 0) :
    execEncoderEdge n .forward err s = .next ((s.countEdge n true).loopEdge n err) := by
  simp [execEncoderEdge, hr, h3]

theorem execEncoderEdge_backward (h3 : s.n (K (0x3000 + n) 3) = 0) :
    execEncoderEdge n .backward err s = .next ((s.countEdge n false).loopEdge n err) := by
  simp [execEncoderEdge, hr, h3]

theorem execEncoderEdge_illegal_of_locked (h2 : s.loopState n = 2) : execEncoderEdge n .illegal err s =
    .next (((s.fault (encSource n) 8 n).setEnc n { s.enc n with good := 0 }).loopFault n) := by
  rw [execEncoderEdge, if_pos hr]
  exact congrArg _ (if_pos h2)

theorem execEncoderEdge_illegal_of_unlocked (h2 : s.loopState n ≠ 2) : execEncoderEdge n .illegal err s =
    .next ((s.fault (encSource n) 8 n).setEnc n { s.enc n with good := 0 }) := by
  rw [execEncoderEdge, if_pos hr]
  exact congrArg _ (if_neg h2)

omit hr in
theorem execEncoderEdge_of_disabled (he : s.flag (K (0x3000 + n) 1) = false) (edge : Edge) :
    execEncoderEdge n edge err s = .next s :=
  if_neg (by simp [State.encoderRuns, he])

/-- The standstill time takes the loop to STANDSTILL, with no speed and nothing interpolated (R27). -/
theorem execEncoderStandstillTimeout_of_due (hl : s.loopState n = 1 ∨ s.loopState n = 2) (hd : s.due (tmStandstill n) = true) :
    ∃ t, execEncoderStandstillTimeout n s = .next t ∧ t.loopState n = 3 ∧ (t.enc n).speed = 0 ∧ (t.enc n).ahead = 0 := by
  have hcond : (s.encoderRuns n && s.due (tmStandstill n) && (s.loopState n == 1 || s.loopState n == 2)) = true := by
    rcases hl with h | h <;> simp [hr, hd, h]
  refine ⟨_, if_pos hcond, ?_, ?_, ?_⟩
  · rw [State.loopState_setVelocity, State.loopState, State.n_setEnc, State.n_disarm,
      State.n_dropAhead _ n (noMotion_of_sub (by decide) (by decide) (by decide))]
    exact s.loopState_setLoop n 3
  · rw [State.enc_setVelocity, State.enc_setEnc_same]
  · rw [State.enc_setVelocity, State.enc_setEnc_same, State.enc_disarm, State.enc_dropAhead]

end

theorem execEncoderSignalInvalid_of_on {s : State} {n : Nat} (h1 : 1 ≤ n) (h8 : n ≤ 8) (hon : s.on 16 = true) :
    execEncoderSignalInvalid n s = .next ((s.fault (encSource n) 7 n).loopFault n) :=
  if_pos (by simp [h1, h8, hon])

end Sys2Proof.Machine

/-- Settles O17: a legal edge is counted and then shown to the loop, an illegal one is a fault, and the lemmas above say what both
leave. That an illegal edge in ACQUIRING starts the run of 256 edges again is the model's choice (log entry 168). -/
theorem encoderEvents : Obligations.EncoderEvents := by
  unfold Obligations.EncoderEvents
  intro n err s h1 h8 hon
  simp only [exec_encoderEdge, exec_encoderStandstillTimeout, exec_encoderSignalInvalid]
  have hruns := State.encoderRuns_of_enabled h1 h8 hon
  have hcount : ∀ up, ((s.countEdge n up).loopEdge n err).n (K (0x3000 + n) 8) = _ := fun up =>
    (State.n_loopEdge _ n err (noMotion_of_sub (by decide) (by decide) (by decide)) (encoder_ne (by decide))
      (encoder_ne_injection n 8)).trans (s.count_countEdge n up)
  have haxis : ∀ (u : State) (a : Nat), Tab.get (fun _ => 0) u.pos.axes a = u.axisValue a := fun u a => rfl
  simp only [haxis]
  refine ⟨fun he h3 => ?_, fun he h3 => ?_, fun he h2 h3 hne => ?_, fun he h2 => execEncoderEdge_illegal_of_unlocked (hruns he) err h2,
    fun he h2 => ?_, fun he hl hd => execEncoderStandstillTimeout_of_due (hruns he) hl hd,
    fun edge he => execEncoderEdge_of_disabled err he edge, ?_⟩
  · exact ⟨_, execEncoderEdge_forward (hruns he) err h3, (hcount true).trans (if_pos rfl)⟩
  · exact ⟨_, execEncoderEdge_backward (hruns he) err h3, (hcount false).trans (if_neg Bool.false_ne_true)⟩
  · have hstate : (s.countEdge n true).loopState n = 2 :=
      (s.n_countEdge n true (noMotion_of_sub (by decide) (by decide) (by decide)) (encoder_ne (by decide))).trans h2
    refine ⟨s.countEdge n true, ?_, hstate, s.ahead_countEdge n true, fun a ha1 ha8 hs => ?_, fun a ha1 ha8 hs => ?_⟩
    · rw [execEncoderEdge_forward (hruns he) err h3, State.loopEdge_of_locked hstate hne]
    · exact s.axisValue_countEdge_up n ha1 ha8 hs
    · exact (s.axisValue_countEdge n true ha1 ha8).trans (if_neg hs)
  · exact ⟨_, execEncoderEdge_illegal_of_locked (hruns he) err h2, (State.loopFault_fails _ n).1⟩
  · exact ⟨_, execEncoderSignalInvalid_of_on h1 h8 hon, State.loopFault_fails _ n⟩
end

section
/-! PROOFS. Captures and output overcurrents, and the mains time base (R32, R33, R35 to R37, R40, R45, R46, R59; log entry 150). -/

open Sys2Proof Sys2Proof.Machine

namespace Sys2Proof.Machine

/-! ## Captures -/

/-- The position and the time of an edge stand in the objects of its channel (R33). -/
def State.latched (s : State) (ch ns : Nat) : State :=
  (s.setn (K 0x3030 (0x11 + ch)) (s.edgePosition ch ns)).setn (K 0x3030 (0x21 + ch)) (s.edgeTime ch ns)

section
variable {s : State} {ch : Nat}

theorem State.val_latched (ns : Nat) {k : Nat} (hp : k ≠ K 0x3030 (0x11 + ch)) (ht : k ≠ K 0x3030 (0x21 + ch)) :
    (s.latched ch ns).val k = s.val k :=
  (State.val_put_ne _ _ ht).trans (s.val_put_ne _ hp)

theorem State.n_latched_position (ns : Nat) : (s.latched ch ns).n (K 0x3030 (0x11 + ch)) = s.edgePosition ch ns := by
  have hne : K 0x3030 (0x11 + ch) ≠ K 0x3030 (0x21 + ch) := by
    simp only [K]
    omega
  exact (State.n_put_ne _ _ hne).trans (s.n_put_same _ _)

theorem State.n_latched_time (ns : Nat) : (s.latched ch ns).n (K 0x3030 (0x21 + ch)) = s.edgeTime ch ns := State.n_put_same ..

/-- What a channel latches is none of what a record shows. -/
theorem State.record_latched (hc : ch < 16) (ns type source payload : Nat) (firmware : Bool) :
    (s.latched ch ns).record type source payload firmware = s.record type source payload firmware := by
  have hne : ∀ k ∈ [K 0x3001 7, K 0x2300 1, K 0x2400 3, K 0x3020 1], k ≠ K 0x3030 (0x11 + ch) ∧ k ≠ K 0x3030 (0x21 + ch) := by
    intro k hk
    simp only [List.mem_cons, List.not_mem_nil, or_false] at hk
    rcases hk with rfl | rfl | rfl | rfl <;> simp only [K] <;> omega
  refine State.record_of_same (s := s) (t := s.latched ch ns) rfl rfl rfl (fun k hk => ?_) ..
  obtain ⟨hp, ht⟩ := hne k hk
  exact (State.reads_eq (State.val_latched ns hp ht)).2.1

variable (hc : ch < 16) (hon : s.on 16 = true) (hw : bitOf (s.captureWord ch) 31 = true) {rising : Bool}
  (he : bitOf (s.captureWord ch) (if rising then 29 else 30) = true)
include hc hon hw he

/-- An edge that the channel takes is latched and recorded (R33, R40). -/
theorem execCapture_of_enabled (ns : Nat) : ∃ t, execCapture ch rising ns s = .next t ∧
    t.ev = ((s.latched ch ns).eventHw 40 (ch + s.edgePosition ch ns * 65536)).ev ∧ ∀ k, t.val k = (s.latched ch ns).val k := by
  have hcond : (decide (ch < 16) && s.on 16 && bitOf (s.captureWord ch) 31 &&
      bitOf (s.captureWord ch) (if rising then 29 else 30)) = true := by
    rw [decide_eq_true hc, hon, hw, he]
    rfl
  unfold execCapture
  extract_lets w time position s1 s2 slots
  exact ⟨_, if_pos hcond, rfl, fun _ => rfl⟩

end

theorem execCapture_of_refused {s : State} {ch : Nat} {rising : Bool} (h : 16 ≤ ch ∨ s.on 16 = false ∨
    bitOf (s.captureWord ch) 31 = false ∨ bitOf (s.captureWord ch) (if rising then 29 else 30) = false) (ns : Nat) :
    execCapture ch rising ns s = .next s := by
  unfold execCapture
  extract_lets w
  refine if_neg fun hall => ?_
  simp only [Bool.and_eq_true, decide_eq_true_eq] at hall
  obtain ⟨⟨⟨hc, hon⟩, hw⟩, he⟩ := hall
  rcases h with h | h | h | h
  · omega
  · rw [hon] at h; cases h
  · rw [hw] at h; cases h
  · rw [he] at h; cases h

/-! ## Outputs -/

theorem execOutputOvercurrent_of_driven {s : State} {mask : Nat} (h : mask &&& s.outputPins ≠ 0) : execOutputOvercurrent mask s =
    .next (((s.setn (K 0x3050 5) (s.n (K 0x3050 5) ||| (mask &&& s.outputPins))).eventHw 44 (mask &&& s.outputPins)).fault 0x74 0x9
      (mask &&& s.outputPins)) := if_neg h

/-! ## The mains -/

theorem State.refreshZones_of_off {s : State} (h : s.on 15 = false) (crossing : Bool) : s.refreshZones crossing = s :=
  if_neg (by simp [h])

theorem State.n_setMains (s : State) (new : Nat) : (s.setMains new).n (K 0x3020 1) = new := by
  unfold State.setMains
  extract_lets old
  split
  · next h => exact h
  · rw [State.n_eventHw, State.setn_eq, State.n_put_same, Int.toNat_natCast]

theorem State.setMains_leaves (s : State) (new : Nat) : (s.setMains new).pos = s.pos ∧ (s.setMains new).lid = s.lid :=
  ⟨(State.setMains_keeps (by decide) (Keeps.refl _ s)).pos_eq,
    (State.setMains_keeps (m := Area.lid.allBut) (by decide) (Keeps.refl _ s)).same_of_allBut⟩

/-- The mains time base takes other values beside its objects. -/
def State.withMains (s : State) (m : Mains) : State := { s with pos := { s.pos with mains := m } }

theorem State.val_withMains (s : State) (m : Mains) (k : Nat) : (s.withMains m).val k = s.val k := rfl

theorem State.alignPhase_eq (s : State) (phase : Nat) :
    ∃ acc cycle, s.alignPhase phase = s.withMains { s.pos.mains with acc := acc, cycle := cycle } := ⟨_, _, rfl⟩

/-- In LOCKED a positive crossing is remembered, its period measured, and the phase aligned to it (R35, R36). -/
theorem State.positiveCrossing_of_locked {s : State} {t0 : Nat} (hl : s.pos.mains.last = some t0) (h1 : s.n (K 0x3020 1) = 1) :
    ∃ m : Mains, m.last = some s.stamp ∧
      s.positiveCrossing = (s.setn (K 0x3020 4) (milliHertz (s.stamp - t0) % 2 ^ 32)).withMains m := by
  unfold State.positiveCrossing
  extract_lets m period seen run pos s1 s2
  have hperiod : period = s.stamp - t0 := by
    unfold period m
    rw [hl]
  have hseen : seen = true := by
    unfold seen m
    rw [hl]
    rfl
  have h2 : s2 = s1.setn (K 0x3020 4) (milliHertz (s.stamp - t0) % 2 ^ 32) := by
    unfold s2
    rw [if_pos hseen, hperiod]
  obtain ⟨acc, cycle, halign⟩ := s2.alignPhase_eq (s.crossingPhase true)
  refine ⟨{ s2.pos.mains with acc := acc, cycle := cycle }, ?_, ?_⟩
  · rw [h2]
    rfl
  · rw [h1]
    refine halign.trans ?_
    rw [h2]
    rfl

section
variable {s : State} (hoff : s.on 15 = false)
include hoff

theorem execMainsZeroCrossing_of_off (positive : Bool) : execMainsZeroCrossing positive s = .next (s.mainsCrossing positive) := by
  have hon : (s.mainsCrossing positive).on 15 = false :=
    (State.on_of_power (State.mainsCrossing_keeps (m := Area.power.allBut) (by decide) (Keeps.refl _ s)).same_of_allBut 15).trans hoff
  rw [execMainsZeroCrossing, State.refreshZones_of_off hon]

theorem execMainsCrossingMissing_of_off : execMainsCrossingMissing s = .next s.crossingMissing := by
  have hon : s.crossingMissing.on 15 = false :=
    (State.on_of_power (State.crossingMissing_keeps (m := Area.power.allBut) (by decide) (Keeps.refl _ s)).same_of_allBut 15).trans hoff
  rw [execMainsCrossingMissing, State.refreshZones_of_off hon]

theorem execMainsHoldoverExpired_of_off : execMainsHoldoverExpired s = .next s.holdoverExpired := by
  have hon : s.holdoverExpired.on 15 = false :=
    (State.on_of_power (State.holdoverExpired_keeps (m := Area.power.allBut) (by decide) (Keeps.refl _ s)).same_of_allBut 15).trans hoff
  rw [execMainsHoldoverExpired, State.refreshZones_of_off hon]

end

theorem State.crossingMissing_of_late {s : State} {t0 : Nat} (hl : s.pos.mains.last = some t0) (h1 : s.n (K 0x3020 1) = 1)
    (ht : 3 * 10 ^ 12 ≤ 2 * (s.stamp - t0) * s.n (K 0x3020 4)) :
    s.crossingMissing = ((s.withMains { s.pos.mains with held := 0, periods := [] }).setMains 2).fault 0x72 0x8 0 := by
  unfold State.crossingMissing
  split
  · next t hlast =>
    obtain rfl : t = t0 := Option.some.inj (hlast.symm.trans hl)
    exact if_pos ⟨h1, ht⟩
  · next hnone =>
    rw [hnone] at hl
    cases hl

theorem State.holdoverExpired_of_end {s : State} (h2 : s.n (K 0x3020 1) = 2) (hh : s.n (K 0x3020 6) ≤ s.pos.mains.held) :
    s.holdoverExpired = (s.withMains { s.pos.mains with periods := [] }).setMains 3 := if_pos ⟨h2, hh⟩

end Sys2Proof.Machine

/-- Settles O18: an edge that the channel takes is latched and recorded, and outputs that carry too much are latched, recorded and
reported. That the time of an edge before the filter's own length is 0 is the model's choice (log entry 150). -/
theorem positionInputs : Obligations.PositionInputs := by
  unfold Obligations.PositionInputs
  intro ch ns mask rising s
  simp only [exec_capture, exec_outputOvercurrent]
  refine ⟨fun hc hon hw he => ?_, fun h => execCapture_of_refused h ns, fun h => ?_, fun h => if_pos h⟩
  · obtain ⟨t, hexec, hev, hval⟩ := execCapture_of_enabled hc hon hw he ns
    have hn : ∀ k, t.n k = (s.latched ch ns).n k := fun k => (State.reads_eq (hval k)).2.1
    refine ⟨t, hexec, ?_, ?_, ?_, fun k hp ht => (hval k).trans (State.val_latched ns hp ht)⟩
    · rw [hn, State.n_latched_position]
    · rw [hn, State.n_latched_time, State.edgeTime]
    · rw [hev, State.eventHw_held, State.record_latched hc]
      rfl
  · refine ⟨_, execOutputOvercurrent_of_driven h, ?_, ?_⟩
    · rw [State.fault_eq, State.n_detect _ _ (by decide), State.n_eventHw, State.setn_eq, State.n_put_same, Int.toNat_natCast]
    · rw [State.fault_eq, State.detect_words]
      rfl

/-- Settles O21: with PD15 off the zones see nothing of the mains, and what the time base does is one of the equations above. -/
theorem mainsEvents : Obligations.MainsEvents := by
  unfold Obligations.MainsEvents
  intro positive s
  simp only [exec_mainsZeroCrossing, exec_mainsCrossingMissing, exec_mainsHoldoverExpired]
  refine ⟨rfl, fun t0 hoff hl h1 ht => ?_, fun hoff h2 hh => ?_, fun hoff h2 => ?_, fun t0 hoff hl h1 => ?_⟩
  · obtain ⟨hpos, hlid⟩ := (s.withMains { s.pos.mains with held := 0, periods := [] }).setMains_leaves 2
    refine ⟨_, (execMainsCrossingMissing_of_off hoff).trans (congrArg _ (State.crossingMissing_of_late hl h1 ht)), ?_, ?_, ?_⟩
    · rw [State.fault_eq, State.n_detect _ _ (by decide), State.n_setMains]
    · rw [State.fault_eq, State.detect_pos, hpos]
      rfl
    · rw [State.fault_eq, State.detect_words, hlid]
      rfl
  · obtain ⟨hpos, -⟩ := (s.withMains { s.pos.mains with periods := [] }).setMains_leaves 3
    refine ⟨_, (execMainsHoldoverExpired_of_off hoff).trans (congrArg _ (State.holdoverExpired_of_end h2 hh)), State.n_setMains .., ?_⟩
    rw [hpos]
    rfl
  · exact (execMainsHoldoverExpired_of_off hoff).trans (congrArg _ (if_neg fun h => h2 h.1))
  · obtain ⟨m, hm, hcross⟩ := State.positiveCrossing_of_locked hl h1
    refine ⟨_, (execMainsZeroCrossing_of_off hoff true).trans (congrArg _ hcross), hm, ?_, ?_, fun k hk => ?_⟩
    · exact (State.n_put_ne s _ (by decide)).trans h1
    · exact State.n_put_same s (K 0x3020 4) (milliHertz (s.stamp - t0) % 2 ^ 32 : Nat)
    · exact State.val_put_ne s _ hk
end

section
/-! PROOFS. The synchronisation of the Stamp Clock (R48 to R50). -/

open Sys2Proof Sys2Proof.Machine

namespace Sys2Proof.Machine

/-- A measured error from r to s: it stands in `Alignment error`, the last edge or cycle is remembered as before, and no object changes
but the error, the state and the rate correction (R48, R49). -/
def State.ErrorTaken (r s : State) (err : Int) : Prop :=
  s.i (K 0x2400 5) = clampInt (-(2 ^ 31)) (2 ^ 31 - 1) err ∧ s.ev.syncLast = r.ev.syncLast ∧
    ∀ k, k ≠ K 0x2400 3 → k ≠ K 0x2400 5 → k ≠ K 0x2400 6 → s.val k = r.val k

theorem State.ErrorTaken.clearSync {r s : State} {err : Int} (h : r.ErrorTaken s err) : r.ErrorTaken s.clearSync err := h

theorem State.syncLast_setAlignment (s : State) (new : Nat) : (s.setAlignment new).ev.syncLast = s.ev.syncLast := by
  unfold State.setAlignment
  extract_lets old
  split <;> rfl

theorem State.ErrorTaken.setAlignment {r s : State} {err : Int} (h : r.ErrorTaken s err) (new : Nat) :
    r.ErrorTaken (s.setAlignment new) err := by
  obtain ⟨herr, hlast, hval⟩ := h
  refine ⟨?_, (s.syncLast_setAlignment new).trans hlast, fun k h3 h5 h6 => (s.val_setAlignment new h3).trans (hval k h3 h5 h6)⟩
  rw [(State.reads_eq (s.val_setAlignment new (by decide))).1, herr]

theorem State.ErrorTaken.rate {r s : State} {err : Int} (h : r.ErrorTaken s err) (v : Int) :
    r.ErrorTaken ((s.seti (K 0x2400 6) v).draw) err := by
  obtain ⟨herr, hlast, hval⟩ := h
  exact ⟨(State.i_put_ne s _ (by decide)).trans herr, hlast, fun k h3 h5 h6 => (State.val_put_ne s _ h6).trans (hval k h3 h5 h6)⟩

theorem State.ErrorTaken.syncGood {r s : State} {err : Int} (h : r.ErrorTaken s err) (good : Nat) :
    r.ErrorTaken { s with ev := { s.ev with syncGood := good } } err := h

theorem State.errorTaken_seti (s : State) (err : Int) :
    s.ErrorTaken (s.seti (K 0x2400 5) (clampInt (-(2 ^ 31)) (2 ^ 31 - 1) err)) err :=
  ⟨s.i_put_same _ _, rfl, fun _ _ h5 _ => s.val_put_ne _ h5⟩

theorem State.errorTaken_alignmentError (s : State) (err : Int) : s.ErrorTaken (s.alignmentError err) err := by
  unfold State.alignmentError
  extract_lets s1 s2 good ev s3
  have h1 : s.ErrorTaken s1 err := s.errorTaken_seti err
  clear_value s1
  have h2 : s.ErrorTaken s2 err := h1.rate _
  clear_value s2
  have h3 : s.ErrorTaken s3 err := h2.syncGood good
  clear_value s3 ev good
  split
  · split
    · exact h3.setAlignment 2
    · exact h3
  · split
    · exact (h3.setAlignment 3).clearSync
    · exact h3
  · exact (h3.setAlignment 1).clearSync
  · exact h3

theorem State.syncSeen_shows (s : State) (t : Nat) : (s.syncSeen t).ev.syncLast = some t ∧ ∀ k, (s.syncSeen t).val k = s.val k :=
  ⟨rfl, fun _ => rfl⟩

/-! ## The commands -/

section
variable {s : State} {rising : Bool} (hp : decide (s.n (K 0x2400 9) = 0) = rising) (ns : Nat)
include hp

theorem execStampSyncEdge_of_other_source (h2 : s.n (K 0x2400 2) ≠ 2) :
    execStampSyncEdge rising ns s = .next (s.setn (K 0x2400 8) (s.stamp + ns)) := by
  unfold execStampSyncEdge
  rw [if_pos (beq_iff_eq.mpr hp)]
  exact if_neg h2

variable (h2 : s.n (K 0x2400 2) = 2)
include h2

theorem execStampSyncEdge_of_first (hl : s.ev.syncLast = none) :
    execStampSyncEdge rising ns s = .next ((s.setn (K 0x2400 8) (s.stamp + ns)).syncSeen (s.stamp + ns)) := by
  unfold execStampSyncEdge
  rw [if_pos (beq_iff_eq.mpr hp)]
  extract_lets t s1
  rw [if_pos h2, hl]

/-- A later edge is remembered in place of the last one, and its error is measured against the period (R49, R50). -/
theorem execStampSyncEdge_of_later {last : Nat} (hl : s.ev.syncLast = some last) : ∃ u : State,
    u.ev.syncLast = some (s.stamp + ns) ∧ (∀ k, u.val k = (s.setn (K 0x2400 8) (s.stamp + ns)).val k) ∧
      execStampSyncEdge rising ns s =
        .next (u.alignmentError (((s.stamp + ns - last : Nat) : Int) - s.n (K 0x2400 7))) := by
  unfold execStampSyncEdge
  rw [if_pos (beq_iff_eq.mpr hp)]
  extract_lets t s1 period s2
  rw [if_pos h2, hl]
  refine ⟨_, ?_, ?_, rfl⟩
  · split <;> exact (s1.syncSeen_shows t).1
  · intro k
    split <;> exact (s1.syncSeen_shows t).2 k

end

theorem execStampSyncEdge_of_other_polarity {s : State} {rising : Bool} (hp : decide (s.n (K 0x2400 9) = 0) ≠ rising) (ns : Nat) :
    execStampSyncEdge rising ns s = .next s := by
  unfold execStampSyncEdge
  rw [if_neg (by rwa [beq_iff_eq])]

/-- The error of a DC SYNC0 time, in ns (R48). -/
def State.dcError (s : State) (time : Nat) : Int := signed 64 (time + 2 ^ 65 - s.stamp - s.n (K 0x2400 4))

/-- A DC SYNC0 time far from the clock's moves the offset (R48). -/
theorem execDcSyncCycle_of_far {s : State} {time : Nat} (h1 : s.n (K 0x2400 2) = 1) (hon : s.on 8 = true)
    (herr : 50 < (s.dcError time).natAbs) : execDcSyncCycle time s =
      .next (((s.syncSeen s.stamp).alignmentError (s.dcError time)).setn (K 0x2400 4) (unsigned 64 ((time : Int) - s.stamp))) := by
  unfold execDcSyncCycle
  rw [if_pos ⟨h1, hon⟩]
  exact congrArg _ (if_pos herr)

theorem execDcSyncCycle_of_other {s : State} (h : s.n (K 0x2400 2) ≠ 1 ∨ s.on 8 = false) (time : Nat) :
    execDcSyncCycle time s = .next s := by
  refine if_neg fun hboth => ?_
  rcases h with h | h
  · exact h hboth.1
  · rw [hboth.2] at h
    cases h

theorem execAlignmentSyncLost_of_aligned {s : State} (h2 : s.n (K 0x2400 3) = 2) (hd : s.due tmSync = true) :
    execAlignmentSyncLost s = .next (s.setAlignment 3).clearSync := if_pos ⟨h2, hd⟩

end Sys2Proof.Machine

/-- Settles O19: each input is the equation above that its conditions choose, and a measured error leaves what `ErrorTaken` says. -/
theorem alignmentEvents : Obligations.AlignmentEvents := by
  unfold Obligations.AlignmentEvents
  intro rising ns time s
  simp only [exec_stampSyncEdge, exec_dcSyncCycle, exec_alignmentSyncLost]
  refine ⟨fun hp h2 => execStampSyncEdge_of_other_source hp ns h2, fun hp h2 hl => ?_,
    fun hp => execStampSyncEdge_of_other_polarity hp ns, fun h1 hon herr => ?_, fun h => execDcSyncCycle_of_other h time,
    fun h2 hd => ?_, fun last hp h2 hl => ?_⟩
  · obtain ⟨hlast, hval⟩ := (s.setn (K 0x2400 8) (s.stamp + ns)).syncSeen_shows (s.stamp + ns)
    refine ⟨_, execStampSyncEdge_of_first hp ns h2 hl, ?_, hlast, fun k hk => (hval k).trans (State.val_put_ne s _ hk)⟩
    rw [(State.reads_eq (hval _)).2.1, State.setn_eq, State.n_put_same, Int.toNat_natCast]
  · refine ⟨_, execDcSyncCycle_of_far h1 hon herr, ?_⟩
    rw [State.setn_eq, State.n_put_same, Int.toNat_natCast]
  · refine ⟨_, execAlignmentSyncLost_of_aligned h2 hd, ?_, rfl, fun k hk => s.val_setAlignment 3 hk⟩
    exact s.n_setAlignment_same 3
  · obtain ⟨u, hlast, hval, hexec⟩ := execStampSyncEdge_of_later hp ns h2 hl
    obtain ⟨herr, hkept, hrest⟩ := u.errorTaken_alignmentError (((s.stamp + ns - last : Nat) : Int) - s.n (K 0x2400 7))
    refine ⟨_, hexec, ?_, hkept.trans hlast, herr⟩
    rw [(State.reads_eq ((hrest _ (by decide) (by decide) (by decide)).trans (hval _))).2.1, State.setn_eq, State.n_put_same,
      Int.toNat_natCast]
end

section
/-! PROOFS. The entry of a record into the trace, and the draining of the trace to a ring (R51 to R56; log entry 165). -/

open Sys2Proof Sys2Proof.Machine

namespace Sys2Proof.Machine

/-! ## The grid step of the newest entries

Nothing but TRACE_ENTRY itself writes it. -/

theorem State.step_traceLevel (s : State) : s.traceLevel.ev.step = s.ev.step := by
  unfold State.traceLevel
  split
  · rfl
  · split <;> rfl

theorem State.step_enterTrace (s : State) (r : Rec) : (s.enterTrace r).ev.step = s.ev.step := by
  unfold State.enterTrace
  split <;> rfl

/-- Room made for a record by discarding the oldest, where the trace is full (R55). -/
theorem State.step_discarding (s : State) : (if s.traceFull then s.discardOldest else s).ev.step = s.ev.step := by
  split <;> rfl

theorem State.step_arrive (s : State) (r : Rec) : (s.arrive r).ev.step = s.ev.step := by
  unfold State.arrive
  extract_lets s1 s2
  split
  · calc (s2.enterTrace r).traceLevel.ev.step = s2.ev.step := (State.step_traceLevel _).trans (s2.step_enterTrace r)
      _ = s1.ev.step := s1.step_discarding
      _ = s.ev.step := s.step_discarding
  · split
    · rfl
    · exact (State.step_traceLevel _).trans (s.step_enterTrace r)

/-! ## Draining takes records out of the trace, and nothing else out of the recorder -/

theorem length_markDrained (ring k : Nat) (l : List Placed) : (markDrained ring k l).length = l.length := by
  induction l generalizing k with
  | nil => cases k <;> rfl
  | cons p l ih =>
    cases k with
    | zero => rfl
    | succ k =>
      unfold markDrained
      split <;> rw [List.length_cons, List.length_cons, ih]

theorem length_freeDrained_le (l : List Placed) : (freeDrained l).length ≤ l.length := List.length_dropWhile_le _ l

/-- From r to s the recorder's trace became no longer, and the rest of the recorder is as it was. -/
def State.Drained (r s : State) : Prop := ∃ l, l.length ≤ r.ev.trace.length ∧ s.ev = { r.ev with trace := l }

theorem State.Drained.refl (s : State) : s.Drained s := ⟨_, le_rfl, rfl⟩

theorem State.Drained.trans {r s t : State} (h1 : r.Drained s) (h2 : s.Drained t) : r.Drained t := by
  obtain ⟨l, hl, hs⟩ := h1
  obtain ⟨m, hm, ht⟩ := h2
  rw [hs] at hm ht
  exact ⟨m, hm.trans hl, ht⟩

theorem State.drained_drainEntry (s : State) (ring k : Nat) : s.Drained (s.drainEntry ring k) := by
  unfold State.drainEntry
  extract_lets ps words ev s1
  refine ⟨freeDrained (markDrained ring k s.ev.trace), (length_freeDrained_le _).trans (length_markDrained ..).le, ?_⟩
  exact (State.writeEntry_keeps (m := Area.recorder.allBut) (by decide) (Keeps.refl _ s1)).same_of_allBut

theorem State.drained_drainPairs (k : Nat) (s : State) (ring : Nat) : s.Drained (State.drainPairs k s ring) := by
  induction k generalizing s with
  | zero => exact State.Drained.refl s
  | succ k ih =>
    unfold State.drainPairs
    split
    · exact (s.drained_drainEntry ring 2).trans (ih _)
    · exact State.Drained.refl s

theorem State.ev_drainTimer (s : State) (ring : Nat) : (s.drainTimer ring).ev = s.ev := by
  unfold State.drainTimer
  split <;> rfl

/-- What `drainRing` looks at the trace's level after. -/
theorem State.drainRing_eq (s : State) (ring : Nat) : ∃ t, s.Drained t ∧ s.drainRing ring = t.traceLevel := by
  obtain ⟨l, hl, ht⟩ := State.drained_drainPairs s.ev.trace.length s ring
  exact ⟨_, ⟨l, hl, (State.ev_drainTimer ..).trans ht⟩, rfl⟩

theorem State.step_drainRing (s : State) (ring : Nat) : (s.drainRing ring).ev.step = s.ev.step := by
  obtain ⟨t, ⟨l, -, ht⟩, heq⟩ := s.drainRing_eq ring
  rw [heq, State.step_traceLevel, ht]

theorem State.n_drainRing (s : State) (ring k : Nat) : (s.drainRing ring).n k = s.n k :=
  (State.drainRing_keeps (m := Area.objects.allBut) (by decide) (Keeps.refl _ s)).n_eq k

/-! ## A trace below half full

EV030 is not written then, so the records held stay as they are. -/

/-- The records held are these, and the trace is below half full. -/
def State.Holding (rest : List Rec) (s : State) : Prop := s.ev.held = rest ∧ s.ev.trace.length < 16384

theorem State.traceLevel_of_short {s : State} (h : s.ev.trace.length < 16384) :
    s.traceLevel = { s with ev := { s.ev with warned := false } } := if_pos h

theorem State.Holding.traceLevel {rest : List Rec} {s : State} (h : s.Holding rest) : s.traceLevel.Holding rest := by
  rw [State.traceLevel_of_short h.2]
  exact h

theorem State.Holding.damageNewest {rest : List Rec} {s : State} (h : s.Holding rest) : s.damageNewest.Holding rest := by
  obtain ⟨hheld, hlen⟩ := h
  refine ⟨hheld, lt_of_le_of_lt ?_ hlen⟩
  show (s.ev.trace.dropLast ++ (s.ev.trace.getLast?.toList.map _)).length ≤ s.ev.trace.length
  rcases List.eq_nil_or_concat s.ev.trace with hnil | ⟨l, p, hl⟩
  · simp [hnil]
  · simp [hl]

theorem State.Holding.drainRing {rest : List Rec} {s : State} (h : s.Holding rest) (ring : Nat) :
    (s.drainRing ring).Holding rest := by
  obtain ⟨t, ⟨l, hl, ht⟩, heq⟩ := s.drainRing_eq ring
  obtain ⟨hheld, hlen⟩ := h
  rw [heq]
  refine State.Holding.traceLevel ⟨?_, ?_⟩
  · rw [ht, hheld]
  · rw [ht]
    exact lt_of_le_of_lt hl hlen

theorem State.holding_enterTrace {s : State} (h : s.ev.trace.length < 16000) (r : Rec) :
    (s.enterTrace r).Holding s.ev.held := by
  unfold State.enterTrace
  extract_lets m ev s1
  split
  · exact ⟨rfl, by simp only [State.place, List.length_append, List.length_singleton]; omega⟩
  · exact ⟨rfl, by simp only [s1, ev, State.place, List.length_append, List.length_singleton]; omega⟩

theorem State.not_traceFull {s : State} (h : s.ev.trace.length < 16000) : s.traceFull = false := by
  unfold State.traceFull State.placesNeeded tracePlaces
  rw [decide_eq_false_iff_not]
  split <;> omega

/-- Where the trace has room, a record that arrives just enters, under either policy. -/
theorem State.arrive_of_room {s : State} (h : s.ev.trace.length < 16000) (r : Rec) :
    s.arrive r = (s.enterTrace r).traceLevel := by
  have hfull := Bool.eq_false_iff.mp (State.not_traceFull h)
  unfold State.arrive
  extract_lets s1 s2
  have h1 : s1 = s := if_neg hfull
  have h2 : s2 = s := by
    unfold s2
    rw [h1]
    exact if_neg hfull
  rw [h2, if_neg hfull, ite_self]

/-! ## The commands -/

/-- The state in which the held record enters: it has left the hold, and is counted in its grid step (R53). -/
def State.entering (s : State) (rest : List Rec) : State :=
  { s with ev := { s.ev with held := rest, step := s.stamp, entered := (if s.ev.step = s.stamp then s.ev.entered else 0) + 1 } }

/-- The record has arrived, and an uncorrectable error has hit it or not (R52; log entry 165). -/
def State.entered (s : State) (r : Rec) : State :=
  if (s.arrive r).ev.sequence ≠ s.ev.sequence ∧ Config.recordDamaged (s.arrive r).ev.sequence s.stamp = true then
    (s.arrive r).damageNewest
  else s.arrive r

/-- The Stamp time of the record that reached the trace last (R52). -/
def State.withNewest (s : State) (stamp : Nat) : State := { s with ev := { s.ev with newest := some stamp } }

theorem State.n_withNewest (s : State) (stamp k : Nat) : (s.withNewest stamp).n k = s.n k := rfl

theorem State.Holding.withNewest {rest : List Rec} {s : State} (h : s.Holding rest) (stamp : Nat) :
    (s.withNewest stamp).Holding rest := h

theorem State.n_entering (s : State) (rest : List Rec) (k : Nat) : (s.entering rest).n k = s.n k := rfl

theorem State.step_entered (s : State) (r : Rec) : (s.entered r).ev.step = s.ev.step := by
  unfold State.entered
  split
  · exact s.step_arrive r
  · exact s.step_arrive r

theorem State.holding_entered {s : State} (h : s.ev.trace.length < 16000) (r : Rec) : (s.entered r).Holding s.ev.held := by
  have ha : (s.arrive r).Holding s.ev.held := by
    rw [State.arrive_of_room h]
    exact (State.holding_enterTrace h r).traceLevel
  unfold State.entered
  split
  · exact ha.damageNewest
  · exact ha

/-- With no loss marker due, a record that arrives takes one sequence number, and no object changes. -/
theorem State.arrive_shows {s : State} (h : s.ev.trace.length < 16000) (hlost : s.ev.lost = 0) (r : Rec) :
    (s.arrive r).ev.sequence = (s.ev.sequence + 1) % 65536 ∧ ∀ k, (s.arrive r).n k = s.n k := by
  rw [State.arrive_of_room h, State.traceLevel_of_short (State.holding_enterTrace h r).2]
  unfold State.enterTrace
  rw [if_pos hlost]
  exact ⟨rfl, fun _ => rfl⟩

/-- `Records damaged` counts the record that an error hits (R52). -/
theorem State.damaged_entered {s : State} (h : s.ev.trace.length < 16000) (hlost : s.ev.lost = 0) (r : Rec) :
    (s.entered r).n (K 0x2401 5) =
      if Config.recordDamaged ((s.ev.sequence + 1) % 2 ^ 16) s.stamp = true then (s.n (K 0x2401 5) + 1) % 2 ^ 32
      else s.n (K 0x2401 5) := by
  obtain ⟨hseq, hn⟩ := State.arrive_shows h hlost r
  have hne : (s.ev.sequence + 1) % 65536 ≠ s.ev.sequence := by omega
  unfold State.entered
  rw [hseq, show (2 : Nat) ^ 16 = 65536 from rfl]
  simp only [hne, ne_eq, not_false_eq_true, true_and]
  split
  · unfold State.damageNewest State.bump
    rw [State.setn_eq, State.n_put_same, Int.toNat_natCast, ← hn]
    rfl
  · exact hn _

section
variable {r : Rec} {rest : List Rec} {s : State} (hr : nextHeld s.ev.held = some (r, rest))
include hr

/-- The entry of the next record, with the draining of its ring after it (R53, R56). -/
theorem execTraceEntry_of_ripe (ht : r.stamp + 64 ≤ s.stamp) (hfew : s.ev.step = s.stamp → s.ev.entered < 4) :
    execTraceEntry s = .next ((((s.entering rest).entered r).withNewest r.stamp).drainRing r.ring) := by
  have hcount : (if s.ev.step = s.stamp then s.ev.entered else 0) < 4 := by
    split
    · exact hfew ‹_›
    · decide
  unfold execTraceEntry
  rw [hr]
  exact if_pos ⟨ht, hcount⟩

theorem execTraceEntry_of_young (ht : s.stamp < r.stamp + 64) : execTraceEntry s = .next s := by
  unfold execTraceEntry
  rw [hr]
  exact if_neg fun h => absurd h.1 (by omega)

end

theorem execTraceEntry_of_none {s : State} (hr : nextHeld s.ev.held = none) : execTraceEntry s = .next s := by
  unfold execTraceEntry
  rw [hr]

theorem execDrainHoldoffExpired_of_due {s : State} {ring : Nat} (hd : s.due (tmDrain ring) = true) (hroom : s.ringRoom ring = true)
    (hw : waitingFor ring 1 s.ev.trace ≠ []) :
    execDrainHoldoffExpired ring s = .next (((s.drainEntry ring 1).disarm (tmDrain ring)).drainRing ring) :=
  if_pos (by rw [hd, hroom, List.isEmpty_eq_false_iff.mpr hw]; rfl)

theorem execDrainHoldoffExpired_of_not_due {s : State} {ring : Nat} (hd : s.due (tmDrain ring) = false) :
    execDrainHoldoffExpired ring s = .next s :=
  if_neg (by rw [hd]; exact Bool.false_ne_true)

end Sys2Proof.Machine

/-- Settles O20: the entry of a record is `entering`, `entered` and the draining of its ring, and a trace below half full adds no
record to the hold. Which record an error hits is a free value of the model (log entry 165). -/
theorem recorderDrains : Obligations.RecorderDrains := by
  unfold Obligations.RecorderDrains
  intro ring r rest s
  simp only [exec_traceEntry, exec_drainHoldoffExpired]
  refine ⟨fun hr ht hfew => ⟨_, execTraceEntry_of_ripe hr ht hfew, ?_, fun hlen => ?_⟩, execTraceEntry_of_young, execTraceEntry_of_none,
    execDrainHoldoffExpired_of_due, execDrainHoldoffExpired_of_not_due, fun hr ht hfew hlen hlost =>
      ⟨_, execTraceEntry_of_ripe hr ht hfew, ?_⟩⟩
  · exact (State.step_drainRing ..).trans ((s.entering rest).step_entered r)
  · exact (((State.holding_entered (s := s.entering rest) hlen r).withNewest r.stamp).drainRing r.ring).1
  · rw [State.n_drainRing, State.n_withNewest, State.damaged_entered (s := s.entering rest) hlen hlost r, State.n_entering]
    rfl
end
